-- ==== Sys2Proof/Word.lean ====
section
/-! DEFINITION. The register word and the byte. -/
namespace Sys2Proof

/-- A register is 32 bits wide (R3). -/
abbrev Word := BitVec 32

/-- A byte of memory. -/
abbrev Byte := BitVec 8

end Sys2Proof
end

