-- ==== Sys2Proof/Types.lean ====
section
/-! DEFINITION. Data types shared by the commands' operands and the state: masters, the configuration image, the records of
chapters 01 to 05, 09, 10 and 12. -/
namespace Sys2Proof

/-- A bus master (R17; the MASTER codes of `PMU_BUS_FAULT_INFO`). -/
inductive Master where
  | engine (n : Nat)
  | spi
  | i2c
  | uart (u : Nat)
  | debugPort
deriving DecidableEq, Repr

/-- Width of a bus access (R3). -/
inductive AccessWidth where
  | byte | half | word
deriving DecidableEq, Repr

/-- What the loader's probe finds (R33): the first four bytes of the SPI memory and of the I²C memory, `none` where no
memory answers, with the FAST flag of the header that stands there; `xtal32` and `xtalm` say which crystals oscillate steadily
(R55), `dbgEn` how ball `DBG_EN` reads (R246), `vbatOk` whether VBAT lies at or above its threshold (R298), and `alarms` which tamper
sources are active when the power-on reset is released (R46). -/
structure Probe where
  spi : Option Nat
  i2c : Option Nat
  xtal32 : Bool
  xtalm : Bool
  dbgEn : Bool
  vbatOk : Bool
  fast : Bool := false
  alarms : Nat := 0
deriving DecidableEq, Repr

/-- One Cistern two-copy record (R217): slot A and slot B, each with its SEQ, `none` where the slot's CRC does not match. -/
structure TwoCopy (α : Type) where
  a : Option (Nat × α) := none
  b : Option (Nat × α) := none
deriving DecidableEq, Repr

/-- A spread counter (R219): value, target and marker. -/
structure Spread where
  val : Nat := 0
  tgt : Nat := 0
  mark : Bool := false
deriving DecidableEq, Repr

/-- The accumulator image of R122. Each accumulator is held with its fraction, in 2^-32 nWh. -/
structure AccImage where
  kind : Nat
  run : Nat
  frame : Nat
  sample : Nat
  acc : List Nat
  pulse : List (Nat × Nat)
deriving DecidableEq, Repr

/-- The metrology keep record of R206. -/
structure KeepRec where
  floor : Nat
  retired : Nat
  slices : List (Int × Int × Int)
deriving DecidableEq, Repr

/-- The update record of R242: the active slot, the pending slot (2 none), the trial seconds used, the floor, the two slots'
versions and states, whether a trial runs, and the mark of a pending legal copy (R243). -/
structure UpdRec where
  active : Nat
  pend : Nat
  trialUsed : Nat
  inTrial : Bool
  floor : Nat
  verA : Nat
  verB : Nat
  stA : Nat
  stB : Nat
  copyMark : Bool
deriving DecidableEq, Repr

/-- The fault record of R274. -/
structure FaultRec where
  lasting : Nat
  since : List Nat
  total : List Nat
deriving DecidableEq, Repr

/-- A tamper log record (R278). -/
structure TampRec where
  num : Nat := 0
  kind : Nat := 0
  counter : Nat := 0
  reps : Nat := 0
  frame : Nat := 0
  sample : Nat := 0
  frac : Nat := 0
  flags : Nat := 0
  rtc : Nat := 0
  subsec : Nat := 0
  detail : Nat := 0
deriving DecidableEq, Repr

/-- What a tamper source did between the start latch and the evaluation (R46): source, trip or release, |B| of the sensor, and E0's time
of it, in RTC seconds and in ticks of the monotonic clock. -/
structure LateAlarm where
  source : Nat := 0
  trip : Bool := false
  detail : Nat := 0
  rtc : Nat := 0
  mono : Nat := 0
deriving DecidableEq, Repr

/-- A frame increment record of the handoff ring (R14, R124). `endRtc` is the RTC second in which the frame ended and `ok`
whether the record's CRC holds. -/
structure HandoffRec where
  frame : Nat
  flags : Nat
  rate : Nat
  noload : Nat
  samples : Nat
  incs : List Nat
  endRtc : Nat
  ok : Bool
deriving DecidableEq, Repr

/-- E0's record of the last freeze, kept in D0 (R126, R291). -/
structure FreezeRec where
  run : Nat
  frame : Nat
  sample : Nat
  rtc : Nat
deriving DecidableEq, Repr

/-- One section of a Tablar image (R37). `whole` says that its content can be interpreted in full in the builder's layout
(R40, step 7; R396 leaves that layout unbound) and `regs` are the register values that the content carries. -/
structure ImgSection where
  typ : Nat
  sflags : Nat
  offset : Nat
  size : Nat
  crc : Nat
  bytes : List Byte
  whole : Bool
  regs : List (Nat × Word)
deriving DecidableEq, Repr

/-- The measurement tables a METROLOGY section carries beside register values: per band and channel a gain and a phase
correction (R78). -/
structure MetroTables where
  bands : List (List (Int × Int)) := []
deriving DecidableEq, Repr

/-- One pad claim of the PINS section or of `PIN_CLAIM` (R373, R374): the pad (port × 16 + pin), the FUNC code, which
instance of the function (`PULSE_k`, `TIMn_OUT` …), the owner (1 E1, 2 E2, 3 host, 0 fixed by the function) and the PULL,
DIR and OD settings as bits 13:10 of `PIN_PAD_n` hold them. -/
structure PinClaim where
  pad : Nat
  func : Nat
  inst : Nat
  owner : Nat
  settings : Nat
deriving DecidableEq, Repr

/-- The response a host slot holds (R358); `none` payload is the NO_FRAME of R362. -/
structure HostResp where
  status : Nat
  echo : Nat
  rseq : Nat
  payload : List Byte
deriving DecidableEq, Repr

/-- One host interface's slot (R361): free, holding a request whose response is not ready (`r` is the response once it is known), or
holding a response. -/
inductive HostSlot where
  | free
  | busy (cmd rseq : Nat) (r : Option HostResp)
  | ready (r : HostResp)
deriving DecidableEq, Repr

/-- The optical port of R366. -/
inductive Optical where
  | signOn
  | identified
  | silent
  | frame
deriving DecidableEq, Repr

/-- Where the device stands in its power states beyond what `PMU_STATE` shows: D0 has just come up (`por`), the boot ROM
loads (`loading`), the device runs (`running`), a power-fail freeze has been taken and the store runs (`frozen`), OUTAGE
and SHIP (R281, R291, R292). -/
inductive PowerMode where
  | por | loading | running | frozen | outage | ship
deriving DecidableEq, Repr

/-- One end of the daylight-saving rule (R165): month, week (1 to 4, 5 the last), weekday (0 Monday) and hour. -/
structure DstEnd where
  month : Nat
  week : Nat
  weekday : Nat
  hour : Nat
deriving DecidableEq, Repr

/-- A special day (R165): fixed to a year or recurring, its date and its day profile. -/
structure SpecialDay where
  fixed : Bool
  year : Nat
  month : Nat
  day : Nat
  profile : Nat
deriving DecidableEq, Repr

/-- The tables of the TARIFF section (R165): seasons (month, day, week profile), week profiles (a day profile for each weekday),
day profiles (switch points: hour, minute, rate), special days and the daylight-saving rule. -/
structure Tariff where
  seasons : List (Nat × Nat × Nat) := []
  weeks : List (List Nat) := []
  days : List (List (Nat × Nat × Nat)) := []
  special : List SpecialDay := []
  dst : Option (DstEnd × DstEnd) := none
deriving DecidableEq, Repr

/-- A friendly window (R188): the weekdays it starts on, its start and end in minutes. -/
structure Friendly where
  days : Nat
  start : Nat
  stop : Nat
deriving DecidableEq, Repr

/-- The PREPAY section (R185 to R190, R197, R202): mode, prices of the rates, blocks (price in mCU/kWh, upper limit in kWh), the
levels in mCU, the friendly periods, the MPL times and the credit shed. -/
structure Prepay where
  blockMode : Bool := false
  ratePrice : List Nat := []
  blocks : List (Nat × Nat) := []
  low : Int := 0
  ecEn : Bool := false
  ecOffer : Int := 0
  ecLimit : Int := 0
  creditMax : Int := 0
  tokenPrice : Nat := 0
  windows : List Friendly := []
  friendlyDays : Nat := 0
  mplTime : Nat := 10
  mplHold : Nat := 60
  reconMin : Int := 0
  lcLowShed : Bool := false
deriving DecidableEq, Repr

/-- What the DISPLAY section says of the keypad (R187, R189, R197): the accept key, the Enter key, the ten digit keys and the
emergency-credit sequence, as key codes of R351. -/
structure DisplayKeys where
  accept : Option Nat := none
  enter : Option Nat := none
  digits : List Nat := []
  emergency : List Nat := []
deriving DecidableEq, Repr

/-- A key blob (R249), its fields in order; `key` and `tag` are the ciphertext and the GCM tag as numbers, first byte most
significant. -/
structure Blob where
  format : Nat := 1
  parent : Nat := 0
  child : Nat := 0
  gen : Nat := 0
  dest : Nat := 0
  usage : Nat := 0
  ktype : Nat := 0
  origin : Nat := 0
  exported : Nat := 0
  role : Nat := 0
  uid : Nat := 0
  rev : Nat := 0
  nonce : Nat := 0
  key : Nat := 0
  tag : Nat := 0
deriving DecidableEq, Repr

/-- What an object of the OBJECTS section is bound to (R227). `log` numbers the logs: 0 legal, 1 tamper, 2 power quality; `device`
the device objects of R228 in the order of its table. -/
inductive Binding where
  | bill (r : Nat)
  | acc (k : Nat)
  | phe (k : Nat)
  | spe (chan order : Nat)
  | profile (p : Nat)
  | log (l : Nat)
  | device (d : Nat)
deriving DecidableEq, Repr

/-- An entry of the object table (R227): OBIS code, binding, scaler and unit, legal flag, and for R, W and X a mask of the six roles. -/
structure ObjEntry where
  obis : List Nat
  bind : Binding
  scaler : Nat
  unit : Nat
  legal : Bool
  read : Nat
  write : Nat
  exec : Nat
deriving DecidableEq, Repr

/-- What the OBJECTS, KEYBLOBS, PREPAY and UPD settings of an image name: the object table, the children of the roles 1 to 5, of
readings, snapshots, remote credit and the update verifier, the passwords of R222, the optical port's texts and readout list,
and the blobs. -/
structure ObjTables where
  objects : List ObjEntry := []
  roleKeys : List (Option (Nat × Nat)) := []
  readKey : Option (Nat × Nat) := none
  signKey : Option (Nat × Nat) := none
  remoteKey : Option (Nat × Nat) := none
  verifyKey : Option (Nat × Nat) := none
  passwords : List (Nat × Nat) := []
  optAddress : List Byte := []
  flagId : List Byte := []
  readout : List (List Nat) := []
  blobs : List Blob := []
deriving DecidableEq, Repr

/-- A plan of the FABRIC section (R338): the band bits of `LMD_CFG`, `LMD_TONE_MASK`, `LMD_TX_CFG` and the transmit key pair. -/
structure FabPlan where
  bands : Nat := 1
  tones : Nat := 0
  txCfg : Nat := 0
  key : Nat := 0
deriving DecidableEq, Repr

/-- The FABRIC section's values beside registers (R326, R329, R335, R338): link key pairs (encryption child, MAC child), plans, the
rescue tone mask, the head flag and the band C peer's EUI-64. -/
structure FabTables where
  pairs : List ((Nat × Nat) × (Nat × Nat)) := []
  plans : List FabPlan := []
  rescueMask : Nat := 0
  head : Bool := false
  peer : Option Nat := none
deriving DecidableEq, Repr

/-- The values an image's sections carry beside register values, as the owning chapters define them. -/
structure ImgTables where
  pins : List PinClaim := []
  tims : List (Nat × Nat) := []
  metro : MetroTables := {}
  saveLists : List (Nat × List Nat) := []
  tariff : Option Tariff := none
  prepay : Option Prepay := none
  keys : DisplayKeys := {}
  relays : Bool := false
  obj : ObjTables := {}
  fabric : Option FabTables := none
deriving DecidableEq, Repr

/-- The fallback copy (R47): the version and legal ID it was derived with, the kept sections with their register values and
tables, and the kept register values of the host interfaces. -/
structure Fallback where
  version : Nat := 0
  legalId : Nat := 0
  sections : List ImgSection := []
  pinsBytes : List Byte := []
  hifRegs : List (Nat × Word) := []
  tables : ImgTables := {}
deriving DecidableEq, Repr

/-- A Tablar image as the memory holds it (R36 to R38): the header's fields (`reserved` is the value of bytes 0x14 to 0x1F),
the directory with its sections, the signature (r, then s), the memory's size, and what the sections' contents say. -/
structure Image where
  magic : Nat
  format : Nat
  flags : Nat
  length : Nat
  version : Nat
  count : Nat
  authSlot : Nat
  reserved : Nat
  legalId : Nat
  memSize : Nat
  sections : List ImgSection
  sig : Nat
  tables : ImgTables
deriving DecidableEq, Repr

/-- What a write whose effect looks outside the device finds there: the probe of the memories, and the image a first pass reads
(`none`: nothing that can be read). -/
structure World where
  probe : Probe
  image : Option Image
deriving DecidableEq, Repr

end Sys2Proof
end

