-- ==== Sys2Proof/Types2.lean ====
section
/-! DEFINITION. Data types of chapters 06 to 16: the records of the Cistern's banks, tokens, objects, keys, messages. -/
namespace Sys2Proof

/-- The billing record of R163; `pend` holds the stage bitmap and the RTC second of R177 when FLAGS bit 0 is set. `sub` is the
sliding ring, three quantities to a slot. -/
structure BillRec where
  kind : Nat := 1
  rate : Nat := 1
  flags : Nat := 0
  subpos : Nat := 0
  run : Nat := 0
  frame : Nat := 0
  rtc : Nat := 0
  demIdx : Int := 0
  billIdx : Nat := 0
  demStart : Nat := 0
  applied : List Nat := List.replicate 40 0
  resid : List Nat := List.replicate 10 0
  energy : List Nat := List.replicate 90 0
  sub : List Nat := List.replicate 180 0
  maxd : List (Nat × Nat) := List.replicate 27 (0, 0)
  dispw : List Nat := List.replicate 16 0
  pend : Nat × Nat := (0, 0)
deriving DecidableEq, Repr

/-- The credit record of R196; `tids` are the used entries of the identifier history (identifier, source), oldest first. -/
structure CreditRec where
  kind : Nat := 1
  state : Nat := 0
  flags : Nat := 0
  reasons : Nat := 0
  credit : Int := 0
  resid : Nat := 0
  month : Nat := 0
  mpl : Nat := 0
  keyrev : Nat := 0
  rctr : Nat := 0
  main : Nat := 0
  mainVer : Nat := 0
  lc : Nat := 0
  lcOffT : Nat := 0
  ops : Nat := 0
  tids : List (Nat × Nat) := []
deriving DecidableEq, Repr

/-- The Well record (R257): counter, generations, the decoder key in force and the staged one, the revocation bitmaps. -/
structure WellRec where
  counter : Nat := 0
  gens : List Nat := List.replicate 16 0
  decoder : Option (Nat × Nat) := none
  staged : Option (Nat × Nat) := none
  revoked : List Nat := List.replicate 16 0
deriving DecidableEq, Repr

/-- A used entry of the key store (R251). -/
structure KeyEntry where
  seq : Nat := 0
  blob : Blob := {}
deriving DecidableEq, Repr

/-- A working slot (R252): the child it holds with its attributes and the key. -/
structure WSlot where
  parent : Nat
  child : Nat
  dest : Nat
  usage : Nat
  ktype : Nat
  role : Nat
  origin : Nat
  gen : Nat
  rev : Nat
  key : Nat
deriving DecidableEq, Repr

/-- The outcome of a load (R252, R253). -/
inductive Load where
  | ok (w : WSlot)
  | guarded | blanked | keysLost | absent | genMismatch | destRefused | wrapFail | wrongRoot
deriving DecidableEq, Repr

/-- How a frame names a node (R325): by short address or by EUI-64. -/
inductive Node where
  | short (a : Nat)
  | eui (e : Nat)
deriving DecidableEq, Repr

/-- Who waits for an answer: the object request of a session interface (0 to 6), a fabric message's sender, nobody. -/
inductive Reply where
  | object (i : Nat)
  | message (src : Node) (msgId : Nat)
  | nobody
deriving DecidableEq, Repr

/-- A key update in progress (R254, R255): the message, who waits, and the change once it has been written to bank 1: the record
that takes force at the commit and, until then, the key store entries and the copies of the Well record still in force. `key` is the key of OP 1 to 3.
OP 0 is the activation of a staged decoder key. -/
structure KeyJob where
  op : Nat := 0
  msg : List Byte := []
  reply : Reply := .nobody
  key : Nat := 0
  written : Option WellRec := none
  old : List KeyEntry := []
  oldWell : TwoCopy WellRec := {}
deriving DecidableEq, Repr

/-- The TRNG's health tests (R262): the newest raw bit and how often it has come in a row; the first bit of the window of 1 024, how many bits of
the window equal it and how many it has; and the raw bits that the seed in progress has. -/
structure Trng where
  last : Option Bool := none
  run : Nat := 0
  first : Bool := false
  same : Nat := 0
  pos : Nat := 0
  good : Nat := 0
deriving DecidableEq, Repr

/-- A crypto job (R261): the engine that submits it, the child it names with the destination and usage it needs, and the
operation it asks for: the row of R260's table, counted from 0. -/
structure CryptoJob where
  caller : Nat := 0
  key : Option (Nat × Nat) := none
  dest : Nat := 0
  usage : Nat := 0
  op : Nat := 0
deriving DecidableEq, Repr
/-- A billing snapshot (R173). -/
structure Snapshot where
  num : Nat := 0
  reason : Nat := 0
  flags : Nat := 0
  skipped : Nat := 0
  billIdx : Nat := 0
  rtc : Nat := 0
  frame : Nat := 0
  energy : List Nat := []
  maxd : List (Nat × Nat) := []
  dispw : List Nat := []
deriving DecidableEq, Repr
/-- The sounding record (R318): the baselines (closed, open) and, of each, CAP_EST and RTC seconds; `none` where not valid. -/
structure SoundRec where
  base : List (Option (Nat × Nat × Nat)) := [none, none]
deriving DecidableEq, Repr
/-- The fabric record (R324). -/
structure FabRec where
  addr : Nat := 0
  valid : Bool := false
  nwk : Nat := 0
  plan : Nat := 0
  planSeq : Nat := 0
  key : Nat := 0
  head : Bool := false
deriving DecidableEq, Repr
/-- A power-quality record (R147). -/
structure PqRec where
  seq : Nat := 0
  kind : Nat := 0
  chan : Nat := 0
  extreme : Nat := 0
  startFrame : Nat := 0
  startSample : Nat := 0
  durHc : Nat := 0
  durMs : Nat := 0
  rtcStart : Nat := 0
deriving DecidableEq, Repr
/-- A dip, swell or interruption in force (R146): the half-cycles so far, the metrology time of its start. -/
structure PqEvent where
  chan : Nat := 0
  extreme : Nat := 0
  startFrame : Nat := 0
  startSample : Nat := 0
  hc : Nat := 0
  clock : Nat := 0
  rtcStart : Nat := 0
deriving DecidableEq, Repr
/-- A complete frame that E7 transforms (R134): its number, samples per cycle, cycles, status word (R123), spectrum flags
(R149), the tracker's reference and f_grid, whether it starts an aggregate block (R140), samples oldest first, and its supraharmonic blocks: usable, unusable and the usable ones' band sums of squares; whether a restart of E7 has cost its results (R276). -/
structure FrameSet where
  num : Nat := 0
  perCycle : Nat := 256
  cycles : Nat := 10
  status : Nat := 0
  marks : Nat := 0
  ref : Nat := 0
  freq : Nat := 50000000
  starts : Bool := false
  samples : List (List Int) := []
  usable : Nat := 0
  unusable : Nat := 0
  bands : List Nat := []
  spoiled : Bool := false
deriving DecidableEq, Repr
/-- The results of a frame or of an aggregate: RMS per channel and order, phase, interharmonics, bands; `none` where a value
reads not available. -/
structure ResultSet where
  frame : Nat := 0
  rms : List (List (Option Nat)) := []
  phase : List (List (Option Int)) := []
  inter : List (List (Option Nat)) := []
  bands : List (Option Nat) := []
deriving DecidableEq, Repr
/-- The aggregate block in progress (R140): frames, and per value the count and the sum of squares; DISTURBED; whether a later frame
starts the next block; SHORT and DISTURBED of the last closed block. -/
structure AggBlock where
  n : Nat := 0
  rms : List (List (Nat × Nat)) := []
  bands : List (Nat × Nat) := []
  disturbed : Bool := false
  cut : Bool := false
  last : Nat := 0
deriving DecidableEq, Repr
/-- A load-profile entry: END or DAY with its flags (R174, R175), the RTC at capture (profile 2) and the values. -/
structure ProfEntry where
  head : Nat := 0
  rtc : Nat := 0
  vals : List Nat := []
deriving DecidableEq, Repr

/-- A token that waits or is in decode (R191), or a remote credit message (R193): its 66 bits, or the message's bytes, its
SOURCE and who waits for the result. -/
structure Token where
  bits : Nat := 0
  remote : Option (List Byte) := none
  source : Nat := 0
  reply : Reply := .nobody
deriving DecidableEq, Repr

/-- A set of decoder-key sections whose key matches the staged one (R192), until bank 1 commits the activation (R256): the token that
completed it, its subclass, the identifiers of the set with their sources, and the key's revision. -/
structure Activation where
  token : Token := {}
  sub : Nat := 0
  ids : List (Nat × Nat) := []
  rev : Nat := 0
deriving DecidableEq, Repr

/-- Where a frame or message goes (R325): one node, every neighbour (broadcast), all heads. -/
inductive Dest where
  | node (n : Node)
  | broadcast
  | heads
deriving DecidableEq, Repr

/-- A message (R333): MTYPE, MSGID, originator, destination, body. -/
structure Message where
  mtype : Nat := 0
  msgId : Nat := 0
  src : Node := .short 0
  dest : Dest := .broadcast
  body : List Byte := []
deriving DecidableEq, Repr

/-- A numbering of mains cycles as a frame carries it (R337): the FCN of the sender's most recent crossing, and the rank (R340) and
EUI-64 of its originator. -/
structure Numbering where
  fcn : Nat
  rank : Nat
  eui : Nat
deriving DecidableEq, Repr

/-- An announcement (R338): PLAN_SEQ, plan, mode (0 plan only, 1 TEST, 2 RECOVERY, 3 NORMAL), activation FCN, duration in minutes. -/
structure Announce where
  seq : Nat
  plan : Nat
  mode : Nat
  act : Nat
  dur : Nat
deriving DecidableEq, Repr

/-- What a fabric frame's body says (R323, R325, R331, R332, R337 to R340). A data frame carries its segment's bytes. -/
inductive FabBody where
  | data (bytes : List Byte)
  | ack
  | advert (heads : List (Nat × Nat × Nat × Nat)) (num : Option Numbering)
  | claim (addr eui : Nat)
  | conflict (addr eui : Nat)
  | join (eui : Nat)
  | assign (eui addr : Nat)
  | candidate (rank eui : Nat)
  | routeReq (id dest : Nat)
  | routeRep (dest seq cost hops : Nat)
  | beacon (frame depth mode plan coord : Nat) (num : Option Numbering) (assigned : List (Nat × Nat))
  | rescue (plan seq : Nat) (num : Option Numbering)
  | announce (a : Announce) (num : Option Numbering)
deriving DecidableEq, Repr

/-- A fabric frame (R325); `segh` is MSGID, segment index and count, `cipher` BODY as it stands on the line, `body` what decrypting it
gives, then MIC and FCS as they stand on the line. -/
structure FabFrame where
  dest : Dest := .broadcast
  ackReq : Bool := false
  prio : Nat := 1
  seq : Nat := 0
  left : Nat := 0
  taken : Nat := 0
  nwk : Nat := 0
  lsrc : Node := .short 0
  ldst : Option Node := none
  osrc : Node := .short 0
  run : Nat := 0
  fcnt : Nat := 0
  key : Nat := 0
  segh : Option (Nat × Nat × Nat) := none
  body : FabBody := .ack
  cipher : List Byte := []
  mic : List Byte := []
  fcs : Nat := 0
deriving DecidableEq, Repr

/-- What E9 gives with a received frame (R304, R306, R311, R315): band (true C), the tones the sender enabled in it, MOD, LEN, SNR in 0.25 dB,
RSSI, the sender's ZCP with ZCV, this node's own phase; and, where the frame ends NAP, the retention banks whose signature does
not match (R290). -/
structure RxInfo where
  bandC : Bool := false
  mask : Nat := 0
  mod : Nat := 0
  len : Nat := 1
  snr : Int := 0
  rssi : Nat := 0
  zcp : Nat := 0
  zcv : Bool := false
  own : Nat := 0
  bad : Nat := 0
deriving DecidableEq, Repr

/-- A physical frame that E10 hands E9 (R306): band (true C), MOD, the fabric frame and its payload length; the attempts made, whether it
has been routed anew (R328), and whether it goes in the rescue configuration (R339). -/
structure TxFrame where
  bandC : Bool := false
  mod : Nat := 0
  len : Nat := 1
  frame : FabFrame := {}
  tries : Nat := 0
  rerouted : Bool := false
  rescue : Bool := false
deriving DecidableEq, Repr

/-- A neighbour (R326, R330): its names, the newest RUN and FCNT, the smoothed SNR in 1/8 of 0.25 dB, when it was last heard, and
whether its link has failed. -/
structure Nbr where
  name : Node
  run : Nat := 0
  fcnt : Nat := 0
  snr8 : Int := 0
  heard : Nat := 0
  failed : Bool := false
deriving DecidableEq, Repr

/-- A route (R331). The table is kept least recently used first. -/
structure Route where
  dest : Nat
  next : Node
  cost : Nat := 0
  hops : Nat := 1
  seq : Nat := 0
  head : Bool := false
  pinned : Bool := false
  at' : Nat := 0
deriving DecidableEq, Repr

/-- A message being reassembled (R333). -/
structure Reasm where
  src : Node
  msgId : Nat
  count : Nat
  parts : List (Nat × List Byte) := []
  since : Nat := 0
  dest : Dest := .broadcast
deriving DecidableEq, Repr

/-- An object request that waits for E2: the bytes of R232 and, on the fabric, its sender and MSGID. -/
structure ObjReq where
  bytes : List Byte := []
  src : Node := .short 0
  msgId : Nat := 0
deriving DecidableEq, Repr

/-- What a method or a set value of a device object asks for (R228): the parameter as its governing rule reads it. A write is made
to the object's own registers. -/
inductive Method where
  | clock (diff : Int)
  | write (addr : Nat) (w : Word)
  | token (bits : Nat)
  | credit (bytes : List Byte)
  | passwords (bank r w : Nat)
  | chunk
  | key (bytes : List Byte)
deriving DecidableEq, Repr

end Sys2Proof
end

