-- ==== Sys2Proof/Syntax.lean ====
section
/-! DEFINITION. The commands: one constructor per row of the command table. A command that is a write of a register carries the
master and the word it writes; an event carries what the environment supplies with it. -/
namespace Sys2Proof

/-- The block's commands (spec/opcode_table.json, each with its rule and summary). -/
inductive Instr where
  /-- START_UP (R31): VDD rising through VDD-good (power-on, leaving OUTAGE or SHIP) starts the boot ROM load and the start-up timeline. -/
  | startUp (p : Probe)
  /-- SECTION_RETRY (R34): A section read that failed its CRC or was NACKed is read again at half clock or after 1 ms, at most three reads in all. -/
  | sectionRetry (sect : Nat) (ok : Bool)
  /-- IMAGE_VERIFY (R40): Once the image has been read and hashed, the loader makes the ordered acceptance checks and sets the first failing cause bit. -/
  | imageVerify (img : Image)
  /-- TAMPER_EVALUATION (R46): E0 evaluates the latched tamper state once the EVENTS section has been accepted, or under the fallback responses. -/
  | tamperEvaluation
  /-- GUARD_RELEASE (R45): Guarded start is released at the first frame start at which an image or fallback is in force and tamper has been evaluated. -/
  | guardRelease
  /-- REREAD (R51): A write of CFG_CTL.REREAD with key 0xA5 starts a two-pass re-read of the configuration memory. -/
  | reread (m : Master) (w : Word) (p : Probe)
  /-- REREAD_PASS_ONE_DONE (R52): At the end of the first pass, a failure sets REREAD_FAIL; otherwise the second-pass restart runs with the extent set by the METROLOGY hash. -/
  | rereadPassOneDone (img : Image)
  /-- COHERENT_SAMPLE (R105): Each resampled coherent sample is integrated over its exact duration. -/
  | coherentSample (codes : List (List Nat))
  /-- HALF_CYCLE_BOUNDARY (R100): At every half-cycle boundary the half-cycle RMS is refreshed and evaluated for comparators, dips, swells, interruptions and voltage power-fail. -/
  | halfCycleBoundary
  /-- CYCLE_END (R107): At the last sample of each cycle the phase and aggregate quantities, no-load, quadrants, totals, pulse feed and the tracker loop are computed. -/
  | cycleEnd
  /-- FRAME_BOUNDARY (R14): At each frame boundary E6 writes the frame increment record, the registers and status update, and staged changes take effect at the epoch. -/
  | frameBoundary
  /-- PROFILE_STAGE (R22): A write of 1 to PHE_PROFILE_CTL.STAGE stages a profile change, or is refused. -/
  | profileStage (m : Master) (w : Word)
  /-- E7_READY (R28): E7 becomes ready after D3 is powered up on leaving Pass. -/
  | e7Ready
  /-- RELIEF_TIME (R64): At a relief time a ready spare is routed to the next channel and settles, or the relief is deferred. -/
  | reliefTime
  /-- RELIEVE_NOW (R69): A write of CNV_CTL.RELIEVE_NOW requests an out-of-turn relief, which is refused while a relief runs. -/
  | relieveNow (m : Master) (w : Word)
  /-- SPLICE_WINDOW_CLOSE (R67): After 64 cycles the comparison closes and its plausibility verdict is made. -/
  | spliceWindowClose
  /-- SLICE_OFFSET_DONE (R63): After 0.25 s on shorted inputs, the relieved slice moves to the chopped reference. -/
  | sliceOffsetDone (offset : Int)
  /-- SLICE_CALIBRATION (R68): At step 8 the relieved slice's coefficients are computed and stored, the drift check attributes faults, and the slice becomes a ready spare. -/
  | sliceCalibration (gain : Int) (delay : Int)
  /-- OVERLOAD_MONITOR (R71): A quantiser held at an extreme code for 256 f_MOD cycles below full scale counts one slice fault occurrence. -/
  | overloadMonitor (slice : Nat)
  /-- TAP_CFG_WRITE (R74): A write of CNV_TAP_CFG selects the raw tap, or is dropped when the destination is not allowed. -/
  | tapCfgWrite (m : Master) (w : Word)
  /-- TAP_SAMPLE (R75): A raw tap sample enters the FIFO or capture ring, or is dropped at a full FIFO. -/
  | tapSample (codes : List Nat) (back : Nat)
  /-- TAP_DATA_READ (R75): A read of CNV_TAP_DATA removes and returns the oldest FIFO entry. -/
  | tapDataRead (m : Master)
  /-- SAR_RESULT (R76): The auxiliary SAR writes a scaled result for a sequenced channel. -/
  | sarResult (n : Nat) (v : Int)
  /-- TEMP_EVALUATION (R78): Once a second the compensation temperature is evaluated and a band change is staged. -/
  | tempEvaluation
  /-- TEMP_DISAGREE (R77): Die sensors that differ by more than 5 °C for 10 s count one occurrence. -/
  | tempDisagree
  /-- CAL_COMMIT (R79): A write of 1 to CNV_CAL_CTL.COMMIT makes the staged coefficients and delays take effect at the next epoch and logs the change. -/
  | calCommit (m : Master) (w : Word)
  /-- CAL_WINDOW_START (R81): A write of CNV_CAL_CTL.START starts a calibration window at the next epoch. -/
  | calWindowStart (m : Master) (w : Word)
  /-- CAL_WINDOW_END (R81): After FRAMES frames the calibration window's energy and reference count are latched. -/
  | calWindowEnd (edges : Nat)
  /-- CHAIN_STOP (R91): A write of FLT_CTL.RUN = 0 with key 0x5A stops the chain at the end of the frame. -/
  | chainStop (m : Master) (w : Word)
  /-- CHAIN_RESTART (R91): A write of FLT_CTL.RUN = 1 latches the coefficients and restarts the filter fill and the tracker. -/
  | chainRestart (m : Master) (w : Word)
  /-- REF_SWITCH (R97): When HOLD_RUN reaches HOLD_MAX, the tracker moves to the next qualifying reference, re-acquires, or coasts. -/
  | refSwitch
  /-- REF_RETURN (R97): After 3 600 s locked on a fallback reference with VA qualifying, the tracker returns to VA. -/
  | refReturn
  /-- WIN_TRIP (R101): A comparator reaching its persistence count trips, drives its line and latches its timestamp. -/
  | winTrip (comp : Nat) (frac : Nat)
  /-- WIN_RELEASE (R100): A tripped comparator releases after PERSIST values meeting the tightened opposite condition. -/
  | winRelease (comp : Nat)
  /-- WIN_CFG_WRITE (R102): A write of a comparator's configuration or threshold takes effect at the next sample and releases it. -/
  | winCfgWrite (m : Master) (addr : Nat) (w : Word)
  /-- IMBALANCE (R113): Neutral mismatch above THR for PERSIST frames drives the imbalance line. -/
  | imbalance
  /-- REVERSE_ENERGY (R115): P below -REV_THR for REV_PERSIST cycles drives the reverse-energy line. -/
  | reverseEnergy (phase : Nat)
  /-- VDD_MONITOR_TRIP (R296): VDD falling below PMU_VMON.THR trips the monitor as a power-fail source and sheds load. -/
  | vddMonitorTrip
  /-- RESET_N_LOW (R300): A low on RESET_N for 1 µs or more is taken as power-fail and then restarts the device with D0 kept. -/
  | resetNLow (p : Probe)
  /-- FREEZE_RESTART (R291): E0 restarts the device with D0 kept when the store completes with VDD good or RESET_N high again. -/
  | freezeRestart (p : Probe)
  /-- VDD_BELOW_2V3 (R291): VDD falling below 2.3 V powers down every domain except D0 and enters OUTAGE. -/
  | vddBelow2v3
  /-- D0_BROWN_OUT (R298): D0 losing both supplies resets D0, and the next start is a power-on reset. -/
  | d0BrownOut
  /-- VBAT_LOW (R298): VBAT falling below VBAT_LOW sets the cause bit. -/
  | vbatLow
  /-- PULSE_EDGE (R130): A scheduled pulse edge is emitted, delayed to the rate limit, or dropped. -/
  | pulseEdge (k : Nat)
  /-- PULSE_END (R130): The pulse output goes inactive at the end of WIDTH or at the shortened time. -/
  | pulseEnd (k : Nat)
  /-- SPECTRUM_PUBLISH (R134): E7 publishes a frame's spectrum results within 40 ms of the frame's end. -/
  | spectrumPublish
  /-- AGGREGATE_CLOSE (R140): A 15-frame aggregate block closes, early at a start, epoch or 10-minute boundary. -/
  | aggregateClose
  /-- SH_BLOCK (R143): Every 10 000 ADC samples E7 transforms a 5 000-sample supraharmonic block, or counts it dropped. -/
  | shBlock (ws : List Nat)
  /-- EVT_POP (R147): A write of SPE_EVT_CTL.POP removes the oldest event record. -/
  | evtPop (m : Master) (w : Word)
  /-- CAPTURE_ARM (R155): A write of SPE_CAP_CTL.ARM starts the capture cycle, or is dropped in Pass. -/
  | captureArm (m : Master) (w : Word)
  /-- CAPTURE_FORCE (R155): A write of SPE_CAP_CTL.FORCE triggers a capture. -/
  | captureForce (m : Master) (w : Word)
  /-- CAPTURE_ABORT (R155): A write of SPE_CAP_CTL.ABORT returns the capture to IDLE, writing the header when in POST. -/
  | captureAbort (m : Master) (w : Word)
  /-- CAPTURE_DONE (R155): The remaining sets are written, the header is written, and the slot is marked full. -/
  | captureDone
  /-- CAPTURE_SLOT_FREE (R155): A write of 1 to a slot bit in SPE_CAP_FULL frees that slot and resumes a stopped ring. -/
  | captureSlotFree (m : Master) (w : Word)
  /-- CAP_CFG_WRITE (R154): A write of SPE_CAP_CFG is dropped outside IDLE. -/
  | capCfgWrite (m : Master) (w : Word)
  /-- RTC_SECOND (R176): At every RTC second E1 and E2 run the power, clock, energy, demand, closure and tariff stages, then credit and reason evaluation. -/
  | rtcSecond
  /-- CLOSE_REQUEST (R172): A write of BIL_CTL.CLOSE with key 0xC3 requests a commanded closure, or is refused. -/
  | closeRequest (m : Master) (w : Word)
  /-- ADJ_REQUEST (R179): A write of TAR_ADJ_REQ passes a clock adjustment for stage 2 of the next tick. -/
  | adjRequest (m : Master) (w : Word) (src osrc : Nat)
  /-- TICK_CATCH_UP (R176): When E1 runs again after a quarantine or partial start, it works through each missed tick in order. -/
  | tickCatchUp
  /-- EC_REQUEST (R187): An emergency credit request is granted or refused. -/
  | ecRequest (m : Master) (w : Word)
  /-- TOKEN_SUBMIT (R191): A write of PAY_TOKEN_CTL.SUBMIT queues a token, or answers QUEUE_FULL. -/
  | tokenSubmit (m : Master) (w : Word)
  /-- TOKEN_DECODE_DONE (R189): E8 completes the decode of a token or remote credit message, the result is acted on and recorded, and the next waiting one starts. -/
  | tokenDecodeDone
  /-- KEY_SECTIONS_EXPIRE (R192): Decoder-key sections that have not formed a complete set within 24 h are discarded. -/
  | keySectionsExpire
  /-- REMOTE_CREDIT (R193): A remote credit message arriving from a session takes its place in the token queue. -/
  | remoteCredit (bytes : List Byte) (source : Nat) (reply : Reply)
  /-- MPL_TRIP (R197): P_T above MPL in every frame for MPL_TIME sets the MPL reason. -/
  | mplTrip
  /-- MPL_RELEASE (R197): The MPL reason clears MPL_HOLD seconds after it was set. -/
  | mplRelease
  /-- REMOTE_OPEN (R197): A write of RLY_CTL.REMOTE_OPEN with key 0x96 sets the REMOTE reason. -/
  | remoteOpen (m : Master) (w : Word)
  /-- REMOTE_CLOSE (R197): A write of RLY_CTL.REMOTE_CLOSE with key 0x96 clears the REMOTE reason. -/
  | remoteClose (m : Master) (w : Word)
  /-- LC_SHED (R202): A write of RLY_CTL.LC_SHED sheds the load-control supply. -/
  | lcShed (m : Master) (w : Word)
  /-- LC_RESTORE (R202): A write of RLY_CTL.LC_RESTORE ends the shed. -/
  | lcRestore (m : Master) (w : Word)
  /-- MAIN_PULSE_START (R198): A commanded main state change drives DISC_A or DISC_B for PULSE ms, respecting spacing and freeze. -/
  | mainPulseStart
  /-- MAIN_PULSE_END (R198): The main coil pulse ends after PULSE ms. -/
  | mainPulseEnd
  /-- MAIN_VERIFY (R199): After VERIFY_DELAY and 3 cycles the main relay's state is verified or judged failed. -/
  | mainVerify (cyc : List (List (Nat × Nat)))
  /-- MAIN_RETRY (R198): A failed verification repeats the pulse, up to RETRY times. -/
  | mainRetry
  /-- LOADV (R200): Load voltage while the main is verified open for 3 cycles drives the LOADV producer. -/
  | loadv (cyc : List (List (Nat × Nat)))
  /-- OPEN_I (R200): Phase current while the main is verified open for 3 cycles drives the OPEN_I producer. -/
  | openI (cyc : List (List Nat))
  /-- FREEZE_RELEASE (R201): Release of the relay-drive freeze lines lets waiting relay commands proceed. -/
  | freezeRelease
  /-- LC_SWITCH (R203): A deferred load-control change takes effect when its minimum time and random delay have passed. -/
  | lcSwitch
  /-- PERIODIC_STORE_TICK (R207): Every PERIOD minutes the Cistern stores every dirty bank. -/
  | periodicStoreTick
  /-- STORE_COMMAND (R210): A write of CIS_CTL with key 0x3C requests stores of the named banks, merged or refused. -/
  | storeCommand (m : Master) (w : Word)
  /-- STORE_COMMIT (R208): A bank's copy commits its trailer, and the freed engine starts the next waiting bank. -/
  | storeCommit (b : Nat)
  /-- RECALL (R213): When D7 powers up the controller recalls banks 0 to 15 from the newer valid plane. -/
  | recall (ecc : List (Nat × Nat × Nat))
  /-- RECALL_DONE (R214): Recall completes, interrupted and blank banks are reported, and the tamper queue is flushed to bank 2. -/
  | recallDone
  /-- TIE_REPORT (R218): A write of CIS_REPORT.TIE reports a sequence tie and counts a Cistern fault occurrence. -/
  | tieReport (m : Master) (w : Word)
  /-- PASSWORD_UNLOCK (R223): A write of CIS_HOST_UNLOCK.GO compares the host password and grants access, or counts a failure. -/
  | passwordUnlock (m : Master) (w : Word)
  /-- PASSWORD_LOCK (R223): A write of CIS_HOST_UNLOCK.LOCK ends a host grant. -/
  | passwordLock (m : Master) (w : Word)
  /-- GRANT_LAPSE (R223): A host grant lapses after 300 s without an access to the bank. -/
  | grantLapse
  /-- OPEN (R230): An OPEN request returns a challenge from the TRNG, or is refused. -/
  | sessionOpen (i : Nat)
  /-- PROOF (R230): A PROOF request opens the session when its AES-CMAC matches, else FAIL. -/
  | sessionProof (i : Nat)
  /-- PROOF_TIMEOUT (R230): No PROOF within 10 s of the challenge answers FAIL. -/
  | proofTimeout (i : Nat)
  /-- CLOSE (R231): A CLOSE request closes the session. -/
  | sessionClose (i : Nat)
  /-- GET (R233): A GET request returns a tagged, untagged or signed reading and raises the reading counter. -/
  | objGet (i : Nat)
  /-- SET (R232): A SET request writes an object's value within the role's rights. -/
  | objSet (i : Nat) (wd : World)
  /-- ACTION (R232): An ACTION request executes an object's method within the role's rights. -/
  | objAction (i : Nat) (wd : World)
  /-- SESSION_IDLE_TIMEOUT (R231): A session closes after IDLE seconds without a request. -/
  | sessionIdleTimeout (i : Nat)
  /-- SIGN_DONE (R235): A snapshot signature completes within 15 ms. -/
  | signDone
  /-- CAL_EN_RISE (R237): The debounced rise of CAL_EN writes an event record. -/
  | calEnRise
  /-- CAL_EN_FALL (R237): The debounced fall of CAL_EN reverts staged values, closes the METROLOGY session and is logged. -/
  | calEnFall
  /-- BEGIN (R241): UPD_CTL BEGIN erases the named region and moves to WRITING, or is refused with UPDATE_BUSY. -/
  | updBegin (m : Master) (w : Word)
  /-- ERASE_DONE (R241): The erase of the update region completes. -/
  | eraseDone
  /-- VERIFY (R241): UPD_CTL VERIFY checks the package's magic, target, UID, both signatures and version. -/
  | updVerify (m : Master) (w : Word)
  /-- VERIFY_DONE (R241): Package verification completes with VERIFY_OK, VERIFY_FAIL or ROLLBACK. -/
  | verifyDone
  /-- ACTIVATE (R242): UPD_CTL ACTIVATE writes the update record and requests a store of bank 1. -/
  | updActivate (m : Master) (w : Word)
  /-- SLOT_SWITCH (R242): 100 ms after the bank 1 commit, sessions close and D5 restarts from the new slot in trial. -/
  | slotSwitch
  /-- TRIAL_CONFIRM (R242): After 600 s of E2 running time the slot is confirmed and UPD_FLOOR raised. -/
  | trialConfirm
  /-- ABORT (R241): UPD_CTL ABORT abandons the update and leaves the region empty. -/
  | updAbort (m : Master) (w : Word)
  /-- COPY_LEGAL (R243): UPD_CTL COPY_LEGAL copies a verified legal package into the legal partition and restarts the device. -/
  | copyLegal (m : Master) (w : Word) (image : Option Image)
  /-- INSTALL (R256): Key update OP 1 imports a key as a child. -/
  | keyInstall
  /-- STAGE (R256): Key update OP 2 imports a decoder key as a staged child. -/
  | keyStage
  /-- GENERATE (R256): Key update OP 3 generates a key inside the Well. -/
  | keyGenerate
  /-- DESTROY_PARENT (R256): Key update OP 4 raises a parent's generation and clears its slots, entries and revocation bits. -/
  | destroyParent
  /-- REVOKE_CHILD (R256): Key update OP 5 revokes a child and clears its slot and entry. -/
  | revokeChild
  /-- RESEAT (R256): Key update OP 6 sets the generations and counter and leaves KEYS_LOST. -/
  | reseat
  /-- KEY_UPDATE_COMMIT (R255): A checked key update takes effect when its bank 1 store commits. -/
  | keyUpdateCommit
  /-- ATTESTATION_REQUEST (R259): An attestation request returns a DAK-signed statement for a child. -/
  | attestationRequest (p c : Nat) (nonce : List Byte) (reply : Reply)
  /-- CERTIFICATE_REQUEST (R259): A certificate request returns the Halran device certificate. -/
  | certificateRequest (reply : Reply)
  /-- REMASK (R258): Every REMASK seconds the Well draws a fresh mask and rewrites every share pair. -/
  | remask
  /-- BURN (R247): WEL_OTP_CTL BURN writes a public key into an empty OTP slot, or is refused. -/
  | otpBurn (m : Master) (w : Word)
  /-- LOCK (R247): WEL_OTP_CTL LOCK blows the PROV_LOCK fuse. -/
  | otpLock (m : Master) (w : Word)
  /-- KILL (R247): WEL_OTP_CTL KILL blows the DBG_KILL fuse. -/
  | otpKill (m : Master) (w : Word)
  /-- CRYPTO_JOB (R261): A job submitted to E8's queue is accepted in order, or refused at a full queue. -/
  | cryptoJob (job : CryptoJob)
  /-- CRYPTO_JOB_DONE (R260): A crypto job completes and the next queued job starts. -/
  | cryptoJobDone
  /-- TRNG_SEED (R262): A seed is conditioned from raw bits passing the health tests, or discarded on a failed test. -/
  | trngSeed (raw : List Bool)
  /-- DRBG_RESEED (R262): The DRBG is reseeded every 60 s or 2^20 requests. -/
  | drbgReseed
  /-- TAMPER_TRIP (R270): A tamper source owned by the tamper chapter trips after its debounce or consecutive samples. -/
  | tamperTrip (x frac detail : Nat)
  /-- TAMPER_RELEASE (R270): A tripped tamper source releases. -/
  | tamperRelease (x : Nat)
  /-- OUTAGE_COVER_SAMPLE (R270): In OUTAGE the cover pull-ups are enabled for 30 µs every 31.25 ms and the levels sampled. -/
  | outageCoverSample (cov tcov : Bool)
  /-- QUIET_CLEAR (R273): A lasting state clears after Q with the source released. -/
  | quietClear
  /-- TAMPER_CLEAR (R273): A write of TAMP_CTL.CLEAR with key 0xE1 clears a lasting counter, or is refused. -/
  | tamperClear (m : Master) (w : Word)
  /-- FAULT_RECORD_MINUTE (R274): Once a minute E0 writes the fault record when any TOTAL changed. -/
  | faultRecordMinute
  /-- WATCHDOG_EXPIRY (R276): An engine watchdog expiry quarantines and restarts the engine, or resets the device for E0. -/
  | watchdogExpiry (e : Nat) (p : Probe)
  /-- ENGINE_RESTART_DONE (R276): A quarantined engine completes its restart. -/
  | engineRestartDone (e : Nat)
  /-- CORE_WAIT (R282): A core waiting gates its clock and the device dozes when both do. -/
  | coreWait (core : Nat)
  /-- CORE_DOZE_WAKE (R282): An enabled interrupt restarts a dozing core within 10 cycles. -/
  | coreDozeWake (core : Nat)
  /-- NAP_REQUEST (R283): A write of PMU_CTL REQ 1 with GO and key 0x4D starts the NAP entry handshake, or is refused. -/
  | napRequest (m : Master) (w : Word)
  /-- SHIP_REQUEST (R283): A write of PMU_CTL REQ 2 with GO and key 0x4D starts the SHIP entry handshake, or is refused. -/
  | shipRequest (m : Master) (w : Word)
  /-- ENTRY_ABORT (R286): A write of PMU_CTL.ABORT abandons an entry at the next abort point. -/
  | entryAbort (m : Master) (w : Word)
  /-- OWNER_CONSENT (R284): An owner's consent moves the handshake to the next owner, or, after the last, saves, clamps and powers down. -/
  | ownerConsent (wake : Option (Nat × Nat))
  /-- OWNER_DELAY_LIMIT (R284): An owner that has not consented within LIMIT is taken to refuse. -/
  | ownerDelayLimit
  /-- RTC_ALARM (R288): The RTC reaching SUP_RTC_ALARM raises the alarm wake source. -/
  | rtcAlarm (bad : Nat)
  /-- NAP_MAX (R287): MAX seconds in NAP raises the NAP maximum wake source. -/
  | napMax (bad : Nat)
  /-- OP_CHANGE (R294): A write of CLK_CTL changes the operating point and core clocks, or is ignored. -/
  | opChange (m : Master) (w : Word)
  /-- OP_DONE (R294): An operating-point change completes. -/
  | opDone
  /-- XTAL32_FAIL (R295): XTAL32 stopping for 4 periods moves the RTC to SIRC. -/
  | xtal32Fail
  /-- XTAL32_BACK (R295): After 1 s of steady oscillation the RTC returns to XTAL32. -/
  | xtal32Back
  /-- MPLL_UNLOCK (R295): The MPLL losing lock sets its cause and flags frames PROV_CLK. -/
  | mpllUnlock
  /-- SPLL_UNLOCK (R295): The SPLL losing lock moves the cores and system clock to FIRC. -/
  | spllUnlock
  /-- TX_FRAME (R309): E10 hands E9 a frame to transmit, which is sent or refused. -/
  | txFrame (f : TxFrame)
  /-- TX_DONE (R306): A frame's transmission ends. -/
  | txDone
  /-- LBT_ACCESS (R310): After SENSE ms idle and the random wait, E9 transmits in band C. -/
  | lbtAccess
  /-- LBT_TIMEOUT (R310): Band C busy for 5 s returns the frame to E10. -/
  | lbtTimeout
  /-- DRV_FAULT (R309): The driver current limit held for more than 20 µs mutes the driver and abandons the frame. -/
  | drvFault
  /-- RX_FRAME_DROP (R306): A received physical frame whose HCRC or Reed-Solomon blocks fail is dropped. -/
  | rxFrameDrop
  /-- ZERO_CROSSING (R314): A positive-going zero crossing of VA's fundamental is computed and counted. -/
  | zeroCrossing
  /-- START (R319): A write of LMD_SND_CTL.START requests a sounding measurement. -/
  | soundingStart (m : Master) (w : Word)
  /-- BASELINE (R318): A write of LMD_SND_CTL.BASELINE requests a baseline measurement. -/
  | soundingBaseline (m : Master) (w : Word)
  /-- SOUNDING_PERIOD (R319): Every PERIOD minutes, and 5 s after each verified relay change, a measurement is requested. -/
  | soundingPeriod
  /-- SOUNDING_MEDIUM_WON (R316): The measurement wins the medium and sends eight chirps. -/
  | soundingMediumWon
  /-- SOUNDING_DONE (R317): Results are written and the bypass verdict made. -/
  | soundingDone (sums : List Byte)
  /-- SOUNDING_TIMEOUT (R319): A measurement that has not won the medium within 60 s is refused. -/
  | soundingTimeout
  /-- ADDR_CLAIM (R323): A node broadcasts a CLAIM for a candidate short address. -/
  | addrClaim
  /-- CLAIM_TIMEOUT (R323): No CONFLICT within 10 s makes the claim succeed. -/
  | claimTimeout
  /-- CLAIM (R323): A received CLAIM is answered CONFLICT when the address is held under another EUI-64. -/
  | claimRx (i : RxInfo) (f : FabFrame)
  /-- CONFLICT (R323): A received CONFLICT makes the node with the higher EUI-64 claim again. -/
  | conflictRx (i : RxInfo) (f : FabFrame)
  /-- DATA (R325): A received data frame is verified, forwarded, or reassembled into a message. -/
  | dataRx (i : RxInfo) (f : FabFrame)
  /-- ACK (R328): An ack received in the ack gap confirms a frame. -/
  | ackRx (i : RxInfo) (f : FabFrame)
  /-- ACK_TIMEOUT (R328): No ack within 2 ms retransmits, or marks the link failed after the last retry. -/
  | ackTimeout
  /-- ROUTE_ADVERTISEMENT (R331): A received route advertisement updates head routes and the FCN. -/
  | routeAdvertisement (i : RxInfo) (f : FabFrame)
  /-- ADVERTISEMENT_TIMER (R331): Every ADV seconds the node broadcasts a route advertisement. -/
  | advertisementTimer
  /-- ROUTE_EXPIRY (R331): A head route expires after 3 × ADV seconds without refresh. -/
  | routeExpiry
  /-- ROUTE_REQUEST (R332): A received route request is flooded or answered with a reply. -/
  | routeRequest (i : RxInfo) (f : FabFrame)
  /-- ROUTE_REPLY (R332): A received route reply installs a route and is passed along the reverse path. -/
  | routeReply (i : RxInfo) (f : FabFrame)
  /-- ROUTE_TIMEOUT (R332): No reply within 10 s drops the message and sets NO_ROUTE. -/
  | routeTimeout
  /-- NEIGHBOUR_LOST (R330): A neighbour silent for LOST seconds is lost and counted. -/
  | neighbourLost
  /-- CONTENTION_SLOT (R327): A drawn priority slot arrives and the node transmits if the medium is idle. -/
  | contentionSlot (slot : Nat) (idle : Bool)
  /-- REASSEMBLY_TIMEOUT (R333): A message not complete within 30 s is discarded. -/
  | reassemblyTimeout
  /-- SESSION_REQ (R333): A SESSION_REQ message is delivered to E2 on interface 6. -/
  | sessionReq
  /-- SESSION_RSP (R333): A SESSION_RSP message is delivered to the sender. -/
  | sessionRsp
  /-- CREDIT (R333): A CREDIT message is delivered to E2's token queue. -/
  | creditMsg
  /-- CREDIT_RES (R333): A CREDIT_RES message is delivered to the sender. -/
  | creditRes
  /-- KEY_UPDATE (R255): A key update message is checked by E8 in order and its operation computed, or it is rejected. -/
  | keyUpdate (msg : List Byte) (reply : Reply)
  /-- KEY_RES (R333): A KEY_RES message is delivered to the sender. -/
  | keyRes
  /-- TIME (R336): A TIME message is accepted and its difference passed as an adjustment, or refused. -/
  | timeMsg
  /-- ALARM (R333): An ALARM message for a lasting counter travels to every head. -/
  | alarmMsg
  /-- TOKEN (R329): A band C TOKEN message is queued with SOURCE 2. -/
  | tokenMsg
  /-- STATUS_MESSAGE (R329): A band C STATUS message carries credit and relay state to the peer. -/
  | statusMessage
  /-- STATUS_TIMER (R329): Every 10 s the measurement unit sends STATUS to its peer. -/
  | statusTimer
  /-- HANDOVER_TIMEOUT (R334): A message not handed to E2 within 2 s is answered BUSY_RETRY or dropped. -/
  | handoverTimeout
  /-- ANNOUNCE (R338): A write of FAB_CTL.ANNOUNCE sends a plan or mode announcement, or is refused. -/
  | announceReq (m : Master) (w : Word)
  /-- HEAD_SET (R335): A write of FAB_CTL.HEAD_SET sets the head flag. -/
  | headSet (m : Master) (w : Word)
  /-- HEAD_CLR (R335): A write of FAB_CTL.HEAD_CLR clears the head flag. -/
  | headClr (m : Master) (w : Word)
  /-- ANNOUNCEMENT (R338): A received announcement is relayed once and supersedes an older pending change. -/
  | announcement (i : RxInfo) (f : FabFrame)
  /-- PLAN_ACTIVATION (R338): At the crossing numbered with the activation FCN the node switches plan or mode. -/
  | planActivation
  /-- RESCUE_BEACON (R339): A received rescue beacon re-admits a node in rescue listen. -/
  | rescueBeacon (i : RxInfo) (f : FabFrame)
  /-- RESCUE_BEACON_TIMER (R339): Every RESCUE seconds, or 30 s after an activation, a rescue beacon is sent. -/
  | rescueBeaconTimer
  /-- RESCUE_LISTEN (R339): No valid frame for LOST seconds enters rescue listen. -/
  | rescueListen
  /-- CANDIDATE (R340): A received CANDIDATE is relayed when its rank is better. -/
  | candidateRx (i : RxInfo) (f : FabFrame)
  /-- ELECTION_END (R340): After 16 s the node with the best known rank becomes coordinator. -/
  | electionEnd
  /-- SUPERFRAME (R340): At each superframe the coordinator sends its beacon. -/
  | superframe
  /-- BEACON (R340): A received beacon is relayed once with depth + 1. -/
  | beaconRx (i : RxInfo) (f : FabFrame)
  /-- JOIN (R340): A JOIN request passes towards the coordinator, which assigns an address. -/
  | joinRx (i : RxInfo) (f : FabFrame)
  /-- ASSIGN (R340): An ASSIGN gives a joining node its short address. -/
  | assignRx (i : RxInfo) (f : FabFrame)
  /-- COORDINATED_MODE_END (R340): Start-up, test or recovery ends and the coordinator announces NORMAL, or a lost coordinator re-runs the election. -/
  | coordinatedModeEnd
  /-- ON (R346): A write of PNL_CTL.ON starts the panel power-up sequence. -/
  | panelOn (m : Master) (w : Word)
  /-- PUMP_IN_REGULATION (R346): A pump reaching regulation starts the next pump or readies the panel. -/
  | pumpInRegulation
  /-- LIGHT (R346): A write of PNL_CTL.LIGHT enables column current or leaves glow mode. -/
  | panelLight (m : Master) (w : Word)
  /-- OFF (R347): A write of PNL_CTL.OFF starts a normal power-down. -/
  | panelOff (m : Master) (w : Word)
  /-- GLOW (R349): A write of PNL_CTL.GLOW enters glow mode. -/
  | panelGlow (m : Master) (w : Word)
  /-- PANEL_FRAME_END (R344): At the end of a panel frame pending scans stop and pumps discharge in order. -/
  | panelFrameEnd
  /-- PUMP_FAULT (R348): A rail out of ±10 % for 100 µs forces a normal power-down. -/
  | pumpFault (k : Nat)
  /-- BLINK_PHASE (R350): Blink regions switch between on and off halves on RTC sub-second boundaries. -/
  | blinkPhase (sub : Nat)
  /-- PANEL_RAM_WRITE (R348): A panel RAM write is stored, or dropped in STATE 0 or 1. -/
  | panelRamWrite (m : Master) (k : Nat) (w : Word)
  /-- KEYPAD_SCAN (R352): Every 10 ms the scanner scans the key matrix. -/
  | keypadScan (keys : Nat)
  /-- KEY_PRESS (R352): A key seen for DEB scans is a press and enters the FIFO. -/
  | keyPress (code : Nat)
  /-- KEY_RELEASE (R352): A key absent for DEB scans is a release and enters the FIFO. -/
  | keyRelease (code : Nat)
  /-- KEYPAD_WAKE (R353): In NAP a column held low for 10 ms raises the KEYPAD wake source. -/
  | keypadWake (bad : Nat)
  /-- KPD_EVENT_READ (R352): A read of KPD_EVENT removes and returns the oldest key event. -/
  | kpdEventRead (m : Master)
  /-- FETCH (R359): A FETCH collects the pending response, PENDING, or NO_FRAME. -/
  | hostFetch (i : Nat)
  /-- READ (R360): A host READ returns data from an allowed region. -/
  | hostRead (i a n ecc : Nat)
  /-- WRITE (R360): A host WRITE stores data into an allowed region. -/
  | hostWrite (i a : Nat) (bytes : List Byte) (wd : World)
  /-- OBJECT (R359): An OBJECT command carries an object request to E2. -/
  | hostObject (i : Nat) (bytes : List Byte)
  /-- FAB_SEND (R368): FAB_SEND hands a message to E10 on a head. -/
  | fabSend (i a : Nat) (bytes : List Byte)
  /-- FAB_RECV (R368): FAB_RECV returns the oldest inbox message. -/
  | fabRecv (i : Nat)
  /-- WAKE (R367): A WAKE command raises the HOST wake source. -/
  | hostWake (i bad : Nat)
  /-- STATUS (R359): STATUS returns HIF_STATUS and INT_HOST_PEND in every state. -/
  | hostStatus (i : Nat)
  /-- UNKNOWN_COMMAND (R359): A request with an unknown CMD, a bad length or CRC is answered BAD_FRAME or CRC_FAIL. -/
  | unknownCommand (i : Nat) (frame : List Byte)
  /-- RESPONSE_READY (R359): A response becomes ready and a UART sends it by itself. -/
  | responseReady (i : Nat)
  /-- RESPONSE_DISCARD (R361): A response not fetched within 2 s is discarded. -/
  | responseDiscard (i : Nat)
  /-- UART_GAP_TIMEOUT (R365): A request with a byte gap over 20 characters is discarded. -/
  | uartGapTimeout (i : Nat)
  /-- HWAKE_N (R367): A falling edge on HWAKE_N held 50 µs raises the HOST wake source. -/
  | hwakeN (bad : Nat)
  /-- SIGN_ON (R366): An optical sign-on message is answered with the identification message. -/
  | signOn (msg : List Byte)
  /-- DATA_READOUT (R366): Acknowledgement option 0 returns the data readout. -/
  | dataReadout
  /-- PROGRAMMING_MODE (R366): Acknowledgement option 1 is unsupported and the port returns to sign-on after 1.5 s. -/
  | programmingMode
  /-- FRAME_MODE (R366): Acknowledgement option 2 switches the optical port to frame mode. -/
  | frameMode
  /-- OPTICAL_TIMEOUT (R366): Silence of 1.5 s or 60 s returns the optical port to the sign-on wait. -/
  | opticalTimeout
  /-- CLAIM_GO (R374): A write of PIN_CLAIM.GO claims a GPIO or timer at run time, or is refused. -/
  | claimGo (m : Master) (w : Word)
  /-- CLAIM_RELEASE (R374): A write of PIN_CLAIM.RELEASE releases a run-time claim. -/
  | claimRelease (m : Master) (w : Word)
  /-- TIMER_START (R377): A write of TIM_CTL.START starts a timer from 0. -/
  | timerStart (m : Master) (n : Nat) (w : Word)
  /-- TIMER_STOP (R377): A write of TIM_CTL.STOP stops a timer. -/
  | timerStop (m : Master) (n : Nat) (w : Word)
  /-- TIMER_MATCH (R377): CNT reaching CMP or LOAD sets MATCH and wraps or stops the timer. -/
  | timerMatch (n cnt : Nat)
  /-- TIMER_CAPTURE (R377): An edge on TIMn_IN copies CNT into CMP. -/
  | timerCapture (n : Nat) (rising : Bool)
  /-- FRAME_NUM_READ (R30): A read of PHE_FRAME_NUM latches PHE_FRAME_POS. -/
  | frameNumRead (m : Master)
  /-- ACC_LO_READ (R120): A read of NRG_ACC_LO_k latches its MID and HI words. -/
  | accLoRead (m : Master) (k : Nat)
  /-- BIL_REG_LO_READ (R183): A read of BIL_REG_LO latches BIL_REG_HI. -/
  | bilRegLoRead (m : Master)
  /-- PAY_CREDIT_LO_READ (R184): A read of PAY_CREDIT_LO latches PAY_CREDIT_HI. -/
  | payCreditLoRead (m : Master)
  /-- WEL_CTR_LO_READ (R255): A read of WEL_CTR_LO latches WEL_CTR_HI. -/
  | welCtrLoRead (m : Master)
  /-- OBJ_READ_CTR_READ (R236): A read of OBJ_READ_CTR latches OBJ_READ_CTR_HI. -/
  | objReadCtrRead (m : Master)
  /-- RTC_SEC_READ (R301): A read of SUP_RTC_SEC latches the sub-second. -/
  | rtcSecRead (m : Master)
  /-- TS_FRAME_READ (R269): A read of EVF_TS_FRAME_l latches its POS and RTC registers. -/
  | tsFrameRead (m : Master) (l : Nat)
  /-- BUS_FAULT_READ (R299): A read of PMU_BUS_FAULT latches PMU_BUS_FAULT_INFO. -/
  | busFaultRead (m : Master)
  /-- BUS_FAULT_INFO_READ (R299): The first read after a latch subtracts the latched count from the live count. -/
  | busFaultInfoRead (m : Master)
  /-- READ_TO_CLEAR (R5): A read of an RC field returns and clears it. -/
  | readToClear (m : Master) (a : Nat) (width : AccessWidth) (ecc : Nat)
  /-- REGISTER_WRITE (R5): A write to a register without a row of its own is applied by its access code and the writer rules. -/
  | registerWrite (m : Master) (a : Nat) (w : Word) (width : AccessWidth) (wd : World)
  /-- MPLL_LOCK (R55): The MPLL locks to its XTAL32 or XTALM reference, and the switch from the provisional FIRC reference is staged for the next epoch. -/
  | mpllLock
  /-- SPLL_LOCK (R293): The SPLL achieves lock, so the system clock moves from FIRC to SPLL ÷ 6 and core clock codes above 0 become allowed. -/
  | spllLock
  /-- STANDBY_CALIBRATION (R73): Once per rotation period a slice that is not a ready spare (the lone standby with one slice retired, or a slice left not ready under R69) is put on the calibration source on its own. -/
  | standbyCalibration
  /-- SOUNDING_REPEAT (R319): A refused or abandoned sounding measurement is requested again 60 s later, or 60 s after a mute line is released. -/
  | soundingRepeat
  /-- COORDINATED_START_UP (R340): A node with no valid fabric record that hears no rescue beacon within 2 × RESCUE seconds of start enters coordinated start-up and its election. -/
  | coordinatedStartUp
  /-- PREAMBLE_DETECTED (R311): A band's preamble detector finds a preamble, and E9 either starts demodulating or, during another demodulation, loses it and sets RX_MISSED. -/
  | preambleDetected (bandC : Bool)
  /-- BLANKING_RATIO (R312): At the end of each whole second E9 updates LMD_BLANK.RATIO and sets BLANK_HIGH when more than 25 % of samples were blanked. -/
  | blankingRatio (samples : List Int)
  /-- LEGAL_COPY_DONE (R243): Copying the slot into the legal partition completes, the KIND 0x0003 change record is written, the copy mark is cleared, LEGAL_DONE is set and the device restarts. -/
  | legalCopyDone (p : Probe)
  /-- LC_PULSE_END (R202): The pulse on LC_A or LC_B that drives a latching load-control relay ends after PULSE ms. -/
  | lcPulseEnd
  /-- DEBUG_START (R300): The debug port requests a start, which runs as a start and sets SUP_RESET_CAUSE.DEBUG. -/
  | debugStart (p : Probe)
deriving DecidableEq, Repr

end Sys2Proof
end

