-- ==== Sys2Proof/Decode.lean ====
section
/-! DEFINITION. The commands a table word spells. -/
namespace Sys2Proof

/-- No row of the command table gives bits: a word spells no command (log 6). -/
def decodeTableWord (_nbits _w : Nat) : Option Instr := none

end Sys2Proof
end

