-- ==== Sys2Proof/Config.lean ====
section
/-! DEFINITION. The free values: constants with no body, for what the spec leaves open (roundings, the numbers of a kernel or a
ROM it does not print) and for mathematics it only names (hashes, signatures, ciphers). A statement that holds for them holds
for every value of them. -/
namespace Sys2Proof.Config

/-- Whether a quotient that is not whole is rounded up (true) or down: the spec fixes no rounding for it (log 3). -/
opaque roundUp : Int → Nat → Bool

/-- The cosine of 2πn/S in units of 2^-30, as the DFT kernel of R107 holds it (log 4). -/
opaque cosK : Nat → Nat → Int

/-- The sine of 2πn/S in units of 2^-30 (log 4). -/
opaque sinK : Nat → Nat → Int

/-- The angle of the vector (re, im) in units of 2^-32 of a turn, in (−1/2, 1/2] turn (log 4). -/
opaque angle : Int → Int → Int

/-- The coefficient of a ROM response in units of 2^-22: CIC order, response index, tap counted from the newest input (R86; log 5). -/
opaque romTap : Nat → Nat → Nat → Int

/-- The Rogowski integrators' leak per sample, 2π · 0.1 / 32 768, in units of 2^-40 (R88; log 5). -/
opaque rogLeak : Int

/-- The resampler's prototype in units of 2^-24, by its position in 1/1024 of an output period, 0 to 16 383 (R93; log 5). -/
opaque protoTap : Nat → Int

/-- The prototype, which ends after its sixteenth tap. -/
def proto (i : Nat) : Int := if i < 16384 then protoTap i else 0

/-- The complex response of a channel's path in units of 2^-30 (R137): CIC order, FIR coefficients, Rogowski integrator, step of the
resampler, frequency in µHz (log 5). -/
opaque pathResponse : Nat → List Int → Bool → Nat → Nat → Int × Int

/-- 10^(x / 20) in units of 2^-24 for x in 0.001 dB other than 0 (R313; log 5). -/
opaque power10 : Int → Nat

/-- A gain in 0.001 dB as a factor in units of 2^-24: 0 dB is unity. -/
def gainOf (x : Int) : Nat := if x = 0 then 2 ^ 24 else power10 x

/-- A free number, one for each value of the state's counter (log 2). -/
opaque freeNat : Nat → Nat

/-- The 256 bits of SHA-256, first byte most significant (log 17). -/
opaque shaBits : List Byte → BitVec 256

/-- SHA-256 of a byte string, as a number with the first byte most significant. -/
def sha256 (b : List Byte) : Nat := (shaBits b).toNat

/-- The 512 bits (r, then s) of a signature that verifies under a public key over a SHA-256 digest: its owner can make one (log 17). -/
opaque goodBits : Nat → Nat → BitVec 512

/-- That signature as a number. -/
def ecdsaGood (key digest : Nat) : Nat := (goodBits key digest).toNat

/-- The other signatures that verify under the key over the digest. -/
opaque ecdsaAlso : Nat → Nat → Nat → Bool

/-- Whether an ECDSA P-256 signature verifies: public key, SHA-256 digest, signature (r, then s). -/
def ecdsaOk (key digest sig : Nat) : Bool := sig == ecdsaGood key digest || ecdsaAlso key digest sig

/-- The 512 bits of an ECDSA P-256 signature under a private key over a SHA-256 digest, with the nonce of RFC 6979 (R260). -/
opaque signBits : Nat → Nat → BitVec 512

/-- That signature as a number. -/
def ecdsaSign (key digest : Nat) : Nat := (signBits key digest).toNat

/-- The 128 bits of AES-CMAC, first byte most significant: key, message. -/
opaque cmacBits : Nat → List Byte → BitVec 128

/-- The 16 bytes of AES-CMAC. -/
def cmac (key : Nat) (m : List Byte) : List Byte := (List.range 16).map fun i => (cmacBits key m).extractLsb' (120 - 8 * i) 8

/-- What the device's DEFLATE compressor makes of a payload (R47), within the bound below. -/
opaque deflateRaw : List Byte → List Byte

/-- The bytes of a payload as the device's DEFLATE compressor writes it: at most its own length and 5 bytes for each started 65 535
bytes (R47). -/
def deflate (p : List Byte) : List Byte := (deflateRaw p).take (p.length + 5 * ((p.length + 65534) / 65535))

/-- Their number. -/
def deflateLen (p : List Byte) : Nat := (deflate p).length

/-- The device's UID in the identity OTP, 128 bits (log 1). -/
opaque uidBits : BitVec 128

/-- The UID as a number, its first byte most significant. -/
def uid : Nat := uidBits.toNat

/-- The Halran device certificate of the identity OTP (R259). -/
opaque certificate : List Byte

/-- The parent key K_p (R248) from the root (true: the test root), p, GEN_p and the UID. -/
opaque parentBits : Bool → Nat → Nat → Nat → BitVec 256

/-- That key as a number. -/
def parentKey (test : Bool) (p gen uid : Nat) : Nat := (parentBits test p gen uid).toNat

/-- The keystream of AES-256-GCM for a 32-byte text: key, nonce. -/
opaque gcmStream : Nat → Nat → BitVec 256

/-- The tag of AES-256-GCM: key, nonce, additional data, ciphertext. -/
opaque tagBits : Nat → Nat → List Byte → Nat → BitVec 128

/-- That tag as a number. -/
def gcmTag (key nonce : Nat) (aad : List Byte) (text : Nat) : Nat := (tagBits key nonce aad text).toNat

/-- A 32-byte text under the keystream, either way. -/
def gcmText (key nonce text : Nat) : Nat := (BitVec.ofNat 256 text ^^^ gcmStream key nonce).toNat

/-- AES-256-GCM decryption: key, nonce, additional data, ciphertext, tag; `none` when the tag fails. -/
def gcmOpen (key nonce : Nat) (aad : List Byte) (text tag : Nat) : Option Nat :=
  if tag = gcmTag key nonce aad text then some (gcmText key nonce text) else none

/-- AES-256-GCM encryption: key, nonce, additional data, plaintext; ciphertext and tag. -/
def gcmSeal (key nonce : Nat) (aad : List Byte) (plain : Nat) : Nat × Nat :=
  (gcmText key nonce plain, gcmTag key nonce aad (gcmText key nonce plain))

/-- Whether a compressed P-256 point (parity of Y, X) lies on the curve (R249). -/
opaque onCurve : Bool → Nat → Bool

/-- The message key KEK of R254 from DTK (true: of the test root), EPH, the UID and COUNTER. -/
opaque kekBits : Bool → Nat → Nat → Nat → BitVec 256

/-- That key as a number. -/
def kek (test : Bool) (eph uid counter : Nat) : Nat := (kekBits test eph uid counter).toNat

/-- The device attestation key, a P-256 scalar (true: under the test root). -/
opaque dakBits : Bool → BitVec 256

/-- That scalar as a number. -/
def dak (test : Bool) : Nat := (dakBits test).toNat

/-- The Y coordinate of a compressed P-256 point (parity of Y, X) (R249). -/
opaque pointY : Bool → Nat → BitVec 256

/-- The P-256 public key (X then Y) that a compressed point stands for. -/
def point (odd : Bool) (x : Nat) : Nat := x * 2 ^ 256 + (pointY odd x).toNat

/-- The P-256 public key (X then Y) of a private scalar. -/
opaque publicBits : Nat → BitVec 512

/-- That key as a number. -/
def publicKey (k : Nat) : Nat := (publicBits k).toNat

/-- The first eight bytes of HMAC-SHA-256(key, "KCV") (R259). -/
opaque kcvBits : Nat → BitVec 64

/-- Those bytes as a number. -/
def kcv (k : Nat) : Nat := (kcvBits k).toNat

/-- The token decoder (R189): the decoder key, whether it is of the 128-bit algorithm, the 66 bits; class, subclass, identifier
and content, `none` when decryption or CRC fail. -/
opaque stsDecode : Nat → Bool → Nat → Option (Nat × Nat × Nat × Nat)

/-- The decoder key that the contents of a complete set of sections carry, in section order (R192). -/
opaque sectionKey : List Nat → Nat

/-- Halran's firmware public key in the boot ROM (R240). -/
opaque firmwareBits : BitVec 512

/-- That key as a number. -/
def firmwareKey : Nat := firmwareBits.toNat

/-- What R47 keeps of the image's PINS section, whose bytes no chapter lays out, before the bound below. -/
opaque reducedRaw : List Byte → List Byte

/-- The bytes of the reduced PINS section (R47) from those of the image's: entries are left out, none is added. -/
def reducedPins (b : List Byte) : List Byte := (reducedRaw b).take b.length

/-- What a method call or a set value means (R228, R232): device object, SEL, DATA; the spec binds no parameter encodings but
the chunk's (log 11). -/
opaque methodOf : Nat → Nat → List Byte → Option Method

/-- The R rights that a device object which the OBJECTS section does not list gives the roles, as a mask (R228 fixes W and X only;
log 11). -/
opaque deviceRead : Nat → Nat

/-- The result code of FAIL (R230), to which R229 gives no number (log 11). -/
opaque failCode : Nat

/-- VTYPE and VALUE of an object's attribute where the spec binds no encoding (R233): device object or other binding, attribute,
what the machine holds of it as numbers (log 11). -/
opaque valueOf : Nat → Nat → List Nat → Nat × List Byte

/-- A line of the data readout (R366) from OBIS code, VTYPE and VALUE, scaler and unit (log 11). -/
opaque readoutText : List Nat → Nat → List Byte → Nat → Nat → List Byte

/-- The bytes of a CREDIT, TIME, ALARM or STATUS message body from its numbers (R333 names the fields only, log 12). -/
opaque bodyOf : Nat → List Nat → List Byte

/-- The numbers a message body of an MTYPE carries (log 12). -/
opaque fieldsOf : Nat → List Byte → List Nat

/-- 0.01 Ω per unit of the quotient of a sounding's voltage and current sums, in units of 2^-24 (R317; log 13). -/
opaque ohmScale : Nat

/-- 10 · log10 of the quotient of two energies, in 0.01 dB (R317; log 13). -/
opaque decibels : Nat → Nat → Int

/-- Whether an entry of a sounding lies above the noise, by the energies of its three channels (R317; log 13). -/
opaque aboveNoise : List Nat → Bool

/-- What the CRC-16 of a frame's header starts from (R306; log 13). -/
opaque headerSeed : BitVec 16

/-- The bytes, after SEQ, of the update record (0), the sounding record (1) and the fabric record (2), of which the spec gives the
fields in order but no sizes (log 14). -/
opaque recordBytes : Nat → List Nat → List Byte

/-- The bytes of a control, advertisement, beacon or announcement body, which the spec does not lay out (log 12). -/
opaque controlBytes : FabBody → List Byte

/-- AES-128 of one block, first byte most significant: key, block. -/
opaque aesBits : Nat → BitVec 128 → BitVec 128

/-- Byte `i` of the AES-128 CTR keystream from the first 15 bytes of its counter blocks, the 16th being the block index (R326). -/
def ctrByte (key : Nat) (head : List Byte) (i : Nat) : Byte :=
  let block := head.foldl (fun n b => 256 * n + b.toNat) 0 * 256 + i / 16 % 256
  (aesBits key (BitVec.ofNat 128 block)).extractLsb' (120 - 8 * (i % 16)) 8

/-- Bytes under that keystream, either way. -/
def ctr (key : Nat) (head : List Byte) (bs : List Byte) : List Byte := bs.zipIdx.map fun e => e.1 ^^^ ctrByte key head e.2

end Sys2Proof.Config
end

