-- ==== Sys2Proof/Machine/Sparse.lean ====
section
/-! DEFINITION. Sparse maps in one canonical form: a list of (key, value) pairs, keys strictly rising, no value equal to the
default an unlisted key reads as.  Registers, byte memories and numbered tables of the machine are held so. -/
namespace Sys2Proof.Machine

/-- A sparse map from natural-number keys. -/
abbrev Sparse (α : Type) := List (Nat × α)

/-- The value at `k`; `d` where the map lists nothing. -/
def sparseGet {α : Type} (d : α) : Sparse α → Nat → α
  | [], _ => d
  | (a, v) :: t, k => if k = a then v else sparseGet d t k

/-- Put `v` at `k`, keeping the canonical form: writing the default removes the entry. -/
def sparseSet {α : Type} [DecidableEq α] (d : α) : Sparse α → Nat → α → Sparse α
  | [], k, v => if v = d then [] else [(k, v)]
  | (a, w) :: t, k, v =>
    if k < a then (if v = d then (a, w) :: t else (k, v) :: (a, w) :: t)
    else if k = a then (if v = d then t else (k, v) :: t)
    else (a, w) :: sparseSet d t k v

/-- Every key of the map lies above `b`, the keys rise strictly and no entry holds the default. -/
def sparseAbove {α : Type} [DecidableEq α] (d : α) : Nat → Sparse α → Bool
  | _, [] => true
  | b, (a, v) :: t => decide (b < a) && decide (v ≠ d) && sparseAbove d a t

/-- The canonical form. -/
def sparseWf {α : Type} [DecidableEq α] (d : α) : Sparse α → Bool
  | [] => true
  | (a, v) :: t => decide (v ≠ d) && sparseAbove d a t

/-- Write a run of values from `k` upwards. -/
def sparseSetMany {α : Type} [DecidableEq α] (d : α) : Sparse α → Nat → List α → Sparse α
  | m, _, [] => m
  | m, k, v :: vs => sparseSetMany d (sparseSet d m k v) (k + 1) vs

/-- Read `n` values from `k` upwards. -/
def sparseGetMany {α : Type} (d : α) (m : Sparse α) (k : Nat) : Nat → List α
  | 0 => []
  | n + 1 => sparseGet d m k :: sparseGetMany d m (k + 1) n

/-- Keep the entries whose key satisfies `p`. -/
def sparseFilter {α : Type} (p : Nat → Bool) (m : Sparse α) : Sparse α := m.filter (fun e => p e.1)

/-- The `i`th element of a list, `d` beyond its end. -/
def nth {α : Type} (d : α) (l : List α) (i : Nat) : α := l.getD i d

/-- Change the `i`th element of a list; nothing beyond its end. -/
def upd {α : Type} (l : List α) (i : Nat) (f : α → α) : List α := l.modify i f

/-- Bit `i` of a number. -/
def bit (n i : Nat) : Bool := n.testBit i

/-- `n` with bit `i` set. -/
def withBit (n i : Nat) : Nat := n ||| (1 <<< i)

/-- `n` with bit `i` cleared. -/
def noBit (n i : Nat) : Nat := if n.testBit i then n - (1 <<< i) else n

/-- 1 for true, 0 for false. -/
def b2n (b : Bool) : Nat := if b then 1 else 0

/-- The number of bits set among the lowest `w` bits. -/
def popCount (n : Nat) : Nat → Nat
  | 0 => 0
  | w + 1 => popCount n w + b2n (n.testBit w)

/-- The two's complement number of the lowest `w` bits of `n`. -/
def signed (w n : Nat) : Int :=
  let m := n % 2 ^ w
  if m < 2 ^ (w - 1) then (m : Int) else (m : Int) - (2 ^ w : Nat)

/-- The lowest `w` bits of the two's complement of `z`. -/
def wrapTo (w : Nat) (z : Int) : Nat := (z % ((2 ^ w : Nat) : Int)).toNat

/-- Saturation to the range `lo` to `hi`. -/
def clampInt (lo hi z : Int) : Int := if z < lo then lo else if hi < z then hi else z

/-- Saturation at `hi`. -/
def satNat (hi n : Nat) : Nat := if hi < n then hi else n

end Sys2Proof.Machine
end

