-- ==== Sys2Proof/Machine/Num.lean ====
section
/-! DEFINITION. The arithmetic the measurement formulas share: quotients whose rounding the spec leaves open, square roots,
little-endian bytes and the CRC-32 of R37. -/
namespace Sys2Proof.Machine

/-- The quotient of exact integers where the spec fixes no rounding: exact when it is whole, else one of its two whole
neighbours, which one is a free value (log 3). -/
def quot (n : Int) (d : Nat) : Int :=
  if n % (d : Int) = 0 then n / (d : Int) else n / (d : Int) + (if Config.roundUp n d then 1 else 0)

/-- The quotient rounded to the nearest whole number, a half rounded up. -/
def nearest (n : Int) (d : Nat) : Int := (2 * n + d) / (2 * (d : Int))

/-- One step of the bitwise square root: try bit `b` of the root. -/
def isqrtGo (n : Nat) : Nat → Nat → Nat
  | 0, r => r
  | b + 1, r => if (r + 2 ^ b) * (r + 2 ^ b) ≤ n then isqrtGo n b (r + 2 ^ b) else isqrtGo n b r

/-- The whole part of the square root. -/
def isqrt (n : Nat) : Nat := isqrtGo n (n.log2 / 2 + 1) 0

/-- The square root where the spec fixes no rounding: exact for a square, else one of the two whole neighbours (log 3). -/
def root (n : Nat) : Nat :=
  if isqrt n * isqrt n = n then isqrt n else isqrt n + (if Config.roundUp n 1 then 1 else 0)

/-- The square root of n / d where the spec fixes no rounding (log 3). -/
def rootQ (n d : Nat) : Nat :=
  let r := isqrt (n / d)
  if r * r * d = n then r else r + (if Config.roundUp n d then 1 else 0)

/-- `n` little-endian bytes of `v`. -/
def le : Nat → Nat → List Byte
  | 0, _ => []
  | n + 1, v => BitVec.ofNat 8 v :: le n (v / 256)

/-- `n` big-endian bytes of `v`. -/
def be (n v : Nat) : List Byte := (le n v).reverse

/-- The number that little-endian bytes hold. -/
def ofLe : List Byte → Nat
  | [] => 0
  | b :: t => b.toNat + 256 * ofLe t

/-- `n` zero bytes. -/
def zeros (n : Nat) : List Byte := List.replicate n 0

/-- One bit of the reflected CRC-32. -/
def crcBit (c : BitVec 32) : BitVec 32 := if c.getLsbD 0 then (c >>> 1) ^^^ 0xEDB88320#32 else c >>> 1

/-- One byte of the CRC-32. -/
def crcByte (c : BitVec 32) (b : Byte) : BitVec 32 :=
  crcBit (crcBit (crcBit (crcBit (crcBit (crcBit (crcBit (crcBit (c ^^^ (b.setWidth 32)))))))))

/-- The CRC-32 of the IEEE 802.3 polynomial (R37). -/
def crc32 (bs : List Byte) : Nat := ((bs.foldl crcByte 0xFFFFFFFF#32) ^^^ 0xFFFFFFFF#32).toNat

/-- One bit of the CRC-16 of R357. -/
def crc16Bit (c : BitVec 16) : BitVec 16 := if c.getLsbD 15 then (c <<< 1) ^^^ 0x1021#16 else c <<< 1

/-- One byte of the CRC-16 of R357. -/
def crc16Byte (c : BitVec 16) (b : Byte) : BitVec 16 :=
  crc16Bit (crc16Bit (crc16Bit (crc16Bit (crc16Bit (crc16Bit (crc16Bit (crc16Bit (c ^^^ ((b.setWidth 16) <<< 8)))))))))

/-- The CRC-16 of R357: polynomial 0x1021, from 0xFFFF, unreflected, no final XOR. -/
def crc16 (bs : List Byte) : Nat := (bs.foldl crc16Byte 0xFFFF#16).toNat

/-- The number a byte string spells, first byte most significant. -/
def ofBe (bs : List Byte) : Nat := bs.foldl (fun a b => a * 256 + b.toNat) 0

/-- Sum of a list of integers. -/
def sumInt (l : List Int) : Int := l.foldl (· + ·) 0

/-- Sum of a list of naturals. -/
def sumNat (l : List Nat) : Nat := l.foldl (· + ·) 0

end Sys2Proof.Machine
end

