-- ==== Sys2Proof/Machine/RegMap.lean ====
section
/-! DEFINITION. The register map: one address per register and one bit field per field, with the access codes, domains and
reset values, as the register tables of the spec's chapters 01 to 17 print them (each register's line and table). -/
namespace Sys2Proof.Machine

/-- The access codes of R5. -/
inductive Acc where
  | rw | ro | wo | w1c | rc | rwh | lk
deriving DecidableEq, Repr

/-- A bit field of the register at `addr`: `width` bits from bit `lo`. -/
structure Fld where
  addr : Nat
  lo : Nat
  width : Nat
deriving DecidableEq, Repr

/-- One field of a register description: its lowest bit, its width and its access code. -/
structure FieldDesc where
  lo : Nat
  width : Nat
  acc : Acc
deriving DecidableEq, Repr

/-- One register line of the spec: `count` registers from `base`, `stride` bytes apart, in domain `dom`, whose numeric
reset value is `reset` (0 where the spec writes Image: R7 reads it as 0 until it has been written). -/
structure RegDesc where
  base : Nat
  stride : Nat
  count : Nat
  dom : Nat
  reset : Nat
  fields : List FieldDesc
deriving DecidableEq, Repr

namespace R
abbrev PHE_PROFILE_CTL : Nat := 0x400a0f00
abbrev PHE_PROFILE_ACK : Nat := 0x400a0f04
abbrev PHE_CAUSE : Nat := 0x400a0f08
abbrev PHE_CAUSE_EN : Nat := 0x400a0f0c
abbrev PHE_FRAME_NUM : Nat := 0x400a0f10
abbrev PHE_FRAME_POS : Nat := 0x400a0f14
abbrev CFG_STATUS : Nat := 0x40070000
abbrev CFG_CAUSE : Nat := 0x40070004
abbrev CFG_CAUSE_EN : Nat := 0x40070008
abbrev CFG_CTL : Nat := 0x4007000c
abbrev CFG_IMAGE_VER : Nat := 0x40070010
abbrev CFG_ROLLBACK_FLOOR : Nat := 0x40070014
abbrev CFG_LEGAL_ID : Nat := 0x40070018
abbrev CFG_FAIL_INFO : Nat := 0x4007001c
abbrev CFG_FIRST_FRAME : Nat := 0x40070020
abbrev CNV_CTL : Nat := 0x40080000
abbrev CNV_STATUS : Nat := 0x40080004
abbrev CNV_CAUSE : Nat := 0x40080008
abbrev CNV_CAUSE_EN : Nat := 0x4008000c
abbrev CNV_MAP : Nat := 0x40080010
abbrev CNV_RETIRED : Nat := 0x40080014
abbrev CNV_CHAN_CFG (n : Nat) : Nat := 0x40080020 + 4 * n
abbrev CNV_SLICE_CFG (n : Nat) : Nat := 0x40080040 + 4 * n
abbrev CNV_SLICE_CAL (n : Nat) : Nat := 0x40080080 + 4 * n
abbrev CNV_PLAUS_LIM_0 : Nat := 0x40080100
abbrev CNV_PLAUS_LIM_1 : Nat := 0x40080104
abbrev CNV_SPLICE_RES : Nat := 0x40080108
abbrev CNV_TAP_CFG : Nat := 0x40080200
abbrev CNV_TAP_DATA : Nat := 0x40080204
abbrev CNV_TAP_STATUS : Nat := 0x40080208
abbrev CNV_SAR_RES (n : Nat) : Nat := 0x40080300 + 4 * n
abbrev CNV_TEMP : Nat := 0x40080340
abbrev CNV_CAL_CTL : Nat := 0x40080400
abbrev CNV_CAL_ENERGY_LO : Nat := 0x40080404
abbrev CNV_CAL_ENERGY_HI : Nat := 0x40080408
abbrev CNV_CAL_REF : Nat := 0x4008040c
abbrev CNV_CHAN_GAIN (n : Nat) : Nat := 0x40080420 + 4 * n
abbrev CNV_CHAN_OFS (n : Nat) : Nat := 0x40080440 + 4 * n
abbrev FLT_CTL : Nat := 0x40090000
abbrev FLT_STATUS : Nat := 0x40090004
abbrev FLT_CAUSE : Nat := 0x40090008
abbrev FLT_CAUSE_EN : Nat := 0x4009000c
abbrev FLT_GROUP_CFG : Nat := 0x40090010
abbrev FLT_CHAN_CFG (n : Nat) : Nat := 0x40090020 + 4 * n
abbrev FLT_DELAY (n : Nat) : Nat := 0x40090040 + 4 * n
abbrev FLT_TRK_CTL : Nat := 0x40090100
abbrev FLT_TRK_FREQ : Nat := 0x40090104
abbrev FLT_TRK_STEP : Nat := 0x40090108
abbrev FLT_TRK_PHASE : Nat := 0x4009010c
abbrev FLT_LEGACY_CFG : Nat := 0x40090200
abbrev FLT_WIN_CFG (n : Nat) : Nat := 0x40090400 + 16 * n
abbrev FLT_WIN_THR (n : Nat) : Nat := 0x40090404 + 16 * n
abbrev FLT_WIN_TS_FRAME (n : Nat) : Nat := 0x40090408 + 16 * n
abbrev FLT_WIN_TS_POS (n : Nat) : Nat := 0x4009040c + 16 * n
abbrev FLT_WIN_TRIP : Nat := 0x40090500
abbrev FLT_LEGACY_COEF (n : Nat) : Nat := 0x40090800 + 4 * n
abbrev PHE_CFG : Nat := 0x400a0000
abbrev PHE_SCALE (n : Nat) : Nat := 0x400a0010 + 4 * n
abbrev PHE_TAMP_CFG : Nat := 0x400a0040
abbrev PHE_NEUT_CFG : Nat := 0x400a0044
abbrev PHE_FRAME_STAT : Nat := 0x400a0048
abbrev PHE_RES (n : Nat) : Nat := 0x400a0100 + 4 * n
abbrev NRG_STATUS : Nat := 0x400b0000
abbrev NRG_CAUSE : Nat := 0x400b0004
abbrev NRG_CAUSE_EN : Nat := 0x400b0008
abbrev NRG_CREEP (n : Nat) : Nat := 0x400b0010 + 4 * n
abbrev NRG_ACC_FRAME : Nat := 0x400b0020
abbrev NRG_FREEZE_FRAME : Nat := 0x400b0024
abbrev NRG_FREEZE_POS : Nat := 0x400b0028
abbrev NRG_RESTORE : Nat := 0x400b002c
abbrev NRG_PULSE_CFG (n : Nat) : Nat := 0x400b0040 + 16 * n
abbrev NRG_PULSE_CONST (n : Nat) : Nat := 0x400b0044 + 16 * n
abbrev NRG_PULSE_CNT (n : Nat) : Nat := 0x400b0048 + 16 * n
abbrev NRG_PULSE_STAT (n : Nat) : Nat := 0x400b004c + 16 * n
abbrev NRG_ACC_LO (n : Nat) : Nat := 0x400b1000 + 16 * n
abbrev NRG_ACC_MID (n : Nat) : Nat := 0x400b1004 + 16 * n
abbrev NRG_ACC_HI (n : Nat) : Nat := 0x400b1008 + 16 * n
abbrev SPE_CFG : Nat := 0x400c0000
abbrev SPE_STATUS : Nat := 0x400c0004
abbrev SPE_CAUSE : Nat := 0x400c0008
abbrev SPE_CAUSE_EN : Nat := 0x400c000c
abbrev SPE_FRAME_STAT : Nat := 0x400c0010
abbrev SPE_DIST_MASK : Nat := 0x400c0014
abbrev SPE_PQ_THR : Nat := 0x400c0020
abbrev SPE_PQ_LINES : Nat := 0x400c0024
abbrev SPE_PQ_STATE : Nat := 0x400c0028
abbrev SPE_EVT_CTL : Nat := 0x400c0030
abbrev SPE_EVT_WORD (n : Nat) : Nat := 0x400c0040 + 4 * n
abbrev SPE_THD (n : Nat) : Nat := 0x400c0080 + 4 * n
abbrev SPE_SH_STAT : Nat := 0x400c00a0
abbrev SPE_RES_SEL : Nat := 0x400c0100
abbrev SPE_RES_FRAME : Nat := 0x400c0104
abbrev SPE_RES (n : Nat) : Nat := 0x400c1000 + 4 * n
abbrev SPE_CAP_CFG : Nat := 0x400c0200
abbrev SPE_CAP_TRIG_LO : Nat := 0x400c0204
abbrev SPE_CAP_TRIG_HI : Nat := 0x400c0208
abbrev SPE_CAP_CTL : Nat := 0x400c020c
abbrev SPE_CAP_STATUS : Nat := 0x400c0210
abbrev SPE_CAP_FULL : Nat := 0x400c0214
abbrev SPE_PART (n : Nat) : Nat := 0x400c0220 + 4 * n
abbrev SPE_TAP_PTR : Nat := 0x400c0230
abbrev BIL_STATUS : Nat := 0x400d0000
abbrev BIL_CAUSE : Nat := 0x400d0004
abbrev BIL_CAUSE_EN : Nat := 0x400d0008
abbrev BIL_CTL : Nat := 0x400d000c
abbrev BIL_LAST : Nat := 0x400d0010
abbrev BIL_SNAP_NUM : Nat := 0x400d0014
abbrev BIL_DEM_IDX : Nat := 0x400d0018
abbrev BIL_DEM_CFG : Nat := 0x400d0020
abbrev BIL_CLOSE_CFG : Nat := 0x400d0024
abbrev BIL_PROF_CFG : Nat := 0x400d0028
abbrev BIL_PROF_CH (n : Nat) : Nat := 0x400d0030 + 4 * n
abbrev BIL_REG_SEL : Nat := 0x400d0050
abbrev BIL_REG_LO : Nat := 0x400d0054
abbrev BIL_REG_HI : Nat := 0x400d0058
abbrev BIL_DISP (n : Nat) : Nat := 0x400d0100 + 4 * n
abbrev BIL_DISP_CFG (n : Nat) : Nat := 0x400d0140 + 4 * n
abbrev TAR_STATUS : Nat := 0x400e0000
abbrev TAR_CAUSE : Nat := 0x400e0004
abbrev TAR_CAUSE_EN : Nat := 0x400e0008
abbrev TAR_LOCAL_CFG : Nat := 0x400e0010
abbrev TAR_ADJ_CFG : Nat := 0x400e0014
abbrev TAR_ADJ_REQ : Nat := 0x400e0018
abbrev TAR_ADJ_REM : Nat := 0x400e001c
abbrev TAR_LOCAL_TIME : Nat := 0x400e0020
abbrev PAY_STATUS : Nat := 0x400f0000
abbrev PAY_CAUSE : Nat := 0x400f0004
abbrev PAY_CAUSE_EN : Nat := 0x400f0008
abbrev PAY_CREDIT_LO : Nat := 0x400f0010
abbrev PAY_CREDIT_HI : Nat := 0x400f0014
abbrev PAY_MONTH : Nat := 0x400f0018
abbrev PAY_MPL : Nat := 0x400f001c
abbrev PAY_TOKEN (n : Nat) : Nat := 0x400f0020 + 4 * n
abbrev PAY_TOKEN_CTL : Nat := 0x400f002c
abbrev PAY_TOKEN_RES : Nat := 0x400f0030
abbrev RLY_STATUS : Nat := 0x40100000
abbrev RLY_CAUSE : Nat := 0x40100004
abbrev RLY_CAUSE_EN : Nat := 0x40100008
abbrev RLY_CTL : Nat := 0x4010000c
abbrev RLY_MAIN_CFG : Nat := 0x40100010
abbrev RLY_LC_CFG : Nat := 0x40100014
abbrev RLY_LC_WAIT : Nat := 0x40100018
abbrev RLY_OPS : Nat := 0x4010001c
abbrev CIS_CFG : Nat := 0x40110000
abbrev CIS_STATUS : Nat := 0x40110004
abbrev CIS_CAUSE : Nat := 0x40110008
abbrev CIS_CAUSE_EN : Nat := 0x4011000c
abbrev CIS_CTL : Nat := 0x40110010
abbrev CIS_REPORT : Nat := 0x40110014
abbrev CIS_QUEUE : Nat := 0x40110018
abbrev CIS_RECALL : Nat := 0x40110020
abbrev CIS_COUNT : Nat := 0x40110024
abbrev CIS_HOST_PW_0 : Nat := 0x40110030
abbrev CIS_HOST_PW_1 : Nat := 0x40110034
abbrev CIS_HOST_UNLOCK : Nat := 0x40110038
abbrev CIS_HOST_ACCESS : Nat := 0x4011003c
abbrev CIS_STAMP (n : Nat) : Nat := 0x40110100 + 4 * n
abbrev CIS_WEAR (n : Nat) : Nat := 0x40110140 + 4 * n
abbrev OBJ_STATUS : Nat := 0x40120000
abbrev OBJ_CAUSE : Nat := 0x40120004
abbrev OBJ_CAUSE_EN : Nat := 0x40120008
abbrev OBJ_SESS_CFG : Nat := 0x40120010
abbrev OBJ_SESS (n : Nat) : Nat := 0x40120020 + 4 * n
abbrev OBJ_READ_CTR : Nat := 0x40120040
abbrev OBJ_READ_RESERVE : Nat := 0x40120044
abbrev OBJ_READ_CTR_HI : Nat := 0x40120048
abbrev OBJ_LEGAL_LOG : Nat := 0x40120050
abbrev UPD_STATUS : Nat := 0x401b0000
abbrev UPD_CAUSE : Nat := 0x401b0004
abbrev UPD_CAUSE_EN : Nat := 0x401b0008
abbrev UPD_CTL : Nat := 0x401b000c
abbrev UPD_LEN : Nat := 0x401b0010
abbrev UPD_VER (n : Nat) : Nat := 0x401b0020 + 4 * n
abbrev UPD_FLOOR : Nat := 0x401b0028
abbrev WEL_STATUS : Nat := 0x40130000
abbrev WEL_CAUSE : Nat := 0x40130004
abbrev WEL_CAUSE_EN : Nat := 0x40130008
abbrev WEL_CFG : Nat := 0x4013000c
abbrev WEL_KU_RES : Nat := 0x40130010
abbrev WEL_CTR_LO : Nat := 0x40130014
abbrev WEL_CTR_HI : Nat := 0x40130018
abbrev WEL_DECODER : Nat := 0x4013001c
abbrev WEL_GEN (n : Nat) : Nat := 0x40130100 + 4 * n
abbrev WEL_OTP_CTL : Nat := 0x40130200
abbrev WEL_OTP_DATA (n : Nat) : Nat := 0x40130210 + 4 * n
abbrev SEC_STATUS : Nat := 0x40140000
abbrev SEC_CAUSE : Nat := 0x40140004
abbrev SEC_CAUSE_EN : Nat := 0x40140008
abbrev SEC_TRNG_STAT : Nat := 0x4014000c
abbrev EVF_STATUS (n : Nat) : Nat := 0x40040000 + 4 * n
abbrev EVF_CAUSE (n : Nat) : Nat := 0x40040008 + 4 * n
abbrev EVF_CAUSE_EN (n : Nat) : Nat := 0x40040010 + 4 * n
abbrev EVF_BLANK (n : Nat) : Nat := 0x40040020 + 4 * n
abbrev EVF_MUTE (n : Nat) : Nat := 0x40040028 + 4 * n
abbrev EVF_FREEZE (n : Nat) : Nat := 0x40040030 + 4 * n
abbrev EVF_TS_EN (n : Nat) : Nat := 0x40040038 + 4 * n
abbrev EVF_PROD_CFG (n : Nat) : Nat := 0x40040100 + 4 * n
abbrev EVF_TS_FRAME (n : Nat) : Nat := 0x40041000 + 16 * n
abbrev EVF_TS_POS (n : Nat) : Nat := 0x40041004 + 16 * n
abbrev EVF_TS_RTC (n : Nat) : Nat := 0x40041008 + 16 * n
abbrev TAMP_STATUS : Nat := 0x40050000
abbrev TAMP_CAUSE : Nat := 0x40050004
abbrev TAMP_CAUSE_EN : Nat := 0x40050008
abbrev TAMP_CTL : Nat := 0x4005000c
abbrev TAMP_LASTING (n : Nat) : Nat := 0x40050010 + 4 * n
abbrev TAMP_IN_CFG : Nat := 0x40050020
abbrev TAMP_MAG_CFG : Nat := 0x40050024
abbrev TAMP_MAG_VAL : Nat := 0x40050028
abbrev TAMP_CRK_CFG : Nat := 0x4005002c
abbrev TAMP_FC_CFG (n : Nat) : Nat := 0x40051000 + 16 * n
abbrev TAMP_FC_QUIET (n : Nat) : Nat := 0x40051004 + 16 * n
abbrev TAMP_FC_RESP (n : Nat) : Nat := 0x40051008 + 16 * n
abbrev TAMP_FC_STAT (n : Nat) : Nat := 0x4005100c + 16 * n
abbrev SUP_ID : Nat := 0x40000000
abbrev SUP_UID (n : Nat) : Nat := 0x40000010 + 4 * n
abbrev SUP_RESET_CAUSE : Nat := 0x40000020
abbrev SUP_RUN : Nat := 0x40000024
abbrev SUP_RTC_SEC : Nat := 0x40000030
abbrev SUP_RTC_STATUS : Nat := 0x40000034
abbrev SUP_RTC_ALARM : Nat := 0x40000038
abbrev PMU_CTL : Nat := 0x40010000
abbrev PMU_STATE : Nat := 0x40010004
abbrev PMU_CAUSE : Nat := 0x40010008
abbrev PMU_CAUSE_EN : Nat := 0x4001000c
abbrev PMU_ENTRY_RES : Nat := 0x40010010
abbrev PMU_WAKE_EN : Nat := 0x40010014
abbrev PMU_WAKE_CAUSE : Nat := 0x40010018
abbrev PMU_DOM_STATUS : Nat := 0x40010020
abbrev PMU_VMON : Nat := 0x40010030
abbrev PMU_NAP_CFG : Nat := 0x40010034
abbrev PMU_DOM_CFG (n : Nat) : Nat := 0x40010040 + 4 * n
abbrev PMU_BUS_FAULT : Nat := 0x40010070
abbrev PMU_BUS_FAULT_INFO : Nat := 0x40010074
abbrev CLK_CTL : Nat := 0x40020000
abbrev CLK_STATUS : Nat := 0x40020004
abbrev CLK_CAUSE : Nat := 0x40020008
abbrev CLK_CAUSE_EN : Nat := 0x4002000c
abbrev CLK_CFG : Nat := 0x40020010
abbrev LMD_CFG : Nat := 0x40150000
abbrev LMD_STATUS : Nat := 0x40150004
abbrev LMD_CAUSE : Nat := 0x40150008
abbrev LMD_CAUSE_EN : Nat := 0x4015000c
abbrev LMD_TX_CFG : Nat := 0x40150010
abbrev LMD_TONE_MASK : Nat := 0x40150014
abbrev LMD_LBT_CFG : Nat := 0x40150018
abbrev LMD_BLANK : Nat := 0x4015001c
abbrev LMD_RX_STAT : Nat := 0x40150020
abbrev LMD_ZC_CYCLE : Nat := 0x40150024
abbrev LMD_RX_PHASE : Nat := 0x40150028
abbrev LMD_SND_CFG : Nat := 0x40150030
abbrev LMD_SND_CTL : Nat := 0x40150034
abbrev LMD_SND_STATUS : Nat := 0x40150038
abbrev LMD_SND_RES : Nat := 0x4015003c
abbrev LMD_SND_BASE (n : Nat) : Nat := 0x40150040 + 4 * n
abbrev LMD_COUP (n : Nat) : Nat := 0x40150400 + 4 * n
abbrev FAB_CFG : Nat := 0x40160000
abbrev FAB_STATUS : Nat := 0x40160004
abbrev FAB_CAUSE : Nat := 0x40160008
abbrev FAB_CAUSE_EN : Nat := 0x4016000c
abbrev FAB_TIMING : Nat := 0x40160010
abbrev FAB_CTL : Nat := 0x40160014
abbrev FAB_ANNOUNCE : Nat := 0x40160018
abbrev FAB_ADDR : Nat := 0x40160020
abbrev FAB_EUI_LO : Nat := 0x40160024
abbrev FAB_EUI_HI : Nat := 0x40160028
abbrev FAB_FCN : Nat := 0x40160030
abbrev FAB_ACT_FCN : Nat := 0x40160034
abbrev FAB_ROUTE_SEL : Nat := 0x40160040
abbrev FAB_ROUTE : Nat := 0x40160044
abbrev FAB_ROUTE_INFO : Nat := 0x40160048
abbrev FAB_COUNT (n : Nat) : Nat := 0x40160050 + 4 * n
abbrev PNL_CTL : Nat := 0x40170000
abbrev PNL_STATUS : Nat := 0x40170004
abbrev PNL_CAUSE : Nat := 0x40170008
abbrev PNL_CAUSE_EN : Nat := 0x4017000c
abbrev PNL_CFG : Nat := 0x40170010
abbrev PNL_PUMP_CFG : Nat := 0x40170014
abbrev PNL_AREA (n : Nat) : Nat := 0x40170020 + 4 * n
abbrev PNL_GLOW_CFG : Nat := 0x40170030
abbrev PNL_BLINK (n : Nat) : Nat := 0x40170040 + 4 * n
abbrev PNL_RAM (n : Nat) : Nat := 0x40171000 + 4 * n
abbrev KPD_CFG : Nat := 0x40180000
abbrev KPD_STATUS : Nat := 0x40180004
abbrev KPD_CAUSE : Nat := 0x40180008
abbrev KPD_CAUSE_EN : Nat := 0x4018000c
abbrev KPD_EVENT : Nat := 0x40180010
abbrev HIF_CFG : Nat := 0x40190000
abbrev HIF_STATUS : Nat := 0x40190004
abbrev HIF_CAUSE : Nat := 0x40190008
abbrev HIF_CAUSE_EN : Nat := 0x4019000c
abbrev HIF_UART_CFG (n : Nat) : Nat := 0x40190010 + 4 * n
abbrev INT_SUMMARY : Nat := 0x40030000
abbrev INT_CORE_EN (n : Nat) : Nat := 0x40030000 + 4 * n
abbrev INT_HOST_EN : Nat := 0x40030010
abbrev INT_HOST_PEND : Nat := 0x40030014
abbrev PIN_CAUSE : Nat := 0x40060000
abbrev PIN_CAUSE_EN : Nat := 0x40060004
abbrev PIN_CLAIM : Nat := 0x40060008
abbrev PIN_GPIO_OUT (n : Nat) : Nat := 0x40060020 + 4 * n
abbrev PIN_GPIO_IN (n : Nat) : Nat := 0x40060040 + 4 * n
abbrev PIN_PAD (n : Nat) : Nat := 0x40060100 + 4 * n
abbrev TIM_CTL (n : Nat) : Nat := 0x401a0000 + 16 * n
abbrev TIM_LOAD (n : Nat) : Nat := 0x401a0004 + 16 * n
abbrev TIM_CMP (n : Nat) : Nat := 0x401a0008 + 16 * n
abbrev TIM_CNT (n : Nat) : Nat := 0x401a000c + 16 * n
abbrev TIM_CAUSE : Nat := 0x401a0100
abbrev TIM_CAUSE_EN : Nat := 0x401a0104
end R

namespace F
abbrev PHE_PROFILE_CTL_REQ : Fld := ⟨R.PHE_PROFILE_CTL, 0, 2⟩
abbrev PHE_PROFILE_CTL_STAGE : Fld := ⟨R.PHE_PROFILE_CTL, 8, 1⟩
abbrev PHE_PROFILE_CTL_ACTIVE : Fld := ⟨R.PHE_PROFILE_CTL, 16, 2⟩
abbrev PHE_PROFILE_CTL_PENDING : Fld := ⟨R.PHE_PROFILE_CTL, 18, 1⟩
abbrev PHE_PROFILE_ACK_ACK : Fld := ⟨R.PHE_PROFILE_ACK, 0, 6⟩
abbrev PHE_PROFILE_ACK_MISSING : Fld := ⟨R.PHE_PROFILE_ACK, 8, 6⟩
abbrev PHE_CAUSE_PROFILE_DONE : Fld := ⟨R.PHE_CAUSE, 0, 1⟩
abbrev PHE_CAUSE_PROFILE_ROLLBACK : Fld := ⟨R.PHE_CAUSE, 1, 1⟩
abbrev PHE_CAUSE_PROFILE_REFUSED : Fld := ⟨R.PHE_CAUSE, 2, 1⟩
abbrev PHE_CAUSE_FRAME_WRAP : Fld := ⟨R.PHE_CAUSE, 3, 1⟩
abbrev PHE_CAUSE_RING_MERGE : Fld := ⟨R.PHE_CAUSE, 4, 1⟩
abbrev PHE_CAUSE_NOLOAD_ENTER : Fld := ⟨R.PHE_CAUSE, 8, 1⟩
abbrev PHE_CAUSE_NOLOAD_LEAVE : Fld := ⟨R.PHE_CAUSE, 9, 1⟩
abbrev PHE_CAUSE_IMBALANCE : Fld := ⟨R.PHE_CAUSE, 10, 1⟩
abbrev PHE_CAUSE_REVERSE : Fld := ⟨R.PHE_CAUSE, 11, 1⟩
abbrev PHE_CAUSE_DC_INJECT : Fld := ⟨R.PHE_CAUSE, 12, 1⟩
abbrev PHE_CAUSE_HANDOFF_MISMATCH : Fld := ⟨R.PHE_CAUSE, 13, 1⟩
abbrev PHE_CAUSE_PF_DETECT : Fld := ⟨R.PHE_CAUSE, 14, 1⟩
abbrev PHE_CAUSE_EN_EN : Fld := ⟨R.PHE_CAUSE_EN, 0, 5⟩
abbrev PHE_CAUSE_EN_EN_M : Fld := ⟨R.PHE_CAUSE_EN, 8, 7⟩
abbrev PHE_FRAME_NUM_FRAME : Fld := ⟨R.PHE_FRAME_NUM, 0, 32⟩
abbrev PHE_FRAME_POS_SAMPLE : Fld := ⟨R.PHE_FRAME_POS, 0, 12⟩
abbrev PHE_FRAME_POS_NOMINAL : Fld := ⟨R.PHE_FRAME_POS, 12, 1⟩
abbrev PHE_FRAME_POS_RATE : Fld := ⟨R.PHE_FRAME_POS, 16, 2⟩
abbrev PHE_FRAME_POS_VALID : Fld := ⟨R.PHE_FRAME_POS, 31, 1⟩
abbrev CFG_STATUS_STATE : Fld := ⟨R.CFG_STATUS, 0, 3⟩
abbrev CFG_STATUS_SOURCE : Fld := ⟨R.CFG_STATUS, 3, 2⟩
abbrev CFG_STATUS_GUARDED : Fld := ⟨R.CFG_STATUS, 5, 1⟩
abbrev CFG_STATUS_TAMPER_PENDING : Fld := ⟨R.CFG_STATUS, 6, 1⟩
abbrev CFG_STATUS_FALLBACK : Fld := ⟨R.CFG_STATUS, 7, 1⟩
abbrev CFG_STATUS_REREAD_BUSY : Fld := ⟨R.CFG_STATUS, 8, 1⟩
abbrev CFG_STATUS_PROVISIONAL_CLK : Fld := ⟨R.CFG_STATUS, 9, 1⟩
abbrev CFG_CAUSE_NO_MEMORY : Fld := ⟨R.CFG_CAUSE, 0, 1⟩
abbrev CFG_CAUSE_MAGIC_FAIL : Fld := ⟨R.CFG_CAUSE, 1, 1⟩
abbrev CFG_CAUSE_CRC_FAIL : Fld := ⟨R.CFG_CAUSE, 2, 1⟩
abbrev CFG_CAUSE_SECTION_FAIL : Fld := ⟨R.CFG_CAUSE, 3, 1⟩
abbrev CFG_CAUSE_NO_AUTHORITY : Fld := ⟨R.CFG_CAUSE, 4, 1⟩
abbrev CFG_CAUSE_SIG_FAIL : Fld := ⟨R.CFG_CAUSE, 5, 1⟩
abbrev CFG_CAUSE_ROLLBACK : Fld := ⟨R.CFG_CAUSE, 6, 1⟩
abbrev CFG_CAUSE_LEGAL_ID_FAIL : Fld := ⟨R.CFG_CAUSE, 7, 1⟩
abbrev CFG_CAUSE_CLAIM_CONFLICT : Fld := ⟨R.CFG_CAUSE, 8, 1⟩
abbrev CFG_CAUSE_FALLBACK_SIZE : Fld := ⟨R.CFG_CAUSE, 9, 1⟩
abbrev CFG_CAUSE_REREAD_DONE : Fld := ⟨R.CFG_CAUSE, 10, 1⟩
abbrev CFG_CAUSE_REREAD_FAIL : Fld := ⟨R.CFG_CAUSE, 11, 1⟩
abbrev CFG_CAUSE_REREAD_REFUSED : Fld := ⟨R.CFG_CAUSE, 12, 1⟩
abbrev CFG_CAUSE_GUARD_RELEASED : Fld := ⟨R.CFG_CAUSE, 13, 1⟩
abbrev CFG_CAUSE_EN_EN : Fld := ⟨R.CFG_CAUSE_EN, 0, 14⟩
abbrev CFG_CTL_REREAD : Fld := ⟨R.CFG_CTL, 0, 1⟩
abbrev CFG_CTL_KEY : Fld := ⟨R.CFG_CTL, 8, 8⟩
abbrev CFG_IMAGE_VER_VERSION : Fld := ⟨R.CFG_IMAGE_VER, 0, 32⟩
abbrev CFG_ROLLBACK_FLOOR_FLOOR : Fld := ⟨R.CFG_ROLLBACK_FLOOR, 0, 32⟩
abbrev CFG_LEGAL_ID_ID : Fld := ⟨R.CFG_LEGAL_ID, 0, 32⟩
abbrev CFG_FAIL_INFO_SECTION : Fld := ⟨R.CFG_FAIL_INFO, 0, 16⟩
abbrev CFG_FAIL_INFO_KIND : Fld := ⟨R.CFG_FAIL_INFO, 16, 2⟩
abbrev CFG_FAIL_INFO_INDEX : Fld := ⟨R.CFG_FAIL_INFO, 24, 8⟩
abbrev CFG_FIRST_FRAME_TIME_100US : Fld := ⟨R.CFG_FIRST_FRAME, 0, 16⟩
abbrev CNV_CTL_PERIOD : Fld := ⟨R.CNV_CTL, 0, 10⟩
abbrev CNV_CTL_ROT_EN : Fld := ⟨R.CNV_CTL, 10, 1⟩
abbrev CNV_CTL_RELIEVE_CHAN : Fld := ⟨R.CNV_CTL, 16, 3⟩
abbrev CNV_CTL_RELIEVE_NOW : Fld := ⟨R.CNV_CTL, 19, 1⟩
abbrev CNV_STATUS_ROT_STATE : Fld := ⟨R.CNV_STATUS, 0, 3⟩
abbrev CNV_STATUS_SPARE_A : Fld := ⟨R.CNV_STATUS, 3, 4⟩
abbrev CNV_STATUS_SPARE_B : Fld := ⟨R.CNV_STATUS, 7, 4⟩
abbrev CNV_STATUS_REL_CHAN : Fld := ⟨R.CNV_STATUS, 11, 3⟩
abbrev CNV_STATUS_RETIRED_N : Fld := ⟨R.CNV_STATUS, 14, 4⟩
abbrev CNV_STATUS_DEGRADED : Fld := ⟨R.CNV_STATUS, 18, 1⟩
abbrev CNV_STATUS_CONV_FAULT : Fld := ⟨R.CNV_STATUS, 19, 1⟩
abbrev CNV_STATUS_CAL_UNSAVED : Fld := ⟨R.CNV_STATUS, 20, 1⟩
abbrev CNV_STATUS_TEMP_DISAGREE : Fld := ⟨R.CNV_STATUS, 21, 1⟩
abbrev CNV_CAUSE_SPLICE_DONE : Fld := ⟨R.CNV_CAUSE, 0, 1⟩
abbrev CNV_CAUSE_SPLICE_FAIL : Fld := ⟨R.CNV_CAUSE, 1, 1⟩
abbrev CNV_CAUSE_ROT_SKIP : Fld := ⟨R.CNV_CAUSE, 2, 1⟩
abbrev CNV_CAUSE_ROT_DEFER : Fld := ⟨R.CNV_CAUSE, 3, 1⟩
abbrev CNV_CAUSE_CAL_FAIL : Fld := ⟨R.CNV_CAUSE, 4, 1⟩
abbrev CNV_CAUSE_RETIRE : Fld := ⟨R.CNV_CAUSE, 5, 1⟩
abbrev CNV_CAUSE_CONV_FAULT : Fld := ⟨R.CNV_CAUSE, 6, 1⟩
abbrev CNV_CAUSE_OVR : Fld := ⟨R.CNV_CAUSE, 7, 1⟩
abbrev CNV_CAUSE_HARD_FAULT : Fld := ⟨R.CNV_CAUSE, 8, 1⟩
abbrev CNV_CAUSE_RELIEVE_REFUSED : Fld := ⟨R.CNV_CAUSE, 9, 1⟩
abbrev CNV_CAUSE_TAP_OVERRUN : Fld := ⟨R.CNV_CAUSE, 10, 1⟩
abbrev CNV_CAUSE_CAL_DONE : Fld := ⟨R.CNV_CAUSE, 11, 1⟩
abbrev CNV_CAUSE_CAL_COMMITTED : Fld := ⟨R.CNV_CAUSE, 12, 1⟩
abbrev CNV_CAUSE_BAND_CHANGE : Fld := ⟨R.CNV_CAUSE, 13, 1⟩
abbrev CNV_CAUSE_TEMP_DISAGREE : Fld := ⟨R.CNV_CAUSE, 14, 1⟩
abbrev CNV_CAUSE_CFG_REFUSED : Fld := ⟨R.CNV_CAUSE, 15, 1⟩
abbrev CNV_CAUSE_EN_EN : Fld := ⟨R.CNV_CAUSE_EN, 0, 16⟩
abbrev CNV_MAP_SLICE : Fld := ⟨R.CNV_MAP, 0, 32⟩
abbrev CNV_RETIRED_SLICE : Fld := ⟨R.CNV_RETIRED, 0, 10⟩
abbrev CNV_CHAN_CFG_PGA (n : Nat) : Fld := ⟨R.CNV_CHAN_CFG n, 0, 3⟩
abbrev CNV_CHAN_CFG_SENSOR (n : Nat) : Fld := ⟨R.CNV_CHAN_CFG n, 3, 2⟩
abbrev CNV_CHAN_CFG_IDLE (n : Nat) : Fld := ⟨R.CNV_CHAN_CFG n, 5, 1⟩
abbrev CNV_CHAN_CFG_FAILED (n : Nat) : Fld := ⟨R.CNV_CHAN_CFG n, 6, 1⟩
abbrev CNV_CHAN_CFG_OVR (n : Nat) : Fld := ⟨R.CNV_CHAN_CFG n, 7, 1⟩
abbrev CNV_SLICE_CFG_ROLE (n : Nat) : Fld := ⟨R.CNV_SLICE_CFG n, 0, 2⟩
abbrev CNV_SLICE_CFG_CHAN (n : Nat) : Fld := ⟨R.CNV_SLICE_CFG n, 2, 3⟩
abbrev CNV_SLICE_CFG_PGA (n : Nat) : Fld := ⟨R.CNV_SLICE_CFG n, 5, 3⟩
abbrev CNV_SLICE_CFG_READY (n : Nat) : Fld := ⟨R.CNV_SLICE_CFG n, 8, 1⟩
abbrev CNV_SLICE_CFG_FAULTS (n : Nat) : Fld := ⟨R.CNV_SLICE_CFG n, 12, 4⟩
abbrev CNV_SLICE_CFG_DELAY (n : Nat) : Fld := ⟨R.CNV_SLICE_CFG n, 16, 12⟩
abbrev CNV_SLICE_CAL_GAIN (n : Nat) : Fld := ⟨R.CNV_SLICE_CAL n, 0, 16⟩
abbrev CNV_SLICE_CAL_OFFSET (n : Nat) : Fld := ⟨R.CNV_SLICE_CAL n, 16, 16⟩
abbrev CNV_PLAUS_LIM_0_GAIN : Fld := ⟨R.CNV_PLAUS_LIM_0, 0, 11⟩
abbrev CNV_PLAUS_LIM_0_DELAY : Fld := ⟨R.CNV_PLAUS_LIM_0, 16, 10⟩
abbrev CNV_PLAUS_LIM_1_OFS : Fld := ⟨R.CNV_PLAUS_LIM_1, 0, 7⟩
abbrev CNV_PLAUS_LIM_1_RESID : Fld := ⟨R.CNV_PLAUS_LIM_1, 16, 7⟩
abbrev CNV_SPLICE_RES_CHAN : Fld := ⟨R.CNV_SPLICE_RES, 0, 3⟩
abbrev CNV_SPLICE_RES_OLD : Fld := ⟨R.CNV_SPLICE_RES, 3, 4⟩
abbrev CNV_SPLICE_RES_NEW : Fld := ⟨R.CNV_SPLICE_RES, 7, 4⟩
abbrev CNV_SPLICE_RES_RESULT : Fld := ⟨R.CNV_SPLICE_RES, 11, 2⟩
abbrev CNV_SPLICE_RES_GAIN_ASSESSED : Fld := ⟨R.CNV_SPLICE_RES, 13, 1⟩
abbrev CNV_SPLICE_RES_DELAY_ASSESSED : Fld := ⟨R.CNV_SPLICE_RES, 14, 1⟩
abbrev CNV_SPLICE_RES_RESTARTS : Fld := ⟨R.CNV_SPLICE_RES, 15, 2⟩
abbrev CNV_SPLICE_RES_FAILED : Fld := ⟨R.CNV_SPLICE_RES, 17, 4⟩
abbrev CNV_TAP_CFG_MODE : Fld := ⟨R.CNV_TAP_CFG, 0, 2⟩
abbrev CNV_TAP_CFG_SEL_KIND : Fld := ⟨R.CNV_TAP_CFG, 2, 1⟩
abbrev CNV_TAP_CFG_SEL : Fld := ⟨R.CNV_TAP_CFG, 3, 4⟩
abbrev CNV_TAP_CFG_DEST : Fld := ⟨R.CNV_TAP_CFG, 7, 1⟩
abbrev CNV_TAP_DATA_SAMPLE : Fld := ⟨R.CNV_TAP_DATA, 0, 24⟩
abbrev CNV_TAP_DATA_SEQ : Fld := ⟨R.CNV_TAP_DATA, 24, 7⟩
abbrev CNV_TAP_DATA_VALID : Fld := ⟨R.CNV_TAP_DATA, 31, 1⟩
abbrev CNV_TAP_STATUS_LEVEL : Fld := ⟨R.CNV_TAP_STATUS, 0, 5⟩
abbrev CNV_TAP_STATUS_OVERRUN : Fld := ⟨R.CNV_TAP_STATUS, 8, 1⟩
abbrev CNV_TAP_STATUS_DROPPED : Fld := ⟨R.CNV_TAP_STATUS, 16, 16⟩
abbrev CNV_SAR_RES_VALUE (n : Nat) : Fld := ⟨R.CNV_SAR_RES n, 0, 16⟩
abbrev CNV_SAR_RES_NEW (n : Nat) : Fld := ⟨R.CNV_SAR_RES n, 31, 1⟩
abbrev CNV_TEMP_TEMP : Fld := ⟨R.CNV_TEMP, 0, 16⟩
abbrev CNV_TEMP_BAND : Fld := ⟨R.CNV_TEMP, 16, 3⟩
abbrev CNV_TEMP_PENDING_BAND : Fld := ⟨R.CNV_TEMP, 20, 3⟩
abbrev CNV_TEMP_PENDING : Fld := ⟨R.CNV_TEMP, 23, 1⟩
abbrev CNV_CAL_CTL_PHASE : Fld := ⟨R.CNV_CAL_CTL, 0, 2⟩
abbrev CNV_CAL_CTL_QTY : Fld := ⟨R.CNV_CAL_CTL, 2, 1⟩
abbrev CNV_CAL_CTL_FRAMES : Fld := ⟨R.CNV_CAL_CTL, 8, 12⟩
abbrev CNV_CAL_CTL_START : Fld := ⟨R.CNV_CAL_CTL, 24, 1⟩
abbrev CNV_CAL_CTL_COMMIT : Fld := ⟨R.CNV_CAL_CTL, 28, 1⟩
abbrev CNV_CAL_CTL_BUSY : Fld := ⟨R.CNV_CAL_CTL, 30, 1⟩
abbrev CNV_CAL_CTL_SPLICED : Fld := ⟨R.CNV_CAL_CTL, 31, 1⟩
abbrev CNV_CAL_ENERGY_LO_ENERGY : Fld := ⟨R.CNV_CAL_ENERGY_LO, 0, 32⟩
abbrev CNV_CAL_ENERGY_HI_ENERGY : Fld := ⟨R.CNV_CAL_ENERGY_HI, 0, 32⟩
abbrev CNV_CAL_REF_COUNT : Fld := ⟨R.CNV_CAL_REF, 0, 32⟩
abbrev CNV_CHAN_GAIN_GAIN (n : Nat) : Fld := ⟨R.CNV_CHAN_GAIN n, 0, 24⟩
abbrev CNV_CHAN_OFS_OFS (n : Nat) : Fld := ⟨R.CNV_CHAN_OFS n, 0, 24⟩
abbrev FLT_CTL_RUN : Fld := ⟨R.FLT_CTL, 0, 1⟩
abbrev FLT_CTL_KEY : Fld := ⟨R.FLT_CTL, 8, 8⟩
abbrev FLT_CTL_LEGACY : Fld := ⟨R.FLT_CTL, 16, 1⟩
abbrev FLT_STATUS_TRK_STATE : Fld := ⟨R.FLT_STATUS, 0, 3⟩
abbrev FLT_STATUS_TRK_REF : Fld := ⟨R.FLT_STATUS, 3, 2⟩
abbrev FLT_STATUS_COHERENT : Fld := ⟨R.FLT_STATUS, 5, 1⟩
abbrev FLT_STATUS_DELAY_PENDING : Fld := ⟨R.FLT_STATUS, 6, 1⟩
abbrev FLT_STATUS_STOPPED : Fld := ⟨R.FLT_STATUS, 7, 1⟩
abbrev FLT_STATUS_HOLD_RUN : Fld := ⟨R.FLT_STATUS, 8, 8⟩
abbrev FLT_CAUSE_LOCK : Fld := ⟨R.FLT_CAUSE, 0, 1⟩
abbrev FLT_CAUSE_LOCK_LOST : Fld := ⟨R.FLT_CAUSE, 1, 1⟩
abbrev FLT_CAUSE_HOLD : Fld := ⟨R.FLT_CAUSE, 2, 1⟩
abbrev FLT_CAUSE_REF_SWITCH : Fld := ⟨R.FLT_CAUSE, 3, 1⟩
abbrev FLT_CAUSE_OUT_OF_RANGE : Fld := ⟨R.FLT_CAUSE, 4, 1⟩
abbrev FLT_CAUSE_COAST : Fld := ⟨R.FLT_CAUSE, 5, 1⟩
abbrev FLT_CAUSE_WIN_TRIP : Fld := ⟨R.FLT_CAUSE, 6, 1⟩
abbrev FLT_CAUSE_STOP_DONE : Fld := ⟨R.FLT_CAUSE, 7, 1⟩
abbrev FLT_CAUSE_RESTART : Fld := ⟨R.FLT_CAUSE, 8, 1⟩
abbrev FLT_CAUSE_LEGACY_REFUSED : Fld := ⟨R.FLT_CAUSE, 9, 1⟩
abbrev FLT_CAUSE_DELAY_APPLIED : Fld := ⟨R.FLT_CAUSE, 10, 1⟩
abbrev FLT_CAUSE_CFG_REFUSED : Fld := ⟨R.FLT_CAUSE, 11, 1⟩
abbrev FLT_CAUSE_EN_EN : Fld := ⟨R.FLT_CAUSE_EN, 0, 12⟩
abbrev FLT_GROUP_CFG_CIC_V : Fld := ⟨R.FLT_GROUP_CFG, 0, 2⟩
abbrev FLT_GROUP_CFG_CIC_I : Fld := ⟨R.FLT_GROUP_CFG, 2, 2⟩
abbrev FLT_GROUP_CFG_CIC_NX : Fld := ⟨R.FLT_GROUP_CFG, 4, 2⟩
abbrev FLT_CHAN_CFG_RESP (n : Nat) : Fld := ⟨R.FLT_CHAN_CFG n, 0, 4⟩
abbrev FLT_CHAN_CFG_ALIGN (n : Nat) : Fld := ⟨R.FLT_CHAN_CFG n, 12, 20⟩
abbrev FLT_DELAY_DELAY (n : Nat) : Fld := ⟨R.FLT_DELAY n, 0, 19⟩
abbrev FLT_TRK_CTL_REF_PREF : Fld := ⟨R.FLT_TRK_CTL, 0, 2⟩
abbrev FLT_TRK_CTL_GAIN : Fld := ⟨R.FLT_TRK_CTL, 2, 2⟩
abbrev FLT_TRK_CTL_JIT_LIM : Fld := ⟨R.FLT_TRK_CTL, 8, 8⟩
abbrev FLT_TRK_CTL_HOLD_MAX : Fld := ⟨R.FLT_TRK_CTL, 16, 8⟩
abbrev FLT_TRK_FREQ_FREQ : Fld := ⟨R.FLT_TRK_FREQ, 0, 32⟩
abbrev FLT_TRK_STEP_STEP : Fld := ⟨R.FLT_TRK_STEP, 0, 32⟩
abbrev FLT_TRK_PHASE_PHASE : Fld := ⟨R.FLT_TRK_PHASE, 0, 16⟩
abbrev FLT_LEGACY_CFG_DELAY : Fld := ⟨R.FLT_LEGACY_CFG, 0, 20⟩
abbrev FLT_WIN_CFG_EN (n : Nat) : Fld := ⟨R.FLT_WIN_CFG n, 0, 1⟩
abbrev FLT_WIN_CFG_SRC (n : Nat) : Fld := ⟨R.FLT_WIN_CFG n, 1, 2⟩
abbrev FLT_WIN_CFG_MODE (n : Nat) : Fld := ⟨R.FLT_WIN_CFG n, 3, 1⟩
abbrev FLT_WIN_CFG_CHAN (n : Nat) : Fld := ⟨R.FLT_WIN_CFG n, 4, 3⟩
abbrev FLT_WIN_CFG_PERSIST (n : Nat) : Fld := ⟨R.FLT_WIN_CFG n, 8, 8⟩
abbrev FLT_WIN_CFG_LINE (n : Nat) : Fld := ⟨R.FLT_WIN_CFG n, 16, 6⟩
abbrev FLT_WIN_CFG_LINE_EN (n : Nat) : Fld := ⟨R.FLT_WIN_CFG n, 22, 1⟩
abbrev FLT_WIN_CFG_HYST (n : Nat) : Fld := ⟨R.FLT_WIN_CFG n, 24, 4⟩
abbrev FLT_WIN_CFG_ACTIVE (n : Nat) : Fld := ⟨R.FLT_WIN_CFG n, 31, 1⟩
abbrev FLT_WIN_THR_LO (n : Nat) : Fld := ⟨R.FLT_WIN_THR n, 0, 16⟩
abbrev FLT_WIN_THR_HI (n : Nat) : Fld := ⟨R.FLT_WIN_THR n, 16, 16⟩
abbrev FLT_WIN_TS_FRAME_FRAME (n : Nat) : Fld := ⟨R.FLT_WIN_TS_FRAME n, 0, 32⟩
abbrev FLT_WIN_TS_POS_SAMPLE (n : Nat) : Fld := ⟨R.FLT_WIN_TS_POS n, 0, 12⟩
abbrev FLT_WIN_TS_POS_FRAC (n : Nat) : Fld := ⟨R.FLT_WIN_TS_POS n, 12, 8⟩
abbrev FLT_WIN_TRIP_TRIP : Fld := ⟨R.FLT_WIN_TRIP, 0, 16⟩
abbrev FLT_LEGACY_COEF_COEF (n : Nat) : Fld := ⟨R.FLT_LEGACY_COEF n, 0, 24⟩
abbrev PHE_CFG_WIRING : Fld := ⟨R.PHE_CFG, 0, 2⟩
abbrev PHE_CFG_TOTAL_MODE : Fld := ⟨R.PHE_CFG, 2, 2⟩
abbrev PHE_CFG_PF_VOLT : Fld := ⟨R.PHE_CFG, 4, 1⟩
abbrev PHE_CFG_BILL_LARGER : Fld := ⟨R.PHE_CFG, 5, 1⟩
abbrev PHE_CFG_VNOM : Fld := ⟨R.PHE_CFG, 16, 16⟩
abbrev PHE_SCALE_SCALE (n : Nat) : Fld := ⟨R.PHE_SCALE n, 0, 32⟩
abbrev PHE_TAMP_CFG_REV_THR : Fld := ⟨R.PHE_TAMP_CFG, 0, 16⟩
abbrev PHE_TAMP_CFG_REV_PERSIST : Fld := ⟨R.PHE_TAMP_CFG, 16, 8⟩
abbrev PHE_TAMP_CFG_DC_THR : Fld := ⟨R.PHE_TAMP_CFG, 24, 8⟩
abbrev PHE_NEUT_CFG_THR : Fld := ⟨R.PHE_NEUT_CFG, 0, 10⟩
abbrev PHE_NEUT_CFG_PERSIST : Fld := ⟨R.PHE_NEUT_CFG, 16, 8⟩
abbrev PHE_NEUT_CFG_FLOOR : Fld := ⟨R.PHE_NEUT_CFG, 24, 8⟩
abbrev PHE_FRAME_STAT_FLAGS : Fld := ⟨R.PHE_FRAME_STAT, 0, 16⟩
abbrev PHE_FRAME_STAT_FRAME : Fld := ⟨R.PHE_FRAME_STAT, 16, 16⟩
abbrev PHE_RES_VALUE (n : Nat) : Fld := ⟨R.PHE_RES n, 0, 32⟩
abbrev NRG_STATUS_FROZEN : Fld := ⟨R.NRG_STATUS, 0, 1⟩
abbrev NRG_STATUS_PULSE_IDLE : Fld := ⟨R.NRG_STATUS, 1, 1⟩
abbrev NRG_STATUS_NOLOAD_ACT : Fld := ⟨R.NRG_STATUS, 4, 3⟩
abbrev NRG_STATUS_NOLOAD_REACT : Fld := ⟨R.NRG_STATUS, 7, 3⟩
abbrev NRG_STATUS_IMBAL_ACTIVE : Fld := ⟨R.NRG_STATUS, 10, 1⟩
abbrev NRG_CAUSE_PULSE_BACKLOG : Fld := ⟨R.NRG_CAUSE, 0, 1⟩
abbrev NRG_CAUSE_PULSE_OVERRUN : Fld := ⟨R.NRG_CAUSE, 1, 1⟩
abbrev NRG_CAUSE_FROZEN : Fld := ⟨R.NRG_CAUSE, 2, 1⟩
abbrev NRG_CAUSE_RESTORED : Fld := ⟨R.NRG_CAUSE, 3, 1⟩
abbrev NRG_CAUSE_RESTORE_LOSS : Fld := ⟨R.NRG_CAUSE, 4, 1⟩
abbrev NRG_CAUSE_ACC_WRAP : Fld := ⟨R.NRG_CAUSE, 5, 1⟩
abbrev NRG_CAUSE_EN_EN : Fld := ⟨R.NRG_CAUSE_EN, 0, 6⟩
abbrev NRG_CREEP_ACT (n : Nat) : Fld := ⟨R.NRG_CREEP n, 0, 16⟩
abbrev NRG_CREEP_REACT (n : Nat) : Fld := ⟨R.NRG_CREEP n, 16, 16⟩
abbrev NRG_ACC_FRAME_FRAME : Fld := ⟨R.NRG_ACC_FRAME, 0, 32⟩
abbrev NRG_FREEZE_FRAME_FRAME : Fld := ⟨R.NRG_FREEZE_FRAME, 0, 32⟩
abbrev NRG_FREEZE_POS_SAMPLE : Fld := ⟨R.NRG_FREEZE_POS, 0, 12⟩
abbrev NRG_FREEZE_POS_SOURCE : Fld := ⟨R.NRG_FREEZE_POS, 12, 2⟩
abbrev NRG_FREEZE_POS_VALID : Fld := ⟨R.NRG_FREEZE_POS, 31, 1⟩
abbrev NRG_RESTORE_RESULT : Fld := ⟨R.NRG_RESTORE, 0, 3⟩
abbrev NRG_RESTORE_MULTI_RUN : Fld := ⟨R.NRG_RESTORE, 3, 1⟩
abbrev NRG_RESTORE_LOST_FRAMES : Fld := ⟨R.NRG_RESTORE, 8, 24⟩
abbrev NRG_PULSE_CFG_EN (n : Nat) : Fld := ⟨R.NRG_PULSE_CFG n, 0, 1⟩
abbrev NRG_PULSE_CFG_QTY (n : Nat) : Fld := ⟨R.NRG_PULSE_CFG n, 1, 6⟩
abbrev NRG_PULSE_CFG_POL (n : Nat) : Fld := ⟨R.NRG_PULSE_CFG n, 7, 1⟩
abbrev NRG_PULSE_CFG_WIDTH (n : Nat) : Fld := ⟨R.NRG_PULSE_CFG n, 8, 13⟩
abbrev NRG_PULSE_CONST_CONST (n : Nat) : Fld := ⟨R.NRG_PULSE_CONST n, 0, 20⟩
abbrev NRG_PULSE_CNT_COUNT (n : Nat) : Fld := ⟨R.NRG_PULSE_CNT n, 0, 32⟩
abbrev NRG_PULSE_STAT_BACKLOG (n : Nat) : Fld := ⟨R.NRG_PULSE_STAT n, 0, 16⟩
abbrev NRG_PULSE_STAT_DROPPED (n : Nat) : Fld := ⟨R.NRG_PULSE_STAT n, 16, 16⟩
abbrev NRG_ACC_LO_ACC (n : Nat) : Fld := ⟨R.NRG_ACC_LO n, 0, 32⟩
abbrev NRG_ACC_MID_ACC (n : Nat) : Fld := ⟨R.NRG_ACC_MID n, 0, 32⟩
abbrev NRG_ACC_HI_ACC (n : Nat) : Fld := ⟨R.NRG_ACC_HI n, 0, 32⟩
abbrev SPE_CFG_HGROUP : Fld := ⟨R.SPE_CFG, 0, 1⟩
abbrev SPE_CFG_SH_EN : Fld := ⟨R.SPE_CFG, 1, 1⟩
abbrev SPE_CFG_THD_MAX : Fld := ⟨R.SPE_CFG, 8, 7⟩
abbrev SPE_STATUS_RUN : Fld := ⟨R.SPE_STATUS, 0, 1⟩
abbrev SPE_STATUS_SH_RUN : Fld := ⟨R.SPE_STATUS, 1, 1⟩
abbrev SPE_STATUS_SH_RX_OWN : Fld := ⟨R.SPE_STATUS, 2, 1⟩
abbrev SPE_CAUSE_DIP_START : Fld := ⟨R.SPE_CAUSE, 0, 1⟩
abbrev SPE_CAUSE_DIP_END : Fld := ⟨R.SPE_CAUSE, 1, 1⟩
abbrev SPE_CAUSE_SWELL_START : Fld := ⟨R.SPE_CAUSE, 2, 1⟩
abbrev SPE_CAUSE_SWELL_END : Fld := ⟨R.SPE_CAUSE, 3, 1⟩
abbrev SPE_CAUSE_INTR_START : Fld := ⟨R.SPE_CAUSE, 4, 1⟩
abbrev SPE_CAUSE_INTR_END : Fld := ⟨R.SPE_CAUSE, 5, 1⟩
abbrev SPE_CAUSE_EVT_OVERRUN : Fld := ⟨R.SPE_CAUSE, 6, 1⟩
abbrev SPE_CAUSE_CAP_TRIG : Fld := ⟨R.SPE_CAUSE, 7, 1⟩
abbrev SPE_CAUSE_CAP_DONE : Fld := ⟨R.SPE_CAUSE, 8, 1⟩
abbrev SPE_CAUSE_CAP_TRUNC : Fld := ⟨R.SPE_CAUSE, 9, 1⟩
abbrev SPE_CAUSE_CAP_RING_FULL : Fld := ⟨R.SPE_CAUSE, 10, 1⟩
abbrev SPE_CAUSE_SOUND_REFUSED : Fld := ⟨R.SPE_CAUSE, 11, 1⟩
abbrev SPE_CAUSE_SOUND_ABORT : Fld := ⟨R.SPE_CAUSE, 12, 1⟩
abbrev SPE_CAUSE_SH_DROP : Fld := ⟨R.SPE_CAUSE, 13, 1⟩
abbrev SPE_CAUSE_AGG_DONE : Fld := ⟨R.SPE_CAUSE, 14, 1⟩
abbrev SPE_CAUSE_CFG_REFUSED : Fld := ⟨R.SPE_CAUSE, 15, 1⟩
abbrev SPE_CAUSE_EN_EN : Fld := ⟨R.SPE_CAUSE_EN, 0, 16⟩
abbrev SPE_FRAME_STAT_FLAGS : Fld := ⟨R.SPE_FRAME_STAT, 0, 12⟩
abbrev SPE_FRAME_STAT_FRAME : Fld := ⟨R.SPE_FRAME_STAT, 16, 16⟩
abbrev SPE_DIST_MASK_WIN : Fld := ⟨R.SPE_DIST_MASK, 0, 16⟩
abbrev SPE_PQ_THR_DIP : Fld := ⟨R.SPE_PQ_THR, 0, 8⟩
abbrev SPE_PQ_THR_SWELL : Fld := ⟨R.SPE_PQ_THR, 8, 8⟩
abbrev SPE_PQ_THR_INTR : Fld := ⟨R.SPE_PQ_THR, 16, 8⟩
abbrev SPE_PQ_THR_HYST : Fld := ⟨R.SPE_PQ_THR, 24, 8⟩
abbrev SPE_PQ_LINES_DIP_LINE : Fld := ⟨R.SPE_PQ_LINES, 0, 6⟩
abbrev SPE_PQ_LINES_DIP_EN : Fld := ⟨R.SPE_PQ_LINES, 6, 1⟩
abbrev SPE_PQ_LINES_SWELL_LINE : Fld := ⟨R.SPE_PQ_LINES, 8, 6⟩
abbrev SPE_PQ_LINES_SWELL_EN : Fld := ⟨R.SPE_PQ_LINES, 14, 1⟩
abbrev SPE_PQ_LINES_INTR_LINE : Fld := ⟨R.SPE_PQ_LINES, 16, 6⟩
abbrev SPE_PQ_LINES_INTR_EN : Fld := ⟨R.SPE_PQ_LINES, 22, 1⟩
abbrev SPE_PQ_STATE_DIP : Fld := ⟨R.SPE_PQ_STATE, 0, 3⟩
abbrev SPE_PQ_STATE_SWELL : Fld := ⟨R.SPE_PQ_STATE, 3, 3⟩
abbrev SPE_PQ_STATE_INTR : Fld := ⟨R.SPE_PQ_STATE, 6, 1⟩
abbrev SPE_PQ_STATE_DIP_ON : Fld := ⟨R.SPE_PQ_STATE, 7, 1⟩
abbrev SPE_PQ_STATE_SWELL_ON : Fld := ⟨R.SPE_PQ_STATE, 8, 1⟩
abbrev SPE_EVT_CTL_LEVEL : Fld := ⟨R.SPE_EVT_CTL, 0, 5⟩
abbrev SPE_EVT_CTL_POP : Fld := ⟨R.SPE_EVT_CTL, 8, 1⟩
abbrev SPE_EVT_CTL_LOST : Fld := ⟨R.SPE_EVT_CTL, 16, 16⟩
abbrev SPE_EVT_WORD_WORD (n : Nat) : Fld := ⟨R.SPE_EVT_WORD n, 0, 32⟩
abbrev SPE_THD_THD (n : Nat) : Fld := ⟨R.SPE_THD n, 0, 32⟩
abbrev SPE_SH_STAT_USED : Fld := ⟨R.SPE_SH_STAT, 0, 8⟩
abbrev SPE_SH_STAT_EXCLUDED : Fld := ⟨R.SPE_SH_STAT, 8, 8⟩
abbrev SPE_SH_STAT_DROPPED : Fld := ⟨R.SPE_SH_STAT, 16, 16⟩
abbrev SPE_RES_SEL_CHAN : Fld := ⟨R.SPE_RES_SEL, 0, 3⟩
abbrev SPE_RES_SEL_KIND : Fld := ⟨R.SPE_RES_SEL, 4, 3⟩
abbrev SPE_RES_FRAME_FRAME : Fld := ⟨R.SPE_RES_FRAME, 0, 32⟩
abbrev SPE_RES_VALUE (n : Nat) : Fld := ⟨R.SPE_RES n, 0, 32⟩
abbrev SPE_CAP_CFG_CHANS : Fld := ⟨R.SPE_CAP_CFG, 0, 8⟩
abbrev SPE_CAP_CFG_MODE : Fld := ⟨R.SPE_CAP_CFG, 8, 1⟩
abbrev SPE_CAP_CFG_OVERWRITE : Fld := ⟨R.SPE_CAP_CFG, 9, 1⟩
abbrev SPE_CAP_CFG_SLOTS : Fld := ⟨R.SPE_CAP_CFG, 10, 3⟩
abbrev SPE_CAP_CFG_PRE : Fld := ⟨R.SPE_CAP_CFG, 16, 7⟩
abbrev SPE_CAP_TRIG_LO_LINES : Fld := ⟨R.SPE_CAP_TRIG_LO, 0, 32⟩
abbrev SPE_CAP_TRIG_HI_LINES : Fld := ⟨R.SPE_CAP_TRIG_HI, 0, 32⟩
abbrev SPE_CAP_CTL_ARM : Fld := ⟨R.SPE_CAP_CTL, 0, 1⟩
abbrev SPE_CAP_CTL_FORCE : Fld := ⟨R.SPE_CAP_CTL, 1, 1⟩
abbrev SPE_CAP_CTL_ABORT : Fld := ⟨R.SPE_CAP_CTL, 2, 1⟩
abbrev SPE_CAP_STATUS_STATE : Fld := ⟨R.SPE_CAP_STATUS, 0, 2⟩
abbrev SPE_CAP_STATUS_SLOT : Fld := ⟨R.SPE_CAP_STATUS, 4, 3⟩
abbrev SPE_CAP_STATUS_SETS : Fld := ⟨R.SPE_CAP_STATUS, 8, 24⟩
abbrev SPE_CAP_FULL_SLOT : Fld := ⟨R.SPE_CAP_FULL, 0, 8⟩
abbrev SPE_PART_BASE (n : Nat) : Fld := ⟨R.SPE_PART n, 0, 10⟩
abbrev SPE_PART_SIZE (n : Nat) : Fld := ⟨R.SPE_PART n, 16, 10⟩
abbrev SPE_TAP_PTR_PTR : Fld := ⟨R.SPE_TAP_PTR, 0, 20⟩
abbrev SPE_TAP_PTR_WRAPPED : Fld := ⟨R.SPE_TAP_PTR, 31, 1⟩
abbrev BIL_STATUS_RATE : Fld := ⟨R.BIL_STATUS, 0, 4⟩
abbrev BIL_STATUS_RESTORING : Fld := ⟨R.BIL_STATUS, 4, 1⟩
abbrev BIL_STATUS_SNAPS : Fld := ⟨R.BIL_STATUS, 8, 5⟩
abbrev BIL_CAUSE_DEMAND_CLOSE : Fld := ⟨R.BIL_CAUSE, 0, 1⟩
abbrev BIL_CAUSE_BILL_CLOSE : Fld := ⟨R.BIL_CAUSE, 1, 1⟩
abbrev BIL_CAUSE_SNAP_CMD : Fld := ⟨R.BIL_CAUSE, 2, 1⟩
abbrev BIL_CAUSE_CLOSE_REFUSED : Fld := ⟨R.BIL_CAUSE, 3, 1⟩
abbrev BIL_CAUSE_SPLIT : Fld := ⟨R.BIL_CAUSE, 4, 1⟩
abbrev BIL_CAUSE_BACK : Fld := ⟨R.BIL_CAUSE, 5, 1⟩
abbrev BIL_CAUSE_OUTAGE_CLOSE : Fld := ⟨R.BIL_CAUSE, 6, 1⟩
abbrev BIL_CAUSE_DISP_WRAP : Fld := ⟨R.BIL_CAUSE, 7, 1⟩
abbrev BIL_CAUSE_REG_WRAP : Fld := ⟨R.BIL_CAUSE, 8, 1⟩
abbrev BIL_CAUSE_GAP : Fld := ⟨R.BIL_CAUSE, 9, 1⟩
abbrev BIL_CAUSE_MAXD_NEW : Fld := ⟨R.BIL_CAUSE, 10, 1⟩
abbrev BIL_CAUSE_EN_EN : Fld := ⟨R.BIL_CAUSE_EN, 0, 11⟩
abbrev BIL_CTL_CLOSE : Fld := ⟨R.BIL_CTL, 0, 1⟩
abbrev BIL_CTL_KEY : Fld := ⟨R.BIL_CTL, 8, 8⟩
abbrev BIL_LAST_BILL_IDX : Fld := ⟨R.BIL_LAST, 0, 32⟩
abbrev BIL_SNAP_NUM_N : Fld := ⟨R.BIL_SNAP_NUM, 0, 32⟩
abbrev BIL_DEM_IDX_IDX : Fld := ⟨R.BIL_DEM_IDX, 0, 32⟩
abbrev BIL_DEM_CFG_LENGTH : Fld := ⟨R.BIL_DEM_CFG, 0, 3⟩
abbrev BIL_DEM_CFG_MODE : Fld := ⟨R.BIL_DEM_CFG, 3, 1⟩
abbrev BIL_DEM_CFG_SUB : Fld := ⟨R.BIL_DEM_CFG, 4, 1⟩
abbrev BIL_CLOSE_CFG_DAY : Fld := ⟨R.BIL_CLOSE_CFG, 0, 5⟩
abbrev BIL_CLOSE_CFG_HOUR : Fld := ⟨R.BIL_CLOSE_CFG, 8, 5⟩
abbrev BIL_PROF_CFG_P1_PERIOD : Fld := ⟨R.BIL_PROF_CFG, 0, 3⟩
abbrev BIL_PROF_CFG_P1_CHANS : Fld := ⟨R.BIL_PROF_CFG, 3, 3⟩
abbrev BIL_PROF_CFG_P2_CHANS : Fld := ⟨R.BIL_PROF_CFG, 6, 3⟩
abbrev BIL_PROF_CH_P1_REG (n : Nat) : Fld := ⟨R.BIL_PROF_CH n, 0, 7⟩
abbrev BIL_PROF_CH_P1_UNIT (n : Nat) : Fld := ⟨R.BIL_PROF_CH n, 8, 2⟩
abbrev BIL_PROF_CH_P2_REG (n : Nat) : Fld := ⟨R.BIL_PROF_CH n, 16, 7⟩
abbrev BIL_REG_SEL_INDEX : Fld := ⟨R.BIL_REG_SEL, 0, 7⟩
abbrev BIL_REG_SEL_KIND : Fld := ⟨R.BIL_REG_SEL, 8, 2⟩
abbrev BIL_REG_LO_VALUE : Fld := ⟨R.BIL_REG_LO, 0, 32⟩
abbrev BIL_REG_HI_VALUE : Fld := ⟨R.BIL_REG_HI, 0, 32⟩
abbrev BIL_DISP_VALUE (n : Nat) : Fld := ⟨R.BIL_DISP n, 0, 27⟩
abbrev BIL_DISP_CFG_REG (n : Nat) : Fld := ⟨R.BIL_DISP_CFG n, 0, 7⟩
abbrev BIL_DISP_CFG_RES (n : Nat) : Fld := ⟨R.BIL_DISP_CFG n, 7, 2⟩
abbrev BIL_DISP_CFG_EN (n : Nat) : Fld := ⟨R.BIL_DISP_CFG n, 9, 1⟩
abbrev BIL_DISP_CFG_WRAP (n : Nat) : Fld := ⟨R.BIL_DISP_CFG n, 16, 16⟩
abbrev TAR_STATUS_RATE : Fld := ⟨R.TAR_STATUS, 0, 4⟩
abbrev TAR_STATUS_SEASON : Fld := ⟨R.TAR_STATUS, 4, 2⟩
abbrev TAR_STATUS_WEEK : Fld := ⟨R.TAR_STATUS, 6, 4⟩
abbrev TAR_STATUS_DAYPROF : Fld := ⟨R.TAR_STATUS, 10, 5⟩
abbrev TAR_STATUS_SPECIAL : Fld := ⟨R.TAR_STATUS, 15, 1⟩
abbrev TAR_STATUS_SPECIAL_IDX : Fld := ⟨R.TAR_STATUS, 16, 6⟩
abbrev TAR_STATUS_DST : Fld := ⟨R.TAR_STATUS, 22, 1⟩
abbrev TAR_STATUS_SLEWING : Fld := ⟨R.TAR_STATUS, 23, 1⟩
abbrev TAR_STATUS_NO_TARIFF : Fld := ⟨R.TAR_STATUS, 24, 1⟩
abbrev TAR_CAUSE_RATE_CHANGE : Fld := ⟨R.TAR_CAUSE, 0, 1⟩
abbrev TAR_CAUSE_SEASON_CHANGE : Fld := ⟨R.TAR_CAUSE, 1, 1⟩
abbrev TAR_CAUSE_SPECIAL_DAY : Fld := ⟨R.TAR_CAUSE, 2, 1⟩
abbrev TAR_CAUSE_DST_CHANGE : Fld := ⟨R.TAR_CAUSE, 3, 1⟩
abbrev TAR_CAUSE_ADJ_STEP : Fld := ⟨R.TAR_CAUSE, 4, 1⟩
abbrev TAR_CAUSE_ADJ_SLEW : Fld := ⟨R.TAR_CAUSE, 5, 1⟩
abbrev TAR_CAUSE_SLEW_DONE : Fld := ⟨R.TAR_CAUSE, 6, 1⟩
abbrev TAR_CAUSE_ADJ_REFUSED : Fld := ⟨R.TAR_CAUSE, 7, 1⟩
abbrev TAR_CAUSE_EN_EN : Fld := ⟨R.TAR_CAUSE_EN, 0, 8⟩
abbrev TAR_LOCAL_CFG_OFFSET : Fld := ⟨R.TAR_LOCAL_CFG, 0, 8⟩
abbrev TAR_LOCAL_CFG_DST_EN : Fld := ⟨R.TAR_LOCAL_CFG, 8, 1⟩
abbrev TAR_ADJ_CFG_LIMIT : Fld := ⟨R.TAR_ADJ_CFG, 0, 10⟩
abbrev TAR_ADJ_REQ_DELTA : Fld := ⟨R.TAR_ADJ_REQ, 0, 32⟩
abbrev TAR_ADJ_REM_REMAIN : Fld := ⟨R.TAR_ADJ_REM, 0, 32⟩
abbrev TAR_LOCAL_TIME_SECONDS : Fld := ⟨R.TAR_LOCAL_TIME, 0, 32⟩
abbrev PAY_STATUS_STATE : Fld := ⟨R.PAY_STATUS, 0, 2⟩
abbrev PAY_STATUS_EC_ACTIVE : Fld := ⟨R.PAY_STATUS, 2, 1⟩
abbrev PAY_STATUS_FRIENDLY : Fld := ⟨R.PAY_STATUS, 3, 1⟩
abbrev PAY_STATUS_BLOCK : Fld := ⟨R.PAY_STATUS, 4, 2⟩
abbrev PAY_STATUS_MPL_TRIP : Fld := ⟨R.PAY_STATUS, 6, 1⟩
abbrev PAY_STATUS_QUEUE : Fld := ⟨R.PAY_STATUS, 7, 3⟩
abbrev PAY_STATUS_NO_PREPAY : Fld := ⟨R.PAY_STATUS, 10, 1⟩
abbrev PAY_CAUSE_STATE_IN : Fld := ⟨R.PAY_CAUSE, 0, 4⟩
abbrev PAY_CAUSE_EC_GRANT : Fld := ⟨R.PAY_CAUSE, 4, 1⟩
abbrev PAY_CAUSE_EC_REFUSED : Fld := ⟨R.PAY_CAUSE, 5, 1⟩
abbrev PAY_CAUSE_FRIENDLY_CHANGE : Fld := ⟨R.PAY_CAUSE, 6, 1⟩
abbrev PAY_CAUSE_TOKEN_DONE : Fld := ⟨R.PAY_CAUSE, 7, 1⟩
abbrev PAY_CAUSE_KEY_ACTIVATED : Fld := ⟨R.PAY_CAUSE, 8, 1⟩
abbrev PAY_CAUSE_BLOCK_CHANGE : Fld := ⟨R.PAY_CAUSE, 9, 1⟩
abbrev PAY_CAUSE_MPL_CHANGE : Fld := ⟨R.PAY_CAUSE, 10, 1⟩
abbrev PAY_CAUSE_EN_EN : Fld := ⟨R.PAY_CAUSE_EN, 0, 11⟩
abbrev PAY_CREDIT_LO_CREDIT : Fld := ⟨R.PAY_CREDIT_LO, 0, 32⟩
abbrev PAY_CREDIT_HI_CREDIT : Fld := ⟨R.PAY_CREDIT_HI, 0, 32⟩
abbrev PAY_MONTH_WH : Fld := ⟨R.PAY_MONTH, 0, 32⟩
abbrev PAY_MPL_LIMIT : Fld := ⟨R.PAY_MPL, 0, 32⟩
abbrev PAY_TOKEN_BITS (n : Nat) : Fld := ⟨R.PAY_TOKEN n, 0, 32⟩
abbrev PAY_TOKEN_CTL_SUBMIT : Fld := ⟨R.PAY_TOKEN_CTL, 0, 1⟩
abbrev PAY_TOKEN_CTL_SOURCE : Fld := ⟨R.PAY_TOKEN_CTL, 1, 2⟩
abbrev PAY_TOKEN_CTL_EC_REQ : Fld := ⟨R.PAY_TOKEN_CTL, 3, 1⟩
abbrev PAY_TOKEN_RES_CODE : Fld := ⟨R.PAY_TOKEN_RES, 0, 4⟩
abbrev PAY_TOKEN_RES_CLASS : Fld := ⟨R.PAY_TOKEN_RES, 4, 2⟩
abbrev PAY_TOKEN_RES_SUBCLASS : Fld := ⟨R.PAY_TOKEN_RES, 6, 4⟩
abbrev PAY_TOKEN_RES_SOURCE : Fld := ⟨R.PAY_TOKEN_RES, 10, 2⟩
abbrev PAY_TOKEN_RES_SEQ : Fld := ⟨R.PAY_TOKEN_RES, 16, 16⟩
abbrev RLY_STATUS_MAIN_CMD : Fld := ⟨R.RLY_STATUS, 0, 1⟩
abbrev RLY_STATUS_MAIN_STATE : Fld := ⟨R.RLY_STATUS, 1, 2⟩
abbrev RLY_STATUS_REASONS : Fld := ⟨R.RLY_STATUS, 3, 4⟩
abbrev RLY_STATUS_ARMED : Fld := ⟨R.RLY_STATUS, 7, 1⟩
abbrev RLY_STATUS_LC_STATE : Fld := ⟨R.RLY_STATUS, 8, 1⟩
abbrev RLY_STATUS_LC_PENDING : Fld := ⟨R.RLY_STATUS, 9, 1⟩
abbrev RLY_CAUSE_MAIN_OPENED : Fld := ⟨R.RLY_CAUSE, 0, 1⟩
abbrev RLY_CAUSE_MAIN_CLOSED : Fld := ⟨R.RLY_CAUSE, 1, 1⟩
abbrev RLY_CAUSE_VERIFY_FAIL : Fld := ⟨R.RLY_CAUSE, 2, 1⟩
abbrev RLY_CAUSE_LOADV : Fld := ⟨R.RLY_CAUSE, 3, 1⟩
abbrev RLY_CAUSE_OPEN_I : Fld := ⟨R.RLY_CAUSE, 4, 1⟩
abbrev RLY_CAUSE_FREEZE_WAIT : Fld := ⟨R.RLY_CAUSE, 5, 1⟩
abbrev RLY_CAUSE_LC_CHANGE : Fld := ⟨R.RLY_CAUSE, 6, 1⟩
abbrev RLY_CAUSE_LC_DEFERRED : Fld := ⟨R.RLY_CAUSE, 7, 1⟩
abbrev RLY_CAUSE_CMD_REFUSED : Fld := ⟨R.RLY_CAUSE, 8, 1⟩
abbrev RLY_CAUSE_EN_EN : Fld := ⟨R.RLY_CAUSE_EN, 0, 9⟩
abbrev RLY_CTL_REMOTE_OPEN : Fld := ⟨R.RLY_CTL, 0, 1⟩
abbrev RLY_CTL_REMOTE_CLOSE : Fld := ⟨R.RLY_CTL, 1, 1⟩
abbrev RLY_CTL_LC_SHED : Fld := ⟨R.RLY_CTL, 2, 1⟩
abbrev RLY_CTL_LC_RESTORE : Fld := ⟨R.RLY_CTL, 3, 1⟩
abbrev RLY_CTL_KEY : Fld := ⟨R.RLY_CTL, 8, 8⟩
abbrev RLY_MAIN_CFG_PULSE : Fld := ⟨R.RLY_MAIN_CFG, 0, 8⟩
abbrev RLY_MAIN_CFG_VDELAY : Fld := ⟨R.RLY_MAIN_CFG, 8, 8⟩
abbrev RLY_MAIN_CFG_CLOSE_PCT : Fld := ⟨R.RLY_MAIN_CFG, 16, 4⟩
abbrev RLY_MAIN_CFG_OPEN_PCT : Fld := ⟨R.RLY_MAIN_CFG, 20, 4⟩
abbrev RLY_MAIN_CFG_RETRY : Fld := ⟨R.RLY_MAIN_CFG, 24, 2⟩
abbrev RLY_MAIN_CFG_RECONNECT : Fld := ⟨R.RLY_MAIN_CFG, 26, 1⟩
abbrev RLY_MAIN_CFG_OPEN_I : Fld := ⟨R.RLY_MAIN_CFG, 27, 5⟩
abbrev RLY_LC_CFG_MIN_ON : Fld := ⟨R.RLY_LC_CFG, 0, 5⟩
abbrev RLY_LC_CFG_MIN_OFF : Fld := ⟨R.RLY_LC_CFG, 5, 5⟩
abbrev RLY_LC_CFG_LC_MODE : Fld := ⟨R.RLY_LC_CFG, 10, 1⟩
abbrev RLY_LC_CFG_RATES : Fld := ⟨R.RLY_LC_CFG, 12, 8⟩
abbrev RLY_LC_CFG_RAND : Fld := ⟨R.RLY_LC_CFG, 20, 8⟩
abbrev RLY_LC_WAIT_SECONDS : Fld := ⟨R.RLY_LC_WAIT, 0, 12⟩
abbrev RLY_OPS_OPS : Fld := ⟨R.RLY_OPS, 0, 32⟩
abbrev CIS_CFG_PERIOD : Fld := ⟨R.CIS_CFG, 0, 8⟩
abbrev CIS_STATUS_DIRTY : Fld := ⟨R.CIS_STATUS, 0, 16⟩
abbrev CIS_STATUS_COPYING : Fld := ⟨R.CIS_STATUS, 16, 16⟩
abbrev CIS_CAUSE_STORE_DONE : Fld := ⟨R.CIS_CAUSE, 0, 1⟩
abbrev CIS_CAUSE_STORE_MERGED : Fld := ⟨R.CIS_CAUSE, 1, 1⟩
abbrev CIS_CAUSE_STORE_REFUSED : Fld := ⟨R.CIS_CAUSE, 2, 1⟩
abbrev CIS_CAUSE_STORE_ABANDONED : Fld := ⟨R.CIS_CAUSE, 3, 1⟩
abbrev CIS_CAUSE_SEQ_TIE : Fld := ⟨R.CIS_CAUSE, 4, 1⟩
abbrev CIS_CAUSE_RECALL_LOSS : Fld := ⟨R.CIS_CAUSE, 5, 1⟩
abbrev CIS_CAUSE_BLANK : Fld := ⟨R.CIS_CAUSE, 6, 1⟩
abbrev CIS_CAUSE_PW_FAIL : Fld := ⟨R.CIS_CAUSE, 7, 1⟩
abbrev CIS_CAUSE_HOST_LOCKOUT : Fld := ⟨R.CIS_CAUSE, 8, 1⟩
abbrev CIS_CAUSE_ECC_CORR : Fld := ⟨R.CIS_CAUSE, 9, 1⟩
abbrev CIS_CAUSE_ECC_UNCORR : Fld := ⟨R.CIS_CAUSE, 10, 1⟩
abbrev CIS_CAUSE_WEAR_WARN : Fld := ⟨R.CIS_CAUSE, 11, 1⟩
abbrev CIS_CAUSE_PAGE_WRAP : Fld := ⟨R.CIS_CAUSE, 12, 1⟩
abbrev CIS_CAUSE_EN_EN : Fld := ⟨R.CIS_CAUSE_EN, 0, 13⟩
abbrev CIS_CTL_BANKS : Fld := ⟨R.CIS_CTL, 0, 16⟩
abbrev CIS_CTL_KEY : Fld := ⟨R.CIS_CTL, 16, 8⟩
abbrev CIS_REPORT_TIE : Fld := ⟨R.CIS_REPORT, 0, 1⟩
abbrev CIS_REPORT_BANK : Fld := ⟨R.CIS_REPORT, 4, 4⟩
abbrev CIS_QUEUE_WAITING : Fld := ⟨R.CIS_QUEUE, 0, 16⟩
abbrev CIS_QUEUE_RECALLED : Fld := ⟨R.CIS_QUEUE, 16, 16⟩
abbrev CIS_RECALL_LOST : Fld := ⟨R.CIS_RECALL, 0, 16⟩
abbrev CIS_RECALL_BLANK : Fld := ⟨R.CIS_RECALL, 16, 16⟩
abbrev CIS_COUNT_TIES : Fld := ⟨R.CIS_COUNT, 0, 16⟩
abbrev CIS_COUNT_ECC_CORR : Fld := ⟨R.CIS_COUNT, 16, 16⟩
abbrev CIS_HOST_PW_0_PW : Fld := ⟨R.CIS_HOST_PW_0, 0, 32⟩
abbrev CIS_HOST_PW_1_PW : Fld := ⟨R.CIS_HOST_PW_1, 0, 32⟩
abbrev CIS_HOST_UNLOCK_BANK : Fld := ⟨R.CIS_HOST_UNLOCK, 0, 4⟩
abbrev CIS_HOST_UNLOCK_KIND : Fld := ⟨R.CIS_HOST_UNLOCK, 4, 1⟩
abbrev CIS_HOST_UNLOCK_GO : Fld := ⟨R.CIS_HOST_UNLOCK, 8, 1⟩
abbrev CIS_HOST_UNLOCK_LOCK : Fld := ⟨R.CIS_HOST_UNLOCK, 9, 1⟩
abbrev CIS_HOST_ACCESS_READ : Fld := ⟨R.CIS_HOST_ACCESS, 0, 16⟩
abbrev CIS_HOST_ACCESS_WRITE : Fld := ⟨R.CIS_HOST_ACCESS, 16, 16⟩
abbrev CIS_STAMP_RTC (n : Nat) : Fld := ⟨R.CIS_STAMP n, 0, 32⟩
abbrev CIS_WEAR_STORES (n : Nat) : Fld := ⟨R.CIS_WEAR n, 0, 32⟩
abbrev OBJ_STATUS_OBJECTS : Fld := ⟨R.OBJ_STATUS, 0, 10⟩
abbrev OBJ_STATUS_CAL_EN : Fld := ⟨R.OBJ_STATUS, 10, 1⟩
abbrev OBJ_STATUS_LEGAL_SESSION : Fld := ⟨R.OBJ_STATUS, 11, 1⟩
abbrev OBJ_STATUS_NO_READ_KEY : Fld := ⟨R.OBJ_STATUS, 12, 1⟩
abbrev OBJ_STATUS_SESSIONS : Fld := ⟨R.OBJ_STATUS, 16, 7⟩
abbrev OBJ_CAUSE_SESS_OPEN : Fld := ⟨R.OBJ_CAUSE, 0, 1⟩
abbrev OBJ_CAUSE_SESS_CLOSE : Fld := ⟨R.OBJ_CAUSE, 1, 1⟩
abbrev OBJ_CAUSE_SESS_FAIL : Fld := ⟨R.OBJ_CAUSE, 2, 1⟩
abbrev OBJ_CAUSE_SESS_LOCKOUT : Fld := ⟨R.OBJ_CAUSE, 3, 1⟩
abbrev OBJ_CAUSE_DENIED : Fld := ⟨R.OBJ_CAUSE, 4, 1⟩
abbrev OBJ_CAUSE_SEAL_OPEN : Fld := ⟨R.OBJ_CAUSE, 5, 1⟩
abbrev OBJ_CAUSE_SEAL_CLOSE : Fld := ⟨R.OBJ_CAUSE, 6, 1⟩
abbrev OBJ_CAUSE_LEGAL_CHANGE : Fld := ⟨R.OBJ_CAUSE, 7, 1⟩
abbrev OBJ_CAUSE_LEGAL_LOG_FULL : Fld := ⟨R.OBJ_CAUSE, 8, 1⟩
abbrev OBJ_CAUSE_READ_HOLD : Fld := ⟨R.OBJ_CAUSE, 9, 1⟩
abbrev OBJ_CAUSE_TAMPER_ABORT : Fld := ⟨R.OBJ_CAUSE, 10, 1⟩
abbrev OBJ_CAUSE_SIGN_DONE : Fld := ⟨R.OBJ_CAUSE, 11, 1⟩
abbrev OBJ_CAUSE_EN_EN : Fld := ⟨R.OBJ_CAUSE_EN, 0, 12⟩
abbrev OBJ_SESS_CFG_IDLE : Fld := ⟨R.OBJ_SESS_CFG, 0, 12⟩
abbrev OBJ_SESS_ROLE (n : Nat) : Fld := ⟨R.OBJ_SESS n, 0, 3⟩
abbrev OBJ_SESS_STATE (n : Nat) : Fld := ⟨R.OBJ_SESS n, 3, 2⟩
abbrev OBJ_SESS_IDLE_LEFT (n : Nat) : Fld := ⟨R.OBJ_SESS n, 16, 16⟩
abbrev OBJ_READ_CTR_COUNT : Fld := ⟨R.OBJ_READ_CTR, 0, 32⟩
abbrev OBJ_READ_RESERVE_SINCE_STORE : Fld := ⟨R.OBJ_READ_RESERVE, 0, 16⟩
abbrev OBJ_READ_CTR_HI_COUNT : Fld := ⟨R.OBJ_READ_CTR_HI, 0, 31⟩
abbrev OBJ_LEGAL_LOG_USED : Fld := ⟨R.OBJ_LEGAL_LOG, 0, 9⟩
abbrev OBJ_LEGAL_LOG_CHANGES : Fld := ⟨R.OBJ_LEGAL_LOG, 16, 16⟩
abbrev UPD_STATUS_STATE : Fld := ⟨R.UPD_STATUS, 0, 3⟩
abbrev UPD_STATUS_ACTIVE : Fld := ⟨R.UPD_STATUS, 3, 1⟩
abbrev UPD_STATUS_SLOT_A : Fld := ⟨R.UPD_STATUS, 4, 2⟩
abbrev UPD_STATUS_SLOT_B : Fld := ⟨R.UPD_STATUS, 6, 2⟩
abbrev UPD_STATUS_REGION : Fld := ⟨R.UPD_STATUS, 8, 2⟩
abbrev UPD_STATUS_TRIAL_LEFT : Fld := ⟨R.UPD_STATUS, 16, 16⟩
abbrev UPD_CAUSE_BUSY : Fld := ⟨R.UPD_CAUSE, 0, 1⟩
abbrev UPD_CAUSE_VERIFY_OK : Fld := ⟨R.UPD_CAUSE, 1, 1⟩
abbrev UPD_CAUSE_VERIFY_FAIL : Fld := ⟨R.UPD_CAUSE, 2, 1⟩
abbrev UPD_CAUSE_ROLLBACK : Fld := ⟨R.UPD_CAUSE, 3, 1⟩
abbrev UPD_CAUSE_ACTIVATED : Fld := ⟨R.UPD_CAUSE, 4, 1⟩
abbrev UPD_CAUSE_CONFIRMED : Fld := ⟨R.UPD_CAUSE, 5, 1⟩
abbrev UPD_CAUSE_REVERTED : Fld := ⟨R.UPD_CAUSE, 6, 1⟩
abbrev UPD_CAUSE_ABORTED : Fld := ⟨R.UPD_CAUSE, 7, 1⟩
abbrev UPD_CAUSE_LEGAL_DONE : Fld := ⟨R.UPD_CAUSE, 8, 1⟩
abbrev UPD_CAUSE_CMD_REFUSED : Fld := ⟨R.UPD_CAUSE, 9, 1⟩
abbrev UPD_CAUSE_INTERRUPTED : Fld := ⟨R.UPD_CAUSE, 10, 1⟩
abbrev UPD_CAUSE_EN_EN : Fld := ⟨R.UPD_CAUSE_EN, 0, 11⟩
abbrev UPD_CTL_CMD : Fld := ⟨R.UPD_CTL, 0, 3⟩
abbrev UPD_CTL_REGION : Fld := ⟨R.UPD_CTL, 3, 2⟩
abbrev UPD_CTL_KEY : Fld := ⟨R.UPD_CTL, 8, 8⟩
abbrev UPD_LEN_BYTES : Fld := ⟨R.UPD_LEN, 0, 20⟩
abbrev UPD_VER_VERSION (n : Nat) : Fld := ⟨R.UPD_VER n, 0, 32⟩
abbrev UPD_FLOOR_FLOOR : Fld := ⟨R.UPD_FLOOR, 0, 32⟩
abbrev WEL_STATUS_ROOT : Fld := ⟨R.WEL_STATUS, 0, 1⟩
abbrev WEL_STATUS_REFUSING : Fld := ⟨R.WEL_STATUS, 1, 1⟩
abbrev WEL_STATUS_BLANKED : Fld := ⟨R.WEL_STATUS, 2, 1⟩
abbrev WEL_STATUS_KEYS_LOST : Fld := ⟨R.WEL_STATUS, 3, 1⟩
abbrev WEL_STATUS_PROV_LOCK : Fld := ⟨R.WEL_STATUS, 4, 1⟩
abbrev WEL_STATUS_DBG_KILL : Fld := ⟨R.WEL_STATUS, 5, 1⟩
abbrev WEL_STATUS_SLOTS : Fld := ⟨R.WEL_STATUS, 8, 6⟩
abbrev WEL_STATUS_AUTH : Fld := ⟨R.WEL_STATUS, 16, 4⟩
abbrev WEL_CAUSE_UNWRAP_FAIL : Fld := ⟨R.WEL_CAUSE, 0, 1⟩
abbrev WEL_CAUSE_GEN_MISMATCH : Fld := ⟨R.WEL_CAUSE, 1, 1⟩
abbrev WEL_CAUSE_DEST_REFUSED : Fld := ⟨R.WEL_CAUSE, 2, 1⟩
abbrev WEL_CAUSE_KU_DONE : Fld := ⟨R.WEL_CAUSE, 3, 1⟩
abbrev WEL_CAUSE_KU_REJECT : Fld := ⟨R.WEL_CAUSE, 4, 1⟩
abbrev WEL_CAUSE_PARENT_DESTROYED : Fld := ⟨R.WEL_CAUSE, 5, 1⟩
abbrev WEL_CAUSE_BLANKED : Fld := ⟨R.WEL_CAUSE, 6, 1⟩
abbrev WEL_CAUSE_KEYS_LOST : Fld := ⟨R.WEL_CAUSE, 7, 1⟩
abbrev WEL_CAUSE_DECODER_ACTIVATED : Fld := ⟨R.WEL_CAUSE, 8, 1⟩
abbrev WEL_CAUSE_OTP_REFUSED : Fld := ⟨R.WEL_CAUSE, 9, 1⟩
abbrev WEL_CAUSE_EN_EN : Fld := ⟨R.WEL_CAUSE_EN, 0, 10⟩
abbrev WEL_CFG_REMASK : Fld := ⟨R.WEL_CFG, 0, 10⟩
abbrev WEL_KU_RES_CODE : Fld := ⟨R.WEL_KU_RES, 0, 4⟩
abbrev WEL_KU_RES_OP : Fld := ⟨R.WEL_KU_RES, 4, 4⟩
abbrev WEL_KU_RES_PARENT : Fld := ⟨R.WEL_KU_RES, 8, 4⟩
abbrev WEL_KU_RES_CHILD : Fld := ⟨R.WEL_KU_RES, 12, 8⟩
abbrev WEL_KU_RES_SEQ : Fld := ⟨R.WEL_KU_RES, 20, 12⟩
abbrev WEL_CTR_LO_COUNTER : Fld := ⟨R.WEL_CTR_LO, 0, 32⟩
abbrev WEL_CTR_HI_COUNTER : Fld := ⟨R.WEL_CTR_HI, 0, 32⟩
abbrev WEL_DECODER_PARENT : Fld := ⟨R.WEL_DECODER, 0, 4⟩
abbrev WEL_DECODER_CHILD : Fld := ⟨R.WEL_DECODER, 4, 8⟩
abbrev WEL_DECODER_VALID : Fld := ⟨R.WEL_DECODER, 12, 1⟩
abbrev WEL_DECODER_ST_PARENT : Fld := ⟨R.WEL_DECODER, 16, 4⟩
abbrev WEL_DECODER_ST_CHILD : Fld := ⟨R.WEL_DECODER, 20, 8⟩
abbrev WEL_DECODER_ST_VALID : Fld := ⟨R.WEL_DECODER, 28, 1⟩
abbrev WEL_GEN_GEN (n : Nat) : Fld := ⟨R.WEL_GEN n, 0, 32⟩
abbrev WEL_OTP_CTL_SLOT : Fld := ⟨R.WEL_OTP_CTL, 0, 2⟩
abbrev WEL_OTP_CTL_BURN : Fld := ⟨R.WEL_OTP_CTL, 8, 1⟩
abbrev WEL_OTP_CTL_LOCK : Fld := ⟨R.WEL_OTP_CTL, 9, 1⟩
abbrev WEL_OTP_CTL_KILL : Fld := ⟨R.WEL_OTP_CTL, 10, 1⟩
abbrev WEL_OTP_CTL_KEY : Fld := ⟨R.WEL_OTP_CTL, 16, 8⟩
abbrev WEL_OTP_DATA_DATA (n : Nat) : Fld := ⟨R.WEL_OTP_DATA n, 0, 32⟩
abbrev SEC_STATUS_BUSY : Fld := ⟨R.SEC_STATUS, 0, 1⟩
abbrev SEC_STATUS_QUEUE : Fld := ⟨R.SEC_STATUS, 1, 4⟩
abbrev SEC_STATUS_CLK : Fld := ⟨R.SEC_STATUS, 5, 1⟩
abbrev SEC_STATUS_TRNG_OK : Fld := ⟨R.SEC_STATUS, 6, 1⟩
abbrev SEC_STATUS_TRNG_LASTING : Fld := ⟨R.SEC_STATUS, 7, 1⟩
abbrev SEC_CAUSE_JOB_ABORT : Fld := ⟨R.SEC_CAUSE, 0, 1⟩
abbrev SEC_CAUSE_TRNG_HEALTH : Fld := ⟨R.SEC_CAUSE, 1, 1⟩
abbrev SEC_CAUSE_TRNG_LASTING : Fld := ⟨R.SEC_CAUSE, 2, 1⟩
abbrev SEC_CAUSE_RESEED : Fld := ⟨R.SEC_CAUSE, 3, 1⟩
abbrev SEC_CAUSE_JOB_REFUSED : Fld := ⟨R.SEC_CAUSE, 4, 1⟩
abbrev SEC_CAUSE_EN_EN : Fld := ⟨R.SEC_CAUSE_EN, 0, 5⟩
abbrev SEC_TRNG_STAT_RCT_FAILS : Fld := ⟨R.SEC_TRNG_STAT, 0, 8⟩
abbrev SEC_TRNG_STAT_APT_FAILS : Fld := ⟨R.SEC_TRNG_STAT, 8, 8⟩
abbrev SEC_TRNG_STAT_RESEEDS : Fld := ⟨R.SEC_TRNG_STAT, 16, 16⟩
abbrev EVF_STATUS_ACTIVE (n : Nat) : Fld := ⟨R.EVF_STATUS n, 0, 32⟩
abbrev EVF_CAUSE_RISE (n : Nat) : Fld := ⟨R.EVF_CAUSE n, 0, 32⟩
abbrev EVF_CAUSE_EN_EN (n : Nat) : Fld := ⟨R.EVF_CAUSE_EN n, 0, 32⟩
abbrev EVF_BLANK_LINES (n : Nat) : Fld := ⟨R.EVF_BLANK n, 0, 32⟩
abbrev EVF_MUTE_LINES (n : Nat) : Fld := ⟨R.EVF_MUTE n, 0, 32⟩
abbrev EVF_FREEZE_LINES (n : Nat) : Fld := ⟨R.EVF_FREEZE n, 0, 32⟩
abbrev EVF_TS_EN_LINES (n : Nat) : Fld := ⟨R.EVF_TS_EN n, 0, 32⟩
abbrev EVF_PROD_CFG_LINE (n : Nat) : Fld := ⟨R.EVF_PROD_CFG n, 0, 6⟩
abbrev EVF_PROD_CFG_EN (n : Nat) : Fld := ⟨R.EVF_PROD_CFG n, 6, 1⟩
abbrev EVF_TS_FRAME_FRAME (n : Nat) : Fld := ⟨R.EVF_TS_FRAME n, 0, 32⟩
abbrev EVF_TS_POS_SAMPLE (n : Nat) : Fld := ⟨R.EVF_TS_POS n, 0, 12⟩
abbrev EVF_TS_POS_FRAC (n : Nat) : Fld := ⟨R.EVF_TS_POS n, 12, 8⟩
abbrev EVF_TS_POS_SUBSEC (n : Nat) : Fld := ⟨R.EVF_TS_POS n, 20, 10⟩
abbrev EVF_TS_POS_FVALID (n : Nat) : Fld := ⟨R.EVF_TS_POS n, 31, 1⟩
abbrev EVF_TS_RTC_RTC (n : Nat) : Fld := ⟨R.EVF_TS_RTC n, 0, 32⟩
abbrev TAMP_STATUS_SPARE_USED : Fld := ⟨R.TAMP_STATUS, 0, 1⟩
abbrev TAMP_STATUS_SPARE_BANK : Fld := ⟨R.TAMP_STATUS, 1, 3⟩
abbrev TAMP_STATUS_EVALUATED : Fld := ⟨R.TAMP_STATUS, 4, 1⟩
abbrev TAMP_STATUS_QUEUED : Fld := ⟨R.TAMP_STATUS, 8, 6⟩
abbrev TAMP_STATUS_LOST : Fld := ⟨R.TAMP_STATUS, 16, 16⟩
abbrev TAMP_CAUSE_OCCURRENCE : Fld := ⟨R.TAMP_CAUSE, 0, 1⟩
abbrev TAMP_CAUSE_LASTING : Fld := ⟨R.TAMP_CAUSE, 1, 1⟩
abbrev TAMP_CAUSE_CLEARED : Fld := ⟨R.TAMP_CAUSE, 2, 1⟩
abbrev TAMP_CAUSE_REPAIR : Fld := ⟨R.TAMP_CAUSE, 3, 1⟩
abbrev TAMP_CAUSE_SPARE_EXHAUSTED : Fld := ⟨R.TAMP_CAUSE, 4, 1⟩
abbrev TAMP_CAUSE_QUARANTINE : Fld := ⟨R.TAMP_CAUSE, 5, 1⟩
abbrev TAMP_CAUSE_LOG_LOST : Fld := ⟨R.TAMP_CAUSE, 6, 1⟩
abbrev TAMP_CAUSE_CLR_REFUSED : Fld := ⟨R.TAMP_CAUSE, 7, 1⟩
abbrev TAMP_CAUSE_EN_EN : Fld := ⟨R.TAMP_CAUSE_EN, 0, 8⟩
abbrev TAMP_CTL_INDEX : Fld := ⟨R.TAMP_CTL, 0, 6⟩
abbrev TAMP_CTL_CLEAR : Fld := ⟨R.TAMP_CTL, 8, 1⟩
abbrev TAMP_CTL_KEY : Fld := ⟨R.TAMP_CTL, 16, 8⟩
abbrev TAMP_LASTING_LASTING (n : Nat) : Fld := ⟨R.TAMP_LASTING n, 0, 32⟩
abbrev TAMP_IN_CFG_DEB_COV : Fld := ⟨R.TAMP_IN_CFG, 0, 8⟩
abbrev TAMP_IN_CFG_DEB_TCOV : Fld := ⟨R.TAMP_IN_CFG, 8, 8⟩
abbrev TAMP_IN_CFG_POL_COV : Fld := ⟨R.TAMP_IN_CFG, 16, 1⟩
abbrev TAMP_IN_CFG_POL_TCOV : Fld := ⟨R.TAMP_IN_CFG, 17, 1⟩
abbrev TAMP_IN_CFG_EN_COV : Fld := ⟨R.TAMP_IN_CFG, 18, 1⟩
abbrev TAMP_IN_CFG_EN_TCOV : Fld := ⟨R.TAMP_IN_CFG, 19, 1⟩
abbrev TAMP_MAG_CFG_THR : Fld := ⟨R.TAMP_MAG_CFG, 0, 8⟩
abbrev TAMP_MAG_CFG_EN : Fld := ⟨R.TAMP_MAG_CFG, 8, 1⟩
abbrev TAMP_MAG_VAL_X : Fld := ⟨R.TAMP_MAG_VAL, 0, 10⟩
abbrev TAMP_MAG_VAL_Y : Fld := ⟨R.TAMP_MAG_VAL, 10, 10⟩
abbrev TAMP_MAG_VAL_Z : Fld := ⟨R.TAMP_MAG_VAL, 20, 10⟩
abbrev TAMP_CRK_CFG_MAX : Fld := ⟨R.TAMP_CRK_CFG, 0, 16⟩
abbrev TAMP_CRK_CFG_EN : Fld := ⟨R.TAMP_CRK_CFG, 16, 1⟩
abbrev TAMP_FC_CFG_WIN (n : Nat) : Fld := ⟨R.TAMP_FC_CFG n, 0, 17⟩
abbrev TAMP_FC_CFG_N (n : Nat) : Fld := ⟨R.TAMP_FC_CFG n, 20, 5⟩
abbrev TAMP_FC_QUIET_Q (n : Nat) : Fld := ⟨R.TAMP_FC_QUIET n, 0, 20⟩
abbrev TAMP_FC_RESP_IRQ (n : Nat) : Fld := ⟨R.TAMP_FC_RESP n, 0, 1⟩
abbrev TAMP_FC_RESP_DISPLAY (n : Nat) : Fld := ⟨R.TAMP_FC_RESP n, 1, 1⟩
abbrev TAMP_FC_RESP_WAKE (n : Nat) : Fld := ⟨R.TAMP_FC_RESP n, 2, 1⟩
abbrev TAMP_FC_RESP_OPEN_SUPPLY (n : Nat) : Fld := ⟨R.TAMP_FC_RESP n, 3, 1⟩
abbrev TAMP_FC_RESP_TOKEN_CLEAR (n : Nat) : Fld := ⟨R.TAMP_FC_RESP n, 4, 1⟩
abbrev TAMP_FC_RESP_LINE_EN (n : Nat) : Fld := ⟨R.TAMP_FC_RESP n, 5, 1⟩
abbrev TAMP_FC_RESP_LINE (n : Nat) : Fld := ⟨R.TAMP_FC_RESP n, 6, 6⟩
abbrev TAMP_FC_STAT_IN_WIN (n : Nat) : Fld := ⟨R.TAMP_FC_STAT n, 0, 5⟩
abbrev TAMP_FC_STAT_LASTING (n : Nat) : Fld := ⟨R.TAMP_FC_STAT n, 5, 1⟩
abbrev TAMP_FC_STAT_ACTIVE (n : Nat) : Fld := ⟨R.TAMP_FC_STAT n, 6, 1⟩
abbrev TAMP_FC_STAT_TOTAL (n : Nat) : Fld := ⟨R.TAMP_FC_STAT n, 8, 24⟩
abbrev SUP_ID_REV : Fld := ⟨R.SUP_ID, 0, 16⟩
abbrev SUP_ID_PART : Fld := ⟨R.SUP_ID, 16, 16⟩
abbrev SUP_UID_UID (n : Nat) : Fld := ⟨R.SUP_UID n, 0, 32⟩
abbrev SUP_RESET_CAUSE_POR : Fld := ⟨R.SUP_RESET_CAUSE, 0, 1⟩
abbrev SUP_RESET_CAUSE_MAINS : Fld := ⟨R.SUP_RESET_CAUSE, 1, 1⟩
abbrev SUP_RESET_CAUSE_SHIP : Fld := ⟨R.SUP_RESET_CAUSE, 2, 1⟩
abbrev SUP_RESET_CAUSE_RESET_N : Fld := ⟨R.SUP_RESET_CAUSE, 3, 1⟩
abbrev SUP_RESET_CAUSE_WDT_E0 : Fld := ⟨R.SUP_RESET_CAUSE, 4, 1⟩
abbrev SUP_RESET_CAUSE_PARTIAL : Fld := ⟨R.SUP_RESET_CAUSE, 5, 1⟩
abbrev SUP_RESET_CAUSE_DEBUG : Fld := ⟨R.SUP_RESET_CAUSE, 6, 1⟩
abbrev SUP_RESET_CAUSE_FREEZE_RESTART : Fld := ⟨R.SUP_RESET_CAUSE, 7, 1⟩
abbrev SUP_RUN_RUN : Fld := ⟨R.SUP_RUN, 0, 32⟩
abbrev SUP_RTC_SEC_SEC : Fld := ⟨R.SUP_RTC_SEC, 0, 32⟩
abbrev SUP_RTC_STATUS_SUB : Fld := ⟨R.SUP_RTC_STATUS, 0, 10⟩
abbrev SUP_RTC_STATUS_VALID : Fld := ⟨R.SUP_RTC_STATUS, 16, 1⟩
abbrev SUP_RTC_STATUS_SIRC : Fld := ⟨R.SUP_RTC_STATUS, 17, 1⟩
abbrev SUP_RTC_ALARM_ALARM : Fld := ⟨R.SUP_RTC_ALARM, 0, 32⟩
abbrev PMU_CTL_REQ : Fld := ⟨R.PMU_CTL, 0, 2⟩
abbrev PMU_CTL_GO : Fld := ⟨R.PMU_CTL, 4, 1⟩
abbrev PMU_CTL_ABORT : Fld := ⟨R.PMU_CTL, 5, 1⟩
abbrev PMU_CTL_KEY : Fld := ⟨R.PMU_CTL, 8, 8⟩
abbrev PMU_STATE_STATE : Fld := ⟨R.PMU_STATE, 0, 3⟩
abbrev PMU_STATE_PHASE : Fld := ⟨R.PMU_STATE, 3, 3⟩
abbrev PMU_STATE_ASKING : Fld := ⟨R.PMU_STATE, 6, 4⟩
abbrev PMU_STATE_CORE_DOZE : Fld := ⟨R.PMU_STATE, 10, 2⟩
abbrev PMU_STATE_SUPPLY : Fld := ⟨R.PMU_STATE, 12, 1⟩
abbrev PMU_CAUSE_ENTRY_DONE : Fld := ⟨R.PMU_CAUSE, 0, 1⟩
abbrev PMU_CAUSE_ENTRY_REFUSED : Fld := ⟨R.PMU_CAUSE, 1, 1⟩
abbrev PMU_CAUSE_ENTRY_ABANDONED : Fld := ⟨R.PMU_CAUSE, 2, 1⟩
abbrev PMU_CAUSE_REQ_REFUSED : Fld := ⟨R.PMU_CAUSE, 3, 1⟩
abbrev PMU_CAUSE_WAKE : Fld := ⟨R.PMU_CAUSE, 4, 1⟩
abbrev PMU_CAUSE_RET_FAIL : Fld := ⟨R.PMU_CAUSE, 5, 1⟩
abbrev PMU_CAUSE_PARTIAL : Fld := ⟨R.PMU_CAUSE, 6, 1⟩
abbrev PMU_CAUSE_BUS_FAULT : Fld := ⟨R.PMU_CAUSE, 7, 1⟩
abbrev PMU_CAUSE_VBAT_LOW : Fld := ⟨R.PMU_CAUSE, 8, 1⟩
abbrev PMU_CAUSE_PF_VDD : Fld := ⟨R.PMU_CAUSE, 9, 1⟩
abbrev PMU_CAUSE_EN_EN : Fld := ⟨R.PMU_CAUSE_EN, 0, 10⟩
abbrev PMU_ENTRY_RES_RESULT : Fld := ⟨R.PMU_ENTRY_RES, 0, 2⟩
abbrev PMU_ENTRY_RES_AP : Fld := ⟨R.PMU_ENTRY_RES, 2, 3⟩
abbrev PMU_ENTRY_RES_DOMAIN : Fld := ⟨R.PMU_ENTRY_RES, 8, 4⟩
abbrev PMU_ENTRY_RES_WAKE : Fld := ⟨R.PMU_ENTRY_RES, 16, 6⟩
abbrev PMU_WAKE_EN_EN : Fld := ⟨R.PMU_WAKE_EN, 0, 6⟩
abbrev PMU_WAKE_CAUSE_RTC_ALARM : Fld := ⟨R.PMU_WAKE_CAUSE, 0, 1⟩
abbrev PMU_WAKE_CAUSE_NAP_MAX : Fld := ⟨R.PMU_WAKE_CAUSE, 1, 1⟩
abbrev PMU_WAKE_CAUSE_KEYPAD : Fld := ⟨R.PMU_WAKE_CAUSE, 2, 1⟩
abbrev PMU_WAKE_CAUSE_HOST : Fld := ⟨R.PMU_WAKE_CAUSE, 3, 1⟩
abbrev PMU_WAKE_CAUSE_FAULT : Fld := ⟨R.PMU_WAKE_CAUSE, 4, 1⟩
abbrev PMU_WAKE_CAUSE_FABRIC : Fld := ⟨R.PMU_WAKE_CAUSE, 5, 1⟩
abbrev PMU_WAKE_CAUSE_RET_FAIL : Fld := ⟨R.PMU_WAKE_CAUSE, 16, 4⟩
abbrev PMU_DOM_STATUS_ON : Fld := ⟨R.PMU_DOM_STATUS, 0, 11⟩
abbrev PMU_DOM_STATUS_RET : Fld := ⟨R.PMU_DOM_STATUS, 16, 11⟩
abbrev PMU_VMON_THR : Fld := ⟨R.PMU_VMON, 0, 9⟩
abbrev PMU_VMON_VBAT_LOW : Fld := ⟨R.PMU_VMON, 16, 8⟩
abbrev PMU_VMON_VDD_OK : Fld := ⟨R.PMU_VMON, 30, 1⟩
abbrev PMU_VMON_VBAT_OK : Fld := ⟨R.PMU_VMON, 31, 1⟩
abbrev PMU_NAP_CFG_NAP_EN : Fld := ⟨R.PMU_NAP_CFG, 0, 1⟩
abbrev PMU_NAP_CFG_D3_OFF : Fld := ⟨R.PMU_NAP_CFG, 1, 1⟩
abbrev PMU_NAP_CFG_GLOW : Fld := ⟨R.PMU_NAP_CFG, 2, 1⟩
abbrev PMU_NAP_CFG_MAX : Fld := ⟨R.PMU_NAP_CFG, 16, 16⟩
abbrev PMU_DOM_CFG_LIMIT (n : Nat) : Fld := ⟨R.PMU_DOM_CFG n, 0, 10⟩
abbrev PMU_DOM_CFG_SAVE_N (n : Nat) : Fld := ⟨R.PMU_DOM_CFG n, 16, 10⟩
abbrev PMU_DOM_CFG_BANK (n : Nat) : Fld := ⟨R.PMU_DOM_CFG n, 28, 2⟩
abbrev PMU_BUS_FAULT_ADDR : Fld := ⟨R.PMU_BUS_FAULT, 0, 32⟩
abbrev PMU_BUS_FAULT_INFO_MASTER : Fld := ⟨R.PMU_BUS_FAULT_INFO, 0, 5⟩
abbrev PMU_BUS_FAULT_INFO_DOMAIN : Fld := ⟨R.PMU_BUS_FAULT_INFO, 5, 4⟩
abbrev PMU_BUS_FAULT_INFO_KIND : Fld := ⟨R.PMU_BUS_FAULT_INFO, 9, 2⟩
abbrev PMU_BUS_FAULT_INFO_WRITE : Fld := ⟨R.PMU_BUS_FAULT_INFO, 11, 1⟩
abbrev PMU_BUS_FAULT_INFO_WIDTH : Fld := ⟨R.PMU_BUS_FAULT_INFO, 12, 1⟩
abbrev PMU_BUS_FAULT_INFO_COUNT : Fld := ⟨R.PMU_BUS_FAULT_INFO, 16, 16⟩
abbrev CLK_CTL_OP : Fld := ⟨R.CLK_CTL, 0, 2⟩
abbrev CLK_CTL_CORE1 : Fld := ⟨R.CLK_CTL, 2, 2⟩
abbrev CLK_CTL_CORE2 : Fld := ⟨R.CLK_CTL, 4, 2⟩
abbrev CLK_CTL_SPLL_EN : Fld := ⟨R.CLK_CTL, 8, 1⟩
abbrev CLK_STATUS_OP : Fld := ⟨R.CLK_STATUS, 0, 2⟩
abbrev CLK_STATUS_BUSY : Fld := ⟨R.CLK_STATUS, 2, 1⟩
abbrev CLK_STATUS_XTAL32_OK : Fld := ⟨R.CLK_STATUS, 3, 1⟩
abbrev CLK_STATUS_XTALM_OK : Fld := ⟨R.CLK_STATUS, 4, 1⟩
abbrev CLK_STATUS_MPLL_LOCK : Fld := ⟨R.CLK_STATUS, 5, 1⟩
abbrev CLK_STATUS_SPLL_LOCK : Fld := ⟨R.CLK_STATUS, 6, 1⟩
abbrev CLK_STATUS_MPLL_REF : Fld := ⟨R.CLK_STATUS, 7, 2⟩
abbrev CLK_STATUS_RTC_SRC : Fld := ⟨R.CLK_STATUS, 9, 1⟩
abbrev CLK_STATUS_SYS_SRC : Fld := ⟨R.CLK_STATUS, 10, 1⟩
abbrev CLK_CAUSE_OP_VIOLATION : Fld := ⟨R.CLK_CAUSE, 0, 1⟩
abbrev CLK_CAUSE_OP_DONE : Fld := ⟨R.CLK_CAUSE, 1, 1⟩
abbrev CLK_CAUSE_OP_BUSY : Fld := ⟨R.CLK_CAUSE, 2, 1⟩
abbrev CLK_CAUSE_XTAL32_FAIL : Fld := ⟨R.CLK_CAUSE, 3, 1⟩
abbrev CLK_CAUSE_XTAL32_BACK : Fld := ⟨R.CLK_CAUSE, 4, 1⟩
abbrev CLK_CAUSE_MPLL_UNLOCK : Fld := ⟨R.CLK_CAUSE, 5, 1⟩
abbrev CLK_CAUSE_SPLL_UNLOCK : Fld := ⟨R.CLK_CAUSE, 6, 1⟩
abbrev CLK_CAUSE_EN_EN : Fld := ⟨R.CLK_CAUSE_EN, 0, 7⟩
abbrev CLK_CFG_XTALM : Fld := ⟨R.CLK_CFG, 0, 1⟩
abbrev CLK_CFG_SPLL : Fld := ⟨R.CLK_CFG, 1, 1⟩
abbrev CLK_CFG_MAX_OP : Fld := ⟨R.CLK_CFG, 2, 2⟩
abbrev LMD_CFG_BAND_A : Fld := ⟨R.LMD_CFG, 0, 1⟩
abbrev LMD_CFG_BAND_C : Fld := ⟨R.LMD_CFG, 1, 1⟩
abbrev LMD_CFG_ZC_MODE : Fld := ⟨R.LMD_CFG, 2, 2⟩
abbrev LMD_CFG_BLANK_K : Fld := ⟨R.LMD_CFG, 4, 5⟩
abbrev LMD_CFG_CAP_NOM : Fld := ⟨R.LMD_CFG, 16, 8⟩
abbrev LMD_STATUS_STATE : Fld := ⟨R.LMD_STATUS, 0, 3⟩
abbrev LMD_STATUS_RX_BAND : Fld := ⟨R.LMD_STATUS, 3, 1⟩
abbrev LMD_STATUS_TX_BAND : Fld := ⟨R.LMD_STATUS, 4, 1⟩
abbrev LMD_STATUS_ZC_VALID : Fld := ⟨R.LMD_STATUS, 5, 1⟩
abbrev LMD_STATUS_ZC_SUBST : Fld := ⟨R.LMD_STATUS, 6, 1⟩
abbrev LMD_STATUS_LBT_BUSY : Fld := ⟨R.LMD_STATUS, 7, 1⟩
abbrev LMD_STATUS_HOT : Fld := ⟨R.LMD_STATUS, 8, 1⟩
abbrev LMD_STATUS_VLD_LOW : Fld := ⟨R.LMD_STATUS, 9, 1⟩
abbrev LMD_STATUS_CAP_LOW : Fld := ⟨R.LMD_STATUS, 10, 1⟩
abbrev LMD_CAUSE_TX_DONE : Fld := ⟨R.LMD_CAUSE, 0, 1⟩
abbrev LMD_CAUSE_TX_ABORT : Fld := ⟨R.LMD_CAUSE, 1, 1⟩
abbrev LMD_CAUSE_TX_REFUSED : Fld := ⟨R.LMD_CAUSE, 2, 1⟩
abbrev LMD_CAUSE_RX_FRAME : Fld := ⟨R.LMD_CAUSE, 3, 1⟩
abbrev LMD_CAUSE_RX_FAIL : Fld := ⟨R.LMD_CAUSE, 4, 1⟩
abbrev LMD_CAUSE_RX_MISSED : Fld := ⟨R.LMD_CAUSE, 5, 1⟩
abbrev LMD_CAUSE_LBT_TIMEOUT : Fld := ⟨R.LMD_CAUSE, 6, 1⟩
abbrev LMD_CAUSE_DRV_FAULT : Fld := ⟨R.LMD_CAUSE, 7, 1⟩
abbrev LMD_CAUSE_SND_DONE : Fld := ⟨R.LMD_CAUSE, 8, 1⟩
abbrev LMD_CAUSE_SND_REFUSED : Fld := ⟨R.LMD_CAUSE, 9, 1⟩
abbrev LMD_CAUSE_SND_ABORT : Fld := ⟨R.LMD_CAUSE, 10, 1⟩
abbrev LMD_CAUSE_BYPASS : Fld := ⟨R.LMD_CAUSE, 11, 1⟩
abbrev LMD_CAUSE_CAP_LOW : Fld := ⟨R.LMD_CAUSE, 12, 1⟩
abbrev LMD_CAUSE_ZC_LOST : Fld := ⟨R.LMD_CAUSE, 13, 1⟩
abbrev LMD_CAUSE_BLANK_HIGH : Fld := ⟨R.LMD_CAUSE, 14, 1⟩
abbrev LMD_CAUSE_BASELINE_DONE : Fld := ⟨R.LMD_CAUSE, 15, 1⟩
abbrev LMD_CAUSE_EN_EN : Fld := ⟨R.LMD_CAUSE_EN, 0, 16⟩
abbrev LMD_TX_CFG_LEVEL_A : Fld := ⟨R.LMD_TX_CFG, 0, 6⟩
abbrev LMD_TX_CFG_LEVEL_C : Fld := ⟨R.LMD_TX_CFG, 8, 6⟩
abbrev LMD_TX_CFG_MASK_C : Fld := ⟨R.LMD_TX_CFG, 16, 8⟩
abbrev LMD_TONE_MASK_MASK_A : Fld := ⟨R.LMD_TONE_MASK, 0, 25⟩
abbrev LMD_LBT_CFG_THR : Fld := ⟨R.LMD_LBT_CFG, 0, 8⟩
abbrev LMD_LBT_CFG_SENSE : Fld := ⟨R.LMD_LBT_CFG, 8, 4⟩
abbrev LMD_LBT_CFG_MAX_TX : Fld := ⟨R.LMD_LBT_CFG, 12, 7⟩
abbrev LMD_LBT_CFG_PAUSE : Fld := ⟨R.LMD_LBT_CFG, 20, 8⟩
abbrev LMD_BLANK_RATIO : Fld := ⟨R.LMD_BLANK, 0, 16⟩
abbrev LMD_RX_STAT_SNR : Fld := ⟨R.LMD_RX_STAT, 0, 8⟩
abbrev LMD_RX_STAT_RSSI : Fld := ⟨R.LMD_RX_STAT, 8, 8⟩
abbrev LMD_RX_STAT_MOD : Fld := ⟨R.LMD_RX_STAT, 16, 2⟩
abbrev LMD_RX_STAT_BAND : Fld := ⟨R.LMD_RX_STAT, 18, 1⟩
abbrev LMD_ZC_CYCLE_CYCLE : Fld := ⟨R.LMD_ZC_CYCLE, 0, 32⟩
abbrev LMD_RX_PHASE_ZCP : Fld := ⟨R.LMD_RX_PHASE, 0, 8⟩
abbrev LMD_RX_PHASE_OWN : Fld := ⟨R.LMD_RX_PHASE, 8, 8⟩
abbrev LMD_RX_PHASE_DELTA : Fld := ⟨R.LMD_RX_PHASE, 16, 8⟩
abbrev LMD_RX_PHASE_VERDICT : Fld := ⟨R.LMD_RX_PHASE, 24, 2⟩
abbrev LMD_SND_CFG_PERIOD : Fld := ⟨R.LMD_SND_CFG, 0, 11⟩
abbrev LMD_SND_CFG_BYP_DROP : Fld := ⟨R.LMD_SND_CFG, 16, 8⟩
abbrev LMD_SND_CFG_CAP_MIN : Fld := ⟨R.LMD_SND_CFG, 24, 7⟩
abbrev LMD_SND_CTL_START : Fld := ⟨R.LMD_SND_CTL, 0, 1⟩
abbrev LMD_SND_CTL_BASELINE : Fld := ⟨R.LMD_SND_CTL, 1, 1⟩
abbrev LMD_SND_CTL_KEY : Fld := ⟨R.LMD_SND_CTL, 8, 8⟩
abbrev LMD_SND_STATUS_STATE : Fld := ⟨R.LMD_SND_STATUS, 0, 2⟩
abbrev LMD_SND_STATUS_RESULT : Fld := ⟨R.LMD_SND_STATUS, 2, 2⟩
abbrev LMD_SND_STATUS_BASE_0 : Fld := ⟨R.LMD_SND_STATUS, 4, 1⟩
abbrev LMD_SND_STATUS_BASE_1 : Fld := ⟨R.LMD_SND_STATUS, 5, 1⟩
abbrev LMD_SND_STATUS_ABORT : Fld := ⟨R.LMD_SND_STATUS, 8, 3⟩
abbrev LMD_SND_STATUS_SEQ : Fld := ⟨R.LMD_SND_STATUS, 16, 16⟩
abbrev LMD_SND_RES_ATTEN_MEAN : Fld := ⟨R.LMD_SND_RES, 0, 16⟩
abbrev LMD_SND_RES_CAP_EST : Fld := ⟨R.LMD_SND_RES, 16, 16⟩
abbrev LMD_SND_BASE_ATTEN (n : Nat) : Fld := ⟨R.LMD_SND_BASE n, 0, 16⟩
abbrev LMD_SND_BASE_VALID (n : Nat) : Fld := ⟨R.LMD_SND_BASE n, 31, 1⟩
abbrev LMD_COUP_GAIN (n : Nat) : Fld := ⟨R.LMD_COUP n, 0, 16⟩
abbrev FAB_CFG_NWK_ID : Fld := ⟨R.FAB_CFG, 0, 16⟩
abbrev FAB_CFG_RETRY : Fld := ⟨R.FAB_CFG, 16, 3⟩
abbrev FAB_CFG_MARGIN : Fld := ⟨R.FAB_CFG, 19, 3⟩
abbrev FAB_CFG_TIME_EN : Fld := ⟨R.FAB_CFG, 22, 1⟩
abbrev FAB_CFG_SEG_MAX : Fld := ⟨R.FAB_CFG, 24, 8⟩
abbrev FAB_STATUS_MODE : Fld := ⟨R.FAB_STATUS, 0, 3⟩
abbrev FAB_STATUS_HEAD : Fld := ⟨R.FAB_STATUS, 3, 1⟩
abbrev FAB_STATUS_COORD : Fld := ⟨R.FAB_STATUS, 4, 1⟩
abbrev FAB_STATUS_PLAN : Fld := ⟨R.FAB_STATUS, 5, 2⟩
abbrev FAB_STATUS_KEY_TX : Fld := ⟨R.FAB_STATUS, 7, 1⟩
abbrev FAB_STATUS_PLAN_PENDING : Fld := ⟨R.FAB_STATUS, 8, 1⟩
abbrev FAB_STATUS_FCN_VALID : Fld := ⟨R.FAB_STATUS, 9, 1⟩
abbrev FAB_STATUS_NEIGHBOURS : Fld := ⟨R.FAB_STATUS, 16, 7⟩
abbrev FAB_STATUS_ROUTES : Fld := ⟨R.FAB_STATUS, 23, 9⟩
abbrev FAB_CAUSE_ADDR_DONE : Fld := ⟨R.FAB_CAUSE, 0, 1⟩
abbrev FAB_CAUSE_ADDR_CONFLICT : Fld := ⟨R.FAB_CAUSE, 1, 1⟩
abbrev FAB_CAUSE_MIC_FAIL : Fld := ⟨R.FAB_CAUSE, 2, 1⟩
abbrev FAB_CAUSE_NBR_LOST : Fld := ⟨R.FAB_CAUSE, 3, 1⟩
abbrev FAB_CAUSE_NO_ROUTE : Fld := ⟨R.FAB_CAUSE, 4, 1⟩
abbrev FAB_CAUSE_PLAN_DONE : Fld := ⟨R.FAB_CAUSE, 5, 1⟩
abbrev FAB_CAUSE_ANN_REFUSED : Fld := ⟨R.FAB_CAUSE, 6, 1⟩
abbrev FAB_CAUSE_LOST : Fld := ⟨R.FAB_CAUSE, 7, 1⟩
abbrev FAB_CAUSE_READMITTED : Fld := ⟨R.FAB_CAUSE, 8, 1⟩
abbrev FAB_CAUSE_TIME_REFUSED : Fld := ⟨R.FAB_CAUSE, 9, 1⟩
abbrev FAB_CAUSE_FCNT_END : Fld := ⟨R.FAB_CAUSE, 10, 1⟩
abbrev FAB_CAUSE_MSG_DROP : Fld := ⟨R.FAB_CAUSE, 11, 1⟩
abbrev FAB_CAUSE_EN_EN : Fld := ⟨R.FAB_CAUSE_EN, 0, 12⟩
abbrev FAB_TIMING_ADV : Fld := ⟨R.FAB_TIMING, 0, 10⟩
abbrev FAB_TIMING_LOST : Fld := ⟨R.FAB_TIMING, 10, 10⟩
abbrev FAB_TIMING_RESCUE : Fld := ⟨R.FAB_TIMING, 20, 10⟩
abbrev FAB_CTL_ANNOUNCE : Fld := ⟨R.FAB_CTL, 0, 1⟩
abbrev FAB_CTL_HEAD_SET : Fld := ⟨R.FAB_CTL, 1, 1⟩
abbrev FAB_CTL_HEAD_CLR : Fld := ⟨R.FAB_CTL, 2, 1⟩
abbrev FAB_CTL_KEY : Fld := ⟨R.FAB_CTL, 8, 8⟩
abbrev FAB_ANNOUNCE_PLAN : Fld := ⟨R.FAB_ANNOUNCE, 0, 2⟩
abbrev FAB_ANNOUNCE_MODE : Fld := ⟨R.FAB_ANNOUNCE, 2, 2⟩
abbrev FAB_ANNOUNCE_LEAD : Fld := ⟨R.FAB_ANNOUNCE, 4, 12⟩
abbrev FAB_ANNOUNCE_DURATION : Fld := ⟨R.FAB_ANNOUNCE, 16, 6⟩
abbrev FAB_ADDR_SHORT : Fld := ⟨R.FAB_ADDR, 0, 12⟩
abbrev FAB_ADDR_VALID : Fld := ⟨R.FAB_ADDR, 12, 1⟩
abbrev FAB_ADDR_CLAIMS : Fld := ⟨R.FAB_ADDR, 16, 16⟩
abbrev FAB_EUI_LO_EUI : Fld := ⟨R.FAB_EUI_LO, 0, 32⟩
abbrev FAB_EUI_HI_EUI : Fld := ⟨R.FAB_EUI_HI, 0, 32⟩
abbrev FAB_FCN_FCN : Fld := ⟨R.FAB_FCN, 0, 32⟩
abbrev FAB_ACT_FCN_FCN : Fld := ⟨R.FAB_ACT_FCN, 0, 32⟩
abbrev FAB_ROUTE_SEL_ENTRY : Fld := ⟨R.FAB_ROUTE_SEL, 0, 8⟩
abbrev FAB_ROUTE_DEST : Fld := ⟨R.FAB_ROUTE, 0, 12⟩
abbrev FAB_ROUTE_NEXT : Fld := ⟨R.FAB_ROUTE, 12, 12⟩
abbrev FAB_ROUTE_HOPS : Fld := ⟨R.FAB_ROUTE, 24, 4⟩
abbrev FAB_ROUTE_HEAD : Fld := ⟨R.FAB_ROUTE, 28, 1⟩
abbrev FAB_ROUTE_PINNED : Fld := ⟨R.FAB_ROUTE, 29, 1⟩
abbrev FAB_ROUTE_VALID : Fld := ⟨R.FAB_ROUTE, 31, 1⟩
abbrev FAB_ROUTE_INFO_COST : Fld := ⟨R.FAB_ROUTE_INFO, 0, 8⟩
abbrev FAB_ROUTE_INFO_SEQ : Fld := ⟨R.FAB_ROUTE_INFO, 8, 16⟩
abbrev FAB_ROUTE_INFO_AGE : Fld := ⟨R.FAB_ROUTE_INFO, 24, 8⟩
abbrev FAB_COUNT_COUNT (n : Nat) : Fld := ⟨R.FAB_COUNT n, 0, 32⟩
abbrev PNL_CTL_ON : Fld := ⟨R.PNL_CTL, 0, 1⟩
abbrev PNL_CTL_LIGHT : Fld := ⟨R.PNL_CTL, 1, 1⟩
abbrev PNL_CTL_OFF : Fld := ⟨R.PNL_CTL, 2, 1⟩
abbrev PNL_CTL_GLOW : Fld := ⟨R.PNL_CTL, 3, 1⟩
abbrev PNL_CTL_KEY : Fld := ⟨R.PNL_CTL, 8, 8⟩
abbrev PNL_STATUS_STATE : Fld := ⟨R.PNL_STATUS, 0, 3⟩
abbrev PNL_STATUS_PUMP_OK : Fld := ⟨R.PNL_STATUS, 4, 4⟩
abbrev PNL_STATUS_FRAME : Fld := ⟨R.PNL_STATUS, 16, 16⟩
abbrev PNL_CAUSE_ON_DONE : Fld := ⟨R.PNL_CAUSE, 0, 1⟩
abbrev PNL_CAUSE_LIT : Fld := ⟨R.PNL_CAUSE, 1, 1⟩
abbrev PNL_CAUSE_OFF_DONE : Fld := ⟨R.PNL_CAUSE, 2, 1⟩
abbrev PNL_CAUSE_FAST_OFF : Fld := ⟨R.PNL_CAUSE, 3, 1⟩
abbrev PNL_CAUSE_PUMP_FAULT : Fld := ⟨R.PNL_CAUSE, 4, 1⟩
abbrev PNL_CAUSE_CMD_REFUSED : Fld := ⟨R.PNL_CAUSE, 5, 1⟩
abbrev PNL_CAUSE_EN_EN : Fld := ⟨R.PNL_CAUSE_EN, 0, 6⟩
abbrev PNL_CFG_PANEL : Fld := ⟨R.PNL_CFG, 0, 2⟩
abbrev PNL_CFG_FRAME_HZ : Fld := ⟨R.PNL_CFG, 2, 8⟩
abbrev PNL_CFG_PRE : Fld := ⟨R.PNL_CFG, 10, 5⟩
abbrev PNL_PUMP_CFG_P1_V : Fld := ⟨R.PNL_PUMP_CFG, 0, 8⟩
abbrev PNL_PUMP_CFG_P3_V : Fld := ⟨R.PNL_PUMP_CFG, 8, 8⟩
abbrev PNL_PUMP_CFG_P2_V : Fld := ⟨R.PNL_PUMP_CFG, 16, 6⟩
abbrev PNL_PUMP_CFG_P4_V : Fld := ⟨R.PNL_PUMP_CFG, 24, 6⟩
abbrev PNL_AREA_COL0 (n : Nat) : Fld := ⟨R.PNL_AREA n, 0, 7⟩
abbrev PNL_AREA_EN (n : Nat) : Fld := ⟨R.PNL_AREA n, 7, 1⟩
abbrev PNL_AREA_COL1 (n : Nat) : Fld := ⟨R.PNL_AREA n, 8, 7⟩
abbrev PNL_AREA_CUR (n : Nat) : Fld := ⟨R.PNL_AREA n, 16, 8⟩
abbrev PNL_AREA_GLOW_CUR (n : Nat) : Fld := ⟨R.PNL_AREA n, 24, 8⟩
abbrev PNL_GLOW_CFG_ROWS : Fld := ⟨R.PNL_GLOW_CFG, 0, 4⟩
abbrev PNL_GLOW_CFG_GLOW_V : Fld := ⟨R.PNL_GLOW_CFG, 8, 8⟩
abbrev PNL_BLINK_X0 (n : Nat) : Fld := ⟨R.PNL_BLINK n, 0, 7⟩
abbrev PNL_BLINK_X1 (n : Nat) : Fld := ⟨R.PNL_BLINK n, 7, 7⟩
abbrev PNL_BLINK_Y0 (n : Nat) : Fld := ⟨R.PNL_BLINK n, 14, 6⟩
abbrev PNL_BLINK_Y1 (n : Nat) : Fld := ⟨R.PNL_BLINK n, 20, 6⟩
abbrev PNL_BLINK_RATE (n : Nat) : Fld := ⟨R.PNL_BLINK n, 26, 2⟩
abbrev PNL_RAM_DOTS (n : Nat) : Fld := ⟨R.PNL_RAM n, 0, 32⟩
abbrev KPD_CFG_DEB : Fld := ⟨R.KPD_CFG, 0, 3⟩
abbrev KPD_CFG_EN : Fld := ⟨R.KPD_CFG, 3, 1⟩
abbrev KPD_STATUS_LEVEL : Fld := ⟨R.KPD_STATUS, 0, 4⟩
abbrev KPD_STATUS_HELD : Fld := ⟨R.KPD_STATUS, 4, 20⟩
abbrev KPD_CAUSE_EVENT : Fld := ⟨R.KPD_CAUSE, 0, 1⟩
abbrev KPD_CAUSE_OVERRUN : Fld := ⟨R.KPD_CAUSE, 1, 1⟩
abbrev KPD_CAUSE_ROLLOVER : Fld := ⟨R.KPD_CAUSE, 2, 1⟩
abbrev KPD_CAUSE_WAKE : Fld := ⟨R.KPD_CAUSE, 3, 1⟩
abbrev KPD_CAUSE_EN_EN : Fld := ⟨R.KPD_CAUSE_EN, 0, 4⟩
abbrev KPD_EVENT_CODE : Fld := ⟨R.KPD_EVENT, 0, 5⟩
abbrev KPD_EVENT_PRESS : Fld := ⟨R.KPD_EVENT, 5, 1⟩
abbrev KPD_EVENT_WAKE : Fld := ⟨R.KPD_EVENT, 6, 1⟩
abbrev KPD_EVENT_VALID : Fld := ⟨R.KPD_EVENT, 7, 1⟩
abbrev KPD_EVENT_SUBSEC : Fld := ⟨R.KPD_EVENT, 8, 10⟩
abbrev HIF_CFG_I2C_ADDR : Fld := ⟨R.HIF_CFG, 0, 7⟩
abbrev HIF_CFG_IRQ_PP : Fld := ⟨R.HIF_CFG, 8, 1⟩
abbrev HIF_STATUS_SLOT : Fld := ⟨R.HIF_STATUS, 0, 6⟩
abbrev HIF_STATUS_INBOX : Fld := ⟨R.HIF_STATUS, 8, 4⟩
abbrev HIF_STATUS_OPT_FRAME : Fld := ⟨R.HIF_STATUS, 12, 1⟩
abbrev HIF_CAUSE_RSP_READY : Fld := ⟨R.HIF_CAUSE, 0, 6⟩
abbrev HIF_CAUSE_CRC_FAIL : Fld := ⟨R.HIF_CAUSE, 6, 1⟩
abbrev HIF_CAUSE_REQ_DROPPED : Fld := ⟨R.HIF_CAUSE, 7, 1⟩
abbrev HIF_CAUSE_DENIED : Fld := ⟨R.HIF_CAUSE, 8, 1⟩
abbrev HIF_CAUSE_FAB_RX : Fld := ⟨R.HIF_CAUSE, 9, 1⟩
abbrev HIF_CAUSE_WAKE_REQ : Fld := ⟨R.HIF_CAUSE, 10, 1⟩
abbrev HIF_CAUSE_OPT_SIGNON : Fld := ⟨R.HIF_CAUSE, 11, 1⟩
abbrev HIF_CAUSE_EN_EN : Fld := ⟨R.HIF_CAUSE_EN, 0, 12⟩
abbrev HIF_UART_CFG_BAUD (n : Nat) : Fld := ⟨R.HIF_UART_CFG n, 0, 4⟩
abbrev HIF_UART_CFG_MODE (n : Nat) : Fld := ⟨R.HIF_UART_CFG n, 4, 1⟩
abbrev INT_SUMMARY_BLOCK : Fld := ⟨R.INT_SUMMARY, 0, 28⟩
abbrev INT_CORE_EN_EN (n : Nat) : Fld := ⟨R.INT_CORE_EN n, 0, 28⟩
abbrev INT_HOST_EN_EN : Fld := ⟨R.INT_HOST_EN, 0, 28⟩
abbrev INT_HOST_PEND_PEND : Fld := ⟨R.INT_HOST_PEND, 0, 28⟩
abbrev PIN_CAUSE_CLAIM_DONE : Fld := ⟨R.PIN_CAUSE, 0, 1⟩
abbrev PIN_CAUSE_CLAIM_CONFLICT : Fld := ⟨R.PIN_CAUSE, 1, 1⟩
abbrev PIN_CAUSE_EN_EN : Fld := ⟨R.PIN_CAUSE_EN, 0, 2⟩
abbrev PIN_CLAIM_INDEX : Fld := ⟨R.PIN_CLAIM, 0, 7⟩
abbrev PIN_CLAIM_KIND : Fld := ⟨R.PIN_CLAIM, 7, 1⟩
abbrev PIN_CLAIM_FUNC : Fld := ⟨R.PIN_CLAIM, 8, 5⟩
abbrev PIN_CLAIM_OWNER : Fld := ⟨R.PIN_CLAIM, 13, 2⟩
abbrev PIN_CLAIM_GO : Fld := ⟨R.PIN_CLAIM, 16, 1⟩
abbrev PIN_CLAIM_RELEASE : Fld := ⟨R.PIN_CLAIM, 17, 1⟩
abbrev PIN_GPIO_OUT_OUT (n : Nat) : Fld := ⟨R.PIN_GPIO_OUT n, 0, 16⟩
abbrev PIN_GPIO_IN_IN (n : Nat) : Fld := ⟨R.PIN_GPIO_IN n, 0, 16⟩
abbrev PIN_PAD_FUNC (n : Nat) : Fld := ⟨R.PIN_PAD n, 0, 5⟩
abbrev PIN_PAD_OWNER (n : Nat) : Fld := ⟨R.PIN_PAD n, 8, 2⟩
abbrev PIN_PAD_PULL (n : Nat) : Fld := ⟨R.PIN_PAD n, 10, 2⟩
abbrev PIN_PAD_DIR (n : Nat) : Fld := ⟨R.PIN_PAD n, 12, 1⟩
abbrev PIN_PAD_OD (n : Nat) : Fld := ⟨R.PIN_PAD n, 13, 1⟩
abbrev PIN_PAD_SHARED (n : Nat) : Fld := ⟨R.PIN_PAD n, 14, 1⟩
abbrev TIM_CTL_MODE (n : Nat) : Fld := ⟨R.TIM_CTL n, 0, 3⟩
abbrev TIM_CTL_CLK (n : Nat) : Fld := ⟨R.TIM_CTL n, 3, 1⟩
abbrev TIM_CTL_PRE (n : Nat) : Fld := ⟨R.TIM_CTL n, 4, 4⟩
abbrev TIM_CTL_START (n : Nat) : Fld := ⟨R.TIM_CTL n, 8, 1⟩
abbrev TIM_CTL_STOP (n : Nat) : Fld := ⟨R.TIM_CTL n, 9, 1⟩
abbrev TIM_CTL_RUN (n : Nat) : Fld := ⟨R.TIM_CTL n, 10, 1⟩
abbrev TIM_CTL_OWNER (n : Nat) : Fld := ⟨R.TIM_CTL n, 12, 2⟩
abbrev TIM_CTL_EDGE (n : Nat) : Fld := ⟨R.TIM_CTL n, 14, 2⟩
abbrev TIM_CTL_POL (n : Nat) : Fld := ⟨R.TIM_CTL n, 16, 1⟩
abbrev TIM_LOAD_LOAD (n : Nat) : Fld := ⟨R.TIM_LOAD n, 0, 32⟩
abbrev TIM_CMP_CMP (n : Nat) : Fld := ⟨R.TIM_CMP n, 0, 32⟩
abbrev TIM_CNT_CNT (n : Nat) : Fld := ⟨R.TIM_CNT n, 0, 32⟩
abbrev TIM_CAUSE_MATCH : Fld := ⟨R.TIM_CAUSE, 0, 8⟩
abbrev TIM_CAUSE_CAPTURE : Fld := ⟨R.TIM_CAUSE, 8, 8⟩
abbrev TIM_CAUSE_EN_EN : Fld := ⟨R.TIM_CAUSE_EN, 0, 16⟩
end F

/-- The registers of block SUP. -/
def regsSup : List RegDesc := [
  ⟨0x40000000, 4, 1, 0, 0x96400b00, [⟨0, 16, .ro⟩, ⟨16, 16, .ro⟩]⟩,
  ⟨0x40000010, 4, 4, 0, 0x0, [⟨0, 32, .ro⟩]⟩,
  ⟨0x40000020, 4, 1, 0, 0x1, [⟨0, 1, .ro⟩, ⟨1, 1, .ro⟩, ⟨2, 1, .ro⟩, ⟨3, 1, .ro⟩, ⟨4, 1, .ro⟩, ⟨5, 1, .ro⟩, ⟨6, 1, .ro⟩, ⟨7, 1, .ro⟩]⟩,
  ⟨0x40000024, 4, 1, 0, 0x0, [⟨0, 32, .ro⟩]⟩,
  ⟨0x40000030, 4, 1, 0, 0x0, [⟨0, 32, .ro⟩]⟩,
  ⟨0x40000034, 4, 1, 0, 0x0, [⟨0, 10, .ro⟩, ⟨16, 1, .ro⟩, ⟨17, 1, .ro⟩]⟩,
  ⟨0x40000038, 4, 1, 0, 0x0, [⟨0, 32, .rw⟩]⟩]

/-- The registers of block PMU. -/
def regsPmu : List RegDesc := [
  ⟨0x40010000, 4, 1, 0, 0x0, [⟨0, 2, .wo⟩, ⟨4, 1, .wo⟩, ⟨5, 1, .wo⟩, ⟨8, 8, .wo⟩]⟩,
  ⟨0x40010004, 4, 1, 0, 0x0, [⟨0, 3, .ro⟩, ⟨3, 3, .ro⟩, ⟨6, 4, .ro⟩, ⟨10, 2, .ro⟩, ⟨12, 1, .ro⟩]⟩,
  ⟨0x40010008, 4, 1, 0, 0x0, [⟨0, 1, .w1c⟩, ⟨1, 1, .w1c⟩, ⟨2, 1, .w1c⟩, ⟨3, 1, .w1c⟩, ⟨4, 1, .w1c⟩, ⟨5, 1, .w1c⟩, ⟨6, 1, .w1c⟩, ⟨7, 1, .w1c⟩, ⟨8, 1, .w1c⟩, ⟨9, 1, .w1c⟩]⟩,
  ⟨0x4001000c, 4, 1, 0, 0x0, [⟨0, 10, .rw⟩]⟩,
  ⟨0x40010010, 4, 1, 0, 0x0, [⟨0, 2, .ro⟩, ⟨2, 3, .ro⟩, ⟨8, 4, .ro⟩, ⟨16, 6, .ro⟩]⟩,
  ⟨0x40010014, 4, 1, 0, 0x0, [⟨0, 6, .lk⟩]⟩,
  ⟨0x40010018, 4, 1, 0, 0x0, [⟨0, 1, .w1c⟩, ⟨1, 1, .w1c⟩, ⟨2, 1, .w1c⟩, ⟨3, 1, .w1c⟩, ⟨4, 1, .w1c⟩, ⟨5, 1, .w1c⟩, ⟨16, 4, .w1c⟩]⟩,
  ⟨0x40010020, 4, 1, 0, 0x1, [⟨0, 11, .ro⟩, ⟨16, 11, .ro⟩]⟩,
  ⟨0x40010030, 4, 1, 0, 0x122, [⟨0, 9, .lk⟩, ⟨16, 8, .lk⟩, ⟨30, 1, .ro⟩, ⟨31, 1, .ro⟩]⟩,
  ⟨0x40010034, 4, 1, 0, 0x0, [⟨0, 1, .lk⟩, ⟨1, 1, .lk⟩, ⟨2, 1, .lk⟩, ⟨16, 16, .lk⟩]⟩,
  ⟨0x40010044, 4, 10, 0, 0x0, [⟨0, 10, .lk⟩, ⟨16, 10, .lk⟩, ⟨28, 2, .ro⟩]⟩,
  ⟨0x40010070, 4, 1, 0, 0x0, [⟨0, 32, .ro⟩]⟩,
  ⟨0x40010074, 4, 1, 0, 0x0, [⟨0, 5, .ro⟩, ⟨5, 4, .ro⟩, ⟨9, 2, .ro⟩, ⟨11, 1, .ro⟩, ⟨12, 1, .ro⟩, ⟨16, 16, .rc⟩]⟩]

/-- The registers of block CLK. -/
def regsClk : List RegDesc := [
  ⟨0x40020000, 4, 1, 0, 0x0, [⟨0, 2, .rwh⟩, ⟨2, 2, .rwh⟩, ⟨4, 2, .rwh⟩, ⟨8, 1, .rw⟩]⟩,
  ⟨0x40020004, 4, 1, 0, 0x0, [⟨0, 2, .ro⟩, ⟨2, 1, .ro⟩, ⟨3, 1, .ro⟩, ⟨4, 1, .ro⟩, ⟨5, 1, .ro⟩, ⟨6, 1, .ro⟩, ⟨7, 2, .ro⟩, ⟨9, 1, .ro⟩, ⟨10, 1, .ro⟩]⟩,
  ⟨0x40020008, 4, 1, 0, 0x0, [⟨0, 1, .w1c⟩, ⟨1, 1, .w1c⟩, ⟨2, 1, .w1c⟩, ⟨3, 1, .w1c⟩, ⟨4, 1, .w1c⟩, ⟨5, 1, .w1c⟩, ⟨6, 1, .w1c⟩]⟩,
  ⟨0x4002000c, 4, 1, 0, 0x0, [⟨0, 7, .rw⟩]⟩,
  ⟨0x40020010, 4, 1, 0, 0x0, [⟨0, 1, .lk⟩, ⟨1, 1, .lk⟩, ⟨2, 2, .lk⟩]⟩]

/-- The registers of block INT. -/
def regsInt : List RegDesc := [
  ⟨0x40030000, 4, 1, 0, 0x0, [⟨0, 28, .ro⟩]⟩,
  ⟨0x40030004, 4, 2, 0, 0x0, [⟨0, 28, .rw⟩]⟩,
  ⟨0x40030010, 4, 1, 0, 0x0, [⟨0, 28, .rw⟩]⟩,
  ⟨0x40030014, 4, 1, 0, 0x0, [⟨0, 28, .w1c⟩]⟩]

/-- The registers of block EVF. -/
def regsEvf : List RegDesc := [
  ⟨0x40040000, 4, 2, 0, 0x0, [⟨0, 32, .ro⟩]⟩,
  ⟨0x40040008, 4, 2, 0, 0x0, [⟨0, 32, .w1c⟩]⟩,
  ⟨0x40040010, 4, 2, 0, 0x0, [⟨0, 32, .rw⟩]⟩,
  ⟨0x40040020, 4, 2, 0, 0x0, [⟨0, 32, .lk⟩]⟩,
  ⟨0x40040028, 4, 2, 0, 0x0, [⟨0, 32, .lk⟩]⟩,
  ⟨0x40040030, 4, 2, 0, 0x0, [⟨0, 32, .lk⟩]⟩,
  ⟨0x40040038, 4, 2, 0, 0x0, [⟨0, 32, .lk⟩]⟩,
  ⟨0x40040100, 4, 16, 0, 0x0, [⟨0, 6, .lk⟩, ⟨6, 1, .lk⟩]⟩,
  ⟨0x40041000, 16, 64, 0, 0xffffffff, [⟨0, 32, .ro⟩]⟩,
  ⟨0x40041004, 16, 64, 0, 0x0, [⟨0, 12, .ro⟩, ⟨12, 8, .ro⟩, ⟨20, 10, .ro⟩, ⟨31, 1, .ro⟩]⟩,
  ⟨0x40041008, 16, 64, 0, 0x0, [⟨0, 32, .ro⟩]⟩]

/-- The registers of block TAMP. -/
def regsTamp : List RegDesc := [
  ⟨0x40050000, 4, 1, 0, 0x0, [⟨0, 1, .ro⟩, ⟨1, 3, .ro⟩, ⟨4, 1, .ro⟩, ⟨8, 6, .ro⟩, ⟨16, 16, .rc⟩]⟩,
  ⟨0x40050004, 4, 1, 0, 0x0, [⟨0, 1, .w1c⟩, ⟨1, 1, .w1c⟩, ⟨2, 1, .w1c⟩, ⟨3, 1, .w1c⟩, ⟨4, 1, .w1c⟩, ⟨5, 1, .w1c⟩, ⟨6, 1, .w1c⟩, ⟨7, 1, .w1c⟩]⟩,
  ⟨0x40050008, 4, 1, 0, 0x0, [⟨0, 8, .rw⟩]⟩,
  ⟨0x4005000c, 4, 1, 0, 0x0, [⟨0, 6, .wo⟩, ⟨8, 1, .wo⟩, ⟨16, 8, .wo⟩]⟩,
  ⟨0x40050010, 4, 2, 0, 0x0, [⟨0, 32, .ro⟩]⟩,
  ⟨0x40050020, 4, 1, 0, 0x0, [⟨0, 8, .lk⟩, ⟨8, 8, .lk⟩, ⟨16, 1, .lk⟩, ⟨17, 1, .lk⟩, ⟨18, 1, .lk⟩, ⟨19, 1, .lk⟩]⟩,
  ⟨0x40050024, 4, 1, 0, 0x0, [⟨0, 8, .lk⟩, ⟨8, 1, .lk⟩]⟩,
  ⟨0x40050028, 4, 1, 0, 0x0, [⟨0, 10, .ro⟩, ⟨10, 10, .ro⟩, ⟨20, 10, .ro⟩]⟩,
  ⟨0x4005002c, 4, 1, 0, 0x0, [⟨0, 16, .lk⟩, ⟨16, 1, .lk⟩]⟩,
  ⟨0x40051000, 16, 64, 0, 0x0, [⟨0, 17, .lk⟩, ⟨20, 5, .lk⟩]⟩,
  ⟨0x40051004, 16, 64, 0, 0x0, [⟨0, 20, .lk⟩]⟩,
  ⟨0x40051008, 16, 64, 0, 0x0, [⟨0, 1, .lk⟩, ⟨1, 1, .lk⟩, ⟨2, 1, .lk⟩, ⟨3, 1, .lk⟩, ⟨4, 1, .lk⟩, ⟨5, 1, .lk⟩, ⟨6, 6, .lk⟩]⟩,
  ⟨0x4005100c, 16, 64, 0, 0x0, [⟨0, 5, .ro⟩, ⟨5, 1, .ro⟩, ⟨6, 1, .ro⟩, ⟨8, 24, .ro⟩]⟩]

/-- The registers of block PIN. -/
def regsPin : List RegDesc := [
  ⟨0x40060000, 4, 1, 0, 0x0, [⟨0, 1, .w1c⟩, ⟨1, 1, .w1c⟩]⟩,
  ⟨0x40060004, 4, 1, 0, 0x0, [⟨0, 2, .rw⟩]⟩,
  ⟨0x40060008, 4, 1, 0, 0x0, [⟨0, 7, .wo⟩, ⟨7, 1, .wo⟩, ⟨8, 5, .wo⟩, ⟨13, 2, .wo⟩, ⟨16, 1, .wo⟩, ⟨17, 1, .wo⟩]⟩,
  ⟨0x40060020, 4, 5, 0, 0x0, [⟨0, 16, .rw⟩]⟩,
  ⟨0x40060040, 4, 5, 0, 0x0, [⟨0, 16, .ro⟩]⟩,
  ⟨0x40060100, 4, 80, 0, 0x0, [⟨0, 5, .ro⟩, ⟨8, 2, .ro⟩, ⟨10, 2, .ro⟩, ⟨12, 1, .ro⟩, ⟨13, 1, .ro⟩, ⟨14, 1, .ro⟩]⟩]

/-- The registers of block CFG. -/
def regsCfg : List RegDesc := [
  ⟨0x40070000, 4, 1, 4, 0x21, [⟨0, 3, .ro⟩, ⟨3, 2, .ro⟩, ⟨5, 1, .ro⟩, ⟨6, 1, .ro⟩, ⟨7, 1, .ro⟩, ⟨8, 1, .ro⟩, ⟨9, 1, .ro⟩]⟩,
  ⟨0x40070004, 4, 1, 4, 0x0, [⟨0, 1, .w1c⟩, ⟨1, 1, .w1c⟩, ⟨2, 1, .w1c⟩, ⟨3, 1, .w1c⟩, ⟨4, 1, .w1c⟩, ⟨5, 1, .w1c⟩, ⟨6, 1, .w1c⟩, ⟨7, 1, .w1c⟩, ⟨8, 1, .w1c⟩, ⟨9, 1, .w1c⟩, ⟨10, 1, .w1c⟩, ⟨11, 1, .w1c⟩, ⟨12, 1, .w1c⟩, ⟨13, 1, .w1c⟩]⟩,
  ⟨0x40070008, 4, 1, 4, 0x0, [⟨0, 14, .rw⟩]⟩,
  ⟨0x4007000c, 4, 1, 4, 0x0, [⟨0, 1, .wo⟩, ⟨8, 8, .wo⟩]⟩,
  ⟨0x40070010, 4, 1, 4, 0x0, [⟨0, 32, .ro⟩]⟩,
  ⟨0x40070014, 4, 1, 4, 0x0, [⟨0, 32, .ro⟩]⟩,
  ⟨0x40070018, 4, 1, 4, 0x0, [⟨0, 32, .ro⟩]⟩,
  ⟨0x4007001c, 4, 1, 4, 0x0, [⟨0, 16, .ro⟩, ⟨16, 2, .ro⟩, ⟨24, 8, .ro⟩]⟩,
  ⟨0x40070020, 4, 1, 4, 0x0, [⟨0, 16, .ro⟩]⟩]

/-- The registers of block CNV. -/
def regsCnv : List RegDesc := [
  ⟨0x40080000, 4, 1, 1, 0x0, [⟨0, 10, .rw⟩, ⟨10, 1, .rw⟩, ⟨16, 3, .wo⟩, ⟨19, 1, .wo⟩]⟩,
  ⟨0x40080004, 4, 1, 1, 0x7ff, [⟨0, 3, .ro⟩, ⟨3, 4, .ro⟩, ⟨7, 4, .ro⟩, ⟨11, 3, .ro⟩, ⟨14, 4, .ro⟩, ⟨18, 1, .ro⟩, ⟨19, 1, .ro⟩, ⟨20, 1, .ro⟩, ⟨21, 1, .ro⟩]⟩,
  ⟨0x40080008, 4, 1, 1, 0x0, [⟨0, 1, .w1c⟩, ⟨1, 1, .w1c⟩, ⟨2, 1, .w1c⟩, ⟨3, 1, .w1c⟩, ⟨4, 1, .w1c⟩, ⟨5, 1, .w1c⟩, ⟨6, 1, .w1c⟩, ⟨7, 1, .w1c⟩, ⟨8, 1, .w1c⟩, ⟨9, 1, .w1c⟩, ⟨10, 1, .w1c⟩, ⟨11, 1, .w1c⟩, ⟨12, 1, .w1c⟩, ⟨13, 1, .w1c⟩, ⟨14, 1, .w1c⟩, ⟨15, 1, .w1c⟩]⟩,
  ⟨0x4008000c, 4, 1, 1, 0x0, [⟨0, 16, .rw⟩]⟩,
  ⟨0x40080010, 4, 1, 1, 0x76543210, [⟨0, 32, .ro⟩]⟩,
  ⟨0x40080014, 4, 1, 1, 0x0, [⟨0, 10, .ro⟩]⟩,
  ⟨0x40080020, 4, 8, 1, 0x0, [⟨0, 3, .lk⟩, ⟨3, 2, .lk⟩, ⟨5, 1, .lk⟩, ⟨6, 1, .ro⟩, ⟨7, 1, .w1c⟩]⟩,
  ⟨0x40080040, 4, 10, 1, 0x0, [⟨0, 2, .ro⟩, ⟨2, 3, .ro⟩, ⟨5, 3, .ro⟩, ⟨8, 1, .ro⟩, ⟨12, 4, .ro⟩, ⟨16, 12, .ro⟩]⟩,
  ⟨0x40080080, 4, 10, 1, 0x0, [⟨0, 16, .ro⟩, ⟨16, 16, .ro⟩]⟩,
  ⟨0x40080100, 4, 1, 1, 0x0, [⟨0, 11, .lk⟩, ⟨16, 10, .lk⟩]⟩,
  ⟨0x40080104, 4, 1, 1, 0x0, [⟨0, 7, .lk⟩, ⟨16, 7, .lk⟩]⟩,
  ⟨0x40080108, 4, 1, 1, 0x0, [⟨0, 3, .ro⟩, ⟨3, 4, .ro⟩, ⟨7, 4, .ro⟩, ⟨11, 2, .ro⟩, ⟨13, 1, .ro⟩, ⟨14, 1, .ro⟩, ⟨15, 2, .ro⟩, ⟨17, 4, .ro⟩]⟩,
  ⟨0x40080200, 4, 1, 1, 0x0, [⟨0, 2, .rw⟩, ⟨2, 1, .rw⟩, ⟨3, 4, .rw⟩, ⟨7, 1, .rw⟩]⟩,
  ⟨0x40080204, 4, 1, 1, 0x0, [⟨0, 24, .rc⟩, ⟨24, 7, .rc⟩, ⟨31, 1, .rc⟩]⟩,
  ⟨0x40080208, 4, 1, 1, 0x0, [⟨0, 5, .ro⟩, ⟨8, 1, .w1c⟩, ⟨16, 16, .rc⟩]⟩,
  ⟨0x40080300, 4, 14, 1, 0x0, [⟨0, 16, .ro⟩, ⟨31, 1, .rc⟩]⟩,
  ⟨0x40080340, 4, 1, 1, 0x0, [⟨0, 16, .ro⟩, ⟨16, 3, .ro⟩, ⟨20, 3, .ro⟩, ⟨23, 1, .ro⟩]⟩,
  ⟨0x40080400, 4, 1, 1, 0x0, [⟨0, 2, .rw⟩, ⟨2, 1, .rw⟩, ⟨8, 12, .rw⟩, ⟨24, 1, .wo⟩, ⟨28, 1, .wo⟩, ⟨30, 1, .ro⟩, ⟨31, 1, .ro⟩]⟩,
  ⟨0x40080404, 4, 1, 1, 0x0, [⟨0, 32, .ro⟩]⟩,
  ⟨0x40080408, 4, 1, 1, 0x0, [⟨0, 32, .ro⟩]⟩,
  ⟨0x4008040c, 4, 1, 1, 0x0, [⟨0, 32, .ro⟩]⟩,
  ⟨0x40080420, 4, 8, 1, 0x0, [⟨0, 24, .rwh⟩]⟩,
  ⟨0x40080440, 4, 8, 1, 0x0, [⟨0, 24, .rwh⟩]⟩]

/-- The registers of block FLT. -/
def regsFlt : List RegDesc := [
  ⟨0x40090000, 4, 1, 2, 0x0, [⟨0, 1, .rwh⟩, ⟨8, 8, .wo⟩, ⟨16, 1, .lk⟩]⟩,
  ⟨0x40090004, 4, 1, 2, 0x0, [⟨0, 3, .ro⟩, ⟨3, 2, .ro⟩, ⟨5, 1, .ro⟩, ⟨6, 1, .ro⟩, ⟨7, 1, .ro⟩, ⟨8, 8, .ro⟩]⟩,
  ⟨0x40090008, 4, 1, 2, 0x0, [⟨0, 1, .w1c⟩, ⟨1, 1, .w1c⟩, ⟨2, 1, .w1c⟩, ⟨3, 1, .w1c⟩, ⟨4, 1, .w1c⟩, ⟨5, 1, .w1c⟩, ⟨6, 1, .w1c⟩, ⟨7, 1, .w1c⟩, ⟨8, 1, .w1c⟩, ⟨9, 1, .w1c⟩, ⟨10, 1, .w1c⟩, ⟨11, 1, .w1c⟩]⟩,
  ⟨0x4009000c, 4, 1, 2, 0x0, [⟨0, 12, .rw⟩]⟩,
  ⟨0x40090010, 4, 1, 2, 0x0, [⟨0, 2, .lk⟩, ⟨2, 2, .lk⟩, ⟨4, 2, .lk⟩]⟩,
  ⟨0x40090020, 4, 8, 2, 0x0, [⟨0, 4, .lk⟩, ⟨12, 20, .ro⟩]⟩,
  ⟨0x40090040, 4, 8, 2, 0x0, [⟨0, 19, .rwh⟩]⟩,
  ⟨0x40090100, 4, 1, 2, 0x0, [⟨0, 2, .lk⟩, ⟨2, 2, .rw⟩, ⟨8, 8, .rw⟩, ⟨16, 8, .rw⟩]⟩,
  ⟨0x40090104, 4, 1, 2, 0x0, [⟨0, 32, .ro⟩]⟩,
  ⟨0x40090108, 4, 1, 2, 0x0, [⟨0, 32, .ro⟩]⟩,
  ⟨0x4009010c, 4, 1, 2, 0x0, [⟨0, 16, .ro⟩]⟩,
  ⟨0x40090200, 4, 1, 2, 0x0, [⟨0, 20, .rw⟩]⟩,
  ⟨0x40090400, 16, 16, 2, 0x0, [⟨0, 1, .rw⟩, ⟨1, 2, .rw⟩, ⟨3, 1, .rw⟩, ⟨4, 3, .rw⟩, ⟨8, 8, .rw⟩, ⟨16, 6, .rw⟩, ⟨22, 1, .rw⟩, ⟨24, 4, .rw⟩, ⟨31, 1, .ro⟩]⟩,
  ⟨0x40090404, 16, 16, 2, 0x0, [⟨0, 16, .rw⟩, ⟨16, 16, .rw⟩]⟩,
  ⟨0x40090408, 16, 16, 2, 0x0, [⟨0, 32, .ro⟩]⟩,
  ⟨0x4009040c, 16, 16, 2, 0x0, [⟨0, 12, .ro⟩, ⟨12, 8, .ro⟩]⟩,
  ⟨0x40090500, 4, 1, 2, 0x0, [⟨0, 16, .w1c⟩]⟩,
  ⟨0x40090800, 4, 128, 2, 0x0, [⟨0, 24, .rw⟩]⟩]

/-- The registers of block PHE. -/
def regsPhe : List RegDesc := [
  ⟨0x400a0f00, 4, 1, 2, 0x0, [⟨0, 2, .rw⟩, ⟨8, 1, .wo⟩, ⟨16, 2, .ro⟩, ⟨18, 1, .ro⟩]⟩,
  ⟨0x400a0f04, 4, 1, 2, 0x0, [⟨0, 6, .ro⟩, ⟨8, 6, .ro⟩]⟩,
  ⟨0x400a0f08, 4, 1, 2, 0x0, [⟨0, 1, .w1c⟩, ⟨1, 1, .w1c⟩, ⟨2, 1, .w1c⟩, ⟨3, 1, .w1c⟩, ⟨4, 1, .w1c⟩, ⟨8, 1, .w1c⟩, ⟨9, 1, .w1c⟩, ⟨10, 1, .w1c⟩, ⟨11, 1, .w1c⟩, ⟨12, 1, .w1c⟩, ⟨13, 1, .w1c⟩, ⟨14, 1, .w1c⟩]⟩,
  ⟨0x400a0f0c, 4, 1, 2, 0x0, [⟨0, 5, .rw⟩, ⟨8, 7, .rw⟩]⟩,
  ⟨0x400a0f10, 4, 1, 2, 0x0, [⟨0, 32, .ro⟩]⟩,
  ⟨0x400a0f14, 4, 1, 2, 0x0, [⟨0, 12, .ro⟩, ⟨12, 1, .ro⟩, ⟨16, 2, .ro⟩, ⟨31, 1, .ro⟩]⟩,
  ⟨0x400a0000, 4, 1, 2, 0x0, [⟨0, 2, .lk⟩, ⟨2, 2, .lk⟩, ⟨4, 1, .lk⟩, ⟨5, 1, .lk⟩, ⟨16, 16, .lk⟩]⟩,
  ⟨0x400a0010, 4, 8, 2, 0x0, [⟨0, 32, .lk⟩]⟩,
  ⟨0x400a0040, 4, 1, 2, 0x0, [⟨0, 16, .rw⟩, ⟨16, 8, .rw⟩, ⟨24, 8, .rw⟩]⟩,
  ⟨0x400a0044, 4, 1, 2, 0x0, [⟨0, 10, .lk⟩, ⟨16, 8, .rw⟩, ⟨24, 8, .lk⟩]⟩,
  ⟨0x400a0048, 4, 1, 2, 0x0, [⟨0, 16, .ro⟩, ⟨16, 16, .ro⟩]⟩,
  ⟨0x400a0100, 4, 64, 2, 0x0, [⟨0, 32, .ro⟩]⟩]

/-- The registers of block NRG. -/
def regsNrg : List RegDesc := [
  ⟨0x400b0000, 4, 1, 2, 0x2, [⟨0, 1, .ro⟩, ⟨1, 1, .ro⟩, ⟨4, 3, .ro⟩, ⟨7, 3, .ro⟩, ⟨10, 1, .ro⟩]⟩,
  ⟨0x400b0004, 4, 1, 2, 0x0, [⟨0, 1, .w1c⟩, ⟨1, 1, .w1c⟩, ⟨2, 1, .w1c⟩, ⟨3, 1, .w1c⟩, ⟨4, 1, .w1c⟩, ⟨5, 1, .w1c⟩]⟩,
  ⟨0x400b0008, 4, 1, 2, 0x0, [⟨0, 6, .rw⟩]⟩,
  ⟨0x400b0010, 4, 3, 2, 0x0, [⟨0, 16, .lk⟩, ⟨16, 16, .lk⟩]⟩,
  ⟨0x400b0020, 4, 1, 2, 0x0, [⟨0, 32, .ro⟩]⟩,
  ⟨0x400b0024, 4, 1, 2, 0x0, [⟨0, 32, .ro⟩]⟩,
  ⟨0x400b0028, 4, 1, 2, 0x0, [⟨0, 12, .ro⟩, ⟨12, 2, .ro⟩, ⟨31, 1, .ro⟩]⟩,
  ⟨0x400b002c, 4, 1, 2, 0x0, [⟨0, 3, .ro⟩, ⟨3, 1, .ro⟩, ⟨8, 24, .ro⟩]⟩,
  ⟨0x400b0040, 16, 4, 2, 0x0, [⟨0, 1, .lk⟩, ⟨1, 6, .lk⟩, ⟨7, 1, .lk⟩, ⟨8, 13, .lk⟩]⟩,
  ⟨0x400b0044, 16, 4, 2, 0x0, [⟨0, 20, .lk⟩]⟩,
  ⟨0x400b0048, 16, 4, 2, 0x0, [⟨0, 32, .ro⟩]⟩,
  ⟨0x400b004c, 16, 4, 2, 0x0, [⟨0, 16, .ro⟩, ⟨16, 16, .rc⟩]⟩,
  ⟨0x400b1000, 16, 40, 2, 0x0, [⟨0, 32, .ro⟩]⟩,
  ⟨0x400b1004, 16, 40, 2, 0x0, [⟨0, 32, .ro⟩]⟩,
  ⟨0x400b1008, 16, 40, 2, 0x0, [⟨0, 32, .ro⟩]⟩]

/-- The registers of block SPE. -/
def regsSpe : List RegDesc := [
  ⟨0x400c0000, 4, 1, 3, 0x0, [⟨0, 1, .lk⟩, ⟨1, 1, .lk⟩, ⟨8, 7, .lk⟩]⟩,
  ⟨0x400c0004, 4, 1, 3, 0x0, [⟨0, 1, .ro⟩, ⟨1, 1, .ro⟩, ⟨2, 1, .ro⟩]⟩,
  ⟨0x400c0008, 4, 1, 3, 0x0, [⟨0, 1, .w1c⟩, ⟨1, 1, .w1c⟩, ⟨2, 1, .w1c⟩, ⟨3, 1, .w1c⟩, ⟨4, 1, .w1c⟩, ⟨5, 1, .w1c⟩, ⟨6, 1, .w1c⟩, ⟨7, 1, .w1c⟩, ⟨8, 1, .w1c⟩, ⟨9, 1, .w1c⟩, ⟨10, 1, .w1c⟩, ⟨11, 1, .w1c⟩, ⟨12, 1, .w1c⟩, ⟨13, 1, .w1c⟩, ⟨14, 1, .w1c⟩, ⟨15, 1, .w1c⟩]⟩,
  ⟨0x400c000c, 4, 1, 3, 0x0, [⟨0, 16, .rw⟩]⟩,
  ⟨0x400c0010, 4, 1, 3, 0x0, [⟨0, 12, .ro⟩, ⟨16, 16, .ro⟩]⟩,
  ⟨0x400c0014, 4, 1, 3, 0x0, [⟨0, 16, .rw⟩]⟩,
  ⟨0x400c0020, 4, 1, 3, 0x0, [⟨0, 8, .rw⟩, ⟨8, 8, .rw⟩, ⟨16, 8, .rw⟩, ⟨24, 8, .rw⟩]⟩,
  ⟨0x400c0024, 4, 1, 3, 0x0, [⟨0, 6, .rw⟩, ⟨6, 1, .rw⟩, ⟨8, 6, .rw⟩, ⟨14, 1, .rw⟩, ⟨16, 6, .rw⟩, ⟨22, 1, .rw⟩]⟩,
  ⟨0x400c0028, 4, 1, 3, 0x0, [⟨0, 3, .ro⟩, ⟨3, 3, .ro⟩, ⟨6, 1, .ro⟩, ⟨7, 1, .ro⟩, ⟨8, 1, .ro⟩]⟩,
  ⟨0x400c0030, 4, 1, 3, 0x0, [⟨0, 5, .ro⟩, ⟨8, 1, .wo⟩, ⟨16, 16, .rc⟩]⟩,
  ⟨0x400c0040, 4, 8, 3, 0x0, [⟨0, 32, .ro⟩]⟩,
  ⟨0x400c0080, 4, 8, 3, 0x0, [⟨0, 32, .ro⟩]⟩,
  ⟨0x400c00a0, 4, 1, 3, 0x0, [⟨0, 8, .ro⟩, ⟨8, 8, .ro⟩, ⟨16, 16, .rc⟩]⟩,
  ⟨0x400c0100, 4, 1, 3, 0x0, [⟨0, 3, .rw⟩, ⟨4, 3, .rw⟩]⟩,
  ⟨0x400c0104, 4, 1, 3, 0x0, [⟨0, 32, .ro⟩]⟩,
  ⟨0x400c1000, 4, 1024, 3, 0x0, [⟨0, 32, .ro⟩]⟩,
  ⟨0x400c0200, 4, 1, 3, 0x0, [⟨0, 8, .rw⟩, ⟨8, 1, .rw⟩, ⟨9, 1, .rw⟩, ⟨10, 3, .rw⟩, ⟨16, 7, .rw⟩]⟩,
  ⟨0x400c0204, 4, 1, 3, 0x0, [⟨0, 32, .rw⟩]⟩,
  ⟨0x400c0208, 4, 1, 3, 0x0, [⟨0, 32, .rw⟩]⟩,
  ⟨0x400c020c, 4, 1, 3, 0x0, [⟨0, 1, .wo⟩, ⟨1, 1, .wo⟩, ⟨2, 1, .wo⟩]⟩,
  ⟨0x400c0210, 4, 1, 3, 0x0, [⟨0, 2, .ro⟩, ⟨4, 3, .ro⟩, ⟨8, 24, .ro⟩]⟩,
  ⟨0x400c0214, 4, 1, 3, 0x0, [⟨0, 8, .w1c⟩]⟩,
  ⟨0x400c0220, 4, 3, 3, 0x0, [⟨0, 10, .ro⟩, ⟨16, 10, .ro⟩]⟩,
  ⟨0x400c0230, 4, 1, 3, 0x0, [⟨0, 20, .ro⟩, ⟨31, 1, .ro⟩]⟩]

/-- The registers of block BIL. -/
def regsBil : List RegDesc := [
  ⟨0x400d0000, 4, 1, 4, 0x0, [⟨0, 4, .ro⟩, ⟨4, 1, .ro⟩, ⟨8, 5, .ro⟩]⟩,
  ⟨0x400d0004, 4, 1, 4, 0x0, [⟨0, 1, .w1c⟩, ⟨1, 1, .w1c⟩, ⟨2, 1, .w1c⟩, ⟨3, 1, .w1c⟩, ⟨4, 1, .w1c⟩, ⟨5, 1, .w1c⟩, ⟨6, 1, .w1c⟩, ⟨7, 1, .w1c⟩, ⟨8, 1, .w1c⟩, ⟨9, 1, .w1c⟩, ⟨10, 1, .w1c⟩]⟩,
  ⟨0x400d0008, 4, 1, 4, 0x0, [⟨0, 11, .rw⟩]⟩,
  ⟨0x400d000c, 4, 1, 4, 0x0, [⟨0, 1, .wo⟩, ⟨8, 8, .wo⟩]⟩,
  ⟨0x400d0010, 4, 1, 4, 0x0, [⟨0, 32, .ro⟩]⟩,
  ⟨0x400d0014, 4, 1, 4, 0x0, [⟨0, 32, .ro⟩]⟩,
  ⟨0x400d0018, 4, 1, 4, 0x0, [⟨0, 32, .ro⟩]⟩,
  ⟨0x400d0020, 4, 1, 4, 0x0, [⟨0, 3, .lk⟩, ⟨3, 1, .lk⟩, ⟨4, 1, .lk⟩]⟩,
  ⟨0x400d0024, 4, 1, 4, 0x0, [⟨0, 5, .lk⟩, ⟨8, 5, .lk⟩]⟩,
  ⟨0x400d0028, 4, 1, 4, 0x0, [⟨0, 3, .lk⟩, ⟨3, 3, .lk⟩, ⟨6, 3, .lk⟩]⟩,
  ⟨0x400d0030, 4, 6, 4, 0x0, [⟨0, 7, .lk⟩, ⟨8, 2, .lk⟩, ⟨16, 7, .lk⟩]⟩,
  ⟨0x400d0050, 4, 1, 4, 0x0, [⟨0, 7, .rw⟩, ⟨8, 2, .rw⟩]⟩,
  ⟨0x400d0054, 4, 1, 4, 0x0, [⟨0, 32, .ro⟩]⟩,
  ⟨0x400d0058, 4, 1, 4, 0x0, [⟨0, 32, .ro⟩]⟩,
  ⟨0x400d0100, 4, 16, 4, 0x0, [⟨0, 27, .ro⟩]⟩,
  ⟨0x400d0140, 4, 16, 4, 0x0, [⟨0, 7, .lk⟩, ⟨7, 2, .lk⟩, ⟨9, 1, .lk⟩, ⟨16, 16, .ro⟩]⟩]

/-- The registers of block TAR. -/
def regsTar : List RegDesc := [
  ⟨0x400e0000, 4, 1, 5, 0x0, [⟨0, 4, .ro⟩, ⟨4, 2, .ro⟩, ⟨6, 4, .ro⟩, ⟨10, 5, .ro⟩, ⟨15, 1, .ro⟩, ⟨16, 6, .ro⟩, ⟨22, 1, .ro⟩, ⟨23, 1, .ro⟩, ⟨24, 1, .ro⟩]⟩,
  ⟨0x400e0004, 4, 1, 5, 0x0, [⟨0, 1, .w1c⟩, ⟨1, 1, .w1c⟩, ⟨2, 1, .w1c⟩, ⟨3, 1, .w1c⟩, ⟨4, 1, .w1c⟩, ⟨5, 1, .w1c⟩, ⟨6, 1, .w1c⟩, ⟨7, 1, .w1c⟩]⟩,
  ⟨0x400e0008, 4, 1, 5, 0x0, [⟨0, 8, .rw⟩]⟩,
  ⟨0x400e0010, 4, 1, 5, 0x0, [⟨0, 8, .lk⟩, ⟨8, 1, .lk⟩]⟩,
  ⟨0x400e0014, 4, 1, 5, 0x0, [⟨0, 10, .lk⟩]⟩,
  ⟨0x400e0018, 4, 1, 5, 0x0, [⟨0, 32, .wo⟩]⟩,
  ⟨0x400e001c, 4, 1, 5, 0x0, [⟨0, 32, .ro⟩]⟩,
  ⟨0x400e0020, 4, 1, 5, 0x0, [⟨0, 32, .ro⟩]⟩]

/-- The registers of block PAY. -/
def regsPay : List RegDesc := [
  ⟨0x400f0000, 4, 1, 5, 0x0, [⟨0, 2, .ro⟩, ⟨2, 1, .ro⟩, ⟨3, 1, .ro⟩, ⟨4, 2, .ro⟩, ⟨6, 1, .ro⟩, ⟨7, 3, .ro⟩, ⟨10, 1, .ro⟩]⟩,
  ⟨0x400f0004, 4, 1, 5, 0x0, [⟨0, 4, .w1c⟩, ⟨4, 1, .w1c⟩, ⟨5, 1, .w1c⟩, ⟨6, 1, .w1c⟩, ⟨7, 1, .w1c⟩, ⟨8, 1, .w1c⟩, ⟨9, 1, .w1c⟩, ⟨10, 1, .w1c⟩]⟩,
  ⟨0x400f0008, 4, 1, 5, 0x0, [⟨0, 11, .rw⟩]⟩,
  ⟨0x400f0010, 4, 1, 5, 0x0, [⟨0, 32, .ro⟩]⟩,
  ⟨0x400f0014, 4, 1, 5, 0x0, [⟨0, 32, .ro⟩]⟩,
  ⟨0x400f0018, 4, 1, 5, 0x0, [⟨0, 32, .ro⟩]⟩,
  ⟨0x400f001c, 4, 1, 5, 0x0, [⟨0, 32, .ro⟩]⟩,
  ⟨0x400f0020, 4, 3, 5, 0x0, [⟨0, 32, .wo⟩]⟩,
  ⟨0x400f002c, 4, 1, 5, 0x0, [⟨0, 1, .wo⟩, ⟨1, 2, .wo⟩, ⟨3, 1, .wo⟩]⟩,
  ⟨0x400f0030, 4, 1, 5, 0x0, [⟨0, 4, .ro⟩, ⟨4, 2, .ro⟩, ⟨6, 4, .ro⟩, ⟨10, 2, .ro⟩, ⟨16, 16, .ro⟩]⟩]

/-- The registers of block RLY. -/
def regsRly : List RegDesc := [
  ⟨0x40100000, 4, 1, 5, 0x0, [⟨0, 1, .ro⟩, ⟨1, 2, .ro⟩, ⟨3, 4, .ro⟩, ⟨7, 1, .ro⟩, ⟨8, 1, .ro⟩, ⟨9, 1, .ro⟩]⟩,
  ⟨0x40100004, 4, 1, 5, 0x0, [⟨0, 1, .w1c⟩, ⟨1, 1, .w1c⟩, ⟨2, 1, .w1c⟩, ⟨3, 1, .w1c⟩, ⟨4, 1, .w1c⟩, ⟨5, 1, .w1c⟩, ⟨6, 1, .w1c⟩, ⟨7, 1, .w1c⟩, ⟨8, 1, .w1c⟩]⟩,
  ⟨0x40100008, 4, 1, 5, 0x0, [⟨0, 9, .rw⟩]⟩,
  ⟨0x4010000c, 4, 1, 5, 0x0, [⟨0, 1, .wo⟩, ⟨1, 1, .wo⟩, ⟨2, 1, .wo⟩, ⟨3, 1, .wo⟩, ⟨8, 8, .wo⟩]⟩,
  ⟨0x40100010, 4, 1, 5, 0x0, [⟨0, 8, .lk⟩, ⟨8, 8, .lk⟩, ⟨16, 4, .lk⟩, ⟨20, 4, .lk⟩, ⟨24, 2, .lk⟩, ⟨26, 1, .lk⟩, ⟨27, 5, .lk⟩]⟩,
  ⟨0x40100014, 4, 1, 5, 0x0, [⟨0, 5, .lk⟩, ⟨5, 5, .lk⟩, ⟨10, 1, .lk⟩, ⟨12, 8, .lk⟩, ⟨20, 8, .lk⟩]⟩,
  ⟨0x40100018, 4, 1, 5, 0x0, [⟨0, 12, .ro⟩]⟩,
  ⟨0x4010001c, 4, 1, 5, 0x0, [⟨0, 32, .ro⟩]⟩]

/-- The registers of block CIS. -/
def regsCis : List RegDesc := [
  ⟨0x40110000, 4, 1, 7, 0x0, [⟨0, 8, .lk⟩]⟩,
  ⟨0x40110004, 4, 1, 7, 0x0, [⟨0, 16, .ro⟩, ⟨16, 16, .ro⟩]⟩,
  ⟨0x40110008, 4, 1, 7, 0x0, [⟨0, 1, .w1c⟩, ⟨1, 1, .w1c⟩, ⟨2, 1, .w1c⟩, ⟨3, 1, .w1c⟩, ⟨4, 1, .w1c⟩, ⟨5, 1, .w1c⟩, ⟨6, 1, .w1c⟩, ⟨7, 1, .w1c⟩, ⟨8, 1, .w1c⟩, ⟨9, 1, .w1c⟩, ⟨10, 1, .w1c⟩, ⟨11, 1, .w1c⟩, ⟨12, 1, .w1c⟩]⟩,
  ⟨0x4011000c, 4, 1, 7, 0x0, [⟨0, 13, .rw⟩]⟩,
  ⟨0x40110010, 4, 1, 7, 0x0, [⟨0, 16, .wo⟩, ⟨16, 8, .wo⟩]⟩,
  ⟨0x40110014, 4, 1, 7, 0x0, [⟨0, 1, .wo⟩, ⟨4, 4, .wo⟩]⟩,
  ⟨0x40110018, 4, 1, 7, 0x0, [⟨0, 16, .ro⟩, ⟨16, 16, .ro⟩]⟩,
  ⟨0x40110020, 4, 1, 7, 0x0, [⟨0, 16, .ro⟩, ⟨16, 16, .ro⟩]⟩,
  ⟨0x40110024, 4, 1, 7, 0x0, [⟨0, 16, .rc⟩, ⟨16, 16, .rc⟩]⟩,
  ⟨0x40110030, 4, 1, 7, 0x0, [⟨0, 32, .wo⟩]⟩,
  ⟨0x40110034, 4, 1, 7, 0x0, [⟨0, 32, .wo⟩]⟩,
  ⟨0x40110038, 4, 1, 7, 0x0, [⟨0, 4, .wo⟩, ⟨4, 1, .wo⟩, ⟨8, 1, .wo⟩, ⟨9, 1, .wo⟩]⟩,
  ⟨0x4011003c, 4, 1, 7, 0x0, [⟨0, 16, .ro⟩, ⟨16, 16, .ro⟩]⟩,
  ⟨0x40110100, 4, 16, 7, 0x0, [⟨0, 32, .ro⟩]⟩,
  ⟨0x40110140, 4, 16, 7, 0x0, [⟨0, 32, .ro⟩]⟩]

/-- The registers of block OBJ. -/
def regsObj : List RegDesc := [
  ⟨0x40120000, 4, 1, 5, 0x0, [⟨0, 10, .ro⟩, ⟨10, 1, .ro⟩, ⟨11, 1, .ro⟩, ⟨12, 1, .ro⟩, ⟨16, 7, .ro⟩]⟩,
  ⟨0x40120004, 4, 1, 5, 0x0, [⟨0, 1, .w1c⟩, ⟨1, 1, .w1c⟩, ⟨2, 1, .w1c⟩, ⟨3, 1, .w1c⟩, ⟨4, 1, .w1c⟩, ⟨5, 1, .w1c⟩, ⟨6, 1, .w1c⟩, ⟨7, 1, .w1c⟩, ⟨8, 1, .w1c⟩, ⟨9, 1, .w1c⟩, ⟨10, 1, .w1c⟩, ⟨11, 1, .w1c⟩]⟩,
  ⟨0x40120008, 4, 1, 5, 0x0, [⟨0, 12, .rw⟩]⟩,
  ⟨0x40120010, 4, 1, 5, 0x0, [⟨0, 12, .lk⟩]⟩,
  ⟨0x40120020, 4, 7, 5, 0x0, [⟨0, 3, .ro⟩, ⟨3, 2, .ro⟩, ⟨16, 16, .ro⟩]⟩,
  ⟨0x40120040, 4, 1, 5, 0x0, [⟨0, 32, .ro⟩]⟩,
  ⟨0x40120044, 4, 1, 5, 0x0, [⟨0, 16, .ro⟩]⟩,
  ⟨0x40120048, 4, 1, 5, 0x0, [⟨0, 31, .ro⟩]⟩,
  ⟨0x40120050, 4, 1, 5, 0x0, [⟨0, 9, .ro⟩, ⟨16, 16, .ro⟩]⟩]

/-- The registers of block WEL. -/
def regsWel : List RegDesc := [
  ⟨0x40130000, 4, 1, 0, 0x0, [⟨0, 1, .ro⟩, ⟨1, 1, .ro⟩, ⟨2, 1, .ro⟩, ⟨3, 1, .ro⟩, ⟨4, 1, .ro⟩, ⟨5, 1, .ro⟩, ⟨8, 6, .ro⟩, ⟨16, 4, .ro⟩]⟩,
  ⟨0x40130004, 4, 1, 0, 0x0, [⟨0, 1, .w1c⟩, ⟨1, 1, .w1c⟩, ⟨2, 1, .w1c⟩, ⟨3, 1, .w1c⟩, ⟨4, 1, .w1c⟩, ⟨5, 1, .w1c⟩, ⟨6, 1, .w1c⟩, ⟨7, 1, .w1c⟩, ⟨8, 1, .w1c⟩, ⟨9, 1, .w1c⟩]⟩,
  ⟨0x40130008, 4, 1, 0, 0x0, [⟨0, 10, .rw⟩]⟩,
  ⟨0x4013000c, 4, 1, 0, 0x0, [⟨0, 10, .lk⟩]⟩,
  ⟨0x40130010, 4, 1, 0, 0x0, [⟨0, 4, .ro⟩, ⟨4, 4, .ro⟩, ⟨8, 4, .ro⟩, ⟨12, 8, .ro⟩, ⟨20, 12, .ro⟩]⟩,
  ⟨0x40130014, 4, 1, 0, 0x0, [⟨0, 32, .ro⟩]⟩,
  ⟨0x40130018, 4, 1, 0, 0x0, [⟨0, 32, .ro⟩]⟩,
  ⟨0x4013001c, 4, 1, 0, 0x0, [⟨0, 4, .ro⟩, ⟨4, 8, .ro⟩, ⟨12, 1, .ro⟩, ⟨16, 4, .ro⟩, ⟨20, 8, .ro⟩, ⟨28, 1, .ro⟩]⟩,
  ⟨0x40130100, 4, 16, 0, 0x0, [⟨0, 32, .ro⟩]⟩,
  ⟨0x40130200, 4, 1, 0, 0x0, [⟨0, 2, .wo⟩, ⟨8, 1, .wo⟩, ⟨9, 1, .wo⟩, ⟨10, 1, .wo⟩, ⟨16, 8, .wo⟩]⟩,
  ⟨0x40130210, 4, 16, 0, 0x0, [⟨0, 32, .wo⟩]⟩]

/-- The registers of block SEC. -/
def regsSec : List RegDesc := [
  ⟨0x40140000, 4, 1, 6, 0x0, [⟨0, 1, .ro⟩, ⟨1, 4, .ro⟩, ⟨5, 1, .ro⟩, ⟨6, 1, .ro⟩, ⟨7, 1, .ro⟩]⟩,
  ⟨0x40140004, 4, 1, 6, 0x0, [⟨0, 1, .w1c⟩, ⟨1, 1, .w1c⟩, ⟨2, 1, .w1c⟩, ⟨3, 1, .w1c⟩, ⟨4, 1, .w1c⟩]⟩,
  ⟨0x40140008, 4, 1, 6, 0x0, [⟨0, 5, .rw⟩]⟩,
  ⟨0x4014000c, 4, 1, 6, 0x0, [⟨0, 8, .rc⟩, ⟨8, 8, .rc⟩, ⟨16, 16, .ro⟩]⟩]

/-- The registers of block LMD. -/
def regsLmd : List RegDesc := [
  ⟨0x40150000, 4, 1, 9, 0x0, [⟨0, 1, .lk⟩, ⟨1, 1, .lk⟩, ⟨2, 2, .lk⟩, ⟨4, 5, .lk⟩, ⟨16, 8, .lk⟩]⟩,
  ⟨0x40150004, 4, 1, 9, 0x6, [⟨0, 3, .ro⟩, ⟨3, 1, .ro⟩, ⟨4, 1, .ro⟩, ⟨5, 1, .ro⟩, ⟨6, 1, .ro⟩, ⟨7, 1, .ro⟩, ⟨8, 1, .ro⟩, ⟨9, 1, .ro⟩, ⟨10, 1, .ro⟩]⟩,
  ⟨0x40150008, 4, 1, 9, 0x0, [⟨0, 1, .w1c⟩, ⟨1, 1, .w1c⟩, ⟨2, 1, .w1c⟩, ⟨3, 1, .w1c⟩, ⟨4, 1, .w1c⟩, ⟨5, 1, .w1c⟩, ⟨6, 1, .w1c⟩, ⟨7, 1, .w1c⟩, ⟨8, 1, .w1c⟩, ⟨9, 1, .w1c⟩, ⟨10, 1, .w1c⟩, ⟨11, 1, .w1c⟩, ⟨12, 1, .w1c⟩, ⟨13, 1, .w1c⟩, ⟨14, 1, .w1c⟩, ⟨15, 1, .w1c⟩]⟩,
  ⟨0x4015000c, 4, 1, 9, 0x0, [⟨0, 16, .rw⟩]⟩,
  ⟨0x40150010, 4, 1, 9, 0x0, [⟨0, 6, .lk⟩, ⟨8, 6, .lk⟩, ⟨16, 8, .lk⟩]⟩,
  ⟨0x40150014, 4, 1, 9, 0x0, [⟨0, 25, .lk⟩]⟩,
  ⟨0x40150018, 4, 1, 9, 0x0, [⟨0, 8, .lk⟩, ⟨8, 4, .lk⟩, ⟨12, 7, .lk⟩, ⟨20, 8, .lk⟩]⟩,
  ⟨0x4015001c, 4, 1, 9, 0x0, [⟨0, 16, .ro⟩]⟩,
  ⟨0x40150020, 4, 1, 9, 0x0, [⟨0, 8, .ro⟩, ⟨8, 8, .ro⟩, ⟨16, 2, .ro⟩, ⟨18, 1, .ro⟩]⟩,
  ⟨0x40150024, 4, 1, 9, 0x0, [⟨0, 32, .ro⟩]⟩,
  ⟨0x40150028, 4, 1, 9, 0x0, [⟨0, 8, .ro⟩, ⟨8, 8, .ro⟩, ⟨16, 8, .ro⟩, ⟨24, 2, .ro⟩]⟩,
  ⟨0x40150030, 4, 1, 9, 0x0, [⟨0, 11, .lk⟩, ⟨16, 8, .lk⟩, ⟨24, 7, .lk⟩]⟩,
  ⟨0x40150034, 4, 1, 9, 0x0, [⟨0, 1, .wo⟩, ⟨1, 1, .wo⟩, ⟨8, 8, .wo⟩]⟩,
  ⟨0x40150038, 4, 1, 9, 0x0, [⟨0, 2, .ro⟩, ⟨2, 2, .ro⟩, ⟨4, 1, .ro⟩, ⟨5, 1, .ro⟩, ⟨8, 3, .ro⟩, ⟨16, 16, .ro⟩]⟩,
  ⟨0x4015003c, 4, 1, 9, 0x0, [⟨0, 16, .ro⟩, ⟨16, 16, .ro⟩]⟩,
  ⟨0x40150040, 4, 2, 9, 0x0, [⟨0, 16, .rwh⟩, ⟨31, 1, .rwh⟩]⟩,
  ⟨0x40150400, 4, 75, 9, 0x0, [⟨0, 16, .lk⟩]⟩]

/-- The registers of block FAB. -/
def regsFab : List RegDesc := [
  ⟨0x40160000, 4, 1, 9, 0x0, [⟨0, 16, .lk⟩, ⟨16, 3, .lk⟩, ⟨19, 3, .lk⟩, ⟨22, 1, .lk⟩, ⟨24, 8, .lk⟩]⟩,
  ⟨0x40160004, 4, 1, 9, 0x7, [⟨0, 3, .ro⟩, ⟨3, 1, .ro⟩, ⟨4, 1, .ro⟩, ⟨5, 2, .ro⟩, ⟨7, 1, .ro⟩, ⟨8, 1, .ro⟩, ⟨9, 1, .ro⟩, ⟨16, 7, .ro⟩, ⟨23, 9, .ro⟩]⟩,
  ⟨0x40160008, 4, 1, 9, 0x0, [⟨0, 1, .w1c⟩, ⟨1, 1, .w1c⟩, ⟨2, 1, .w1c⟩, ⟨3, 1, .w1c⟩, ⟨4, 1, .w1c⟩, ⟨5, 1, .w1c⟩, ⟨6, 1, .w1c⟩, ⟨7, 1, .w1c⟩, ⟨8, 1, .w1c⟩, ⟨9, 1, .w1c⟩, ⟨10, 1, .w1c⟩, ⟨11, 1, .w1c⟩]⟩,
  ⟨0x4016000c, 4, 1, 9, 0x0, [⟨0, 12, .rw⟩]⟩,
  ⟨0x40160010, 4, 1, 9, 0x0, [⟨0, 10, .lk⟩, ⟨10, 10, .lk⟩, ⟨20, 10, .lk⟩]⟩,
  ⟨0x40160014, 4, 1, 9, 0x0, [⟨0, 1, .wo⟩, ⟨1, 1, .wo⟩, ⟨2, 1, .wo⟩, ⟨8, 8, .wo⟩]⟩,
  ⟨0x40160018, 4, 1, 9, 0x0, [⟨0, 2, .rw⟩, ⟨2, 2, .rw⟩, ⟨4, 12, .rw⟩, ⟨16, 6, .rw⟩]⟩,
  ⟨0x40160020, 4, 1, 9, 0x0, [⟨0, 12, .ro⟩, ⟨12, 1, .ro⟩, ⟨16, 16, .ro⟩]⟩,
  ⟨0x40160024, 4, 1, 9, 0x0, [⟨0, 32, .ro⟩]⟩,
  ⟨0x40160028, 4, 1, 9, 0x0, [⟨0, 32, .ro⟩]⟩,
  ⟨0x40160030, 4, 1, 9, 0x0, [⟨0, 32, .ro⟩]⟩,
  ⟨0x40160034, 4, 1, 9, 0x0, [⟨0, 32, .ro⟩]⟩,
  ⟨0x40160040, 4, 1, 9, 0x0, [⟨0, 8, .rw⟩]⟩,
  ⟨0x40160044, 4, 1, 9, 0x0, [⟨0, 12, .ro⟩, ⟨12, 12, .ro⟩, ⟨24, 4, .ro⟩, ⟨28, 1, .ro⟩, ⟨29, 1, .ro⟩, ⟨31, 1, .ro⟩]⟩,
  ⟨0x40160048, 4, 1, 9, 0x0, [⟨0, 8, .ro⟩, ⟨8, 16, .ro⟩, ⟨24, 8, .ro⟩]⟩,
  ⟨0x40160050, 4, 4, 9, 0x0, [⟨0, 32, .rc⟩]⟩]

/-- The registers of block PNL. -/
def regsPnl : List RegDesc := [
  ⟨0x40170000, 4, 1, 10, 0x0, [⟨0, 1, .wo⟩, ⟨1, 1, .wo⟩, ⟨2, 1, .wo⟩, ⟨3, 1, .wo⟩, ⟨8, 8, .wo⟩]⟩,
  ⟨0x40170004, 4, 1, 10, 0x0, [⟨0, 3, .ro⟩, ⟨4, 4, .ro⟩, ⟨16, 16, .ro⟩]⟩,
  ⟨0x40170008, 4, 1, 10, 0x0, [⟨0, 1, .w1c⟩, ⟨1, 1, .w1c⟩, ⟨2, 1, .w1c⟩, ⟨3, 1, .w1c⟩, ⟨4, 1, .w1c⟩, ⟨5, 1, .w1c⟩]⟩,
  ⟨0x4017000c, 4, 1, 10, 0x0, [⟨0, 6, .rw⟩]⟩,
  ⟨0x40170010, 4, 1, 10, 0x0, [⟨0, 2, .lk⟩, ⟨2, 8, .lk⟩, ⟨10, 5, .lk⟩]⟩,
  ⟨0x40170014, 4, 1, 10, 0x0, [⟨0, 8, .lk⟩, ⟨8, 8, .lk⟩, ⟨16, 6, .lk⟩, ⟨24, 6, .lk⟩]⟩,
  ⟨0x40170020, 4, 4, 10, 0x0, [⟨0, 7, .lk⟩, ⟨7, 1, .lk⟩, ⟨8, 7, .lk⟩, ⟨16, 8, .lk⟩, ⟨24, 8, .lk⟩]⟩,
  ⟨0x40170030, 4, 1, 10, 0x0, [⟨0, 4, .lk⟩, ⟨8, 8, .lk⟩]⟩,
  ⟨0x40170040, 4, 8, 10, 0x0, [⟨0, 7, .rw⟩, ⟨7, 7, .rw⟩, ⟨14, 6, .rw⟩, ⟨20, 6, .rw⟩, ⟨26, 2, .rw⟩]⟩,
  ⟨0x40171000, 4, 512, 10, 0x0, [⟨0, 32, .rw⟩]⟩]

/-- The registers of block KPD. -/
def regsKpd : List RegDesc := [
  ⟨0x40180000, 4, 1, 10, 0x0, [⟨0, 3, .lk⟩, ⟨3, 1, .lk⟩]⟩,
  ⟨0x40180004, 4, 1, 10, 0x0, [⟨0, 4, .ro⟩, ⟨4, 20, .ro⟩]⟩,
  ⟨0x40180008, 4, 1, 10, 0x0, [⟨0, 1, .w1c⟩, ⟨1, 1, .w1c⟩, ⟨2, 1, .w1c⟩, ⟨3, 1, .w1c⟩]⟩,
  ⟨0x4018000c, 4, 1, 10, 0x0, [⟨0, 4, .rw⟩]⟩,
  ⟨0x40180010, 4, 1, 10, 0x0, [⟨0, 5, .rc⟩, ⟨5, 1, .rc⟩, ⟨6, 1, .rc⟩, ⟨7, 1, .rc⟩, ⟨8, 10, .rc⟩]⟩]

/-- The registers of block HIF. -/
def regsHif : List RegDesc := [
  ⟨0x40190000, 4, 1, 0, 0x0, [⟨0, 7, .lk⟩, ⟨8, 1, .lk⟩]⟩,
  ⟨0x40190004, 4, 1, 0, 0x0, [⟨0, 6, .ro⟩, ⟨8, 4, .ro⟩, ⟨12, 1, .ro⟩]⟩,
  ⟨0x40190008, 4, 1, 0, 0x0, [⟨0, 6, .ro⟩, ⟨6, 1, .w1c⟩, ⟨7, 1, .w1c⟩, ⟨8, 1, .w1c⟩, ⟨9, 1, .ro⟩, ⟨10, 1, .w1c⟩, ⟨11, 1, .w1c⟩]⟩,
  ⟨0x4019000c, 4, 1, 0, 0x0, [⟨0, 12, .rw⟩]⟩,
  ⟨0x40190010, 4, 4, 0, 0x0, [⟨0, 4, .lk⟩, ⟨4, 1, .lk⟩]⟩]

/-- The registers of block TIM. -/
def regsTim : List RegDesc := [
  ⟨0x401a0000, 16, 8, 5, 0x0, [⟨0, 3, .rw⟩, ⟨3, 1, .rw⟩, ⟨4, 4, .rw⟩, ⟨8, 1, .wo⟩, ⟨9, 1, .wo⟩, ⟨10, 1, .ro⟩, ⟨12, 2, .ro⟩, ⟨14, 2, .rw⟩, ⟨16, 1, .rw⟩]⟩,
  ⟨0x401a0004, 16, 8, 5, 0xffffffff, [⟨0, 32, .rw⟩]⟩,
  ⟨0x401a0008, 16, 8, 5, 0x0, [⟨0, 32, .rwh⟩]⟩,
  ⟨0x401a000c, 16, 8, 5, 0x0, [⟨0, 32, .ro⟩]⟩,
  ⟨0x401a0100, 4, 1, 5, 0x0, [⟨0, 8, .w1c⟩, ⟨8, 8, .w1c⟩]⟩,
  ⟨0x401a0104, 4, 1, 5, 0x0, [⟨0, 16, .rw⟩]⟩]

/-- The registers of block UPD. -/
def regsUpd : List RegDesc := [
  ⟨0x401b0000, 4, 1, 5, 0x0, [⟨0, 3, .ro⟩, ⟨3, 1, .ro⟩, ⟨4, 2, .ro⟩, ⟨6, 2, .ro⟩, ⟨8, 2, .ro⟩, ⟨16, 16, .ro⟩]⟩,
  ⟨0x401b0004, 4, 1, 5, 0x0, [⟨0, 1, .w1c⟩, ⟨1, 1, .w1c⟩, ⟨2, 1, .w1c⟩, ⟨3, 1, .w1c⟩, ⟨4, 1, .w1c⟩, ⟨5, 1, .w1c⟩, ⟨6, 1, .w1c⟩, ⟨7, 1, .w1c⟩, ⟨8, 1, .w1c⟩, ⟨9, 1, .w1c⟩, ⟨10, 1, .w1c⟩]⟩,
  ⟨0x401b0008, 4, 1, 5, 0x0, [⟨0, 11, .rw⟩]⟩,
  ⟨0x401b000c, 4, 1, 5, 0x0, [⟨0, 3, .wo⟩, ⟨3, 2, .wo⟩, ⟨8, 8, .wo⟩]⟩,
  ⟨0x401b0010, 4, 1, 5, 0x0, [⟨0, 20, .ro⟩]⟩,
  ⟨0x401b0020, 4, 2, 5, 0x0, [⟨0, 32, .ro⟩]⟩,
  ⟨0x401b0028, 4, 1, 5, 0x0, [⟨0, 32, .ro⟩]⟩]

/-- The descriptions of one block, by its index (R19: (base − 0x4000_0000) >> 16). -/
def blockRegs : Nat → List RegDesc
  | 0 => regsSup
  | 1 => regsPmu
  | 2 => regsClk
  | 3 => regsInt
  | 4 => regsEvf
  | 5 => regsTamp
  | 6 => regsPin
  | 7 => regsCfg
  | 8 => regsCnv
  | 9 => regsFlt
  | 10 => regsPhe
  | 11 => regsNrg
  | 12 => regsSpe
  | 13 => regsBil
  | 14 => regsTar
  | 15 => regsPay
  | 16 => regsRly
  | 17 => regsCis
  | 18 => regsObj
  | 19 => regsWel
  | 20 => regsSec
  | 21 => regsLmd
  | 22 => regsFab
  | 23 => regsPnl
  | 24 => regsKpd
  | 25 => regsHif
  | 26 => regsTim
  | 27 => regsUpd
  | _ => []

/-- The power domain each register block stands in (the block table of chapter 01). -/
def blockDom : Nat → Nat
  | 0 => 0
  | 1 => 0
  | 2 => 0
  | 3 => 0
  | 4 => 0
  | 5 => 0
  | 6 => 0
  | 7 => 4
  | 8 => 1
  | 9 => 2
  | 10 => 2
  | 11 => 2
  | 12 => 3
  | 13 => 4
  | 14 => 5
  | 15 => 5
  | 16 => 5
  | 17 => 7
  | 18 => 5
  | 19 => 0
  | 20 => 6
  | 21 => 9
  | 22 => 9
  | 23 => 10
  | 24 => 10
  | 25 => 0
  | 26 => 5
  | 27 => 5
  | _ => 0

end Sys2Proof.Machine
end

