-- ==== Sys2Proof/Machine/State.lean ====
section
/-! DEFINITION. The state as plain data, the faults and refusals, and the state right after reset. -/
namespace Sys2Proof.Machine

/-- Why a command faults: no command of this block faults (every condition the spec gives is an effect). -/
inductive Fault where
  /-- Reserved: raised by nothing; safe. -/
  | none
deriving DecidableEq, Repr

/-- Why a command is refused. -/
inductive Refusal where
  /-- Raised by the dispatch for a command that has no meaning yet; safe. -/
  | notModelled (mnemonic : String)
deriving DecidableEq, Repr

/-- The supervisor's state that no register shows (chapter 13): the power mode, the monotonic tick (R271, in 1/1024 s) and the
running sub-second (R301), the cause the next start will show (R300), the bus-fault count (R299), the entry handshake
(R284 to R286, R292), the retention banks (R285), the operating-point change in progress (R294), E0's freeze record, the
image digest in D0 (R290), the quarantined engines (R276), the seconds by which the RTC has still to slew (R179), and the status registers
whose values the cores' SRAM keeps in NAP (R285). -/
structure SupSt where
  mode : PowerMode := .por
  mono : Nat := 0
  sub : Nat := 0
  nextCause : Nat := 1
  d0Kept : Bool := false
  bfLive : Nat := 0
  bfTaken : Bool := true
  bfInfo : Nat := 0
  shipEntry : Bool := false
  shipFrozen : Bool := false
  wakePend : Nat := 0
  abortPend : Bool := false
  napSince : Nat := 0
  mpllNext : Option Nat := none
  retBanks : List (Option (List (Nat × Word))) := [none, none, none, none]
  opTarget : Option (Nat × Nat × Nat) := none
  freeze : Option FreezeRec := none
  digest : Option Nat := none
  freezeOnResetN : Bool := false
  vddRemoved : Bool := false
  coldReq : Bool := false
  quarantined : Nat := 0
  slew : Int := 0
  firm : List (Nat × Word) := []
deriving DecidableEq, Repr

/-- The image loader's state (chapter 02): whether LK fields are locked (R5), the section being read again and its reads
(R34), the memory's clock in kHz and the header's FAST flag (R33), whether a re-read's first pass runs and whether the second pass restarts everything, the tamper start
latch (R46), the hashes and digests of what runs, the image tables in force, the legal partition (R41), whether the
recall found no valid keep record (R62), the freeze time of a re-read (R52) and the time of VDD-good. -/
structure LoadSt where
  locked : Bool := false
  conf : Nat := 1
  guard : Bool := true
  fallback : Bool := false
  partialRun : Bool := false
  retrySection : Nat := 0
  reads : Nat := 0
  spiKhz : Nat := 25000
  fast : Bool := false
  restartAll : Bool := false
  latched : Nat := 0
  lateAlarms : List LateAlarm := []
  metroHash : Nat := 0
  legalPart : List Byte := []
  tables : ImgTables := {}
  imageRegs : List (Nat × Word) := []
  keepBad : Bool := false
  rereadFrom : Option Nat := none
  reread : Nat := 0
  source : Nat := 0
  refused : Bool := false
deriving DecidableEq, Repr


/-- The relief in progress (R65 to R69): channel, relieved and relieving slice, the metrology time of its trigger, the cycles
since the window opened, the window's sums over both corrected streams, whether gain and delay could be assessed throughout, the restarts so far, the checks failed, and
whether the slice is on the calibration source on its own (R73). -/
structure Relief where
  chan : Nat := 0
  old : Nat := 0
  new : Nat := 0
  start : Nat := 0
  cycles : Nat := 0
  n : Nat := 0
  sa : Int := 0
  sb : Int := 0
  saa : Nat := 0
  sbb : Nat := 0
  sab : Int := 0
  reA : Int := 0
  imA : Int := 0
  reB : Int := 0
  imB : Int := 0
  gainSeen : Bool := true
  delaySeen : Bool := true
  restarts : Nat := 0
  closed : Bool := false
  failed : Nat := 0
  alone : Bool := false
deriving DecidableEq, Repr

/-- The converters' state (chapter 03). `calOf` is the relieved slice under calibration and what its relief left to decide
(R68); `lastTaken` the coefficients each slice had when it last took a channel; `inForce` the channel gain, offset and delay in
force, `committed` those that a COMMIT makes take effect at the next epoch (R79); `swaps` the takeovers without a window due at
the next epoch (R71, R72); `doomed` the slices that are lasting but keep their channel (R72); `dark` the slices that idle
channels leave powered down (R59); `again` the relief out of turn that R68 owes a channel, with its spare. In metrology time:
`rotAt` the last relief time of the schedule (R64), `waitAt` each slice's last calibration that was impossible (R69), `standbyAt` the
last calibration of the standby (R73). -/
structure ConvSt where
  readyAt : List Nat := List.replicate 10 0
  readyStamp : Nat := 0
  lastTaken : List (Int × Int × Int) := List.replicate 10 (0, 0, 0)
  relief : Option Relief := none
  calOf : Option Relief := none
  calStep : Nat := 0
  calOffset : Int := 0
  nextChan : Nat := 0
  deferred : Bool := false
  again : Option (Nat × Nat) := none
  waitCal : Nat := 0
  waitAt : List Nat := List.replicate 10 0
  rotAt : Nat := 0
  standbyAt : Nat := 0
  dark : Nat := 0
  fifo : List (Nat × Nat) := []
  tapSeq : Nat := 0
  inForce : List (Nat × Nat × Nat) := List.replicate 8 (0, 0, 0)
  committed : List (Nat × Nat × Nat) := List.replicate 8 (0, 0, 0)
  commitPend : Bool := false
  swaps : List (Nat × Nat) := []
  doomed : Nat := 0
  disagreeSecs : Nat := 0
  trim : List (Int × Int × Int) := List.replicate 10 (0, 0, 0)
  winPend : Bool := false
  winLeft : Nat := 0
  winEnergy : Nat := 0
deriving DecidableEq, Repr

/-- One phase's values of a cycle, in units of 2^-40 µW (powers) and 2^-16 mV or mA (RMS). -/
structure PhaseCycle where
  p : Int := 0
  q : Int := 0
  p1 : Int := 0
  q1 : Int := 0
  s : Nat := 0
  vec : Nat := 0
deriving DecidableEq, Repr

/-- A pulse channel (R129, R130): the residue in 2^-32 nWh, the scheduled edges with the instants at which they were placed, the last
edge and the instant at which the output went inactive after it, in µs of the metrology clock, and whether the output is active. -/
structure PulseSt where
  resid : Nat := 0
  edges : List Nat := []
  placed : List Nat := []
  last : Option Nat := none
  off : Option Nat := none
  active : Bool := false
deriving DecidableEq, Repr

/-- One slice's decimation path (R84): the contents of its integrators and combs modulo 2^36, as many of each as the longest CIC
has, and its CIC outputs, newest first. -/
structure SlicePath where
  ints : List Nat := [0, 0, 0, 0, 0]
  combs : List Nat := [0, 0, 0, 0, 0]
  cic : List Int := []
deriving DecidableEq, Repr

/-- The filter chain's and the metrology engines' state (chapters 04 and 05). `paths` are the slices' decimation paths, `filled`
whether their filters have filled since the start or restart (R91), `integ` the Rogowski integrators (R88) and `presetDue` whether
their preset is due, `inputs` the fixed-rate inputs the resamplers hold (R93), `joined` and `joinInteg` those of the slice in a
relief. `hist` holds the coherent samples, newest
first, eight channels each; `pos` the sample index in the frame; `clock` the metrology time in 2^-24 input samples; `acc` the
accumulators with their fractions; `ended` the frame and index of the last sample before the frame in progress and `endedSpc`
its samples per cycle; `freqSum` the sum of f_grid over the frame's cycles; the rest are the tracker's, the comparators', the frame's and the tamper conditions' running
values. -/
structure MetroSt where
  hist : List (List Int) := []
  pos : Nat := 0
  clock : Nat := 0
  cyc : Nat := 0
  spc : Nat := 256
  freshCycle : Bool := true
  fGrid : Nat := 50000000
  phasePrev : Option Int := none
  slipPrev : Int := 0
  slow : Nat := 0
  everLocked : Bool := false
  holdLow : Bool := false
  cleanCycle : Bool := true
  fallbackSecs : Nat := 0
  holdNext : Option Nat := none
  chainStop : Bool := false
  chainRestart : Bool := false
  chainDown : Bool := false
  paths : List SlicePath := List.replicate 10 {}
  filled : Bool := false
  integ : List Int := List.replicate 8 0
  presetDue : Bool := true
  inputs : List (List Int) := List.replicate 8 []
  joined : List Int := []
  joinInteg : Int := 0
  ended : Nat × Nat := (0, 0)
  endedSpc : Nat := 256
  freqSum : Nat := 0
  hcRms : List Nat := List.replicate 8 0
  hcValid : Bool := false
  hcAge : Nat := 0
  winCount : List Nat := List.replicate 16 0
  winBack : List Nat := List.replicate 16 0
deriving DecidableEq, Repr

/-- The energy side of chapter 05. -/
structure EnergySt where
  acc : List Nat := List.replicate 40 0
  accStart : List Nat := List.replicate 40 0
  accPub : List Nat := List.replicate 40 0
  flags : Nat := 0
  noloadFrame : Nat := 0
  last : List PhaseCycle := List.replicate 3 {}
  lastIn : PhaseCycle := {}
  lastMismatch : Bool := false
  frameCycles : List (List PhaseCycle) := []
  imbalAll : Bool := true
  imbalAny : Bool := false
  imbalFrames : Nat := 0
  revCount : List Nat := List.replicate 3 0
  fwdCount : List Nat := List.replicate 3 0
  revOn : Nat := 0
  ring : List HandoffRec := []
  pulses : List PulseSt := List.replicate 4 {}
  pfArmed : Bool := false
  imageDue : Bool := false
  bandNext : Bool := false
  profNew : Bool := false
  restartMark : Bool := true
  spliceMark : Bool := false
  profTo : Nat := 0
  boundaries : Nat := 0
  stagedAt : Nat := 0
  e7Ready : Bool := true
deriving DecidableEq, Repr

/-- Tamper and fault counting (chapter 12): each counter's occurrence times newest first, the RTC second it became lasting,
its life total, the tick its quiet time runs from; the fixed producers tripped; the queue in D0; counters with a change not yet
written to the fault record and whether a write of it waits for the recall; the debounce counts of OUTAGE; the crack loop's readings in
a row; whether E0 has taken up the fault record since D0 was reset, and whether the quiet times wait for the first valid frame (R274). -/
structure TampSt where
  hist : List (List Nat) := List.replicate 64 []
  since : List Nat := List.replicate 64 0
  life : List Nat := List.replicate 64 0
  quietFrom : List Nat := List.replicate 64 0
  prods : Nat := 0
  queue : List TampRec := []
  totalsChanged : Bool := false
  recDue : Bool := false
  covSeen : List Nat := [0, 0]
  relSeen : List Nat := [0, 0]
  crkBad : Nat := 0
  crkGood : Nat := 0
  loaded : Bool := false
  quietWait : Bool := false
  tsLive : Sparse (Nat × Nat × Nat) := []
deriving DecidableEq, Repr

/-- The records of Cistern bank 0 (R205): the accumulator image, the billing record, the credit record, the spread counters. -/
structure Bank0 where
  acc : TwoCopy AccImage := {}
  bill : TwoCopy BillRec := {}
  credit : TwoCopy CreditRec := {}
  spread : List Spread := List.replicate 7 {}
deriving DecidableEq, Repr

/-- The records of bank 1: keep, passwords (read, write; 8-byte numbers, byte 0 most significant), update, Well, key store and
fallback copy. -/
structure Bank1 where
  keep : TwoCopy KeepRec := {}
  pw : TwoCopy (List (Nat × Nat)) := {}
  upd : TwoCopy UpdRec := {}
  well : TwoCopy WellRec := {}
  keys : List KeyEntry := []
  fall : TwoCopy Fallback := {}
deriving DecidableEq, Repr

/-- The records of bank 2: the legal log's 64-byte slots (0 to 255 the change part, 256 to 511 the event part) with where E1
writes next, as it found them at the start (R238), the fault record and the tamper log's ring. -/
structure Bank2 where
  legal : Sparse (List Byte) := []
  chgUsed : Nat := 0
  chgCount : Nat := 0
  evNext : Nat := 256
  fault : TwoCopy FaultRec := {}
  tlog : Sparse TampRec := []
deriving DecidableEq, Repr

/-- The records of bank 3: billing snapshots, sounding record, fabric record, power-quality log. -/
structure Bank3 where
  snaps : Sparse Snapshot := []
  sound : TwoCopy SoundRec := {}
  fab : TwoCopy FabRec := {}
  pq : Sparse PqRec := []
deriving DecidableEq, Repr

/-- What one Cistern bank holds: banks 0 to 3 their records, banks 4 to 12 load profile 1 entries, bank 13 load profile 2
entries, banks 14 and 15 the host's bytes. -/
inductive BankData where
  | b0 (d : Bank0)
  | b1 (d : Bank1)
  | b2 (d : Bank2)
  | b3 (d : Bank3)
  | lp1 (d : Sparse ProfEntry)
  | lp2 (d : Sparse ProfEntry)
  | user (d : Sparse Byte)
deriving DecidableEq, Repr

/-- One shadow plane (chapter 09): the begin stamp (store count, RTC), the trailer (store count, RUN, RTC), `none` where it is
not valid, and the copy. -/
structure Plane where
  beg : Option (Nat × Nat) := none
  trl : Option (Nat × Nat × Nat) := none
  data : BankData
deriving DecidableEq, Repr

/-- The Cistern (chapter 09): the SRAM of the sixteen banks, the two planes of each, the host grants (interface, bank, kind 0
read or 1 write, time of the last access), whether a power-fail store runs and whether this run took one, whether the recall is
done; the banks written while their copy ran (R209), the banks whose refused store E1 requests again after the commit (R210), the
tick from which the next periodic store is timed (R207). -/
structure CisSt where
  b0 : Bank0 := {}
  b1 : Bank1 := {}
  b2 : Bank2 := {}
  b3 : Bank3 := {}
  lp1 : List (Sparse ProfEntry) := List.replicate 9 []
  lp2 : Sparse ProfEntry := []
  user : List (Sparse Byte) := [[], []]
  planes : List (Plane × Plane) :=
    [({ data := .b0 {} }, { data := .b0 {} }), ({ data := .b1 {} }, { data := .b1 {} }),
     ({ data := .b2 {} }, { data := .b2 {} }), ({ data := .b3 {} }, { data := .b3 {} })] ++
    List.replicate 9 ({ data := .lp1 [] }, { data := .lp1 [] }) ++ [({ data := .lp2 [] }, { data := .lp2 [] })] ++
    List.replicate 2 ({ data := .user [] }, { data := .user [] })
  grants : List (Nat × Nat × Nat × Nat) := []
  pfStore : Bool := false
  pfTaken : Bool := false
  recalled : Bool := false
  late : Nat := 0
  again : Nat := 0
  tickAt : Nat := 0
deriving DecidableEq, Repr

/-- One of the seven session interfaces (R230): challenge, host nonce, session key, the next SSEQ and the tick of the last request or,
while a proof is awaited, of the challenge. -/
structure SessSt where
  challenge : List Byte := []
  nonce : List Byte := []
  key : Nat := 0
  nextSeq : Nat := 1
  last : Nat := 0
deriving DecidableEq, Repr

/-- The object server's and the update controller's state (chapter 10): the sessions, the object request each interface's E2 has not
answered, the snapshot signature in progress (interface, the reading without SIG, the key); the two application slots; the update's
target (legal package), whether the activation waits for its bank 1 commit and the tick at which it committed, and whether an update
was interrupted. -/
structure ObjSt where
  sess : List SessSt := List.replicate 7 {}
  req : List (Option ObjReq) := List.replicate 7 none
  signing : Option (Nat × List Byte × Nat) := none
  slotA : List Byte := []
  slotB : List Byte := []
  updLegal : Bool := false
  actWait : Bool := false
  actAt : Option Nat := none
  interrupted : Bool := false
deriving DecidableEq, Repr

/-- The host interfaces, pins and timers (chapter 17): each interface's slot with the tick it was last filled, its request count,
the bytes it sent last (`none`: nothing, or a NACK), the timers' image claims, the pads and timers claimed at run time, the
optical port with the tick of its last activity, the inbox of R368. -/
structure HifSt where
  slots : List HostSlot := List.replicate 6 .free
  since : List Nat := List.replicate 6 0
  rseq : List Nat := List.replicate 6 0
  sent : List (Option (List Byte)) := List.replicate 6 none
  claims : List PinClaim := []
  runPads : List Nat := []
  runTims : List Nat := []
  optical : Optical := .signOn
  optAt : Nat := 0
  inbox : List Message := []
deriving DecidableEq, Repr

/-- The waveform capture (R154 to R158): the capture number, the slots full in the order in which they filled, the sets kept in
the ring and written in all, the ring's next place, what the header will say, and whether the newest sample waits to enter the
ring; the sets taken since PRE began, and the flags that changes in PRE left with the set they came at (R158). -/
structure CapSt where
  seq : Nat := 0
  order : List Nat := []
  kept : Nat := 0
  written : Nat := 0
  place : Nat := 0
  trigFrame : Nat := 0
  trigSample : Nat := 0
  trigFrac : Nat := 0
  trigLine : Nat := 0xFF
  trigRtc : Nat := 0
  trigFreq : Nat := 0
  firstFrame : Nat := 0
  firstSample : Nat := 0
  preKept : Nat := 0
  retrig : Nat := 0
  flags : Nat := 0
  lag : Bool := false
  taken : Nat := 0
  marks : List (Nat × Nat) := []
deriving DecidableEq, Repr

/-- E7's state (chapter 06): the events in force, the record FIFO, the frame's marks (R149) and its supraharmonic blocks so
far, frames waiting to be transformed, the results shown, the aggregates shown with their flags and the block in progress; whether the
next frame, or the frame in progress, starts an aggregate block (R140). -/
structure SpecSt where
  dip : Option PqEvent := none
  swell : Option PqEvent := none
  intr : Option PqEvent := none
  fifo : List PqRec := []
  marks : Nat := 0
  usable : Nat := 0
  unusable : Nat := 0
  bands : List Nat := []
  waiting : List FrameSet := []
  shown : ResultSet := {}
  aggShown : ResultSet := {}
  aggFlags : Nat := 0
  agg : AggBlock := {}
  newBlock : Bool := false
  blockStart : Bool := false
  spoiled : Bool := false
deriving DecidableEq, Repr

/-- The Well and the crypto engine (chapter 11): E0's copy of the Well record (`none` when it is lost), the OTP (key slots image 0,
image 1, key authority 0, key authority 1; fuses PROV_LOCK, DBG_KILL, WELL_INIT; SPARE_MAP), the cached parents, the working
slots least recently used first, the key update in progress, the job queue with the job that runs, the outcome of the last
load, the mask's draw and its tick, the TRNG's tests, and the DRBG: seeded, the tick of its last seed, the requests since. -/
structure WellSt where
  d0 : Option WellRec := none
  otp : List (Option Nat) := [none, none, none, none]
  provLock : Bool := false
  dbgKill : Bool := false
  wellInit : Bool := false
  spareMap : Option Nat := none
  parents : List (Nat × Nat) := []
  slots : List WSlot := []
  ku : Option KeyJob := none
  jobs : List CryptoJob := []
  running : Option CryptoJob := none
  lastLoad : Option Load := none
  mask : Nat := 0
  maskAt : Nat := 0
  trng : Trng := {}
  seeded : Bool := false
  seedAt : Nat := 0
  requests : Nat := 0
deriving DecidableEq, Repr

/-- The line modem's state (chapter 14): the frame on the line, the band C frame that waits for the band, the end of the last band
C transmission, the band being demodulated (true C), the instant of the last zero crossing in µs of the metrology clock and whether one was valid in the run, the
sounding request that waits with its tick and whether the next measurement is a baseline, the due repeat, whether a repeat
waits for a mute line or for the relays, the last periodic request and the tick of a verified relay change; the samples the receive
ADC has written (R313), the one at which E7's next block starts (R143), and whether the driver or a chirp has been on the line since
E7 last looked (R144); the tick at which the band C frame came, the header of the frame on the line (R306), and the blanker's samples and
count (R312). -/
structure LmdSt where
  tx : Option TxFrame := none
  lbt : Option TxFrame := none
  lbtAt : Nat := 0
  txHeader : Nat := 0
  lastC : Option Nat := none
  rx : Option Bool := none
  zcAt : Int := 0
  zcSeen : Bool := false
  sndSince : Option Nat := none
  sndBase : Bool := false
  sndRepeat : Option Nat := none
  repeatMute : Bool := false
  repeatRly : Bool := false
  sndLast : Nat := 0
  verifAt : Option Nat := none
  adc : Nat := 0
  shNext : Nat := 0
  lineUsed : Bool := false
  blankWin : List Int := []
  blankAfter : Nat := 0
deriving DecidableEq, Repr

/-- E10's state (chapter 15): link sequence number, frame counter, own head sequence number, message and route-request numbers; the
claim in progress (candidate, tick) and the failed ones; neighbours and routes, least recently used first; frames waiting for
the medium, the frame that waits for its ack and since when, messages and frames held for a route (with the request's number and tick), in reassembly, for E2 (with
the tick), and in Pass; the floods seen, with the tick; the numbering's offset to `LMD_ZC_CYCLE` with its originator's
rank and EUI-64; PLAN_SEQ known, the pending announcement and the last activation; the ticks of advertisement, rescue beacon,
STATUS and the last valid frame; and the coordinated mode: its start, the best rank known, the end of its duration, the
superframe and the FCN at which the last began here, the parent and the beacon heard, the depth, the addresses assigned, the last join; the EUI-64 values known for short
addresses; whether the address is kept at re-admission; the short address the fabric record holds as valid, whether the record waits for E2, and whether none was
valid at the start; the coordinated mode the election leads to; whether a rescue beacon was
heard; the peer's last STATUS and the state this node last sent. -/
structure FabSt where
  seq : Nat := 0
  fcnt : Nat := 0
  headSeq : Nat := 0
  msgId : Nat := 0
  reqId : Nat := 0
  claim : Option (Nat × Nat) := none
  fails : Nat := 0
  nbrs : List Nbr := []
  routes : List Route := []
  txq : List TxFrame := []
  await : Option TxFrame := none
  awaitAt : Nat := 0
  waiting : List (Message × Nat × Nat) := []
  reasm : List Reasm := []
  forE2 : List (Message × Nat) := []
  passHeld : List Message := []
  heldFrames : List (FabFrame × Nat × Nat) := []
  seenReq : List (Node × Nat × Nat) := []
  num : Option (Nat × Nat × Nat) := none
  planSeq : Nat := 0
  pend : Option Announce := none
  actAt : Option Nat := none
  advAt : Nat := 0
  rescueAt : Nat := 0
  statusAt : Nat := 0
  heardAt : Nat := 0
  startAt : Nat := 0
  modeAt : Nat := 0
  modeEnd : Option Nat := none
  best : Option (Nat × Nat) := none
  coord : Option Nat := none
  parent : Option Node := none
  sframe : Nat := 0
  sfFcn : Option Nat := none
  lastBeacon : Option (Nat × Nat) := none
  beaconAt : Nat := 0
  depth : Nat := 0
  assigned : List (Nat × Nat) := []
  newAssigned : List (Nat × Nat) := []
  lastJoin : Nat := 0
  known : List (Nat × Nat) := []
  keepAddr : Bool := false
  target : Nat := 0
  recAddr : Option Nat := none
  recWait : Bool := false
  noRec : Bool := false
  heardRescue : Bool := false
  peerStatus : List Byte := []
  sentStatus : List Int := []
deriving DecidableEq, Repr

/-- The panel's and the keypad's state (chapter 16): the pumps started in order, a normal power-down waiting for the end of the
frame, a change to lit, to glow or back waiting for the next frame, the rails that a return from glow still has to raise, the words of
`PNL_BLINK_n` in force and the regions in their off half; the key events in the FIFO, per key the consecutive scans
seen and not seen, whether the next event is the wake's, and the keys pressed last, newest last. -/
structure PnlSt where
  pumps : Nat := 0
  offPend : Bool := false
  lightPend : Bool := false
  glowPend : Bool := false
  raising : Nat := 0
  blinks : List Nat := List.replicate 8 0
  blinkOff : Nat := 0
  fifo : List Nat := []
  seen : List Nat := List.replicate 20 0
  unseen : List Nat := List.replicate 20 0
  wakeNext : Bool := false
  typed : List Nat := []
deriving DecidableEq, Repr

/-- E1's and E2's billing state beside the billing record as it stands (`cur`): per profile 1 channel the register it records and the
value of it that its entries already hold, the start of the profile 1 part in progress, the END of the last natural one, whether the next
entry carries GAP and whether the part saw slewing; the last day with a profile 2 entry and whether the day saw slewing; the seconds
slewed towards the next step of the remainder; a commanded closure (with the RTC second of the command) and an
adjustment (with its source and OSRC) that wait for the tick; whether the billing period saw a step or an outage; the present
demands; the rates E2 kept and the first tick E1 missed (R176); whether the restore has been made; what E2 has still to charge, oldest first:
an energy in mWh with its rate, or the start of a block month (R176, R287). -/
structure BilSt where
  cur : BillRec := {}
  p1Base : List Nat := List.replicate 6 0
  p1Reg : List (Option Nat) := List.replicate 6 none
  p1Start : Nat := 0
  p1Last : Option Int := none
  p1Gap : Bool := false
  slewIn : Bool := false
  p2Last : Option Int := none
  slewDay : Bool := false
  slewSecs : Nat := 0
  closeReq : Option Nat := none
  adj : Option (Int × Nat × Nat) := none
  stepped : Bool := false
  outage : Bool := false
  present : List Nat := [0, 0, 0]
  rates : List (Nat × Nat) := []
  missedFrom : Option Nat := none
  restored : Bool := false
  owed : List (Option (Nat × Nat)) := []
deriving DecidableEq, Repr

/-- E2's credit account (chapter 08) beside the credit record as it stands (`cur`): emergency credit, the token in decode, the key it
holds and whether a blanking line was active in it, the tokens waiting, the decoder-key sections kept (subclass, content, identifier, source)
with the tick of the first, and the activation that waits for its commit (R256). -/
structure PaySt where
  cur : CreditRec := {}
  ec : Bool := false
  friendly : Bool := false
  dec : Option Token := none
  decKey : Option Load := none
  decBlanked : Bool := false
  queue : List Token := []
  sections : List (Nat × Nat × Nat × Nat) := []
  sectSince : Nat := 0
  activating : Option Activation := none
deriving DecidableEq, Repr

/-- The relays' state (chapter 08): the times of the MPL reason; the pulse that waits, the pulse in progress, the start of the last,
the state under verification, a due retry and the tries made (open is true); tamper reasons cleared by token; the shed, the
deferred load-control change with the tick from which it is due, the tick of the last change to on, the restoration delay
drawn with the RTC second of the reclose or restart from which it counts at the earliest (R203), the load-control pulse that waits and the
one in progress, the level drive, and where the latching load-control relay stands. -/
structure RlySt where
  mplFrom : Option Nat := none
  mplSetAt : Nat := 0
  want : Option Bool := none
  pulse : Option Bool := none
  lastPulse : Option Nat := none
  verify : Option Bool := none
  retry : Option Bool := none
  retryFrom : Nat := 0
  tries : Nat := 0
  tampAck : Nat := 0
  shed : Bool := false
  lcOnAt : Nat := 0
  lcRand : Nat := 0
  lcFrom : Nat := 0
  lcPulseWant : Option Bool := none
  lcPulse : Option Bool := none
  lcDrive : Bool := false
  lcLatch : Bool := false
deriving DecidableEq, Repr

/-- The whole state: every register of the 28 blocks in `regs` (an address the map gives no register never appears), the
values write-only registers store in `hidden`, the addressed memories the masters share in `mem` (host mailbox, capture SRAM,
retention RAM, modem buffers, main SRAM), each subsystem's internal state, the counter of free values and the queue. -/
structure State where
  regs : Sparse Word := []
  hidden : Sparse Word := []
  mem : List Host.Cell := []
  sup : SupSt := {}
  ld : LoadSt := {}
  conv : ConvSt := {}
  metro : MetroSt := {}
  en : EnergySt := {}
  tamp : TampSt := {}
  cis : CisSt := {}
  obj : ObjSt := {}
  hif : HifSt := {}
  cap : CapSt := {}
  spec : SpecSt := {}
  bil : BilSt := {}
  pay : PaySt := {}
  rly : RlySt := {}
  well : WellSt := {}
  lmd : LmdSt := {}
  fab : FabSt := {}
  pnl : PnlSt := {}
  free : Nat := 0
  pending : List Instr := []
deriving DecidableEq, Repr

/-- The registers whose reset value is a number other than 0 (the register tables; R7). -/
def resetRegs : List (Nat × Word) :=
  [(0x40000000, 0x96400b00#32), (0x40000020, 0x1#32), (0x40010020, 0x1#32), (0x40010030, 0x122#32), (0x40041000, 0xffffffff#32), (0x40041010, 0xffffffff#32), (0x40041020, 0xffffffff#32), (0x40041030, 0xffffffff#32), (0x40041040, 0xffffffff#32), (0x40041050, 0xffffffff#32), (0x40041060, 0xffffffff#32), (0x40041070, 0xffffffff#32), (0x40041080, 0xffffffff#32), (0x40041090, 0xffffffff#32), (0x400410a0, 0xffffffff#32), (0x400410b0, 0xffffffff#32), (0x400410c0, 0xffffffff#32), (0x400410d0, 0xffffffff#32), (0x400410e0, 0xffffffff#32), (0x400410f0, 0xffffffff#32)] ++
  [(0x40041100, 0xffffffff#32), (0x40041110, 0xffffffff#32), (0x40041120, 0xffffffff#32), (0x40041130, 0xffffffff#32), (0x40041140, 0xffffffff#32), (0x40041150, 0xffffffff#32), (0x40041160, 0xffffffff#32), (0x40041170, 0xffffffff#32), (0x40041180, 0xffffffff#32), (0x40041190, 0xffffffff#32), (0x400411a0, 0xffffffff#32), (0x400411b0, 0xffffffff#32), (0x400411c0, 0xffffffff#32), (0x400411d0, 0xffffffff#32), (0x400411e0, 0xffffffff#32), (0x400411f0, 0xffffffff#32), (0x40041200, 0xffffffff#32), (0x40041210, 0xffffffff#32), (0x40041220, 0xffffffff#32), (0x40041230, 0xffffffff#32)] ++
  [(0x40041240, 0xffffffff#32), (0x40041250, 0xffffffff#32), (0x40041260, 0xffffffff#32), (0x40041270, 0xffffffff#32), (0x40041280, 0xffffffff#32), (0x40041290, 0xffffffff#32), (0x400412a0, 0xffffffff#32), (0x400412b0, 0xffffffff#32), (0x400412c0, 0xffffffff#32), (0x400412d0, 0xffffffff#32), (0x400412e0, 0xffffffff#32), (0x400412f0, 0xffffffff#32), (0x40041300, 0xffffffff#32), (0x40041310, 0xffffffff#32), (0x40041320, 0xffffffff#32), (0x40041330, 0xffffffff#32), (0x40041340, 0xffffffff#32), (0x40041350, 0xffffffff#32), (0x40041360, 0xffffffff#32), (0x40041370, 0xffffffff#32)] ++
  [(0x40041380, 0xffffffff#32), (0x40041390, 0xffffffff#32), (0x400413a0, 0xffffffff#32), (0x400413b0, 0xffffffff#32), (0x400413c0, 0xffffffff#32), (0x400413d0, 0xffffffff#32), (0x400413e0, 0xffffffff#32), (0x400413f0, 0xffffffff#32), (0x40070000, 0x21#32), (0x40080004, 0x7ff#32), (0x40080010, 0x76543210#32), (0x400b0000, 0x2#32), (0x40150004, 0x6#32), (0x40160004, 0x7#32), (0x401a0004, 0xffffffff#32), (0x401a0014, 0xffffffff#32), (0x401a0024, 0xffffffff#32), (0x401a0034, 0xffffffff#32), (0x401a0044, 0xffffffff#32), (0x401a0054, 0xffffffff#32)] ++
  [(0x401a0064, 0xffffffff#32), (0x401a0074, 0xffffffff#32)]

/-- The machine right after reset: D0 has just come up, every register at the reset value its table gives (R7), every other
piece of state empty (log 1). -/
def State.reset : State := { regs := resetRegs }

end Sys2Proof.Machine
end

