-- ==== Sys2Proof/Machine/Ops.lean ====
section
/-! DEFINITION. The named operations every meaning is built from: reading and changing registers and fields, raising a cause,
the power of a domain, free values, frame numbers. -/
namespace Sys2Proof.Machine

/-- The answer of a command. -/
abbrev Out := Host.Outcome State Fault Refusal

/-- A command whose effect is `f`. -/
def done (s : State) : Out := .next s

/-- A command that has its effect `f` when its condition holds, and none otherwise. -/
def onlyIf (c : Bool) (f : State → State) (s : State) : Out := .next (if c then f s else s)

/-- The register at address `a`. -/
def rd (s : State) (a : Nat) : Word := sparseGet 0 s.regs a

/-- Store `v` in the register at `a`. -/
def wr (a : Nat) (v : Word) (s : State) : State := { s with regs := sparseSet 0 s.regs a v }

/-- The value of a field within a word. -/
def fieldOf (f : Fld) (w : Word) : Nat := (w.toNat >>> f.lo) % 2 ^ f.width

/-- `w` with field `f` replaced by the lowest bits of `v`. -/
def withField (f : Fld) (v : Nat) (w : Word) : Word :=
  BitVec.ofNat 32 (w.toNat - (fieldOf f w) * 2 ^ f.lo + (v % 2 ^ f.width) * 2 ^ f.lo)

/-- The value of a register field. -/
def get (f : Fld) (s : State) : Nat := fieldOf f (rd s f.addr)

/-- A one-bit field as a truth value. -/
def flag (f : Fld) (s : State) : Bool := get f s != 0

/-- Bit `i` of a register field. -/
def fbit (f : Fld) (i : Nat) (s : State) : Bool := bit (get f s) i

/-- Set a register field. -/
def put (f : Fld) (v : Nat) (s : State) : State := wr f.addr (withField f v (rd s f.addr)) s

/-- Set or clear bit `i` of a register field. -/
def putBit (f : Fld) (i : Nat) (b : Bool) (s : State) : State :=
  put f (if b then withBit (get f s) i else noBit (get f s) i) s

/-- Add to a field, saturating at its width. -/
def addSat (f : Fld) (n : Nat) (s : State) : State := put f (satNat (2 ^ f.width - 1) (get f s + n)) s

/-- The field as a two's complement number. -/
def getS (f : Fld) (s : State) : Int := signed f.width (get f s)

/-- Store a two's complement number in a field. -/
def putS (f : Fld) (z : Int) (s : State) : State := put f (wrapTo f.width z) s

/-- The block of an address in the register space (R19). -/
def blockOf (a : Nat) : Nat := (a - 0x40000000) / 0x10000

/-- The enable register of a cause register: the next word, but two words on for `EVF_CAUSE_h`. -/
def enableOf (a : Nat) : Nat := if blockOf a = 4 then a + 8 else a + 4

/-- Hardware sets bit `i` of the cause field `f`: the bit is set and, when it is enabled, the block's bit of `INT_HOST_PEND`
is set too, whether or not the cause bit was set before (R371). -/
def raiseAt (f : Fld) (i : Nat) (s : State) : State :=
  let s1 := putBit f i true s
  if (rd s (enableOf f.addr)).toNat.testBit (f.lo + i) then putBit F.INT_HOST_PEND_PEND (blockOf f.addr) true s1 else s1

/-- Hardware sets a one-bit cause. -/
def raise (f : Fld) (s : State) : State := raiseAt f 0 s

/-- Raise a cause when a condition holds. -/
def raiseIf (c : Bool) (f : Fld) (s : State) : State := if c then raise f s else s

/-- Whether any enabled cause of block `b` is set (R19). The cause register of a block stands right before its enable. -/
def causeOf : Nat → List Nat
  | 0 => [] | 1 => [R.PMU_CAUSE] | 2 => [R.CLK_CAUSE] | 3 => [] | 4 => [R.EVF_CAUSE 0, R.EVF_CAUSE 1]
  | 5 => [R.TAMP_CAUSE] | 6 => [R.PIN_CAUSE] | 7 => [R.CFG_CAUSE] | 8 => [R.CNV_CAUSE] | 9 => [R.FLT_CAUSE]
  | 10 => [R.PHE_CAUSE] | 11 => [R.NRG_CAUSE] | 12 => [R.SPE_CAUSE] | 13 => [R.BIL_CAUSE] | 14 => [R.TAR_CAUSE]
  | 15 => [R.PAY_CAUSE] | 16 => [R.RLY_CAUSE] | 17 => [R.CIS_CAUSE] | 18 => [R.OBJ_CAUSE] | 19 => [R.WEL_CAUSE]
  | 20 => [R.SEC_CAUSE] | 21 => [R.LMD_CAUSE] | 22 => [R.FAB_CAUSE] | 23 => [R.PNL_CAUSE] | 24 => [R.KPD_CAUSE]
  | 25 => [R.HIF_CAUSE] | 26 => [R.TIM_CAUSE] | 27 => [R.UPD_CAUSE] | _ => []

/-- The summary bit of block `b` (R19, R370). -/
def summaryBit (s : State) (b : Nat) : Bool := (causeOf b).any fun a => (rd s a &&& rd s (enableOf a)) != 0

/-- `INT_SUMMARY` as a master reads it (R19). -/
def summary (s : State) : Nat := (List.range 28).foldl (fun n b => if summaryBit s b then withBit n b else n) 0

/-- `IRQ_N` is asserted while `INT_HOST_PEND` AND `INT_HOST_EN` is not zero (R371); it is released until the image has been loaded, and
at high impedance in OUTAGE and SHIP (R372). -/
def irqAsserted (s : State) : Bool :=
  (rd s R.INT_HOST_PEND &&& rd s R.INT_HOST_EN) != 0 &&
    (decide (3 ≤ s.ld.conf) || s.ld.partialRun || s.ld.reread != 0) && s.sup.mode != .outage && s.sup.mode != .ship

/-- Whether domain `d` is powered and clocked (`PMU_DOM_STATUS.ON`). -/
def domOn (d : Nat) (s : State) : Bool := fbit F.PMU_DOM_STATUS_ON d s

/-- The RTC seconds (R301). -/
def rtc (s : State) : Nat := get F.SUP_RTC_SEC_SEC s

/-- The run number (R300). -/
def run (s : State) : Nat := get F.SUP_RUN_RUN s

/-- Guarded start holds (R44). The loader's state is kept beside `CFG_STATUS`, which D4 loses in NAP (R285). -/
def guarded (s : State) : Bool := s.ld.guard

/-- The device runs from the fallback copy (R48). -/
def inFallback (s : State) : Bool := s.ld.fallback

/-- The device runs from an image or from the fallback copy (the loader's state is 3 or 4). -/
def configured (s : State) : Bool := s.ld.conf = 3 || s.ld.conf = 4

/-- The halted state of R50. -/
def halted (s : State) : Bool := s.ld.conf = 5

/-- Set the loader's state and show it in `CFG_STATUS`. -/
def setLoader (conf : Nat) (guard fallback : Bool) (s : State) : State :=
  put F.CFG_STATUS_FALLBACK (b2n fallback) (put F.CFG_STATUS_GUARDED (b2n guard) (put F.CFG_STATUS_STATE conf
    { s with ld := { s.ld with conf := conf, guard := guard, fallback := fallback } }))

/-- E1 runs: its domain is powered, it is not quarantined and the device is not in NAP or frozen. -/
def e1Up (s : State) : Bool :=
  domOn 4 s && configured s && s.sup.mode == .running && !(bit s.sup.quarantined 1) && get F.PMU_STATE_STATE s != 3

/-- E2 runs. -/
def e2Up (s : State) : Bool :=
  domOn 5 s && s.sup.mode == .running && !(bit s.sup.quarantined 2) && get F.PMU_STATE_STATE s != 3 && configured s

/-- E7 runs: D3 is powered and it is not quarantined (R276). -/
def e7Up (s : State) : Bool := domOn 3 s && !(bit s.sup.quarantined 7)

/-- E8 runs: D6 is powered and it is not quarantined (R276). -/
def e8Up (s : State) : Bool := domOn 6 s && !(bit s.sup.quarantined 8)

/-- The coherent stream runs in valid frames: the first valid frame of the run has begun (`PHE_FRAME_POS.VALID`) and the chain is
not stopped or refilling (R91). -/
def framesRun (s : State) : Bool := flag F.PHE_FRAME_POS_VALID s && !s.metro.chainDown

/-- A fresh free value (log 2): the state's counter advances, and nothing is known of the value. -/
def fresh (s : State) : Nat × State := (Config.freeNat s.free, { s with free := s.free + 1 })

/-- The profile in force: 0 Plain, 1 Valley, 2 Pass (R20). -/
def profile (s : State) : Nat := get F.PHE_PROFILE_CTL_ACTIVE s

/-- Pass is the profile in force. -/
def inPass (s : State) : Bool := profile s = 2

/-- The index of the newest coherent sample of the frame, which stays the sample in progress until the next one is taken. -/
def sampleIdx (s : State) : Nat := s.metro.pos - 1

/-- The samples per cycle of a profile (R10). -/
def samplesOf (p : Nat) : Nat := if p = 0 then 256 else if p = 1 then 128 else 64

/-- The cycles per frame (R10). -/
def cyclesPerFrame (s : State) : Nat := if flag F.PHE_FRAME_POS_NOMINAL s then 12 else 10

/-- What E1 keeps of the billing over a start beside its records (log 24): what the profile entries already hold, the flags of the
parts and of the period in progress, the energy not charged yet. -/
def keptBil (b : BilSt) : BilSt :=
  { p1Base := b.p1Base, p1Reg := b.p1Reg, p1Start := b.p1Start, p1Last := b.p1Last, p1Gap := b.p1Gap, slewIn := b.slewIn
    p2Last := b.p2Last, slewDay := b.slewDay, stepped := b.stepped, outage := b.outage, owed := b.owed }

/-- Put every register of domain `d` back to its reset value. -/
def resetDomain (d : Nat) (s : State) : State :=
  let kept := sparseFilter (fun a => blockDom (blockOf a) != d) s.regs
  let fresh := resetRegs.filter (fun e => blockDom (blockOf e.1) == d)
  { s with
    regs := fresh.foldl (fun m e => sparseSet 0 m e.1 e.2) kept
    hidden := sparseFilter (fun a => blockDom (blockOf a) != d) s.hidden }

/-- Power domain `d` down: its registers are lost. -/
def powerDown (d : Nat) (s : State) : State := putBit F.PMU_DOM_STATUS_ON d false (resetDomain d s)

/-- Power domain `d` up from reset. -/
def powerUp (d : Nat) (s : State) : State :=
  if domOn d s then s else putBit F.PMU_DOM_STATUS_ON d true (resetDomain d s)

/-- Write registers one after the other. -/
def wrMany (l : List (Nat × Word)) (s : State) : State := l.foldl (fun s e => wr e.1 e.2 s) s

/-- The master codes of `PMU_BUS_FAULT_INFO`. -/
def masterCode : Master → Nat
  | .engine n => n
  | .spi => 16
  | .i2c => 17
  | .uart u => 18 + u
  | .debugPort => 24

/-- The masters that are hosts. -/
def isHost : Master → Bool
  | .spi | .i2c | .uart _ => true
  | _ => false

/-- The number of a host's interface (R230). -/
def ifaceOf : Master → Nat
  | .spi => 0
  | .i2c => 1
  | .uart u => 2 + u
  | _ => 6

/-- The master behind interface `i`. -/
def hostOf (i : Nat) : Master := if i = 0 then .spi else if i = 1 then .i2c else .uart (i - 2)

/-- Record an access the bus refuses (R299, R17, R3): the newest address, and beside it, until a read of `PMU_BUS_FAULT`
latches them, master, domain, kind, direction and width; the live count rises, saturating; `PMU_CAUSE.BUS_FAULT` is set. -/
def busFault (m : Master) (a dom kind : Nat) (isWrite narrow : Bool) (s : State) : State :=
  let info := masterCode m + dom * 2 ^ 5 + kind * 2 ^ 9 + b2n isWrite * 2 ^ 11 + b2n narrow * 2 ^ 12
  raise F.PMU_CAUSE_BUS_FAULT
    (put F.PMU_BUS_FAULT_ADDR a
      { s with sup := { s.sup with bfLive := satNat 0xFFFF (s.sup.bfLive + 1), bfInfo := info } })

end Sys2Proof.Machine
end

