-- ==== Sys2Proof/Machine/Calendar.lean ====
section
/-! DEFINITION. The calendar (R164 to R167, R171, R188): local standard and civil time, dates, daylight saving, the season, the day
profile and the rate. Times are seconds since 2000-01-01 00:00; a local time may lie before that. -/
namespace Sys2Proof.Machine

/-- Days from 1600-03-01 to 2000-01-01. -/
def epochDays : Nat := 146037

/-- The civil date (year, month, day) of a day counted from 2000-01-01. -/
def dateOf (d : Int) : Nat × Nat × Nat :=
  let z := (d + epochDays).toNat
  let era := z / 146097
  let doe := z % 146097
  let yoe := (doe - doe / 1460 + doe / 36524 - doe / 146096) / 365
  let doy := doe - (365 * yoe + yoe / 4 - yoe / 100)
  let mp := (5 * doy + 2) / 153
  let m := if mp < 10 then mp + 3 else mp - 9
  (1600 + yoe + era * 400 + (if m ≤ 2 then 1 else 0), m, doy - (153 * mp + 2) / 5 + 1)

/-- The day counted from 2000-01-01 of a civil date. -/
def dayOf (y m d : Nat) : Int :=
  let y0 := y - (if m ≤ 2 then 1 else 0) - 1600
  let yoe := y0 % 400
  let doy := (153 * (if 2 < m then m - 3 else m + 9) + 2) / 5 + d - 1
  ((y0 / 400 * 146097 + yoe * 365 + yoe / 4 - yoe / 100 + doy : Nat) : Int) - epochDays

/-- The weekday of a day, 0 Monday to 6 Sunday: 2000-01-01 is a Saturday. -/
def weekdayOf (d : Int) : Nat := ((d + 5) % 7).toNat

/-- Days of a month. -/
def monthDays (y m : Nat) : Nat := (dayOf (if m = 12 then y + 1 else y) (if m = 12 then 1 else m + 1) 1 - dayOf y m 1).toNat

/-- The day on which a daylight-saving change falls in a year: the given weekday's first to fourth or last occurrence. -/
def dstDay (e : DstEnd) (y : Nat) : Int :=
  let first := dayOf y e.month 1
  let occ := (e.weekday + 7 - weekdayOf first) % 7
  if e.week < 5 then first + (occ + 7 * (e.week - 1) : Nat)
  else
    let lastD := first + monthDays y e.month - 1
    lastD - ((weekdayOf lastD + 7 - e.weekday) % 7 : Nat)

/-- The changes of a year in local standard time: the start at its hour, the end an hour before the hour the daylight clock shows. -/
def dstSpan (r : DstEnd × DstEnd) (y : Nat) : Int × Int :=
  (dstDay r.1 y * 86400 + (r.1.hour * 3600 : Nat), dstDay r.2 y * 86400 + (r.2.hour * 3600 : Nat) - 3600)

/-- Whether daylight saving is in force at a local standard time. -/
def dstAt (r : Option (DstEnd × DstEnd)) (std : Int) : Bool :=
  match r with
  | none => false
  | some r =>
    let p := dstSpan r (dateOf (std / 86400)).1
    if p.1 < p.2 then decide (p.1 ≤ std) && decide (std < p.2) else decide (p.1 ≤ std) || decide (std < p.2)

/-- Local civil time from local standard time (R164). -/
def civilOf (r : Option (DstEnd × DstEnd)) (std : Int) : Int := if dstAt r std then std + 3600 else std

/-- The time for which the tariff is evaluated (R167): the repeated hour after the end of daylight saving keeps the end of its first
pass. -/
def tariffTime (r : Option (DstEnd × DstEnd)) (std : Int) : Int :=
  match r with
  | none => std
  | some q =>
    let e := (dstSpan q (dateOf (std / 86400)).1).2
    if !(dstAt r std) ∧ e ≤ std ∧ std < e + 3600 then e - 1 + 3600 else civilOf r std

/-- What stage 6 of R176 finds: season, week profile, day profile, the special day in force, every special day that falls on the date,
the civil time for which it looks, and the rate. -/
structure TariffNow where
  season : Nat := 0
  week : Nat := 0
  day : Nat := 0
  special : Option Nat := none
  days : List Nat := []
  civil : Int := 0
  dst : Bool := false
  rate : Nat := 1
deriving DecidableEq, Repr

/-- The index of the entry with the greatest key among those that satisfy `p`. -/
def bestIdx (l : List Nat) (p : Nat → Bool) : Option Nat :=
  l.zipIdx.foldl (fun b e => if p e.1 && (match b with | none => true | some j => decide (nth 0 l j ≤ e.1)) then some e.2 else b) none

/-- The season on a date (R166): the latest start on or before today, else the year's last. -/
def seasonOn (t : Tariff) (m d : Nat) : Nat :=
  let keys := t.seasons.map fun e => e.1 * 32 + e.2.1
  match bestIdx keys (fun k => decide (k ≤ m * 32 + d)) with
  | some i => i
  | none => (bestIdx keys (fun _ => true)).getD 0

/-- The special day in force on a date (R166): a fixed one before a recurring one. -/
def specialOn (t : Tariff) (y m d : Nat) : Option Nat :=
  match t.special.findIdx? (fun e => e.fixed && e.year == y && e.month == m && e.day == d) with
  | some i => some i
  | none => t.special.findIdx? (fun e => !e.fixed && e.month == m && e.day == d)

/-- The special days that fall on a date, fixed and recurring (R188). -/
def specialsOn (t : Tariff) (y m d : Nat) : List Nat :=
  (t.special.zipIdx.filter fun e => (!e.1.fixed || e.1.year == y) && e.1.month == m && e.1.day == d).map (·.2)

/-- The rate of a day profile at a minute of the day (R166). -/
def rateAt (points : List (Nat × Nat × Nat)) (minute : Nat) : Nat :=
  points.foldl (fun r p => if p.1 * 60 + p.2.1 ≤ minute then p.2.2 else r) 1

/-- The daylight-saving rule in force. -/
def dstRule (t : Tariff) (s : State) : Option (DstEnd × DstEnd) := if flag F.TAR_LOCAL_CFG_DST_EN s then t.dst else none

/-- The evaluation of R166 at a local standard time. -/
def evalTariff (t : Tariff) (rule : Option (DstEnd × DstEnd)) (std : Int) : TariffNow :=
  let c := tariffTime rule std
  let day := c / 86400
  let dt := dateOf day
  let se := seasonOn t dt.2.1 dt.2.2
  let wk := (nth (0, 0, 0) t.seasons se).2.2
  let sp := specialOn t dt.1 dt.2.1 dt.2.2
  let prof := match sp with
    | some i => (nth ⟨false, 0, 0, 0, 0⟩ t.special i).profile
    | none => nth 0 (nth [] t.weeks wk) (weekdayOf day)
  { season := se, week := wk, day := prof, special := sp, days := specialsOn t dt.1 dt.2.1 dt.2.2, civil := c, dst := dstAt rule std
    rate := rateAt (nth [] t.days prof) (c % 86400 / 60).toNat }

/-- The standard offset in seconds (R164). -/
def stdOffset (s : State) : Int := getS F.TAR_LOCAL_CFG_OFFSET s * 900

/-- Local standard time of an RTC time. -/
def stdOf (r : Nat) (s : State) : Int := (r : Int) + stdOffset s

/-- The RTC time of a local standard time. -/
def rtcOfStd (t : Int) (s : State) : Nat := (t - stdOffset s).toNat

/-- The latest billing boundary at or before a civil time (R171): its index, and the civil time of it. -/
def boundaryOf (civ : Int) (s : State) : Nat × Int :=
  let dt := dateOf (civ / 86400)
  let d := get F.BIL_CLOSE_CFG_DAY s
  let h := get F.BIL_CLOSE_CFG_HOUR s
  let here := dayOf dt.1 dt.2.1 d * 86400 + (h * 3600 : Nat)
  if here ≤ civ then (dt.1 * 12 + dt.2.1 - 1, here)
  else if dt.2.1 = 1 then ((dt.1 - 1) * 12 + 11, dayOf (dt.1 - 1) 12 d * 86400 + (h * 3600 : Nat))
  else (dt.1 * 12 + dt.2.1 - 2, dayOf dt.1 (dt.2.1 - 1) d * 86400 + (h * 3600 : Nat))

/-- The civil time of the boundary with index `i`. -/
def boundaryTime (i : Nat) (s : State) : Int :=
  dayOf (i / 12) (i % 12 + 1) (get F.BIL_CLOSE_CFG_DAY s) * 86400 + (get F.BIL_CLOSE_CFG_HOUR s * 3600 : Nat)

/-- The RTC time of a civil time: the first standard time whose clock shows it. -/
def rtcOfCivil (rule : Option (DstEnd × DstEnd)) (c : Int) (s : State) : Nat :=
  rtcOfStd (if dstAt rule (c - 3600) then c - 3600 else c) s

/-- A friendly period is in force at civil time `c` (R188): one of the special days that fall on the date is friendly, or a window
holds it. -/
def friendlyAt (p : Prepay) (special : List Nat) (c : Int) : Bool :=
  let wd := weekdayOf (c / 86400)
  let m := (c % 86400 / 60).toNat
  (special.any fun i => bit p.friendlyDays i) ||
  p.windows.any fun w =>
    if w.start ≤ w.stop then bit w.days wd && decide (w.start ≤ m) && decide (m < w.stop)
    else (bit w.days wd && decide (w.start ≤ m)) || (bit w.days ((wd + 6) % 7) && decide (m < w.stop))

end Sys2Proof.Machine
end

