-- ==== Sys2Proof/Machine/Records.lean ====
section
/-! DEFINITION. The Cistern's record rules (chapter 09) and the legal log (R238, R239): two-copy records, spread counters, dirty
banks, stores and their engines. -/
namespace Sys2Proof.Machine

/-- The newer of two sequence numbers in the sense of R218: `b` is newer than `a` when their difference lies below 2^31. -/
def seqNewer (a b : Nat) : Bool := (b + 2 ^ 32 - a) % 2 ^ 32 < 2 ^ 31

/-- The copy in force (R218), with its SEQ; `none` when the record is invalid. -/
def inForce {α : Type} (r : TwoCopy α) : Option (Nat × α) :=
  match r.a, r.b with
  | none, none => none
  | some x, none => some x
  | none, some y => some y
  | some x, some y =>
    if x.1 = y.1 then (if x.1 % 2 = 0 then some x else some y)
    else if seqNewer x.1 y.1 then some y else some x

/-- Both copies are valid and carry the same SEQ (R218): the reader reports a tie. -/
def isTie {α : Type} (r : TwoCopy α) : Bool :=
  match r.a, r.b with
  | some x, some y => x.1 == y.1
  | _, _ => false

/-- Write a new copy (R217): SEQ is that of the copy in force plus 1 modulo 2^32, or 0; even goes to slot A, odd to slot B. -/
def writeCopy {α : Type} (r : TwoCopy α) (v : α) : TwoCopy α :=
  let seq := match inForce r with
    | none => 0
    | some x => (x.1 + 1) % 2 ^ 32
  if seq % 2 = 0 then { r with a := some (seq, v) } else { r with b := some (seq, v) }

/-- What a record holds: the value of the copy in force, `d` when the record is invalid. -/
def held {α : Type} (d : α) (r : TwoCopy α) : α :=
  match inForce r with
  | none => d
  | some x => x.2

/-- Largest value of a spread counter (R219). -/
def spreadMax : Nat := 2 ^ 63 - 1

/-- What a reader of a spread counter takes (R220): the target while the marker is set, the value otherwise. -/
def spreadRead (c : Spread) : Nat := if c.mark then c.tgt else c.val

/-- Raise a spread counter to `t` (R220); it saturates at 2^63 − 1 and never falls. -/
def spreadRaise (t : Nat) (c : Spread) : Spread :=
  let t := satNat spreadMax t
  if spreadRead c < t then { val := t, tgt := t % 2 ^ 32, mark := false } else c

/-- Complete an interrupted increment (R221). -/
def spreadRepair (c : Spread) : Spread := if c.mark then { c with val := c.tgt, mark := false } else c

/-- A write of bank `b`'s SRAM marks the bank dirty (R207). While the bank copies the writer stalls until the commit (R209): the copy was
taken before the write, which makes the bank dirty when the commit comes. -/
def dirty (b : Nat) (s : State) : State :=
  if fbit F.CIS_STATUS_COPYING b s then { s with cis := { s.cis with late := withBit s.cis.late b } }
  else putBit F.CIS_STATUS_DIRTY b true s

/-- Spread counter `i`'s value. -/
def counter (i : Nat) (s : State) : Nat := spreadRead (nth {} s.cis.b0.spread i)

/-- Raise spread counter `i` by `n`; bank 0 becomes dirty. -/
def counterAdd (i n : Nat) (s : State) : State :=
  dirty 0 { s with cis := { s.cis with b0 := { s.cis.b0 with
    spread := upd s.cis.b0.spread i (spreadRaise (counter i s + n)) } } }

/-- What bank `b`'s SRAM holds. -/
def bankData (b : Nat) (s : State) : BankData :=
  if b = 0 then .b0 s.cis.b0 else if b = 1 then .b1 s.cis.b1 else if b = 2 then .b2 s.cis.b2
  else if b = 3 then .b3 s.cis.b3 else if b ≤ 12 then .lp1 (nth [] s.cis.lp1 (b - 4))
  else if b = 13 then .lp2 s.cis.lp2 else .user (nth [] s.cis.user (b - 14))

/-- Put a bank's contents into its SRAM. -/
def setBank (b : Nat) (d : BankData) (s : State) : State :=
  match d with
  | .b0 x => { s with cis := { s.cis with b0 := x } }
  | .b1 x => { s with cis := { s.cis with b1 := x } }
  | .b2 x => { s with cis := { s.cis with b2 := x } }
  | .b3 x => { s with cis := { s.cis with b3 := x } }
  | .lp1 x => { s with cis := { s.cis with lp1 := upd s.cis.lp1 (b - 4) (fun _ => x) } }
  | .lp2 x => { s with cis := { s.cis with lp2 := x } }
  | .user x => { s with cis := { s.cis with user := upd s.cis.user (b - 14) (fun _ => x) } }

/-- A blank bank: its SRAM reads 0 (R214). -/
def blankBank (b : Nat) : BankData :=
  if b = 0 then .b0 {} else if b = 1 then .b1 {} else if b = 2 then .b2 {} else if b = 3 then .b3 {}
  else if b ≤ 12 then .lp1 [] else if b = 13 then .lp2 [] else .user []

/-- A bank with two blank planes. -/
def noPlanes : Plane × Plane := ({ data := .user [] }, { data := .user [] })

/-- The planes of bank `b`. -/
def planesOf (b : Nat) (s : State) : Plane × Plane := nth noPlanes s.cis.planes b

/-- The store count a plane's trailer holds, 0 when it has none. -/
def trailerCount (p : Plane) : Nat :=
  match p.trl with
  | none => 0
  | some t => t.1

/-- Whether plane 1 (the second) holds the bank's last completed store. -/
def secondNewer (p : Plane × Plane) : Bool :=
  match p.1.trl, p.2.trl with
  | _, none => false
  | none, some _ => true
  | some x, some y => x.1 < y.1

/-- The plane of the last completed store, `none` when neither trailer is valid. -/
def lastPlane (p : Plane × Plane) : Option Plane :=
  match p.1.trl, p.2.trl with
  | none, none => none
  | _, _ => if secondNewer p then some p.2 else some p.1

/-- Change the plane that does not hold the last completed store: the first when neither is valid. -/
def updTarget (p : Plane × Plane) (f : Plane → Plane) : Plane × Plane :=
  match lastPlane p with
  | none => (f p.1, p.2)
  | some _ => if secondNewer p then (f p.1, p.2) else (p.1, f p.2)

/-- Stores committed on a bank so far. -/
def storesOf (p : Plane × Plane) : Nat := max (trailerCount p.1) (trailerCount p.2)

/-- Start-of-copy of bank `b` (R207, R208): the begin stamp goes into the target plane, which takes the SRAM as it stands now;
the bank is no longer waiting nor dirty, and copies. -/
def startCopy (b : Nat) (s : State) : State :=
  let p := planesOf b s
  let p' := updTarget p fun _ => { beg := some (storesOf p + 1, rtc s), trl := none, data := bankData b s }
  putBit F.CIS_STATUS_COPYING b true (putBit F.CIS_STATUS_DIRTY b false (putBit F.CIS_QUEUE_WAITING b false
    { s with cis := { s.cis with planes := upd s.cis.planes b (fun _ => p') } }))

/-- The lowest-numbered bank of a mask. -/
def lowestBank (m : Nat) : Option Nat := (List.range 16).find? (fun b => bit m b)

/-- Free store engines take the lowest-numbered waiting banks, at most four at a time (R208). -/
def startStores : Nat → State → State
  | 0, s => s
  | n + 1, s =>
    if 4 ≤ popCount (get F.CIS_STATUS_COPYING s) 16 then s
    else match lowestBank (get F.CIS_QUEUE_WAITING s) with
      | none => s
      | some b => startStores n (startCopy b s)

/-- Request a store of bank `b` (R207, R210): merged while waiting, refused while copying, complete at once when the bank is not
dirty; accepted otherwise. -/
def requestStore (b : Nat) (s : State) : State :=
  if fbit F.CIS_STATUS_COPYING b s then raise F.CIS_CAUSE_STORE_REFUSED s
  else if fbit F.CIS_QUEUE_WAITING b s then raise F.CIS_CAUSE_STORE_MERGED s
  else if !(fbit F.CIS_STATUS_DIRTY b s) then raise F.CIS_CAUSE_STORE_DONE s
  else putBit F.CIS_QUEUE_WAITING b true s

/-- A commanded store of the banks of a mask (R207, R210). A store requested after the VDD monitor has tripped is refused
(R56), as are stores in OUTAGE or SHIP, when D7 is off. -/
def storeBanks (m : Nat) (s : State) : State :=
  if !(domOn 7 s) then s
  else if s.sup.mode == .frozen || (!(flag F.PMU_VMON_VDD_OK s)) then raise F.CIS_CAUSE_STORE_REFUSED s
  else startStores 4 ((List.range 16).foldl (fun s b => if bit m b then requestStore b s else s) s)

/-- A store of bank `b` that the device commands for its own records: a request refused because the bank copies is made again after the
commit (R210). -/
def deviceStore (b : Nat) (s : State) : State :=
  let busy := fbit F.CIS_STATUS_COPYING b s
  let s := storeBanks (2 ^ b) s
  if busy then { s with cis := { s.cis with again := withBit s.cis.again b } } else s

/-- The frame number, or 0xFFFF_FFFF when the coherent stream does not run. -/
def frameStamp (s : State) : Nat := if framesRun s then get F.PHE_FRAME_NUM_FRAME s else 0xFFFFFFFF

/-- The bytes of a legal log record (R239): header, entries, slack of zeros, CRC-32 in the record's last four bytes. -/
def legalBytes (num kind slots role : Nat) (entries : List (List Byte)) (s : State) : List Byte :=
  let head := le 4 num ++ le 2 kind ++ le 1 slots ++ le 1 role ++ le 4 (rtc s) ++ le 4 (frameStamp s) ++
    le 4 (get F.CFG_LEGAL_ID_ID s) ++ le 4 entries.length
  let body := head ++ entries.flatten
  let body := body ++ zeros (64 * slots - 4 - body.length)
  body ++ le 4 (crc32 body)

/-- Write a record's bytes into consecutive 64-byte slots. -/
def putSlots (m : Sparse (List Byte)) (at' : Nat) (bs : List Byte) : Nat → Sparse (List Byte)
  | 0 => m
  | n + 1 => putSlots (sparseSet [] m at' (bs.take 64)) (at' + 1) (bs.drop 64) n

/-- Clear slots (R238: the slots left at the end of the ring). -/
def clearSlots (m : Sparse (List Byte)) (lo hi : Nat) : Sparse (List Byte) :=
  (List.range (hi - lo)).foldl (fun m i => sparseSet [] m (lo + i) []) m

/-- Slots a legal record of `n` 8-byte entries takes (R239). -/
def legalSlots (n : Nat) : Nat := (28 + 8 * n + 63) / 64

/-- Whether a change record of `n` entries still fits the change part (R239). -/
def legalFits (n : Nat) (s : State) : Bool := s.cis.b2.chgUsed + legalSlots n ≤ 256

/-- The number of the next legal record (R219, R238): bits 31:0 of spread counter 4, which every record raises by 1. -/
def legalNum (s : State) : Nat := counter 4 s % 2 ^ 32

/-- Write an event record (KIND 0x01xx) into the event ring (R238, R399). -/
def legalEvent (kind role : Nat) (entries : List (List Byte)) (s : State) : State :=
  let num := legalNum s
  let s := counterAdd 4 1 s
  let n := legalSlots entries.length
  let start := if 512 < s.cis.b2.evNext + n then 256 else s.cis.b2.evNext
  let m := if 512 < s.cis.b2.evNext + n then clearSlots s.cis.b2.legal s.cis.b2.evNext 512 else s.cis.b2.legal
  let m := putSlots m start (legalBytes num kind n role entries s) n
  dirty 2 { s with cis := { s.cis with b2 := { s.cis.b2 with
    legal := m, evNext := if start + n = 512 then 256 else start + n } } }

/-- Write a change record (KIND 0x00xx) into the change part (R238): filled in order, never overwritten. The caller has
checked that it fits. -/
def legalChange (kind role : Nat) (entries : List (List Byte)) (s : State) : State :=
  let num := legalNum s
  let s := counterAdd 4 1 s
  let n := legalSlots entries.length
  let m := putSlots s.cis.b2.legal s.cis.b2.chgUsed (legalBytes num kind n role entries s) n
  let s := dirty 2 { s with cis := { s.cis with b2 := { s.cis.b2 with
    legal := m, chgUsed := s.cis.b2.chgUsed + n, chgCount := s.cis.b2.chgCount + 1 } } }
  raise F.OBJ_CAUSE_LEGAL_CHANGE
    (put F.OBJ_LEGAL_LOG_CHANGES s.cis.b2.chgCount (put F.OBJ_LEGAL_LOG_USED s.cis.b2.chgUsed s))

/-- One entry of a change record (R239): register offset within its block divided by 4, block index, old and new 24 bits. -/
def changeEntry (a old new : Nat) : List Byte :=
  le 2 ((a % 0x10000) / 4 + 2 ^ 11 * blockOf a) ++ le 3 old ++ le 3 new

/-- The slice-event entry of KIND 0x0101 (R399). -/
def sliceEvent (ev slice : Nat) (s : State) : State :=
  legalEvent 0x0101 0xFF [le 1 ev ++ le 1 slice ++ le 2 (get F.CNV_RETIRED_SLICE s) ++ zeros 4] s

/-- The metrology keep record as it stands (R206); where none is valid the slices hold their trim values (R62). -/
def keepRec (s : State) : KeepRec :=
  held { floor := 0, retired := 0, slices := s.conv.trim } s.cis.b1.keep

/-- Write the keep record; bank 1 becomes dirty. -/
def writeKeep (f : KeepRec → KeepRec) (s : State) : State :=
  dirty 1 { s with cis := { s.cis with b1 := { s.cis.b1 with keep := writeCopy s.cis.b1.keep (f (keepRec s)) } } }

end Sys2Proof.Machine
end

