-- ==== Sys2Proof/Machine/Bus.lean ====
section
/-! DEFINITION. A master's write to a register: the domain's power (R299), the writer rules (R29, R82, R103, R133, R159, R183,
R204, R226, R244, R265, R279, R302, R321, R342, R354, R380, R397) and the access codes (R5). -/
namespace Sys2Proof.Machine

/-- The description of the register at `a`, if the map has one there. -/
def regAt (a : Nat) : Option RegDesc :=
  (blockRegs (blockOf a)).find? fun d => decide (d.base ≤ a) && decide (a < d.base + d.stride * d.count) &&
    (a - d.base) % d.stride == 0

/-- The cause and enable registers of a block, with `PMU_WAKE_CAUSE` among the PMU's (R302). -/
def causeRegs (b : Nat) : List Nat :=
  (causeOf b).flatMap (fun a => [a, enableOf a]) ++ (if b = 1 then [R.PMU_WAKE_CAUSE] else [])

/-- The comparator registers (R103). -/
def comparatorReg (a : Nat) : Bool := decide (R.FLT_WIN_CFG 0 ≤ a) && decide (a ≤ R.FLT_WIN_TRIP)

/-- The addresses E1 may write beside cause and enable registers. -/
def e1Only (a : Nat) : Bool :=
  blockOf a = 8 || comparatorReg a || (decide (R.FLT_LEGACY_COEF 0 ≤ a) && decide (a ≤ R.FLT_LEGACY_COEF 127)) ||
  (decide (R.FLT_DELAY 0 ≤ a) && decide (a ≤ R.FLT_DELAY 7)) ||
  [R.FLT_CTL, R.FLT_TRK_CTL, R.FLT_LEGACY_CFG, R.PHE_TAMP_CFG, R.PHE_NEUT_CFG, R.BIL_CTL, R.BIL_REG_SEL, R.CIS_CTL,
    R.CIS_REPORT, R.CLK_CTL, R.FAB_ROUTE_SEL, R.INT_CORE_EN 1].contains a

/-- The addresses E2 may write beside cause and enable registers. -/
def e2Only (a : Nat) : Bool :=
  [14, 15, 16].contains (blockOf a) || comparatorReg a ||
  (decide (R.LMD_SND_BASE 0 ≤ a) && decide (a ≤ R.LMD_SND_BASE 1)) ||
  (decide (R.PNL_BLINK 0 ≤ a) && decide (a ≤ R.PNL_RAM 511)) ||
  [R.PHE_PROFILE_CTL, R.CNV_TAP_CFG, R.SPE_PQ_THR, R.SPE_PQ_LINES, R.SPE_DIST_MASK, R.SPE_RES_SEL, R.SPE_EVT_CTL,
    R.SPE_CAP_CFG, R.SPE_CAP_TRIG_LO, R.SPE_CAP_TRIG_HI, R.SPE_CAP_CTL, R.SPE_CAP_FULL, R.BIL_REG_SEL, R.CIS_CTL,
    R.CIS_REPORT, R.UPD_CTL, R.TAMP_CTL, R.PMU_CTL, R.SUP_RTC_ALARM, R.CLK_CTL, R.LMD_SND_CTL, R.FAB_CTL, R.FAB_ANNOUNCE,
    R.FAB_ROUTE_SEL, R.PNL_CTL, R.INT_CORE_EN 2, R.CFG_CTL, R.PIN_CLAIM].contains a

/-- The timer of a TIM register. -/
def timerOf (a : Nat) : Nat := (a - R.TIM_CTL 0) / 16

/-- A register of one of the eight timers. -/
def timerReg (a : Nat) : Bool := decide (R.TIM_CTL 0 ≤ a) && decide (a < R.TIM_CTL 8)

/-- An address of `PIN_GPIO_OUT_p`. -/
def gpioReg (a : Nat) : Bool := decide (R.PIN_GPIO_OUT 0 ≤ a) && decide (a ≤ R.PIN_GPIO_OUT 4)

/-- The owner code of a master (R374). -/
def ownerCode : Master → Nat
  | .engine 1 => 1
  | .engine 2 => 2
  | .spi | .i2c | .uart _ => 3
  | _ => 0

/-- Whether engine `n` may write the register at `a`. -/
def engineWrites (n a : Nat) : Bool :=
  let cr := (causeRegs (blockOf a)).contains a
  if n = 0 then (cr && (blockOf a = 4 || blockOf a = 5)) || a = R.CIS_REPORT
  else if n = 1 then (cr && !([4, 5, 14].contains (blockOf a))) || e1Only a
  else if n = 2 then (cr && blockOf a != 8) || e2Only a
  else false

/-- Whether a host may write the register at `a` (R380): its own interrupt registers, `CFG_CTL` in the halted state and then
nothing else, the passwords and the stores of the user banks. -/
def hostWrites (a : Nat) (s : State) : Bool :=
  if halted s then a = R.CFG_CTL
  else [R.HIF_CAUSE, R.INT_HOST_EN, R.INT_HOST_PEND, R.CIS_HOST_PW_0, R.CIS_HOST_PW_1, R.CIS_HOST_UNLOCK, R.CIS_CTL].contains a

/-- Whether master `m` may write the register at `a`. Timers are written by their owner alone, GPIO outputs by whoever owns a
pad of the port. -/
def mayWrite (m : Master) (a : Nat) (s : State) : Bool :=
  if timerReg a then ownerCode m != 0 && ownerCode m == get (F.TIM_CTL_OWNER (timerOf a)) s && !(halted s && isHost m)
  else if gpioReg a then ownerCode m != 0 && !(halted s && isHost m)
  else match m with
    | .engine n => engineWrites n a
    | .debugPort => a = R.WEL_OTP_CTL || (decide (R.WEL_OTP_DATA 0 ≤ a) && decide (a ≤ R.WEL_OTP_DATA 15))
    | _ => hostWrites a s

/-- The answer to a denied write: a host learns it (`HIF_CAUSE.DENIED`), any other master does not. -/
def denied (m : Master) (s : State) : State := if isHost m then raise F.HIF_CAUSE_DENIED s else s

/-- Clock stopped or power off: D3 in Pass is off, every other domain by `PMU_DOM_STATUS` (R299). -/
def domReady (d : Nat) (s : State) : Bool := domOn d s

/-- The KIND of a refused access to a domain that is off: D3 in Pass has its clock stopped (R299). -/
def offKind (d : Nat) (s : State) : Nat := if d = 3 ∧ inPass s then 1 else 0

/-- A write of master `m` to the register at `a`, in a powered domain and allowed to the master, has the effect `eff`; off the
domain it is a bus fault, and a write by any other master is dropped. -/
def regWrite (m : Master) (a : Nat) (eff : State → State) (s : State) : State :=
  if !(domReady (blockDom (blockOf a)) s) then busFault m a (blockDom (blockOf a)) (offKind (blockDom (blockOf a)) s) true false s
  else if !(mayWrite m a s) then denied m s
  else eff s

/-- A command that is a write of a register. -/
def cmdWrite (m : Master) (a : Nat) (eff : State → State) (s : State) : Out := .next (regWrite m a eff s)

/-- The bits of a write that a field takes by its access code (R5). LK fields take them only before the image has been loaded
and in the second pass of a re-read (`locked` false). -/
def writeField (locked : Bool) (w old : Word) (f : FieldDesc) : Word :=
  let mask : Word := BitVec.ofNat 32 ((2 ^ f.width - 1) * 2 ^ f.lo)
  match f.acc with
  | .rw | .rwh => (old &&& ~~~mask) ||| (w &&& mask)
  | .w1c => old &&& ~~~(w &&& mask)
  | .lk => if locked then old else (old &&& ~~~mask) ||| (w &&& mask)
  | .ro | .wo | .rc => old

/-- What a plain write leaves in the register at `a`. -/
def writtenWord (a : Nat) (w : Word) (s : State) : Word :=
  match regAt a with
  | none => rd s a
  | some d => d.fields.foldl (writeField s.ld.locked w) (rd s a)

/-- Apply a write by the access codes alone (R5). -/
def plainWrite (a : Nat) (w : Word) (s : State) : State := wr a (writtenWord a w s) s

/-- A field's value in the word being written. -/
def arg (f : Fld) (w : Word) : Nat := fieldOf f w

end Sys2Proof.Machine
end

