-- ==== Sys2Proof/Machine/FabBase.lean ====
section
/-! DEFINITION. The fabric's tables and frames (chapter 15): this node's names, links, routes, the frames E10 makes and the messages
it is given to send. -/
namespace Sys2Proof.Machine

/-- Change E10's state. -/
def updFab (f : FabSt → FabSt) (s : State) : State := { s with fab := f s.fab }

/-- Change E9's state. -/
def updLmd (f : LmdSt → LmdSt) (s : State) : State := { s with lmd := f s.lmd }

/-- E10 runs: D9 is powered, the FABRIC section has been applied, E10 is not quarantined (R320). -/
def e10Up (s : State) : Bool :=
  domOn 9 s && s.ld.tables.fabric.isSome && !(bit s.sup.quarantined 10) && get F.FAB_STATUS_MODE s != 0 &&
    get F.FAB_STATUS_MODE s != 7

/-- The fabric tables in force. -/
def fabTab (s : State) : FabTables := s.ld.tables.fabric.getD {}

/-- The UID's bytes, in the order of `SUP_UID_w`. -/
def uidBytes : List Byte := be 16 Config.uid

/-- Mains cycles per second (R340). -/
def cyclesPerSecond (s : State) : Nat := if flag F.PHE_FRAME_POS_NOMINAL s then 60 else 50

/-- This node's EUI-64, byte 0 most significant (R322). -/
def myEui : Nat :=
  let h := Config.sha256 ([0x45, 0x55, 0x49] ++ uidBytes) / 2 ^ 192
  withBit (noBit h 56) 57

/-- This node's name in LSRC and OSRC (R322). -/
def myName (s : State) : Node := if flag F.FAB_ADDR_VALID s then .short (get F.FAB_ADDR_SHORT s) else .eui myEui

/-- The head flag. -/
def isHead (s : State) : Bool := flag F.FAB_STATUS_HEAD s

/-- A node's rank (R340): 0 for a head. -/
def myRank (s : State) : Nat := if isHead s then 0 else 1

/-- Rank order: the lower rank, then the lower EUI-64, is the better one. -/
def better (a b : Nat × Nat) : Bool := decide (a.1 < b.1) || (a.1 == b.1 && decide (a.2 < b.2))

/-- A link's MOD and cost (R330) from the SNR in 0.25 dB less the margin. -/
def linkOf (q : Int) : Option (Nat × Nat) :=
  if 56 ≤ q then some (3, 1) else if 32 ≤ q then some (2, 2) else if 16 ≤ q then some (1, 4)
  else if -4 ≤ q then some (0, 8) else none

/-- The link to a neighbour, `none` when it has failed or is unusable. -/
def linkTo (n : Nbr) (s : State) : Option (Nat × Nat) :=
  if n.failed then none else linkOf (n.snr8 / 8 - 4 * (get F.FAB_CFG_MARGIN s : Int))

/-- The EUI-64 known for a short address. -/
def knownEui (a : Nat) (s : State) : Option Nat := (s.fab.known.find? fun e => e.1 == a).map (·.2)

/-- A node by its EUI-64 where that is known: the two names of one node are the same. -/
def canon (n : Node) (s : State) : Node :=
  match n with
  | .short a => match knownEui a s with
    | some e => .eui e
    | none => n
  | .eui _ => n

/-- Two names mean one node. -/
def sameNode (a b : Node) (s : State) : Bool := canon a s == canon b s

/-- The neighbour of a name. -/
def nbrOf (n : Node) (s : State) : Option Nbr := s.fab.nbrs.find? fun b => sameNode b.name n s

/-- A usable neighbour. -/
def usable (n : Node) (s : State) : Bool :=
  match nbrOf n s with
  | some b => (linkTo b s).isSome
  | none => false

/-- The time since the shown route's refresh (R342), 10 s per count, saturating. -/
def routeAge (s : State) : Nat :=
  match s.fab.routes[get F.FAB_ROUTE_SEL_ENTRY s]? with
  | none => 0
  | some r => satNat 255 ((s.sup.mono - r.at') / 10240)

/-- Show the tables' sizes and the selected route entry (R342). -/
def showFab (s : State) : State :=
  let s := put F.FAB_STATUS_NEIGHBOURS s.fab.nbrs.length (put F.FAB_STATUS_ROUTES s.fab.routes.length s)
  match s.fab.routes[get F.FAB_ROUTE_SEL_ENTRY s]? with
  | none => wr R.FAB_ROUTE 0 (wr R.FAB_ROUTE_INFO 0 s)
  | some r =>
    let next := match r.next with | .short a => a | .eui _ => 0
    let s := put F.FAB_ROUTE_DEST r.dest (put F.FAB_ROUTE_NEXT next (put F.FAB_ROUTE_HOPS r.hops s))
    let s := put F.FAB_ROUTE_HEAD (b2n r.head) (put F.FAB_ROUTE_PINNED (b2n r.pinned) (put F.FAB_ROUTE_VALID 1 s))
    put F.FAB_ROUTE_INFO_COST r.cost (put F.FAB_ROUTE_INFO_SEQ r.seq (put F.FAB_ROUTE_INFO_AGE (routeAge s) s))

/-- The route to a short address. -/
def routeTo (a : Nat) (s : State) : Option Route := s.fab.routes.find? fun r => r.dest == a

/-- Put a route into the table (R331): one entry for each destination, at most 256; the least recently used entry that is not
pinned gives way; at most 8 head entries are pinned. -/
def addRoute (r : Route) (s : State) : State :=
  let l := s.fab.routes.filter fun x => x.dest != r.dest
  let pins := (l.filter (·.pinned)).length
  let r := { r with pinned := r.head && decide (pins < 8), at' := s.sup.mono }
  let l := if l.length < 256 then l else
    match l.find? (fun x => !x.pinned) with
    | some y => l.erase y
    | none => l
  showFab (if l.length < 256 then updFab (fun f => { f with routes := l ++ [r] }) s else s)

/-- Remove the routes that satisfy `p`. -/
def dropRoutes (p : Route → Bool) (s : State) : State :=
  showFab (updFab (fun f => { f with routes := f.routes.filter fun r => !(p r) }) s)

/-- The next hop towards a node (R331): the neighbour itself, or its route's. -/
def nextHop (n : Node) (s : State) : Option Node :=
  if usable n s then some n
  else match n with
    | .eui _ => none
    | .short a =>
      match routeTo a s with
      | some r => if usable r.next s then some r.next else none
      | none => none

/-- A destination is used: its route becomes the most recently used. -/
def touchRoute (n : Node) (s : State) : State :=
  match n with
  | .eui _ => s
  | .short a =>
    match routeTo a s with
    | some r => updFab (fun f => { f with routes := (f.routes.filter fun x => x.dest != a) ++ [r] }) s
    | none => s

/-- The bytes of an address field (R325). -/
def nodeBytes : Node → List Byte
  | .short a => le 2 (a % 2 ^ 12)
  | .eui e => be 8 e

/-- TYPE of a frame (R325). -/
def frameType : FabBody → Nat
  | .data _ => 0
  | .ack => 1
  | .advert _ _ => 2
  | .claim _ _ | .conflict _ _ | .join _ | .assign _ _ | .candidate _ _ | .routeReq _ _ | .routeRep _ _ _ _ => 3
  | .beacon _ _ _ _ _ _ _ => 4
  | .rescue _ _ _ => 5
  | .announce _ _ => 6

/-- A name is an EUI-64. -/
def isEui : Node → Bool
  | .short _ => false
  | .eui _ => true

/-- DST_MODE of a frame (R325). -/
def dstMode (f : FabFrame) : Nat :=
  match f.dest with
  | .node _ => b2n ((f.ldst.map isEui).getD false)
  | .broadcast => 2
  | .heads => 3

/-- FC of a frame (R325), VERSION 1. -/
def frameControl (f : FabFrame) : Nat :=
  frameType f.body + 2 ^ 3 * dstMode f + 2 ^ 5 * b2n (isEui f.lsrc) + 2 ^ 6 * b2n f.ackReq + 2 ^ 7 * (f.prio % 4) +
    2 ^ 9 * b2n f.segh.isSome + 2 ^ 10 * b2n (isEui f.osrc) + 2 ^ 12

/-- A frame's bytes from FC to SEGH (R325). FDST of a destination named by EUI-64 is 0 (log 32). -/
def headBytes (f : FabFrame) : List Byte :=
  le 2 (frameControl f) ++ le 1 f.seq ++ le 1 (f.left % 16 + 16 * f.taken) ++ le 2 f.nwk ++ nodeBytes f.lsrc ++
    (match f.ldst with | some n => nodeBytes n | none => []) ++ nodeBytes f.osrc ++
    (match f.dest with | .node (.short a) => le 2 (a % 2 ^ 12) | .node (.eui _) => le 2 0 | _ => []) ++
    le 4 (f.run % 2 ^ 24) ++ le 4 f.fcnt ++ le 1 f.key ++
    (match f.segh with | some e => le 2 e.1 ++ le 1 e.2.1 ++ le 1 e.2.2 | none => [])

/-- MIC of a frame under a MAC child (R325): over every byte before it. -/
def frameMic (mac : Nat) (f : FabFrame) : List Byte := (Config.cmac mac (headBytes f ++ f.cipher)).take 8

/-- FCS of a frame (R325): over every byte before it. -/
def frameFcs (f : FabFrame) : Nat := crc32 (headBytes f ++ f.cipher ++ f.mic)

/-- Bytes of a frame's physical payload (R325). -/
def frameBytes (f : FabFrame) : Nat := (headBytes f).length + f.cipher.length + 12

/-- The plaintext of BODY. -/
def plainBytes : FabBody → List Byte
  | .data b => b
  | .ack => []
  | b => Config.controlBytes b

/-- BODY encrypted (R326): the counter blocks begin with the transmitter's EUI-64, RUN and FCNT. -/
def cipherOf (enc eui : Nat) (f : FabFrame) : List Byte :=
  Config.ctr enc (be 8 eui ++ le 3 f.run ++ le 4 f.fcnt) (plainBytes f.body)

/-- The frame with MIC and FCS as they hold under a MAC child. -/
def sealFrame (mac : Nat) (f : FabFrame) : FabFrame :=
  let f := { f with mic := frameMic mac f }
  { f with fcs := frameFcs f }

/-- The MOD for a next hop (R330); robust for a frame to several neighbours and in the rescue configuration (R338). -/
def modFor (n : Option Node) (s : State) : Nat :=
  if get F.FAB_STATUS_MODE s ≠ 1 then 0
  else match n.bind (fun x => nbrOf x s) with
    | some b => ((linkTo b s).getD (0, 0)).1
    | none => 0

/-- The numbering's fields for a frame (R337). -/
def numberingNow (s : State) : Option Numbering :=
  s.fab.num.map fun n => ⟨get F.FAB_FCN_FCN s, n.2.1, n.2.2⟩

/-- The body with the numbering as it stands when the frame goes on the line (R337). -/
def numbered (b : FabBody) (s : State) : FabBody :=
  match b with
  | .advert h _ => .advert h (numberingNow s)
  | .beacon n d m p c _ l => .beacon n d m p c (numberingNow s) l
  | .rescue p q _ => .rescue p q (numberingNow s)
  | .announce a _ => .announce a (numberingNow s)
  | b => b

/-- A frame as it goes on the line (R325, R326), `none` when FCNT is exhausted: this node's link fields, BODY under the encryption
child, MIC and FCS. Every attempt has a new FCNT, a repeated one the SEQ of the first (log 32). A node without a short address
names its neighbours by EUI-64 (R322). -/
def makeFrame (t : TxFrame) (keys : Nat × Nat) (s : State) : Option (TxFrame × State) :=
  if s.fab.fcnt = 0xFFFFFFFF then none
  else
    let f := t.frame
    let f := { f with
      lsrc := myName s, ldst := if flag F.FAB_ADDR_VALID s then f.ldst else f.ldst.map (fun n => canon n s),
      seq := if t.tries = 0 then s.fab.seq else f.seq, run := run s % 2 ^ 24, fcnt := s.fab.fcnt, nwk := get F.FAB_CFG_NWK_ID s,
      key := get F.FAB_STATUS_KEY_TX s, body := numbered f.body s }
    let f := sealFrame keys.2 { f with cipher := cipherOf keys.1 myEui f }
    let t := { t with frame := f, mod := if t.rescue then 0 else modFor f.ldst s, len := frameBytes f }
    let s := updFab (fun b => { b with seq := if t.tries = 0 then (b.seq + 1) % 256 else b.seq, fcnt := b.fcnt + 1 }) s
    some (t, raiseIf (s.fab.fcnt = 0xFFFFFFFF) F.FAB_CAUSE_FCNT_END s)

/-- Queue a frame for the medium; a node whose FCNT is exhausted sends nothing (R326). A rescue beacon goes in the rescue
configuration (R339). -/
def queueFrame (bandC : Bool) (f : FabFrame) (s : State) : State :=
  if s.fab.fcnt = 0xFFFFFFFF then s
  else
    let t : TxFrame := { bandC := bandC, frame := { f with cipher := [], mic := [], fcs := 0 }, rescue := frameType f.body == 5 }
    updFab (fun b => { b with txq := b.txq ++ [t] }) s

/-- Count a frame in `FAB_COUNT_k`. -/
def countFrame (k : Nat) (s : State) : State := addSat (F.FAB_COUNT_COUNT k) 1 s

/-- Originate a frame of this node (counted in `FAB_COUNT_0`). -/
def originate (f : FabFrame) (s : State) : State := countFrame 0 (queueFrame false { f with osrc := myName s, taken := 0 } s)

/-- The bytes of a message (R333). -/
def messageBytes (m : Message) : List Byte := le 1 m.mtype ++ le 1 0 ++ le 2 m.msgId ++ le 2 m.body.length ++ m.body

/-- Bytes in pieces of at most `n`. -/
def pieces (n : Nat) : Nat → List Byte → List (List Byte)
  | 0, _ => []
  | _, [] => []
  | k + 1, l => l.take n :: pieces n k (l.drop n)

/-- Bytes a data frame's body holds at most (`SEG_MAX`). -/
def segMax (s : State) : Nat := 8 * get F.FAB_CFG_SEG_MAX s

/-- A message's frames (R327, R333): one, or SEG frames; P0 for an ALARM, P2 beyond four segments, otherwise P1. -/
def messageFrames (m : Message) (next : Option Node) (s : State) : List FabFrame :=
  let b := messageBytes m
  let f : FabFrame := { dest := m.dest, ackReq := next.isSome, ldst := next, left := if flag F.FAB_ADDR_VALID s then 15 else 1, prio := if m.mtype = 8 then 0 else 1 }
  if b.length ≤ segMax s then [{ f with body := .data b }]
  else
    let l := pieces (max 1 (segMax s)) b.length b
    l.zipIdx.map fun e =>
      { f with body := .data e.1, segh := some (m.msgId, e.2, l.length), prio := if 4 < l.length then 2 else f.prio }

/-- Send a message (R332, R333): on its route, to all heads or broadcast; without a route a route request is flooded and the message
waits. A node without a short address speaks to its neighbours alone (R322). -/
def sendMessage (m : Message) (s : State) : State :=
  match m.dest with
  | .node n =>
    match nextHop n s with
    | some h => (messageFrames m (some h) s).foldl (fun s f => originate f s) (touchRoute n s)
    | none =>
      match n, flag F.FAB_ADDR_VALID s with
      | .eui _, _ => raise F.FAB_CAUSE_NO_ROUTE s
      | .short _, false => raise F.FAB_CAUSE_NO_ROUTE s
      | .short a, true =>
        let id := s.fab.reqId
        let s := updFab (fun f => { f with waiting := f.waiting ++ [(m, id, s.sup.mono)], reqId := (id + 1) % 2 ^ 16 }) s
        originate { dest := .broadcast, left := 15, body := .routeReq id a } s
  | _ => (messageFrames m none s).foldl (fun s f => originate f s) s

/-- Whether E10 originates a message in Pass (R341): alarms and responses. -/
def sentInPass (m : Message) : Bool := m.mtype = 8 || m.mtype = 2 || m.mtype = 4 || m.mtype = 6

/-- E2 or the host hands E10 a message of at most 4 096 bytes (R333): it is sent, or held in Pass, up to 8 of them; the answer says
whether E10 accepted it. -/
def handToE10 (m : Message) (s : State) : Bool × State :=
  if !(e10Up s) || decide (4090 < m.body.length) then (false, s)
  else
    let m := { m with src := myName s }
    if inPass s && !(sentInPass m) then
      if s.fab.passHeld.length < 8 then (true, updFab (fun f => { f with passHeld := f.passHeld ++ [m] }) s) else (false, s)
    else (true, sendMessage m s)

/-- A response to the sender of message `msgId`. -/
def respond (mtype msgId : Nat) (to' : Node) (body : List Byte) (s : State) : State :=
  (handToE10 { mtype := mtype, msgId := msgId, dest := .node to', body := body } s).2

/-- E2 takes a message that E10 holds for it: the one that whoever waits for `r` sent (R334). -/
def takeReply (r : Reply) (s : State) : State :=
  match r with
  | .message src id => updFab (fun f => { f with forE2 := f.forE2.filter fun e => !(e.1.src == src && e.1.msgId == id) }) s
  | _ => s

/-- Queue a message for the band C peer (R329); it waits for E9 (R310). -/
def queuePeer (m : Message) (s : State) : State :=
  match m.dest with
  | .node n => countFrame 0 (queueFrame true {
      dest := m.dest, ackReq := true, ldst := some n, osrc := myName s, left := 1, body := .data (messageBytes m) } s)
  | _ => s

/-- Send the band C peer a message (R329); in Pass it is held with the others (R341). -/
def sendPeer (mtype : Nat) (body : List Byte) (s : State) : State :=
  match (fabTab s).peer with
  | none => s
  | some e =>
    let m : Message := { mtype := mtype, msgId := s.fab.msgId, src := myName s, dest := .node (.eui e), body := body }
    let s := updFab (fun f => { f with msgId := (f.msgId + 1) % 2 ^ 16 }) s
    if !(inPass s) then queuePeer m s
    else if s.fab.passHeld.length < 8 then updFab (fun f => { f with passHeld := f.passHeld ++ [m] }) s
    else s

/-- A token entered on the keypad (R329): a customer interface unit, which has a peer and no PREPAY section, sends it to its peer. -/
def tokenForPeer (s : State) : Bool := e10Up s && (fabTab s).peer.isSome && s.ld.tables.prepay.isNone

/-- The fabric record as it stands (R324): the short address last held, while it is not given up. -/
def fabRec (s : State) : FabRec :=
  FabRec.mk (s.fab.recAddr.getD (get F.FAB_ADDR_SHORT s)) s.fab.recAddr.isSome (get F.FAB_CFG_NWK_ID s) (get F.FAB_STATUS_PLAN s)
    s.fab.planSeq (get F.FAB_STATUS_KEY_TX s) (isHead s)

/-- E2 writes the fabric record at every change (R324); while E2 does not run, the record waits for it. -/
def writeFabRec (s : State) : State :=
  if (inForce s.cis.b3.fab).map (·.2) = some (fabRec s) then updFab (fun f => { f with recWait := false }) s
  else if !(e2Up s) then updFab (fun f => { f with recWait := true }) s
  else dirty 3 { updFab (fun f => { f with recWait := false }) s with cis := { s.cis with b3 := { s.cis.b3 with
    fab := writeCopy s.cis.b3.fab (fabRec s) } } }

/-- E2 runs again: a record that waited for it is written. -/
def settleFabRec (s : State) : State := if s.fab.recWait && e2Up s && e10Up s then writeFabRec s else s

end Sys2Proof.Machine
end

