-- ==== Sys2Proof/Machine/Answer.lean ====
section
/-! DEFINITION. Responses of the host interfaces (R358, R361) and answers to object requests (R232). -/
namespace Sys2Proof.Machine

/-- Change the host interfaces' state. -/
def updHif (f : HifSt → HifSt) (s : State) : State := { s with hif := f s.hif }

/-- Change the object server's state. -/
def updObj (f : ObjSt → ObjSt) (s : State) : State := { s with obj := f s.obj }

/-- A response's bytes (R358). -/
def respBytes (r : HostResp) : List Byte :=
  let b := le 1 r.status ++ le 1 r.echo ++ le 1 r.rseq ++ le 2 r.payload.length ++ r.payload
  b ++ le 2 (crc16 b)

/-- Interface `i`'s slot. -/
def slotOf (i : Nat) (s : State) : HostSlot := nth .free s.hif.slots i

/-- Put interface `i`'s slot into a state (R361) and show it in `HIF_STATUS.SLOT`. -/
def setSlot (i : Nat) (x : HostSlot) (s : State) : State :=
  let s := updHif (fun h => { h with slots := upd h.slots i (fun _ => x), since := upd h.since i (fun _ => s.sup.mono) }) s
  putBit F.HIF_STATUS_SLOT i (match x with | .free => false | _ => true) s

/-- The response of interface `i` is known: it is ready once its time has passed (R359). -/
def setResponse (i : Nat) (status : Nat) (payload : List Byte) (s : State) : State :=
  match slotOf i s with
  | .busy cmd n none => setSlot i (.busy cmd n (some ⟨status, cmd, n, payload⟩)) s
  | _ => s

/-- Little-endian number of `n` bytes at `k`. -/
def field (bs : List Byte) (k n : Nat) : Nat := ofLe ((bs.drop k).take n)

/-- The session state of interface `i`. -/
def sessOf (i : Nat) (s : State) : SessSt := nth {} s.obj.sess i

/-- Session state code of interface `i`: 0 closed, 1 challenged, 2 open. -/
def sessState (i : Nat) (s : State) : Nat := get (F.OBJ_SESS_STATE i) s

/-- The first 8 bytes of AES-CMAC under a session key (R232). -/
def stag (key : Nat) (bs : List Byte) : List Byte := (Config.cmac key bs).take 8

/-- The response to object request `r` of interface `i` (R232). -/
def objectBytes (i : Nat) (r : ObjReq) (code : Nat) (data : List Byte) (s : State) : List Byte :=
  let b := le 1 code ++ r.bytes.take 1 ++ (r.bytes.drop 2).take 4 ++ le 2 data.length ++ data
  if bit (field r.bytes 1 1) 0 ∧ code ≠ 8 ∧ sessState i s = 2 then b ++ stag (sessOf i s).key b else b

/-- E2 answers the object request of interface `i`: in its host slot, or in a SESSION_RSP to the sender (R232, R333). -/
def answerObject (i code : Nat) (data : List Byte) (s : State) : State :=
  match nth none s.obj.req i with
  | none => s
  | some r =>
    let b := objectBytes i r code data s
    let s := updObj (fun o => { o with req := upd o.req i (fun _ => none) }) s
    if i < 6 then setResponse i 0 b s else respond 2 r.msgId r.src b s

/-- Answer whoever waits for a key operation: an object result with its data, or a KEY_RES. -/
def answerReply (r : Reply) (code : Nat) (data : List Byte) (s : State) : State :=
  match r with
  | .object i => answerObject i code data s
  | .message src id => respond 6 id src (if code = 0 then data else le 1 code) s
  | .nobody => s

/-- Close the session of interface `i` (R231). A METROLOGY session that closes leaves `LEGAL_SESSION` to the others. -/
def closeSession (i : Nat) (s : State) : State :=
  let wasOpen := decide (sessState i s = 2)
  if sessState i s = 0 then s
  else
    let s := putBit F.OBJ_STATUS_SESSIONS i false (wr (R.OBJ_SESS i) 0
      (updObj (fun o => { o with sess := upd o.sess i (fun _ => {}) }) s))
    let s := put F.OBJ_STATUS_LEGAL_SESSION
      (b2n ((List.range 7).any fun k => sessState k s == 2 && get (F.OBJ_SESS_ROLE k) s == 5)) s
    raiseIf wasOpen F.OBJ_CAUSE_SESS_CLOSE s

/-- D5 restarts or E2 is quarantined: the pending requests are answered BUSY_RETRY and every session closes (R231, R369). -/
def closeAll (s : State) : State :=
  (List.range 7).foldl (fun s i => closeSession i (answerObject i 4 [] s)) { s with obj := { s.obj with signing := none } }

end Sys2Proof.Machine
end

