-- ==== Sys2Proof/Machine/Memory.lean ====
section
/-! DEFINITION. The addressed memories the masters share (chapter 01's memory map): bytes kept in one canonical form. A byte that
nothing has written reads 0 (log 7). -/
namespace Sys2Proof.Machine

/-- The canonical form of a memory: addresses strictly rising, no byte equal to what an unlisted address reads as. -/
def Memory.wf (m : List Host.Cell) : Bool := sparseWf (0 : Byte) m

/-- The byte at `a`. -/
def rdByte (s : State) (a : Nat) : Byte := sparseGet 0 s.mem a

/-- Store a byte. -/
def wrByte (a : Nat) (b : Byte) (s : State) : State := { s with mem := sparseSet 0 s.mem a b }

/-- Store bytes from `a` upwards. -/
def wrBytes (a : Nat) (bs : List Byte) (s : State) : State := { s with mem := sparseSetMany 0 s.mem a bs }

/-- `n` bytes from `a` upwards. -/
def rdBytes (s : State) (a n : Nat) : List Byte := sparseGetMany 0 s.mem a n

/-- Forget the contents of the addresses from `lo` up to `hi` (a domain that loses its memory). -/
def loseMem (lo hi : Nat) (s : State) : State :=
  { s with mem := sparseFilter (fun a => decide (a < lo) || decide (hi ≤ a)) s.mem }

/-- The capture SRAM's base. -/
def captureBase : Nat := 0x24000000

/-- The host mailbox (R360). -/
def inMailbox (a : Nat) : Bool := decide (0x201FC000 ≤ a) && decide (a ≤ 0x201FFFFF)

/-- Share `n` of the capture SRAM (R150): its base address and its size in bytes. `SPE_PART_n` holds both in KiB. -/
def share (n : Nat) (s : State) : Nat × Nat :=
  (captureBase + 1024 * get (F.SPE_PART_BASE n) s, 1024 * get (F.SPE_PART_SIZE n) s)

end Sys2Proof.Machine
end

