-- ==== Sys2Proof/Machine/Capture.lean ====
section
/-! DEFINITION. The waveform capture (R154 to R158): slots, sets, the trigger, the header. -/
namespace Sys2Proof.Machine

/-- The channels captured, in ascending order. -/
def capChans (s : State) : List Nat := (List.range 8).filter fun c => fbit F.SPE_CAP_CFG_CHANS c s

/-- Bytes of one sample set. -/
def setBytes (s : State) : Nat := 4 * (capChans s).length

/-- Slots the waveform share is divided into (`SLOTS` + 1). -/
def capSlots (s : State) : Nat := get F.SPE_CAP_CFG_SLOTS s + 1

/-- Bytes of one slot: equal slots of whole words (R154). -/
def slotSize (s : State) : Nat := (share 0 s).2 / capSlots s / 4 * 4

/-- The address of slot `k`. -/
def slotBase (k : Nat) (s : State) : Nat := (share 0 s).1 + k * slotSize s

/-- Sets per capture (R154). -/
def capTotal (s : State) : Nat := if setBytes s = 0 then 0 else (slotSize s - 64) / setBytes s

/-- Pretrigger sets (R154); none in Valley (R156). -/
def capPre (s : State) : Nat :=
  if profile s = 0 then min (capTotal s) (capTotal s * get F.SPE_CAP_CFG_PRE s / 100) else 0

/-- The slot being written. -/
def capSlot (s : State) : Nat := get F.SPE_CAP_STATUS_SLOT s

/-- The bytes of a sample set. -/
def setOf (xs : List Int) (s : State) : List Byte := (capChans s).flatMap fun c => le 4 (wrapTo 32 (nth 0 xs c))

/-- Put sample set `xs` at place `i` of the slot. -/
def putSet (i : Nat) (xs : List Int) (s : State) : State :=
  wrBytes (slotBase (capSlot s) s + 64 + i * setBytes s) (setOf xs s) s

/-- Append a set after the trigger: at most `capTotal` in all. -/
def postSet (xs : List Int) (s : State) : State :=
  if s.cap.written < capTotal s then
    let s := putSet s.cap.written xs s
    put F.SPE_CAP_STATUS_SETS (s.cap.written + 1) { s with cap := { s.cap with written := s.cap.written + 1 } }
  else s

/-- Put the newest sample before the trigger into the ring of PRE sets (R155). -/
def preSet (xs : List Int) (s : State) : State :=
  let p := capPre s
  let s := { s with cap := { s.cap with taken := s.cap.taken + 1 } }
  if p = 0 then s
  else
    let s := putSet s.cap.place xs s
    let k := min p (s.cap.kept + 1)
    put F.SPE_CAP_STATUS_SETS k { s with cap := { s.cap with kept := k, place := (s.cap.place + 1) % p } }

/-- The frame and sample index `k` samples before the newest sample, frames of `len` samples. -/
def backFrom (k len : Nat) (s : State) : Nat × Nat :=
  let f := frameStamp s
  if len = 0 then (f, 0)
  else if k ≤ sampleIdx s then (f, sampleIdx s - k)
  else
    let n := (k - sampleIdx s + len - 1) / len
    ((f + 2 ^ 32 - n % 2 ^ 32) % 2 ^ 32, sampleIdx s + n * len - k)

/-- The header flags of the changes in PRE that fall within the sets still kept at the trigger (R158). -/
def keptMarks (c : CapSt) : Nat :=
  c.marks.foldl (fun n e => if c.taken < e.2 + c.kept then withBit n e.1 else n) c.flags

/-- A capture trigger (R155): in PRE it starts the post-trigger phase with the trigger's sample as the first set; in POST it is
counted in RETRIG. `line` is 0xFF for FORCE. A sounding measurement that is writing its share is abandoned (R152): `snd` ends it. -/
def captureTrigger (line frac : Nat) (snd : State → State) (s : State) : State :=
  if !(domOn 3 s) then s
  else if get F.SPE_CAP_STATUS_STATE s = 1 then
    let s := snd s
    let first := backFrom s.cap.kept (cyclesPerFrame s * s.metro.spc) s
    let s := { s with cap := { s.cap with
      trigFrame := frameStamp s, trigSample := sampleIdx s, trigFrac := frac, trigLine := line, trigRtc := rtc s,
      trigFreq := s.metro.fGrid, preKept := s.cap.kept, retrig := 0, written := s.cap.kept,
      firstFrame := first.1, firstSample := first.2, lag := false
      flags := keptMarks s.cap, marks := [] }, spec := { s.spec with marks := withBit s.spec.marks 8 } }
    let s := put F.SPE_CAP_STATUS_STATE 2 s
    let s := match s.metro.hist with
      | [] => s
      | x :: _ => postSet x s
    raise F.SPE_CAUSE_CAP_TRIG s
  else if get F.SPE_CAP_STATUS_STATE s = 2 then
    { s with cap := { s.cap with retrig := satNat 0xFFFF (s.cap.retrig + 1) } }
  else s

/-- The capture takes the sample `xs`; `last` is the sample before it (R155). -/
def captureSample (last : List (List Int)) (xs : List Int) (s : State) : State :=
  if !(domOn 3 s) then s
  else if get F.SPE_CAP_STATUS_STATE s = 1 then
    let s := match last with
      | x :: _ => if s.cap.lag then preSet x s else s
      | [] => s
    { s with cap := { s.cap with lag := true } }
  else if get F.SPE_CAP_STATUS_STATE s = 2 then postSet xs s
  else s

/-- A change between the last set and the next marks a capture in progress with flag `b` of its header (R157, R158). In PRE it counts only
when the capture keeps a set from before it. -/
def captureMark (b : Nat) (s : State) : State :=
  if get F.SPE_CAP_STATUS_STATE s = 2 then { s with cap := { s.cap with flags := withBit s.cap.flags b } }
  else if get F.SPE_CAP_STATUS_STATE s = 1 then
    { s with cap := { s.cap with marks := s.cap.marks.filter (fun e => e.1 != b) ++ [(b, s.cap.taken + b2n s.cap.lag)] } }
  else s

/-- The header of R157 without its CRC. -/
def capHeader (s : State) : List Byte :=
  let c := s.cap
  le 4 c.seq ++ le 4 c.trigFrame ++ le 2 c.trigSample ++ le 1 c.trigFrac ++ le 1 c.trigLine ++ le 4 c.firstFrame ++
    le 2 c.firstSample ++ le 1 (get F.SPE_CAP_CFG_CHANS s) ++ le 1 (if s.metro.spc = 256 then 0 else 1) ++ le 4 c.written ++
    le 4 c.preKept ++ le 2 c.retrig ++ le 2 c.flags ++ le 4 c.trigRtc ++ le 4 c.trigFreq ++ zeros 20

/-- The frame in progress carries DISTURBED so far (R149): an event, OVR, a selected comparator or HOLD. -/
def disturbedSoFar (s : State) : Bool := ([1, 2, 3, 9, 10].any fun b => bit s.spec.marks b) || bit s.en.flags 2

/-- Write the header into the slot (R157). -/
def writeHeader (s : State) : State :=
  let s := if disturbedSoFar s then captureMark 3 s else s
  let h := capHeader s
  wrBytes (slotBase (capSlot s) s) (h ++ le 4 (crc32 h)) s

/-- Begin PRE in slot `k` with an empty ring. -/
def enterPre (k : Nat) (s : State) : State :=
  let s := { s with cap := { s.cap with kept := 0, written := 0, place := 0, retrig := 0, preKept := 0, flags := 0, lag := false } }
  let s := { s with cap := { s.cap with taken := 0, marks := [] } }
  put F.SPE_CAP_STATUS_SETS 0 (put F.SPE_CAP_STATUS_SLOT k (put F.SPE_CAP_STATUS_STATE 1 s))

/-- The next slot from `k` on without a full bit. -/
def freeSlot (k : Nat) (s : State) : Option Nat :=
  ((List.range (capSlots s)).map fun i => (k + i) % capSlots s).find? fun i => !(fbit F.SPE_CAP_FULL_SLOT i s)

/-- Enter PRE in the next free slot from `k`; with every slot full, ring mode overwrites the slot full longest or stops, and a
single capture stays idle (R155). -/
def nextSlot (k : Nat) (s : State) : State :=
  match freeSlot k s with
  | some i => enterPre i s
  | none =>
    if !(flag F.SPE_CAP_CFG_MODE s) then raise F.SPE_CAUSE_CFG_REFUSED (put F.SPE_CAP_STATUS_STATE 0 s)
    else if flag F.SPE_CAP_CFG_OVERWRITE s then
      let i := s.cap.order.headD 0
      enterPre i (putBit F.SPE_CAP_FULL_SLOT i false { s with cap := { s.cap with order := s.cap.order.tail } })
    else raise F.SPE_CAUSE_CAP_RING_FULL (put F.SPE_CAP_STATUS_STATE 3 s)

/-- A capture is complete (R155): header, full bit, `CAP_DONE`; then IDLE, or the next slot in ring mode. -/
def captureDone (s : State) : State :=
  let k := capSlot s
  let s := putBit F.SPE_CAP_FULL_SLOT k true (writeHeader s)
  let s := raise F.SPE_CAUSE_CAP_DONE { s with cap := { s.cap with order := s.cap.order ++ [k], seq := (s.cap.seq + 1) % 2 ^ 32 } }
  if flag F.SPE_CAP_CFG_MODE s then nextSlot ((k + 1) % capSlots s) s else put F.SPE_CAP_STATUS_STATE 0 s

/-- An epoch that changes S (R158): a capture in POST ends with the old frame's last set and TRUNC; PRE restarts its ring. -/
def captureEpoch (s : State) : State :=
  if get F.SPE_CAP_STATUS_STATE s = 2 then
    raise F.SPE_CAUSE_CAP_TRUNC (captureDone { s with cap := { s.cap with flags := withBit s.cap.flags 0 } })
  else if get F.SPE_CAP_STATUS_STATE s = 1 then enterPre (capSlot s) s
  else s

/-- D3 loses its memory and E7's state (R153). -/
def loseCapture (s : State) : State :=
  loseMem captureBase (captureBase + 0x80000) { s with cap := { seq := s.cap.seq } }

end Sys2Proof.Machine
end

