-- ==== Sys2Proof/Machine/TamperLog.lean ====
section
/-! DEFINITION. The tamper log (R277, R278): the ring of bank 2, the queue in D0, what a record says. -/
namespace Sys2Proof.Machine

/-- Fixed producer `x` is tripped (R267). -/
def producer (x : Nat) (s : State) : Bool := bit s.tamp.prods x

/-- Counter `c` is lasting. -/
def isLasting (c : Nat) (s : State) : Bool := fbit (F.TAMP_LASTING_LASTING (c / 32)) (c % 32) s

/-- Bank 2 can take a tamper record (R277): D7 is up, its recall has completed, and its power-fail copy has not started. -/
def bank2Open (s : State) : Bool :=
  domOn 7 s && fbit F.CIS_QUEUE_RECALLED 2 s && !(s.sup.mode == .frozen && !(fbit F.CIS_QUEUE_WAITING 2 s))
    && s.sup.mode != .outage

/-- The slot of the occurrence record of counter `c` made in the RTC second `t`, among the `k` records before number `n` (R278). -/
def mergeSlot (log : Sparse TampRec) (c t n : Nat) : Nat → Option Nat
  | 0 => none
  | k + 1 =>
    if n = 0 then none
    else
      let i := (n - 1) % 960
      let r := sparseGet {} log i
      if r.rtc ≠ t then none
      else if r.kind = 1 ∧ r.counter = c then some i
      else mergeSlot log c t (n - 1) k

/-- Write a tamper record into the ring of bank 2 (R278). Occurrences of one counter within the same second are merged into one record. -/
def putTamp (r : TampRec) (s : State) : State :=
  let n := counter 5 s
  match if r.kind = 1 then mergeSlot s.cis.b2.tlog r.counter r.rtc n 960 else none with
  | some i =>
    dirty 2 { s with cis := { s.cis with b2 := { s.cis.b2 with
      tlog := sparseSet {} s.cis.b2.tlog i
        { sparseGet {} s.cis.b2.tlog i with reps := satNat 0xFFFF ((sparseGet ({} : TampRec) s.cis.b2.tlog i).reps + r.reps) } } } }
  | none =>
    let s := counterAdd 5 1 s
    dirty 2 { s with cis := { s.cis with b2 := { s.cis.b2 with
      tlog := sparseSet {} s.cis.b2.tlog (n % 960) { r with num := n % 2 ^ 32 } } } }

/-- Queue a tamper record in D0 (R277): an occurrence of a counter already queued raises its REPEAT; a full queue of 32 drops it. -/
def queueTamp (r : TampRec) (s : State) : State :=
  match s.tamp.queue.findIdx? (fun q => q.kind == 1 && r.kind == 1 && q.counter == r.counter) with
  | some i =>
    { s with tamp := { s.tamp with queue := upd s.tamp.queue i fun q => { q with reps := satNat 0xFFFF (q.reps + 1) } } }
  | none =>
    if s.tamp.queue.length < 32 then
      put F.TAMP_STATUS_QUEUED (s.tamp.queue.length + 1) { s with tamp := { s.tamp with queue := s.tamp.queue ++ [r] } }
    else raise F.TAMP_CAUSE_LOG_LOST (addSat F.TAMP_STATUS_LOST 1 s)

/-- The DETAIL of a record (R278): the magnetic sensor's reading, the main SRAM bank, the engine whose watchdog expired; 0 for the rest. -/
def detailOf (c detail : Nat) : Nat :=
  if c = 51 ∨ (10 ≤ c ∧ c ≤ 17) ∨ (25 ≤ c ∧ c ≤ 34) then detail else 0

/-- The wake sources of R288 that are enabled: the NAP maximum (bit 1) always is. -/
def wakeEnabled (b : Nat) (s : State) : Bool := b = 1 || fbit F.PMU_WAKE_EN_EN b s

/-- Counter `c`, as it becomes lasting, wakes the device from NAP or DOZE (R277). -/
def wakesAt (c : Nat) (s : State) : Bool :=
  flag (F.TAMP_FC_RESP_WAKE c) s && !(guarded s) && wakeEnabled 4 s && (get F.PMU_STATE_STATE s == 3 || get F.PMU_STATE_STATE s == 1)

/-- Log a tamper event of the RTC second `t`: into bank 2, or into the queue while bank 2 cannot take it. -/
def logTampAt (t kind c frac detail : Nat) (s : State) : State :=
  let v := framesRun s
  let flags := b2n v + 2 * b2n (get F.PMU_STATE_STATE s = 3 || get F.PMU_STATE_STATE s = 1) + 8 * b2n (s.sup.mode == .outage)
    + 4 * b2n (kind = 2 && wakesAt c s)
  let f := fresh s
  let r : TampRec := TampRec.mk 0 kind c 1 (frameStamp s) (if v then sampleIdx s else 0) (if v then frac else 0) flags
    t (f.1 % 1024) (detailOf c detail)
  if bank2Open s then putTamp r f.2 else queueTamp r f.2

/-- Log a tamper event of the present second. -/
def logTamp (kind c frac detail : Nat) (s : State) : State := logTampAt (rtc s) kind c frac detail s

/-- A fixed repair has acted for counter `c` (R276): `TAMP_CAUSE.REPAIR` and a record of kind 6. -/
def repairDone (c detail : Nat) (s : State) : State := raise F.TAMP_CAUSE_REPAIR (logTamp 6 c 0 detail s)

/-- Write the queue to bank 2 (R277). -/
def flushTamp (s : State) : State :=
  let q := s.tamp.queue
  put F.TAMP_STATUS_QUEUED 0 (q.foldl (fun s r => putTamp r s) { s with tamp := { s.tamp with queue := [] } })

end Sys2Proof.Machine
end

