-- ==== Sys2Proof/Machine/Consumers.lean ====
section
/-! DEFINITION. What the consumers of event lines and of lasting counters do (R268, R263, R309, R155, R70, R286 to R289): key
blanking, the line-driver mute, the capture trigger, the retirement of a slice, the wake sources. -/
namespace Sys2Proof.Machine

/-- Slice numbers not retired. -/
def liveSlices (s : State) : List Nat := (List.range 10).filter fun n => !(fbit F.CNV_RETIRED_SLICE n s)

/-- The slice serving channel `n` (`CNV_MAP`), 15 for none. -/
def sliceOf (n : Nat) (s : State) : Nat := (get F.CNV_MAP_SLICE s >>> (4 * n)) % 16

/-- Put slice `v` into channel `n`'s nibble of `CNV_MAP`. -/
def setMap (n v : Nat) (s : State) : State := put ⟨R.CNV_MAP, 4 * n, 4⟩ v s

/-- The channel a slice serves, if any. -/
def chanOf (sl : Nat) (s : State) : Option Nat := (List.range 8).find? fun n => sliceOf n s == sl

/-- A channel marked idle gets no slice (R59). -/
def idleChan (n : Nat) (s : State) : Bool := flag (F.CNV_CHAN_CFG_IDLE n) s

/-- A channel produces samples of 0 when it is idle or has no slice (R59, R73). -/
def deadChan (n : Nat) (s : State) : Bool := idleChan n s || sliceOf n s = 15

/-- The spares: slices not retired, not powered down for an idle channel (R59) and serving no channel. -/
def spares (s : State) : List Nat := (liveSlices s).filter fun n => (chanOf n s).isNone && !(bit s.conv.dark n)

/-- The ready spares. -/
def readySpares (s : State) : List Nat := (spares s).filter fun n => flag (F.CNV_SLICE_CFG_READY n) s

/-- Show the spares and the number of retired slices in `CNV_STATUS` (R73). -/
def showSpares (s : State) : State :=
  let l := spares s
  let r := popCount (get F.CNV_RETIRED_SLICE s) 10
  let s := put F.CNV_STATUS_SPARE_A (l.getD 0 15) (put F.CNV_STATUS_SPARE_B (l.getD 1 15) s)
  put F.CNV_STATUS_CONV_FAULT (b2n (decide (2 ≤ r)))
    (put F.CNV_STATUS_DEGRADED (b2n (r == 1)) (put F.CNV_STATUS_RETIRED_N r s))

/-- The rotation state while no relief runs (`CNV_STATUS.ROT_STATE`, R64, R73, R24): stopped with a slice retired, paused in Pass
or with `ROT_EN` 0, idle otherwise; it stays "not started" until the first valid frame. -/
def idleRotation (s : State) : State :=
  if get F.CNV_STATUS_ROT_STATE s = 7 then s
  else put F.CNV_STATUS_ROT_STATE
    (if get F.CNV_RETIRED_SLICE s ≠ 0 then 5 else if inPass s || !(flag F.CNV_CTL_ROT_EN s) then 4 else 0) s

/-- The interval between reliefs in seconds (R64): `CNV_CTL.PERIOD`, or the profile's default of R20; none in Pass. -/
def rotPeriod (s : State) : Option Nat :=
  let p := get F.CNV_CTL_PERIOD s
  if 2 ≤ p ∧ p ≤ 600 then some p else if profile s = 0 then some 20 else if profile s = 1 then some 60 else none

/-- A rotation period has passed since the metrology time `t`. -/
def periodSince (t : Nat) (s : State) : Bool :=
  match rotPeriod s with
  | some p => decide (t + p * 2 ^ 39 ≤ s.metro.clock)
  | none => false

/-- Any relief may start now (R64, R24, R73): metrology runs, no slice retired, not in Pass, no profile change pending. -/
def reliefAllowed (s : State) : Bool :=
  domOn 1 s && framesRun s && !(flag F.FLT_STATUS_STOPPED s) && get F.CNV_RETIRED_SLICE s == 0 && !(inPass s) &&
    !(flag F.PHE_PROFILE_CTL_PENDING s)

/-- A ready spare is spoken for: it takes a channel at the next epoch (R71, R72), or R68 names it for a relief out of turn. -/
def promised (sp : Nat) (s : State) : Bool :=
  (s.conv.swaps.any fun e => e.2 == sp) || (s.conv.again.any fun e => e.2 == sp)

/-- The ready spare a relief uses (R65): the one ready longer, of two equal the lower-numbered. -/
def choiceSpare (s : State) : Option Nat :=
  ((readySpares s).filter fun sp => !(promised sp s)).foldl (fun best sp =>
    match best with
    | none => some sp
    | some b => if nth 0 s.conv.readyAt sp < nth 0 s.conv.readyAt b then some sp else some b) none

/-- Step 1 of a relief of channel `ch` by slice `sb` (R65). -/
def startRelief (ch sb : Nat) (s : State) : State :=
  let r : Relief := { chan := ch, old := sliceOf ch s, new := sb, start := s.metro.clock }
  let s := { s with
    conv := { s.conv with relief := some r }
    metro := { s.metro with joined := [], joinInteg := nth 0 s.metro.integ ch } }
  let s := put (F.CNV_SLICE_CFG_ROLE sb) 2 (put (F.CNV_SLICE_CFG_CHAN sb) ch (put (F.CNV_SLICE_CFG_READY sb) 0
    (put (F.CNV_SLICE_CFG_PGA sb) (get (F.CNV_CHAN_CFG_PGA ch) s) s)))
  put F.CNV_STATUS_REL_CHAN ch (put F.CNV_STATUS_ROT_STATE 1 s)

/-- The channel whose relief is next in order (R64): the first from `nextChan` on that is neither idle nor without a slice. -/
def nextRelief (s : State) : Option Nat :=
  ((List.range 8).map fun i => (s.conv.nextChan + i) % 8).find? fun ch => !(deadChan ch s)

/-- A relief falls due: it starts when no relief runs and a spare is ready, else it is deferred; with no spare ready `ROT_DEFER`
is set (R65). -/
def rotate (s : State) : State :=
  match nextRelief s, choiceSpare s with
  | none, _ => s
  | some _, none => raise F.CNV_CAUSE_ROT_DEFER { s with conv := { s.conv with deferred := true } }
  | some ch, some sb =>
    if s.conv.relief.isSome then { s with conv := { s.conv with deferred := true } }
    else startRelief ch sb { s with conv := { s.conv with nextChan := (ch + 1) % 8, deferred := false } }

/-- What waits for the relief in progress to end or for a ready spare: the relief out of turn of R68 with its own spare, then a
deferred relief (R65). -/
def startWaiting (s : State) : State :=
  if s.conv.relief.isSome || !(reliefAllowed s) then s
  else match s.conv.again with
    | some (ch, sp) =>
      if deadChan ch s || !((spares s).contains sp) then { s with conv := { s.conv with again := none } }
      else if flag (F.CNV_SLICE_CFG_READY sp) s then startRelief ch sp { s with conv := { s.conv with again := none } }
      else s
    | none => if s.conv.deferred && flag F.CNV_CTL_ROT_EN s && (choiceSpare s).isSome then rotate s else s

/-- The relief in progress ends without a takeover: Sa keeps the channel, Sb returns to the ready spares (R69, R92). -/
def dropRelief (s : State) : State :=
  match s.conv.relief with
  | none => s
  | some r =>
    let s := put F.CNV_SPLICE_RES_RESULT 3 (put F.CNV_SPLICE_RES_RESTARTS r.restarts
      (put F.CNV_SPLICE_RES_NEW r.new (put F.CNV_SPLICE_RES_OLD r.old (put F.CNV_SPLICE_RES_CHAN r.chan s))))
    let s := put (F.CNV_SLICE_CFG_ROLE r.new) 1 (put (F.CNV_SLICE_CFG_READY r.new) 1 s)
    idleRotation { s with conv := { s.conv with relief := none } }

/-- Abandon the relief in progress (R69); what waits for a ready spare goes on. -/
def abandonRelief (s : State) : State := startWaiting (dropRelief s)

/-- Put slice `sl` on the calibration source on its own (R72, R73): shorted inputs first. -/
def toSource (sl : Nat) (s : State) : State :=
  put (F.CNV_SLICE_CFG_ROLE sl) 2 (put (F.CNV_SLICE_CFG_READY sl) 0
    { s with conv := { s.conv with calOf := some { old := sl, new := sl, alone := true }, calStep := 1 } })

/-- Withdraw the spare of the open relief so that it can be calibrated and used (R72). -/
def withdrawSpare (s : State) : State :=
  match s.conv.relief with
  | none => s
  | some r =>
    let s := put (F.CNV_SLICE_CFG_READY r.new) 0 (dropRelief s)
    if s.conv.calOf.isNone then toSource r.new s else s

/-- Retirement of slice `sl` (R70): powered down, marked in `CNV_RETIRED` and in the keep record, bank 1 stored on command, a
legal log record, `CNV_CAUSE.RETIRE`; the converter state follows the number retired (R73). Rotation stops with it: an open
relief is dropped, a takeover or calibration of the slice itself as well. -/
def retireSlice (sl : Nat) (s : State) : State :=
  let s := dropRelief s
  let s := { s with conv := { s.conv with
    doomed := noBit s.conv.doomed sl, swaps := s.conv.swaps.filter fun e => e.2 != sl, deferred := false, again := none } }
  let s := if s.conv.calOf.any (fun r => r.old == sl) then { s with conv := { s.conv with calOf := none, calStep := 0 } } else s
  let s := putBit F.CNV_RETIRED_SLICE sl true s
  let s := put (F.CNV_SLICE_CFG_ROLE sl) 3 (put (F.CNV_SLICE_CFG_READY sl) 0 s)
  let s := writeKeep (fun k => { k with retired := withBit k.retired sl }) s
  let s := repairDone sl 0 (deviceStore 1 s)
  let s := showSpares (raise F.CNV_CAUSE_RETIRE (sliceEvent 1 sl s))
  let r := get F.CNV_STATUS_RETIRED_N s
  idleRotation (if r = 1 then sliceEvent 2 sl s else if r = 2 then raise F.CNV_CAUSE_CONV_FAULT (sliceEvent 3 sl s) else s)

/-- Each channel whose slice is lasting gets the lowest-numbered ready spare that is not spoken for, to take it at the next epoch
without a window (R71, R72). DESIGN CHOICE: which of two ready spares it is the spec does not say (log 42). -/
def assignSwaps (s : State) : State :=
  (List.range 8).foldl (fun s ch =>
    if bit s.conv.doomed (sliceOf ch s) && !(deadChan ch s) && !(s.conv.swaps.any fun e => e.1 == ch) then
      match (readySpares s).find? fun sp => !(s.conv.swaps.any fun e => e.2 == sp) with
      | some sp => { s with conv := { s.conv with swaps := s.conv.swaps ++ [(ch, sp)], again := none } }
      | none => s
    else s) s

/-- A slice's counter became lasting (R70 to R72). A slice that serves no channel is retired at once. A live one keeps its channel
until a ready spare can take it at the next epoch without a window; the slice that is to relieve it is such a spare, and one in a
relief of another channel is withdrawn when none is ready. -/
def sliceLasting (sl : Nat) (s : State) : State :=
  if fbit F.CNV_RETIRED_SLICE sl s then s
  else match chanOf sl s with
    | none => assignSwaps (retireSlice sl s)
    | some _ =>
      let s := if s.conv.relief.any (fun r => r.old == sl) then dropRelief s else s
      let s := assignSwaps { s with conv := { s.conv with doomed := withBit s.conv.doomed sl } }
      if s.conv.swaps.any (fun e => sliceOf e.1 s == sl) then s else withdrawSpare s

/-- Undo an entry at abort point `ap` (R286): `PMU_ENTRY_RES` records it, the owners are released, the state is RUN. -/
def abandonEntry (ap wake : Nat) (s : State) : State :=
  let s := put F.PMU_ENTRY_RES_RESULT 3 (put F.PMU_ENTRY_RES_AP ap (put F.PMU_ENTRY_RES_DOMAIN 0 (put F.PMU_ENTRY_RES_WAKE wake s)))
  let s := put F.PMU_STATE_STATE 0 (put F.PMU_STATE_PHASE 0 (put F.PMU_STATE_ASKING 0 s))
  raise F.PMU_CAUSE_ENTRY_ABANDONED { s with sup := { s.sup with
    wakePend := 0, abortPend := false, shipEntry := false,
    retBanks := if ap = 1 then s.sup.retBanks else [none, none, none, none] } }

/-- The retention bank of each domain with a save list (R285). -/
def bankOfDom (d : Nat) : Nat := if d = 4 then 0 else if d = 5 then 1 else if d = 3 then 3 else 2

/-- The domains whose registers NAP does not keep: D4, D5 and D6 always, D10 unless GLOW, D3 when D3_OFF (R280). -/
def napDomains (s : State) : List Nat :=
  [4, 5, 6] ++ (if flag F.PMU_NAP_CFG_GLOW s then [] else [10]) ++
    (if flag F.PMU_NAP_CFG_D3_OFF s && domOn 3 s then [3] else [])

/-- A key update whose record bank 1 has not committed has no effect (R264): its entries and its record are taken back. -/
def undoKu (s : State) : State :=
  let stored := !(fbit F.CIS_STATUS_DIRTY 1 s) && !(fbit F.CIS_STATUS_COPYING 1 s) && !(fbit F.CIS_QUEUE_WAITING 1 s)
  match s.well.ku with
  | none => s
  | some j =>
    let s := { s with well := { s.well with ku := none } }
    if j.written.isSome && !stored then
      dirty 1 { s with cis := { s.cis with b1 := { s.cis.b1 with keys := j.old, well := j.oldWell } } }
    else s

/-- What a domain holds beside its registers is lost when it restarts: capture SRAM, main SRAM banks 2 to 7 with the mailbox, the
engines' own state. Profile 1 continues from what its entries hold (R174); the relays, their drives and what waits for them stay as they
are (R198, R201). -/
def clearDom (d : Nat) (s : State) : State :=
  if d = 1 then { s with conv := { trim := s.conv.trim } }
  else if d = 2 then { s with metro := {}, en := {} }
  else if d = 3 then { loseCapture s with spec := {}, en := { s.en with e7Ready := true } }
  else if d = 4 then { loseMem 0x20000000 0x20080000 s with bil := { keptBil s.bil with missedFrom := s.bil.missedFrom } }
  else if d = 5 then
    let s := loseMem 0x20080000 0x20200000 s
    { s with sup := { s.sup with slew := 0 }, pay := { activating := s.pay.activating }, obj := {
      slotA := s.obj.slotA, slotB := s.obj.slotB
      interrupted := decide (1 ≤ get F.UPD_STATUS_STATE s) && decide (get F.UPD_STATUS_STATE s ≤ 4) } }
  else if d = 6 then
    let s := undoKu s
    { s with
      well := { s.well with slots := [], jobs := [], running := none, lastLoad := none, trng := {}, seeded := false, requests := 0 }
      pay := { s.pay with activating := none } }
  else if d = 9 then { loseMem 0x2D000000 0x2D018000 s with lmd := {}, fab := {} }
  else if d = 10 then { s with pnl := {} }
  else s

/-- The status registers of D4 and D5 that the cores' firmware writes from what its SRAM holds (R285): the billing, tariff, credit, relay,
object and update status. -/
def firmRegs : List Nat :=
  [R.BIL_STATUS, R.BIL_LAST, R.BIL_SNAP_NUM, R.BIL_DEM_IDX, R.TAR_STATUS, R.TAR_ADJ_REM, R.TAR_LOCAL_TIME, R.PAY_STATUS, R.PAY_CREDIT_LO,
   R.PAY_MONTH, R.PAY_MPL, R.PAY_TOKEN_RES, R.RLY_STATUS, R.RLY_LC_WAIT, R.RLY_OPS, R.OBJ_STATUS, R.OBJ_READ_CTR, R.OBJ_READ_RESERVE,
   R.OBJ_LEGAL_LOG, R.UPD_STATUS, R.UPD_LEN, R.UPD_VER 0, R.UPD_VER 1, R.UPD_FLOOR] ++
    (List.range 16).map R.BIL_DISP ++ (List.range 7).map R.OBJ_SESS

/-- The domain of fixed producer `x` (R267). -/
def producerDom (x : Nat) : Nat :=
  if x = 2 then 1 else if 7 ≤ x ∧ x ≤ 9 then 2 else if x = 10 ∨ x = 11 then 5 else if x = 12 then 9 else 0

/-- The producers of domains that go off are released (R267). -/
def dropProducers (ds : List Nat) (s : State) : State :=
  (List.range 13).foldl (fun s x =>
    if ds.contains (producerDom x) && producer x s then
      put (F.TAMP_FC_STAT_ACTIVE (48 + x)) 0 { s with tamp := { s.tamp with prods := noBit s.tamp.prods x } }
    else s) s

/-- Power domains down and up again from reset. -/
def restartDoms (ds : List Nat) (s : State) : State :=
  dropProducers ds (ds.foldl (fun s d => powerUp d (powerDown d (clearDom d s))) s)

/-- The cores run at OP0 on FIRC (R31, R289). -/
def coresAtOp0 (s : State) : State :=
  let s := put F.CLK_STATUS_BUSY 0 { s with sup := { s.sup with opTarget := none } }
  put F.CLK_CTL_OP 0 (put F.CLK_CTL_CORE1 0 (put F.CLK_CTL_CORE2 0 (put F.CLK_STATUS_OP 0 s)))

/-- The partial start of R290: D3, D4, D5, D6, D8, D9 and D10 restart, and the boot ROM reads the image once more; SUP_RUN rises.
In Pass D3 stays off. -/
def partialStart (s : State) : State :=
  let ld := s.ld
  let s := coresAtOp0 (restartDoms ((if inPass s then [] else [3]) ++ [4, 5, 6, 8, 9, 10]) s)
  let s := put F.SUP_RUN_RUN ((run s + 1) % 2 ^ 32) (wr R.SUP_RESET_CAUSE 32 s)
  let s := put F.PMU_STATE_STATE 0 (put F.PMU_STATE_CORE_DOZE 0 (put F.PMU_STATE_PHASE 0 (put F.PMU_DOM_STATUS_RET 0 s)))
  let s := { s with
    sup := { s.sup with coldReq := false, quarantined := 0, shipEntry := false, wakePend := 0, abortPend := false }
    ld := { ld with partialRun := true, refused := false, reread := 0, retrySection := 0, reads := 0 } }
  setLoader 1 ld.guard ld.fallback s

/-- Wake from NAP (R289): D6 and D10 on, the banks whose signature matches restored, the cores, at OP0 on FIRC, show what their SRAM
holds (R285); `bad` holds the
banks whose signature does not match, which are not restored and cause a cold start (R290). -/
def wakeFromNap (src bad : Nat) (s : State) : State :=
  let s := [3, 4, 5, 6, 10].foldl (fun s d => if d = 3 && inPass s then s else putBit F.PMU_DOM_STATUS_ON d true
    (putBit F.PMU_DOM_STATUS_RET d false s)) s
  let s := (List.range 4).foldl (fun s b =>
    match nth none s.sup.retBanks b with
    | none => s
    | some l => if bit bad b then s else wrMany l s) s
  let written := (List.range 4).filter fun b => (nth none s.sup.retBanks b).isSome && bit bad b
  let s := wrMany s.sup.firm s
  let s := coresAtOp0 { s with sup := { s.sup with retBanks := [none, none, none, none], wakePend := 0, firm := [] } }
  let s := put F.PMU_STATE_STATE 0 (put F.PMU_STATE_CORE_DOZE 0 (put F.PMU_STATE_PHASE 0 s))
  let s := raise F.PMU_CAUSE_WAKE (putBit ⟨R.PMU_WAKE_CAUSE, 0, 6⟩ src true s)
  if written.isEmpty then s
  else
    let s := written.foldl (fun s b => putBit ⟨R.PMU_WAKE_CAUSE, 16, 4⟩ b true s) s
    raise F.PMU_CAUSE_RET_FAIL { s with sup := { s.sup with coldReq := true } }

/-- A wake source becomes active (R286, R288): during entry it abandons the entry at the next abort point, in NAP it wakes. A lasting
counter ends DOZE as well (R277). -/
def wakeSource (src bad : Nat) (s : State) : State :=
  if !(wakeEnabled src s) then s
  else if src = 4 ∧ get F.PMU_STATE_STATE s = 1 then put F.PMU_STATE_STATE 0 (put F.PMU_STATE_CORE_DOZE 0 s)
  else if get F.PMU_STATE_STATE s = 2 then { s with sup := { s.sup with wakePend := withBit s.sup.wakePend src } }
  else if get F.PMU_STATE_STATE s = 3 then wakeFromNap src bad s
  else s

end Sys2Proof.Machine
end

