-- ==== Sys2Proof/Machine/Blank.lean ====
section
/-! DEFINITION. What event lines do at once: working-key blanking (R263), the line-driver mute (R309, R319) and the capture trigger's
claim on the sounding share (R152). -/
namespace Sys2Proof.Machine

/-- Change the Well's state. -/
def updWell (f : WellSt → WellSt) (s : State) : State := { s with well := f s.well }

/-- Show the working slots and the job queue. -/
def showWell (s : State) : State :=
  put F.SEC_STATUS_BUSY (b2n s.well.running.isSome) (put F.SEC_STATUS_QUEUE s.well.jobs.length
    (put F.WEL_STATUS_SLOTS s.well.slots.length s))

/-- A draw from the DRBG (R262). -/
def drbg (s : State) : Nat × State :=
  let f := fresh s
  (f.1, updWell (fun w => { w with requests := w.requests + 1 }) f.2)

/-- Draw a fresh mask and rewrite every share pair (R258). -/
def remask (s : State) : State :=
  let f := drbg s
  updWell (fun w => { w with mask := f.1 % 2 ^ 256, maskAt := s.sup.mono }) f.2

/-- Show a key update's result (R255). -/
def kuResult (code op parent child : Nat) (s : State) : State :=
  let s := put F.WEL_KU_RES_CODE code (put F.WEL_KU_RES_OP op (put F.WEL_KU_RES_PARENT parent (put F.WEL_KU_RES_CHILD child s)))
  put F.WEL_KU_RES_SEQ (get F.WEL_KU_RES_SEQ s + 1) s

/-- The key update in progress is aborted before it has written anything (R263): its caller is answered TAMPER_ABORT. -/
def abortKu (s : State) : State :=
  match s.well.ku with
  | none => s
  | some j =>
    if j.written.isSome then s
    else
      let s := updWell (fun w => { w with ku := none }) s
      let s := raise F.WEL_CAUSE_KU_REJECT (kuResult 9 j.op (field j.msg 6 1) (field j.msg 7 1) s)
      answerReply j.reply 9 [] s

/-- The snapshot signature in progress is aborted (R236): the reading is answered TAMPER_ABORT. -/
def abortSigning (s : State) : State :=
  match s.obj.signing with
  | none => s
  | some e => answerObject e.1 9 [] (raise F.OBJ_CAUSE_TAMPER_ABORT { s with obj := { s.obj with signing := none } })

/-- The running job is aborted (R263). Of those that wait, the ones in front that name a key end with the refusal of its load (R253), and the
first that names none starts. -/
def abortJob (s : State) : State :=
  match s.well.running with
  | none => s
  | some _ =>
    let rest := s.well.jobs.dropWhile fun j => j.key.isSome
    let refused := decide (rest.length < s.well.jobs.length)
    let s := updWell (fun w => { w with
      running := rest.head?, jobs := rest.tail, lastLoad := if refused then some .blanked else w.lastLoad }) s
    raise F.SEC_CAUSE_JOB_ABORT (raiseIf refused F.WEL_CAUSE_UNWRAP_FAIL s)

/-- Working-key blanking (R263): every slot is cleared, the operations in progress are aborted, the Well is re-masked. -/
def blankKeys (s : State) : State :=
  let s := abortJob (abortSigning (abortKu (updWell (fun w => { w with slots := [] }) s)))
  let s := { s with pay := { s.pay with decBlanked := s.pay.decBlanked || s.pay.dec.isSome } }
  raise F.WEL_CAUSE_BLANKED (showWell (remask s))

/-- Put E9's state into `LMD_STATUS`. -/
def lmdState (n : Nat) (s : State) : State := put F.LMD_STATUS_STATE n s

/-- A frame that E9 sent or abandoned: E10 awaits its ack when it asked for one (R328). -/
def afterTx (t : TxFrame) (s : State) : State :=
  updFab (fun f => { f with await := if t.frame.ackReq then some t else f.await, awaitAt := s.sup.mono })
    (updLmd (fun l => { l with tx := none }) s)

/-- The frame in transmission is abandoned (R309). -/
def abandonTx (s : State) : State :=
  match s.lmd.tx with
  | none => s
  | some t => lmdState 1 (raise F.LMD_CAUSE_TX_ABORT (afterTx t s))

/-- A sounding measurement is on the line or computing. -/
def soundingRuns (s : State) : Bool := get F.LMD_SND_STATUS_STATE s = 2 || get F.LMD_SND_STATUS_STATE s = 3

/-- What a refusal or abandonment with reason `code` has repeated (R319). -/
def soundingRepeat (code : Nat) (s : State) : State :=
  updLmd (fun l => { l with
    sndSince := none, repeatMute := l.repeatMute || code == 2, repeatRly := l.repeatRly || code == 3,
    sndRepeat := if code = 1 ∨ code = 4 then some (s.sup.mono + 61440) else l.sndRepeat }) s

/-- The measurement in progress is abandoned and discarded (R319). -/
def abortSounding (code : Nat) (s : State) : State :=
  if !(soundingRuns s) then s
  else
    let s := put F.LMD_SND_STATUS_STATE 0 (put F.LMD_SND_STATUS_RESULT 3 (put F.LMD_SND_STATUS_ABORT code s))
    raise F.LMD_CAUSE_SND_ABORT (lmdState 1 (soundingRepeat code s))

/-- A mute line rises: the driver goes to high impedance, what it sends is abandoned (R268, R309, R319). -/
def muteDriver (s : State) : State :=
  if !(domOn 9 s) then s
  else
    let s := abortSounding 2 (abandonTx s)
    if get F.LMD_STATUS_STATE s = 0 ∨ get F.LMD_STATUS_STATE s = 6 then s else lmdState 5 s

/-- No mute line is active any more: E9 listens again; a measurement that a mute line ended is due 60 s later (R319). -/
def unmuteDriver (s : State) : State :=
  let s := if get F.LMD_STATUS_STATE s = 5 ∧ !(bit s.sup.quarantined 9) then lmdState 1 s else s
  if s.lmd.repeatMute then updLmd (fun l => { l with repeatMute := false, sndRepeat := some (s.sup.mono + 61440) }) s else s

/-- A waveform trigger ends a measurement in progress, and E7 says so (R152). -/
def soundForCapture (s : State) : State :=
  if soundingRuns s then raise F.SPE_CAUSE_SOUND_ABORT (abortSounding 1 s) else s

end Sys2Proof.Machine
end

