-- ==== Sys2Proof/Machine/Fault.lean ====
section
/-! DEFINITION. The event fabric and the fault counters (chapter 12): which lines are active, what a rising line does, how an
occurrence is counted, when a counter becomes lasting and what that does, the tamper log. -/
namespace Sys2Proof.Machine

/-- Line `l` is active (R266): a fixed producer, a comparator, a power-quality condition or a lasting counter routed to it is.
A lasting counter's response waits for the release of guarded start (R46). -/
def lineActive (l : Nat) (s : State) : Bool :=
  ((List.range 13).any fun x =>
    producer x s && flag (F.EVF_PROD_CFG_EN x) s && get (F.EVF_PROD_CFG_LINE x) s == l) ||
  ((List.range 16).any fun m =>
    flag (F.FLT_WIN_CFG_ACTIVE m) s && flag (F.FLT_WIN_CFG_LINE_EN m) s && get (F.FLT_WIN_CFG_LINE m) s == l) ||
  (flag F.SPE_PQ_STATE_DIP_ON s && flag F.SPE_PQ_LINES_DIP_EN s && get F.SPE_PQ_LINES_DIP_LINE s == l) ||
  (flag F.SPE_PQ_STATE_SWELL_ON s && flag F.SPE_PQ_LINES_SWELL_EN s && get F.SPE_PQ_LINES_SWELL_LINE s == l) ||
  (flag F.SPE_PQ_STATE_INTR s && flag F.SPE_PQ_LINES_INTR_EN s && get F.SPE_PQ_LINES_INTR_LINE s == l) ||
  ((List.range 64).any fun c =>
    isLasting c s && !(guarded s) && flag (F.TAMP_FC_RESP_LINE_EN c) s && get (F.TAMP_FC_RESP_LINE c) s == l)

/-- Whether a line of a two-word mask at `a` (lines 0 to 31) and `a + 4` (32 to 63) is active. -/
def maskActive (a : Nat) (s : State) : Bool :=
  (rd s a &&& rd s (R.EVF_STATUS 0)) != 0 || (rd s (a + 4) &&& rd s (R.EVF_STATUS 1)) != 0

/-- A line that blanks working keys is active. -/
def blanking (s : State) : Bool := maskActive (R.EVF_BLANK 0) s

/-- A line that mutes the line driver is active. -/
def muting (s : State) : Bool := maskActive (R.EVF_MUTE 0) s

/-- A line that freezes the relay drive is active. -/
def freezing (s : State) : Bool := maskActive (R.EVF_FREEZE 0) s

/-- Line `l` is selected in the mask at `a`. -/
def inMask (a l : Nat) (s : State) : Bool := (rd s (a + 4 * (l / 32))).toNat.testBit (l % 32)

/-- The timestamp of a rising edge (R269): frame, sample, fraction and sub-second, RTC; the frame fields are 0xFFFF_FFFF and
FVALID 0 while the coherent stream does not run, and the sub-second is free (log 8). The other two registers are latched when a master
reads the frame. -/
def latchStamp (l frac : Nat) (s : State) : State :=
  let v := framesRun s
  let f := fresh s
  let pos := (if v then sampleIdx s % 4096 + frac % 256 * 2 ^ 12 + 2 ^ 31 else 0) + f.1 % 1024 * 2 ^ 20
  let s := put (F.EVF_TS_FRAME_FRAME l) (frameStamp s) f.2
  { s with tamp := { s.tamp with tsLive := sparseSet (0, 0, 0) s.tamp.tsLive l (frameStamp s, pos, rtc s) } }

/-- What a rising edge of line `l` does (R268): cause bit, timestamp, key blanking, driver mute, capture trigger. -/
def lineRise (frac l : Nat) (s : State) : State :=
  let s := raiseAt (F.EVF_CAUSE_RISE (l / 32)) (l % 32) s
  let s := if inMask (R.EVF_TS_EN 0) l s then latchStamp l frac s else s
  let s := if inMask (R.EVF_BLANK 0) l s then blankKeys s else s
  let s := if inMask (R.EVF_MUTE 0) l s then muteDriver s else s
  if inMask R.SPE_CAP_TRIG_LO l s then captureTrigger l frac soundForCapture s else s

/-- Bring `EVF_STATUS` up to the producers (R266) and let every line that rises act. -/
def refreshLines (frac : Nat) (s : State) : State :=
  let now := (List.range 64).filter fun l => lineActive l s
  let rising := now.filter fun l => !((rd s (R.EVF_STATUS (l / 32))).toNat.testBit (l % 32))
  let word (h : Nat) : Nat := now.foldl (fun n l => if l / 32 = h then withBit n (l % 32) else n) 0
  let s := put (F.EVF_STATUS_ACTIVE 0) (word 0) (put (F.EVF_STATUS_ACTIVE 1) (word 1) s)
  let s := rising.foldl (fun s l => lineRise frac l s) s
  let s := if muting s then s else unmuteDriver s
  put F.WEL_STATUS_BLANKED (b2n (blanking s)) s

/-- The fault record as the counters stand (R274). -/
def faultRec (s : State) : FaultRec :=
  { lasting := (rd s (R.TAMP_LASTING 0)).toNat + (rd s (R.TAMP_LASTING 1)).toNat * 2 ^ 32,
    since := s.tamp.since, total := s.tamp.life }

/-- Write the fault record into bank 2 (R274). Before the bank has been recalled E0's write waits for that (R213). -/
def writeFaultRec (s : State) : State :=
  if !(domOn 7 s && fbit F.CIS_QUEUE_RECALLED 2 s) then { s with tamp := { s.tamp with recDue := true } }
  else
    let s := dirty 2 { s with cis := { s.cis with b2 := { s.cis.b2 with fault := writeCopy s.cis.b2.fault (faultRec s) } } }
    { s with tamp := { s.tamp with totalsChanged := false, recDue := false } }

/-- The fault record is written and bank 2 stored on command (R274): both wait for the bank's recall. -/
def keepFaults (s : State) : State :=
  let s := writeFaultRec s
  if s.tamp.recDue then s else deviceStore 2 s

/-- The window and threshold of counter `c`. -/
def winOf (c : Nat) (s : State) : Nat := 1024 * get (F.TAMP_FC_CFG_WIN c) s

/-- Occurrences of the list within the window ending now (R271). -/
def inWindow (w now : Nat) (l : List Nat) : Nat := (l.filter fun t => decide (now ≤ t + w)).length

/-- Bank substitution (R276): the spare takes the bank when it is unused, for the life of the device. -/
def substituteBank (b : Nat) (s : State) : State :=
  if flag F.TAMP_STATUS_SPARE_USED s || s.well.spareMap.isSome then raise F.TAMP_CAUSE_SPARE_EXHAUSTED s
  else repairDone (10 + b) b (put F.TAMP_STATUS_SPARE_BANK b (put F.TAMP_STATUS_SPARE_USED 1
    { s with well := { s.well with spareMap := some b } }))

/-- The fixed repair of a counter that becomes lasting (R275, R276). A cold start is asked for once for E1, E2, E7 to E10. DEDUCED:
`TAMP_CAUSE.REPAIR` and a record of kind 6 tell each repair that acts at once: a retirement, a substitution, a cold start (log 42). -/
def fixedRepair (c : Nat) (s : State) : State :=
  if c ≤ 9 then sliceLasting c s
  else if c ≤ 17 then substituteBank (c - 10) s
  else if c = 25 ∨ c = 26 ∨ (31 ≤ c ∧ c ≤ 34) then repairDone c (c - 24) { s with sup := { s.sup with coldReq := true } }
  else s

/-- An ALARM to all heads for a counter that became lasting with IRQ = 1 (R333): counter, kind, RTC and DETAIL. -/
def sendAlarm (t c detail : Nat) (s : State) : State :=
  (handToE10 { mtype := 8, msgId := s.fab.msgId, dest := .heads, body := Config.bodyOf 8 [c, 2, t, detailOf c detail] }
    (updFab (fun f => { f with msgId := (f.msgId + 1) % 2 ^ 16 }) s)).2

/-- Counter `c` becomes lasting at RTC second `t` (R271, R272): latched, logged, recorded, bank 2 stored; the fixed repair and the
configured response act. DEDUCED: `TAMP_CAUSE.LASTING` is set with the latch, also while guarded start holds (log 42). -/
def becomeLasting (t c frac detail : Nat) (s : State) : State :=
  let wakes := flag (F.TAMP_FC_RESP_WAKE c) s && !(guarded s)
  let s := putBit (F.TAMP_LASTING_LASTING (c / 32)) (c % 32) true (put (F.TAMP_FC_STAT_LASTING c) 1 s)
  let s := { s with tamp := { s.tamp with since := upd s.tamp.since c (fun _ => t) } }
  let s := raiseIf (flag (F.TAMP_FC_RESP_IRQ c) s) F.TAMP_CAUSE_LASTING s
  let s := keepFaults (logTampAt t 2 c frac detail s)
  let s := fixedRepair c s
  let s := refreshLines frac s
  let s := if flag (F.TAMP_FC_RESP_IRQ c) s then sendAlarm t c detail s else s
  if wakes then wakeSource 4 0 s else s

/-- Show how many occurrences of counter `c` lie within its window now (R271). -/
def showWindow (c : Nat) (s : State) : State :=
  let k := inWindow (winOf c s) s.sup.mono (nth [] s.tamp.hist c)
  let s := put (F.TAMP_FC_STAT_IN_WIN c) k s
  if c ≤ 9 ∧ domOn 1 s then put (F.CNV_SLICE_CFG_FAULTS c) (satNat 15 k) s else s

/-- Occurrences leave the windows as time passes (R271). -/
def showWindows (s : State) : State :=
  (List.range 64).foldl (fun s c => if (nth [] s.tamp.hist c).isEmpty then s else showWindow c s) s

/-- One occurrence of counter `c` at RTC second `t` and tick `m` (R271): its time is kept among the last N, TOTAL rises, it is logged, and
the counter becomes lasting when N occurrences lie within W. Nothing new happens while it is lasting. -/
def occurrenceAt (t m c frac detail : Nat) (s : State) : State :=
  let n := get (F.TAMP_FC_CFG_N c) s
  let h := (m :: nth [] s.tamp.hist c).take (max n 1)
  let s := { s with tamp := { s.tamp with
    hist := upd s.tamp.hist c (fun _ => h), life := upd s.tamp.life c (fun t => satNat (2 ^ 32 - 1) (t + 1)),
    quietFrom := upd s.tamp.quietFrom c (fun _ => s.sup.mono), totalsChanged := true } }
  let k := inWindow (winOf c s) m h
  let s := showWindow c (addSat (F.TAMP_FC_STAT_TOTAL c) 1 s)
  let s := logTampAt t 1 c frac detail (raise F.TAMP_CAUSE_OCCURRENCE s)
  if isLasting c s then s
  else if 1 ≤ n ∧ n ≤ k then becomeLasting t c frac detail s
  else s

/-- One occurrence of counter `c` now. -/
def occurrence (c frac detail : Nat) (s : State) : State := occurrenceAt (rtc s) s.sup.mono c frac detail s

/-- Clear a lasting counter (R273): its history is emptied, a record of `kind` 3, 4 or 5 is written, `TAMP_CAUSE.CLEARED` set. -/
def clearLasting (c kind : Nat) (s : State) : State :=
  let s := putBit (F.TAMP_LASTING_LASTING (c / 32)) (c % 32) false (put (F.TAMP_FC_STAT_LASTING c) 0 s)
  let s := { s with tamp := { s.tamp with hist := upd s.tamp.hist c (fun _ => []), since := upd s.tamp.since c (fun _ => 0) } }
  let s := keepFaults (logTamp kind c 0 0 (showWindow c s))
  refreshLines 0 (raise F.TAMP_CAUSE_CLEARED s)

/-- Fixed producer `x` trips at RTC second `t` and tick `m` (R267, R270): one occurrence of counter 48 + x, its line becomes active. A
producer that stays tripped, or whose domain is off, counts nothing. -/
def tripProducerAt (t m x frac detail : Nat) (s : State) : State :=
  if producer x s || !(domOn (producerDom x) s) then s
  else
    let s := { s with tamp := { s.tamp with prods := withBit s.tamp.prods x } }
    occurrenceAt t m (48 + x) frac detail (refreshLines frac (put (F.TAMP_FC_STAT_ACTIVE (48 + x)) 1 s))

/-- Fixed producer `x` trips now. -/
def tripProducer (x frac detail : Nat) (s : State) : State := tripProducerAt (rtc s) s.sup.mono x frac detail s

/-- Fixed producer `x` releases. -/
def releaseProducer (x : Nat) (s : State) : State :=
  let s := { s with tamp := { s.tamp with
    prods := noBit s.tamp.prods x, quietFrom := upd s.tamp.quietFrom (48 + x) (fun _ => s.sup.mono) } }
  refreshLines 0 (put (F.TAMP_FC_STAT_ACTIVE (48 + x)) 0 s)

/-- A wake source becomes active (R286 to R290). In NAP `bad` holds the banks whose signature does not match: one occurrence of
counter 47 for each written one, and a partial start. -/
def wakeBy (src bad : Nat) (s : State) : State :=
  let n := if get F.PMU_STATE_STATE s = 3 ∧ wakeEnabled src s then
      ((List.range 4).filter fun b => bit bad b && (nth none s.sup.retBanks b).isSome).length else 0
  let s := wakeSource src bad s
  if n = 0 then s else refreshLines 0 (partialStart ((List.range n).foldl (fun s _ => occurrence 47 0 0 s) s))

end Sys2Proof.Machine
end

