-- ==== Sys2Proof/Machine/Metrology.lean ====
section
/-! DEFINITION. The filter chain's and the metrology engines' computations (chapters 04 and 05): corrected samples, comparators,
the half-cycle RMS, the cycle's quantities, no-load, totals, accumulators, pulse scheduling, the frequency tracker. -/
namespace Sys2Proof.Machine

/-- Metrology runs: D1 and D2 powered, not frozen, the chain not stopped, the tracker not OFF. -/
def metroOn (s : State) : Bool :=
  domOn 1 s && domOn 2 s && !(flag F.NRG_STATUS_FROZEN s) && !(flag F.FLT_STATUS_STOPPED s) &&
    get F.FLT_STATUS_TRK_STATE s != 0

/-- The samples per cycle in force (R94). -/
def spc (s : State) : Nat := s.metro.spc

/-- Samples in a frame (R10). -/
def frameLen (s : State) : Nat := cyclesPerFrame s * spc s

/-- The correction of the temperature band in force for channel `n` (R78). -/
def bandCoef (n : Nat) (s : State) : Int × Int :=
  nth (0, 0) (nth [] s.ld.tables.metro.bands (get F.CNV_TEMP_BAND s)) n

/-- The coefficients of slice `sl` (R61). -/
def sliceCoef (sl : Nat) (s : State) : Int × Int × Int :=
  (getS (F.CNV_SLICE_CAL_GAIN sl) s, getS (F.CNV_SLICE_CAL_OFFSET sl) s, getS (F.CNV_SLICE_CFG_DELAY sl) s)

/-- The limit of R57 on a coherent sample. -/
def sampleLimit : Int := 9646899

/-- Full scale of a coherent sample (R104). -/
def fullScale : Int := 8388608

/-- The channel exceeds full scale (R57). -/
def overFull (x : Int) : Bool := decide (fullScale < x) || decide (x < -fullScale)

/-- Channel `n` has a Rogowski sensor. -/
def isRogowski (n : Nat) (s : State) : Bool := get (F.CNV_CHAN_CFG_SENSOR n) s = 3

/-- An overrange in the open window of channel `n` (R69): the window is opened again at the next frame boundary, three times at
most; the relief is abandoned after that. -/
def windowOver (n : Nat) (s : State) : State :=
  match s.conv.relief with
  | none => s
  | some r =>
    if r.chan ≠ n ∨ get F.CNV_STATUS_ROT_STATE s ≠ 2 then s
    else if r.restarts < 3 then
      put F.CNV_STATUS_ROT_STATE 1 { s with conv := { s.conv with relief := some { r with restarts := r.restarts + 1 } } }
    else raise F.CNV_CAUSE_ROT_SKIP (abandonRelief s)

/-- OVR (R57): the channel's bit, the cause, the frame's flag; an open window on the channel is restarted (R69). -/
def markOver (n : Nat) (s : State) : State :=
  let s := raise F.CNV_CAUSE_OVR (put (F.CNV_CHAN_CFG_OVR n) 1 s)
  windowOver n { s with en := { s.en with flags := withBit s.en.flags 9 }, spec := { s.spec with marks := withBit s.spec.marks 9 } }

/-- The trip condition of comparator `m` on a value in sample units (R100). -/
def winCond (m : Nat) (x : Int) (s : State) : Bool :=
  let lo := 512 * getS (F.FLT_WIN_THR_LO m) s
  let hi := 512 * getS (F.FLT_WIN_THR_HI m) s
  if flag (F.FLT_WIN_CFG_MODE m) s then decide (lo ≤ x) && decide (x ≤ hi) else decide (x < lo) || decide (hi < x)

/-- The release condition: the opposite one, tightened by HYST × 4 LSB (R100). -/
def winBack (m : Nat) (x : Int) (s : State) : Bool :=
  let h : Int := 512 * 4 * get (F.FLT_WIN_CFG_HYST m) s
  let lo := 512 * getS (F.FLT_WIN_THR_LO m) s
  let hi := 512 * getS (F.FLT_WIN_THR_HI m) s
  if flag (F.FLT_WIN_CFG_MODE m) s then decide (x < lo - h) || decide (hi + h < x)
  else decide (lo + h ≤ x) && decide (x ≤ hi - h)

/-- Comparator `m` is watching: enabled, the first valid frame begun, the chain running, its channel live (R101). -/
def winLive (m : Nat) (s : State) : Bool :=
  flag (F.FLT_WIN_CFG_EN m) s && framesRun s && !(flag F.FLT_STATUS_STOPPED s) &&
    !(deadChan (get (F.FLT_WIN_CFG_CHAN m) s) s)

/-- Count one value against comparator `m`: towards its trip while it is released, towards its release while it is tripped. -/
def winStep (m : Nat) (x : Int) (s : State) : State :=
  if !(winLive m s) then s
  else if flag (F.FLT_WIN_CFG_ACTIVE m) s then
    { s with metro := { s.metro with winBack := upd s.metro.winBack m fun c => if winBack m x s then c + 1 else 0 } }
  else
    { s with metro := { s.metro with winCount := upd s.metro.winCount m fun c => if winCond m x s then c + 1 else 0 } }

/-- The sample comparators (SRC 0 and 1) take the new sample (R100). -/
def winSamples (xs : List Int) (s : State) : State :=
  (List.range 16).foldl (fun s m =>
    let x := nth 0 xs (get (F.FLT_WIN_CFG_CHAN m) s)
    if get (F.FLT_WIN_CFG_SRC m) s = 0 then winStep m x s
    else if get (F.FLT_WIN_CFG_SRC m) s = 1 then winStep m x.natAbs s else s) s

/-- The half-cycle comparators (SRC 2) take the new half-cycle RMS (R100). -/
def winHalfCycles (s : State) : State :=
  (List.range 16).foldl (fun s m =>
    if get (F.FLT_WIN_CFG_SRC m) s = 2 then winStep m ((nth 0 s.metro.hcRms (get (F.FLT_WIN_CFG_CHAN m) s) : Nat) : Int) s else s) s

/-- Channel `c` of a window of samples. -/
def chanWin (w : List (List Int)) (c : Nat) : List Int := w.map fun x => nth 0 x c

/-- Sum of products of two windows. -/
def dot (a b : List Int) : Int := sumInt (List.zipWith (· * ·) a b)

/-- Sum of squares of a window. -/
def sumSq (a : List Int) : Nat := (dot a a).toNat

/-- The fundamental's sums over a window of whole cycles, newest first (R107): Σ x cos and −Σ x sin, the kernel's phase from
n mod S, in units of 2^-30. -/
def phasor (S : Nat) (w : List Int) : Int × Int :=
  w.reverse.zipIdx.foldl (fun a e => (a.1 + e.1 * Config.cosK S (e.2 % S), a.2 - e.1 * Config.sinK S (e.2 % S))) (0, 0)

/-- |z|² of a phasor. -/
def normSq (z : Int × Int) : Nat := (z.1 * z.1 + z.2 * z.2).toNat

/-- `PHE_SCALE_n`. -/
def scale (n : Nat) (s : State) : Nat := get (F.PHE_SCALE_SCALE n) s

/-- Whether phase `p` is measured under the wiring (R106). -/
def hasPhase (p : Nat) (s : State) : Bool :=
  get F.PHE_CFG_WIRING s = 2 || (get F.PHE_CFG_WIRING s = 1 && p = 0)

/-- The quarter-cycle sum Σ v[n − S/4] i[n] (R107): v taken S/4 samples earlier than i. -/
def quarterDot (S n : Nat) (hist : List (List Int)) (v i : Nat) : Int :=
  dot (chanWin ((hist.drop (S / 4)).take n) v) (chanWin (hist.take n) i)

/-- The values of one cycle of the pair (voltage channel `v`, current channel `i`) in 2^-40 µW (R107 to R109). In Pass, and in a
cycle without a full quarter-cycle history, Q1 stands for Q; in Pass the apparent powers are formed from the fundamental. -/
def phaseCycle (v i : Nat) (s : State) : PhaseCycle :=
  let S := spc s
  let w := s.metro.hist.take S
  let k : Int := scale v s * scale i s
  let a := phasor S (chanWin w v)
  let b := phasor S (chanWin w i)
  let p := quot (dot (chanWin w v) (chanWin w i) * k) (S * 2 ^ 6)
  let p1 := quot (2 * (a.1 * b.1 + a.2 * b.2) * k) (S * S * 2 ^ 66)
  let q1 := quot (2 * (a.2 * b.1 - a.1 * b.2) * k) (S * S * 2 ^ 66)
  let q := if inPass s || s.metro.freshCycle then q1 else quot (quarterDot S S s.metro.hist v i * k) (S * 2 ^ 6)
  let sApp := if inPass s then quot (2 * (root (normSq a * normSq b) : Int) * k) (S * S * 2 ^ 66)
    else quot ((root (sumSq (chanWin w v) * sumSq (chanWin w i)) : Int) * k) (S * 2 ^ 6)
  let vec := if inPass s then root (p1 * p1 + q1 * q1).toNat else root (p * p + q * q).toNat
  { p := p, q := q, p1 := p1, q1 := q1, s := sApp.toNat, vec := vec }

/-- The partial cycle of R398 after `n` samples: P and Q from the partial sums, every whole-cycle quantity from the last whole
cycle of the run; the vector apparent power from the partial P and Q, except in Pass. -/
def partialCycle (n v i : Nat) (lastC : PhaseCycle) (s : State) : PhaseCycle :=
  let k : Int := scale v s * scale i s
  let w := s.metro.hist.take n
  let p := quot (dot (chanWin w v) (chanWin w i) * k) (n * 2 ^ 6)
  let q := if inPass s || s.metro.freshCycle then lastC.q1 else quot (quarterDot (spc s) n s.metro.hist v i * k) (n * 2 ^ 6)
  { p := p, q := q, p1 := lastC.p1, q1 := lastC.q1, s := lastC.s,
    vec := if inPass s then lastC.vec else root (p * p + q * q).toNat }

/-- Σ of two phasors, each scaled by its channel's SCALE. -/
def addScaled (a : Int × Int) (ka : Nat) (b : Int × Int) (kb : Nat) : Int × Int := (a.1 * ka + b.1 * kb, a.2 * ka + b.2 * kb)

/-- The neutral mismatch of a cycle (R113) as (2|Δ|², the square of the denominator), both in the units of the scaled sums. -/
def mismatch (S : Nat) (w : List (List Int)) (s : State) : Nat × Nat :=
  let z (c : Nat) := addScaled (phasor S (chanWin w c)) (scale c s) (0, 0) 0
  let sum := if get F.PHE_CFG_WIRING s = 1 then z 3 else addScaled (addScaled (z 3) 1 (z 4) 1) 1 (z 5) 1
  let d := addScaled sum 1 ((z 6).1 * (-1), (z 6).2 * (-1)) 1
  let floorSq := (get F.PHE_NEUT_CFG_FLOOR s * 10 * w.length * 2 ^ 53) ^ 2
  let phases := if get F.PHE_CFG_WIRING s = 1 then [3, 6] else [3, 4, 5, 6]
  (2 * normSq d, (phases.map fun c => 2 * normSq (z c)).foldl max floorSq)

/-- The mismatch exceeds `PHE_NEUT_CFG.THR` (0.1 % per LSB). -/
def overMismatch (m : Nat × Nat) (s : State) : Bool := decide (get F.PHE_NEUT_CFG_THR s ^ 2 * m.2 < m.1 * 1000000)

/-- The energy in 2^-32 nWh of a power in 2^-40 µW over `n` samples at the step in force (R105). -/
def energyOf (n : Nat) (p : Int) (s : State) : Int := quot (p * n * get F.FLT_TRK_STEP_STEP s * 10) (36 * 2 ^ 47)

/-- A no-load decision (R116): `on` is the state before; the threshold in mW or mvar. -/
def noLoad (on : Bool) (x : Int) (thr : Nat) : Bool :=
  if on then decide (8 * x.natAbs < 9 * thr * 1000 * 2 ^ 40) else decide (x.natAbs < thr * 1000 * 2 ^ 40)

/-- The quadrant's index among j = 4 to 7 (R112). -/
def quadrant (p q : Int) : Nat := if 0 ≤ p then (if 0 ≤ q then 4 else 7) else (if 0 ≤ q then 5 else 6)

/-- Put a signed energy into import (index `j`) or export (`j` + 1). -/
def splitEnergy (j : Nat) (e : Int) : List (Nat × Nat) := if 0 ≤ e then [(j, e.toNat)] else [(j + 1, (-e).toNat)]

/-- A phase's increments of a cycle of `n` samples after no-load (R112, R116, R118). -/
def phaseIncs (n : Nat) (c : PhaseCycle) (act react : Bool) (s : State) : List (Nat × Nat) :=
  (if act then [] else splitEnergy 0 (energyOf n c.p s) ++ splitEnergy 2 (energyOf n c.p1 s)) ++
  (if react then [] else [(quadrant c.p c.q, (energyOf n c.q s).natAbs)]) ++
  (if act && react then [] else [(8, (energyOf n c.s s).toNat), (9, (energyOf n c.vec s).toNat)])

/-- Sum of the increments with index `j`. -/
def incAt (l : List (Nat × Nat)) (j : Nat) : Nat := sumNat ((l.filter fun e => e.1 == j).map (·.2))

/-- One phase's part in the totals: its cycle values, its increments and which of them no-load discarded. -/
structure PhasePart where
  c : PhaseCycle
  incs : List (Nat × Nat)
  act : Bool
  react : Bool
deriving DecidableEq, Repr

/-- The total set's increments (R111, R116, R118) from the phases. -/
def totalIncs (n : Nat) (ps : List PhasePart) (s : State) : List (Nat × Nat) :=
  let live := ps.filter fun x => !x.act
  let liveQ := ps.filter fun x => !x.react
  let pT := sumInt (live.map fun x => x.c.p)
  let p1T := sumInt (live.map fun x => x.c.p1)
  let qT := sumInt (liveQ.map fun x => x.c.q)
  let phases (j : Nat) := sumNat (ps.map fun x => incAt x.incs j)
  let mode := get F.PHE_CFG_TOTAL_MODE s
  let active :=
    if mode = 0 then splitEnergy 0 (energyOf n pT s) ++ splitEnergy 2 (energyOf n p1T s) ++
      [(quadrant pT qT, phases 4 + phases 5 + phases 6 + phases 7)]
    else if mode = 1 then [(0, phases 0 + phases 1), (2, phases 2 + phases 3), (4, phases 4), (5, phases 5),
      (6, phases 6), (7, phases 7)]
    else (List.range 8).map fun j => (j, phases j)
  active ++ [(8, phases 8), (9, (energyOf n (if inPass s then root (p1T * p1T + qT * qT).toNat else root (pT * pT + qT * qT).toNat) s).toNat)]

/-- Largest value of an accumulator with its fraction, plus one (R118, R119). -/
def accMod : Nat := 2 ^ 128

/-- Add an increment in 2^-32 nWh to accumulator `k`; a wrap of the 96-bit integer part sets `NRG_CAUSE.ACC_WRAP` (R119). -/
def accAdd (k e : Nat) (s : State) : State :=
  let v := nth 0 s.en.acc k + e
  raiseIf (decide (accMod ≤ v)) F.NRG_CAUSE_ACC_WRAP { s with en := { s.en with acc := upd s.en.acc k (fun _ => v % accMod) } }

/-- Energy of one pulse in 2^-32 nWh (R129). -/
def pulseThr (k : Nat) (s : State) : Nat :=
  let c := get (F.NRG_PULSE_CONST_CONST k) s
  if c = 0 then 0 else (nearest ((10 ^ 12 * 2 ^ 32 : Nat) : Int) c).toNat

/-- Place the edges that the residue crosses (R129): at most `fuel` of them. Times are in µs of the metrology clock, `t0` and
`tc` in 2^-24 input samples. -/
def placeEdges (thr e r0 t0 tc : Nat) : Nat → Nat → Nat → List Nat → Nat × List Nat
  | 0, _, resid, l => (resid, l)
  | fuel + 1, j, resid, l =>
    if thr ≤ resid then
      let t := (nearest (((t0 * e + (j * thr - r0) * tc) * 1000000 : Nat) : Int) (e * 2 ^ 39)).toNat + 30000
      placeEdges thr e r0 t0 tc fuel (j + 1) (resid - thr) (l ++ [t])
    else (resid, l)

/-- The metrology clock in µs. -/
def nowUs (s : State) : Nat := s.metro.clock * 1000000 / 2 ^ 39

/-- PULSE_SCHEDULE (R129): feed pulse channel `k` with the cycle's increments of all accumulators. -/
def pulseFeed (incs : List (Nat × Nat)) (t0 tc k : Nat) (s : State) : State :=
  let thr := pulseThr k s
  let e := incAt incs (get (F.NRG_PULSE_CFG_QTY k) s)
  if !(flag (F.NRG_PULSE_CFG_EN k) s) || flag F.NRG_STATUS_PULSE_IDLE s || thr = 0 || e = 0 then s
  else
    let p := nth ({} : PulseSt) s.en.pulses k
    let r := placeEdges thr e p.resid t0 tc ((p.resid + e) / thr) 1 (p.resid + e) []
    { s with en := { s.en with pulses := upd s.en.pulses k fun p => { p with
      resid := r.1, edges := p.edges ++ r.2, placed := p.placed ++ r.2.map fun _ => nowUs s } } }

/-- Phase `p` with its values decides no-load and forms its increments; `NRG_STATUS`, the causes and the frame's marks follow
(R116, R117). -/
def phasePart (n p : Nat) (c : PhaseCycle) (s : State) : PhasePart × State :=
  let was := fbit F.NRG_STATUS_NOLOAD_ACT p s
  let act := noLoad was c.p (get (F.NRG_CREEP_ACT p) s)
  let react := noLoad (fbit F.NRG_STATUS_NOLOAD_REACT p s) c.q (get (F.NRG_CREEP_REACT p) s)
  let s := putBit F.NRG_STATUS_NOLOAD_ACT p act (putBit F.NRG_STATUS_NOLOAD_REACT p react s)
  let s := raiseIf (act && !was) F.PHE_CAUSE_NOLOAD_ENTER (raiseIf (was && !act) F.PHE_CAUSE_NOLOAD_LEAVE s)
  let s := if act || react then { s with en := { s.en with
    flags := withBit s.en.flags 10, noloadFrame := withBit s.en.noloadFrame p } } else s
  ({ c := c, incs := phaseIncs n c act react s, act := act, react := react }, s)

/-- Register the energies of a cycle of `n` samples whose phase values are `cs`: no-load, accumulators, totals, pulses. -/
def registerCycle (n : Nat) (cs : List (Nat × PhaseCycle)) (s : State) : State :=
  let r := cs.foldl (fun (a : List (Nat × PhasePart) × State) e =>
    let q := phasePart n e.1 e.2 a.2
    (a.1 ++ [(e.1, q.1)], q.2)) ([], s)
  let s := r.2
  let all := (r.1.flatMap fun e => e.2.incs.map fun i => (10 * e.1 + i.1, i.2)) ++
    (totalIncs n (r.1.map (·.2)) s).map fun i => (30 + i.1, i.2)
  let s := all.foldl (fun s i => accAdd i.1 i.2 s) s
  let tc := n * get F.FLT_TRK_STEP_STEP s
  (List.range 4).foldl (fun s k => pulseFeed all (s.metro.clock - tc) tc k s) s

/-- The values each measured phase registers (R114): under WIRING 1 with BILL_LARGER, IN in place of IA when the cycle's mismatch
exceeds THR and |I_N1| exceeds |I_A1|. -/
def billedCycles (S : Nat) (w : List (List Int)) (m : Nat × Nat) (cs : List (Nat × PhaseCycle)) (inC : PhaseCycle) (s : State) :
    List (Nat × PhaseCycle) :=
  let larger := normSq (phasor S (chanWin w 3)) * scale 3 s ^ 2 < normSq (phasor S (chanWin w 6)) * scale 6 s ^ 2
  if get F.PHE_CFG_WIRING s = 1 ∧ flag F.PHE_CFG_BILL_LARGER s ∧ overMismatch m s ∧ larger then [(0, inC)] else cs

/-- The phases measured. -/
def phases (s : State) : List Nat := (List.range 3).filter fun p => hasPhase p s

/-- The reverse-energy counts of R115 take the cycle's P; the line is released after REV_PERSIST cycles with P ≥ 0. -/
def reverseCount (p : Nat) (c : PhaseCycle) (s : State) : State :=
  let thr : Int := get F.PHE_TAMP_CFG_REV_THR s * 1000000 * 2 ^ 40
  let s := { s with en := { s.en with
    revCount := upd s.en.revCount p fun k => if c.p < -thr then k + 1 else 0,
    fwdCount := upd s.en.fwdCount p fun k => if 0 ≤ c.p then k + 1 else 0 } }
  if bit s.en.revOn p ∧ get F.PHE_TAMP_CFG_REV_PERSIST s ≤ nth 0 s.en.fwdCount p then
    let s := { s with en := { s.en with revOn := noBit s.en.revOn p } }
    if s.en.revOn = 0 then releaseProducer 8 s else s
  else s

/-- The reference's fundamental lies below 20 % of nominal (R95), for voltage channel `c` over the window. -/
def fundLow (S : Nat) (w : List (List Int)) (c : Nat) (s : State) : Bool :=
  decide (2 * normSq (phasor S (chanWin w c)) * scale c s ^ 2 < (2 * get F.PHE_CFG_VNOM s) ^ 2 * S ^ 2 * 2 ^ 106)

/-- A voltage channel qualifies as a reference (R97) on the last cycle, of `S` samples. -/
def qualifiesOn (S c : Nat) (s : State) : Bool := !(idleChan c s) && !(fundLow S (s.metro.hist.take S) c s)

/-- It qualifies at a frame boundary, on the last cycle of the frame that has ended. -/
def qualifies (c : Nat) (s : State) : Bool := qualifiesOn s.metro.endedSpc c s

/-- The step for a frequency in µHz and S samples per cycle, in 8.24 (R94). -/
def stepFor (f S : Nat) : Nat := if f * S = 0 then 0 else (nearest ((32768 * 2 ^ 24 * 1000000 : Nat) : Int) (f * S)).toNat

/-- Put the tracker into a state (R95), with the causes of entering it. -/
def setTracker (st : Nat) (s : State) : State :=
  let old := get F.FLT_STATUS_TRK_STATE s
  let s := put F.FLT_STATUS_COHERENT (b2n (st = 2 || st = 3)) (put F.FLT_STATUS_TRK_STATE st s)
  if st = old then s
  else
    let s := raiseIf (st = 2) F.FLT_CAUSE_LOCK (raiseIf (st = 3) F.FLT_CAUSE_HOLD (raiseIf (st = 4) F.FLT_CAUSE_COAST
      (raiseIf (st = 5) F.FLT_CAUSE_OUT_OF_RANGE (raiseIf (old = 2 && st = 1) F.FLT_CAUSE_LOCK_LOST s))))
    { s with metro := { s.metro with everLocked := s.metro.everLocked || st == 2 } }

/-- The frame's flags for the tracker state in force (R123). -/
def trackerFlags (s : State) : State :=
  let st := get F.FLT_STATUS_TRK_STATE s
  let fl := s.en.flags
  let fl := if st = 4 ∨ st = 5 then withBit fl 0 else fl
  let fl := if st = 1 ∧ s.metro.everLocked then withBit fl 1 else fl
  { s with en := { s.en with flags := if st = 3 then withBit fl 2 else fl } }

/-- Set f_grid and the step that follows from it. DESIGN CHOICE: f_grid is held in whole µHz (log 42). -/
def setGrid (f : Nat) (s : State) : State :=
  put F.FLT_TRK_STEP_STEP (stepFor f (spc s)) (put F.FLT_TRK_FREQ_FREQ f { s with metro := { s.metro with fGrid := f } })

/-- TRACKER_UPDATE (R95): the loop run at the last sample of every cycle. Slips are in 2^-32 cycle. The first cycle on a reference has
no earlier phase: it gives none, and the step stands (log 16). What puts it into HOLD is what HOLD_MAX is judged by (log 42). -/
def trackerUpdate (s : State) : State :=
  let S := spc s
  let w := s.metro.hist.take S
  let ref := get F.FLT_STATUS_TRK_REF s
  let z := phasor S (chanWin w ref)
  let now := Config.angle z.1 z.2
  let slip := match s.metro.phasePrev with
    | none => 0
    | some p => signed 32 (wrapTo 32 (now - p))
  let jit := (slip - s.metro.slipPrev).natAbs
  let st := get F.FLT_STATUS_TRK_STATE s
  let low := fundLow S w ref s
  let jumpy := decide (get F.FLT_TRK_CTL_JIT_LIM s * 2 ^ 32 < jit * 1000)
  let s := { s with metro := { s.metro with cleanCycle := !low && !jumpy } }
  let s :=
    if st = 3 ∨ st = 4 then { s with metro := { s.metro with slow := 0 } }
    else if low || (st = 2 && jumpy) then setTracker 3 { s with metro := { s.metro with holdLow := low } }
    else if s.metro.phasePrev.isNone then s
    else
      let g := if st = 2 then 2 ^ (get F.FLT_TRK_CTL_GAIN s + 1) else 1
      let f := (s.metro.fGrid : Int) + quot (s.metro.fGrid * slip) (2 ^ 32 * g)
      let fc := clampInt 45000000 66000000 f
      let slow := if st = 2 ∧ 2 ^ 32 < slip.natAbs * 100 then s.metro.slow + 1 else 0
      let s := { s with metro := { s.metro with slow := slow } }
      let s := if f ≠ fc then setTracker 5 s
        else if st = 1 ∧ slip.natAbs * 2000 < 2 ^ 32 ∧ s.metro.slipPrev.natAbs * 2000 < 2 ^ 32 then setTracker 2 s
        else if st = 5 then setTracker 1 s
        else if st = 2 ∧ 3 ≤ slow then setTracker 1 s
        else s
      setGrid fc.toNat s
  let s := { s with metro := { s.metro with slipPrev := slip, phasePrev := some now } }
  trackerFlags (put F.FLT_TRK_PHASE_PHASE (wrapTo 32 now / 2 ^ 16) s)

/-- The half-cycle RMS of every channel over one cycle of S samples, in sample units (R100); given from one full cycle after an
epoch that restarts the window. DESIGN CHOICE: it is the whole part of the root (log 42). -/
def refreshHalfCycle (s : State) : State :=
  let S := spc s
  if s.metro.hcAge < S then { s with metro := { s.metro with hcValid := false } }
  else
    let rms := (List.range 8).map fun c => isqrt (sumSq (chanWin (s.metro.hist.take S) c) / S)
    { s with metro := { s.metro with hcValid := true, hcRms := rms } }

/-- The voltage channels that are live. -/
def liveVolts (s : State) : List Nat := (List.range 3).filter fun c => !(deadChan c s)

/-- The half-cycle RMS of a voltage channel lies below 60 % of VNOM (R126). -/
def belowSixty (c : Nat) (s : State) : Bool :=
  decide (nth 0 s.metro.hcRms c * scale c s < 6 * get F.PHE_CFG_VNOM s * 2 ^ 23)

end Sys2Proof.Machine
end

