-- ==== Sys2Proof/Machine/Chain.lean ====
section
/-! DEFINITION. The filter chain (chapter 04): the CIC decimators, the compensation responses, the Rogowski integrators, the fractional
resampler with its delays, and the corrections that make a coherent sample. -/
namespace Sys2Proof.Machine

/-- One input through the integrators (R84): their new contents and the last one's value. -/
def integrate (d : Nat) : List Nat → List Nat × Nat
  | [] => ([], d)
  | r :: t => let v := (r + d) % 2 ^ 36; let q := integrate v t; (v :: q.1, q.2)

/-- One value through the combs (R84): their new contents and the output. -/
def comb (x : Nat) : List Nat → List Nat × Nat
  | [] => ([], x)
  | r :: t => let q := comb ((x + 2 ^ 36 - r) % 2 ^ 36) t; (x :: q.1, q.2)

/-- d = 2c − 7 modulo 2^36 (R84). -/
def modCode (c : Nat) : Nat := wrapTo 36 (2 * ((c % 8 : Nat) : Int) - 7)

/-- y24 (R85): the comb output times 2^(20 − 6N), rounded to nearest with ties upward. -/
def y24 (order y : Nat) : Int :=
  let v := signed 36 y
  if order = 3 then v * 4 else if order = 4 then (v + 8) / 16 else (v + 512) / 1024

/-- CIC outputs that a path keeps: those of the longest response, and of the raw tap's reach before it. -/
def cicKept : Nat := 192

/-- 64 modulator codes through the path's CIC of order `order` (R84). -/
def cicStep (order : Nat) (codes : List Nat) (p : SlicePath) : SlicePath :=
  let a := codes.foldl (fun (a : List Nat × Nat) c => integrate (modCode c) a.1) (p.ints.take order, 0)
  let b := comb a.2 (p.combs.take order)
  { ints := a.1 ++ p.ints.drop order, combs := b.1 ++ p.combs.drop order, cic := (y24 order b.2 :: p.cic).take cicKept }

/-- The CIC order of a channel's group (R83, R90): `FLT_GROUP_CFG` codes 0 to 2 for orders 3 to 5; 4 in legacy mode. -/
def cicOrder (ch : Nat) (s : State) : Nat :=
  if flag F.FLT_CTL_LEGACY s then 4
  else 3 + get (if ch < 3 then F.FLT_GROUP_CFG_CIC_V else if ch < 6 then F.FLT_GROUP_CFG_CIC_I else F.FLT_GROUP_CFG_CIC_NX) s

/-- The legacy coefficients (R90). -/
def legacyCoefs (s : State) : List Int := (List.range 128).map fun k => getS (F.FLT_LEGACY_COEF_COEF k) s

/-- The taps of the ROM responses (R86). -/
def responseTaps : List Nat := [127, 95, 63, 47, 31, 64, 48, 32, 24, 127, 63, 47, 31, 48, 32, 24]

/-- The coefficients of channel `ch`'s compensation response, in units of 2^-22, for the newest CIC output first (R86, R90). The
ROM's numbers are free (log 5). -/
def responseCoefs (ch : Nat) (s : State) : List Int :=
  if flag F.FLT_CTL_LEGACY s then legacyCoefs s
  else
    let r := get (F.FLT_CHAN_CFG_RESP ch) s
    (List.range (nth 0 responseTaps r)).map fun k => Config.romTap (cicOrder ch s) r k

/-- The group delays in ns of the ROM responses (R86). -/
def responseDelays : List Nat :=
  [961300, 717200, 473000, 351000, 228900, 137300, 106800, 91600, 76300, 961300, 473000, 351000, 228900, 106800, 91600, 76300]

/-- The fixed delay of channel `n` in ns (R89, R90), with the integrator's delay of the table of stages. DESIGN CHOICE: at a 60 Hz nominal
a minimum-phase response has the delay of 50 Hz, from which it differs by less than 0.2 µs (log 42). -/
def fixedDelay (n : Nat) (s : State) : Int :=
  let cic : Int := 7510 * (cicOrder n s : Nat)
  if flag F.FLT_CTL_LEGACY s then cic + (get F.FLT_LEGACY_CFG_DELAY s : Nat)
  else
    let resp : Int := (nth 0 responseDelays (get (F.FLT_CHAN_CFG_RESP n) s) : Nat)
    cic + resp + (if isRogowski n s then (if flag F.PHE_FRAME_POS_NOMINAL s then 4400 else 6400) else 0)

/-- A compensation FIR's output from the CIC outputs, newest first. -/
def firOut (ch : Nat) (cic : List Int) (s : State) : Int := quot (dot (responseCoefs ch s) cic) (2 ^ 22)

/-- The state of slice `sl`'s path. -/
def pathOf (sl : Nat) (s : State) : SlicePath := nth {} s.metro.paths sl

/-- The channel whose order and response slice `sl`'s path runs: the one it serves or joins (R83). -/
def pathChan (sl : Nat) (s : State) : Nat := get (F.CNV_SLICE_CFG_CHAN sl) s

/-- One period of the 32.768 kS/s stream on every slice's path: two CIC outputs each (R84, R86). -/
def pathsTake (codes : List (List Nat)) (s : State) : State :=
  let path (sl : Nat) : SlicePath :=
    let c := nth [] codes sl
    let order := cicOrder (pathChan sl s) s
    cicStep order ((c.drop 64).take 64) (cicStep order (c.take 64) (pathOf sl s))
  { s with metro := { s.metro with paths := (List.range 10).map path } }

/-- The Rogowski integrator (R88): a leaky integrator with its pole at 0.1 Hz, unity at the nominal frequency. Its state is held in
units of 2^-24 of a sample's; the leak, 2π · 0.1 / 32 768, in units of 2^-40 is free (log 5). -/
def leaky (y x : Int) (s : State) : Int :=
  y + quot (Config.rogLeak * ((if flag F.PHE_FRAME_POS_NOMINAL s then 600 else 500) * x * 2 ^ 24 - y)) (2 ^ 40)

/-- Inputs that a resampler holds (R93). -/
def inputKept : Nat := 256

/-- The fixed-rate value of slice `sl`'s path for channel `n`. -/
def fixedRate (n sl : Nat) (s : State) : Int := firOut n (pathOf sl s).cic s

/-- One period of the fixed-rate stream enters the channels' integrators and resamplers, and those of the slice that joins (R88,
R93). -/
def inputPeriod (codes : List (List Nat)) (s : State) : State :=
  let s := pathsTake codes s
  let raw := (List.range 8).map fun n => if deadChan n s then 0 else fixedRate n (sliceOf n s) s
  let integ := raw.zipIdx.map fun e => if isRogowski e.2 s then leaky (nth 0 s.metro.integ e.2) e.1 s else 0
  let xs := raw.zipIdx.map fun e => if isRogowski e.2 s then quot (nth 0 integ e.2) (2 ^ 24) else e.1
  let s := { s with metro := { s.metro with
    integ := integ
    inputs := (List.range 8).map fun n => (nth 0 xs n :: nth [] s.metro.inputs n).take inputKept } }
  match s.conv.relief with
  | none => s
  | some r =>
    let x := fixedRate r.chan r.new s
    let j := if isRogowski r.chan s then leaky s.metro.joinInteg x s else 0
    let y := if isRogowski r.chan s then quot j (2 ^ 24) else x
    { s with metro := { s.metro with joinInteg := j, joined := (y :: s.metro.joined).take inputKept } }

/-- The inputs in hand after the one at which the resampler's position stands: they cover the largest negative delay of R99 (log 5). -/
def leadInputs : Nat := 9

/-- Inputs taken while the filters fill (20 ms, R91), and the lead. -/
def fillInputs : Nat := 655 + leadInputs + 1

/-- The periods of the fixed-rate stream up to the next output (R94). -/
def periodsDue (s : State) : Nat :=
  (s.metro.clock + get F.FLT_TRK_STEP_STEP s) / 2 ^ 24 - s.metro.clock / 2 ^ 24 + (if s.metro.filled then 0 else fillInputs)

/-- The 128 codes of period `k` of each slice. -/
def periodCodes (codes : List (List Nat)) (k : Nat) : List (List Nat) := codes.map fun c => (c.drop (128 * k)).take 128

/-- The fixed-rate stream advances to the next output. Periods for which no code is given are not taken (log 5). -/
def takeInputs (codes : List (List Nat)) (s : State) : State :=
  let given := (codes.map (·.length)).foldl max 0 / 128
  let s := (List.range (min (periodsDue s) given)).foldl (fun s k => inputPeriod (periodCodes codes k) s) s
  { s with metro := { s.metro with filled := true } }

/-- `step` times the prototype's value `d`/`step` output periods after an input (R93): 1 024 phases of 16 taps, linear between adjacent
phases. The prototype, in units of 2^-24, is free (log 5). -/
def prototype (step : Nat) (d : Int) : Int :=
  if d < 0 ∨ 16 * step ≤ d then 0
  else
    let u := d.toNat * 1024
    let r : Int := (u % step : Nat)
    Config.proto (u / step) * (step - r) + Config.proto (u / step + 1) * r

/-- The resampler's output (R93) at a position `frac` (2^-24 of an input) past an input that has `leadInputs` after it, for a delay in
2^-24 of an input; the inputs newest first. The gain is scaled by 1/step. -/
def resample (step frac : Nat) (delay : Int) (xs : List Int) : Int :=
  quot (sumInt (xs.zipIdx.map fun e =>
    e.1 * prototype step (frac + ((e.2 : Nat) - (leadInputs : Nat) : Int) * 2 ^ 24 - delay))) (step ^ 2)

/-- The delay in ns applied to channel `n` under slice `sl` (R66, R89, R99): the slice's, the channel's and the alignment, with the
band's phase correction (R78; as a time, log 5). -/
def totalDelay (n sl : Nat) (s : State) : Int :=
  (sliceCoef sl s).2.2 + signed 19 (nth (0, 0, 0) s.conv.inForce n).2.2 + (get (F.FLT_CHAN_CFG_ALIGN n) s : Nat) + (bandCoef n s).2

/-- The corrections of the slice, the channel and the band (R61, R78): gains multiply, offsets add. Full scale of the fixed-rate
stream, 5.25 · 2^20 (R85), becomes 2^23 (R104). -/
def corrected (y : Int) (sl : Int × Int × Int) (ch : Nat × Nat × Nat) (band : Int × Int) : Int :=
  let x := quot (y * 32 * (1000000 + sl.1)) (21 * 1000000) + 8 * sl.2.1
  quot (x * ch.1 * (1000000 + band.1)) (2 ^ 22 * 1000000) + signed 24 ch.2.1

/-- The unlimited coherent value of channel `n` from the inputs of slice `sl`'s path. -/
def linearSample (n sl : Nat) (xs : List Int) (s : State) : Int :=
  let step := get F.FLT_TRK_STEP_STEP s
  let y := resample step ((s.metro.clock + step) % 2 ^ 24) (quot (totalDelay n sl s * 2 ^ 39) (10 ^ 9)) xs
  corrected y (sliceCoef sl s) (nth (0, 0, 0) s.conv.inForce n) (bandCoef n s)

/-- The coherent sample of channel `n` (R57, R104): 0 for a dead channel, else the corrected value within ±9 646 899. -/
def coherent (n : Nat) (s : State) : Int :=
  if deadChan n s then 0
  else clampInt (-sampleLimit) sampleLimit (linearSample n (sliceOf n s) (nth [] s.metro.inputs n) s)

end Sys2Proof.Machine
end

