-- ==== Sys2Proof/Machine/Converter.lean ====
section
/-! DEFINITION. The converter slices' commands (chapter 03): relief, comparison, calibration, raw tap, auxiliary SAR, temperature
bands, factory calibration. -/
namespace Sys2Proof.Machine

/-- The conditions of a legal change (R237): a METROLOGY session is open and `CAL_EN` reads high. -/
def legalOk (s : State) : Bool := flag F.OBJ_STATUS_LEGAL_SESSION s && flag F.OBJ_STATUS_CAL_EN s

/-- RELIEF_TIME (R64, R65): a period after the last relief time a relief falls due, while `ROT_EN` is 1 and a relief is allowed. The
schedule moves on by whole periods, whether or not the relief is deferred. -/
def execReliefTime (s : State) : Out :=
  onlyIf (flag F.CNV_CTL_ROT_EN s && reliefAllowed s && periodSince s.conv.rotAt s) (fun s =>
    let p := (rotPeriod s).getD 1 * 2 ^ 39
    rotate { s with conv := { s.conv with rotAt := s.conv.rotAt + (s.metro.clock - s.conv.rotAt) / p * p } }) s

/-- A slice has become a ready spare: a channel whose slice is lasting takes it (R72), else what waits for a spare starts (R65,
R68). -/
def markReady (sl : Nat) (s : State) : State :=
  let stamp := s.conv.readyStamp + 1
  let s := { s with conv := { s.conv with
    readyStamp := stamp, readyAt := upd s.conv.readyAt sl (fun _ => stamp), waitCal := noBit s.conv.waitCal sl } }
  startWaiting (assignSwaps (showSpares (put (F.CNV_SLICE_CFG_ROLE sl) 1 (put (F.CNV_SLICE_CFG_READY sl) 1 s))))

/-- A write of `CNV_CTL`: a PERIOD of 1 or above 600 drops it; RELIEVE_NOW asks for a relief of RELIEVE_CHAN, refused while a
relief runs or can not start (R64, R69). -/
def cnvCtlWrite (w : Word) (s : State) : State :=
  let p := arg F.CNV_CTL_PERIOD w
  if p = 1 ∨ 600 < p then raise F.CNV_CAUSE_CFG_REFUSED s
  else
    let s := plainWrite R.CNV_CTL w s
    let busy := s.conv.relief.isSome || s.conv.calOf.any (fun r => !r.alone)
    let s := if busy then s else idleRotation s
    if arg F.CNV_CTL_RELIEVE_NOW w = 0 then s
    else
      let ch := arg F.CNV_CTL_RELIEVE_CHAN w
      match choiceSpare s with
      | some sb => if busy || !(reliefAllowed s) || deadChan ch s then raise F.CNV_CAUSE_RELIEVE_REFUSED s else startRelief ch sb s
      | none => raise F.CNV_CAUSE_RELIEVE_REFUSED s

/-- RELIEVE_NOW (R69). -/
def execRelieveNow (m : Master) (w : Word) (s : State) : Out := cmdWrite m R.CNV_CTL (cnvCtlWrite w) s

/-- The gain check of R67: the ratio of Sb's to Sa's RMS lies within `lim` ppm of 1. -/
def gainPlausible (r : Relief) (lim : Nat) : Bool :=
  decide ((1000000 - lim) ^ 2 * r.saa ≤ 10 ^ 12 * r.sbb) && decide (10 ^ 12 * r.sbb ≤ (1000000 + lim) ^ 2 * r.saa)

/-- The difference of fundamental phase between the streams exceeds the limit in ns (R67): the angle of A·conj(B) as a part of the
period of f_grid. -/
def delayBeyond (r : Relief) (lim : Nat) (s : State) : Bool :=
  let turn := Config.angle (r.reA * r.reB + r.imA * r.imB) (r.imA * r.reB - r.reA * r.imB)
  decide (lim * 2 ^ 32 * s.metro.fGrid < turn.natAbs * 10 ^ 15)

/-- n² times the mean square of the sample difference once gain, delay and offset are matched (R67), from the window's sums: the
means are taken out, Sb's stream is scaled to Sa's RMS, and the fundamentals are brought into phase (log 43). -/
def residualSq (r : Relief) : Int :=
  let va : Int := r.n * r.saa - r.sa * r.sa
  let vb : Int := r.n * r.sbb - r.sb * r.sb
  let re := r.reA * r.reB + r.imA * r.imB
  let mag : Int := root ((r.reA * r.reA + r.imA * r.imA) * (r.reB * r.reB + r.imB * r.imB)).toNat
  let cov := r.n * r.sab - r.sa * r.sb + quot (2 * (mag - re)) (2 ^ 60)
  if va ≤ 0 ∨ vb ≤ 0 then va + vb
  else 2 * va - 2 * (if 0 ≤ cov then 1 else -1) * rootQ (va * cov * cov).toNat vb.toNat

/-- The checks of R67 that fail: bit 0 gain, 1 delay, 2 offset, 3 residual. -/
def failedChecks (r : Relief) (s : State) : Nat :=
  b2n (r.gainSeen && !(gainPlausible r (get F.CNV_PLAUS_LIM_0_GAIN s))) +
  2 * b2n (r.delaySeen && delayBeyond r (get F.CNV_PLAUS_LIM_0_DELAY s) s) +
  4 * b2n (decide (get F.CNV_PLAUS_LIM_1_OFS s * r.n * 2 ^ 23 < (r.sa - r.sb).natAbs * 100000)) +
  8 * b2n (decide (((get F.CNV_PLAUS_LIM_1_RESID s * 2 ^ 23 * r.n) ^ 2 : Nat) < residualSq r * 10 ^ 10))

/-- SPLICE_WINDOW_CLOSE (R67): 64 cycles after the window opened the comparison closes with its verdict. -/
def execSpliceWindowClose (s : State) : Out :=
  match s.conv.relief with
  | none => .next s
  | some r =>
    if get F.CNV_STATUS_ROT_STATE s ≠ 2 ∨ r.cycles < 64 then .next s
    else
      let f := failedChecks r s
      let s := { s with conv := { s.conv with relief := some { r with closed := true, failed := f } } }
      let s := put F.CNV_SPLICE_RES_CHAN r.chan (put F.CNV_SPLICE_RES_OLD r.old (put F.CNV_SPLICE_RES_NEW r.new s))
      let s := put F.CNV_SPLICE_RES_GAIN_ASSESSED (b2n r.gainSeen) (put F.CNV_SPLICE_RES_DELAY_ASSESSED (b2n r.delaySeen) s)
      .next (put F.CNV_SPLICE_RES_FAILED f (put F.CNV_SPLICE_RES_RESTARTS r.restarts (put F.CNV_STATUS_ROT_STATE 3 s)))

/-- SLICE_OFFSET_DONE (R63): the offset measured on shorted inputs is kept and the slice moves to the chopped reference. -/
def execSliceOffsetDone (offset : Int) (s : State) : Out :=
  onlyIf (s.conv.calOf.isSome && s.conv.calStep == 1 && domOn 1 s)
    (fun s => { s with conv := { s.conv with calStep := 2, calOffset := offset } }) s

/-- A measured gain or offset inside the trim range (R69). -/
def inTrim (x : Int) : Bool := decide (-32767 ≤ x) && decide (x ≤ 32767)

/-- The drift check of R68: new coefficients against those of the last takeover, with the gain, delay and offset limits of R67. -/
def driftOk (new old : Int × Int × Int) (s : State) : Bool :=
  decide ((new.1 - old.1).natAbs ≤ get F.CNV_PLAUS_LIM_0_GAIN s) &&
  decide ((new.2.1 - old.2.1).natAbs * 100000 ≤ get F.CNV_PLAUS_LIM_1_OFS s * 2 ^ 20) &&
  decide ((new.2.2 - old.2.2).natAbs ≤ get F.CNV_PLAUS_LIM_0_DELAY s)

/-- Store a slice's new coefficients in the registers and the keep record (R62). DESIGN CHOICE: a delay beyond the ±2 047 ns of R66
wraps in the register's 12 bits and stands whole in the record (log 42). -/
def storeCoefs (sl : Nat) (c : Int × Int × Int) (s : State) : State :=
  let s := putS (F.CNV_SLICE_CAL_GAIN sl) c.1 (putS (F.CNV_SLICE_CAL_OFFSET sl) c.2.1 (putS (F.CNV_SLICE_CFG_DELAY sl) c.2.2 s))
  writeKeep (fun k => { k with slices := upd k.slices sl (fun _ => c) }) s

/-- A failed case of R68: RESULT, the cause, one occurrence against slice `sl`. -/
def spliceFault (result sl : Nat) (s : State) : State :=
  occurrence sl 0 0 (raise F.CNV_CAUSE_SPLICE_FAIL (put F.CNV_SPLICE_RES_RESULT result s))

/-- A slice is a ready spare at the end of its calibration, unless its counter retired it. -/
def readyUnlessRetired (sl : Nat) (s : State) : State := if fbit F.CNV_RETIRED_SLICE sl s then s else markReady sl s

/-- The fault of a window whose relieved slice has not drifted lies with Sb (R68): the channel is owed a relief with Sa as its
spare, or, when the occurrence made Sb lasting, Sa takes the channel back at the next epoch (R72). -/
def blameNew (r : Relief) (s : State) : State :=
  let s := spliceFault 2 r.new (showSpares (put (F.CNV_SLICE_CFG_ROLE r.old) 1 (put (F.CNV_SLICE_CFG_READY r.old) 1 s)))
  let s := readyUnlessRetired r.old s
  if bit s.conv.doomed r.new && sliceOf r.chan s == r.new then
    if s.conv.swaps.any (fun e => e.2 == r.old) then s
    else { s with conv := { s.conv with swaps := s.conv.swaps.map fun e => if e.1 = r.chan then (r.chan, r.old) else e } }
  else if sliceOf r.chan s == r.new then startWaiting { s with conv := { s.conv with again := some (r.chan, r.old) } }
  else s

/-- Step 8 of a relief whose slice could be calibrated (R68): the drift check decides whom a fault is counted against. -/
def attributeFault (r : Relief) (drifted : Bool) (s : State) : State :=
  if drifted then readyUnlessRetired r.old (spliceFault (if r.failed = 0 then 0 else 1) r.old s)
  else if r.failed ≠ 0 then blameNew r s
  else markReady r.old (put F.CNV_SPLICE_RES_RESULT 0 s)

/-- Calibration is impossible (R69): one occurrence against the slice, which stays not ready and is calibrated again a rotation
period later. A failed window was the fault of that slice (log 43). -/
def calibrationFails (r : Relief) (s : State) : State :=
  let s := put (F.CNV_SLICE_CFG_ROLE r.old) 1 (put (F.CNV_SLICE_CFG_READY r.old) 0 { s with conv := { s.conv with
    waitCal := withBit s.conv.waitCal r.old, waitAt := upd s.conv.waitAt r.old (fun _ => s.metro.clock) } })
  let s := if r.alone then s else put F.CNV_SPLICE_RES_RESULT (b2n (decide (r.failed ≠ 0))) s
  occurrence r.old 0 0 (raise F.CNV_CAUSE_CAL_FAIL (raiseIf (decide (r.failed ≠ 0)) F.CNV_CAUSE_SPLICE_FAIL s))

/-- Step 8 of a relief (R65, R68, R69), and the end of a calibration on its own (R72, R73): the measured coefficients are stored and
the slice becomes a ready spare, or the calibration is impossible. -/
def calibrated (r : Relief) (c : Int × Int × Int) (s : State) : State :=
  let s := { s with conv := { s.conv with calOf := none, calStep := 0 } }
  let s := if s.conv.relief.isSome then s else idleRotation s
  if !(inTrim c.1) || !(inTrim c.2.1) then calibrationFails r s
  else
    let drifted := !(driftOk c (nth (0, 0, 0) s.conv.lastTaken r.old) s)
    let s := storeCoefs r.old c s
    if r.alone then markReady r.old s else attributeFault r drifted s

/-- SLICE_CALIBRATION (R68). -/
def execSliceCalibration (gain delay : Int) (s : State) : Out :=
  match s.conv.calOf with
  | none => .next s
  | some r => onlyIf (s.conv.calStep == 2 && domOn 1 s) (calibrated r (gain, s.conv.calOffset, delay)) s

/-- A spare that is not ready may go on the calibration source: at once, or a rotation period after a calibration that was
impossible (R69). -/
def mayCalibrate (sl : Nat) (s : State) : Bool :=
  !(flag (F.CNV_SLICE_CFG_READY sl) s) && (!(bit s.conv.waitCal sl) || periodSince (nth 0 s.conv.waitAt sl) s)

/-- STANDBY_CALIBRATION (R73, R69): a spare that is not ready, else the lone standby once per rotation period, goes on the
calibration source. -/
def execStandbyCalibration (s : State) : Out :=
  if s.conv.calOf.isSome || !(domOn 1 s) then .next s
  else
    let idle := (spares s).filter fun sl => get (F.CNV_SLICE_CFG_ROLE sl) s == 1 && !(promised sl s)
    match idle.find? fun sl => mayCalibrate sl s with
    | some sl => .next (toSource sl s)
    | none => match idle with
      | sl :: _ => onlyIf (get F.CNV_STATUS_RETIRED_N s == 1 && flag (F.CNV_SLICE_CFG_READY sl) s && periodSince s.conv.standbyAt s)
          (fun s => toSource sl { s with conv := { s.conv with standbyAt := s.metro.clock } }) s
      | [] => .next s

/-- OVERLOAD_MONITOR (R71): a live slice held at an extreme code counts one occurrence; when that makes it lasting the frame
carries CONV_FAULT, and `HARD_FAULT` is set when a ready spare takes the channel. -/
def execOverloadMonitor (slice : Nat) (s : State) : Out :=
  onlyIf (domOn 1 s && (chanOf slice s).isSome && !(fbit F.CNV_RETIRED_SLICE slice s) && decide (slice < 10)) (fun s =>
    let was := bit s.conv.doomed slice
    let s := occurrence slice 0 0 s
    if bit s.conv.doomed slice && !was then
      raiseIf (s.conv.swaps.any fun e => sliceOf e.1 s == slice) F.CNV_CAUSE_HARD_FAULT
        { s with en := { s.en with flags := withBit s.en.flags 4 } }
    else s) s

/-- A write of `CNV_TAP_CFG` (R75). -/
def tapCfgWrite (w : Word) (s : State) : State :=
  if (arg F.CNV_TAP_CFG_MODE w = 1 ∧ arg F.CNV_TAP_CFG_DEST w = 0) ∨
     (arg F.CNV_TAP_CFG_DEST w = 1 ∧ (share 2 s).2 = 0) then raise F.CNV_CAUSE_CFG_REFUSED s
  else plainWrite R.CNV_TAP_CFG w s

/-- TAP_CFG_WRITE (R74, R151): MODE 1 into the register FIFO, or the raw-tap share when it has size 0, drops the write. -/
def execTapCfgWrite (m : Master) (w : Word) (s : State) : Out := cmdWrite m R.CNV_TAP_CFG (tapCfgWrite w) s

/-- The slice a tap watches (R74): the selected slice, or the one that serves the selected channel. -/
def tapSlice (s : State) : Nat :=
  if flag F.CNV_TAP_CFG_SEL_KIND s then sliceOf (get F.CNV_TAP_CFG_SEL s % 8) s else get F.CNV_TAP_CFG_SEL s

/-- The 24-bit sample at the tap point (R74) of mode 2, the CIC output, or 3, the compensation FIR's, `back` of them before the newest. -/
def tapValue (back : Nat) (s : State) : Int :=
  let sl := tapSlice s
  let cic := (pathOf sl s).cic
  if get F.CNV_TAP_CFG_MODE s = 2 then nth 0 cic back else firOut (pathChan sl s) (cic.drop (2 * back)) s

/-- Show the FIFO's oldest entry and its level. -/
def showFifo (s : State) : State :=
  let s := put F.CNV_TAP_STATUS_LEVEL s.conv.fifo.length s
  match s.conv.fifo with
  | [] => wr R.CNV_TAP_DATA 0 s
  | e :: _ => put F.CNV_TAP_DATA_SAMPLE e.1 (put F.CNV_TAP_DATA_SEQ e.2 (put F.CNV_TAP_DATA_VALID 1 s))

/-- Write one word into the raw-tap ring (R151). -/
def ringWord (w : Nat) (s : State) : State :=
  let sh := share 2 s
  if sh.2 < 4 || !(domOn 3 s) then s
  else
    let p := get F.SPE_TAP_PTR_PTR s
    let s := wrBytes (sh.1 + p) (le 4 w) s
    if sh.2 ≤ p + 4 then put F.SPE_TAP_PTR_PTR 0 (put F.SPE_TAP_PTR_WRAPPED 1 s) else put F.SPE_TAP_PTR_PTR (p + 4) s

/-- Ten modulator codes packed in bits 29:0 (R74). -/
def packCodes : List Nat → Nat
  | [] => 0
  | c :: t => c % 8 + 8 * packCodes t

/-- TAP_SAMPLE (R74, R75, R151): in mode 1 `codes` are the tapped slice's ten modulator codes of one word, oldest first; in the other modes
`back` tells which of the samples between two coherent ones it is. The eight bits above a 24-bit sample in the ring's word are free. -/
def tapSample (codes : List Nat) (back : Nat) (s : State) : State :=
  if get F.CNV_TAP_CFG_MODE s = 0 || !(domOn 1 s) || !(domOn 2 s) then s
  else if get F.CNV_TAP_CFG_MODE s = 1 then ringWord (packCodes (codes.take 10)) s
  else
    let v := wrapTo 24 (tapValue back s)
    let q := s.conv.tapSeq
    let s := { s with conv := { s.conv with tapSeq := (q + 1) % 128 } }
    if flag F.CNV_TAP_CFG_DEST s then let f := fresh s; ringWord (v + f.1 % 256 * 2 ^ 24) f.2
    else if 16 ≤ s.conv.fifo.length then
      raise F.CNV_CAUSE_TAP_OVERRUN (put F.CNV_TAP_STATUS_OVERRUN 1 (addSat F.CNV_TAP_STATUS_DROPPED 1 s))
    else showFifo { s with conv := { s.conv with fifo := s.conv.fifo ++ [(v, q)] } }

/-- TAP_SAMPLE (R75). -/
def execTapSample (codes : List Nat) (back : Nat) (s : State) : Out := done (tapSample codes back s)

/-- Remove the FIFO's oldest entry. -/
def popTap (s : State) : State := showFifo { s with conv := { s.conv with fifo := s.conv.fifo.tail } }

/-- The crack loop (R270): a reading above MAX, or open, in two consecutive readings trips producer 2; two at or below release it. -/
def crackReading (v : Nat) (s : State) : State :=
  if !(flag F.TAMP_CRK_CFG_EN s) then s else
  let bad := get F.TAMP_CRK_CFG_MAX s < v || v = 0xFFFF
  let s := { s with tamp := { s.tamp with
    crkBad := if bad then s.tamp.crkBad + 1 else 0, crkGood := if bad then 0 else s.tamp.crkGood + 1 } }
  if 2 ≤ s.tamp.crkBad then tripProducer 2 0 0 s
  else if 2 ≤ s.tamp.crkGood ∧ producer 2 s then releaseProducer 2 s
  else s

/-- HOT (R393): set when the higher die reading reaches 115.0 °C, cleared when both are at or below 110.0 °C. -/
def hotReading (s : State) : State :=
  let a := signed 16 (get (F.CNV_SAR_RES_VALUE 0) s)
  let b := signed 16 (get (F.CNV_SAR_RES_VALUE 1) s)
  if 1150 ≤ a ∨ 1150 ≤ b then put F.LMD_STATUS_HOT 1 s
  else if a ≤ 1100 ∧ b ≤ 1100 then put F.LMD_STATUS_HOT 0 s
  else s

/-- SAR_RESULT (R76): the scaled result and NEW; a reading beyond 16 bits of an unsigned input reads 0xFFFF (R385). The die
temperatures decide HOT, VLD decides VLD_LOW (R309), the crack loop its producer. -/
def execSarResult (n : Nat) (v : Int) (s : State) : Out :=
  onlyIf (domOn 1 s && decide (n < 14)) (fun s =>
    let x := if n < 2 then v else clampInt 0 0xFFFF v
    let s := putS (F.CNV_SAR_RES_VALUE n) x (put (F.CNV_SAR_RES_NEW n) 1 s)
    if n = 9 then crackReading x.toNat s
    else if n < 2 ∧ domOn 9 s then hotReading s
    else if n = 4 ∧ domOn 9 s then put F.LMD_STATUS_VLD_LOW (b2n (decide (x < 8000))) s
    else s) s

/-- The lower edges of bands 1 to 7 in 0.1 °C (R78). -/
def bandEdges : List Int := [-200, 0, 150, 300, 450, 600, 800]

/-- Move the band with 1 °C of hysteresis on either side of an edge (R78). -/
def nextBand (t : Int) (b : Nat) : Nat :=
  let up := (List.range 7).foldl (fun b i => if b = i ∧ nth 0 bandEdges i + 10 ≤ t then b + 1 else b) b
  (List.range 7).reverse.foldl (fun b i => if b = i + 1 ∧ t ≤ nth 0 bandEdges i - 10 then i else b) up

/-- TEMP_EVALUATION (R77, R78): the mean of the die sensors, or the higher while they are reported to disagree; the band that
follows is staged. -/
def execTempEvaluation (s : State) : Out :=
  onlyIf (domOn 1 s) (fun s =>
    let a := signed 16 (get (F.CNV_SAR_RES_VALUE 0) s)
    let b := signed 16 (get (F.CNV_SAR_RES_VALUE 1) s)
    let apart := decide (50 < (a - b).natAbs)
    let s := { s with conv := { s.conv with disagreeSecs := if apart then s.conv.disagreeSecs + 1 else 0 } }
    let s := if apart then s else put F.CNV_STATUS_TEMP_DISAGREE 0 s
    let t := if flag F.CNV_STATUS_TEMP_DISAGREE s then max a b else quot (a + b) 2
    let s := putS F.CNV_TEMP_TEMP t s
    let from' := if flag F.CNV_TEMP_PENDING s then get F.CNV_TEMP_PENDING_BAND s else get F.CNV_TEMP_BAND s
    let nb := nextBand t from'
    put F.CNV_TEMP_PENDING (b2n (nb != get F.CNV_TEMP_BAND s)) (put F.CNV_TEMP_PENDING_BAND nb s)) s

/-- TEMP_DISAGREE (R77): ten seconds in a row of disagreement count one occurrence of counter 35. -/
def execTempDisagree (s : State) : Out :=
  onlyIf (domOn 1 s && decide (10 ≤ s.conv.disagreeSecs) && !(flag F.CNV_STATUS_TEMP_DISAGREE s)) (fun s =>
    occurrence 35 0 0 (raise F.CNV_CAUSE_TEMP_DISAGREE (put F.CNV_STATUS_TEMP_DISAGREE 1 s))) s

/-- The staged gain, offset and delay of channel `n`, as the registers hold them. -/
def stagedCoef (n : Nat) (s : State) : Nat × Nat × Nat :=
  (get (F.CNV_CHAN_GAIN_GAIN n) s, get (F.CNV_CHAN_OFS_OFS n) s, get (F.FLT_DELAY_DELAY n) s)

/-- The channel coefficients as the last commit left them: those in force, or those that wait for their epoch (R79). -/
def lastCommitted (s : State) : List (Nat × Nat × Nat) := if s.conv.commitPend then s.conv.committed else s.conv.inForce

/-- The change entries of a commit (R239): every staged value that differs from the one committed before it. -/
def commitEntries (s : State) : List (List Byte) :=
  (List.range 8).flatMap fun n =>
    let old := nth (0, 0, 0) (lastCommitted s) n
    let new := stagedCoef n s
    (if old.1 = new.1 then [] else [changeEntry (R.CNV_CHAN_GAIN n) old.1 new.1]) ++
    (if old.2.1 = new.2.1 then [] else [changeEntry (R.CNV_CHAN_OFS n) old.2.1 new.2.1]) ++
    (if old.2.2 = new.2.2 then [] else [changeEntry (R.FLT_DELAY n) old.2.2 new.2.2])

/-- The commit of R79: under the conditions of R237, and refused when the legal log has no room (R239). What is staged now takes
effect at the next epoch; a value staged after it waits for a commit of its own. -/
def commit (s : State) : State :=
  if !(legalOk s) then s
  else
    let es := commitEntries s
    if !(legalFits es.length s) then raise F.OBJ_CAUSE_LEGAL_LOG_FULL s
    else put F.CNV_STATUS_CAL_UNSAVED 1 (legalChange 0x0001 5 es { s with conv := { s.conv with
      commitPend := true, committed := (List.range 8).map fun n => stagedCoef n s } })

/-- A write of `CNV_CAL_CTL` (R79, R81): a START while a window runs, or of no frames, drops it. -/
def calCtlWrite (w : Word) (s : State) : State :=
  let running := flag F.CNV_CAL_CTL_BUSY s || s.conv.winPend
  if arg F.CNV_CAL_CTL_START w = 1 ∧ (running ∨ arg F.CNV_CAL_CTL_FRAMES w = 0) then raise F.CNV_CAUSE_CFG_REFUSED s
  else
    let s := plainWrite R.CNV_CAL_CTL w s
    let s := if arg F.CNV_CAL_CTL_START w = 1 then { s with conv := { s.conv with winPend := true } } else s
    if arg F.CNV_CAL_CTL_COMMIT w = 1 then commit s else s

/-- CAL_COMMIT (R79). -/
def execCalCommit (m : Master) (w : Word) (s : State) : Out := cmdWrite m R.CNV_CAL_CTL (calCtlWrite w) s

/-- CAL_WINDOW_START (R81). -/
def execCalWindowStart (m : Master) (w : Word) (s : State) : Out := cmdWrite m R.CNV_CAL_CTL (fun s => calCtlWrite w s) s

/-- The accumulator total a calibration window measures, in nWh (R81): active import, or the four quadrants of reactive. -/
def calEnergy (s : State) : Nat :=
  let b := 10 * get F.CNV_CAL_CTL_PHASE s
  let a (j : Nat) := nth 0 s.en.acc (b + j) / 2 ^ 32
  if get F.CNV_CAL_CTL_QTY s = 0 then a 0 else a 4 + a 5 + a 6 + a 7

/-- CAL_WINDOW_END (R81): the energy and the count of `CAL_REF_IN` edges over the window are latched. -/
def execCalWindowEnd (edges : Nat) (s : State) : Out :=
  onlyIf (flag F.CNV_CAL_CTL_BUSY s && s.conv.winLeft == 0) (fun s =>
    raise F.CNV_CAUSE_CAL_DONE (put F.CNV_CAL_CTL_BUSY 0 (put F.CNV_CAL_REF_COUNT edges
      (put F.CNV_CAL_ENERGY_LO_ENERGY (s.conv.winEnergy % 2 ^ 32)
        (put F.CNV_CAL_ENERGY_HI_ENERGY (s.conv.winEnergy / 2 ^ 32 % 2 ^ 32) s))))) s

end Sys2Proof.Machine
end

