-- ==== Sys2Proof/Machine/Sample.lean ====
section
/-! DEFINITION. The per-sample and per-cycle commands (chapters 04 and 05), the comparators, the chain's stop and restart, the
reference changes, the tamper conditions of the metrology, the pulse outputs. -/
namespace Sys2Proof.Machine

/-- Coherent samples kept: a frame of the longest kind and a quarter cycle before it. -/
def histCap : Nat := 3200

/-- The sums of the open window take the corrected samples of Sa and Sb (R67), the kernel's phase from the sample index. -/
def windowSums (xa xb : Int) (s : State) : State :=
  match s.conv.relief with
  | none => s
  | some r =>
    if get F.CNV_STATUS_ROT_STATE s ≠ 2 ∨ 64 ≤ r.cycles then s
    else
      let i := sampleIdx s % max s.metro.spc 1
      let c := Config.cosK s.metro.spc i
      let d := Config.sinK s.metro.spc i
      let r := { r with
        n := r.n + 1, sa := r.sa + xa, sb := r.sb + xb, saa := r.saa + (xa * xa).toNat,
        sbb := r.sbb + (xb * xb).toNat, sab := r.sab + xa * xb }
      let r := { r with reA := r.reA + xa * c, imA := r.imA - xa * d, reB := r.reB + xb * c, imB := r.imB - xb * d }
      { s with conv := { s.conv with relief := some r } }

/-- COHERENT_SAMPLE: `codes` are the ten slices' modulator codes since the last one, oldest first. The fixed-rate stream advances (R84 to
R93); correction and limit (R57, R61), overrange, sample history and metrology time (R105), the window's sums (R67), the comparators
on samples (R100), the capture (R155). -/
def takeSample (codes : List (List Nat)) (s : State) : State :=
  let s := takeInputs codes s
  let ovs := (List.range 8).filter fun n => !(deadChan n s) && overFull (linearSample n (sliceOf n s) (nth [] s.metro.inputs n) s)
  let xs := (List.range 8).map fun n => coherent n s
  let xb := match s.conv.relief with
    | none => 0
    | some r => linearSample r.chan r.new s.metro.joined s
  let before := s.metro.hist
  let s := { s with metro := { s.metro with
    hist := (xs :: before).take histCap, pos := s.metro.pos + 1, hcAge := s.metro.hcAge + 1,
    clock := s.metro.clock + get F.FLT_TRK_STEP_STEP s } }
  let s := match s.conv.relief with
    | none => s
    | some r =>
      let s := windowSums (nth 0 xs r.chan) (clampInt (-sampleLimit) sampleLimit xb) s
      if overFull xb && !(ovs.contains r.chan) then windowOver r.chan s else s
  let s := ovs.foldl (fun s n => markOver n s) s
  captureSample before xs (winSamples xs s)

/-- COHERENT_SAMPLE (R105). -/
def execCoherentSample (codes : List (List Nat)) (s : State) : Out := onlyIf (metroOn s) (takeSample codes) s

/-- The relief's window counts a cycle and whether gain and delay can still be assessed (R67): channel RMS and fundamental RMS at
or above 1 % of full scale. -/
def windowCycle (s : State) : State :=
  match s.conv.relief with
  | none => s
  | some r =>
    if get F.CNV_STATUS_ROT_STATE s ≠ 2 ∨ 64 ≤ r.cycles then s
    else
      let S := s.metro.spc
      let w := chanWin (s.metro.hist.take S) r.chan
      let strong := decide (S * 2 ^ 46 ≤ sumSq w * 10000)
      let fund := decide (S * S * 2 ^ 106 ≤ 2 * normSq (phasor S w) * 10000)
      let r := { r with cycles := r.cycles + 1, gainSeen := r.gainSeen && strong, delaySeen := r.delaySeen && fund }
      { s with conv := { s.conv with relief := some r } }

/-- The measured values of the cycle that has just ended, phase by phase. -/
def cycleValues (s : State) : List (Nat × PhaseCycle) := (phases s).map fun p => (p, phaseCycle p (3 + p) s)

/-- The cycle's quantities and energies (R107 to R119), its mismatch (R113) and reverse-energy counts (R115). -/
def measureCycle (s : State) : State :=
  if !(framesRun s) || get F.PHE_CFG_WIRING s = 0 then s
  else
    let S := s.metro.spc
    let w := s.metro.hist.take S
    let cs := cycleValues s
    let inC := phaseCycle 0 6 s
    let m := mismatch S w s
    let ov := overMismatch m s
    let billed := billedCycles S w m cs inC s
    let s := registerCycle S billed s
    let s := cs.foldl (fun s e => reverseCount e.1 e.2 s) s
    let lastC := (List.range 3).map fun p => ((cs.find? fun e => e.1 == p).map (·.2)).getD {}
    { s with en := { s.en with
      last := lastC, lastIn := inC, lastMismatch := billed != cs, frameCycles := s.en.frameCycles ++ [lastC],
      imbalAll := s.en.imbalAll && ov, imbalAny := s.en.imbalAny || ov } }

/-- The preset of the Rogowski integrators from the mean of the first full cycle after a start or restart (R88): their state is
freed of that mean. -/
def presetRogowski (s : State) : State :=
  if !s.metro.presetDue then s
  else
    let S := s.metro.spc
    let mean (n : Nat) : Int := quot (sumInt (chanWin (s.metro.hist.take S) n) * 21 * 2 ^ 24) (S * 32)
    { s with metro := { s.metro with
      presetDue := false
      integ := (List.range 8).map fun n => if isRogowski n s then nth 0 s.metro.integ n - mean n else nth 0 s.metro.integ n } }

/-- The last sample of a cycle has been taken. -/
def atCycleEnd (s : State) : Bool :=
  metroOn s && decide (0 < s.metro.spc) && s.metro.pos == (s.metro.cyc + 1) * s.metro.spc

/-- The work of CYCLE_END (R107 to R119, R129, R95). -/
def endCycle (s : State) : State :=
  let s := windowCycle (presetRogowski (measureCycle s))
  let s := { s with metro := { s.metro with freqSum := s.metro.freqSum + s.metro.fGrid } }
  let s := trackerUpdate s
  { s with metro := { s.metro with freshCycle := false, cyc := s.metro.cyc + 1 } }

/-- CYCLE_END (R107). -/
def execCycleEnd (s : State) : Out := onlyIf (atCycleEnd s) endCycle s

/-- A comparator releases: `ACTIVE` falls and both counts restart (R100, R102). -/
def releaseWin (m : Nat) (s : State) : State :=
  put (F.FLT_WIN_CFG_ACTIVE m) 0 { s with metro := { s.metro with
    winCount := upd s.metro.winCount m (fun _ => 0), winBack := upd s.metro.winBack m (fun _ => 0) } }

/-- Comparators whose channel is idle or failed, or whose chain is stopped, are held released (R101). -/
def releaseDeadWins (s : State) : State :=
  (List.range 16).foldl (fun s m =>
    if flag (F.FLT_WIN_CFG_ACTIVE m) s && !(winLive m s) then releaseWin m s else s) s

/-- A trip (R101): `FLT_WIN_TRIP`, the cause, the timestamp, the frame's flags, then the event line. -/
def tripWin (m frac : Nat) (s : State) : State :=
  let frac := if get (F.FLT_WIN_CFG_SRC m) s = 2 then 0 else frac % 256
  let s := releaseWin m s
  let s := put (F.FLT_WIN_CFG_ACTIVE m) 1 (putBit F.FLT_WIN_TRIP_TRIP m true s)
  let s := put (F.FLT_WIN_TS_FRAME_FRAME m) (frameStamp s) (put (F.FLT_WIN_TS_POS_SAMPLE m) (sampleIdx s)
    (put (F.FLT_WIN_TS_POS_FRAC m) frac s))
  let s := { s with en := { s.en with flags := withBit s.en.flags 8 } }
  let s := if fbit F.SPE_DIST_MASK_WIN m s then { s with spec := { s.spec with marks := withBit s.spec.marks 10 } } else s
  refreshLines frac (raise F.FLT_CAUSE_WIN_TRIP s)

/-- WIN_TRIP (R101): comparator `comp` has reached its persistence count; `frac` is the interpolated crossing in 1/256 sample. -/
def execWinTrip (comp frac : Nat) (s : State) : Out :=
  onlyIf (decide (comp < 16) && winLive comp s && !(flag (F.FLT_WIN_CFG_ACTIVE comp) s) &&
    decide (get (F.FLT_WIN_CFG_PERSIST comp) s ≤ nth 0 s.metro.winCount comp) && decide (0 < nth 0 s.metro.winCount comp))
    (tripWin comp frac) s

/-- WIN_RELEASE (R100). -/
def execWinRelease (comp : Nat) (s : State) : Out :=
  onlyIf (decide (comp < 16) && flag (F.FLT_WIN_CFG_ACTIVE comp) s &&
    decide (get (F.FLT_WIN_CFG_PERSIST comp) s ≤ nth 0 s.metro.winBack comp) && decide (0 < nth 0 s.metro.winBack comp))
    (fun s => refreshLines 0 (releaseWin comp s)) s

/-- The comparator whose configuration or threshold stands at `a`. -/
def comparatorOf (a : Nat) : Option Nat :=
  (List.range 16).find? fun m => a == R.FLT_WIN_CFG m || a == R.FLT_WIN_THR m

/-- A write of a comparator's configuration or threshold (R102): it releases the comparator; a PERSIST of 0 drops it. -/
def writeWin (a : Nat) (w : Word) (s : State) : State :=
  match comparatorOf a with
  | none => s
  | some m =>
    if a = R.FLT_WIN_CFG m ∧ arg (F.FLT_WIN_CFG_PERSIST m) w = 0 then raise F.FLT_CAUSE_CFG_REFUSED s
    else refreshLines 0 (releaseWin m (plainWrite a w s))

/-- WIN_CFG_WRITE (R102). -/
def execWinCfgWrite (m : Master) (addr : Nat) (w : Word) (s : State) : Out :=
  if (comparatorOf addr).isSome then cmdWrite m addr (writeWin addr w) s else .next s

/-- Abandon a pending profile change without rollback (R26, R92). -/
def dropProfile (s : State) : State :=
  put F.PHE_PROFILE_CTL_PENDING 0 (put F.PHE_PROFILE_ACK_ACK 0 { s with en := { s.en with boundaries := 0 } })

/-- A write of `FLT_CTL` with the key 0x5A under the conditions of R237 (R91): RUN = 0 stages the stop, RUN = 1 restarts a stopped
chain; either is refused when the legal log has no room. Any other key drops the write. -/
def fltCtlWrite (w : Word) (s : State) : State :=
  if arg F.FLT_CTL_KEY w ≠ 0x5A || !(legalOk s) then s
  else if !(legalFits 1 s) then raise F.OBJ_CAUSE_LEGAL_LOG_FULL s
  else if arg F.FLT_CTL_RUN w = 0 then
    if flag F.FLT_STATUS_STOPPED s then s
    else
      let s := if flag F.PHE_PROFILE_CTL_PENDING s then dropProfile s else s
      put F.FLT_CTL_RUN 0 { s with metro := { s.metro with chainStop := true } }
  else if !(flag F.FLT_STATUS_STOPPED s) then s
  else
    let s := put F.FLT_CTL_RUN 1 (put F.FLT_STATUS_STOPPED 0 s)
    let f := if flag F.PHE_FRAME_POS_NOMINAL s then 60000000 else 50000000
    let s := { s with metro := { s.metro with
      chainRestart := true, hist := [], pos := 0, cyc := 0, freshCycle := true, hcAge := 0, hcValid := false,
      everLocked := false, slipPrev := 0, phasePrev := none, slow := 0, paths := List.replicate 10 {}, filled := false,
      integ := List.replicate 8 0, presetDue := true, inputs := List.replicate 8 [], joined := [], joinInteg := 0 } }
    setGrid f (put F.FLT_STATUS_HOLD_RUN 0 <| setTracker 1 (put F.FLT_STATUS_TRK_REF (get F.FLT_TRK_CTL_REF_PREF s) s))

/-- CHAIN_STOP (R91). -/
def execChainStop (m : Master) (w : Word) (s : State) : Out := cmdWrite m R.FLT_CTL (fltCtlWrite w) s

/-- CHAIN_RESTART (R91). -/
def execChainRestart (m : Master) (w : Word) (s : State) : Out := cmdWrite m R.FLT_CTL (fun s => fltCtlWrite w s) s

/-- Move the tracker to reference `c` in ACQUIRE from the held f_grid (R97). -/
def moveRef (c : Nat) (s : State) : State :=
  let s := put F.FLT_STATUS_HOLD_RUN 0 (setTracker 1 (put F.FLT_STATUS_TRK_REF c s))
  raise F.FLT_CAUSE_REF_SWITCH { s with metro := { s.metro with fallbackSecs := 0, slipPrev := 0, phasePrev := none } }

/-- The next qualifying reference after the present one in the order VA, VB, VC, VA (R97), on the frame that has ended; the present
one comes last. -/
def nextRef (s : State) : Option Nat :=
  let r := get F.FLT_STATUS_TRK_REF s
  ([r + 1, r + 2, r + 3].map (· % 3)).find? fun c => qualifies c s

/-- What follows when HOLD_RUN has reached HOLD_MAX (R97): a low reference gives way to the next qualifying channel, or the tracker
coasts; a jittering one is acquired again, as is the reference when no other channel qualifies. -/
def leaveHold (s : State) : State :=
  let again := put F.FLT_STATUS_HOLD_RUN 0 (setTracker 1 s)
  if !s.metro.holdLow then again
  else match nextRef s with
    | some c => if c = get F.FLT_STATUS_TRK_REF s then again else moveRef c s
    | none => put F.FLT_STATUS_HOLD_RUN 0 (setTracker 4 s)

/-- REF_SWITCH (R97): at the boundary at which HOLD_RUN reaches HOLD_MAX. The first sample of the new frame is taken in the state it
leaves, and the frame carries that state's flag (R123). DESIGN CHOICE: why the tracker holds is what put it into HOLD (log 42). -/
def execRefSwitch (s : State) : Out :=
  onlyIf (metroOn s && get F.FLT_STATUS_TRK_STATE s == 3 && s.metro.pos == 0 &&
    decide (get F.FLT_TRK_CTL_HOLD_MAX s ≤ get F.FLT_STATUS_HOLD_RUN s)) (fun s =>
    let s := leaveHold s
    trackerFlags { s with en := { s.en with flags := noBit s.en.flags 2 } }) s

/-- The tracker runs on a reference that R97 has moved it to, other than VA (log 16). -/
def onFallback (s : State) : Bool :=
  get F.FLT_STATUS_TRK_REF s != 0 && get F.FLT_STATUS_TRK_REF s != get F.FLT_TRK_CTL_REF_PREF s

/-- REF_RETURN (R97): after 3 600 s locked on a fallback reference with VA qualifying throughout, the return is due at the next
frame boundary. -/
def execRefReturn (s : State) : Out :=
  onlyIf (metroOn s && get F.FLT_STATUS_TRK_STATE s == 2 && onFallback s &&
    decide (3600 ≤ s.metro.fallbackSecs)) (fun s => { s with metro := { s.metro with holdNext := some 0 } }) s

/-- IMBALANCE (R113). -/
def execImbalance (s : State) : Out :=
  onlyIf (metroOn s && !(flag F.NRG_STATUS_IMBAL_ACTIVE s) && decide (1 ≤ s.en.imbalFrames) &&
    decide (get F.PHE_NEUT_CFG_PERSIST s ≤ s.en.imbalFrames))
    (fun s => tripProducer 7 0 0 (raise F.PHE_CAUSE_IMBALANCE (put F.NRG_STATUS_IMBAL_ACTIVE 1 s))) s

/-- REVERSE_ENERGY (R115). -/
def execReverseEnergy (phase : Nat) (s : State) : Out :=
  onlyIf (metroOn s && decide (phase < 3) && !(bit s.en.revOn phase) && decide (1 ≤ nth 0 s.en.revCount phase) &&
    decide (get F.PHE_TAMP_CFG_REV_PERSIST s ≤ nth 0 s.en.revCount phase))
    (fun s => tripProducer 8 0 phase (raise F.PHE_CAUSE_REVERSE
      { s with en := { s.en with revOn := withBit s.en.revOn phase } })) s

/-- Change pulse channel `k`. -/
def updPulse (k : Nat) (f : PulseSt → PulseSt) (s : State) : State := { s with en := { s.en with pulses := upd s.en.pulses k f } }

/-- The edge of channel `k` leaves at `t` µs. -/
def emitEdge (k t : Nat) (s : State) : State :=
  let n := get (F.NRG_PULSE_CNT_COUNT k) s
  put (F.NRG_PULSE_CNT_COUNT k) ((n + 1) % 2 ^ 32) (updPulse k (fun p => { p with last := some t, off := none, active := true }) s)

/-- An edge falls due less than 100 µs after the previous one (R130): it waits in the backlog, or is dropped at 65 535. -/
def holdEdge (k : Nat) (s : State) : State :=
  if get (F.NRG_PULSE_STAT_BACKLOG k) s < 65535 then
    raise F.NRG_CAUSE_PULSE_BACKLOG (addSat (F.NRG_PULSE_STAT_BACKLOG k) 1 s)
  else raise F.NRG_CAUSE_PULSE_OVERRUN (addSat (F.NRG_PULSE_STAT_DROPPED k) 1 s)

/-- The next instant of channel `k`, the release of a waiting edge or a scheduled edge falling due, whichever comes first. -/
def pulseEdge (k : Nat) (s : State) : State :=
  let p := nth ({} : PulseSt) s.en.pulses k
  let free := match p.last with
    | none => nowUs s
    | some t => t + 100
  let waiting := get (F.NRG_PULSE_STAT_BACKLOG k) s
  match p.edges with
  | [] => if 0 < waiting then emitEdge k free (put (F.NRG_PULSE_STAT_BACKLOG k) (waiting - 1) s) else s
  | t :: rest =>
    if 0 < waiting ∧ free ≤ t then emitEdge k free (put (F.NRG_PULSE_STAT_BACKLOG k) (waiting - 1) s)
    else
      let s := updPulse k (fun p => { p with edges := rest, placed := p.placed.tail }) s
      if waiting = 0 ∧ (p.last.isNone ∨ free ≤ t) then emitEdge k t s else holdEdge k s

/-- PULSE_EDGE (R130, R131). -/
def execPulseEdge (k : Nat) (s : State) : Out :=
  onlyIf (domOn 2 s && decide (k < 4) && flag (F.NRG_PULSE_CFG_EN k) s && !(flag F.NRG_STATUS_PULSE_IDLE s) &&
    !(flag F.NRG_STATUS_FROZEN s)) (pulseEdge k) s

/-- The next edge of channel `k` after the one at `t`, with the instant at which it was placed: a waiting one leaves 100 µs later and
has been placed long before, as has a scheduled one that falls due sooner. -/
def edgeAfter (k t : Nat) (s : State) : Option (Nat × Nat) :=
  let p := nth ({} : PulseSt) s.en.pulses k
  if 0 < get (F.NRG_PULSE_STAT_BACKLOG k) s then some (t + 100, t)
  else match p.edges, p.placed with
    | e :: _, q :: _ => some (max e (t + 100), q)
    | _, _ => none

/-- When the output goes inactive after an edge at `t` (R130): at the end of WIDTH, or, where the next edge falls within twice WIDTH, at
the later of the midpoint and that edge's placement when this comes first; at least 50 µs before the next edge. -/
def pulseOff (k t : Nat) (s : State) : Nat :=
  let w := 10 * get (F.NRG_PULSE_CFG_WIDTH k) s
  match edgeAfter k t s with
  | some (e, q) => if e < t + 2 * w then min (min (t + w) (max ((t + e) / 2) q)) (e - 50) else t + w
  | none => t + w

/-- PULSE_END (R130): the output goes inactive, at the instant that follows from the edges known. -/
def execPulseEnd (k : Nat) (s : State) : Out :=
  onlyIf (decide (k < 4) && (nth ({} : PulseSt) s.en.pulses k).active) (fun s =>
    updPulse k (fun p => { p with active := false, off := p.last.map fun t => pulseOff k t s }) s) s

end Sys2Proof.Machine
end

