-- ==== Sys2Proof/Machine/Spectrum.lean ====
section
/-! DEFINITION. E7's commands (chapter 06): spectra, aggregates, supraharmonic blocks, power-quality events and the capture. -/
namespace Sys2Proof.Machine

/-- E7 works: D3 on and ready, not in Pass (R148, R28). -/
def e7Works (s : State) : Bool := domOn 3 s && s.en.e7Ready && !(inPass s)

/-- The half-cycle RMS of channel `c` times SCALE, to be compared with fractions of VNOM. -/
def halfRms (c : Nat) (s : State) : Nat := nth 0 s.metro.hcRms c * scale c s

/-- VNOM as the same product: 10 mV per LSB, full scale 2^23. -/
def vnomScaled (s : State) : Nat := get F.PHE_CFG_VNOM s * 10 * 2 ^ 23

/-- Channel `c` lies below `t` thousandths of U_nom. -/
def belowMille (t c : Nat) (s : State) : Bool := decide (halfRms c s * 1000 < t * vnomScaled s)

/-- Channel `c` lies above `t` thousandths of U_nom. -/
def aboveMille (t c : Nat) (s : State) : Bool := decide (t * vnomScaled s < halfRms c s * 1000)

/-- A half-cycle RMS in 0.01 % of U_nom, saturating. -/
def perTenThousand (v : Nat) (s : State) : Nat :=
  if vnomScaled s = 0 then 0xFFFF else satNat 0xFFFF (quot ((v * 10000 : Nat) : Int) (vnomScaled s)).toNat

/-- The mask of the live voltage channels with property `p`. -/
def voltMask (p : Nat → Bool) (s : State) : Nat := ((liveVolts s).filter p).foldl (fun n c => withBit n c) 0

/-- Bring a polyphase event up to this half-cycle boundary (R146): `inside` are the channels taking part, `over` says that the
ending condition is met; the answer is the event in force and, when it ends, the event that ended. -/
def stepEvent (ev : Option PqEvent) (start past low : Bool) (inside : Nat) (s : State) : Option PqEvent × Option PqEvent :=
  let vals := (liveVolts s).map fun c => halfRms c s
  let ext := if low then vals.foldl min (vals.headD 0) else vals.foldl max 0
  match ev with
  | none =>
    let e : PqEvent := PqEvent.mk inside ext (frameStamp s) (sampleIdx s) 0 s.metro.clock (rtc s)
    if start then (some e, none) else (none, none)
  | some e =>
    let e := { e with hc := e.hc + 1 }
    if past then (none, some e)
    else
      let ext := if low then min e.extreme ext else max e.extreme ext
      (some { e with chan := e.chan ||| inside, extreme := ext }, none)

/-- The number of the next power-quality record (R147), modulo 2^32: that of the log's next record (R219), those that wait in the FIFO
counted in. -/
def pqSeq (s : State) : Nat := (counter 3 s + s.spec.fifo.length) % 2 ^ 32

/-- Show the FIFO's oldest record and its level. -/
def pqBytes (r : PqRec) : List Byte :=
  let b := le 4 r.seq ++ le 1 r.kind ++ le 1 r.chan ++ le 2 r.extreme ++ le 4 r.startFrame ++ le 2 r.startSample ++ zeros 2 ++
    le 4 r.durHc ++ le 4 r.durMs ++ le 4 r.rtcStart
  b ++ le 4 (crc32 b)

/-- Show the oldest record in `SPE_EVT_WORD_w` (R147). -/
def showEvents (s : State) : State :=
  let bs := match s.spec.fifo with
    | [] => zeros 32
    | r :: _ => pqBytes r
  (List.range 8).foldl (fun s w => put (F.SPE_EVT_WORD_WORD w) (ofLe ((bs.drop (4 * w)).take 4)) s)
    (put F.SPE_EVT_CTL_LEVEL s.spec.fifo.length s)

/-- The record of an event that has ended; `frozen` sets bit 7 of CHAN (R148). -/
def pqRecord (kind : Nat) (frozen : Bool) (e : PqEvent) (s : State) : PqRec :=
  let ms := (quot (((s.metro.clock - e.clock) * 1000 : Nat) : Int) (2 ^ 39)).toNat
  { seq := pqSeq s, kind := kind, chan := e.chan + 128 * b2n frozen, extreme := perTenThousand e.extreme s,
    startFrame := e.startFrame, startSample := e.startSample, durHc := e.hc, durMs := ms, rtcStart := e.rtcStart }

/-- Append a record to the power-quality log (R147): a ring of 256 in bank 3, whose next record spread counter 3 numbers (R219). -/
def pqAppend (r : PqRec) (s : State) : State :=
  let k := counter 3 s % 256
  dirty 3 (counterAdd 3 1 { s with cis := { s.cis with b3 := { s.cis.b3 with pq := sparseSet {} s.cis.b3.pq k r } } })

/-- An ended event's record enters the FIFO of 16, or is dropped (R147). -/
def pqPush (r : PqRec) (s : State) : State :=
  if s.spec.fifo.length < 16 then showEvents { s with spec := { s.spec with fifo := s.spec.fifo ++ [r] } }
  else raise F.SPE_CAUSE_EVT_OVERRUN (addSat F.SPE_EVT_CTL_LOST 1 s)

/-- What an ended event leaves: its record and its cause. -/
def pqEnd (kind : Nat) (cause : Fld) (e : Option PqEvent) (s : State) : State :=
  match e with
  | none => s
  | some e => raise cause (pqPush (pqRecord kind false e s) s)

/-- Show the events in force in `SPE_PQ_STATE` and drive their lines; mark the frame (R149). -/
def showPq (s : State) : State :=
  let s := put F.SPE_PQ_STATE_DIP_ON (b2n s.spec.dip.isSome) (put F.SPE_PQ_STATE_SWELL_ON (b2n s.spec.swell.isSome)
    (put F.SPE_PQ_STATE_INTR (b2n s.spec.intr.isSome) s))
  let m := s.spec.marks
  let m := if s.spec.dip.isSome then withBit m 1 else m
  let m := if s.spec.swell.isSome then withBit m 2 else m
  let m := if s.spec.intr.isSome then withBit m 3 else m
  refreshLines 0 { s with spec := { s.spec with marks := m } }

/-- The evaluation of dips, swells and interruptions at a half-cycle boundary (R146). -/
def pqEvaluate (s : State) : State :=
  if !(e7Works s) || !(framesRun s) || !s.metro.hcValid || (liveVolts s).isEmpty then s
  else
    let dip := 5 * get F.SPE_PQ_THR_DIP s
    let swell := 5 * get F.SPE_PQ_THR_SWELL s
    let intr := 5 * get F.SPE_PQ_THR_INTR s
    let h := get F.SPE_PQ_THR_HYST s
    let live := liveVolts s
    let low := voltMask (fun c => belowMille dip c s) s
    let high := voltMask (fun c => aboveMille swell c s) s
    let all := voltMask (fun _ => true) s
    let d := stepEvent s.spec.dip (low != 0) (live.all fun c => !(belowMille (dip + h) c s)) true low s
    let w := stepEvent s.spec.swell (high != 0) (live.all fun c => !(aboveMille (swell - h) c s)) false high s
    let i := stepEvent s.spec.intr (live.all fun c => belowMille intr c s) (live.any fun c => !(belowMille (intr + h) c s)) true all s
    let was := s.spec
    let s := put F.SPE_PQ_STATE_DIP low (put F.SPE_PQ_STATE_SWELL high
      { s with spec := { s.spec with dip := d.1, swell := w.1, intr := i.1 } })
    let s := raiseIf (d.1.isSome && was.dip.isNone) F.SPE_CAUSE_DIP_START (raiseIf (w.1.isSome && was.swell.isNone)
      F.SPE_CAUSE_SWELL_START (raiseIf (i.1.isSome && was.intr.isNone) F.SPE_CAUSE_INTR_START s))
    showPq (pqEnd 3 F.SPE_CAUSE_INTR_END i.2 (pqEnd 2 F.SPE_CAUSE_SWELL_END w.2 (pqEnd 1 F.SPE_CAUSE_DIP_END d.2 s)))

/-- At an epoch that changes S every event in force ends at the epoch's first sample (R148). -/
def pqEpoch (s : State) : State :=
  let sp := s.spec
  let s := { s with spec := { s.spec with dip := none, swell := none, intr := none } }
  showPq (pqEnd 3 F.SPE_CAUSE_INTR_END sp.intr (pqEnd 2 F.SPE_CAUSE_SWELL_END sp.swell (pqEnd 1 F.SPE_CAUSE_DIP_END sp.dip s)))

/-- E2 pops every record that waits and appends it to the log (R147). -/
def popEvents (s : State) : State :=
  showEvents (s.spec.fifo.foldl (fun s r => pqAppend r s) { s with spec := { s.spec with fifo := [] } })

/-- At a freeze every open event ends at the freeze sample, and its record goes straight into bank 3 (R148), after the records
that still wait in the FIFO. -/
def pqFreeze (s : State) : State :=
  if !(domOn 3 s) then s
  else
    let one (kind : Nat) (e : Option PqEvent) (s : State) : State :=
      match e with
      | none => s
      | some e => let r := pqRecord kind true e s
                  pqAppend r s
    let sp := s.spec
    let s := popEvents { s with spec := { s.spec with dip := none, swell := none, intr := none } }
    let s := raiseIf sp.dip.isSome F.SPE_CAUSE_DIP_END (raiseIf sp.swell.isSome F.SPE_CAUSE_SWELL_END
      (raiseIf sp.intr.isSome F.SPE_CAUSE_INTR_END s))
    showPq (one 3 sp.intr (one 2 sp.swell (one 1 sp.dip s)))

/-- Bin `k` of the DFT over a frame of one channel's samples, times its length and 2^30 (R134). -/
def dftBin (k : Nat) (xs : List Int) : Int × Int :=
  let L := xs.length
  xs.zipIdx.foldl (fun a e => (a.1 + e.1 * Config.cosK L (k * e.2 % L), a.2 - e.1 * Config.sinK L (k * e.2 % L))) (0, 0)

/-- The response of channel `c`'s path at bin `k` of frame `f`, by which E7 divides it (R137). -/
def binResponse (f : FrameSet) (c k : Nat) (s : State) : Int × Int :=
  Config.pathResponse (cicOrder c s) (responseCoefs c s) (isRogowski c s) (stepFor f.freq f.perCycle) (k * f.freq / f.cycles)

/-- The square of bin `k`'s RMS in (1/256 µV or µA)² (R135); 0 where the path passes nothing. -/
def binSquare (f : FrameSet) (c k : Nat) (xs : List Int) (s : State) : Nat :=
  let h := normSq (binResponse f c k s) * (f.cycles * f.perCycle) ^ 2 * 2 ^ 46
  if h = 0 then 0
  else (quot ((if k = 0 then 1 else 2) * normSq (dftBin k xs) * (scale c s * 256000) ^ 2 : Nat) h).toNat

/-- The half-weights of the bins of harmonic order `h` (R135): DC alone, a subgroup or a group, below the Nyquist bin. -/
def harmonicBins (group : Bool) (N S h : Nat) : List (Nat × Nat) :=
  let l :=
    if h = 0 then [(0, 2)]
    else if group then
      [(h * N - N / 2, 1)] ++ ((List.range (N - 1)).map fun i => (h * N - N / 2 + 1 + i, 2)) ++ [(h * N + N / 2, 1)]
    else [(h * N - 1, 2), (h * N, 2), (h * N + 1, 2)]
  l.filter fun e => decide (2 * e.1 < N * S)

/-- The bins of the interharmonic centred subgroup between `h` and `h` + 1 (R135). -/
def interBins (N h : Nat) : List (Nat × Nat) := (List.range (N - 3)).map fun i => (h * N + 2 + i, 2)

/-- The root of a weighted sum of squared bins (R135), in µV or µA. -/
def groupValue (f : FrameSet) (c : Nat) (bins : List (Nat × Nat)) (xs : List Int) (s : State) : Nat :=
  rootQ (sumNat (bins.map fun e => e.2 * binSquare f c e.1 xs s)) (2 * 65536)

/-- Channel `c`'s samples of a frame, oldest first. -/
def chanOfFrame (f : FrameSet) (c : Nat) : List Int := f.samples.map fun x => nth 0 x c

/-- The RMS of order `h` of channel `c` in frame `f` (R135 to R139): not available above the profile's range or in a NONCOH
frame. A failed channel's samples are 0 (R73). -/
def orderRms (f : FrameSet) (c h : Nat) (s : State) : Option Nat :=
  if bit f.status 0 || idleChan c s || decide (f.perCycle / 2 ≤ h) then none
  else some (groupValue f c (harmonicBins (flag F.SPE_CFG_HGROUP s) f.cycles f.perCycle h) (chanOfFrame f c) s)

/-- The angle of bin `k` of channel `c` after the division by the path's response, in 2^-32 turn (R137). -/
def binAngle (f : FrameSet) (c k : Nat) (s : State) : Int :=
  let d := dftBin k (chanOfFrame f c)
  let h := binResponse f c k s
  Config.angle (d.1 * h.1 + d.2 * h.2) (d.2 * h.1 - d.1 * h.2)

/-- The phase of order `h` (R137): arg H_h − h · arg R_1 in 0.01°, in (−180°, +180°]. -/
def orderPhase (f : FrameSet) (c h : Nat) (s : State) : Int :=
  let w := signed 32 (wrapTo 32 (binAngle f c (h * f.cycles) s - h * binAngle f f.ref f.cycles s))
  quot ((if w = -(2 ^ 31) then 2 ^ 31 else w) * 36000) (2 ^ 32)

/-- 1/`d` of the full scale of channel `c` in µV or µA. -/
def fullScalePart (d c : Nat) (s : State) : Nat := scale c s * 1000 / d

/-- No result of frame `f` is available (R276). -/
def noResults (f : FrameSet) : ResultSet :=
  let n := f.perCycle / 2
  { frame := f.num, rms := List.replicate 8 (List.replicate n none), phase := List.replicate 8 (List.replicate n none)
    inter := List.replicate 8 (List.replicate n none), bands := List.replicate 741 none }

/-- A restart of E7 costs the results of the frames it has in progress (R276): the one being taken and those not yet transformed. -/
def spoilFrames (s : State) : State :=
  { s with spec := { s.spec with spoiled := true, waiting := s.spec.waiting.map fun f => { f with spoiled := true } } }

/-- The results of frame `f` (R135 to R139, R143, R144). -/
def frameResults (f : FrameSet) (s : State) : ResultSet :=
  let orders := List.range (f.perCycle / 2)
  let chans := List.range 8
  let rms := chans.map fun c => orders.map fun h => orderRms f c h s
  let phase := chans.map fun c => orders.map fun h =>
    match orderRms f c h s with
    | none => none
    | some v => if v < fullScalePart 1000 c s then none else some (orderPhase f c h s)
  let inter := chans.map fun c => orders.map fun h =>
    if bit f.status 0 || idleChan c s || h = 0 || decide (f.perCycle / 2 - 1 ≤ h) then none
    else some (groupValue f c (interBins f.cycles h) (chanOfFrame f c) s)
  let bands := if f.usable < 4 || !(flag F.SPE_CFG_SH_EN s) || f.perCycle ≠ 256 then List.replicate 741 none
    else f.bands.map fun q => some (rootQ q f.usable)
  { frame := f.num, rms := rms, phase := phase, inter := inter, bands := bands }

/-- The results that E7 shows of frame `f`: none when its restart has cost them. -/
def results (f : FrameSet) (s : State) : ResultSet := if f.spoiled then noResults f else frameResults f s

/-- THD of channel `c` in 0.001 % (R138). -/
def thd (c : Nat) (r : ResultSet) (s : State) : Nat :=
  let l := nth [] r.rms c
  match nth none l 1 with
  | none => 0x80000000
  | some f1 =>
    if f1 = 0 ∨ f1 < fullScalePart 100 c s then 0x80000000
    else
      let hs := (List.range (get F.SPE_CFG_THD_MAX s + 1)).drop 2
      let q := sumNat (hs.map fun h => ((nth none l h).getD 0) ^ 2)
      rootQ (q * 10 ^ 10) (f1 * f1)

/-- One value of the result window (`SPE_RES_m`): 0x8000_0000 where it is not available or out of range. -/
def resultValue (m : Nat) (s : State) : Nat :=
  let c := get F.SPE_RES_SEL_CHAN s
  let na := 0x80000000
  let k := get F.SPE_RES_SEL_KIND s
  let r := s.spec.shown
  let a := s.spec.aggShown
  if k = 0 then (nth none (nth [] r.rms c) m).getD na
  else if k = 1 then match nth none (nth [] r.phase c) m with
    | none => na
    | some z => wrapTo 32 z
  else if k = 2 then (nth none (nth [] r.inter c) m).getD na
  else if k = 3 then (nth none r.bands m).getD na
  else if k = 4 then (nth none (nth [] a.rms c) m).getD na
  else if k = 5 then (nth none a.bands m).getD na
  else na

/-- Bring the result window up to the selection (R134). -/
def showResults (s : State) : State :=
  let s := (List.range 1024).foldl (fun s m => put (F.SPE_RES_VALUE m) (resultValue m s % 2 ^ 32) s) s
  put F.SPE_RES_FRAME_FRAME (if get F.SPE_RES_SEL_KIND s = 4 ∨ get F.SPE_RES_SEL_KIND s = 5 then s.spec.aggShown.frame
    else s.spec.shown.frame) s

/-- Add one value to an aggregate's count and sum of squares (R140). -/
def aggAdd (acc : Nat × Nat) (v : Option Nat) : Nat × Nat :=
  match v with
  | none => acc
  | some x => (acc.1 + 1, acc.2 + x * x)

/-- Add a list of values, the block's list taken as zeros when it is still empty. -/
def aggList (acc : List (Nat × Nat)) (vs : List (Option Nat)) : List (Nat × Nat) :=
  (List.range (max acc.length vs.length)).map fun i => aggAdd (nth (0, 0) acc i) (nth none vs i)

/-- The frame status word of E7 (R149) with DISTURBED. -/
def spectrumFlags (f : FrameSet) : Nat :=
  let m := f.marks
  let m := if bit f.status 0 then withBit m 4 else m
  let m := if bit f.status 2 then withBit m 5 else m
  let m := if bit f.status 6 then withBit m 11 else m
  let m := if bit f.status 9 then withBit m 9 else m
  let m := if 0 < f.unusable then withBit m 6 else m
  let m := if f.usable < 4 then withBit m 7 else m
  if [1, 2, 3, 5, 9, 10].any fun b => bit m b then withBit m 0 else m

/-- One aggregate value (R140). -/
def aggValue (a : Nat × Nat) : Option Nat := if a.1 = 0 then none else some (rootQ a.2 a.1)

/-- The block in progress closes (R140), with SHORT when it has fewer than 15 frames. -/
def closeBlock (s : State) : State :=
  let a := s.spec.agg
  if a.n = 0 then s
  else
    let r : ResultSet := { frame := a.last, rms := a.rms.map fun l => l.map aggValue, bands := a.bands.map aggValue }
    raise F.SPE_CAUSE_AGG_DONE { s with spec := { s.spec with
      aggShown := r, aggFlags := b2n (decide (a.n < 15)) + 2 * b2n a.disturbed, agg := { cut := a.cut } } }

/-- SPECTRUM_PUBLISH (R134): the oldest frame waiting is transformed and its results are shown; the block takes it, after a full block,
or one that this frame's start ends, has closed (R140). -/
def publish (f : FrameSet) (rest : List FrameSet) (s : State) : State :=
  let s := if f.starts || decide (15 ≤ s.spec.agg.n) then closeBlock s else s
  let r := results f s
  let fl := spectrumFlags f
  let a := s.spec.agg
  let agg : AggBlock := { a with
    n := a.n + 1, last := f.num, disturbed := a.disturbed || bit fl 0, bands := aggList a.bands r.bands,
    cut := (rest.any fun g => g.starts) || s.spec.blockStart
    rms := (List.range 8).map fun c => aggList (nth [] a.rms c) (nth [] r.rms c) }
  let s := { s with spec := { s.spec with waiting := rest, shown := r, agg := agg } }
  let s := (List.range 8).foldl (fun s c => put (F.SPE_THD_THD c) (thd c r s % 2 ^ 32) s) s
  let s := put F.SPE_FRAME_STAT_FLAGS fl (put F.SPE_FRAME_STAT_FRAME (f.num % 2 ^ 16) s)
  let s := put F.SPE_SH_STAT_USED (satNat 255 f.usable) (put F.SPE_SH_STAT_EXCLUDED (satNat 255 f.unusable) s)
  showResults (put F.SPE_STATUS_RUN 1 s)

/-- SPECTRUM_PUBLISH (R134). -/
def execSpectrumPublish (s : State) : Out :=
  match s.spec.waiting with
  | [] => .next s
  | f :: rest => onlyIf (e7Up s && s.en.e7Ready) (publish f rest) s

/-- Every frame of the block in progress has been transformed and the next one starts another (R140). -/
def blockEnded (s : State) : Bool :=
  s.spec.agg.cut && (match s.spec.waiting with | [] => true | f :: _ => f.starts)

/-- AGGREGATE_CLOSE (R140): a block of 15 frames, or one cut short by an epoch or a 10-minute boundary, closes. -/
def execAggregateClose (s : State) : Out :=
  onlyIf (e7Up s && decide (1 ≤ s.spec.agg.n) && (decide (15 ≤ s.spec.agg.n) || blockEnded s)) (fun s => showResults (closeBlock s)) s

/-- The driver transmits or a chirp is on the line. -/
def lineInUse (s : State) : Bool := s.lmd.tx.isSome || get F.LMD_SND_STATUS_STATE s == 2

/-- A word of the receive ring (R313): the sample and the overrange bit, and bit 15, which this node's own signal sets. -/
def adcWord (used : Bool) (w : Nat) : Nat := w % 2 ^ 15 + (if used && w.testBit 15 then 2 ^ 15 else 0)

/-- The receive ADC writes its samples into the ring of 8 192 words at 0x2D00_0000 (R142, R313). Bit 15 of an operand marks a sample
taken while this node's own signal was on the line, and counts only when there was one (log 43). -/
def adcWrite (ws : List Nat) (s : State) : State :=
  let used := s.lmd.lineUsed || lineInUse s
  let s := ws.foldl (fun s w =>
    { wrBytes (0x2D000000 + 2 * (s.lmd.adc % 8192)) (le 2 (adcWord used w)) s with lmd := { s.lmd with adc := s.lmd.adc + 1 } }) s
  { s with lmd := { s.lmd with lineUsed := lineInUse s } }

/-- The `k`-th sample that the ADC has written, as the ring holds it. -/
def ringSample (k : Nat) (s : State) : Nat := ofLe (rdBytes s (0x2D000000 + 2 * (k % 8192)) 2)

/-- The coupling correction of band `b` in 0.001 dB (R313): `LMD_COUP` interpolated linearly in dB. -/
def couplingGain (b : Nat) (s : State) : Int :=
  let lo := getS (F.LMD_COUP_GAIN (b / 10)) s
  let hi := getS (F.LMD_COUP_GAIN (b / 10 + 1)) s
  if b % 10 = 0 then 10 * lo else 10 * lo + (hi - lo) * (b % 10 : Nat)

/-- A band's RMS in µV from a block of 5 000 samples (R143): the bin at 2 000 + 200 b Hz, at 15 625/64 µV per step of the 14-bit
converter (R313), with the coupling correction. -/
def bandRms (b : Nat) (xs : List Int) (s : State) : Nat :=
  rootQ (2 * normSq (dftBin (10 + b) xs) * (15625 * Config.gainOf (couplingGain b s)) ^ 2) (5000 ^ 2 * 2 ^ 60 * 2 ^ 48 * 64 ^ 2)

/-- A block that starts at sample `start` of the receive ring (R143, R144): dropped when the ADC has overwritten it, unusable when this
node's own signal was on the line at one of its samples. -/
def shBlock (start : Nat) (s : State) : State :=
  let unusable (s : State) : State := { s with spec := { s.spec with unusable := s.spec.unusable + 1 } }
  if s.lmd.adc < start + 5000 then { s with lmd := { s.lmd with shNext := start } }
  else
    let s := { s with lmd := { s.lmd with shNext := start + 10000 } }
    if start + 8192 < s.lmd.adc then raise F.SPE_CAUSE_SH_DROP (addSat F.SPE_SH_STAT_DROPPED 1 (unusable s))
    else
      let ws := (List.range 5000).map fun i => ringSample (start + i) s
      if ws.any (·.testBit 15) then unusable s
      else
        let xs := ws.map fun w => signed 14 w
        let sq := (List.range 741).map fun b => nth 0 s.spec.bands b + bandRms b xs s ^ 2
        { s with spec := { s.spec with usable := s.spec.usable + 1, bands := sq } }

/-- SH_BLOCK (R142 to R144): the samples that the receive ADC has taken; a block that they complete is transformed in Plain with
`SH_EN`. Blocks start every 10 000 samples from the first. -/
def execShBlock (ws : List Nat) (s : State) : Out :=
  onlyIf (domOn 8 s && domOn 9 s) (fun s =>
    let first := s.lmd.adc
    let s := adcWrite ws s
    if !(e7Works s && profile s == 0 && flag F.SPE_CFG_SH_EN s) then s
    else shBlock (if flag F.SPE_STATUS_SH_RUN s then s.lmd.shNext else first) (put F.SPE_STATUS_SH_RUN 1 s)) s

/-- A write of `SPE_EVT_CTL` (R147). -/
def evtCtlWrite (w : Word) (s : State) : State :=
  if arg F.SPE_EVT_CTL_POP w = 0 then s
  else match s.spec.fifo with
    | [] => s
    | r :: t => showEvents (pqAppend r { s with spec := { s.spec with fifo := t } })

/-- EVT_POP (R147): the oldest record leaves the FIFO and E2 appends it to the log. -/
def execEvtPop (m : Master) (w : Word) (s : State) : Out := cmdWrite m R.SPE_EVT_CTL (evtCtlWrite w) s

/-- A write of `SPE_CAP_CTL` (R155, R156): ARM from IDLE, FORCE, ABORT. -/
def capCtlWrite (w : Word) (s : State) : State :=
  let s := if arg F.SPE_CAP_CTL_ARM w = 1 then
      if inPass s then raise F.SPE_CAUSE_CFG_REFUSED s
      else if get F.SPE_CAP_STATUS_STATE s = 0 then nextSlot 0 s else s
    else s
  let s := if arg F.SPE_CAP_CTL_FORCE w = 1 then captureTrigger 0xFF 0 soundForCapture s else s
  if arg F.SPE_CAP_CTL_ABORT w = 1 then
    let s := if get F.SPE_CAP_STATUS_STATE s = 2 then
        writeHeader { s with cap := { s.cap with flags := withBit s.cap.flags 4 } } else s
    put F.SPE_CAP_STATUS_STATE 0 s
  else s

/-- CAPTURE_ARM (R155). -/
def execCaptureArm (m : Master) (w : Word) (s : State) : Out := cmdWrite m R.SPE_CAP_CTL (capCtlWrite w) s

/-- CAPTURE_FORCE (R155). -/
def execCaptureForce (m : Master) (w : Word) (s : State) : Out := cmdWrite m R.SPE_CAP_CTL (fun s => capCtlWrite w s) s

/-- CAPTURE_ABORT (R155). -/
def execCaptureAbort (m : Master) (w : Word) (s : State) : Out :=
  .next (regWrite m R.SPE_CAP_CTL (capCtlWrite w) s)

/-- CAPTURE_DONE (R155): every set of the capture has been written. -/
def execCaptureDone (s : State) : Out :=
  onlyIf (domOn 3 s && get F.SPE_CAP_STATUS_STATE s == 2 && decide (capTotal s ≤ s.cap.written)) captureDone s

/-- A write of `SPE_CAP_FULL` (R157). -/
def capFullWrite (w : Word) (s : State) : State :=
  let s := plainWrite R.SPE_CAP_FULL w s
  let s := { s with cap := { s.cap with order := s.cap.order.filter fun k => fbit F.SPE_CAP_FULL_SLOT k s } }
  if get F.SPE_CAP_STATUS_STATE s = 3 then
    match freeSlot 0 s with
    | some k => enterPre k s
    | none => s
  else s

/-- CAPTURE_SLOT_FREE (R155): the slots written 1 are freed; a stopped ring goes on in a freed slot. -/
def execCaptureSlotFree (m : Master) (w : Word) (s : State) : Out := cmdWrite m R.SPE_CAP_FULL (capFullWrite w) s

/-- A write of `SPE_CAP_CFG` (R154). -/
def capCfgWrite (w : Word) (s : State) : State :=
  if get F.SPE_CAP_STATUS_STATE s ≠ 0 ∨ arg F.SPE_CAP_CFG_CHANS w = 0 then raise F.SPE_CAUSE_CFG_REFUSED s
  else plainWrite R.SPE_CAP_CFG w s

/-- CAP_CFG_WRITE (R154): dropped outside IDLE, and when it names no channel. -/
def execCapCfgWrite (m : Master) (w : Word) (s : State) : Out := cmdWrite m R.SPE_CAP_CFG (capCfgWrite w) s

end Sys2Proof.Machine
end

