-- ==== Sys2Proof/Machine/Frame.lean ====
section
/-! DEFINITION. The frame boundary (R14 and the rules that act there): the record, the frame values, the image of kind 1, the
tracker in HOLD, the profile change in two phases, and every change that waits for an epoch. -/
namespace Sys2Proof.Machine

/-- The RATE code of the samples per cycle (R124). -/
def rateCode (S : Nat) : Nat := if S = 256 then 0 else if S = 128 then 1 else 2

/-- D3 loses power: capture SRAM, results and events are gone (R153, R28). -/
def d3Off (s : State) : State :=
  powerDown 3 { loseCapture s with spec := {}, en := { s.en with e7Ready := false } }

/-- D3 comes up: E7 starts from reset, its image fields at the image's values again (R28, R7; log 9). -/
def d3On (s : State) : State :=
  if domOn 3 s then s
  else wrMany (s.ld.imageRegs.filter fun e => blockDom (blockOf e.1) == 3) (powerUp 3 s)

/-- Increment of accumulator `k` over the frame: the change of its integer part modulo 2^96 (R125). -/
def frameInc (k : Nat) (s : State) : Nat :=
  (nth 0 s.en.acc k / 2 ^ 32 + 2 ^ 96 - nth 0 s.en.accStart k / 2 ^ 32) % 2 ^ 96

/-- Merge the two oldest records of a full ring (R15): the later frame, the OR of both words with MERGED set, the sums. -/
def mergeRecs (a b : HandoffRec) : HandoffRec :=
  HandoffRec.mk b.frame (withBit (a.flags ||| b.flags) 13) b.rate (a.noload ||| b.noload) (a.samples + b.samples)
    (List.zipWith (· + ·) a.incs b.incs) b.endRtc (a.ok && b.ok)

/-- Put a record into the handoff ring of 64 (R14, R15). -/
def pushRec (r : HandoffRec) (s : State) : State :=
  if s.en.ring.length < 64 then { s with en := { s.en with ring := s.en.ring ++ [r] } }
  else match s.en.ring with
    | a :: b :: t => raise F.PHE_CAUSE_RING_MERGE { s with en := { s.en with ring := (mergeRecs a b :: t) ++ [r] } }
    | _ => { s with en := { s.en with ring := s.en.ring ++ [r] } }

/-- The frame increment record for a frame of `n` samples with status word `fl` (R124). -/
def frameRec (n fl : Nat) (s : State) : HandoffRec :=
  HandoffRec.mk (get F.PHE_FRAME_NUM_FRAME s) fl (rateCode s.metro.spc) s.en.noloadFrame n
    ((List.range 40).map fun k => frameInc k s) (rtc s) true

/-- Show the sums through the frame in the accumulator registers (R120). -/
def publishAcc (s : State) : State :=
  let s := { s with en := { s.en with accPub := s.en.acc, accStart := s.en.acc } }
  (List.range 40).foldl (fun s k => put (F.NRG_ACC_LO_ACC k) (nth 0 s.en.acc k / 2 ^ 32 % 2 ^ 32) s)
    (put F.NRG_ACC_FRAME_FRAME (get F.PHE_FRAME_NUM_FRAME s) s)

/-- The accumulator image (R122) of `kind` naming sample `smp`. -/
def accImage (kind smp : Nat) (s : State) : AccImage :=
  AccImage.mk kind (run s) (get F.PHE_FRAME_NUM_FRAME s) smp s.en.acc
    ((List.range 4).map fun k => ((nth ({} : PulseSt) s.en.pulses k).resid, get (F.NRG_PULSE_STAT_BACKLOG k) s))

/-- Write an accumulator image into bank 0 (R121). -/
def writeAccImage (kind smp : Nat) (s : State) : State :=
  dirty 0 { s with cis := { s.cis with b0 := { s.cis.b0 with acc := writeCopy s.cis.b0.acc (accImage kind smp s) } } }

/-- Not available. -/
def notAvail : Nat := 0x80000000

/-- A signed frame value as `PHE_RES_k` holds it. -/
def resS (z : Int) : Nat := wrapTo 32 z

/-- An unsigned frame value as `PHE_RES_k` holds it. -/
def resU (n : Nat) : Nat := n % 2 ^ 32

/-- An angle in 2^-32 turn as 0.001° in (−180°, +180°]. -/
def milliDeg (a : Int) : Nat :=
  let w := signed 32 (wrapTo 32 a)
  resS (quot ((if w = -(2 ^ 31) then 2 ^ 31 else w) * 360000) (2 ^ 32))

/-- A ratio in 10^-6, not available for a zero denominator. -/
def ratioMillionth (n : Int) (d : Nat) : Nat := if d = 0 then notAvail else resS (quot (n * 1000000) d)

/-- RMS of a window of `n` samples with SCALE `k`, in `u` units per SCALE unit. -/
def rmsValue (ss n k u : Nat) : Nat := if n = 0 then 0 else rootQ (ss * k * k * u * u) (n * 2 ^ 46)

/-- RMS of a fundamental with phasor sums `z` over `n` samples. -/
def fundValue (z : Int × Int) (n k u : Nat) : Nat :=
  if n = 0 then 0 else rootQ (2 * normSq z * k * k * u * u) (n * n * 2 ^ 106)

/-- The frame's window of samples. -/
def frameWin (s : State) : List (List Int) := s.metro.hist.take (frameLen s)

/-- The active power over the frame in mW: the mean of the cycle values (R107); `sel` selects P or Q of a cycle. -/
def meanPower (sel : PhaseCycle → Int) (p : Nat) (s : State) : Int :=
  let l := s.en.frameCycles.map fun c => sel (nth {} c p)
  if l.isEmpty then 0 else quot (sumInt l) (l.length * 1000 * 2 ^ 40)

/-- The DC component of current channel `c` over the frame in µA (R107). -/
def dcValue (c : Nat) (s : State) : Int :=
  let w := chanWin (frameWin s) c
  if w.isEmpty then 0 else quot (sumInt w * scale c s * 1000) (w.length * 2 ^ 23)

/-- The values of a phase in a frame (R107, R108): the sixteen entries of its set. -/
def phaseRes (p : Nat) (s : State) : List Nat :=
  if !(hasPhase p s) then List.replicate 15 notAvail ++ [0]
  else
    let S := s.metro.spc
    let w := frameWin s
    let n := w.length
    let wv := chanWin w p
    let wi := chanWin w (3 + p)
    let kv := scale p s
    let ki := scale (3 + p) s
    let zv := phasor S wv
    let zi := phasor S wi
    let pw := meanPower (·.p) p s
    let q := meanPower (·.q) p s
    let k : Int := kv * ki
    let p1 := if n = 0 then 0 else quot (2 * (zv.1 * zi.1 + zv.2 * zi.2) * k) (n * n * 2 ^ 106 * 1000)
    let q1 := if n = 0 then 0 else quot (2 * (zv.2 * zi.1 - zv.1 * zi.2) * k) (n * n * 2 ^ 106 * 1000)
    let app := if n = 0 then 0 else rootQ (sumSq wv * sumSq wi * (kv * ki) ^ 2) (n * n * 2 ^ 92 * 10 ^ 6)
    let app1 := if n = 0 then 0 else rootQ (4 * normSq zv * normSq zi * (kv * ki) ^ 2) (n ^ 4 * 2 ^ 212 * 10 ^ 6)
    let pass := inPass s
    let na (v : Nat) : Nat := if pass then notAvail else v
    let angV := Config.angle zv.1 zv.2
    let angA := let z := phasor S (chanWin w 0); Config.angle z.1 z.2
    [resS pw, na (resS q), resS p1, resS q1, na (resU app), na (resU (rmsValue (sumSq wv) n kv 1)),
      na (resU (rmsValue (sumSq wi) n ki 1000)), resU (fundValue zv n kv 1), resU (fundValue zi n ki 1000),
      if pass || isRogowski (3 + p) s then notAvail else resS (dcValue (3 + p) s),
      milliDeg (angV - angA), milliDeg (angV - Config.angle zi.1 zi.2),
      na (ratioMillionth pw app), ratioMillionth p1 app1, na (resU (root (pw * pw + q * q).toNat)), 0]

/-- The aggregate values of a frame (R110). DESIGN CHOICE: the frame's mean frequency is the mean of f_grid over its cycles (log 43). -/
def aggRes (s : State) : List Nat :=
  let ph := (phases s).map fun p => phaseRes p s
  let S := s.metro.spc
  let w := frameWin s
  let n := w.length
  let sumS (j : Nat) : Int := sumInt (ph.map fun r => signed 32 (nth 0 r j))
  let sumU (j : Nat) : Nat := sumNat (ph.map fun r => nth 0 r j)
  let pass := inPass s
  let na (v : Nat) : Nat := if pass then notAvail else v
  let pT := sumS 0
  let qT := sumS 1
  let vec := root (pT * pT + qT * qT).toNat
  let z (c : Nat) := addScaled (phasor S (chanWin w c)) (scale c s) (0, 0) 0
  let sum := if get F.PHE_CFG_WIRING s = 1 then z 3 else addScaled (addScaled (z 3) 1 (z 4) 1) 1 (z 5) 1
  let m := mismatch S w s
  let ix := if idleChan 7 s then notAvail else na (resU (rmsValue (sumSq (chanWin w 7)) n (scale 7 s) 1000))
  [resS pT, na (resS qT), resS (sumS 2), resS (sumS 3), na (resU (sumU 4)), na (resU vec),
    na (resU (rmsValue (sumSq (chanWin w 6)) n (scale 6 s) 1000)), ix,
    resU (fundValue sum n 1 1000), if m.2 = 0 then notAvail else resU (rootQ (m.1 * 10 ^ 8) m.2),
    na (ratioMillionth pT vec), resU (quot (s.metro.freqSum : Int) (1000 * cyclesPerFrame s)).toNat, 0, 0, 0, 0]

/-- Write the frame values (R107, R110). -/
def publishRes (s : State) : State :=
  let l := phaseRes 0 s ++ phaseRes 1 s ++ phaseRes 2 s ++ aggRes s
  (List.range 64).foldl (fun s k => put (F.PHE_RES_VALUE k) (nth 0 l k) s) s

/-- A completed frame waits for E7 (R134). -/
def handToE7 (fl : Nat) (s : State) : State :=
  let f : FrameSet := {
    num := get F.PHE_FRAME_NUM_FRAME s, perCycle := s.metro.spc, cycles := cyclesPerFrame s, status := fl
    marks := s.spec.marks, ref := get F.FLT_STATUS_TRK_REF s, freq := s.metro.fGrid, starts := s.spec.blockStart
    samples := (frameWin s).reverse, usable := s.spec.usable, unusable := s.spec.unusable, bands := s.spec.bands, spoiled := s.spec.spoiled }
  let s := if bit (spectrumFlags f) 0 then captureMark 3 s else s
  let s := if e7Works s then { s with spec := { s.spec with waiting := s.spec.waiting ++ [f] } } else s
  let keep := b2n s.spec.dip.isSome * 2 + b2n s.spec.swell.isSome * 4 + b2n s.spec.intr.isSome * 8
  { s with spec := { s.spec with marks := keep, usable := 0, unusable := 0, bands := [], spoiled := false } }

/-- The DC-injection check of a frame (R115): producer 9 trips, or releases, for the next frame. -/
def dcCheck (s : State) : State :=
  let thr := get F.PHE_TAMP_CFG_DC_THR s * 10000
  let bad := thr ≠ 0 ∧ !(inPass s) ∧ ((phases s).any fun p =>
    !(isRogowski (3 + p) s) && decide (thr < (dcValue (3 + p) s).natAbs))
  if bad then tripProducer 9 0 0 (raise F.PHE_CAUSE_DC_INJECT s)
  else if producer 9 s then releaseProducer 9 s else s

/-- The imbalance count of a frame (R113), and the release of the condition after a whole frame at or below THR. -/
def imbalanceCheck (s : State) : State :=
  let n := if s.en.imbalAll && !s.en.frameCycles.isEmpty then s.en.imbalFrames + 1 else 0
  let s := { s with en := { s.en with imbalFrames := n } }
  if flag F.NRG_STATUS_IMBAL_ACTIVE s && !s.en.imbalAny then releaseProducer 7 (put F.NRG_STATUS_IMBAL_ACTIVE 0 s) else s

/-- The tracker at the frame boundary (R96, R97): HOLD ends when the boundary cycle is clean; COAST ends on a qualifying channel;
a due return to VA takes effect. -/
def trackerBoundary (s : State) : State :=
  let st := get F.FLT_STATUS_TRK_STATE s
  let s := if get F.FLT_STATUS_TRK_REF s ≠ 0 ∧ !(qualifies 0 s) then { s with metro := { s.metro with fallbackSecs := 0 } } else s
  match s.metro.holdNext with
  | some c => moveRef c { s with metro := { s.metro with holdNext := none } }
  | none =>
    if st = 3 then
      if s.metro.cleanCycle then put F.FLT_STATUS_HOLD_RUN 0 (setTracker 2 s) else addSat F.FLT_STATUS_HOLD_RUN 1 s
    else if st = 4 then
      match (List.range 3).find? fun c => qualifies c s with
      | some c => if c = get F.FLT_STATUS_TRK_REF s then setTracker 1 s else moveRef c s
      | none => s
    else s

/-- E7 can acknowledge a staged profile (R28): it is ready, and, where the change leaves Pass, the staging lies 20 ms back. -/
def e7Acks (s : State) : Bool :=
  s.en.e7Ready && (!(inPass s) || decide (s.en.stagedAt + 2 ^ 39 / 50 ≤ s.metro.clock))

/-- The engines that acknowledge a staged profile at this boundary (R22, R28): those not quarantined, E7 once it is ready. Bits: 0
E3, 1 E4, 2 E5, 3 E6, 4 E7, 5 E9. -/
def ackMask (s : State) : Nat :=
  let up (e : Nat) : Bool := !(bit s.sup.quarantined e)
  b2n (up 3) + 2 * b2n (up 4) + 4 * b2n (up 5) + 8 * b2n (up 6) + 16 * b2n (up 7 && e7Acks s) + 32 * b2n (up 9)

/-- Roll a profile change back (R22): the engines missing are named, the frame carries the flag, D3 goes off again in Pass. -/
def rollback (s : State) : State :=
  let s := put F.PHE_PROFILE_ACK_MISSING (0x3F ^^^ (get F.PHE_PROFILE_ACK_ACK s)) s
  let s := dropProfile (raise F.PHE_CAUSE_PROFILE_ROLLBACK s)
  if inPass s then d3Off s else s

/-- The new profile takes effect at this epoch (R22, R28, R94, R102, R109, R148, R158). -/
def applyProfile (s : State) : State :=
  let p := s.en.profTo
  let s := if domOn 3 s then captureEpoch (pqEpoch s) else s
  let s := put F.PHE_PROFILE_CTL_ACTIVE p (dropProfile s)
  let s := put F.PHE_FRAME_POS_RATE (rateCode (samplesOf p)) s
  let s := { s with metro := { s.metro with spc := samplesOf p, freshCycle := true, hcAge := 0, hcValid := false } }
  let s := { s with en := { s.en with profNew := true }, spec := { s.spec with newBlock := true } }
  let s := raise F.PHE_CAUSE_PROFILE_DONE (setGrid s.metro.fGrid s)
  let s := if p = 2 then d3Off (popEvents s) else if p = 1 ∧ domOn 3 s then put F.SPE_STATUS_SH_RUN 0 s else s
  if s.conv.relief.isSome then s else idleRotation s

/-- A staged profile at a frame boundary (R22, R23): acknowledgements at the first two boundaries, the epoch after the last. -/
def profileBoundary (s : State) : State :=
  if !(flag F.PHE_PROFILE_CTL_PENDING s) then s
  else if s.en.profTo = profile s then raise F.PHE_CAUSE_PROFILE_DONE (dropProfile s)
  else
    let n := s.en.boundaries + 1
    let s := { s with en := { s.en with boundaries := n } }
    if get F.PHE_PROFILE_ACK_ACK s = 0x3F then applyProfile s
    else
      let s := put F.PHE_PROFILE_ACK_ACK (get F.PHE_PROFILE_ACK_ACK s ||| ackMask s) s
      if 2 ≤ n ∧ get F.PHE_PROFILE_ACK_ACK s ≠ 0x3F then rollback s else s

/-- The value that the image gives a register's field, 0 where it gives none. -/
def imageField (f : Fld) (s : State) : Nat :=
  match s.ld.imageRegs.find? fun e => e.1 == f.addr with
  | some e => fieldOf f e.2
  | none => 0

/-- The running METROLOGY section carries exactly the coefficients in force (R80). -/
def coefsSaved (s : State) : Bool :=
  (List.range 8).all fun n => nth (0, 0, 0) s.conv.inForce n ==
    (imageField (F.CNV_CHAN_GAIN_GAIN n) s, imageField (F.CNV_CHAN_OFS_OFS n) s, imageField (F.FLT_DELAY_DELAY n) s)

/-- A channel delay is staged that is not in force (`FLT_STATUS.DELAY_PENDING`). -/
def delayWaits (s : State) : Bool :=
  (List.range 8).any fun n => (nth (0, 0, 0) s.conv.inForce n).2.2 ≠ (stagedCoef n s).2.2

/-- Committed channel coefficients take effect (R79, R99): those of the commit, whatever has been staged since. -/
def commitBoundary (s : State) : State :=
  if !s.conv.commitPend then s
  else
    let delays := (List.range 8).any fun n => (nth (0, 0, 0) s.conv.inForce n).2.2 ≠ (nth (0, 0, 0) s.conv.committed n).2.2
    let s := { s with conv := { s.conv with commitPend := false, inForce := s.conv.committed } }
    let s := raiseIf delays F.FLT_CAUSE_DELAY_APPLIED
      (raise F.CNV_CAUSE_CAL_COMMITTED (put F.FLT_STATUS_DELAY_PENDING (b2n (delayWaits s)) s))
    let s := if coefsSaved s then put F.CNV_STATUS_CAL_UNSAVED 0 s else s
    { s with en := { s.en with bandNext := true } }

/-- A staged temperature band takes effect (R78). -/
def bandBoundary (s : State) : State :=
  if !(flag F.CNV_TEMP_PENDING s) then s
  else
    let s := put F.CNV_TEMP_BAND (get F.CNV_TEMP_PENDING_BAND s) (put F.CNV_TEMP_PENDING 0 s)
    captureMark 2 (raise F.CNV_CAUSE_BAND_CHANGE { s with en := { s.en with bandNext := true } })

/-- Slice `sb` takes channel `ch` with the first sample of the new frame (R66): the resampler goes on with its inputs; the frame and a capture carry the splice. -/
def takeChannel (ch sb : Nat) (s : State) : State :=
  let s := setMap ch sb (put (F.CNV_SLICE_CFG_ROLE sb) 0 (put (F.CNV_SLICE_CFG_CHAN sb) ch (put (F.CNV_SLICE_CFG_READY sb) 0
    (put (F.CNV_SLICE_CFG_PGA sb) (get (F.CNV_CHAN_CFG_PGA ch) s) s))))
  let s := { s with conv := { s.conv with lastTaken := upd s.conv.lastTaken sb (fun _ => sliceCoef sb s) } }
  let s := if s.conv.relief.any (fun r => r.chan == ch && r.new == sb) then
      { s with metro := { s.metro with inputs := upd s.metro.inputs ch (fun _ => s.metro.joined) } } else s
  let s := if flag F.CNV_CAL_CTL_BUSY s && decide (0 < s.conv.winLeft) then put F.CNV_CAL_CTL_SPLICED 1 s else s
  captureMark 1 { s with en := { s.en with spliceMark := true } }

/-- The calibration source is free for the slice just relieved (R63): a slice still on it is a spare that is not ready. -/
def freeSource (s : State) : State :=
  match s.conv.calOf with
  | none => s
  | some q => put (F.CNV_SLICE_CFG_ROLE q.old) 1 (put (F.CNV_SLICE_CFG_READY q.old) 0
      { s with conv := { s.conv with calOf := none, calStep := 0 } })

/-- The relief at a frame boundary (R65, R66, R24): a settled path opens its window; after the verdict Sb takes the channel and Sa
goes to the calibration source. -/
def reliefBoundary (s : State) : State :=
  match s.conv.relief with
  | none => s
  | some r =>
    let st := get F.CNV_STATUS_ROT_STATE s
    if st = 1 then
      if 2 * 2 ^ 39 ≤ (s.metro.clock - r.start) * 1000 then
        let fresh : Relief := { chan := r.chan, old := r.old, new := r.new, start := r.start, restarts := r.restarts }
        put F.CNV_STATUS_ROT_STATE 2 { s with conv := { s.conv with relief := some fresh } }
      else s
    else if st = 3 ∧ r.closed then
      let s := takeChannel r.chan r.new (freeSource s)
      let s := put (F.CNV_SLICE_CFG_ROLE r.old) 2 (put (F.CNV_SLICE_CFG_READY r.old) 0 s)
      let s := showSpares { s with conv := { s.conv with relief := none, calOf := some r, calStep := 1 } }
      raise F.CNV_CAUSE_SPLICE_DONE (put F.CNV_STATUS_ROT_STATE 3 s)
    else s

/-- Takeovers without a window (R71, R72), each completing the retirement of the slice it relieves; a relief open on that channel
is dropped. -/
def swapBoundary (s : State) : State :=
  let l := s.conv.swaps
  l.foldl (fun s e =>
    let old := sliceOf e.1 s
    if bit s.conv.doomed old && flag (F.CNV_SLICE_CFG_READY e.2) s then
      let s := if s.conv.relief.any (fun r => r.chan == e.1) then dropRelief s else s
      retireSlice old (takeChannel e.1 e.2 s)
    else s) { s with conv := { s.conv with swaps := [] } }

/-- Channels whose doomed slice no slice can replace any more fail (R72, R73); their comparators are held released (R101). -/
def failBoundary (s : State) : State :=
  if s.conv.doomed = 0 || !((spares s).isEmpty) then s
  else
    releaseDeadWins ((List.range 8).foldl (fun s ch =>
      let sl := sliceOf ch s
      if sl < 10 ∧ bit s.conv.doomed sl then
        put (F.CNV_CHAN_CFG_FAILED ch) 1 (retireSlice sl (setMap ch 15 s))
      else s) s)

/-- The calibration window at a frame boundary (R81). DESIGN CHOICE: PHASE or QTY rewritten while a window runs is stored, and the
window's end value is that of the new selection (log 42). -/
def calBoundary (s : State) : State :=
  if flag F.CNV_CAL_CTL_BUSY s ∧ 0 < s.conv.winLeft then
    let n := s.conv.winLeft - 1
    let e := if n = 0 then (calEnergy s + 2 ^ 96 - s.conv.winEnergy % 2 ^ 96) % 2 ^ 96 else s.conv.winEnergy
    { s with conv := { s.conv with winLeft := n, winEnergy := e } }
  else if s.conv.winPend then
    put F.CNV_CAL_CTL_BUSY 1 (put F.CNV_CAL_CTL_SPLICED 0 { s with conv := { s.conv with
      winPend := false, winLeft := get F.CNV_CAL_CTL_FRAMES s, winEnergy := calEnergy s } })
  else s

/-- The chain stops at the end of the frame (R91, R92). -/
def stopChain (s : State) : State :=
  let word := (rd s R.FLT_CTL).toNat % 2 ^ 24
  let s := dropRelief { s with metro := { s.metro with chainStop := false, chainDown := true } }
  let s := put F.FLT_STATUS_STOPPED 1 (put F.FLT_STATUS_HOLD_RUN 0 (setTracker 0 s))
  let s := if flag F.PHE_PROFILE_CTL_PENDING s then dropProfile s else s
  let s := raise F.FLT_CAUSE_STOP_DONE (releaseDeadWins s)
  let s := legalChange 0x0002 5 [changeEntry R.FLT_CTL (withBit word 0) word] s
  refreshLines 0 s

/-- The reference of the MPLL changes at this epoch (R55). -/
def clockBoundary (s : State) : State :=
  match s.sup.mpllNext with
  | none => s
  | some r =>
    let s := put F.CLK_STATUS_MPLL_REF r { s with sup := { s.sup with mpllNext := none } }
    if domOn 4 s then put F.CFG_STATUS_PROVISIONAL_CLK 0 s else s

/-- The status word of the frame that ends (R123): what was marked in it, and the conditions that hold now. -/
def statusWord (s : State) : Nat :=
  let w := s.en.flags
  let w := if get F.CLK_STATUS_MPLL_REF s = 2 then withBit w 3 else w
  let failed := ((List.range 8).any fun c => flag (F.CNV_CHAN_CFG_FAILED c) s) || s.conv.doomed != 0
  let w := if failed then withBit w 4 else w
  let persist := get F.PHE_NEUT_CFG_PERSIST s
  if flag F.NRG_STATUS_IMBAL_ACTIVE s || (decide (1 ≤ s.en.imbalFrames) && decide (persist ≤ s.en.imbalFrames))
    then withBit w 11 else w

/-- The marks with which the next frame begins (R123): splice, band or coefficients, new profile, tracker state. -/
def openFrame (s : State) : State :=
  let w := (if s.en.spliceMark then 2 ^ 7 else 0) + (if s.en.bandNext then 2 ^ 15 else 0) + (if s.en.profNew then 2 ^ 6 else 0) +
    (if s.en.restartMark then 2 ^ 14 else 0)
  trackerFlags { s with
    spec := { s.spec with newBlock := false, blockStart := s.spec.newBlock, agg := { s.spec.agg with
      cut := s.spec.agg.cut || s.spec.newBlock } },
    metro := { s.metro with pos := 0, cyc := 0, freqSum := 0 },
    en := { s.en with
      flags := w, noloadFrame := 0, frameCycles := [], imbalAll := true, imbalAny := false,
      spliceMark := false, bandNext := false, profNew := false, restartMark := false } }

/-- The changes that wait for an epoch, all on the first sample of the new frame (R12, R13). A profile change that rolls back at
this boundary marks the frame that ends. -/
def epoch (s : State) : State :=
  let s := calBoundary (commitBoundary (bandBoundary s))
  let s := swapBoundary (reliefBoundary s)
  let s := clockBoundary (failBoundary s)
  let s := trackerBoundary s
  let s := if s.metro.chainStop then stopChain s else s
  startWaiting s

/-- A complete frame ends (R14): its record, values, image and checks. -/
def completeFrame (s : State) : State :=
  let imbal := flag F.NRG_STATUS_IMBAL_ACTIVE s
  let s := imbalanceCheck s
  let pend := flag F.PHE_PROFILE_CTL_PENDING s
  let prof := s.en.profTo
  let fl := if imbal then withBit (statusWord s) 11 else statusWord s
  let rolled := pend && decide (prof ≠ profile s) && s.en.boundaries == 1 && get F.PHE_PROFILE_ACK_ACK s != 0x3F &&
    (get F.PHE_PROFILE_ACK_ACK s ||| ackMask s) != 0x3F
  let fl := if rolled then withBit fl 5 else fl
  let s := pushRec (frameRec (frameLen s) fl s) s
  let s := publishAcc (publishRes s)
  let s := put F.PHE_FRAME_STAT_FLAGS fl (put F.PHE_FRAME_STAT_FRAME (get F.PHE_FRAME_NUM_FRAME s % 2 ^ 16) s)
  let s := if s.en.imageDue then
      writeAccImage 1 (frameLen s - 1) { s with en := { s.en with imageDue := false } } else s
  handToE7 fl (dcCheck s)

/-- A complete frame ends and the next one begins (R14, R12). -/
def closeFrame (s : State) : State :=
  let s := completeFrame s
  let s := { s with metro := { s.metro with ended := (get F.PHE_FRAME_NUM_FRAME s, frameLen s - 1), endedSpc := s.metro.spc } }
  let s := epoch (profileBoundary s)
  if s.metro.chainDown then openFrame s
  else
    let n := (get F.PHE_FRAME_NUM_FRAME s + 1) % 2 ^ 32
    openFrame (raiseIf (n = 0) F.PHE_CAUSE_FRAME_WRAP (put F.PHE_FRAME_NUM_FRAME n s))

/-- A re-read's stop lasted from the freeze to this frame (R52): the loss is logged with KIND 0x0107. -/
def logRereadLoss (s : State) : State :=
  match s.ld.rereadFrom with
  | none => s
  | some t =>
    let f := fresh s
    let ms := (s.sup.mono - t) * 1000 / 1024 + f.1 % 1000
    legalEvent 0x0107 0xFF [le 4 ((ms + 199) / 200) ++ le 4 (satNat (2 ^ 32 - 1) ms)]
      { f.2 with ld := { f.2.ld with rereadFrom := none } }

/-- The outage closing record of R148: appended when the newest record of the log ended in a power-fail freeze. -/
def outageRecord (s : State) : State :=
  match s.sup.freeze with
  | none => s
  | some fz =>
    let newest := sparseGet ({} : PqRec) s.cis.b3.pq ((counter 3 s + 255) % 256)
    if counter 3 s = 0 ∨ newest.kind = 0 ∨ newest.chan < 128 ∨ newest.kind = 4 then s
    else
      let f := fresh s
      let ms := satNat 0xFFFFFFFE ((rtc s - fz.rtc) * 1000 + f.1 % 1000)
      pqAppend { seq := pqSeq s, kind := 4, durHc := 0xFFFFFFFF, durMs := ms, rtcStart := fz.rtc } f.2

/-- The quiet times that wait for the first valid frame start (R274). -/
def startQuiet (s : State) : State :=
  if s.tamp.quietWait then
    { s with tamp := { s.tamp with quietWait := false, quietFrom := List.replicate 64 s.sup.mono } }
  else s

/-- The first valid frame of a run, or the first after a chain restart, begins (R11, R91): numbered 0, or N + 1; every phase is outside
no-load (R116). The records of a stop and of a restart carry `FLT_CTL` before and after it (R239); the stopped time is the
difference of their RTC (log 42). -/
def firstFrame (s : State) : State :=
  let again := s.metro.chainRestart
  let n := if again then (get F.PHE_FRAME_NUM_FRAME s + 1) % 2 ^ 32 else 0
  let s := put F.PHE_FRAME_NUM_FRAME n (put F.PHE_FRAME_POS_VALID 1 s)
  let s := raiseIf (again && n == 0) F.PHE_CAUSE_FRAME_WRAP s
  let s := { s with
    metro := { s.metro with chainRestart := false, chainDown := false, freshCycle := true },
    en := { s.en with restartMark := true, accStart := s.en.acc, frameCycles := [] } }
  let s := put F.NRG_STATUS_NOLOAD_ACT 0 (put F.NRG_STATUS_NOLOAD_REACT 0 s)
  let s := openFrame (if again then s else { s with spec := { s.spec with agg := {}, newBlock := true } })
  if again then
    let word := (rd s R.FLT_CTL).toNat % 2 ^ 24
    legalChange 0x0002 5 [changeEntry R.FLT_CTL (noBit word 0) word] (raise F.FLT_CAUSE_RESTART s)
  else
    let f := fresh s
    let s := put F.CFG_FIRST_FRAME_TIME_100US (f.1 % 2 ^ 16) f.2
    let s := if get F.CNV_STATUS_ROT_STATE s = 7 then idleRotation (put F.CNV_STATUS_ROT_STATE 0 s) else s
    let s := { s with conv := { s.conv with rotAt := s.metro.clock, standbyAt := s.metro.clock } }
    outageRecord (logRereadLoss (startQuiet s))

/-- A frame boundary: the end of a complete frame, or the cycle boundary at which the first valid frame begins because the
tracker has locked (R11, R91, R95). -/
def frameBoundary (s : State) : State :=
  if !(metroOn s) then s
  else if framesRun s then (if s.metro.cyc = cyclesPerFrame s ∧ s.metro.pos = frameLen s then closeFrame s else s)
  else if get F.FLT_STATUS_TRK_STATE s = 2 ∧ s.metro.pos = s.metro.cyc * s.metro.spc ∧ configured s ∧ 0 < s.metro.cyc then
    firstFrame s
  else s

/-- How long P_T has exceeded the maximum power limit (R197): the metrology time at which the first frame of the row began; `start`
is when the frame just completed began. -/
def mplFrame (start : Nat) (s : State) : State :=
  let lim := s.pay.cur.mpl
  let ov := lim ≠ 0 ∧ ((lim * 1000 : Nat) : Int) < signed 32 (get (F.PHE_RES_VALUE 48) s)
  { s with rly := { s.rly with mplFrom := if ov then some (s.rly.mplFrom.getD start) else none } }

/-- FRAME_BOUNDARY (R14). -/
def execFrameBoundary (s : State) : Out :=
  let full := metroOn s && framesRun s && s.metro.cyc == cyclesPerFrame s && s.metro.pos == frameLen s
  let start := s.metro.clock - frameLen s * get F.FLT_TRK_STEP_STEP s
  .next (if full then mplFrame start (frameBoundary s) else frameBoundary s)

/-- Stage profile `p` (R22, R23): refused while a change is pending and before the first valid frame; leaving Pass powers D3 up at
once (R28). -/
def stageProfile (p : Nat) (s : State) : State :=
  if flag F.PHE_PROFILE_CTL_PENDING s || !(flag F.PHE_FRAME_POS_VALID s) then raise F.PHE_CAUSE_PROFILE_REFUSED s
  else
    let s := put F.PHE_PROFILE_CTL_PENDING 1 (put F.PHE_PROFILE_ACK_ACK 0 (put F.PHE_PROFILE_ACK_MISSING 0 s))
    let s := { s with en := { s.en with profTo := p, boundaries := 0, stagedAt := s.metro.clock } }
    if inPass s ∧ p ≠ 2 then let t := d3On s; { t with en := { t.en with e7Ready := false } } else s

/-- A write of `PHE_PROFILE_CTL`: a REQ of 3 drops it. -/
def profileCtlWrite (w : Word) (s : State) : State :=
  if arg F.PHE_PROFILE_CTL_REQ w = 3 then raise F.PHE_CAUSE_PROFILE_REFUSED s
  else
    let s := plainWrite R.PHE_PROFILE_CTL w s
    if arg F.PHE_PROFILE_CTL_STAGE w = 1 then stageProfile (arg F.PHE_PROFILE_CTL_REQ w) s else s

/-- PROFILE_STAGE (R22). -/
def execProfileStage (m : Master) (w : Word) (s : State) : Out := cmdWrite m R.PHE_PROFILE_CTL (profileCtlWrite w) s

/-- E7_READY (R28). -/
def execE7Ready (s : State) : Out := onlyIf (e7Up s) (fun s => { s with en := { s.en with e7Ready := true } }) s

end Sys2Proof.Machine
end

