-- ==== Sys2Proof/Machine/Credit.lean ====
section
/-! DEFINITION. The credit account, the reasons to open the supply and the relays (chapter 08, R184 to R188 and R196 to R203). -/
namespace Sys2Proof.Machine

/-- E2's account: change the credit record as it stands. -/
def updCredit (f : CreditRec → CreditRec) (s : State) : State := { s with pay := { s.pay with cur := f s.pay.cur } }

/-- Change the relays' state. -/
def updRly (f : RlySt → RlySt) (s : State) : State := { s with rly := f s.rly }

/-- The credit record of KIND `k` as E2 writes it (R196). -/
def creditRec (k : Nat) (s : State) : CreditRec :=
  { s.pay.cur with
    kind := k, state := get F.PAY_STATUS_STATE s,
    flags := b2n s.pay.ec + 2 * b2n s.pay.friendly + 4 * b2n (flag F.PAY_STATUS_MPL_TRIP s),
    reasons := get F.RLY_STATUS_REASONS s, main := get F.RLY_STATUS_MAIN_CMD s, mainVer := get F.RLY_STATUS_MAIN_STATE s,
    lc := get F.RLY_STATUS_LC_STATE s }

/-- Write the credit record into bank 0 (R196). -/
def writeCredit (k : Nat) (s : State) : State :=
  dirty 0 { s with cis := { s.cis with b0 := { s.cis.b0 with credit := writeCopy s.cis.b0.credit (creditRec k s) } } }

/-- Show the account in the PAY registers and `RLY_OPS` (R204). -/
def showCredit (s : State) : State :=
  let c := wrapTo 64 s.pay.cur.credit
  let s := put F.PAY_CREDIT_LO_CREDIT (c % 2 ^ 32) (put F.PAY_MONTH_WH (satNat (2 ^ 32 - 1) (s.pay.cur.month / 1000)) s)
  let s := put F.PAY_MPL_LIMIT s.pay.cur.mpl (put F.PAY_STATUS_QUEUE s.pay.queue.length s)
  put F.PAY_STATUS_EC_ACTIVE (b2n s.pay.ec) (put F.PAY_STATUS_NO_PREPAY (b2n s.ld.tables.prepay.isNone)
    (put F.RLY_OPS_OPS s.pay.cur.ops s))

/-- The block in force for `month` mWh (R185): the last one has no limit. -/
def blockAt : List (Nat × Nat) → Nat → Nat
  | [], _ => 0
  | [_], _ => 0
  | b :: t, m => if m < b.2 * 10 ^ 6 then 0 else 1 + blockAt t m

/-- The charge, in 10^-6 mCU, of `e` mWh from `month` on (R185): divided at the block limits. -/
def blockCharge : List (Nat × Nat) → Nat → Nat → Nat
  | [], _, _ => 0
  | [b], _, e => b.1 * e
  | b :: t, m, e =>
    let room := b.2 * 10 ^ 6 - m
    if e ≤ room then b.1 * e else b.1 * room + blockCharge t (m + room) (e - room)

/-- The charge of `e` mWh at the price in force (R184, R185). -/
def chargeOf (p : Prepay) (rate month e : Nat) : Nat :=
  if p.blockMode then blockCharge p.blocks month e else nth 0 p.ratePrice (rate - 1) * e

/-- Show the block in force; a change sets `PAY_CAUSE.BLOCK_CHANGE`. -/
def showBlock (p : Prepay) (s : State) : State :=
  let b := if p.blockMode then blockAt p.blocks s.pay.cur.month else 0
  raiseIf (b ≠ get F.PAY_STATUS_BLOCK s) F.PAY_CAUSE_BLOCK_CHANGE (put F.PAY_STATUS_BLOCK b s)

/-- E2 charges `e` mWh of active import (R184): the charge goes to the residue, its whole mCU out of C; MONTH grows. -/
def chargeCredit (rate e : Nat) (s : State) : State :=
  match s.ld.tables.prepay with
  | none => updCredit (fun c => { c with month := c.month + e }) s
  | some p =>
    let c := s.pay.cur
    let r := c.resid + chargeOf p rate c.month e
    showBlock p (updCredit (fun c => { c with
      credit := c.credit - (r / 10 ^ 6 : Nat), resid := r % 10 ^ 6, month := c.month + e }) s)

/-- A block month starts (R185). -/
def startMonth (s : State) : State :=
  let s := raise F.PAY_CAUSE_BLOCK_CHANGE (updCredit (fun c => { c with month := 0 }) s)
  put F.PAY_STATUS_BLOCK 0 s

/-- The credit state (R186). -/
def creditState (p : Prepay) (s : State) : Nat :=
  let c := s.pay.cur.credit
  if p.low < c then 0 else if 0 < c then 1 else if s.pay.ec ∧ -p.ecLimit < c then 2 else 3

/-- Emergency credit ends when C is above 0 (R187). -/
def endEmergency (s : State) : State := if 0 < s.pay.cur.credit then { s with pay := { s.pay with ec := false } } else s

/-- Evaluate the credit state (R186, R187); a change of state sets its cause bit. -/
def evalCredit (s : State) : State :=
  match s.ld.tables.prepay with
  | none => s
  | some p =>
    let s := endEmergency s
    let st := creditState p s
    if st = get F.PAY_STATUS_STATE s then s
    else raiseAt F.PAY_CAUSE_STATE_IN st (put F.PAY_STATUS_STATE st s)

/-- Whether the image in force drives the relays (R195: not in fallback, which has no RELAYS section). -/
def relaysOn (s : State) : Bool := s.ld.tables.relays && !(inFallback s)

/-- Counters that open the supply (R272, R197), but for those a token has dealt with. -/
def tamperOpens (s : State) : Nat :=
  (List.range 64).foldl (fun n c =>
    if isLasting c s && flag (F.TAMP_FC_RESP_OPEN_SUPPLY c) s && !(guarded s) && !(inFallback s) then withBit n c else n) 0

/-- The CREDIT reason (R197, R188). -/
def creditReason (s : State) : Bool :=
  match s.ld.tables.prepay with
  | none => false
  | some p =>
    let was := bit (get F.RLY_STATUS_REASONS s) 0
    let st := get F.PAY_STATUS_STATE s
    if st = 3 then was || (!s.pay.friendly && !(inFallback s))
    else if st = 2 then false
    else was && !(decide (p.reconMin < s.pay.cur.credit))

/-- No coil pulse and no change of a drive may begin: guarded start, a freeze, or a relay-drive freeze line (R44, R201). -/
def driveHeld (s : State) : Bool := guarded s || flag F.NRG_STATUS_FROZEN s || freezing s

/-- The load-control pulse that waits starts, unless the drive is held or a main pulse goes first (R201). -/
def startLcPulse (s : State) : State :=
  match s.rly.lcPulseWant with
  | none => s
  | some on =>
    if driveHeld s || !(relaysOn s) then raiseIf (freezing s && relaysOn s) F.RLY_CAUSE_FREEZE_WAIT s
    else if s.rly.pulse.isSome || s.rly.want.isSome || s.rly.lcPulse.isSome then s
    else abortSounding 3 (updRly (fun r => { r with lcPulse := some on, lcPulseWant := none }) s)

/-- A latching load-control relay that stands otherwise than the state is pulsed (R202): after a restart, when the load went off at the
freeze (R203, log 26). -/
def matchLatch (s : State) : State :=
  let on := flag F.RLY_STATUS_LC_STATE s
  if flag F.RLY_LC_CFG_LC_MODE s && relaysOn s && s.rly.lcPulse.isNone && s.rly.lcPulseWant.isNone && s.rly.lcLatch != on then
    updRly (fun r => { r with lcPulseWant := some on }) s
  else s

/-- Change the load-control supply (R202): its state, `LC_OFF_T` or the tick of the change to on, the drive or a pulse. -/
def switchLc (on : Bool) (s : State) : State :=
  let s := raise F.RLY_CAUSE_LC_CHANGE (put F.RLY_STATUS_LC_STATE (b2n on) (put F.RLY_STATUS_LC_PENDING 0
    (put F.RLY_LC_WAIT_SECONDS 0 s)))
  let s := if on then updRly (fun r => { r with lcOnAt := s.sup.mono, lcRand := 0 }) s
    else updCredit (fun c => { c with lcOffT := rtc s }) s
  let s := if !(flag F.RLY_LC_CFG_LC_MODE s) then updRly (fun r => { r with lcDrive := on }) s
    else startLcPulse (updRly (fun r => { r with lcPulseWant := some on }) s)
  writeCredit 3 s

/-- A draw of the restoration delay, 0 s to RAND s (R203), from the TRNG. -/
def drawDelay (s : State) : State :=
  let f := fresh s
  { f.2 with rly := { f.2.rly with lcRand := f.1 % (get F.RLY_LC_CFG_RAND s + 1) } }

/-- The wanted state of the load-control supply (R202): off whenever the main is open or moving (R203). -/
def lcWanted (s : State) : Bool :=
  let low := match s.ld.tables.prepay with
    | some p => p.lcLowShed && get F.PAY_STATUS_STATE s != 0
    | none => false
  bit (get F.RLY_LC_CFG_RATES s) (s.bil.cur.rate - 1) && !s.rly.shed && !low && !(flag F.RLY_STATUS_MAIN_CMD s) &&
    get F.RLY_STATUS_MAIN_STATE s != 2 && get F.RLY_STATUS_MAIN_STATE s != 3

/-- Seconds until the minimum times allow the wanted change (R203). After a reclose or a restart the delay drawn follows the minimum off
time, or the reclose or restart itself where that time has passed already. -/
def lcWait (on : Bool) (s : State) : Nat :=
  if on then (max (s.pay.cur.lcOffT + 60 * get F.RLY_LC_CFG_MIN_OFF s) s.rly.lcFrom + s.rly.lcRand) - rtc s
  else (s.rly.lcOnAt + 1024 * 60 * get F.RLY_LC_CFG_MIN_ON s - s.sup.mono + 1023) / 1024

/-- Evaluate the load-control supply: a change that is due is made, one that is not is deferred, a wish that has gone cancels it
(R203); a pulse that waits starts once it may. -/
def evalLc (s : State) : State :=
  let s := startLcPulse (matchLatch s)
  let want := lcWanted s
  if !(relaysOn s) then s
  else if want = flag F.RLY_STATUS_LC_STATE s then put F.RLY_STATUS_LC_PENDING 0 (put F.RLY_LC_WAIT_SECONDS 0 s)
  else
    let w := lcWait want s
    if w = 0 ∧ !(driveHeld s) then switchLc want s
    else
      let s := raiseIf (!(flag F.RLY_STATUS_LC_PENDING s) && decide (0 < w)) F.RLY_CAUSE_LC_DEFERRED s
      raiseIf (freezing s) F.RLY_CAUSE_FREEZE_WAIT (put F.RLY_LC_WAIT_SECONDS w (put F.RLY_STATUS_LC_PENDING 1 s))

/-- The load goes off with the main (R203). -/
def dropLc (s : State) : State :=
  let s := drawDelay (updCredit (fun c => { c with lcOffT := rtc s }) s)
  if flag F.RLY_STATUS_LC_STATE s && relaysOn s then switchLc false s else s

/-- Command the main disconnect (R197, R198): the credit record is written, `MAIN_STATE` reads moving, a pulse waits. -/
def commandMain (openIt : Bool) (s : State) : State :=
  let s := put F.RLY_STATUS_ARMED 0 (put F.RLY_STATUS_MAIN_STATE 3 (put F.RLY_STATUS_MAIN_CMD (b2n openIt) s))
  let s := updRly (fun r => { r with want := some openIt, retry := none, verify := none, tries := 0 }) s
  let s := if openIt then dropLc s else s
  raiseIf (freezing s) F.RLY_CAUSE_FREEZE_WAIT (writeCredit 3 s)

/-- The commanded state follows the reasons (R197): open while any is set; when the last clears the relay closes, or is armed. -/
def driveMain (s : State) : State :=
  let r := get F.RLY_STATUS_REASONS s
  let cmd := flag F.RLY_STATUS_MAIN_CMD s
  if !(relaysOn s) || guarded s || flag F.NRG_STATUS_FROZEN s then s
  else if r ≠ 0 then (if cmd then put F.RLY_STATUS_ARMED 0 s else commandMain true s)
  else if !cmd then s
  else if flag F.RLY_MAIN_CFG_RECONNECT s then put F.RLY_STATUS_ARMED 1 s
  else commandMain false s

/-- Evaluate the reasons (R197): the MPL reason is `PAY_STATUS.MPL_TRIP`, REMOTE is as commanded. -/
def evalReasons (s : State) : State :=
  let t := tamperOpens s
  let s := updRly (fun r => { r with tampAck := r.tampAck &&& t }) s
  let old := get F.RLY_STATUS_REASONS s
  let n := b2n (creditReason s) + 2 * b2n (flag F.PAY_STATUS_MPL_TRIP s) +
    4 * b2n ((t &&& (0xFFFFFFFFFFFFFFFF ^^^ s.rly.tampAck)) != 0) + 8 * b2n (bit old 3)
  evalLc (driveMain (put F.RLY_STATUS_REASONS n s))

/-- After the release of guarded start (R201): the reasons are evaluated afresh, and a pulse is issued only when the verified state
differs from the result. -/
def releaseRelays (s : State) : State :=
  let s := evalReasons s
  let cmd := flag F.RLY_STATUS_MAIN_CMD s
  if !(relaysOn s) || s.rly.want.isSome || get F.RLY_STATUS_MAIN_STATE s = (if cmd then 2 else 1) then s
  else commandMain cmd s

/-- Friendly periods at stage 6 (R188), from the civil time `c` of the tariff and the special days of its date. -/
def evalFriendly (special : List Nat) (c : Int) (s : State) : State :=
  let f := match s.ld.tables.prepay with
    | none => false
    | some p => friendlyAt p special c
  raiseIf (f != s.pay.friendly) F.PAY_CAUSE_FRIENDLY_CHANGE
    (put F.PAY_STATUS_FRIENDLY (b2n f) { s with pay := { s.pay with friendly := f } })

/-- Emergency credit (R187). -/
def requestEc (s : State) : State :=
  match s.ld.tables.prepay with
  | none => raise F.PAY_CAUSE_EC_REFUSED s
  | some p =>
    if p.ecEn ∧ !s.pay.ec ∧ s.pay.cur.credit ≤ p.ecOffer then
      let s := raise F.PAY_CAUSE_EC_GRANT { s with pay := { s.pay with ec := true } }
      showCredit (writeCredit 3 (evalReasons (evalCredit s)))
    else raise F.PAY_CAUSE_EC_REFUSED s

/-- MPL_TIME and MPL_HOLD in seconds (R197): the defaults where there is no PREPAY section. -/
def mplTimes (s : State) : Nat × Nat :=
  let p := s.ld.tables.prepay.getD {}
  (p.mplTime, p.mplHold)

/-- MPL_TRIP (R197): P_T has exceeded the limit in every frame for MPL_TIME. -/
def execMplTrip (s : State) : Out :=
  match s.rly.mplFrom with
  | none => .next s
  | some t =>
    onlyIf (e2Up s && !(flag F.PAY_STATUS_MPL_TRIP s) && decide ((mplTimes s).1 * 2 ^ 39 ≤ s.metro.clock - t)) (fun s =>
      let s := raise F.PAY_CAUSE_MPL_CHANGE (put F.PAY_STATUS_MPL_TRIP 1 s)
      showCredit (evalReasons (updRly (fun r => { r with mplSetAt := s.sup.mono }) s))) s

/-- MPL_RELEASE (R197): MPL_HOLD seconds after it was set, or the limit removed. -/
def execMplRelease (s : State) : Out :=
  onlyIf (e2Up s && flag F.PAY_STATUS_MPL_TRIP s &&
      (decide (s.rly.mplSetAt + 1024 * (mplTimes s).2 ≤ s.sup.mono) || s.pay.cur.mpl == 0)) (fun s =>
    evalReasons (raise F.PAY_CAUSE_MPL_CHANGE (put F.PAY_STATUS_MPL_TRIP 0
      { s with rly := { s.rly with mplFrom := none } }))) s

/-- A write of `RLY_CTL` (R204): the wrong key, or two opposing bits, refuses it whole. -/
def rlyCtlWrite (w : Word) (s : State) : State :=
  let o := arg F.RLY_CTL_REMOTE_OPEN w = 1
  let c := arg F.RLY_CTL_REMOTE_CLOSE w = 1
  let sh := arg F.RLY_CTL_LC_SHED w = 1
  let re := arg F.RLY_CTL_LC_RESTORE w = 1
  if arg F.RLY_CTL_KEY w ≠ 0x96 ∨ (o ∧ c) ∨ (sh ∧ re) then raise F.RLY_CAUSE_CMD_REFUSED s
  else
    let s := if o then put F.RLY_STATUS_REASONS (withBit (get F.RLY_STATUS_REASONS s) 3) s
      else if c then put F.RLY_STATUS_REASONS (noBit (get F.RLY_STATUS_REASONS s) 3) s else s
    let s := if sh then updRly (fun r => { r with shed := true }) s else if re then updRly (fun r => { r with shed := false }) s else s
    evalReasons s

/-- REMOTE_OPEN (R197). -/
def execRemoteOpen (m : Master) (w : Word) (s : State) : Out := cmdWrite m R.RLY_CTL (rlyCtlWrite w) s

/-- REMOTE_CLOSE (R197). -/
def execRemoteClose (m : Master) (w : Word) (s : State) : Out := cmdWrite m R.RLY_CTL (fun s => rlyCtlWrite w s) s

/-- LC_SHED (R202). -/
def execLcShed (m : Master) (w : Word) (s : State) : Out := cmdWrite m R.RLY_CTL (fun t => rlyCtlWrite w t) s

/-- LC_RESTORE (R202). -/
def execLcRestore (m : Master) (w : Word) (s : State) : Out := cmdWrite m R.RLY_CTL (rlyCtlWrite w ·) s

/-- The customer's accept key closes an armed main (R197). -/
def acceptReconnect (s : State) : State :=
  if flag F.RLY_STATUS_ARMED s && get F.RLY_STATUS_REASONS s == 0 then commandMain false s else s

/-- A main pulse may start now (R198, R201): 2 s after the last, nothing held, no pulse running. -/
def mainMayPulse (s : State) : Bool :=
  e2Up s && !(driveHeld s) && relaysOn s && s.rly.pulse.isNone && s.rly.lcPulse.isNone &&
    (match s.rly.lastPulse with | none => true | some t => decide (t + 2048 ≤ s.sup.mono))

/-- A main pulse to the state `o` begins; what an earlier command left to verify or to repeat is done with. -/
def startPulse (o : Bool) (s : State) : State :=
  abortSounding 3 (updRly (fun r => { r with
    want := none, retry := none, verify := none, pulse := some o, lastPulse := some s.sup.mono }) s)

/-- A pulse that may not start because a relay-drive freeze line is active waits, and says so (R201). -/
def pulseWaits (s : State) : State := raiseIf (freezing s && domOn 5 s) F.RLY_CAUSE_FREEZE_WAIT s

/-- MAIN_PULSE_START (R198, R201): `DISC_B` (open) or `DISC_A` (close) goes active. -/
def execMainPulseStart (s : State) : Out :=
  match s.rly.want with
  | none => .next s
  | some o => .next (if mainMayPulse s then startPulse o s else pulseWaits s)

/-- MAIN_PULSE_END (R198, R201): the pulse, which always runs its full width, ends; verification follows, unless a later command waits,
and a load-control pulse that waited starts after it. -/
def execMainPulseEnd (s : State) : Out :=
  match s.rly.pulse with
  | none => .next s
  | some o =>
    .next (startLcPulse (updRly (fun r => { r with pulse := none, verify := if r.want.isNone then some o else none }) s))

/-- The phases assessed and, of these, those that verify the state (R199): per phase three cycles of load sense and voltage in mV. -/
def verdict (o : Bool) (cyc : List (List (Nat × Nat))) (s : State) : List Bool :=
  let vmin := get F.PHE_CFG_VNOM s * 2
  let closeP := 50 + 5 * get F.RLY_MAIN_CFG_CLOSE_PCT s
  let openP := 5 * get F.RLY_MAIN_CFG_OPEN_PCT s
  (cyc.filter fun ph => !ph.isEmpty && ph.all fun e => decide (vmin ≤ e.2)).map fun ph =>
    ph.all fun e => if o then decide (e.1 * 100 ≤ openP * e.2) else decide (closeP * e.2 ≤ e.1 * 100)

/-- `MAIN_STATE` reads `v`; a change is written into the credit record (R196). -/
def setMainState (v : Nat) (s : State) : State :=
  if get F.RLY_STATUS_MAIN_STATE s = v then s else writeCredit 3 (put F.RLY_STATUS_MAIN_STATE v s)

/-- The main is verified as commanded (R199): the random delay of a load-control supply that waits counts from a reclose at the
earliest (R203). -/
def mainVerified (o : Bool) (s : State) : State :=
  let s := updRly (fun r => { r with tries := 0, lcFrom := if o then r.lcFrom else rtc s }) s
  let s := setMainState (if o then 2 else 1) s
  let s := if o then raise F.RLY_CAUSE_MAIN_OPENED s else raise F.RLY_CAUSE_MAIN_CLOSED s
  { s with lmd := { s.lmd with verifAt := some s.sup.mono } }

/-- A verdict that fails (R198, R199): the pulse is due again, or the retries are used up. -/
def mainFails (o : Bool) (s : State) : State :=
  if s.rly.tries < get F.RLY_MAIN_CFG_RETRY s then
    setMainState 3 (updRly (fun r => { r with retry := some o, retryFrom := s.sup.mono, tries := r.tries + 1 }) s)
  else occurrence 37 0 0 (raise F.RLY_CAUSE_VERIFY_FAIL (setMainState 0 (updRly (fun r => { r with tries := 0 }) s)))

/-- MAIN_VERIFY (R199): the verdict on the commanded state from three cycles of each live phase; with no phase to assess there is
none, and the verification is made again. -/
def execMainVerify (cyc : List (List (Nat × Nat))) (s : State) : Out :=
  match s.rly.verify with
  | none => .next s
  | some _ =>
    let o := flag F.RLY_STATUS_MAIN_CMD s
    let v := verdict o cyc s
    if !(e2Up s) then .next s
    else if v.isEmpty then .next (showCredit (setMainState 0 s))
    else
      let s := updCredit (fun c => { c with ops := (c.ops + 1) % 2 ^ 32 }) (updRly (fun r => { r with verify := none }) s)
      .next (showCredit (writeCredit 3 (if v.all id then mainVerified o s else mainFails o s)))

/-- MAIN_RETRY (R198): the pulse is repeated 1 s after the verdict at the earliest, 2 s after the last pulse in every case. -/
def execMainRetry (s : State) : Out :=
  match s.rly.retry with
  | none => .next s
  | some o =>
    .next (if mainMayPulse s && decide (s.rly.retryFrom + 1024 ≤ s.sup.mono) then startPulse o s else pulseWaits s)

/-- The main is verified open. -/
def verifiedOpen (s : State) : Bool := get F.RLY_STATUS_MAIN_STATE s = 2

/-- A producer trips on `trips` and is released on `quiet` (R200). -/
def threeCycles (x : Nat) (cause : Fld) (trips quiet : Bool) (s : State) : State :=
  if !(e2Up s) then s
  else if trips then (if producer x s then s else tripProducer x 0 0 (raise cause s))
  else if quiet && producer x s then releaseProducer x s
  else s

/-- The condition `p` on three cycles of each phase, with the main verified open (R200): one phase meets it in all three; no phase meets
it in any. -/
def openCycles {α : Type} (p : α → Bool) (cyc : List (List α)) (s : State) : Bool × Bool :=
  (verifiedOpen s && cyc.any (fun ph => ph.length == 3 && ph.all p), !(verifiedOpen s && cyc.any fun ph => ph.any p))

/-- LOADV (R200): three cycles of load sense and voltage in mV for each phase. -/
def execLoadv (cyc : List (List (Nat × Nat))) (s : State) : Out :=
  let openP := 5 * get F.RLY_MAIN_CFG_OPEN_PCT s
  let r := openCycles (fun e : Nat × Nat => decide (openP * e.2 < e.1 * 100)) cyc s
  .next (threeCycles 10 F.RLY_CAUSE_LOADV r.1 r.2 s)

/-- OPEN_I (R200): three cycles of RMS in mA for each phase. -/
def execOpenI (cyc : List (List Nat)) (s : State) : Out :=
  let thr := 20 * get F.RLY_MAIN_CFG_OPEN_I s
  let r := openCycles (fun i : Nat => decide (thr < i)) cyc s
  .next (threeCycles 11 F.RLY_CAUSE_OPEN_I r.1 r.2 s)

/-- FREEZE_RELEASE (R201): with no relay-drive freeze line active, the load-control change that waited on one is evaluated again;
main pulses that wait start with their own event. -/
def execFreezeRelease (s : State) : Out :=
  let s := refreshLines 0 s
  if freezing s || !(e2Up s) then .next s else .next (evalLc s)

/-- LC_SWITCH (R203): the deferred change takes effect. -/
def execLcSwitch (s : State) : Out :=
  onlyIf (e2Up s && flag F.RLY_STATUS_LC_PENDING s && relaysOn s && !(driveHeld s) && lcWanted s != flag F.RLY_STATUS_LC_STATE s &&
    lcWait (lcWanted s) s == 0) (fun s => switchLc (lcWanted s) s) s

/-- LC_PULSE_END (R202): the pulse on `LC_A` or `LC_B` ends, and the relay stands as it says; a sounding that it abandoned is due 5 s
later (R319). -/
def execLcPulseEnd (s : State) : Out :=
  match s.rly.lcPulse with
  | none => .next s
  | some on =>
    let s := updRly (fun r => { r with lcPulse := none, lcLatch := on }) s
    .next (startLcPulse (if s.lmd.repeatRly then updLmd (fun l => { l with verifAt := some s.sup.mono }) s else s))

/-- The load at a power-fail freeze (R203): it is off with the mains, no pulse being issued; the record tells from when. -/
def dropLoadAtFreeze (s : State) : State :=
  let s := updCredit (fun c => { c with lcOffT := rtc s }) s
  if !(relaysOn s) then s
  else
    let s := raiseIf (flag F.RLY_STATUS_LC_STATE s) F.RLY_CAUSE_LC_CHANGE s
    put F.RLY_STATUS_LC_STATE 0 (put F.RLY_STATUS_LC_PENDING 0 (put F.RLY_LC_WAIT_SECONDS 0
      (updRly (fun r => { r with lcDrive := false, lcPulseWant := none }) s)))

end Sys2Proof.Machine
end

