-- ==== Sys2Proof/Machine/Billing.lean ====
section
/-! DEFINITION. Billing registers, demand, load profiles, closure and snapshots, the stages of one second, the clock's adjustment and
the restore (chapter 07; R14, R125, R127). -/
namespace Sys2Proof.Machine

/-- Change the billing record as it stands. -/
def updBill (f : BillRec → BillRec) (s : State) : State := { s with bil := { s.bil with cur := f s.bil.cur } }

/-- Change E1's billing state. -/
def updBil (f : BilSt → BilSt) (s : State) : State := { s with bil := f s.bil }

/-- The image holds a TARIFF section (R161). -/
def tariffOn (s : State) : Bool := s.ld.tables.tariff.isSome

/-- A period of `BIL_DEM_CFG.LENGTH` or `P1_PERIOD` in seconds (R169). -/
def periodOf (code : Nat) : Nat := nth 3600 [300, 600, 900, 1800, 3600] code

/-- The demand interval D in seconds. -/
def demandLen (s : State) : Nat := periodOf (get F.BIL_DEM_CFG_LENGTH s)

/-- Sliding demand is set. -/
def sliding (s : State) : Bool := flag F.BIL_DEM_CFG_MODE s

/-- The length of a demand part: D, or the sub-interval in sliding mode. -/
def partLen (s : State) : Nat :=
  if sliding s then (if flag F.BIL_DEM_CFG_SUB s then 300 else 60) else demandLen s

/-- The length of a profile 1 interval in seconds (R174). -/
def p1Len (s : State) : Nat := periodOf (get F.BIL_PROF_CFG_P1_PERIOD s)

/-- Civil time of an RTC time under the tariff in force. -/
def civilNow (t : Nat) (s : State) : Int :=
  match s.ld.tables.tariff with
  | none => stdOf t s
  | some tb => civilOf (dstRule tb s) (stdOf t s)

/-- A demand part ends at RTC time `t` (R169). -/
def demandDue (t : Nat) (s : State) : Bool := stdOf t s % partLen s == 0 && decide (s.bil.cur.demStart < t)

/-- A profile 1 part ends at RTC time `t` (R174). -/
def p1Due (t : Nat) (s : State) : Bool := stdOf t s % p1Len s == 0 && decide (s.bil.p1Start < t)

/-- A civil midnight falls at RTC time `t` (R175); at a stepped tick, one that the new time lands on. -/
def midnightDue (stepped : Bool) (t : Nat) (s : State) : Bool :=
  if stepped then civilNow t s % 86400 == 0 else decide (civilNow ((t : Int) - 1).toNat s / 86400 < civilNow t s / 86400)

/-- The rate of the calendar at RTC time `t` (R166). -/
def rateOf (t : Nat) (s : State) : Nat :=
  match s.ld.tables.tariff with
  | none => 1
  | some tb => (evalTariff tb (dstRule tb s) (stdOf t s)).rate

/-- The stages from 4 to 6 of the tick at RTC time `t` in which something falls due, as PEND numbers them (R177). -/
def dueStages (t : Nat) (s : State) : Nat :=
  if !(tariffOn s) then 0
  else b2n (demandDue t s) + 2 * b2n (p1Due t s) + 4 * b2n (midnightDue false t s) +
    8 * b2n (decide (s.bil.cur.billIdx < (boundaryOf (civilNow t s) s).1)) + 16 * b2n (rateOf t s != rateOf (t - 1) s)

/-- PEND of a record (R177): of the ticks that E1 has still to work through, the first in which a stage fell due. -/
def pendOf (s : State) : Nat × Nat :=
  match s.bil.missedFrom with
  | none => (0, 0)
  | some t => match ((List.range (rtc s + 1 - t)).map (t + ·)).find? fun u => dueStages u s != 0 with
    | some u => (dueStages u s, u)
    | none => (0, 0)

/-- The billing record of KIND `k` with the rate in force at its last frame (R163). -/
def billRec (k rate : Nat) (s : State) : BillRec :=
  let p := pendOf s
  { s.bil.cur with
    kind := k, rate := rate, run := run s, pend := p
    flags := b2n (p.1 != 0) + 2 * b2n (s.sup.slew != 0) + 4 * b2n (inFallback s) }

/-- Write the billing record into bank 0 (R163). -/
def writeBill (k rate : Nat) (s : State) : State :=
  dirty 0 { s with cis := { s.cis with b0 := { s.cis.b0 with bill := writeCopy s.cis.b0.bill (billRec k rate s) } } }

/-- Show a display register (R182): an increase of its wrap counter is logged, under a KIND the spec does not give (log 10). -/
def showDisplay (n : Nat) (s : State) : State :=
  if !(flag (F.BIL_DISP_CFG_EN n) s) then s
  else
    let v := nth 0 s.bil.cur.energy (get (F.BIL_DISP_CFG_REG n) s) / 10 ^ (6 - get (F.BIL_DISP_CFG_RES n) s)
    let w := v / 10 ^ 8 % 2 ^ 16
    let old := nth 0 s.bil.cur.dispw n
    let s := put (F.BIL_DISP_VALUE n) (v % 10 ^ 8) (put (F.BIL_DISP_CFG_WRAP n) w s)
    let s := updBill (fun c => { c with dispw := upd c.dispw n (fun _ => w) }) s
    if old < w then
      let f := fresh s
      raise F.BIL_CAUSE_DISP_WRAP (legalEvent (f.1 % 2 ^ 16) 0xFF [] f.2)
    else s

/-- The selected value of `BIL_REG_SEL` (R183). -/
def selected (s : State) : Nat :=
  let i := get F.BIL_REG_SEL_INDEX s
  let k := get F.BIL_REG_SEL_KIND s
  if k = 0 then nth 0 s.bil.cur.energy i else if k = 1 then (nth (0, 0) s.bil.cur.maxd i).1
  else if k = 2 then (nth (0, 0) s.bil.cur.maxd i).2 else nth 0 s.bil.present i

/-- Show every display register (R182). -/
def showDisplays (s : State) : State := (List.range 16).foldl (fun s n => showDisplay n s) s

/-- Show the BIL registers. -/
def showBilling (s : State) : State :=
  let s := put F.BIL_LAST_BILL_IDX s.bil.cur.billIdx (putS F.BIL_DEM_IDX_IDX s.bil.cur.demIdx s)
  let s := put F.BIL_SNAP_NUM_N (counter 0 s % 2 ^ 32) (put F.BIL_STATUS_SNAPS (min 24 (counter 0 s)) s)
  put F.BIL_REG_LO_VALUE (selected s % 2 ^ 32) (showDisplays s)

/-- Add `m` to billing register `r` (R160, R162). -/
def addReg (r m : Nat) (s : State) : State :=
  let v := nth 0 s.bil.cur.energy r + m
  let s := updBill (fun c => { c with energy := upd c.energy r (fun _ => v % 2 ^ 64) }) s
  if 2 ^ 64 ≤ v then legalEvent 0x0106 0xFF [le 1 r ++ zeros 7] (raise F.BIL_CAUSE_REG_WRAP s) else s

/-- The total-set quantity of a demand quantity, as its place in the ring (R169). -/
def demandSlot (j : Nat) : Option Nat := if j = 0 then some 0 else if j = 1 then some 1 else if j = 9 then some 2 else none

/-- Add an increment in nWh of quantity `j` at `rate` (R161): the residue, its whole mWh to t = 0 and t = rate, and to the demand part. -/
def addQuantity (rate j e : Nat) (s : State) : State :=
  let r := nth 0 s.bil.cur.resid j + e
  let m := r / 10 ^ 6
  let s := updBill (fun c => { c with resid := upd c.resid j (fun _ => r % 10 ^ 6) }) s
  let s := addReg (9 * j + rate) m (addReg (9 * j) m s)
  match demandSlot j with
  | some q => if tariffOn s then
      updBill (fun c => { c with sub := upd c.sub (3 * c.subpos + q) (fun x => (x + m) % 2 ^ 32) }) s else s
  | none => s

/-- Apply 40 increments: the applied record, and the ten of the total set to the registers. -/
def applyIncs (rate : Nat) (incs : List Nat) (s : State) : State :=
  let s := updBill (fun c => { c with applied := List.zipWith (fun a b => (a + b) % 2 ^ 96) c.applied incs }) s
  (List.range 10).foldl (fun s j => addQuantity rate j (nth 0 incs (30 + j)) s) s

/-- Apply the records of the ring that `p` selects (R14, R161); a record whose CRC fails is not applied (R125). -/
def applyRing (p : HandoffRec → Bool) (rate : Nat) (s : State) : State :=
  let l := s.en.ring.filter p
  let s := { s with en := { s.en with ring := s.en.ring.filter fun r => !(p r) } }
  l.foldl (fun s r => if r.ok then applyIncs rate r.incs (updBill (fun c => { c with frame := r.frame }) s) else s) s

/-- What the restored or published accumulators hold beyond the applied record, modulo 2^96. -/
def appliedDiff (acc : List Nat) (s : State) : List Nat :=
  List.zipWith (fun a b => (a / 2 ^ 32 + 2 ^ 96 - b) % 2 ^ 96) acc s.bil.cur.applied

/-- The applied record is ahead of an accumulator (R127). -/
def ahead (d : Nat) : Bool := decide (2 ^ 95 ≤ d)

/-- One entry of KIND 0x0104 (R399). -/
def mismatchEntry (k d : Nat) : List Byte :=
  le 1 k ++ le 1 (b2n (ahead d)) ++ le 6 (satNat (2 ^ 48 - 1) (if ahead d then 2 ^ 96 - d else d))

/-- Apply the differences that are not ahead, and take the accumulators as applied (R125, R127). -/
def applyDiff (acc : List Nat) (rate : Nat) (s : State) : State :=
  let d := appliedDiff acc s
  let s := applyIncs rate (d.map fun x => if ahead x then 0 else x) s
  updBill (fun c => { c with applied := acc.map (· / 2 ^ 32) }) s

/-- The entries of KIND 0x0104 for the differences that satisfy `p`. -/
def mismatchEntries (p : Nat → Bool) (d : List Nat) : List (List Byte) :=
  (d.zipIdx.filter fun e => e.1 != 0 && p e.1).map fun e => mismatchEntry e.2 e.1

/-- The check of R125, once a second, against the accumulators through the last frame. -/
def handoffCheck (rate : Nat) (s : State) : State :=
  let l := mismatchEntries (fun _ => true) (appliedDiff s.en.accPub s)
  if l.isEmpty || !(domOn 2 s) then s
  else occurrence 36 0 0 (legalEvent 0x0104 0xFF l (raise F.PHE_CAUSE_HANDOFF_MISMATCH (applyDiff s.en.accPub rate s)))

/-- The energy in mWh of demand quantity `q` so far (R169, R170): the part in progress and, sliding, the sub-intervals before it. -/
def demandEnergy (q : Nat) (s : State) : Nat :=
  let n := if sliding s then demandLen s / partLen s else 1
  let p := s.bil.cur.subpos
  sumNat ((List.range n).map fun i => nth 0 s.bil.cur.sub (3 * ((p + 60 - i) % 60) + q))

/-- The demand value in W or VA (R170). -/
def demandValue (q : Nat) (s : State) : Nat := (quot ((demandEnergy q s * 36 : Nat) : Int) (10 * demandLen s)).toNat

/-- Compare a demand value with maximum `i` (R170). -/
def newMax (i v t : Nat) (s : State) : State :=
  if (nth (0, 0) s.bil.cur.maxd i).1 < v then
    raise F.BIL_CAUSE_MAXD_NEW (updBill (fun c => { c with maxd := upd c.maxd i (fun _ => (v % 2 ^ 32, t)) }) s)
  else s

/-- Close the demand part in progress at RTC time `t`, with `rate` in force at its end (R170, R181); `natural` at an aligned end. -/
def closeDemand (natural : Bool) (rate t : Nat) (s : State) : State :=
  let idx := stdOf t s / partLen s
  let back := natural && decide (idx ≤ s.bil.cur.demIdx)
  let s := (List.range 3).foldl (fun s q =>
    let v := demandValue q s
    newMax (9 * q + rate) v t (newMax (9 * q) v t s)) s
  let s := raiseIf back F.BIL_CAUSE_BACK (raise F.BIL_CAUSE_DEMAND_CLOSE s)
  let pos := if sliding s then (s.bil.cur.subpos + 1) % 60 else s.bil.cur.subpos
  updBill (fun c => { c with
    subpos := pos, demStart := t, demIdx := if natural && !back then idx else c.demIdx,
    sub := (List.range 3).foldl (fun l q => upd l (3 * pos + q) (fun _ => 0)) c.sub }) s

/-- Put a profile 1 entry into the ring (R174): entry e lies in bank 4 + ⌊e / 2 592⌋. -/
def putP1 (e : ProfEntry) (s : State) : State :=
  let n := counter 1 s % 23328
  let s := counterAdd 1 1 s
  dirty (4 + n / 2592) { s with cis := { s.cis with
    lp1 := upd s.cis.lp1 (n / 2592) (fun m => sparseSet {} m (n % 2592) e) } }

/-- The unit of profile 1 channel `c` in mWh. -/
def p1Unit (c : Nat) (s : State) : Nat := 100 * 10 ^ get (F.BIL_PROF_CH_P1_UNIT c) s

/-- The increment of profile 1 channel `c` in its unit, what lies above 0xFF_FFFF being carried (R174). -/
def p1Value (c : Nat) (s : State) : Nat :=
  let d := (nth 0 s.bil.cur.energy (get (F.BIL_PROF_CH_P1_REG c) s) + 2 ^ 64 - nth 0 s.bil.p1Base c) % 2 ^ 64
  satNat 0xFFFFFF (d / p1Unit c s)

/-- Close the profile 1 part in progress at RTC time `t` (R174, R181). -/
def closeP1 (natural outage : Bool) (t : Nat) (s : State) : State :=
  let chans := get F.BIL_PROF_CFG_P1_CHANS s
  let endM := stdOf t s / 60
  let back := natural && s.bil.p1Last.any fun l => decide (endM ≤ l)
  let short := !natural || s.bil.p1Start + p1Len s != t
  let vals := (List.range 6).map fun c => if c < chans then p1Value c s else 0
  let head := wrapTo 26 endM + b2n short * 2 ^ 26 + b2n back * 2 ^ 27 + b2n outage * 2 ^ 28 + b2n s.bil.p1Gap * 2 ^ 29 +
    b2n s.bil.slewIn * 2 ^ 30 + b2n (inFallback s) * 2 ^ 31
  let s := raiseIf back F.BIL_CAUSE_BACK s
  let s := if chans = 0 then s else raiseIf s.bil.p1Gap F.BIL_CAUSE_GAP (putP1 { head := head, vals := vals } s)
  updBil (fun b => { b with
    p1Base := b.p1Base.zipIdx.map fun e => if e.2 < chans then (e.1 + nth 0 vals e.2 * p1Unit e.2 s) % 2 ^ 64 else e.1,
    p1Start := t, p1Gap := if chans = 0 then b.p1Gap else false, slewIn := s.sup.slew != 0,
    p1Last := if natural && !back then some endM else b.p1Last }) s

/-- The registers of the profile 1 channels in use (R174): a channel that names another register, or none before, counts from that
register's present value. -/
def rebaseP1 (s : State) : State :=
  let named (c : Nat) : Option Nat :=
    if tariffOn s && decide (c < get F.BIL_PROF_CFG_P1_CHANS s) then some (get (F.BIL_PROF_CH_P1_REG c) s) else none
  updBil (fun b => { b with
    p1Base := b.p1Base.zipIdx.map fun e => match named e.2 with
      | some r => if nth none b.p1Reg e.2 = some r then e.1 else nth 0 b.cur.energy r
      | none => e.1
    p1Reg := (List.range 6).map named }) s

/-- Write a profile 2 entry for civil day `day` (R175), with BACK where the day has an entry already. -/
def writeP2 (day : Int) (t : Nat) (outage gap : Bool) (s : State) : State :=
  let n := get F.BIL_PROF_CFG_P2_CHANS s
  let back := s.bil.p2Last.any fun l => decide (day ≤ l)
  let slew := s.bil.slewDay
  let s := updBil (fun b => { b with p2Last := if back then b.p2Last else some day, slewDay := s.sup.slew != 0 }) s
  if n = 0 then s
  else
    let vals := (List.range 6).map fun c => if c < n then nth 0 s.bil.cur.energy (get (F.BIL_PROF_CH_P2_REG c) s) else 0
    let head := wrapTo 24 day + b2n back * 2 ^ 25 + b2n outage * 2 ^ 26 + b2n gap * 2 ^ 27 + b2n slew * 2 ^ 28 +
      b2n (inFallback s) * 2 ^ 29
    let e := counter 2 s % 731
    let s := counterAdd 2 1 s
    raiseIf gap F.BIL_CAUSE_GAP (dirty 13 { s with cis := { s.cis with
      lp2 := sparseSet {} s.cis.lp2 e { head := head, rtc := t, vals := vals } } })

/-- Take a snapshot (R173): numbered by spread counter 0; the maxima are then cleared. -/
def snapshot (reason skipped t : Nat) (s : State) : State :=
  let s := counterAdd 0 1 s
  let n := counter 0 s
  let fl := b2n (inFallback s) + 2 * b2n s.bil.stepped + 4 * b2n s.bil.outage + 8 * b2n (skipped != 0)
  let sn := Snapshot.mk (n % 2 ^ 32) reason fl (satNat 0xFFFF skipped) s.bil.cur.billIdx t s.bil.cur.frame s.bil.cur.energy
    s.bil.cur.maxd s.bil.cur.dispw
  let s := dirty 3 { s with cis := { s.cis with b3 := { s.cis.b3 with snaps := sparseSet {} s.cis.b3.snaps (n % 24) sn } } }
  updBil (fun b => { b with stepped := false, outage := false, cur := { b.cur with maxd := List.replicate 27 (0, 0) } }) s

/-- Close the period with boundary index `i` (R171). -/
def closePeriod (reason skipped i t : Nat) (s : State) : State :=
  raise F.BIL_CAUSE_BILL_CLOSE (snapshot reason skipped t (updBill (fun c => { c with billIdx := i }) s))

/-- E2 charges what it owes, in order (R176, R287). -/
def settleOwed (s : State) : State :=
  s.bil.owed.foldl (fun s o => match o with
    | some e => chargeCredit e.1 e.2 s
    | none => startMonth s) (updBil (fun b => { b with owed := [] }) s)

/-- A block month starts (R185), after what E2 has still to charge of the month before. -/
def monthStart (s : State) : State :=
  if e2Up s && s.bil.owed.isEmpty then startMonth s else updBil (fun b => { b with owed := b.owed ++ [none] }) s

/-- E2 owes the charge of `e` mWh at `rate`. -/
def owe (rate e : Nat) (s : State) : State :=
  if e = 0 then s
  else match s.bil.owed.getLast? with
    | some (some o) =>
      if o.1 = rate then updBil (fun b => { b with owed := b.owed.dropLast ++ [some (rate, o.2 + e)] }) s
      else updBil (fun b => { b with owed := b.owed ++ [some (rate, e)] }) s
    | _ => updBil (fun b => { b with owed := b.owed ++ [some (rate, e)] }) s

/-- Stage 5 of R176: a scheduled closure (R171), with which a command completes, or a commanded one (R172), whose snapshot carries the time
of the command. -/
def stageClose (t : Nat) (s : State) : State :=
  let b := boundaryOf (civilNow t s) s
  if tariffOn s ∧ s.bil.cur.billIdx < b.1 then
    let rule := match s.ld.tables.tariff with | some tb => dstRule tb s | none => none
    let s := monthStart (closePeriod 1 0 b.1 (rtcOfCivil rule b.2 s) s)
    raiseIf s.bil.closeReq.isSome F.BIL_CAUSE_SNAP_CMD (updBil (fun b => { b with closeReq := none }) s)
  else match s.bil.closeReq with
    | some c => raise F.BIL_CAUSE_SNAP_CMD (snapshot 2 0 c (updBil (fun b => { b with closeReq := none }) s))
    | none => s

/-- Stage 4 of R176: intervals, sub-intervals and profile parts that end at RTC time `t`; profile 2 at civil midnight. -/
def stageDemand (stepped : Bool) (rate t : Nat) (s : State) : State :=
  if !(tariffOn s) then s
  else
    let s := if demandDue t s then closeDemand true rate t s else s
    let s := if p1Due t s then closeP1 true false t s else s
    let s := if midnightDue stepped t s then writeP2 (civilNow t s / 86400) t false false s else s
    updBil (fun b => { b with present := (List.range 3).map fun q => demandValue q s }) s

/-- Stage 3 of R176 with E2's charge (R161, R184): the ring's records that `p` selects, at `rate`. What E2 owes is charged
first (R287); while it does not run the charge waits. -/
def stageEnergy (p : HandoffRec → Bool) (check : Bool) (rate : Nat) (s : State) : State :=
  let e0 := nth 0 s.bil.cur.energy 0
  let s := applyRing p rate s
  let s := if check then handoffCheck rate s else s
  let e := (nth 0 s.bil.cur.energy 0 + 2 ^ 64 - e0) % 2 ^ 64
  let s := showDisplays s
  if e2Up s then chargeCredit rate e (settleOwed s) else owe rate e s

/-- Stages 3 to 5 of R176 for the tick at RTC time `t`, E1's registers, and the billing record. -/
def workTick (p : HandoffRec → Bool) (check stepped : Bool) (rate t : Nat) (s : State) : State :=
  let s := stageEnergy p check rate s
  let s := stageClose t (stageDemand stepped rate t s)
  writeBill 1 rate (showBilling (put F.BIL_STATUS_RATE rate (updBill (fun c => { c with rtc := t }) s)))

/-- Stage 6 of R176 (R166 to R168, R188): rate, season, special day, daylight saving and friendly period. -/
def stageTariff (s : State) : State :=
  let std := stdOf (rtc s) s
  match s.ld.tables.tariff with
  | none =>
    let s := put F.TAR_STATUS_NO_TARIFF 1 (put F.TAR_STATUS_RATE 1 (putS F.TAR_LOCAL_TIME_SECONDS std s))
    evalFriendly [] std (updBill (fun c => { c with rate := 1 }) s)
  | some tb =>
    let n := evalTariff tb (dstRule tb s) std
    let old (f : Fld) := get f s
    let rateC := n.rate ≠ s.bil.cur.rate
    let seasC := n.season ≠ old F.TAR_STATUS_SEASON
    let specC := n.special.isSome ∧ (!(flag F.TAR_STATUS_SPECIAL s) ∨ n.special.getD 0 ≠ old F.TAR_STATUS_SPECIAL_IDX)
    let dstC := n.dst ≠ flag F.TAR_STATUS_DST s
    let s := raiseIf rateC F.TAR_CAUSE_RATE_CHANGE (raiseIf seasC F.TAR_CAUSE_SEASON_CHANGE
      (raiseIf specC F.TAR_CAUSE_SPECIAL_DAY (raiseIf dstC F.TAR_CAUSE_DST_CHANGE s)))
    let s := put F.TAR_STATUS_RATE n.rate (put F.TAR_STATUS_SEASON n.season (put F.TAR_STATUS_WEEK n.week s))
    let s := put F.TAR_STATUS_DAYPROF n.day (put F.TAR_STATUS_SPECIAL (b2n n.special.isSome)
      (put F.TAR_STATUS_SPECIAL_IDX (n.special.getD 0) (put F.TAR_STATUS_DST (b2n n.dst) s)))
    let s := putS F.TAR_LOCAL_TIME_SECONDS (civilOf (dstRule tb s) std) (put F.TAR_STATUS_NO_TARIFF 0 s)
    evalFriendly n.days n.civil (updBill (fun c => { c with rate := n.rate }) s)

/-- The remainder of a slew (R179). -/
def slewLeft (s : State) : Int := s.sup.slew

/-- Show the remainder while D5 is on. -/
def showSlew (s : State) : State :=
  if domOn 5 s then put F.TAR_STATUS_SLEWING (b2n (s.sup.slew != 0)) (putS F.TAR_ADJ_REM_REMAIN s.sup.slew s) else s

/-- Set the remainder; `TAR_ADJ_REM` and `TAR_STATUS.SLEWING` follow. -/
def setSlew (z : Int) (s : State) : State := showSlew { s with sup := { s.sup with slew := z } }

/-- The parts and the day in progress see slewing. -/
def sawSlew (secs : Nat) (s : State) : State := updBil (fun b => { b with slewSecs := secs, slewIn := true, slewDay := true }) s

/-- One RTC second of slewing (R179): 1 s of correction per 60 s, in NAP too. -/
def slewSecond (s : State) : State :=
  let z := slewLeft s
  if z = 0 then s
  else if s.bil.slewSecs < 59 then sawSlew (s.bil.slewSecs + 1) s
  else
    let z' := if 0 < z then z - 1 else z + 1
    raiseIf (decide (z' = 0) && domOn 5 s) F.TAR_CAUSE_SLEW_DONE (setSlew z' (sawSlew 0 s))

/-- Step the clock by `d` (R180): the second's records reach the parts in progress, the parts close at the old time, the RTC is set,
the step is logged, with the role of the MANAGER session that may write the clock object (R228, R239); new parts run from the new time. -/
def stepClock (d : Int) (src osrc : Nat) (s : State) : State :=
  let old := rtc s
  let new := wrapTo 32 ((old : Int) + d)
  let s := stageEnergy (fun _ => true) true s.bil.cur.rate s
  let s := if tariffOn s then raise F.BIL_CAUSE_SPLIT (closeP1 false false old (closeDemand false s.bil.cur.rate old s)) else s
  let s := put F.SUP_RTC_SEC_SEC new (setSlew 0 s)
  let s := legalEvent 0x0105 (if src = 1 then 3 else 0xFF) [le 4 old ++ le 4 new, le 1 src ++ le 1 0 ++ le 2 osrc ++ le 4 0] s
  raise F.TAR_CAUSE_ADJ_STEP (updBil (fun b => { b with
    stepped := true, p1Start := new, slewSecs := 0, cur := { b.cur with demStart := new } }) s)

/-- Stage 2 of R176 (R179, R180), and whether the clock was stepped. A clock-object adjustment confirms the time (R298). -/
def stageClock (s : State) : Bool × State :=
  match s.bil.adj with
  | none => (false, s)
  | some a =>
    let s := updBil (fun b => { b with adj := none }) s
    let sum := slewLeft s + a.1
    if (rtc s : Int) + sum < 0 then (false, raise F.TAR_CAUSE_ADJ_REFUSED s)
    else
      let s := if a.2.1 = 1 then put F.SUP_RTC_STATUS_VALID 1 s else s
      if sum.natAbs ≤ get F.TAR_ADJ_CFG_LIMIT s then
        let started := slewLeft s = 0 ∧ sum ≠ 0
        let ended := slewLeft s ≠ 0 ∧ sum = 0
        let s := setSlew sum (if sum = 0 then s else sawSlew (if started then 0 else s.bil.slewSecs) s)
        (false, raiseIf ended F.TAR_CAUSE_SLEW_DONE (raiseIf started F.TAR_CAUSE_ADJ_SLEW s))
      else (true, stepClock sum a.2.1 a.2.2 s)

/-- The rate in force in the second that ended at `t` (R14, R176): the one E2 kept for it; for a second at which E2 did not run, the
rate that it had set last before, which the next one kept shows, or else is still in force. -/
def keptRate (t : Nat) (s : State) : Nat :=
  match (s.bil.rates.filter fun e => decide (t ≤ e.1)).getLast? with
  | some e => e.2
  | none => s.bil.cur.rate

/-- E2's rate of each of the last 64 seconds (R176). -/
def keepRate (s : State) : State := updBil (fun b => { b with rates := ((rtc s, b.cur.rate) :: b.rates).take 64 }) s

/-- Work through `n` missed ticks from RTC second `t` (R176). -/
def catchUpFrom : Nat → Nat → State → State
  | _, 0, s => s
  | t, n + 1, s => catchUpFrom (t + 1) n (workTick (fun r => decide (r.endRtc < t)) false false (keptRate t s) t s)

/-- The missed ticks, before the tick in progress when `before` holds. -/
def catchUp (before : Bool) (s : State) : State :=
  match s.bil.missedFrom with
  | none => s
  | some t =>
    catchUpFrom t (if before then rtc s - t else rtc s + 1 - t) (updBil (fun b => { b with missedFrom := none }) s)

/-- CLOSE_REQUEST (R172). -/
def bilCtlWrite (w : Word) (s : State) : State :=
  if arg F.BIL_CTL_CLOSE w = 0 ∨ arg F.BIL_CTL_KEY w ≠ 0xC3 then s
  else if guarded s || flag F.BIL_STATUS_RESTORING s then raise F.BIL_CAUSE_CLOSE_REFUSED s
  else updBil (fun b => { b with closeReq := some (rtc s) }) s

/-- CLOSE_REQUEST (R172). -/
def execCloseRequest (m : Master) (w : Word) (s : State) : Out := cmdWrite m R.BIL_CTL (bilCtlWrite w) s

/-- A write of `TAR_ADJ_REQ` (R179): kept for stage 2 of the next tick; a write of 0 is dropped. -/
def adjWrite (w : Word) (src osrc : Nat) (s : State) : State :=
  if w = 0 then s else updBil (fun b => { b with adj := some (signed 32 w.toNat, src, osrc) }) s

/-- ADJ_REQUEST (R179); `src` 1 the clock object, 2 a fabric TIME message with its OSRC. -/
def execAdjRequest (m : Master) (w : Word) (src osrc : Nat) (s : State) : Out :=
  cmdWrite m R.TAR_ADJ_REQ (adjWrite w src osrc) s

/-- TICK_CATCH_UP (R176). -/
def execTickCatchUp (s : State) : Out :=
  onlyIf (e1Up s && !(flag F.NRG_STATUS_FROZEN s)) (fun s => showBilling (catchUp false s)) s

/-- Start new parts at the present time (R178, step 6). -/
def newParts (s : State) : State :=
  updBil (fun b => { b with
    p1Start := rtc s, p1Gap := true, slewIn := false, slewSecs := 0,
    cur := { b.cur with demStart := rtc s, subpos := 0, sub := List.replicate 180 0 } }) s

/-- Close the boundaries with index `i` to `i + n − 1` that passed in an outage (R178, step 3); the first tells how many were
skipped. -/
def closePassed (rule : Option (DstEnd × DstEnd)) (i skipped : Nat) : Nat → State → State
  | 0, s => s
  | n + 1, s =>
    let s := closePeriod 3 skipped i (rtcOfCivil rule (boundaryTime i s) s) (updBil (fun b => { b with outage := true }) s)
    closePassed rule (i + 1) 0 n s

/-- Steps 1 to 4 of R178 with freeze time `fz`. -/
def closeOutage (tb : Tariff) (fz : Nat) (s : State) : State :=
  let p := s.bil.cur.pend
  let pend (i : Nat) : Bool := bit s.bil.cur.flags 0 && bit p.1 i
  let s := if pend 0 then closeDemand true s.bil.cur.rate p.2 s else s
  let s := if pend 1 then closeP1 true false p.2 s else s
  let s := if pend 2 then writeP2 (civilNow p.2 s / 86400) p.2 false false s else s
  let s := if pend 3 then stageClose p.2 s else s
  let s := raise F.BIL_CAUSE_OUTAGE_CLOSE (closeP1 false true fz (closeDemand false s.bil.cur.rate fz s))
  let now := (boundaryOf (civilNow (rtc s) s) s).1
  let from' := s.bil.cur.billIdx
  let s := if from' < now then
      let n := min 24 (now - from')
      updBil (fun b => { b with outage := true })
        (monthStart (closePassed (dstRule tb s) (now + 1 - n) (now - from' - n) n s))
    else s
  let d0 := civilNow fz s / 86400
  let d1 := civilNow (rtc s) s / 86400
  if d0 < d1 then writeP2 d1 (rtc s) true (decide (d0 + 1 < d1)) s else s

/-- The restore of R127 (the applied record) and R178, with the accumulators restored. -/
def restoreBilling (s : State) : State :=
  let s := put F.BIL_STATUS_RESTORING 1 s
  let rec' := inForce s.cis.b0.bill
  let fz := match s.sup.freeze, rec' with
    | some f, _ => some f.rtc
    | none, some r => some r.2.rtc
    | none, none => none
  let s := updBil (fun b => { b with cur := match rec' with | some r => r.2 | none => {} }) s
  let s := updBil (fun b => { b with outage := b.outage || (rec'.isSome && fz.isSome) }) s
  let base := s.bil.p1Base.zipIdx.map fun e => min e.1 (nth 0 s.bil.cur.energy (get (F.BIL_PROF_CH_P1_REG e.2) s))
  let s := updBil (fun b => { b with p1Base := base }) s
  let e0 := nth 0 s.bil.cur.energy 0
  let l := mismatchEntries ahead (appliedDiff s.en.acc s)
  let s := applyDiff s.en.acc s.bil.cur.rate s
  let s := rebaseP1 (showDisplays (owe s.bil.cur.rate ((nth 0 s.bil.cur.energy 0 + 2 ^ 64 - e0) % 2 ^ 64) s))
  let s := if l.isEmpty then s else legalEvent 0x0104 0xFF l (raise F.PHE_CAUSE_HANDOFF_MISMATCH s)
  let s := match s.ld.tables.tariff, fz with
    | some tb, some t => if rec'.isSome then closeOutage tb t s else s
    | _, _ => s
  let s := if rec'.isNone ∧ tariffOn s then
      updBil (fun b => { b with cur := { b.cur with
        billIdx := (boundaryOf (civilNow (rtc s) s) s).1, demIdx := stdOf (rtc s) s / partLen s } }) s
    else s
  let s := newParts (stageTariff s)
  let s := writeBill 3 s.bil.cur.rate (showDisplays (updBill (fun c => { c with rtc := rtc s }) s))
  showBilling (put F.BIL_STATUS_RESTORING 0 (updBil (fun b => { b with restored := true, missedFrom := none, adj := none }) s))

end Sys2Proof.Machine
end

