-- ==== Sys2Proof/Machine/Layout.lean ====
section
/-! DEFINITION. The bytes of the Cistern's banks: how each record lies in its bank (R122, R147, R163, R173 to R175, R196, R205, R206,
R217, R219, R239, R249, R251, R257, R274, R278, R47). -/
namespace Sys2Proof.Machine

/-- A slot of a two-copy record of `n` bytes (R217): SEQ, contents, zeros, CRC-32; zeros where no copy has been written. -/
def slotBytes {α : Type} (n : Nat) (enc : α → List Byte) (x : Option (Nat × α)) : List Byte :=
  match x with
  | none => zeros n
  | some e =>
    let b := (le 4 e.1 ++ enc e.2).take (n - 4)
    let b := b ++ zeros (n - 4 - b.length)
    b ++ le 4 (crc32 b)

/-- A record's two slots of `n` bytes at bank offset `o`. -/
def copyRegion {α : Type} (o n : Nat) (enc : α → List Byte) (r : TwoCopy α) : List (Nat × List Byte) :=
  [(o, slotBytes n enc r.a), (o + n, slotBytes n enc r.b)]

/-- The accumulator image (R122). -/
def accBytes (a : AccImage) : List Byte :=
  le 1 a.kind ++ zeros 3 ++ le 4 a.run ++ le 4 a.frame ++ le 4 a.sample ++ zeros 4 ++
    (a.acc.flatMap fun x => le 12 (x / 2 ^ 32) ++ le 4 x) ++ a.pulse.flatMap fun p => le 12 p.1 ++ le 4 p.2

/-- The billing record (R163). -/
def billBytes (b : BillRec) : List Byte :=
  le 1 b.kind ++ le 1 b.rate ++ le 1 b.flags ++ le 1 b.subpos ++ le 4 b.run ++ le 4 b.frame ++ le 4 b.rtc ++ le 4 (wrapTo 32 b.demIdx) ++
    le 4 b.billIdx ++ le 4 b.demStart ++ b.applied.flatMap (le 12) ++ b.resid.flatMap (le 4) ++ zeros 8 ++
    b.energy.flatMap (le 8) ++ b.sub.flatMap (le 4) ++ (b.maxd.flatMap fun m => le 4 m.1 ++ le 4 m.2) ++
    b.dispw.flatMap (le 2) ++ le 4 b.pend.1 ++ le 4 b.pend.2

/-- The credit record (R196). -/
def creditBytes (c : CreditRec) : List Byte :=
  le 1 c.kind ++ le 1 c.state ++ le 1 c.flags ++ le 1 c.reasons ++ le 8 (wrapTo 64 c.credit) ++ le 8 c.resid ++ le 8 c.month ++
    le 4 c.mpl ++ le 4 c.keyrev ++ le 8 c.rctr ++ le 1 c.main ++ le 1 c.mainVer ++ le 1 c.lc ++ le 1 0 ++ le 4 c.lcOffT ++
    le 4 c.ops ++ zeros 4 ++ c.tids.flatMap fun t => le 4 (t.1 % 2 ^ 24 + t.2 % 4 * 2 ^ 24 + 2 ^ 31)

/-- A spread counter (R219). -/
def spreadBytes (c : Spread) : List Byte := le 8 c.val ++ le 8 (c.tgt % 2 ^ 63 + b2n c.mark * 2 ^ 63)

/-- The metrology keep record (R206). -/
def keepBytes (k : KeepRec) : List Byte :=
  le 4 k.floor ++ le 2 k.retired ++ zeros 6 ++
    k.slices.flatMap fun e => le 2 (wrapTo 16 e.1) ++ le 2 (wrapTo 16 e.2.1) ++ le 2 (wrapTo 16 e.2.2) ++ zeros 2

/-- The password record (R206). -/
def pwBytes (l : List (Nat × Nat)) : List Byte := zeros 12 ++ l.flatMap fun e => be 8 e.1 ++ be 8 e.2

/-- The update record (R242; log 14). -/
def updBytes (u : UpdRec) : List Byte :=
  Config.recordBytes 0 [u.active, u.pend, u.trialUsed, b2n u.inTrial, u.floor, u.verA, u.verB, u.stA, u.stB, b2n u.copyMark]

/-- A reference to a child: parent, child, valid (R257). -/
def refBytes (r : Option (Nat × Nat)) : List Byte :=
  match r with
  | some e => le 1 e.1 ++ le 1 e.2 ++ le 1 1
  | none => zeros 3

/-- The Well record (R257). -/
def wellBytes (w : WellRec) : List Byte :=
  le 8 w.counter ++ w.gens.flatMap (le 4) ++ refBytes w.decoder ++ refBytes w.staged ++ zeros 2 ++ w.revoked.flatMap (le 32)

/-- A key blob (R249). -/
def blobBytes (b : Blob) : List Byte :=
  le 2 b.format ++ le 1 b.parent ++ le 1 b.child ++ le 4 b.gen ++ le 2 b.dest ++ le 2 b.usage ++ le 1 b.ktype ++ le 1 b.origin ++
    le 1 b.exported ++ le 1 b.role ++ be 16 b.uid ++ le 4 b.rev ++ be 12 b.nonce ++ be 32 b.key ++ be 16 b.tag

/-- A key store entry (R251). -/
def keyBytes (e : KeyEntry) : List Byte :=
  let b := le 4 e.seq ++ le 4 1 ++ blobBytes e.blob ++ zeros 20
  b ++ le 4 (crc32 b)

/-- A part of the fallback payload (R47). -/
def partBytes (typ : Nat) (b : List Byte) : List Byte :=
  le 2 typ ++ zeros 2 ++ le 4 b.length ++ b ++ zeros ((4 - b.length % 4) % 4)

/-- The payload before compression (R47): the kept content in ascending TYPE order; PINS has TYPE 1. -/
def fallbackPayload (f : Fallback) : List Byte := partBytes 1 f.pinsBytes ++ f.sections.flatMap fun x => partBytes x.typ x.bytes

/-- The fallback copy (R47). -/
def fallbackBytes (f : Fallback) : List Byte :=
  let p := fallbackPayload f
  le 4 (Config.deflateLen p) ++ le 4 p.length ++ le 4 f.version ++ be 32 f.legalId ++ Config.deflate p

/-- The fault record (R274). -/
def faultBytes (f : FaultRec) : List Byte := le 8 f.lasting ++ zeros 4 ++ f.since.flatMap (le 4) ++ f.total.flatMap (le 4)

/-- A tamper log record (R278). -/
def tampBytes (r : TampRec) : List Byte :=
  let b := le 4 r.num ++ le 1 r.kind ++ le 1 r.counter ++ le 2 r.reps ++ le 4 r.frame ++ le 2 r.sample ++ le 1 r.frac ++ le 1 r.flags ++
    le 4 r.rtc ++ le 4 r.subsec ++ le 4 r.detail
  b ++ le 4 (crc32 b)

/-- A snapshot (R173). -/
def snapBytes (n : Snapshot) : List Byte :=
  let b := le 4 n.num ++ le 1 n.reason ++ le 1 n.flags ++ le 2 n.skipped ++ le 4 n.billIdx ++ le 4 n.rtc ++ le 4 n.frame ++ zeros 12 ++
    n.energy.flatMap (le 8) ++ (n.maxd.flatMap fun m => le 4 m.1 ++ le 4 m.2) ++ n.dispw.flatMap (le 2) ++ zeros 20
  b ++ le 4 (crc32 b)

/-- The sounding record (R318; log 14). -/
def soundBytes (r : SoundRec) : List Byte :=
  Config.recordBytes 1 (r.base.flatMap fun b => match b with | some e => [1, e.1, e.2.1, e.2.2] | none => [0, 0, 0, 0])

/-- The fabric record (R324; log 14). -/
def fabBytes (r : FabRec) : List Byte :=
  Config.recordBytes 2 [r.addr, b2n r.valid, r.nwk, r.plan, r.planSeq, r.key, b2n r.head]

/-- A power-quality record (R147). -/
def pqRecBytes (r : PqRec) : List Byte :=
  let b := le 4 r.seq ++ le 1 r.kind ++ le 1 r.chan ++ le 2 r.extreme ++ le 4 r.startFrame ++ le 2 r.startSample ++ zeros 2 ++
    le 4 r.durHc ++ le 4 r.durMs ++ le 4 r.rtcStart
  b ++ le 4 (crc32 b)

/-- A load profile 1 entry (R174). -/
def p1Bytes (e : ProfEntry) : List Byte :=
  let b := le 4 e.head ++ ((List.range 6).map fun c => nth 0 e.vals c).flatMap (le 3)
  b ++ le 2 (crc16 b)

/-- A load profile 2 entry (R175). -/
def p2Bytes (e : ProfEntry) : List Byte :=
  let b := le 4 e.head ++ le 4 e.rtc ++ ((List.range 6).map fun c => nth 0 e.vals c).flatMap (le 8) ++ zeros 4
  b ++ le 4 (crc32 b)

/-- The entries of a ring of slots of `n` bytes from bank offset `o`. -/
def ringRegion {α : Type} (o n : Nat) (enc : α → List Byte) (m : Sparse α) : List (Nat × List Byte) :=
  m.map fun e => (o + n * e.1, enc e.2)

/-- What a bank holds, as byte strings at their offsets; everything else reads 0. -/
def regions : BankData → List (Nat × List Byte)
  | .b0 d => copyRegion 0 0x400 accBytes d.acc ++ copyRegion 0x800 0x1000 billBytes d.bill ++
      copyRegion 0x2800 0x400 creditBytes d.credit ++ [(0x3000, d.spread.flatMap spreadBytes)]
  | .b1 d => copyRegion 0 0x400 keepBytes d.keep ++ copyRegion 0x800 0x400 pwBytes d.pw ++ copyRegion 0x1000 0x400 updBytes d.upd ++
      copyRegion 0x1800 0x400 wellBytes d.well ++ [(0x2000, d.keys.flatMap keyBytes)] ++ copyRegion 0x6000 0x5000 fallbackBytes d.fall
  | .b2 d => ringRegion 0 64 (fun b => b) d.legal ++ copyRegion 0x8000 0x400 faultBytes d.fault ++ ringRegion 0x8800 32 tampBytes d.tlog
  | .b3 d => ringRegion 0 0x400 snapBytes d.snaps ++ copyRegion 0x6000 0x400 soundBytes d.sound ++
      copyRegion 0x6800 0x400 fabBytes d.fab ++ ringRegion 0xE000 32 pqRecBytes d.pq
  | .lp1 d => ringRegion 0 24 p1Bytes d
  | .lp2 d => ringRegion 0 64 p2Bytes d
  | .user d => ringRegion 0 1 (fun b => [b]) d

/-- The byte at bank offset `o`. -/
def regionByte (l : List (Nat × List Byte)) (o : Nat) : Byte :=
  match l.find? fun e => decide (e.1 ≤ o) && decide (o < e.1 + e.2.length) with
  | some e => nth 0 e.2 (o - e.1)
  | none => 0

/-- `n` bytes of bank `b`'s SRAM from offset `o`. -/
def bankBytes (b o n : Nat) (s : State) : List Byte :=
  let l := regions (bankData b s)
  (List.range n).map fun i => regionByte l (o + i)

end Sys2Proof.Machine
end

