-- ==== Sys2Proof/Machine/Well.lean ====
section
/-! DEFINITION. The Well and the crypto engine (chapter 11): loads, key updates, the Well record, attestation, OTP, jobs, TRNG. -/
namespace Sys2Proof.Machine

/-- The test root is in force (R246). -/
def testRoot (s : State) : Bool := flag F.WEL_STATUS_ROOT s

/-- The Well record in force: E0's copy in D0. -/
def wellRec (s : State) : WellRec := s.well.d0.getD {}

/-- The generation of parent `p`. -/
def genOf (p : Nat) (s : State) : Nat := nth 0 (wellRec s).gens p

/-- Child `c` of parent `p` is revoked. -/
def revoked (p c : Nat) (r : WellRec) : Bool := bit (nth 0 r.revoked p) c

/-- What DEST, USAGE, KTYPE and ROLE allow (R249, R250). -/
def r250 (dest usage ktype role : Nat) : Bool :=
  if dest = 1 then ((ktype = 5 || ktype = 6) && usage = 0x80 || (ktype = 1 && usage = 8)) && role = 0
  else if dest = 2 then ((ktype = 1 || ktype = 2) && usage = 4 || (ktype = 3 && usage = 0x10)) && role = 0
  else if dest = 4 then ktype = 1 && usage != 0 && usage &&& 0xF == usage && role = 0
  else if dest = 0x10 then ktype = 4 && usage = 0x20 && decide (role ≤ 1)
  else if dest = 0x20 then (ktype = 1 || ktype = 2) && usage != 0 && usage &&& 0x44 == usage && decide (1 ≤ role) && decide (role ≤ 5)
  else false

/-- Bytes 0x00 to 0x23 of a blob, the additional data of its GCM (R249). -/
def blobAad (b : Blob) : List Byte :=
  le 2 b.format ++ le 1 b.parent ++ le 1 b.child ++ le 4 b.gen ++ le 2 b.dest ++ le 2 b.usage ++ le 1 b.ktype ++ le 1 b.origin ++
    le 1 b.exported ++ le 1 b.role ++ be 16 b.uid ++ le 4 b.rev

/-- The key store's entries in force: those before a key update that has not committed (R255). -/
def keysInForce (s : State) : List KeyEntry :=
  match s.well.ku with
  | some j => if j.written.isSome then j.old else s.cis.b1.keys
  | none => s.cis.b1.keys

/-- The blob of a child (R251): the newest key store entry, else the image's. -/
def findBlob (p c : Nat) (s : State) : Option Blob :=
  let l := (keysInForce s).filter fun e => e.blob.parent == p && e.blob.child == c
  match l with
  | e :: t => some (t.foldl (fun a b => if seqNewer a.seq b.seq then b else a) e).blob
  | [] => s.ld.tables.obj.blobs.find? fun b => b.parent == p && b.child == c

/-- The parent's key, derived unless it is cached (R248, R252). -/
def parentOf (p : Nat) (s : State) : Nat × State :=
  match s.well.parents.find? (fun e => e.1 == p) with
  | some e => (e.2, s)
  | none =>
    let k := Config.parentKey (testRoot s) p (genOf p s) Config.uid
    (k, updWell (fun w => { w with parents := w.parents ++ [(p, k)] }) s)

/-- A load ends with result `r` (R253): the cause bit, and the occurrence of the Well's counter where it counts. -/
def refuseLoad (r : Load) (s : State) : Load × State :=
  let f := match r with
    | .genMismatch => F.WEL_CAUSE_GEN_MISMATCH
    | .destRefused => F.WEL_CAUSE_DEST_REFUSED
    | _ => F.WEL_CAUSE_UNWRAP_FAIL
  let s := raise f (updWell (fun w => { w with lastLoad := some r }) s)
  (r, if r = .destRefused || r = .wrapFail then occurrence 44 0 0 s else s)

/-- A child delivered from a working slot, which becomes the most recently used. -/
def useSlot (w : WSlot) (s : State) : Load × State :=
  (.ok w, updWell (fun x => { x with
    slots := (x.slots.filter fun y => !(y.parent == w.parent && y.child == w.child)) ++ [w], lastLoad := some (.ok w) }) s)

/-- The children whose working slots operations hold: the running job's, the signature's, the token's in decode (R252, R264). -/
def heldKeys (s : State) : List (Nat × Nat) :=
  (match s.well.running with | some j => j.key.toList | none => []) ++
    (if s.obj.signing.isSome then s.ld.tables.obj.signKey.toList else []) ++
    (match s.pay.decKey with | some (.ok w) => [(w.parent, w.child)] | _ => [])

/-- An operation holds slot `w`. -/
def heldSlot (s : State) (w : WSlot) : Bool := (heldKeys s).contains (w.parent, w.child)

/-- The slots without the least recently used one that no operation holds (R252). -/
def evictSlot (held : WSlot → Bool) : List WSlot → List WSlot
  | [] => []
  | w :: t => if held w then w :: evictSlot held t else t

/-- A slot whose child no load would deliver any more: its parent's generation has changed, or it is revoked (R256). -/
def staleSlot (s : State) (w : WSlot) : Bool := w.gen != genOf w.parent s || revoked w.parent w.child (wellRec s)

/-- An operation has ended: a slot that it held longer than its child stands is cleared (R264). -/
def releaseSlots (s : State) : State :=
  updWell (fun x => { x with slots := x.slots.filter fun w => heldSlot s w || !(staleSlot s w) }) s

/-- Unwrap blob `b` (R252): the attributes first, then GCM, then for a public key the curve; the least recently used of 32 slots
that no operation holds gives way. -/
def unwrap (p c : Nat) (need : Option (Nat × Nat)) (b : Blob) (s : State) : Load × State :=
  if b.gen ≠ genOf p s ∨ revoked p c (wellRec s) then refuseLoad .genMismatch s
  else if b.format != 1 || b.uid != Config.uid || b.exported != 0 || !(r250 b.dest b.usage b.ktype b.role) ||
      (match need with | some n => n.1 != b.dest || n.2 &&& b.usage == 0 | none => false) then refuseLoad .destRefused s
  else
    let k := parentOf p s
    match Config.gcmOpen k.1 b.nonce (blobAad b) b.key b.tag with
    | none => refuseLoad (if testRoot s then .wrongRoot else .wrapFail) k.2
    | some v =>
      if b.ktype = 4 ∧ !(Config.onCurve (bit b.role 0) v) then refuseLoad .destRefused k.2
      else
        let w : WSlot := WSlot.mk p c b.dest b.usage b.ktype b.role b.origin b.gen b.rev v
        let s := updWell (fun x => { x with slots := if x.slots.length < 32 then x.slots else evictSlot (heldSlot s) x.slots }) k.2
        useSlot w s

/-- Load child `c` of parent `p` (R252, R253) for a caller that needs a destination and a usage bit; `none` for the Well itself. -/
def loadKey (p c : Nat) (need : Option (Nat × Nat)) (s : State) : Load × State :=
  let r :=
    if guarded s || inFallback s then refuseLoad .guarded s
    else if blanking s then refuseLoad .blanked s
    else if flag F.WEL_STATUS_KEYS_LOST s then refuseLoad .keysLost s
    else
      match s.well.slots.find? (fun w => w.parent == p && w.child == c && !(staleSlot s w)), findBlob p c s with
      | some w, _ =>
        match need with
        | some n => if n.1 != w.dest || n.2 &&& w.usage == 0 then refuseLoad .destRefused s else useSlot w s
        | none => useSlot w s
      | none, none => refuseLoad .absent s
      | none, some b => unwrap p c need b s
  (r.1, showWell r.2)

/-- The object result of a refused load (R253): TAMPER_ABORT, otherwise NO_KEY. -/
def loadCode : Load → Nat
  | .ok _ => 0
  | .blanked => 9
  | _ => 3

/-- Load the child a section names, if it names one. -/
def loadNamed (k : Option (Nat × Nat)) (need : Nat × Nat) (s : State) : Load × State :=
  match k with
  | none => (.absent, s)
  | some e => loadKey e.1 e.2 (some need) s

/-- Show the Well record in the registers (R265). -/
def showRecord (s : State) : State :=
  let r := wellRec s
  let s := (List.range 16).foldl (fun s p => put (F.WEL_GEN_GEN p) (nth 0 r.gens p) s) s
  let ref (x : Option (Nat × Nat)) : Nat := match x with | some e => e.1 + 16 * e.2 + 2 ^ 12 | none => 0
  put F.WEL_CTR_LO_COUNTER r.counter (wr R.WEL_DECODER (BitVec.ofNat 32 (ref r.decoder + 2 ^ 16 * ref r.staged)) s)

/-- Show the OTP's fuses and slots in `WEL_STATUS`. -/
def showOtp (s : State) : State :=
  let auth := (List.range 4).foldl (fun n i => if (nth none s.well.otp i).isSome then withBit n i else n) 0
  put F.WEL_STATUS_AUTH auth (put F.WEL_STATUS_PROV_LOCK (b2n s.well.provLock) (put F.WEL_STATUS_DBG_KILL (b2n s.well.dbgKill) s))

/-- Write the Well record to bank 1 and store it (R255, R257). -/
def writeWell (r : WellRec) (s : State) : State :=
  deviceStore 1 (dirty 1 { s with cis := { s.cis with b1 := { s.cis.b1 with well := writeCopy s.cis.b1.well r } } })

/-- The merge of the two copies (R257). -/
def mergeWell (a b : WellRec) : WellRec :=
  let n := if b.counter ≤ a.counter then a else b
  WellRec.mk (max a.counter b.counter) (List.zipWith max a.gens b.gens) n.decoder n.staged
    (List.zipWith (· ||| ·) a.revoked b.revoked)

/-- Of two key store entries for one child the newer is kept (R251). -/
def dedupKeys : List KeyEntry → List KeyEntry
  | [] => []
  | e :: t =>
    let rest := dedupKeys t
    match rest.find? (fun x => x.blob.parent == e.blob.parent && x.blob.child == e.blob.child) with
    | none => e :: rest
    | some x => if seqNewer x.seq e.seq then e :: rest.erase x else rest

/-- The record in force of the two copies `a` and `b`, or `none` where the Well has been initialised and both are lost. -/
def wellInForce (a b : Option WellRec) (init : Bool) : Option WellRec :=
  match a, b with
  | some a, some b => some (mergeWell a b)
  | some a, none => some a
  | none, some b => some b
  | none, none => if init then none else some {}

/-- The record in force `m` is shown, and written where the copy `c` of bank 1 differs from it; none is KEYS_LOST. DEDUCED: an initialised
Well's copy that is not valid is written too (log 42). -/
def startWellRec (c m : Option WellRec) (s : State) : State :=
  match m with
  | none => raise F.WEL_CAUSE_KEYS_LOST (put F.WEL_STATUS_KEYS_LOST 1 s)
  | some r => if (c.isSome || s.well.wellInit) ∧ c ≠ some r then writeWell r (put F.WEL_STATUS_KEYS_LOST 0 s) else put F.WEL_STATUS_KEYS_LOST 0 s

/-- Of two entries of one key the key store keeps one. -/
def startWellKeys (s : State) : State :=
  let k := dedupKeys s.cis.b1.keys
  if k = s.cis.b1.keys then s
  else deviceStore 1 (dirty 1 { s with cis := { s.cis with b1 := { s.cis.b1 with keys := k } } })

/-- E8 at start (R251, R257): the copies are merged, the key store cleared of older pairs, the registers shown. -/
def startWell (s : State) : State :=
  let c := (inForce s.cis.b1.well).map (·.2)
  let m := wellInForce s.well.d0 c s.well.wellInit
  let s := updWell (fun w => { w with d0 := m, ku := none, running := none, jobs := [], slots := [], parents := [] }) s
  put F.WEL_KU_RES_SEQ 0 (showWell (showOtp (showRecord (startWellKeys (startWellRec c m s)))))

/-- Check 1 of R255. -/
def kuFormat (m : List Byte) : Bool :=
  let op := field m 4 1
  m.length = 240 && field m 0 2 = 0x4B55 && field m 2 2 = 240 && decide (1 ≤ op) && decide (op ≤ 6) && field m 0x26 2 = 0 &&
    field m 0x2C 4 = 0 && field m 0xAC 4 = 0 && (op ≤ 2 || op = 6 || field m 0x30 64 = 0) &&
    (op ≤ 2 || field m 0x7C 32 = 0 && field m 0x9C 16 = 0)

/-- Check 7 of R255. While the TRNG is lasting, keys are neither generated nor wrapped (R262). -/
def kuAttr (m : List Byte) (s : State) : Bool :=
  let op := field m 4 1
  let p := field m 6 1
  let c := field m 7 1
  let ktype := field m 0x24 1
  decide (p < 16) && (flag F.WEL_STATUS_KEYS_LOST s == (op == 6)) &&
    (op = 6 || genOf p s != 0xFFFFFFFF) && (op = 4 || op = 6 || !(revoked p c (wellRec s))) &&
    (decide (3 < op) || r250 (field m 0x20 2) (field m 0x22 2) ktype (field m 0x25 1) &&
      !(isLasting 45 s) && (op = 1 && ktype != 3 || op = 2 && field m 0x20 2 = 1 || op = 3 && ktype != 4))

/-- The key a message carries, decrypted under KEK (R254). -/
def kuKey (m : List Byte) (s : State) : Option Nat :=
  let k := Config.kek (testRoot s) (ofBe ((m.drop 0x30).take 64)) Config.uid (field m 0x18 8)
  Config.gcmOpen k (field m 0x70 12) (m.take 0x70) (ofBe ((m.drop 0x7C).take 32)) (ofBe ((m.drop 0x9C).take 16))

/-- The first check of R255 that fails, 0 when none does. -/
def kuCheck (m : List Byte) (s : State) : Nat :=
  let op := field m 4 1
  let auth := nth none s.well.otp (2 + field m 5 1)
  if !(kuFormat m) then 5
  else if guarded s || inFallback s then 11
  else if blanking s then 9
  else match auth with
    | none => 4
    | some a =>
      if !(Config.ecdsaOk a (Config.sha256 (m.take 0xB0)) (ofBe ((m.drop 0xB0).take 64))) then 1
      else if (m.drop 8).take 16 ≠ uidBytes then 2
      else if field m 0x18 8 ≤ (wellRec s).counter then 3
      else if !(kuAttr m s) then 7
      else if op ≤ 2 ∧ (kuKey m s).isNone then 6
      else if op ≤ 3 ∧ 128 ≤ s.cis.b1.keys.length then 8
      else 0

/-- The 32-byte plaintext of a key generated from a draw (R249, R256): zero-padded where the key is shorter. PRESUMED: a key of the Standard
Transfer Algorithm has 8 bytes (log 42). -/
def genKey (ktype x : Nat) : Nat :=
  if ktype = 1 ∨ ktype = 6 then x % 2 ^ 128 * 2 ^ 128 else if ktype = 5 then x % 2 ^ 64 * 2 ^ 192 else x % 2 ^ 256

/-- A key update message arrives at E8 (R255): busy, rejected, or its operation is in progress. -/
def keyUpdate (m : List Byte) (reply : Reply) (s : State) : State :=
  if !(e8Up s) then answerReply reply 5 [] s
  else if s.well.ku.isSome then answerReply reply 0 (le 1 10) (put F.WEL_KU_RES_CODE 10 s)
  else
    let c := kuCheck m s
    if c ≠ 0 then
      let s := raise F.WEL_CAUSE_KU_REJECT (kuResult c (field m 4 1) (field m 6 1) (field m 7 1) s)
      if c = 9 then answerReply reply 9 [] s else answerReply reply 0 (le 1 c) s
    else
      let op := field m 4 1
      let f := drbg s
      let k := if op ≤ 2 then (kuKey m s).getD 0 else genKey (field m 0x24 1) f.1
      let j : KeyJob := { op := op, msg := m, reply := reply, key := k }
      updWell (fun w => { w with ku := some j }) (if op = 3 then f.2 else s)

/-- KEY_UPDATE (R255). -/
def execKeyUpdate (msg : List Byte) (reply : Reply) (s : State) : Out := done (keyUpdate msg reply (takeReply reply s))

/-- The job in progress, when it is one of operation `op` that has written nothing. -/
def kuReady (op : Nat) (s : State) : Option KeyJob :=
  match s.well.ku with
  | some j => if j.op = op ∧ j.written.isNone then some j else none
  | none => none

/-- Write a key update's record and key store (R255): bank 1's SRAM, the request for its store. -/
def kuWrite (j : KeyJob) (r : WellRec) (keys : List KeyEntry) (s : State) : State :=
  let old := s.cis.b1.keys
  let s := updWell (fun w => { w with ku := some { j with written := some r, old := old, oldWell := s.cis.b1.well } }) s
  writeWell r { s with cis := { s.cis with b1 := { s.cis.b1 with keys := keys } } }

/-- The entry of a new key wrapped under its parent (R249, R251): SEQ one greater than the old one's, which is cleared. -/
def wrapEntry (j : KeyJob) (s : State) : List KeyEntry × State :=
  let m := j.msg
  let p := field m 6 1
  let c := field m 7 1
  let f := drbg s
  let k := parentOf p f.2
  let b : Blob := Blob.mk 1 p c (genOf p s) (field m 0x20 2) (field m 0x22 2) (field m 0x24 1) (if j.op = 3 then 0 else 1) 0
    (field m 0x25 1) Config.uid (field m 0x28 4) (f.1 % 2 ^ 96) 0 0
  let x := Config.gcmSeal k.1 b.nonce (blobAad b) j.key
  let same (e : KeyEntry) : Bool := e.blob.parent == p && e.blob.child == c
  let seq := match s.cis.b1.keys.find? same with
    | some e => (e.seq + 1) % 2 ^ 32
    | none => 0
  ((s.cis.b1.keys.filter fun e => !(same e)) ++ [⟨seq, { b with key := x.1, tag := x.2 }⟩], k.2)

/-- The record of a key update with its counter. -/
def kuRec (j : KeyJob) (s : State) : WellRec := { wellRec s with counter := field j.msg 0x18 8 }

/-- INSTALL (R256). -/
def execKeyInstall (s : State) : Out :=
  match kuReady 1 s with
  | none => .next s
  | some j => let w := wrapEntry j s; .next (kuWrite j (kuRec j s) w.1 w.2)

/-- STAGE (R256): the child is recorded as staged. -/
def execKeyStage (s : State) : Out :=
  match kuReady 2 s with
  | none => .next s
  | some j =>
    let w := wrapEntry j s
    .next (kuWrite j { kuRec j s with staged := some (field j.msg 6 1, field j.msg 7 1) } w.1 w.2)

/-- GENERATE (R256). -/
def execKeyGenerate (s : State) : Out :=
  match kuReady 3 s with
  | none => .next s
  | some j => let w := wrapEntry j s; .next (kuWrite j (kuRec j s) w.1 w.2)

/-- DESTROY_PARENT (R256). -/
def execDestroyParent (s : State) : Out :=
  match kuReady 4 s with
  | none => .next s
  | some j =>
    let p := field j.msg 6 1
    let r := kuRec j s
    .next (kuWrite j { r with gens := upd r.gens p (· + 1), revoked := upd r.revoked p (fun _ => 0) }
      (s.cis.b1.keys.filter fun e => e.blob.parent != p) s)

/-- A record with a child revoked (R256, OP 5). -/
def revokeIn (p c : Nat) (r : WellRec) : WellRec := { r with revoked := upd r.revoked p (fun n => withBit n c) }

/-- REVOKE_CHILD (R256). -/
def execRevokeChild (s : State) : Out :=
  match kuReady 5 s with
  | none => .next s
  | some j =>
    let p := field j.msg 6 1
    let c := field j.msg 7 1
    .next (kuWrite j (revokeIn p c (kuRec j s)) (s.cis.b1.keys.filter fun e => !(e.blob.parent == p && e.blob.child == c)) s)

/-- RESEAT (R256): the generations from EPH, the counter from COUNTER. -/
def execReseat (s : State) : Out :=
  match kuReady 6 s with
  | none => .next s
  | some j =>
    let g := (List.range 16).map fun p => field j.msg (0x30 + 4 * p) 4
    .next (kuWrite j { counter := field j.msg 0x18 8, gens := g } s.cis.b1.keys s)

/-- The staged decoder key comes into force, the former one is revoked (R256), under the commit rule of R255. -/
def activateDecoder (s : State) : State :=
  let r := wellRec s
  match r.staged with
  | none => s
  | some st =>
    let r := match r.decoder with
      | some e => revokeIn e.1 e.2 r
      | none => r
    let keys := match (wellRec s).decoder with
      | some e => s.cis.b1.keys.filter fun k => !(k.blob.parent == e.1 && k.blob.child == e.2)
      | none => s.cis.b1.keys
    kuWrite { op := 0 } { r with decoder := some st, staged := none } keys s

/-- The working slots a committed key update clears (R256): the parent's, or the child's. -/
def kuClears (j : KeyJob) (old : WellRec) (w : WSlot) : Bool :=
  if j.op = 0 then old.decoder == some (w.parent, w.child)
  else if j.op = 4 then w.parent == field j.msg 6 1
  else if j.op = 6 then true
  else w.parent == field j.msg 6 1 && w.child == field j.msg 7 1

/-- A committed key update takes effect (R255). A slot that an operation holds is cleared at the operation's end (R264). -/
def kuCommit (j : KeyJob) (r : WellRec) (s : State) : State :=
  let old := wellRec s
  let s := updWell (fun w => { w with
    d0 := some r, ku := none, wellInit := true, slots := w.slots.filter fun x => !(kuClears j old x) || (heldSlot s x && [0, 4, 5].contains j.op),
    parents := if j.op = 4 ∨ j.op = 6 then [] else w.parents }) s
  let s := if j.op = 6 then put F.WEL_STATUS_KEYS_LOST 0 s else s
  let s := raiseIf (j.op = 4) F.WEL_CAUSE_PARENT_DESTROYED (raiseIf (j.op = 0) F.WEL_CAUSE_DECODER_ACTIVATED s)
  let s := showWell (showRecord s)
  if j.op = 0 then s
  else answerReply j.reply 0 (le 1 0)
    (raise F.WEL_CAUSE_KU_DONE (kuResult 0 j.op (field j.msg 6 1) (field j.msg 7 1) s))

/-- The public key of a slot of KTYPE 3 or 4 (R249). -/
def slotPublic (w : WSlot) : Nat := if w.ktype = 4 then Config.point (bit w.role 0) w.key else Config.publicKey w.key

/-- The attestation statement without SIG (R259). -/
def statement (w : WSlot) (nonce : List Byte) (s : State) : List Byte :=
  let info := if w.ktype = 3 ∨ w.ktype = 4 then be 64 (slotPublic w) else be 8 (Config.kcv w.key) ++ zeros 56
  le 2 0x0A01 ++ le 1 (b2n (testRoot s)) ++ le 1 w.origin ++ uidBytes ++ le 1 w.parent ++ le 1 w.child ++ le 2 w.dest ++
    le 4 w.gen ++ le 2 w.usage ++ le 1 w.ktype ++ le 1 0 ++ nonce ++ info ++ le 4 (rtc s) ++ le 4 w.rev ++ zeros 8

/-- The 192-byte statement, signed by DAK (R259, R260). -/
def attestation (w : WSlot) (nonce : List Byte) (s : State) : List Byte :=
  let b := statement w nonce s
  b ++ be 64 (Config.ecdsaSign (Config.dak (testRoot s)) (Config.sha256 b))

/-- An attestation request (R259). -/
def attest (p c : Nat) (nonce : List Byte) (reply : Reply) (s : State) : State :=
  let l := loadKey p c none s
  match l.1 with
  | .ok w => answerReply reply 0 (attestation w nonce l.2) l.2
  | r => answerReply reply (loadCode r) [] l.2

/-- ATTESTATION_REQUEST (R259). -/
def execAttestationRequest (p c : Nat) (nonce : List Byte) (reply : Reply) (s : State) : Out := 
  done (attest p c nonce reply (takeReply reply s))

/-- CERTIFICATE_REQUEST (R259). -/
def execCertificateRequest (reply : Reply) (s : State) : Out := 
  done (answerReply reply 0 Config.certificate (takeReply reply s))

/-- REMASK (R258): every REMASK seconds, in NAP too, never in OUTAGE or SHIP. -/
def execRemask (s : State) : Out :=
  onlyIf (s.sup.mode != .outage && s.sup.mode != .ship && decide (s.well.maskAt + 1024 * get F.WEL_CFG_REMASK s ≤ s.sup.mono))
    remask s

/-- The public key in `WEL_OTP_DATA_w`: X then Y, byte 4w in bits 7:0 (R247). -/
def otpData (s : State) : Nat :=
  ofBe ((List.range 16).flatMap fun w => le 4 (sparseGet 0 s.hidden (R.WEL_OTP_DATA w)).toNat)

/-- A write of `WEL_OTP_CTL` (R247). It has its effect only while debug is enabled, since only then the debug port connects. -/
def otpWrite (w : Word) (s : State) : State :=
  if arg F.WEL_OTP_CTL_KEY w ≠ 0xD7 ∨ !(testRoot s) then s
  else
    let slot := arg F.WEL_OTP_CTL_SLOT w
    let s := if arg F.WEL_OTP_CTL_BURN w = 1 then
        if s.well.provLock || (nth none s.well.otp slot).isSome then raise F.WEL_CAUSE_OTP_REFUSED s
        else updWell (fun x => { x with otp := upd x.otp slot (fun _ => some (otpData s)) }) s
      else s
    let s := if arg F.WEL_OTP_CTL_LOCK w = 1 then updWell (fun x => { x with provLock := true }) s else s
    showOtp (if arg F.WEL_OTP_CTL_KILL w = 1 then updWell (fun x => { x with dbgKill := true }) s else s)

/-- BURN (R247). -/
def execOtpBurn (m : Master) (w : Word) (s : State) : Out := cmdWrite m R.WEL_OTP_CTL (otpWrite w) s

/-- LOCK (R247). -/
def execOtpLock (m : Master) (w : Word) (s : State) : Out := cmdWrite m R.WEL_OTP_CTL (fun s => otpWrite w s) s

/-- KILL (R247). -/
def execOtpKill (m : Master) (w : Word) (s : State) : Out := cmdWrite m R.WEL_OTP_CTL (otpWrite w ·) s

/-- The Well delivers a child to engine `e` for destination `dest` (R250): the fabric link cipher serves E10, every other destination E8. -/
def servedTo (e dest : Nat) : Bool := (e == 10) == (dest == 4)

/-- Start the next job of the queue whose key can be loaded (R253, R261); a job whose load is refused ends there. -/
def startJobs : Nat → State → State
  | 0, s => s
  | n + 1, s =>
    if s.well.running.isSome then s
    else match s.well.jobs with
      | [] => s
      | j :: t =>
        let s := updWell (fun w => { w with jobs := t }) s
        match j.key with
        | none => updWell (fun w => { w with running := some j }) s
        | some e =>
          let l := loadKey e.1 e.2 (some (if servedTo j.caller j.dest then j.dest else 0, j.usage)) s
          match l.1 with
          | .ok _ => updWell (fun w => { w with running := some j }) l.2
          | _ => startJobs n l.2

/-- Put a job into the queue (R261): E10's link jobs go before the others. -/
def insertJob (j : CryptoJob) (l : List CryptoJob) : List CryptoJob :=
  if j.caller = 10 then (l.filter fun x => x.caller == 10) ++ [j] ++ (l.filter fun x => x.caller != 10) else l ++ [j]

/-- CRYPTO_JOB (R261), from E1, E2, E8 or E10. While the TRNG is lasting P-256 key generation is refused (R262). -/
def execCryptoJob (job : CryptoJob) (s : State) : Out :=
  onlyIf (e8Up s && [1, 2, 8, 10].contains job.caller && !(isLasting 45 s && job.op == 8)) (fun s =>
    if 8 ≤ s.well.jobs.length then raise F.SEC_CAUSE_JOB_REFUSED s
    else showWell (startJobs 9 (updWell (fun w => { w with jobs := insertJob job w.jobs }) s))) s

/-- CRYPTO_JOB_DONE (R260). -/
def execCryptoJobDone (s : State) : Out :=
  onlyIf (e8Up s && s.well.running.isSome) (fun s =>
    showWell (startJobs 9 (releaseSlots (updWell (fun w => { w with running := none }) s)))) s

/-- The DRBG takes a seed (R262). -/
def seedDrbg (s : State) : State :=
  let s := updWell (fun w => { w with seeded := true, seedAt := s.sup.mono, requests := 0 }) s
  put F.SEC_STATUS_TRNG_OK 1 (put F.SEC_TRNG_STAT_RESEEDS (get F.SEC_TRNG_STAT_RESEEDS s + 1) (raise F.SEC_CAUSE_RESEED s))

/-- The cutoff of the adaptive proportion test (R262): 1 + CRITBINOM(1024, 2^(-1/2), 1 - 2^(-20)). PRESUMED: the formula is that of
NIST SP 800-90B (log 42). -/
def aptCutoff : Nat := 793

/-- The health tests take one raw bit (R262); the answer says which test fails. A test that fails begins afresh, and the seed in progress is
discarded (log 42). -/
def trngBit (t : Trng) (b : Bool) : Bool × Bool × Trng :=
  let run := if t.last = some b then t.run + 1 else 1
  let first := if t.pos = 0 then b else t.first
  let same := if first = b then t.same + 1 else t.same
  let rct := decide (41 ≤ run)
  let apt := decide (aptCutoff ≤ same)
  let over' := apt || decide (t.pos = 1023)
  (rct, apt, { last := if rct then none else some b, run := if rct then 0 else run, first := first
               same := if over' then 0 else same, pos := if over' then 0 else t.pos + 1
               good := if rct || apt then 0 else t.good + 1 })

/-- The tests over raw bits: how often either fails, and where they stand. -/
def trngRun (t : Trng) (raw : List Bool) : Nat × Nat × Trng :=
  raw.foldl (fun a b => let r := trngBit a.2.2 b; (a.1 + b2n r.1, a.2.1 + b2n r.2.1, r.2.2)) (0, 0, t)

/-- One failed test (R262): an occurrence of the TRNG's counter. -/
def trngFail (s : State) : State :=
  let was := isLasting 45 s
  let s := occurrence 45 0 0 (raise F.SEC_CAUSE_TRNG_HEALTH (put F.SEC_STATUS_TRNG_OK 0 s))
  if isLasting 45 s && !was then raise F.SEC_CAUSE_TRNG_LASTING (put F.SEC_STATUS_TRNG_LASTING 1 s) else s

/-- TRNG_SEED (R262): the raw bits since the last one run through the tests; each failure counts and discards the seed in progress. 1 024 bits give a
seed, which a DRBG takes that has none; while the counter is lasting no seed reaches it. -/
def execTrngSeed (raw : List Bool) (s : State) : Out :=
  onlyIf (e8Up s) (fun s =>
    let r := trngRun s.well.trng raw
    let s := updWell (fun w => { w with trng := if 1024 ≤ r.2.2.good then { r.2.2 with good := 0 } else r.2.2 }) s
    let s := addSat F.SEC_TRNG_STAT_RCT_FAILS r.1 (addSat F.SEC_TRNG_STAT_APT_FAILS r.2.1 s)
    let s := (List.range (r.1 + r.2.1)).foldl (fun s _ => trngFail s) s
    if r.2.2.good < 1024 ∨ isLasting 45 s then s
    else if s.well.seeded then put F.SEC_STATUS_TRNG_OK 1 s
    else seedDrbg s) s

/-- DRBG_RESEED (R262): every 60 s or 2^20 requests. -/
def execDrbgReseed (s : State) : Out :=
  onlyIf (e8Up s && s.well.seeded && !(isLasting 45 s) &&
    (decide (s.well.seedAt + 61440 ≤ s.sup.mono) || decide (2 ^ 20 ≤ s.well.requests))) seedDrbg s

end Sys2Proof.Machine
end

