-- ==== Sys2Proof/Machine/Token.lean ====
section
/-! DEFINITION. Tokens and remote credit messages (R189 to R195). -/
namespace Sys2Proof.Machine

/-- Change the account's state. -/
def updPay (f : PaySt → PaySt) (s : State) : State := { s with pay := f s.pay }

/-- Tell whoever waits for a token's result: an object's value, or CREDIT_RES (R333). -/
def answerToken (r : Reply) (code : Nat) (s : State) : State :=
  match r with
  | .object i => answerObject i 0 (le 1 code) s
  | .message src id => respond 4 id src (le 1 code ++ le 2 (get F.PAY_TOKEN_RES_SEQ s)) s
  | .nobody => s

/-- Post a result in `PAY_TOKEN_RES` (R191) and write the credit record, as at every token (R196); `cls` holds class and subclass. -/
def postToken (code : Nat) (cls : Nat × Nat) (t : Token) (s : State) : State :=
  let s := put F.PAY_TOKEN_RES_CODE code (put F.PAY_TOKEN_RES_CLASS cls.1 (put F.PAY_TOKEN_RES_SUBCLASS cls.2
    (put F.PAY_TOKEN_RES_SOURCE t.source (put F.PAY_TOKEN_RES_SEQ (get F.PAY_TOKEN_RES_SEQ s + 1) s))))
  let s := if e2Up s then writeCredit 3 s else s
  showCredit (answerToken t.reply code (raise F.PAY_CAUSE_TOKEN_DONE s))

/-- Class and subclass that a result shows before the token is decoded. -/
def shownClass (t : Token) : Nat × Nat := if t.remote.isSome then (0, 0xF) else (0, 0)

/-- The activation of a staged decoder key waits for its commit (R192, R256). -/
def activationWaits (s : State) : Bool := s.pay.activating.isSome && s.well.ku.isSome

/-- The key of a token or message, which its decode holds from its start (R189, R193, R264). -/
def decodeLoad (t : Token) (s : State) : Load × State :=
  if t.remote.isSome then (if s.ld.tables.prepay.isSome then loadNamed s.ld.tables.obj.remoteKey (1, 8) s else (Load.absent, s))
  else match (wellRec s).decoder with
    | none => (Load.absent, s)
    | some e => loadKey e.1 e.2 (some (1, 0x80)) s

/-- The oldest waiting token goes into decode (R191), but not during guarded start (R194). -/
def nextToken (s : State) : State :=
  match s.pay.dec, s.pay.queue with
  | none, t :: q =>
    if guarded s || activationWaits s then s
    else
      let l := decodeLoad t s
      showCredit (updPay (fun p => { p with dec := some t, decKey := some l.1, decBlanked := blanking s, queue := q }) l.2)
  | _, _ => s

/-- The key that the token in decode holds. -/
def heldKey (s : State) : Load := s.pay.decKey.getD .absent

/-- A token or message arrives (R191): at most four wait. -/
def queueToken (t : Token) (s : State) : State :=
  if 4 ≤ s.pay.queue.length then postToken 10 (shownClass t) t s
  else showCredit (nextToken (updPay (fun p => { p with queue := p.queue ++ [t] }) s))

/-- The token in `PAY_TOKEN_n`. -/
def tokenBits (s : State) : Nat :=
  let w (n : Nat) : Nat := (sparseGet 0 s.hidden (R.PAY_TOKEN n)).toNat
  w 0 + w 1 * 2 ^ 32 + w 2 % 4 * 2 ^ 64

/-- A write of `PAY_TOKEN_CTL` (R187, R191). -/
def payTokenWrite (w : Word) (s : State) : State :=
  let s := if arg F.PAY_TOKEN_CTL_SUBMIT w = 1 then
      queueToken { bits := tokenBits s, source := arg F.PAY_TOKEN_CTL_SOURCE w } s else s
  if arg F.PAY_TOKEN_CTL_EC_REQ w = 1 then requestEc s else s

/-- EC_REQUEST (R187). -/
def execEcRequest (m : Master) (w : Word) (s : State) : Out := cmdWrite m R.PAY_TOKEN_CTL (payTokenWrite w) s

/-- TOKEN_SUBMIT (R191). -/
def execTokenSubmit (m : Master) (w : Word) (s : State) : Out := cmdWrite m R.PAY_TOKEN_CTL (fun s => payTokenWrite w s) s

/-- REMOTE_CREDIT (R193). -/
def execRemoteCredit (bytes : List Byte) (source : Nat) (reply : Reply) (s : State) : Out :=
  onlyIf (domOn 5 s) (queueToken { remote := some bytes, source := source, reply := reply }) s

/-- A token's outcome: code (`none`: it comes later), class and subclass, the state after its effect. -/
abbrev TokenOut := Option Nat × (Nat × Nat) × State

/-- Record an accepted identifier (R191): the history keeps the 64 most recent. -/
def recordTid (tid source : Nat) (s : State) : State :=
  updCredit (fun c => { c with tids := (if c.tids.length < 64 then c.tids else c.tids.tail) ++ [(tid, source)] }) s

/-- An accepted token's identifier beside its effect, in the record that the result writes; emergency credit ends with a credit. -/
def accepted (tid : Nat) (t : Token) (s : State) : State := endEmergency (recordTid tid t.source s)

/-- The conversion of R190: C and the residue after a credit of `n` units of 0.1 kWh. -/
def convert (p : Prepay) (n : Nat) (c : CreditRec) : Int × Nat :=
  let a := n * p.tokenPrice
  let f := a % 10 * 100000
  if f ≤ c.resid then (c.credit + (a / 10 : Nat), c.resid - f) else (c.credit + (a / 10 : Nat) + 1, c.resid + 1000000 - f)

/-- Electricity credit (R190). -/
def creditToken (n tid : Nat) (t : Token) (s : State) : TokenOut :=
  match s.ld.tables.prepay with
  | none => (some 4, (0, 0), s)
  | some p =>
    let r := convert p n s.pay.cur
    if p.creditMax < r.1 then (some 9, (0, 0), s)
    else (some 0, (0, 0), accepted tid t (updCredit (fun c => { c with credit := r.1, resid := r.2 }) s))

/-- Set maximum power limit (R189, R197). -/
def limitToken (n tid : Nat) (t : Token) (s : State) : TokenOut :=
  let s := updCredit (fun c => { c with mpl := n % 2 ^ 32 }) s
  let s := if n = 0 ∧ flag F.PAY_STATUS_MPL_TRIP s then raise F.PAY_CAUSE_MPL_CHANGE (put F.PAY_STATUS_MPL_TRIP 0 s) else s
  (some 0, (2, 0), accepted tid t s)

/-- Clear credit (R189). -/
def clearToken (tid : Nat) (t : Token) (s : State) : TokenOut :=
  if s.ld.tables.prepay.isNone then (some 4, (2, 1), s)
  else (some 0, (2, 1), accepted tid t (updPay (fun p => { p with ec := false })
    (updCredit (fun c => { c with credit := 0, resid := 0 }) s)))

/-- Clear tamper condition (R189, R273): every lasting counter with TOKEN_CLEAR is cleared, and so is the tamper reason. -/
def tamperToken (tid : Nat) (t : Token) (s : State) : TokenOut :=
  let s := (List.range 64).foldl (fun s c =>
    if isLasting c s && flag (F.TAMP_FC_RESP_TOKEN_CLEAR c) s && !(inFallback s) then clearLasting c 5 s else s) s
  (some 0, (2, 5), accepted tid t (updRly (fun r => { r with tampAck := tamperOpens s }) s))

/-- A section kept with those of its set (R192); one submitted again replaces the copy kept. -/
def keepSection (sub content tid : Nat) (t : Token) (s : State) : State :=
  updPay (fun p => { p with
    sections := (p.sections.filter fun e => e.1 != sub) ++ [(sub, content, tid, t.source)]
    sectSince := if p.sections.isEmpty then s.sup.mono else p.sectSince }) s

/-- The staged decoder key (R192). -/
def stagedKey (s : State) : Load × State :=
  match (wellRec s).staged with
  | some e => loadKey e.1 e.2 (some (1, 0x80)) s
  | none => (Load.absent, s)

/-- The subclasses of a complete set: two sections for the Standard Transfer Algorithm, four for the 128-bit algorithm. -/
def sectionSet (k : Load) (l : List (Nat × Nat × Nat × Nat)) : List Nat :=
  let four := match k with
    | .ok w => w.ktype == 6
    | _ => l.any fun e => e.1 == 8 || e.1 == 9
  if four then [3, 4, 8, 9] else [3, 4]

/-- A decoder-key section (R192): kept until the set is complete, then compared with the staged key. A match activates that key, and the
result follows the commit; while a key update has not committed E8 does not come to it. -/
def sectionToken (sub content tid : Nat) (t : Token) (s : State) : TokenOut :=
  let s0 := s
  let s := keepSection sub content tid t s
  let l := s.pay.sections
  let st := stagedKey s
  let s := st.2
  let need := sectionSet st.1 l
  if !(need.all fun n => l.any fun e => e.1 == n) then (some 7, (2, sub), s)
  else
    let k := Config.sectionKey (need.map fun n => ((l.find? fun e => e.1 == n).map (·.2.1)).getD 0)
    let used := (l.filter fun e => need.contains e.1).map fun e => (e.2.2.1, e.2.2.2)
    let s := updPay (fun p => { p with sections := [] }) s
    match st.1 with
    | .ok w =>
      if w.key ≠ k then (some 8, (2, sub), s)
      else if s.well.ku.isSome then (none, (2, sub), s0)
      else (none, (2, sub), activateDecoder (updPay (fun p => { p with activating := some ⟨t, sub, used, w.rev⟩ }) s))
    | _ => (some 8, (2, sub), s)

/-- A decoded token (R189, R191): supported, not used, not old, then its action. -/
def actToken (t : Token) (cls sub tid content : Nat) (s : State) : TokenOut :=
  let h := s.pay.cur.tids.map (·.1)
  let known := (cls = 0 && sub = 0) || (cls = 2 && [0, 1, 3, 4, 5, 8, 9].contains sub)
  let noPrepay := s.ld.tables.prepay.isNone && (cls = 0 || sub = 1)
  if !known || noPrepay then (some 4, (cls, sub), s)
  else if h.contains tid then (some 2, (cls, sub), s)
  else if h.length = 64 ∧ h.all (fun x => decide (tid < x)) then (some 3, (cls, sub), s)
  else if cls = 0 then creditToken content tid t s
  else if sub = 0 then limitToken content tid t s
  else if sub = 1 then clearToken tid t s
  else if sub = 5 then tamperToken tid t s
  else sectionToken sub content tid t s

/-- The result code of a load that is refused to the decoder (R191, R253). -/
def noKey : Load → Nat
  | .blanked => 6
  | _ => 5

/-- Decode a 66-bit token under the decoder key that was in force at its start (R264). -/
def decodeToken (t : Token) (s : State) : TokenOut :=
  match heldKey s with
  | .ok w =>
    match Config.stsDecode w.key (w.ktype = 6) t.bits with
    | none => (some 1, (0, 0), s)
    | some x => actToken t x.1 x.2.1 x.2.2.1 x.2.2.2 s
  | r => (some (noKey r), (0, 0), s)

/-- A remote credit message (R193) under its key. An AMOUNT above CREDIT_MAX that a debt absorbs lies outside the field's range (log 25). -/
def remoteCheck (b : List Byte) (key : Nat) (p : Prepay) (s : State) : Nat :=
  let amount : Int := (field b 0x14 8 : Nat)
  if b.length ≠ 48 ∨ field b 0 2 ≠ 0x5243 ∨ field b 2 2 ≠ 48 ∨ (b.drop 4).take 8 ≠ be 8 myEui ∨
      field b 0x0C 8 ≤ s.pay.cur.rctr ∨ (Config.cmac key (b.take 0x28)).take 8 ≠ b.drop 0x28 ∨ amount < 1 then 1
  else if p.creditMax < s.pay.cur.credit + amount then 9
  else if p.creditMax < amount then 1
  else 0

/-- The vendor's reference of an accepted message is logged (R193), under a KIND the spec does not give (log 10). -/
def logRef (b : List Byte) (s : State) : State :=
  let f := fresh s
  legalEvent (f.1 % 2 ^ 16) 0xFF [(b.drop 0x20).take 8] f.2

/-- Act on a remote credit message (R193). -/
def remoteToken (b : List Byte) (s : State) : TokenOut :=
  match s.ld.tables.prepay with
  | none => (some 4, (0, 0xF), s)
  | some p =>
    match heldKey s with
    | .ok w =>
      let c := remoteCheck b w.key p s
      if c ≠ 0 then (some c, (0, 0xF), s)
      else (some 0, (0, 0xF), logRef b (endEmergency (updCredit (fun r => { r with
        credit := r.credit + (field b 0x14 8 : Nat), rctr := field b 0x0C 8 }) s)))
    | r => (some (noKey r), (0, 0xF), s)

/-- The outcome of the token in decode (R194, R195). -/
def tokenOutcome (t : Token) (s : State) : TokenOut :=
  if s.pay.decBlanked || blanking s then (some 6, shownClass t, s)
  else if inFallback s then (some 5, shownClass t, s)
  else match t.remote with
    | some b => remoteToken b s
    | none => decodeToken t s

/-- The token in decode has its outcome: the result is posted, the next token starts. -/
def finishToken (t : Token) (r : TokenOut) (s : State) : State :=
  let out := releaseSlots (updPay (fun p => { p with dec := none, decKey := none, decBlanked := false }) r.2.2)
  match r.1 with
  | some c => nextToken (postToken c r.2.1 t out)
  | none => if r.2.2.pay.activating.isSome then out else s

/-- TOKEN_DECODE_DONE (R189, R191). -/
def execTokenDecodeDone (s : State) : Out :=
  match s.pay.dec with
  | none => .next s
  | some t => onlyIf (e2Up s) (fun s => finishToken t (tokenOutcome t s) s) s

/-- The activation has committed (R192, R256): the identifiers of the set, its key revision and the result, in one credit record. -/
def finishActivation (s : State) : State :=
  match s.pay.activating with
  | none => s
  | some a =>
    let s := a.ids.foldl (fun s e => recordTid e.1 e.2 s) (updCredit (fun c => { c with keyrev := a.rev }) s)
    nextToken (postToken 0 (2, a.sub) a.token (raise F.PAY_CAUSE_KEY_ACTIVATED (updPay (fun p => { p with activating := none }) s)))

/-- KEY_UPDATE_COMMIT (R255): bank 1's store has committed, so that nothing of it waits to be stored. -/
def execKeyUpdateCommit (s : State) : Out :=
  match s.well.ku with
  | none => .next s
  | some j =>
    match j.written with
    | none => .next s
    | some r =>
      onlyIf (!(fbit F.CIS_STATUS_DIRTY 1 s) && !(fbit F.CIS_STATUS_COPYING 1 s) && !(fbit F.CIS_QUEUE_WAITING 1 s)) (fun s =>
        let s := kuCommit j r s
        if j.op = 0 && domOn 5 s then finishActivation s else s) s

/-- At the freeze the token in decode and then those waiting are answered ABANDONED (R194). -/
def abandonTokens (s : State) : State :=
  let l := (s.pay.activating.map (·.token)).toList ++ s.pay.dec.toList ++ s.pay.queue
  l.foldl (fun s t => postToken 11 (shownClass t) t s)
    (updPay (fun p => { p with dec := none, decKey := none, decBlanked := false, queue := [], activating := none }) s)

/-- KEY_SECTIONS_EXPIRE (R192): 24 h after the first section of a set. -/
def execKeySectionsExpire (s : State) : Out :=
  onlyIf (!s.pay.sections.isEmpty && decide (s.pay.sectSince + 1024 * 86400 ≤ s.sup.mono))
    (updPay fun p => { p with sections := [] }) s

end Sys2Proof.Machine
end

