-- ==== Sys2Proof/Machine/Panel.lean ====
section
/-! DEFINITION. The display panel and the keypad (chapter 16). -/
namespace Sys2Proof.Machine

/-- Change the panel's and the keypad's state. -/
def updPnl (f : PnlSt → PnlSt) (s : State) : State := { s with pnl := f s.pnl }

/-- The panel's state (`PNL_STATUS.STATE`). -/
def pnlState (s : State) : Nat := get F.PNL_STATUS_STATE s

/-- A command or RAM write is dropped (R348). -/
def pnlRefuse (s : State) : State := raise F.PNL_CAUSE_CMD_REFUSED s

/-- Panel RAM reads 0 again (R346, R347). -/
def clearRam (s : State) : State :=
  { s with regs := sparseFilter (fun a => decide (a < R.PNL_RAM 0) || decide (R.PNL_RAM 511 < a)) s.regs }

/-- A normal power-down begins (R347): no column current from now on; the pumps stop at the end of the frame. -/
def panelDown (s : State) : State :=
  put F.PNL_STATUS_STATE 5 (updPnl (fun p => { p with offPend := true, lightPend := false, glowPend := false }) s)

/-- Fast power-down (R347): at power-fail detection. -/
def panelFastOff (s : State) : State :=
  if !(domOn 10 s) || pnlState s = 0 then s
  else
    let s := updPnl (fun p => { p with pumps := 0, offPend := false, lightPend := false, glowPend := false }) s
    raise F.PNL_CAUSE_FAST_OFF (clearRam (put F.PNL_STATUS_PUMP_OK 0 (put F.PNL_STATUS_STATE 0 s)))

/-- ON (R346, R348); without a panel there is nothing to power up. -/
def ctlOn (s : State) : State :=
  if pnlState s ≠ 0 ∨ get F.PNL_CFG_PANEL s = 3 then pnlRefuse s
  else put F.PNL_STATUS_STATE 1 (put F.PNL_STATUS_FRAME 0 (updPnl (fun p => { p with pumps := 0, offPend := false }) s))

/-- LIGHT (R346, R349): from ready at the next panel frame; out of glow mode the rails P1 and P3 are raised first. -/
def ctlLight (s : State) : State :=
  if pnlState s = 2 then updPnl (fun p => { p with lightPend := true }) s
  else if pnlState s = 4 then updPnl (fun p => { p with lightPend := true, raising := if p.lightPend then p.raising else 2 }) s
  else pnlRefuse s

/-- OFF (R347, R348). -/
def ctlOff (s : State) : State := if pnlState s = 0 ∨ pnlState s = 5 then s else panelDown s

/-- GLOW (R349): only in the small configuration and from lit. -/
def ctlGlow (s : State) : State :=
  if pnlState s = 3 ∧ get F.PNL_CFG_PANEL s = 0 then updPnl (fun p => { p with glowPend := true }) s else pnlRefuse s

/-- A write of `PNL_CTL` (R346 to R349). -/
def pnlCtlWrite (w : Word) (s : State) : State :=
  if arg F.PNL_CTL_KEY w ≠ 0xB4 then s
  else
    let s := if arg F.PNL_CTL_ON w = 1 then ctlOn s else s
    let s := if arg F.PNL_CTL_LIGHT w = 1 then ctlLight s else s
    let s := if arg F.PNL_CTL_GLOW w = 1 then ctlGlow s else s
    if arg F.PNL_CTL_OFF w = 1 then ctlOff s else s

/-- ON (R346). -/
def execPanelOn (m : Master) (w : Word) (s : State) : Out := cmdWrite m R.PNL_CTL (pnlCtlWrite w) s

/-- LIGHT (R346). -/
def execPanelLight (m : Master) (w : Word) (s : State) : Out := cmdWrite m R.PNL_CTL (fun s => pnlCtlWrite w s) s

/-- OFF (R347). -/
def execPanelOff (m : Master) (w : Word) (s : State) : Out := cmdWrite m R.PNL_CTL (fun t => pnlCtlWrite w t) s

/-- GLOW (R349). -/
def execPanelGlow (m : Master) (w : Word) (s : State) : Out := cmdWrite m R.PNL_CTL (pnlCtlWrite w ·) s

/-- The bit of `PUMP_OK` of the `i`th pump in power-up order: P3, P1, P4, P2 (R346). -/
def pumpBit (i : Nat) : Nat := nth 0 [2, 0, 3, 1] i

/-- PUMP_IN_REGULATION (R346): the next pump starts; with the fourth the panel is ready and dark. On the way out of glow mode a rail has
been raised (R349). -/
def execPumpInRegulation (s : State) : Out :=
  onlyIf (domOn 10 s && (pnlState s == 1 || pnlState s == 4)) (fun s =>
    if pnlState s = 4 then updPnl (fun p => { p with raising := p.raising - 1 }) s
    else
    let s := putBit F.PNL_STATUS_PUMP_OK (pumpBit s.pnl.pumps) true (updPnl (fun p => { p with pumps := p.pumps + 1 }) s)
    if s.pnl.pumps < 4 then s
    else raise F.PNL_CAUSE_ON_DONE (put F.PNL_STATUS_STATE 2 (clearRam s))) s

/-- PANEL_FRAME_END (R344, R346, R347, R349, R350): pending changes take effect; after an OFF the pumps stop. -/
def execPanelFrameEnd (s : State) : Out :=
  onlyIf (domOn 10 s && decide (2 ≤ pnlState s)) (fun s =>
    let s := put F.PNL_STATUS_FRAME (get F.PNL_STATUS_FRAME s + 1) s
    let s := updPnl (fun p => { p with blinks := (List.range 8).map fun n => (rd s (R.PNL_BLINK n)).toNat }) s
    if s.pnl.offPend then
      raise F.PNL_CAUSE_OFF_DONE (clearRam (put F.PNL_STATUS_PUMP_OK 0 (put F.PNL_STATUS_STATE 0
        (updPnl (fun p => { p with pumps := 0, offPend := false }) s))))
    else if s.pnl.lightPend && s.pnl.raising == 0 then
      raise F.PNL_CAUSE_LIT (put F.PNL_STATUS_STATE 3 (updPnl (fun p => { p with lightPend := false, glowPend := false }) s))
    else if s.pnl.glowPend then put F.PNL_STATUS_STATE 4 (updPnl (fun p => { p with glowPend := false }) s)
    else s) s

/-- PUMP_FAULT (R348): pump `k` (0 to 3 for P1 to P4). -/
def execPumpFault (k : Nat) (s : State) : Out :=
  onlyIf (domOn 10 s && decide (1 ≤ pnlState s) && decide (pnlState s ≤ 4) && decide (k < 4)) (fun s =>
    panelDown (raise F.PNL_CAUSE_PUMP_FAULT (putBit F.PNL_STATUS_PUMP_OK k false s))) s

/-- A region of rate code `r` is in its off half at RTC second `t`, sub-second `b` (R350). -/
def blinkOffAt (r t b : Nat) : Bool :=
  if r = 1 then t % 2 = 1 else if r = 2 then decide (512 ≤ b % 1024) else if r = 3 then decide (256 ≤ b % 512) else false

/-- Field `f` of the `PNL_BLINK` word in force of region `n` (R350). -/
def blinkField (f : Nat → Fld) (n : Nat) (s : State) : Nat := fieldOf (f n) (BitVec.ofNat 32 (nth 0 s.pnl.blinks n))

/-- BLINK_PHASE (R350): the regions in their off half at sub-second `sub`; only in the large configuration. -/
def execBlinkPhase (sub : Nat) (s : State) : Out :=
  onlyIf (domOn 10 s && get F.PNL_CFG_PANEL s == 2) (fun s =>
    updPnl (fun p => { p with
      blinkOff := (List.range 8).foldl (fun n k => if blinkOffAt (blinkField F.PNL_BLINK_RATE k s) (rtc s) sub then withBit n k else n) 0 }) s) s

/-! What the panel carries, as the state gives it (R344, R345, R349, R350). -/

/-- The rows scanned: commons and glow rows, or the dot rows; in glow mode the glow rows alone. -/
def rowsScanned (s : State) : Nat :=
  match get F.PNL_CFG_PANEL s with
  | 0 => (if pnlState s = 4 then 0 else 4) + get F.PNL_GLOW_CFG_ROWS s
  | 1 => 32
  | 2 => 40
  | _ => 0

/-- The row time in ns (R344). -/
def rowTime (s : State) : Nat := 10 ^ 9 / (get F.PNL_CFG_FRAME_HZ s * rowsScanned s)

/-- The pulse width in ns of grey value `g` (R344). -/
def pulseWidth (g : Nat) (s : State) : Nat := (rowTime s - 1000 * get F.PNL_CFG_PRE s - 4000) * g / 15

/-- Nibble `i` of the panel RAM (R354). -/
def ramNibble (i : Nat) (s : State) : Nat := (rd s (R.PNL_RAM (i / 8))).toNat / 16 ^ (i % 8) % 16

/-- A region in its off half covers dot (x, y) (R350). -/
def blinkedOff (x y : Nat) (s : State) : Bool :=
  (List.range 8).any fun n =>
    bit s.pnl.blinkOff n && decide (blinkField F.PNL_BLINK_X0 n s ≤ x) && decide (x ≤ blinkField F.PNL_BLINK_X1 n s) &&
      decide (blinkField F.PNL_BLINK_Y0 n s ≤ y) && decide (y ≤ blinkField F.PNL_BLINK_Y1 n s)

/-- The grey value of column `x` on the glow row `r` (R344). -/
def glowGrey (r x : Nat) (s : State) : Nat :=
  let g := ramNibble (192 + 96 * r + x) s
  if g = 0 then 0 else if g < 8 then 7 else 15

/-- The grey value of column `x` in the row time of the scanned row `r`, and whether it is the glow area's (R343, R344). -/
def greyAt (r x : Nat) (s : State) : Nat × Bool :=
  match get F.PNL_CFG_PANEL s with
  | 0 =>
    if pnlState s = 4 then (glowGrey r x s, true)
    else if r < 4 then (if x < 48 ∧ ramNibble (48 * r + x) s ≠ 0 then 15 else 0, false)
    else (glowGrey (r - 4) x s, true)
  | 1 => (if x < 64 then ramNibble (64 * r + x) s else 0, false)
  | 2 => (if blinkedOff x r s then 0 else ramNibble (96 * r + x) s, false)
  | _ => (0, false)

/-- The peak current of column `x` in 320/255 µA: its area's, or its area's glow current (R345). -/
def areaCurrent (glow : Bool) (x : Nat) (s : State) : Nat :=
  match (List.range 4).find? (fun n => flag (F.PNL_AREA_EN n) s && decide (get (F.PNL_AREA_COL0 n) s ≤ x) &&
      decide (x ≤ get (F.PNL_AREA_COL1 n) s)) with
  | some n => if glow then get (F.PNL_AREA_GLOW_CUR n) s else get (F.PNL_AREA_CUR n) s
  | none => 0

/-- What column `x` sinks in the row time of the scanned row `r`: the current in 320/255 µA and the pulse in ns (R344, R345). Nothing flows
unless the panel is lit or glows with every rail in regulation (R348). -/
def columnDrive (r x : Nat) (s : State) : Nat × Nat :=
  let g := greyAt r x s
  if (pnlState s = 3 ∨ pnlState s = 4) ∧ get F.PNL_STATUS_PUMP_OK s = 15 ∧ r < rowsScanned s ∧ g.1 ≠ 0 then
    (areaCurrent g.2 x s, pulseWidth g.1 s)
  else (0, 0)

/-- The setting of the rails P1 to P4 (0 to 3) in 0.1 V (R346): in glow mode P1 and P3 stand at GLOW_V until LIGHT raises them (R349). -/
def railSetting (k : Nat) (s : State) : Nat :=
  if pnlState s = 4 ∧ !s.pnl.lightPend ∧ (k = 0 ∨ k = 2) then get F.PNL_GLOW_CFG_GLOW_V s
  else nth 0 [get F.PNL_PUMP_CFG_P1_V s, get F.PNL_PUMP_CFG_P2_V s, get F.PNL_PUMP_CFG_P3_V s, get F.PNL_PUMP_CFG_P4_V s] k

/-- What E2 still has to do with the panel before D10's owner consents (R349): glow mode for a NAP with GLOW, otherwise a normal
power-down. -/
def panelBusy (glow : Bool) (s : State) : Bool :=
  domOn 10 s && get F.PNL_CFG_PANEL s != 3 && pnlState s != 0 && !(glow && pnlState s == 4)

/-- E2's next step towards it. -/
def preparePanel (glow : Bool) (s : State) : State :=
  if !(panelBusy glow s) then s
  else if !glow then ctlOff s
  else if pnlState s = 2 then ctlLight s
  else if pnlState s = 3 then ctlGlow s
  else s

/-- A write of a panel RAM word (R348). -/
def ramWrite (k : Nat) (w : Word) (s : State) : State :=
  if pnlState s ≤ 1 then pnlRefuse s else plainWrite (R.PNL_RAM k) w s

/-- PANEL_RAM_WRITE (R348). -/
def execPanelRamWrite (m : Master) (k : Nat) (w : Word) (s : State) : Out :=
  if k < 512 then cmdWrite m (R.PNL_RAM k) (ramWrite k w) s else .next s

/-- Show the key FIFO: its level and the oldest event (R352). -/
def showKeys (s : State) : State :=
  wr R.KPD_EVENT (BitVec.ofNat 32 (s.pnl.fifo.headD 0)) (put F.KPD_STATUS_LEVEL s.pnl.fifo.length s)

/-- An event enters the FIFO of 8, or is dropped (R352); the first after a keypad wake carries WAKE (R353). -/
def keyEvent (code : Nat) (press : Bool) (s : State) : State :=
  let f := fresh s
  let e := code + 2 ^ 5 * b2n press + 2 ^ 6 * b2n s.pnl.wakeNext + 2 ^ 7 + 2 ^ 8 * (f.1 % 1024)
  let s := updPnl (fun p => { p with wakeNext := false }) f.2
  if 8 ≤ s.pnl.fifo.length then raise F.KPD_CAUSE_OVERRUN s
  else raise F.KPD_CAUSE_EVENT (showKeys (updPnl (fun p => { p with fifo := p.fifo ++ [e] }) s))

/-- The scanner runs: D10 on, the keypad in use, not in NAP. -/
def scanning (s : State) : Bool := domOn 10 s && flag F.KPD_CFG_EN s && get F.PMU_STATE_STATE s != 3

/-- KEYPAD_SCAN (R352): one scan of the matrix; `keys` holds the keys seen. The first scan after a keypad wake reports the key still held,
or code 31 when it has been released (R353). -/
def execKeypadScan (keys : Nat) (s : State) : Out :=
  onlyIf (scanning s) (fun s =>
    let s := updPnl (fun p => { p with
      seen := p.seen.zipIdx.map fun e => if bit keys e.2 then satNat 5 (e.1 + 1) else 0,
      unseen := p.unseen.zipIdx.map fun e => if bit keys e.2 then 0 else satNat 5 (e.1 + 1) }) s
    if s.pnl.wakeNext then
      let s := raise F.KPD_CAUSE_WAKE s
      match (List.range 20).find? (bit keys) with
      | some k => keyEvent k true (putBit F.KPD_STATUS_HELD k true s)
      | none => keyEvent 31 true s
    else s) s

/-- The scans that make a press or a release. -/
def debScans (s : State) : Nat := max 1 (get F.KPD_CFG_DEB s)

/-- KEY_PRESS (R352): a third key while two are held is not reported. -/
def execKeyPress (code : Nat) (s : State) : Out :=
  onlyIf (scanning s && decide (code < 20) && !(fbit F.KPD_STATUS_HELD code s) && decide (debScans s ≤ nth 0 s.pnl.seen code)) (fun s =>
    if 2 ≤ popCount (get F.KPD_STATUS_HELD s) 20 then raise F.KPD_CAUSE_ROLLOVER s
    else keyEvent code true (putBit F.KPD_STATUS_HELD code true s)) s

/-- KEY_RELEASE (R352). -/
def execKeyRelease (code : Nat) (s : State) : Out :=
  onlyIf (scanning s && decide (code < 20) && fbit F.KPD_STATUS_HELD code s && decide (debScans s ≤ nth 0 s.pnl.unseen code))
    (fun s => keyEvent code false (putBit F.KPD_STATUS_HELD code false s)) s

/-- The keypad is in use by the image (KPD_CFG.EN, which D10 loses in NAP). -/
def keypadUsed (s : State) : Bool :=
  match s.ld.imageRegs.find? (fun e => e.1 == R.KPD_CFG) with
  | some e => fieldOf F.KPD_CFG_EN e.2 != 0
  | none => flag F.KPD_CFG_EN s

/-- The digits that key codes spell, `none` when one is no digit key. -/
def digitsOf (k : DisplayKeys) : List Nat → Option (List Nat)
  | [] => some []
  | c :: t =>
    match k.digits.findIdx? (· == c), digitsOf k t with
    | some d, some l => some (d :: l)
    | _, _ => none

/-- The 66 bits of a 20-digit token. -/
def tokenOf (l : List Nat) : Nat := (l.foldl (fun n d => 10 * n + d) 0) % 2 ^ 66

/-- E2 acts on a pressed key as the DISPLAY section says (R187, R189, R197): accept, the emergency sequence, 20 digits and Enter. A
customer interface unit sends the token to its peer (R329). -/
def keyAction (code : Nat) (s : State) : State :=
  let k := s.ld.tables.keys
  let before := s.pnl.typed
  let s := updPnl (fun p => { p with typed := (p.typed ++ [code]).drop ((p.typed.length + 1) - 32) }) s
  let s := if k.accept = some code then acceptReconnect s else s
  let n := k.emergency.length
  let s := if n ≠ 0 ∧ s.pnl.typed.drop (s.pnl.typed.length - n) = k.emergency then requestEc s else s
  if k.enter = some code then
    match digitsOf k (before.drop (before.length - 20)) with
    | some l =>
      if l.length ≠ 20 then s
      else if tokenForPeer s then sendPeer 9 (le 9 (tokenOf l)) s
      else queueToken { bits := tokenOf l, source := 0 } s
    | none => s
  else s

/-- A read of `KPD_EVENT` removes the oldest event (R352); E2 acts on a press it reads. -/
def popKey (m : Master) (s : State) : State :=
  match s.pnl.fifo with
  | [] => s
  | e :: t =>
    let s := showKeys (updPnl (fun p => { p with fifo := t }) s)
    if m = .engine 2 ∧ bit e 5 then keyAction (e % 32) s else s

end Sys2Proof.Machine
end

