-- ==== Sys2Proof/Machine/Sounding.lean ====
section
/-! DEFINITION. What E9 computes from samples (chapter 14): impulsive-noise blanking (R312) and the quantities of a sounding measurement
(R317). -/
namespace Sys2Proof.Machine

/-- How far the blanker has come: the samples not blanked, newest first, how many samples after an impulse are still to be blanked, and
which samples of the second so far are, newest first. -/
abbrev Blanker := List Int × Nat × List Bool

/-- A sample is an impulse: its magnitude exceeds `k` times the RMS of the last 1 024 samples that were not blanked (R312); 0 for `k`
turns blanking off, and where no such sample is known nothing is blanked (log 13). -/
def impulse (k : Nat) (win : List Int) (x : Int) : Bool :=
  let w := win.take 1024
  k != 0 && !w.isEmpty && decide (k * k * sumNat (w.map fun v => v.natAbs ^ 2) < x.natAbs ^ 2 * w.length)

/-- One sample through the blanker (R312): an impulse is blanked with the two samples before it and the two after it. -/
def blankStep (k : Nat) (b : Blanker) (x : Int) : Blanker :=
  if impulse k b.1 x then
    (b.1.drop ((b.2.2.take 2).filter fun m => !m).length, 2, true :: ((b.2.2.take 2).map (fun _ => true) ++ b.2.2.drop 2))
  else if 0 < b.2.1 then (b.1, b.2.1 - 1, true :: b.2.2)
  else ((x :: b.1).take 1026, 0, false :: b.2.2)

/-- A second's samples through the blanker. -/
def blankSecond (k : Nat) (xs win : List Int) (after : Nat) : Blanker := xs.foldl (blankStep k) (win, after, [])

/-- The samples blanked among those marked. -/
def blankedCount (marks : List Bool) : Nat := (marks.filter id).length

/-! The sounding's quantities -/

/-- The 4 096 sums of channel `ch`: 0 the driver current, 1 the driver-side voltage, 2 the load-side voltage (R316). -/
def sumsOf (ch : Nat) (sums : List Byte) : List Int :=
  (List.range 4096).map fun i => signed 32 (ofLe ((sums.drop (4 * (4096 * ch + i))).take 4))

/-- The frequency of entry `e` in Hz (R317). -/
def entryHz (e : Nat) : Nat := 1000 * (4 + 2 * e)

/-- The bins within ±1 kHz of entry `e`'s frequency: bin `k` lies at k / 4 096 MHz (R317). -/
def entryBins (e : Nat) : List Nat :=
  (List.range 2048).filter fun k => decide (((k * 1000000 : Nat) - (entryHz e * 4096 : Nat) : Int).natAbs ≤ 1000 * 4096)

/-- Entry `e`'s bins of channel `ch`. -/
def entrySpectrum (e ch : Nat) (sums : List Byte) : List (Int × Int) :=
  let xs := sumsOf ch sums
  (entryBins e).map fun k => dftBin k xs

/-- The energy of an entry's bins. -/
def binEnergy (l : List (Int × Int)) : Nat := sumNat (l.map normSq)

/-- The sum of v · conj(i) over an entry's bins. -/
def crossPower (v i : List (Int × Int)) : Int × Int :=
  (v.zip i).foldl (fun a e => (a.1 + (e.1.1 * e.2.1 + e.1.2 * e.2.2), a.2 + (e.1.2 * e.2.1 - e.1.1 * e.2.2))) (0, 0)

/-- Z_drv of entry `e` in 2^-16 of 0.01 Ω: the driver-side voltage divided by the driver current, over the entry's bins (R317). DESIGN
CHOICE: the quotient of cross power and current energy; the channels' scale is free (log 13). -/
def driveZ (e : Nat) (sums : List Byte) : Int × Int :=
  let i := entrySpectrum e 0 sums
  let p := crossPower (entrySpectrum e 1 sums) i
  let d := binEnergy i
  if d = 0 then (0, 0) else (quot (p.1 * (Config.ohmScale : Int)) (d * 256), quot (p.2 * (Config.ohmScale : Int)) (d * 256))

/-- 1 / (2πf) for a reactance in 2^-16 of 0.01 Ω and a capacitance in 0.1 nF: 65 536 · 10^12 / (2πf · `n`). -/
def reciprocal (f n : Nat) : Int := quot (65536 * 10 ^ 27) (6283185307179586 * f * n)

/-- −1 / (2πf × Im Z_drv) of entry `e` in 0.1 nF (R317). -/
def entryCap (e : Nat) (sums : List Byte) : Int :=
  let x := (driveZ e sums).2
  if x = 0 then 0xFFFF else if x < 0 then reciprocal (entryHz e) x.natAbs else -(reciprocal (entryHz e) x.natAbs)

/-- CAP_EST in 0.1 nF (R317): the median over the entries at 4, 6, 8 and 10 kHz, within the 16 bits of its field. -/
def capEst (sums : List Byte) : Nat :=
  let l := (List.range 4).map fun e => entryCap e sums
  let top := l.foldl max (l.headD 0)
  let low := l.foldl min (l.headD 0)
  satNat 0xFFFF (quot (sumInt l - top - low) 2).toNat

/-- Z_line of entry `e` (R317): Z_drv less the reactance of CAP_EST. -/
def lineZ (e : Nat) (sums : List Byte) : Int × Int :=
  let z := driveZ e sums
  let c := capEst sums
  (z.1, if c = 0 then z.2 else z.2 + reciprocal (entryHz e) c)

/-- ATTEN of entry `e` in 0.01 dB (R317): the driver-side voltage divided by the load-side voltage. -/
def entryAtten (e : Nat) (sums : List Byte) : Int :=
  Config.decibels (binEnergy (entrySpectrum e 1 sums)) (binEnergy (entrySpectrum e 2 sums))

/-- ATTEN_MEAN in 0.01 dB (R317): the mean over the entries from 42 kHz to 90 kHz. -/
def attenMean (sums : List Byte) : Int := quot (sumInt ((List.range 25).map fun i => entryAtten (19 + i) sums)) 25

/-- Entry `e` of the result table (R317). -/
def soundEntry (e : Nat) (sums : List Byte) : List Byte :=
  let z := lineZ e sums
  let size := rootQ (normSq z) (2 ^ 32)
  let ok := Config.aboveNoise ((List.range 3).map fun ch => binEnergy (entrySpectrum e ch sums))
  le 2 (satNat 0xFFFF size) ++ le 2 (wrapTo 16 (quot (Config.angle z.1 z.2 * 36000) (2 ^ 32))) ++
    le 2 (wrapTo 16 (entryAtten e sums)) ++ le 2 (b2n ok)

/-- The result table of 74 entries (R317). -/
def soundTable (sums : List Byte) : List Byte := (List.range 74).flatMap fun e => soundEntry e sums

end Sys2Proof.Machine
end

