-- ==== Sys2Proof/Machine/Modem.lean ====
section
/-! DEFINITION. The line modem, its zero crossing and Well-sounding (chapter 14). -/
namespace Sys2Proof.Machine

/-- E9 runs: D8 and D9 are powered, the FABRIC section has been applied, E9 is not quarantined (R311, R320). -/
def e9Up (s : State) : Bool :=
  domOn 8 s && domOn 9 s && !(bit s.sup.quarantined 9) && get F.LMD_STATUS_STATE s != 0 && get F.LMD_STATUS_STATE s != 6

/-- The state E9 shows when it only listens. -/
def listening (s : State) : State := lmdState (if muting s then 5 else 1) s

/-- A band is enabled (R304). -/
def bandOn (c : Bool) (s : State) : Bool := if c then flag F.LMD_CFG_BAND_C s else flag F.LMD_CFG_BAND_A s

/-- M, the enabled tones of a band (R304). -/
def tones (c : Bool) (s : State) : Nat :=
  if c then popCount (get F.LMD_TX_CFG_MASK_C s) 8 else popCount (get F.LMD_TONE_MASK_MASK_A s) 25

/-- A quotient rounded up. -/
def ceilDiv (a b : Nat) : Nat := (a + b - 1) / b

/-- Payload symbols (R306). -/
def payloadSymbols (mod len m : Nat) : Nat :=
  if mod = 0 then ceilDiv (8 * (8 * len + 6)) m
  else ceilDiv (2 * (8 * (len + 16 * ceilDiv len 239) + 6)) (m * mod)

/-- Symbols of a frame: preamble, header, payload (R306). -/
def frameSymbols (mod len m : Nat) : Nat := 9 + ceilDiv 384 m + payloadSymbols mod len m

/-- E9 refuses a frame (R309). -/
def txRefused (t : TxFrame) (s : State) : Bool :=
  flag F.LMD_STATUS_VLD_LOW s || flag F.LMD_STATUS_HOT s || muting s || !(bandOn t.bandC s) ||
    (t.bandC && decide (10000 * get F.LMD_LBT_CFG_MAX_TX s < 576 * frameSymbols t.mod t.len (tones true s)))

/-- A frame goes back to E10 (R309, R310), to the front of its queue. -/
def returnFrame (t : TxFrame) (s : State) : State := updFab (fun f => { f with txq := t :: f.txq }) s

/-- This node's VA phase now, 0 at the zero crossing, in 1/256 cycle (R315). -/
def vaPhase (s : State) : Nat := (((nowUs s : Int) - s.lmd.zcAt) * (s.metro.fGrid : Int) * 256 / 10 ^ 12 % 256).toNat

/-- The 48 bits of a frame's header (R306): MOD, LEN, ZCP, ZCV and the CRC-16 over them. -/
def headerBits (t : TxFrame) (s : State) : Nat :=
  let w := t.mod % 4 + 4 * (t.len % 2048) + 2 ^ 13 * vaPhase s + 2 ^ 21 * get F.LMD_STATUS_ZC_VALID s
  w + 2 ^ 32 * ((le 4 w).foldl crc16Byte Config.headerSeed).toNat

/-- A frame goes on the line with its header; what was being received is lost (R311). -/
def startTx (t : TxFrame) (s : State) : State :=
  put F.LMD_STATUS_TX_BAND (b2n t.bandC) (lmdState 3 (updLmd (fun l => { l with
    tx := some t, rx := none, lineUsed := true, txHeader := headerBits t s }) s))

/-- E10 hands E9 a frame (R309, R310): refused, sent in band A, or waiting for band C. While E9 transmits, sounds or holds a band C
frame it takes no other. -/
def handToE9 (t : TxFrame) (s : State) : State :=
  if !(e9Up s) || s.lmd.tx.isSome || soundingRuns s || (t.bandC && s.lmd.lbt.isSome) then returnFrame t s
  else if txRefused t s then raise F.LMD_CAUSE_TX_REFUSED (returnFrame t s)
  else if t.bandC then updLmd (fun l => { l with lbt := some t, lbtAt := s.sup.mono }) s
  else startTx t s

/-- TX_FRAME (R309). -/
def execTxFrame (f : TxFrame) (s : State) : Out := done (handToE9 f s)

/-- TX_DONE (R306). -/
def execTxDone (s : State) : Out :=
  match s.lmd.tx with
  | none => .next s
  | some t =>
    let s := if t.bandC then updLmd (fun l => { l with lastC := some s.sup.mono }) s else s
    .next (raise F.LMD_CAUSE_TX_DONE (listening (afterTx t s)))

/-- LBT_ACCESS (R310): the band was idle for SENSE ms and the random wait; two transmissions are PAUSE apart. -/
def execLbtAccess (s : State) : Out :=
  match s.lmd.lbt with
  | none => .next s
  | some t =>
    let paused := match s.lmd.lastC with
      | some e => decide (get F.LMD_LBT_CFG_PAUSE s * 1024 ≤ (s.sup.mono - e) * 1000)
      | none => true
    onlyIf (e9Up s && s.lmd.tx.isNone && !(soundingRuns s) && paused) (fun s =>
      let s := put F.LMD_STATUS_LBT_BUSY 0 (updLmd (fun l => { l with lbt := none }) s)
      if txRefused t s then raise F.LMD_CAUSE_TX_REFUSED (returnFrame t s) else startTx t s) s

/-- LBT_TIMEOUT (R310): band C has been busy for 5 s, and the frame goes back to E10. -/
def execLbtTimeout (s : State) : Out :=
  match s.lmd.lbt with
  | none => .next s
  | some t => onlyIf (decide (s.lmd.lbtAt + 5120 ≤ s.sup.mono)) (fun s =>
      raise F.LMD_CAUSE_LBT_TIMEOUT (put F.LMD_STATUS_LBT_BUSY 1 (returnFrame t (updLmd (fun l => { l with lbt := none }) s)))) s

/-- DRV_FAULT (R309): the current limit held for more than 20 µs. -/
def execDrvFault (s : State) : Out :=
  onlyIf s.lmd.tx.isSome (fun s => listening (raise F.LMD_CAUSE_DRV_FAULT (abandonTx s))) s

/-- RX_FRAME_DROP (R306): HCRC or a Reed-Solomon block failed. -/
def execRxFrameDrop (s : State) : Out :=
  onlyIf (e9Up s && s.lmd.rx.isSome) (fun s => raise F.LMD_CAUSE_RX_FAIL (listening (updLmd (fun l => { l with rx := none }) s))) s

/-- The phase verdict for DELTA (R315). -/
def verdictOf (d : Nat) : Nat :=
  if 235 ≤ d ∨ d ≤ 21 then 0 else if 150 ≤ d ∧ d ≤ 191 then 1 else if 64 ≤ d ∧ d ≤ 106 then 2 else 3

/-- E9's report of a received frame (R311, R315). -/
def rxReport (i : RxInfo) (s : State) : State :=
  let d := (i.zcp + 256 - i.own % 256) % 256
  let v := if i.zcv && flag F.LMD_STATUS_ZC_VALID s && decide (2 ≤ get F.LMD_CFG_ZC_MODE s) then verdictOf d else 3
  let s := put F.LMD_RX_STAT_SNR (wrapTo 8 i.snr) (put F.LMD_RX_STAT_RSSI i.rssi (put F.LMD_RX_STAT_MOD i.mod
    (put F.LMD_RX_STAT_BAND (b2n i.bandC) s)))
  let s := put F.LMD_RX_PHASE_ZCP i.zcp (put F.LMD_RX_PHASE_OWN i.own (put F.LMD_RX_PHASE_DELTA d (put F.LMD_RX_PHASE_VERDICT v s)))
  raise F.LMD_CAUSE_RX_FRAME (listening (updLmd (fun l => { l with rx := none }) s))

/-- PREAMBLE_DETECTED (R311): demodulation starts, or a preamble on the other band is lost. -/
def execPreambleDetected (bandC : Bool) (s : State) : Out :=
  onlyIf (e9Up s && s.lmd.tx.isNone && !(soundingRuns s) && bandOn bandC s) (fun s =>
    match s.lmd.rx with
    | none => put F.LMD_STATUS_RX_BAND (b2n bandC) (lmdState 2 (updLmd (fun l => { l with rx := some bandC }) s))
    | some b => raiseIf (b != bandC) F.LMD_CAUSE_RX_MISSED s) s

/-- BLANKING_RATIO (R312): the 500 kS/s samples `xs` of the last whole second pass the blanker. -/
def execBlankingRatio (xs : List Int) (s : State) : Out :=
  onlyIf (e9Up s) (fun s =>
    let b := blankSecond (get F.LMD_CFG_BLANK_K s) xs s.lmd.blankWin s.lmd.blankAfter
    let n := blankedCount b.2.2
    let s := updLmd (fun l => { l with blankWin := b.1, blankAfter := b.2.1 }) s
    raiseIf (decide (xs.length < 4 * n)) F.LMD_CAUSE_BLANK_HIGH (put F.LMD_BLANK_RATIO (quot (10000 * n : Nat) xs.length).toNat s)) s

/-- The tracker holds the grid (R314). -/
def trackerHolds (s : State) : Bool := get F.FLT_STATUS_TRK_STATE s = 2 || get F.FLT_STATUS_TRK_STATE s = 3

/-- The channel the zero crossing is taken from (R314): VA, or the tracker's reference VB or VC; none under WIRING 0. -/
def zcChannel (s : State) : Option Nat :=
  let r := get F.FLT_STATUS_TRK_REF s
  if !(trackerHolds s) || get F.PHE_CFG_WIRING s = 0 then none
  else if qualifies 0 s then some 0
  else if (r = 1 || r = 2) && qualifies r s then some r
  else none

/-- Show the FCN of the most recent crossing (R337). -/
def showFcn (s : State) : State :=
  match s.fab.num with
  | none => put F.FAB_FCN_FCN 0 (put F.FAB_STATUS_FCN_VALID 0 s)
  | some n => put F.FAB_FCN_FCN ((get F.LMD_ZC_CYCLE_CYCLE s + n.1) % 2 ^ 32) (put F.FAB_STATUS_FCN_VALID 1 s)

/-- VA's whole applied delay in µs (R314): the fixed delay and ALIGN, `FLT_DELAY_0` and the slice's. -/
def vaDelayUs (s : State) : Int := quot (fixedDelay 0 s + totalDelay 0 (sliceOf 0 s) s) 1000

/-- ZERO_CROSSING (R314, R337): the instant refers to the terminals. The count starts at the first valid crossing and carries on at the last valid period. -/
def execZeroCrossing (s : State) : Out :=
  onlyIf (e9Up s) (fun s =>
    let c := zcChannel s
    let s := raiseIf (flag F.LMD_STATUS_ZC_VALID s && c.isNone) F.LMD_CAUSE_ZC_LOST s
    let s := put F.LMD_STATUS_ZC_VALID (b2n c.isSome) (put F.LMD_STATUS_ZC_SUBST (b2n (decide (0 < c.getD 0))) s)
    if c.isNone && !s.lmd.zcSeen then s
    else
      let s := updLmd (fun l => { l with zcSeen := true, zcAt := (nowUs s : Int) - vaDelayUs s }) s
      showFcn (put F.LMD_ZC_CYCLE_CYCLE (get F.LMD_ZC_CYCLE_CYCLE s + 1) s)) s

/-- A measurement may run (R316, R319). -/
def soundingAllowed (s : State) : Bool :=
  e9Up s && s.ld.tables.fabric.isSome && bandOn false s && !(inPass s) && !(guarded s) && !(muting s) &&
    decide (49 * 1024 ≤ (share 1 s).2) && !(flag F.LMD_STATUS_HOT s)

/-- Refuse a measurement with reason `code` (R319). -/
def refuseSounding (code : Nat) (s : State) : State :=
  let s := put F.LMD_SND_STATUS_STATE 0 (put F.LMD_SND_STATUS_RESULT 3 (put F.LMD_SND_STATUS_ABORT code s))
  raise F.LMD_CAUSE_SND_REFUSED (soundingRepeat code s)

/-- Request a measurement (R319): merged into one that is pending or running. -/
def requestSounding (base : Bool) (s : State) : State :=
  if !(domOn 9 s) then s
  else
    let s := updLmd (fun l => { l with sndBase := l.sndBase || base }) s
    if get F.LMD_SND_STATUS_STATE s ≠ 0 then s
    else if !(soundingAllowed s) then refuseSounding 6 s
    else put F.LMD_SND_STATUS_STATE 1 (updLmd (fun l => { l with sndSince := some s.sup.mono }) s)

/-- A write of `LMD_SND_CTL` (R318, R319). -/
def sndCtlWrite (w : Word) (s : State) : State :=
  let b := arg F.LMD_SND_CTL_BASELINE w = 1
  if arg F.LMD_SND_CTL_KEY w ≠ 0xA3 then s
  else if b || arg F.LMD_SND_CTL_START w = 1 then requestSounding b s
  else s

/-- START (R319). -/
def execSoundingStart (m : Master) (w : Word) (s : State) : Out := cmdWrite m R.LMD_SND_CTL (sndCtlWrite w) s

/-- BASELINE (R318). -/
def execSoundingBaseline (m : Master) (w : Word) (s : State) : Out := cmdWrite m R.LMD_SND_CTL (fun s => sndCtlWrite w s) s

/-- SOUNDING_PERIOD (R319): every PERIOD minutes, and 5 s after a verified change of the main relay. -/
def execSoundingPeriod (s : State) : Out :=
  let p := get F.LMD_SND_CFG_PERIOD s
  let due := decide (p ≠ 0 ∧ s.lmd.sndLast + 61440 * p ≤ s.sup.mono)
  let after := s.lmd.verifAt.any fun t => decide (t + 5120 ≤ s.sup.mono)
  onlyIf (e9Up s && (due || after)) (fun s =>
    let s := if due then updLmd (fun l => { l with sndLast := s.sup.mono }) s else s
    let s := if after then updLmd (fun l => { l with verifAt := none, repeatRly := false }) s else s
    requestSounding false s) s

/-- A relay coil pulse runs. -/
def coilPulse (s : State) : Bool := s.rly.pulse.isSome || s.rly.lcPulse.isSome

/-- SOUNDING_MEDIUM_WON (R316, R319). -/
def execSoundingMediumWon (s : State) : Out :=
  onlyIf (e9Up s && get F.LMD_SND_STATUS_STATE s == 1 && s.lmd.tx.isNone) (fun s =>
    if get F.SPE_CAP_STATUS_STATE s = 2 then refuseSounding 4 (raise F.SPE_CAUSE_SOUND_REFUSED s)
    else if !(soundingAllowed s) then refuseSounding 6 s
    else
      let s := put F.LMD_SND_STATUS_STATE 2 (lmdState 4 (updLmd (fun l => { l with sndSince := none, rx := none, lineUsed := true }) s))
      if coilPulse s then abortSounding 3 s else s) s

/-- The main relay's verified state as a baseline index (R318). -/
def verifiedIndex (s : State) : Option Nat :=
  if get F.RLY_STATUS_MAIN_STATE s = 1 then some 0 else if get F.RLY_STATUS_MAIN_STATE s = 2 then some 1 else none

/-- The measurement becomes the baseline of state `r`; E2 keeps both in the sounding record (R318). -/
def takeBaseline (r : Nat) (a : Int) (cap : Nat) (s : State) : State :=
  let s := put (F.LMD_SND_BASE_ATTEN r) (wrapTo 16 a) (put (F.LMD_SND_BASE_VALID r) 1 s)
  let s := putBit ⟨R.LMD_SND_STATUS, 4, 2⟩ r true (updLmd (fun l => { l with sndBase := false }) s)
  let old := held {} s.cis.b3.sound
  let rec' : SoundRec := { old with base := upd old.base r (fun _ => some (wrapTo 16 a, cap, rtc s)) }
  raise F.LMD_CAUSE_BASELINE_DONE (dirty 3 { s with cis := { s.cis with b3 := { s.cis.b3 with
    sound := writeCopy s.cis.b3.sound rec' } } })

/-- The bypass verdict against the baseline of state `r` (R318). -/
def bypassVerdict (r : Nat) (a : Int) (s : State) : State :=
  if !(flag (F.LMD_SND_BASE_VALID r) s) then put F.LMD_SND_STATUS_RESULT 0 s
  else if a < getS (F.LMD_SND_BASE_ATTEN r) s - 10 * (get F.LMD_SND_CFG_BYP_DROP s : Int) then
    tripProducer 12 0 0 (raise F.LMD_CAUSE_BYPASS (put F.LMD_SND_STATUS_RESULT 2 s))
  else
    let s := put F.LMD_SND_STATUS_RESULT 1 s
    if producer 12 s then releaseProducer 12 s else s

/-- SOUNDING_DONE (R316 to R318): after an epoch to Pass the measurement completes (R319), and the sounding share keeps nothing (R153). `sums` are the 48 KiB of sums over the eight chirps. -/
def execSoundingDone (sums : List Byte) (s : State) : Out :=
  onlyIf (e9Up s && soundingRuns s) (fun s =>
    let a := attenMean sums
    let cap := capEst sums
    let base := (share 1 s).1
    let s := if domOn 3 s then wrBytes (base + 0xC000) (soundTable sums) (wrBytes base (sums.take 0xC000) s) else s
    let s := put F.LMD_SND_RES_ATTEN_MEAN (wrapTo 16 a) (put F.LMD_SND_RES_CAP_EST cap s)
    let low := decide (cap < get F.LMD_SND_CFG_CAP_MIN s * get F.LMD_CFG_CAP_NOM s)
    let s := raiseIf low F.LMD_CAUSE_CAP_LOW (put F.LMD_STATUS_CAP_LOW (b2n low) s)
    let s := put F.LMD_SND_STATUS_ABORT 0 (put F.LMD_SND_STATUS_STATE 0 (put F.LMD_SND_STATUS_SEQ (get F.LMD_SND_STATUS_SEQ s + 1) s))
    let s := match verifiedIndex s with
      | none => put F.LMD_SND_STATUS_RESULT 0 s
      | some i =>
        if s.lmd.sndBase then put F.LMD_SND_STATUS_RESULT 0 (takeBaseline i a cap s) else bypassVerdict i a s
    raise F.LMD_CAUSE_SND_DONE (listening s)) s

/-- SOUNDING_TIMEOUT (R319): the medium was not won within 60 s. -/
def execSoundingTimeout (s : State) : Out :=
  match s.lmd.sndSince with
  | none => .next s
  | some t => onlyIf (get F.LMD_SND_STATUS_STATE s == 1 && decide (t + 61440 ≤ s.sup.mono)) (refuseSounding 7) s

/-- SOUNDING_REPEAT (R319): a fresh request, 60 s after a refusal, an abandonment or the release of a mute line. -/
def execSoundingRepeat (s : State) : Out :=
  match s.lmd.sndRepeat with
  | none => .next s
  | some t => onlyIf (decide (t ≤ s.sup.mono)) (fun s => requestSounding false (updLmd (fun l => { l with sndRepeat := none }) s)) s

/-- E9 starts when the FABRIC section has been applied (R320); E2 restores the baselines (R318). -/
def startModem (s : State) : State :=
  if s.ld.tables.fabric.isNone || !(domOn 9 s) then s
  else
    let s := { s with lmd := { (({} : LmdSt)) with sndLast := s.sup.mono } }
    let b := (held {} s.cis.b3.sound).base
    listening ((List.range 2).foldl (fun s r =>
      match nth none b r with
      | none => s
      | some e => putBit ⟨R.LMD_SND_STATUS, 4, 2⟩ r true (put (F.LMD_SND_BASE_ATTEN r) e.1 (put (F.LMD_SND_BASE_VALID r) 1 s))) s)

end Sys2Proof.Machine
end

