-- ==== Sys2Proof/Machine/Restore.lean ====
section
/-! DEFINITION. What E2 takes from its records when D5 starts (R196, R203, R236, R242): the account and relays, the update record, the
object server's registers. -/
namespace Sys2Proof.Machine

/-- The relays' state at a start of E2 (R198, R201, R203). A restart of E2 alone leaves the drives, what waits and the times as they stand.
After a freeze the load is off: a pulse already begun runs on, and the delay of the restoration is drawn. -/
def restoreRelays (frozen : Bool) (s : State) : State :=
  if frozen then
    drawDelay (updRly (fun r =>
      { pulse := r.pulse, lastPulse := r.lastPulse, lcPulse := r.lcPulse, lcLatch := r.lcLatch, lcFrom := rtc s, mplSetAt := s.sup.mono }) s)
  else updRly (fun r => { r with mplSetAt := s.sup.mono }) s

/-- The load-control state and the time it went off, as a start finds them (R203): a freeze in which E2 did not run left them as they
were, though the load went off with the mains. -/
def loadAtFreeze (c : CreditRec) (s : State) : CreditRec :=
  if c.lc = 0 ∨ !(relaysOn s) then c
  else { c with lc := 0, lcOffT := match s.sup.freeze with | some f => max c.lcOffT f.rtc | none => c.lcOffT }

/-- E2 takes the account and the relays from the credit record (R196, R201, R203). -/
def restoreCredit (frozen : Bool) (s : State) : State :=
  let c := held {} s.cis.b0.credit
  let c := if frozen then loadAtFreeze c s else c
  let s := { s with pay := { cur := c, ec := bit c.flags 0, friendly := bit c.flags 1, activating := s.pay.activating } }
  let s := put F.PAY_STATUS_STATE c.state (put F.PAY_STATUS_FRIENDLY (b2n (bit c.flags 1)) (put F.PAY_STATUS_MPL_TRIP (b2n (bit c.flags 2)) s))
  let s := put F.RLY_STATUS_REASONS c.reasons (put F.RLY_STATUS_MAIN_CMD c.main (put F.RLY_STATUS_MAIN_STATE c.mainVer s))
  showCredit (restoreRelays frozen (put F.RLY_STATUS_LC_STATE c.lc s))

/-- The update record before any was written: slot A active. -/
def firstUpd : UpdRec := UpdRec.mk 0 2 0 false 0 0 0 2 0 false

/-- The update record in force (R242). -/
def updRec (s : State) : UpdRec := held firstUpd s.cis.b1.upd

/-- Show the update record in the UPD registers. -/
def showUpd (s : State) : State :=
  let u := updRec s
  let s := put F.UPD_STATUS_ACTIVE u.active (put F.UPD_STATUS_SLOT_A u.stA (put F.UPD_STATUS_SLOT_B u.stB s))
  let s := put F.UPD_STATUS_TRIAL_LEFT (if u.inTrial then 600 - u.trialUsed else 0) s
  put (F.UPD_VER_VERSION 0) u.verA (put (F.UPD_VER_VERSION 1) u.verB (put F.UPD_FLOOR_FLOOR u.floor s))

/-- Write the update record and show it. -/
def writeUpd (f : UpdRec → UpdRec) (s : State) : State :=
  showUpd (dirty 1 { s with cis := { s.cis with b1 := { s.cis.b1 with upd := writeCopy s.cis.b1.upd (f (updRec s)) } } })

/-- A slot's state and version in the record. -/
def setUpdSlot (slot st ver : Nat) (u : UpdRec) : UpdRec :=
  if slot = 0 then { u with stA := st, verA := ver } else { u with stB := st, verB := ver }

/-- The update controller's state. -/
def updState (s : State) : Nat := get F.UPD_STATUS_STATE s

/-- The record of a failed trial (R242): the old slot is active again, the new one rejected. -/
def rejectTrial (s : State) : State :=
  writeUpd (fun u => { setUpdSlot u.active 3 (if u.active = 0 then u.verA else u.verB) u with
    active := 1 - u.active, inTrial := false, trialUsed := 0 }) s

/-- The record of a slot switch (R242): the pending slot is active, in trial. -/
def switchSlot (s : State) : State :=
  writeUpd (fun u =>
    let new := if u.pend ≤ 1 then u.pend else u.active
    { setUpdSlot new 2 (if new = 0 then u.verA else u.verB) u with active := new, pend := 2, inTrial := true, trialUsed := 0 }) s

/-- The update that runs is abandoned (R241): the region is left empty. -/
def dropUpdate (s : State) : State :=
  let slot := get F.UPD_STATUS_REGION s
  let s := writeUpd (fun u => { setUpdSlot slot 0 0 u with pend := 2 }) (put F.UPD_STATUS_STATE 0 (put F.UPD_LEN_BYTES 0 s))
  updObj (fun o => if slot = 0 then { o with slotA := [] } else { o with slotB := [] }) s

/-- The device objects of R228, in the order of its table. -/
def deviceCodes : List (List Nat) :=
  [[0, 0, 1, 0, 0, 255], [0, 0, 128, 0, 1, 255], [0, 0, 128, 0, 2, 255], [0, 0, 128, 1, 0, 255], [0, 0, 128, 2, 0, 255],
   [0, 0, 128, 3, 0, 255], [0, 0, 128, 3, 1, 255], [0, 0, 128, 4, 0, 255], [0, 0, 128, 5, 0, 255], [0, 0, 128, 6, 0, 255],
   [0, 0, 128, 7, 0, 255], [0, 0, 128, 8, 0, 255], [0, 0, 128, 9, 0, 255], [0, 0, 98, 1, 0, 255]]

/-- Show the reading counter and the legal log in the OBJ registers. -/
def showObj (s : State) : State :=
  let t := s.ld.tables.obj.objects
  let n := t.length + (deviceCodes.filter fun c => !(t.any fun e => e.obis == c)).length
  let s := put F.OBJ_STATUS_OBJECTS n (put F.OBJ_READ_CTR_COUNT (counter 6 s % 2 ^ 32) s)
  put F.OBJ_LEGAL_LOG_USED s.cis.b2.chgUsed (put F.OBJ_LEGAL_LOG_CHANGES s.cis.b2.chgCount s)

/-- Write the password record from the OBJECTS section when it is invalid (R222). -/
def startPasswords (s : State) : State :=
  if (inForce s.cis.b1.pw).isSome then s
  else dirty 1 { s with cis := { s.cis with b1 := { s.cis.b1 with pw := writeCopy s.cis.b1.pw s.ld.tables.obj.passwords } } }

/-- E2's registers in D5 at its start. An update that a power failure interrupted is reported (R241); a trial goes on (R242). DEDUCED: a
switch whose record names a pending slot was cut short after bank 1 had committed, and E2 starts from that slot, in trial (log 42). -/
def startObjects (s : State) : State :=
  let switched := decide ((updRec s).pend ≤ 1)
  let s := if switched then switchSlot s else s
  let s := put F.OBJ_READ_CTR_HI_COUNT (counter 6 s / 2 ^ 32) (showObj (showUpd (put F.UPD_STATUS_STATE (if (updRec s).inTrial then 6 else 0) s)))
  let s := raiseIf switched F.UPD_CAUSE_ACTIVATED s
  let s := raiseIf s.obj.interrupted F.UPD_CAUSE_INTERRUPTED s
  startPasswords { s with obj := { s.obj with
    sess := List.replicate 7 {}, req := List.replicate 7 none, signing := none, actWait := false, actAt := none, interrupted := false } }

end Sys2Proof.Machine
end

