-- ==== Sys2Proof/Machine/Tamper.lean ====
section
/-! DEFINITION. The tamper sources, the clears of lasting counters, the start latch (R44 to R46, R270, R273 to R277). The engines'
watchdogs are with the starts they lead to. -/
namespace Sys2Proof.Machine

/-- A tamper source of R270 is watched: covers and sensor by configuration, the glitch detectors always, the crack loop by its own
readings; in SHIP nothing is. -/
def watched (x : Nat) (s : State) : Bool :=
  s.sup.mode != .ship &&
    (if x = 0 then flag F.TAMP_IN_CFG_EN_COV s else if x = 1 then flag F.TAMP_IN_CFG_EN_TCOV s
     else if x = 3 then flag F.TAMP_MAG_CFG_EN s else decide (4 ≤ x) && decide (x ≤ 6))

/-- The sources D0 watches and latches before the evaluation of R46. -/
def latchable (x : Nat) : Bool := x = 0 || x = 1 || (decide (3 ≤ x) && decide (x ≤ 6))

/-- E0 has evaluated the start latch. -/
def evaluated (s : State) : Bool := flag F.TAMP_STATUS_EVALUATED s

/-- Before the evaluation (R46), source `x` is tripped: as its newest change since the start latch says, else as it was latched. -/
def lateActive (x : Nat) (s : State) : Bool :=
  match s.ld.lateAlarms.reverse.find? fun e => e.source == x with
  | some e => e.trip
  | none => bit s.ld.latched x || producer x s

/-- What source `x` does waits, with E0's time of it, for the evaluation (R46). -/
def addLate (x : Nat) (trip : Bool) (detail : Nat) (s : State) : State :=
  { s with ld := { s.ld with
    lateAlarms := s.ld.lateAlarms ++ [{ source := x, trip := trip, detail := detail, rtc := rtc s, mono := s.sup.mono }] } }

/-- A source trips (R270): before the evaluation the alarm waits for it. -/
def sourceTrip (x frac detail : Nat) (s : State) : State :=
  if !(evaluated s) then (if s.sup.mode != .ship && !(lateActive x s) then addLate x true detail s else s)
  else if watched x s then tripProducer x frac detail s
  else s

/-- A source releases (R270). -/
def sourceRelease (x : Nat) (s : State) : State :=
  if !(evaluated s) then (if lateActive x s then addLate x false 0 s else s)
  else if producer x s then releaseProducer x s
  else s

/-- TAMPER_TRIP (R270): cover, terminal cover, magnetic sensor, glitches. The covers in OUTAGE have their samples. -/
def execTamperTrip (x frac detail : Nat) (s : State) : Out :=
  onlyIf (latchable x && !(s.sup.mode == .outage && decide (x ≤ 1))) (sourceTrip x frac detail) s

/-- TAMPER_RELEASE (R270). -/
def execTamperRelease (x : Nat) (s : State) : Out :=
  onlyIf (latchable x && !(s.sup.mode == .outage && decide (x ≤ 1))) (sourceRelease x) s

/-- The consecutive samples a cover needs in OUTAGE (R270): ⌈DEB / 31.25 ms⌉, at least one. -/
def coverSamples (x : Nat) (s : State) : Nat :=
  max 1 (((if x = 0 then get F.TAMP_IN_CFG_DEB_COV s else get F.TAMP_IN_CFG_DEB_TCOV s) * 4 + 124) / 125)

/-- One cover's sample in OUTAGE: the tampered level is seen or not. -/
def coverSample (x : Nat) (level : Bool) (s : State) : State :=
  let open' := level == (if x = 0 then flag F.TAMP_IN_CFG_POL_COV s else flag F.TAMP_IN_CFG_POL_TCOV s)
  let seen := if open' then nth 0 s.tamp.covSeen x + 1 else 0
  let rel := if open' then 0 else nth 0 s.tamp.relSeen x + 1
  let s := { s with tamp := { s.tamp with
    covSeen := upd s.tamp.covSeen x (fun _ => seen), relSeen := upd s.tamp.relSeen x (fun _ => rel) } }
  if seen = coverSamples x s then sourceTrip x 0 0 s
  else if rel = coverSamples x s then sourceRelease x s
  else s

/-- OUTAGE_COVER_SAMPLE (R270): the levels of both balls. -/
def execOutageCoverSample (cov tcov : Bool) (s : State) : Out :=
  onlyIf (s.sup.mode == .outage) (fun s => coverSample 1 tcov (coverSample 0 cov s)) s

/-- Counter `c`'s quiet time has passed with its source released (R273). -/
def quietOver (c : Nat) (s : State) : Bool :=
  let q := get (F.TAMP_FC_QUIET_Q c) s
  isLasting c s && !s.tamp.quietWait && q != 0 && !(flag (F.TAMP_FC_RESP_OPEN_SUPPLY c) s) && !(decide (48 ≤ c) && producer (c - 48) s) &&
    decide (nth 0 s.tamp.quietFrom c + 1024 * q ≤ s.sup.mono)

/-- QUIET_CLEAR (R273): every lasting counter whose quiet time has passed. -/
def execQuietClear (s : State) : Out :=
  onlyIf (s.sup.mode != .ship) (fun s =>
    (List.range 64).foldl (fun s c => if quietOver c s then clearLasting c 3 s else s) s) s

/-- A write of `TAMP_CTL` (R273). -/
def tampCtlWrite (w : Word) (s : State) : State :=
  if arg F.TAMP_CTL_KEY w ≠ 0xE1 ∨ arg F.TAMP_CTL_CLEAR w = 0 then s
  else if isLasting (arg F.TAMP_CTL_INDEX w) s then clearLasting (arg F.TAMP_CTL_INDEX w) 4 s
  else raise F.TAMP_CAUSE_CLR_REFUSED s

/-- TAMPER_CLEAR (R273). -/
def execTamperClear (m : Master) (w : Word) (s : State) : Out := cmdWrite m R.TAMP_CTL (tampCtlWrite w) s

/-- FAULT_RECORD_MINUTE (R274). -/
def execFaultRecordMinute (s : State) : Out := onlyIf (s.tamp.totalsChanged && bank2Open s) writeFaultRec s

/-- One source of the start latch is evaluated (R46): it is logged, and one that no counter has counted yet trips. -/
def evalLatched (x : Nat) (s : State) : State :=
  if bit s.ld.latched x && watched x s then tripProducer x 0 0 (logTamp 7 (48 + x) 0 0 s) else s

/-- What a source did after the latch is evaluated (R46), with its own time. -/
def evalLate (e : LateAlarm) (s : State) : State :=
  if e.trip then (if watched e.source s then tripProducerAt e.rtc e.mono e.source 0 e.detail s else s)
  else if producer e.source s then releaseProducer e.source s
  else s

/-- TAMPER_EVALUATION (R46): once the EVENTS section, or the fallback copy's, is in force. -/
def execTamperEvaluation (s : State) : Out :=
  onlyIf (configured s && !(evaluated s)) (fun s =>
    let s := put F.CFG_STATUS_TAMPER_PENDING 0 (put F.TAMP_STATUS_EVALUATED 1 s)
    let late := s.ld.lateAlarms
    let s := (List.range 13).foldl (fun s x => evalLatched x s) s
    let s := late.foldl (fun s e => evalLate e s) s
    refreshLines 0 { s with ld := { s.ld with latched := 0, lateAlarms := [] } }) s

end Sys2Proof.Machine
end

