-- ==== Sys2Proof/Machine/Cistern.lean ====
section
/-! DEFINITION. The Cistern's stores, recall and host access (R207 to R226). The commit of a store, which may end a freeze, is with the
power states. -/
namespace Sys2Proof.Machine

/-- Change the Cistern's state. -/
def updCis (f : CisSt → CisSt) (s : State) : State := { s with cis := f s.cis }

/-- The controller works: D7 is up, the recall is done, no power-fail store runs. -/
def cisReady (s : State) : Bool := domOn 7 s && s.cis.recalled && s.sup.mode != .frozen

/-- The ticks of E0's monotonic count between two periodic stores. -/
def storePeriod (s : State) : Nat := 61440 * get F.CIS_CFG_PERIOD s

/-- The periodic store is due: PERIOD minutes after the recall, and every PERIOD minutes from then on (R207). -/
def periodOver (s : State) : Bool := decide (s.cis.tickAt + storePeriod s ≤ s.sup.mono)

/-- PERIODIC_STORE_TICK (R207, R210): every dirty bank that is not copying; a bank that already waits is merged. -/
def execPeriodicStoreTick (s : State) : Out :=
  onlyIf (cisReady s && periodOver s) (fun s =>
    let w := get F.CIS_QUEUE_WAITING s
    let n := (List.range 16).foldl (fun n b =>
      if fbit F.CIS_STATUS_DIRTY b s && !(fbit F.CIS_STATUS_COPYING b s) then withBit n b else n) w
    let s := updCis (fun c => { c with tickAt := c.tickAt + storePeriod s }) s
    startStores 4 (put F.CIS_QUEUE_WAITING n (raiseIf (w != 0) F.CIS_CAUSE_STORE_MERGED s))) s

/-- Bank `b`'s password for `kind` (0 read, 1 write) in the password record (R222). -/
def password (b kind : Nat) (s : State) : Nat :=
  let e := nth (2 ^ 64 - 1, 2 ^ 64 - 1) (held [] s.cis.b1.pw) b
  if kind = 0 then e.1 else e.2

/-- Interface `i` may access bank `b` (R222, R223). -/
def hostMay (i b kind : Nat) (s : State) : Bool :=
  if kind = 1 ∧ b < 14 then false
  else
    let p := password b kind s
    if p = 0 then true else if p = 2 ^ 64 - 1 then false
    else s.cis.grants.any fun g => g.1 == i && g.2.1 == b && g.2.2.1 == kind

/-- An access renews the grant's time (R223). -/
def touchGrant (i b : Nat) (s : State) : State :=
  updCis (fun c => { c with
    grants := c.grants.map fun g => if g.1 == i && g.2.1 == b then (i, b, g.2.2.1, s.sup.mono) else g }) s

/-- The effect of a write of `CIS_CTL` by master `m` (R210, R224), and whether it was allowed. -/
def cisCtlWrite (m : Master) (w : Word) (s : State) : Bool × State :=
  let b := arg F.CIS_CTL_BANKS w
  if arg F.CIS_CTL_KEY w ≠ 0x3C then (true, s)
  else if isHost m && !((List.range 16).all fun n => !(bit b n) || (decide (14 ≤ n) && hostMay (ifaceOf m) n 1 s)) then
    (false, denied m s)
  else (true, storeBanks b s)

/-- STORE_COMMAND (R210). -/
def execStoreCommand (m : Master) (w : Word) (s : State) : Out := cmdWrite m R.CIS_CTL (fun s => (cisCtlWrite m w s).2) s

/-- A write of `CIS_REPORT` (R218). -/
def cisReportWrite (w : Word) (s : State) : State :=
  if arg F.CIS_REPORT_TIE w = 0 then s
  else occurrence 24 0 0 (raise F.CIS_CAUSE_SEQ_TIE (addSat F.CIS_COUNT_TIES 1 s))

/-- TIE_REPORT (R218). -/
def execTieReport (m : Master) (w : Word) (s : State) : Out := cmdWrite m R.CIS_REPORT (cisReportWrite w) s

/-- The password that `CIS_HOST_PW_0` and `CIS_HOST_PW_1` hold, byte 0 most significant. -/
def presented (s : State) : Nat :=
  ofBe (le 4 (sparseGet 0 s.hidden R.CIS_HOST_PW_0).toNat ++ le 4 (sparseGet 0 s.hidden R.CIS_HOST_PW_1).toNat)

/-- End interface `i`'s grant of `kind` on bank `b`. -/
def endGrant (i b kind : Nat) (s : State) : State :=
  updCis (fun c => { c with grants := c.grants.filter fun g => !(g.1 == i && g.2.1 == b && g.2.2.1 == kind) }) s

/-- GO (R223): the password is compared; a mismatch counts, and while the counter is lasting every unlock is refused. Eight bytes of 0xFF
refuse every password, and one that matches them is no mismatch (log 42). -/
def unlock (i b kind : Nat) (s : State) : Bool × State :=
  let p := password b kind s
  if isLasting 38 s then (false, raise F.CIS_CAUSE_HOST_LOCKOUT s)
  else if kind = 1 ∧ b < 14 then (false, s)
  else if p ≠ presented s then (false, occurrence 38 0 0 (raise F.CIS_CAUSE_PW_FAIL s))
  else if p = 2 ^ 64 - 1 then (false, s)
  else (true, updCis (fun c => { c with grants := c.grants ++ [(i, b, kind, s.sup.mono)] }) (endGrant i b kind s))

/-- A write of `CIS_HOST_UNLOCK` by interface `i` (R223), and whether it was granted. -/
def unlockWrite (i : Nat) (w : Word) (s : State) : Bool × State :=
  let b := arg F.CIS_HOST_UNLOCK_BANK w
  let k := arg F.CIS_HOST_UNLOCK_KIND w
  let s := if arg F.CIS_HOST_UNLOCK_LOCK w = 1 then endGrant i b k s else s
  if arg F.CIS_HOST_UNLOCK_GO w = 1 then unlock i b k s else (true, s)

/-- The state after a write of `CIS_HOST_UNLOCK`; a refused unlock is answered DENIED. -/
def hostUnlock (m : Master) (w : Word) (s : State) : State :=
  let r := unlockWrite (ifaceOf m) w s
  if r.1 then r.2 else denied m r.2

/-- PASSWORD_UNLOCK (R223). -/
def execPasswordUnlock (m : Master) (w : Word) (s : State) : Out := cmdWrite m R.CIS_HOST_UNLOCK (hostUnlock m w) s

/-- PASSWORD_LOCK (R223). -/
def execPasswordLock (m : Master) (w : Word) (s : State) : Out := cmdWrite m R.CIS_HOST_UNLOCK (fun s => hostUnlock m w s) s

/-- GRANT_LAPSE (R223): 300 s without an access. -/
def execGrantLapse (s : State) : Out :=
  .next (updCis (fun c => { c with grants := c.grants.filter fun g => decide (s.sup.mono < g.2.2.2 + 307200) }) s)

/-- A plane carries an interrupted store (R214): a begin stamp newer than the other plane's trailer, no trailer of its own. -/
def interruptedBy (p other : Plane) : Option Nat :=
  match p.beg, p.trl with
  | some b, none => if trailerCount other < b.1 then some b.2 else none
  | _, _ => none

/-- The RTC of a bank's interrupted begin stamp. -/
def interrupted (b : Nat) (s : State) : Option Nat :=
  let p := planesOf b s
  match interruptedBy p.1 p.2 with
  | some t => some t
  | none => interruptedBy p.2 p.1

/-- The RTC of a bank's last completed store. -/
def storedAt (b : Nat) (s : State) : Option Nat :=
  match lastPlane (planesOf b s) with
  | none => none
  | some p => p.trl.map (·.2.2)

/-- Recall bank `b` (R213, R214). -/
def recallBank (b : Nat) (s : State) : State :=
  let p := planesOf b s
  let s := setBank b (match lastPlane p with | some x => x.data | none => blankBank b) s
  let blank := (lastPlane p).isNone
  let lost := (interrupted b s).isSome && !blank
  let s := put (F.CIS_STAMP_RTC b) ((storedAt b s).getD 0) (put (F.CIS_WEAR_STORES b) (storesOf p) s)
  let s := putBit F.CIS_STATUS_DIRTY b false (putBit F.CIS_QUEUE_RECALLED b true s)
  let s := raiseIf lost F.CIS_CAUSE_RECALL_LOSS (putBit F.CIS_RECALL_LOST b lost s)
  raiseIf blank F.CIS_CAUSE_BLANK (putBit F.CIS_RECALL_BLANK b blank s)

/-- Recall the first `n` banks in order, but those already recalled: what an access to bank `n - 1` waits for (R213). -/
def recallTo (n : Nat) (s : State) : State :=
  (List.range n).foldl (fun s b => if fbit F.CIS_QUEUE_RECALLED b s then s else recallBank b s) s

/-- An error that the code of the Cistern's SRAM finds at a read: 0 none, 1 corrected, 2 uncorrectable (R215). -/
def eccCistern (ecc : Nat) (s : State) : State :=
  if ecc = 0 then s
  else occurrence 24 0 0 (if ecc = 1 then raise F.CIS_CAUSE_ECC_CORR (addSat F.CIS_COUNT_ECC_CORR 1 s) else raise F.CIS_CAUSE_ECC_UNCORR s)

/-- The copy of a two-copy record at bank offset `o`, whose slots of `n` bytes lie from `base`, when its CRC no longer matches (R217). -/
def spoilCopy {α : Type} (base n o : Nat) (r : TwoCopy α) : TwoCopy α :=
  if o < base ∨ base + 2 * n ≤ o then r else if o < base + n then { r with a := none } else { r with b := none }

/-- The 8 bytes at offset `o` of a slot of the legal log become 0. -/
def zeroSlot (o : Nat) (b : List Byte) : List Byte := b.take o ++ zeros 8 ++ b.drop (o + 8)

/-- A spread counter with its value or its target lost. -/
def zeroSpread (o : Nat) (c : Spread) : Spread := if o < 8 then { c with val := 0 } else { c with tgt := 0, mark := false }

/-- What a bank holds once the 64-bit word at bank offset `o` is 0 (R215): the CRC of the record that contains it no longer matches, and the
record counts as none. A word that was 0 changes nothing. -/
def spoil (o : Nat) (d : BankData) : BankData :=
  let l := regions d
  if ((List.range 8).all fun i => regionByte l (o + i) == 0) then d
  else match d with
    | .b0 d => .b0 { d with
        acc := spoilCopy 0 0x400 o d.acc, bill := spoilCopy 0x800 0x1000 o d.bill, credit := spoilCopy 0x2800 0x400 o d.credit
        spread := if o < 0x3000 then d.spread else upd d.spread ((o - 0x3000) / 16) (zeroSpread (o % 16)) }
    | .b1 d => .b1 { d with
        keep := spoilCopy 0 0x400 o d.keep, pw := spoilCopy 0x800 0x400 o d.pw, upd := spoilCopy 0x1000 0x400 o d.upd
        well := spoilCopy 0x1800 0x400 o d.well, fall := spoilCopy 0x6000 0x5000 o d.fall
        keys := if 0x2000 ≤ o ∧ o < 0x6000 then d.keys.eraseIdx ((o - 0x2000) / 128) else d.keys }
    | .b2 d => .b2 { d with
        legal := if o < 0x8000 then sparseSet [] d.legal (o / 64) (zeroSlot (o % 64) (sparseGet [] d.legal (o / 64))) else d.legal
        fault := spoilCopy 0x8000 0x400 o d.fault
        tlog := if 0x8800 ≤ o then sparseSet {} d.tlog ((o - 0x8800) / 32) {} else d.tlog }
    | .b3 d => .b3 { d with
        snaps := if o < 0x6000 then sparseSet {} d.snaps (o / 0x400) {} else d.snaps
        sound := spoilCopy 0x6000 0x400 o d.sound, fab := spoilCopy 0x6800 0x400 o d.fab
        pq := if 0xE000 ≤ o then sparseSet {} d.pq ((o - 0xE000) / 32) {} else d.pq }
    | .lp1 d => .lp1 (sparseSet {} d (o / 24) {})
    | .lp2 d => .lp2 (sparseSet {} d (o / 64) {})
    | .user d => .user ((List.range 8).foldl (fun m i => sparseSet 0 m (o + i) 0) d)

/-- What the code finds in word `e.2.1` of bank `e.1` while it is recalled (R215): 1 corrected, 2 uncorrectable, which leaves the word 0. -/
def recallError (e : Nat × Nat × Nat) (s : State) : State :=
  let s := if e.2.2 = 2 then setBank e.1 (spoil (8 * (e.2.1 % 8192)) (bankData e.1 s)) s else s
  eccCistern e.2.2 s

/-- RECALL (R213, R215): banks 0 to 15 in order. `ecc` lists what the code finds in the words of the banks still to be recalled. -/
def execRecall (ecc : List (Nat × Nat × Nat)) (s : State) : Out :=
  onlyIf (domOn 7 s && !s.cis.recalled && get F.CIS_QUEUE_RECALLED s != 0xFFFF) (fun s =>
    let late := get F.CIS_QUEUE_RECALLED s
    (ecc.filter fun e => decide (e.1 < 16) && !(bit late e.1)).foldl (fun s e => recallError e s) (recallTo 16 s)) s

/-- Bytes into the page of 64 that holds bank offset `o`: past the end of the page they wrap to its start (R216). -/
def pageWrite (m : Sparse Byte) (o : Nat) (bs : List Byte) : Sparse Byte :=
  bs.zipIdx.foldl (fun m e => sparseSet 0 m (o / 64 * 64 + (o + e.2) % 64) e.1) m

/-- A write at `a` into the Cistern's SRAM (R207, R213, R216): it waits for the bank's recall, makes the bank dirty and stays within its page. The
user banks hold bytes. What the other banks hold are their owners' records, which the rules of those records write (log 42). -/
def sramWrite (a : Nat) (bs : List Byte) (s : State) : State :=
  let b := (a - 0x28000000) / 0x10000
  let o := a % 0x10000
  let s := recallTo (b + 1) s
  let s := raiseIf (decide (64 < o % 64 + bs.length)) F.CIS_CAUSE_PAGE_WRAP s
  dirty b (if b < 14 then s else updCis (fun c => { c with user := upd c.user (b - 14) fun m => pageWrite m o bs }) s)

/-- The entries of the record of KIND 0x0103 (R399). -/
def recallEntries (s : State) : List (List Byte) :=
  (List.range 16).flatMap fun b =>
    if fbit F.CIS_RECALL_BLANK b s then [le 1 b ++ le 1 2 ++ zeros 6]
    else if fbit F.CIS_RECALL_LOST b s then
      [le 1 b ++ le 1 1 ++ zeros 2 ++ le 4 ((storedAt b s).getD 0), le 4 ((interrupted b s).getD 0) ++ zeros 4]
    else []

/-- E0 takes the lasting states from the fault record when its own histories did not survive, with the occurrences counted since; the
quiet times then start at the first valid frame (R274). -/
def restoreFaults (s : State) : State :=
  let r := held { lasting := 0, since := List.replicate 64 0, total := List.replicate 64 0 } s.cis.b2.fault
  if s.tamp.loaded then
    let s := { s with tamp := { s.tamp with life := List.zipWith max s.tamp.life r.total } }
    if r.lasting = (faultRec s).lasting then s else writeFaultRec s
  else
    let since := List.zipWith (fun a b => if a = 0 then b else a) s.tamp.since r.since
    let s := { s with tamp := { s.tamp with
      loaded := true, quietWait := true, since := since
      life := List.zipWith (fun a b => satNat (2 ^ 32 - 1) (a + b)) s.tamp.life r.total } }
    (List.range 64).foldl (fun s c =>
      if bit r.lasting c then putBit (F.TAMP_LASTING_LASTING (c / 32)) (c % 32) true (put (F.TAMP_FC_STAT_LASTING c) 1 s) else s) s

/-- The record of the legal log that starts at slot `k` of the part that ends before slot `hi` (R238, R239): its number and slots, when its CRC
holds. -/
def legalAt (m : Sparse (List Byte)) (hi k : Nat) : Option (Nat × Nat) :=
  let n := ofLe (((sparseGet [] m k).drop 6).take 1)
  if n = 0 ∨ 8 < n ∨ hi < k + n then none
  else
    let b := (List.range n).flatMap fun i => let x := sparseGet [] m (k + i); x ++ zeros (64 - x.length)
    if crc32 (b.take (64 * n - 4)) = ofLe (b.drop (64 * n - 4)) then some (ofLe (b.take 4), n) else none

/-- The next event slot (R238): the one after the record of the part with the highest number, in the sense of R218. -/
def eventPlace (m : Sparse (List Byte)) : Nat :=
  let best := (m.filter fun e => decide (256 ≤ e.1)).foldl (fun (b : Option (Nat × Nat)) e =>
    match legalAt m 512 e.1, b with
    | none, b => b
    | some r, none => some (r.1, e.1 + r.2)
    | some r, some x => if seqNewer x.1 r.1 then some (r.1, e.1 + r.2) else some x) none
  match best with
  | none => 256
  | some x => if x.2 = 512 then 256 else x.2

/-- Where E1 writes next in the legal log, as it finds it at a start (R238): the first change slot that is all 0, the change records that stand
there, the next event slot. -/
def legalPlaces (d : Bank2) : Bank2 :=
  { d with
    chgUsed := ((List.range 256).find? fun k => (sparseGet [] d.legal k).all (· == 0)).getD 256
    chgCount := (d.legal.filter fun e => decide (e.1 < 256) && (legalAt d.legal 256 e.1).isSome).length
    evNext := eventPlace d.legal }

/-- The banks of the two-copy records whose copies carry the same SEQ, one for each such record (R218). -/
def tiedBanks (s : State) : List Nat :=
  let c := s.cis
  [(0, isTie c.b0.acc), (0, isTie c.b0.bill), (0, isTie c.b0.credit), (1, isTie c.b1.keep), (1, isTie c.b1.pw), (1, isTie c.b1.upd),
    (1, isTie c.b1.well), (1, isTie c.b1.fall), (2, isTie c.b2.fault), (3, isTie c.b3.sound), (3, isTie c.b3.fab)].filterMap
    fun e => if e.2 then some e.1 else none

/-- The readers of the records report each tie by a write of `CIS_REPORT` (R218). DEDUCED: the owners select their copies after the recall, and a
copy written later always carries another SEQ (log 42). -/
def reportTies (s : State) : State :=
  (tiedBanks s).foldl (fun s b => cisReportWrite (BitVec.ofNat 32 (1 + 16 * b)) s) s

/-- The newest time in the trailers of the shadow planes (R298). -/
def newestStamp (s : State) : Nat := (List.range 16).foldl (fun n b => max n ((storedAt b s).getD 0)) 0

end Sys2Proof.Machine
end

