-- ==== Sys2Proof/Machine/ImageMap.lean ====
section
/-! DEFINITION. Which bits of which register an image section sets: the LK fields and the fields whose reset the register tables
give as Image and that a section carries (R5, R7, R396). -/
namespace Sys2Proof.Machine

/-- Registers `count` from `base`, `stride` apart, and the mask of the bits an image sets in each. -/
structure ImgMask where
  base : Nat
  stride : Nat
  count : Nat
  mask : Word
deriving DecidableEq, Repr

/-- Image fields, part 1. -/
def imgMasks1 : List ImgMask :=
  [⟨0x400a0f00, 4, 1, 0x30003#32⟩,
   ⟨0x400a0f14, 4, 1, 0x1000#32⟩,
   ⟨0x40080000, 4, 1, 0x7ff#32⟩,
   ⟨0x40080020, 4, 8, 0x3f#32⟩,
   ⟨0x40080100, 4, 1, 0x3ff07ff#32⟩,
   ⟨0x40080104, 4, 1, 0x7f007f#32⟩,
   ⟨0x40080420, 4, 8, 0xffffff#32⟩,
   ⟨0x40080440, 4, 8, 0xffffff#32⟩,
   ⟨0x40090000, 4, 1, 0x10001#32⟩,
   ⟨0x40090010, 4, 1, 0x3f#32⟩,
   ⟨0x40090020, 4, 8, 0xf#32⟩,
   ⟨0x40090040, 4, 8, 0x7ffff#32⟩,
   ⟨0x40090100, 4, 1, 0xffff0f#32⟩,
   ⟨0x40090200, 4, 1, 0xfffff#32⟩,
   ⟨0x40090400, 16, 16, 0xf7fff7f#32⟩,
   ⟨0x40090404, 16, 16, 0xffffffff#32⟩,
   ⟨0x40090800, 4, 128, 0xffffff#32⟩,
   ⟨0x400a0000, 4, 1, 0xffff003f#32⟩,
   ⟨0x400a0010, 4, 8, 0xffffffff#32⟩,
   ⟨0x400a0040, 4, 1, 0xffffffff#32⟩]

/-- Image fields, part 2. -/
def imgMasks2 : List ImgMask :=
  [⟨0x400a0044, 4, 1, 0xffff03ff#32⟩,
   ⟨0x400b0010, 4, 3, 0xffffffff#32⟩,
   ⟨0x400b0040, 16, 4, 0x1fffff#32⟩,
   ⟨0x400b0044, 16, 4, 0xfffff#32⟩,
   ⟨0x400c0000, 4, 1, 0x7f03#32⟩,
   ⟨0x400c0014, 4, 1, 0xffff#32⟩,
   ⟨0x400c0020, 4, 1, 0xffffffff#32⟩,
   ⟨0x400c0024, 4, 1, 0x7f7f7f#32⟩,
   ⟨0x400c0200, 4, 1, 0x7f1fff#32⟩,
   ⟨0x400c0204, 4, 1, 0xffffffff#32⟩,
   ⟨0x400c0208, 4, 1, 0xffffffff#32⟩,
   ⟨0x400c0220, 4, 3, 0x3ff03ff#32⟩,
   ⟨0x400d0020, 4, 1, 0x1f#32⟩,
   ⟨0x400d0024, 4, 1, 0x1f1f#32⟩,
   ⟨0x400d0028, 4, 1, 0x1ff#32⟩,
   ⟨0x400d0030, 4, 6, 0x7f037f#32⟩,
   ⟨0x400d0140, 4, 16, 0x3ff#32⟩,
   ⟨0x400e0010, 4, 1, 0x1ff#32⟩,
   ⟨0x400e0014, 4, 1, 0x3ff#32⟩,
   ⟨0x40100010, 4, 1, 0xffffffff#32⟩]

/-- Image fields, part 3. -/
def imgMasks3 : List ImgMask :=
  [⟨0x40100014, 4, 1, 0xffff7ff#32⟩,
   ⟨0x40110000, 4, 1, 0xff#32⟩,
   ⟨0x40120010, 4, 1, 0xfff#32⟩,
   ⟨0x4013000c, 4, 1, 0x3ff#32⟩,
   ⟨0x40040020, 4, 2, 0xffffffff#32⟩,
   ⟨0x40040028, 4, 2, 0xffffffff#32⟩,
   ⟨0x40040030, 4, 2, 0xffffffff#32⟩,
   ⟨0x40040038, 4, 2, 0xffffffff#32⟩,
   ⟨0x40040100, 4, 16, 0x7f#32⟩,
   ⟨0x40050020, 4, 1, 0xfffff#32⟩,
   ⟨0x40050024, 4, 1, 0x1ff#32⟩,
   ⟨0x4005002c, 4, 1, 0x1ffff#32⟩,
   ⟨0x40051000, 16, 64, 0x1f1ffff#32⟩,
   ⟨0x40051004, 16, 64, 0xfffff#32⟩,
   ⟨0x40051008, 16, 64, 0xfff#32⟩,
   ⟨0x40010014, 4, 1, 0x3f#32⟩,
   ⟨0x40010030, 4, 1, 0xff01ff#32⟩,
   ⟨0x40010034, 4, 1, 0xffff0007#32⟩,
   ⟨0x40010044, 4, 10, 0x33ff03ff#32⟩,
   ⟨0x40020010, 4, 1, 0xf#32⟩]

/-- Image fields, part 4. -/
def imgMasks4 : List ImgMask :=
  [⟨0x40150000, 4, 1, 0xff01ff#32⟩,
   ⟨0x40150010, 4, 1, 0xff3f3f#32⟩,
   ⟨0x40150014, 4, 1, 0x1ffffff#32⟩,
   ⟨0x40150018, 4, 1, 0xff7ffff#32⟩,
   ⟨0x40150030, 4, 1, 0x7fff07ff#32⟩,
   ⟨0x40150400, 4, 75, 0xffff#32⟩,
   ⟨0x40160000, 4, 1, 0xff7fffff#32⟩,
   ⟨0x40160010, 4, 1, 0x3fffffff#32⟩,
   ⟨0x40170010, 4, 1, 0x7fff#32⟩,
   ⟨0x40170014, 4, 1, 0x3f3fffff#32⟩,
   ⟨0x40170020, 4, 4, 0xffff7fff#32⟩,
   ⟨0x40170030, 4, 1, 0xff0f#32⟩,
   ⟨0x40180000, 4, 1, 0xf#32⟩,
   ⟨0x40190000, 4, 1, 0x17f#32⟩,
   ⟨0x40190010, 4, 4, 0x1f#32⟩]

/-- The image fields of the register map. -/
def imgMasks : List ImgMask := imgMasks1 ++ imgMasks2 ++ imgMasks3 ++ imgMasks4

/-- The bits of the register at `a` that an image sets. -/
def imgMask (a : Nat) : Word :=
  match imgMasks.find? fun d => decide (d.base ≤ a) && decide (a < d.base + d.stride * d.count) && (a - d.base) % d.stride == 0 with
  | some d => d.mask
  | none => 0

/-- The default window, threshold and quiet time of fault counter `c` (R275), in seconds. -/
def counterDefault (c : Nat) : Nat × Nat × Nat :=
  let hour := 3600
  let day := 86400
  if c ≤ 9 then (day, 3, 7 * day) else if c ≤ 23 then (hour, 16, day) else if c = 24 then (hour, 8, day)
  else if c ≤ 34 then (hour, 3, day) else if c ≤ 36 then (day, 3, 7 * day) else if c = 37 then (day, 3, 0)
  else if c ≤ 43 then (hour, 5, hour) else if c = 44 then (hour, 8, day) else if c = 45 then (hour, 3, 0)
  else if c = 46 then (hour, 10, hour) else if c = 47 then (day, 3, 7 * day) else (day, 1, 0)

/-- The values that image fields take where no section gives one: the defaults of the field tables (R396), of R150 and of R275. -/
def imgDefaults : List (Fld × Nat) :=
  [(F.CNV_PLAUS_LIM_0_GAIN, 300), (F.CNV_PLAUS_LIM_0_DELAY, 100), (F.CNV_PLAUS_LIM_1_OFS, 20), (F.CNV_PLAUS_LIM_1_RESID, 10),
   (F.FLT_TRK_CTL_GAIN, 1), (F.FLT_TRK_CTL_JIT_LIM, 5), (F.FLT_TRK_CTL_HOLD_MAX, 5),
   (F.PHE_NEUT_CFG_THR, 100), (F.PHE_NEUT_CFG_PERSIST, 3), (F.PHE_NEUT_CFG_FLOOR, 10),
   (F.SPE_CFG_THD_MAX, 40), (F.SPE_PQ_THR_DIP, 180), (F.SPE_PQ_THR_SWELL, 220), (F.SPE_PQ_THR_INTR, 10), (F.SPE_PQ_THR_HYST, 20),
   (F.SPE_PART_SIZE 0, 384), (F.SPE_PART_BASE 1, 384), (F.SPE_PART_SIZE 1, 64), (F.SPE_PART_BASE 2, 448), (F.SPE_PART_SIZE 2, 64)] ++
  [(F.TAR_ADJ_CFG_LIMIT, 30), (F.RLY_MAIN_CFG_VDELAY, 40), (F.RLY_MAIN_CFG_CLOSE_PCT, 8), (F.RLY_MAIN_CFG_OPEN_PCT, 2),
   (F.RLY_MAIN_CFG_RETRY, 2), (F.CIS_CFG_PERIOD, 15), (F.OBJ_SESS_CFG_IDLE, 300), (F.WEL_CFG_REMASK, 64),
   (F.LMD_CFG_CAP_NOM, 47), (F.LMD_LBT_CFG_THR, 86), (F.LMD_LBT_CFG_SENSE, 4), (F.LMD_LBT_CFG_MAX_TX, 100), (F.LMD_LBT_CFG_PAUSE, 125),
   (F.LMD_SND_CFG_PERIOD, 60), (F.LMD_SND_CFG_BYP_DROP, 60), (F.LMD_SND_CFG_CAP_MIN, 70),
   (F.FAB_CFG_RETRY, 3), (F.FAB_CFG_MARGIN, 2), (F.FAB_CFG_SEG_MAX, 32),
   (F.FAB_TIMING_ADV, 60), (F.FAB_TIMING_LOST, 180), (F.FAB_TIMING_RESCUE, 300), (F.HIF_CFG_I2C_ADDR, 0x4C)] ++
  (List.range 61).flatMap (fun c =>
    let d := counterDefault c
    [(F.TAMP_FC_CFG_WIN c, d.1), (F.TAMP_FC_CFG_N c, d.2.1), (F.TAMP_FC_QUIET_Q c, d.2.2), (F.TAMP_FC_RESP_IRQ c, 1),
      (F.TAMP_FC_RESP_DISPLAY c, 1)])

/-- The loader writes the value `e` of a section into its register; a register whose domain is off takes nothing. -/
def loadReg (e : Nat × Word) (s : State) : State :=
  let m := imgMask e.1
  if m = 0 || !(domOn (blockDom (blockOf e.1)) s) then s
  else wr e.1 ((rd s e.1 &&& ~~~m) ||| (e.2 &&& m)) s

/-- Write register values that satisfy `p`. -/
def loadRegs (p : Nat → Bool) (l : List (Nat × Word)) (s : State) : State :=
  l.foldl (fun s e => if p e.1 then loadReg e s else s) s

/-- An image field that no section sets takes its reset value (R7) before its default. -/
def defaultReg (a : Nat) (m : Word) (s : State) : State :=
  wr a ((rd s a &&& ~~~m) ||| (sparseGet 0 resetRegs a &&& m)) s

/-- The image fields of the registers that satisfy `p` at their reset values and defaults. -/
def defaultRegs (p : Nat → Bool) (s : State) : State :=
  let s := imgMasks.foldl (fun s d => (List.range d.count).foldl (fun s i =>
    let a := d.base + d.stride * i
    if p a && domOn (blockDom (blockOf a)) s then defaultReg a d.mask s else s) s) s
  imgDefaults.foldl (fun s e => if p e.1.addr && domOn (blockDom (blockOf e.1.addr)) s then put e.1 e.2 s else s) s

end Sys2Proof.Machine
end

