-- ==== Sys2Proof/Machine/Claims.lean ====
section
/-! DEFINITION. Pads and timers: where a function may stand (R373), the claims of an image and the conflicts among them (R43, R374,
R375). -/
namespace Sys2Proof.Machine

/-- Instance `k` of function `f` may stand on pad `n` (R373). -/
def padCan (n f k : Nat) : Bool :=
  if 80 ≤ n then false
  else if f ≤ 1 then true
  else if f = 2 then k < 4 && n = k
  else if f = 3 then k < 2 && (n = 4 + k || n = 0x1E + k)
  else if f ≤ 6 then k < 2 && n = 6 + 2 * (f - 4) + k
  else if f = 7 then k < 2 && (n = 0x34 + k || n = 0x4C + k)
  else if f = 8 then n = 0x0C
  else if f = 9 then k < 4 && (n = 0x30 + 2 * k || n = 0x31 + 2 * k)
  else if f = 10 then k < 2 && n = 0x20 + k
  else if f = 11 then k < 3 && n = nth 0 [0x22, 0x22, 0x23] k
  else if f = 12 then k < 4 && n = 0x10 + k
  else if f = 13 then k < 5 && n = 0x14 + k
  else if f = 14 then n = 0x28
  else if f = 15 then k < 8 && (n = 0x30 + k || n = 0x40 + k)
  else if f = 16 then k < 8 && n = 0x48 + k
  else false

/-- The one declared sharing (R375): a pulse channel and a timer output. -/
def maySharePad (a b : Nat) : Bool := (a = 9 && b = 15) || (a = 15 && b = 9)

/-- The first pad in conflict among the claims, after those `seen` (R43). -/
def padConflict : List PinClaim → List PinClaim → Option Nat
  | _, [] => none
  | seen, c :: t =>
    let same := seen.filter fun d => d.pad == c.pad
    if !(padCan c.pad c.func c.inst) then some c.pad
    else if same.any (fun d => !(maySharePad d.func c.func)) || decide (2 ≤ same.length) then some c.pad
    else padConflict (c :: seen) t

/-- The first timer claimed twice, or that does not exist. -/
def timerConflict : List Nat → List (Nat × Nat) → Option Nat
  | _, [] => none
  | seen, c :: t => if seen.contains c.1 || decide (8 ≤ c.1) then some c.1 else timerConflict (c.1 :: seen) t

/-- Pad `c.pad` takes its function (R373 to R375). -/
def claimPad (c : PinClaim) (s : State) : State :=
  if maySharePad (get (F.PIN_PAD_FUNC c.pad) s) c.func then put (F.PIN_PAD_FUNC c.pad) 9 (put (F.PIN_PAD_SHARED c.pad) 1 s)
  else put (F.PIN_PAD_FUNC c.pad) c.func (put (F.PIN_PAD_OWNER c.pad) c.owner (put ⟨R.PIN_PAD c.pad, 10, 4⟩ c.settings s))

/-- Pad `n` is unclaimed: an input with no pull. -/
def freePad (n : Nat) (s : State) : State := wr (R.PIN_PAD n) 0 s

/-- Timer `t` gets its owner. -/
def claimTimer (e : Nat × Nat) (s : State) : State := put (F.TIM_CTL_OWNER e.1) e.2 s

/-- Apply an image's claims (R43): every other pad is unclaimed. -/
def applyClaims (pins : List PinClaim) (tims : List (Nat × Nat)) (s : State) : State :=
  let s := (List.range 80).foldl (fun s n => freePad n s) s
  let s := pins.foldl (fun s c => claimPad c s) s
  let s := (List.range 8).foldl (fun s t => put (F.TIM_CTL_OWNER t) 0 s) s
  let s := tims.foldl (fun s e => claimTimer e s) s
  { s with hif := { s.hif with claims := pins, runPads := [], runTims := [] } }

end Sys2Proof.Machine
end

