-- ==== Sys2Proof/Machine/Ranges.lean ====
section
/-! DEFINITION. The ranges and reserved codes of the values an image's sections carry (step 7 of R40, R396), as the field tables
of chapters 03 to 17 print them: a section that carries a register carries every image field of it. -/
namespace Sys2Proof.Machine

/-- The range of an image field: lowest and highest value, and whether 0 is allowed beside them. -/
structure ImgRange where
  fld : Fld
  lo : Nat
  hi : Nat
  zero : Bool := false
deriving DecidableEq, Repr

/-- The ranges of chapters 03 and 04 (METROLOGY). -/
def rangesMetrology : List ImgRange :=
  [⟨F.CNV_CTL_PERIOD, 2, 600, true⟩, ⟨F.CNV_PLAUS_LIM_0_GAIN, 50, 2000, false⟩, ⟨F.CNV_PLAUS_LIM_0_DELAY, 10, 1000, false⟩,
   ⟨F.CNV_PLAUS_LIM_1_OFS, 1, 100, false⟩, ⟨F.CNV_PLAUS_LIM_1_RESID, 2, 100, false⟩,
   ⟨F.FLT_GROUP_CFG_CIC_V, 0, 2, false⟩, ⟨F.FLT_GROUP_CFG_CIC_I, 0, 2, false⟩, ⟨F.FLT_GROUP_CFG_CIC_NX, 0, 2, false⟩,
   ⟨F.FLT_TRK_CTL_REF_PREF, 0, 2, false⟩, ⟨F.FLT_TRK_CTL_JIT_LIM, 1, 50, false⟩, ⟨F.FLT_TRK_CTL_HOLD_MAX, 1, 50, false⟩,
   ⟨F.FLT_LEGACY_CFG_DELAY, 0, 1000000, false⟩, ⟨F.PHE_TAMP_CFG_REV_PERSIST, 1, 255, false⟩,
   ⟨F.PHE_NEUT_CFG_THR, 10, 1000, false⟩, ⟨F.PHE_NEUT_CFG_PERSIST, 1, 255, false⟩] ++
  (List.range 8).flatMap (fun n => [⟨F.CNV_CHAN_GAIN_GAIN n, 0x200000, 0x7FFFFF, false⟩]) ++
  (List.range 16).flatMap (fun m => [⟨F.FLT_WIN_CFG_SRC m, 0, 2, false⟩, ⟨F.FLT_WIN_CFG_PERSIST m, 1, 255, false⟩]) ++
  (List.range 4).flatMap (fun k => [⟨F.NRG_PULSE_CFG_QTY k, 0, 39, false⟩, ⟨F.NRG_PULSE_CFG_WIDTH k, 2, 8000, false⟩,
    ⟨F.NRG_PULSE_CONST_CONST k, 1, 1000000, false⟩])

/-- The ranges of chapters 06 to 13. -/
def rangesRecords : List ImgRange :=
  [⟨F.SPE_CFG_THD_MAX, 2, 127, false⟩, ⟨F.SPE_CAP_CFG_CHANS, 1, 255, false⟩, ⟨F.SPE_CAP_CFG_PRE, 0, 100, false⟩,
   ⟨F.RLY_MAIN_CFG_PULSE, 50, 200, false⟩, ⟨F.RLY_MAIN_CFG_VDELAY, 10, 200, false⟩, ⟨F.RLY_LC_CFG_MIN_ON, 1, 30, false⟩,
   ⟨F.RLY_LC_CFG_MIN_OFF, 3, 30, false⟩, ⟨F.CIS_CFG_PERIOD, 1, 240, false⟩, ⟨F.OBJ_SESS_CFG_IDLE, 30, 3600, false⟩,
   ⟨F.WEL_CFG_REMASK, 8, 512, false⟩, ⟨F.TAMP_IN_CFG_DEB_COV, 1, 255, false⟩, ⟨F.TAMP_IN_CFG_DEB_TCOV, 1, 255, false⟩,
   ⟨F.TAMP_MAG_CFG_THR, 20, 200, false⟩, ⟨F.TAMP_CRK_CFG_MAX, 100, 60000, false⟩, ⟨F.PMU_NAP_CFG_MAX, 10, 65535, false⟩] ++
  (List.range 3).flatMap (fun n => [⟨F.SPE_PART_SIZE n, 0, 512, false⟩]) ++
  (List.range 6).flatMap (fun c => [⟨F.BIL_PROF_CH_P1_REG c, 0, 89, false⟩, ⟨F.BIL_PROF_CH_P1_UNIT c, 0, 2, false⟩,
    ⟨F.BIL_PROF_CH_P2_REG c, 0, 89, false⟩]) ++
  (List.range 16).flatMap (fun n => [⟨F.BIL_DISP_CFG_REG n, 0, 89, false⟩]) ++
  (List.range 64).flatMap (fun c => [⟨F.TAMP_FC_CFG_WIN c, 1, 86400, false⟩, ⟨F.TAMP_FC_CFG_N c, 1, 16, false⟩,
    ⟨F.TAMP_FC_QUIET_Q c, 0, 604800, false⟩]) ++
  (List.range 11).flatMap (fun d => [⟨F.PMU_DOM_CFG_LIMIT d, 0, 1000, false⟩, ⟨F.PMU_DOM_CFG_SAVE_N d, 0, 512, false⟩])

/-- The ranges of chapters 14 to 17. -/
def rangesOutside : List ImgRange :=
  [⟨F.LMD_CFG_BLANK_K, 2, 16, true⟩, ⟨F.LMD_LBT_CFG_THR, 60, 120, false⟩, ⟨F.LMD_LBT_CFG_SENSE, 1, 15, false⟩,
   ⟨F.LMD_LBT_CFG_MAX_TX, 10, 100, false⟩, ⟨F.LMD_LBT_CFG_PAUSE, 1, 255, false⟩, ⟨F.LMD_SND_CFG_PERIOD, 0, 1440, false⟩,
   ⟨F.LMD_SND_CFG_CAP_MIN, 50, 95, false⟩, ⟨F.FAB_CFG_SEG_MAX, 8, 142, false⟩, ⟨F.FAB_TIMING_ADV, 10, 600, false⟩,
   ⟨F.FAB_TIMING_LOST, 10, 600, false⟩, ⟨F.FAB_TIMING_RESCUE, 30, 1000, false⟩, ⟨F.PNL_CFG_FRAME_HZ, 60, 150, false⟩,
   ⟨F.PNL_CFG_PRE, 1, 31, false⟩, ⟨F.PNL_PUMP_CFG_P1_V, 80, 180, false⟩, ⟨F.PNL_PUMP_CFG_P3_V, 80, 180, false⟩,
   ⟨F.PNL_PUMP_CFG_P2_V, 20, 60, false⟩, ⟨F.PNL_PUMP_CFG_P4_V, 20, 60, false⟩, ⟨F.PNL_GLOW_CFG_ROWS, 0, 8, false⟩,
   ⟨F.PNL_GLOW_CFG_GLOW_V, 80, 120, false⟩, ⟨F.KPD_CFG_DEB, 1, 5, false⟩] ++
  (List.range 4).flatMap (fun n => [⟨F.PNL_AREA_COL0 n, 0, 95, false⟩, ⟨F.PNL_AREA_COL1 n, 0, 95, false⟩]) ++
  (List.range 4).flatMap (fun u => [⟨F.HIF_UART_CFG_BAUD u, 0, 11, false⟩])

/-- Every range. -/
def imgRanges : List ImgRange := rangesMetrology ++ rangesRecords ++ rangesOutside

/-- A carried register value keeps the range of a field. -/
def inRange (r : ImgRange) (e : Nat × Word) : Bool :=
  e.1 != r.fld.addr ||
    (let v := fieldOf r.fld e.2
     (decide (r.lo ≤ v) && decide (v ≤ r.hi)) || (r.zero && v == 0))

/-- The channel delays lie within ±250 000 ns (R99); an area's last column does not precede its first; the optical port's rate
is one of codes 3 to 5 (chapter 17). -/
def jointRange (e : Nat × Word) : Bool :=
  ((List.range 8).all fun n => e.1 != R.FLT_DELAY n ||
    (let d := signed 19 (fieldOf (F.FLT_DELAY_DELAY n) e.2); decide (-250000 ≤ d) && decide (d ≤ 250000))) &&
  ((List.range 4).all fun n => e.1 != R.PNL_AREA n || fieldOf (F.PNL_AREA_EN n) e.2 == 0 ||
    decide (fieldOf (F.PNL_AREA_COL0 n) e.2 ≤ fieldOf (F.PNL_AREA_COL1 n) e.2)) &&
  (e.1 != R.HIF_UART_CFG 3 || fieldOf (F.HIF_UART_CFG_MODE 3) e.2 == 0 ||
    (decide (3 ≤ fieldOf (F.HIF_UART_CFG_BAUD 3) e.2) && decide (fieldOf (F.HIF_UART_CFG_BAUD 3) e.2 ≤ 5)))

/-- Every value that a section's registers carry lies in its range (step 7 of R40). -/
def rangesOk (l : List (Nat × Word)) : Bool := l.all fun e => (imgRanges.all fun r => inRange r e) && jointRange e

end Sys2Proof.Machine
end

