-- ==== Sys2Proof/Machine/Loader.lean ====
section
/-! DEFINITION. The loader's checks on a Tablar image (R36 to R43, R47): the image's bytes, the ordered checks of R40, the content
rules, the fallback copy. -/
namespace Sys2Proof.Machine

/-- A check that an image fails: the bit of `CFG_CAUSE`, and what `CFG_FAIL_INFO` records. -/
structure ImgFail where
  cause : Fld
  sect : Nat := 0
  kind : Nat := 0
  index : Nat := 0
deriving DecidableEq, Repr

/-- The section of type `t`. -/
def sectionOf (t : Nat) (img : Image) : Option ImgSection := img.sections.find? fun x => x.typ == t

/-- The register values that the sections carry. -/
def sectionRegs (l : List ImgSection) : List (Nat × Word) := l.flatMap fun x => x.regs

/-- A field as a list of register values gives it. -/
def fieldIn (l : List (Nat × Word)) (f : Fld) : Nat :=
  match l.find? fun e => e.1 == f.addr with
  | some e => fieldOf f e.2
  | none => 0

/-- The directory entry of a section (R37). -/
def entryBytes (x : ImgSection) : List Byte := le 2 x.typ ++ le 2 x.sflags ++ le 4 x.offset ++ le 4 x.size ++ le 4 x.crc

/-- The sections' bytes from offset `pos` on, in the order of their offsets; gaps are 0. -/
def bodyBytes : Nat → List ImgSection → List Byte
  | _, [] => []
  | pos, x :: t => zeros (x.offset - pos) ++ x.bytes ++ bodyBytes (x.offset + x.bytes.length) t

/-- The sections in the order of their offsets. -/
def byOffset (l : List ImgSection) : List ImgSection := l.mergeSort fun a b => decide (a.offset ≤ b.offset)

/-- The bytes 0 to LENGTH − 65 of an image (R36), which the signature covers. -/
def signedBytes (img : Image) : List Byte :=
  let head := le 4 img.magic ++ le 2 img.format ++ le 2 img.flags ++ le 4 img.length ++ le 4 img.version ++ le 2 img.count ++
    le 2 img.authSlot ++ le 12 img.reserved ++ be 32 img.legalId
  let front := head ++ img.sections.flatMap entryBytes
  let b := front ++ bodyBytes front.length (byOffset img.sections)
  b ++ zeros (img.length - 64 - b.length)

/-- The image's SHA-256. -/
def imageDigest (img : Image) : Nat := Config.sha256 (signedBytes img)

/-- The bytes of the METROLOGY section. -/
def metroBytes (l : List ImgSection) : List Byte :=
  match l.find? fun x => x.typ == 3 with
  | some x => x.bytes
  | none => []

/-- The 524 288 bytes of the legal partition: what has been written to it, from its start, and zeros beyond (log 42). -/
def legalBody (s : State) : List Byte := s.ld.legalPart.take 524288 ++ zeros (524288 - s.ld.legalPart.length)

/-- The legal ID over the legal partition and a METROLOGY section (R41). -/
def legalIdOf (l : List ImgSection) (s : State) : Nat := Config.sha256 (legalBody s ++ metroBytes l)

/-- Step 1 of R40. -/
def headerOk (img : Image) : Bool :=
  img.magic = 0x54424C49 && img.format = 0x0100 && img.flags < 2 && img.reserved = 0 && img.length % 4 = 0 &&
    0x100 ≤ img.length && img.length ≤ 0x100000 && img.length ≤ img.memSize && 5 ≤ img.count && img.count ≤ 12 && img.authSlot ≤ 1

/-- The bytes that the memory of source `src` holds at most: 16 MiB of SPI NOR flash, 256 KiB of I²C EEPROM (R33). -/
def memCapacity (src : Nat) : Nat := if src = 2 then 0x40000 else 0x1000000

/-- The required section types (R37). -/
def requiredTypes : List Nat := [1, 2, 3, 0x0B, 0x0C]

/-- Two sections overlap. -/
def overlaps (a b : ImgSection) : Bool := decide (a.offset < b.offset + b.size) && decide (b.offset < a.offset + a.size)

/-- The first section type that repeats. -/
def repeated : List ImgSection → Option Nat
  | [] => none
  | x :: t => if t.any fun y => y.typ == x.typ then some x.typ else repeated t

/-- The first section that lies outside the image, over the directory or over a later section. -/
def misplaced (img : Image) : List ImgSection → Option Nat
  | [] => none
  | x :: t =>
    if x.offset < 0x40 + 16 * img.count ∨ img.length < x.offset + x.size + 64 ∨ t.any (overlaps x) then some x.typ else misplaced img t

/-- Step 2 of R40: the rules of R38. A directory of more entries than the image has sections reads gaps of 0 as entries of TYPE 0. -/
def layoutFail (img : Image) : Option Nat :=
  if img.count ≠ img.sections.length then some 0
  else match requiredTypes.find? fun t => (sectionOf t img).isNone with
  | some t => some t
  | none => match repeated img.sections with
    | some t => some t
    | none => match img.sections.find? fun x => decide (x.typ = 0) || decide (12 < x.typ) with
      | some x => some x.typ
      | none => match misplaced img img.sections with
        | some t => some t
        | none => (img.sections.find? fun x => x.sflags != 0).map (·.typ)

/-- A section's CRC holds (R37). -/
def crcOk (x : ImgSection) : Bool := x.bytes.length = x.size && crc32 x.bytes = x.crc

/-- The channels that are not idle. -/
def activeChans (l : List (Nat × Word)) : List Nat := (List.range 8).filter fun n => fieldIn l (F.CNV_CHAN_CFG_IDLE n) = 0

/-- R58. -/
def converterOk (l : List (Nat × Word)) : Bool :=
  (List.range 8).all fun n =>
    let pga := fieldIn l (F.CNV_CHAN_CFG_PGA n)
    let sens := fieldIn l (F.CNV_CHAN_CFG_SENSOR n)
    pga != 7 && (if n < 3 then pga = 0 && sens = 0 else sens != 0)

/-- Class (true minimum-phase) and passband edge of a ROM response (R86). -/
def responseKind (r : Nat) : Bool × Nat :=
  ((decide (5 ≤ r) && decide (r ≤ 8)) || decide (13 ≤ r), nth 0 [90, 90, 70, 35, 10, 90, 70, 35, 10, 90, 70, 35, 10, 70, 35, 10] r)

/-- R87. -/
def responsesOk (l : List (Nat × Word)) : Bool :=
  let act := activeChans l
  let rog (n : Nat) : Bool := fieldIn l (F.CNV_CHAN_CFG_SENSOR n) = 3
  let resp (n : Nat) : Nat := fieldIn l (F.FLT_CHAN_CFG_RESP n)
  if fieldIn l F.FLT_CTL_LEGACY = 1 then act.all fun n => !(rog n)
  else
    act.all (fun n => rog n == decide (9 ≤ resp n)) &&
      act.all fun n => act.all fun m => responseKind (resp n) == responseKind (resp m)

/-- R106. -/
def wiringOk (l : List (Nat × Word)) : Bool :=
  let w := fieldIn l F.PHE_CFG_WIRING
  let need := if w = 1 then [0, 3, 6] else if w = 2 then [0, 1, 2, 3, 4, 5, 6] else []
  w != 3 && fieldIn l F.PHE_CFG_TOTAL_MODE != 3 && need.all fun n => (activeChans l).contains n

/-- Switch points in strictly ascending order, the first at 00:00, rates 1 to 8 (R165). -/
def pointsOk (l : List (Nat × Nat × Nat)) : Bool :=
  let mins := l.map fun p => 60 * p.1 + p.2.1
  mins.head? == some 0 && decide (l.length ≤ 16) && (mins.zip mins.tail).all (fun p => decide (p.1 < p.2)) &&
    l.all fun p => decide (p.1 < 24) && decide (p.2.1 < 60) && decide (1 ≤ p.2.2) && decide (p.2.2 ≤ 8)

/-- No two elements of a list are equal under `f`. -/
def distinctBy {α β : Type} [DecidableEq β] (f : α → β) : List α → Bool
  | [] => true
  | x :: t => t.all (fun y => f y != f x) && distinctBy f t

/-- One end of the daylight-saving rule in its ranges (R165). -/
def dstEndOk (d : DstEnd) : Bool :=
  decide (1 ≤ d.month) && decide (d.month ≤ 12) && decide (1 ≤ d.week) && decide (d.week ≤ 5) && decide (d.weekday < 7) && decide (d.hour < 24)

/-- A month and a day of it. -/
def dateOk (m d : Nat) : Bool := decide (1 ≤ m) && decide (m ≤ 12) && decide (1 ≤ d) && decide (d ≤ 31)

/-- The tables of R165. -/
def tariffOk (t : Tariff) : Bool :=
  decide (1 ≤ t.seasons.length) && decide (t.seasons.length ≤ 4) && decide (1 ≤ t.weeks.length) && decide (t.weeks.length ≤ 12) &&
  decide (1 ≤ t.days.length) && decide (t.days.length ≤ 24) && decide (t.special.length ≤ 64) && t.days.all pointsOk &&
  t.seasons.all (fun x => decide (x.2.2 < t.weeks.length)) && distinctBy (fun x : Nat × Nat × Nat => (x.1, x.2.1)) t.seasons &&
  t.weeks.all (fun w => decide (w.length = 7) && w.all fun d => decide (d < t.days.length)) &&
  t.special.all (fun x => decide (x.profile < t.days.length) && dateOk x.month x.day) &&
  t.seasons.all (fun x => dateOk x.1 x.2.1) && t.dst.all (fun r => dstEndOk r.1 && dstEndOk r.2) &&
  distinctBy (fun x : SpecialDay => (x.fixed, (if x.fixed then x.year else 0), x.month, x.day)) t.special

/-- The register fields that R165 names: demand (R169), profiles, closing, offset, slew limit. -/
def tariffRegsOk (l : List (Nat × Word)) : Bool :=
  let d := fieldIn l F.BIL_DEM_CFG_LENGTH
  let sub := if fieldIn l F.BIL_DEM_CFG_SUB = 0 then 1 else 5
  let off := signed 8 (fieldIn l F.TAR_LOCAL_CFG_OFFSET)
  let lim := fieldIn l F.TAR_ADJ_CFG_LIMIT
  let day := fieldIn l F.BIL_CLOSE_CFG_DAY
  decide (d ≤ 4) && decide (nth 1 [5, 10, 15, 30, 60] d % sub = 0) && decide (fieldIn l F.BIL_PROF_CFG_P1_PERIOD ≤ 4) &&
  decide (fieldIn l F.BIL_PROF_CFG_P1_CHANS ≤ 6) && decide (fieldIn l F.BIL_PROF_CFG_P2_CHANS ≤ 6) &&
  (List.range 6).all (fun c => decide (fieldIn l (F.BIL_PROF_CH_P1_REG c) < 90) && decide (fieldIn l (F.BIL_PROF_CH_P1_UNIT c) < 3) &&
    decide (fieldIn l (F.BIL_PROF_CH_P2_REG c) < 90)) &&
  decide (1 ≤ day) && decide (day ≤ 28) && decide (fieldIn l F.BIL_CLOSE_CFG_HOUR < 24) &&
  decide (-48 ≤ off) && decide (off ≤ 56) && decide (1 ≤ lim) && decide (lim ≤ 900)

/-- A binding names a source (R227). -/
def bindingOk : Binding → Bool
  | .bill r => decide (r < 90)
  | .acc k => decide (k < 40)
  | .phe k => decide (k < 64)
  | .spe c o => decide (c < 8) && decide (o < 128)
  | .profile p => p = 1 || p = 2
  | .log l => decide (l < 3)
  | .device d => decide (d < 14)

/-- A source no role may write (R227). -/
def neverWritten : Binding → Bool
  | .bill _ | .acc _ | .log _ => true
  | _ => false

/-- The object table of R227. -/
def objectsOk (l : List ObjEntry) : Bool :=
  decide (l.length ≤ 512) && distinctBy (fun e : ObjEntry => e.obis) l && l.all fun e =>
    bindingOk e.bind && !(neverWritten e.bind && e.write != 0) &&
      !(e.legal && (noBit e.write 5 != 0 || noBit e.exec 5 != 0))

/-- KEYBLOBS (R251). -/
def keyblobsOk (x : ImgSection) : Bool :=
  let n := ofLe (x.bytes.take 4)
  decide (4 ≤ x.bytes.length) && decide (n ≤ 1024) && decide (x.size = 4 + 96 * n)

/-- R304: the tones of an enabled band. -/
def tonesOk (l : List (Nat × Word)) : Bool :=
  (fieldIn l F.LMD_CFG_BAND_A = 0 || decide (16 ≤ popCount (fieldIn l F.LMD_TONE_MASK_MASK_A) 25)) &&
    (fieldIn l F.LMD_CFG_BAND_C = 0 || decide (6 ≤ popCount (fieldIn l F.LMD_TX_CFG_MASK_C) 8))

/-- The panel's column areas overlap (R343). -/
def areasOverlap (l : List (Nat × Word)) : Bool :=
  (List.range 4).any fun a => (List.range 4).any fun b =>
    decide (a < b) && fieldIn l (F.PNL_AREA_EN a) = 1 && fieldIn l (F.PNL_AREA_EN b) = 1 &&
      decide (fieldIn l (F.PNL_AREA_COL0 a) ≤ fieldIn l (F.PNL_AREA_COL1 b)) &&
      decide (fieldIn l (F.PNL_AREA_COL0 b) ≤ fieldIn l (F.PNL_AREA_COL1 a))

/-- R343. -/
def panelOk (l : List (Nat × Word)) : Bool :=
  !(fieldIn l F.PMU_NAP_CFG_GLOW = 1 && fieldIn l F.PNL_CFG_PANEL != 0) && !(areasOverlap l)

/-- R272. -/
def responsesAllowed (l : List (Nat × Word)) : Bool :=
  (List.range 64).all fun c => (decide (48 ≤ c) && decide (c ≤ 60)) ||
    (fieldIn l (F.TAMP_FC_RESP_OPEN_SUPPLY c) = 0 && fieldIn l (F.TAMP_FC_RESP_TOKEN_CLEAR c) = 0)

/-- The values of the PREPAY section in their ranges (R185, R186, R188, R197). -/
def prepayOk (p : Prepay) : Bool :=
  decide (p.ratePrice.length ≤ 8) && decide (p.blocks.length ≤ 4) && decide (p.windows.length ≤ 8) &&
  p.windows.all (fun w => decide (w.days < 128) && decide (w.start < 1440) && decide (w.stop < 1440)) &&
  decide (1 ≤ p.mplTime) && decide (p.mplTime ≤ 120) && decide (10 ≤ p.mplHold) && decide (p.mplHold ≤ 3600) &&
  decide (0 ≤ p.reconMin) && decide (p.reconMin ≤ p.creditMax)

/-- The plans of the FABRIC section (R338), whose tones obey R304. -/
def plansOk (t : FabTables) : Bool :=
  decide (t.plans.length ≤ 4) && t.plans.all fun p =>
    (!(bit p.bands 0) || decide (16 ≤ popCount p.tones 25)) && (!(bit p.bands 1) || decide (6 ≤ popCount (p.txCfg / 2 ^ 16) 8))

/-- The codes of the PINS section (R373, R374): a pad, a function and an instance that exist, the owner that the function has (E1, E2 or the
host for GPIO and timers, fixed for the others), a timer that exists. -/
def pinsOk (t : ImgTables) : Bool :=
  t.pins.all (fun c => decide (c.pad < 80) && decide (c.func ≤ 16) && decide (c.inst < 8) && decide (c.settings < 16) &&
    (if c.func = 1 ∨ c.func = 15 ∨ c.func = 16 then decide (1 ≤ c.owner) && decide (c.owner ≤ 3) else decide (c.owner = 0))) &&
  t.tims.all fun e => decide (e.1 < 8) && decide (1 ≤ e.2) && decide (e.2 ≤ 3)

/-- The save lists of the POWER section (R285): at most 512 registers, each of the list's own domain, for the domains that NAP powers down. -/
def saveListsOk (l : List (Nat × List Nat)) : Bool :=
  distinctBy (fun e : Nat × List Nat => e.1) l && l.all fun e =>
    [3, 4, 5, 6, 10].contains e.1 && decide (e.2.length ≤ 512) &&
      e.2.all fun a => blockDom (blockOf a) == e.1 && (regAt a).isSome

/-- The values of the OBJECTS section beside its objects: at most 32 objects in the readout list (R366), a flag ID of three letters, a pair of
passwords for each of the sixteen banks (R222), six roles. -/
def objTablesOk (t : ObjTables) : Bool :=
  objectsOk t.objects && decide (t.readout.length ≤ 32) && decide (t.flagId.length = 3 ∨ t.flagId = []) &&
    decide (t.passwords.length = 16 ∨ t.passwords = []) &&
    t.objects.all (fun e => decide (e.read < 64) && decide (e.write < 64) && decide (e.exec < 64))

/-- The content rules of one section (step 7 of R40). -/
def sectionContentOk (img : Image) (x : ImgSection) : Bool :=
  let l := sectionRegs img.sections
  x.whole && rangesOk x.regs &&
    (if x.typ = 3 then converterOk l && responsesOk l && wiringOk l
     else if x.typ = 4 then (match img.tables.tariff with | some t => tariffOk t | none => false) && tariffRegsOk l
     else if x.typ = 5 then (match img.tables.prepay with | some p => prepayOk p | none => false)
     else if x.typ = 1 then pinsOk img.tables
     else if x.typ = 7 then objTablesOk img.tables.obj
     else if x.typ = 0x0C then saveListsOk img.tables.saveLists
     else if x.typ = 8 then keyblobsOk x
     else if x.typ = 9 then tonesOk l && (match img.tables.fabric with | some t => plansOk t | none => false)
     else if x.typ = 0x0A then panelOk l
     else if x.typ = 0x0B then responsesAllowed l
     else true)

/-- Step 8 of R40: the first claim in conflict (R43). -/
def claimFail (img : Image) : Option ImgFail :=
  let l := sectionRegs img.sections
  match padConflict [] img.tables.pins with
  | some p => some { cause := F.CFG_CAUSE_CLAIM_CONFLICT, sect := 1, kind := 1, index := p }
  | none => match timerConflict [] img.tables.tims with
    | some t => some { cause := F.CFG_CAUSE_CLAIM_CONFLICT, sect := 1, kind := 2, index := t }
    | none =>
      if 512 < fieldIn l (F.SPE_PART_SIZE 0) + fieldIn l (F.SPE_PART_SIZE 1) + fieldIn l (F.SPE_PART_SIZE 2) then
        some { cause := F.CFG_CAUSE_CLAIM_CONFLICT, sect := 0x0B, kind := 3 }
      else none

/-- The claims that the fallback copy keeps (R47). -/
def keptClaims (l : List PinClaim) : List PinClaim :=
  l.filter fun c => c.func = 9 || c.func = 14 || (decide (2 ≤ c.func) && decide (c.func ≤ 8)) || c.func = 12 || c.func = 13 ||
    (c.owner = 3 && (c.func = 1 || c.func = 15 || c.func = 16))

/-- The host settings kept (R47): `HIF_CFG` and `HIF_UART_CFG_u`. -/
def keptHif (l : List (Nat × Word)) : List (Nat × Word) :=
  l.filter fun e => e.1 = R.HIF_CFG || (decide (R.HIF_UART_CFG 0 ≤ e.1) && decide (e.1 ≤ R.HIF_UART_CFG 3))

/-- The fallback copy that an image yields (R47). -/
def deriveFallback (img : Image) : Fallback :=
  let t := img.tables
  { version := img.version, legalId := img.legalId
    sections := (img.sections.filter fun x => [3, 4, 5, 0x0A, 0x0B].contains x.typ).mergeSort fun a b => decide (a.typ ≤ b.typ)
    pinsBytes := Config.reducedPins (match sectionOf 1 img with | some x => x.bytes | none => [])
    hifRegs := keptHif (sectionRegs img.sections)
    tables := { pins := keptClaims t.pins, tims := t.tims.filter (fun e => e.2 == 3), metro := t.metro, tariff := t.tariff, prepay := t.prepay, keys := t.keys } }

/-- The largest ZLEN that fits (R47). -/
def maxZlen : Nat := 20428

/-- The first check of R40 that an image fails. -/
def checkImage (img : Image) (s : State) : Option ImgFail :=
  let key := nth none s.well.otp img.authSlot
  if !(headerOk img) || decide (memCapacity s.ld.source < img.length) then some { cause := F.CFG_CAUSE_MAGIC_FAIL }
  else match layoutFail img with
    | some t => some { cause := F.CFG_CAUSE_SECTION_FAIL, sect := t }
    | none => match img.sections.find? fun x => !(crcOk x) with
      | some x => some { cause := F.CFG_CAUSE_CRC_FAIL, sect := x.typ }
      | none =>
        if key.isNone then some { cause := F.CFG_CAUSE_NO_AUTHORITY }
        else if !(Config.ecdsaOk (key.getD 0) (imageDigest img) img.sig) then some { cause := F.CFG_CAUSE_SIG_FAIL }
        else if img.version < (keepRec s).floor then some { cause := F.CFG_CAUSE_ROLLBACK }
        else if legalIdOf img.sections s ≠ img.legalId then some { cause := F.CFG_CAUSE_LEGAL_ID_FAIL }
        else match img.sections.find? fun x => !(sectionContentOk img x) with
          | some x => some { cause := F.CFG_CAUSE_SECTION_FAIL, sect := x.typ }
          | none => match claimFail img with
            | some f => some f
            | none =>
              if maxZlen < Config.deflateLen (fallbackPayload (deriveFallback img)) then some { cause := F.CFG_CAUSE_FALLBACK_SIZE }
              else none

/-- Show a failed check (R40). -/
def showFail (f : ImgFail) (s : State) : State :=
  raise f.cause (put F.CFG_FAIL_INFO_SECTION f.sect (put F.CFG_FAIL_INFO_KIND f.kind (put F.CFG_FAIL_INFO_INDEX f.index s)))

end Sys2Proof.Machine
end

