-- ==== Sys2Proof/Machine/Fabric.lean ====
section
/-! DEFINITION. The fabric's link, medium access, routing and addresses (R322 to R332). A received frame is one command: its frame,
and what E9 reports with it. -/
namespace Sys2Proof.Machine

/-- The link keys of pair `k` for the usages `enc` and `mac` (R326): the encryption and the MAC child, both of which must be of
KTYPE 1. -/
def linkKeys (k enc mac : Nat) (s : State) : Option (Nat × Nat) × State :=
  match (fabTab s).pairs[k]? with
  | none => (none, s)
  | some e =>
    let a := loadNamed (some e.1) (4, enc) s
    match a.1 with
    | .ok x =>
      let b := loadNamed (some e.2) (4, mac) a.2
      match b.1 with
      | .ok y => (some (x.key, y.key), b.2)
      | _ => (none, b.2)
    | _ => (none, a.2)

/-- The node `n` is this one. -/
def isMe (n : Node) (s : State) : Bool :=
  n == .eui myEui || (flag F.FAB_ADDR_VALID s && n == .short (get F.FAB_ADDR_SHORT s))

/-- E10 takes the rescue configuration (R338): band A alone with RESCUE_MASK; frames go in robust mode. -/
def loadRescue (s : State) : State :=
  put F.LMD_CFG_BAND_A 1 (put F.LMD_CFG_BAND_C 0 (put F.LMD_TONE_MASK_MASK_A (fabTab s).rescueMask s))

/-- E10 enters rescue listen (R339, R341). -/
def enterRescue (keep : Bool) (s : State) : State :=
  raise F.FAB_CAUSE_LOST (loadRescue (put F.FAB_STATUS_MODE 6 (put F.FAB_STATUS_COORD 0
    (updFab (fun f => { f with keepAddr := keep, claim := none, coord := none }) s))))

/-- One occurrence of fault counter 46; when it becomes lasting the tables are emptied and rescue listen is entered (R341). -/
def fabFault (s : State) : State :=
  let was := isLasting 46 s
  let s := occurrence 46 0 0 s
  if isLasting 46 s && !was then
    enterRescue true (showFab (updFab (fun f => { f with nbrs := [], routes := [] }) s))
  else s

/-- A pair of RUN and FCNT is newer than the one held for a neighbour (R326). -/
def newerPair (f : FabFrame) (s : State) : Bool :=
  match nbrOf f.lsrc s with
  | none => true
  | some b => decide (b.run < f.run) || (f.run == b.run && decide (b.fcnt < f.fcnt))

/-- The neighbour table after a valid frame (R326, R330): the entry renewed, the least recently heard of 64 gives way. -/
def hearNeighbour (i : RxInfo) (f : FabFrame) (s : State) : State :=
  let b : Nbr := match nbrOf f.lsrc s with
    | none => Nbr.mk f.lsrc f.run f.fcnt (8 * i.snr) s.sup.mono false
    | some b => Nbr.mk f.lsrc f.run f.fcnt (b.snr8 + (i.snr - b.snr8 / 8)) s.sup.mono false
  let l := s.fab.nbrs.filter fun x => !(sameNode x.name f.lsrc s)
  let l := if l.length < 64 then l else l.tail
  showFab (updFab (fun x => { x with nbrs := l ++ [b], heardAt := s.sup.mono }) s)

/-- The frame comes from the band C peer (R329). -/
def fromPeer (f : FabFrame) (s : State) : Bool :=
  match (fabTab s).peer with
  | none => false
  | some e => sameNode f.lsrc (.eui e) s

/-- The tones enabled in a band (R304). -/
def toneMask (c : Bool) (s : State) : Nat := if c then get F.LMD_TX_CFG_MASK_C s else get F.LMD_TONE_MASK_MASK_A s

/-- E9 can receive the frame now (R311); nodes whose masks differ do not hear one another (R304). -/
def canReceive (i : RxInfo) (s : State) : Bool :=
  e9Up s && s.lmd.tx.isNone && !(soundingRuns s) && (s.lmd.rx == none || s.lmd.rx == some i.bandC) && bandOn i.bandC s &&
    i.mask == toneMask i.bandC s

/-- E10's link layer takes a frame whose FCS and MIC hold or not (R326, R332): NWK_ID, the keys, MIC and replay, then the neighbour. The
answer says whether the frame is passed on. -/
def takeFrame (fcsOk : Bool) (micOk : Nat → Bool) (i : RxInfo) (f : FabFrame) (s : State) : Bool × State :=
  if !(e10Up s) || !fcsOk || f.nwk != get F.FAB_CFG_NWK_ID s then (false, s)
  else
    let k := linkKeys f.key 2 8 s
    match k.1 with
    | none => (false, k.2)
    | some e =>
      if !(micOk e.2) || !(newerPair f k.2) then (false, fabFault (raise F.FAB_CAUSE_MIC_FAIL (countFrame 3 k.2)))
      else
        let s := hearNeighbour i f k.2
        if f.left = 0 ∨ (i.bandC ∧ !(fromPeer f s)) then (false, countFrame 3 s)
        else (true, s)

/-- A reception (R311): E9 reports the frame, and E10's link layer takes it. -/
def accept (i : RxInfo) (f : FabFrame) (s : State) : Bool × State :=
  if !(canReceive i s) then (false, s)
  else takeFrame (f.fcs == frameFcs f) (fun mac => f.mic == frameMic mac f) i f (rxReport i s)

/-- A received frame whose link layer is in order has the effect `eff`. -/
def onFrame (i : RxInfo) (f : FabFrame) (eff : State → State) (s : State) : Out :=
  let a := accept i f s
  .next (if a.1 then eff a.2 else a.2)

/-- E10 gives E9 a frame, if the transmit keys load (R326); otherwise nothing is sent. -/
def sendFrame (t : TxFrame) (s : State) : State :=
  let k := linkKeys (get F.FAB_STATUS_KEY_TX s) 1 4 s
  match k.1 with
  | none => k.2
  | some e =>
    match makeFrame t e k.2 with
    | none => k.2
    | some x => handToE9 x.1 x.2

/-- E9 sends a frame at once, in the ack gap or at the start of a superframe (R327, R328, R340). -/
def sendNow (bandC : Bool) (f : FabFrame) (s : State) : State := sendFrame { bandC := bandC, frame := f } s

/-- Acknowledge a frame that asks for it and names this node as next hop (R328). -/
def ackFrame (i : RxInfo) (f : FabFrame) (s : State) : State :=
  if f.ackReq && (f.ldst.map (fun n => isMe n s)).getD false then
    sendNow i.bandC { dest := .node f.lsrc, ldst := some f.lsrc, osrc := myName s, left := 1, body := .ack } s
  else s

/-- This node is the next hop of a unicast frame, or the frame goes to several neighbours. -/
def forMe (f : FabFrame) (s : State) : Bool :=
  match f.ldst with
  | none => true
  | some n => isMe n s

/-- The flood has not been seen within 10 s; it is remembered (floods are relayed once, log 32). At most 256 are remembered. -/
def firstSeen (n : Node) (k : Nat) (s : State) : Bool × State :=
  let l := s.fab.seenReq.filter fun e => decide (s.sup.mono < e.2.2 + 10240)
  if l.any fun e => e.1 == n && e.2.1 == k then (false, s)
  else (true, updFab (fun f => { f with seenReq := (if l.length < 256 then l else l.tail) ++ [(n, k, s.sup.mono)] }) s)

/-- Relay a frame to every neighbour with one hop less. -/
def relay (f : FabFrame) (s : State) : State :=
  if f.left ≤ 1 then s
  else countFrame 1 (queueFrame false { f with ldst := none, ackReq := false, left := f.left - 1, taken := f.taken + 1 } s)

/-- Flood a route request for `a` (R332); the answer is its number. -/
def requestRoute (a : Nat) (s : State) : Nat × State :=
  let id := s.fab.reqId
  (id, originate { dest := .broadcast, left := 15, body := .routeReq id a }
    (updFab (fun f => { f with reqId := (id + 1) % 2 ^ 16 }) s))

/-- Pass a unicast frame on towards its destination (R325, R332); without an entry a route request is flooded and it waits. -/
def forward (f : FabFrame) (s : State) : State :=
  match f.dest with
  | .node n =>
    if f.left ≤ 1 then countFrame 3 s
    else
      let g := { f with left := f.left - 1, taken := f.taken + 1, ackReq := true }
      match nextHop n s, n with
      | some h, _ => countFrame 1 (queueFrame false { g with ldst := some h } (touchRoute n s))
      | none, .short a =>
        let r := requestRoute a s
        updFab (fun x => { x with heldFrames := x.heldFrames ++ [(g, r.1, s.sup.mono)] }) r.2
      | none, .eui _ => raise F.FAB_CAUSE_NO_ROUTE (countFrame 3 s)
  | _ => s

/-- The cached entry to an originator (R332), with the transmitter as next hop. Its cost and sequence number are not in a data frame
(log 32): free values. -/
def learnRoute (f : FabFrame) (s : State) : State :=
  match f.osrc with
  | .eui _ => s
  | .short a =>
    if isMe f.osrc s then s
    else
      let keep := match routeTo a s with
        | some r => r.head && usable r.next s
        | none => false
      if keep then s
      else
        let x := fresh s
        addRoute (Route.mk a f.lsrc (1 + x.1 % 255) (satNat 15 (f.taken + 1)) (x.1 / 256 % 2 ^ 16) false false 0) x.2

/-- Whether a message kind asks for an answer (R334). -/
def isRequest (mtype : Nat) : Bool := mtype = 1 || mtype = 3 || mtype = 5

/-- A message that cannot be handed to E2 (R334): a request is answered BUSY_RETRY, any other is dropped. -/
def refuseMessage (m : Message) (s : State) : State :=
  if isRequest m.mtype then respond (m.mtype + 1) m.msgId m.src (le 1 4) s else raise F.FAB_CAUSE_MSG_DROP s

/-- E10 holds a complete message for E2, at most 4 of them, and wakes it (R334). -/
def holdForE2 (bad : Nat) (m : Message) (s : State) : State :=
  if 4 ≤ s.fab.forE2.length then refuseMessage m s
  else wakeBy 5 bad (updFab (fun f => { f with forE2 := f.forE2 ++ [(m, s.sup.mono)] }) s)

/-- A complete message's bytes (R333); kinds 9 and 10 travel in band C alone (R329). -/
def takeMessage (i : RxInfo) (src : Node) (dest : Dest) (b : List Byte) (s : State) : State :=
  let mt := field b 0 1
  let n := field b 4 2
  if mt = 0 ∨ 10 < mt ∨ i.bandC ≠ (mt = 9 || mt = 10) ∨ b.length < 6 + n ∨ 4096 < b.length then raise F.FAB_CAUSE_MSG_DROP s
  else holdForE2 i.bad { mtype := mt, msgId := field b 2 2, src := src, dest := dest, body := (b.drop 6).take n } s

/-- The reassembly of a segment (R333). -/
def addSegment (i : RxInfo) (f : FabFrame) (id idx n : Nat) (b : List Byte) (s : State) : State :=
  let same (r : Reasm) : Bool := r.src == f.osrc && r.msgId == id
  let old := s.fab.reasm.find? same
  if old.isNone && decide (4 ≤ s.fab.reasm.length) then raise F.FAB_CAUSE_MSG_DROP s
  else
    let r := old.getD (Reasm.mk f.osrc id n [] s.sup.mono f.dest)
    let r := { r with parts := (r.parts.filter fun p => p.1 != idx) ++ [(idx, b)] }
    let rest := s.fab.reasm.filter fun x => !(same x)
    let all := (List.range r.count).map fun k => (r.parts.find? fun p => p.1 == k).map (·.2)
    if all.all (·.isSome) then
      takeMessage i f.osrc f.dest (all.flatMap (·.getD [])) (updFab (fun x => { x with reasm := rest }) s)
    else updFab (fun x => { x with reasm := rest ++ [r] }) s

/-- A data frame reaches this node (R333). -/
def deliver (i : RxInfo) (f : FabFrame) (b : List Byte) (s : State) : State :=
  let s := countFrame 2 s
  match f.segh with
  | none => takeMessage i f.osrc f.dest b s
  | some e => addSegment i f e.1 e.2.1 e.2.2 b s

/-- The number a flooded data frame is remembered by: MSGID and segment. -/
def floodKey (f : FabFrame) (b : List Byte) : Nat :=
  2 ^ 32 + (match f.segh with | some e => e.1 + e.2.1 * 2 ^ 16 | none => field b 2 2)

/-- DATA (R325, R332, R333). -/
def execDataRx (i : RxInfo) (f : FabFrame) (s : State) : Out :=
  onFrame i f (fun s =>
    match f.body with
    | .data b =>
      if !(forMe f s) || get F.FAB_STATUS_MODE s = 6 then s
      else
        let s := learnRoute f (ackFrame i f s)
        match f.dest with
        | .node n => if isMe n s then deliver i f b s else if i.bandC then countFrame 3 s else forward f s
        | d =>
          let x := firstSeen f.osrc (floodKey f b) s
          if !x.1 || isMe f.osrc s then x.2
          else
            let s := relay f x.2
            if d == .broadcast || isHead s then deliver i f b s else s
    | _ => s) s

/-- ACK (R328). -/
def execAckRx (i : RxInfo) (f : FabFrame) (s : State) : Out :=
  onFrame i f (fun s =>
    match f.body, s.fab.await with
    | .ack, some t => if forMe f s && (t.frame.ldst.map fun n => sameNode n f.lsrc s) == some true then updFab (fun x => { x with await := none }) s else s
    | _, _ => s) s

/-- A neighbour's link has failed (R328): it is marked and its routes are withdrawn. -/
def failLink (n : Node) (s : State) : State :=
  dropRoutes (fun r => sameNode r.next n s)
    (updFab (fun f => { f with nbrs := f.nbrs.map fun b => if sameNode b.name n s then { b with failed := true } else b }) s)

/-- The frame of a failed link is routed anew, once (R328). -/
def reroute (t : TxFrame) (s : State) : State :=
  match t.frame.dest with
  | .node n =>
    if t.rerouted then countFrame 3 s
    else match nextHop n s, n with
      | some h, _ =>
        updFab (fun f => { f with txq := f.txq ++ [{ t with frame := { t.frame with ldst := some h }, tries := 0, rerouted := true }] }) s
      | none, .short a =>
        let r := requestRoute a s
        updFab (fun x => { x with heldFrames := x.heldFrames ++ [(t.frame, r.1, s.sup.mono)] }) r.2
      | none, .eui _ => raise F.FAB_CAUSE_NO_ROUTE (countFrame 3 s)
  | _ => s

/-- ACK_TIMEOUT (R328): no preamble within 2 ms of the frame's end; the frame is sent again, or after the last attempt its link has
failed. -/
def execAckTimeout (s : State) : Out :=
  match s.fab.await with
  | none => .next s
  | some t => onlyIf (s.lmd.rx.isNone && decide (2 * 1024 ≤ 1000 * (s.sup.mono - s.fab.awaitAt))) (fun s =>
    let s := updFab (fun f => { f with await := none }) s
    if t.tries < get F.FAB_CFG_RETRY s then updFab (fun f => { f with txq := { t with tries := t.tries + 1 } :: f.txq }) s
      else
        let s := match t.frame.ldst with
          | some n => failLink n s
          | none => s
        reroute t s) s

/-- The own zero crossings since a frame's first preamble sample (R311, R314), which lies the frame's symbols of 576 µs before its end. -/
def crossingsSince (i : RxInfo) (s : State) : Nat :=
  let start : Int := (nowUs s : Int) - 576 * frameSymbols i.mod i.len (tones i.bandC s)
  let period : Int := 10 ^ 12 / max 1 s.metro.fGrid
  if s.lmd.zcAt < start then 0 else ((s.lmd.zcAt - start) / max 1 period + 1).toNat

/-- Number the own crossings by a numbering heard (R337): the frame names the sender's crossing before its first preamble sample. -/
def takeNum (i : RxInfo) (n : Numbering) (s : State) : State :=
  if !i.zcv || !(flag F.LMD_STATUS_ZC_VALID s) then s
  else
    let d : Int := (i.zcp : Int) - i.own
    let mine : Int := (n.fcn : Int) + (if 128 < d then 1 else if d < -128 then -1 else 0)
    let cycle : Int := (get F.LMD_ZC_CYCLE_CYCLE s : Int) - crossingsSince i s
    showFcn (updFab (fun f => { f with num := some (wrapTo 32 (mine - cycle), n.rank, n.eui) }) s)

/-- A numbering heard is taken when this node has none, or when its originator ranks better (R337). -/
def adoptNum (i : RxInfo) (num : Option Numbering) (s : State) : State :=
  match num, s.fab.num with
  | none, _ => s
  | some n, none => takeNum i n s
  | some n, some o => if better (n.rank, n.eui) o.2 then takeNum i n s else s

/-- A node without a numbering originates one, as its own count (R337). -/
def originateNum (s : State) : State :=
  if s.fab.num.isSome then s else showFcn (updFab (fun f => { f with num := some (0, myRank s, myEui) }) s)

/-- One line of an advertisement from `n` over a link of cost `c` (R331). -/
def advertRoute (n : Node) (c : Nat) (h : Nat × Nat × Nat × Nat) (s : State) : State :=
  let r : Route := { dest := h.1, next := n, cost := satNat 255 (h.2.2.1 + c), hops := h.2.2.2 + 1, seq := h.2.1, head := true }
  let take := match routeTo h.1 s with
    | none => true
    | some o => !o.head || (o.seq != r.seq && decide ((r.seq + 2 ^ 16 - o.seq) % 2 ^ 16 < 2 ^ 15)) ||
        (o.seq == r.seq && decide (r.cost < o.cost))
  if 15 < r.hops ∨ isMe (.short h.1) s ∨ !take then s else addRoute r s

/-- ROUTE_ADVERTISEMENT (R331). -/
def execRouteAdvertisement (i : RxInfo) (f : FabFrame) (s : State) : Out :=
  onFrame i f (fun s =>
    match f.body with
    | .advert heads num =>
      if get F.FAB_STATUS_MODE s = 6 then s
      else
        let s := adoptNum i num s
        match (nbrOf f.lsrc s).bind (fun b => linkTo b s) with
        | none => s
        | some l => (heads.take 8).foldl (fun s h => advertRoute f.lsrc l.2 h s) s
    | _ => s) s

/-- The head routes an advertisement lists (R331): a head does not list a route to the only neighbour that could hear it (log 32). -/
def advertised (s : State) : List (Nat × Nat × Nat × Nat) :=
  let others (r : Route) : Bool := s.fab.nbrs.any fun b => !(sameNode b.name r.next s) && (linkTo b s).isSome
  (s.fab.routes.filter fun r => r.head && others r).map fun r => (r.dest, r.seq, r.cost, r.hops)

/-- ADVERTISEMENT_TIMER (R331). -/
def execAdvertisementTimer (s : State) : Out :=
  onlyIf (e10Up s && get F.FAB_STATUS_MODE s != 6 && decide (s.fab.advAt + 1024 * get F.FAB_TIMING_ADV s ≤ s.sup.mono)) (fun s =>
    let s := updFab (fun f => { f with advAt := s.sup.mono, headSeq := if isHead s then (f.headSeq + 1) % 2 ^ 16 else f.headSeq }) s
    let own := if isHead s && flag F.FAB_ADDR_VALID s then [(get F.FAB_ADDR_SHORT s, s.fab.headSeq, 0, 0)] else []
    originate { dest := .broadcast, left := 1, body := .advert ((own ++ advertised s).take 8) (numberingNow s) } s) s

/-- ROUTE_EXPIRY (R331). -/
def execRouteExpiry (s : State) : Out :=
  onlyIf (e10Up s) (fun s =>
    dropRoutes (fun r => r.head && decide (r.at' + 3 * 1024 * get F.FAB_TIMING_ADV s ≤ s.sup.mono)) s) s

/-- ROUTE_REQUEST (R332): answered by the destination or a node with an entry, else flooded. -/
def execRouteRequest (i : RxInfo) (f : FabFrame) (s : State) : Out :=
  onFrame i f (fun s =>
    match f.body with
    | .routeReq id dest =>
      let x := firstSeen f.osrc id s
      if !x.1 || isMe f.osrc s || get F.FAB_STATUS_MODE s = 6 then x.2
      else
        let s := learnRoute f x.2
        let reply (seq cost hops : Nat) (s : State) : State :=
          originate { dest := .node f.osrc, ackReq := true, ldst := some f.lsrc, left := 15, body := .routeRep dest seq cost hops } s
        if isMe (.short dest) s then reply s.fab.headSeq 0 0 s
        else match routeTo dest s with
          | some r => if usable r.next s then reply r.seq r.cost r.hops s else relay f s
          | none => relay f s
    | _ => s) s

/-- What waited for a route is sent (R332). -/
def releaseWaiting (s : State) : State :=
  let ready (d : Dest) : Bool := match d with
    | .node n => (nextHop n s).isSome
    | _ => true
  let w := s.fab.waiting
  let h := s.fab.heldFrames
  let s := updFab (fun f => { f with
    waiting := w.filter fun e => !(ready e.1.dest), heldFrames := h.filter fun e => !(ready e.1.dest) }) s
  let s := (w.filter fun e => ready e.1.dest).foldl (fun s e => sendMessage e.1 s) s
  (h.filter fun e => ready e.1.dest).foldl (fun s e =>
    match e.1.dest with
    | .node n => countFrame 1 (queueFrame false { e.1 with ldst := nextHop n s } s)
    | _ => s) s

/-- ROUTE_REPLY (R332): the route is taken, the reply passed on along the reverse path. -/
def execRouteReply (i : RxInfo) (f : FabFrame) (s : State) : Out :=
  onFrame i f (fun s =>
    match f.body with
    | .routeRep dest seq cost hops =>
      if !(forMe f s) || get F.FAB_STATUS_MODE s = 6 then s
      else
        let s := ackFrame i f s
        let c := ((nbrOf f.lsrc s).bind (fun b => linkTo b s)).getD (0, 8)
        let cost := satNat 255 (cost + c.2)
        let s := if hops + 1 ≤ 15 then
            addRoute { dest := dest, next := f.lsrc, cost := cost, hops := hops + 1, seq := seq } s
          else s
        let s := releaseWaiting s
        match f.dest with
        | .node n => if isMe n s then s else forward { f with body := .routeRep dest seq cost (hops + 1) } s
        | _ => s
    | _ => s) s

/-- ROUTE_TIMEOUT (R332): 10 s without a reply. -/
def execRouteTimeout (s : State) : Out :=
  let late (t : Nat) : Bool := decide (t + 10240 ≤ s.sup.mono)
  onlyIf (s.fab.waiting.any (fun e => late e.2.2) || s.fab.heldFrames.any (fun e => late e.2.2)) (fun s =>
    let n := (s.fab.heldFrames.filter fun e => late e.2.2).length
    let s := updFab (fun f => { f with
      waiting := f.waiting.filter fun e => !(late e.2.2), heldFrames := f.heldFrames.filter fun e => !(late e.2.2) }) s
    raise F.FAB_CAUSE_NO_ROUTE (addSat (F.FAB_COUNT_COUNT 3) n s)) s

/-- NEIGHBOUR_LOST (R330): every neighbour silent for LOST seconds. -/
def execNeighbourLost (s : State) : Out :=
  let late (b : Nbr) : Bool := decide (b.heard + 1024 * get F.FAB_TIMING_LOST s ≤ s.sup.mono)
  onlyIf (e10Up s) (fun s =>
    (s.fab.nbrs.filter late).foldl (fun s b =>
      fabFault (raise F.FAB_CAUSE_NBR_LOST (dropRoutes (fun r => r.next == b.name)
        (updFab (fun f => { f with nbrs := f.nbrs.filter fun x => x.name != b.name }) s)))) s) s

/-- Messages held in Pass are sent once it has been left (R341). -/
def flushHeld (s : State) : State :=
  if inPass s then s
  else s.fab.passHeld.foldl (fun s m => if 9 ≤ m.mtype then queuePeer m s else sendMessage m s)
    (updFab (fun f => { f with passHeld := [] }) s)

/-- The priority whose window a slot lies in (R327). -/
def slotPrio (slot : Nat) : Nat := if slot < 4 then 0 else if slot < 12 then 1 else 2

/-- µs since the trigger of the superframe, the crossing whose FCN is a multiple of the cycles per second (R340). -/
def superUs (s : State) : Int :=
  let hz := cyclesPerSecond s
  ((get F.FAB_FCN_FCN s % hz * (10 ^ 6 / hz) : Nat) : Int) + ((nowUs s : Int) - s.lmd.zcAt)

/-- A frame of `us` µs may start now (R340): in a coordinated mode between 150 ms and 995 ms of the superframe, ending before its end. -/
def maySend (us : Nat) (s : State) : Bool :=
  let m := get F.FAB_STATUS_MODE s
  decide (m < 3) || decide (5 < m) || !(flag F.FAB_STATUS_FCN_VALID s) ||
    (decide (150000 ≤ superUs s) && decide (superUs s < 995000) && decide (superUs s + us < 1000000))

/-- How long a queued frame will be on the line. -/
def airTime (t : TxFrame) (s : State) : Nat :=
  let f := t.frame
  576 * frameSymbols (modFor f.ldst s) (frameBytes { f with lsrc := myName s, cipher := plainBytes f.body }) (tones t.bandC s)

/-- Give E9 a queued frame. -/
def sendQueued (t : TxFrame) (s : State) : State := sendFrame t (updFab (fun f => { f with txq := f.txq.erase t }) s)

/-- CONTENTION_SLOT (R327): the slot this node drew arrives, with the medium idle or not; the oldest frame of the slot's priority is
sent. Nothing is sent while the keys cannot be loaded (R326), while an ack is awaited, or in rescue listen. A band C frame goes to
E9, which has its own access (R310). -/
def execContentionSlot (slot : Nat) (idle : Bool) (s : State) : Out :=
  onlyIf (e9Up s && e10Up s && get F.FAB_STATUS_MODE s != 6 && s.fab.await.isNone && decide (slot < 28)) (fun s =>
    let s := flushHeld s
    let k := linkKeys (get F.FAB_STATUS_KEY_TX s) 1 4 s
    if k.1.isNone then k.2
    else
      let s := match k.2.fab.txq.find? (fun t => t.bandC) with
        | some t => if k.2.lmd.lbt.isNone then sendQueued t k.2 else k.2
        | none => k.2
      match s.fab.txq.find? (fun t => !t.bandC && t.frame.prio == slotPrio slot) with
      | some t => if idle && s.lmd.tx.isNone && s.lmd.rx.isNone && maySend (airTime t s) s then sendQueued t s else s
      | none => s) s

/-- REASSEMBLY_TIMEOUT (R333): 30 s. -/
def execReassemblyTimeout (s : State) : Out :=
  let late (r : Reasm) : Bool := decide (r.since + 30720 ≤ s.sup.mono)
  onlyIf (s.fab.reasm.any late) (fun s =>
    raise F.FAB_CAUSE_MSG_DROP (updFab (fun f => { f with reasm := f.reasm.filter fun r => !(late r) }) s)) s

/-- A conflict notice for address `a`, held by `e`: broadcast with a hop limit of 2, as the claim was. -/
def sendConflict (a e : Nat) (s : State) : State := originate { dest := .broadcast, left := 2, body := .conflict a e } s

/-- The candidate of the next claim (R323): the address of the fabric record, or the CRC-16 of the EUI-64. -/
def candidate (s : State) : Nat :=
  match s.fab.recAddr, s.fab.fails with
  | some a, 0 => a
  | _, n => (crc16 (be 8 myEui) + n) % 4096

/-- This node is in coordinated start-up or in the election that leads to it (R323, R340). -/
def inStartUp (s : State) : Bool :=
  get F.FAB_STATUS_MODE s = 3 || (get F.FAB_STATUS_MODE s = 2 && s.fab.target = 3)

/-- ADDR_CLAIM (R323). -/
def execAddrClaim (s : State) : Out :=
  let m := get F.FAB_STATUS_MODE s
  onlyIf (e10Up s && !(flag F.FAB_ADDR_VALID s) && s.fab.claim.isNone && !(inStartUp s) && m != 6) (fun s =>
    let c := candidate s
    let s := addSat F.FAB_ADDR_CLAIMS 1 (updFab (fun f => { f with claim := some (c, s.sup.mono) }) s)
    originate { dest := .broadcast, left := 2, body := .claim c myEui } s) s

/-- This node takes short address `a` (R323); an open fabric session closes when the address changes. -/
def takeAddress (a : Nat) (s : State) : State :=
  let changed := s.fab.recAddr != some a
  let s := put F.FAB_ADDR_SHORT a (put F.FAB_ADDR_VALID 1 (updFab (fun f => { f with claim := none, fails := 0, recAddr := some a }) s))
  let s := raise F.FAB_CAUSE_ADDR_DONE (writeFabRec s)
  if changed then closeSession 6 s else s

/-- CLAIM_TIMEOUT (R323): 10 s without a CONFLICT. -/
def execClaimTimeout (s : State) : Out :=
  match s.fab.claim with
  | none => .next s
  | some c => onlyIf (e10Up s && decide (c.2 + 10240 ≤ s.sup.mono)) (fun s => originateNum (takeAddress c.1 s)) s

/-- CLAIM (R323): answered CONFLICT where the address is held, or known by a route, under another EUI-64; relayed once. -/
def execClaimRx (i : RxInfo) (f : FabFrame) (s : State) : Out :=
  onFrame i f (fun s =>
    match f.body with
    | .claim a e =>
      if e = myEui ∨ get F.FAB_STATUS_MODE s = 6 then s
      else
        let s :=
          if isMe (.short a) s then sendConflict a myEui s
          else match knownEui a s with
            | some k => if k ≠ e ∧ ((routeTo a s).isSome ∨ usable (.short a) s) then sendConflict a k s
                else updFab (fun x => { x with known := (x.known.filter fun p => p.1 != a) ++ [(a, e)] }) s
            | none => updFab (fun x => { x with known := x.known ++ [(a, e)] }) s
        let x := firstSeen (.eui e) (2 ^ 33 + a) s
        if x.1 then relay f x.2 else x.2
    | _ => s) s

/-- An address is heard in use under an EUI-64 (R323): under two of them, both hear a CONFLICT. -/
def learnPair (a e : Nat) (s : State) : State :=
  let known := if isMe (.short a) s then some myEui else knownEui a s
  match known with
  | some k => if k = e then s else sendConflict a e (sendConflict a k s)
  | none => updFab (fun x => { x with known := x.known ++ [(a, e)] }) s

/-- CONFLICT (R323): a pending claim of the address fails; a node that holds it gives it up when its EUI-64 is the higher. -/
def execConflictRx (i : RxInfo) (f : FabFrame) (s : State) : Out :=
  onFrame i f (fun s =>
    match f.body with
    | .conflict a e =>
      let x := firstSeen (.eui e) (2 ^ 34 + a) s
      let s := if x.1 then relay f x.2 else x.2
      if e = myEui then s
      else if (s.fab.claim.map (·.1)) = some a then updFab (fun x => { x with claim := none, fails := x.fails + 1 }) s
      else if isMe (.short a) s ∧ e < myEui then
        closeSession 6 (raise F.FAB_CAUSE_ADDR_CONFLICT (writeFabRec (put F.FAB_ADDR_VALID 0
          (updFab (fun x => { x with fails := x.fails + 1, recAddr := none }) s))))
      else s
    | _ => s) s

end Sys2Proof.Machine
end

