-- ==== Sys2Proof/Machine/Plans.lean ====
section
/-! DEFINITION. Heads, plans, modes, rescue and the coordinated modes of the fabric (R335, R338 to R341). -/
namespace Sys2Proof.Machine

/-- E10 loads the registers of plan `p` (R338); a plan that the section does not define leaves them (log 32). -/
def loadPlan (p : Nat) (s : State) : State :=
  let s := put F.FAB_STATUS_PLAN p s
  match (fabTab s).plans[p]? with
  | none => s
  | some x =>
    let s := put F.LMD_CFG_BAND_A (x.bands % 2) (put F.LMD_CFG_BAND_C (x.bands / 2 % 2) s)
    let s := put F.LMD_TONE_MASK_MASK_A x.tones s
    let s := put F.LMD_TX_CFG_LEVEL_A x.txCfg (put F.LMD_TX_CFG_LEVEL_C (x.txCfg / 2 ^ 8) (put F.LMD_TX_CFG_MASK_C (x.txCfg / 2 ^ 16) s))
    put F.FAB_STATUS_KEY_TX x.key s

/-- The newest PLAN_SEQ known (R338). -/
def lastSeq (s : State) : Nat :=
  match s.fab.pend with
  | some a => a.seq
  | none => s.fab.planSeq

/-- Make an announcement the pending change (R338). -/
def pendChange (a : Announce) (s : State) : State :=
  put F.FAB_STATUS_PLAN_PENDING 1 (put F.FAB_ACT_FCN_FCN a.act (updFab (fun f => { f with pend := some a }) s))

/-- Announce plan `p`, mode `m` with a lead and duration (R338). -/
def announce (p m lead dur : Nat) (s : State) : State :=
  let a : Announce := ⟨(lastSeq s + 1) % 2 ^ 16, p, m, (get F.FAB_FCN_FCN s + lead * cyclesPerSecond s) % 2 ^ 32, dur⟩
  originate { dest := .broadcast, left := 15, prio := 0, body := .announce a (numberingNow s) } (pendChange a s)

/-- An announcement as `FAB_ANNOUNCE` asks for it, or its refusal (R338, R341). -/
def announceRequest (s : State) : State :=
  let p := get F.FAB_ANNOUNCE_PLAN s
  let m := get F.FAB_ANNOUNCE_MODE s
  let lead := get F.FAB_ANNOUNCE_LEAD s
  let dur := get F.FAB_ANNOUNCE_DURATION s
  let durOk := m = 0 ∨ m = 3 ∨ (1 ≤ dur ∧ dur ≤ 60)
  if e10Up s && isHead s && flag F.FAB_STATUS_FCN_VALID s && !(inPass s) && decide (60 ≤ lead) && decide (lead ≤ 3600) && decide durOk &&
      decide (p < (fabTab s).plans.length) then announce p m lead dur s
  else raise F.FAB_CAUSE_ANN_REFUSED s

/-- A write of `FAB_CTL` (R335, R338). -/
def fabCtlWrite (w : Word) (s : State) : State :=
  if arg F.FAB_CTL_KEY w ≠ 0xF1 then s
  else
    let s := if arg F.FAB_CTL_HEAD_SET w = 1 then writeFabRec (put F.FAB_STATUS_HEAD 1 s) else s
    let s := if arg F.FAB_CTL_HEAD_CLR w = 1 then writeFabRec (put F.FAB_STATUS_HEAD 0 s) else s
    if arg F.FAB_CTL_ANNOUNCE w = 1 then announceRequest s else s

/-- ANNOUNCE (R338). -/
def execAnnounceReq (m : Master) (w : Word) (s : State) : Out := cmdWrite m R.FAB_CTL (fabCtlWrite w) s

/-- HEAD_SET (R335). -/
def execHeadSet (m : Master) (w : Word) (s : State) : Out := cmdWrite m R.FAB_CTL (fun s => fabCtlWrite w s) s

/-- HEAD_CLR (R335). -/
def execHeadClr (m : Master) (w : Word) (s : State) : Out := cmdWrite m R.FAB_CTL (fabCtlWrite w ·) s

/-- ANNOUNCEMENT (R338): relayed once, on its first receipt; a newer PLAN_SEQ supersedes a pending one. -/
def execAnnouncement (i : RxInfo) (f : FabFrame) (s : State) : Out :=
  onFrame i f (fun s =>
    match f.body with
    | .announce a num =>
      if get F.FAB_STATUS_MODE s = 6 then s
      else
        let s := adoptNum i num s
        let d := (a.seq + 2 ^ 16 - lastSeq s) % 2 ^ 16
        if d ≠ 0 ∧ d < 2 ^ 15 then relay { f with prio := 0 } (pendChange a s) else s
    | _ => s) s

/-- Start an election (R340) that leads to mode `target`, in the rescue configuration. -/
def startElection (target : Nat) (s : State) : State :=
  let s := updFab (fun f => { f with
    target := target, modeAt := s.sup.mono, best := some (myRank s, myEui), coord := none, parent := none, sframe := 0, depth := 0,
    assigned := [], newAssigned := [] }) s
  let s := loadRescue (put F.FAB_STATUS_COORD 0 (put F.FAB_STATUS_MODE 2 s))
  originate { dest := .broadcast, left := 15, prio := 0, body := .candidate (myRank s) myEui } s

/-- Return to normal service under plan `p`. -/
def normalService (p : Nat) (s : State) : State :=
  loadPlan p (put F.FAB_STATUS_COORD 0 (put F.FAB_STATUS_MODE 1
    (updFab (fun f => { f with coord := none, parent := none, modeEnd := none, best := none }) s)))

/-- The pending change takes effect (R338). -/
def activate (a : Announce) (s : State) : State :=
  let s := updFab (fun f => { f with pend := none, planSeq := a.seq, actAt := some s.sup.mono }) s
  let s := put F.FAB_STATUS_PLAN_PENDING 0 (put F.FAB_ACT_FCN_FCN 0 s)
  let s :=
    if a.mode = 1 ∨ a.mode = 2 then
      startElection (a.mode + 3) (updFab (fun f => { f with modeEnd := some (s.sup.mono + 61440 * a.dur) }) s)
    else if a.mode = 3 then normalService a.plan s
    else if get F.FAB_STATUS_MODE s = 1 then loadPlan a.plan s
    else loadRescue (loadPlan a.plan s)
  raise F.FAB_CAUSE_PLAN_DONE (writeFabRec s)

/-- PLAN_ACTIVATION (R338): at the crossing numbered with the activation FCN, or the next one when it has passed. -/
def execPlanActivation (s : State) : Out :=
  match s.fab.pend with
  | none => .next s
  | some a =>
    onlyIf (e10Up s && flag F.FAB_STATUS_FCN_VALID s && decide ((get F.FAB_FCN_FCN s + 2 ^ 32 - a.act) % 2 ^ 32 < 2 ^ 31))
      (activate a) s

/-- RESCUE_BEACON (R339): a node in rescue listen adopts the plan and the FCN, returns to normal service and claims its address again,
unless it was kept (R341). -/
def execRescueBeacon (i : RxInfo) (f : FabFrame) (s : State) : Out :=
  onFrame i f (fun s =>
    match f.body with
    | .rescue plan seq num =>
      let s := updFab (fun x => { x with heardRescue := true }) s
      if get F.FAB_STATUS_MODE s ≠ 6 then adoptNum i num s
      else
        let s := match num with
          | some n => takeNum i n s
          | none => s
        let s := normalService plan (updFab (fun x => { x with planSeq := seq, pend := none }) s)
        let s := put F.FAB_STATUS_PLAN_PENDING 0 (put F.FAB_ACT_FCN_FCN 0 s)
        let s := if s.fab.keepAddr then updFab (fun x => { x with keepAddr := false }) s else put F.FAB_ADDR_VALID 0 s
        raise F.FAB_CAUSE_READMITTED (writeFabRec s)
    | _ => s) s

/-- RESCUE_BEACON_TIMER (R339): every RESCUE seconds, every 30 s during the hour after an activation. -/
def execRescueBeaconTimer (s : State) : Out :=
  let recent := match s.fab.actAt with
    | some t => decide (s.sup.mono < t + 3600 * 1024)
    | none => false
  let period := if recent then 30 else get F.FAB_TIMING_RESCUE s
  onlyIf (e10Up s && get F.FAB_STATUS_MODE s == 1 && decide (s.fab.rescueAt + 1024 * period ≤ s.sup.mono)) (fun s =>
    originate { dest := .broadcast, left := 1, prio := 0, body := .rescue (get F.FAB_STATUS_PLAN s) s.fab.planSeq (numberingNow s) }
      (updFab (fun f => { f with rescueAt := s.sup.mono }) s)) s

/-- RESCUE_LISTEN (R339): no valid frame for LOST seconds. -/
def execRescueListen (s : State) : Out :=
  onlyIf (e10Up s && get F.FAB_STATUS_MODE s == 1 && decide (s.fab.heardAt + 1024 * get F.FAB_TIMING_LOST s ≤ s.sup.mono))
    (enterRescue false) s

/-- CANDIDATE (R340): a better rank than the best known is learned and relayed once, and an own candidacy that still waits is not sent. -/
def execCandidateRx (i : RxInfo) (f : FabFrame) (s : State) : Out :=
  onFrame i f (fun s =>
    match f.body, s.fab.best with
    | .candidate rank eui, some b =>
      if get F.FAB_STATUS_MODE s = 2 ∧ better (rank, eui) b then
        relay { f with prio := 0 } (updFab (fun x => { x with
          best := some (rank, eui), txq := x.txq.filter fun t => t.frame.body != .candidate (myRank s) myEui }) s)
      else s
    | _, _ => s) s

/-- The lowest short address not assigned yet (R340). -/
def nextAddress (s : State) : Nat :=
  ((List.range 4096).find? fun a => !(s.fab.assigned.any fun e => e.2 == a)).getD 0

/-- Record an assignment. -/
def assign (eui a : Nat) (s : State) : State :=
  updFab (fun f => { f with
    assigned := f.assigned ++ [(eui, a)], newAssigned := f.newAssigned ++ [(eui, a)], lastJoin := s.sup.mono }) s

/-- ELECTION_END (R340): after 16 s; in start-up the coordinator gives itself the first address. -/
def execElectionEnd (s : State) : Out :=
  onlyIf (e10Up s && get F.FAB_STATUS_MODE s == 2 && decide (s.fab.modeAt + 16384 ≤ s.sup.mono)) (fun s =>
    let own := s.fab.best == some (myRank s, myEui)
    let s := updFab (fun f => { f with coord := f.best.map (·.2), beaconAt := s.sup.mono, lastJoin := s.sup.mono }) s
    let s := put F.FAB_STATUS_COORD (b2n own) (put F.FAB_STATUS_MODE s.fab.target s)
    if own then
      let s := originateNum s
      if s.fab.target = 3 then takeAddress (nextAddress s) (assign myEui (nextAddress s) s) else s
    else s) s

/-- SUPERFRAME (R340): the coordinator's crossing whose FCN is a multiple of the cycles per second; its beacon starts there. -/
def execSuperframe (s : State) : Out :=
  let m := get F.FAB_STATUS_MODE s
  onlyIf (e10Up s && flag F.FAB_STATUS_COORD s && decide (3 ≤ m) && decide (m ≤ 5) && flag F.FAB_STATUS_FCN_VALID s && !(inPass s) &&
    get F.FAB_FCN_FCN s % cyclesPerSecond s == 0 && s.fab.sfFcn != some (get F.FAB_FCN_FCN s)) (fun s =>
    let b : FabBody := .beacon s.fab.sframe 0 m (get F.FAB_STATUS_PLAN s) myEui (numberingNow s) s.fab.newAssigned
    let s := updFab (fun f => { f with
      sframe := f.sframe + 1, newAssigned := [], beaconAt := s.sup.mono, sfFcn := some (get F.FAB_FCN_FCN s) }) s
    countFrame 0 (sendNow false { dest := .broadcast, osrc := myName s, left := 15, prio := 0, body := b } s)) s

/-- A node in start-up without an address asks for one, hop by hop towards the coordinator (R340). -/
def sendJoin (s : State) : State :=
  match s.fab.parent with
  | none => s
  | some p => originate { dest := .node p, ackReq := true, ldst := some p, left := 15, body := .join myEui } s

/-- What a node takes from a beacon (R340). -/
def heardBeacon (lsrc : Node) (frame depth mode coord : Nat) (pairs : List (Nat × Nat)) (s : State) : State :=
  let s := put F.FAB_STATUS_MODE mode (updFab (fun f => { f with
    coord := some coord, parent := some lsrc, sframe := frame, depth := depth + 1, beaconAt := s.sup.mono }) s)
  let s := pairs.foldl (fun s e => if e.1 = myEui then takeAddress e.2 s else learnPair e.2 e.1 s) s
  if mode = 3 ∧ !(flag F.FAB_ADDR_VALID s) then sendJoin s else s

/-- BEACON (R340): relayed once with depth + 1. A node in normal service does not hear the rescue configuration. -/
def execBeaconRx (i : RxInfo) (f : FabFrame) (s : State) : Out :=
  onFrame i f (fun s =>
    match f.body with
    | .beacon frame depth mode plan coord num pairs =>
      let s := adoptNum i num s
      if s.fab.lastBeacon == some (coord, frame) || get F.FAB_STATUS_MODE s = 1 || flag F.FAB_STATUS_COORD s || decide (mode < 3) ||
          decide (5 < mode) then s
      else
        let s := heardBeacon f.lsrc frame depth mode coord pairs (updFab (fun x => { x with lastBeacon := some (coord, frame) }) s)
        if depth < 15 then
          countFrame 1 (queueFrame false { f with
            prio := 0, left := f.left - 1, taken := f.taken + 1, ldst := none, ackReq := false,
            body := .beacon frame (depth + 1) mode plan coord (numberingNow s) pairs } s)
        else s
    | _ => s) s

/-- JOIN (R340): the coordinator assigns an address in the order of arrival, another node passes it on. -/
def execJoinRx (i : RxInfo) (f : FabFrame) (s : State) : Out :=
  onFrame i f (fun s =>
    match f.body with
    | .join eui =>
      if !(forMe f s) || get F.FAB_STATUS_MODE s ≠ 3 then s
      else
        let s := ackFrame i f s
        if flag F.FAB_STATUS_COORD s then
          let s := if s.fab.assigned.any (fun e => e.1 == eui) then s else assign eui (nextAddress s) s
          let a := ((s.fab.assigned.find? fun e => e.1 == eui).map (·.2)).getD 0
          originate { dest := .node f.lsrc, ackReq := true, ldst := some f.lsrc, left := 1, body := .assign eui a } s
        else match s.fab.parent with
          | some p => if f.left ≤ 1 then s else
              countFrame 1 (queueFrame false { f with dest := .node p, ldst := some p, left := f.left - 1, taken := f.taken + 1 } s)
          | none => s
    | _ => s) s

/-- ASSIGN (R340). -/
def execAssignRx (i : RxInfo) (f : FabFrame) (s : State) : Out :=
  onFrame i f (fun s =>
    match f.body with
    | .assign eui a =>
      if !(forMe f s) then s
      else
        let s := ackFrame i f s
        if eui = myEui then takeAddress a s
        else
          let s := learnPair a eui s
          if usable (.eui eui) s && f.lsrc != .eui eui then
            originate { dest := .node (.eui eui), ackReq := true, ldst := some (.eui eui), left := 1, body := .assign eui a } s
          else s
    | _ => s) s

/-- COORDINATED_MODE_END (R340): the mode ends and the coordinator announces NORMAL, or the coordinator is lost for 5 superframes and
the election runs again. -/
def execCoordinatedModeEnd (s : State) : Out :=
  let m := get F.FAB_STATUS_MODE s
  let ended := if m = 3 then decide (s.fab.lastJoin + 61440 ≤ s.sup.mono)
    else match s.fab.modeEnd with
      | some t => decide (t ≤ s.sup.mono)
      | none => false
  onlyIf (e10Up s && decide (3 ≤ m) && decide (m ≤ 5)) (fun s =>
    if flag F.FAB_STATUS_COORD s then
      if ended && !(inPass s) && (s.fab.pend.map (·.mode)) != some 3 then announce (get F.FAB_STATUS_PLAN s) 3 60 0 s else s
    else if s.fab.beaconAt + 5120 ≤ s.sup.mono then startElection m s
    else s) s

/-- COORDINATED_START_UP (R340). -/
def execCoordinatedStartUp (s : State) : Out :=
  onlyIf (e10Up s && s.fab.noRec && get F.FAB_STATUS_MODE s == 6 && !s.fab.heardRescue &&
    decide (s.fab.startAt + 2048 * get F.FAB_TIMING_RESCUE s ≤ s.sup.mono)) (startElection 3) s

/-- E10 starts when the FABRIC section has been applied: the EUI-64, plan, head flag and key of the fabric record, or plan 0 and the
section's head flag at the first start (R322, R324, R335, R338). A node with no record waits for a rescue beacon (R340). FCNT and
SEQ go on while D9 has kept them (log 32). -/
def startFabric (s : State) : State :=
  if !(domOn 9 s) then s
  else if s.ld.tables.fabric.isNone then put F.FAB_STATUS_MODE 0 s
  else
    let t := s.sup.mono
    let s := { s with fab := { (({} : FabSt)) with
      fcnt := s.fab.fcnt, seq := s.fab.seq, reqId := s.fab.reqId, msgId := s.fab.msgId, headSeq := s.fab.headSeq, advAt := t, rescueAt := t, statusAt := t, heardAt := t, startAt := t, beaconAt := t } }
    let b := be 8 myEui
    let s := put F.FAB_EUI_LO_EUI (field b 0 4) (put F.FAB_EUI_HI_EUI (field b 4 4) s)
    match inForce s.cis.b3.fab with
    | some r => writeFabRec (put F.FAB_STATUS_MODE 1 (put F.FAB_STATUS_HEAD (b2n r.2.head) (loadPlan r.2.plan (updFab (fun f => { f with
        planSeq := r.2.planSeq, recAddr := if r.2.valid then some r.2.addr else none }) s))))
    | none => loadRescue (put F.FAB_STATUS_MODE 6 (put F.FAB_STATUS_HEAD (b2n (fabTab s).head)
        (loadPlan 0 (updFab (fun f => { f with noRec := true }) s))))

end Sys2Proof.Machine
end

