-- ==== Sys2Proof/Machine/Freeze.lean ====
section
/-! DEFINITION. The power-fail freeze (R126, R127, R398), the power-fail store and its commits (R208, R211), the loss of the
domains, OUTAGE (R291, R296). -/
namespace Sys2Proof.Machine

/-- Change the supervisor's state. -/
def updSup (f : SupSt → SupSt) (s : State) : State := { s with sup := f s.sup }

/-- The run's first valid frame has begun and no freeze has been taken. -/
def canFreeze (s : State) : Bool :=
  flag F.PHE_FRAME_POS_VALID s && !(flag F.NRG_STATUS_FROZEN s) && domOn 2 s

/-- The partial cycle of `m` samples that the freeze ends (R398): classified and registered as a cycle, IN standing for IA when it
did so in the last whole cycle. -/
def registerPartial (m : Nat) (s : State) : State :=
  if get F.PHE_CFG_WIRING s = 0 then s
  else
    let cs := (phases s).map fun p => (p, partialCycle m p (3 + p) (nth {} s.en.last p) s)
    let inC := partialCycle m 0 6 s.en.lastIn s
    registerCycle m (if s.en.lastMismatch then [(0, inC)] else cs) s

/-- The last record of a frame the freeze cuts short: its samples, flagged PWR_FAIL (R126, R124). -/
def cutFrame (s : State) : State :=
  let s := { s with en := { s.en with flags := withBit s.en.flags 12 } }
  let fl := statusWord s
  let s := pushRec (frameRec s.metro.pos fl s) s
  { s with en := { s.en with accStart := s.en.acc, frameCycles := [] } }

/-- E6 ends the frame at the freeze sample; the answer names the freeze sample's frame and index. A frame that is complete ends
normally and nothing of the next one takes effect. A freeze between two frames, or with the chain stopped, names the last
sample that was integrated. -/
def endAtFreeze (s : State) : Nat × Nat × State :=
  let n := get F.PHE_FRAME_NUM_FRAME s
  if s.metro.chainDown then (s.metro.ended.1, s.metro.ended.2, s)
  else
    let s := if atCycleEnd s then endCycle s else s
    if s.metro.pos = 0 then (s.metro.ended.1, s.metro.ended.2, s)
    else if s.metro.pos = frameLen s then (n, frameLen s - 1, completeFrame s)
    else
      let m := s.metro.pos - s.metro.cyc * s.metro.spc
      (n, sampleIdx s, cutFrame (if m = 0 then s else registerPartial m s))

/-- The pulse channels stop: edges not yet emitted join the backlog (R131); those beyond 65 535 are dropped and counted (R130). -/
def stopPulses (s : State) : State :=
  (List.range 4).foldl (fun s k =>
    let n := (nth ({} : PulseSt) s.en.pulses k).edges.length
    let room := 65535 - get (F.NRG_PULSE_STAT_BACKLOG k) s
    let s := updPulse k (fun p => { p with edges := [], placed := [], active := false }) s
    let s := addSat (F.NRG_PULSE_STAT_BACKLOG k) n s
    if room < n then raise F.NRG_CAUSE_PULSE_OVERRUN (addSat (F.NRG_PULSE_STAT_DROPPED k) (n - room) s) else s) s

/-- What E1 and E2 place in their banks at step 3 of R126 (R177, R194, R196); in NAP they sleep on (R287). -/
def coreRecords (s : State) : State :=
  let s := if e2Up s then writeCredit 2 (dropLoadAtFreeze (abandonTokens s)) else s
  if e1Up s && s.bil.restored then writeBill 2 s.bil.cur.rate s else s

/-- A pending profile change, chain stop, or open relief is abandoned (R26, R69, R92). -/
def abandonStaged (s : State) : State :=
  let s := if flag F.PHE_PROFILE_CTL_PENDING s then dropProfile s else s
  dropRelief { s with metro := { s.metro with chainStop := false } }

/-- Steps 2 and 3 of the power-fail freeze (R126): source 1 VDD monitor, 2 voltage channels, 3 `RESET_N`, 0 a SHIP entry or a
re-read. -/
def freezeMetro (src : Nat) (s : State) : State :=
  if !(canFreeze s) then s
  else
    let r := endAtFreeze (abandonStaged { s with en := { s.en with imageDue := false } })
    let s := stopPulses r.2.2
    let s := put F.NRG_FREEZE_FRAME_FRAME r.1 (put F.NRG_FREEZE_POS_SAMPLE r.2.1 (put F.NRG_FREEZE_POS_SOURCE src
      (put F.NRG_FREEZE_POS_VALID 1 s)))
    let s := updSup (fun p => { p with freeze := some (FreezeRec.mk (run s) r.1 r.2.1 (rtc s)) }) s
    let im := { accImage 2 r.2.1 s with frame := r.1 }
    let s := dirty 0 { s with cis := { s.cis with b0 := { s.cis.b0 with acc := writeCopy s.cis.b0.acc im } } }
    raise F.NRG_CAUSE_FROZEN (put F.NRG_STATUS_FROZEN 1 (coreRecords (pqFreeze s)))

/-- An update that runs is cut short (R241): its region is left empty, and the next start reports it. -/
def cutUpdate (s : State) : State :=
  if 1 ≤ updState s ∧ updState s ≤ 4 ∧ domOn 5 s then
    updObj (fun o => { o with interrupted := true }) (dropUpdate s)
  else s

/-- A re-read in progress is abandoned (R54): the next start loads as usual. -/
def cutReread (s : State) : State :=
  put F.CFG_STATUS_REREAD_BUSY 0 { s with ld := { s.ld with rereadFrom := none, reread := 0, restartAll := false } }

/-- The abort point that follows the phase of an entry (R285). -/
def nextAbort (s : State) : Nat := max 1 (get F.PMU_STATE_PHASE s)

/-- The power-fail store (R211): what waits or copies is abandoned, then every dirty bank is taken in the order of R208. -/
def powerFailStore (s : State) : State :=
  let copying := get F.CIS_STATUS_COPYING s
  let s := raiseIf (copying != 0 || get F.CIS_QUEUE_WAITING s != 0) F.CIS_CAUSE_STORE_ABANDONED s
  let d := get F.CIS_STATUS_DIRTY s ||| copying
  let s := put F.CIS_STATUS_COPYING 0 (put F.CIS_STATUS_DIRTY d (put F.CIS_QUEUE_WAITING d s))
  startStores 4 (updCis (fun c => { c with pfStore := true, pfTaken := true, late := 0, again := 0 }) s)

/-- The load is shed (R296): D8 and D10 at once, D3 after step 3. -/
def shedLoad (s : State) : State :=
  let s := powerDown 8 (abandonTx (abortSounding 5 s))
  let s := powerDown 10 (updPnl (fun _ => {}) (panelFastOff s))
  if domOn 3 s then d3Off s else s

/-- Set the cores' clock codes in force (R294). -/
def setCodes (c1 c2 : Nat) (s : State) : State := put F.CLK_CTL_CORE1 c1 (put F.CLK_CTL_CORE2 c2 s)

/-- The change of the operating point in progress completes (R294). -/
def opDone (s : State) : State :=
  match s.sup.opTarget with
  | none => s
  | some (op, c1, c2) =>
    let s := setCodes c1 c2 (put F.CLK_STATUS_OP op (put F.CLK_STATUS_BUSY 0 (updSup (fun p => { p with opTarget := none }) s)))
    raise F.CLK_CAUSE_OP_DONE s

/-- The power-fail sequence from any source (R126, R286, R290, R294, R296): an operating point change completes, the freeze, what it cuts short, the store, the load shed. -/
def powerFail (src : Nat) (s : State) : State :=
  let entering := get F.PMU_STATE_STATE s = 2
  let s := opDone (if entering then abandonEntry (nextAbort s) s.sup.wakePend s else s)
  let s := undoKu (cutReread (cutUpdate (freezeMetro src s)))
  let s := powerFailStore (updHif (fun h => { h with slots := h.slots.map fun x => match x with
    | .busy _ _ none => .free
    | y => y }) s)
  shedLoad (updSup (fun p => { p with mode := .frozen, coldReq := false, freezeOnResetN := p.freezeOnResetN || src == 3 }) s)

/-- VDD lies at or above VDD-good. -/
def vddGood (s : State) : Bool := flag F.PMU_VMON_VDD_OK s

/-- The volatile state of domains D1 to D10 is lost; OTP, flash and the shadow planes keep theirs, and D0 what it holds (R280,
R285). -/
def loseDomains (s : State) : State :=
  let ds := [1, 2, 3, 4, 5, 6, 7, 8, 9, 10]
  let s := dropProducers ds (ds.foldl (fun s d => powerDown d s) s)
  let s := { s with
    mem := [], conv := { trim := s.conv.trim }, metro := {}, en := {}, cap := {}, spec := {}, pay := {}
    rly := { pulse := s.rly.pulse, lastPulse := s.rly.lastPulse, lcPulse := s.rly.lcPulse, lcLatch := s.rly.lcLatch }
    bil := keptBil s.bil
    lmd := {}, fab := {}, pnl := {}, hif := {} }
  { s with
    cis := { planes := s.cis.planes }
    well := { s.well with slots := [], jobs := [], running := none, ku := none, lastLoad := none, trng := {}, seeded := false, requests := 0 }
    obj := { slotA := s.obj.slotA, slotB := s.obj.slotB, interrupted := s.obj.interrupted }
    sup := { s.sup with retBanks := [none, none, none, none], opTarget := none, mpllNext := none, quarantined := 0, coldReq := false, slew := 0, firm := [] } }

/-- Enter OUTAGE (R291): every domain but D0 off, D0 on VBAT. -/
def enterOutage (s : State) : State :=
  let s := put F.PMU_DOM_STATUS_RET 0 (put F.PMU_STATE_STATE 0 (put F.PMU_STATE_CORE_DOZE 0 (put F.PMU_STATE_PHASE 0
    (put F.PMU_STATE_SUPPLY 1 (loseDomains s)))))
  let s := { s with tamp := { s.tamp with covSeen := [0, 0], relSeen := [0, 0] } }
  refreshLines 0 (setLoader 1 true false (updSup (fun p => { p with
    mode := .outage, nextCause := 2, freezeOnResetN := false, shipEntry := false, shipFrozen := false, wakePend := 0 }) s))

/-- No store waits or copies. -/
def storesDone (s : State) : Bool := get F.CIS_QUEUE_WAITING s = 0 && get F.CIS_STATUS_COPYING s = 0

/-- The device's own store of bank `b` that was refused is requested again (R210). -/
def requestAgain (b : Nat) (s : State) : State :=
  if bit s.cis.again b then storeBanks (2 ^ b) (updCis (fun c => { c with again := noBit c.again b }) s) else s

/-- What hangs on a committed store of bank `b`: the reading counter's reserve (R236), the activation of an update (R242), which waits
for a store begun after its record was written, and a store to be requested again. -/
def afterCommit (b : Nat) (s : State) : State :=
  let s := requestAgain b s
  if b = 0 ∧ domOn 5 s then put F.OBJ_READ_RESERVE_SINCE_STORE 0 s
  else if b = 1 ∧ s.obj.actWait then
    if fbit F.CIS_STATUS_DIRTY 1 s then storeBanks 2 s else put F.UPD_STATUS_STATE 5 (updObj (fun o => { o with actWait := false, actAt := some s.sup.mono }) s)
  else s

/-- The copy of bank `b` commits its trailer (R208); the freed engine takes the next waiting bank. -/
def commitStore (b : Nat) (s : State) : State :=
  let p := planesOf b s
  let n := storesOf p + 1
  let p' := updTarget p fun x => { x with trl := some (n, run s, rtc s) }
  let s := putBit F.CIS_STATUS_COPYING b false { s with cis := { s.cis with planes := upd s.cis.planes b (fun _ => p') } }
  let s := put (F.CIS_WEAR_STORES b) n (put (F.CIS_STAMP_RTC b) (rtc s) s)
  let s := if bit s.cis.late b then putBit F.CIS_STATUS_DIRTY b true (updCis (fun c => { c with late := noBit c.late b }) s) else s
  let s := raise F.CIS_CAUSE_STORE_DONE (raiseIf (decide (900000 < n)) F.CIS_CAUSE_WEAR_WARN s)
  let s := startStores 4 (afterCommit b s)
  if s.cis.pfStore && storesDone s then
    let s := updCis (fun c => { c with pfStore := false }) s
    if vddGood s then s else enterOutage s
  else s

/-- E1 waits until bank `b`'s store has committed (R42, R47): the engines commit in the order of R208 meanwhile. -/
def awaitStore (b : Nat) : Nat → State → State
  | 0, s => s
  | n + 1, s =>
    if fbit F.CIS_STATUS_COPYING b s then commitStore b s
    else match lowestBank (get F.CIS_STATUS_COPYING s) with
      | none => s
      | some c => awaitStore b n (commitStore c s)

/-- A store of bank `b` that runs to its commit within the command; a copy already running commits before it. -/
def storeNow (b : Nat) (s : State) : State :=
  awaitStore b 17 (storeBanks (2 ^ b) (if fbit F.CIS_STATUS_COPYING b s then commitStore b s else s))

/-- STORE_COMMIT (R208). -/
def execStoreCommit (b : Nat) (s : State) : Out :=
  onlyIf (domOn 7 s && decide (b < 16) && fbit F.CIS_STATUS_COPYING b s) (commitStore b) s

/-- VDD below THR before the first valid frame (R56): the start is abandoned; stores already accepted complete. -/
def abandonStart (s : State) : State := updSup (fun p => { p with mode := .frozen }) (cutReread s)

/-- VDD_MONITOR_TRIP (R296, R126, R56). In SHIP it is the removal of VDD. -/
def execVddMonitorTrip (s : State) : Out :=
  onlyIf (vddGood s || s.sup.mode == .ship) (fun s =>
    if s.sup.mode == .ship then updSup (fun p => { p with vddRemoved := true }) s
    else
      let s := raise F.PMU_CAUSE_PF_VDD (put F.PMU_VMON_VDD_OK 0 s)
      if s.sup.mode == .frozen then
        let s := cutReread s
        let s := if flag F.NRG_STATUS_FROZEN s && !s.cis.pfTaken then powerFailStore s else s
        if storesDone s then enterOutage s else s
      else if canFreeze s || flag F.NRG_STATUS_FROZEN s then powerFail 1 s
      else if s.sup.mode == .running || s.sup.mode == .loading then abandonStart s
      else s) s

/-- VDD_BELOW_2V3 (R291): every domain but D0 goes off; copies that have not committed are left so. -/
def execVddBelow2v3 (s : State) : Out :=
  onlyIf (s.sup.mode != .outage && s.sup.mode != .por) (fun s =>
    if s.sup.mode == .ship then updSup (fun p => { p with vddRemoved := true }) s
    else enterOutage (put F.PMU_VMON_VDD_OK 0 s)) s

/-- The voltage source of power-fail is armed, or detects (R126). -/
def voltageFail (s : State) : Bool × State :=
  let live := liveVolts s
  if live.isEmpty || !s.metro.hcValid || !(framesRun s) then (false, s)
  else if live.all fun c => !(belowSixty c s) then (false, { s with en := { s.en with pfArmed := true } })
  else (s.en.pfArmed && flag F.PHE_CFG_PF_VOLT s && live.all fun c => belowSixty c s, s)

/-- HALF_CYCLE_BOUNDARY (R100, R126, R146): the half-cycle RMS, its comparators, dips, swells and interruptions, the voltage source
of power-fail. -/
def execHalfCycleBoundary (s : State) : Out :=
  onlyIf (metroOn s && decide (0 < s.metro.pos) && s.metro.pos % (s.metro.spc / 2) == 0) (fun s =>
    let s := refreshHalfCycle s
    let s := if s.metro.hcValid then winHalfCycles s else s
    let r := voltageFail (pqEvaluate s)
    if r.1 then powerFail 2 (raise F.PHE_CAUSE_PF_DETECT r.2) else r.2) s

end Sys2Proof.Machine
end

