-- ==== Sys2Proof/Machine/Power.lean ====
section
/-! DEFINITION. Power states, the entry handshake, waking, operating points, the clock monitors (R280 to R298). -/
namespace Sys2Proof.Machine

/-- The bit of `PMU_STATE.CORE_DOZE` of E1 (0) or E2 (1). -/
def coreUp (core : Nat) (s : State) : Bool := if core = 1 then e1Up s else if core = 2 then e2Up s else false

/-- CORE_WAIT (R282): the core gates its clock; the state reads DOZE while both doze. -/
def execCoreWait (core : Nat) (s : State) : Out :=
  onlyIf (coreUp core s && decide (get F.PMU_STATE_STATE s ≤ 1)) (fun s =>
    let s := putBit F.PMU_STATE_CORE_DOZE (core - 1) true s
    if get F.PMU_STATE_CORE_DOZE s = 3 then put F.PMU_STATE_STATE 1 s else s) s

/-- An interrupt enabled to the core is pending (R370). -/
def coreInterrupt (core : Nat) (s : State) : Bool := summary s &&& get (F.INT_CORE_EN_EN core) s != 0

/-- CORE_DOZE_WAKE (R282): an interrupt enabled to the core. -/
def execCoreDozeWake (core : Nat) (s : State) : Out :=
  onlyIf ((core = 1 || core = 2) && fbit F.PMU_STATE_CORE_DOZE (core - 1) s && coreInterrupt core s) (fun s =>
    let s := putBit F.PMU_STATE_CORE_DOZE (core - 1) false s
    if get F.PMU_STATE_STATE s = 1 then put F.PMU_STATE_STATE 0 s else s) s

/-- An entry that ends after the SHIP freeze: the device restarts with D0 kept once the stores are done (R292). -/
def afterShipFreeze (s : State) : State :=
  if s.sup.shipFrozen then updSup (fun p => { p with shipFrozen := false, mode := .frozen }) s else s

/-- The owner of domain `d` refuses (R284). -/
def refuseEntry (d : Nat) (s : State) : State :=
  let s := put F.PMU_ENTRY_RES_RESULT 2 (put F.PMU_ENTRY_RES_AP 1 (put F.PMU_ENTRY_RES_DOMAIN d (put F.PMU_ENTRY_RES_WAKE 0 s)))
  let s := put F.PMU_STATE_STATE 0 (put F.PMU_STATE_PHASE 0 (put F.PMU_STATE_ASKING 0 s))
  afterShipFreeze (raise F.PMU_CAUSE_ENTRY_REFUSED (updSup (fun p => { p with wakePend := 0, abortPend := false, shipEntry := false }) s))

/-- The owner of `d` refuses at once (R284). -/
def ownerRefuses (d : Nat) (s : State) : Bool :=
  (d = 2 && flag F.PHE_PROFILE_CTL_PENDING s) || (d = 8 && soundingRuns s) ||
  (d = 5 && (decide (1 ≤ updState s && updState s ≤ 5) || updState s == 7))

/-- The Cistern has nothing left to store (R212). -/
def cisternClean (s : State) : Bool := storesDone s && get F.CIS_STATUS_DIRTY s == 0

/-- The entry keeps the glow area lit (R349). -/
def entryGlow (s : State) : Bool := !s.sup.shipEntry && flag F.PMU_NAP_CFG_GLOW s

/-- The owner of `d` delays (R284, R212, R349). -/
def ownerDelays (d : Nat) (s : State) : Bool :=
  (d = 4 && !s.en.ring.isEmpty) || (d = 5 && (s.obj.req.any (·.isSome) || s.obj.signing.isSome)) ||
  (d = 7 && s.sup.shipEntry && !(cisternClean s)) || (d = 10 && panelBusy (entryGlow s) s) || (d = 6 && (s.well.running.isSome || s.well.ku.isSome)) || (d = 8 && s.lmd.tx.isSome)

/-- Store every dirty bank that does not copy (R212). -/
def storeDirty (s : State) : State :=
  storeBanks ((List.range 16).foldl (fun n b =>
    if fbit F.CIS_STATUS_DIRTY b s && !(fbit F.CIS_STATUS_COPYING b s) && !(fbit F.CIS_QUEUE_WAITING b s) then withBit n b else n) 0) s

/-- The controller asks the owner of `d`; D10's prepares the panel (R349); at D7 in a SHIP entry the freeze is taken and the stores begin
(R292). -/
def askOwner (d : Nat) (s : State) : State :=
  let s := put F.PMU_STATE_ASKING d s
  let s := if d = 10 then preparePanel (entryGlow s) s else s
  if d = 7 ∧ s.sup.shipEntry then
    storeDirty (updSup (fun p => { p with shipFrozen := flag F.NRG_STATUS_FROZEN s || canFreeze s }) (freezeMetro 0 s))
  else s

/-- Begin an entry (R283, R285). -/
def beginEntry (ship : Bool) (s : State) : State :=
  askOwner 10 (put F.PMU_STATE_STATE 2 (put F.PMU_STATE_PHASE 1
    (updSup (fun p => { p with shipEntry := ship, shipFrozen := false, wakePend := 0, abortPend := false }) s)))

/-- A write of `PMU_CTL` (R283, R286). -/
def pmuCtlWrite (w : Word) (s : State) : State :=
  if arg F.PMU_CTL_KEY w ≠ 0x4D then s
  else
    let entering := get F.PMU_STATE_STATE s = 2
    let s := if arg F.PMU_CTL_ABORT w = 1 ∧ entering then updSup (fun p => { p with abortPend := true }) s else s
    let req := arg F.PMU_CTL_REQ w
    if arg F.PMU_CTL_GO w = 0 then s
    else if entering || guarded s || inFallback s || !(req == 1 || req == 2) || (req == 1 && !(flag F.PMU_NAP_CFG_NAP_EN s)) then
      raise F.PMU_CAUSE_REQ_REFUSED s
    else beginEntry (req == 2) s

/-- NAP_REQUEST (R283). -/
def execNapRequest (m : Master) (w : Word) (s : State) : Out := cmdWrite m R.PMU_CTL (pmuCtlWrite w) s

/-- SHIP_REQUEST (R283). -/
def execShipRequest (m : Master) (w : Word) (s : State) : Out := cmdWrite m R.PMU_CTL (fun s => pmuCtlWrite w s) s

/-- ENTRY_ABORT (R286). -/
def execEntryAbort (m : Master) (w : Word) (s : State) : Out := cmdWrite m R.PMU_CTL (fun t => pmuCtlWrite w t) s

/-- The registers of domain `d`'s save list with their values (R285). -/
def saved (d : Nat) (s : State) : List (Nat × Word) :=
  (s.ld.tables.saveLists.filter fun e => e.1 == d).flatMap fun e =>
    (e.2.filter fun a => blockDom (blockOf a) == d).map fun a => (a, rd s a)

/-- The retention banks that the save lists of the domains to power down fill (R285). -/
def saveBanks (s : State) : List (Option (List (Nat × Word))) :=
  (List.range 4).map fun b =>
    let ds := (napDomains s).filter fun d => bankOfDom d == b && s.ld.tables.saveLists.any fun e => e.1 == d
    if ds.isEmpty then none else some (ds.flatMap fun d => saved d s)

/-- NAP is entered (R280, R285): D6, and D10 and D3 by configuration, off; D4 and D5 in retention. -/
def enterNap (s : State) : State :=
  let ds := napDomains s
  let s := updSup (fun p => { p with
    retBanks := saveBanks s, firm := firmRegs.map fun a => (a, rd s a), napSince := p.mono, shipEntry := false }) s
  let s := ds.foldl (fun s d => if d = 3 then d3Off s else powerDown d s) s
  let s := if ds.contains 10 then updPnl (fun _ => {}) s else s
  let s := putBit F.PMU_DOM_STATUS_RET 4 true (putBit F.PMU_DOM_STATUS_RET 5 true s)
  put F.PMU_STATE_STATE 3 s

/-- SHIP is entered (R292): in D0 too, only RTC, run counter and freeze record stay. -/
def enterShip (s : State) : State :=
  let ok := vddGood s
  let kept := [R.SUP_RUN, R.SUP_RTC_SEC, R.SUP_RTC_STATUS, R.SUP_UID 0, R.SUP_UID 1, R.SUP_UID 2, R.SUP_UID 3].map fun a => (a, rd s a)
  let s := wrMany kept (resetDomain 0 (loseDomains s))
  let s := { s with
    tamp := {}, well := { s.well with d0 := none }, sup := { s.sup with
      mode := .ship, nextCause := 4, vddRemoved := !ok, shipEntry := false, shipFrozen := false, bfLive := 0, bfTaken := true
      bfInfo := 0, digest := none, wakePend := 0 } }
  setLoader 1 true false s

/-- The abort point at which a wake source or ABORT ends the entry, if one does: AP1 from what has become active during the
handshake, AP2 to AP4 from `wake`. -/
def abortAt (wake : Option (Nat × Nat)) (s : State) : Option (Nat × Nat) :=
  if s.sup.wakePend ≠ 0 ∨ s.sup.abortPend then some (1, s.sup.wakePend)
  else match wake with
    | some (ap, src) => if 2 ≤ ap ∧ ap ≤ 4 ∧ src < 6 ∧ wakeEnabled src s then some (ap, 2 ^ src) else none
    | none => none

/-- Every owner has consented (R285, R286). -/
def finishEntry (wake : Option (Nat × Nat)) (s : State) : State :=
  match abortAt wake s with
  | some (ap, src) => afterShipFreeze (abandonEntry ap src s)
  | none =>
    let s := put F.PMU_ENTRY_RES_RESULT 1 (put F.PMU_ENTRY_RES_AP 0 (put F.PMU_ENTRY_RES_DOMAIN 0 (put F.PMU_ENTRY_RES_WAKE 0 s)))
    let s := put F.PMU_STATE_PHASE 0 (put F.PMU_STATE_ASKING 0 (raise F.PMU_CAUSE_ENTRY_DONE s))
    if s.sup.shipEntry then enterShip s else enterNap s

/-- A boundary falls at RTC time `t` (R168): a demand or profile interval or a sub-interval ends, the daylight saving changes, a tariff
switch point or a billing closure comes. -/
def boundaryAt (tb : Tariff) (t : Nat) (s : State) : Bool :=
  let rule := dstRule tb s
  let std := stdOf t s
  let n := evalTariff tb rule std
  let m := (n.civil % 86400 / 60).toNat
  std % partLen s == 0 || std % p1Len s == 0 || dstAt rule std != dstAt rule (std - 1) ||
    ((nth [] tb.days n.day).any fun p => p.1 * 60 + p.2.1 == m) ||
    (boundaryOf (civilNow (t - 1) s) s).1 != (boundaryOf (civilNow t s) s).1

/-- The earliest boundary after the present second (R168). Every boundary lies on a whole minute, and a demand interval ends within the
hour. -/
def nextBoundary (s : State) : Option Nat :=
  match s.ld.tables.tariff with
  | none => none
  | some tb => ((List.range 60).map fun k => (rtc s / 60 + k + 1) * 60).find? fun t => boundaryAt tb t s

/-- Before D5's owner consents to NAP, E2 sets the RTC wake 1 s before the earliest boundary (R168). -/
def setBoundaryWake (d : Nat) (s : State) : State :=
  if d = 5 ∧ !s.sup.shipEntry then
    match nextBoundary s with
    | some t => put F.SUP_RTC_ALARM_ALARM (t - 1) s
    | none => s
  else s

/-- OWNER_CONSENT (R284): the owner that is asked answers: it refuses where its standing answer says so, goes on delaying, or
consents; `wake` is a wake source that becomes active before abort point 2, 3 or 4, after the last consent. -/
def execOwnerConsent (wake : Option (Nat × Nat)) (s : State) : Out :=
  onlyIf (get F.PMU_STATE_STATE s == 2 && get F.PMU_STATE_PHASE s == 1) (fun s =>
    let d := get F.PMU_STATE_ASKING s
    if ownerRefuses d s then refuseEntry d s
    else if ownerDelays d s then (if d = 7 then storeDirty s else if d = 10 then preparePanel (entryGlow s) s else s)
    else if 1 < d then askOwner (d - 1) (setBoundaryWake d s)
    else finishEntry wake s) s

/-- OWNER_DELAY_LIMIT (R284): LIMIT has passed without consent. -/
def execOwnerDelayLimit (s : State) : Out :=
  onlyIf (get F.PMU_STATE_STATE s == 2 && get F.PMU_STATE_PHASE s == 1) (fun s => refuseEntry (get F.PMU_STATE_ASKING s) s) s

/-- RTC_ALARM (R288): the RTC has reached `SUP_RTC_ALARM`, where 0 disables it. -/
def execRtcAlarm (bad : Nat) (s : State) : Out :=
  onlyIf (get F.SUP_RTC_ALARM_ALARM s != 0 && get F.SUP_RTC_ALARM_ALARM s == rtc s) (wakeBy 0 bad) s

/-- NAP_MAX (R287). -/
def execNapMax (bad : Nat) (s : State) : Out :=
  onlyIf (get F.PMU_STATE_STATE s == 3 && decide (s.sup.napSince + 1024 * get F.PMU_NAP_CFG_MAX s ≤ s.sup.mono)) (wakeBy 1 bad) s

/-- KEYPAD_WAKE (R353): in NAP, or during an entry; the first event after the wake will carry WAKE. -/
def execKeypadWake (bad : Nat) (s : State) : Out :=
  onlyIf (keypadUsed s) (fun s =>
    let napping := get F.PMU_STATE_STATE s = 3 && wakeEnabled 2 s
    let s := wakeBy 2 bad s
    if napping then updPnl (fun p => { p with wakeNext := true }) s else s) s

/-- An accepted write of `CLK_CTL` (R294): falling, the cores switch down first; rising, they switch once VCORE has settled. -/
def changeOp (op c1 c2 en : Nat) (s : State) : State :=
  let cur := get F.CLK_CTL_OP s
  let same := op = cur ∧ c1 = get F.CLK_CTL_CORE1 s ∧ c2 = get F.CLK_CTL_CORE2 s
  let s := put F.CLK_CTL_SPLL_EN en s
  if same then s
  else
    let s := put F.CLK_STATUS_BUSY 1 (put F.CLK_CTL_OP op (updSup (fun p => { p with opTarget := some (op, c1, c2) }) s))
    if op < cur then setCodes (min c1 (get F.CLK_CTL_CORE1 s)) (min c2 (get F.CLK_CTL_CORE2 s)) s else s

/-- A write of `CLK_CTL` (R294, R286). -/
def clkCtlWrite (w : Word) (s : State) : State :=
  let op := arg F.CLK_CTL_OP w
  let falls := decide (op < get F.CLK_CTL_OP s)
  let c1 := if falls then min op (arg F.CLK_CTL_CORE1 w) else arg F.CLK_CTL_CORE1 w
  let c2 := if falls then min op (arg F.CLK_CTL_CORE2 w) else arg F.CLK_CTL_CORE2 w
  if get F.PMU_STATE_STATE s = 2 ∨ s.sup.opTarget.isSome then raise F.CLK_CAUSE_OP_BUSY s
  else if get F.CLK_CFG_MAX_OP s < op ∨ op < c1 ∨ op < c2 ∨ ((c1 ≠ 0 ∨ c2 ≠ 0) ∧ !(flag F.CLK_STATUS_SPLL_LOCK s)) then
    raise F.CLK_CAUSE_OP_VIOLATION s
  else changeOp op c1 c2 (arg F.CLK_CTL_SPLL_EN w) s

/-- OP_CHANGE (R294). -/
def execOpChange (m : Master) (w : Word) (s : State) : Out := cmdWrite m R.CLK_CTL (clkCtlWrite w) s

/-- OP_DONE (R294). -/
def execOpDone (s : State) : Out := .next (opDone s)

/-- The RTC's clock source. -/
def rtcSource (sirc : Bool) (s : State) : State := put F.CLK_STATUS_RTC_SRC (b2n sirc) (put F.SUP_RTC_STATUS_SIRC (b2n sirc) s)

/-- XTAL32_FAIL (R295): the RTC moves to SIRC. -/
def execXtal32Fail (s : State) : Out :=
  onlyIf (!(flag F.SUP_RTC_STATUS_SIRC s)) (fun s =>
    raise F.CLK_CAUSE_XTAL32_FAIL (rtcSource true (put F.CLK_STATUS_XTAL32_OK 0 s))) s

/-- XTAL32_BACK (R295): after 1 s of steady oscillation. -/
def execXtal32Back (s : State) : Out :=
  onlyIf (flag F.SUP_RTC_STATUS_SIRC s) (fun s =>
    raise F.CLK_CAUSE_XTAL32_BACK (rtcSource false (put F.CLK_STATUS_XTAL32_OK 1 s))) s

/-- MPLL_UNLOCK (R295, R55): the MPLL runs on FIRC, and the frames concerned carry PROV_CLK. -/
def execMpllUnlock (s : State) : Out :=
  onlyIf (flag F.CLK_STATUS_MPLL_LOCK s) (fun s =>
    let s := put F.CLK_STATUS_MPLL_REF 2 (put F.CLK_STATUS_MPLL_LOCK 0 (updSup (fun p => { p with mpllNext := none }) s))
    let s := { s with en := { s.en with flags := withBit s.en.flags 3 } }
    raise F.CLK_CAUSE_MPLL_UNLOCK (if domOn 4 s then put F.CFG_STATUS_PROVISIONAL_CLK 1 s else s)) s

/-- MPLL_LOCK (R55): the reference is XTALM where it is fitted, XTAL32 otherwise; the switch waits for the next epoch, or, while no
frame runs, is made at once. -/
def execMpllLock (s : State) : Out :=
  onlyIf (get F.CLK_STATUS_MPLL_REF s == 2 || !(flag F.CLK_STATUS_MPLL_LOCK s)) (fun s =>
    let s := updSup (fun p => { p with mpllNext := some (if flag F.CLK_CFG_XTALM s then 0 else 1) }) (put F.CLK_STATUS_MPLL_LOCK 1 s)
    if framesRun s then s else clockBoundary s) s

/-- SPLL_UNLOCK (R295): cores and system clock fall back to FIRC. -/
def execSpllUnlock (s : State) : Out :=
  onlyIf (flag F.CLK_STATUS_SPLL_LOCK s) (fun s =>
    let s := setCodes 0 0 (put F.CLK_STATUS_SPLL_LOCK 0 (put F.CLK_STATUS_SYS_SRC 1 s))
    raise F.CLK_CAUSE_SPLL_UNLOCK (updSup (fun p => { p with opTarget := p.opTarget.map fun t => (t.1, 0, 0) }) s)) s

/-- SPLL_LOCK (R293): the system clock moves to SPLL ÷ 6. -/
def execSpllLock (s : State) : Out :=
  onlyIf (flag F.CLK_CTL_SPLL_EN s && !(flag F.CLK_STATUS_SPLL_LOCK s))
    (fun s => put F.CLK_STATUS_SPLL_LOCK 1 (put F.CLK_STATUS_SYS_SRC 0 s)) s

/-- VBAT_LOW (R298); a threshold of 0 disables it. -/
def execVbatLow (s : State) : Out :=
  onlyIf (get F.PMU_VMON_VBAT_LOW s != 0) (fun s => raise F.PMU_CAUSE_VBAT_LOW (put F.PMU_VMON_VBAT_OK 0 s)) s

end Sys2Proof.Machine
end

