-- ==== Sys2Proof/Machine/Boot.lean ====
section
/-! DEFINITION. How a start begins (R31, R33, R46, R56, R246, R298, R300): what D0 keeps, the run number, the probe of the memories. -/
namespace Sys2Proof.Machine

/-- D0 is reset (R298): only what is not volatile stays: the shadow planes, flash, OTP, trim. -/
def powerOnReset (s : State) : State :=
  { State.reset with
    cis := { planes := s.cis.planes }
    obj := { slotA := s.obj.slotA, slotB := s.obj.slotB, interrupted := s.obj.interrupted }
    well := { otp := s.well.otp, provLock := s.well.provLock, dbgKill := s.well.dbgKill, wellInit := s.well.wellInit, spareMap := s.well.spareMap }
    ld := { legalPart := s.ld.legalPart }
    conv := { trim := s.conv.trim }
    bil := keptBil s.bil
    rly := { lcLatch := s.rly.lcLatch }
    free := s.free
    pending := s.pending }

/-- D0_BROWN_OUT (R298). -/
def execD0BrownOut (s : State) : Out := done (powerOnReset s)

/-- The magic of a Tablar image (R36). -/
def imageMagic : Nat := 0x54424C49

/-- The memory the probe settles on (R33): 1 SPI, 2 I²C, 0 none. -/
def probeSource (p : Probe) : Nat := if p.spi = some imageMagic then 1 else if p.i2c = some imageMagic then 2 else 0

/-- The clock in kHz at which the loader reads the sections: SPI 25 MHz, or 50 MHz with FAST; I²C 400 kHz, or 1 MHz (R33). -/
def bodyClock (src : Nat) (fast : Bool) : Nat :=
  if src = 2 then (if fast then 1000 else 400) else if fast then 50000 else 25000

/-- The loader begins to read the memory that the probe settled on. -/
def beginRead (p : Probe) (s : State) : State :=
  let src := probeSource p
  { s with ld := { s.ld with source := src, retrySection := 0, reads := 0, fast := p.fast, spiKhz := bodyClock src p.fast } }

/-- The probe of a load (R33): with no memory the image is refused. -/
def probeMemory (p : Probe) (s : State) : State :=
  let none' := decide (probeSource p = 0)
  let s := beginRead p s
  raiseIf none' F.CFG_CAUSE_NO_MEMORY { s with ld := { s.ld with refused := none' } }

/-- The RUN of the newest bank 0 image in the shadow (R298), 0 when there is none. -/
def newestRun (s : State) : Nat :=
  match lastPlane (planesOf 0 s) with
  | some p => match p.data with
    | .b0 d => match inForce d.acc with
      | some a => a.2.run
      | none => 0
    | _ => 0
  | none => 0

/-- A start counts the occurrences afresh, and the crack loop's readings (R270, `TAMP_FC_STAT_c.TOTAL`). -/
def clearTotals (s : State) : State :=
  (List.range 64).foldl (fun s c => put (F.TAMP_FC_STAT_TOTAL c) 0 s) { s with tamp := { s.tamp with crkBad := 0, crkGood := 0 } }

/-- Debug is sampled at the release of a power-on reset (R246). -/
def sampleDebug (p : Probe) (s : State) : State :=
  if p.dbgEn && !s.well.dbgKill then logTamp 8 0 0 0 (put F.WEL_STATUS_ROOT 1 s) else put F.WEL_STATUS_ROOT 0 s

/-- The UID, the spare map and the supplies at a start. -/
def showIdentity (p : Probe) (s : State) : State :=
  let s := (List.range 4).foldl (fun s w => put (F.SUP_UID_UID w) (field uidBytes (4 * w) 4) s) s
  let s := put F.PMU_VMON_VDD_OK 1 (put F.PMU_VMON_VBAT_OK (b2n p.vbatOk) (put F.PMU_STATE_SUPPLY 0 s))
  match s.well.spareMap with
  | some b => put F.TAMP_STATUS_SPARE_BANK b (put F.TAMP_STATUS_SPARE_USED 1 s)
  | none => s

/-- The clocks at a start (R31, R55): everything on FIRC at OP0. -/
def startClocks (por : Bool) (p : Probe) (s : State) : State :=
  let s := wr R.CLK_CTL 0 (put F.CLK_STATUS_OP 0 (put F.CLK_STATUS_BUSY 0 (put F.CLK_STATUS_SPLL_LOCK 0 (put F.CLK_STATUS_MPLL_LOCK 0 s))))
  let s := put F.CLK_STATUS_SYS_SRC 1 (put F.CLK_STATUS_MPLL_REF (if p.xtalm then 0 else if p.xtal32 then 1 else 2) s)
  let s := put F.CLK_STATUS_XTAL32_OK (b2n p.xtal32) (put F.CLK_STATUS_XTALM_OK (b2n p.xtalm) s)
  if por then rtcSource (!p.xtal32) s else s

/-- Every pad and timer is unclaimed (R43). -/
def unclaimAll (s : State) : State := applyClaims [] [] s

/-- What E0 latches before E1 runs (R46): the producers still tripped, and of the sources that D0 watches those that are active at the release. -/
def latchAt (p : Probe) (s : State) : Nat :=
  s.tamp.prods ||| ((List.range 13).foldl (fun n x => if bit p.alarms x && latchable x then withBit n x else n) 0)

/-- A start (steps 2 to 5 of the timeline) for the cause `cause`, a mask of `SUP_RESET_CAUSE`. D0's histories are kept but at a
power-on reset and on leaving SHIP. -/
def doStart (cause : Nat) (p : Probe) (s : State) : State :=
  let por := cause = 1 || cause = 16
  let n := if por then newestRun s + 1 else run s + 1
  let s := clearTotals (loseDomains s)
  let s := wr R.SUP_RESET_CAUSE (BitVec.ofNat 32 cause) (put F.SUP_RUN_RUN (n % 2 ^ 32) s)
  let s := if por then sampleDebug p s else s
  let s := startClocks por p (showIdentity p s)
  let s := put F.PMU_STATE_STATE 0 (put F.PMU_STATE_PHASE 0 (put F.PMU_STATE_CORE_DOZE 0 (put F.PMU_DOM_STATUS_RET 0 s)))
  let s := { s with
    ld := { legalPart := s.ld.legalPart, latched := latchAt p s, lateAlarms := s.ld.lateAlarms }
    sup := { s.sup with
      mode := .loading, d0Kept := !(por || cause == 4), shipEntry := false, shipFrozen := false, wakePend := 0, abortPend := false
      freezeOnResetN := false, vddRemoved := false, digest := none } }
  let s := [1, 4, 5, 6, 7].foldl (fun s d => powerUp d s) (put F.TAMP_STATUS_EVALUATED 0 s)
  let s := put F.CFG_STATUS_PROVISIONAL_CLK (b2n (get F.CLK_STATUS_MPLL_REF s == 2)) s
  probeMemory p (put F.CFG_STATUS_TAMPER_PENDING 1 (refreshLines 0 (setLoader 1 true false (unclaimAll s))))

/-- START_UP (R31, R291, R292, R56): VDD rises through VDD-good. A freeze whose stores still run is not disturbed; its restart
follows. -/
def execStartUp (p : Probe) (s : State) : Out :=
  let s := put F.PMU_VMON_VDD_OK 1 s
  let begins := s.sup.mode == .por || s.sup.mode == .outage || (s.sup.mode == .ship && s.sup.vddRemoved) ||
    (s.sup.mode == .frozen && !(flag F.NRG_STATUS_FROZEN s) && storesDone s && !s.ld.restartAll)
  .next (if begins then doStart (if s.sup.mode == .frozen then 2 else s.sup.nextCause) p s else s)

/-- DEBUG_START (R300): the debug port, while debug is enabled, asks for a start. -/
def execDebugStart (p : Probe) (s : State) : Out :=
  onlyIf (flag F.WEL_STATUS_ROOT s && (s.sup.mode == .running || s.sup.mode == .loading)) (doStart 64 p) s

/-- RESET_N_LOW (R300, R126, R50): a power-fail detection from the first valid frame on; before it, the restart follows at once. In
a power-fail sequence, and where nothing runs, the low changes nothing. -/
def execResetNLow (p : Probe) (s : State) : Out :=
  onlyIf (s.sup.mode == .running || s.sup.mode == .loading) (fun s =>
    if canFreeze s then powerFail 3 s
    else if storesDone s then doStart 8 p s
    else updSup (fun q => { q with mode := .frozen, freezeOnResetN := true }) s) s

end Sys2Proof.Machine
end

