-- ==== Sys2Proof/Machine/Messages.lean ====
section
/-! DEFINITION. The fabric's messages (R329, R333 to R336). Each kind of message has its row: E2 takes the oldest message of the
kind that E10 holds for it. -/
namespace Sys2Proof.Machine

/-- The oldest message of kind `k` that E10 holds for E2. -/
def heldOf (k : Nat) (s : State) : Option Message := (s.fab.forE2.find? fun e => e.1.mtype == k).map (·.1)

/-- Remove the oldest message of kind `k`. -/
def dropOldest (k : Nat) : List (Message × Nat) → List (Message × Nat)
  | [] => []
  | e :: t => if e.1.mtype = k then t else e :: dropOldest k t

/-- A message for the host of a head waits in its inbox of 8 (R368); one that finds it full, or no head, is dropped. -/
def toInbox (m : Message) (s : State) : State :=
  if isHead s && decide (s.hif.inbox.length < 8) then
    raise F.HIF_CAUSE_FAB_RX (put F.HIF_STATUS_INBOX (s.hif.inbox.length + 1) (updHif (fun h => { h with inbox := h.inbox ++ [m] }) s))
  else raise F.FAB_CAUSE_MSG_DROP s

/-- E2 takes the oldest message of kind `k`, with effect `eff`; one addressed to all heads is the host's (R368). -/
def onMessage (k : Nat) (eff : Message → State → State) (s : State) : Out :=
  match heldOf k s with
  | none => .next s
  | some m =>
    onlyIf (e2Up s) (fun s =>
      let s := updFab (fun f => { f with forE2 := dropOldest k f.forE2 }) s
      if m.dest = .heads then toInbox m s else eff m s) s

/-- SESSION_RSP (R333, R368). -/
def execSessionRsp (s : State) : Out := onMessage 2 toInbox s

/-- CREDIT (R193, R333). -/
def execCreditMsg (s : State) : Out :=
  onMessage 3 (fun m s => queueToken { remote := some m.body, source := 2, reply := .message m.src m.msgId } s) s

/-- CREDIT_RES (R333, R368). -/
def execCreditRes (s : State) : Out := onMessage 4 (fun m s => toInbox m s) s

/-- KEY_RES (R333, R368). -/
def execKeyRes (s : State) : Out := onMessage 6 (toInbox ·) s

/-- A node is a head in the route table (R336). -/
def headRoute (n : Node) (s : State) : Option Nat :=
  match n with
  | .short a =>
    match routeTo a s with
    | some r => if r.head then some a else none
    | none => none
  | .eui _ => none

/-- The difference in µs between the UTC seconds given for crossing `fcn` and the own RTC, at sub-second `sub`, at that crossing
(R336): the own count's most recent crossing is `nowUs − zcAt` ago, an earlier one as many periods more. -/
def timeDiff (utc fcn sub : Nat) (s : State) : Int :=
  let ago : Int := signed 32 (get F.FAB_FCN_FCN s + 2 ^ 32 - fcn % 2 ^ 32)
  let since : Int := (nowUs s : Int) - s.lmd.zcAt + ago * (10 ^ 12 / max 1 s.metro.fGrid : Nat)
  10 ^ 6 * utc - ((10 ^ 6 * rtc s + 10 ^ 6 * sub / 1024 : Nat) - since)

/-- TIME (R336); an accepted message confirms the time (R298), and below 1 s there is nothing to adjust. The difference is passed in whole
seconds, cut towards 0 (log 32); the RTC's sub-second is free (log 8). The body's numbers are the seconds, the FCN and whether it was valid at the sender (log 12). -/
def execTimeMsg (s : State) : Out :=
  onMessage 7 (fun m s =>
    match headRoute m.src s, Config.fieldsOf 7 m.body with
    | some a, [utc, fcn, valid] =>
      if !(flag F.FAB_CFG_TIME_EN s) || valid == 0 || !(flag F.FAB_STATUS_FCN_VALID s) then s
      else
        let x := fresh s
        let d := timeDiff utc fcn (x.1 % 1024) s
        if 900 * 10 ^ 6 < d.natAbs then raise F.FAB_CAUSE_TIME_REFUSED x.2
        else adjWrite (BitVec.ofInt 32 (Int.tdiv d (10 ^ 6))) 2 a (put F.SUP_RTC_STATUS_VALID 1 x.2)
    | _, _ => s) s

/-- ALARM (R333, R368). -/
def execAlarmMsg (s : State) : Out := onMessage 8 (fun m => toInbox m) s

/-- TOKEN (R329): the 66 bits are queued with SOURCE 2. -/
def execTokenMsg (s : State) : Out := onMessage 9 (fun m s => queueToken { bits := field m.body 0 9 % 2 ^ 66, source := 2 } s) s

/-- STATUS_MESSAGE (R329): E2 keeps the peer's last one. -/
def execStatusMessage (s : State) : Out := onMessage 10 (fun m s => updFab (fun f => { f with peerStatus := m.body }) s) s

/-- What STATUS reports: the credit state, C, the relay's verified state. -/
def statusNow (s : State) : List Int := [s.pay.cur.state, s.pay.cur.credit, get F.RLY_STATUS_MAIN_STATE s]

/-- STATUS_TIMER (R329): the measurement unit reports every 10 s and after each change; in Pass it is held. -/
def execStatusTimer (s : State) : Out :=
  onlyIf (e10Up s && e2Up s && (fabTab s).peer.isSome && s.ld.tables.prepay.isSome && !(inPass s) &&
    (decide (s.fab.statusAt + 10240 ≤ s.sup.mono) || s.fab.sentStatus != statusNow s)) (fun s =>
    let n := statusNow s
    sendPeer 10 (Config.bodyOf 10 (n.map (wrapTo 64))) (updFab (fun f => { f with statusAt := s.sup.mono, sentStatus := n }) s)) s

/-- HANDOVER_TIMEOUT (R334): messages E10 has held for 2 s. -/
def execHandoverTimeout (s : State) : Out :=
  let late (e : Message × Nat) : Bool := decide (e.2 + 2048 ≤ s.sup.mono)
  onlyIf (e10Up s) (fun s =>
    (s.fab.forE2.filter late).foldl (fun s e => refuseMessage e.1 s)
      (updFab (fun f => { f with forE2 := f.forE2.filter fun e => !(late e) }) s)) s

end Sys2Proof.Machine
end

