-- ==== Sys2Proof/Machine/StartMetro.lean ====
section
/-! DEFINITION. What starts with D1 and D2: the converter map (R60, R62), the alignment (R89), the tracker (R95), the restore of
the accumulators (R127, R131). -/
namespace Sys2Proof.Machine

/-- Slice `sl`'s coefficients in its registers (R61). -/
def showCoef (sl : Nat) (c : Int × Int × Int) (s : State) : State :=
  putS (F.CNV_SLICE_CAL_GAIN sl) c.1 (putS (F.CNV_SLICE_CAL_OFFSET sl) c.2.1 (putS (F.CNV_SLICE_CFG_DELAY sl) c.2.2 s))

/-- The slice coefficients at a start (R62): from the keep record, or trim values when it is invalid. -/
def startCoefs (s : State) : List (Int × Int × Int) := (keepRec s).slices

/-- The slices that idle channels would have used (R59): the next ones in order after the live slices; all of them when every
channel is idle. DESIGN CHOICE: which ones the spec does not name (log 43). -/
def darkSlices (act : List Nat) (s : State) : Nat :=
  let rest := (liveSlices s).drop act.length
  ((if act.isEmpty then rest else rest.take (8 - act.length))).foldl (fun m sl => withBit m sl) 0

/-- A slice's registers at a start: live on channel `ch`, a spare that is not ready, or retired. -/
def startSlice (sl : Nat) (s : State) : State :=
  match chanOf sl s with
  | some ch => put (F.CNV_SLICE_CFG_ROLE sl) 0 (put (F.CNV_SLICE_CFG_CHAN sl) ch (put (F.CNV_SLICE_CFG_PGA sl) (get (F.CNV_CHAN_CFG_PGA ch) s) s))
  | none => put (F.CNV_SLICE_CFG_ROLE sl) (if fbit F.CNV_RETIRED_SLICE sl s then 3 else 1) s

/-- The converters at a start: coefficients, the map of R60, the spares. -/
def startConverter (s : State) : State :=
  let cs := startCoefs s
  let s := put F.CNV_RETIRED_SLICE (keepRec s).retired s
  let s := cs.zipIdx.foldl (fun s e => showCoef e.2 e.1 s) s
  let act := (List.range 8).filter fun n => !(idleChan n s)
  let pairs := act.zip (liveSlices s)
  let s := { s with conv := { s.conv with dark := darkSlices act s } }
  let s := (List.range 8).foldl (fun s n => setMap n 15 s) s
  let s := pairs.foldl (fun s e => setMap e.1 e.2 s) s
  let s := act.foldl (fun s n => put (F.CNV_CHAN_CFG_FAILED n) (b2n (sliceOf n s == 15)) s) s
  let s := (List.range 10).foldl (fun s sl =>
    put (F.CNV_SLICE_CFG_FAULTS sl) (satNat 15 (get (F.TAMP_FC_STAT_IN_WIN sl) s)) (startSlice sl s)) s
  let co := (List.range 8).map fun n => stagedCoef n s
  let s := { s with conv := { s.conv with lastTaken := cs, inForce := co, committed := co } }
  let s := showSpares (put F.CNV_STATUS_ROT_STATE 7 s)
  if s.ld.keepBad || (inForce s.cis.b1.keep).isNone then sliceEvent 4 0xFF { s with ld := { s.ld with keepBad := false } } else s

/-- The automatic alignment (R89). -/
def align (s : State) : State :=
  let act := (List.range 8).filter fun n => !(idleChan n s)
  let top := act.foldl (fun (m : Int) n => max m (fixedDelay n s)) 0
  (List.range 8).foldl (fun s n =>
    put (F.FLT_CHAN_CFG_ALIGN n) (if idleChan n s then 0 else (top - fixedDelay n s).toNat) s) s

/-- The tracker at a start (R95): ACQUIRE from the nominal frequency; OFF when every channel is idle or the chain is stopped. -/
def startTracker (s : State) : State :=
  let f := if flag F.PHE_FRAME_POS_NOMINAL s then 60000000 else 50000000
  let off := flag F.FLT_STATUS_STOPPED s || (List.range 8).all fun n => idleChan n s
  setGrid f (setTracker (if off then 0 else 1) (put F.FLT_STATUS_TRK_REF (get F.FLT_TRK_CTL_REF_PREF s) s))

/-- The RESULT of R127, with MULTI_RUN and LOST_FRAMES. An image that is newer than the freeze record cannot be compared with it and
counts as unverified. -/
def restoreResult (im : Option AccImage) (fz : Option FreezeRec) : Nat × Nat × Nat :=
  match im, fz with
  | none, _ => (4, 0, 0)
  | some _, none => (3, 0, 0)
  | some a, some f =>
    if a.kind = 2 ∧ a.run = f.run ∧ a.frame = f.frame then (1, 0, 0)
    else if a.run < f.run then (2, 1, satNat 0xFFFFFF (f.frame + 1))
    else if a.run = f.run then (2, 0, satNat 0xFFFFFF ((f.frame + 2 ^ 32 - a.frame) % 2 ^ 32))
    else (3, 0, 0)

/-- The record of KIND 0x0102 (R399). -/
def restoreEntries (r : Nat × Nat × Nat) (s : State) : List (List Byte) :=
  let stored := if r.1 = 4 then 0 else (storedAt 0 s).getD 0
  let fz := match s.sup.freeze with
    | some f => if r.1 = 2 then f.rtc else 0
    | none => 0
  [le 1 r.1 ++ le 1 r.2.1 ++ zeros 2 ++ le 4 r.2.2, le 4 stored ++ le 4 fz]

/-- Load the accumulators, residues and backlogs (R122, R131). -/
def loadAcc (im : Option AccImage) (s : State) : State :=
  let acc := match im with | some a => a.acc | none => List.replicate 40 0
  let pulse := match im with | some a => a.pulse | none => List.replicate 4 (0, 0)
  let s := { s with en := { s.en with
    acc := acc, accStart := acc, accPub := acc, pulses := pulse.map fun p => (({ resid := p.1 } : PulseSt)) } }
  publishAcc (pulse.zipIdx.foldl (fun s e => put (F.NRG_PULSE_STAT_BACKLOG e.2) e.1.2 s) s)

/-- The restore of the accumulators (R127). -/
def restoreAcc (s : State) : State :=
  let im := (inForce s.cis.b0.acc).map (·.2)
  let r := restoreResult im s.sup.freeze
  let s := put F.NRG_RESTORE_RESULT r.1 (put F.NRG_RESTORE_MULTI_RUN r.2.1 (put F.NRG_RESTORE_LOST_FRAMES r.2.2 (loadAcc im s)))
  let quiet := r.1 = 1 || (r.1 = 4 && fbit F.CIS_RECALL_BLANK 0 s)
  let s := if quiet then s else legalEvent 0x0102 0xFF (restoreEntries r s) s
  raise F.NRG_CAUSE_RESTORED (raiseIf (decide (r.1 ≠ 1)) F.NRG_CAUSE_RESTORE_LOSS s)

/-- D1 and D2 start afresh, once their registers hold the image's values. -/
def startMetro (s : State) : State :=
  let s := { s with metro := { s.metro with spc := samplesOf (profile s) } }
  let s := put F.PHE_FRAME_POS_RATE (rateCode (samplesOf (profile s))) s
  let s := put F.FLT_STATUS_STOPPED (b2n (!(flag F.FLT_CTL_RUN s))) s
  let s := restoreAcc (startTracker (align (startConverter s)))
  put F.NRG_STATUS_PULSE_IDLE (b2n (guarded s)) s

/-- After a partial start or a re-read that keeps D2 running, E1 takes the billing record; the next tick works through the ticks missed,
at the rate last in force, and compares the sums (R176, R178, R290). -/
def resumeBilling (s : State) : State :=
  let r := held {} s.cis.b0.bill
  let s := updBil (fun b => { b with cur := r, restored := true, rates := [(rtc s, r.rate)] }) s
  showBilling (stageTariff (rebaseP1 s))

end Sys2Proof.Machine
end

