-- ==== Sys2Proof/Machine/Start.lean ====
section
/-! DEFINITION. The load's end (R34, R40 to R53, R290): an image in force, the fallback copy, the halted state; the re-read; the
release of guarded start; the engines' watchdogs (R276). -/
namespace Sys2Proof.Machine

/-- What a load is: a start, a partial start (R290), a re-read that keeps metrology running, a re-read that restarts everything (R52). -/
inductive LoadKind where
  | start | partialStart | keepMetro | restart
deriving DecidableEq, Repr

/-- The load in progress. -/
def loadKind (s : State) : LoadKind :=
  if s.ld.partialRun then .partialStart
  else if s.ld.reread = 2 then (if s.ld.restartAll then .restart else .keepMetro)
  else .start

/-- The registers that a load writes (R52, R290): `metro` are the addresses of the METROLOGY section. -/
def loadWrites (k : LoadKind) (metro : List Nat) (a : Nat) : Bool :=
  let d := blockDom (blockOf a)
  match k with
  | .start => true
  | .partialStart => [3, 4, 5, 6, 8, 9, 10].contains d
  | .keepMetro => [4, 5, 6, 8, 9, 10].contains d || !(metro.contains a)
  | .restart => !([0, 7].contains d) || !(metro.contains a)

/-- The MPLL's reference once CLOCKS is known (R55). -/
def chooseMpll (s : State) : State :=
  let r := if flag F.CLK_CFG_XTALM s && flag F.CLK_STATUS_XTALM_OK s then 0 else if flag F.CLK_STATUS_XTAL32_OK s then 1 else 2
  put F.CLK_STATUS_MPLL_REF r s

/-- The claims of a load (R43, R52, R290): in a partial start, the timers' owners alone. -/
def loadClaims (k : LoadKind) (t : ImgTables) (s : State) : State :=
  match k with
  | .partialStart => t.tims.foldl (fun s e => claimTimer e s) s
  | _ => applyClaims t.pins t.tims s

/-- The capture SRAM's partition as it stands. -/
def partition (s : State) : List Nat := (List.range 3).map fun n => get (F.SPE_PART_BASE n) s * 1024 + get (F.SPE_PART_SIZE n) s

/-- The shares of the capture SRAM stand in their order, each where the one before it ends (R150). -/
def placeShares (loads : Bool) (s : State) : State :=
  if loads && domOn (blockDom (blockOf R.SPE_CFG)) s then
    let a := get (F.SPE_PART_SIZE 0) s
    put (F.SPE_PART_BASE 0) 0 (put (F.SPE_PART_BASE 1) a (put (F.SPE_PART_BASE 2) (a + get (F.SPE_PART_SIZE 1) s) s))
  else s

/-- At a re-read that keeps metrology running the section's channel coefficients apply again (R80), from the next epoch on (R12). -/
def sectionCoefs (regs : List (Nat × Word)) (s : State) : State :=
  let coef (a : Nat) : Bool := (List.range 8).any fun n => a == R.CNV_CHAN_GAIN n || a == R.CNV_CHAN_OFS n || a == R.FLT_DELAY n
  let s := loadRegs coef regs s
  put F.CNV_STATUS_CAL_UNSAVED 0 { s with conv := { s.conv with
    commitPend := true, committed := (List.range 8).map fun n => stagedCoef n s } }

/-- The register part of a load: domains up, values, claims, clocks. The profile in force changes by a staged change alone (R22): a re-read that
keeps metrology running leaves it. -/
def writeLoad (k : LoadKind) (regs : List (Nat × Word)) (metro : List Nat) (t : ImgTables) (s : State) : State :=
  let part := partition s
  let running := profile s
  let s := [2, 8, 9, 10].foldl (fun s d => powerUp d s) s
  let s := if k = .start ∨ k = .restart then powerUp 3 s else s
  let p := loadWrites k metro
  let s := loadRegs p regs (defaultRegs p { s with ld := { s.ld with tables := t, imageRegs := regs, locked := true } })
  let s := if k = .keepMetro then put F.PHE_PROFILE_CTL_ACTIVE running s else s
  let s := t.saveLists.foldl (fun s e => put (F.PMU_DOM_CFG_SAVE_N e.1) e.2.length (put (F.PMU_DOM_CFG_BANK e.1) (bankOfDom e.1) s)) s
  let s := placeShares (p R.SPE_CFG) s
  let s := if inPass s && domOn 3 s then d3Off s else s
  let s := if k = .keepMetro ∧ part ≠ partition s then loseCapture s else s
  let s := loadClaims k t (put F.CLK_CTL_SPLL_EN (get F.CLK_CFG_SPLL s) s)
  let s := if k = .start ∨ k = .restart then chooseMpll s else if k = .keepMetro then sectionCoefs regs s else s
  put F.CFG_STATUS_PROVISIONAL_CLK (b2n (get F.CLK_STATUS_MPLL_REF s == 2)) s

/-- What runs once the registers stand: metrology, where it starts afresh, then the engines' records. -/
def startEngines (k : LoadKind) (s : State) : State :=
  let fresh := k = .start ∨ k = .restart
  let s := { s with sup := { s.sup with mode := .running }, ld := { s.ld with partialRun := false, reread := 0, restartAll := false } }
  let s := if fresh then startMetro s else s
  let s := if k = .start ∨ k = .partialStart then counterAdd 6 65536 s else s
  let s := raiseIf (k == .partialStart) F.PMU_CAUSE_PARTIAL s
  let s := restoreCredit (decide fresh) (startObjects (startFabric (startModem (startWell (refreshLines 0 s)))))
  if fresh then restoreBilling s else resumeBilling s

/-- The first four bytes of a legal ID (R41). -/
def legalHead (id : Nat) : Nat := id / 2 ^ 224 % 2 ^ 32

/-- The fallback copy in force (R47). -/
def fallbackRec (s : State) : Option Fallback := (inForce s.cis.b1.fall).map (·.2)

/-- The halted state (R50): metrology does not start, and the boot ROM claims its own pads. -/
def haltedPins : List PinClaim :=
  [⟨0, 2, 0, 0, 0⟩, ⟨1, 2, 1, 0, 0⟩, ⟨2, 2, 2, 0, 0⟩, ⟨3, 2, 3, 0, 0⟩, ⟨4, 3, 0, 0, 0⟩, ⟨5, 3, 1, 0, 0⟩, ⟨6, 4, 0, 0, 0⟩, ⟨7, 4, 1, 0, 0⟩]

/-- Halt (R50): I²C at address 0x4C, `UART_0` at 115 200 Bd, `IRQ_N` open-drain. -/
def halt (s : State) : State :=
  let s := [2, 3, 8, 9, 10].foldl (fun s d => powerDown d (clearDom d s)) s
  let s := { s with
    sup := { s.sup with mode := .running, digest := none }
    ld := { s.ld with tables := {}, imageRegs := [], partialRun := false, reread := 0, restartAll := false, source := 0 } }
  let s := wr R.HIF_CFG 0x4C (wr (R.HIF_UART_CFG 0) 8 s)
  setLoader 5 true false (put F.CFG_STATUS_REREAD_BUSY 0 (applyClaims haltedPins [] s))

/-- The responses of every counter in fallback (R49, R275): IRQ and DISPLAY. -/
def fallbackResponses (s : State) : State := (List.range 64).foldl (fun s c => wr (R.TAMP_FC_RESP c) 3 s) s

/-- The fallback's version and legal ID in the CFG registers. -/
def showFallback (f : Fallback) (s : State) : State :=
  put F.CFG_STATUS_SOURCE 0 (put F.CFG_IMAGE_VER_VERSION f.version (put F.CFG_LEGAL_ID_ID (legalHead f.legalId)
    (put F.CFG_ROLLBACK_FLOOR_FLOOR (keepRec s).floor s)))

/-- Start from the fallback copy `f` (R48, R49). A re-read whose load fails keeps metrology running when the copy's METROLOGY section
is the one that runs. -/
def runFallback (f : Fallback) (s : State) : State :=
  let h := Config.sha256 (metroBytes f.sections)
  let k := match loadKind s with
    | .keepMetro => if h = s.ld.metroHash then LoadKind.keepMetro else .restart
    | x => x
  let s := if k = .restart ∧ loadKind s = .keepMetro then restartDoms [1, 2, 3] s else s
  let metro := match f.sections.find? fun x => x.typ == 3 with
    | some x => x.regs.map (·.1)
    | none => []
  let s := setLoader 4 (s.ld.guard || k = .start) true (showFallback f s)
  let s := writeLoad k (sectionRegs f.sections ++ f.hifRegs) metro f.tables s
  let s := { s with ld := { s.ld with metroHash := h }, sup := { s.sup with digest := none } }
  put F.CFG_STATUS_REREAD_BUSY 0 (startEngines k (fallbackResponses s))

/-- No image is accepted (R48, R50). -/
def fallbackStart (s : State) : State :=
  match fallbackRec s with
  | none => halt s
  | some f => if legalIdOf f.sections s = f.legalId then runFallback f s else halt s

/-- What the probe of a start inside a row finds: the memories as they were probed. -/
def knownProbe (s : State) : Probe :=
  { spi := if s.ld.source = 1 then some imageMagic else none
    i2c := if s.ld.source = 2 then some imageMagic else none
    xtal32 := flag F.CLK_STATUS_XTAL32_OK s
    xtalm := flag F.CLK_STATUS_XTALM_OK s
    dbgEn := flag F.WEL_STATUS_ROOT s
    vbatOk := flag F.PMU_VMON_VBAT_OK s }

/-- The load in progress is refused: a partial start becomes a start as from power-on reset (R290); any other falls back once the
Cistern has been recalled. -/
def refuseLoading (s : State) : State :=
  if s.ld.partialRun then doStart 1 (knownProbe s) (powerOnReset s)
  else if s.cis.recalled then fallbackStart s
  else { s with ld := { s.ld with refused := true } }

/-- The first pass of a re-read fails (R52): the device keeps running. -/
def passOneFails (s : State) : State :=
  raise F.CFG_CAUSE_REREAD_FAIL (put F.CFG_STATUS_REREAD_BUSY 0 { s with ld := { s.ld with reread := 0 } })

/-- A section read again: the `n`th read of section `sect`. On SPI each read again halves the clock of the read before, down to 12.5 MHz; on I²C the
clock stays (R34). -/
def retryRead (sect n : Nat) (s : State) : State :=
  let first := bodyClock s.ld.source s.ld.fast
  { s with ld := { s.ld with
    retrySection := sect, reads := n, spiKhz := if s.ld.source = 2 then first else max 12500 (first / 2 ^ (n - 1)) } }

/-- SECTION_RETRY (R34): the section is read again, and `ok` says whether its CRC holds now. The third failed read rejects the
image. -/
def execSectionRetry (sect : Nat) (ok : Bool) (s : State) : Out :=
  let reading := s.ld.reread = 1 || ((s.ld.conf = 1 || s.ld.conf = 2) && !s.ld.refused && s.ld.source != 0)
  onlyIf reading (fun s =>
    let n := if s.ld.retrySection = sect ∧ s.ld.reads = 2 then 3 else 2
    let s := retryRead sect n s
    if ok || n != 3 then s
    else
      let s := showFail { cause := F.CFG_CAUSE_CRC_FAIL, sect := sect } { s with ld := { s.ld with retrySection := 0, reads := 0 } }
      if s.ld.reread = 1 then passOneFails s else refuseLoading s) s

/-- The rollback floor and the fallback copy that an accepted image leaves in bank 1 (R42, R47); the bank's store has committed before
anything of the image runs. -/
def keepImage (img : Image) (s : State) : State :=
  let raises := decide ((keepRec s).floor < img.version)
  let f := deriveFallback img
  let differs := decide (fallbackRec s ≠ some f)
  let s := if raises then writeKeep (fun k => { k with floor := img.version }) s else s
  let s := if differs then dirty 1 { s with cis := { s.cis with b1 := { s.cis.b1 with fall := writeCopy s.cis.b1.fall f } } } else s
  if raises || differs then storeNow 1 s else s

/-- The addresses a METROLOGY section carries. -/
def metroAddrs (img : Image) : List Nat := match sectionOf 3 img with | some x => x.regs.map (·.1) | none => []

/-- An image is accepted (R40 to R43). -/
def acceptImage (img : Image) (s : State) : State :=
  let k := loadKind s
  let s := keepImage img s
  let s := setLoader 3 (s.ld.guard || k = .start) false s
  let s := put F.CFG_IMAGE_VER_VERSION img.version (put F.CFG_LEGAL_ID_ID (legalHead img.legalId)
    (put F.CFG_ROLLBACK_FLOOR_FLOOR (keepRec s).floor (put F.CFG_STATUS_SOURCE s.ld.source s)))
  let s := writeLoad k (sectionRegs img.sections) (metroAddrs img) img.tables s
  let s := { s with
    ld := { s.ld with metroHash := Config.sha256 (metroBytes img.sections) }
    sup := { s.sup with digest := some (imageDigest img) } }
  let s := startEngines k s
  if k = .keepMetro ∨ k = .restart then raise F.CFG_CAUSE_REREAD_DONE (put F.CFG_STATUS_REREAD_BUSY 0 s) else s

/-- The loader places the image in main SRAM from the first byte of bank 2 (R35, log 42). -/
def placeImage (img : Image) (s : State) : State := wrBytes 0x20080000 (signedBytes img ++ be 64 img.sig) s

/-- IMAGE_VERIFY (R40): the image has been read and hashed, the Cistern recalled. A partial start takes nothing but the running image. -/
def execImageVerify (img : Image) (s : State) : Out :=
  onlyIf ((s.ld.conf = 1 || s.ld.conf = 2) && !s.ld.refused && s.ld.source != 0 && s.cis.recalled && domOn 4 s &&
      (s.sup.mode == .loading || s.sup.mode == .running)) (fun s =>
    let s := placeImage img s
    match checkImage img s with
    | some f => refuseLoading (showFail f s)
    | none =>
      if s.ld.partialRun ∧ s.sup.digest ≠ some (imageDigest img) then refuseLoading s
      else acceptImage img s) s

/-- A legal copy whose mark is set is completed (R243): the body of the slot that received the package goes into the legal partition. -/
def finishLegalCopy (s : State) : State :=
  let u := updRec s
  if !u.copyMark then s
  else
    let slot := if u.active = 0 then s.obj.slotB else s.obj.slotA
    let s := { s with ld := { s.ld with legalPart := (slot.drop 0x40).take 524288 } }
    let s := if legalFits 0 s then legalChange 0x0003 (if flag F.OBJ_STATUS_LEGAL_SESSION s then 5 else 0xFF) [] s else s
    raise F.UPD_CAUSE_LEGAL_DONE (writeUpd (fun u => { u with copyMark := false }) s)

/-- RECALL_DONE (R214, R221, R238): the spread counters are completed, E1 finds its places in the legal log, losses and blank banks logged, the tamper queue written; a legal copy
that a reset cut short is completed (R243); a load already refused falls back (R48). -/
def execRecallDone (s : State) : Out :=
  onlyIf (domOn 7 s && !s.cis.recalled && get F.CIS_QUEUE_RECALLED s == 0xFFFF) (fun s =>
    let marked := s.cis.b0.spread.any (·.mark)
    let s := updCis (fun c => { c with
      recalled := true, grants := [], tickAt := s.sup.mono, b0 := { c.b0 with spread := c.b0.spread.map spreadRepair }, b2 := legalPlaces c.b2 }) s
    let s := if marked then dirty 0 s else s
    let s := { s with ld := { s.ld with keepBad := (inForce s.cis.b1.keep).isNone } }
    let s := put F.CFG_ROLLBACK_FLOOR_FLOOR (keepRec s).floor s
    let s := if domOn 1 s then put F.CNV_RETIRED_SLICE (keepRec s).retired s else s
    let s := if flag F.SUP_RTC_STATUS_VALID s then s else put F.SUP_RTC_SEC_SEC (max (rtc s) (newestStamp s)) s
    let es := recallEntries s
    let s := if es.isEmpty || get F.CIS_RECALL_BLANK s == 0xFFFF then s else legalEvent 0x0103 0xFF es s
    let mark := (updRec s).copyMark
    let s := flushTamp (restoreFaults (reportTies s))
    let s := finishLegalCopy (if s.tamp.recDue then keepFaults s else s)
    let s := if mark then storeBanks 6 s else s
    if s.ld.refused then fallbackStart s else s) s

/-- GUARD_RELEASE (R45): at the start of a valid frame, with an image or the fallback copy in force and the tamper state evaluated. -/
def execGuardRelease (s : State) : Out :=
  onlyIf (guarded s && framesRun s && s.metro.pos == 0 && configured s && evaluated s) (fun s =>
    let s := put F.CFG_STATUS_GUARDED 0 { s with ld := { s.ld with guard := false } }
    let s := raise F.CFG_CAUSE_GUARD_RELEASED (put F.NRG_STATUS_PULSE_IDLE 0 s)
    refreshLines 0 (nextToken (releaseRelays s))) s

/-- The stores that the controller has accepted complete (R56). -/
def finishStores : Nat → State → State
  | 0, s => s
  | n + 1, s => match lowestBank (get F.CIS_STATUS_COPYING s) with
    | none => s
    | some c => finishStores n (commitStore c s)

/-- A load from step 3 of the timeline with D0 kept (R50), from the halted state: the stores accepted complete, the domains start afresh and
the Cistern is recalled. -/
def reloadHalted (p : Probe) (s : State) : State :=
  let s := restartDoms [1, 4, 5, 6, 7] (finishStores 17 s)
  let s := { s with
    cis := { planes := s.cis.planes }
    sup := { s.sup with mode := .loading }
    ld := { legalPart := s.ld.legalPart, latched := s.ld.latched, lateAlarms := s.ld.lateAlarms } }
  probeMemory p (setLoader 1 true false s)

/-- A write of `CFG_CTL` that asks for a re-read (R51). -/
def asksReread (w : Word) : Bool := arg F.CFG_CTL_KEY w == 0xA5 && arg F.CFG_CTL_REREAD w != 0

/-- A write of `CFG_CTL` (R51, R53, R241). -/
def cfgCtlWrite (p : Probe) (w : Word) (s : State) : State :=
  if !(asksReread w) then s
  else if halted s then reloadHalted p s
  else if s.ld.reread ≠ 0 ∨ s.ld.partialRun ∨ (1 ≤ updState s ∧ updState s ≤ 5) ∨ updState s = 7 then raise F.CFG_CAUSE_REREAD_REFUSED s
  else if probeSource p = 0 then raise F.CFG_CAUSE_REREAD_FAIL (raise F.CFG_CAUSE_NO_MEMORY s)
  else
    let s := beginRead p s
    put F.CFG_STATUS_REREAD_BUSY 1 { s with ld := { s.ld with reread := 1 } }

/-- A host's write of `CFG_CTL` that asks for no re-read: the halted device answers it DENIED (R50). -/
def deniedReread (m : Master) (w : Word) : Bool := isHost m && !(asksReread w)

/-- REREAD (R51). -/
def execReread (m : Master) (w : Word) (p : Probe) (s : State) : Out :=
  cmdWrite m R.CFG_CTL (fun s => if deniedReread m w then denied m s else cfgCtlWrite p w s) s

/-- The second pass loads (R52): the domains restart, the locks are lifted for the load. -/
def beginSecondPass (all : Bool) (s : State) : State :=
  let ld := s.ld
  let s := if flag F.PHE_PROFILE_CTL_PENDING s then dropProfile s else s
  let s := coresAtOp0 (restartDoms ((if all then [1, 2, 3] else []) ++ [4, 5, 6, 8, 9, 10]) s)
  let s := put F.PMU_STATE_STATE 0 (put F.PMU_STATE_CORE_DOZE 0 (put F.PMU_STATE_PHASE 0 s))
  let s := { s with
    sup := { s.sup with
      mode := if all then .loading else .running, quarantined := 0, coldReq := false, shipEntry := false, wakePend := 0, abortPend := false }
    ld := { ld with reread := 2, restartAll := all, refused := false, retrySection := 0, reads := 0, locked := false } }
  put F.CFG_STATUS_REREAD_BUSY 1 (setLoader 1 ld.guard false s)

/-- REREAD_PASS_ONE_DONE (R52): the image has been checked without being stored. -/
def execRereadPassOneDone (img : Image) (s : State) : Out :=
  onlyIf (s.ld.reread == 1 && s.sup.mode == .running) (fun s =>
    match checkImage img s with
    | some f => passOneFails (showFail f s)
    | none =>
      if Config.sha256 (metroBytes img.sections) = s.ld.metroHash then
        beginSecondPass false s
      else
        let s := powerFailStore (freezeMetro 0 s)
        updSup (fun p => { p with mode := .frozen })
          { s with ld := { s.ld with reread := 2, restartAll := true, rereadFrom := some s.sup.mono } }) s

/-- FREEZE_RESTART (R291, R127, R52): the store has completed with VDD at or above VDD-good, `RESET_N` high. -/
def execFreezeRestart (p : Probe) (s : State) : Out :=
  onlyIf (s.sup.mode == .frozen && storesDone s && vddGood s) (fun s =>
    if s.ld.restartAll && s.ld.reread == 2 then beginSecondPass true s
    else doStart (if s.sup.freezeOnResetN then 8 else if s.sup.freeze.isSome then 128 else 2) p s) s

/-- LEGAL_COPY_DONE (R243): the slot has been copied; the record and the cleared mark are stored, and the device restarts as at
power-on reset. -/
def execLegalCopyDone (p : Probe) (s : State) : Out :=
  onlyIf (updState s == 7 && (updRec s).copyMark && domOn 5 s) (fun s =>
    doStart 1 p (powerOnReset (storeNow 2 (storeNow 1 (finishLegalCopy s))))) s

/-- D5 restarts: its registers take the image's values again, its timers their owners, and E2 starts from its records (R196, R242). -/
def restartD5 (s : State) : State :=
  let s := restartDoms [5] (closeAll s)
  let d5 (a : Nat) : Bool := blockDom (blockOf a) == 5
  let s := loadRegs d5 s.ld.imageRegs (defaultRegs d5 s)
  let s := s.ld.tables.tims.foldl (fun s e => claimTimer e s) s
  stageTariff (restoreCredit false (startObjects s))

/-- The trial of the new slot has failed (R242): D5 restarts from the old slot, the new one is rejected. -/
def revertTrial (s : State) : State :=
  if (updRec s).inTrial then raise F.UPD_CAUSE_REVERTED (restartD5 (rejectTrial s)) else s

/-- What a watchdog expiry of engine `e` costs at once (R276): E2's sessions and trial, E7's frames, E8's working slots and queue, E9's frame. -/
def quarantineEffect (e : Nat) (s : State) : State :=
  if e = 2 then revertTrial (closeAll s)
  else if e = 8 then updWell (fun w => { w with slots := [], jobs := [], running := none, parents := [] }) (abortJob s)
  else if e = 7 then spoilFrames s
  else if e = 9 then
    let s := updLmd (fun l => { l with rx := none }) (abandonTx (abortSounding 5 s))
    if get F.LMD_STATUS_STATE s = 0 ∨ get F.LMD_STATUS_STATE s = 6 then s else lmdState 5 s
  else s

/-- WATCHDOG_EXPIRY (R276): E0's resets the device; any other engine's is quarantined, counted, and cold-started once its counter
becomes lasting. -/
def execWatchdogExpiry (e : Nat) (p : Probe) (s : State) : Out :=
  let up := s.sup.mode == .running && decide (1 ≤ e) && decide (e ≤ 10) && !(bit s.sup.quarantined e)
  if e = 0 ∧ s.sup.mode ≠ .ship ∧ s.sup.mode ≠ .por ∧ s.sup.mode ≠ .outage then .next (doStart 16 p (powerOnReset s))
  else onlyIf up (fun s =>
    let s := raise F.TAMP_CAUSE_QUARANTINE { s with sup := { s.sup with quarantined := withBit s.sup.quarantined e } }
    let s := occurrence (24 + e) 0 e (quarantineEffect e s)
    if s.sup.coldReq then refreshLines 0 (partialStart s) else s) s

/-- ENGINE_RESTART_DONE (R276): the engine comes back with its state from its records. -/
def execEngineRestartDone (e : Nat) (s : State) : Out :=
  onlyIf (bit s.sup.quarantined e) (fun s =>
    let s := { s with sup := { s.sup with quarantined := noBit s.sup.quarantined e } }
    if e = 1 then showBilling (updBil (fun b => { b with cur := { held {} s.cis.b0.bill with rate := b.cur.rate } }) s)
    else if e = 2 then restoreCredit false s
    else if e = 7 then spoilFrames s
    else if e = 9 then (if get F.LMD_STATUS_STATE s = 5 then listening s else s)
    else s) s

end Sys2Proof.Machine
end

