-- ==== Sys2Proof/Machine/Update.lean ====
section
/-! DEFINITION. The update controller (R240 to R244): the package, its verification, the slot switch and its trial, the legal copy. -/
namespace Sys2Proof.Machine

/-- Bytes of an application slot. -/
def appSlotSize : Nat := 786432

/-- What slot `n` holds. -/
def slotBytesOf (n : Nat) (s : State) : List Byte := if n = 0 then s.obj.slotA else s.obj.slotB

/-- Change what slot `n` holds. -/
def setSlotBytes (n : Nat) (f : List Byte → List Byte) (s : State) : State :=
  updObj (fun o => if n = 0 then { o with slotA := f o.slotA } else { o with slotB := f o.slotB }) s

/-- The region being written. -/
def updRegion (s : State) : Nat := get F.UPD_STATUS_REGION s

/-- A command that is refused (R241). -/
def updRefuse (s : State) : State := raise F.UPD_CAUSE_CMD_REFUSED s

/-- BEGIN (R241): the result code of R229, and the region's erase under way. -/
def updBegin (region : Nat) (s : State) : Nat × State :=
  let active := get F.UPD_STATUS_ACTIVE s
  let slot := if region = 2 then 1 - active else region
  if 2 < region then (1, updRefuse s)
  else if updState s ≠ 0 ∨ region = active ∨ s.ld.reread ≠ 0 ∨ (region = 2 ∧ !(legalOk s)) then (11, raise F.UPD_CAUSE_BUSY s)
  else
    let s := setSlotBytes slot (fun _ => []) (updObj (fun o => { o with updLegal := decide (region = 2) }) s)
    let s := writeUpd (setUpdSlot slot 0 0) s
    (0, put F.UPD_STATUS_REGION slot (put F.UPD_LEN_BYTES 0 (put F.UPD_STATUS_STATE 1 s)))

/-- A chunk through the update object (R241): at most 1 024 bytes, in ascending order, within the region. -/
def updChunk (off : Nat) (bs : List Byte) (s : State) : Nat × State :=
  if updState s ≠ 2 then (1, updRefuse s)
  else if off ≠ get F.UPD_LEN_BYTES s ∨ 1024 < bs.length ∨ appSlotSize < off + bs.length then (7, s)
  else (0, put F.UPD_LEN_BYTES (off + bs.length) (setSlotBytes (updRegion s) (fun b => b ++ bs) s))

/-- VERIFY (R241). -/
def updVerify (s : State) : Nat × State :=
  if updState s = 2 then (0, put F.UPD_STATUS_STATE 3 s) else (1, updRefuse s)

/-- ACTIVATE (R242): the record names the pending slot, and bank 1 is stored. -/
def updActivate (s : State) : Nat × State :=
  if updState s ≠ 4 ∨ s.obj.updLegal then (1, updRefuse s)
  else
    let slot := updRegion s
    (0, storeBanks 2 (updObj (fun o => { o with actWait := true }) (writeUpd (fun u => { u with pend := slot }) s)))

/-- ABORT (R241): the region is left empty. -/
def updAbort (s : State) : Nat × State :=
  if 1 ≤ updState s ∧ updState s ≤ 4 ∧ !s.obj.actWait then (0, raise F.UPD_CAUSE_ABORTED (dropUpdate s)) else (1, updRefuse s)

/-- The body of the package in a slot (R240). -/
def packageBody (b : List Byte) : List Byte := (b.drop 0x40).take (field b 0x0C 4)

/-- The LEGAL_ID a package carries. -/
def packageLegalId (b : List Byte) : Nat := ofBe ((b.drop 0x10).take 32)

/-- The image in the configuration memory passes the first pass with the partition that the package brings, and carries its
LEGAL_ID (R243). -/
def legalImageOk (image : Option Image) (body : List Byte) (legalId : Nat) (s : State) : Bool :=
  match image with
  | none => false
  | some img => (checkImage img { s with ld := { s.ld with legalPart := body } }).isNone && img.legalId = legalId

/-- COPY_LEGAL (R243, R239). -/
def updCopyLegal (image : Option Image) (s : State) : Nat × State :=
  let b := slotBytesOf (updRegion s) s
  if updState s ≠ 4 ∨ !s.obj.updLegal ∨ !(legalOk s) ∨ !(legalImageOk image (packageBody b) (packageLegalId b) s) then (1, updRefuse s)
  else if !(legalFits 0 s) then (10, raise F.OBJ_CAUSE_LEGAL_LOG_FULL s)
  else
    let s := deviceStore 1 (writeUpd (fun u => { u with copyMark := true }) s)
    (0, put F.UPD_STATUS_REGION 2 (put F.UPD_STATUS_STATE 7 s))

/-- A write of `UPD_CTL` (R241 to R243). -/
def updCtl (image : Option Image) (w : Word) (s : State) : Nat × State :=
  let c := arg F.UPD_CTL_CMD w
  if arg F.UPD_CTL_KEY w ≠ 0x69 then (1, updRefuse s)
  else if c = 1 then updBegin (arg F.UPD_CTL_REGION w) s
  else if c = 2 then updVerify s
  else if c = 3 then updActivate s
  else if c = 4 then updAbort s
  else if c = 5 then updCopyLegal image s
  else (0, s)

/-- The state after a write of `UPD_CTL`. -/
def updCtlWrite (image : Option Image) (w : Word) (s : State) : State := (updCtl image w s).2

/-- BEGIN (R241). -/
def execUpdBegin (m : Master) (w : Word) (s : State) : Out := cmdWrite m R.UPD_CTL (updCtlWrite none w) s

/-- VERIFY (R241). -/
def execUpdVerify (m : Master) (w : Word) (s : State) : Out := cmdWrite m R.UPD_CTL (fun s => updCtlWrite none w s) s

/-- ACTIVATE (R242). -/
def execUpdActivate (m : Master) (w : Word) (s : State) : Out := cmdWrite m R.UPD_CTL (fun t => updCtlWrite none w t) s

/-- ABORT (R241). -/
def execUpdAbort (m : Master) (w : Word) (s : State) : Out := cmdWrite m R.UPD_CTL (updCtlWrite none w ·) s

/-- COPY_LEGAL (R243), with the image that the external memory holds. -/
def execCopyLegal (m : Master) (w : Word) (image : Option Image) (s : State) : Out := cmdWrite m R.UPD_CTL (updCtlWrite image w) s

/-- ERASE_DONE (R241). -/
def execEraseDone (s : State) : Out := onlyIf (updState s == 1 && domOn 5 s) (put F.UPD_STATUS_STATE 2) s

/-- The update verifier's public key (R250), if it can be loaded. -/
def verifierKey (s : State) : Option Nat × State :=
  let l := loadNamed s.ld.tables.obj.verifyKey (0x10, 0x20) s
  match l.1 with
  | .ok w => (some (slotPublic w), l.2)
  | _ => (none, l.2)

/-- The header's rules: MAGIC, the TARGET that the BEGIN named, a length that fits what was written, the UID (R240, R241). -/
def packageHead (legal : Bool) (b : List Byte) : Bool :=
  let n := field b 0x0C 4
  field b 0 4 = 0x55504B47 && field b 4 1 = (if legal then 2 else 1) && field b 5 3 = 0 && b.length = 0xC0 + n &&
    (!legal || n = 524288) && ((b.drop 0x30).take 16 == zeros 16 || (b.drop 0x30).take 16 == uidBytes)

/-- HSIG, under Halran's firmware key (R240). -/
def hsigOk (b : List Byte) : Bool :=
  let n := field b 0x0C 4
  Config.ecdsaOk Config.firmwareKey (Config.sha256 ((b.drop 4).take 0x2C ++ packageBody b)) (ofBe ((b.drop (0x40 + n)).take 64))

/-- SIG, under the update verifier (R240). -/
def sigOk (key : Nat) (b : List Byte) : Bool :=
  let n := field b 0x0C 4
  Config.ecdsaOk key (Config.sha256 (b.take (0x80 + n))) (ofBe ((b.drop (0x80 + n)).take 64))

/-- A package that fails (R241): the slot is marked rejected. -/
def rejectPackage (cause : Fld) (s : State) : State :=
  let slot := updRegion s
  raise cause (put F.UPD_STATUS_STATE 0 (writeUpd (setUpdSlot slot 3 (field (slotBytesOf slot s) 8 4)) s))

/-- VERIFY_DONE (R241): the checks in their order. -/
def execVerifyDone (s : State) : Out :=
  onlyIf (updState s == 3 && domOn 5 s) (fun s =>
    let slot := updRegion s
    let b := slotBytesOf slot s
    if !(packageHead s.obj.updLegal b && hsigOk b) then rejectPackage F.UPD_CAUSE_VERIFY_FAIL s
    else
      let r := verifierKey s
      match r.1 with
      | none => rejectPackage F.UPD_CAUSE_VERIFY_FAIL r.2
      | some key =>
        if !(sigOk key b) then rejectPackage F.UPD_CAUSE_VERIFY_FAIL r.2
        else if field b 8 4 < (updRec s).floor then rejectPackage F.UPD_CAUSE_ROLLBACK r.2
        else raise F.UPD_CAUSE_VERIFY_OK (put F.UPD_STATUS_STATE 4 (writeUpd (setUpdSlot slot 1 (field b 8 4)) r.2))) s

/-- SLOT_SWITCH (R242): 100 ms after the commit of bank 1 E2 starts from the new slot, in trial. -/
def execSlotSwitch (s : State) : Out :=
  onlyIf (updState s == 5 && s.obj.actAt.any (fun t => decide (t + 102 ≤ s.sup.mono)) && domOn 5 s)
    (fun s => raise F.UPD_CAUSE_ACTIVATED (restartD5 (switchSlot s))) s

/-- TRIAL_CONFIRM (R242): 600 s of E2's running time. -/
def execTrialConfirm (s : State) : Out :=
  onlyIf ((updRec s).inTrial && decide (600 ≤ (updRec s).trialUsed) && e2Up s) (fun s =>
    let u := updRec s
    let ver := if u.active = 0 then u.verA else u.verB
    let s := writeUpd (fun u => { u with inTrial := false, trialUsed := 0, floor := max u.floor ver }) s
    raise F.UPD_CAUSE_CONFIRMED (put F.UPD_STATUS_STATE 0 s)) s

end Sys2Proof.Machine
end

