-- ==== Sys2Proof/Machine/Regs.lean ====
section
/-! DEFINITION. Reads and writes of registers as masters make them: the reads that latch or clear (R5, R30, R120, R183, R184, R236,
R255, R269, R299, R301), the route of a write to the register it changes (R5), run-time claims (R374) and the timers (R377). -/
namespace Sys2Proof.Machine

/-! Reads -/

/-- Every load of the Well is refused (orders 1 to 3 of R253). -/
def wellRefusing (s : State) : Bool := guarded s || inFallback s || blanking s || flag F.WEL_STATUS_KEYS_LOST s

/-- The grants of interface `i` as `CIS_HOST_ACCESS` shows them (R223). -/
def grantWord (i : Nat) (s : State) : Nat :=
  s.cis.grants.foldl (fun n g => if g.1 = i then withBit n (g.2.1 + 16 * g.2.2.1) else n) 0

/-- E7 has the receive path powered for itself (R145): supraharmonics are on, in Plain, and the image holds no FABRIC section. -/
def rxForE7 (s : State) : Bool :=
  e7Works s && profile s == 0 && flag F.SPE_CFG_SH_EN s && s.ld.tables.fabric.isNone

/-- No reading key is loaded: readings are untagged (R234). A key that a tamper event blanks is loaded. -/
def noReadKey (s : State) : Bool :=
  match (loadNamed s.ld.tables.obj.readKey (2, 4) s).1 with
  | .ok _ | .blanked => false
  | _ => true

/-- The value that master `m` reads at `a` before the read's own effect. E8's clock is the system clock: 100 MHz while the SPLL is
locked, 48 MHz otherwise (R260, R293). -/
def shownWord (m : Master) (a : Nat) (s : State) : Word :=
  if a = R.INT_SUMMARY then BitVec.ofNat 32 (summary s)
  else if a = R.WEL_STATUS then withField F.WEL_STATUS_REFUSING (b2n (wellRefusing s)) (rd s a)
  else if a = R.SEC_STATUS then withField F.SEC_STATUS_TRNG_LASTING (b2n (isLasting 45 s)) (withField F.SEC_STATUS_CLK (get F.CLK_STATUS_SPLL_LOCK s) (rd s a))
  else if a = R.SPE_STATUS then withField F.SPE_STATUS_SH_RX_OWN (b2n (rxForE7 s)) (rd s a)
  else if a = R.OBJ_STATUS then withField F.OBJ_STATUS_NO_READ_KEY (b2n (noReadKey s)) (rd s a)
  else if a = R.FAB_ROUTE_INFO then withField F.FAB_ROUTE_INFO_AGE (routeAge s) (rd s a)
  else if a = R.CIS_HOST_ACCESS then BitVec.ofNat 32 (grantWord (ifaceOf m) s)
  else rd s a

/-- Store a number in the word at `a`. -/
def wrNat (a n : Nat) (s : State) : State := wr a (BitVec.ofNat 32 n) s

/-- `PHE_FRAME_NUM` (R30): the sample index is latched beside it. -/
def readFrameNum (s : State) : State := put F.PHE_FRAME_POS_SAMPLE (sampleIdx s) s

/-- `NRG_ACC_LO_k` (R120): the middle and high words of the published value are latched. -/
def readAccLo (k : Nat) (s : State) : State :=
  let v := nth 0 s.en.accPub k / 2 ^ 32
  wrNat (R.NRG_ACC_MID k) (v / 2 ^ 32) (wrNat (R.NRG_ACC_HI k) (v / 2 ^ 64) s)

/-- `BIL_REG_LO` (R183). -/
def readRegLo (s : State) : State := wrNat R.BIL_REG_HI (selected s / 2 ^ 32) s

/-- `PAY_CREDIT_LO` (R184). -/
def readCreditLo (s : State) : State := wrNat R.PAY_CREDIT_HI (wrapTo 64 s.pay.cur.credit / 2 ^ 32) s

/-- `WEL_CTR_LO` (R255). -/
def readWellCtr (s : State) : State := wrNat R.WEL_CTR_HI ((wellRec s).counter / 2 ^ 32) s

/-- `OBJ_READ_CTR` (R236). -/
def readReadCtr (s : State) : State := wrNat R.OBJ_READ_CTR_HI (counter 6 s / 2 ^ 32) s

/-- `SUP_RTC_SEC` (R301): the sub-second is latched; between the ticks it is free (log 8). -/
def readRtcSec (s : State) : State :=
  let f := fresh s
  put F.SUP_RTC_STATUS_SUB (f.1 % 1024) f.2

/-- `EVF_TS_FRAME_l` (R269): the rest of the newest timestamp is latched. -/
def readTsFrame (l : Nat) (s : State) : State :=
  let t := sparseGet (0, 0, 0) s.tamp.tsLive l
  wrNat (R.EVF_TS_POS l) t.2.1 (wrNat (R.EVF_TS_RTC l) t.2.2 s)

/-- `PMU_BUS_FAULT` (R299): the newest access and the live count are latched in `PMU_BUS_FAULT_INFO`. -/
def readBusFault (s : State) : State :=
  wrNat R.PMU_BUS_FAULT_INFO (s.sup.bfInfo + s.sup.bfLive * 2 ^ 16) { s with sup := { s.sup with bfTaken := false } }

/-- `PMU_BUS_FAULT_INFO` (R299): the first read after a latch takes the latched count off the live one. -/
def readBusInfo (s : State) : State :=
  if s.sup.bfTaken then s
  else { s with sup := { s.sup with bfTaken := true, bfLive := s.sup.bfLive - get F.PMU_BUS_FAULT_INFO_COUNT s } }

/-- The bits of the RC fields of the register at `a`. -/
def rcMask (a : Nat) : Word :=
  match regAt a with
  | none => 0
  | some d => d.fields.foldl (fun m f => match f.acc with
    | .rc => m ||| BitVec.ofNat 32 ((2 ^ f.width - 1) * 2 ^ f.lo)
    | _ => m) 0

/-- A read clears its RC fields (R5). -/
def clearRead (a : Nat) (s : State) : State := wr a (rd s a &&& ~~~(rcMask a)) s

/-- The index `k` of the register of a family `n` registers long, `step` bytes apart from `base`, that stands at `a`. -/
def indexAt (base step n a : Nat) : Option Nat :=
  if base ≤ a ∧ a < base + step * n ∧ (a - base) % step = 0 then some ((a - base) / step) else none

/-- What a read of the register at `a` by master `m` changes. -/
def readEffect (m : Master) (a : Nat) (s : State) : State :=
  if a = R.PHE_FRAME_NUM then readFrameNum s
  else if a = R.BIL_REG_LO then readRegLo s
  else if a = R.PAY_CREDIT_LO then readCreditLo s
  else if a = R.WEL_CTR_LO then readWellCtr s
  else if a = R.OBJ_READ_CTR then readReadCtr s
  else if a = R.SUP_RTC_SEC then readRtcSec s
  else if a = R.PMU_BUS_FAULT then readBusFault s
  else if a = R.PMU_BUS_FAULT_INFO then readBusInfo s
  else if a = R.CNV_TAP_DATA then popTap s
  else if a = R.KPD_EVENT then popKey m s
  else match indexAt (R.NRG_ACC_LO 0) 16 40 a with
    | some k => readAccLo k s
    | none => match indexAt (R.EVF_TS_FRAME 0) 16 64 a with
      | some l => readTsFrame l s
      | none => if rcMask a = 0 then s else clearRead a s

/-- The level of the output of timer `n` (R377): inactive unless it counts in PWM, where the free count decides (`none`). -/
def timerLevel (n : Nat) (s : State) : Option Bool :=
  if !(domOn 5 s) || (flag (F.TIM_CTL_RUN n) s && get (F.TIM_CTL_MODE n) s == 3) then none else some (!(flag (F.TIM_CTL_POL n) s))

/-- The level that the device gives pad `n` (R128, R373 to R377), `none` where the world or a free value does: a push-pull GPIO output, an
open-drain one driven low, a pulse output, a timer's. A shared pad carries the timer's output while no pulse is active (R375). -/
def padLevel (n : Nat) (s : State) : Option Bool :=
  let f := get (F.PIN_PAD_FUNC n) s
  if f = 1 then
    let out := fbit (F.PIN_GPIO_OUT_OUT (n / 16)) (n % 16) s
    if !(flag (F.PIN_PAD_DIR n) s) || (flag (F.PIN_PAD_OD n) s && out) then none else some out
  else if f = 9 then
    let k := (n - 0x30) / 2
    let on := flag (F.NRG_PULSE_CFG_POL k) s
    if (nth ({} : PulseSt) s.en.pulses k).active then some on
    else if flag (F.PIN_PAD_SHARED n) s then timerLevel (n % 16) s
    else some (!on)
  else if f = 15 then timerLevel (n % 16) s
  else none

/-- The levels of port `p` (R373): what the device drives, and of the other pads the free bits of `x` (log 2). -/
def portLevels (p x : Nat) (s : State) : Nat :=
  (List.range 16).foldl (fun n k => if (padLevel (16 * p + k) s).getD (bit x k) then withBit n k else n) 0

/-- A count that runs, the levels of the pads that the device does not drive and the field at the magnetic sensor are free values when
they are read (log 2). -/
def liveWord (a : Nat) (s : State) : Option (Word × State) :=
  match indexAt (R.PIN_GPIO_IN 0) 4 5 a with
  | some p => let f := fresh s; some (BitVec.ofNat 32 (portLevels p f.1 s), f.2)
  | none => match indexAt (R.TIM_CNT 0) 16 8 a with
    | some n =>
      if flag (F.TIM_CTL_RUN n) s then
        let f := fresh s
        some (BitVec.ofNat 32 (f.1 % (get (F.TIM_LOAD_LOAD n) s + 1)), f.2)
      else none
    | none => if a = R.TAMP_MAG_VAL then let f := fresh s; some (BitVec.ofNat 32 (f.1 % 2 ^ 30), f.2) else none

/-- A master reads the register at `a`: the value and the state after it. Off the domain it is a bus fault and reads 0 (R299);
where no register stands it reads 0 (R4). -/
def readReg (m : Master) (a : Nat) (s : State) : Word × State :=
  let d := blockDom (blockOf a)
  if !(domOn d s) then (0, busFault m a d (offKind d s) false false s)
  else match liveWord a s with
    | some r => r
    | none => (shownWord m a s, readEffect m a s)

/-- A command that is a read of a register. -/
def cmdRead (m : Master) (a : Nat) (s : State) : Out := .next (readReg m a s).2

/-- FRAME_NUM_READ (R30). -/
def execFrameNumRead (m : Master) (s : State) : Out := cmdRead m R.PHE_FRAME_NUM s

/-- ACC_LO_READ (R120). -/
def execAccLoRead (m : Master) (k : Nat) (s : State) : Out := onlyIf (decide (k < 40)) (fun s => (readReg m (R.NRG_ACC_LO k) s).2) s

/-- BIL_REG_LO_READ (R183). -/
def execBilRegLoRead (m : Master) (s : State) : Out := cmdRead m R.BIL_REG_LO s

/-- PAY_CREDIT_LO_READ (R184). -/
def execPayCreditLoRead (m : Master) (s : State) : Out := cmdRead m R.PAY_CREDIT_LO s

/-- WEL_CTR_LO_READ (R255). -/
def execWelCtrLoRead (m : Master) (s : State) : Out := cmdRead m R.WEL_CTR_LO s

/-- OBJ_READ_CTR_READ (R236). -/
def execObjReadCtrRead (m : Master) (s : State) : Out := cmdRead m R.OBJ_READ_CTR s

/-- RTC_SEC_READ (R301). -/
def execRtcSecRead (m : Master) (s : State) : Out := cmdRead m R.SUP_RTC_SEC s

/-- TS_FRAME_READ (R269). -/
def execTsFrameRead (m : Master) (l : Nat) (s : State) : Out := onlyIf (decide (l < 64)) (fun s => (readReg m (R.EVF_TS_FRAME l) s).2) s

/-- BUS_FAULT_READ (R299). -/
def execBusFaultRead (m : Master) (s : State) : Out := cmdRead m R.PMU_BUS_FAULT s

/-- BUS_FAULT_INFO_READ (R299). -/
def execBusFaultInfoRead (m : Master) (s : State) : Out := cmdRead m R.PMU_BUS_FAULT_INFO s

/-- TAP_DATA_READ (R75): the read removes the oldest entry. -/
def execTapDataRead (m : Master) (s : State) : Out := cmdRead m R.CNV_TAP_DATA s

/-- KPD_EVENT_READ (R352). -/
def execKpdEventRead (m : Master) (s : State) : Out := cmdRead m R.KPD_EVENT s

/-! Run-time claims -/

/-- The owner's code a claim may carry. -/
def ownerOk (o : Nat) : Bool := decide (1 ≤ o) && decide (o ≤ 3)

/-- Pad `n` may take function `f` at run time (R374, R375): GPIO on any pad, a timer's output or input where it can stand; the pad is
unclaimed, or it is a pulse output that a timer's output shares. -/
def padFree (n f : Nat) (s : State) : Bool :=
  decide (n < 80) && [1, 15, 16].contains f && padCan n f (if f = 15 then n % 16 else if f = 16 then n - 0x48 else 0) &&
    (get (F.PIN_PAD_FUNC n) s == 0 || (get (F.PIN_PAD_FUNC n) s == 9 && f == 15 && !(flag (F.PIN_PAD_SHARED n) s)))

/-- GO (R374). -/
def claimGo (w : Word) (s : State) : State :=
  let n := arg F.PIN_CLAIM_INDEX w
  let f := arg F.PIN_CLAIM_FUNC w
  let o := arg F.PIN_CLAIM_OWNER w
  if arg F.PIN_CLAIM_KIND w = 1 then
    if ownerOk o && decide (n < 8) && get (F.TIM_CTL_OWNER n) s == 0 then
      raise F.PIN_CAUSE_CLAIM_DONE (claimTimer (n, o) { s with hif := { s.hif with runTims := n :: s.hif.runTims } })
    else raise F.PIN_CAUSE_CLAIM_CONFLICT s
  else if ownerOk o && padFree n f s then
    raise F.PIN_CAUSE_CLAIM_DONE (claimPad ⟨n, f, 0, o, if f = 15 then 4 else 0⟩ { s with hif := { s.hif with runPads := n :: s.hif.runPads } })
  else raise F.PIN_CAUSE_CLAIM_CONFLICT s

/-- RELEASE (R374): of a run-time claim alone; a pad that shared a pulse output goes back to the pulse. -/
def claimRelease (w : Word) (s : State) : State :=
  let n := arg F.PIN_CLAIM_INDEX w
  if arg F.PIN_CLAIM_KIND w = 1 then
    if s.hif.runTims.contains n then
      raise F.PIN_CAUSE_CLAIM_DONE (claimTimer (n, 0) { s with hif := { s.hif with runTims := s.hif.runTims.filter (· != n) } })
    else s
  else if s.hif.runPads.contains n then
    let s := { s with hif := { s.hif with runPads := s.hif.runPads.filter (· != n) } }
    raise F.PIN_CAUSE_CLAIM_DONE (if flag (F.PIN_PAD_SHARED n) s then put (F.PIN_PAD_SHARED n) 0 s else freePad n s)
  else s

/-- A write of `PIN_CLAIM` (R374). A timer's claim needs D5, whose register holds its owner. -/
def pinClaimWrite (w : Word) (s : State) : State :=
  if arg F.PIN_CLAIM_KIND w = 1 && !(domOn 5 s) then s
  else if arg F.PIN_CLAIM_GO w = 1 then claimGo w s
  else if arg F.PIN_CLAIM_RELEASE w = 1 then claimRelease w s
  else s

/-- CLAIM_GO (R374). -/
def execClaimGo (m : Master) (w : Word) (s : State) : Out := cmdWrite m R.PIN_CLAIM (pinClaimWrite w) s

/-- CLAIM_RELEASE (R374). -/
def execClaimRelease (m : Master) (w : Word) (s : State) : Out := cmdWrite m R.PIN_CLAIM (fun s => pinClaimWrite w s) s

/-! Timers -/

/-- A write of `TIM_CTL_n` (R377): START counts from 0 in one of the four modes; STOP stops, and wins over START. The count at which
a running timer stops is free within its range (log 2). -/
def timCtlWrite (n : Nat) (w : Word) (s : State) : State :=
  let mode := arg (F.TIM_CTL_MODE n) w
  let s := plainWrite (R.TIM_CTL n) w s
  if arg (F.TIM_CTL_STOP n) w = 1 ∨ mode = 0 ∨ 5 ≤ mode then
    if flag (F.TIM_CTL_RUN n) s then
      let f := fresh s
      put (F.TIM_CTL_RUN n) 0 (put (F.TIM_CNT_CNT n) (f.1 % (get (F.TIM_LOAD_LOAD n) s + 1)) f.2)
    else s
  else if arg (F.TIM_CTL_START n) w = 1 then put (F.TIM_CTL_RUN n) 1 (put (F.TIM_CNT_CNT n) 0 s)
  else s

/-- TIMER_START (R377). -/
def execTimerStart (m : Master) (n : Nat) (w : Word) (s : State) : Out :=
  if n < 8 then cmdWrite m (R.TIM_CTL n) (timCtlWrite n w) s else .next s

/-- TIMER_STOP (R377). -/
def execTimerStop (m : Master) (n : Nat) (w : Word) (s : State) : Out :=
  if n < 8 then cmdWrite m (R.TIM_CTL n) (fun s => timCtlWrite n w s) s else .next s

/-- Timer `n` counts. -/
def counting (n : Nat) (s : State) : Bool := decide (n < 8) && domOn 5 s && get F.PMU_STATE_STATE s != 3 && flag (F.TIM_CTL_RUN n) s

/-- TIMER_MATCH (R377): the count has reached `cnt`: CMP sets MATCH, LOAD stops a one-shot. -/
def execTimerMatch (n cnt : Nat) (s : State) : Out :=
  onlyIf (counting n s) (fun s =>
    let s := if cnt = get (F.TIM_CMP_CMP n) s then raiseAt F.TIM_CAUSE_MATCH n s else s
    if cnt = get (F.TIM_LOAD_LOAD n) s ∧ get (F.TIM_CTL_MODE n) s = 1 then
      put (F.TIM_CTL_RUN n) 0 (put (F.TIM_CNT_CNT n) cnt s)
    else s) s

/-- TIMER_CAPTURE (R377): an edge that EDGE selects copies the count, free within its range (log 2), into CMP. `rising` is the edge. -/
def execTimerCapture (n : Nat) (rising : Bool) (s : State) : Out :=
  onlyIf (counting n s && get (F.TIM_CTL_MODE n) s == 4 && bit (get (F.TIM_CTL_EDGE n) s) (if rising then 0 else 1)) (fun s =>
    let f := fresh s
    raiseAt F.TIM_CAUSE_CAPTURE n (put (F.TIM_CMP_CMP n) (f.1 % (get (F.TIM_LOAD_LOAD n) s + 1)) f.2)) s

/-! Writes -/

/-- A write of a channel's staged gain or offset (R79): under the conditions of a legal change alone. -/
def stageCoef (a : Nat) (w : Word) (s : State) : State := if legalOk s then plainWrite a w s else s

/-- A write of `FLT_DELAY_n` (R99): outside ±250 000 ns it is dropped. -/
def delayWrite (a n : Nat) (w : Word) (s : State) : State :=
  let v := signed 19 (arg (F.FLT_DELAY_DELAY n) w)
  if !(legalOk s) then s
  else if v < -250000 ∨ 250000 < v then raise F.FLT_CAUSE_CFG_REFUSED s
  else
    let s := plainWrite a w s
    put F.FLT_STATUS_DELAY_PENDING (b2n (s.conv.commitPend || delayWaits s)) s

/-- A write of the coefficient RAM or `FLT_LEGACY_CFG` (R91): only while the chain is stopped, and, as a legal change (R237), with a
METROLOGY session open and `CAL_EN` high. DESIGN CHOICE: a DELAY above 1 000 000 is stored (log 42). -/
def legacyWrite (a : Nat) (w : Word) (s : State) : State :=
  if !(flag F.FLT_STATUS_STOPPED s) then raise F.FLT_CAUSE_LEGACY_REFUSED s
  else if legalOk s then plainWrite a w s
  else s

/-- The pads of port `p` that master `m` may drive (R376). -/
def ownPins (m : Master) (p : Nat) (s : State) : Nat :=
  (List.range 16).foldl (fun n k =>
    if get (F.PIN_PAD_FUNC (16 * p + k)) s = 1 ∧ get (F.PIN_PAD_OWNER (16 * p + k)) s = ownerCode m then withBit n k else n) 0

/-- A write of `PIN_GPIO_OUT_p` (R376). -/
def gpioWrite (m : Master) (p : Nat) (w : Word) (s : State) : State :=
  let k := BitVec.ofNat 32 (ownPins m p s)
  wr (R.PIN_GPIO_OUT p) ((rd s (R.PIN_GPIO_OUT p) &&& ~~~k) ||| (w &&& k)) s

/-- A register that stores what is written and reads 0. -/
def storedWo (a : Nat) : Bool :=
  a = R.CIS_HOST_PW_0 || a = R.CIS_HOST_PW_1 || (indexAt (R.PAY_TOKEN 0) 4 3 a).isSome || (indexAt (R.WEL_OTP_DATA 0) 4 16 a).isSome

/-- The write functions of the blocks whose writes act, and of the rest by their access codes (R5). -/
def ctlWrite (a : Nat) (w : Word) (wd : World) (s : State) : Option State :=
  if a = R.PHE_PROFILE_CTL then some (profileCtlWrite w s)
  else if a = R.CFG_CTL then some (cfgCtlWrite wd.probe w s)
  else if a = R.CNV_CTL then some (cnvCtlWrite w s)
  else if a = R.CNV_TAP_CFG then some (tapCfgWrite w s)
  else if a = R.CNV_CAL_CTL then some (calCtlWrite w s)
  else if a = R.FLT_CTL then some (fltCtlWrite w s)
  else if a = R.SPE_EVT_CTL then some (evtCtlWrite w s)
  else if a = R.SPE_CAP_CTL then some (capCtlWrite w s)
  else if a = R.SPE_CAP_FULL then some (capFullWrite w s)
  else if a = R.SPE_CAP_CFG then some (capCfgWrite w s)
  else if a = R.SPE_RES_SEL then some (showResults (plainWrite a w s))
  else if a = R.SPE_PQ_LINES then some (refreshLines 0 (plainWrite a w s))
  else if a = R.BIL_CTL then some (bilCtlWrite w s)
  else if a = R.BIL_REG_SEL then some (showBilling (plainWrite a w s))
  else if a = R.TAR_ADJ_REQ then some (adjWrite w 1 0 s)
  else if a = R.PAY_TOKEN_CTL then some (payTokenWrite w s)
  else if a = R.RLY_CTL then some (rlyCtlWrite w s)
  else if a = R.CIS_REPORT then some (cisReportWrite w s)
  else if a = R.UPD_CTL then some (updCtlWrite wd.image w s)
  else if a = R.WEL_OTP_CTL then some (otpWrite w s)
  else if a = R.TAMP_CTL then some (tampCtlWrite w s)
  else if a = R.PMU_CTL then some (pmuCtlWrite w s)
  else if a = R.CLK_CTL then some (clkCtlWrite w s)
  else if a = R.LMD_SND_CTL then some (sndCtlWrite w s)
  else if a = R.FAB_CTL then some (fabCtlWrite w s)
  else if a = R.FAB_ROUTE_SEL then some (showFab (plainWrite a w s))
  else if a = R.PNL_CTL then some (pnlCtlWrite w s)
  else if a = R.PIN_CLAIM then some (pinClaimWrite w s)
  else if a = R.PHE_TAMP_CFG then some (if arg F.PHE_TAMP_CFG_REV_PERSIST w = 0 then s else plainWrite a w s)
  else if a = R.PHE_NEUT_CFG then some (if arg F.PHE_NEUT_CFG_PERSIST w = 0 then s else plainWrite a w s)
  else none

/-- A write of one of a family of registers, of a write-only store, or of any other register by its access codes. -/
def famWrite (m : Master) (a : Nat) (w : Word) (s : State) : State :=
  if (comparatorOf a).isSome then writeWin a w s
  else if (indexAt (R.CNV_CHAN_GAIN 0) 4 8 a).isSome || (indexAt (R.CNV_CHAN_OFS 0) 4 8 a).isSome then stageCoef a w s
  else if a = R.FLT_LEGACY_CFG || (indexAt (R.FLT_LEGACY_COEF 0) 4 128 a).isSome then legacyWrite a w s
  else if storedWo a then { s with hidden := sparseSet 0 s.hidden a w }
  else match indexAt (R.FLT_DELAY 0) 4 8 a with
    | some n => delayWrite a n w s
    | none => match indexAt (R.PIN_GPIO_OUT 0) 4 5 a with
      | some p => gpioWrite m p w s
      | none => match indexAt (R.TIM_CTL 0) 16 8 a with
        | some n => timCtlWrite n w s
        | none => match indexAt (R.PNL_RAM 0) 4 512 a with
          | some k => ramWrite k w s
          | none => if (regAt a).isNone then s else plainWrite a w s

/-- The effect of a write of the register at `a` that the bus lets through, and whether a host hears OK. -/
def writeEffect (m : Master) (a : Nat) (w : Word) (wd : World) (s : State) : Bool × State :=
  if a = R.CFG_CTL && deniedReread m w then (false, denied m s)
  else if a = R.CIS_CTL then cisCtlWrite m w s
  else if a = R.CIS_HOST_UNLOCK then
    let r := unlockWrite (ifaceOf m) w s
    (r.1, if r.1 then r.2 else denied m r.2)
  else match ctlWrite a w wd s with
    | some s => (true, s)
    | none => (true, famWrite m a w s)

/-- A master writes the register at `a`: the status a host hears (0 OK, 2 DOMAIN_OFF, 3 DENIED) and the state after it. -/
def writeReg (m : Master) (a : Nat) (w : Word) (wd : World) (s : State) : Nat × State :=
  let d := blockDom (blockOf a)
  if !(domOn d s) then (2, busFault m a d (offKind d s) true false s)
  else if !(mayWrite m a s) then (3, denied m s)
  else
    let r := writeEffect m a w wd s
    (if r.1 then 0 else 3, r.2)

/-! Memories -/

/-- The bytes of an access. -/
def widthBytes : AccessWidth → Nat
  | .byte => 1
  | .half => 2
  | .word => 4

/-- The regions of the memory map beside the register blocks (chapter 01): first and last address, domain. -/
def memMap : List (Nat × Nat × Nat) :=
  [(0x00000000, 0x0003FFFF, 4), (0x01000000, 0x0107FFFF, 4), (0x01080000, 0x0113FFFF, 5), (0x01140000, 0x011FFFFF, 5),
   (0x20000000, 0x2007FFFF, 4), (0x20080000, 0x201FFFFF, 5), (0x24000000, 0x2407FFFF, 3), (0x28000000, 0x280FFFFF, 7),
   (0x2C000000, 0x2C01FFFF, 0), (0x2D000000, 0x2D017FFF, 9)]

/-- The number of the region that holds `a`. -/
def regionOf (a : Nat) : Option Nat := memMap.findIdx? fun r => decide (r.1 ≤ a) && decide (a ≤ r.2.1)

/-- The domain of region `r`. -/
def regionDom (r : Nat) : Nat := (nth (0, 0, 0) memMap r).2.2

/-- The boot ROM runs in E1: the loader places the image in main SRAM banks 2 to 7 (R35). -/
def bootRuns (m : Master) (s : State) : Bool := m = .engine 1 && s.sup.mode == .loading

/-- The Cistern bank of an address. -/
def bankAt (a : Nat) : Nat := (a - 0x28000000) / 0x10000

/-- The masters that the map lets write region `r` at `a` (R8, R17, R35, R222, R360). -/
def regionWrites (m : Master) (r a : Nat) (s : State) : Bool :=
  match r with
  | 4 => m = .engine 1
  | 5 => m = .engine 2 || m = .engine 8 || bootRuns m s || (isHost m && inMailbox a)
  | 6 => m = .engine 7
  | 7 => m = .engine 1 || m = .engine 2 || (isHost m && hostMay (ifaceOf m) (bankAt a) 1 s)
  | 8 => m = .engine 0
  | 9 => m = .engine 9 || m = .engine 10
  | _ => false

/-- The masters that the map lets read region `r` at `a`. -/
def regionReads (m : Master) (r a : Nat) (s : State) : Bool :=
  match r with
  | 0 => m = .engine 1 || m = .engine 2
  | 1 => m = .engine 1
  | 2 | 3 => m = .engine 2
  | 6 => m = .engine 2 || isHost m
  | 7 => m = .engine 1 || m = .engine 2 || (isHost m && hostMay (ifaceOf m) (bankAt a) 0 s)
  | 8 => m = .engine 0 || m = .engine 1 || m = .engine 2
  | 9 => m = .engine 9 || m = .engine 10 || m = .engine 7
  | _ => regionWrites m r a s

/-- The fault counter of the memory bank at `a` and its number (R18, R275), `none` where the memory carries no code. -/
def eccCounter (a : Nat) : Option (Nat × Nat) :=
  match regionOf a with
  | some 4 | some 5 => some (10 + (a - 0x20000000) / 0x40000, (a - 0x20000000) / 0x40000)
  | some 6 => some (18, 0)
  | some 8 => some (19 + (a - 0x2C000000) / 0x8000, (a - 0x2C000000) / 0x8000)
  | some 9 => some (23, 0)
  | _ => none

/-- What the error-correcting code finds in what is read at `a`: 0 nothing, 1 a corrected error, 2 an uncorrectable one. Either counts in
the counter of its bank (R18, R215). -/
def eccTouch (a ecc : Nat) (s : State) : State :=
  if regionOf a = some 7 then eccCistern ecc s
  else match eccCounter a with
    | some c => if ecc = 0 then s else occurrence c.1 0 c.2 s
    | none => s

/-- A host's access to the Cistern that gets no effect for now: guarded start holds (R222), or the bank copies (R209). -/
def hostWaits (m : Master) (a : Nat) (s : State) : Bool := isHost m && (guarded s || fbit F.CIS_STATUS_COPYING (bankAt a) s)

/-- A read of a memory by a master (R17, R18, R213, R299); a host's access renews its grant of a Cistern bank (R223). -/
def memRead (m : Master) (a n ecc : Nat) (s : State) : State :=
  match regionOf a with
  | none => busFault m a 0 3 false (decide (n < 4)) s
  | some r =>
    if r = 7 && domOn 7 s && hostWaits m a s then s
    else if !(regionReads m r a s) then busFault m a (regionDom r) 2 false (decide (n < 4)) s
    else if !(domOn (regionDom r) s) then busFault m a (regionDom r) (offKind (regionDom r) s) false (decide (n < 4)) s
    else if r = 7 then
      let s := recallTo (bankAt a + 1) s
      eccTouch a ecc (if isHost m then touchGrant (ifaceOf m) (bankAt a) s else s)
    else eccTouch a ecc s

/-- A write to a memory (R17, R299). -/
def memWrite (m : Master) (a : Nat) (w : Word) (n : Nat) (s : State) : State :=
  match regionOf a with
  | none => busFault m a 0 3 true (decide (n < 4)) s
  | some r =>
    if r = 7 && domOn 7 s && hostWaits m a s then s
    else if !(regionWrites m r a s) then busFault m a (regionDom r) 2 true (decide (n < 4)) s
    else if !(domOn (regionDom r) s) then busFault m a (regionDom r) (offKind (regionDom r) s) true (decide (n < 4)) s
    else if r = 7 then sramWrite a (le n w.toNat) s
    else wrBytes a (le n w.toNat) s

/-! Accesses of any width -/

/-- An address in the register blocks. -/
def inRegs (a : Nat) : Bool := decide (0x40000000 ≤ a) && decide (a ≤ 0x401BFFFF)

/-- An access to the register blocks that R3 drops: a byte or halfword, or a word at an address that is no multiple of 4 (log 42). -/
def badAccess (a : Nat) (width : AccessWidth) : Bool := width != .word || a % 4 != 0

/-- READ_TO_CLEAR (R5, R3, R17, R18): a read by a master. In the register blocks it is a read of a register with an RC field, or of any
other; a narrow access there is dropped with a bus fault of KIND 2. Elsewhere it reads the memory that stands there, whose code finds `ecc`. A
narrow access is told before the domain's power (log 42). -/
def execReadToClear (m : Master) (a : Nat) (width : AccessWidth) (ecc : Nat) (s : State) : Out :=
  .next (if !(inRegs a) then memRead m a (widthBytes width) ecc s
    else if badAccess a width then busFault m a (blockDom (blockOf a)) 2 false true s
    else (readReg m a s).2)

/-- REGISTER_WRITE (R5, R3, R17): in the register blocks a byte or halfword access, or an address that is no multiple of 4, is dropped
with a bus fault of KIND 2, which is told before the domain's power (log 42); a write elsewhere goes to the memory that stands there. -/
def execRegisterWrite (m : Master) (a : Nat) (w : Word) (width : AccessWidth) (wd : World) (s : State) : Out :=
  .next (if !(inRegs a) then memWrite m a w (widthBytes width) s
    else if badAccess a width then busFault m a (blockDom (blockOf a)) 2 true true s
    else (writeReg m a w wd s).2)

end Sys2Proof.Machine
end

