-- ==== Sys2Proof/Machine/Objects.lean ====
section
/-! DEFINITION. The object server (chapter 10, R227 to R239): requests and their shape, sessions, readings, set values and methods,
`CAL_EN`. -/
namespace Sys2Proof.Machine

/-! Requests (R232) -/

/-- OP of a request. -/
def opOf (r : ObjReq) : Nat := field r.bytes 0 1

/-- FLAGS bit 0: in session. -/
def inSess (r : ObjReq) : Bool := bit (field r.bytes 1 1) 0

/-- FLAGS bit 1: signed reading. -/
def wantsSig (r : ObjReq) : Bool := bit (field r.bytes 1 1) 1

/-- OBIS of a request, A first. -/
def obisOf (r : ObjReq) : List Nat := ((r.bytes.drop 6).take 6).map (·.toNat)

/-- SEL of a request. -/
def selOf (r : ObjReq) : Nat := field r.bytes 0x0C 1

/-- DLEN of a request. -/
def dlenOf (bs : List Byte) : Nat := field bs 0x0E 2

/-- DATA of a request. -/
def dataOf (r : ObjReq) : List Byte := (r.bytes.drop 0x10).take (dlenOf r.bytes)

/-- DLEN agrees with the length and OP is in the table (R232). -/
def shapeOk (bs : List Byte) : Bool :=
  decide (16 ≤ bs.length) && bs.length == 16 + dlenOf bs + (if bit (field bs 1 1) 0 then 8 else 0) &&
    decide (1 ≤ field bs 0 1) && decide (field bs 0 1 ≤ 6)

/-- A request reaches E2 on interface `i`; a malformed one is answered TYPE_ERROR (R232). -/
def submitObject (i : Nat) (r : ObjReq) (s : State) : State :=
  let s := updObj (fun o => { o with req := upd o.req i fun _ => some r }) s
  if shapeOk r.bytes then s else answerObject i 6 [] s

/-- SESSION_REQ (R333): an object request of interface 6; while one is being answered another is answered BUSY_RETRY. -/
def execSessionReq (s : State) : Out :=
  onMessage 1 (fun m s =>
    match nth none s.obj.req 6 with
    | some _ => respond 2 m.msgId m.src (le 1 4) s
    | none => submitObject 6 ⟨m.body, m.src, m.msgId⟩ s) s

/-- The request of interface `i` waits for a signature, a key operation or a token's result. -/
def answering (i : Nat) (s : State) : Bool :=
  (match s.obj.signing with | some x => x.1 == i | none => false) ||
  (match s.well.ku with | some j => j.reply == .object i | none => false) ||
  (match s.pay.dec with | some t => t.reply == .object i | none => false) ||
  (match s.pay.activating with | some a => a.token.reply == .object i | none => false) ||
  s.pay.queue.any fun t => t.reply == .object i

/-- Sequence number and tag of a request in session hold (R230). -/
def sessionOk (i : Nat) (r : ObjReq) (s : State) : Bool :=
  let x := sessOf i s
  let n := 16 + dlenOf r.bytes
  sessState i s == 2 && field r.bytes 2 4 == x.nextSeq && (r.bytes.drop n).take 8 == stag x.key (r.bytes.take n)

/-- A session's idle time runs from this request. -/
def touchSession (i : Nat) (f : SessSt → SessSt) (s : State) : State :=
  put (F.OBJ_SESS_IDLE_LEFT i) (get F.OBJ_SESS_CFG_IDLE s)
    (updObj (fun o => { o with sess := upd o.sess i fun x => { f x with last := s.sup.mono } }) s)

/-- The check of R230 before the effect `eff` of a request: a request in session with a wrong sequence number or tag is answered
NO_SESSION and closes the session; OPEN and PROOF are never in session. -/
def inSession (i : Nat) (r : ObjReq) (eff : State → State) (s : State) : State :=
  if !(inSess r) then eff s
  else if opOf r ≤ 2 then answerObject i 6 [] s
  else if sessionOk i r s then eff (touchSession i (fun x => { x with nextSeq := (x.nextSeq + 1) % 2 ^ 32 }) s)
  else closeSession i (answerObject i 8 [] s)

/-- E2 works on the request of interface `i` if its OP is `op`. -/
def onRequest (i op : Nat) (eff : ObjReq → State → State) (s : State) : Out :=
  match nth none s.obj.req i with
  | none => .next s
  | some r => onlyIf (e2Up s && opOf r == op && !(answering i s)) (inSession i r (eff r)) s

/-- The role a request has: PUBLIC outside a session (R229). -/
def roleFor (i : Nat) (r : ObjReq) (s : State) : Nat := if inSess r then get (F.OBJ_SESS_ROLE i) s else 0

/-! Sessions (R230, R231) -/

/-- The role key's load (R230): a child of destination host session, bound to the role. -/
def roleKey (role : Nat) (s : State) : Load × State :=
  let l := loadNamed (nth none s.ld.tables.obj.roleKeys (role - 1)) (0x20, 4) s
  match l.1 with
  | .ok w => if w.role = role then l else (.absent, l.2)
  | _ => l

/-- Step 2 of R230: the challenge. -/
def challenge (i role : Nat) (nonce : List Byte) (s : State) : State :=
  let s := closeSession i s
  let d := drbg s
  let c := be 16 (d.1 % 2 ^ 128)
  let s := put (F.OBJ_SESS_ROLE i) role (put (F.OBJ_SESS_STATE i) 1 d.2)
  let s := updObj (fun o => { o with sess := upd o.sess i fun _ => { challenge := c, nonce := nonce, last := s.sup.mono } }) s
  answerObject i 0 c s

/-- An OPEN (R230, R231). -/
def openEffect (i : Nat) (r : ObjReq) (s : State) : State :=
  let role := selOf r
  if guarded s then answerObject i 4 [] s
  else if role = 0 ∨ 5 < role then answerObject i 1 [] s
  else if (dataOf r).length ≠ 16 then answerObject i 6 [] s
  else if isLasting (38 + role) s then answerObject i 1 [] (raise F.OBJ_CAUSE_SESS_LOCKOUT s)
  else if isLasting 45 s then answerObject i 4 [] s
  else
    let l := roleKey role s
    match l.1 with
    | .ok _ => challenge i role (dataOf r) l.2
    | x => answerObject i (loadCode x) [] l.2

/-- OPEN (R230). -/
def execSessionOpen (i : Nat) (s : State) : Out := onRequest i 1 (openEffect i) s

/-- A FAIL (R230, R231): counted for its role; nothing is left of the challenge. -/
def failSession (i : Nat) (s : State) : State :=
  let role := get (F.OBJ_SESS_ROLE i) s
  occurrence (38 + role) 0 i (raise F.OBJ_CAUSE_SESS_FAIL (closeSession i s))

/-- What a PROOF is computed over: challenge, host nonce, UID, role, interface (R232). -/
def proofInput (i role : Nat) (x : SessSt) : List Byte := x.challenge ++ x.nonce ++ uidBytes ++ le 1 role ++ le 1 i

/-- The session opens (R230). -/
def openSession (i role : Nat) (key : List Byte) (s : State) : State :=
  let s := touchSession i (fun x => { x with key := ofBe key, nextSeq := 1, challenge := [], nonce := [] }) s
  let s := putBit F.OBJ_STATUS_SESSIONS i true (put (F.OBJ_SESS_STATE i) 2 s)
  raise F.OBJ_CAUSE_SESS_OPEN (if role = 5 then put F.OBJ_STATUS_LEGAL_SESSION 1 s else s)

/-- A PROOF (R230): it must come within 10 s of the challenge; with no challenge outstanding it is answered NO_SESSION (log 42). -/
def proofEffect (i : Nat) (r : ObjReq) (s : State) : State :=
  let role := get (F.OBJ_SESS_ROLE i) s
  let x := sessOf i s
  if guarded s then answerObject i 4 [] s
  else if sessState i s ≠ 1 then answerObject i 8 [] s
  else
    let l := roleKey role s
    match l.1 with
    | .ok w =>
      if dataOf r = Config.cmac w.key (proofInput i role x) ∧ s.sup.mono < x.last + 10240 then
        answerObject i 0 [] (openSession i role (Config.cmac w.key ([0x53, 0x45, 0x53, 0x53] ++ x.challenge ++ x.nonce)) l.2)
      else failSession i (answerObject i Config.failCode [] l.2)
    | y => closeSession i (answerObject i (loadCode y) [] l.2)

/-- PROOF (R230). -/
def execSessionProof (i : Nat) (s : State) : Out := onRequest i 2 (proofEffect i) s

/-- PROOF_TIMEOUT (R230): 10 s after the challenge. -/
def execProofTimeout (i : Nat) (s : State) : Out :=
  onlyIf (decide (i < 7) && domOn 5 s && sessState i s == 1 && decide ((sessOf i s).last + 10240 ≤ s.sup.mono)) (failSession i) s

/-- CLOSE (R231); outside a session there is none to close. -/
def execSessionClose (i : Nat) (s : State) : Out :=
  onRequest i 3 (fun r s =>
    if guarded s then answerObject i 4 [] s
    else if inSess r then closeSession i (answerObject i 0 [] s) else answerObject i 8 [] s) s

/-- SESSION_IDLE_TIMEOUT (R231). -/
def execSessionIdleTimeout (i : Nat) (s : State) : Out :=
  onlyIf (decide (i < 7) && domOn 5 s && sessState i s == 2 &&
    decide ((sessOf i s).last + 1024 * get F.OBJ_SESS_CFG_IDLE s ≤ s.sup.mono)) (closeSession i) s

/-! Objects and rights (R227 to R229) -/

/-- The device object that a code names (R228). -/
def deviceOf (obis : List Nat) : Option Nat := deviceCodes.findIdx? (· == obis)

/-- The entry of the object table with a code. -/
def entryOf (obis : List Nat) (s : State) : Option ObjEntry := s.ld.tables.obj.objects.find? fun e => e.obis == obis

/-- The roles that may write to or execute device object `d` (R228), as a mask. -/
def deviceWrites (d : Nat) : Nat := nth 0 [8, 0, 0, 24, 24, 2, 14, 8, 8, 8, 32, 63, 8, 0] d

/-- The roles that may read device object `d`: every role for the legal ID and the status, else what the table says (R228). -/
def deviceReads (d : Nat) (s : State) : Nat :=
  if d = 1 ∨ d = 2 then 63
  else match entryOf (nth [] deviceCodes d) s with
    | some e => e.read
    | none => Config.deviceRead d

/-- A request's object: its binding with the masks of R, W and X. -/
def objectFor (obis : List Nat) (s : State) : Option (Binding × Nat × Nat × Nat) :=
  match deviceOf obis with
  | some d => some (.device d, deviceReads d s, deviceWrites d, deviceWrites d)
  | none => match entryOf obis s with
    | some e => some (e.bind, e.read, e.write, e.exec)
    | none => none

/-- A request beyond the role's rights (R229). -/
def denyObject (i : Nat) (s : State) : State := answerObject i 1 [] (raise F.OBJ_CAUSE_DENIED s)

/-! Readings (R233 to R236) -/

/-- A value to read: VTYPE and VALUE, or the result code that answers instead. -/
abbrev Value := Except Nat (Nat × List Byte)

/-- Entries `first` to `first + n` of a log or profile of which `total` were ever written and `cap` are kept, `w` bytes each. -/
def entryRange (first n total cap w : Nat) (enc : Nat → List Byte) : Value :=
  if 2048 < n * w ∨ total < first + n ∨ first + cap < total then .error 7
  else .ok (4, (List.range n).flatMap fun k => enc (first + k))

/-- A profile's entries (R174, R175). -/
def profileRange (p first n : Nat) (s : State) : Value :=
  if p = 2 then entryRange first n (counter 2 s) 731 64 fun k => p2Bytes (sparseGet {} s.cis.lp2 (k % 731))
  else entryRange first n (counter 1 s) 23328 24 fun k =>
    p1Bytes (sparseGet {} (nth [] s.cis.lp1 (k % 23328 / 2592)) (k % 23328 % 2592))

/-- A log's entries: the legal log by slot (R238), the tamper log by record number (R278), the power-quality log by its own (R147). -/
def logRange (l first n : Nat) (s : State) : Value :=
  if l = 0 then entryRange first n 512 512 64 fun k =>
    let b := sparseGet [] s.cis.b2.legal k
    b ++ zeros (64 - b.length)
  else if l = 1 then entryRange first n (counter 5 s) 960 32 fun k => tampBytes (sparseGet {} s.cis.b2.tlog (k % 960))
  else entryRange first n (counter 3 s) 256 32 fun k =>
    pqRecBytes (sparseGet {} s.cis.b3.pq (k % 256))

/-- Snapshot N (R173, R228): N in the first four bytes of DATA, or the newest where DATA is empty. -/
def snapshotValue (data : List Byte) (s : State) : Value :=
  let n := if data.isEmpty then counter 0 s % 2 ^ 32 else field data 0 4
  match s.cis.b3.snaps.find? (fun e => e.2.num == n) with
  | some e => .ok (5, snapBytes e.2)
  | none => .error 7

/-- What device object `d` shows as its value (R228). -/
def deviceNumbers (d : Nat) (s : State) : List Nat :=
  if d = 0 then [rtc s]
  else if d = 1 then [get F.CFG_LEGAL_ID_ID s, s.cis.b2.chgCount]
  else if d = 2 then [(rd s R.CFG_STATUS).toNat, (rd s R.CNV_STATUS).toNat, (rd s R.PAY_STATUS).toNat, (rd s R.RLY_STATUS).toNat]
  else []

/-- The value of a binding (ATTR 1). In Pass the spectrum results are marked not available (R28). -/
def bindingValue (b : Binding) (data : List Byte) (s : State) : Value :=
  match b with
  | .bill r => .ok (0, le 8 (nth 0 s.bil.cur.energy r))
  | .acc k => .ok (2, le 12 (nth 0 s.en.accPub k / 2 ^ 32))
  | .phe k => .ok (Config.valueOf 100 1 [(rd s (R.PHE_RES k)).toNat])
  | .spe c o =>
    match (if domOn 3 s then nth none (nth [] s.spec.shown.rms c) o else none) with
    | some v => .ok (Config.valueOf 101 1 [v])
    | none => .ok (Config.valueOf 101 1 [])
  | .profile _ => .error 6
  | .log _ => .error 6
  | .device d => if d = 13 then snapshotValue data s else .ok (Config.valueOf d 1 (deviceNumbers d s))

/-- The number by which `Config.valueOf` tells the kinds of object apart. -/
def kindOf : Binding → Nat
  | .bill _ => 102 | .acc _ => 103 | .phe _ => 100 | .spe _ _ => 101 | .profile _ => 104 | .log _ => 105 | .device d => d

/-- What a read of attribute `attr` gives (R233). The status of an object (ATTR 3) is free (log 11). -/
def readValue (b : Binding) (attr : Nat) (data : List Byte) (e : Option ObjEntry) (s : State) : Value × State :=
  if attr = 1 then (bindingValue b data s, s)
  else if attr = 2 then
    let l := match e with | some x => [x.scaler, x.unit] | none => []
    (.ok (Config.valueOf (kindOf b) 2 l), s)
  else if attr = 3 then
    let f := fresh s
    (.ok (Config.valueOf (kindOf b) 3 [f.1]), f.2)
  else if attr = 4 then
    match b with
    | .profile p => (if data.length = 6 then profileRange p (field data 0 4) (field data 4 2) s else .error 6, s)
    | .log l => (if data.length = 6 then logRange l (field data 0 4) (field data 4 2) s else .error 6, s)
    | _ => (.error 6, s)
  else (.error 6, s)

/-- Bytes 0x00 to 0x27 + VLEN of a reading (R233). -/
def readingHead (format : Nat) (obis : List Nat) (attr : Nat) (v : Nat × List Byte) (s : State) : List Byte :=
  let value := v.2.take 2048
  le 2 format ++ le 2 value.length ++ uidBytes ++ obis.flatMap (le 1) ++ le 1 attr ++ le 1 v.1 ++ le 8 (counter 6 s) ++
    le 4 (rtc s) ++ value

/-- The reading counter rises by 1 before a tag is computed (R236); at 32 768 readings since the last store E2 asks for one. -/
def raiseReading (s : State) : State :=
  let s := counterAdd 6 1 s
  let n := satNat 65535 (get F.OBJ_READ_RESERVE_SINCE_STORE s + 1)
  let s := showObj (put F.OBJ_READ_RESERVE_SINCE_STORE n s)
  if n = 32768 then deviceStore 0 s else s

/-- Readings are held until a store of bank 0 (R236). -/
def readingsHeld (s : State) : Bool := get F.OBJ_READ_RESERVE_SINCE_STORE s == 65535

/-- A read that must wait for a store. -/
def holdReading (i : Nat) (s : State) : State := answerObject i 4 [] (raise F.OBJ_CAUSE_READ_HOLD s)

/-- A tagged reading, or an untagged one where no reading key is loaded (R234, R236). -/
def taggedReading (i : Nat) (obis : List Nat) (attr : Nat) (v : Nat × List Byte) (s : State) : State :=
  let l := loadNamed s.ld.tables.obj.readKey (2, 4) s
  match l.1 with
  | .ok w =>
    let s := put F.OBJ_STATUS_NO_READ_KEY 0 l.2
    if readingsHeld s then holdReading i s
    else
      let s := raiseReading s
      let h := readingHead 0x0001 obis attr v s
      answerObject i 0 (h ++ (Config.cmac w.key h).take 8) s
  | .blanked => if readingsHeld l.2 then holdReading i l.2 else answerObject i 9 [] (raise F.OBJ_CAUSE_TAMPER_ABORT (raiseReading l.2))
  | _ =>
    let s := put F.OBJ_STATUS_NO_READ_KEY 1 l.2
    answerObject i 0 (readingHead 0x0081 obis attr v s ++ zeros 8) s

/-- A signed snapshot (R235): the signature takes its own time; SIGN_DONE answers. One signature is computed at a time. -/
def signedReading (i : Nat) (obis : List Nat) (v : Nat × List Byte) (s : State) : State :=
  if s.obj.signing.isSome then s
  else
    let l := loadNamed s.ld.tables.obj.signKey (2, 0x10) s
    match l.1 with
    | .ok w =>
      if readingsHeld l.2 then holdReading i l.2
      else
        let s := raiseReading l.2
        updObj (fun o => { o with signing := some (i, readingHead 0x0002 obis 1 v s, w.key) }) s
    | .blanked => if readingsHeld l.2 then holdReading i l.2 else answerObject i 9 [] (raise F.OBJ_CAUSE_TAMPER_ABORT (raiseReading l.2))
    | x => answerObject i (loadCode x) [] l.2

/-- A GET (R229, R233 to R236). -/
def getEffect (i : Nat) (r : ObjReq) (s : State) : State :=
  match objectFor (obisOf r) s with
  | none => answerObject i 2 [] s
  | some o =>
    if !(bit o.2.1 (roleFor i r s)) then denyObject i s
    else if wantsSig r && !(o.1 == .device 13 && selOf r == 1) then answerObject i 6 [] s
    else
      let v := readValue o.1 (selOf r) (dataOf r) (entryOf (obisOf r) s) s
      match v.1 with
      | .error c => answerObject i c [] v.2
      | .ok x => if wantsSig r then signedReading i (obisOf r) x v.2 else taggedReading i (obisOf r) (selOf r) x v.2

/-- GET (R233). -/
def execObjGet (i : Nat) (s : State) : Out := onRequest i 4 (getEffect i) s

/-- SIGN_DONE (R235, R264): the signature is complete, under the key that it holds; a tamper event has ended it before (R236). -/
def execSignDone (s : State) : Out :=
  match s.obj.signing with
  | none => .next s
  | some x =>
    onlyIf (e2Up s) (fun s =>
      let s := showWell (releaseSlots (updObj (fun o => { o with signing := none }) s))
      answerObject x.1 0 (x.2.1 ++ be 64 (Config.ecdsaSign x.2.2 (Config.sha256 x.2.1))) (raise F.OBJ_CAUSE_SIGN_DONE s)) s

/-! Set values and methods (R228) -/

/-- The registers that the methods of device object `d` act on. -/
def deviceRegs (d : Nat) : List Nat :=
  if d = 3 then [R.PHE_PROFILE_CTL, R.PMU_CTL]
  else if d = 4 then [R.CFG_CTL]
  else if d = 5 then [R.PAY_TOKEN_CTL]
  else if d = 7 then [R.RLY_CTL, R.TAMP_CTL]
  else if d = 9 then [R.UPD_CTL]
  else if d = 10 then [R.CNV_CAL_CTL, R.FLT_CTL, R.FLT_LEGACY_CFG] ++ (List.range 8).flatMap (fun n => [R.CNV_CHAN_GAIN n, R.CNV_CHAN_OFS n, R.FLT_DELAY n]) ++
    (List.range 128).map R.FLT_LEGACY_COEF
  else if d = 12 then [R.BIL_CTL]
  else []

/-- The core that makes an object's write. -/
def writerOf (a : Nat) : Master := if engineWrites 2 a then .engine 2 else .engine 1

/-- A method that is a register write (R228). A legal change that the log has no room for is answered LOG_FULL (R239). The credit
object asks for emergency credit alone. -/
def methodWrite (a : Nat) (w : Word) (wd : World) (s : State) : Nat × State :=
  if a = R.UPD_CTL then updCtl wd.image w s
  else
    let w := if a = R.PAY_TOKEN_CTL then w &&& 8 else w
    let before := flag F.OBJ_CAUSE_LEGAL_LOG_FULL s
    let r := writeReg (writerOf a) a w wd (put F.OBJ_CAUSE_LEGAL_LOG_FULL 0 s)
    let full := flag F.OBJ_CAUSE_LEGAL_LOG_FULL r.2
    let s := if domOn 5 r.2 then put F.OBJ_CAUSE_LEGAL_LOG_FULL (b2n (before || full)) r.2 else r.2
    (if full then 10 else if r.1 = 2 then 5 else if r.1 = 3 then 1 else 0, s)

/-- New passwords of a bank (R222): the grants on it lapse (R223). -/
def setPasswords (bank rp wp : Nat) (s : State) : Nat × State :=
  if 16 ≤ bank ∨ 2 ^ 64 ≤ rp ∨ 2 ^ 64 ≤ wp then (7, s)
  else
    let l := held [] s.cis.b1.pw
    let l := l ++ List.replicate (16 - l.length) (2 ^ 64 - 1, 2 ^ 64 - 1)
    let s := { s with cis := { s.cis with
      b1 := { s.cis.b1 with pw := writeCopy s.cis.b1.pw (upd l bank fun _ => (rp, wp)) }
      grants := s.cis.grants.filter fun g => g.2.1 != bank } }
    (0, dirty 1 s)

/-- The SOURCE of a token that interface `i` brings (R204): 1 a host, 2 the fabric, whose sessions are interface 6 (R230). -/
def sourceOf (i : Nat) : Nat := if i = 6 then 2 else 1

/-- A method call or set value on device object `d` (R228): the result code, or `none` when the answer comes later. -/
def runMethod (i d : Nat) (data : List Byte) (m : Method) (wd : World) (s : State) : Option Nat × State :=
  match m with
  | .clock diff =>
    if d ≠ 0 then (some 6, s)
    else if diff = 0 then (some 0, put F.SUP_RTC_STATUS_VALID 1 s)
    else (some 0, adjWrite (BitVec.ofInt 32 diff) 1 0 s)
  | .write a w =>
    if (deviceRegs d).contains a then
      let r := methodWrite a w wd s
      (some r.1, r.2)
    else (some 6, s)
  | .token bits => if d = 6 then (none, queueToken { bits := bits % 2 ^ 66, source := sourceOf i, reply := .object i } s) else (some 6, s)
  | .credit bytes => if d = 6 then (none, queueToken { remote := some bytes, source := sourceOf i, reply := .object i } s) else (some 6, s)
  | .passwords b rp wp =>
    if d = 8 then
      let r := setPasswords b rp wp s
      (some r.1, r.2)
    else (some 6, s)
  | .chunk =>
    if d ≠ 9 then (some 6, s)
    else if data.length < 4 then (some 6, s)
    else
      let r := updChunk (field data 0 4) (data.drop 4) s
      (some r.1, r.2)
  | .key bytes => if d = 11 then (none, keyUpdate bytes (.object i) s) else (some 6, s)

/-- Answer a set value or method. A command may have restarted what would answer. -/
def callEffect (exec : Bool) (wd : World) (i : Nat) (r : ObjReq) (s : State) : State :=
  match objectFor (obisOf r) s with
  | none => answerObject i 2 [] s
  | some o =>
    if !(bit (if exec then o.2.2.2 else o.2.2.1) (roleFor i r s)) then denyObject i s
    else match o.1 with
      | .device d =>
        match Config.methodOf d (selOf r) (dataOf r) with
        | none => answerObject i 6 [] s
        | some m =>
          let x := runMethod i d (dataOf r) m wd s
          match x.1 with
          | some c => answerObject i c [] x.2
          | none => x.2
      | _ => answerObject i 6 [] s

/-- SET (R228, R232). -/
def execObjSet (i : Nat) (wd : World) (s : State) : Out := onRequest i 5 (callEffect false wd i) s

/-- ACTION (R228, R232). -/
def execObjAction (i : Nat) (wd : World) (s : State) : Out := onRequest i 6 (callEffect true wd i) s

/-! `CAL_EN` (R237) -/

/-- The event record of `CAL_EN` (R399). -/
def calEvent (rose reverted : Bool) (s : State) : State := legalEvent 0x0108 0xFF [le 1 (b2n rose) ++ le 1 (b2n reverted) ++ zeros 6] s

/-- CAL_EN_RISE (R237). -/
def execCalEnRise (s : State) : Out :=
  onlyIf (e2Up s && !(flag F.OBJ_STATUS_CAL_EN s))
    (fun s => raise F.OBJ_CAUSE_SEAL_OPEN (calEvent true false (put F.OBJ_STATUS_CAL_EN 1 s))) s

/-- The staged coefficients of channel `n` go back to those in force, or to those committed that wait for their epoch. -/
def unstage (n : Nat) (s : State) : State :=
  let c := nth (0, 0, 0) (lastCommitted s) n
  put (F.CNV_CHAN_GAIN_GAIN n) c.1 (put (F.CNV_CHAN_OFS_OFS n) c.2.1 (put (F.FLT_DELAY_DELAY n) c.2.2 s))

/-- Close the METROLOGY sessions. -/
def closeLegal (s : State) : State :=
  (List.range 7).foldl (fun s i => if sessState i s = 2 ∧ get (F.OBJ_SESS_ROLE i) s = 5 then closeSession i s else s) s

/-- CAL_EN_FALL (R237): values staged and not committed revert, the METROLOGY session closes. -/
def execCalEnFall (s : State) : Out :=
  onlyIf (e2Up s && flag F.OBJ_STATUS_CAL_EN s) (fun s =>
    let staged := !(commitEntries s).isEmpty
    let s := if staged then
        let s := (List.range 8).foldl (fun s n => unstage n s) s
        put F.FLT_STATUS_DELAY_PENDING (b2n (delayWaits s)) s
      else s
    closeLegal (raise F.OBJ_CAUSE_SEAL_CLOSE (calEvent false staged (put F.OBJ_STATUS_CAL_EN 0 s)))) s

end Sys2Proof.Machine
end

