-- ==== Sys2Proof/Machine/Host.lean ====
section
/-! DEFINITION. The host interfaces (chapter 17, R355 to R369): requests and responses, the slots, the host's view of the memories, fabric
messages, wake requests, the optical port. -/
namespace Sys2Proof.Machine

/-! Interfaces and slots (R355 to R362) -/

/-- Pad `n` carries function `f`. -/
def padHas (n f : Nat) (s : State) : Bool := get (F.PIN_PAD_FUNC n) s == f

/-- The pads of interface `i` are claimed (R355, R373). -/
def padsClaimed (i : Nat) (s : State) : Bool :=
  if i = 0 then (List.range 4).all fun k => padHas k 2 s
  else if i = 1 then (padHas 4 3 s && padHas 5 3 s) || (padHas 0x1E 3 s && padHas 0x1F 3 s)
  else if i ≤ 4 then padHas (6 + 2 * (i - 2)) (2 + i) s && padHas (7 + 2 * (i - 2)) (2 + i) s
  else if i = 5 then (padHas 0x34 7 s && padHas 0x35 7 s) || (padHas 0x4C 7 s && padHas 0x4D 7 s)
  else false

/-- `UART_3` serves the optical port (R366). -/
def opticalPort (s : State) : Bool := flag (F.HIF_UART_CFG_MODE 3) s

/-- Interface `i` works (R355, R369): its pads are claimed, VDD is good, and no power-fail sequence runs. -/
def ifaceUp (i : Nat) (s : State) : Bool :=
  padsClaimed i s && flag F.PMU_VMON_VDD_OK s && (s.sup.mode == .running || s.sup.mode == .loading) &&
    (i != 5 || !(opticalPort s) || s.hif.optical == .frame)

/-- A request of command `cmd` arrives on interface `i` (R361): it takes the slot and the next RSEQ, or is discarded. -/
def request (i cmd : Nat) (eff : State → State) (s : State) : Out :=
  onlyIf (ifaceUp i s) (fun s =>
    match slotOf i s with
    | .free =>
      let n := (nth 0 s.hif.rseq i + 1) % 256
      let s := updHif (fun h => { h with rseq := upd h.rseq i fun _ => n, optAt := if i = 5 then s.sup.mono else h.optAt }) s
      eff (setSlot i (.busy cmd n none) s)
    | _ => raise F.HIF_CAUSE_REQ_DROPPED s) s

/-- A response ready on interface `i` is sent by a UART (R365), and waits for its fetch on SPI and I²C. -/
def deliverResponse (i : Nat) (s : State) : State :=
  match slotOf i s with
  | .busy _ _ (some r) =>
    if 2 ≤ i then
      setSlot i .free (updHif (fun h => { h with sent := upd h.sent i fun _ => some (le 1 0x7E ++ respBytes r) }) s)
    else raiseAt F.HIF_CAUSE_RSP_READY i (setSlot i (.ready r) s)
  | _ => s

/-- A request answered DENIED (R360). -/
def denyHost (i : Nat) (s : State) : State := setResponse i 3 [] (raise F.HIF_CAUSE_DENIED s)

/-- A request that gets no response frame (R362). -/
def noResponse (i : Nat) (s : State) : State := setSlot i .free s

/-- RESPONSE_READY (R359, R365): the ready time has passed. -/
def execResponseReady (i : Nat) (s : State) : Out := onlyIf (ifaceUp i s) (deliverResponse i) s

/-- RESPONSE_DISCARD (R361): 2 s without a fetch. -/
def execResponseDiscard (i : Nat) (s : State) : Out :=
  match slotOf i s with
  | .ready _ =>
    onlyIf (decide (nth 0 s.hif.since i + 2048 ≤ s.sup.mono)) (fun s => putBit F.HIF_CAUSE_RSP_READY i false (setSlot i .free s)) s
  | _ => .next s

/-- What interface `i` sends for a fetch; `none` is NO_FRAME, or a NACK (R362). -/
def sendBytes (i : Nat) (b : Option (List Byte)) (s : State) : State :=
  updHif (fun h => { h with sent := upd h.sent i fun _ => b }) s

/-- FETCH on SPI and I²C (R359, R361). -/
def fetchSlot (i : Nat) (s : State) : State :=
  match slotOf i s with
  | .free => sendBytes i none s
  | .busy cmd n _ => sendBytes i (some (respBytes ⟨6, cmd, n, []⟩)) s
  | .ready r => putBit F.HIF_CAUSE_RSP_READY i false (setSlot i .free (sendBytes i (some (respBytes r)) s))

/-- FETCH (R359); on a UART it is answered BAD_FRAME (R365). -/
def execHostFetch (i : Nat) (s : State) : Out :=
  if 2 ≤ i then request i 0 (setResponse i 5 []) s else onlyIf (ifaceUp i s) (fetchSlot i) s

/-- Length and address of a READ or WRITE (R359). -/
def rwOk (a n : Nat) : Bool := decide (4 ≤ n) && decide (n ≤ 1024) && n % 4 == 0 && a % 4 == 0

/-- LEN and, of READ and WRITE, ADDR of a command are as R359 allows; FETCH is none on a UART (R365). -/
def commandOk (i cmd a n : Nat) : Bool :=
  match cmd with
  | 0 => decide (i < 2)
  | 1 | 2 => rwOk a n
  | 3 => decide (16 ≤ n) && decide (n ≤ 1100)
  | 4 => decide (6 ≤ n) && decide (n ≤ 4096)
  | 5 | 6 | 7 => n == 0
  | _ => false

/-- What is wrong with a request's bytes (R356, R357, R359): the status it is answered with, `none` where nothing is. -/
def frameFault (i : Nat) (bs : List Byte) : Option Nat :=
  let n := bs.length
  if n < 9 ∨ crc16 (bs.take (n - 2)) ≠ field bs (n - 2) 2 then some 4
  else
    let cmd := field bs 0 1
    let len := field bs 5 2
    if !(commandOk i cmd (field bs 1 4) len) || n != 9 + (if cmd = 1 then 0 else len) then some 5 else none

/-- UNKNOWN_COMMAND (R356 to R359): a request, from CMD to CRC, whose CRC fails, or whose command, length or address is not in the table.
A request with nothing wrong is another row's. -/
def execUnknownCommand (i : Nat) (bs : List Byte) (s : State) : Out :=
  match frameFault i bs with
  | none => .next s
  | some st => request i (field bs 0 1) (fun s =>
      setResponse i st [] (raiseIf (decide (st = 4)) F.HIF_CAUSE_CRC_FAIL s)) s

/-- UART_GAP_TIMEOUT (R365): the bytes so far are discarded; no request has been accepted, so that nothing changes. -/
def execUartGapTimeout (_i : Nat) (s : State) : Out := done s

/-- STATUS (R359): answered in every state, at once. -/
def execHostStatus (i : Nat) (s : State) : Out :=
  request i 7 (fun s => deliverResponse i (setResponse i 0 (le 4 (rd s R.HIF_STATUS).toNat ++ le 4 (rd s R.INT_HOST_PEND).toNat) s)) s

/-! READ and WRITE (R360) -/

/-- Read `n` words from `a` upwards, in order. -/
def readWords (m : Master) : Nat → Nat → State → List Byte × State
  | _, 0, s => ([], s)
  | a, n + 1, s =>
    let r := readReg m a s
    let t := readWords m (a + 4) n r.2
    (le 4 r.1.toNat ++ t.1, t.2)

/-- The first of `n` words from `a` whose domain is off. -/
def offWord (a n : Nat) (s : State) : Option Nat :=
  ((List.range n).map fun k => a + 4 * k).find? fun x => !(domOn (blockDom (blockOf x)) s)

/-- A READ of registers. -/
def readRegs (i a n : Nat) (s : State) : State :=
  match offWord a (n / 4) s with
  | some x => setResponse i 2 [] (readReg (hostOf i) x s).2
  | none =>
    let r := readWords (hostOf i) a (n / 4) s
    setResponse i 0 r.1 r.2

/-- A READ of a memory in domain `d` (R18, R271). -/
def readMem (i a n d ecc : Nat) (s : State) : State :=
  if !(domOn d s) then setResponse i 2 [] (busFault (hostOf i) a d (offKind d s) false false s)
  else if 2 ≤ ecc then setResponse i 7 [] (eccTouch a ecc s)
  else setResponse i 0 (rdBytes s a n) (eccTouch a ecc s)

/-- The Cistern banks that `n` bytes from `a` touch. -/
def banksOf (a n : Nat) : List Nat :=
  (List.range 16).filter fun b => decide (a < 0x28000000 + (b + 1) * 0x10000) && decide (0x28000000 + b * 0x10000 < a + n)

/-- Bytes from `a` upwards of the Cistern's SRAM. -/
def cisternBytes (a n : Nat) (s : State) : List Byte :=
  (banksOf a n).flatMap fun b =>
    let lo := max a (0x28000000 + b * 0x10000)
    bankBytes b (lo % 0x10000) (min (a + n) (0x28000000 + (b + 1) * 0x10000) - lo) s

/-- A READ of the Cistern (R222, R223, R209). -/
def readCistern (i a n ecc : Nat) (s : State) : State :=
  let bs := banksOf a n
  if !(domOn 7 s) then setResponse i 2 [] (busFault (hostOf i) a 7 0 false false s)
  else if bs.any fun b => fbit F.CIS_STATUS_COPYING b s then noResponse i s
  else if guarded s then setResponse i 1 [] s
  else if !(bs.all fun b => hostMay i b 0 s) then denyHost i (busFault (hostOf i) a 7 2 false false s)
  else
    let s := recallTo ((bs.getLast?.getD 0) + 1) s
    let s := bs.foldl (fun s b => touchGrant i b s) s
    let s := eccCistern ecc s
    if 2 ≤ ecc then setResponse i 7 [] s else setResponse i 0 (cisternBytes a n s) s

/-- Both ends of a range of `n` bytes from `a` lie in a region. -/
def within (lo hi a n : Nat) : Bool := decide (lo ≤ a) && decide (a + n ≤ hi + 1)

/-- An access outside what R360 allows: dropped, recorded (R17) and answered DENIED. -/
def denyRange (i a : Nat) (isWrite : Bool) (s : State) : State :=
  match regionOf a with
  | none => denyHost i (if inRegs a then s else busFault (hostOf i) a 0 3 isWrite false s)
  | some r => denyHost i (busFault (hostOf i) a (regionDom r) 2 isWrite false s)

/-- A READ (R360). -/
def readRange (i a n ecc : Nat) (s : State) : State :=
  if halted s then (if within 0x40070000 0x4007FFFF a n then readRegs i a n s else denyHost i s)
  else if within 0x40000000 0x401BFFFF a n then readRegs i a n s
  else if within 0x201FC000 0x201FFFFF a n then readMem i a n 5 ecc s
  else if within 0x24000000 0x2407FFFF a n then readMem i a n 3 ecc s
  else if within 0x28000000 0x280FFFFF a n then readCistern i a n ecc s
  else denyRange i a false s

/-- READ (R360). -/
def execHostRead (i a n ecc : Nat) (s : State) : Out :=
  request i 1 (fun s => if rwOk a n then readRange i a n ecc s else setResponse i 5 [] s) s

/-- Write words from `a` upwards, in order; the answer is DENIED when any of them was. -/
def writeWords (m : Master) (wd : World) : Nat → Nat → List Byte → State → Nat × State
  | _, 0, _, s => (0, s)
  | a, n + 1, bs, s =>
    let r := writeReg m a (BitVec.ofNat 32 (ofLe (bs.take 4))) wd s
    let t := writeWords m wd (a + 4) n (bs.drop 4) r.2
    (if r.1 = 0 then t.1 else r.1, t.2)

/-- A WRITE of registers. -/
def writeRegs (i a : Nat) (bs : List Byte) (wd : World) (s : State) : State :=
  match offWord a (bs.length / 4) s with
  | some x => setResponse i 2 [] (busFault (hostOf i) x (blockDom (blockOf x)) (offKind (blockDom (blockOf x)) s) true false s)
  | none =>
    let r := writeWords (hostOf i) wd a (bs.length / 4) bs s
    setResponse i r.1 [] r.2

/-- A WRITE into a user bank (R216, R222, R223, R209). -/
def writeCistern (i a : Nat) (bs : List Byte) (s : State) : State :=
  let b := (a - 0x28000000) / 0x10000
  if !(domOn 7 s) then setResponse i 2 [] (busFault (hostOf i) a 7 0 true false s)
  else if fbit F.CIS_STATUS_COPYING b s then noResponse i s
  else if guarded s then setResponse i 1 [] s
  else if !(hostMay i b 1 s) then denyHost i (busFault (hostOf i) a 7 2 true false s)
  else setResponse i 0 [] (sramWrite a bs (touchGrant i b s))

/-- A WRITE (R360). -/
def writeRange (i a : Nat) (bs : List Byte) (wd : World) (s : State) : State :=
  let n := bs.length
  if halted s then (if a = R.CFG_CTL ∧ n = 4 then writeRegs i a bs wd s else denyHost i s)
  else if within 0x40000000 0x401BFFFF a n then writeRegs i a bs wd s
  else if within 0x201FC000 0x201FFFFF a n then
    if domOn 5 s then setResponse i 0 [] (wrBytes a bs s)
    else setResponse i 2 [] (busFault (hostOf i) a 5 0 true false s)
  else if decide (0x28000000 ≤ a) && decide (a ≤ 0x280FFFFF) then writeCistern i a bs s
  else denyRange i a true s

/-- WRITE (R360). -/
def execHostWrite (i a : Nat) (bs : List Byte) (wd : World) (s : State) : Out :=
  request i 2 (fun s => if rwOk a bs.length then writeRange i a bs wd s else setResponse i 5 [] s) s

/-! OBJECT, fabric messages, WAKE -/

/-- OBJECT (R359, R369): its object request goes to E2; while E2 does not run it is answered BUSY_RETRY. -/
def execHostObject (i : Nat) (bs : List Byte) (s : State) : Out :=
  request i 3 (fun s =>
    if bs.length < 16 ∨ 1100 < bs.length then setResponse i 5 [] s
    else if halted s then denyHost i s
    else if !(domOn 5 s) then setResponse i 2 [] s
    else if !(e2Up s) then setResponse i 1 [] (closeSession i s)
    else submitObject i { bytes := bs } s) s

/-- The destination in ADDR of a FAB_SEND (R359); 1 in bits 13:12 names none. -/
def fabDest (a : Nat) : Option Dest :=
  let k := a / 2 ^ 12 % 4
  if k = 0 then some (.node (.short (a % 2 ^ 12))) else if k = 2 then some .broadcast else if k = 3 then some .heads else none

/-- FAB_SEND (R368): OK means that E10 has accepted the message. -/
def fabSend (i a : Nat) (bs : List Byte) (s : State) : State :=
  if halted s then denyHost i s
  else if !(domOn 9 s) then setResponse i 2 [] s
  else if !(isHead s) then denyHost i s
  else match fabDest a with
    | none => setResponse i 5 [] s
    | some d =>
      if field bs 4 2 + 6 ≠ bs.length then setResponse i 5 [] s
      else
        let r := handToE10 { mtype := field bs 0 1, msgId := field bs 2 2, dest := d, body := bs.drop 6 } s
        setResponse i (if r.1 then 0 else 1) [] r.2

/-- FAB_SEND (R368). -/
def execFabSend (i a : Nat) (bs : List Byte) (s : State) : Out :=
  request i 4 (fun s => if bs.length < 6 ∨ 4096 < bs.length then setResponse i 5 [] s else fabSend i a bs s) s

/-- The two bytes of OSRC before a message (R368): the short address, or 0 of a node that has none. -/
def osrcBytes : Node → List Byte
  | .short a => le 2 a
  | .eui _ => zeros 2

/-- FAB_RECV (R368): the oldest message of the inbox. -/
def execFabRecv (i : Nat) (s : State) : Out :=
  request i 5 (fun s =>
    if halted s then denyHost i s
    else if !(domOn 9 s) then setResponse i 2 [] s
    else if !(isHead s) then denyHost i s
    else match s.hif.inbox with
      | [] => setResponse i 0 [] s
      | m :: t =>
        let s := put F.HIF_STATUS_INBOX t.length (updHif (fun h => { h with inbox := t }) s)
        setResponse i 0 (osrcBytes m.src ++ messageBytes m) (if t.isEmpty then put F.HIF_CAUSE_FAB_RX 0 s else s)) s

/-- A host's wake request (R367). `bad` holds the retention banks whose signature does not match. -/
def hostWake (bad : Nat) (s : State) : State := wakeBy 3 bad (raise F.HIF_CAUSE_WAKE_REQ s)

/-- WAKE (R367): denied where the source is not enabled. -/
def execHostWake (i bad : Nat) (s : State) : Out :=
  request i 6 (fun s =>
    if halted s || !(wakeEnabled 3 s) then denyHost i (if halted s then s else raise F.HIF_CAUSE_WAKE_REQ s)
    else hostWake bad (setResponse i 0 [] s)) s

/-- HWAKE_N (R367): low for 50 µs, on the pad that carries it. -/
def execHwakeN (bad : Nat) (s : State) : Out :=
  onlyIf (padHas 0x0C 8 s && flag F.PMU_VMON_VDD_OK s && s.sup.mode == .running && !(halted s))
    (fun s => if wakeEnabled 3 s then hostWake bad s else raise F.HIF_CAUSE_WAKE_REQ s) s

/-! The optical port (R366) -/

/-- The optical port listens. -/
def opticalUp (s : State) : Bool :=
  padsClaimed 5 s && opticalPort s && flag F.PMU_VMON_VDD_OK s && s.sup.mode == .running

/-- Put the optical port into a state. -/
def setOptical (o : Optical) (s : State) : State :=
  put F.HIF_STATUS_OPT_FRAME (b2n (o == .frame)) (updHif (fun h => { h with optical := o, optAt := s.sup.mono }) s)

/-- A sign-on message for this device: "/?!", or "/?", the device address and "!"; CR and LF may end it. -/
def signOnFor (msg : List Byte) (s : State) : Bool :=
  let a : List Byte := [0x2F, 0x3F, 0x21]
  let b : List Byte := [0x2F, 0x3F] ++ s.ld.tables.obj.optAddress ++ [0x21]
  let crlf : List Byte := [0x0D, 0x0A]
  msg == a || msg == b || msg == a ++ crlf || msg == b ++ crlf

/-- The rate character of `HIF_UART_CFG_3.BAUD`. -/
def rateChar (s : State) : Nat :=
  let b := get (F.HIF_UART_CFG_BAUD 3) s
  if b = 3 then 0x34 else if b = 4 then 0x35 else 0x36

/-- The identification message: "/", the flag ID, the rate character, "VM9640", CR, LF. -/
def identification (s : State) : List Byte :=
  [0x2F] ++ s.ld.tables.obj.flagId ++ le 1 (rateChar s) ++ [0x56, 0x4D, 0x39, 0x36, 0x34, 0x30, 0x0D, 0x0A]

/-- SIGN_ON (R366): answered from the sign-on wait; after the identification it is an acknowledgement that cannot be read. -/
def execSignOn (msg : List Byte) (s : State) : Out :=
  onlyIf (opticalUp s) (fun s =>
    if s.hif.optical = .identified then setOptical .signOn s
    else if s.hif.optical = .signOn ∧ signOnFor msg s then
      raise F.HIF_CAUSE_OPT_SIGNON (sendBytes 5 (some (identification s)) (setOptical .identified s))
    else s) s

/-- One line of the readout: an object of the list with PUBLIC read rights. The text of value and unit is free (log 11). -/
def readoutLine (obis : List Nat) (s : State) : List Byte :=
  match objectFor obis s with
  | none => []
  | some o =>
    if !(bit o.2.1 0) then []
    else match bindingValue o.1 [] s with
      | .error _ => []
      | .ok v =>
        let u := match entryOf obis s with | some e => (e.scaler, e.unit) | none => (0, 0)
        Config.readoutText obis v.1 v.2 u.1 u.2

/-- The exclusive or of bytes: the BCC of IEC 62056-21. -/
def bcc (l : List Byte) : Byte := l.foldl (· ^^^ ·) 0

/-- The data readout: the lines, "!", CR, LF, ETX and the BCC, which runs from behind STX to ETX (log 15). -/
def readout (s : State) : List Byte :=
  let b := (s.ld.tables.obj.readout.take 32).flatMap (fun o => readoutLine o s) ++ [0x21, 0x0D, 0x0A, 0x03]
  [0x02] ++ b ++ [bcc b]

/-- DATA_READOUT (R366): option 0. -/
def execDataReadout (s : State) : Out :=
  onlyIf (opticalUp s && s.hif.optical == .identified) (fun s =>
    setOptical .signOn (if e2Up s then sendBytes 5 (some (readout s)) s else s)) s

/-- PROGRAMMING_MODE (R366): option 1 is not supported; the port stays silent for 1.5 s. -/
def execProgrammingMode (s : State) : Out := onlyIf (opticalUp s && s.hif.optical == .identified) (setOptical .silent) s

/-- FRAME_MODE (R366): option 2. -/
def execFrameMode (s : State) : Out := onlyIf (opticalUp s && s.hif.optical == .identified) (setOptical .frame) s

/-- OPTICAL_TIMEOUT (R366): 60 s without a request in frame mode, 1.5 s otherwise. -/
def execOpticalTimeout (s : State) : Out :=
  let wait := if s.hif.optical = .frame then 61440 else 1536
  onlyIf (s.hif.optical != .signOn && decide (s.hif.optAt + wait ≤ s.sup.mono)) (setOptical .signOn) s

end Sys2Proof.Machine
end

