-- ==== Sys2Proof/Machine/Tick.lean ====
section
/-! DEFINITION. The RTC second (R176, R301): E0's clocks, then the stages of E1 and E2. -/
namespace Sys2Proof.Machine

/-- The length of an RTC second in 1/1024 s of the monotonic tick: 59/60 s or 61/60 s, to the nearest unit, while the clock slews
(R179, R301). -/
def secondTicks (s : State) : Nat :=
  if s.sup.slew ≠ 0 then (if 0 < slewLeft s then 1007 else 1041) else 1024

/-- E0 counts the second (R301, R271): the monotonic tick stands still in SHIP. -/
def countSecond (s : State) : State :=
  let m := if s.sup.mode = .ship then 0 else secondTicks s
  showWindows (put F.SUP_RTC_SEC_SEC (rtc s + 1) (updSup (fun p => { p with mono := p.mono + m }) s))

/-- What metrology counts by the second: the accumulator image that falls due (R121), the time LOCKED on a fallback reference with
VA qualifying (R97), the 10-minute boundaries after which an aggregate block starts (R140). -/
def metroSecond (s : State) : State :=
  let s := { s with en := { s.en with imageDue := true } }
  let s := if rtc s % 600 = 0 then { s with spec := { s.spec with newBlock := true } } else s
  if get F.FLT_STATUS_TRK_STATE s = 2 ∧ onFallback s ∧ qualifiesOn s.metro.spc 0 s then
    { s with metro := { s.metro with fallbackSecs := s.metro.fallbackSecs + 1 } }
  else s

/-- E1's stages of the tick (R176): after the missed ticks, clock adjustment, energy, demand, closure. -/
def coreOneTick (s : State) : State :=
  let c := stageClock (catchUp true s)
  workTick (fun _ => true) true c.1 c.2.bil.cur.rate (rtc c.2) c.2

/-- E1 cannot work through the tick (R176): it is kept as missed. -/
def missTick (s : State) : State :=
  updBil (fun b => { b with missedFrom := match b.missedFrom with | some t => some t | none => some (rtc s) }) s

/-- Seconds a trial has run (R242). -/
def trialSecond (s : State) : State :=
  if (updRec s).inTrial then writeUpd (fun u => { u with trialUsed := u.trialUsed + 1 }) s else s

/-- The seconds that the sessions have left (`OBJ_SESS_i.IDLE_LEFT`). -/
def idleLeft (s : State) : State :=
  (List.range 7).foldl (fun s i =>
    if sessState i s = 2 then
      put (F.OBJ_SESS_IDLE_LEFT i) (get F.OBJ_SESS_CFG_IDLE s - (s.sup.mono - (sessOf i s).last) / 1024) s
    else s) s

/-- E2's part of the tick (R176): tariff, credit and reasons, its records and registers. -/
def coreTwoTick (s : State) : State :=
  let s := evalReasons (evalCredit (stageTariff (keepRate s)))
  settleFabRec (idleLeft (trialSecond (showSlew (showCredit (writeCredit 1 s)))))

/-- RTC_SECOND (R176). After a power-fail freeze, and before the restore of R178, the stages do not run; a tick that falls in a partial
start or in a re-read that keeps metrology running is caught up (R178). -/
def execRtcSecond (s : State) : Out :=
  let s := countSecond s
  .next (if (s.sup.mode != .running && s.sup.mode != .loading) || flag F.NRG_STATUS_FROZEN s || !(domOn 2 s) then s
    else
      let s := metroSecond (slewSecond s)
      if s.sup.mode != .running || !(configured s) || !s.bil.restored then missTick s
      else
        let s := if e1Up s && domOn 5 s then coreOneTick s else missTick s
        if e2Up s then coreTwoTick s else s)

end Sys2Proof.Machine
end

