-- ==== Sys2Proof/Machine/Dispatch.lean ====
section
/-! DEFINITION. One arm per command: each calls its meaning. -/
namespace Sys2Proof.Machine

/-- The effect of a command on everything but the queue. -/
def exec (i : Instr) (s : State) : Host.Outcome State Fault Refusal :=
  match i with
  | .startUp p => Sys2Proof.Machine.execStartUp p s
  | .sectionRetry sect ok => Sys2Proof.Machine.execSectionRetry sect ok s
  | .imageVerify img => Sys2Proof.Machine.execImageVerify img s
  | .tamperEvaluation => Sys2Proof.Machine.execTamperEvaluation s
  | .guardRelease => Sys2Proof.Machine.execGuardRelease s
  | .reread m w p => Sys2Proof.Machine.execReread m w p s
  | .rereadPassOneDone img => Sys2Proof.Machine.execRereadPassOneDone img s
  | .coherentSample codes => Sys2Proof.Machine.execCoherentSample codes s
  | .halfCycleBoundary => Sys2Proof.Machine.execHalfCycleBoundary s
  | .cycleEnd => Sys2Proof.Machine.execCycleEnd s
  | .frameBoundary => Sys2Proof.Machine.execFrameBoundary s
  | .profileStage m w => Sys2Proof.Machine.execProfileStage m w s
  | .e7Ready => Sys2Proof.Machine.execE7Ready s
  | .reliefTime => Sys2Proof.Machine.execReliefTime s
  | .relieveNow m w => Sys2Proof.Machine.execRelieveNow m w s
  | .spliceWindowClose => Sys2Proof.Machine.execSpliceWindowClose s
  | .sliceOffsetDone offset => Sys2Proof.Machine.execSliceOffsetDone offset s
  | .sliceCalibration gain delay => Sys2Proof.Machine.execSliceCalibration gain delay s
  | .overloadMonitor slice => Sys2Proof.Machine.execOverloadMonitor slice s
  | .tapCfgWrite m w => Sys2Proof.Machine.execTapCfgWrite m w s
  | .tapSample codes back => Sys2Proof.Machine.execTapSample codes back s
  | .tapDataRead m => Sys2Proof.Machine.execTapDataRead m s
  | .sarResult n v => Sys2Proof.Machine.execSarResult n v s
  | .tempEvaluation => Sys2Proof.Machine.execTempEvaluation s
  | .tempDisagree => Sys2Proof.Machine.execTempDisagree s
  | .calCommit m w => Sys2Proof.Machine.execCalCommit m w s
  | .calWindowStart m w => Sys2Proof.Machine.execCalWindowStart m w s
  | .calWindowEnd edges => Sys2Proof.Machine.execCalWindowEnd edges s
  | .chainStop m w => Sys2Proof.Machine.execChainStop m w s
  | .chainRestart m w => Sys2Proof.Machine.execChainRestart m w s
  | .refSwitch => Sys2Proof.Machine.execRefSwitch s
  | .refReturn => Sys2Proof.Machine.execRefReturn s
  | .winTrip comp frac => Sys2Proof.Machine.execWinTrip comp frac s
  | .winRelease comp => Sys2Proof.Machine.execWinRelease comp s
  | .winCfgWrite m addr w => Sys2Proof.Machine.execWinCfgWrite m addr w s
  | .imbalance => Sys2Proof.Machine.execImbalance s
  | .reverseEnergy phase => Sys2Proof.Machine.execReverseEnergy phase s
  | .vddMonitorTrip => Sys2Proof.Machine.execVddMonitorTrip s
  | .resetNLow p => Sys2Proof.Machine.execResetNLow p s
  | .freezeRestart p => Sys2Proof.Machine.execFreezeRestart p s
  | .vddBelow2v3 => Sys2Proof.Machine.execVddBelow2v3 s
  | .d0BrownOut => Sys2Proof.Machine.execD0BrownOut s
  | .vbatLow => Sys2Proof.Machine.execVbatLow s
  | .pulseEdge k => Sys2Proof.Machine.execPulseEdge k s
  | .pulseEnd k => Sys2Proof.Machine.execPulseEnd k s
  | .spectrumPublish => Sys2Proof.Machine.execSpectrumPublish s
  | .aggregateClose => Sys2Proof.Machine.execAggregateClose s
  | .shBlock ws => Sys2Proof.Machine.execShBlock ws s
  | .evtPop m w => Sys2Proof.Machine.execEvtPop m w s
  | .captureArm m w => Sys2Proof.Machine.execCaptureArm m w s
  | .captureForce m w => Sys2Proof.Machine.execCaptureForce m w s
  | .captureAbort m w => Sys2Proof.Machine.execCaptureAbort m w s
  | .captureDone => Sys2Proof.Machine.execCaptureDone s
  | .captureSlotFree m w => Sys2Proof.Machine.execCaptureSlotFree m w s
  | .capCfgWrite m w => Sys2Proof.Machine.execCapCfgWrite m w s
  | .rtcSecond => Sys2Proof.Machine.execRtcSecond s
  | .closeRequest m w => Sys2Proof.Machine.execCloseRequest m w s
  | .adjRequest m w src osrc => Sys2Proof.Machine.execAdjRequest m w src osrc s
  | .tickCatchUp => Sys2Proof.Machine.execTickCatchUp s
  | .ecRequest m w => Sys2Proof.Machine.execEcRequest m w s
  | .tokenSubmit m w => Sys2Proof.Machine.execTokenSubmit m w s
  | .tokenDecodeDone => Sys2Proof.Machine.execTokenDecodeDone s
  | .keySectionsExpire => Sys2Proof.Machine.execKeySectionsExpire s
  | .remoteCredit bytes source reply => Sys2Proof.Machine.execRemoteCredit bytes source reply s
  | .mplTrip => Sys2Proof.Machine.execMplTrip s
  | .mplRelease => Sys2Proof.Machine.execMplRelease s
  | .remoteOpen m w => Sys2Proof.Machine.execRemoteOpen m w s
  | .remoteClose m w => Sys2Proof.Machine.execRemoteClose m w s
  | .lcShed m w => Sys2Proof.Machine.execLcShed m w s
  | .lcRestore m w => Sys2Proof.Machine.execLcRestore m w s
  | .mainPulseStart => Sys2Proof.Machine.execMainPulseStart s
  | .mainPulseEnd => Sys2Proof.Machine.execMainPulseEnd s
  | .mainVerify cyc => Sys2Proof.Machine.execMainVerify cyc s
  | .mainRetry => Sys2Proof.Machine.execMainRetry s
  | .loadv cyc => Sys2Proof.Machine.execLoadv cyc s
  | .openI cyc => Sys2Proof.Machine.execOpenI cyc s
  | .freezeRelease => Sys2Proof.Machine.execFreezeRelease s
  | .lcSwitch => Sys2Proof.Machine.execLcSwitch s
  | .periodicStoreTick => Sys2Proof.Machine.execPeriodicStoreTick s
  | .storeCommand m w => Sys2Proof.Machine.execStoreCommand m w s
  | .storeCommit b => Sys2Proof.Machine.execStoreCommit b s
  | .recall ecc => Sys2Proof.Machine.execRecall ecc s
  | .recallDone => Sys2Proof.Machine.execRecallDone s
  | .tieReport m w => Sys2Proof.Machine.execTieReport m w s
  | .passwordUnlock m w => Sys2Proof.Machine.execPasswordUnlock m w s
  | .passwordLock m w => Sys2Proof.Machine.execPasswordLock m w s
  | .grantLapse => Sys2Proof.Machine.execGrantLapse s
  | .sessionOpen iface => Sys2Proof.Machine.execSessionOpen iface s
  | .sessionProof iface => Sys2Proof.Machine.execSessionProof iface s
  | .proofTimeout iface => Sys2Proof.Machine.execProofTimeout iface s
  | .sessionClose iface => Sys2Proof.Machine.execSessionClose iface s
  | .objGet iface => Sys2Proof.Machine.execObjGet iface s
  | .objSet iface wd => Sys2Proof.Machine.execObjSet iface wd s
  | .objAction iface wd => Sys2Proof.Machine.execObjAction iface wd s
  | .sessionIdleTimeout iface => Sys2Proof.Machine.execSessionIdleTimeout iface s
  | .signDone => Sys2Proof.Machine.execSignDone s
  | .calEnRise => Sys2Proof.Machine.execCalEnRise s
  | .calEnFall => Sys2Proof.Machine.execCalEnFall s
  | .updBegin m w => Sys2Proof.Machine.execUpdBegin m w s
  | .eraseDone => Sys2Proof.Machine.execEraseDone s
  | .updVerify m w => Sys2Proof.Machine.execUpdVerify m w s
  | .verifyDone => Sys2Proof.Machine.execVerifyDone s
  | .updActivate m w => Sys2Proof.Machine.execUpdActivate m w s
  | .slotSwitch => Sys2Proof.Machine.execSlotSwitch s
  | .trialConfirm => Sys2Proof.Machine.execTrialConfirm s
  | .updAbort m w => Sys2Proof.Machine.execUpdAbort m w s
  | .copyLegal m w image => Sys2Proof.Machine.execCopyLegal m w image s
  | .keyInstall => Sys2Proof.Machine.execKeyInstall s
  | .keyStage => Sys2Proof.Machine.execKeyStage s
  | .keyGenerate => Sys2Proof.Machine.execKeyGenerate s
  | .destroyParent => Sys2Proof.Machine.execDestroyParent s
  | .revokeChild => Sys2Proof.Machine.execRevokeChild s
  | .reseat => Sys2Proof.Machine.execReseat s
  | .keyUpdateCommit => Sys2Proof.Machine.execKeyUpdateCommit s
  | .attestationRequest p c nonce reply => Sys2Proof.Machine.execAttestationRequest p c nonce reply s
  | .certificateRequest reply => Sys2Proof.Machine.execCertificateRequest reply s
  | .remask => Sys2Proof.Machine.execRemask s
  | .otpBurn m w => Sys2Proof.Machine.execOtpBurn m w s
  | .otpLock m w => Sys2Proof.Machine.execOtpLock m w s
  | .otpKill m w => Sys2Proof.Machine.execOtpKill m w s
  | .cryptoJob job => Sys2Proof.Machine.execCryptoJob job s
  | .cryptoJobDone => Sys2Proof.Machine.execCryptoJobDone s
  | .trngSeed raw => Sys2Proof.Machine.execTrngSeed raw s
  | .drbgReseed => Sys2Proof.Machine.execDrbgReseed s
  | .tamperTrip x frac detail => Sys2Proof.Machine.execTamperTrip x frac detail s
  | .tamperRelease x => Sys2Proof.Machine.execTamperRelease x s
  | .outageCoverSample cov tcov => Sys2Proof.Machine.execOutageCoverSample cov tcov s
  | .quietClear => Sys2Proof.Machine.execQuietClear s
  | .tamperClear m w => Sys2Proof.Machine.execTamperClear m w s
  | .faultRecordMinute => Sys2Proof.Machine.execFaultRecordMinute s
  | .watchdogExpiry e p => Sys2Proof.Machine.execWatchdogExpiry e p s
  | .engineRestartDone e => Sys2Proof.Machine.execEngineRestartDone e s
  | .coreWait core => Sys2Proof.Machine.execCoreWait core s
  | .coreDozeWake core => Sys2Proof.Machine.execCoreDozeWake core s
  | .napRequest m w => Sys2Proof.Machine.execNapRequest m w s
  | .shipRequest m w => Sys2Proof.Machine.execShipRequest m w s
  | .entryAbort m w => Sys2Proof.Machine.execEntryAbort m w s
  | .ownerConsent wake => Sys2Proof.Machine.execOwnerConsent wake s
  | .ownerDelayLimit => Sys2Proof.Machine.execOwnerDelayLimit s
  | .rtcAlarm bad => Sys2Proof.Machine.execRtcAlarm bad s
  | .napMax bad => Sys2Proof.Machine.execNapMax bad s
  | .opChange m w => Sys2Proof.Machine.execOpChange m w s
  | .opDone => Sys2Proof.Machine.execOpDone s
  | .xtal32Fail => Sys2Proof.Machine.execXtal32Fail s
  | .xtal32Back => Sys2Proof.Machine.execXtal32Back s
  | .mpllUnlock => Sys2Proof.Machine.execMpllUnlock s
  | .spllUnlock => Sys2Proof.Machine.execSpllUnlock s
  | .txFrame f => Sys2Proof.Machine.execTxFrame f s
  | .txDone => Sys2Proof.Machine.execTxDone s
  | .lbtAccess => Sys2Proof.Machine.execLbtAccess s
  | .lbtTimeout => Sys2Proof.Machine.execLbtTimeout s
  | .drvFault => Sys2Proof.Machine.execDrvFault s
  | .rxFrameDrop => Sys2Proof.Machine.execRxFrameDrop s
  | .zeroCrossing => Sys2Proof.Machine.execZeroCrossing s
  | .soundingStart m w => Sys2Proof.Machine.execSoundingStart m w s
  | .soundingBaseline m w => Sys2Proof.Machine.execSoundingBaseline m w s
  | .soundingPeriod => Sys2Proof.Machine.execSoundingPeriod s
  | .soundingMediumWon => Sys2Proof.Machine.execSoundingMediumWon s
  | .soundingDone sums => Sys2Proof.Machine.execSoundingDone sums s
  | .soundingTimeout => Sys2Proof.Machine.execSoundingTimeout s
  | .addrClaim => Sys2Proof.Machine.execAddrClaim s
  | .claimTimeout => Sys2Proof.Machine.execClaimTimeout s
  | .claimRx iface f => Sys2Proof.Machine.execClaimRx iface f s
  | .conflictRx iface f => Sys2Proof.Machine.execConflictRx iface f s
  | .dataRx iface f => Sys2Proof.Machine.execDataRx iface f s
  | .ackRx iface f => Sys2Proof.Machine.execAckRx iface f s
  | .ackTimeout => Sys2Proof.Machine.execAckTimeout s
  | .routeAdvertisement iface f => Sys2Proof.Machine.execRouteAdvertisement iface f s
  | .advertisementTimer => Sys2Proof.Machine.execAdvertisementTimer s
  | .routeExpiry => Sys2Proof.Machine.execRouteExpiry s
  | .routeRequest iface f => Sys2Proof.Machine.execRouteRequest iface f s
  | .routeReply iface f => Sys2Proof.Machine.execRouteReply iface f s
  | .routeTimeout => Sys2Proof.Machine.execRouteTimeout s
  | .neighbourLost => Sys2Proof.Machine.execNeighbourLost s
  | .contentionSlot slot idle => Sys2Proof.Machine.execContentionSlot slot idle s
  | .reassemblyTimeout => Sys2Proof.Machine.execReassemblyTimeout s
  | .sessionReq => Sys2Proof.Machine.execSessionReq s
  | .sessionRsp => Sys2Proof.Machine.execSessionRsp s
  | .creditMsg => Sys2Proof.Machine.execCreditMsg s
  | .creditRes => Sys2Proof.Machine.execCreditRes s
  | .keyUpdate msg reply => Sys2Proof.Machine.execKeyUpdate msg reply s
  | .keyRes => Sys2Proof.Machine.execKeyRes s
  | .timeMsg => Sys2Proof.Machine.execTimeMsg s
  | .alarmMsg => Sys2Proof.Machine.execAlarmMsg s
  | .tokenMsg => Sys2Proof.Machine.execTokenMsg s
  | .statusMessage => Sys2Proof.Machine.execStatusMessage s
  | .statusTimer => Sys2Proof.Machine.execStatusTimer s
  | .handoverTimeout => Sys2Proof.Machine.execHandoverTimeout s
  | .announceReq m w => Sys2Proof.Machine.execAnnounceReq m w s
  | .headSet m w => Sys2Proof.Machine.execHeadSet m w s
  | .headClr m w => Sys2Proof.Machine.execHeadClr m w s
  | .announcement iface f => Sys2Proof.Machine.execAnnouncement iface f s
  | .planActivation => Sys2Proof.Machine.execPlanActivation s
  | .rescueBeacon iface f => Sys2Proof.Machine.execRescueBeacon iface f s
  | .rescueBeaconTimer => Sys2Proof.Machine.execRescueBeaconTimer s
  | .rescueListen => Sys2Proof.Machine.execRescueListen s
  | .candidateRx iface f => Sys2Proof.Machine.execCandidateRx iface f s
  | .electionEnd => Sys2Proof.Machine.execElectionEnd s
  | .superframe => Sys2Proof.Machine.execSuperframe s
  | .beaconRx iface f => Sys2Proof.Machine.execBeaconRx iface f s
  | .joinRx iface f => Sys2Proof.Machine.execJoinRx iface f s
  | .assignRx iface f => Sys2Proof.Machine.execAssignRx iface f s
  | .coordinatedModeEnd => Sys2Proof.Machine.execCoordinatedModeEnd s
  | .panelOn m w => Sys2Proof.Machine.execPanelOn m w s
  | .pumpInRegulation => Sys2Proof.Machine.execPumpInRegulation s
  | .panelLight m w => Sys2Proof.Machine.execPanelLight m w s
  | .panelOff m w => Sys2Proof.Machine.execPanelOff m w s
  | .panelGlow m w => Sys2Proof.Machine.execPanelGlow m w s
  | .panelFrameEnd => Sys2Proof.Machine.execPanelFrameEnd s
  | .pumpFault k => Sys2Proof.Machine.execPumpFault k s
  | .blinkPhase sub => Sys2Proof.Machine.execBlinkPhase sub s
  | .panelRamWrite m k w => Sys2Proof.Machine.execPanelRamWrite m k w s
  | .keypadScan keys => Sys2Proof.Machine.execKeypadScan keys s
  | .keyPress code => Sys2Proof.Machine.execKeyPress code s
  | .keyRelease code => Sys2Proof.Machine.execKeyRelease code s
  | .keypadWake bad => Sys2Proof.Machine.execKeypadWake bad s
  | .kpdEventRead m => Sys2Proof.Machine.execKpdEventRead m s
  | .hostFetch iface => Sys2Proof.Machine.execHostFetch iface s
  | .hostRead iface a n ecc => Sys2Proof.Machine.execHostRead iface a n ecc s
  | .hostWrite iface a bytes wd => Sys2Proof.Machine.execHostWrite iface a bytes wd s
  | .hostObject iface bytes => Sys2Proof.Machine.execHostObject iface bytes s
  | .fabSend iface a bytes => Sys2Proof.Machine.execFabSend iface a bytes s
  | .fabRecv iface => Sys2Proof.Machine.execFabRecv iface s
  | .hostWake iface bad => Sys2Proof.Machine.execHostWake iface bad s
  | .hostStatus iface => Sys2Proof.Machine.execHostStatus iface s
  | .unknownCommand iface frame => Sys2Proof.Machine.execUnknownCommand iface frame s
  | .responseReady iface => Sys2Proof.Machine.execResponseReady iface s
  | .responseDiscard iface => Sys2Proof.Machine.execResponseDiscard iface s
  | .uartGapTimeout iface => Sys2Proof.Machine.execUartGapTimeout iface s
  | .hwakeN bad => Sys2Proof.Machine.execHwakeN bad s
  | .signOn msg => Sys2Proof.Machine.execSignOn msg s
  | .dataReadout => Sys2Proof.Machine.execDataReadout s
  | .programmingMode => Sys2Proof.Machine.execProgrammingMode s
  | .frameMode => Sys2Proof.Machine.execFrameMode s
  | .opticalTimeout => Sys2Proof.Machine.execOpticalTimeout s
  | .claimGo m w => Sys2Proof.Machine.execClaimGo m w s
  | .claimRelease m w => Sys2Proof.Machine.execClaimRelease m w s
  | .timerStart m n w => Sys2Proof.Machine.execTimerStart m n w s
  | .timerStop m n w => Sys2Proof.Machine.execTimerStop m n w s
  | .timerMatch n cnt => Sys2Proof.Machine.execTimerMatch n cnt s
  | .timerCapture n rising => Sys2Proof.Machine.execTimerCapture n rising s
  | .frameNumRead m => Sys2Proof.Machine.execFrameNumRead m s
  | .accLoRead m k => Sys2Proof.Machine.execAccLoRead m k s
  | .bilRegLoRead m => Sys2Proof.Machine.execBilRegLoRead m s
  | .payCreditLoRead m => Sys2Proof.Machine.execPayCreditLoRead m s
  | .welCtrLoRead m => Sys2Proof.Machine.execWelCtrLoRead m s
  | .objReadCtrRead m => Sys2Proof.Machine.execObjReadCtrRead m s
  | .rtcSecRead m => Sys2Proof.Machine.execRtcSecRead m s
  | .tsFrameRead m l => Sys2Proof.Machine.execTsFrameRead m l s
  | .busFaultRead m => Sys2Proof.Machine.execBusFaultRead m s
  | .busFaultInfoRead m => Sys2Proof.Machine.execBusFaultInfoRead m s
  | .readToClear m a width ecc => Sys2Proof.Machine.execReadToClear m a width ecc s
  | .registerWrite m a w width wd => Sys2Proof.Machine.execRegisterWrite m a w width wd s
  | .mpllLock => Sys2Proof.Machine.execMpllLock s
  | .spllLock => Sys2Proof.Machine.execSpllLock s
  | .standbyCalibration => Sys2Proof.Machine.execStandbyCalibration s
  | .soundingRepeat => Sys2Proof.Machine.execSoundingRepeat s
  | .coordinatedStartUp => Sys2Proof.Machine.execCoordinatedStartUp s
  | .preambleDetected bandC => Sys2Proof.Machine.execPreambleDetected bandC s
  | .blankingRatio samples => Sys2Proof.Machine.execBlankingRatio samples s
  | .legalCopyDone p => Sys2Proof.Machine.execLegalCopyDone p s
  | .lcPulseEnd => Sys2Proof.Machine.execLcPulseEnd s
  | .debugStart p => Sys2Proof.Machine.execDebugStart p s

end Sys2Proof.Machine
end

