-- ==== Sys2Proof/Safety.lean ====
section
/-! DEFINITION. What counts as a safe run: the state keeps its canonical form, and what has been burnt into the identity OTP stays
burnt (R16, R247); and the terms the statements use: which register bits a command leaves alone, a cause raised, a write that gets
through. -/
namespace Sys2Proof.Machine

/-- The canonical form of the state: registers, stored write-only values and memory are sparse maps without an entry equal to what
an unlisted key reads as, in rising order, so that equal contents are equal data. -/
abbrev State.Inv (s : State) : Prop :=
  sparseWf (0 : Word) s.regs = true ∧ sparseWf (0 : Word) s.hidden = true ∧ Memory.wf s.mem = true

/-- Whatever the identity OTP of `s` holds, that of `t` holds too: the three fuses, the image and key authority keys and the spare
map are written once and never change (R16, R247). -/
def OtpKept (s t : State) : Prop :=
  (s.well.provLock = true → t.well.provLock = true) ∧ (s.well.dbgKill = true → t.well.dbgKill = true) ∧
  (s.well.wellInit = true → t.well.wellInit = true) ∧ (∀ b, s.well.spareMap = some b → t.well.spareMap = some b) ∧
  ∀ i k, nth none s.well.otp i = some k → nth none t.well.otp i = some k

/-- Two fields share no bit: they stand in different registers or their bit ranges do not meet. -/
def Fld.apart (f g : Fld) : Bool := f.addr != g.addr || decide (f.lo + f.width ≤ g.lo) || decide (g.lo + g.width ≤ f.lo)

/-- `t` is `u` but for the register bits of the fields `L`: every other part of the state is the same, and every field of any
register that shares no bit with one of `L` reads as in `u`. -/
def OnlyFlds (L : List Fld) (u t : State) : Prop :=
  t = { u with regs := t.regs } ∧ ∀ g : Fld, (∀ f ∈ L, f.apart g = true) → get g t = get g u

/-- From `s` to `t` hardware has set bit `i` of the cause field `f`: the bit reads 1 in `t`, and, when it was enabled in `s`, the
block's bit of `INT_HOST_PEND` reads 1 too (R371). -/
def RaisedAt (f : Fld) (i : Nat) (s t : State) : Prop :=
  fbit f i t = true ∧
  ((rd s (enableOf f.addr)).toNat.testBit (f.lo + i) = true → fbit F.INT_HOST_PEND_PEND (blockOf f.addr) t = true)

/-- From `s` to `t` hardware has set the one-bit cause `f`. -/
def Raised (f : Fld) (s t : State) : Prop := RaisedAt f 0 s t

/-- A write of master `m` to the register at `a` gets through: its domain is powered, and the writer rules let `m` write it. -/
abbrev Writable (m : Master) (a : Nat) (s : State) : Prop := domOn (blockDom (blockOf a)) s = true ∧ mayWrite m a s = true

/-- One more occurrence of fault counter `c` now does not make it lasting (R271). -/
def staysBelow (c : Nat) (s : State) : Bool :=
  let n := get (F.TAMP_FC_CFG_N c) s
  isLasting c s || n == 0 ||
    decide (inWindow (winOf c s) s.sup.mono ((s.sup.mono :: nth [] s.tamp.hist c).take (max n 1)) < n)

/-- The register bits that one occurrence of counter `c` may touch while it does not become lasting: its own counts, the occurrence
cause, the log's queue or its bank. -/
def countedFlds (c : Nat) : List Fld :=
  [F.TAMP_FC_STAT_TOTAL c, F.TAMP_FC_STAT_IN_WIN c, F.TAMP_CAUSE_OCCURRENCE, F.TAMP_CAUSE_LOG_LOST, F.TAMP_STATUS_QUEUED,
    F.TAMP_STATUS_LOST, F.CIS_STATUS_DIRTY, F.INT_HOST_PEND_PEND] ++ (if c ≤ 9 then [F.CNV_SLICE_CFG_FAULTS c] else [])

/-- From `s` to `t` one occurrence of counter `c` has been counted (R271): TOTAL rises, saturating, and the cause is set. -/
def Counted (c : Nat) (s t : State) : Prop :=
  get (F.TAMP_FC_STAT_TOTAL c) t = min (2 ^ (F.TAMP_FC_STAT_TOTAL c).width - 1) (get (F.TAMP_FC_STAT_TOTAL c) s + 1) ∧
  Raised F.TAMP_CAUSE_OCCURRENCE s t

/-- The RMS of the last cycle's samples of the eight channels, as a half-cycle boundary forms it (R100). -/
def halfCycleRms (s : State) : List Nat :=
  (List.range 8).map fun c => isqrt (sumSq (chanWin (s.metro.hist.take s.metro.spc) c) / s.metro.spc)

/-- A load begins (R31, R33, R44, R298): loader state 1 in guarded start and OP0, reading the memory the probe finds; everything
outside D0 but the Cistern's planes is lost. -/
def Loads (p : Probe) (s t : State) : Prop :=
  t.sup.mode = .loading ∧ t.ld.source = probeSource p ∧ t.ld.refused = decide (probeSource p = 0) ∧ guarded t = true ∧
  get F.CFG_STATUS_STATE t = 1 ∧ get F.CFG_STATUS_GUARDED t = 1 ∧ get F.CFG_STATUS_TAMPER_PENDING t = 1 ∧
  (probeSource p = 0 → flag F.CFG_CAUSE_NO_MEMORY t = true) ∧ get F.CLK_STATUS_OP t = 0 ∧ t.ld.tables = {} ∧
  t.mem = [] ∧ t.metro = {} ∧ t.en = {} ∧ t.spec = {} ∧ t.pay = {} ∧ t.lmd = {} ∧ t.fab = {} ∧ t.pnl = {} ∧
  t.cis = { planes := s.cis.planes }

/-- The register fields in which the credit account is shown, with the dirty bit of its record's bank. -/
def creditShown : List Fld :=
  [F.PAY_CREDIT_LO_CREDIT, F.PAY_MONTH_WH, F.PAY_MPL_LIMIT, F.PAY_STATUS_QUEUE, F.PAY_STATUS_EC_ACTIVE, F.PAY_STATUS_NO_PREPAY,
    F.RLY_OPS_OPS, F.CIS_STATUS_DIRTY]

/-- The band A frame with the contents `f`, as it waits for the line: its numbers, BODY's cipher text, MIC and FCS are filled in when
it goes out (R325, R326). -/
def ownFrame (f : FabFrame) : TxFrame :=
  { frame := { f with cipher := [], mic := [], fcs := 0 }, rescue := frameType f.body == 5 }

/-- The frame of this node that says `f`: it is also its originator (R325). -/
def freshFrame (f : FabFrame) (s : State) : TxFrame := ownFrame { f with osrc := myName s, taken := 0 }

/-- From `u` to `t` the frame `x` has been queued and counted in `FAB_COUNT_k`, and beside the register bits of `L` nothing else
differs. -/
def Sent (k : Nat) (L : List Fld) (x : TxFrame) (u t : State) : Prop :=
  get (F.FAB_COUNT_COUNT k) t = min (2 ^ 32 - 1) (get (F.FAB_COUNT_COUNT k) u + 1) ∧
  OnlyFlds (F.FAB_COUNT_COUNT k :: L) { u with fab := { u.fab with txq := u.fab.txq ++ [x] } } t

/-- The register fields in which E10 shows the sizes of its tables and the selected route entry (R342). -/
def tablesShown : List Fld :=
  [F.FAB_STATUS_NEIGHBOURS, F.FAB_STATUS_ROUTES, ⟨R.FAB_ROUTE, 0, 32⟩, ⟨R.FAB_ROUTE_INFO, 0, 32⟩]

/-- From `u` to `t` interface `i` has accepted a request of command `cmd` and answered it (R358, R361): the next RSEQ, the slot held
with status and payload, and beside the register bits of `L` nothing else differs. -/
def Answered (i cmd status : Nat) (payload : List Byte) (L : List Fld) (u t : State) : Prop :=
  let n := (nth 0 u.hif.rseq i + 1) % 256
  fbit F.HIF_STATUS_SLOT i t = true ∧
  OnlyFlds (F.HIF_STATUS_SLOT :: L) { u with hif := { u.hif with
    rseq := upd u.hif.rseq i fun _ => n
    optAt := if i = 5 then u.sup.mono else u.hif.optAt
    slots := upd u.hif.slots i fun _ => .busy cmd n (some ⟨status, cmd, n, payload⟩)
    since := upd u.hif.since i fun _ => u.sup.mono } } t

/-- Interface `i` works and its slot is free: it takes the next request (R361). -/
abbrev Free (i : Nat) (s : State) : Prop :=
  ifaceUp i s = true ∧ slotOf i s = .free ∧ i < s.hif.slots.length ∧ i < s.hif.rseq.length

/-- The master and the register of a command that is a write of one register with an effect of its own. -/
def writeOf : Instr → Option (Master × Nat)
  | .reread m _ _ => some (m, R.CFG_CTL)
  | .profileStage m _ => some (m, R.PHE_PROFILE_CTL)
  | .relieveNow m _ => some (m, R.CNV_CTL)
  | .tapCfgWrite m _ => some (m, R.CNV_TAP_CFG)
  | .calCommit m _ | .calWindowStart m _ => some (m, R.CNV_CAL_CTL)
  | .chainStop m _ | .chainRestart m _ => some (m, R.FLT_CTL)
  | .evtPop m _ => some (m, R.SPE_EVT_CTL)
  | .captureArm m _ | .captureForce m _ | .captureAbort m _ => some (m, R.SPE_CAP_CTL)
  | .captureSlotFree m _ => some (m, R.SPE_CAP_FULL)
  | .capCfgWrite m _ => some (m, R.SPE_CAP_CFG)
  | .closeRequest m _ => some (m, R.BIL_CTL)
  | .adjRequest m _ _ _ => some (m, R.TAR_ADJ_REQ)
  | .ecRequest m _ | .tokenSubmit m _ => some (m, R.PAY_TOKEN_CTL)
  | .remoteOpen m _ | .remoteClose m _ | .lcShed m _ | .lcRestore m _ => some (m, R.RLY_CTL)
  | .storeCommand m _ => some (m, R.CIS_CTL)
  | .tieReport m _ => some (m, R.CIS_REPORT)
  | .passwordUnlock m _ | .passwordLock m _ => some (m, R.CIS_HOST_UNLOCK)
  | .updBegin m _ | .updVerify m _ | .updActivate m _ | .updAbort m _ | .copyLegal m _ _ => some (m, R.UPD_CTL)
  | .otpBurn m _ | .otpLock m _ | .otpKill m _ => some (m, R.WEL_OTP_CTL)
  | .tamperClear m _ => some (m, R.TAMP_CTL)
  | .napRequest m _ | .shipRequest m _ | .entryAbort m _ => some (m, R.PMU_CTL)
  | .opChange m _ => some (m, R.CLK_CTL)
  | .soundingStart m _ | .soundingBaseline m _ => some (m, R.LMD_SND_CTL)
  | .announceReq m _ | .headSet m _ | .headClr m _ => some (m, R.FAB_CTL)
  | .panelOn m _ | .panelLight m _ | .panelOff m _ | .panelGlow m _ => some (m, R.PNL_CTL)
  | .claimGo m _ | .claimRelease m _ => some (m, R.PIN_CLAIM)
  | _ => none

/-- The master and the register of a command that is a read of one register. -/
def readOf : Instr → Option (Master × Nat)
  | .frameNumRead m => some (m, R.PHE_FRAME_NUM)
  | .bilRegLoRead m => some (m, R.BIL_REG_LO)
  | .payCreditLoRead m => some (m, R.PAY_CREDIT_LO)
  | .welCtrLoRead m => some (m, R.WEL_CTR_LO)
  | .objReadCtrRead m => some (m, R.OBJ_READ_CTR)
  | .rtcSecRead m => some (m, R.SUP_RTC_SEC)
  | .busFaultRead m => some (m, R.PMU_BUS_FAULT)
  | .busFaultInfoRead m => some (m, R.PMU_BUS_FAULT_INFO)
  | .tapDataRead m => some (m, R.CNV_TAP_DATA)
  | .kpdEventRead m => some (m, R.KPD_EVENT)
  | .accLoRead m k => if k < 40 then some (m, R.NRG_ACC_LO k) else none
  | .tsFrameRead m l => if l < 64 then some (m, R.EVF_TS_FRAME l) else none
  | .readToClear m a width _ => if inRegs a && !(badAccess a width) then some (m, a) else none
  | _ => none

end Sys2Proof.Machine
end

