-- ==== Sys2Proof/Certificates/Slice0/Obligations.lean ====
section
/-! DEFINITION. The statements for the provers: the machine's own rules (one step runs one command, the canonical form and the OTP
are kept, every command answers a state), the bus, and, family by family, what each command does and what it leaves alone. -/
open Sys2Proof Sys2Proof.Machine

/-- One step takes the command at the front of the queue and is that command's effect on the state with the queue's rest -/
def Obligations.StepRunsFrontCommand : Prop :=
  ∀ (s : State) (c : Instr) (rest : List Instr), s.pending = c :: rest → step s = exec c { s with pending := rest }

/-- The model's own choice (log 6): with no command waiting a step changes nothing -/
def Obligations.StepIdlesOnEmptyQueue : Prop :=
  ∀ s : State, s.pending = [] → step s = .next s

/-- After reset the registers hold the numbers their tables give, no memory byte is listed and no command waits -/
def Obligations.ResetValues : Prop :=
  rd State.reset R.SUP_ID = 0x96400B00#32 ∧ get F.PMU_STATE_STATE State.reset = 0 ∧ get F.PMU_STATE_CORE_DOZE State.reset = 0 ∧
    rd State.reset R.CFG_STATUS = 0x21#32 ∧ (∀ n < 8, rd State.reset (R.TIM_LOAD n) = 0xFFFFFFFF#32) ∧
    (∀ l < 64, rd State.reset (R.EVF_TS_FRAME l) = 0xFFFFFFFF#32) ∧ rd State.reset R.INT_HOST_PEND = 0#32 ∧
    (∀ b < 28, ∀ a ∈ causeOf b, rd State.reset a = 0#32) ∧ State.reset.mem = [] ∧ State.reset.pending = []

/-- The state after reset has the canonical form, and nothing is burnt into its OTP yet -/
def Obligations.ResetInv : Prop :=
  State.reset.Inv ∧ State.reset.well.provLock = false ∧ State.reset.well.wellInit = false

/-- Every step from a state in canonical form leads to one: registers, write-only values and memory stay sparse, sorted and minimal -/
def Obligations.StepKeepsInv : Prop :=
  ∀ s t : State, s.Inv → step s = .next t → t.Inv

/-- Every command, in every state, has an effect: it answers a next state, and it leaves the commands that wait as they are -/
def Obligations.EveryCommandAnswersNext : Prop :=
  ∀ (c : Instr) (s : State), ∃ t, exec c s = .next t ∧ t.pending = s.pending

/-- What is burnt into the identity OTP stays burnt: fuses, authority keys and the spare map survive every command and restart -/
def Obligations.StepKeepsOtp : Prop :=
  ∀ s t : State, step s = .next t → OtpKept s t

/-- An access to a register whose domain is off has no effect but the bus fault: nothing is powered, read or written -/
def Obligations.OffDomainAccess : Prop :=
  (∀ (c : Instr) (m : Master) (a : Nat) (s : State), writeOf c = some (m, a) → domOn (blockDom (blockOf a)) s = false →
      exec c s = .next (busFault m a (blockDom (blockOf a)) (offKind (blockDom (blockOf a)) s) true false s)) ∧
    (∀ (c : Instr) (m : Master) (a : Nat) (s : State), readOf c = some (m, a) → domOn (blockDom (blockOf a)) s = false →
      exec c s = .next (busFault m a (blockDom (blockOf a)) (offKind (blockDom (blockOf a)) s) false false s) ∧ (readReg m a s).1 = 0) ∧
    (∀ (m : Master) (a : Nat) (w : Word) (wd : World) (s : State), inRegs a = true → a % 4 = 0 →
      domOn (blockDom (blockOf a)) s = false → (writeReg m a w wd s).1 = 2 ∧
      exec (.registerWrite m a w .word wd) s =
        .next (busFault m a (blockDom (blockOf a)) (offKind (blockDom (blockOf a)) s) true false s)) ∧
    (∀ (m : Master) (a d k : Nat) (i n : Bool) (s : State), s.Inv → (rd (busFault m a d k i n s) R.PMU_BUS_FAULT).toNat = a % 2 ^ 32 ∧
      Raised F.PMU_CAUSE_BUS_FAULT s (busFault m a d k i n s) ∧
      OnlyFlds [F.PMU_BUS_FAULT_ADDR, F.PMU_CAUSE_BUS_FAULT, F.INT_HOST_PEND_PEND]
        { s with sup := { s.sup with
          bfLive := min 0xFFFF (s.sup.bfLive + 1)
          bfInfo := masterCode m + d * 2 ^ 5 + k * 2 ^ 9 + b2n i * 2 ^ 11 + b2n n * 2 ^ 12 } } (busFault m a d k i n s))

/-- A write by a master the writer rules do not allow is dropped; a host hears DENIED, any other master nothing -/
def Obligations.DeniedWrite : Prop :=
  (∀ (c : Instr) (m : Master) (a : Nat) (s : State), writeOf c = some (m, a) → domOn (blockDom (blockOf a)) s = true →
      mayWrite m a s = false → exec c s = .next (if isHost m then raise F.HIF_CAUSE_DENIED s else s)) ∧
    (∀ (m : Master) (a : Nat) (w : Word) (wd : World) (s : State), inRegs a = true → a % 4 = 0 →
      domOn (blockDom (blockOf a)) s = true → mayWrite m a s = false → (writeReg m a w wd s).1 = 3 ∧
      exec (.registerWrite m a w .word wd) s = .next (if isHost m then raise F.HIF_CAUSE_DENIED s else s))

/-- Only E2 may write PHE_PROFILE_CTL; any other master's write is dropped, and a host's is answered DENIED -/
def Obligations.ProfileControlOwner : Prop :=
  ∀ (m : Master) (w : Word) (wd : World) (s : State), (mayWrite m R.PHE_PROFILE_CTL s = true ↔ m = .engine 2) ∧
    (m ≠ .engine 2 → domOn 2 s = true →
      exec (.profileStage m w) s = .next (if isHost m then raise F.HIF_CAUSE_DENIED s else s) ∧
      exec (.registerWrite m R.PHE_PROFILE_CTL w .word wd) s = .next (if isHost m then raise F.HIF_CAUSE_DENIED s else s) ∧
      (isHost m = true → (writeReg m R.PHE_PROFILE_CTL w wd s).1 = 3))

/-- E2 alone may write UPD_CTL, E1 and E2 the cause and enable registers; any other write is dropped, a host's answered DENIED -/
def Obligations.UpdateControlOwner : Prop :=
  ∀ (m : Master) (s : State), (mayWrite m R.UPD_CTL s = true ↔ m = .engine 2) ∧
    (∀ a ∈ [R.OBJ_CAUSE, R.OBJ_CAUSE_EN, R.UPD_CAUSE, R.UPD_CAUSE_EN], mayWrite m a s = true ↔ m = .engine 1 ∨ m = .engine 2) ∧
    (∀ a ∈ [R.UPD_CTL, R.OBJ_CAUSE, R.OBJ_CAUSE_EN, R.UPD_CAUSE, R.UPD_CAUSE_EN], ∀ (w : Word) (wd : World),
      domOn 5 s = true → mayWrite m a s = false →
        exec (.registerWrite m a w .word wd) s = .next (if isHost m then raise F.HIF_CAUSE_DENIED s else s) ∧
        (isHost m = true → (writeReg m a w wd s).1 = 3)) ∧
    (∀ (w : Word) (image : Option Image), domOn 5 s = true → m ≠ .engine 2 →
      ∀ c ∈ [Instr.updBegin m w, .updVerify m w, .updActivate m w, .updAbort m w, .copyLegal m w image],
        exec c s = .next (if isHost m then raise F.HIF_CAUSE_DENIED s else s))

/-- REGISTER_WRITE by the access codes: SPE_PQ_THR (RW) stores, PAY_CAUSE (W1C) clears the ones written, an LK register keeps its word -/
def Obligations.RegisterWriteAccess : Prop :=
  (∀ (s : State) (w : Word) (wd : World), s.Inv → domOn 3 s = true →
    ∃ t, exec (.registerWrite (.engine 2) R.SPE_PQ_THR w .word wd) s = .next t ∧ rd t R.SPE_PQ_THR = w ∧
      OnlyFlds [⟨R.SPE_PQ_THR, 0, 32⟩] s t) ∧
  (∀ (s : State) (m : Master) (w : Word) (wd : World), s.Inv → domOn 5 s = true → m = .engine 1 ∨ m = .engine 2 →
    ∃ t, exec (.registerWrite m R.PAY_CAUSE w .word wd) s = .next t ∧
      rd t R.PAY_CAUSE = rd s R.PAY_CAUSE &&& ~~~(w &&& 0x7FF#32) ∧
      OnlyFlds [⟨R.PAY_CAUSE, 0, 32⟩] s t) ∧
  (∀ (s : State) (w : Word) (wd : World), s.Inv → domOn 1 s = true → s.ld.locked = true →
    ∃ t, exec (.registerWrite (.engine 1) R.CNV_PLAUS_LIM_0 w .word wd) s = .next t ∧ rd t R.CNV_PLAUS_LIM_0 = rd s R.CNV_PLAUS_LIM_0 ∧
      OnlyFlds [] s t) ∧
  (∀ (s : State) (m : Master) (a : Nat) (w : Word) (width : AccessWidth) (wd : World), inRegs a = true →
    width ≠ .word ∨ a % 4 ≠ 0 →
    exec (.registerWrite m a w width wd) s = .next (busFault m a (blockDom (blockOf a)) 2 true true s))

/-- Reading the low word of a wide value latches the rest beside it, and changes nothing else -/
def Obligations.ReadLatches : Prop :=
  (∀ (s : State) (m : Master), s.Inv → domOn 2 s = true →
    ∃ t, exec (.frameNumRead m) s = .next t ∧ (readReg m R.PHE_FRAME_NUM s).1 = rd s R.PHE_FRAME_NUM ∧
      get F.PHE_FRAME_POS_SAMPLE t = (s.metro.pos - 1) % 4096 ∧ OnlyFlds [F.PHE_FRAME_POS_SAMPLE] s t) ∧
  (∀ (s : State) (m : Master) (k : Nat), s.Inv → domOn 2 s = true → k < 40 →
    ∃ t, exec (.accLoRead m k) s = .next t ∧ (readReg m (R.NRG_ACC_LO k) s).1 = rd s (R.NRG_ACC_LO k) ∧
      (rd t (R.NRG_ACC_MID k)).toNat = nth 0 s.en.accPub k / 2 ^ 64 % 2 ^ 32 ∧
      (rd t (R.NRG_ACC_HI k)).toNat = nth 0 s.en.accPub k / 2 ^ 96 % 2 ^ 32 ∧
      OnlyFlds [⟨R.NRG_ACC_MID k, 0, 32⟩, ⟨R.NRG_ACC_HI k, 0, 32⟩] s t) ∧
  (∀ (s : State) (m : Master), s.Inv → domOn 4 s = true →
    ∃ t, exec (.bilRegLoRead m) s = .next t ∧ (readReg m R.BIL_REG_LO s).1 = rd s R.BIL_REG_LO ∧
      (rd t R.BIL_REG_HI).toNat = selected s / 2 ^ 32 % 2 ^ 32 ∧ OnlyFlds [⟨R.BIL_REG_HI, 0, 32⟩] s t) ∧
  (∀ (s : State) (m : Master), s.Inv → domOn 5 s = true →
    ∃ t, exec (.payCreditLoRead m) s = .next t ∧ (readReg m R.PAY_CREDIT_LO s).1 = rd s R.PAY_CREDIT_LO ∧
      (rd t R.PAY_CREDIT_HI).toNat = wrapTo 64 s.pay.cur.credit / 2 ^ 32 % 2 ^ 32 ∧ OnlyFlds [⟨R.PAY_CREDIT_HI, 0, 32⟩] s t) ∧
  (∀ (s : State) (m : Master), s.Inv → domOn 0 s = true →
    ∃ t, exec (.welCtrLoRead m) s = .next t ∧ (readReg m R.WEL_CTR_LO s).1 = rd s R.WEL_CTR_LO ∧
      (rd t R.WEL_CTR_HI).toNat = (wellRec s).counter / 2 ^ 32 % 2 ^ 32 ∧ OnlyFlds [⟨R.WEL_CTR_HI, 0, 32⟩] s t) ∧
  (∀ (s : State) (m : Master), s.Inv → domOn 5 s = true →
    ∃ t, exec (.objReadCtrRead m) s = .next t ∧ (readReg m R.OBJ_READ_CTR s).1 = rd s R.OBJ_READ_CTR ∧
      (rd t R.OBJ_READ_CTR_HI).toNat = counter 6 s / 2 ^ 32 % 2 ^ 32 ∧ OnlyFlds [⟨R.OBJ_READ_CTR_HI, 0, 32⟩] s t)

/-- The reads that latch a timestamp, a fault count or the sub-second, and the reads that take an entry away or clear a field -/
def Obligations.ReadEffects : Prop :=
  (∀ (s : State) (m : Master), s.Inv → domOn 0 s = true →
    ∃ t, exec (.rtcSecRead m) s = .next t ∧ (readReg m R.SUP_RTC_SEC s).1 = rd s R.SUP_RTC_SEC ∧
      get F.SUP_RTC_STATUS_SUB t = Config.freeNat s.free % 1024 ∧
      OnlyFlds [F.SUP_RTC_STATUS_SUB] { s with free := s.free + 1 } t) ∧
  (∀ (s : State) (m : Master) (l : Nat), s.Inv → domOn 0 s = true → l < 64 →
    ∃ t, exec (.tsFrameRead m l) s = .next t ∧ (readReg m (R.EVF_TS_FRAME l) s).1 = rd s (R.EVF_TS_FRAME l) ∧
      (rd t (R.EVF_TS_POS l)).toNat = (sparseGet (0, 0, 0) s.tamp.tsLive l).2.1 % 2 ^ 32 ∧
      (rd t (R.EVF_TS_RTC l)).toNat = (sparseGet (0, 0, 0) s.tamp.tsLive l).2.2 % 2 ^ 32 ∧
      OnlyFlds [⟨R.EVF_TS_POS l, 0, 32⟩, ⟨R.EVF_TS_RTC l, 0, 32⟩] s t) ∧
  (∀ (s : State) (m : Master), s.Inv → domOn 0 s = true → s.sup.bfInfo < 2 ^ 16 → s.sup.bfLive < 2 ^ 16 →
    ∃ t, exec (.busFaultRead m) s = .next t ∧ (readReg m R.PMU_BUS_FAULT s).1 = rd s R.PMU_BUS_FAULT ∧
      get F.PMU_BUS_FAULT_INFO_COUNT t = s.sup.bfLive ∧ (rd t R.PMU_BUS_FAULT_INFO).toNat % 2 ^ 16 = s.sup.bfInfo ∧
      OnlyFlds [⟨R.PMU_BUS_FAULT_INFO, 0, 32⟩] { s with sup := { s.sup with bfTaken := false } } t) ∧
  (∀ (s : State) (m : Master), domOn 0 s = true → s.sup.bfTaken = false → exec (.busFaultInfoRead m) s =
      .next { s with sup := { s.sup with bfTaken := true, bfLive := s.sup.bfLive - get F.PMU_BUS_FAULT_INFO_COUNT s } } ∧
      (readReg m R.PMU_BUS_FAULT_INFO s).1 = rd s R.PMU_BUS_FAULT_INFO) ∧
  (∀ (s : State) (m : Master), domOn 1 s = true →
    ∃ t, exec (.tapDataRead m) s = .next t ∧ (readReg m R.CNV_TAP_DATA s).1 = rd s R.CNV_TAP_DATA ∧
      t.conv.fifo = s.conv.fifo.tail ∧ t.conv = { s.conv with fifo := t.conv.fifo } ∧
      t = { s with conv := t.conv, regs := t.regs }) ∧
  (∀ (s : State) (m : Master) (e : Nat) (l : List Nat), domOn 10 s = true → s.pnl.fifo = e :: l → m ≠ .engine 2 →
    ∃ t, exec (.kpdEventRead m) s = .next t ∧ (readReg m R.KPD_EVENT s).1 = rd s R.KPD_EVENT ∧
      t.pnl = { s.pnl with fifo := l } ∧ t = { s with pnl := t.pnl, regs := t.regs }) ∧
  (∀ (s : State) (m : Master) (ecc : Nat), s.Inv → domOn 3 s = true →
    ∃ t, exec (.readToClear m R.SPE_EVT_CTL .word ecc) s = .next t ∧ (readReg m R.SPE_EVT_CTL s).1 = rd s R.SPE_EVT_CTL ∧
      get F.SPE_EVT_CTL_LOST t = 0 ∧ OnlyFlds [F.SPE_EVT_CTL_LOST] s t)

/-- START_UP, DEBUG_START, RESET_N_LOW and FREEZE_RESTART begin a load: run and cause, the domains lost but D0, the memory probed -/
def Obligations.StartBegins : Prop :=
  (∀ (s : State) (p : Probe), s.Inv → s.sup.mode = .por → s.sup.nextCause = 1 →
    ∃ t, exec (.startUp p) s = .next t ∧ Loads p s t ∧ run t = (newestRun s + 1) % 2 ^ 32 ∧
      rd t R.SUP_RESET_CAUSE = 1#32 ∧ t.sup.d0Kept = false) ∧
  (∀ (s : State) (p : Probe), s.Inv → flag F.WEL_STATUS_ROOT s = true → s.sup.mode = .running ∨ s.sup.mode = .loading →
    ∃ t, exec (.debugStart p) s = .next t ∧ Loads p s t ∧ run t = (run s + 1) % 2 ^ 32 ∧
      rd t R.SUP_RESET_CAUSE = 64#32 ∧ t.sup.d0Kept = true) ∧
  (∀ (s : State) (p : Probe), flag F.WEL_STATUS_ROOT s = false → exec (.debugStart p) s = .next s) ∧
  (∀ (s : State) (p : Probe), s.Inv → s.sup.mode = .running → canFreeze s = false → storesDone s = true →
    ∃ t, exec (.resetNLow p) s = .next t ∧ Loads p s t ∧ run t = (run s + 1) % 2 ^ 32 ∧
      rd t R.SUP_RESET_CAUSE = 8#32 ∧ t.sup.d0Kept = true) ∧
  (∀ (s : State) (p : Probe) (f : FreezeRec), s.Inv → s.sup.mode = .frozen → storesDone s = true → vddGood s = true →
    s.ld.restartAll = false → s.sup.freezeOnResetN = false → s.sup.freeze = some f →
    ∃ t, exec (.freezeRestart p) s = .next t ∧ Loads p s t ∧ run t = (run s + 1) % 2 ^ 32 ∧
      rd t R.SUP_RESET_CAUSE = 128#32 ∧ t.sup.d0Kept = true ∧ t.sup.freeze = some f) ∧
  (∀ (s : State),
    ∃ t, exec .d0BrownOut s = .next t ∧ t.regs = State.reset.regs ∧ t.hidden = [] ∧ t.mem = [] ∧ t.cis = { planes := s.cis.planes } ∧
      t.sup = {} ∧ t.tamp = {} ∧ t.pay = {} ∧ t.well.otp = s.well.otp ∧ t.obj.slotA = s.obj.slotA ∧ t.obj.slotB = s.obj.slotB ∧
      t.ld = { legalPart := s.ld.legalPart } ∧ t.pending = s.pending)

/-- SECTION_RETRY reads again at half the clock; IMAGE_VERIFY sets the cause of the first failed check, or puts the image in force -/
def Obligations.ImageVerification : Prop :=
  (∀ (s : State) (sect : Nat), s.ld.reread = 0 → s.ld.conf = 1 → s.ld.refused = false → s.ld.source ≠ 0 →
    s.ld.retrySection ≠ sect ∨ s.ld.reads ≠ 2 → exec (.sectionRetry sect true) s =
      .next { s with ld := { s.ld with
        retrySection := sect
        reads := 2
        spiKhz := if s.ld.source = 2 then bodyClock s.ld.source s.ld.fast else max 12500 (bodyClock s.ld.source s.ld.fast / 2) } }) ∧
  (∀ (s : State) (sect : Nat), s.Inv → s.ld.reread = 1 → s.ld.retrySection = sect → s.ld.reads = 2 →
    ∃ t, exec (.sectionRetry sect false) s = .next t ∧ Raised F.CFG_CAUSE_CRC_FAIL s t ∧ Raised F.CFG_CAUSE_REREAD_FAIL s t ∧
      get F.CFG_FAIL_INFO_SECTION t = sect % 2 ^ 16 ∧ get F.CFG_FAIL_INFO_KIND t = 0 ∧ get F.CFG_STATUS_REREAD_BUSY t = 0 ∧
      OnlyFlds [F.CFG_CAUSE_CRC_FAIL, F.CFG_CAUSE_REREAD_FAIL, F.CFG_FAIL_INFO_SECTION, F.CFG_FAIL_INFO_KIND,
          F.CFG_FAIL_INFO_INDEX, F.CFG_STATUS_REREAD_BUSY, F.INT_HOST_PEND_PEND]
        { s with ld := { s.ld with
          retrySection := 0
          reads := 0
          spiKhz := if s.ld.source = 2 then bodyClock s.ld.source s.ld.fast else max 12500 (bodyClock s.ld.source s.ld.fast / 4)
          reread := 0 } } t) ∧
  (∀ (s : State) (img : Image) (f : ImgFail), s.Inv → s.ld.conf = 1 → s.ld.refused = false → s.ld.source ≠ 0 →
    s.cis.recalled = true → domOn 4 s = true → s.sup.mode = .loading → s.ld.partialRun = false → checkImage img s = some f →
    fallbackRec s = none →
    ∃ t, exec (.imageVerify img) s = .next t ∧ flag f.cause t = true ∧ get F.CFG_FAIL_INFO_SECTION t = f.sect % 2 ^ 16 ∧
      get F.CFG_STATUS_STATE t = 5 ∧ halted t = true ∧ guarded t = true ∧ t.sup.mode = .running ∧ t.ld.tables = {} ∧
      get F.CFG_STATUS_GUARDED t = 1) ∧
  (∀ (s : State) (img : Image), s.Inv → s.ld.conf = 1 → s.ld.refused = false → s.ld.source ≠ 0 → s.cis.recalled = true →
    domOn 4 s = true → s.sup.mode = .loading → s.ld.partialRun = false → s.ld.reread = 0 → checkImage img s = none →
    ∃ t, exec (.imageVerify img) s = .next t ∧ t.ld.conf = 3 ∧ t.ld.locked = true ∧ t.ld.tables = img.tables ∧
      t.ld.metroHash = Config.sha256 (metroBytes img.sections) ∧ t.sup.digest = some (imageDigest img) ∧ t.sup.mode = .running)

/-- A re-read requested while another runs is refused with REREAD_REFUSED, and nothing is queued -/
def Obligations.RereadSecondRequest : Prop :=
  ∀ (s : State) (m : Master) (w : Word) (p : Probe), s.Inv → Writable m R.CFG_CTL s → arg F.CFG_CTL_KEY w = 0xA5 →
    arg F.CFG_CTL_REREAD w = 1 → halted s = false → s.ld.reread ≠ 0 →
    ∃ t, exec (.reread m w p) s = .next t ∧ Raised F.CFG_CAUSE_REREAD_REFUSED s t ∧
      OnlyFlds [F.CFG_CAUSE_REREAD_REFUSED, F.INT_HOST_PEND_PEND] s t

/-- A re-read starts with its first pass, which leaves the running device alone; a failed pass one ends it with REREAD_FAIL -/
def Obligations.RereadPasses : Prop :=
  (∀ (s : State) (m : Master) (w : Word) (p : Probe), s.Inv → Writable m R.CFG_CTL s → arg F.CFG_CTL_KEY w = 0xA5 →
    arg F.CFG_CTL_REREAD w = 1 → halted s = false → s.ld.reread = 0 → s.ld.partialRun = false →
    updState s = 0 ∨ updState s = 6 → probeSource p ≠ 0 →
    ∃ t, exec (.reread m w p) s = .next t ∧ get F.CFG_STATUS_REREAD_BUSY t = 1 ∧
      OnlyFlds [F.CFG_STATUS_REREAD_BUSY]
        { s with ld := { s.ld with
          reread := 1
          source := probeSource p
          retrySection := 0
          reads := 0
          fast := p.fast
          spiKhz := bodyClock (probeSource p) p.fast } } t) ∧
  (∀ (s : State) (img : Image) (f : ImgFail), s.Inv → s.ld.reread = 1 → s.sup.mode = .running → checkImage img s = some f →
    ∃ t, exec (.rereadPassOneDone img) s = .next t ∧ flag f.cause t = true ∧ get F.CFG_FAIL_INFO_SECTION t = f.sect % 2 ^ 16 ∧
      Raised F.CFG_CAUSE_REREAD_FAIL s t ∧ get F.CFG_STATUS_REREAD_BUSY t = 0 ∧
      OnlyFlds [f.cause, F.CFG_CAUSE_REREAD_FAIL, F.CFG_FAIL_INFO_SECTION, F.CFG_FAIL_INFO_KIND,
          F.CFG_FAIL_INFO_INDEX, F.CFG_STATUS_REREAD_BUSY, F.INT_HOST_PEND_PEND]
        { s with ld := { s.ld with reread := 0 } } t) ∧
  (∀ (s : State) (img : Image), s.Inv → s.ld.reread = 1 → s.sup.mode = .running → checkImage img s = none →
    Config.sha256 (metroBytes img.sections) = s.ld.metroHash →
    ∃ t, exec (.rereadPassOneDone img) s = .next t ∧ t.ld.reread = 2 ∧ t.ld.restartAll = false ∧ t.ld.locked = false ∧
      t.ld.conf = 1 ∧ t.ld.guard = s.ld.guard ∧ t.sup.mode = .running ∧ t.sup.freeze = s.sup.freeze ∧ get F.CFG_STATUS_REREAD_BUSY t = 1)

/-- TAMPER_EVALUATION evaluates the latched alarms once, GUARD_RELEASE ends guarded start, RECALL and RECALL_DONE open the Cistern -/
def Obligations.GuardedStart : Prop :=
  (∀ (s : State), s.Inv → configured s = true → evaluated s = false → s.ld.latched = 0 → s.ld.lateAlarms = [] →
    ∃ t, exec .tamperEvaluation s = .next t ∧ evaluated t = true ∧ get F.CFG_STATUS_TAMPER_PENDING t = 0 ∧
      t.ld = s.ld ∧ t.sup.mode = s.sup.mode) ∧
  (∀ (s : State) (x : Nat), s.Inv → configured s = true → evaluated s = false → x < 13 → s.ld.latched = 2 ^ x →
    s.ld.lateAlarms = [] → watched x s = true → producer x s = false → domOn 0 s = true → staysBelow (48 + x) s = true →
    ∃ t, exec .tamperEvaluation s = .next t ∧ evaluated t = true ∧ get F.CFG_STATUS_TAMPER_PENDING t = 0 ∧
      producer x t = true ∧ flag (F.TAMP_FC_STAT_ACTIVE (48 + x)) t = true ∧ Counted (48 + x) s t ∧
      t.ld = { s.ld with latched := 0 }) ∧
  (∀ (s : State), configured s = false ∨ evaluated s = true → exec .tamperEvaluation s = .next s) ∧
  (∀ (s : State), s.Inv → guarded s = true → framesRun s = true → s.metro.pos = 0 → configured s = true →
    evaluated s = true → ∃ t, exec .guardRelease s = .next t ∧ guarded t = false ∧ get F.CFG_STATUS_GUARDED t = 0 ∧
      flag F.CFG_CAUSE_GUARD_RELEASED t = true ∧ t.ld = { s.ld with guard := false } ∧ t.sup.mode = s.sup.mode) ∧
  (∀ (s : State), framesRun s = false ∨ s.metro.pos ≠ 0 ∨ configured s = false ∨ evaluated s = false →
    exec .guardRelease s = .next s) ∧
  (∀ (s : State), s.Inv → domOn 7 s = true → s.cis.recalled = false → get F.CIS_QUEUE_RECALLED s = 0 →
    ∃ t, exec (.recall []) s = .next t ∧ get F.CIS_QUEUE_RECALLED t = 0xFFFF ∧ get F.CIS_STATUS_DIRTY t = 0 ∧
      t.cis.planes = s.cis.planes ∧ (∀ b < 16, fbit F.CIS_RECALL_BLANK b t = (lastPlane (planesOf b s)).isNone) ∧
      (∀ b < 16, lastPlane (planesOf b s) = none → bankData b t = blankBank b) ∧
      t = { s with regs := t.regs, cis := t.cis }) ∧
  (∀ (s : State) (b bit' : Nat), s.Inv → domOn 7 s = true → s.cis.recalled = false → get F.CIS_QUEUE_RECALLED s = 0 →
    b < 16 → staysBelow 24 s = true →
    ∃ t, exec (.recall [(b, bit', 1)]) s = .next t ∧ get F.CIS_QUEUE_RECALLED t = 0xFFFF ∧ t.cis.planes = s.cis.planes ∧
      Raised F.CIS_CAUSE_ECC_CORR s t ∧ Counted 24 s t ∧
      get F.CIS_COUNT_ECC_CORR t = min (2 ^ F.CIS_COUNT_ECC_CORR.width - 1) (get F.CIS_COUNT_ECC_CORR s + 1)) ∧
  (∀ (s : State), domOn 7 s = true → s.cis.recalled = false → get F.CIS_QUEUE_RECALLED s = 0xFFFF → s.ld.refused = false →
    ∃ t, exec .recallDone s = .next t ∧ t.cis.recalled = true ∧ t.cis.grants = [] ∧ t.tamp.queue = [] ∧ t.ld.conf = s.ld.conf)

/-- A watchdog expiry quarantines its engine and counts; the engine comes back; E0's own resets the device -/
def Obligations.EngineFaults : Prop :=
  (∀ (s : State) (e : Nat) (p : Probe), s.Inv → s.sup.mode = .running → 3 ≤ e ∧ e ≤ 6 → bit s.sup.quarantined e = false →
    staysBelow (24 + e) s = true → s.sup.coldReq = false →
    ∃ t, exec (.watchdogExpiry e p) s = .next t ∧ Raised F.TAMP_CAUSE_QUARANTINE s t ∧ Counted (24 + e) s t ∧
      OnlyFlds (F.TAMP_CAUSE_QUARANTINE :: countedFlds (24 + e))
        { s with
          sup := { s.sup with quarantined := withBit s.sup.quarantined e }
          tamp := t.tamp, cis := t.cis, free := t.free } t) ∧
  (∀ (s : State) (p : Probe), s.Inv → s.sup.mode = .running →
    ∃ t, exec (.watchdogExpiry 0 p) s = .next t ∧ t.sup.mode = .loading ∧ t.ld.source = probeSource p ∧ guarded t = true ∧
      t.cis = { planes := s.cis.planes } ∧ t.tamp.prods = 0) ∧
  (∀ (s : State) (e : Nat), bit s.sup.quarantined e = true → 3 ≤ e → e ≠ 9 →
    exec (.engineRestartDone e) s = .next { s with sup := { s.sup with quarantined := noBit s.sup.quarantined e } }) ∧
  (∀ (s : State) (p : Probe), s.Inv → updState s = 7 → (updRec s).copyMark = true → domOn 5 s = true →
    ∃ t, exec (.legalCopyDone p) s = .next t ∧ t.sup.mode = .loading ∧ guarded t = true ∧ t.ld.source = probeSource p ∧
      t.ld.legalPart = ((if (updRec s).active = 0 then s.obj.slotB else s.obj.slotA).drop 0x40).take 524288)

/-- A relief that is due routes the chosen ready spare to its channel; a second request is refused; the window closes with its verdict -/
def Obligations.SliceRotation : Prop :=
  (∀ (s : State) (ch sb : Nat), s.Inv → flag F.CNV_CTL_ROT_EN s = true → reliefAllowed s = true →
    periodSince s.conv.rotAt s = true → s.conv.relief = none → nextRelief s = some ch → choiceSpare s = some sb →
    ∃ t, exec .reliefTime s = .next t ∧ get F.CNV_STATUS_ROT_STATE t = 1 ∧ get F.CNV_STATUS_REL_CHAN t = ch ∧
      get (F.CNV_SLICE_CFG_ROLE sb) t = 2 ∧ get (F.CNV_SLICE_CFG_CHAN sb) t = ch ∧ get (F.CNV_SLICE_CFG_READY sb) t = 0 ∧
      get (F.CNV_SLICE_CFG_PGA sb) t = get (F.CNV_CHAN_CFG_PGA ch) s ∧
      OnlyFlds [F.CNV_STATUS_ROT_STATE, F.CNV_STATUS_REL_CHAN, F.CNV_SLICE_CFG_ROLE sb, F.CNV_SLICE_CFG_CHAN sb,
          F.CNV_SLICE_CFG_READY sb, F.CNV_SLICE_CFG_PGA sb]
        { s with
          conv := { s.conv with
            nextChan := (ch + 1) % 8
            deferred := false
            rotAt := s.conv.rotAt + (s.metro.clock - s.conv.rotAt) / ((rotPeriod s).getD 1 * 2 ^ 39) * ((rotPeriod s).getD 1 * 2 ^ 39)
            relief := some { chan := ch, old := sliceOf ch s, new := sb, start := s.metro.clock } }
          metro := { s.metro with joined := [], joinInteg := nth 0 s.metro.integ ch } } t) ∧
  (∀ (s : State), flag F.CNV_CTL_ROT_EN s = false ∨ reliefAllowed s = false ∨ periodSince s.conv.rotAt s = false →
    exec .reliefTime s = .next s) ∧
  (∀ (s : State) (m : Master) (w : Word) (sb : Nat), s.Inv → Writable m R.CNV_CTL s → arg F.CNV_CTL_PERIOD w ≠ 1 →
    arg F.CNV_CTL_PERIOD w ≤ 600 → arg F.CNV_CTL_RELIEVE_NOW w = 1 → s.conv.relief = none → s.conv.calOf = none →
    reliefAllowed s = true → deadChan (arg F.CNV_CTL_RELIEVE_CHAN w) s = false → choiceSpare s = some sb →
    ∃ t, exec (.relieveNow m w) s = .next t ∧ get F.CNV_STATUS_ROT_STATE t = 1 ∧
      get F.CNV_STATUS_REL_CHAN t = arg F.CNV_CTL_RELIEVE_CHAN w ∧ get (F.CNV_SLICE_CFG_ROLE sb) t = 2 ∧
      get (F.CNV_SLICE_CFG_CHAN sb) t = arg F.CNV_CTL_RELIEVE_CHAN w ∧ get F.CNV_CTL_PERIOD t = arg F.CNV_CTL_PERIOD w ∧
      get F.CNV_CTL_ROT_EN t = arg F.CNV_CTL_ROT_EN w ∧
      OnlyFlds [F.CNV_STATUS_ROT_STATE, F.CNV_STATUS_REL_CHAN, F.CNV_SLICE_CFG_ROLE sb, F.CNV_SLICE_CFG_CHAN sb,
          F.CNV_SLICE_CFG_READY sb, F.CNV_SLICE_CFG_PGA sb, F.CNV_CTL_PERIOD, F.CNV_CTL_ROT_EN]
        { s with
          conv := { s.conv with relief := some ({
            chan := arg F.CNV_CTL_RELIEVE_CHAN w
            old := sliceOf (arg F.CNV_CTL_RELIEVE_CHAN w) s
            new := sb
            start := s.metro.clock } : Relief) }
          metro := { s.metro with joined := [], joinInteg := nth 0 s.metro.integ (arg F.CNV_CTL_RELIEVE_CHAN w) } } t) ∧
  (∀ (s : State) (m : Master) (w : Word), s.Inv → Writable m R.CNV_CTL s → arg F.CNV_CTL_PERIOD w ≠ 1 →
    arg F.CNV_CTL_PERIOD w ≤ 600 → arg F.CNV_CTL_RELIEVE_NOW w = 1 → s.conv.relief.isSome = true →
    ∃ t, exec (.relieveNow m w) s = .next t ∧ Raised F.CNV_CAUSE_RELIEVE_REFUSED s t ∧
      OnlyFlds [F.CNV_CTL_PERIOD, F.CNV_CTL_ROT_EN, F.CNV_CAUSE_RELIEVE_REFUSED, F.INT_HOST_PEND_PEND] s t) ∧
  (∀ (s : State) (r : Relief), s.Inv → s.conv.relief = some r → get F.CNV_STATUS_ROT_STATE s = 2 → 64 ≤ r.cycles →
    ∃ t, exec .spliceWindowClose s = .next t ∧ get F.CNV_STATUS_ROT_STATE t = 3 ∧ get F.CNV_SPLICE_RES_CHAN t = r.chan % 8 ∧
      get F.CNV_SPLICE_RES_OLD t = r.old % 16 ∧ get F.CNV_SPLICE_RES_NEW t = r.new % 16 ∧
      get F.CNV_SPLICE_RES_FAILED t = failedChecks r s % 16 ∧ get F.CNV_SPLICE_RES_RESTARTS t = r.restarts % 4 ∧
      get F.CNV_SPLICE_RES_GAIN_ASSESSED t = b2n r.gainSeen ∧ get F.CNV_SPLICE_RES_DELAY_ASSESSED t = b2n r.delaySeen ∧
      OnlyFlds [F.CNV_STATUS_ROT_STATE, F.CNV_SPLICE_RES_CHAN, F.CNV_SPLICE_RES_OLD, F.CNV_SPLICE_RES_NEW,
          F.CNV_SPLICE_RES_FAILED, F.CNV_SPLICE_RES_RESTARTS, F.CNV_SPLICE_RES_GAIN_ASSESSED, F.CNV_SPLICE_RES_DELAY_ASSESSED]
        { s with conv := { s.conv with relief := some { r with closed := true, failed := failedChecks r s } } } t) ∧
  (∀ (s : State) (sl : Nat), s.Inv → domOn 1 s = true → s.conv.calOf = none →
    ((spares s).filter fun n => get (F.CNV_SLICE_CFG_ROLE n) s == 1 && !(promised n s)).find? (fun n => mayCalibrate n s) = some sl →
    ∃ t, exec .standbyCalibration s = .next t ∧ get (F.CNV_SLICE_CFG_ROLE sl) t = 2 ∧ get (F.CNV_SLICE_CFG_READY sl) t = 0 ∧
      OnlyFlds [F.CNV_SLICE_CFG_ROLE sl, F.CNV_SLICE_CFG_READY sl]
        { s with conv := { s.conv with calOf := some { old := sl, new := sl, alone := true }, calStep := 1 } } t)

/-- A slice is measured in two steps; what lies in the trim range is stored and the slice is ready, else it counts a fault -/
def Obligations.SliceCalibration : Prop :=
  (∀ (s : State) (offset : Int), s.conv.calOf.isSome = true → s.conv.calStep = 1 → domOn 1 s = true →
    exec (.sliceOffsetDone offset) s = .next { s with conv := { s.conv with calStep := 2, calOffset := offset } }) ∧
  (∀ (s : State) (gain delay : Int) (r : Relief), s.Inv → domOn 1 s = true → s.conv.calOf = some r → s.conv.calStep = 2 →
    r.alone = true → r.old < 10 → s.conv.deferred = false → s.conv.again = none → -32767 ≤ gain ∧ gain ≤ 32767 →
    -32767 ≤ s.conv.calOffset ∧ s.conv.calOffset ≤ 32767 → -2047 ≤ delay ∧ delay ≤ 2047 →
    ∃ t, exec (.sliceCalibration gain delay) s = .next t ∧ t.conv.calOf = none ∧ getS (F.CNV_SLICE_CAL_GAIN r.old) t = gain ∧
      getS (F.CNV_SLICE_CAL_OFFSET r.old) t = s.conv.calOffset ∧ getS (F.CNV_SLICE_CFG_DELAY r.old) t = delay ∧
      get (F.CNV_SLICE_CFG_ROLE r.old) t = 1 ∧ get (F.CNV_SLICE_CFG_READY r.old) t = 1 ∧ get F.CNV_SPLICE_RES_RESULT t = get F.CNV_SPLICE_RES_RESULT s ∧
      t.cis.b1.keep = writeCopy s.cis.b1.keep { keepRec s with
        slices := upd (keepRec s).slices r.old fun _ => (gain, s.conv.calOffset, delay) } ∧ t.tamp = s.tamp) ∧
  (∀ (s : State) (gain delay : Int) (r : Relief), s.Inv → domOn 1 s = true → s.conv.calOf = some r → s.conv.calStep = 2 →
    r.old < 10 → s.conv.relief = none → gain < -32767 ∨ 32767 < gain → staysBelow r.old s = true →
    ∃ t, exec (.sliceCalibration gain delay) s = .next t ∧ t.conv.calOf = none ∧ bit t.conv.waitCal r.old = true ∧
      get (F.CNV_SLICE_CFG_ROLE r.old) t = 1 ∧ get (F.CNV_SLICE_CFG_READY r.old) t = 0 ∧ Raised F.CNV_CAUSE_CAL_FAIL s t ∧
      Counted r.old s t ∧ get F.CNV_SPLICE_RES_RESULT t = (if r.alone then get F.CNV_SPLICE_RES_RESULT s else b2n (decide (r.failed ≠ 0))) ∧
      (r.failed ≠ 0 → Raised F.CNV_CAUSE_SPLICE_FAIL s t) ∧
      OnlyFlds ([F.CNV_SLICE_CFG_ROLE r.old, F.CNV_SLICE_CFG_READY r.old, F.CNV_CAUSE_CAL_FAIL, F.CNV_STATUS_ROT_STATE,
          F.CNV_SPLICE_RES_RESULT, F.CNV_CAUSE_SPLICE_FAIL] ++
          countedFlds r.old)
        { s with conv := t.conv, tamp := t.tamp, cis := t.cis, free := t.free } t) ∧
  (∀ (s : State) (slice : Nat), s.Inv → domOn 1 s = true → slice < 10 → (chanOf slice s).isSome = true →
    fbit F.CNV_RETIRED_SLICE slice s = false → staysBelow slice s = true →
    ∃ t, exec (.overloadMonitor slice) s = .next t ∧ Counted slice s t ∧
      OnlyFlds (countedFlds slice) { s with tamp := t.tamp, cis := t.cis, free := t.free } t)

/-- The raw tap: an allowed selection is stored, one that is not is refused; a full FIFO drops the newest sample and says so -/
def Obligations.RawTap : Prop :=
  (∀ (s : State) (m : Master) (w : Word), s.Inv → Writable m R.CNV_TAP_CFG s →
    arg F.CNV_TAP_CFG_MODE w ≠ 1 ∨ arg F.CNV_TAP_CFG_DEST w = 1 → arg F.CNV_TAP_CFG_DEST w = 0 ∨ (share 2 s).2 ≠ 0 →
    ∃ t, exec (.tapCfgWrite m w) s = .next t ∧ get F.CNV_TAP_CFG_MODE t = arg F.CNV_TAP_CFG_MODE w ∧
      get F.CNV_TAP_CFG_SEL_KIND t = arg F.CNV_TAP_CFG_SEL_KIND w ∧ get F.CNV_TAP_CFG_SEL t = arg F.CNV_TAP_CFG_SEL w ∧
      get F.CNV_TAP_CFG_DEST t = arg F.CNV_TAP_CFG_DEST w ∧
      OnlyFlds [F.CNV_TAP_CFG_MODE, F.CNV_TAP_CFG_SEL_KIND, F.CNV_TAP_CFG_SEL, F.CNV_TAP_CFG_DEST] s t) ∧
  (∀ (s : State) (m : Master) (w : Word), s.Inv → Writable m R.CNV_TAP_CFG s →
    (arg F.CNV_TAP_CFG_MODE w = 1 ∧ arg F.CNV_TAP_CFG_DEST w = 0) ∨ (arg F.CNV_TAP_CFG_DEST w = 1 ∧ (share 2 s).2 = 0) →
    ∃ t, exec (.tapCfgWrite m w) s = .next t ∧ Raised F.CNV_CAUSE_CFG_REFUSED s t ∧
      OnlyFlds [F.CNV_CAUSE_CFG_REFUSED, F.INT_HOST_PEND_PEND] s t) ∧
  (∀ (s : State) (codes : List Nat) (back : Nat), s.Inv → domOn 1 s = true ∧ domOn 2 s = true →
    2 ≤ get F.CNV_TAP_CFG_MODE s → flag F.CNV_TAP_CFG_DEST s = false → s.conv.fifo.length < 16 →
    ∃ t, exec (.tapSample codes back) s = .next t ∧
      t.conv = { s.conv with
        tapSeq := (s.conv.tapSeq + 1) % 128, fifo := s.conv.fifo ++ [(wrapTo 24 (tapValue back s), s.conv.tapSeq)] } ∧
      get F.CNV_TAP_STATUS_LEVEL t = s.conv.fifo.length + 1 ∧
      OnlyFlds [F.CNV_TAP_STATUS_LEVEL, F.CNV_TAP_DATA_SAMPLE, F.CNV_TAP_DATA_SEQ, F.CNV_TAP_DATA_VALID] { s with conv := t.conv } t) ∧
  (∀ (s : State) (codes : List Nat) (back : Nat), s.Inv → domOn 1 s = true ∧ domOn 2 s = true →
    2 ≤ get F.CNV_TAP_CFG_MODE s → flag F.CNV_TAP_CFG_DEST s = false → s.conv.fifo.length = 16 →
    ∃ t, exec (.tapSample codes back) s = .next t ∧ get F.CNV_TAP_STATUS_OVERRUN t = 1 ∧ Raised F.CNV_CAUSE_TAP_OVERRUN s t ∧
      get F.CNV_TAP_STATUS_DROPPED t = min 0xFFFF (get F.CNV_TAP_STATUS_DROPPED s + 1) ∧
      OnlyFlds [F.CNV_TAP_STATUS_OVERRUN, F.CNV_TAP_STATUS_DROPPED, F.CNV_CAUSE_TAP_OVERRUN, F.INT_HOST_PEND_PEND]
        { s with conv := { s.conv with tapSeq := (s.conv.tapSeq + 1) % 128 } } t)

/-- SAR results are clamped to their register and marked new; the compensation temperature and its band follow; ten seconds apart count -/
def Obligations.TemperatureAndSar : Prop :=
  (∀ (s : State) (n : Nat) (v : Int), s.Inv → domOn 1 s = true → 2 ≤ n ∧ n < 14 ∧ n ≠ 4 ∧ n ≠ 9 →
    ∃ t, exec (.sarResult n v) s = .next t ∧ (get (F.CNV_SAR_RES_VALUE n) t : Int) = max 0 (min 0xFFFF v) ∧
      get (F.CNV_SAR_RES_NEW n) t = 1 ∧ OnlyFlds [F.CNV_SAR_RES_VALUE n, F.CNV_SAR_RES_NEW n] s t) ∧
  (∀ (s : State) (a b : Int), s.Inv → domOn 1 s = true → a = getS (F.CNV_SAR_RES_VALUE 0) s →
    b = getS (F.CNV_SAR_RES_VALUE 1) s → (a - b).natAbs ≤ 50 → flag F.CNV_TEMP_PENDING s = false →
    ∃ t, exec .tempEvaluation s = .next t ∧ getS F.CNV_TEMP_TEMP t = signed 16 (wrapTo 16 (quot (a + b) 2)) ∧
      get F.CNV_TEMP_PENDING_BAND t = nextBand (quot (a + b) 2) (get F.CNV_TEMP_BAND s) ∧
      (flag F.CNV_TEMP_PENDING t = true ↔ nextBand (quot (a + b) 2) (get F.CNV_TEMP_BAND s) ≠ get F.CNV_TEMP_BAND s) ∧
      get F.CNV_STATUS_TEMP_DISAGREE t = 0 ∧
      OnlyFlds [F.CNV_TEMP_TEMP, F.CNV_TEMP_PENDING, F.CNV_TEMP_PENDING_BAND, F.CNV_STATUS_TEMP_DISAGREE]
        { s with conv := { s.conv with disagreeSecs := 0 } } t) ∧
  (∀ (s : State), s.Inv → domOn 1 s = true → 10 ≤ s.conv.disagreeSecs → flag F.CNV_STATUS_TEMP_DISAGREE s = false →
    staysBelow 35 s = true →
    ∃ t, exec .tempDisagree s = .next t ∧ get F.CNV_STATUS_TEMP_DISAGREE t = 1 ∧ Raised F.CNV_CAUSE_TEMP_DISAGREE s t ∧
      Counted 35 s t ∧
      OnlyFlds (F.CNV_STATUS_TEMP_DISAGREE :: F.CNV_CAUSE_TEMP_DISAGREE :: countedFlds 35)
        { s with tamp := t.tamp, cis := t.cis, free := t.free } t)

/-- A commit is made in a legal session alone and logs every change; a calibration window starts at the next epoch and latches its energy -/
def Obligations.FactoryCalibration : Prop :=
  (∀ (s : State) (m : Master) (w : Word), s.Inv → Writable m R.CNV_CAL_CTL s → arg F.CNV_CAL_CTL_START w = 0 →
    arg F.CNV_CAL_CTL_COMMIT w = 1 → legalOk s = true → legalFits (commitEntries s).length s = true →
    ∃ t, exec (.calCommit m w) s = .next t ∧ 
      t.conv = { s.conv with commitPend := true, committed := (List.range 8).map fun n => stagedCoef n s } ∧ get F.CNV_STATUS_CAL_UNSAVED t = 1 ∧
      Raised F.OBJ_CAUSE_LEGAL_CHANGE s t ∧ t.cis.b2.chgUsed = s.cis.b2.chgUsed + legalSlots (commitEntries s).length ∧
      t.cis.b2.chgCount = s.cis.b2.chgCount + 1 ∧
      OnlyFlds [F.CNV_CAL_CTL_PHASE, F.CNV_CAL_CTL_QTY, F.CNV_CAL_CTL_FRAMES, F.CNV_STATUS_CAL_UNSAVED, F.OBJ_CAUSE_LEGAL_CHANGE,
          F.OBJ_LEGAL_LOG_CHANGES, F.OBJ_LEGAL_LOG_USED, F.CIS_STATUS_DIRTY, F.INT_HOST_PEND_PEND]
        { s with conv := t.conv, cis := t.cis } t) ∧
  (∀ (s : State) (m : Master) (w : Word), s.Inv → Writable m R.CNV_CAL_CTL s → arg F.CNV_CAL_CTL_START w = 0 →
    legalOk s = false →
    ∃ t, exec (.calCommit m w) s = .next t ∧ OnlyFlds [F.CNV_CAL_CTL_PHASE, F.CNV_CAL_CTL_QTY, F.CNV_CAL_CTL_FRAMES] s t) ∧
  (∀ (s : State) (m : Master) (w : Word), s.Inv → Writable m R.CNV_CAL_CTL s → arg F.CNV_CAL_CTL_START w = 1 →
    arg F.CNV_CAL_CTL_COMMIT w = 0 → arg F.CNV_CAL_CTL_FRAMES w ≠ 0 → flag F.CNV_CAL_CTL_BUSY s = false →
    s.conv.winPend = false →
    ∃ t, exec (.calWindowStart m w) s = .next t ∧ get F.CNV_CAL_CTL_PHASE t = arg F.CNV_CAL_CTL_PHASE w ∧
      get F.CNV_CAL_CTL_QTY t = arg F.CNV_CAL_CTL_QTY w ∧ get F.CNV_CAL_CTL_FRAMES t = arg F.CNV_CAL_CTL_FRAMES w ∧
      OnlyFlds [F.CNV_CAL_CTL_PHASE, F.CNV_CAL_CTL_QTY, F.CNV_CAL_CTL_FRAMES] { s with conv := { s.conv with winPend := true } } t) ∧
  (∀ (s : State) (m : Master) (w : Word), s.Inv → Writable m R.CNV_CAL_CTL s → arg F.CNV_CAL_CTL_START w = 1 →
    flag F.CNV_CAL_CTL_BUSY s = true ∨ s.conv.winPend = true →
    ∃ t, exec (.calWindowStart m w) s = .next t ∧ Raised F.CNV_CAUSE_CFG_REFUSED s t ∧
      OnlyFlds [F.CNV_CAUSE_CFG_REFUSED, F.INT_HOST_PEND_PEND] s t) ∧
  (∀ (s : State) (edges : Nat), s.Inv → flag F.CNV_CAL_CTL_BUSY s = true → s.conv.winLeft = 0 → s.conv.winEnergy < 2 ^ 64 →
    edges < 2 ^ 32 → ∃ t, exec (.calWindowEnd edges) s = .next t ∧ get F.CNV_CAL_REF_COUNT t = edges ∧
      get F.CNV_CAL_ENERGY_LO_ENERGY t + 2 ^ 32 * get F.CNV_CAL_ENERGY_HI_ENERGY t = s.conv.winEnergy ∧
      get F.CNV_CAL_CTL_BUSY t = 0 ∧ Raised F.CNV_CAUSE_CAL_DONE s t ∧
      OnlyFlds [F.CNV_CAL_CTL_BUSY, F.CNV_CAL_REF_COUNT, F.CNV_CAL_ENERGY_LO_ENERGY, F.CNV_CAL_ENERGY_HI_ENERGY,
        F.CNV_CAUSE_CAL_DONE, F.INT_HOST_PEND_PEND] s t)

/-- CHAIN_STOP stages the stop, CHAIN_RESTART acquires anew, REF_SWITCH leaves HOLD as R97 orders, REF_RETURN asks for the return -/
def Obligations.ChainAndReference : Prop :=
  (∀ (s : State) (m : Master) (w : Word), s.Inv → Writable m R.FLT_CTL s → arg F.FLT_CTL_KEY w = 0x5A →
    arg F.FLT_CTL_RUN w = 0 → legalOk s = true → legalFits 1 s = true → flag F.FLT_STATUS_STOPPED s = false →
    ∃ t, exec (.chainStop m w) s = .next t ∧ get F.FLT_CTL_RUN t = 0 ∧ get F.PHE_PROFILE_CTL_PENDING t = 0 ∧
      (flag F.PHE_PROFILE_CTL_PENDING s = false → get F.PHE_PROFILE_ACK_ACK t = get F.PHE_PROFILE_ACK_ACK s) ∧
      OnlyFlds [F.FLT_CTL_RUN, F.PHE_PROFILE_CTL_PENDING, F.PHE_PROFILE_ACK_ACK]
        { s with metro := { s.metro with chainStop := true }, en := { s.en with
          boundaries := if flag F.PHE_PROFILE_CTL_PENDING s then 0 else s.en.boundaries } } t) ∧
  (∀ (s : State) (m : Master) (w : Word), s.Inv → Writable m R.FLT_CTL s → arg F.FLT_CTL_KEY w = 0x5A →
    arg F.FLT_CTL_RUN w = 1 → legalOk s = true → legalFits 1 s = true → flag F.FLT_STATUS_STOPPED s = true →
    get F.FLT_STATUS_TRK_STATE s = 0 →
    ∃ t, exec (.chainRestart m w) s = .next t ∧ get F.FLT_CTL_RUN t = 1 ∧ get F.FLT_STATUS_STOPPED t = 0 ∧
      get F.FLT_STATUS_TRK_STATE t = 1 ∧ get F.FLT_STATUS_COHERENT t = 0 ∧
      get F.FLT_STATUS_TRK_REF t = get F.FLT_TRK_CTL_REF_PREF s ∧
      get F.FLT_TRK_FREQ_FREQ t = (if flag F.PHE_FRAME_POS_NOMINAL s then 60000000 else 50000000) ∧
      get F.FLT_TRK_STEP_STEP t = stepFor (if flag F.PHE_FRAME_POS_NOMINAL s then 60000000 else 50000000) s.metro.spc % 2 ^ 32 ∧
      t.metro.chainRestart = true ∧ t.metro.hist = [] ∧ t.metro.pos = 0 ∧ t.metro.cyc = 0 ∧ t.metro.freshCycle = true ∧
      t.metro.clock = s.metro.clock ∧ t.metro.integ = List.replicate 8 0 ∧ t.metro.paths = List.replicate 10 {} ∧
      get F.FLT_STATUS_HOLD_RUN t = 0 ∧
      OnlyFlds [F.FLT_CTL_RUN, F.FLT_STATUS_STOPPED, F.FLT_STATUS_HOLD_RUN, F.FLT_STATUS_TRK_STATE, F.FLT_STATUS_COHERENT, F.FLT_STATUS_TRK_REF,
          F.FLT_TRK_FREQ_FREQ, F.FLT_TRK_STEP_STEP] { s with metro := t.metro } t) ∧
  (∀ (s : State), s.Inv → metroOn s = true → get F.FLT_STATUS_TRK_STATE s = 3 → s.metro.pos = 0 →
    get F.FLT_TRK_CTL_HOLD_MAX s ≤ get F.FLT_STATUS_HOLD_RUN s →
    s.metro.holdLow = false ∨ nextRef s = some (get F.FLT_STATUS_TRK_REF s) →
    ∃ t, exec .refSwitch s = .next t ∧ get F.FLT_STATUS_TRK_STATE t = 1 ∧ get F.FLT_STATUS_HOLD_RUN t = 0 ∧
      get F.FLT_STATUS_COHERENT t = 0 ∧ bit t.en.flags 2 = false ∧
      OnlyFlds [F.FLT_STATUS_TRK_STATE, F.FLT_STATUS_HOLD_RUN, F.FLT_STATUS_COHERENT]
        { s with en := { s.en with flags := t.en.flags } } t) ∧
  (∀ (s : State) (c : Nat), s.Inv → metroOn s = true → get F.FLT_STATUS_TRK_STATE s = 3 → s.metro.pos = 0 →
    get F.FLT_TRK_CTL_HOLD_MAX s ≤ get F.FLT_STATUS_HOLD_RUN s → s.metro.holdLow = true → nextRef s = some c →
    c ≠ get F.FLT_STATUS_TRK_REF s →
    ∃ t, exec .refSwitch s = .next t ∧ get F.FLT_STATUS_TRK_STATE t = 1 ∧ get F.FLT_STATUS_TRK_REF t = c ∧
      get F.FLT_STATUS_HOLD_RUN t = 0 ∧ get F.FLT_STATUS_COHERENT t = 0 ∧ Raised F.FLT_CAUSE_REF_SWITCH s t ∧
      bit t.en.flags 2 = false ∧
      OnlyFlds [F.FLT_STATUS_TRK_STATE, F.FLT_STATUS_TRK_REF, F.FLT_STATUS_HOLD_RUN, F.FLT_STATUS_COHERENT,
          F.FLT_CAUSE_REF_SWITCH, F.INT_HOST_PEND_PEND]
        { s with
          metro := { s.metro with fallbackSecs := 0, slipPrev := 0, phasePrev := none }
          en := { s.en with flags := t.en.flags } } t) ∧
  (∀ (s : State), s.Inv → metroOn s = true → get F.FLT_STATUS_TRK_STATE s = 3 → s.metro.pos = 0 →
    get F.FLT_TRK_CTL_HOLD_MAX s ≤ get F.FLT_STATUS_HOLD_RUN s → s.metro.holdLow = true → nextRef s = none →
    ∃ t, exec .refSwitch s = .next t ∧ get F.FLT_STATUS_TRK_STATE t = 4 ∧ get F.FLT_STATUS_HOLD_RUN t = 0 ∧
      get F.FLT_STATUS_COHERENT t = 0 ∧ Raised F.FLT_CAUSE_COAST s t ∧ bit t.en.flags 2 = false ∧
      OnlyFlds [F.FLT_STATUS_TRK_STATE, F.FLT_STATUS_HOLD_RUN, F.FLT_STATUS_COHERENT, F.FLT_CAUSE_COAST, F.INT_HOST_PEND_PEND]
        { s with en := { s.en with flags := t.en.flags } } t) ∧
  (∀ (s : State), metroOn s = true → get F.FLT_STATUS_TRK_STATE s = 2 → onFallback s = true → 3600 ≤ s.metro.fallbackSecs →
    exec .refReturn s = .next { s with metro := { s.metro with holdNext := some 0 } })

/-- A comparator at its persistence count trips, one back inside is released, a write of its configuration releases it -/
def Obligations.WindowComparators : Prop :=
  (∀ (s : State) (comp frac : Nat), s.Inv → comp < 16 → winLive comp s = true →
    flag (F.FLT_WIN_CFG_ACTIVE comp) s = false → get (F.FLT_WIN_CFG_PERSIST comp) s ≤ nth 0 s.metro.winCount comp →
    0 < nth 0 s.metro.winCount comp → get (F.FLT_WIN_CFG_SRC comp) s ≠ 2 →
    ∃ u, exec (.winTrip comp frac) s = .next (refreshLines (frac % 256) u) ∧ get (F.FLT_WIN_CFG_ACTIVE comp) u = 1 ∧
      fbit F.FLT_WIN_TRIP_TRIP comp u = true ∧
      (∀ j, j < 16 → j ≠ comp → fbit F.FLT_WIN_TRIP_TRIP j u = fbit F.FLT_WIN_TRIP_TRIP j s) ∧
      get (F.FLT_WIN_TS_FRAME_FRAME comp) u = frameStamp s % 2 ^ 32 ∧
      get (F.FLT_WIN_TS_POS_SAMPLE comp) u = sampleIdx s % 4096 ∧ get (F.FLT_WIN_TS_POS_FRAC comp) u = frac % 256 ∧
      bit u.en.flags 8 = true ∧ Raised F.FLT_CAUSE_WIN_TRIP s u ∧
      OnlyFlds [F.FLT_WIN_CFG_ACTIVE comp, F.FLT_WIN_TRIP_TRIP, F.FLT_WIN_TS_FRAME_FRAME comp, F.FLT_WIN_TS_POS_SAMPLE comp,
          F.FLT_WIN_TS_POS_FRAC comp, F.FLT_CAUSE_WIN_TRIP, F.INT_HOST_PEND_PEND]
        { s with
          metro := { s.metro with winCount := upd s.metro.winCount comp (fun _ => 0), winBack := upd s.metro.winBack comp (fun _ => 0) }
          en := { s.en with flags := withBit s.en.flags 8 }
          spec := { s.spec with marks := if fbit F.SPE_DIST_MASK_WIN comp s then withBit s.spec.marks 10 else s.spec.marks } } u) ∧
  (∀ (s : State) (comp : Nat), s.Inv → comp < 16 → flag (F.FLT_WIN_CFG_ACTIVE comp) s = true →
    get (F.FLT_WIN_CFG_PERSIST comp) s ≤ nth 0 s.metro.winBack comp → 0 < nth 0 s.metro.winBack comp →
    ∃ u, exec (.winRelease comp) s = .next (refreshLines 0 u) ∧ get (F.FLT_WIN_CFG_ACTIVE comp) u = 0 ∧
      OnlyFlds [F.FLT_WIN_CFG_ACTIVE comp] { s with metro := { s.metro with
          winCount := upd s.metro.winCount comp (fun _ => 0), winBack := upd s.metro.winBack comp (fun _ => 0) } } u) ∧
  (∀ (s : State) (m : Master) (w : Word) (comp : Nat), s.Inv → comp < 16 → Writable m (R.FLT_WIN_CFG comp) s →
    arg (F.FLT_WIN_CFG_PERSIST comp) w ≠ 0 →
    ∃ u, exec (.winCfgWrite m (R.FLT_WIN_CFG comp) w) s = .next (refreshLines 0 u) ∧ get (F.FLT_WIN_CFG_ACTIVE comp) u = 0 ∧
      get (F.FLT_WIN_CFG_PERSIST comp) u = arg (F.FLT_WIN_CFG_PERSIST comp) w ∧ get (F.FLT_WIN_CFG_EN comp) u = arg (F.FLT_WIN_CFG_EN comp) w ∧
      get (F.FLT_WIN_CFG_SRC comp) u = arg (F.FLT_WIN_CFG_SRC comp) w ∧ get (F.FLT_WIN_CFG_MODE comp) u = arg (F.FLT_WIN_CFG_MODE comp) w ∧
      get (F.FLT_WIN_CFG_CHAN comp) u = arg (F.FLT_WIN_CFG_CHAN comp) w ∧ get (F.FLT_WIN_CFG_LINE comp) u = arg (F.FLT_WIN_CFG_LINE comp) w ∧
      get (F.FLT_WIN_CFG_LINE_EN comp) u = arg (F.FLT_WIN_CFG_LINE_EN comp) w ∧
      get (F.FLT_WIN_CFG_HYST comp) u = arg (F.FLT_WIN_CFG_HYST comp) w ∧
      OnlyFlds [⟨R.FLT_WIN_CFG comp, 0, 32⟩] { s with metro := { s.metro with
          winCount := upd s.metro.winCount comp (fun _ => 0), winBack := upd s.metro.winBack comp (fun _ => 0) } } u) ∧
  (∀ (s : State) (m : Master) (w : Word) (comp : Nat), s.Inv → comp < 16 → Writable m (R.FLT_WIN_CFG comp) s →
    arg (F.FLT_WIN_CFG_PERSIST comp) w = 0 →
    ∃ t, exec (.winCfgWrite m (R.FLT_WIN_CFG comp) w) s = .next t ∧ Raised F.FLT_CAUSE_CFG_REFUSED s t ∧
      OnlyFlds [F.FLT_CAUSE_CFG_REFUSED, F.INT_HOST_PEND_PEND] s t)

/-- What COHERENT_SAMPLE, HALF_CYCLE_BOUNDARY, CYCLE_END and FRAME_BOUNDARY leave: samples, RMS and power-fail, energy, records -/
def Obligations.SamplesCyclesFrames : Prop :=
  (∀ (s : State) (codes : List (List Nat)), s.Inv → metroOn s = true →
    ∃ t, exec (.coherentSample codes) s = .next t ∧ t.metro.pos = s.metro.pos + 1 ∧
      t.metro.clock = s.metro.clock + get F.FLT_TRK_STEP_STEP s ∧
      t.metro.hist = (((List.range 8).map fun n => coherent n (takeInputs codes s)) :: s.metro.hist).take histCap ∧
      (∀ x ∈ t.metro.hist.headD [], -sampleLimit ≤ x ∧ x ≤ sampleLimit) ∧
      t.metro.cyc = s.metro.cyc ∧ t.en.acc = s.en.acc ∧ t.cis = s.cis ∧ t.tamp = s.tamp ∧ t.rly = s.rly ∧ t.well = s.well) ∧
  (∀ (s : State), metroOn s = true → 0 < s.metro.pos → s.metro.pos % (s.metro.spc / 2) = 0 → s.metro.spc ≤ s.metro.hcAge →
    framesRun s = true → domOn 3 s = false → (List.range 16).all (fun n => get (F.FLT_WIN_CFG_SRC n) s != 2) = true →
    liveVolts s ≠ [] → (∀ c, c ∈ liveVolts s → 6 * get F.PHE_CFG_VNOM s * 2 ^ 23 ≤ nth 0 (halfCycleRms s) c * scale c s) →
    exec .halfCycleBoundary s = .next { s with
        metro := { s.metro with hcValid := true, hcRms := halfCycleRms s }
        en := { s.en with pfArmed := true } }) ∧
  (∀ (s : State), metroOn s = true → 0 < s.metro.pos → s.metro.pos % (s.metro.spc / 2) = 0 → s.metro.spc ≤ s.metro.hcAge →
    framesRun s = true → domOn 3 s = false → (List.range 16).all (fun n => get (F.FLT_WIN_CFG_SRC n) s != 2) = true →
    liveVolts s ≠ [] → s.en.pfArmed = true → flag F.PHE_CFG_PF_VOLT s = true →
    (∀ c, c ∈ liveVolts s → nth 0 (halfCycleRms s) c * scale c s < 6 * get F.PHE_CFG_VNOM s * 2 ^ 23) →
    exec .halfCycleBoundary s = .next (powerFail 2 (raise F.PHE_CAUSE_PF_DETECT { s with
        metro := { s.metro with hcValid := true, hcRms := halfCycleRms s } }))) ∧
  (∀ (s : State), s.Inv → atCycleEnd s = true → framesRun s = true → get F.PHE_CFG_WIRING s = 1 →
    flag F.PHE_CFG_BILL_LARGER s = false → s.en.acc.length = 40 →
    noLoad (fbit F.NRG_STATUS_NOLOAD_ACT 0 s) (phaseCycle 0 3 s).p (get (F.NRG_CREEP_ACT 0) s) = false →
    0 ≤ energyOf s.metro.spc (phaseCycle 0 3 s).p s →
    ∃ t, exec .cycleEnd s = .next t ∧ t.metro.cyc = s.metro.cyc + 1 ∧ t.metro.freshCycle = false ∧
      nth 0 t.en.acc 0 = (nth 0 s.en.acc 0 + (energyOf s.metro.spc (phaseCycle 0 3 s).p s).toNat) % 2 ^ 128 ∧
      nth 0 t.en.acc 1 = nth 0 s.en.acc 1) ∧
  (∀ (s : State), s.Inv → metroOn s = true → flag F.PHE_FRAME_POS_VALID s = false → get F.FLT_STATUS_TRK_STATE s = 2 →
    s.metro.pos = s.metro.cyc * s.metro.spc → 0 < s.metro.cyc → configured s = true → s.metro.chainRestart = false →
    s.metro.chainDown = false → s.ld.rereadFrom = none → s.sup.freeze = none →
    ∃ t, exec .frameBoundary s = .next t ∧ get F.PHE_FRAME_NUM_FRAME t = 0 ∧ get F.PHE_FRAME_POS_VALID t = 1 ∧ t.metro.pos = 0 ∧
      t.metro.cyc = 0 ∧ bit t.en.flags 14 = true ∧ t.en.acc = s.en.acc ∧ t.en.accStart = s.en.acc) ∧
  (∀ (s : State), s.Inv → metroOn s = true → framesRun s = true → s.metro.cyc = cyclesPerFrame s →
    s.metro.pos = frameLen s → s.metro.chainStop = false → s.en.ring.length < 64 →
    flag F.PHE_PROFILE_CTL_PENDING s = false →
    ∃ t r, exec .frameBoundary s = .next t ∧ get F.PHE_FRAME_NUM_FRAME t = (get F.PHE_FRAME_NUM_FRAME s + 1) % 2 ^ 32 ∧
      t.metro.pos = 0 ∧ t.metro.cyc = 0 ∧ t.en.ring = s.en.ring ++ [r] ∧ r.frame = get F.PHE_FRAME_NUM_FRAME s ∧
      r.samples = frameLen s ∧ r.rate = rateCode s.metro.spc ∧ r.noload = s.en.noloadFrame ∧ r.endRtc = rtc s ∧
      r.incs = ((List.range 40).map fun k => frameInc k s) ∧ t.en.acc = s.en.acc ∧ t.en.accPub = s.en.acc)

/-- PROFILE_STAGE stages or refuses, E7_READY is noted, IMBALANCE and REVERSE_ENERGY trip their producers, pulses are emitted or held -/
def Obligations.ProfileConditionsPulses : Prop :=
  (∀ (s : State) (m : Master) (w : Word), s.Inv → Writable m R.PHE_PROFILE_CTL s → arg F.PHE_PROFILE_CTL_REQ w ≠ 3 →
    arg F.PHE_PROFILE_CTL_STAGE w = 1 → flag F.PHE_PROFILE_CTL_PENDING s = false → flag F.PHE_FRAME_POS_VALID s = true →
    inPass s = false →
    ∃ t, exec (.profileStage m w) s = .next t ∧ get F.PHE_PROFILE_CTL_PENDING t = 1 ∧ get F.PHE_PROFILE_ACK_ACK t = 0 ∧
      get F.PHE_PROFILE_ACK_MISSING t = 0 ∧ get F.PHE_PROFILE_CTL_ACTIVE t = get F.PHE_PROFILE_CTL_ACTIVE s ∧
      OnlyFlds [F.PHE_PROFILE_CTL_REQ, F.PHE_PROFILE_CTL_STAGE, F.PHE_PROFILE_CTL_PENDING, F.PHE_PROFILE_ACK_ACK, F.PHE_PROFILE_ACK_MISSING]
        { s with en := { s.en with profTo := arg F.PHE_PROFILE_CTL_REQ w, boundaries := 0, stagedAt := s.metro.clock } } t) ∧
  (∀ (s : State) (m : Master) (w : Word), s.Inv → Writable m R.PHE_PROFILE_CTL s → arg F.PHE_PROFILE_CTL_STAGE w = 1 →
    flag F.PHE_PROFILE_CTL_PENDING s = true ∨ flag F.PHE_FRAME_POS_VALID s = false ∨ arg F.PHE_PROFILE_CTL_REQ w = 3 →
    ∃ t, exec (.profileStage m w) s = .next t ∧ Raised F.PHE_CAUSE_PROFILE_REFUSED s t ∧
      OnlyFlds [F.PHE_PROFILE_CTL_REQ, F.PHE_PROFILE_CTL_STAGE, F.PHE_CAUSE_PROFILE_REFUSED, F.INT_HOST_PEND_PEND] s t) ∧
  (∀ (s : State), e7Up s = true → exec .e7Ready s = .next { s with en := { s.en with e7Ready := true } }) ∧
  (∀ (s : State), s.Inv → metroOn s = true → flag F.NRG_STATUS_IMBAL_ACTIVE s = false → 1 ≤ s.en.imbalFrames →
    get F.PHE_NEUT_CFG_PERSIST s ≤ s.en.imbalFrames →
    ∃ u, exec .imbalance s = .next (tripProducer 7 0 0 u) ∧ get F.NRG_STATUS_IMBAL_ACTIVE u = 1 ∧ Raised F.PHE_CAUSE_IMBALANCE s u ∧
      OnlyFlds [F.NRG_STATUS_IMBAL_ACTIVE, F.PHE_CAUSE_IMBALANCE, F.INT_HOST_PEND_PEND] s u) ∧
  (∀ (s : State) (phase : Nat), s.Inv → metroOn s = true → phase < 3 → bit s.en.revOn phase = false →
    1 ≤ nth 0 s.en.revCount phase → get F.PHE_TAMP_CFG_REV_PERSIST s ≤ nth 0 s.en.revCount phase →
    ∃ u, exec (.reverseEnergy phase) s = .next (tripProducer 8 0 phase u) ∧ bit u.en.revOn phase = true ∧
      Raised F.PHE_CAUSE_REVERSE s u ∧
      OnlyFlds [F.PHE_CAUSE_REVERSE, F.INT_HOST_PEND_PEND] { s with en := { s.en with revOn := withBit s.en.revOn phase } } u) ∧
  (∀ (s : State) (k e : Nat) (l : List Nat), s.Inv → k < 4 → domOn 2 s = true → flag (F.NRG_PULSE_CFG_EN k) s = true →
    flag F.NRG_STATUS_PULSE_IDLE s = false → flag F.NRG_STATUS_FROZEN s = false → s.en.pulses.length = 4 →
    (nth {} s.en.pulses k).edges = e :: l → get (F.NRG_PULSE_STAT_BACKLOG k) s = 0 →
    (∀ x, (nth {} s.en.pulses k).last = some x → x + 100 ≤ e) →
    ∃ t, exec (.pulseEdge k) s = .next t ∧ get (F.NRG_PULSE_CNT_COUNT k) t = (get (F.NRG_PULSE_CNT_COUNT k) s + 1) % 2 ^ 32 ∧
      OnlyFlds [F.NRG_PULSE_CNT_COUNT k] { s with en := { s.en with
        pulses := upd s.en.pulses k fun p =>
          { p with edges := l, placed := p.placed.tail, last := some e, off := none, active := true } } } t) ∧
  (∀ (s : State) (k e x : Nat) (l : List Nat), s.Inv → k < 4 → domOn 2 s = true → flag (F.NRG_PULSE_CFG_EN k) s = true →
    flag F.NRG_STATUS_PULSE_IDLE s = false → flag F.NRG_STATUS_FROZEN s = false → s.en.pulses.length = 4 →
    (nth {} s.en.pulses k).edges = e :: l → (nth {} s.en.pulses k).last = some x → e < x + 100 →
    get (F.NRG_PULSE_STAT_BACKLOG k) s < 65535 →
    ∃ t, exec (.pulseEdge k) s = .next t ∧ get (F.NRG_PULSE_STAT_BACKLOG k) t = get (F.NRG_PULSE_STAT_BACKLOG k) s + 1 ∧
      Raised F.NRG_CAUSE_PULSE_BACKLOG s t ∧
      OnlyFlds [F.NRG_PULSE_STAT_BACKLOG k, F.NRG_CAUSE_PULSE_BACKLOG, F.INT_HOST_PEND_PEND]
        { s with en := { s.en with pulses := upd s.en.pulses k fun p => { p with edges := l, placed := p.placed.tail } } } t) ∧
  (∀ (s : State) (k : Nat), k < 4 → s.en.pulses.length = 4 → (nth {} s.en.pulses k).active = true →
    exec (.pulseEnd k) s = .next { s with en := { s.en with
        pulses := upd s.en.pulses k fun p => { p with active := false, off := p.last.map fun e => pulseOff k e s } } })

/-- E7 publishes the oldest waiting frame, closes a block, counts supraharmonic blocks; EVT_POP moves the oldest record to the log -/
def Obligations.SpectrumAndEvents : Prop :=
  (∀ (s : State) (f : FrameSet) (l : List FrameSet), s.Inv → e7Up s = true → s.en.e7Ready = true →
    s.spec.waiting = f :: l → f.starts = false → s.spec.agg.n < 15 →
    ∃ t, exec .spectrumPublish s = .next t ∧ t.spec.waiting = l ∧ t.spec.shown = results f s ∧ t.spec.agg.n = s.spec.agg.n + 1 ∧
      t.spec.agg.last = f.num ∧ get F.SPE_FRAME_STAT_FRAME t = f.num % 2 ^ 16 ∧ get F.SPE_FRAME_STAT_FLAGS t = spectrumFlags f % 2 ^ 12 ∧
      get F.SPE_STATUS_RUN t = 1 ∧ t = { s with regs := t.regs, spec := t.spec }) ∧
  (∀ (s : State) (f : FrameSet) (l : List FrameSet), s.Inv → e7Up s = true → s.en.e7Ready = true →
    s.spec.waiting = f :: l → f.starts = true ∨ 15 ≤ s.spec.agg.n → 1 ≤ s.spec.agg.n →
    ∃ t, exec .spectrumPublish s = .next t ∧ t.spec.waiting = l ∧ t.spec.agg.n = 1 ∧ t.spec.agg.last = f.num ∧
      t.spec.aggShown.frame = s.spec.agg.last ∧ t.spec.aggShown.bands = s.spec.agg.bands.map aggValue ∧
      bit t.spec.aggFlags 0 = decide (s.spec.agg.n < 15) ∧ bit t.spec.aggFlags 1 = s.spec.agg.disturbed ∧
      Raised F.SPE_CAUSE_AGG_DONE s t ∧ t = { s with regs := t.regs, spec := t.spec }) ∧
  (∀ (s : State), s.Inv → e7Up s = true → 1 ≤ s.spec.agg.n → 15 ≤ s.spec.agg.n ∨ blockEnded s = true →
    ∃ t, exec .aggregateClose s = .next t ∧ t.spec.agg = { cut := s.spec.agg.cut } ∧ t.spec.aggShown.frame = s.spec.agg.last ∧
      t.spec.aggShown.bands = s.spec.agg.bands.map aggValue ∧ t.spec.aggShown.rms = s.spec.agg.rms.map (fun l => l.map aggValue) ∧
      bit t.spec.aggFlags 0 = decide (s.spec.agg.n < 15) ∧ bit t.spec.aggFlags 1 = s.spec.agg.disturbed ∧
      t.spec.shown = s.spec.shown ∧ Raised F.SPE_CAUSE_AGG_DONE s t ∧ t = { s with regs := t.regs, spec := t.spec }) ∧
  (∀ (s : State) (w : Nat), s.Inv → domOn 8 s = true → domOn 9 s = true →
    e7Works s = false ∨ profile s ≠ 0 ∨ flag F.SPE_CFG_SH_EN s = false →
    ∃ t, exec (.shBlock [w]) s = .next t ∧ t.lmd.adc = s.lmd.adc + 1 ∧
      ringSample s.lmd.adc t = adcWord (s.lmd.lineUsed || lineInUse s) w ∧
      (∀ a, a < 0x2D000000 + 2 * (s.lmd.adc % 8192) ∨ 0x2D000000 + 2 * (s.lmd.adc % 8192) + 1 < a → rdByte t a = rdByte s a) ∧
      t = { s with mem := t.mem, lmd := { s.lmd with adc := t.lmd.adc, lineUsed := lineInUse s } }) ∧
  (∀ (s : State) (ws : List Nat), s.Inv → domOn 8 s = true → domOn 9 s = true → e7Works s = true → profile s = 0 →
    flag F.SPE_CFG_SH_EN s = true → flag F.SPE_STATUS_SH_RUN s = true → s.lmd.shNext + 8192 < s.lmd.adc + ws.length →
    ∃ t, exec (.shBlock ws) s = .next t ∧ get F.SPE_SH_STAT_DROPPED t = min 0xFFFF (get F.SPE_SH_STAT_DROPPED s + 1) ∧
      Raised F.SPE_CAUSE_SH_DROP s t ∧ t.spec = { s.spec with unusable := s.spec.unusable + 1 } ∧
      t.lmd.shNext = s.lmd.shNext + 10000 ∧
      OnlyFlds [F.SPE_STATUS_SH_RUN, F.SPE_SH_STAT_DROPPED, F.SPE_CAUSE_SH_DROP, F.INT_HOST_PEND_PEND]
        { s with spec := t.spec, lmd := t.lmd, mem := t.mem } t) ∧
  (∀ (s : State) (ws : List Nat), s.Inv → domOn 8 s = true → domOn 9 s = true → e7Works s = true → profile s = 0 →
    flag F.SPE_CFG_SH_EN s = true → flag F.SPE_STATUS_SH_RUN s = true → s.lmd.adc + ws.length < s.lmd.shNext + 5000 →
    ∃ t, exec (.shBlock ws) s = .next t ∧ t.lmd.adc = s.lmd.adc + ws.length ∧ t.lmd.shNext = s.lmd.shNext ∧
      OnlyFlds [F.SPE_STATUS_SH_RUN] { s with lmd := t.lmd, mem := t.mem } t) ∧
  (∀ (s : State) (ws : List Nat), s.Inv → domOn 8 s = true → domOn 9 s = true → e7Works s = true → profile s = 0 →
    flag F.SPE_CFG_SH_EN s = true → flag F.SPE_STATUS_SH_RUN s = true → s.lmd.shNext + 5000 ≤ s.lmd.adc + ws.length →
    s.lmd.adc + ws.length ≤ s.lmd.shNext + 8192 →
    ∃ t, exec (.shBlock ws) s = .next t ∧ t.lmd.shNext = s.lmd.shNext + 10000 ∧
      t.spec = (if ((List.range 5000).any fun i => (ringSample (s.lmd.shNext + i) t).testBit 15) then
          { s.spec with unusable := s.spec.unusable + 1 }
        else { s.spec with
          usable := s.spec.usable + 1
          bands := (List.range 741).map fun b => nth 0 s.spec.bands b +
            bandRms b ((List.range 5000).map fun i => signed 14 (ringSample (s.lmd.shNext + i) t)) t ^ 2 }) ∧
      OnlyFlds [F.SPE_STATUS_SH_RUN] { s with spec := t.spec, lmd := t.lmd, mem := t.mem } t) ∧
  (∀ (s : State) (m : Master) (w : Word) (r : PqRec) (l : List PqRec), s.Inv → Writable m R.SPE_EVT_CTL s →
    arg F.SPE_EVT_CTL_POP w = 1 → s.spec.fifo = r :: l → l.length < 16 → s.cis.b0.spread.length = 7 →
    get F.CIS_STATUS_COPYING s = 0 → ∃ t, exec (.evtPop m w) s = .next t ∧ t.spec = { s.spec with fifo := l } ∧
      t.cis = { s.cis with
        b0 := { s.cis.b0 with spread := upd s.cis.b0.spread 3 (spreadRaise (counter 3 s + 1)) }
        b3 := { s.cis.b3 with pq := sparseSet {} s.cis.b3.pq (counter 3 s % 256) r } } ∧
      counter 3 t = max (counter 3 s) (min (2 ^ 63 - 1) (counter 3 s + 1)) ∧
      get F.SPE_EVT_CTL_LEVEL t = l.length ∧ fbit F.CIS_STATUS_DIRTY 3 t = true ∧ fbit F.CIS_STATUS_DIRTY 0 t = true ∧
      OnlyFlds ([F.SPE_EVT_CTL_LEVEL, F.CIS_STATUS_DIRTY] ++ (List.range 8).map F.SPE_EVT_WORD_WORD)
        { s with spec := t.spec, cis := t.cis } t)

/-- The capture: arming takes a free slot, a trigger starts the post-trigger phase, the end of a single capture fills its slot -/
def Obligations.WaveformCapture : Prop :=
  (∀ (s : State) (m : Master) (w : Word) (k : Nat), s.Inv → Writable m R.SPE_CAP_CTL s → arg F.SPE_CAP_CTL_ARM w = 1 →
    arg F.SPE_CAP_CTL_FORCE w = 0 → arg F.SPE_CAP_CTL_ABORT w = 0 → inPass s = false → get F.SPE_CAP_STATUS_STATE s = 0 →
    freeSlot 0 s = some k →
    ∃ t, exec (.captureArm m w) s = .next t ∧ get F.SPE_CAP_STATUS_STATE t = 1 ∧ get F.SPE_CAP_STATUS_SLOT t = k ∧
      get F.SPE_CAP_STATUS_SETS t = 0 ∧
      OnlyFlds [F.SPE_CAP_STATUS_STATE, F.SPE_CAP_STATUS_SLOT, F.SPE_CAP_STATUS_SETS] { s with cap := { s.cap with
        kept := 0, written := 0, place := 0, retrig := 0, preKept := 0, flags := 0, lag := false, taken := 0, marks := [] } } t) ∧
  (∀ (s : State) (m : Master) (w : Word), s.Inv → Writable m R.SPE_CAP_CTL s → arg F.SPE_CAP_CTL_ARM w = 1 →
    arg F.SPE_CAP_CTL_FORCE w = 0 → arg F.SPE_CAP_CTL_ABORT w = 0 → inPass s = true →
    ∃ t, exec (.captureArm m w) s = .next t ∧ Raised F.SPE_CAUSE_CFG_REFUSED s t ∧
      OnlyFlds [F.SPE_CAUSE_CFG_REFUSED, F.INT_HOST_PEND_PEND] s t) ∧
  (∀ (s : State) (m : Master) (w : Word), s.Inv → Writable m R.SPE_CAP_CTL s → domOn 3 s = true →
    arg F.SPE_CAP_CTL_ARM w = 0 → arg F.SPE_CAP_CTL_FORCE w = 1 → arg F.SPE_CAP_CTL_ABORT w = 0 →
    get F.SPE_CAP_STATUS_STATE s = 1 → soundingRuns s = false →
    ∃ t, exec (.captureForce m w) s = .next t ∧ get F.SPE_CAP_STATUS_STATE t = 2 ∧ t.cap.trigFrame = frameStamp s ∧
      t.cap.trigSample = sampleIdx s ∧ t.cap.trigFrac = 0 ∧ t.cap.trigLine = 0xFF ∧ t.cap.trigRtc = rtc s ∧
      t.cap.trigFreq = s.metro.fGrid ∧ t.cap.preKept = s.cap.kept ∧ t.cap.seq = s.cap.seq ∧
      t.spec = { s.spec with marks := withBit s.spec.marks 8 } ∧ Raised F.SPE_CAUSE_CAP_TRIG s t ∧
      OnlyFlds [F.SPE_CAP_STATUS_STATE, F.SPE_CAP_STATUS_SETS, F.SPE_CAUSE_CAP_TRIG, F.INT_HOST_PEND_PEND]
        { s with spec := t.spec, cap := t.cap, mem := t.mem } t) ∧
  (∀ (s : State) (m : Master) (w : Word), s.Inv → Writable m R.SPE_CAP_CTL s → arg F.SPE_CAP_CTL_ARM w = 0 →
    arg F.SPE_CAP_CTL_FORCE w = 0 → arg F.SPE_CAP_CTL_ABORT w = 1 → get F.SPE_CAP_STATUS_STATE s ≠ 2 →
    ∃ t, exec (.captureAbort m w) s = .next t ∧ get F.SPE_CAP_STATUS_STATE t = 0 ∧ OnlyFlds [F.SPE_CAP_STATUS_STATE] s t) ∧
  (∀ (s : State) (m : Master) (w : Word), s.Inv → Writable m R.SPE_CAP_CTL s → arg F.SPE_CAP_CTL_ARM w = 0 →
    arg F.SPE_CAP_CTL_FORCE w = 0 → arg F.SPE_CAP_CTL_ABORT w = 1 → get F.SPE_CAP_STATUS_STATE s = 2 →
    ∃ t, exec (.captureAbort m w) s = .next t ∧ get F.SPE_CAP_STATUS_STATE t = 0 ∧ bit t.cap.flags 4 = true ∧
      OnlyFlds [F.SPE_CAP_STATUS_STATE] { s with cap := { s.cap with flags := t.cap.flags }, mem := t.mem } t) ∧
  (∀ (s : State), s.Inv → domOn 3 s = true → get F.SPE_CAP_STATUS_STATE s = 2 → capTotal s ≤ s.cap.written →
    flag F.SPE_CAP_CFG_MODE s = false → disturbedSoFar s = false →
    ∃ t, exec .captureDone s = .next t ∧ get F.SPE_CAP_STATUS_STATE t = 0 ∧ fbit F.SPE_CAP_FULL_SLOT (capSlot s) t = true ∧
      (∀ j, j < 8 → j ≠ capSlot s → fbit F.SPE_CAP_FULL_SLOT j t = fbit F.SPE_CAP_FULL_SLOT j s) ∧
      t.cap = { s.cap with order := s.cap.order ++ [capSlot s], seq := (s.cap.seq + 1) % 2 ^ 32 } ∧
      t.mem = (wrBytes (slotBase (capSlot s) s) (capHeader s ++ le 4 (crc32 (capHeader s))) s).mem ∧
      Raised F.SPE_CAUSE_CAP_DONE s t ∧
      OnlyFlds [F.SPE_CAP_STATUS_STATE, F.SPE_CAP_FULL_SLOT, F.SPE_CAUSE_CAP_DONE, F.INT_HOST_PEND_PEND]
        { s with cap := t.cap, mem := t.mem } t) ∧
  (∀ (s : State), s.Inv → domOn 3 s = true → get F.SPE_CAP_STATUS_STATE s = 2 → capTotal s ≤ s.cap.written →
    flag F.SPE_CAP_CFG_MODE s = false → disturbedSoFar s = true →
    ∃ t, exec .captureDone s = .next t ∧ get F.SPE_CAP_STATUS_STATE t = 0 ∧ fbit F.SPE_CAP_FULL_SLOT (capSlot s) t = true ∧
      t.cap = { s.cap with
        order := s.cap.order ++ [capSlot s], seq := (s.cap.seq + 1) % 2 ^ 32, flags := withBit s.cap.flags 3 } ∧
      Raised F.SPE_CAUSE_CAP_DONE s t ∧
      OnlyFlds [F.SPE_CAP_STATUS_STATE, F.SPE_CAP_FULL_SLOT, F.SPE_CAUSE_CAP_DONE, F.INT_HOST_PEND_PEND]
        { s with cap := t.cap, mem := t.mem } t) ∧
  (∀ (s : State) (m : Master) (w : Word), s.Inv → Writable m R.SPE_CAP_FULL s → get F.SPE_CAP_STATUS_STATE s ≠ 3 →
    ∃ t, exec (.captureSlotFree m w) s = .next t ∧
      (∀ j, j < 8 → fbit F.SPE_CAP_FULL_SLOT j t = (fbit F.SPE_CAP_FULL_SLOT j s && !(bit (arg F.SPE_CAP_FULL_SLOT w) j))) ∧
      t.cap = { s.cap with order := s.cap.order.filter fun k => fbit F.SPE_CAP_FULL_SLOT k s && !(bit (arg F.SPE_CAP_FULL_SLOT w) k) } ∧
      OnlyFlds [F.SPE_CAP_FULL_SLOT] { s with cap := t.cap } t) ∧
  (∀ (s : State) (m : Master) (w : Word), s.Inv → Writable m R.SPE_CAP_CFG s → get F.SPE_CAP_STATUS_STATE s = 0 →
    arg F.SPE_CAP_CFG_CHANS w ≠ 0 →
    ∃ t, exec (.capCfgWrite m w) s = .next t ∧ get F.SPE_CAP_CFG_CHANS t = arg F.SPE_CAP_CFG_CHANS w ∧
      get F.SPE_CAP_CFG_MODE t = arg F.SPE_CAP_CFG_MODE w ∧ get F.SPE_CAP_CFG_OVERWRITE t = arg F.SPE_CAP_CFG_OVERWRITE w ∧
      get F.SPE_CAP_CFG_SLOTS t = arg F.SPE_CAP_CFG_SLOTS w ∧ get F.SPE_CAP_CFG_PRE t = arg F.SPE_CAP_CFG_PRE w ∧
      OnlyFlds [F.SPE_CAP_CFG_CHANS, F.SPE_CAP_CFG_MODE, F.SPE_CAP_CFG_OVERWRITE, F.SPE_CAP_CFG_SLOTS, F.SPE_CAP_CFG_PRE] s t) ∧
  (∀ (s : State) (m : Master) (w : Word), s.Inv → Writable m R.SPE_CAP_CFG s →
    get F.SPE_CAP_STATUS_STATE s ≠ 0 ∨ arg F.SPE_CAP_CFG_CHANS w = 0 →
    ∃ t, exec (.capCfgWrite m w) s = .next t ∧ Raised F.SPE_CAUSE_CFG_REFUSED s t ∧
      OnlyFlds [F.SPE_CAUSE_CFG_REFUSED, F.INT_HOST_PEND_PEND] s t)

/-- RTC_SECOND counts and brings the billing record to the second or notes it missed; closures and adjustments wait for the tick -/
def Obligations.SecondsAndBilling : Prop :=
  (∀ (s : State), s.Inv → s.sup.mode ≠ .running → s.sup.mode ≠ .loading →
    ∃ t, exec .rtcSecond s = .next t ∧ get F.SUP_RTC_SEC_SEC t = (get F.SUP_RTC_SEC_SEC s + 1) % 2 ^ 32 ∧
      OnlyFlds (F.SUP_RTC_SEC_SEC :: (List.range 64).map F.TAMP_FC_STAT_IN_WIN ++ (List.range 10).map F.CNV_SLICE_CFG_FAULTS)
        { s with sup := { s.sup with mono := s.sup.mono + (if s.sup.mode = .ship then 0 else secondTicks s) } } t) ∧
  (∀ (s : State), s.Inv → s.sup.mode = .loading → flag F.NRG_STATUS_FROZEN s = false → domOn 2 s = true → slewLeft s = 0 →
    ∃ t, exec .rtcSecond s = .next t ∧ get F.SUP_RTC_SEC_SEC t = (get F.SUP_RTC_SEC_SEC s + 1) % 2 ^ 32 ∧
      t.bil = { s.bil with missedFrom := some (s.bil.missedFrom.getD ((get F.SUP_RTC_SEC_SEC s + 1) % 2 ^ 32)) } ∧
      t.en.imageDue = true ∧ t.sup = { s.sup with mono := s.sup.mono + secondTicks s }) ∧
  (∀ (s : State), s.Inv → s.sup.mode = .running → flag F.NRG_STATUS_FROZEN s = false → configured s = true →
    s.bil.restored = true → domOn 2 s = true → e1Up s = true → domOn 5 s = true → bit s.sup.quarantined 2 = true →
    s.bil.adj = none → s.bil.missedFrom = none → slewLeft s = 0 →
    ∃ t, exec .rtcSecond s = .next t ∧ t.bil.cur.rtc = (get F.SUP_RTC_SEC_SEC s + 1) % 2 ^ 32) ∧
  (∀ (s : State) (n : Nat), s.Inv → e1Up s = true → flag F.NRG_STATUS_FROZEN s = false → s.bil.missedFrom = some n →
    n ≤ rtc s → ∃ t, exec .tickCatchUp s = .next t ∧ t.bil.cur.rtc = rtc s ∧ t.bil.missedFrom = none) ∧
  (∀ (s : State) (m : Master) (w : Word), Writable m R.BIL_CTL s → arg F.BIL_CTL_CLOSE w = 1 → arg F.BIL_CTL_KEY w = 0xC3 →
    guarded s = false → flag F.BIL_STATUS_RESTORING s = false →
    exec (.closeRequest m w) s = .next { s with bil := { s.bil with closeReq := some (rtc s) } }) ∧
  (∀ (s : State) (m : Master) (w : Word), s.Inv → Writable m R.BIL_CTL s → arg F.BIL_CTL_CLOSE w = 1 →
    arg F.BIL_CTL_KEY w = 0xC3 → guarded s = true ∨ flag F.BIL_STATUS_RESTORING s = true →
    ∃ t, exec (.closeRequest m w) s = .next t ∧ Raised F.BIL_CAUSE_CLOSE_REFUSED s t ∧
      OnlyFlds [F.BIL_CAUSE_CLOSE_REFUSED, F.INT_HOST_PEND_PEND] s t) ∧
  (∀ (s : State) (m : Master) (w : Word) (src osrc : Nat), Writable m R.TAR_ADJ_REQ s → w ≠ 0 →
    exec (.adjRequest m w src osrc) s = .next { s with bil := { s.bil with adj := some (signed 32 w.toNat, src, osrc) } })

/-- A charge and a credit token keep the account exact; EC_REQUEST, a token, its decode and its result, expiry of sections, the MPL trip -/
def Obligations.CreditAndTokens : Prop :=
  (∀ (s : State) (p : Prepay) (rate e : Nat), s.ld.tables.prepay = some p →
    10 ^ 6 * (chargeCredit rate e s).pay.cur.credit - ((chargeCredit rate e s).pay.cur.resid : Int) =
        10 ^ 6 * s.pay.cur.credit - (s.pay.cur.resid : Int) - (chargeOf p rate s.pay.cur.month e : Nat) ∧
      (chargeCredit rate e s).pay.cur.resid < 10 ^ 6 ∧ (chargeCredit rate e s).pay.cur.month = s.pay.cur.month + e) ∧
  (∀ (s : State) (p : Prepay) (n tid : Nat) (t : Token), s.ld.tables.prepay = some p →
    (convert p n s.pay.cur).1 ≤ p.creditMax → s.pay.cur.resid < 10 ^ 6 →
    (creditToken n tid t s).1 = some 0 ∧ 10 ^ 6 * (creditToken n tid t s).2.2.pay.cur.credit - ((creditToken n tid t s).2.2.pay.cur.resid : Int) =
        10 ^ 6 * s.pay.cur.credit - (s.pay.cur.resid : Int) + (n * p.tokenPrice * 10 ^ 5 : Nat) ∧
      (creditToken n tid t s).2.2.pay.cur.resid < 10 ^ 6 ∧
      (creditToken n tid t s).2.2.pay.cur.tids.getLast? = some (tid, t.source) ∧
      (0 < (creditToken n tid t s).2.2.pay.cur.credit → (creditToken n tid t s).2.2.pay.ec = false)) ∧
  (∀ (s : State) (m : Master) (w : Word) (p : Prepay), s.Inv → Writable m R.PAY_TOKEN_CTL s →
    arg F.PAY_TOKEN_CTL_SUBMIT w = 0 → arg F.PAY_TOKEN_CTL_EC_REQ w = 1 → s.ld.tables.prepay = some p → p.ecEn = true →
    s.pay.ec = false → s.pay.cur.credit ≤ p.ecOffer →
    ∃ t, exec (.ecRequest m w) s = .next t ∧ fbit F.PAY_CAUSE_EC_GRANT 0 t = true ∧
      t.pay.ec = decide (s.pay.cur.credit ≤ 0) ∧ get F.PAY_STATUS_EC_ACTIVE t = b2n (decide (s.pay.cur.credit ≤ 0)) ∧
      t.pay.cur.credit = s.pay.cur.credit ∧ t.pay.queue = s.pay.queue ∧ t.metro = s.metro ∧ t.en = s.en ∧ t.well = s.well) ∧
  (∀ (s : State) (m : Master) (w : Word), s.Inv → Writable m R.PAY_TOKEN_CTL s → arg F.PAY_TOKEN_CTL_SUBMIT w = 0 →
    arg F.PAY_TOKEN_CTL_EC_REQ w = 1 →
    (∀ p, s.ld.tables.prepay = some p → p.ecEn = true → s.pay.ec = false → p.ecOffer < s.pay.cur.credit) →
    ∃ t, exec (.ecRequest m w) s = .next t ∧ Raised F.PAY_CAUSE_EC_REFUSED s t ∧
      OnlyFlds [F.PAY_CAUSE_EC_REFUSED, F.INT_HOST_PEND_PEND] s t) ∧
  (∀ (s : State) (m : Master) (w : Word), Writable m R.PAY_TOKEN_CTL s → arg F.PAY_TOKEN_CTL_SUBMIT w = 0 →
    arg F.PAY_TOKEN_CTL_EC_REQ w = 0 → exec (.ecRequest m w) s = .next s ∧ exec (.tokenSubmit m w) s = .next s) ∧
  (∀ (s : State) (m : Master) (w : Word) (k : Token), s.Inv → Writable m R.PAY_TOKEN_CTL s →
    arg F.PAY_TOKEN_CTL_SUBMIT w = 1 → arg F.PAY_TOKEN_CTL_EC_REQ w = 0 → s.pay.dec = none → s.pay.queue = [] →
    guarded s = false → activationWaits s = false → k = { bits := tokenBits s, source := arg F.PAY_TOKEN_CTL_SOURCE w } →
    ∃ t, exec (.tokenSubmit m w) s = .next t ∧ t.pay.dec = some k ∧ t.pay.queue = [] ∧
      t.pay.decKey = some (decodeLoad k { s with pay := { s.pay with queue := [k] } }).1 ∧ t.pay.decBlanked = blanking s ∧
      t.pay.cur = (decodeLoad k { s with pay := { s.pay with queue := [k] } }).2.pay.cur ∧
      OnlyFlds creditShown { (decodeLoad k { s with pay := { s.pay with queue := [k] } }).2 with pay := t.pay } t) ∧
  (∀ (s : State) (m : Master) (w : Word), s.Inv → Writable m R.PAY_TOKEN_CTL s → arg F.PAY_TOKEN_CTL_SUBMIT w = 1 →
    arg F.PAY_TOKEN_CTL_EC_REQ w = 0 → s.pay.dec.isSome = true → s.pay.queue.length < 4 →
    ∃ t, exec (.tokenSubmit m w) s = .next t ∧
      t.pay = { s.pay with queue := s.pay.queue ++ [{ bits := tokenBits s, source := arg F.PAY_TOKEN_CTL_SOURCE w }] } ∧
      OnlyFlds creditShown { s with pay := t.pay } t) ∧
  (∀ (s : State) (m : Master) (w : Word), s.Inv → Writable m R.PAY_TOKEN_CTL s → arg F.PAY_TOKEN_CTL_SUBMIT w = 1 →
    arg F.PAY_TOKEN_CTL_EC_REQ w = 0 → 4 ≤ s.pay.queue.length →
    ∃ t, exec (.tokenSubmit m w) s = .next t ∧ get F.PAY_TOKEN_RES_CODE t = 10 ∧
      get F.PAY_TOKEN_RES_SEQ t = (get F.PAY_TOKEN_RES_SEQ s + 1) % 2 ^ F.PAY_TOKEN_RES_SEQ.width ∧
      get F.PAY_TOKEN_RES_SOURCE t = arg F.PAY_TOKEN_CTL_SOURCE w ∧ Raised F.PAY_CAUSE_TOKEN_DONE s t ∧
      OnlyFlds ([F.PAY_TOKEN_RES_CODE, F.PAY_TOKEN_RES_CLASS, F.PAY_TOKEN_RES_SUBCLASS, F.PAY_TOKEN_RES_SOURCE,
          F.PAY_TOKEN_RES_SEQ, F.PAY_CAUSE_TOKEN_DONE, F.INT_HOST_PEND_PEND] ++ creditShown) { s with cis := t.cis } t ∧
      (e2Up s = true → t.cis.b0.credit = writeCopy s.cis.b0.credit (creditRec 3 s))) ∧
  (∀ (s : State) (bytes : List Byte) (source : Nat) (reply : Reply) (k : Token), s.Inv → domOn 5 s = true →
    s.pay.dec = none → s.pay.queue = [] → guarded s = false → activationWaits s = false →
    k = { remote := some bytes, source := source, reply := reply } →
    ∃ t, exec (.remoteCredit bytes source reply) s = .next t ∧ t.pay.dec = some k ∧ t.pay.queue = [] ∧
      t.pay.decKey = some (decodeLoad k { s with pay := { s.pay with queue := [k] } }).1 ∧ t.pay.decBlanked = blanking s ∧
      t.pay.cur = (decodeLoad k { s with pay := { s.pay with queue := [k] } }).2.pay.cur ∧
      OnlyFlds creditShown { (decodeLoad k { s with pay := { s.pay with queue := [k] } }).2 with pay := t.pay } t) ∧
  (∀ (s : State) (bytes : List Byte) (source : Nat) (reply : Reply), s.Inv → domOn 5 s = true → s.pay.dec.isSome = true →
    s.pay.queue.length < 4 → ∃ t, exec (.remoteCredit bytes source reply) s = .next t ∧
      t.pay = { s.pay with queue := s.pay.queue ++ [{ remote := some bytes, source := source, reply := reply }] } ∧
      OnlyFlds creditShown { s with pay := t.pay } t) ∧
  (∀ (s : State) (bytes : List Byte) (source : Nat), s.Inv → domOn 5 s = true → 4 ≤ s.pay.queue.length →
    ∃ t, exec (.remoteCredit bytes source .nobody) s = .next t ∧ get F.PAY_TOKEN_RES_CODE t = 10 ∧
      get F.PAY_TOKEN_RES_SEQ t = (get F.PAY_TOKEN_RES_SEQ s + 1) % 2 ^ F.PAY_TOKEN_RES_SEQ.width ∧
      get F.PAY_TOKEN_RES_SOURCE t = source % 2 ^ F.PAY_TOKEN_RES_SOURCE.width ∧ Raised F.PAY_CAUSE_TOKEN_DONE s t ∧
      OnlyFlds ([F.PAY_TOKEN_RES_CODE, F.PAY_TOKEN_RES_CLASS, F.PAY_TOKEN_RES_SUBCLASS, F.PAY_TOKEN_RES_SOURCE,
          F.PAY_TOKEN_RES_SEQ, F.PAY_CAUSE_TOKEN_DONE, F.INT_HOST_PEND_PEND] ++ creditShown) { s with cis := t.cis } t) ∧
  (∀ (s : State) (k : Token), s.Inv → e2Up s = true → s.pay.dec = some k → k.reply = .nobody → s.pay.queue = [] →
    s.pay.decBlanked = true ∨ blanking s = true → ∃ t, exec .tokenDecodeDone s = .next t ∧ get F.PAY_TOKEN_RES_CODE t = 6 ∧
      get F.PAY_TOKEN_RES_SEQ t = (get F.PAY_TOKEN_RES_SEQ s + 1) % 2 ^ F.PAY_TOKEN_RES_SEQ.width ∧
      get F.PAY_TOKEN_RES_SOURCE t = k.source % 2 ^ F.PAY_TOKEN_RES_SOURCE.width ∧
      Raised F.PAY_CAUSE_TOKEN_DONE s t ∧ t.cis.b0.credit = writeCopy s.cis.b0.credit (creditRec 3 s) ∧
      OnlyFlds ([F.PAY_TOKEN_RES_CODE, F.PAY_TOKEN_RES_CLASS, F.PAY_TOKEN_RES_SUBCLASS, F.PAY_TOKEN_RES_SOURCE,
          F.PAY_TOKEN_RES_SEQ, F.PAY_CAUSE_TOKEN_DONE, F.INT_HOST_PEND_PEND] ++ creditShown)
        { releaseSlots { s with pay := { s.pay with dec := none, decKey := none, decBlanked := false } } with cis := t.cis } t) ∧
  (∀ (s : State) (k : Token) (c : Nat), s.Inv → e2Up s = true → s.pay.dec = some k → k.reply = .nobody →
    (tokenOutcome k s).1 = some c → (tokenOutcome k s).2.2.pay.queue = [] →
    ∃ t, exec .tokenDecodeDone s = .next t ∧ get F.PAY_TOKEN_RES_CODE t = c % 2 ^ F.PAY_TOKEN_RES_CODE.width ∧
      get F.PAY_TOKEN_RES_SEQ t = (get F.PAY_TOKEN_RES_SEQ (tokenOutcome k s).2.2 + 1) % 2 ^ F.PAY_TOKEN_RES_SEQ.width ∧
      t.pay = { (tokenOutcome k s).2.2.pay with dec := none, decKey := none, decBlanked := false } ∧
      OnlyFlds ([F.PAY_TOKEN_RES_CODE, F.PAY_TOKEN_RES_CLASS, F.PAY_TOKEN_RES_SUBCLASS, F.PAY_TOKEN_RES_SOURCE,
          F.PAY_TOKEN_RES_SEQ, F.PAY_CAUSE_TOKEN_DONE, F.INT_HOST_PEND_PEND] ++ creditShown)
        { releaseSlots { (tokenOutcome k s).2.2 with pay := t.pay } with cis := t.cis } t) ∧
  (∀ (s : State), s.pay.dec = none ∨ e2Up s = false → exec .tokenDecodeDone s = .next s) ∧
  (∀ (s : State), s.pay.sections ≠ [] → s.pay.sectSince + 1024 * 86400 ≤ s.sup.mono →
    exec .keySectionsExpire s = .next { s with pay := { s.pay with sections := [] } }) ∧
  (∀ (s : State), s.pay.sections = [] ∨ s.sup.mono < s.pay.sectSince + 1024 * 86400 → exec .keySectionsExpire s = .next s) ∧
  (∀ (s : State) (x : Nat), s.Inv → e2Up s = true → s.rly.mplFrom = some x → flag F.PAY_STATUS_MPL_TRIP s = false →
    (mplTimes s).1 * 2 ^ 39 ≤ s.metro.clock - x →
    ∃ u, exec .mplTrip s = .next (showCredit (evalReasons u)) ∧ get F.PAY_STATUS_MPL_TRIP u = 1 ∧ Raised F.PAY_CAUSE_MPL_CHANGE s u ∧
      OnlyFlds [F.PAY_STATUS_MPL_TRIP, F.PAY_CAUSE_MPL_CHANGE, F.INT_HOST_PEND_PEND]
        { s with rly := { s.rly with mplSetAt := s.sup.mono } } u) ∧
  (∀ (s : State), s.rly.mplFrom = none ∨ e2Up s = false ∨ flag F.PAY_STATUS_MPL_TRIP s = true → exec .mplTrip s = .next s) ∧
  (∀ (s : State), s.Inv → e2Up s = true → flag F.PAY_STATUS_MPL_TRIP s = true →
    s.rly.mplSetAt + 1024 * (mplTimes s).2 ≤ s.sup.mono ∨ s.pay.cur.mpl = 0 →
    ∃ u, exec .mplRelease s = .next (evalReasons u) ∧ get F.PAY_STATUS_MPL_TRIP u = 0 ∧ Raised F.PAY_CAUSE_MPL_CHANGE s u ∧
      OnlyFlds [F.PAY_STATUS_MPL_TRIP, F.PAY_CAUSE_MPL_CHANGE, F.INT_HOST_PEND_PEND]
        { s with rly := { s.rly with mplFrom := none } } u) ∧
  (∀ (s : State),
    e2Up s = false ∨ flag F.PAY_STATUS_MPL_TRIP s = false ∨ (s.sup.mono < s.rly.mplSetAt + 1024 * (mplTimes s).2 ∧ s.pay.cur.mpl ≠ 0) →
    exec .mplRelease s = .next s)

/-- RLY_CTL sets and clears the remote reason and the shed; wrong key or opposing bits are refused; a reason opens the main; LC_SWITCH -/
def Obligations.RelayCommands : Prop :=
  (∀ (s : State) (m : Master) (w : Word), s.Inv → Writable m R.RLY_CTL s → arg F.RLY_CTL_KEY w = 0x96 →
    arg F.RLY_CTL_REMOTE_OPEN w = 1 → arg F.RLY_CTL_REMOTE_CLOSE w = 0 → arg F.RLY_CTL_LC_SHED w = 0 →
    arg F.RLY_CTL_LC_RESTORE w = 0 →
    ∃ u, exec (.remoteOpen m w) s = .next (evalReasons u) ∧ fbit F.RLY_STATUS_REASONS 3 u = true ∧
      (∀ j, j < 3 → fbit F.RLY_STATUS_REASONS j u = fbit F.RLY_STATUS_REASONS j s) ∧ OnlyFlds [F.RLY_STATUS_REASONS] s u) ∧
  (∀ (s : State) (m : Master) (w : Word), s.Inv → Writable m R.RLY_CTL s → arg F.RLY_CTL_KEY w = 0x96 →
    arg F.RLY_CTL_REMOTE_OPEN w = 0 → arg F.RLY_CTL_REMOTE_CLOSE w = 1 → arg F.RLY_CTL_LC_SHED w = 0 →
    arg F.RLY_CTL_LC_RESTORE w = 0 →
    ∃ u, exec (.remoteClose m w) s = .next (evalReasons u) ∧ fbit F.RLY_STATUS_REASONS 3 u = false ∧
      (∀ j, j < 3 → fbit F.RLY_STATUS_REASONS j u = fbit F.RLY_STATUS_REASONS j s) ∧ OnlyFlds [F.RLY_STATUS_REASONS] s u) ∧
  (∀ (s : State) (m : Master) (w : Word), Writable m R.RLY_CTL s → arg F.RLY_CTL_KEY w = 0x96 →
    arg F.RLY_CTL_REMOTE_OPEN w = 0 → arg F.RLY_CTL_REMOTE_CLOSE w = 0 → arg F.RLY_CTL_LC_SHED w = 1 →
    arg F.RLY_CTL_LC_RESTORE w = 0 →
    exec (.lcShed m w) s = .next (evalReasons { s with rly := { s.rly with shed := true } })) ∧
  (∀ (s : State) (m : Master) (w : Word), Writable m R.RLY_CTL s → arg F.RLY_CTL_KEY w = 0x96 →
    arg F.RLY_CTL_REMOTE_OPEN w = 0 → arg F.RLY_CTL_REMOTE_CLOSE w = 0 → arg F.RLY_CTL_LC_SHED w = 0 →
    arg F.RLY_CTL_LC_RESTORE w = 1 →
    exec (.lcRestore m w) s = .next (evalReasons { s with rly := { s.rly with shed := false } })) ∧
  (∀ (s : State) (m : Master) (w : Word) (i : Instr), s.Inv → Writable m R.RLY_CTL s →
    i = .remoteOpen m w ∨ i = .remoteClose m w ∨ i = .lcShed m w ∨ i = .lcRestore m w →
    arg F.RLY_CTL_KEY w ≠ 0x96 ∨ (arg F.RLY_CTL_REMOTE_OPEN w = 1 ∧ arg F.RLY_CTL_REMOTE_CLOSE w = 1) ∨ (arg F.RLY_CTL_LC_SHED w = 1 ∧ arg F.RLY_CTL_LC_RESTORE w = 1) →
    ∃ t, exec i s = .next t ∧ Raised F.RLY_CAUSE_CMD_REFUSED s t ∧ OnlyFlds [F.RLY_CAUSE_CMD_REFUSED, F.INT_HOST_PEND_PEND] s t) ∧
  (∀ (s : State), s.Inv → relaysOn s = true → guarded s = false → flag F.NRG_STATUS_FROZEN s = false →
    get F.RLY_STATUS_REASONS s ≠ 0 → flag F.RLY_STATUS_MAIN_CMD s = false →
    get F.RLY_STATUS_MAIN_CMD (driveMain s) = 1 ∧ get F.RLY_STATUS_MAIN_STATE (driveMain s) = 3 ∧
      (driveMain s).rly.want = some true ∧ (driveMain s).rly.retry = none ∧ (driveMain s).rly.tries = 0 ∧
      (driveMain s).pay.cur.lcOffT = rtc s) ∧
  (∀ (s : State), s.Inv → e2Up s = true → flag F.RLY_STATUS_LC_PENDING s = true → relaysOn s = true → driveHeld s = false →
    lcWanted s ≠ flag F.RLY_STATUS_LC_STATE s → lcWait (lcWanted s) s = 0 → flag F.RLY_LC_CFG_LC_MODE s = false →
    ∃ t, exec .lcSwitch s = .next t ∧ get F.RLY_STATUS_LC_STATE t = b2n (lcWanted s) ∧ get F.RLY_STATUS_LC_PENDING t = 0 ∧
      get F.RLY_LC_WAIT_SECONDS t = 0 ∧ Raised F.RLY_CAUSE_LC_CHANGE s t ∧
      t.rly = (if lcWanted s then { s.rly with lcOnAt := s.sup.mono, lcRand := 0, lcDrive := true } else { s.rly with lcDrive := false }) ∧
      t.pay = (if lcWanted s then s.pay else { s.pay with cur := { s.pay.cur with lcOffT := rtc s } }) ∧
      (fbit F.CIS_STATUS_COPYING 0 s = false → fbit F.CIS_STATUS_DIRTY 0 t = true) ∧
      OnlyFlds [F.RLY_STATUS_LC_STATE, F.RLY_STATUS_LC_PENDING, F.RLY_LC_WAIT_SECONDS, F.RLY_CAUSE_LC_CHANGE,
          F.INT_HOST_PEND_PEND, F.CIS_STATUS_DIRTY] { s with rly := t.rly, pay := t.pay, cis := t.cis } t) ∧
  (∀ (s : State), s.Inv → e2Up s = true → flag F.RLY_STATUS_LC_PENDING s = true → relaysOn s = true → driveHeld s = false →
    lcWanted s ≠ flag F.RLY_STATUS_LC_STATE s → lcWait (lcWanted s) s = 0 → flag F.RLY_LC_CFG_LC_MODE s = true →
    s.rly.pulse = none → s.rly.want = none → s.rly.lcPulse = none →
    ∃ t, exec .lcSwitch s = .next t ∧ get F.RLY_STATUS_LC_STATE t = b2n (lcWanted s) ∧ get F.RLY_STATUS_LC_PENDING t = 0 ∧
      fbit F.RLY_CAUSE_LC_CHANGE 0 t = true ∧ t.rly.lcPulse = some (lcWanted s) ∧ t.rly.lcPulseWant = none ∧
      t.rly.lcDrive = s.rly.lcDrive ∧ t.rly.lcLatch = s.rly.lcLatch ∧ t.rly.want = none ∧ t.rly.pulse = none) ∧
  (∀ (s : State),
    e2Up s = false ∨ flag F.RLY_STATUS_LC_PENDING s = false ∨ relaysOn s = false ∨ driveHeld s = true ∨ lcWanted s = flag F.RLY_STATUS_LC_STATE s ∨ lcWait (lcWanted s) s ≠ 0 →
    exec .lcSwitch s = .next s) ∧
  (∀ (s : State) (on : Bool), s.rly.lcPulse = some on → s.rly.lcPulseWant = none → exec .lcPulseEnd s = .next { s with
        rly := { s.rly with lcPulse := none, lcLatch := on }
        lmd := { s.lmd with verifAt := if s.lmd.repeatRly then some s.sup.mono else s.lmd.verifAt } }) ∧
  (∀ (s : State), s.rly.lcPulse = none → exec .lcPulseEnd s = .next s)

/-- The main's pulse and its wait, its verification and retry, LOADV and OPEN_I on a main verified open, and the release of the drive -/
def Obligations.MainContactor : Prop :=
  (∀ (s : State) (o : Bool), s.rly.want = some o → mainMayPulse s = true →
    exec .mainPulseStart s = .next (abortSounding 3 { s with
        rly := { s.rly with want := none, retry := none, verify := none, pulse := some o, lastPulse := some s.sup.mono } }) ∧
      (soundingRuns s = false → exec .mainPulseStart s = .next { s with
        rly := { s.rly with want := none, retry := none, verify := none, pulse := some o, lastPulse := some s.sup.mono } })) ∧
  (∀ (s : State) (o : Bool), s.Inv → s.rly.want = some o → mainMayPulse s = false →
    ∃ t, exec .mainPulseStart s = .next t ∧ OnlyFlds [F.RLY_CAUSE_FREEZE_WAIT, F.INT_HOST_PEND_PEND] s t ∧
      (freezing s = true → domOn 5 s = true → Raised F.RLY_CAUSE_FREEZE_WAIT s t)) ∧
  (∀ (s : State), s.rly.want = none → exec .mainPulseStart s = .next s) ∧
  (∀ (s : State) (o : Bool), s.rly.pulse = some o → exec .mainPulseEnd s = .next (startLcPulse { s with
        rly := { s.rly with pulse := none, verify := if s.rly.want.isNone then some o else none } }) ∧
      (s.rly.lcPulseWant = none → exec .mainPulseEnd s = .next { s with
        rly := { s.rly with pulse := none, verify := if s.rly.want.isNone then some o else none } })) ∧
  (∀ (s : State), s.rly.pulse = none → exec .mainPulseEnd s = .next s) ∧
  (∀ (s : State) (o x : Bool) (cyc : List (List (Nat × Nat))), s.Inv → e2Up s = true → s.rly.verify = some x →
    o = flag F.RLY_STATUS_MAIN_CMD s → verdict o cyc s ≠ [] → (verdict o cyc s).all id = true →
    ∃ t, exec (.mainVerify cyc) s = .next t ∧ get F.RLY_STATUS_MAIN_STATE t = (if o then 2 else 1) ∧
      Raised (if o then F.RLY_CAUSE_MAIN_OPENED else F.RLY_CAUSE_MAIN_CLOSED) s t ∧
      t.rly = { s.rly with verify := none, tries := 0, lcFrom := if o then s.rly.lcFrom else rtc s } ∧
      t.pay = { s.pay with cur := { s.pay.cur with ops := (s.pay.cur.ops + 1) % 2 ^ 32 } } ∧
      get F.RLY_OPS_OPS t = (s.pay.cur.ops + 1) % 2 ^ 32 ∧
      OnlyFlds ([F.RLY_STATUS_MAIN_STATE, F.RLY_CAUSE_MAIN_OPENED, F.RLY_CAUSE_MAIN_CLOSED, F.INT_HOST_PEND_PEND] ++ creditShown)
        { s with rly := t.rly, pay := t.pay, cis := t.cis, lmd := { s.lmd with verifAt := some s.sup.mono } } t) ∧
  (∀ (s : State) (x : Bool) (cyc : List (List (Nat × Nat))), s.Inv → e2Up s = true → s.rly.verify = some x →
    verdict (flag F.RLY_STATUS_MAIN_CMD s) cyc s = [] →
    ∃ t, exec (.mainVerify cyc) s = .next t ∧ get F.RLY_STATUS_MAIN_STATE t = 0 ∧
      OnlyFlds (F.RLY_STATUS_MAIN_STATE :: creditShown) { s with cis := t.cis } t) ∧
  (∀ (s : State) (o x : Bool) (cyc : List (List (Nat × Nat))), s.Inv → e2Up s = true → s.rly.verify = some x →
    o = flag F.RLY_STATUS_MAIN_CMD s → verdict o cyc s ≠ [] → (verdict o cyc s).all id = false →
    s.rly.tries < get F.RLY_MAIN_CFG_RETRY s → ∃ t, exec (.mainVerify cyc) s = .next t ∧ get F.RLY_STATUS_MAIN_STATE t = 3 ∧
      t.rly = { s.rly with verify := none, retry := some o, retryFrom := s.sup.mono, tries := s.rly.tries + 1 } ∧
      t.pay = { s.pay with cur := { s.pay.cur with ops := (s.pay.cur.ops + 1) % 2 ^ 32 } } ∧
      OnlyFlds (F.RLY_STATUS_MAIN_STATE :: creditShown) { s with rly := t.rly, pay := t.pay, cis := t.cis } t) ∧
  (∀ (s : State) (o x : Bool) (cyc : List (List (Nat × Nat))), s.Inv → e2Up s = true → s.rly.verify = some x →
    o = flag F.RLY_STATUS_MAIN_CMD s → verdict o cyc s ≠ [] → (verdict o cyc s).all id = false →
    get F.RLY_MAIN_CFG_RETRY s ≤ s.rly.tries →
    ∃ u, exec (.mainVerify cyc) s = .next (showCredit (writeCredit 3 (occurrence 37 0 0 u))) ∧ get F.RLY_STATUS_MAIN_STATE u = 0 ∧
      Raised F.RLY_CAUSE_VERIFY_FAIL s u ∧ u.rly = { s.rly with verify := none, tries := 0 } ∧
      u.pay = { s.pay with cur := { s.pay.cur with ops := (s.pay.cur.ops + 1) % 2 ^ 32 } } ∧
      OnlyFlds [F.RLY_STATUS_MAIN_STATE, F.CIS_STATUS_DIRTY, F.RLY_CAUSE_VERIFY_FAIL, F.INT_HOST_PEND_PEND]
        { s with rly := u.rly, pay := u.pay, cis := u.cis } u) ∧
  (∀ (s : State) (cyc : List (List (Nat × Nat))), s.rly.verify = none ∨ e2Up s = false → exec (.mainVerify cyc) s = .next s) ∧
  (∀ (s : State) (o : Bool), s.rly.retry = some o → mainMayPulse s = true → s.rly.retryFrom + 1024 ≤ s.sup.mono →
    exec .mainRetry s = .next (abortSounding 3 { s with
        rly := { s.rly with want := none, retry := none, verify := none, pulse := some o, lastPulse := some s.sup.mono } })) ∧
  (∀ (s : State) (o : Bool), s.Inv → s.rly.retry = some o → mainMayPulse s = false ∨ s.sup.mono < s.rly.retryFrom + 1024 →
    ∃ t, exec .mainRetry s = .next t ∧ OnlyFlds [F.RLY_CAUSE_FREEZE_WAIT, F.INT_HOST_PEND_PEND] s t ∧
      (freezing s = true → domOn 5 s = true → Raised F.RLY_CAUSE_FREEZE_WAIT s t)) ∧
  (∀ (s : State), s.rly.retry = none → exec .mainRetry s = .next s) ∧
  (∀ (s : State) (cyc : List (List (Nat × Nat))) (ph : List (Nat × Nat)), s.Inv → e2Up s = true →
    get F.RLY_STATUS_MAIN_STATE s = 2 → producer 10 s = false → ph ∈ cyc → ph.length = 3 →
    ph.all (fun e => decide (5 * get F.RLY_MAIN_CFG_OPEN_PCT s * e.2 < e.1 * 100)) = true →
    ∃ u, exec (.loadv cyc) s = .next (tripProducer 10 0 0 u) ∧ Raised F.RLY_CAUSE_LOADV s u ∧
      OnlyFlds [F.RLY_CAUSE_LOADV, F.INT_HOST_PEND_PEND] s u) ∧
  (∀ (s : State) (cyc : List (List (Nat × Nat))), e2Up s = true → producer 10 s = true →
    get F.RLY_STATUS_MAIN_STATE s ≠ 2 ∨ cyc.all (fun ph => ph.all fun e => decide (e.1 * 100 ≤ 5 * get F.RLY_MAIN_CFG_OPEN_PCT s * e.2)) = true →
    exec (.loadv cyc) s = .next (releaseProducer 10 s)) ∧
  (∀ (s : State) (cyc : List (List Nat)) (ph : List Nat), s.Inv → e2Up s = true → get F.RLY_STATUS_MAIN_STATE s = 2 →
    producer 11 s = false → ph ∈ cyc → ph.length = 3 →
    ph.all (fun i => decide (20 * get F.RLY_MAIN_CFG_OPEN_I s < i)) = true →
    ∃ u, exec (.openI cyc) s = .next (tripProducer 11 0 0 u) ∧ Raised F.RLY_CAUSE_OPEN_I s u ∧
      OnlyFlds [F.RLY_CAUSE_OPEN_I, F.INT_HOST_PEND_PEND] s u) ∧
  (∀ (s : State) (cyc : List (List Nat)), e2Up s = true → producer 11 s = true →
    get F.RLY_STATUS_MAIN_STATE s ≠ 2 ∨ cyc.all (fun ph => ph.all fun i => decide (i ≤ 20 * get F.RLY_MAIN_CFG_OPEN_I s)) = true →
    exec (.openI cyc) s = .next (releaseProducer 11 s)) ∧
  (∀ (s : State) (a : List (List (Nat × Nat))) (b : List (List Nat)), e2Up s = false →
    exec (.loadv a) s = .next s ∧ exec (.openI b) s = .next s) ∧
  (∀ (s : State), freezing (refreshLines 0 s) = false → e2Up (refreshLines 0 s) = true →
    exec .freezeRelease s = .next (evalLc (refreshLines 0 s)) ∧
      (relaysOn (refreshLines 0 s) = true → driveHeld (refreshLines 0 s) = false → (refreshLines 0 s).rly.lcPulseWant = none →
        flag F.RLY_LC_CFG_LC_MODE (refreshLines 0 s) = false →
        lcWanted (refreshLines 0 s) ≠ flag F.RLY_STATUS_LC_STATE (refreshLines 0 s) →
        lcWait (lcWanted (refreshLines 0 s)) (refreshLines 0 s) = 0 →
        exec .freezeRelease s = .next (switchLc (lcWanted (refreshLines 0 s)) (refreshLines 0 s)))) ∧
  (∀ (s : State), freezing (refreshLines 0 s) = true ∨ e2Up (refreshLines 0 s) = false →
    exec .freezeRelease s = .next (refreshLines 0 s))

/-- Periodic stores and stores on command: what is queued, copied, refused, merged; and what the commit of a store stamps -/
def Obligations.CisternStores : Prop :=
  (∀ (s : State), s.Inv → cisReady s = true → periodOver s = true → popCount (get F.CIS_STATUS_COPYING s) 16 ≤ 4 →
    ∃ t, exec .periodicStoreTick s = .next t ∧ popCount (get F.CIS_STATUS_COPYING t) 16 ≤ 4 ∧
      (∀ b < 16, fbit F.CIS_STATUS_DIRTY b s = true → fbit F.CIS_STATUS_COPYING b t = true ∨ fbit F.CIS_QUEUE_WAITING b t = true) ∧
      (get F.CIS_QUEUE_WAITING s ≠ 0 → Raised F.CIS_CAUSE_STORE_MERGED s t) ∧
      OnlyFlds [F.CIS_STATUS_DIRTY, F.CIS_STATUS_COPYING, F.CIS_QUEUE_WAITING, F.CIS_CAUSE_STORE_MERGED, F.INT_HOST_PEND_PEND]
        { s with cis := { s.cis with planes := t.cis.planes, tickAt := s.cis.tickAt + 61440 * get F.CIS_CFG_PERIOD s } } t) ∧
  (∀ (s : State), cisReady s = false ∨ s.sup.mono < s.cis.tickAt + 61440 * get F.CIS_CFG_PERIOD s →
    exec .periodicStoreTick s = .next s) ∧
  (∀ (s : State) (m : Master) (w : Word) (b : Nat), s.Inv → Writable m R.CIS_CTL s → isHost m = false →
    arg F.CIS_CTL_KEY w = 0x3C → b < 16 → arg F.CIS_CTL_BANKS w = 2 ^ b → s.sup.mode = .running →
    flag F.PMU_VMON_VDD_OK s = true → fbit F.CIS_STATUS_DIRTY b s = true → get F.CIS_STATUS_COPYING s = 0 →
    get F.CIS_QUEUE_WAITING s = 0 →
    ∃ t, exec (.storeCommand m w) s = .next t ∧ get F.CIS_STATUS_COPYING t = 2 ^ b ∧ get F.CIS_QUEUE_WAITING t = 0 ∧
      fbit F.CIS_STATUS_DIRTY b t = false ∧
      t.cis.planes = upd s.cis.planes b (fun _ => updTarget (planesOf b s) fun _ =>
        { beg := some (storesOf (planesOf b s) + 1, rtc s), trl := none, data := bankData b s }) ∧
      OnlyFlds [F.CIS_STATUS_DIRTY, F.CIS_STATUS_COPYING, F.CIS_QUEUE_WAITING]
        { s with cis := { s.cis with planes := t.cis.planes } } t) ∧
  (∀ (s : State) (m : Master) (w : Word) (b : Nat), s.Inv → Writable m R.CIS_CTL s → isHost m = false →
    arg F.CIS_CTL_KEY w = 0x3C → b < 16 → arg F.CIS_CTL_BANKS w = 2 ^ b → fbit F.CIS_STATUS_COPYING b s = true →
    get F.CIS_QUEUE_WAITING s = 0 → ∃ t, exec (.storeCommand m w) s = .next t ∧ Raised F.CIS_CAUSE_STORE_REFUSED s t ∧
      OnlyFlds [F.CIS_CAUSE_STORE_REFUSED, F.INT_HOST_PEND_PEND] s t) ∧
  (∀ (s : State) (m : Master) (w : Word) (b : Nat), s.Inv → Writable m R.CIS_CTL s → isHost m = false →
    arg F.CIS_CTL_KEY w = 0x3C → b < 16 → arg F.CIS_CTL_BANKS w = 2 ^ b → s.sup.mode ≠ .frozen →
    flag F.PMU_VMON_VDD_OK s = true → fbit F.CIS_STATUS_COPYING b s = false → fbit F.CIS_QUEUE_WAITING b s = true →
    popCount (get F.CIS_STATUS_COPYING s) 16 = 4 →
    ∃ t, exec (.storeCommand m w) s = .next t ∧ Raised F.CIS_CAUSE_STORE_MERGED s t ∧
      OnlyFlds [F.CIS_CAUSE_STORE_MERGED, F.INT_HOST_PEND_PEND] s t) ∧
  (∀ (s : State) (m : Master) (w : Word) (b : Nat), s.Inv → Writable m R.CIS_CTL s → isHost m = false →
    arg F.CIS_CTL_KEY w = 0x3C → b < 16 → arg F.CIS_CTL_BANKS w = 2 ^ b → s.sup.mode ≠ .frozen →
    flag F.PMU_VMON_VDD_OK s = true → fbit F.CIS_STATUS_COPYING b s = false → fbit F.CIS_STATUS_DIRTY b s = false →
    get F.CIS_QUEUE_WAITING s = 0 → ∃ t, exec (.storeCommand m w) s = .next t ∧ Raised F.CIS_CAUSE_STORE_DONE s t ∧
      OnlyFlds [F.CIS_CAUSE_STORE_DONE, F.INT_HOST_PEND_PEND] s t) ∧
  (∀ (s : State) (m : Master) (w : Word), s.Inv → Writable m R.CIS_CTL s → isHost m = false → arg F.CIS_CTL_KEY w = 0x3C →
    s.sup.mode = .frozen ∨ flag F.PMU_VMON_VDD_OK s = false →
    ∃ t, exec (.storeCommand m w) s = .next t ∧ Raised F.CIS_CAUSE_STORE_REFUSED s t ∧
      OnlyFlds [F.CIS_CAUSE_STORE_REFUSED, F.INT_HOST_PEND_PEND] s t) ∧
  (∀ (s : State) (m : Master) (w : Word), Writable m R.CIS_CTL s → arg F.CIS_CTL_KEY w ≠ 0x3C →
    exec (.storeCommand m w) s = .next s) ∧
  (∀ (s : State) (m : Master) (w : Word) (b : Nat), Writable m R.CIS_CTL s → isHost m = true → arg F.CIS_CTL_KEY w = 0x3C →
    b < 14 → bit (arg F.CIS_CTL_BANKS w) b = true → exec (.storeCommand m w) s = .next (raise F.HIF_CAUSE_DENIED s)) ∧
  (∀ (s : State) (b : Nat), s.Inv → domOn 7 s = true → b < 16 → fbit F.CIS_STATUS_COPYING b s = true →
    get F.CIS_QUEUE_WAITING s = 0 → bit s.cis.again b = false → b ≠ 1 ∨ s.obj.actWait = false → s.cis.pfStore = false →
    ∃ t, exec (.storeCommit b) s = .next t ∧ fbit F.CIS_STATUS_COPYING b t = false ∧ Raised F.CIS_CAUSE_STORE_DONE s t ∧
      fbit F.CIS_STATUS_DIRTY b t = (bit s.cis.late b || fbit F.CIS_STATUS_DIRTY b s) ∧
      (∀ j < 16, j ≠ b → fbit F.CIS_STATUS_DIRTY j t = fbit F.CIS_STATUS_DIRTY j s ∧
        fbit F.CIS_STATUS_COPYING j t = fbit F.CIS_STATUS_COPYING j s) ∧
      get (F.CIS_STAMP_RTC b) t = rtc s ∧
      get (F.CIS_WEAR_STORES b) t = (storesOf (planesOf b s) + 1) % 2 ^ (F.CIS_WEAR_STORES b).width ∧
      (900000 < storesOf (planesOf b s) + 1 → Raised F.CIS_CAUSE_WEAR_WARN s t) ∧
      (b = 0 → domOn 5 s = true → get F.OBJ_READ_RESERVE_SINCE_STORE t = 0) ∧
      t.cis.planes = upd s.cis.planes b (fun _ => updTarget (planesOf b s) fun x =>
        { x with trl := some (storesOf (planesOf b s) + 1, run s, rtc s) }) ∧
      OnlyFlds [F.CIS_STATUS_COPYING, F.CIS_STATUS_DIRTY, F.CIS_STAMP_RTC b, F.CIS_WEAR_STORES b, F.CIS_CAUSE_WEAR_WARN,
          F.CIS_CAUSE_STORE_DONE, F.OBJ_READ_RESERVE_SINCE_STORE, F.INT_HOST_PEND_PEND]
        { s with cis := { s.cis with
            planes := t.cis.planes
            late := if bit s.cis.late b then noBit s.cis.late b else s.cis.late } } t) ∧
  (∀ (s : State) (b : Nat), domOn 7 s = false ∨ 16 ≤ b ∨ fbit F.CIS_STATUS_COPYING b s = false →
    exec (.storeCommit b) s = .next s)

/-- Passwords: the right one grants, a wrong one counts, all FF never grants; LOCK, a lapsed grant; and the report of a tie -/
def Obligations.CisternHostAccess : Prop :=
  (∀ (s : State) (m : Master) (w : Word), Writable m R.CIS_HOST_UNLOCK s → arg F.CIS_HOST_UNLOCK_GO w = 1 →
    isLasting 38 s = false → arg F.CIS_HOST_UNLOCK_KIND w = 0 ∨ 14 ≤ arg F.CIS_HOST_UNLOCK_BANK w →
    password (arg F.CIS_HOST_UNLOCK_BANK w) (arg F.CIS_HOST_UNLOCK_KIND w) s = presented s → presented s ≠ 2 ^ 64 - 1 →
    ∃ t, exec (.passwordUnlock m w) s = .next t ∧ t = { s with cis := { s.cis with grants := t.cis.grants } } ∧
      t.cis.grants = (s.cis.grants.filter fun g => !(g.1 == ifaceOf m && g.2.1 == arg F.CIS_HOST_UNLOCK_BANK w &&
          g.2.2.1 == arg F.CIS_HOST_UNLOCK_KIND w)) ++
        [(ifaceOf m, arg F.CIS_HOST_UNLOCK_BANK w, arg F.CIS_HOST_UNLOCK_KIND w, s.sup.mono)]) ∧
  (∀ (s : State) (m : Master) (w : Word), s.Inv → Writable m R.CIS_HOST_UNLOCK s → isHost m = true →
    arg F.CIS_HOST_UNLOCK_GO w = 1 → isLasting 38 s = false → staysBelow 38 s = true →
    arg F.CIS_HOST_UNLOCK_KIND w = 0 ∨ 14 ≤ arg F.CIS_HOST_UNLOCK_BANK w →
    password (arg F.CIS_HOST_UNLOCK_BANK w) (arg F.CIS_HOST_UNLOCK_KIND w) s ≠ presented s →
    ∃ t, exec (.passwordUnlock m w) s = .next t ∧ Raised F.CIS_CAUSE_PW_FAIL s t ∧
      t.cis.grants = (if arg F.CIS_HOST_UNLOCK_LOCK w = 1 then s.cis.grants.filter fun g => !(g.1 == ifaceOf m && g.2.1 == arg F.CIS_HOST_UNLOCK_BANK w &&
          g.2.2.1 == arg F.CIS_HOST_UNLOCK_KIND w) else s.cis.grants) ∧
      Raised F.HIF_CAUSE_DENIED s t ∧ Counted 38 s t ∧
      OnlyFlds (F.CIS_CAUSE_PW_FAIL :: F.HIF_CAUSE_DENIED :: countedFlds 38)
        { s with tamp := t.tamp, cis := t.cis, free := t.free } t) ∧
  (∀ (s : State) (m : Master) (w : Word), Writable m R.CIS_HOST_UNLOCK s → isHost m = true →
    arg F.CIS_HOST_UNLOCK_GO w = 1 → arg F.CIS_HOST_UNLOCK_LOCK w = 0 → isLasting 38 s = false →
    (arg F.CIS_HOST_UNLOCK_KIND w = 1 ∧ arg F.CIS_HOST_UNLOCK_BANK w < 14) ∨ (password (arg F.CIS_HOST_UNLOCK_BANK w) (arg F.CIS_HOST_UNLOCK_KIND w) s = 2 ^ 64 - 1 ∧ presented s = 2 ^ 64 - 1) →
    exec (.passwordUnlock m w) s = .next (raise F.HIF_CAUSE_DENIED s)) ∧
  (∀ (s : State) (m : Master) (w : Word), s.Inv → Writable m R.CIS_HOST_UNLOCK s → isHost m = true →
    arg F.CIS_HOST_UNLOCK_GO w = 1 → arg F.CIS_HOST_UNLOCK_LOCK w = 0 → isLasting 38 s = true →
    ∃ t, exec (.passwordUnlock m w) s = .next t ∧ Raised F.CIS_CAUSE_HOST_LOCKOUT s t ∧ Raised F.HIF_CAUSE_DENIED s t ∧
      OnlyFlds [F.CIS_CAUSE_HOST_LOCKOUT, F.HIF_CAUSE_DENIED, F.INT_HOST_PEND_PEND] s t) ∧
  (∀ (s : State) (m : Master) (w : Word), Writable m R.CIS_HOST_UNLOCK s → arg F.CIS_HOST_UNLOCK_GO w = 0 →
    arg F.CIS_HOST_UNLOCK_LOCK w = 0 → exec (.passwordUnlock m w) s = .next s ∧ exec (.passwordLock m w) s = .next s) ∧
  (∀ (s : State) (m : Master) (w : Word), Writable m R.CIS_HOST_UNLOCK s → arg F.CIS_HOST_UNLOCK_GO w = 0 →
    arg F.CIS_HOST_UNLOCK_LOCK w = 1 →
    ∃ t, exec (.passwordLock m w) s = .next t ∧ t = { s with cis := { s.cis with grants := t.cis.grants } } ∧
      t.cis.grants = s.cis.grants.filter fun g => !(g.1 == ifaceOf m && g.2.1 == arg F.CIS_HOST_UNLOCK_BANK w &&
          g.2.2.1 == arg F.CIS_HOST_UNLOCK_KIND w)) ∧
  (∀ (s : State), ∃ t, exec .grantLapse s = .next t ∧ t = { s with cis := { s.cis with grants := t.cis.grants } } ∧
      t.cis.grants = s.cis.grants.filter fun g => decide (s.sup.mono < g.2.2.2 + 307200)) ∧
  (∀ (s : State) (m : Master) (w : Word), s.Inv → Writable m R.CIS_REPORT s → arg F.CIS_REPORT_TIE w = 1 →
    staysBelow 24 s = true → ∃ t, exec (.tieReport m w) s = .next t ∧ Raised F.CIS_CAUSE_SEQ_TIE s t ∧
      get F.CIS_COUNT_TIES t = min 0xFFFF (get F.CIS_COUNT_TIES s + 1) ∧ Counted 24 s t ∧
      OnlyFlds (F.CIS_CAUSE_SEQ_TIE :: F.CIS_COUNT_TIES :: countedFlds 24)
        { s with tamp := t.tamp, cis := t.cis, free := t.free } t) ∧
  (∀ (s : State) (m : Master) (w : Word), Writable m R.CIS_REPORT s → arg F.CIS_REPORT_TIE w = 0 →
    exec (.tieReport m w) s = .next s)

/-- OPEN, PROOF and CLOSE: challenge, open session, failure, refusals; the proof that does not come and the idle session -/
def Obligations.Sessions : Prop :=
  (∀ (s : State) (i code cmd n : Nat) (data : List Byte) (r : ObjReq), s.Inv → i < 6 → nth none s.obj.req i = some r →
    nth .free s.hif.slots i = .busy cmd n none →
    (answerObject i code data s).obj = { s.obj with req := upd s.obj.req i (fun _ => none) } ∧
      (answerObject i code data s).hif = { s.hif with
        slots := upd s.hif.slots i (fun _ => .busy cmd n (some ⟨0, cmd, n, objectBytes i r code data s⟩))
        since := upd s.hif.since i (fun _ => s.sup.mono) } ∧
      fbit F.HIF_STATUS_SLOT i (answerObject i code data s) = true ∧
      OnlyFlds [F.HIF_STATUS_SLOT] { s with
        obj := (answerObject i code data s).obj
        hif := (answerObject i code data s).hif } (answerObject i code data s)) ∧
  (∀ (s : State) (i : Nat) (r : ObjReq) (k : WSlot), s.Inv → e2Up s = true → i < 7 → s.obj.sess.length = 7 →
    nth none s.obj.req i = some r → opOf r = 1 → inSess r = false → answering i s = false → guarded s = false →
    1 ≤ selOf r ∧ selOf r ≤ 5 → (dataOf r).length = 16 → isLasting (38 + selOf r) s = false → isLasting 45 s = false →
    (roleKey (selOf r) s).1 = .ok k →
    ∃ u ch, exec (.sessionOpen i) s = .next (answerObject i 0 ch u) ∧ ch.length = 16 ∧ sessState i u = 1 ∧
      get (F.OBJ_SESS_ROLE i) u = selOf r ∧ nth {} u.obj.sess i = { challenge := ch, nonce := dataOf r, last := s.sup.mono }) ∧
  (∀ (s : State) (i : Nat) (r : ObjReq), e2Up s = true → nth none s.obj.req i = some r → answering i s = false →
    opOf r = 1 → inSess r = false → guarded s = true ∨ selOf r = 0 ∨ 5 < selOf r ∨ (dataOf r).length ≠ 16 →
    exec (.sessionOpen i) s =
        .next (answerObject i (if guarded s then 4 else if selOf r = 0 ∨ 5 < selOf r then 1 else 6) [] s)) ∧
  (∀ (s : State) (i : Nat) (r : ObjReq), s.Inv → e2Up s = true → nth none s.obj.req i = some r → answering i s = false →
    opOf r = 1 → inSess r = false → guarded s = false → 1 ≤ selOf r ∧ selOf r ≤ 5 → (dataOf r).length = 16 →
    isLasting (38 + selOf r) s = true →
    ∃ u, exec (.sessionOpen i) s = .next (answerObject i 1 [] u) ∧ Raised F.OBJ_CAUSE_SESS_LOCKOUT s u ∧
      OnlyFlds [F.OBJ_CAUSE_SESS_LOCKOUT, F.INT_HOST_PEND_PEND] s u) ∧
  (∀ (s : State) (i : Nat) (r : ObjReq), e2Up s = true → nth none s.obj.req i = some r → answering i s = false →
    opOf r = 2 → inSess r = false → guarded s = true ∨ sessState i s ≠ 1 →
    exec (.sessionProof i) s = .next (answerObject i (if guarded s then 4 else 8) [] s)) ∧
  (∀ (s : State) (i : Nat) (r : ObjReq) (k : WSlot), s.Inv → i < 7 → e2Up s = true → nth none s.obj.req i = some r →
    answering i s = false → opOf r = 2 → inSess r = false → guarded s = false → sessState i s = 1 →
    (roleKey (get (F.OBJ_SESS_ROLE i) s) s).1 = .ok k →
    dataOf r ≠ Config.cmac k.key (proofInput i (get (F.OBJ_SESS_ROLE i) s) (sessOf i s)) ∨ (sessOf i s).last + 10240 ≤ s.sup.mono →
    ∃ u, exec (.sessionProof i) s = .next (occurrence (38 + get (F.OBJ_SESS_ROLE i) s) 0 i u) ∧ sessState i u = 0 ∧
      Raised F.OBJ_CAUSE_SESS_FAIL s u) ∧
  (∀ (s : State) (i : Nat) (r : ObjReq) (k : WSlot), s.Inv → e2Up s = true → i < 7 → s.obj.sess.length = 7 →
    nth none s.obj.req i = some r → opOf r = 2 → inSess r = false → answering i s = false → guarded s = false →
    sessState i s = 1 → (roleKey (get (F.OBJ_SESS_ROLE i) s) s).1 = .ok k →
    dataOf r = Config.cmac k.key (proofInput i (get (F.OBJ_SESS_ROLE i) s) (sessOf i s)) →
    s.sup.mono < (sessOf i s).last + 10240 →
    ∃ u, exec (.sessionProof i) s = .next (answerObject i 0 [] u) ∧ sessState i u = 2 ∧
      get (F.OBJ_SESS_ROLE i) u = get (F.OBJ_SESS_ROLE i) s ∧ fbit F.OBJ_STATUS_SESSIONS i u = true ∧
      (get (F.OBJ_SESS_ROLE i) s = 5 → get F.OBJ_STATUS_LEGAL_SESSION u = 1) ∧ Raised F.OBJ_CAUSE_SESS_OPEN s u ∧
      nth {} u.obj.sess i = {
        key := ofBe (Config.cmac k.key ([0x53, 0x45, 0x53, 0x53] ++ (sessOf i s).challenge ++ (sessOf i s).nonce))
        nextSeq := 1
        last := s.sup.mono }) ∧
  (∀ (s : State) (i : Nat), s.Inv → i < 7 → domOn 5 s = true → sessState i s = 1 → (sessOf i s).last + 10240 ≤ s.sup.mono →
    ∃ u, exec (.proofTimeout i) s = .next (occurrence (38 + get (F.OBJ_SESS_ROLE i) s) 0 i u) ∧ sessState i u = 0 ∧
      Raised F.OBJ_CAUSE_SESS_FAIL s u ∧
      OnlyFlds [⟨R.OBJ_SESS i, 0, 32⟩, F.OBJ_STATUS_SESSIONS, F.OBJ_STATUS_LEGAL_SESSION, F.OBJ_CAUSE_SESS_FAIL, F.INT_HOST_PEND_PEND]
        { s with obj := { s.obj with sess := upd s.obj.sess i fun _ => {} } } u) ∧
  (∀ (s : State) (i : Nat) (r : ObjReq), s.Inv → e2Up s = true → i < 7 → s.obj.sess.length = 7 →
    nth none s.obj.req i = some r → opOf r = 3 → inSess r = true → answering i s = false → guarded s = false →
    sessionOk i r s = true →
    ∃ t, exec (.sessionClose i) s = .next t ∧ sessState i t = 0 ∧ nth {} t.obj.sess i = {} ∧ nth none t.obj.req i = none ∧
      Raised F.OBJ_CAUSE_SESS_CLOSE s t) ∧
  (∀ (s : State) (i : Nat) (r : ObjReq), e2Up s = true → nth none s.obj.req i = some r → answering i s = false →
    opOf r = 3 → inSess r = false → exec (.sessionClose i) s = .next (answerObject i (if guarded s then 4 else 8) [] s)) ∧
  (∀ (s : State) (i : Nat), s.Inv → i < 7 → domOn 5 s = true → sessState i s = 2 →
    (sessOf i s).last + 1024 * get F.OBJ_SESS_CFG_IDLE s ≤ s.sup.mono →
    ∃ t, exec (.sessionIdleTimeout i) s = .next t ∧ sessState i t = 0 ∧ fbit F.OBJ_STATUS_SESSIONS i t = false ∧
      Raised F.OBJ_CAUSE_SESS_CLOSE s t ∧
      OnlyFlds [⟨R.OBJ_SESS i, 0, 32⟩, F.OBJ_STATUS_SESSIONS, F.OBJ_STATUS_LEGAL_SESSION, F.OBJ_CAUSE_SESS_CLOSE, F.INT_HOST_PEND_PEND]
        { s with obj := { s.obj with sess := upd s.obj.sess i fun _ => {} } } t) ∧
  (∀ (s : State) (i : Nat), 7 ≤ i ∨ domOn 5 s = false ∨ sessState i s = 0 →
    exec (.proofTimeout i) s = .next s ∧ exec (.sessionIdleTimeout i) s = .next s) ∧
  (∀ (s : State) (i : Nat) (r : ObjReq), e2Up s = true → nth none s.obj.req i = some r → answering i s = false →
    3 ≤ opOf r ∧ opOf r ≤ 6 → inSess r = true → sessionOk i r s = false →
    (opOf r = 3 → exec (.sessionClose i) s = .next (closeSession i (answerObject i 8 [] s))) ∧
      (opOf r = 4 → exec (.objGet i) s = .next (closeSession i (answerObject i 8 [] s))) ∧
      (opOf r = 5 → ∀ wd, exec (.objSet i wd) s = .next (closeSession i (answerObject i 8 [] s))) ∧
      (opOf r = 6 → ∀ wd, exec (.objAction i wd) s = .next (closeSession i (answerObject i 8 [] s)))) ∧
  (∀ (s : State) (i : Nat) (wd : World), nth none s.obj.req i = none ∨ e2Up s = false →
    exec (.sessionOpen i) s = .next s ∧ exec (.sessionProof i) s = .next s ∧ exec (.sessionClose i) s = .next s ∧
      exec (.objGet i) s = .next s ∧ exec (.objSet i wd) s = .next s ∧ exec (.objAction i wd) s = .next s)

/-- GET answers a tagged, untagged or signed reading, SET and ACTION run the method, DENIED and no object; SIGN_DONE; CAL_EN -/
def Obligations.ObjectRequests : Prop :=
  (∀ (s : State) (i n rd' wr' ex : Nat) (r : ObjReq) (k : WSlot), s.Inv → e2Up s = true → nth none s.obj.req i = some r →
    opOf r = 4 → inSess r = false → wantsSig r = false → selOf r = 1 → answering i s = false →
    objectFor (obisOf r) s = some (.bill n, rd', wr', ex) → bit rd' 0 = true →
    (loadNamed s.ld.tables.obj.readKey (2, 4) s).1 = .ok k → get F.OBJ_READ_RESERVE_SINCE_STORE s < 32767 →
    s.cis.b0.spread.length = 7 → counter 6 s < 2 ^ 62 →
    ∃ u, exec (.objGet i) s = .next (answerObject i 0 (readingHead 0x0001 (obisOf r) 1 (0, le 8 (nth 0 s.bil.cur.energy n)) u ++
        (Config.cmac k.key (readingHead 0x0001 (obisOf r) 1 (0, le 8 (nth 0 s.bil.cur.energy n)) u)).take 8) u) ∧
      counter 6 u = counter 6 s + 1 ∧ get F.OBJ_READ_RESERVE_SINCE_STORE u = get F.OBJ_READ_RESERVE_SINCE_STORE s + 1 ∧
      get F.OBJ_STATUS_NO_READ_KEY u = 0 ∧ u.bil = s.bil) ∧
  (∀ (s : State) (i n rd' wr' ex : Nat) (r : ObjReq), s.Inv → e2Up s = true → nth none s.obj.req i = some r → opOf r = 4 →
    inSess r = false → wantsSig r = false → selOf r = 1 → answering i s = false →
    objectFor (obisOf r) s = some (.bill n, rd', wr', ex) → bit rd' 0 = true → s.ld.tables.obj.readKey = none →
    ∃ u, exec (.objGet i) s = .next (answerObject i 0
        (readingHead 0x0081 (obisOf r) 1 (0, le 8 (nth 0 s.bil.cur.energy n)) s ++ zeros 8) u) ∧
      get F.OBJ_STATUS_NO_READ_KEY u = 1 ∧ OnlyFlds [F.OBJ_STATUS_NO_READ_KEY] s u) ∧
  (∀ (s : State) (i d : Nat) (r : ObjReq) (wd : World) (rd' wr' ex : Nat), s.Inv → e2Up s = true → i < 7 →
    s.obj.sess.length = 7 → nth none s.obj.req i = some r → opOf r = 5 → inSess r = true → sessionOk i r s = true →
    answering i s = false → objectFor (obisOf r) s = some (.device d, rd', wr', ex) →
    bit wr' (get (F.OBJ_SESS_ROLE i) s) = true →
    ∃ u, OnlyFlds [F.OBJ_SESS_IDLE_LEFT i] { s with obj := u.obj } u ∧ u.obj.req = s.obj.req ∧
      nth {} u.obj.sess i = { nth {} s.obj.sess i with nextSeq := ((nth {} s.obj.sess i).nextSeq + 1) % 2 ^ 32, last := s.sup.mono } ∧
      (Config.methodOf d (selOf r) (dataOf r) = none → exec (.objSet i wd) s = .next (answerObject i 6 [] u)) ∧
      (∀ x, Config.methodOf d (selOf r) (dataOf r) = some x → exec (.objSet i wd) s =
        .next (match (runMethod i d (dataOf r) x wd u).1 with
          | some n => answerObject i n [] (runMethod i d (dataOf r) x wd u).2
          | none => (runMethod i d (dataOf r) x wd u).2))) ∧
  (∀ (s : State) (i : Nat) (r : ObjReq) (wd : World) (rd' wr' ex : Nat), s.Inv → e2Up s = true → i < 7 →
    s.obj.sess.length = 7 → nth none s.obj.req i = some r → opOf r = 5 → inSess r = true → sessionOk i r s = true →
    answering i s = false → objectFor (obisOf r) s = some (.device 0, rd', wr', ex) →
    bit wr' (get (F.OBJ_SESS_ROLE i) s) = true →
    ∃ u, OnlyFlds [F.OBJ_SESS_IDLE_LEFT i] { s with obj := u.obj } u ∧ u.obj.req = s.obj.req ∧
      (∀ z, Config.methodOf 0 (selOf r) (dataOf r) = some (.clock z) → BitVec.ofInt 32 z ≠ 0#32 → exec (.objSet i wd) s =
        .next (answerObject i 0 [] { u with bil := { u.bil with adj := some (signed 32 (BitVec.ofInt 32 z).toNat, 1, 0) } })) ∧
      (Config.methodOf 0 (selOf r) (dataOf r) = some (.clock 0) →
        exec (.objSet i wd) s = .next (answerObject i 0 [] (put F.SUP_RTC_STATUS_VALID 1 u)))) ∧
  (∀ (s : State) (i rd' wr' ex : Nat) (r : ObjReq) (k : WSlot) (e : Nat × Snapshot), s.Inv → e2Up s = true →
    nth none s.obj.req i = some r → opOf r = 4 → inSess r = false → wantsSig r = true → selOf r = 1 →
    answering i s = false → objectFor (obisOf r) s = some (.device 13, rd', wr', ex) → bit rd' 0 = true →
    s.cis.b3.snaps.find? (fun x => x.2.num == (if (dataOf r).isEmpty then counter 0 s % 2 ^ 32 else field (dataOf r) 0 4)) = some e →
    s.obj.signing = none → (loadNamed s.ld.tables.obj.signKey (2, 0x10) s).1 = .ok k →
    get F.OBJ_READ_RESERVE_SINCE_STORE s < 32767 → s.cis.b0.spread.length = 7 → counter 6 s < 2 ^ 62 →
    ∃ t, exec (.objGet i) s = .next t ∧ t.obj.signing = some (i, readingHead 0x0002 (obisOf r) 1 (5, snapBytes e.2) t, k.key) ∧
      counter 6 t = counter 6 s + 1 ∧ get F.OBJ_READ_RESERVE_SINCE_STORE t = get F.OBJ_READ_RESERVE_SINCE_STORE s + 1 ∧
      t.obj.req = s.obj.req) ∧
  (∀ (s : State) (i : Nat) (r : ObjReq) (wd : World), e2Up s = true → nth none s.obj.req i = some r →
    4 ≤ opOf r ∧ opOf r ≤ 6 → inSess r = false → answering i s = false → objectFor (obisOf r) s = none →
    (opOf r = 4 → exec (.objGet i) s = .next (answerObject i 2 [] s)) ∧
      (opOf r = 5 → exec (.objSet i wd) s = .next (answerObject i 2 [] s)) ∧
      (opOf r = 6 → exec (.objAction i wd) s = .next (answerObject i 2 [] s))) ∧
  (∀ (s : State) (i : Nat) (r : ObjReq) (b : Binding) (rd' wr' ex : Nat), s.Inv → e2Up s = true →
    nth none s.obj.req i = some r → opOf r = 4 → inSess r = false → answering i s = false →
    objectFor (obisOf r) s = some (b, rd', wr', ex) → bit rd' 0 = false →
    ∃ u, exec (.objGet i) s = .next (answerObject i 1 [] u) ∧ Raised F.OBJ_CAUSE_DENIED s u ∧
      OnlyFlds [F.OBJ_CAUSE_DENIED, F.INT_HOST_PEND_PEND] s u) ∧
  (∀ (s : State) (i : Nat) (r : ObjReq) (wd : World) (b : Binding) (rd' wr' ex : Nat), s.Inv → e2Up s = true →
    nth none s.obj.req i = some r → opOf r = 5 → inSess r = false → answering i s = false →
    objectFor (obisOf r) s = some (b, rd', wr', ex) → bit wr' 0 = false →
    ∃ u, exec (.objSet i wd) s = .next (answerObject i 1 [] u) ∧ Raised F.OBJ_CAUSE_DENIED s u ∧
      OnlyFlds [F.OBJ_CAUSE_DENIED, F.INT_HOST_PEND_PEND] s u) ∧
  (∀ (s : State) (i d : Nat) (r : ObjReq) (wd : World) (rd' wr' ex : Nat), s.Inv → e2Up s = true → i < 7 →
    s.obj.sess.length = 7 → nth none s.obj.req i = some r → opOf r = 6 → inSess r = true → sessionOk i r s = true →
    answering i s = false → objectFor (obisOf r) s = some (.device d, rd', wr', ex) →
    bit ex (get (F.OBJ_SESS_ROLE i) s) = true →
    ∃ u, OnlyFlds [F.OBJ_SESS_IDLE_LEFT i] { s with obj := u.obj } u ∧ u.obj.req = s.obj.req ∧
      nth {} u.obj.sess i = { nth {} s.obj.sess i with nextSeq := ((nth {} s.obj.sess i).nextSeq + 1) % 2 ^ 32, last := s.sup.mono } ∧
      (Config.methodOf d (selOf r) (dataOf r) = none → exec (.objAction i wd) s = .next (answerObject i 6 [] u)) ∧
      (∀ x, Config.methodOf d (selOf r) (dataOf r) = some x → exec (.objAction i wd) s =
        .next (match (runMethod i d (dataOf r) x wd u).1 with
          | some n => answerObject i n [] (runMethod i d (dataOf r) x wd u).2
          | none => (runMethod i d (dataOf r) x wd u).2))) ∧
  (∀ (s : State) (i : Nat) (r : ObjReq) (wd : World) (rd' wr' ex : Nat), s.Inv → e2Up s = true → i < 7 →
    s.obj.sess.length = 7 → nth none s.obj.req i = some r → opOf r = 6 → inSess r = true → sessionOk i r s = true →
    answering i s = false → objectFor (obisOf r) s = some (.device 8, rd', wr', ex) →
    bit ex (get (F.OBJ_SESS_ROLE i) s) = true → ∃ t, exec (.objAction i wd) s = .next t ∧
      ∀ b rp wp, Config.methodOf 8 (selOf r) (dataOf r) = some (.passwords b rp wp) → b < 16 → rp < 2 ^ 64 → wp < 2 ^ 64 →
        t.cis.grants = s.cis.grants.filter (fun g => g.2.1 != b) ∧
        ∃ l, t.cis.b1.pw = writeCopy s.cis.b1.pw l ∧ (16 ≤ l.length ∧ nth (0, 0) l b = (rp, wp))) ∧
  (∀ (s : State) (i key : Nat) (bs : List Byte), s.Inv → e2Up s = true → s.obj.signing = some (i, bs, key) →
    ∃ u, exec .signDone s = .next (answerObject i 0 (bs ++ be 64 (Config.ecdsaSign key (Config.sha256 bs))) u) ∧
      (be 64 (Config.ecdsaSign key (Config.sha256 bs))).length = 64 ∧ u.obj = { s.obj with signing := none } ∧
      Raised F.OBJ_CAUSE_SIGN_DONE s u) ∧
  (∀ (s : State), s.obj.signing = none ∨ e2Up s = false → exec .signDone s = .next s) ∧
  (∀ (s : State), s.Inv → e2Up s = true → flag F.OBJ_STATUS_CAL_EN s = false →
    ∃ t, exec .calEnRise s = .next t ∧ get F.OBJ_STATUS_CAL_EN t = 1 ∧ Raised F.OBJ_CAUSE_SEAL_OPEN s t ∧
      (fbit F.CIS_STATUS_COPYING 2 s = false → fbit F.CIS_STATUS_DIRTY 2 t = true) ∧
      OnlyFlds [F.OBJ_STATUS_CAL_EN, F.OBJ_CAUSE_SEAL_OPEN, F.INT_HOST_PEND_PEND, F.CIS_STATUS_DIRTY] { s with cis := t.cis } t) ∧
  (∀ (s : State), e2Up s = false ∨ flag F.OBJ_STATUS_CAL_EN s = true → exec .calEnRise s = .next s) ∧
  (∀ (s : State), e2Up s = false ∨ flag F.OBJ_STATUS_CAL_EN s = false → exec .calEnFall s = .next s) ∧
  (∀ (s : State), s.Inv → e2Up s = true → flag F.OBJ_STATUS_CAL_EN s = true →
    ∃ t, exec .calEnFall s = .next t ∧ get F.OBJ_STATUS_CAL_EN t = 0 ∧ Raised F.OBJ_CAUSE_SEAL_CLOSE s t ∧
      ∀ i, i < 7 → ¬ (sessState i t = 2 ∧ get (F.OBJ_SESS_ROLE i) t = 5))

/-- UPD_CTL by its command: begin, verify, activate, abort, legal copy, or refusal; erase and verification done, switch, confirmation -/
def Obligations.Updates : Prop :=
  (∀ (s : State) (m : Master) (w : Word), s.Inv → Writable m R.UPD_CTL s → arg F.UPD_CTL_KEY w = 0x69 →
    arg F.UPD_CTL_CMD w = 1 → arg F.UPD_CTL_REGION w ≤ 1 → arg F.UPD_CTL_REGION w ≠ get F.UPD_STATUS_ACTIVE s →
    updState s = 0 → s.ld.reread = 0 →
    ∃ t, exec (.updBegin m w) s = .next t ∧ get F.UPD_STATUS_STATE t = 1 ∧ get F.UPD_STATUS_REGION t = arg F.UPD_CTL_REGION w ∧
      get F.UPD_LEN_BYTES t = 0 ∧ slotBytesOf (arg F.UPD_CTL_REGION w) t = [] ∧
      slotBytesOf (1 - arg F.UPD_CTL_REGION w) t = slotBytesOf (1 - arg F.UPD_CTL_REGION w) s ∧ t.obj.updLegal = false ∧
      t.cis.b1.upd = writeCopy s.cis.b1.upd (setUpdSlot (arg F.UPD_CTL_REGION w) 0 0 (updRec s)) ∧
      t.well = s.well ∧ t.pay = s.pay ∧ t.mem = s.mem ∧ t.tamp = s.tamp) ∧
  (∀ (s : State) (m : Master) (w : Word), s.Inv → Writable m R.UPD_CTL s → arg F.UPD_CTL_KEY w = 0x69 →
    arg F.UPD_CTL_CMD w = 1 → arg F.UPD_CTL_REGION w ≤ 2 →
    updState s ≠ 0 ∨ arg F.UPD_CTL_REGION w = get F.UPD_STATUS_ACTIVE s ∨ s.ld.reread ≠ 0 ∨ (arg F.UPD_CTL_REGION w = 2 ∧ legalOk s = false) →
    ∃ t, exec (.updBegin m w) s = .next t ∧ Raised F.UPD_CAUSE_BUSY s t ∧ OnlyFlds [F.UPD_CAUSE_BUSY, F.INT_HOST_PEND_PEND] s t) ∧
  (∀ (s : State) (m : Master) (w : Word), s.Inv → Writable m R.UPD_CTL s → arg F.UPD_CTL_KEY w = 0x69 →
    arg F.UPD_CTL_CMD w = 1 → arg F.UPD_CTL_REGION w = 2 → get F.UPD_STATUS_ACTIVE s ≤ 1 → updState s = 0 →
    s.ld.reread = 0 → legalOk s = true → ∃ t, exec (.updBegin m w) s = .next t ∧ get F.UPD_STATUS_STATE t = 1 ∧
      get F.UPD_STATUS_REGION t = 1 - get F.UPD_STATUS_ACTIVE s ∧ get F.UPD_LEN_BYTES t = 0 ∧
      slotBytesOf (1 - get F.UPD_STATUS_ACTIVE s) t = [] ∧ t.obj.updLegal = true) ∧
  (∀ (s : State), s.Inv → updState s = 1 → domOn 5 s = true →
    ∃ t, exec .eraseDone s = .next t ∧ get F.UPD_STATUS_STATE t = 2 ∧ OnlyFlds [F.UPD_STATUS_STATE] s t) ∧
  (∀ (s : State) (m : Master) (w : Word), s.Inv → Writable m R.UPD_CTL s → arg F.UPD_CTL_KEY w = 0x69 →
    arg F.UPD_CTL_CMD w = 2 → updState s = 2 →
    ∃ t, exec (.updVerify m w) s = .next t ∧ get F.UPD_STATUS_STATE t = 3 ∧ OnlyFlds [F.UPD_STATUS_STATE] s t) ∧
  (∀ (s : State) (m : Master) (w : Word) (i : Instr), s.Inv → Writable m R.UPD_CTL s →
    i = .updBegin m w ∨ i = .updVerify m w ∨ i = .updActivate m w ∨ i = .updAbort m w ∨ i = .copyLegal m w none →
    arg F.UPD_CTL_KEY w ≠ 0x69 →
    ∃ t, exec i s = .next t ∧ Raised F.UPD_CAUSE_CMD_REFUSED s t ∧ OnlyFlds [F.UPD_CAUSE_CMD_REFUSED, F.INT_HOST_PEND_PEND] s t) ∧
  (∀ (s : State) (m : Master) (w : Word), s.Inv → Writable m R.UPD_CTL s → arg F.UPD_CTL_KEY w = 0x69 →
    (arg F.UPD_CTL_CMD w = 1 ∧ arg F.UPD_CTL_REGION w = 3) ∨ (arg F.UPD_CTL_CMD w = 2 ∧ updState s ≠ 2) ∨ (arg F.UPD_CTL_CMD w = 3 ∧ (updState s ≠ 4 ∨ s.obj.updLegal = true)) ∨ (arg F.UPD_CTL_CMD w = 4 ∧ (updState s = 0 ∨ 4 < updState s ∨ s.obj.actWait = true)) →
    ∃ t, exec (.updBegin m w) s = .next t ∧ exec (.updVerify m w) s = .next t ∧ exec (.updActivate m w) s = .next t ∧
      exec (.updAbort m w) s = .next t ∧ Raised F.UPD_CAUSE_CMD_REFUSED s t ∧
      OnlyFlds [F.UPD_CAUSE_CMD_REFUSED, F.INT_HOST_PEND_PEND] s t) ∧
  (∀ (s : State) (key : Nat), s.Inv → updState s = 3 → domOn 5 s = true →
    packageHead s.obj.updLegal (slotBytesOf (updRegion s) s) = true → hsigOk (slotBytesOf (updRegion s) s) = true →
    (verifierKey s).1 = some key → sigOk key (slotBytesOf (updRegion s) s) = true →
    (updRec (verifierKey s).2).floor ≤ field (slotBytesOf (updRegion s) s) 8 4 →
    ∃ t, exec .verifyDone s = .next t ∧ get F.UPD_STATUS_STATE t = 4 ∧ Raised F.UPD_CAUSE_VERIFY_OK s t ∧
      t.cis.b1.upd = writeCopy s.cis.b1.upd (setUpdSlot (updRegion s) 1 (field (slotBytesOf (updRegion s) s) 8 4) (updRec s)) ∧
      t.obj = s.obj) ∧
  (∀ (s : State), s.Inv → updState s = 3 → domOn 5 s = true →
    packageHead s.obj.updLegal (slotBytesOf (updRegion s) s) = false ∨ hsigOk (slotBytesOf (updRegion s) s) = false →
    ∃ t, exec .verifyDone s = .next t ∧ get F.UPD_STATUS_STATE t = 0 ∧ Raised F.UPD_CAUSE_VERIFY_FAIL s t ∧
      t.cis.b1.upd = writeCopy s.cis.b1.upd (setUpdSlot (updRegion s) 3 (field (slotBytesOf (updRegion s) s) 8 4) (updRec s)) ∧
      t.obj = s.obj ∧ t.well = s.well) ∧
  (∀ (s : State) (key : Nat), s.Inv → updState s = 3 → domOn 5 s = true →
    packageHead s.obj.updLegal (slotBytesOf (updRegion s) s) = true → hsigOk (slotBytesOf (updRegion s) s) = true →
    (verifierKey s).1 = some key →
    sigOk key (slotBytesOf (updRegion s) s) = false ∨ field (slotBytesOf (updRegion s) s) 8 4 < (updRec (verifierKey s).2).floor →
    ∃ t, exec .verifyDone s = .next t ∧ get F.UPD_STATUS_STATE t = 0 ∧
      (sigOk key (slotBytesOf (updRegion s) s) = false → Raised F.UPD_CAUSE_VERIFY_FAIL s t) ∧
      (sigOk key (slotBytesOf (updRegion s) s) = true → Raised F.UPD_CAUSE_ROLLBACK s t) ∧
      t.cis.b1.upd = writeCopy s.cis.b1.upd (setUpdSlot (updRegion s) 3 (field (slotBytesOf (updRegion s) s) 8 4) (updRec s)) ∧
      t.obj = s.obj) ∧
  (∀ (s : State), domOn 5 s = false →
    exec .eraseDone s = .next s ∧ exec .verifyDone s = .next s ∧ exec .slotSwitch s = .next s ∧ exec .trialConfirm s = .next s) ∧
  (∀ (s : State), updState s ≠ 1 ∧ updState s ≠ 3 → exec .eraseDone s = .next s ∧ exec .verifyDone s = .next s) ∧
  (∀ (s : State) (m : Master) (w : Word), Writable m R.UPD_CTL s → arg F.UPD_CTL_KEY w = 0x69 → arg F.UPD_CTL_CMD w = 3 →
    updState s = 4 → s.obj.updLegal = false →
    ∃ u, exec (.updActivate m w) s = .next (storeBanks 2 u) ∧ u.obj = { s.obj with actWait := true } ∧
      u.cis.b1.upd = writeCopy s.cis.b1.upd { updRec s with pend := updRegion s }) ∧
  (∀ (s : State) (x : Nat), updState s = 5 → s.obj.actAt = some x → x + 102 ≤ s.sup.mono → domOn 5 s = true →
    (updRec s).pend ≤ 1 → ∃ u, exec .slotSwitch s = .next (raise F.UPD_CAUSE_ACTIVATED (restartD5 u)) ∧ u.obj = s.obj ∧
      u.cis.b1.upd = writeCopy s.cis.b1.upd { setUpdSlot (updRec s).pend 2
          (if (updRec s).pend = 0 then (updRec s).verA else (updRec s).verB) (updRec s) with
        active := (updRec s).pend, pend := 2, inTrial := true, trialUsed := 0 }) ∧
  (∀ (s : State), (updState s ≠ 5 ∨ ∀ x, s.obj.actAt = some x → s.sup.mono < x + 102) → exec .slotSwitch s = .next s) ∧
  (∀ (s : State), e2Up s = false ∨ (updRec s).inTrial = false ∨ (updRec s).trialUsed < 600 → exec .trialConfirm s = .next s) ∧
  (∀ (s : State), s.Inv → e2Up s = true → (updRec s).inTrial = true → 600 ≤ (updRec s).trialUsed →
    ∃ t, exec .trialConfirm s = .next t ∧ get F.UPD_STATUS_STATE t = 0 ∧ Raised F.UPD_CAUSE_CONFIRMED s t ∧
      t.cis.b1.upd = writeCopy s.cis.b1.upd { updRec s with
        inTrial := false, trialUsed := 0
        floor := max (updRec s).floor (if (updRec s).active = 0 then (updRec s).verA else (updRec s).verB) } ∧
      t.obj = s.obj ∧ t.well = s.well ∧ t.pay = s.pay) ∧
  (∀ (s : State) (m : Master) (w : Word), s.Inv → Writable m R.UPD_CTL s → arg F.UPD_CTL_KEY w = 0x69 →
    arg F.UPD_CTL_CMD w = 4 → 1 ≤ updState s ∧ updState s ≤ 4 → s.obj.actWait = false →
    ∃ t, exec (.updAbort m w) s = .next t ∧ get F.UPD_STATUS_STATE t = 0 ∧ get F.UPD_LEN_BYTES t = 0 ∧
      Raised F.UPD_CAUSE_ABORTED s t ∧ slotBytesOf (updRegion s) t = [] ∧
      t.cis.b1.upd = writeCopy s.cis.b1.upd (setUpdSlot (updRegion s) 0 0 (updRec s))) ∧
  (∀ (s : State) (m : Master) (w : Word) (img : Image), s.Inv → Writable m R.UPD_CTL s → arg F.UPD_CTL_KEY w = 0x69 →
    arg F.UPD_CTL_CMD w = 5 → updState s = 4 → s.obj.updLegal = true → legalOk s = true → legalFits 0 s = true →
    legalImageOk (some img) (packageBody (slotBytesOf (updRegion s) s)) (packageLegalId (slotBytesOf (updRegion s) s)) s = true →
    ∃ t, exec (.copyLegal m w (some img)) s = .next t ∧ get F.UPD_STATUS_STATE t = 7 ∧ get F.UPD_STATUS_REGION t = 2 ∧
      t.cis.b1.upd = writeCopy s.cis.b1.upd { updRec s with copyMark := true } ∧ t.obj = s.obj ∧ t.ld = s.ld ∧ t.well = s.well) ∧
  (∀ (s : State) (m : Master) (w : Word) (img : Option Image), s.Inv → Writable m R.UPD_CTL s →
    arg F.UPD_CTL_KEY w = 0x69 → arg F.UPD_CTL_CMD w = 5 → updState s ≠ 4 ∨ s.obj.updLegal = false ∨ legalOk s = false →
    ∃ t, exec (.copyLegal m w img) s = .next t ∧ Raised F.UPD_CAUSE_CMD_REFUSED s t ∧
      OnlyFlds [F.UPD_CAUSE_CMD_REFUSED, F.INT_HOST_PEND_PEND] s t)

/-- KEY_UPDATE is taken or answered, its operation writes record and key store, KEY_UPDATE_COMMIT brings them into force -/
def Obligations.KeyAuthority : Prop :=
  (∀ (s : State) (m : List Byte), s.Inv → e8Up s = true → s.well.ku = none → kuCheck m s = 0 →
    (field m 4 1 ≤ 2 → exec (.keyUpdate m .nobody) s = .next { s with
        well := { s.well with ku := some { op := field m 4 1, msg := m, key := (kuKey m s).getD 0 } } }) ∧
      (field m 4 1 = 3 → exec (.keyUpdate m .nobody) s = .next { s with
        free := s.free + 1
        well := { s.well with
          requests := s.well.requests + 1
          ku := some { op := 3, msg := m, key := genKey (field m 0x24 1) (Config.freeNat s.free) } } }) ∧
      (4 ≤ field m 4 1 → ∃ k, exec (.keyUpdate m .nobody) s = .next { s with
        well := { s.well with ku := some { op := field m 4 1, msg := m, key := k } } })) ∧
  (∀ (s : State) (m : List Byte) (reply : Reply), s.Inv → e8Up s = true → s.well.ku = none → kuCheck m s ≠ 0 →
    ∃ u, exec (.keyUpdate m reply) s = .next (answerReply reply (if kuCheck m s = 9 then 9 else 0)
        (if kuCheck m s = 9 then [] else le 1 (kuCheck m s)) u) ∧
      get F.WEL_KU_RES_CODE u = kuCheck m s % 2 ^ F.WEL_KU_RES_CODE.width ∧
      get F.WEL_KU_RES_SEQ u = (get F.WEL_KU_RES_SEQ s + 1) % 2 ^ F.WEL_KU_RES_SEQ.width ∧ Raised F.WEL_CAUSE_KU_REJECT s u ∧
      OnlyFlds [F.WEL_KU_RES_CODE, F.WEL_KU_RES_OP, F.WEL_KU_RES_PARENT, F.WEL_KU_RES_CHILD, F.WEL_KU_RES_SEQ,
          F.WEL_CAUSE_KU_REJECT, F.INT_HOST_PEND_PEND] (takeReply reply s) u) ∧
  (∀ (s : State) (m : List Byte) (reply : Reply), s.Inv → e8Up s = true → s.well.ku.isSome = true →
    ∃ u, exec (.keyUpdate m reply) s = .next (answerReply reply 0 (le 1 10) u) ∧ get F.WEL_KU_RES_CODE u = 10 ∧
      OnlyFlds [F.WEL_KU_RES_CODE] (takeReply reply s) u) ∧
  (∀ (s : State) (m : List Byte) (reply : Reply), e8Up s = false →
    exec (.keyUpdate m reply) s = .next (answerReply reply 5 [] (takeReply reply s))) ∧
  (∀ (s : State), s.well.ku = none →
    exec .keyInstall s = .next s ∧ exec .keyStage s = .next s ∧ exec .keyGenerate s = .next s ∧ exec .destroyParent s = .next s ∧
      exec .revokeChild s = .next s ∧ exec .reseat s = .next s ∧ exec .keyUpdateCommit s = .next s) ∧
  (∀ (s : State) (j : KeyJob), kuReady 1 s = some j → ∃ u e, exec .keyInstall s = .next (deviceStore 1 u) ∧
      u.cis.b1.keys = (s.cis.b1.keys.filter fun x => !(x.blob.parent == field j.msg 6 1 && x.blob.child == field j.msg 7 1)) ++ [e] ∧
      e.blob.parent = field j.msg 6 1 ∧ e.blob.child = field j.msg 7 1 ∧ e.blob.gen = genOf (field j.msg 6 1) s ∧ e.blob.origin = 1 ∧
      Config.gcmOpen (parentOf (field j.msg 6 1) s).1 e.blob.nonce (blobAad e.blob) e.blob.key e.blob.tag = some (j.key % 2 ^ 256) ∧
      u.cis.b1.well = writeCopy s.cis.b1.well { wellRec s with counter := field j.msg 0x18 8 } ∧
      u.well.ku = some { j with written := some { wellRec s with counter := field j.msg 0x18 8 }, old := s.cis.b1.keys, oldWell := s.cis.b1.well }) ∧
  (∀ (s : State) (j : KeyJob), kuReady 2 s = some j → ∃ u e, exec .keyStage s = .next (deviceStore 1 u) ∧
      u.cis.b1.keys = (s.cis.b1.keys.filter fun x => !(x.blob.parent == field j.msg 6 1 && x.blob.child == field j.msg 7 1)) ++ [e] ∧
      e.blob.parent = field j.msg 6 1 ∧ e.blob.child = field j.msg 7 1 ∧ e.blob.origin = 1 ∧
      Config.gcmOpen (parentOf (field j.msg 6 1) s).1 e.blob.nonce (blobAad e.blob) e.blob.key e.blob.tag = some (j.key % 2 ^ 256) ∧
      u.cis.b1.well = writeCopy s.cis.b1.well { wellRec s with
        counter := field j.msg 0x18 8, staged := some (field j.msg 6 1, field j.msg 7 1) } ∧
      u.well.ku = some { j with
        written := some { wellRec s with counter := field j.msg 0x18 8, staged := some (field j.msg 6 1, field j.msg 7 1) }
        old := s.cis.b1.keys
        oldWell := s.cis.b1.well }) ∧
  (∀ (s : State) (j : KeyJob), kuReady 3 s = some j → ∃ u e, exec .keyGenerate s = .next (deviceStore 1 u) ∧
      u.cis.b1.keys = (s.cis.b1.keys.filter fun x => !(x.blob.parent == field j.msg 6 1 && x.blob.child == field j.msg 7 1)) ++ [e] ∧
      e.blob.parent = field j.msg 6 1 ∧ e.blob.child = field j.msg 7 1 ∧ e.blob.origin = 0 ∧
      Config.gcmOpen (parentOf (field j.msg 6 1) s).1 e.blob.nonce (blobAad e.blob) e.blob.key e.blob.tag = some (j.key % 2 ^ 256) ∧
      u.cis.b1.well = writeCopy s.cis.b1.well { wellRec s with counter := field j.msg 0x18 8 }) ∧
  (∀ (s : State) (j : KeyJob), s.Inv → kuReady 4 s = some j →
    ∃ u r, exec .destroyParent s = .next (deviceStore 1 u) ∧ u.well = { s.well with
        ku := some { j with written := some r, old := s.cis.b1.keys, oldWell := s.cis.b1.well } } ∧
      r = { wellRec s with
        counter := field j.msg 0x18 8
        gens := upd (wellRec s).gens (field j.msg 6 1) (· + 1)
        revoked := upd (wellRec s).revoked (field j.msg 6 1) (fun _ => 0) } ∧
      u.cis.b1.well = writeCopy s.cis.b1.well r ∧
      u.cis.b1.keys = s.cis.b1.keys.filter (fun e => e.blob.parent != field j.msg 6 1) ∧
      (fbit F.CIS_STATUS_COPYING 1 s = false → fbit F.CIS_STATUS_DIRTY 1 u = true) ∧ OnlyFlds [F.CIS_STATUS_DIRTY] { s with well := u.well, cis := u.cis } u) ∧
  (∀ (s : State) (j : KeyJob), kuReady 5 s = some j →
    ∃ u r, exec .revokeChild s = .next (deviceStore 1 u) ∧ u.well.ku = some { j with written := some r, old := s.cis.b1.keys, oldWell := s.cis.b1.well } ∧
      r = { wellRec s with
        counter := field j.msg 0x18 8
        revoked := upd (wellRec s).revoked (field j.msg 6 1) (fun n => withBit n (field j.msg 7 1)) } ∧
      u.cis.b1.well = writeCopy s.cis.b1.well r ∧
      u.cis.b1.keys = s.cis.b1.keys.filter (fun e => !(e.blob.parent == field j.msg 6 1 && e.blob.child == field j.msg 7 1))) ∧
  (∀ (s : State) (j : KeyJob), kuReady 6 s = some j →
    ∃ u r, exec .reseat s = .next (deviceStore 1 u) ∧ u.well.ku = some { j with written := some r, old := s.cis.b1.keys, oldWell := s.cis.b1.well } ∧
      r = { counter := field j.msg 0x18 8, gens := (List.range 16).map fun p => field j.msg (0x30 + 4 * p) 4 } ∧
      u.cis.b1.well = writeCopy s.cis.b1.well r ∧ u.cis.b1.keys = s.cis.b1.keys) ∧
  (∀ (s : State) (j : KeyJob) (r : WellRec), s.Inv → s.well.ku = some j → j.written = some r → j.op ≠ 0 →
    j.reply = .nobody → fbit F.CIS_STATUS_DIRTY 1 s = false → fbit F.CIS_STATUS_COPYING 1 s = false →
    fbit F.CIS_QUEUE_WAITING 1 s = false →
    ∃ t, exec .keyUpdateCommit s = .next t ∧ t.well.d0 = some r ∧ t.well.ku = none ∧ t.well.wellInit = true ∧
      t.well.slots = s.well.slots.filter (fun w => !(kuClears j (wellRec s) w) || (heldSlot s w && [0, 4, 5].contains j.op)) ∧
      get F.WEL_KU_RES_CODE t = 0 ∧ Raised F.WEL_CAUSE_KU_DONE s t ∧ (j.op = 4 → Raised F.WEL_CAUSE_PARENT_DESTROYED s t) ∧
      (j.op = 6 → get F.WEL_STATUS_KEYS_LOST t = 0) ∧ t = { s with regs := t.regs, well := t.well }) ∧
  (∀ (s : State) (j : KeyJob) (r : WellRec) (a : Activation), s.Inv → s.well.ku = some j → j.written = some r → j.op = 0 →
    s.pay.activating = some a → a.token.reply = .nobody → s.pay.queue = [] → domOn 5 s = true →
    fbit F.CIS_STATUS_DIRTY 1 s = false → fbit F.CIS_STATUS_COPYING 1 s = false → fbit F.CIS_QUEUE_WAITING 1 s = false →
    ∃ t, exec .keyUpdateCommit s = .next t ∧ t.well.d0 = some r ∧ t.well.ku = none ∧ t.pay.activating = none ∧
      t.pay.cur.keyrev = a.rev ∧ get F.PAY_TOKEN_RES_CODE t = 0 ∧ get F.PAY_TOKEN_RES_CLASS t = 2 ∧
      get F.PAY_TOKEN_RES_SEQ t = (get F.PAY_TOKEN_RES_SEQ s + 1) % 2 ^ F.PAY_TOKEN_RES_SEQ.width ∧
      Raised F.PAY_CAUSE_KEY_ACTIVATED s t ∧ Raised F.PAY_CAUSE_TOKEN_DONE s t ∧ Raised F.WEL_CAUSE_DECODER_ACTIVATED s t) ∧
  (∀ (s : State) (j : KeyJob), s.well.ku = some j →
    j.written = none ∨ fbit F.CIS_STATUS_DIRTY 1 s = true ∨ fbit F.CIS_STATUS_COPYING 1 s = true ∨ fbit F.CIS_QUEUE_WAITING 1 s = true →
    exec .keyUpdateCommit s = .next s)

/-- ATTESTATION and CERTIFICATE requests, REMASK, the OTP commands of the debug port, the crypto queue, TRNG_SEED and DRBG_RESEED -/
def Obligations.WellAndCrypto : Prop :=
  (∀ (s : State) (p ch i : Nat) (nonce : List Byte) (k : WSlot), s.Inv → nonce.length = 16 →
    (loadKey p ch none s).1 = .ok k →
    ∃ u sig, exec (.attestationRequest p ch nonce (.object i)) s = .next (answerObject i 0 (statement k nonce u ++ sig) u) ∧
      (statement k nonce u).length = 128 ∧ sig.length = 64 ∧ u.well.lastLoad = some (.ok k) ∧ u.obj = s.obj) ∧
  (∀ (s : State) (p ch : Nat) (nonce : List Byte) (reply : Reply) (l : Load),
    (loadKey p ch none (takeReply reply s)).1 = l → (∀ k, l ≠ .ok k) → exec (.attestationRequest p ch nonce reply) s =
        .next (answerReply reply (loadCode l) [] (loadKey p ch none (takeReply reply s)).2)) ∧
  (∀ (s : State) (i : Nat), i < 7 →
    exec (.certificateRequest (.object i)) s = .next (answerObject i 0 Config.certificate s) ∧
      ∀ src id, exec (.certificateRequest (.message src id)) s = .next (respond 6 id src Config.certificate (takeReply (.message src id) s))) ∧
  (∀ (s : State), s.sup.mode ≠ .outage → s.sup.mode ≠ .ship → s.well.maskAt + 1024 * get F.WEL_CFG_REMASK s ≤ s.sup.mono →
    exec .remask s = .next { s with
        free := s.free + 1
        well := { s.well with requests := s.well.requests + 1, mask := Config.freeNat s.free % 2 ^ 256, maskAt := s.sup.mono } }) ∧
  (∀ (s : State), s.sup.mode = .outage ∨ s.sup.mode = .ship ∨ s.sup.mono < s.well.maskAt + 1024 * get F.WEL_CFG_REMASK s →
    exec .remask s = .next s) ∧
  (∀ (s : State) (w : Word), s.Inv → domOn 0 s = true → arg F.WEL_OTP_CTL_KEY w = 0xD7 → arg F.WEL_OTP_CTL_BURN w = 1 →
    arg F.WEL_OTP_CTL_LOCK w = 0 → arg F.WEL_OTP_CTL_KILL w = 0 → flag F.WEL_STATUS_ROOT s = true →
    s.well.provLock = false → s.well.otp.length = 4 → nth none s.well.otp (arg F.WEL_OTP_CTL_SLOT w) = none →
    ∃ t, exec (.otpBurn .debugPort w) s = .next t ∧
      t.well = { s.well with otp := upd s.well.otp (arg F.WEL_OTP_CTL_SLOT w) fun _ => some (otpData s) } ∧
      fbit F.WEL_STATUS_AUTH (arg F.WEL_OTP_CTL_SLOT w) t = true ∧
      OnlyFlds [F.WEL_STATUS_AUTH, F.WEL_STATUS_PROV_LOCK, F.WEL_STATUS_DBG_KILL] { s with well := t.well } t) ∧
  (∀ (s : State) (w : Word), s.Inv → domOn 0 s = true → arg F.WEL_OTP_CTL_KEY w = 0xD7 → arg F.WEL_OTP_CTL_BURN w = 1 →
    arg F.WEL_OTP_CTL_LOCK w = 0 → arg F.WEL_OTP_CTL_KILL w = 0 → flag F.WEL_STATUS_ROOT s = true →
    s.well.provLock = true ∨ (nth none s.well.otp (arg F.WEL_OTP_CTL_SLOT w)).isSome = true →
    ∃ t, exec (.otpBurn .debugPort w) s = .next t ∧ Raised F.WEL_CAUSE_OTP_REFUSED s t ∧
      OnlyFlds [F.WEL_CAUSE_OTP_REFUSED, F.INT_HOST_PEND_PEND, F.WEL_STATUS_AUTH, F.WEL_STATUS_PROV_LOCK, F.WEL_STATUS_DBG_KILL] s t) ∧
  (∀ (s : State) (w : Word), s.Inv → domOn 0 s = true → arg F.WEL_OTP_CTL_KEY w = 0xD7 → arg F.WEL_OTP_CTL_BURN w = 0 →
    arg F.WEL_OTP_CTL_LOCK w = 1 → arg F.WEL_OTP_CTL_KILL w = 0 → flag F.WEL_STATUS_ROOT s = true →
    ∃ t, exec (.otpLock .debugPort w) s = .next t ∧ get F.WEL_STATUS_PROV_LOCK t = 1 ∧
      OnlyFlds [F.WEL_STATUS_AUTH, F.WEL_STATUS_PROV_LOCK, F.WEL_STATUS_DBG_KILL] { s with well := { s.well with provLock := true } } t) ∧
  (∀ (s : State) (w : Word), s.Inv → domOn 0 s = true → arg F.WEL_OTP_CTL_KEY w = 0xD7 → arg F.WEL_OTP_CTL_BURN w = 0 →
    arg F.WEL_OTP_CTL_LOCK w = 0 → arg F.WEL_OTP_CTL_KILL w = 1 → flag F.WEL_STATUS_ROOT s = true →
    ∃ t, exec (.otpKill .debugPort w) s = .next t ∧ get F.WEL_STATUS_DBG_KILL t = 1 ∧
      OnlyFlds [F.WEL_STATUS_AUTH, F.WEL_STATUS_PROV_LOCK, F.WEL_STATUS_DBG_KILL] { s with well := { s.well with dbgKill := true } } t) ∧
  (∀ (s : State) (w : Word), domOn 0 s = true → arg F.WEL_OTP_CTL_KEY w ≠ 0xD7 ∨ flag F.WEL_STATUS_ROOT s = false →
    exec (.otpBurn .debugPort w) s = .next s ∧ exec (.otpLock .debugPort w) s = .next s ∧ exec (.otpKill .debugPort w) s = .next s) ∧
  (∀ (s : State) (j : CryptoJob), s.Inv → e8Up s = true → j.caller = 1 ∨ j.caller = 2 ∨ j.caller = 8 ∨ j.caller = 10 →
    j.op ≠ 8 ∨ isLasting 45 s = false → s.well.jobs = [] → s.well.running = none → j.key = none →
    ∃ t, exec (.cryptoJob j) s = .next t ∧ get F.SEC_STATUS_BUSY t = 1 ∧ get F.SEC_STATUS_QUEUE t = 0 ∧
      OnlyFlds [F.SEC_STATUS_BUSY, F.SEC_STATUS_QUEUE, F.WEL_STATUS_SLOTS] { s with well := { s.well with running := some j } } t) ∧
  (∀ (s : State) (j : CryptoJob) (e : Nat × Nat) (k : WSlot), s.Inv → e8Up s = true →
    j.caller = 1 ∨ j.caller = 2 ∨ j.caller = 8 ∨ j.caller = 10 → j.op ≠ 8 ∨ isLasting 45 s = false → s.well.jobs = [] →
    s.well.running = none → j.key = some e →
    (loadKey e.1 e.2 (some (if servedTo j.caller j.dest then j.dest else 0, j.usage)) s).1 = .ok k →
    ∃ t, exec (.cryptoJob j) s = .next t ∧ get F.SEC_STATUS_BUSY t = 1 ∧ t.well.running = some j ∧ t.well.jobs = [] ∧
      t.well.lastLoad = some (.ok k)) ∧
  (∀ (s : State) (j : CryptoJob), s.Inv → e8Up s = true → j.caller = 1 ∨ j.caller = 2 ∨ j.caller = 8 ∨ j.caller = 10 →
    j.op ≠ 8 ∨ isLasting 45 s = false → s.well.running.isSome = true → s.well.jobs.length < 8 →
    ∃ t, exec (.cryptoJob j) s = .next t ∧ t.well.running = s.well.running ∧
      (j.caller = 10 → t.well.jobs = (s.well.jobs.filter fun x => x.caller == 10) ++ [j] ++ (s.well.jobs.filter fun x => x.caller != 10)) ∧
      (j.caller ≠ 10 → t.well.jobs = s.well.jobs ++ [j]) ∧
      OnlyFlds [F.SEC_STATUS_BUSY, F.SEC_STATUS_QUEUE, F.WEL_STATUS_SLOTS] { s with well := t.well } t) ∧
  (∀ (s : State) (j : CryptoJob), s.Inv → e8Up s = true → j.caller = 1 ∨ j.caller = 2 ∨ j.caller = 8 ∨ j.caller = 10 →
    j.op ≠ 8 ∨ isLasting 45 s = false → 8 ≤ s.well.jobs.length →
    ∃ t, exec (.cryptoJob j) s = .next t ∧ Raised F.SEC_CAUSE_JOB_REFUSED s t ∧
      OnlyFlds [F.SEC_CAUSE_JOB_REFUSED, F.INT_HOST_PEND_PEND] s t) ∧
  (∀ (s : State) (j : CryptoJob), e8Up s = false ∨ (j.op = 8 ∧ isLasting 45 s = true) → exec (.cryptoJob j) s = .next s) ∧
  (∀ (s : State), s.Inv → e8Up s = true → s.well.running.isSome = true →
    exec .cryptoJobDone s = .next (showWell (startJobs 9 (releaseSlots { s with well := { s.well with running := none } }))) ∧
      (s.well.jobs = [] → ∃ t, exec .cryptoJobDone s = .next t ∧ get F.SEC_STATUS_BUSY t = 0 ∧
        OnlyFlds [F.SEC_STATUS_BUSY, F.SEC_STATUS_QUEUE, F.WEL_STATUS_SLOTS]
          (releaseSlots { s with well := { s.well with running := none } }) t)) ∧
  (∀ (s : State), e8Up s = false ∨ s.well.running = none → exec .cryptoJobDone s = .next s) ∧
  (∀ (s : State) (raw : List Bool) (x : Trng), s.Inv → e8Up s = true → isLasting 45 s = false → s.well.seeded = false →
    trngRun s.well.trng raw = (0, 0, x) → 1024 ≤ x.good →
    ∃ t, exec (.trngSeed raw) s = .next t ∧ get F.SEC_STATUS_TRNG_OK t = 1 ∧
      get F.SEC_TRNG_STAT_RESEEDS t = (get F.SEC_TRNG_STAT_RESEEDS s + 1) % 2 ^ F.SEC_TRNG_STAT_RESEEDS.width ∧
      Raised F.SEC_CAUSE_RESEED s t ∧
      OnlyFlds [F.SEC_STATUS_TRNG_OK, F.SEC_TRNG_STAT_RESEEDS, F.SEC_CAUSE_RESEED, F.INT_HOST_PEND_PEND]
        { s with well := { s.well with trng := { x with good := 0 }, seeded := true, seedAt := s.sup.mono, requests := 0 } } t) ∧
  (∀ (s : State) (raw : List Bool) (x : Trng), s.Inv → e8Up s = true → trngRun s.well.trng raw = (0, 0, x) →
    x.good < 1024 ∨ s.well.seeded = true →
    ∃ t, exec (.trngSeed raw) s = .next t ∧ (1024 ≤ x.good → isLasting 45 s = false → get F.SEC_STATUS_TRNG_OK t = 1) ∧
      OnlyFlds [F.SEC_STATUS_TRNG_OK] { s with well := { s.well with trng := if 1024 ≤ x.good then { x with good := 0 } else x } } t) ∧
  (∀ (s : State) (raw : List Bool) (rct apt : Nat) (x : Trng), s.Inv → e8Up s = true →
    trngRun s.well.trng raw = (rct, apt, x) → rct + apt = 1 → x.good < 1024 → staysBelow 45 s = true →
    ∃ t, exec (.trngSeed raw) s = .next t ∧ get F.SEC_STATUS_TRNG_OK t = 0 ∧ Raised F.SEC_CAUSE_TRNG_HEALTH s t ∧
      Counted 45 s t ∧ t.well = { s.well with trng := x } ∧
      get F.SEC_TRNG_STAT_RCT_FAILS t = min (2 ^ F.SEC_TRNG_STAT_RCT_FAILS.width - 1) (get F.SEC_TRNG_STAT_RCT_FAILS s + rct) ∧
      get F.SEC_TRNG_STAT_APT_FAILS t = min (2 ^ F.SEC_TRNG_STAT_APT_FAILS.width - 1) (get F.SEC_TRNG_STAT_APT_FAILS s + apt)) ∧
  (∀ (s : State) (raw : List Bool), e8Up s = false → exec (.trngSeed raw) s = .next s ∧ exec .drbgReseed s = .next s) ∧
  (∀ (s : State), s.Inv → e8Up s = true → s.well.seeded = true → isLasting 45 s = false →
    s.well.seedAt + 61440 ≤ s.sup.mono ∨ 2 ^ 20 ≤ s.well.requests →
    ∃ t, exec .drbgReseed s = .next t ∧ get F.SEC_STATUS_TRNG_OK t = 1 ∧ Raised F.SEC_CAUSE_RESEED s t ∧
      OnlyFlds [F.SEC_STATUS_TRNG_OK, F.SEC_TRNG_STAT_RESEEDS, F.SEC_CAUSE_RESEED, F.INT_HOST_PEND_PEND]
        { s with well := { s.well with seedAt := s.sup.mono, requests := 0 } } t) ∧
  (∀ (s : State),
    s.well.seeded = false ∨ isLasting 45 s = true ∨ (s.sup.mono < s.well.seedAt + 61440 ∧ s.well.requests < 2 ^ 20) →
    exec .drbgReseed s = .next s)

/-- TAMPER_TRIP and TAMPER_RELEASE before and after the evaluation, cover samples in OUTAGE, the clears, the fault record each minute -/
def Obligations.TamperSources : Prop :=
  (∀ (s : State) (x frac detail : Nat), latchable x = true → evaluated s = false → s.sup.mode ≠ .ship →
    s.sup.mode ≠ .outage ∨ 1 < x → lateActive x s = false →
    exec (.tamperTrip x frac detail) s = .next { s with ld := { s.ld with
        lateAlarms := s.ld.lateAlarms ++ [{ source := x, trip := true, detail := detail, rtc := rtc s, mono := s.sup.mono }] } }) ∧
  (∀ (s : State) (x frac detail : Nat), s.Inv → latchable x = true → evaluated s = true → s.sup.mode = .running →
    watched x s = true → producer x s = false → domOn (producerDom x) s = true →
    ∃ t, exec (.tamperTrip x frac detail) s = .next t ∧ producer x t = true ∧ flag (F.TAMP_FC_STAT_ACTIVE (48 + x)) t = true ∧
      flag F.TAMP_CAUSE_OCCURRENCE t = true) ∧
  (∀ (s : State) (x frac detail : Nat), latchable x = true → evaluated s = true → s.sup.mode ≠ .outage ∨ 1 < x →
    watched x s = true → exec (.tamperTrip x frac detail) s = .next (tripProducer x frac detail s) ∧
      (producer x s = true → exec (.tamperTrip x frac detail) s = .next s)) ∧
  (∀ (s : State) (x : Nat), latchable x = true → evaluated s = false → s.sup.mode ≠ .outage ∨ 1 < x →
    lateActive x s = true → exec (.tamperRelease x) s = .next { s with ld := { s.ld with
        lateAlarms := s.ld.lateAlarms ++ [{ source := x, trip := false, detail := 0, rtc := rtc s, mono := s.sup.mono }] } }) ∧
  (∀ (s : State) (x : Nat), s.Inv → latchable x = true → evaluated s = true → s.sup.mode = .running → producer x s = true →
    ∃ t, exec (.tamperRelease x) s = .next t ∧ producer x t = false ∧ flag (F.TAMP_FC_STAT_ACTIVE (48 + x)) t = false ∧
      nth 0 t.tamp.quietFrom (48 + x) = (if 48 + x < s.tamp.quietFrom.length then s.sup.mono else 0)) ∧
  (∀ (s : State) (x frac detail : Nat),
    latchable x = false ∨ (s.sup.mode = .outage ∧ x ≤ 1) ∨ (evaluated s = true ∧ watched x s = false ∧ producer x s = false) ∨ (s.sup.mode = .ship ∧ evaluated s = false ∧ lateActive x s = false) →
    exec (.tamperTrip x frac detail) s = .next s ∧ exec (.tamperRelease x) s = .next s) ∧
  (∀ (s : State) (cov tcov : Bool), s.sup.mode = .outage → evaluated s = true → cov = flag F.TAMP_IN_CFG_POL_COV s →
    tcov = !(flag F.TAMP_IN_CFG_POL_TCOV s) → s.tamp.covSeen.length = 2 → s.tamp.relSeen.length = 2 →
    nth 0 s.tamp.covSeen 0 + 1 < coverSamples 0 s → nth 0 s.tamp.relSeen 1 + 1 ≠ coverSamples 1 s →
    exec (.outageCoverSample cov tcov) s = .next { s with tamp := { s.tamp with
      covSeen := [nth 0 s.tamp.covSeen 0 + 1, 0], relSeen := [0, nth 0 s.tamp.relSeen 1 + 1] } }) ∧
  (∀ (s : State) (cov tcov : Bool), s.sup.mode = .outage → evaluated s = true → flag F.TAMP_IN_CFG_EN_COV s = true →
    cov = flag F.TAMP_IN_CFG_POL_COV s → s.tamp.covSeen.length = 2 → s.tamp.relSeen.length = 2 →
    nth 0 s.tamp.covSeen 0 + 1 = coverSamples 0 s →
    exec (.outageCoverSample cov tcov) s = .next (coverSample 1 tcov (tripProducer 0 0 0 { s with tamp := { s.tamp with
      covSeen := [nth 0 s.tamp.covSeen 0 + 1, nth 0 s.tamp.covSeen 1], relSeen := [0, nth 0 s.tamp.relSeen 1] } }))) ∧
  (∀ (s : State) (cov tcov : Bool), s.sup.mode ≠ .outage → exec (.outageCoverSample cov tcov) s = .next s) ∧
  (∀ (s : State) (m : Master) (w : Word), Writable m R.TAMP_CTL s →
    arg F.TAMP_CTL_KEY w ≠ 0xE1 ∨ arg F.TAMP_CTL_CLEAR w = 0 → exec (.tamperClear m w) s = .next s) ∧
  (∀ (s : State) (m : Master) (w : Word), s.Inv → Writable m R.TAMP_CTL s → arg F.TAMP_CTL_KEY w = 0xE1 →
    arg F.TAMP_CTL_CLEAR w = 1 → isLasting (arg F.TAMP_CTL_INDEX w) s = false →
    ∃ t, exec (.tamperClear m w) s = .next t ∧ Raised F.TAMP_CAUSE_CLR_REFUSED s t ∧
      OnlyFlds [F.TAMP_CAUSE_CLR_REFUSED, F.INT_HOST_PEND_PEND] s t) ∧
  (∀ (s : State) (m : Master) (w : Word), s.Inv → Writable m R.TAMP_CTL s → arg F.TAMP_CTL_KEY w = 0xE1 →
    arg F.TAMP_CTL_CLEAR w = 1 → isLasting (arg F.TAMP_CTL_INDEX w) s = true →
    ∃ t, exec (.tamperClear m w) s = .next t ∧ isLasting (arg F.TAMP_CTL_INDEX w) t = false ∧
      get (F.TAMP_FC_STAT_LASTING (arg F.TAMP_CTL_INDEX w)) t = 0 ∧ get (F.TAMP_FC_STAT_IN_WIN (arg F.TAMP_CTL_INDEX w)) t = 0 ∧
      flag F.TAMP_CAUSE_CLEARED t = true ∧ nth [] t.tamp.hist (arg F.TAMP_CTL_INDEX w) = [] ∧ t.tamp.life = s.tamp.life) ∧
  (∀ (s : State), s.Inv → s.sup.mode ≠ .ship →
    ∃ t, exec .quietClear s = .next t ∧ (∀ c < 64, quietOver c s = true → isLasting c t = false) ∧
      (∀ c < 64, quietOver c s = false → isLasting c t = isLasting c s) ∧ t.tamp.life = s.tamp.life) ∧
  (∀ (s : State), s.sup.mode = .ship → exec .quietClear s = .next s) ∧
  (∀ (s : State), s.Inv → s.tamp.totalsChanged = true → bank2Open s = true →
    ∃ t, exec .faultRecordMinute s = .next t ∧ (fbit F.CIS_STATUS_COPYING 2 s = false → fbit F.CIS_STATUS_DIRTY 2 t = true) ∧
      t.cis.b2 = { s.cis.b2 with fault := writeCopy s.cis.b2.fault (faultRec s) } ∧
      OnlyFlds [F.CIS_STATUS_DIRTY] { s with tamp := { s.tamp with totalsChanged := false, recDue := false }, cis := t.cis } t) ∧
  (∀ (s : State), s.tamp.totalsChanged = false ∨ bank2Open s = false → exec .faultRecordMinute s = .next s)

/-- The clock monitors: failure and return of XTAL32, SPLL and MPLL move their consumers; VBAT_LOW; no event, no change -/
def Obligations.ClockMonitors : Prop :=
  (∀ (s : State), s.Inv → flag F.SUP_RTC_STATUS_SIRC s = false → ∃ t, exec .xtal32Fail s = .next t ∧
      get F.CLK_STATUS_XTAL32_OK t = 0 ∧ get F.CLK_STATUS_RTC_SRC t = 1 ∧ get F.SUP_RTC_STATUS_SIRC t = 1 ∧
      Raised F.CLK_CAUSE_XTAL32_FAIL s t ∧
      OnlyFlds [F.CLK_STATUS_XTAL32_OK, F.CLK_STATUS_RTC_SRC, F.SUP_RTC_STATUS_SIRC, F.CLK_CAUSE_XTAL32_FAIL,
        F.INT_HOST_PEND_PEND] s t) ∧
  (∀ (s : State), s.Inv → flag F.SUP_RTC_STATUS_SIRC s = true → ∃ t, exec .xtal32Back s = .next t ∧
      get F.CLK_STATUS_XTAL32_OK t = 1 ∧ get F.CLK_STATUS_RTC_SRC t = 0 ∧ get F.SUP_RTC_STATUS_SIRC t = 0 ∧
      Raised F.CLK_CAUSE_XTAL32_BACK s t ∧
      OnlyFlds [F.CLK_STATUS_XTAL32_OK, F.CLK_STATUS_RTC_SRC, F.SUP_RTC_STATUS_SIRC, F.CLK_CAUSE_XTAL32_BACK,
        F.INT_HOST_PEND_PEND] s t) ∧
  (∀ (s : State), s.Inv → flag F.CLK_STATUS_SPLL_LOCK s = true → ∃ t, exec .spllUnlock s = .next t ∧
      get F.CLK_STATUS_SPLL_LOCK t = 0 ∧ get F.CLK_STATUS_SYS_SRC t = 1 ∧ get F.CLK_CTL_CORE1 t = 0 ∧ get F.CLK_CTL_CORE2 t = 0 ∧
      Raised F.CLK_CAUSE_SPLL_UNLOCK s t ∧
      OnlyFlds [F.CLK_STATUS_SPLL_LOCK, F.CLK_STATUS_SYS_SRC, F.CLK_CTL_CORE1, F.CLK_CTL_CORE2, F.CLK_CAUSE_SPLL_UNLOCK,
        F.INT_HOST_PEND_PEND] { s with sup := { s.sup with opTarget := s.sup.opTarget.map fun x => (x.1, 0, 0) } } t) ∧
  (∀ (s : State), s.Inv → flag F.CLK_CTL_SPLL_EN s = true → flag F.CLK_STATUS_SPLL_LOCK s = false →
    ∃ t, exec .spllLock s = .next t ∧
      get F.CLK_STATUS_SPLL_LOCK t = 1 ∧ get F.CLK_STATUS_SYS_SRC t = 0 ∧
      OnlyFlds [F.CLK_STATUS_SPLL_LOCK, F.CLK_STATUS_SYS_SRC] s t) ∧
  (∀ (s : State), s.Inv → flag F.CLK_STATUS_MPLL_LOCK s = true → ∃ t, exec .mpllUnlock s = .next t ∧
      get F.CLK_STATUS_MPLL_LOCK t = 0 ∧ get F.CLK_STATUS_MPLL_REF t = 2 ∧
      (domOn 4 s = true → get F.CFG_STATUS_PROVISIONAL_CLK t = 1) ∧ Raised F.CLK_CAUSE_MPLL_UNLOCK s t ∧
      OnlyFlds [F.CLK_STATUS_MPLL_LOCK, F.CLK_STATUS_MPLL_REF, F.CFG_STATUS_PROVISIONAL_CLK, F.CLK_CAUSE_MPLL_UNLOCK,
        F.INT_HOST_PEND_PEND]
        { s with
          sup := { s.sup with mpllNext := none }
          en := { s.en with flags := withBit s.en.flags 3 } } t) ∧
  (∀ (s : State), s.Inv → get F.CLK_STATUS_MPLL_REF s = 2 ∨ flag F.CLK_STATUS_MPLL_LOCK s = false → framesRun s = true →
    ∃ t, exec .mpllLock s = .next t ∧ get F.CLK_STATUS_MPLL_LOCK t = 1 ∧
      OnlyFlds [F.CLK_STATUS_MPLL_LOCK]
        { s with sup := { s.sup with mpllNext := some (if flag F.CLK_CFG_XTALM s then 0 else 1) } } t) ∧
  (∀ (s : State), s.Inv → get F.PMU_VMON_VBAT_LOW s ≠ 0 → ∃ t, exec .vbatLow s = .next t ∧ get F.PMU_VMON_VBAT_OK t = 0 ∧
      Raised F.PMU_CAUSE_VBAT_LOW s t ∧ OnlyFlds [F.PMU_VMON_VBAT_OK, F.PMU_CAUSE_VBAT_LOW, F.INT_HOST_PEND_PEND] s t) ∧
  (∀ (s : State), s.Inv → get F.CLK_STATUS_MPLL_REF s = 2 ∨ flag F.CLK_STATUS_MPLL_LOCK s = false → framesRun s = false →
    ∃ t, exec .mpllLock s = .next t ∧ get F.CLK_STATUS_MPLL_LOCK t = 1 ∧
      get F.CLK_STATUS_MPLL_REF t = (if flag F.CLK_CFG_XTALM s then 0 else 1) ∧ t.sup.mpllNext = none) ∧
  (∀ (s : State), (flag F.SUP_RTC_STATUS_SIRC s = true → exec .xtal32Fail s = .next s) ∧
      (flag F.SUP_RTC_STATUS_SIRC s = false → exec .xtal32Back s = .next s) ∧
      (flag F.CLK_STATUS_SPLL_LOCK s = false → exec .spllUnlock s = .next s) ∧
      (flag F.CLK_CTL_SPLL_EN s = false ∨ flag F.CLK_STATUS_SPLL_LOCK s = true → exec .spllLock s = .next s) ∧
      (flag F.CLK_STATUS_MPLL_LOCK s = false → exec .mpllUnlock s = .next s) ∧
      (get F.CLK_STATUS_MPLL_REF s ≠ 2 → flag F.CLK_STATUS_MPLL_LOCK s = true → exec .mpllLock s = .next s) ∧
      (get F.PMU_VMON_VBAT_LOW s = 0 → exec .vbatLow s = .next s))

/-- OP_CHANGE by a write of CLK_CTL: rising, falling and unchanged points, busy and violating writes; OP_DONE ends the change -/
def Obligations.OperatingPointChange : Prop :=
  (∀ (s : State) (m : Master) (w : Word), s.Inv → Writable m R.CLK_CTL s → get F.PMU_STATE_STATE s ≠ 2 →
    s.sup.opTarget = none → get F.CLK_CTL_OP s < arg F.CLK_CTL_OP w → arg F.CLK_CTL_OP w ≤ get F.CLK_CFG_MAX_OP s →
    arg F.CLK_CTL_CORE1 w ≤ arg F.CLK_CTL_OP w → arg F.CLK_CTL_CORE2 w ≤ arg F.CLK_CTL_OP w →
    flag F.CLK_STATUS_SPLL_LOCK s = true → ∃ t, exec (.opChange m w) s = .next t ∧
      get F.CLK_CTL_OP t = arg F.CLK_CTL_OP w ∧ get F.CLK_STATUS_BUSY t = 1 ∧ get F.CLK_CTL_SPLL_EN t = arg F.CLK_CTL_SPLL_EN w ∧
      OnlyFlds [F.CLK_CTL_OP, F.CLK_CTL_SPLL_EN, F.CLK_STATUS_BUSY]
        { s with sup := { s.sup with opTarget := some (arg F.CLK_CTL_OP w, arg F.CLK_CTL_CORE1 w, arg F.CLK_CTL_CORE2 w) } } t) ∧
  (∀ (s : State) (m : Master) (w : Word), s.Inv → Writable m R.CLK_CTL s →
    get F.PMU_STATE_STATE s = 2 ∨ s.sup.opTarget.isSome = true → ∃ t, exec (.opChange m w) s = .next t ∧
      Raised F.CLK_CAUSE_OP_BUSY s t ∧ OnlyFlds [F.CLK_CAUSE_OP_BUSY, F.INT_HOST_PEND_PEND] s t) ∧
  (∀ (s : State) (m : Master) (w : Word), s.Inv → Writable m R.CLK_CTL s → get F.PMU_STATE_STATE s ≠ 2 →
    s.sup.opTarget = none →
    get F.CLK_CFG_MAX_OP s < arg F.CLK_CTL_OP w ∨ (get F.CLK_CTL_OP s ≤ arg F.CLK_CTL_OP w ∧ (arg F.CLK_CTL_OP w < arg F.CLK_CTL_CORE1 w ∨ arg F.CLK_CTL_OP w < arg F.CLK_CTL_CORE2 w ∨ (0 < arg F.CLK_CTL_CORE1 w + arg F.CLK_CTL_CORE2 w ∧ flag F.CLK_STATUS_SPLL_LOCK s = false))) →
    ∃ t, exec (.opChange m w) s = .next t ∧
      Raised F.CLK_CAUSE_OP_VIOLATION s t ∧ OnlyFlds [F.CLK_CAUSE_OP_VIOLATION, F.INT_HOST_PEND_PEND] s t) ∧
  (∀ (s : State) (m : Master) (w : Word), s.Inv → Writable m R.CLK_CTL s → get F.PMU_STATE_STATE s ≠ 2 →
    s.sup.opTarget = none → arg F.CLK_CTL_OP w < get F.CLK_CTL_OP s → arg F.CLK_CTL_OP w ≤ get F.CLK_CFG_MAX_OP s →
    flag F.CLK_STATUS_SPLL_LOCK s = true → ∃ t, exec (.opChange m w) s = .next t ∧
      get F.CLK_CTL_OP t = arg F.CLK_CTL_OP w ∧ get F.CLK_STATUS_BUSY t = 1 ∧ get F.CLK_CTL_SPLL_EN t = arg F.CLK_CTL_SPLL_EN w ∧
      get F.CLK_CTL_CORE1 t = min (min (arg F.CLK_CTL_OP w) (arg F.CLK_CTL_CORE1 w)) (get F.CLK_CTL_CORE1 s) ∧
      get F.CLK_CTL_CORE2 t = min (min (arg F.CLK_CTL_OP w) (arg F.CLK_CTL_CORE2 w)) (get F.CLK_CTL_CORE2 s) ∧
      OnlyFlds [F.CLK_CTL_OP, F.CLK_CTL_SPLL_EN, F.CLK_STATUS_BUSY, F.CLK_CTL_CORE1, F.CLK_CTL_CORE2]
        { s with sup := { s.sup with opTarget := some (arg F.CLK_CTL_OP w,
            min (arg F.CLK_CTL_OP w) (arg F.CLK_CTL_CORE1 w), min (arg F.CLK_CTL_OP w) (arg F.CLK_CTL_CORE2 w)) } } t) ∧
  (∀ (s : State) (m : Master) (w : Word), s.Inv → Writable m R.CLK_CTL s → get F.PMU_STATE_STATE s ≠ 2 →
    s.sup.opTarget = none →
    arg F.CLK_CTL_OP w = get F.CLK_CTL_OP s ∧ arg F.CLK_CTL_CORE1 w = get F.CLK_CTL_CORE1 s ∧ arg F.CLK_CTL_CORE2 w = get F.CLK_CTL_CORE2 s →
    arg F.CLK_CTL_OP w ≤ get F.CLK_CFG_MAX_OP s ∧ arg F.CLK_CTL_CORE1 w ≤ arg F.CLK_CTL_OP w ∧ arg F.CLK_CTL_CORE2 w ≤ arg F.CLK_CTL_OP w →
    flag F.CLK_STATUS_SPLL_LOCK s = true ∨ arg F.CLK_CTL_CORE1 w + arg F.CLK_CTL_CORE2 w = 0 →
    ∃ t, exec (.opChange m w) s = .next t ∧ get F.CLK_CTL_SPLL_EN t = arg F.CLK_CTL_SPLL_EN w ∧ OnlyFlds [F.CLK_CTL_SPLL_EN] s t) ∧
  (∀ (s : State), s.sup.opTarget = none → exec .opDone s = .next s) ∧
  (∀ (s : State) (op c1 c2 : Nat), s.Inv → s.sup.opTarget = some (op, c1, c2) → ∃ t, exec .opDone s = .next t ∧
      get F.CLK_STATUS_OP t = op % 4 ∧ get F.CLK_STATUS_BUSY t = 0 ∧ get F.CLK_CTL_CORE1 t = c1 % 4 ∧ get F.CLK_CTL_CORE2 t = c2 % 4 ∧
      Raised F.CLK_CAUSE_OP_DONE s t ∧
      OnlyFlds [F.CLK_STATUS_OP, F.CLK_STATUS_BUSY, F.CLK_CTL_CORE1, F.CLK_CTL_CORE2, F.CLK_CAUSE_OP_DONE, F.INT_HOST_PEND_PEND]
        { s with sup := { s.sup with opTarget := none } } t)

/-- NAP and SHIP requests and ENTRY_ABORT; OWNER_CONSENT passes on, delays, refuses or finishes the entry; OWNER_DELAY_LIMIT refuses -/
def Obligations.PowerEntryHandshake : Prop :=
  (∀ (s : State) (m : Master) (w : Word), s.Inv → Writable m R.PMU_CTL s → arg F.PMU_CTL_KEY w = 0x4D →
    arg F.PMU_CTL_ABORT w = 0 → arg F.PMU_CTL_GO w = 1 → arg F.PMU_CTL_REQ w = 1 → get F.PMU_STATE_STATE s ≠ 2 →
    guarded s = false → inFallback s = false → flag F.PMU_NAP_CFG_NAP_EN s = true →
    ∃ u, exec (.napRequest m w) s = .next (preparePanel (flag F.PMU_NAP_CFG_GLOW s) u) ∧
      get F.PMU_STATE_STATE u = 2 ∧ get F.PMU_STATE_PHASE u = 1 ∧ get F.PMU_STATE_ASKING u = 10 ∧
      OnlyFlds [F.PMU_STATE_STATE, F.PMU_STATE_PHASE, F.PMU_STATE_ASKING]
        { s with sup := { s.sup with shipEntry := false, shipFrozen := false, wakePend := 0, abortPend := false } } u) ∧
  (∀ (s : State) (m : Master) (w : Word), s.Inv → Writable m R.PMU_CTL s → arg F.PMU_CTL_KEY w = 0x4D →
    arg F.PMU_CTL_ABORT w = 0 → arg F.PMU_CTL_GO w = 1 → arg F.PMU_CTL_REQ w = 2 → get F.PMU_STATE_STATE s ≠ 2 →
    guarded s = false → inFallback s = false → ∃ u, exec (.shipRequest m w) s = .next (preparePanel (false) u) ∧
      get F.PMU_STATE_STATE u = 2 ∧ get F.PMU_STATE_PHASE u = 1 ∧ get F.PMU_STATE_ASKING u = 10 ∧
      OnlyFlds [F.PMU_STATE_STATE, F.PMU_STATE_PHASE, F.PMU_STATE_ASKING]
        { s with sup := { s.sup with shipEntry := true, shipFrozen := false, wakePend := 0, abortPend := false } } u) ∧
  (∀ (s : State) (m : Master) (w : Word), s.Inv → Writable m R.PMU_CTL s → arg F.PMU_CTL_KEY w = 0x4D →
    arg F.PMU_CTL_ABORT w = 0 → arg F.PMU_CTL_GO w = 1 →
    guarded s = true ∨ inFallback s = true ∨ get F.PMU_STATE_STATE s = 2 ∨ arg F.PMU_CTL_REQ w = 0 ∨ arg F.PMU_CTL_REQ w = 3 ∨ (arg F.PMU_CTL_REQ w = 1 ∧ flag F.PMU_NAP_CFG_NAP_EN s = false) →
    ∃ t, exec (.napRequest m w) s = .next t ∧ exec (.shipRequest m w) s = .next t ∧
      Raised F.PMU_CAUSE_REQ_REFUSED s t ∧ OnlyFlds [F.PMU_CAUSE_REQ_REFUSED, F.INT_HOST_PEND_PEND] s t) ∧
  (∀ (s : State) (m : Master) (w : Word), Writable m R.PMU_CTL s → arg F.PMU_CTL_KEY w = 0x4D → arg F.PMU_CTL_ABORT w = 1 →
    arg F.PMU_CTL_GO w = 0 → get F.PMU_STATE_STATE s = 2 →
    exec (.entryAbort m w) s = .next { s with sup := { s.sup with abortPend := true } }) ∧
  (∀ (s : State) (m : Master) (w : Word), Writable m R.PMU_CTL s →
    arg F.PMU_CTL_KEY w ≠ 0x4D ∨ (arg F.PMU_CTL_GO w = 0 ∧ (arg F.PMU_CTL_ABORT w = 0 ∨ get F.PMU_STATE_STATE s ≠ 2)) →
    exec (.napRequest m w) s = .next s ∧ exec (.shipRequest m w) s = .next s ∧ exec (.entryAbort m w) s = .next s) ∧
  (∀ (s : State) (wake : Option (Nat × Nat)), s.Inv → get F.PMU_STATE_STATE s = 2 → get F.PMU_STATE_PHASE s = 1 →
    1 < get F.PMU_STATE_ASKING s → ownerRefuses (get F.PMU_STATE_ASKING s) s = false →
    ownerDelays (get F.PMU_STATE_ASKING s) s = false → get F.PMU_STATE_ASKING s ≠ 8 ∨ s.sup.shipEntry = false →
    get F.PMU_STATE_ASKING s ≤ 10 → get F.PMU_STATE_ASKING s ≠ 5 ∨ s.sup.shipEntry = true ∨ nextBoundary s = none →
    ∃ t, exec (.ownerConsent wake) s = .next t ∧
      get F.PMU_STATE_ASKING t = get F.PMU_STATE_ASKING s - 1 ∧ OnlyFlds [F.PMU_STATE_ASKING] s t) ∧
  (∀ (s : State) (wake : Option (Nat × Nat)) (b : Nat), s.Inv → get F.PMU_STATE_STATE s = 2 → get F.PMU_STATE_PHASE s = 1 →
    get F.PMU_STATE_ASKING s = 5 → ownerRefuses (get F.PMU_STATE_ASKING s) s = false →
    ownerDelays (get F.PMU_STATE_ASKING s) s = false → s.sup.shipEntry = false → nextBoundary s = some b →
    ∃ t, exec (.ownerConsent wake) s = .next t ∧ get F.PMU_STATE_ASKING t = 4 ∧ get F.SUP_RTC_ALARM_ALARM t = (b - 1) % 2 ^ 32 ∧
      OnlyFlds [F.PMU_STATE_ASKING, F.SUP_RTC_ALARM_ALARM] s t) ∧
  (∀ (s : State) (wake : Option (Nat × Nat)), s.Inv → get F.PMU_STATE_STATE s = 2 → get F.PMU_STATE_PHASE s = 1 →
    get F.PMU_STATE_ASKING s = 8 → ownerRefuses (get F.PMU_STATE_ASKING s) s = false →
    ownerDelays (get F.PMU_STATE_ASKING s) s = false → s.sup.shipEntry = true →
    ∃ u, exec (.ownerConsent wake) s = .next (storeDirty { freezeMetro 0 u with
        sup := { (freezeMetro 0 u).sup with shipFrozen := flag F.NRG_STATUS_FROZEN u || canFreeze u } }) ∧
      get F.PMU_STATE_ASKING u = 7 ∧ OnlyFlds [F.PMU_STATE_ASKING] s u) ∧
  (∀ (s : State) (wake : Option (Nat × Nat)), s.Inv → get F.PMU_STATE_STATE s = 2 → get F.PMU_STATE_PHASE s = 1 →
    ownerRefuses (get F.PMU_STATE_ASKING s) s = true → s.sup.shipFrozen = false →
    ∃ t, exec (.ownerConsent wake) s = .next t ∧ get F.PMU_ENTRY_RES_RESULT t = 2 ∧
      get F.PMU_ENTRY_RES_DOMAIN t = get F.PMU_STATE_ASKING s ∧ get F.PMU_STATE_STATE t = 0 ∧ Raised F.PMU_CAUSE_ENTRY_REFUSED s t) ∧
  (∀ (s : State) (wake : Option (Nat × Nat)), s.Inv → get F.PMU_STATE_STATE s = 2 → get F.PMU_STATE_PHASE s = 1 →
    ownerRefuses (get F.PMU_STATE_ASKING s) s = false → ownerDelays (get F.PMU_STATE_ASKING s) s = true →
    get F.PMU_STATE_ASKING s ≠ 7 → get F.PMU_STATE_ASKING s ≠ 10 → exec (.ownerConsent wake) s = .next s) ∧
  (∀ (s : State) (wake : Option (Nat × Nat)), s.Inv → get F.PMU_STATE_STATE s = 2 → get F.PMU_STATE_PHASE s = 1 →
    get F.PMU_STATE_ASKING s = 1 → abortAt wake s = none → s.sup.shipEntry = false →
    ∃ t, exec (.ownerConsent wake) s = .next t ∧ get F.PMU_STATE_STATE t = 3 ∧ get F.PMU_ENTRY_RES_RESULT t = 1 ∧
      get F.PMU_STATE_ASKING t = 0 ∧ flag F.PMU_CAUSE_ENTRY_DONE t = true ∧ domOn 6 t = false ∧
      fbit F.PMU_DOM_STATUS_RET 4 t = true ∧ fbit F.PMU_DOM_STATUS_RET 5 t = true ∧ t.sup.napSince = s.sup.mono) ∧
  (∀ (s : State) (wake : Option (Nat × Nat)), s.Inv → get F.PMU_STATE_STATE s = 2 → get F.PMU_STATE_PHASE s = 1 →
    get F.PMU_STATE_ASKING s = 1 → abortAt wake s = none → s.sup.shipEntry = true →
    ∃ t, exec (.ownerConsent wake) s = .next t ∧ t.sup.mode = .ship ∧ t.sup.nextCause = 4 ∧ rtc t = rtc s ∧ run t = run s ∧
      t.sup.freeze = s.sup.freeze ∧ t.cis = { planes := s.cis.planes } ∧ t.mem = [] ∧ t.well.otp = s.well.otp ∧ t.well.d0 = none ∧
      t.tamp = {}) ∧
  (∀ (s : State) (wake : Option (Nat × Nat)) (ap src : Nat), s.Inv → get F.PMU_STATE_STATE s = 2 →
    get F.PMU_STATE_PHASE s = 1 → get F.PMU_STATE_ASKING s = 1 → abortAt wake s = some (ap, src) →
    s.sup.shipFrozen = false → ∃ t, exec (.ownerConsent wake) s = .next t ∧ get F.PMU_ENTRY_RES_RESULT t = 3 ∧
      get F.PMU_ENTRY_RES_AP t = ap % 2 ^ F.PMU_ENTRY_RES_AP.width ∧ get F.PMU_ENTRY_RES_WAKE t = src % 2 ^ F.PMU_ENTRY_RES_WAKE.width ∧
      get F.PMU_STATE_STATE t = 0 ∧ get F.PMU_STATE_PHASE t = 0 ∧ Raised F.PMU_CAUSE_ENTRY_ABANDONED s t) ∧
  (∀ (s : State) (wake : Option (Nat × Nat)), get F.PMU_STATE_STATE s ≠ 2 ∨ get F.PMU_STATE_PHASE s ≠ 1 →
    exec (.ownerConsent wake) s = .next s ∧ exec .ownerDelayLimit s = .next s) ∧
  (∀ (s : State), s.Inv → get F.PMU_STATE_STATE s = 2 → get F.PMU_STATE_PHASE s = 1 → s.sup.shipFrozen = false →
    ∃ t, exec .ownerDelayLimit s = .next t ∧
      get F.PMU_ENTRY_RES_RESULT t = 2 ∧ get F.PMU_ENTRY_RES_AP t = 1 ∧ get F.PMU_ENTRY_RES_DOMAIN t = get F.PMU_STATE_ASKING s ∧
      get F.PMU_ENTRY_RES_WAKE t = 0 ∧ get F.PMU_STATE_STATE t = 0 ∧ get F.PMU_STATE_PHASE t = 0 ∧ get F.PMU_STATE_ASKING t = 0 ∧
      Raised F.PMU_CAUSE_ENTRY_REFUSED s t ∧
      OnlyFlds [F.PMU_ENTRY_RES_RESULT, F.PMU_ENTRY_RES_AP, F.PMU_ENTRY_RES_DOMAIN, F.PMU_ENTRY_RES_WAKE, F.PMU_STATE_STATE,
          F.PMU_STATE_PHASE, F.PMU_STATE_ASKING, F.PMU_CAUSE_ENTRY_REFUSED, F.INT_HOST_PEND_PEND]
        { s with sup := { s.sup with wakePend := 0, abortPend := false, shipEntry := false } } t)

/-- CORE_WAIT of a running core sets its doze bit, and the state DOZE when both are; CORE_DOZE_WAKE ends it on an enabled interrupt -/
def Obligations.CoreDozeState : Prop :=
  (∀ (s : State) (n : Nat), s.Inv → n = 1 ∨ n = 2 → coreUp n s = true → get F.PMU_STATE_STATE s ≤ 1 →
    ∃ t, exec (.coreWait n) s = .next t ∧ get F.PMU_STATE_CORE_DOZE t = get F.PMU_STATE_CORE_DOZE s ||| n ∧
      get F.PMU_STATE_STATE t = (if get F.PMU_STATE_CORE_DOZE s ||| n = 3 then 1 else get F.PMU_STATE_STATE s) ∧
      OnlyFlds [F.PMU_STATE_CORE_DOZE, F.PMU_STATE_STATE] s t) ∧
  (∀ (s : State) (n : Nat), s.Inv → n = 1 ∨ n = 2 → fbit F.PMU_STATE_CORE_DOZE (n - 1) s = true →
    coreInterrupt n s = true →
    ∃ t, exec (.coreDozeWake n) s = .next t ∧ get F.PMU_STATE_CORE_DOZE t = get F.PMU_STATE_CORE_DOZE s - n ∧
      get F.PMU_STATE_STATE t = (if get F.PMU_STATE_STATE s = 1 then 0 else get F.PMU_STATE_STATE s) ∧
      OnlyFlds [F.PMU_STATE_CORE_DOZE, F.PMU_STATE_STATE] s t) ∧
  (∀ (s : State) (n : Nat), (coreUp n s = false ∨ 1 < get F.PMU_STATE_STATE s → exec (.coreWait n) s = .next s) ∧
      ((n ≠ 1 ∧ n ≠ 2) ∨ fbit F.PMU_STATE_CORE_DOZE (n - 1) s = false ∨ coreInterrupt n s = false → exec (.coreDozeWake n) s = .next s))

/-- RTC_ALARM, NAP_MAX, KEYPAD_WAKE and HWAKE_N: noted for the abort point during an entry, a wake in NAP, nothing where not due -/
def Obligations.WakeSourcesDuringEntry : Prop :=
  (∀ (s : State) (bad : Nat), get F.PMU_STATE_STATE s = 2 → fbit F.PMU_WAKE_EN_EN 0 s = true →
    get F.SUP_RTC_ALARM_ALARM s ≠ 0 → get F.SUP_RTC_ALARM_ALARM s = rtc s →
    exec (.rtcAlarm bad) s = .next { s with sup := { s.sup with wakePend := withBit s.sup.wakePend 0 } }) ∧
  (∀ (s : State), s.Inv → get F.PMU_STATE_STATE s = 3 → fbit F.PMU_WAKE_EN_EN 0 s = true →
    get F.SUP_RTC_ALARM_ALARM s ≠ 0 → get F.SUP_RTC_ALARM_ALARM s = rtc s →
    s.sup.firm = [] ∧ s.sup.retBanks = [none, none, none, none] →
    ∃ t, exec (.rtcAlarm 0) s = .next t ∧ get F.PMU_STATE_STATE t = 0 ∧ (rd t R.PMU_WAKE_CAUSE).toNat.testBit 0 = true ∧
      flag F.PMU_CAUSE_WAKE t = true) ∧
  (∀ (s : State) (bad : Nat),
    (get F.SUP_RTC_ALARM_ALARM s ≠ 0 → get F.SUP_RTC_ALARM_ALARM s = rtc s → exec (.rtcAlarm bad) s = .next (wakeBy 0 bad s)) ∧
      (get F.PMU_STATE_STATE s = 3 → s.sup.napSince + 1024 * get F.PMU_NAP_CFG_MAX s ≤ s.sup.mono →
        exec (.napMax bad) s = .next (wakeBy 1 bad s)) ∧
      (get F.SUP_RTC_ALARM_ALARM s = 0 ∨ get F.SUP_RTC_ALARM_ALARM s ≠ rtc s ∨ get F.PMU_STATE_STATE s ≤ 1 ∨
        fbit F.PMU_WAKE_EN_EN 0 s = false → exec (.rtcAlarm bad) s = .next s) ∧
      (get F.PMU_STATE_STATE s ≠ 3 ∨ s.sup.mono < s.sup.napSince + 1024 * get F.PMU_NAP_CFG_MAX s → exec (.napMax bad) s = .next s) ∧
      (keypadUsed s = false ∨ get F.PMU_STATE_STATE s ≤ 1 ∨ fbit F.PMU_WAKE_EN_EN 2 s = false → exec (.keypadWake bad) s = .next s) ∧
      (padHas 0x0C 8 s = false ∨ flag F.PMU_VMON_VDD_OK s = false ∨ s.sup.mode ≠ .running ∨ halted s = true →
        exec (.hwakeN bad) s = .next s)) ∧
  (∀ (s : State), s.Inv → get F.PMU_STATE_STATE s = 3 → s.sup.napSince + 1024 * get F.PMU_NAP_CFG_MAX s ≤ s.sup.mono →
    s.sup.firm = [] ∧ s.sup.retBanks = [none, none, none, none] → ∃ t, exec (.napMax 0) s = .next t ∧
      get F.PMU_STATE_STATE t = 0 ∧ get F.PMU_STATE_PHASE t = 0 ∧ get F.PMU_STATE_CORE_DOZE t = 0 ∧
      (rd t R.PMU_WAKE_CAUSE).toNat.testBit 1 = true ∧ flag F.PMU_CAUSE_WAKE t = true ∧ t.sup.retBanks = [none, none, none, none]) ∧
  (∀ (s : State) (bad : Nat), get F.PMU_STATE_STATE s = 2 → keypadUsed s = true → fbit F.PMU_WAKE_EN_EN 2 s = true →
    exec (.keypadWake bad) s = .next { s with sup := { s.sup with wakePend := withBit s.sup.wakePend 2 } }) ∧
  (∀ (s : State), s.Inv → get F.PMU_STATE_STATE s = 3 → keypadUsed s = true → fbit F.PMU_WAKE_EN_EN 2 s = true →
    s.sup.firm = [] ∧ s.sup.retBanks = [none, none, none, none] →
    ∃ t, exec (.keypadWake 0) s = .next t ∧ get F.PMU_STATE_STATE t = 0 ∧ (rd t R.PMU_WAKE_CAUSE).toNat.testBit 2 = true ∧
      flag F.PMU_CAUSE_WAKE t = true ∧ t.pnl.wakeNext = true) ∧
  (∀ (s : State) (bad : Nat), s.Inv → padHas 0x0C 8 s = true → flag F.PMU_VMON_VDD_OK s = true → s.sup.mode = .running →
    halted s = false → get F.PMU_STATE_STATE s = 2 → fbit F.PMU_WAKE_EN_EN 3 s = true →
    ∃ t, exec (.hwakeN bad) s = .next t ∧ Raised F.HIF_CAUSE_WAKE_REQ s t ∧
      OnlyFlds [F.HIF_CAUSE_WAKE_REQ, F.INT_HOST_PEND_PEND]
        { s with sup := { s.sup with wakePend := withBit s.sup.wakePend 3 } } t) ∧
  (∀ (s : State) (bad : Nat), s.Inv → padHas 0x0C 8 s = true → flag F.PMU_VMON_VDD_OK s = true → s.sup.mode = .running →
    halted s = false → fbit F.PMU_WAKE_EN_EN 3 s = false ∨ get F.PMU_STATE_STATE s ≤ 1 →
    ∃ t, exec (.hwakeN bad) s = .next t ∧ Raised F.HIF_CAUSE_WAKE_REQ s t ∧ OnlyFlds [F.HIF_CAUSE_WAKE_REQ, F.INT_HOST_PEND_PEND] s t)

/-- VDD_MONITOR_TRIP and VDD_BELOW_2V3: the start is abandoned or the freeze taken; below 2.3 V only D0 stays; in SHIP VDD is removed -/
def Obligations.SupplyLoss : Prop :=
  (∀ (s : State), s.Inv → vddGood s = true → s.sup.mode = .loading ∨ s.sup.mode = .running → canFreeze s = false →
    flag F.NRG_STATUS_FROZEN s = false →
    ∃ t, exec .vddMonitorTrip s = .next t ∧ get F.PMU_VMON_VDD_OK t = 0 ∧ Raised F.PMU_CAUSE_PF_VDD s t ∧
      get F.CFG_STATUS_REREAD_BUSY t = 0 ∧
      OnlyFlds [F.PMU_VMON_VDD_OK, F.PMU_CAUSE_PF_VDD, F.CFG_STATUS_REREAD_BUSY, F.INT_HOST_PEND_PEND]
        { s with
          sup := { s.sup with mode := .frozen }
          ld := { s.ld with rereadFrom := none, reread := 0, restartAll := false } } t) ∧
  (∀ (s : State), s.Inv → vddGood s = true → s.sup.mode = .running → canFreeze s = true →
    ∃ t, exec .vddMonitorTrip s = .next t ∧ t.sup.mode = .frozen ∧ flag F.NRG_STATUS_FROZEN t = true ∧
      get F.NRG_FREEZE_POS_VALID t = 1 ∧ get F.NRG_FREEZE_POS_SOURCE t = 1 ∧ get F.PMU_VMON_VDD_OK t = 0 ∧
      (∃ f, t.sup.freeze = some f ∧ f.run = run s ∧ f.rtc = rtc s) ∧ domOn 8 t = false ∧ domOn 10 t = false ∧ t.cis.pfStore = true) ∧
  (∀ (s : State), s.Inv → s.sup.mode ≠ .outage → s.sup.mode ≠ .por → s.sup.mode ≠ .ship →
    ∃ t, exec .vddBelow2v3 s = .next t ∧ t.sup.mode = .outage ∧ (∀ d, 1 ≤ d → d ≤ 10 → domOn d t = false) ∧
      get F.PMU_STATE_SUPPLY t = 1 ∧ get F.PMU_VMON_VDD_OK t = 0 ∧ guarded t = true ∧ t.mem = [] ∧
      t.tamp.hist = s.tamp.hist ∧ t.tamp.life = s.tamp.life ∧ t.tamp.since = s.tamp.since ∧
      t.cis = { planes := s.cis.planes } ∧ t.well.otp = s.well.otp ∧ rtc t = rtc s ∧ run t = run s) ∧
  (∀ (s : State), s.sup.mode = .ship → exec .vddMonitorTrip s = .next { s with sup := { s.sup with vddRemoved := true } } ∧
      exec .vddBelow2v3 s = .next { s with sup := { s.sup with vddRemoved := true } }) ∧
  (∀ (s : State), (vddGood s = false → s.sup.mode ≠ .ship → exec .vddMonitorTrip s = .next s) ∧
      (s.sup.mode = .outage ∨ s.sup.mode = .por → exec .vddBelow2v3 s = .next s))

/-- E9: frames to send, their end, the band C medium, current limit, preamble, dropped frame, blanking ratio and zero crossing -/
def Obligations.ModemFrames : Prop :=
  (frameSymbols 3 256 25 = 87 ∧ frameSymbols 0 256 25 = 683 ∧ frameSymbols 0 256 8 = 2111) ∧
  (∀ (s : State) (f : TxFrame), e9Up s = true → s.lmd.tx = none → soundingRuns s = false → f.bandC = false →
    flag F.LMD_STATUS_VLD_LOW s = false → flag F.LMD_STATUS_HOT s = false → muting s = false →
    flag F.LMD_CFG_BAND_A s = true →
    ∃ t, exec (.txFrame f) s = .next t ∧ get F.LMD_STATUS_STATE t = 3 ∧ get F.LMD_STATUS_TX_BAND t = 0 ∧
      OnlyFlds [F.LMD_STATUS_STATE, F.LMD_STATUS_TX_BAND] { s with lmd := { s.lmd with
        tx := some f, rx := none, lineUsed := true, txHeader := headerBits f s } } t) ∧
  (∀ (s : State) (f : TxFrame), e9Up s = true → s.lmd.tx = none → s.lmd.lbt = none → soundingRuns s = false →
    f.bandC = true → flag F.LMD_STATUS_VLD_LOW s = false → flag F.LMD_STATUS_HOT s = false → muting s = false →
    flag F.LMD_CFG_BAND_C s = true → 576 * frameSymbols f.mod f.len (tones true s) ≤ 10000 * get F.LMD_LBT_CFG_MAX_TX s →
    exec (.txFrame f) s = .next { s with lmd := { s.lmd with lbt := some f, lbtAt := s.sup.mono } }) ∧
  (∀ (s : State) (f : TxFrame), e9Up s = true → s.lmd.tx = none → f.bandC = false ∨ s.lmd.lbt = none →
    soundingRuns s = false →
    flag F.LMD_STATUS_VLD_LOW s = true ∨ flag F.LMD_STATUS_HOT s = true ∨ muting s = true ∨ bandOn f.bandC s = false ∨ (f.bandC = true ∧ 10000 * get F.LMD_LBT_CFG_MAX_TX s < 576 * frameSymbols f.mod f.len (tones true s)) →
    ∃ t, exec (.txFrame f) s = .next t ∧ Raised F.LMD_CAUSE_TX_REFUSED s t ∧
      OnlyFlds [F.LMD_CAUSE_TX_REFUSED, F.INT_HOST_PEND_PEND] { s with fab := { s.fab with txq := f :: s.fab.txq } } t) ∧
  (∀ (s : State) (f : TxFrame),
    e9Up s = false ∨ s.lmd.tx.isSome = true ∨ soundingRuns s = true ∨ (f.bandC = true ∧ s.lmd.lbt.isSome = true) →
    exec (.txFrame f) s = .next { s with fab := { s.fab with txq := f :: s.fab.txq } }) ∧
  (∀ (s : State) (f : TxFrame), s.lmd.tx = some f →
    ∃ t, exec .txDone s = .next t ∧ Raised F.LMD_CAUSE_TX_DONE s t ∧ get F.LMD_STATUS_STATE t = (if muting s then 5 else 1) ∧
      OnlyFlds [F.LMD_CAUSE_TX_DONE, F.LMD_STATUS_STATE, F.INT_HOST_PEND_PEND] { s with
        lmd := { s.lmd with tx := none, lastC := if f.bandC then some s.sup.mono else s.lmd.lastC }
        fab := { s.fab with await := if f.frame.ackReq then some f else s.fab.await, awaitAt := s.sup.mono } } t) ∧
  (∀ (s : State) (f : TxFrame), e9Up s = true → s.lmd.tx = none → s.lmd.lbt = some f → soundingRuns s = false →
    s.lmd.lastC = none ∨ get F.LMD_LBT_CFG_PAUSE s * 1024 ≤ (s.sup.mono - s.lmd.lastC.getD 0) * 1000 →
    txRefused f s = false →
    ∃ t, exec .lbtAccess s = .next t ∧ get F.LMD_STATUS_STATE t = 3 ∧ get F.LMD_STATUS_TX_BAND t = b2n f.bandC ∧
      get F.LMD_STATUS_LBT_BUSY t = 0 ∧
      OnlyFlds [F.LMD_STATUS_STATE, F.LMD_STATUS_TX_BAND, F.LMD_STATUS_LBT_BUSY] { s with
        lmd := { s.lmd with tx := some f, rx := none, lbt := none, lineUsed := true, txHeader := headerBits f s } } t) ∧
  (∀ (s : State) (f : TxFrame), e9Up s = true → s.lmd.tx = none → s.lmd.lbt = some f → soundingRuns s = false →
    s.lmd.lastC = none ∨ get F.LMD_LBT_CFG_PAUSE s * 1024 ≤ (s.sup.mono - s.lmd.lastC.getD 0) * 1000 →
    txRefused f s = true →
    ∃ t, exec .lbtAccess s = .next t ∧ Raised F.LMD_CAUSE_TX_REFUSED s t ∧ get F.LMD_STATUS_LBT_BUSY t = 0 ∧
      OnlyFlds [F.LMD_CAUSE_TX_REFUSED, F.INT_HOST_PEND_PEND, F.LMD_STATUS_LBT_BUSY] { s with
        lmd := { s.lmd with lbt := none }
        fab := { s.fab with txq := f :: s.fab.txq } } t) ∧
  (∀ (s : State) (e : Nat), s.lmd.lastC = some e → (s.sup.mono - e) * 1000 < get F.LMD_LBT_CFG_PAUSE s * 1024 →
    exec .lbtAccess s = .next s) ∧
  (∀ (s : State), (s.lmd.tx = none → exec .txDone s = .next s ∧ exec .drvFault s = .next s) ∧
      (s.lmd.lbt = none ∨ e9Up s = false ∨ s.lmd.tx.isSome = true ∨ soundingRuns s = true → exec .lbtAccess s = .next s) ∧
      (s.lmd.lbt = none ∨ s.sup.mono < s.lmd.lbtAt + 5120 → exec .lbtTimeout s = .next s) ∧
      (s.lmd.rx = none ∨ e9Up s = false → exec .rxFrameDrop s = .next s)) ∧
  (∀ (s : State) (f : TxFrame), s.lmd.lbt = some f → s.lmd.lbtAt + 5120 ≤ s.sup.mono →
    ∃ t, exec .lbtTimeout s = .next t ∧ Raised F.LMD_CAUSE_LBT_TIMEOUT s t ∧ get F.LMD_STATUS_LBT_BUSY t = 1 ∧
      OnlyFlds [F.LMD_CAUSE_LBT_TIMEOUT, F.LMD_STATUS_LBT_BUSY, F.INT_HOST_PEND_PEND] { s with
        lmd := { s.lmd with lbt := none }
        fab := { s.fab with txq := f :: s.fab.txq } } t) ∧
  (∀ (s : State) (f : TxFrame), s.lmd.tx = some f →
    ∃ t, exec .drvFault s = .next t ∧ Raised F.LMD_CAUSE_DRV_FAULT s t ∧ Raised F.LMD_CAUSE_TX_ABORT s t ∧
      get F.LMD_STATUS_STATE t = (if muting s then 5 else 1) ∧
      OnlyFlds [F.LMD_CAUSE_DRV_FAULT, F.LMD_CAUSE_TX_ABORT, F.LMD_STATUS_STATE, F.INT_HOST_PEND_PEND] { s with
        lmd := { s.lmd with tx := none }
        fab := { s.fab with await := if f.frame.ackReq then some f else s.fab.await, awaitAt := s.sup.mono } } t) ∧
  (∀ (s : State) (b : Bool), e9Up s = true → s.lmd.rx = some b →
    ∃ t, exec .rxFrameDrop s = .next t ∧ Raised F.LMD_CAUSE_RX_FAIL s t ∧ get F.LMD_STATUS_STATE t = (if muting s then 5 else 1) ∧
      OnlyFlds [F.LMD_CAUSE_RX_FAIL, F.LMD_STATUS_STATE, F.INT_HOST_PEND_PEND] { s with lmd := { s.lmd with rx := none } } t) ∧
  (∀ (s : State) (c : Bool), e9Up s = true → s.lmd.tx = none → soundingRuns s = false → bandOn c s = true →
    s.lmd.rx = none →
    ∃ t, exec (.preambleDetected c) s = .next t ∧ get F.LMD_STATUS_STATE t = 2 ∧ get F.LMD_STATUS_RX_BAND t = b2n c ∧
      OnlyFlds [F.LMD_STATUS_STATE, F.LMD_STATUS_RX_BAND] { s with lmd := { s.lmd with rx := some c } } t) ∧
  (∀ (s : State) (c : Bool), e9Up s = true → s.lmd.tx = none → soundingRuns s = false → bandOn c s = true →
    s.lmd.rx = some (!c) → ∃ t, exec (.preambleDetected c) s = .next t ∧ Raised F.LMD_CAUSE_RX_MISSED s t ∧
      OnlyFlds [F.LMD_CAUSE_RX_MISSED, F.INT_HOST_PEND_PEND] s t) ∧
  (∀ (s : State) (c : Bool),
    e9Up s = false ∨ s.lmd.tx.isSome = true ∨ soundingRuns s = true ∨ bandOn c s = false ∨ s.lmd.rx = some c →
    exec (.preambleDetected c) s = .next s) ∧
  (∀ (s : State) (xs : List Int) (b : Blanker), e9Up s = true → xs ≠ [] →
    b = blankSecond (get F.LMD_CFG_BLANK_K s) xs s.lmd.blankWin s.lmd.blankAfter → 4 * blankedCount b.2.2 ≤ xs.length →
    ∃ t, exec (.blankingRatio xs) s = .next t ∧ get F.LMD_BLANK_RATIO t = 10000 * blankedCount b.2.2 / xs.length ∧
      OnlyFlds [F.LMD_BLANK_RATIO] { s with lmd := { s.lmd with blankWin := b.1, blankAfter := b.2.1 } } t) ∧
  (∀ (s : State) (xs : List Int) (b : Blanker), e9Up s = true → xs ≠ [] →
    b = blankSecond (get F.LMD_CFG_BLANK_K s) xs s.lmd.blankWin s.lmd.blankAfter → xs.length < 4 * blankedCount b.2.2 →
    ∃ t, exec (.blankingRatio xs) s = .next t ∧ get F.LMD_BLANK_RATIO t = 10000 * blankedCount b.2.2 / xs.length ∧
      Raised F.LMD_CAUSE_BLANK_HIGH s t ∧ OnlyFlds [F.LMD_BLANK_RATIO, F.LMD_CAUSE_BLANK_HIGH, F.INT_HOST_PEND_PEND]
        { s with lmd := { s.lmd with blankWin := b.1, blankAfter := b.2.1 } } t) ∧
  (∀ (s : State) (k : Nat) (xs : List Int) (win : List Int) (x : Int) (m : List Bool), e9Up s = false →
    exec (.blankingRatio xs) s = .next s ∧ exec .zeroCrossing s = .next s ∧
      (impulse k win x = true ↔ k ≠ 0 ∧ win ≠ [] ∧
        k ^ 2 * ((win.take 1024).map fun v => v.natAbs ^ 2).sum < x.natAbs ^ 2 * (win.take 1024).length) ∧
      (impulse k win x = true → (blankStep k (win, 0, false :: false :: m) x).2 = (2, true :: true :: true :: m))) ∧
  (∀ (s : State) (c : Nat) (n : Nat × Nat × Nat), e9Up s = true → zcChannel s = some c → s.fab.num = some n →
    ∃ t, exec .zeroCrossing s = .next t ∧ get F.LMD_STATUS_ZC_VALID t = 1 ∧ get F.LMD_STATUS_ZC_SUBST t = (if c = 0 then 0 else 1) ∧
      get F.LMD_ZC_CYCLE_CYCLE t = (get F.LMD_ZC_CYCLE_CYCLE s + 1) % 2 ^ 32 ∧
      get F.FAB_FCN_FCN t = (get F.LMD_ZC_CYCLE_CYCLE s + 1 + n.1) % 2 ^ 32 ∧ get F.FAB_STATUS_FCN_VALID t = 1 ∧
      OnlyFlds [F.LMD_STATUS_ZC_VALID, F.LMD_STATUS_ZC_SUBST, F.LMD_ZC_CYCLE_CYCLE, F.FAB_FCN_FCN, F.FAB_STATUS_FCN_VALID]
        { s with lmd := { s.lmd with zcSeen := true, zcAt := (nowUs s : Int) - vaDelayUs s } } t) ∧
  (∀ (s : State), e9Up s = true → get F.PHE_CFG_WIRING s = 0 ∨ trackerHolds s = false →
    flag F.LMD_STATUS_ZC_VALID s = true → s.lmd.zcSeen = true → s.fab.num = none →
    ∃ t, exec .zeroCrossing s = .next t ∧ Raised F.LMD_CAUSE_ZC_LOST s t ∧ get F.LMD_STATUS_ZC_VALID t = 0 ∧
      get F.LMD_STATUS_ZC_SUBST t = 0 ∧ get F.LMD_ZC_CYCLE_CYCLE t = (get F.LMD_ZC_CYCLE_CYCLE s + 1) % 2 ^ 32 ∧
      get F.FAB_FCN_FCN t = 0 ∧ get F.FAB_STATUS_FCN_VALID t = 0 ∧
      OnlyFlds [F.LMD_CAUSE_ZC_LOST, F.INT_HOST_PEND_PEND, F.LMD_STATUS_ZC_VALID, F.LMD_STATUS_ZC_SUBST, F.LMD_ZC_CYCLE_CYCLE,
        F.FAB_FCN_FCN, F.FAB_STATUS_FCN_VALID] { s with lmd := { s.lmd with zcAt := (nowUs s : Int) - vaDelayUs s } } t) ∧
  (∀ (s : State), e9Up s = true → zcChannel s = none → flag F.LMD_STATUS_ZC_VALID s = false → s.lmd.zcSeen = false →
    ∃ t, exec .zeroCrossing s = .next t ∧ get F.LMD_STATUS_ZC_VALID t = 0 ∧ get F.LMD_STATUS_ZC_SUBST t = 0 ∧
      OnlyFlds [F.LMD_STATUS_ZC_VALID, F.LMD_STATUS_ZC_SUBST] s t) ∧
  (∀ (s : State), trackerHolds s = true → get F.PHE_CFG_WIRING s ≠ 0 → zcChannel s = (if qualifies 0 s then some 0
        else if (get F.FLT_STATUS_TRK_REF s = 1 ∨ get F.FLT_STATUS_TRK_REF s = 2) ∧ qualifies (get F.FLT_STATUS_TRK_REF s) s then
          some (get F.FLT_STATUS_TRK_REF s)
        else none))

/-- Well-sounding: requests taken, merged or refused, the start of a measurement, its results, baseline and verdict, timeout, repeats -/
def Obligations.Sounding : Prop :=
  (∀ (s : State) (m : Master) (w : Word), Writable m R.LMD_SND_CTL s → arg F.LMD_SND_CTL_KEY w = 0xA3 →
    arg F.LMD_SND_CTL_START w = 1 → arg F.LMD_SND_CTL_BASELINE w = 0 → get F.LMD_SND_STATUS_STATE s = 0 → e9Up s = true →
    s.ld.tables.fabric.isSome = true → flag F.LMD_CFG_BAND_A s = true → inPass s = false → guarded s = false →
    muting s = false → 49 * 1024 ≤ (share 1 s).2 → flag F.LMD_STATUS_HOT s = false →
    ∃ t, exec (.soundingStart m w) s = .next t ∧ get F.LMD_SND_STATUS_STATE t = 1 ∧
      OnlyFlds [F.LMD_SND_STATUS_STATE] { s with lmd := { s.lmd with sndSince := some s.sup.mono } } t) ∧
  (∀ (s : State) (m : Master) (w : Word), Writable m R.LMD_SND_CTL s → arg F.LMD_SND_CTL_KEY w = 0xA3 →
    arg F.LMD_SND_CTL_START w = 1 → arg F.LMD_SND_CTL_BASELINE w = 0 → get F.LMD_SND_STATUS_STATE s = 0 →
    s.ld.tables.fabric = none ∨ flag F.LMD_CFG_BAND_A s = false ∨ inPass s = true ∨ guarded s = true ∨ muting s = true ∨ flag F.LMD_STATUS_HOT s = true ∨ e9Up s = false ∨ (share 1 s).2 < 49 * 1024 →
    ∃ t, exec (.soundingStart m w) s = .next t ∧ Raised F.LMD_CAUSE_SND_REFUSED s t ∧ get F.LMD_SND_STATUS_STATE t = 0 ∧
      get F.LMD_SND_STATUS_RESULT t = 3 ∧ get F.LMD_SND_STATUS_ABORT t = 6 ∧
      OnlyFlds [F.LMD_CAUSE_SND_REFUSED, F.INT_HOST_PEND_PEND, F.LMD_SND_STATUS_STATE, F.LMD_SND_STATUS_RESULT, F.LMD_SND_STATUS_ABORT]
        { s with lmd := { s.lmd with sndSince := none } } t) ∧
  (∀ (s : State) (m : Master) (w : Word), Writable m R.LMD_SND_CTL s → arg F.LMD_SND_CTL_BASELINE w = 0 →
    get F.LMD_SND_STATUS_STATE s ≠ 0 ∨ arg F.LMD_SND_CTL_START w = 0 →
    exec (.soundingStart m w) s = .next s ∧ exec (.soundingBaseline m w) s = .next s) ∧
  (∀ (s : State) (m : Master) (w : Word), Writable m R.LMD_SND_CTL s → arg F.LMD_SND_CTL_KEY w ≠ 0xA3 →
    exec (.soundingStart m w) s = .next s ∧ exec (.soundingBaseline m w) s = .next s) ∧
  (∀ (s : State) (m : Master) (w : Word), Writable m R.LMD_SND_CTL s → arg F.LMD_SND_CTL_KEY w = 0xA3 →
    arg F.LMD_SND_CTL_BASELINE w = 1 → get F.LMD_SND_STATUS_STATE s = 0 → soundingAllowed s = true →
    ∃ t, exec (.soundingBaseline m w) s = .next t ∧ get F.LMD_SND_STATUS_STATE t = 1 ∧
      OnlyFlds [F.LMD_SND_STATUS_STATE] { s with lmd := { s.lmd with sndBase := true, sndSince := some s.sup.mono } } t) ∧
  (∀ (s : State) (m : Master) (w : Word), Writable m R.LMD_SND_CTL s → arg F.LMD_SND_CTL_KEY w = 0xA3 →
    arg F.LMD_SND_CTL_BASELINE w = 1 → get F.LMD_SND_STATUS_STATE s ≠ 0 →
    exec (.soundingBaseline m w) s = .next { s with lmd := { s.lmd with sndBase := true } }) ∧
  (∀ (s : State) (m : Master) (w : Word), Writable m R.LMD_SND_CTL s → arg F.LMD_SND_CTL_KEY w = 0xA3 →
    arg F.LMD_SND_CTL_BASELINE w = 1 → get F.LMD_SND_STATUS_STATE s = 0 → soundingAllowed s = false →
    ∃ t, exec (.soundingBaseline m w) s = .next t ∧ Raised F.LMD_CAUSE_SND_REFUSED s t ∧ get F.LMD_SND_STATUS_STATE t = 0 ∧
      get F.LMD_SND_STATUS_RESULT t = 3 ∧ get F.LMD_SND_STATUS_ABORT t = 6 ∧
      OnlyFlds [F.LMD_CAUSE_SND_REFUSED, F.INT_HOST_PEND_PEND, F.LMD_SND_STATUS_STATE, F.LMD_SND_STATUS_RESULT, F.LMD_SND_STATUS_ABORT]
        { s with lmd := { s.lmd with sndBase := true, sndSince := none } } t) ∧
  (∀ (s : State) (sums : List Byte),
    (e9Up s = false ∨ ((get F.LMD_SND_CFG_PERIOD s = 0 ∨ s.sup.mono < s.lmd.sndLast + 61440 * get F.LMD_SND_CFG_PERIOD s) ∧
        (s.lmd.verifAt = none ∨ s.sup.mono < s.lmd.verifAt.getD 0 + 5120)) → exec .soundingPeriod s = .next s) ∧
      (e9Up s = false ∨ get F.LMD_SND_STATUS_STATE s ≠ 1 ∨ s.lmd.tx.isSome = true → exec .soundingMediumWon s = .next s) ∧
      (e9Up s = false ∨ soundingRuns s = false → exec (.soundingDone sums) s = .next s) ∧
      (s.lmd.sndSince = none ∨ s.sup.mono < s.lmd.sndSince.getD 0 + 61440 ∨ get F.LMD_SND_STATUS_STATE s ≠ 1 →
        exec .soundingTimeout s = .next s) ∧
      (s.lmd.sndRepeat = none ∨ s.sup.mono < s.lmd.sndRepeat.getD 0 → exec .soundingRepeat s = .next s)) ∧
  (∀ (s : State), e9Up s = true → get F.LMD_SND_CFG_PERIOD s ≠ 0 →
    s.lmd.sndLast + 61440 * get F.LMD_SND_CFG_PERIOD s ≤ s.sup.mono → s.lmd.verifAt = none →
    get F.LMD_SND_STATUS_STATE s = 0 → soundingAllowed s = true →
    ∃ t, exec .soundingPeriod s = .next t ∧ get F.LMD_SND_STATUS_STATE t = 1 ∧
      OnlyFlds [F.LMD_SND_STATUS_STATE] { s with lmd := { s.lmd with sndLast := s.sup.mono, sndSince := some s.sup.mono } } t) ∧
  (∀ (s : State) (v : Nat), get F.LMD_SND_CFG_PERIOD s = 0 → s.lmd.verifAt = some v → v + 5120 ≤ s.sup.mono →
    get F.LMD_SND_STATUS_STATE s = 0 → soundingAllowed s = true →
    ∃ t, exec .soundingPeriod s = .next t ∧ get F.LMD_SND_STATUS_STATE t = 1 ∧
      OnlyFlds [F.LMD_SND_STATUS_STATE] { s with
        lmd := { s.lmd with verifAt := none, repeatRly := false, sndSince := some s.sup.mono } } t) ∧
  (∀ (s : State), e9Up s = true → get F.LMD_SND_CFG_PERIOD s ≠ 0 →
    s.lmd.sndLast + 61440 * get F.LMD_SND_CFG_PERIOD s ≤ s.sup.mono → s.lmd.verifAt = none →
    get F.LMD_SND_STATUS_STATE s ≠ 0 ∨ soundingAllowed s = false →
    ∃ t, exec .soundingPeriod s = .next t ∧ t.lmd.sndLast = s.sup.mono ∧
      (get F.LMD_SND_STATUS_STATE s ≠ 0 → t = { s with lmd := { s.lmd with sndLast := s.sup.mono } }) ∧
      (get F.LMD_SND_STATUS_STATE s = 0 → Raised F.LMD_CAUSE_SND_REFUSED s t ∧ get F.LMD_SND_STATUS_STATE t = 0 ∧
        get F.LMD_SND_STATUS_ABORT t = 6)) ∧
  (∀ (s : State), get F.LMD_SND_STATUS_STATE s = 1 → s.lmd.tx = none → get F.SPE_CAP_STATUS_STATE s ≠ 2 →
    soundingAllowed s = true → coilPulse s = false →
    ∃ t, exec .soundingMediumWon s = .next t ∧ get F.LMD_SND_STATUS_STATE t = 2 ∧ get F.LMD_STATUS_STATE t = 4 ∧
      OnlyFlds [F.LMD_SND_STATUS_STATE, F.LMD_STATUS_STATE] { s with lmd := { s.lmd with
        sndSince := none, rx := none, lineUsed := true } } t) ∧
  (∀ (s : State), e9Up s = true → get F.LMD_SND_STATUS_STATE s = 1 → s.lmd.tx = none → get F.SPE_CAP_STATUS_STATE s = 2 →
    ∃ t, exec .soundingMediumWon s = .next t ∧ Raised F.LMD_CAUSE_SND_REFUSED s t ∧ Raised F.SPE_CAUSE_SOUND_REFUSED s t ∧
      get F.LMD_SND_STATUS_STATE t = 0 ∧ get F.LMD_SND_STATUS_RESULT t = 3 ∧ get F.LMD_SND_STATUS_ABORT t = 4 ∧
      OnlyFlds [F.LMD_CAUSE_SND_REFUSED, F.SPE_CAUSE_SOUND_REFUSED, F.INT_HOST_PEND_PEND, F.LMD_SND_STATUS_STATE,
        F.LMD_SND_STATUS_RESULT, F.LMD_SND_STATUS_ABORT] { s with
        lmd := { s.lmd with sndSince := none, sndRepeat := some (s.sup.mono + 61440) } } t) ∧
  (∀ (s : State), get F.LMD_SND_STATUS_STATE s = 1 → s.lmd.tx = none → get F.SPE_CAP_STATUS_STATE s ≠ 2 →
    soundingAllowed s = true → coilPulse s = true →
    ∃ t, exec .soundingMediumWon s = .next t ∧ Raised F.LMD_CAUSE_SND_ABORT s t ∧ get F.LMD_SND_STATUS_STATE t = 0 ∧
      get F.LMD_SND_STATUS_RESULT t = 3 ∧ get F.LMD_SND_STATUS_ABORT t = 3 ∧ get F.LMD_STATUS_STATE t = 1 ∧
      OnlyFlds [F.LMD_CAUSE_SND_ABORT, F.INT_HOST_PEND_PEND, F.LMD_SND_STATUS_STATE, F.LMD_SND_STATUS_RESULT,
        F.LMD_SND_STATUS_ABORT, F.LMD_STATUS_STATE] { s with
        lmd := { s.lmd with sndSince := none, rx := none, lineUsed := true, repeatRly := true } } t) ∧
  (∀ (s : State), e9Up s = true → get F.LMD_SND_STATUS_STATE s = 1 → s.lmd.tx = none → get F.SPE_CAP_STATUS_STATE s ≠ 2 →
    soundingAllowed s = false →
    ∃ t, exec .soundingMediumWon s = .next t ∧ Raised F.LMD_CAUSE_SND_REFUSED s t ∧ get F.LMD_SND_STATUS_STATE t = 0 ∧
      get F.LMD_SND_STATUS_RESULT t = 3 ∧ get F.LMD_SND_STATUS_ABORT t = 6 ∧
      OnlyFlds [F.LMD_CAUSE_SND_REFUSED, F.INT_HOST_PEND_PEND, F.LMD_SND_STATUS_STATE, F.LMD_SND_STATUS_RESULT, F.LMD_SND_STATUS_ABORT]
        { s with lmd := { s.lmd with sndSince := none } } t) ∧
  (∀ (s : State) (sums : List Byte), e9Up s = true → soundingRuns s = true → domOn 3 s = true → verifiedIndex s = none →
    ∃ t, exec (.soundingDone sums) s = .next t ∧ Raised F.LMD_CAUSE_SND_DONE s t ∧
      get F.LMD_SND_STATUS_STATE t = 0 ∧ get F.LMD_SND_STATUS_ABORT t = 0 ∧ get F.LMD_SND_STATUS_RESULT t = 0 ∧
      get F.LMD_SND_STATUS_SEQ t = (get F.LMD_SND_STATUS_SEQ s + 1) % 2 ^ 16 ∧
      get F.LMD_STATUS_STATE t = (if muting s then 5 else 1) ∧
      get F.LMD_SND_RES_ATTEN_MEAN t = wrapTo 16 (attenMean sums) ∧
      get F.LMD_SND_RES_CAP_EST t = capEst sums ∧
      (get F.LMD_STATUS_CAP_LOW t = 1 ↔ get F.LMD_SND_RES_CAP_EST t < get F.LMD_SND_CFG_CAP_MIN s * get F.LMD_CFG_CAP_NOM s) ∧
      (get F.LMD_STATUS_CAP_LOW t = 1 → Raised F.LMD_CAUSE_CAP_LOW s t) ∧
      OnlyFlds [F.LMD_CAUSE_SND_DONE, F.LMD_CAUSE_CAP_LOW, F.INT_HOST_PEND_PEND, F.LMD_SND_STATUS_STATE, F.LMD_SND_STATUS_ABORT,
        F.LMD_SND_STATUS_RESULT, F.LMD_SND_STATUS_SEQ, F.LMD_STATUS_STATE, F.LMD_SND_RES_ATTEN_MEAN, F.LMD_SND_RES_CAP_EST,
        F.LMD_STATUS_CAP_LOW]
        (wrBytes ((share 1 s).1 + 0xC000) (soundTable sums) (wrBytes (share 1 s).1 (sums.take 0xC000) s)) t) ∧
  (∀ (s : State) (sums : List Byte), e9Up s = true → soundingRuns s = true → domOn 3 s = false → verifiedIndex s = none →
    ∃ t, exec (.soundingDone sums) s = .next t ∧ Raised F.LMD_CAUSE_SND_DONE s t ∧ get F.LMD_SND_STATUS_STATE t = 0 ∧
      get F.LMD_SND_STATUS_RESULT t = 0 ∧ t.mem = s.mem) ∧
  (∀ (s : State) (sums : List Byte) (r : Nat), e9Up s = true → soundingRuns s = true → verifiedIndex s = some r →
    s.lmd.sndBase = false → get (F.LMD_SND_BASE_VALID r) s = 0 →
    ∃ t, exec (.soundingDone sums) s = .next t ∧ Raised F.LMD_CAUSE_SND_DONE s t ∧ get F.LMD_SND_STATUS_STATE t = 0 ∧
      get F.LMD_SND_STATUS_RESULT t = 0 ∧ producer 12 t = producer 12 s) ∧
  (∀ (s : State) (sums : List Byte) (r : Nat), e9Up s = true → soundingRuns s = true → verifiedIndex s = some r →
    s.lmd.sndBase = true →
    ∃ t, exec (.soundingDone sums) s = .next t ∧ Raised F.LMD_CAUSE_SND_DONE s t ∧ Raised F.LMD_CAUSE_BASELINE_DONE s t ∧
      t.lmd.sndBase = false ∧ get (F.LMD_SND_BASE_VALID r) t = 1 ∧
      get (F.LMD_SND_BASE_ATTEN r) t = wrapTo 16 (attenMean sums) ∧
      get F.LMD_SND_STATUS_RESULT t = 0 ∧ get F.LMD_SND_STATUS_STATE t = 0 ∧ fbit F.CIS_STATUS_DIRTY 3 t = true ∧
      nth none (held {} t.cis.b3.sound).base r = (if r < (held {} s.cis.b3.sound).base.length then
        some (wrapTo 16 (attenMean sums),
          capEst sums, rtc s) else none)) ∧
  (∀ (s : State) (sums : List Byte) (r : Nat), e9Up s = true → soundingRuns s = true → verifiedIndex s = some r →
    s.lmd.sndBase = false → get (F.LMD_SND_BASE_VALID r) s = 1 →
    ∃ t, exec (.soundingDone sums) s = .next t ∧ fbit F.LMD_CAUSE_SND_DONE 0 t = true ∧
      ((attenMean sums) < getS (F.LMD_SND_BASE_ATTEN r) s - 10 * (get F.LMD_SND_CFG_BYP_DROP s : Int) →
        get F.LMD_SND_STATUS_RESULT t = 2 ∧ fbit F.LMD_CAUSE_BYPASS 0 t = true ∧ producer 12 t = true) ∧
      (getS (F.LMD_SND_BASE_ATTEN r) s - 10 * (get F.LMD_SND_CFG_BYP_DROP s : Int) ≤ (attenMean sums) →
        get F.LMD_SND_STATUS_RESULT t = 1 ∧ producer 12 t = false)) ∧
  (∀ (s : State) (a : Nat), get F.LMD_SND_STATUS_STATE s = 1 → s.lmd.sndSince = some a → a + 61440 ≤ s.sup.mono →
    ∃ t, exec .soundingTimeout s = .next t ∧ Raised F.LMD_CAUSE_SND_REFUSED s t ∧ get F.LMD_SND_STATUS_STATE t = 0 ∧
      get F.LMD_SND_STATUS_RESULT t = 3 ∧ get F.LMD_SND_STATUS_ABORT t = 7 ∧
      OnlyFlds [F.LMD_CAUSE_SND_REFUSED, F.INT_HOST_PEND_PEND, F.LMD_SND_STATUS_STATE, F.LMD_SND_STATUS_RESULT, F.LMD_SND_STATUS_ABORT]
        { s with lmd := { s.lmd with sndSince := none } } t) ∧
  (∀ (s : State) (a : Nat), s.lmd.sndRepeat = some a → a ≤ s.sup.mono → get F.LMD_SND_STATUS_STATE s = 0 →
    soundingAllowed s = true → ∃ t, exec .soundingRepeat s = .next t ∧ get F.LMD_SND_STATUS_STATE t = 1 ∧
      OnlyFlds [F.LMD_SND_STATUS_STATE] { s with lmd := { s.lmd with sndRepeat := none, sndSince := some s.sup.mono } } t) ∧
  (∀ (s : State) (a : Nat), domOn 9 s = true → s.lmd.sndRepeat = some a → a ≤ s.sup.mono →
    get F.LMD_SND_STATUS_STATE s ≠ 0 ∨ soundingAllowed s = false →
    ∃ t, exec .soundingRepeat s = .next t ∧ t.lmd.sndRepeat = none ∧
      (get F.LMD_SND_STATUS_STATE s ≠ 0 → t = { s with lmd := { s.lmd with sndRepeat := none } }) ∧
      (get F.LMD_SND_STATUS_STATE s = 0 → Raised F.LMD_CAUSE_SND_REFUSED s t ∧ get F.LMD_SND_STATUS_STATE t = 0 ∧
        get F.LMD_SND_STATUS_ABORT t = 6))

/-- The fabric's link layer and addresses: frames taken or dropped, acks, repeats and failed links, contention slots, claims and conflicts -/
def Obligations.FabricLink : Prop :=
  (∀ (s : State) (i : RxInfo) (f : FabFrame) (k : Nat × Nat), canReceive i s = true → e10Up s = true →
    f.fcs = frameFcs f ∧ f.nwk = get F.FAB_CFG_NWK_ID s → (linkKeys f.key 2 8 s).1 = some k → f.mic = frameMic k.2 f →
    newerPair f s = true → f.left ≠ 0 → i.bandC = false →
    (accept i f s).1 = true ∧ Raised F.LMD_CAUSE_RX_FRAME s (accept i f s).2 ∧
      (accept i f s).2.fab.heardAt = s.sup.mono ∧
      (∃ b, (accept i f s).2.fab.nbrs.getLast? = some b ∧ b.name = f.lsrc ∧ b.run = f.run ∧ b.fcnt = f.fcnt ∧
        b.heard = s.sup.mono ∧ b.failed = false ∧
        b.snr8 = (match nbrOf f.lsrc s with | none => 8 * i.snr | some o => o.snr8 + (i.snr - o.snr8 / 8))) ∧
      (accept i f s).2.fab = { s.fab with nbrs := (accept i f s).2.fab.nbrs, heardAt := s.sup.mono } ∧
      (accept i f s).2 = { s with
        regs := (accept i f s).2.regs
        well := { s.well with slots := (accept i f s).2.well.slots, lastLoad := (accept i f s).2.well.lastLoad }
        lmd := { s.lmd with rx := none }
        fab := (accept i f s).2.fab }) ∧
  (∀ (s : State) (i : RxInfo) (f : FabFrame), canReceive i s = true → f.fcs ≠ frameFcs f ∨ f.nwk ≠ get F.FAB_CFG_NWK_ID s →
    accept i f s = (false, rxReport i s) ∧ get (F.TAMP_FC_STAT_TOTAL 46) (rxReport i s) = get (F.TAMP_FC_STAT_TOTAL 46) s) ∧
  (∀ (s : State) (i : RxInfo) (f : FabFrame) (k : Nat × Nat), canReceive i s = true → e10Up s = true →
    f.fcs = frameFcs f ∧ f.nwk = get F.FAB_CFG_NWK_ID s → (linkKeys f.key 2 8 s).1 = some k →
    f.mic ≠ frameMic k.2 f ∨ newerPair f s = false → s.Inv →
    (accept i f s).1 = false ∧ fbit F.FAB_CAUSE_MIC_FAIL 0 (accept i f s).2 = true ∧
      get (F.FAB_COUNT_COUNT 3) (accept i f s).2 = min (2 ^ 32 - 1) (get (F.FAB_COUNT_COUNT 3) s + 1) ∧
      get (F.TAMP_FC_STAT_TOTAL 46) (accept i f s).2 =
        min (2 ^ (F.TAMP_FC_STAT_TOTAL 46).width - 1) (get (F.TAMP_FC_STAT_TOTAL 46) s + 1)) ∧
  (∀ (s : State) (i : RxInfo) (f : FabFrame), canReceive i s = true → e10Up s = true → f.nwk = get F.FAB_CFG_NWK_ID s →
    (linkKeys f.key 2 8 s).1 = none → (accept i f s).1 = false ∧ (accept i f s).2.fab = s.fab ∧
      get (F.TAMP_FC_STAT_TOTAL 46) (accept i f s).2 = get (F.TAMP_FC_STAT_TOTAL 46) s) ∧
  (∀ (s : State) (i : RxInfo) (f : FabFrame) (k : Nat × Nat), canReceive i s = true → e10Up s = true →
    f.fcs = frameFcs f ∧ f.nwk = get F.FAB_CFG_NWK_ID s → (linkKeys f.key 2 8 s).1 = some k → f.mic = frameMic k.2 f →
    newerPair f s = true → f.left = 0 → (accept i f s).1 = false ∧ (accept i f s).2.fab.heardAt = s.sup.mono ∧
      get (F.FAB_COUNT_COUNT 3) (accept i f s).2 = min (2 ^ 32 - 1) (get (F.FAB_COUNT_COUNT 3) s + 1)) ∧
  (∀ (s : State) (i : RxInfo) (f : FabFrame), canReceive i s = false → accept i f s = (false, s)) ∧
  (∀ (s : State) (i : RxInfo) (f : FabFrame), (accept i f s).1 = false →
    exec (.dataRx i f) s = .next (accept i f s).2 ∧ exec (.ackRx i f) s = .next (accept i f s).2 ∧
      exec (.routeAdvertisement i f) s = .next (accept i f s).2 ∧ exec (.routeRequest i f) s = .next (accept i f s).2 ∧
      exec (.routeReply i f) s = .next (accept i f s).2 ∧ exec (.claimRx i f) s = .next (accept i f s).2 ∧
      exec (.conflictRx i f) s = .next (accept i f s).2 ∧ exec (.announcement i f) s = .next (accept i f s).2 ∧
      exec (.rescueBeacon i f) s = .next (accept i f s).2 ∧ exec (.candidateRx i f) s = .next (accept i f s).2 ∧
      exec (.beaconRx i f) s = .next (accept i f s).2 ∧ exec (.joinRx i f) s = .next (accept i f s).2 ∧
      exec (.assignRx i f) s = .next (accept i f s).2) ∧
  (∀ (s : State), s.Inv → isLasting 46 s = false → isLasting 46 (occurrence 46 0 0 s) = true →
    get F.FAB_STATUS_MODE (fabFault s) = 6 ∧ (fabFault s).fab.nbrs = [] ∧ (fabFault s).fab.routes = [] ∧
      (fabFault s).fab.keepAddr = true ∧ fbit F.FAB_CAUSE_LOST 0 (fabFault s) = true) ∧
  (∀ (s : State) (i : RxInfo) (f : FabFrame) (x : TxFrame) (n : Node), (accept i f s).1 = true → f.body = .ack →
    s.fab.await = some x → x.frame.ldst = some n → sameNode n f.lsrc s = true → forMe f s = true →
    exec (.ackRx i f) s = .next { (accept i f s).2 with fab := { (accept i f s).2.fab with await := none } }) ∧
  (∀ (s : State) (i : RxInfo) (f : FabFrame), (accept i f s).1 = true → f.body = .ack →
    s.fab.await = none ∨ forMe f s = false ∨ ((s.fab.await.bind fun x => x.frame.ldst).map fun n => sameNode n f.lsrc s) ≠ some true →
    exec (.ackRx i f) s = .next (accept i f s).2) ∧
  (∀ (s : State) (x : TxFrame), s.fab.await = some x → s.lmd.rx = none → 2 * 1024 ≤ 1000 * (s.sup.mono - s.fab.awaitAt) →
    x.tries < get F.FAB_CFG_RETRY s →
    exec .ackTimeout s = .next { s with fab := { s.fab with await := none, txq := { x with tries := x.tries + 1 } :: s.fab.txq } }) ∧
  (∀ (s : State) (x : TxFrame) (n : Node), s.fab.await = some x → s.lmd.rx = none →
    2 * 1024 ≤ 1000 * (s.sup.mono - s.fab.awaitAt) → get F.FAB_CFG_RETRY s ≤ x.tries → x.frame.ldst = some n →
    exec .ackTimeout s = .next (reroute x (failLink n { s with fab := { s.fab with await := none } }))) ∧
  (∀ (s : State), s.fab.await = none ∨ s.lmd.rx ≠ none ∨ 1000 * (s.sup.mono - s.fab.awaitAt) < 2 * 1024 →
    exec .ackTimeout s = .next s) ∧
  (∀ (s : State) (n : Node), ¬s.fab.nbrs = [] → (failLink n s).fab = { s.fab with
        nbrs := s.fab.nbrs.map fun b => if sameNode b.name n s then { b with failed := true } else b
        routes := s.fab.routes.filter fun r => !(sameNode r.next n s) } ∧
      OnlyFlds tablesShown { s with fab := (failLink n s).fab } (failLink n s)) ∧
  (∀ (s : State) (x : TxFrame) (n : Node), x.frame.dest = .node n → x.rerouted = true →
    get (F.FAB_COUNT_COUNT 3) (reroute x s) = min (2 ^ 32 - 1) (get (F.FAB_COUNT_COUNT 3) s + 1) ∧
      OnlyFlds [F.FAB_COUNT_COUNT 3] s (reroute x s)) ∧
  (∀ (s : State) (x : TxFrame) (n m : Node), x.frame.dest = .node n → x.rerouted = false → nextHop n s = some m →
    reroute x s = { s with fab := { s.fab with
        txq := s.fab.txq ++ [{ x with frame := { x.frame with ldst := some m }, tries := 0, rerouted := true }] } }) ∧
  (∀ (s : State) (x : TxFrame) (a : Nat), x.frame.dest = .node (.short a) → x.rerouted = false →
    nextHop (.short a) s = none → s.fab.fcnt ≠ 0xFFFFFFFF →
    Sent 0 [] (freshFrame { dest := .broadcast, left := 15, body := .routeReq s.fab.reqId a } s)
        { s with fab := { s.fab with
          reqId := (s.fab.reqId + 1) % 65536
          heldFrames := s.fab.heldFrames ++ [(x.frame, s.fab.reqId, s.sup.mono)] } } (reroute x s)) ∧
  (∀ (s : State) (slot p : Nat) (x : TxFrame) (k : Nat × Nat),
    e9Up s = true ∧ e10Up s = true ∧ get F.FAB_STATUS_MODE s < 3 → s.fab.await = none ∧ s.fab.passHeld = [] →
    (linkKeys (get F.FAB_STATUS_KEY_TX s) 1 4 s).1 = some k →
    (slot < 4 ∧ p = 0) ∨ (4 ≤ slot ∧ slot < 12 ∧ p = 1) ∨ (12 ≤ slot ∧ slot < 28 ∧ p = 2) →
    (s.fab.txq.find? fun y => y.bandC) = none → (s.fab.txq.find? fun y => !y.bandC && y.frame.prio == p) = some x →
    s.lmd.tx = none ∧ s.lmd.rx = none ∧ soundingRuns s = false →
    flag F.LMD_STATUS_VLD_LOW s = false ∧ flag F.LMD_STATUS_HOT s = false ∧ muting s = false ∧ flag F.LMD_CFG_BAND_A s = true →
    s.fab.fcnt + 1 < 0xFFFFFFFF → x.tries = 0 →
    ∃ t, exec (.contentionSlot slot true) s = .next t ∧ get F.LMD_STATUS_STATE t = 3 ∧
      t.fab = { s.fab with txq := s.fab.txq.erase x, seq := (s.fab.seq + 1) % 256, fcnt := s.fab.fcnt + 1 } ∧
      ∃ y, t.lmd.tx = some y ∧ y.frame.seq = s.fab.seq ∧ y.frame.fcnt = s.fab.fcnt ∧ y.frame.run = run s % 2 ^ 24 ∧
        y.frame.lsrc = myName s ∧ y.frame.nwk = get F.FAB_CFG_NWK_ID s ∧ y.frame.key = get F.FAB_STATUS_KEY_TX s ∧
        y.frame.osrc = x.frame.osrc ∧ y.frame.dest = x.frame.dest ∧ y.frame.body = numbered x.frame.body s ∧
        y.frame.cipher = cipherOf k.1 myEui y.frame ∧ y.frame.mic = frameMic k.2 y.frame ∧ y.frame.fcs = frameFcs y.frame ∧
        y.len = frameBytes y.frame) ∧
  (∀ (s : State) (slot : Nat) (idle : Bool) (x : TxFrame) (k : Nat × Nat),
    e9Up s = true ∧ e10Up s = true ∧ get F.FAB_STATUS_MODE s ≠ 6 → s.fab.await = none ∧ s.fab.passHeld = [] →
    (linkKeys (get F.FAB_STATUS_KEY_TX s) 1 4 s).1 = some k → slot < 28 → s.fab.txq = [x] ∧ x.bandC = true ∧ x.tries = 0 →
    s.lmd.tx = none ∧ s.lmd.lbt = none ∧ soundingRuns s = false →
    flag F.LMD_STATUS_VLD_LOW s = false ∧ flag F.LMD_STATUS_HOT s = false ∧ muting s = false ∧ flag F.LMD_CFG_BAND_C s = true →
    get F.LMD_LBT_CFG_MAX_TX s = 100 ∧ tones true s = 8 ∧ x.frame.body = .ack ∧ x.frame.segh = none →
    s.fab.fcnt + 1 < 0xFFFFFFFF →
    ∃ t, exec (.contentionSlot slot idle) s = .next t ∧ t.lmd.tx = none ∧ t.lmd.lbtAt = s.sup.mono ∧
      t.fab = { s.fab with txq := [], seq := (s.fab.seq + 1) % 256, fcnt := s.fab.fcnt + 1 } ∧
      ∃ y, t.lmd.lbt = some y ∧ y.frame.seq = s.fab.seq ∧ y.frame.fcnt = s.fab.fcnt ∧ y.frame.body = x.frame.body) ∧
  (∀ (s : State) (slot : Nat) (idle : Bool), s.fab.passHeld = [] → (s.fab.txq.find? fun y => y.bandC) = none →
    idle = false ∨ s.lmd.tx ≠ none ∨ s.lmd.rx ≠ none ∨ s.fab.await ≠ none ∨ e9Up s = false ∨ e10Up s = false ∨ get F.FAB_STATUS_MODE s = 6 ∨ s.fab.txq = [] →
    ∃ t, exec (.contentionSlot slot idle) s = .next t ∧ t.fab = s.fab ∧ t.lmd = s.lmd) ∧
  (∀ (s : State) (slot : Nat) (idle : Bool), s.fab.passHeld = [] → (linkKeys (get F.FAB_STATUS_KEY_TX s) 1 4 s).1 = none →
    ∃ t, exec (.contentionSlot slot idle) s = .next t ∧ t.fab = s.fab ∧ t.lmd = s.lmd) ∧
  (∀ (s : State) (us : Nat), 3 ≤ get F.FAB_STATUS_MODE s ∧ get F.FAB_STATUS_MODE s ≤ 5 →
    flag F.FAB_STATUS_FCN_VALID s = true →
    maySend us s = true ↔ 150000 ≤ superUs s ∧ superUs s < 995000 ∧ superUs s + us < 1000000) ∧
  (∀ (s : State) (b : Nbr), s.Inv → e10Up s = true →
    (s.fab.nbrs.filter fun x => decide (x.heard + 1024 * get F.FAB_TIMING_LOST s ≤ s.sup.mono)) = [b] →
    staysBelow 46 s = true → ∃ t, exec .neighbourLost s = .next t ∧ Raised F.FAB_CAUSE_NBR_LOST s t ∧ Counted 46 s t ∧
      t.fab = { s.fab with
        nbrs := s.fab.nbrs.filter fun x => x.name != b.name
        routes := s.fab.routes.filter fun r => !(r.next == b.name) } ∧
      OnlyFlds (F.FAB_CAUSE_NBR_LOST :: tablesShown ++ countedFlds 46) { s with
        fab := t.fab
        tamp := t.tamp
        cis := t.cis
        free := t.free } t) ∧
  (∀ (s : State),
    e10Up s = false ∨ (s.fab.nbrs.filter fun x => decide (x.heard + 1024 * get F.FAB_TIMING_LOST s ≤ s.sup.mono)) = [] →
    exec .neighbourLost s = .next s) ∧
  (∀ (s : State), s.Inv → e10Up s = true → flag F.FAB_ADDR_VALID s = false → s.fab.claim = none →
    inStartUp s = false ∧ get F.FAB_STATUS_MODE s ≠ 6 → s.fab.fcnt ≠ 0xFFFFFFFF →
    ∃ t, exec .addrClaim s = .next t ∧ get F.FAB_ADDR_CLAIMS t = min 65535 (get F.FAB_ADDR_CLAIMS s + 1) ∧
      Sent 0 [F.FAB_ADDR_CLAIMS] (freshFrame { dest := .broadcast, left := 2, body := .claim (candidate s) myEui } s)
        { s with fab := { s.fab with claim := some (candidate s, s.sup.mono) } } t) ∧
  (∀ (s : State),
    e10Up s = false ∨ flag F.FAB_ADDR_VALID s = true ∨ s.fab.claim ≠ none ∨ inStartUp s = true ∨ get F.FAB_STATUS_MODE s = 6 →
    exec .addrClaim s = .next s) ∧
  (∀ (s : State) (a : Nat), s.fab.recAddr = some a → s.fab.fails = 0 → candidate s = a) ∧
  (∀ (s : State), s.fab.recAddr = none ∨ s.fab.fails ≠ 0 → candidate s = (crc16 (be 8 myEui) + s.fab.fails) % 4096) ∧
  (∀ (s : State) (a at' : Nat), s.Inv → e10Up s = true → s.fab.claim = some (a, at') → a < 4096 →
    at' + 10240 ≤ s.sup.mono → s.fab.num ≠ none → e2Up s = true ∧ sessState 6 s = 0 →
    ∃ t, exec .claimTimeout s = .next t ∧ get F.FAB_ADDR_SHORT t = a ∧ get F.FAB_ADDR_VALID t = 1 ∧
      Raised F.FAB_CAUSE_ADDR_DONE s t ∧ (inForce t.cis.b3.fab).map (·.2) = some (fabRec t) ∧
      OnlyFlds [F.FAB_ADDR_SHORT, F.FAB_ADDR_VALID, F.FAB_CAUSE_ADDR_DONE, F.INT_HOST_PEND_PEND, F.CIS_STATUS_DIRTY] { s with
        fab := { s.fab with claim := none, fails := 0, recAddr := some a, recWait := false }
        cis := t.cis } t) ∧
  (∀ (s : State), e10Up s = false ∨ s.fab.claim = none ∨ s.sup.mono < (s.fab.claim.getD (0, 0)).2 + 10240 →
    exec .claimTimeout s = .next s) ∧
  (∀ (s : State) (i : RxInfo) (f : FabFrame) (a e : Nat), (accept i f s).1 = true → f.body = .claim a e → e ≠ myEui →
    get F.FAB_STATUS_MODE s ≠ 6 → isMe (.short a) s = true → f.left = 1 → s.fab.fcnt ≠ 0xFFFFFFFF →
    ∃ t, exec (.claimRx i f) s = .next t ∧
      Sent 0 [] (freshFrame { dest := .broadcast, left := 2, body := .conflict a myEui } (accept i f s).2)
        { (accept i f s).2 with fab := { (accept i f s).2.fab with seenReq := t.fab.seenReq } } t) ∧
  (∀ (s : State) (i : RxInfo) (f : FabFrame) (a e : Nat), (accept i f s).1 = true → f.body = .claim a e → e ≠ myEui →
    get F.FAB_STATUS_MODE s ≠ 6 → isMe (.short a) s = false ∧ knownEui a s = none → s.fab.seenReq = [] → 2 ≤ f.left →
    s.fab.fcnt ≠ 0xFFFFFFFF → ∃ t, exec (.claimRx i f) s = .next t ∧
      Sent 1 [] (ownFrame { f with ldst := none, ackReq := false, left := f.left - 1, taken := f.taken + 1 })
        { (accept i f s).2 with fab := { (accept i f s).2.fab with
          known := s.fab.known ++ [(a, e)]
          seenReq := [(.eui e, 2 ^ 33 + a, s.sup.mono)] } } t) ∧
  (∀ (s : State) (i : RxInfo) (f : FabFrame) (a e at' : Nat), (accept i f s).1 = true → f.body = .conflict a e →
    e ≠ myEui → s.fab.claim = some (a, at') → f.left = 1 → ∃ t, exec (.conflictRx i f) s = .next t ∧
      t = { (accept i f s).2 with fab := { (accept i f s).2.fab with claim := none, fails := s.fab.fails + 1, seenReq := t.fab.seenReq } }) ∧
  (∀ (s : State) (i : RxInfo) (f : FabFrame) (e : Nat), (accept i f s).1 = true →
    f.body = .conflict (get F.FAB_ADDR_SHORT s) e → flag F.FAB_ADDR_VALID s = true → s.fab.claim = none → f.left = 1 →
    ∃ t, exec (.conflictRx i f) s = .next t ∧ (e < myEui → get F.FAB_ADDR_VALID t = 0 ∧ fbit F.FAB_CAUSE_ADDR_CONFLICT 0 t = true ∧
        t.fab.fails = s.fab.fails + 1 ∧ t.fab.recAddr = none ∧ sessState 6 t = 0) ∧
      (myEui ≤ e → t = { (accept i f s).2 with fab := { (accept i f s).2.fab with seenReq := t.fab.seenReq } }))

/-- The fabric's routes: data delivered, forwarded or waiting for a route; head advertisements; route requests, replies, expiry, timeout -/
def Obligations.FabricRoutes : Prop :=
  (∀ (s : State) (i : RxInfo) (f : FabFrame) (b : List Byte), (accept i f s).1 = true →
    f.body = .data b ∧ f.segh = none ∧ f.ackReq = false →
    f.dest = .node (.short (get F.FAB_ADDR_SHORT s)) ∧ f.ldst = some (.short (get F.FAB_ADDR_SHORT s)) →
    flag F.FAB_ADDR_VALID s = true ∧ get F.FAB_STATUS_MODE s ≠ 6 → f.osrc = .eui 3 →
    1 ≤ field b 0 1 ∧ field b 0 1 ≤ 8 ∧ 6 + field b 4 2 ≤ b.length ∧ b.length ≤ 4096 → i.bandC = false →
    s.fab.forE2.length < 4 ∧ get F.PMU_STATE_STATE s ≠ 3 →
    ∃ t, exec (.dataRx i f) s = .next t ∧ get (F.FAB_COUNT_COUNT 2) t = min (2 ^ 32 - 1) (get (F.FAB_COUNT_COUNT 2) s + 1) ∧
      t.fab.forE2 = s.fab.forE2 ++ [({ mtype := field b 0 1, msgId := field b 2 2, src := f.osrc, dest := f.dest, body := (b.drop 6).take (field b 4 2) }, s.sup.mono)]) ∧
  (∀ (s : State) (i : RxInfo) (f : FabFrame) (b : List Byte) (n m : Node), (accept i f s).1 = true →
    f.body = .data b ∧ f.ackReq = false ∧ f.osrc = .eui 3 → f.dest = .node n ∧ isMe n s = false ∧ forMe f s = true →
    get F.FAB_STATUS_MODE s ≠ 6 → i.bandC = false → 2 ≤ f.left → nextHop n (accept i f s).2 = some m →
    s.fab.fcnt ≠ 0xFFFFFFFF → ∃ t, exec (.dataRx i f) s = .next t ∧
      Sent 1 [] (ownFrame { f with left := f.left - 1, taken := f.taken + 1, ackReq := true, ldst := some m })
        { (accept i f s).2 with fab := { (accept i f s).2.fab with routes := t.fab.routes } } t) ∧
  (∀ (s : State) (i : RxInfo) (f : FabFrame) (b : List Byte) (a : Nat), (accept i f s).1 = true →
    f.body = .data b ∧ f.ackReq = false ∧ f.osrc = .eui 3 →
    f.dest = .node (.short a) ∧ isMe (.short a) s = false ∧ forMe f s = true → get F.FAB_STATUS_MODE s ≠ 6 →
    i.bandC = false → 2 ≤ f.left → nextHop (.short a) (accept i f s).2 = none → s.fab.fcnt ≠ 0xFFFFFFFF →
    ∃ t, exec (.dataRx i f) s = .next t ∧
      Sent 0 [] (freshFrame { dest := .broadcast, left := 15, body := .routeReq s.fab.reqId a } (accept i f s).2)
        { (accept i f s).2 with fab := { (accept i f s).2.fab with
          reqId := (s.fab.reqId + 1) % 65536
          heldFrames := s.fab.heldFrames ++ [({ f with left := f.left - 1, taken := f.taken + 1, ackReq := true }, s.fab.reqId, s.sup.mono)] } } t) ∧
  (∀ (s : State) (i : RxInfo) (f : FabFrame) (b : List Byte) (n : Node), (accept i f s).1 = true →
    f.body = .data b ∧ f.ackReq = false ∧ f.osrc = .eui 3 → f.dest = .node n ∧ isMe n s = false ∧ forMe f s = true →
    get F.FAB_STATUS_MODE s ≠ 6 → f.left ≤ 1 → ∃ t, exec (.dataRx i f) s = .next t ∧
      get (F.FAB_COUNT_COUNT 3) t = min (2 ^ 32 - 1) (get (F.FAB_COUNT_COUNT 3) (accept i f s).2 + 1) ∧
      OnlyFlds [F.FAB_COUNT_COUNT 3] (accept i f s).2 t) ∧
  (∀ (s : State) (i : RxInfo) (f : FabFrame), (accept i f s).1 = true → forMe f s = false ∨ get F.FAB_STATUS_MODE s = 6 →
    exec (.dataRx i f) s = .next (accept i f s).2) ∧
  (∀ (s : State) (i : RxInfo) (f : FabFrame) (d q c h k : Nat), (accept i f s).1 = true →
    f.body = .advert [(d, q, c, h)] none → get F.FAB_STATUS_MODE s ≠ 6 →
    (((nbrOf f.lsrc (accept i f s).2).bind fun b => linkTo b (accept i f s).2).map (·.2)) = some k →
    isMe (.short d) s = false → h < 15 → s.fab.routes = [] → ∃ t, exec (.routeAdvertisement i f) s = .next t ∧
      t.fab.routes = [⟨d, f.lsrc, min 255 (c + k), h + 1, q, true, true, s.sup.mono⟩] ∧
      OnlyFlds tablesShown { (accept i f s).2 with fab := t.fab } t) ∧
  (∀ (s : State) (n : Node) (c d q cost h : Nat) (o : Route), s.fab.routes = [o] → o.dest = d ∧ o.head = true →
    isMe (.short d) s = false → h < 15 → q < 65536 ∧ o.seq < 65536 →
    (((o.seq < q ∧ q - o.seq < 32768) ∨ (q < o.seq ∧ 32768 < o.seq - q) ∨ (q = o.seq ∧ min 255 (cost + c) < o.cost)) →
        (advertRoute n c (d, q, cost, h) s).fab.routes = [⟨d, n, min 255 (cost + c), h + 1, q, true, true, s.sup.mono⟩]) ∧
      ((q < o.seq ∧ o.seq - q < 32768) ∨ (q = o.seq ∧ o.cost ≤ min 255 (cost + c)) → advertRoute n c (d, q, cost, h) s = s)) ∧
  (∀ (s : State), s.Inv → e10Up s = true → get F.FAB_STATUS_MODE s ≠ 6 →
    s.fab.advAt + 1024 * get F.FAB_TIMING_ADV s ≤ s.sup.mono → isHead s = true ∧ flag F.FAB_ADDR_VALID s = true →
    s.fab.fcnt ≠ 0xFFFFFFFF → ∃ t, exec .advertisementTimer s = .next t ∧
      Sent 0 [] (freshFrame { dest := .broadcast, left := 1, body := .advert ([(get F.FAB_ADDR_SHORT s, (s.fab.headSeq + 1) % 65536, 0, 0)] ++ (advertised s).take 7) (numberingNow s) } s)
        { s with fab := { s.fab with advAt := s.sup.mono, headSeq := (s.fab.headSeq + 1) % 65536 } } t) ∧
  (∀ (s : State), s.Inv → e10Up s = true → get F.FAB_STATUS_MODE s ≠ 6 →
    s.fab.advAt + 1024 * get F.FAB_TIMING_ADV s ≤ s.sup.mono → isHead s = false → s.fab.fcnt ≠ 0xFFFFFFFF →
    ∃ t, exec .advertisementTimer s = .next t ∧
      Sent 0 [] (freshFrame { dest := .broadcast, left := 1, body := .advert ((advertised s).take 8) (numberingNow s) } s)
        { s with fab := { s.fab with advAt := s.sup.mono } } t) ∧
  (∀ (s : State),
    (e10Up s = false ∨ get F.FAB_STATUS_MODE s = 6 ∨ s.sup.mono < s.fab.advAt + 1024 * get F.FAB_TIMING_ADV s →
        exec .advertisementTimer s = .next s) ∧
      (e10Up s = false → exec .routeExpiry s = .next s) ∧
      (s.fab.waiting = [] → s.fab.heldFrames = [] → exec .routeTimeout s = .next s)) ∧
  (∀ (s : State), e10Up s = true → ∃ t, exec .routeExpiry s = .next t ∧
      t.fab = { s.fab with routes := s.fab.routes.filter fun r => !(r.head && decide (r.at' + 3072 * get F.FAB_TIMING_ADV s ≤ s.sup.mono)) } ∧
      OnlyFlds tablesShown { s with fab := t.fab } t) ∧
  (∀ (s : State) (i : RxInfo) (f : FabFrame) (id o : Nat), (accept i f s).1 = true →
    f.body = .routeReq id (get F.FAB_ADDR_SHORT s) → flag F.FAB_ADDR_VALID s = true ∧ get F.FAB_STATUS_MODE s ≠ 6 →
    f.osrc = .short o ∧ isMe (.short o) s = false → s.fab.seenReq = [] ∧ s.fab.routes = [] → s.fab.fcnt ≠ 0xFFFFFFFF →
    ∃ t, exec (.routeRequest i f) s = .next t ∧
      (t.fab.routes.map fun r => (r.dest, r.next, r.hops, r.head)) = [(o, f.lsrc, min 15 (f.taken + 1), false)] ∧
      Sent 0 tablesShown (freshFrame { dest := .node f.osrc, ackReq := true, ldst := some f.lsrc, left := 15, body := .routeRep (get F.FAB_ADDR_SHORT s) s.fab.headSeq 0 0 } (accept i f s).2)
        { (accept i f s).2 with
          fab := { (accept i f s).2.fab with seenReq := [(f.osrc, id, s.sup.mono)], routes := t.fab.routes }
          free := t.free } t) ∧
  (∀ (s : State) (i : RxInfo) (f : FabFrame) (id d o : Nat), (accept i f s).1 = true → f.body = .routeReq id d →
    isMe (.short d) s = false ∧ get F.FAB_STATUS_MODE s ≠ 6 → f.osrc = .short o ∧ isMe (.short o) s = false ∧ o ≠ d →
    s.fab.seenReq = [] ∧ s.fab.routes = [] → 2 ≤ f.left → s.fab.fcnt ≠ 0xFFFFFFFF →
    ∃ t, exec (.routeRequest i f) s = .next t ∧
      (t.fab.routes.map fun r => (r.dest, r.next, r.hops, r.head)) = [(o, f.lsrc, min 15 (f.taken + 1), false)] ∧
      Sent 1 tablesShown (ownFrame { f with ldst := none, ackReq := false, left := f.left - 1, taken := f.taken + 1 })
        { (accept i f s).2 with
          fab := { (accept i f s).2.fab with seenReq := [(f.osrc, id, s.sup.mono)], routes := t.fab.routes }
          free := t.free } t) ∧
  (∀ (s : State) (i : RxInfo) (f : FabFrame) (d q c h : Nat), (accept i f s).1 = true → f.body = .routeRep d q c h →
    f.dest = .node (.short (get F.FAB_ADDR_SHORT s)) ∧ f.ldst = some (.short (get F.FAB_ADDR_SHORT s)) ∧ f.ackReq = false →
    flag F.FAB_ADDR_VALID s = true ∧ get F.FAB_STATUS_MODE s ≠ 6 →
    (((nbrOf f.lsrc (accept i f s).2).bind fun b => linkTo b (accept i f s).2).map (·.2)) = some 1 → h < 15 →
    s.fab.routes = [] ∧ s.fab.waiting = [] ∧ s.fab.heldFrames = [] →
    ∃ t, exec (.routeReply i f) s = .next t ∧ t.fab.routes = [⟨d, f.lsrc, min 255 (c + 1), h + 1, q, false, false, s.sup.mono⟩] ∧
      OnlyFlds tablesShown { (accept i f s).2 with fab := { (accept i f s).2.fab with routes := t.fab.routes } } t) ∧
  (∀ (s : State) (m : Message) (n : Node) (k at' : Nat), m.dest = .node n → (nextHop n s).isSome = true →
    s.fab.waiting = [(m, k, at')] ∧ s.fab.heldFrames = [] →
    releaseWaiting s = sendMessage m { s with fab := { s.fab with waiting := [] } }) ∧
  (∀ (s : State) (m : Message) (f : FabFrame) (k l a b : Nat),
    s.fab.waiting = [(m, k, a)] ∧ s.fab.heldFrames = [(f, l, b)] → a + 10240 ≤ s.sup.mono ∧ b + 10240 ≤ s.sup.mono →
    ∃ t, exec .routeTimeout s = .next t ∧ Raised F.FAB_CAUSE_NO_ROUTE s t ∧
      get (F.FAB_COUNT_COUNT 3) t = min (2 ^ 32 - 1) (get (F.FAB_COUNT_COUNT 3) s + 1) ∧
      OnlyFlds [F.FAB_CAUSE_NO_ROUTE, F.INT_HOST_PEND_PEND, F.FAB_COUNT_COUNT 3] { s with
        fab := { s.fab with waiting := [], heldFrames := [] } } t)

/-- Messages that E10 holds for E2: where each kind goes, what is refused or dropped; STATUS sent to the peer; the two timeouts -/
def Obligations.FabricMessages : Prop :=
  (∀ (s : State) (r : Reasm), s.fab.reasm = [r] → r.since + 30720 ≤ s.sup.mono →
    ∃ t, exec .reassemblyTimeout s = .next t ∧ Raised F.FAB_CAUSE_MSG_DROP s t ∧
      OnlyFlds [F.FAB_CAUSE_MSG_DROP, F.INT_HOST_PEND_PEND] { s with fab := { s.fab with reasm := [] } } t) ∧
  (∀ (s : State) (m : Message) (n : Node) (a : Nat), e2Up s = true →
    s.fab.forE2 = [(m, a)] ∧ m.mtype = 1 ∧ m.dest = .node n → nth none s.obj.req 6 = none → shapeOk m.body = true →
    exec .sessionReq s = .next { s with
        fab := { s.fab with forE2 := [] }
        obj := { s.obj with req := upd s.obj.req 6 fun _ => some ⟨m.body, m.src, m.msgId⟩ } }) ∧
  (∀ (s : State) (m : Message) (n : Node) (a : Nat), e2Up s = true →
    s.fab.forE2 = [(m, a)] ∧ m.mtype = 1 ∧ m.dest = .node n → nth none s.obj.req 6 ≠ none →
    exec .sessionReq s = .next (respond 2 m.msgId m.src [4] { s with fab := { s.fab with forE2 := [] } })) ∧
  (∀ (s : State) (c : Instr) (m : Message) (a : Nat), e2Up s = true →
    (c, m.mtype) ∈ [(Instr.sessionRsp, 2), (Instr.creditRes, 4), (Instr.keyRes, 6), (Instr.alarmMsg, 8)] →
    s.fab.forE2 = [(m, a)] → isHead s = true → s.hif.inbox.length < 8 →
    ∃ t, exec c s = .next t ∧ Raised F.HIF_CAUSE_FAB_RX s t ∧ get F.HIF_STATUS_INBOX t = s.hif.inbox.length + 1 ∧
      OnlyFlds [F.HIF_CAUSE_FAB_RX, F.INT_HOST_PEND_PEND, F.HIF_STATUS_INBOX] { s with
        fab := { s.fab with forE2 := [] }
        hif := { s.hif with inbox := s.hif.inbox ++ [m] } } t) ∧
  (∀ (s : State) (c : Instr) (m : Message) (a : Nat), e2Up s = true →
    (c, m.mtype) ∈ [(Instr.sessionRsp, 2), (Instr.creditRes, 4), (Instr.keyRes, 6), (Instr.alarmMsg, 8)] →
    s.fab.forE2 = [(m, a)] → isHead s = false ∨ 8 ≤ s.hif.inbox.length →
    ∃ t, exec c s = .next t ∧ Raised F.FAB_CAUSE_MSG_DROP s t ∧
      OnlyFlds [F.FAB_CAUSE_MSG_DROP, F.INT_HOST_PEND_PEND] { s with fab := { s.fab with forE2 := [] } } t) ∧
  (∀ (s : State) (m : Message) (n : Node) (a : Nat), s.Inv → e2Up s = true →
    s.fab.forE2 = [(m, a)] ∧ m.mtype = 3 ∧ m.dest = .node n → s.pay.queue.length < 4 → s.pay.dec ≠ none →
    ∃ t, exec .creditMsg s = .next t ∧
      OnlyFlds creditShown { s with
        fab := { s.fab with forE2 := [] }
        pay := { s.pay with queue := s.pay.queue ++ [⟨0, some m.body, 2, .message m.src m.msgId⟩] }
        cis := t.cis } t) ∧
  (∀ (s : State) (m : Message) (n : Node) (a : Nat), s.Inv → e2Up s = true →
    s.fab.forE2 = [(m, a)] ∧ m.mtype = 9 ∧ m.dest = .node n → s.pay.queue.length < 4 → s.pay.dec ≠ none →
    ∃ t, exec .tokenMsg s = .next t ∧
      OnlyFlds creditShown { s with
        fab := { s.fab with forE2 := [] }
        pay := { s.pay with queue := s.pay.queue ++ [⟨field m.body 0 9 % 2 ^ 66, none, 2, .nobody⟩] }
        cis := t.cis } t) ∧
  (∀ (s : State) (m : Message) (n : Node) (a o : Nat), e2Up s = true →
    s.fab.forE2 = [(m, a)] ∧ m.mtype = 7 ∧ m.dest = .node n → headRoute m.src s = some o →
    flag F.FAB_CFG_TIME_EN s = true ∧ flag F.FAB_STATUS_FCN_VALID s = true →
    ∃ t, exec .timeMsg s = .next t ∧ t.fab = { s.fab with forE2 := [] } ∧ ∀ utc fcn valid sub d,
        Config.fieldsOf 7 m.body = [utc, fcn, valid] → sub = (fresh s).1 % 1024 → d = timeDiff utc fcn sub s →
        (valid = 0 → t = { s with fab := { s.fab with forE2 := [] } }) ∧
        (valid ≠ 0 → 900000000 < d.natAbs → Raised F.FAB_CAUSE_TIME_REFUSED s t ∧ t.bil = s.bil) ∧
        (valid ≠ 0 → d.natAbs ≤ 900000000 → get F.SUP_RTC_STATUS_VALID t = 1 ∧
          (1000000 ≤ d.natAbs → t.bil = { s.bil with adj := some (Int.tdiv d 1000000, 2, o) }))) ∧
  (∀ (s : State) (m : Message) (n : Node) (a : Nat), e2Up s = true →
    s.fab.forE2 = [(m, a)] ∧ m.mtype = 7 ∧ m.dest = .node n →
    headRoute m.src s = none ∨ flag F.FAB_CFG_TIME_EN s = false ∨ flag F.FAB_STATUS_FCN_VALID s = false →
    exec .timeMsg s = .next { s with fab := { s.fab with forE2 := [] } }) ∧
  (∀ (s : State) (m : Message) (n : Node) (a : Nat), e2Up s = true →
    s.fab.forE2 = [(m, a)] ∧ m.mtype = 10 ∧ m.dest = .node n →
    exec .statusMessage s = .next { s with fab := { s.fab with forE2 := [], peerStatus := m.body } }) ∧
  (∀ (s : State) (e : Nat), e10Up s = true ∧ e2Up s = true → (fabTab s).peer = some e → s.ld.tables.prepay.isSome = true →
    inPass s = false → s.fab.statusAt + 10240 ≤ s.sup.mono ∨ s.fab.sentStatus ≠ statusNow s → s.fab.fcnt ≠ 0xFFFFFFFF →
    ∃ t, exec .statusTimer s = .next t ∧
      Sent 0 [] { bandC := true, frame := { dest := .node (.eui e), ackReq := true, ldst := some (.eui e), osrc := myName s, left := 1, body := .data (messageBytes { mtype := 10, msgId := s.fab.msgId, body := Config.bodyOf 10 ((statusNow s).map (wrapTo 64)) }) } }
        { s with fab := { s.fab with
          statusAt := s.sup.mono
          sentStatus := statusNow s
          msgId := (s.fab.msgId + 1) % 65536 } } t) ∧
  (∀ (s : State),
    (e10Up s = false ∨ e2Up s = false ∨ (fabTab s).peer = none ∨ s.ld.tables.prepay = none ∨ inPass s = true ∨
        (s.sup.mono < s.fab.statusAt + 10240 ∧ s.fab.sentStatus = statusNow s) → exec .statusTimer s = .next s) ∧
      (e10Up s = false → exec .handoverTimeout s = .next s) ∧
      (s.fab.reasm = [] → exec .reassemblyTimeout s = .next s)) ∧
  (∀ (s : State) (c : Instr) (k : Nat),
    (c, k) ∈ [(Instr.sessionReq, 1), (Instr.sessionRsp, 2), (Instr.creditMsg, 3), (Instr.creditRes, 4), (Instr.keyRes, 6), (Instr.timeMsg, 7), (Instr.alarmMsg, 8), (Instr.tokenMsg, 9), (Instr.statusMessage, 10)] →
    heldOf k s = none ∨ e2Up s = false → exec c s = .next s) ∧
  (∀ (s : State) (m : Message) (a : Nat), e10Up s = true → s.fab.forE2 = [(m, a)] → a + 2048 ≤ s.sup.mono →
    isRequest m.mtype = false → ∃ t, exec .handoverTimeout s = .next t ∧ Raised F.FAB_CAUSE_MSG_DROP s t ∧
      OnlyFlds [F.FAB_CAUSE_MSG_DROP, F.INT_HOST_PEND_PEND] { s with fab := { s.fab with forE2 := [] } } t) ∧
  (∀ (s : State) (m : Message) (a : Nat), e10Up s = true → s.fab.forE2 = [(m, a)] → a + 2048 ≤ s.sup.mono →
    m.mtype = 1 ∨ m.mtype = 3 ∨ m.mtype = 5 →
    exec .handoverTimeout s = .next (respond (m.mtype + 1) m.msgId m.src [4] { s with fab := { s.fab with forE2 := [] } }))

/-- Heads, plans and rescue: head flag, announcements made, refused and heard, the change at its crossing, rescue beacons and re-admission -/
def Obligations.FabricPlans : Prop :=
  (∀ (s : State) (m : Master) (w : Word), s.Inv → Writable m R.FAB_CTL s → arg F.FAB_CTL_KEY w = 0xF1 →
    arg F.FAB_CTL_HEAD_SET w = 1 → arg F.FAB_CTL_HEAD_CLR w = 0 ∧ arg F.FAB_CTL_ANNOUNCE w = 0 → e2Up s = true →
    ∃ t, exec (.headSet m w) s = .next t ∧ isHead t = true ∧ (inForce t.cis.b3.fab).map (·.2) = some (fabRec t) ∧
      OnlyFlds [F.FAB_STATUS_HEAD, F.CIS_STATUS_DIRTY] { s with cis := t.cis, fab := { s.fab with recWait := false } } t) ∧
  (∀ (s : State) (m : Master) (w : Word), s.Inv → Writable m R.FAB_CTL s → arg F.FAB_CTL_KEY w = 0xF1 →
    arg F.FAB_CTL_HEAD_CLR w = 1 → arg F.FAB_CTL_ANNOUNCE w = 0 ∧ arg F.FAB_CTL_HEAD_SET w = 0 → e2Up s = true →
    ∃ t, exec (.headClr m w) s = .next t ∧ isHead t = false ∧ (inForce t.cis.b3.fab).map (·.2) = some (fabRec t) ∧
      OnlyFlds [F.FAB_STATUS_HEAD, F.CIS_STATUS_DIRTY] { s with cis := t.cis, fab := { s.fab with recWait := false } } t) ∧
  (∀ (s : State) (m : Master) (w : Word), Writable m R.FAB_CTL s → arg F.FAB_CTL_KEY w ≠ 0xF1 →
    exec (.headSet m w) s = .next s ∧ exec (.headClr m w) s = .next s ∧ exec (.announceReq m w) s = .next s) ∧
  (∀ (s : State) (m : Master) (w : Word), s.Inv → Writable m R.FAB_CTL s → arg F.FAB_CTL_KEY w = 0xF1 →
    arg F.FAB_CTL_ANNOUNCE w = 1 → arg F.FAB_CTL_HEAD_CLR w = 0 ∧ arg F.FAB_CTL_HEAD_SET w = 0 →
    e10Up s = true ∧ isHead s = true ∧ flag F.FAB_STATUS_FCN_VALID s = true ∧ inPass s = false →
    60 ≤ get F.FAB_ANNOUNCE_LEAD s ∧ get F.FAB_ANNOUNCE_LEAD s ≤ 3600 →
    get F.FAB_ANNOUNCE_MODE s = 0 ∨ get F.FAB_ANNOUNCE_MODE s = 3 ∨ (1 ≤ get F.FAB_ANNOUNCE_DURATION s ∧ get F.FAB_ANNOUNCE_DURATION s ≤ 60) →
    get F.FAB_ANNOUNCE_PLAN s < (fabTab s).plans.length → s.fab.pend = none → s.fab.fcnt ≠ 0xFFFFFFFF →
    ∃ t a, exec (.announceReq m w) s = .next t ∧
      a = ⟨(s.fab.planSeq + 1) % 65536, get F.FAB_ANNOUNCE_PLAN s, get F.FAB_ANNOUNCE_MODE s,
        (get F.FAB_FCN_FCN s + get F.FAB_ANNOUNCE_LEAD s * (if get F.PHE_FRAME_POS_NOMINAL s = 1 then 60 else 50)) % 2 ^ 32,
        get F.FAB_ANNOUNCE_DURATION s⟩ ∧
      get F.FAB_STATUS_PLAN_PENDING t = 1 ∧ get F.FAB_ACT_FCN_FCN t = a.act ∧
      Sent 0 [F.FAB_STATUS_PLAN_PENDING, F.FAB_ACT_FCN_FCN] (freshFrame { dest := .broadcast, left := 15, prio := 0, body := .announce a (numberingNow s) } s)
        { s with fab := { s.fab with pend := some a } } t) ∧
  (∀ (s : State) (m : Master) (w : Word), s.Inv → Writable m R.FAB_CTL s → arg F.FAB_CTL_KEY w = 0xF1 →
    arg F.FAB_CTL_ANNOUNCE w = 1 → arg F.FAB_CTL_HEAD_CLR w = 0 ∧ arg F.FAB_CTL_HEAD_SET w = 0 →
    isHead s = false ∨ flag F.FAB_STATUS_FCN_VALID s = false ∨ inPass s = true ∨ get F.FAB_ANNOUNCE_LEAD s < 60 ∨ 3600 < get F.FAB_ANNOUNCE_LEAD s ∨ (fabTab s).plans.length ≤ get F.FAB_ANNOUNCE_PLAN s ∨ (0 < get F.FAB_ANNOUNCE_MODE s ∧ get F.FAB_ANNOUNCE_MODE s < 3 ∧ (get F.FAB_ANNOUNCE_DURATION s = 0 ∨ 60 < get F.FAB_ANNOUNCE_DURATION s)) →
    ∃ t, exec (.announceReq m w) s = .next t ∧ Raised F.FAB_CAUSE_ANN_REFUSED s t ∧
      OnlyFlds [F.FAB_CAUSE_ANN_REFUSED, F.INT_HOST_PEND_PEND] s t) ∧
  (∀ (s : State) (i : RxInfo) (f : FabFrame) (a : Announce), (accept i f s).1 = true → f.body = .announce a none →
    get F.FAB_STATUS_MODE s ≠ 6 →
    (lastSeq s < a.seq ∧ a.seq - lastSeq s < 32768) ∨ (a.seq < lastSeq s ∧ 32768 < lastSeq s - a.seq) →
    a.seq < 65536 ∧ lastSeq s < 65536 ∧ a.act < 2 ^ 32 → 2 ≤ f.left → s.fab.fcnt ≠ 0xFFFFFFFF →
    ∃ t, exec (.announcement i f) s = .next t ∧ get F.FAB_STATUS_PLAN_PENDING t = 1 ∧ get F.FAB_ACT_FCN_FCN t = a.act ∧
      Sent 1 [F.FAB_STATUS_PLAN_PENDING, F.FAB_ACT_FCN_FCN] (ownFrame { f with prio := 0, ldst := none, ackReq := false, left := f.left - 1, taken := f.taken + 1 })
        { (accept i f s).2 with fab := { (accept i f s).2.fab with pend := some a } } t) ∧
  (∀ (s : State) (i : RxInfo) (f : FabFrame) (a : Announce), (accept i f s).1 = true → f.body = .announce a none →
    a.seq ≤ lastSeq s ∧ lastSeq s - a.seq < 32768 → exec (.announcement i f) s = .next (accept i f s).2) ∧
  (∀ (s : State) (a : Announce) (x : FabPlan), s.Inv → e10Up s = true → flag F.FAB_STATUS_FCN_VALID s = true →
    s.fab.pend = some a → a.mode = 0 ∧ get F.FAB_STATUS_MODE s = 1 ∧ e2Up s = true →
    a.act ≤ get F.FAB_FCN_FCN s ∧ get F.FAB_FCN_FCN s - a.act < 2 ^ 31 → (fabTab s).plans[a.plan]? = some x → a.plan < 4 →
    ∃ t, exec .planActivation s = .next t ∧ Raised F.FAB_CAUSE_PLAN_DONE s t ∧ get F.FAB_STATUS_PLAN_PENDING t = 0 ∧
      get F.FAB_STATUS_PLAN t = a.plan ∧ get F.FAB_STATUS_KEY_TX t = x.key % 2 ∧ get F.LMD_CFG_BAND_A t = x.bands % 2 ∧
      get F.LMD_CFG_BAND_C t = x.bands / 2 % 2 ∧ get F.LMD_TONE_MASK_MASK_A t = x.tones % 2 ^ 25 ∧
      get F.LMD_TX_CFG_MASK_C t = x.txCfg / 2 ^ 16 % 2 ^ F.LMD_TX_CFG_MASK_C.width ∧
      t.fab = { s.fab with pend := none, planSeq := a.seq, actAt := some s.sup.mono, recWait := false } ∧
      (inForce t.cis.b3.fab).map (·.2) = some (fabRec t)) ∧
  (∀ (s : State) (a : Announce), s.Inv → e10Up s = true → flag F.FAB_STATUS_FCN_VALID s = true → s.fab.pend = some a →
    a.mode = 1 ∨ a.mode = 2 → (get F.FAB_FCN_FCN s + 2 ^ 32 - a.act) % 2 ^ 32 < 2 ^ 31 →
    ∃ t, exec .planActivation s = .next t ∧ Raised F.FAB_CAUSE_PLAN_DONE s t ∧ get F.FAB_STATUS_MODE t = 2 ∧
      t.fab.target = a.mode + 3 ∧ t.fab.modeEnd = some (s.sup.mono + 61440 * a.dur) ∧ t.fab.planSeq = a.seq ∧ t.fab.pend = none) ∧
  (∀ (s : State) (a : Announce) (x : FabPlan), s.Inv → e10Up s = true → flag F.FAB_STATUS_FCN_VALID s = true →
    s.fab.pend = some a → a.mode = 3 → a.act ≤ get F.FAB_FCN_FCN s ∧ get F.FAB_FCN_FCN s - a.act < 2 ^ 31 →
    (fabTab s).plans[a.plan]? = some x → a.plan < 4 →
    ∃ t, exec .planActivation s = .next t ∧ Raised F.FAB_CAUSE_PLAN_DONE s t ∧ get F.FAB_STATUS_MODE t = 1 ∧
      get F.FAB_STATUS_COORD t = 0 ∧ get F.FAB_STATUS_PLAN t = a.plan ∧ get F.LMD_TONE_MASK_MASK_A t = x.tones % 2 ^ 25 ∧
      t.fab.coord = none ∧ t.fab.modeEnd = none ∧ t.fab.planSeq = a.seq ∧ t.fab.pend = none) ∧
  (∀ (s : State), (e10Up s = false ∨ s.fab.pend = none ∨ flag F.FAB_STATUS_FCN_VALID s = false ∨
        2 ^ 31 ≤ (get F.FAB_FCN_FCN s + 2 ^ 32 - (s.fab.pend.map (·.act)).getD 0) % 2 ^ 32 → exec .planActivation s = .next s) ∧
      (e10Up s = false ∨ get F.FAB_STATUS_MODE s ≠ 1 ∨ (s.fab.actAt = none ∧ s.sup.mono < s.fab.rescueAt + 1024 * get F.FAB_TIMING_RESCUE s) →
        exec .rescueBeaconTimer s = .next s) ∧
      (e10Up s = false ∨ get F.FAB_STATUS_MODE s ≠ 1 ∨ s.sup.mono < s.fab.heardAt + 1024 * get F.FAB_TIMING_LOST s →
        exec .rescueListen s = .next s)) ∧
  (∀ (s : State) (i : RxInfo) (f : FabFrame) (p q : Nat), (accept i f s).1 = true → f.body = .rescue p q none → p < 4 →
    get F.FAB_STATUS_MODE s = 6 →
    ∃ t, exec (.rescueBeacon i f) s = .next t ∧ fbit F.FAB_CAUSE_READMITTED 0 t = true ∧ get F.FAB_STATUS_MODE t = 1 ∧
      get F.FAB_STATUS_PLAN t = p ∧ t.fab.planSeq = q ∧ t.fab.pend = none ∧
      get F.FAB_ADDR_VALID t = (if s.fab.keepAddr then get F.FAB_ADDR_VALID s else 0)) ∧
  (∀ (s : State) (i : RxInfo) (f : FabFrame) (p q : Nat), (accept i f s).1 = true → f.body = .rescue p q none →
    get F.FAB_STATUS_MODE s ≠ 6 →
    exec (.rescueBeacon i f) s = .next { (accept i f s).2 with fab := { (accept i f s).2.fab with heardRescue := true } }) ∧
  (∀ (s : State), s.Inv → e10Up s = true → get F.FAB_STATUS_MODE s = 1 →
    (s.fab.actAt ≠ none ∧ s.sup.mono < s.fab.actAt.getD 0 + 3686400 ∧ s.fab.rescueAt + 30720 ≤ s.sup.mono) ∨ (s.fab.actAt = none ∧ s.fab.rescueAt + 1024 * get F.FAB_TIMING_RESCUE s ≤ s.sup.mono) →
    s.fab.fcnt ≠ 0xFFFFFFFF → ∃ t, exec .rescueBeaconTimer s = .next t ∧
      Sent 0 [] (freshFrame { dest := .broadcast, left := 1, prio := 0, body := .rescue (get F.FAB_STATUS_PLAN s) s.fab.planSeq (numberingNow s) } s)
        { s with fab := { s.fab with rescueAt := s.sup.mono } } t) ∧
  (∀ (s : State), e10Up s = true → get F.FAB_STATUS_MODE s = 1 →
    s.fab.heardAt + 1024 * get F.FAB_TIMING_LOST s ≤ s.sup.mono →
    ∃ t, exec .rescueListen s = .next t ∧ Raised F.FAB_CAUSE_LOST s t ∧ get F.FAB_STATUS_MODE t = 6 ∧ get F.FAB_STATUS_COORD t = 0 ∧
      get F.LMD_CFG_BAND_A t = 1 ∧ get F.LMD_CFG_BAND_C t = 0 ∧ get F.LMD_TONE_MASK_MASK_A t = (fabTab s).rescueMask % 2 ^ 25 ∧
      OnlyFlds [F.FAB_CAUSE_LOST, F.INT_HOST_PEND_PEND, F.FAB_STATUS_MODE, F.FAB_STATUS_COORD, F.LMD_CFG_BAND_A, F.LMD_CFG_BAND_C,
        F.LMD_TONE_MASK_MASK_A] { s with
        fab := { s.fab with keepAddr := false, claim := none, coord := none } } t)

/-- Coordinated modes: candidates, the election's end, superframe beacons, joins and assignments, the mode's end, start-up -/
def Obligations.CoordinatedModes : Prop :=
  (∀ (s : State) (i : RxInfo) (f : FabFrame) (r e : Nat) (b : Nat × Nat), (accept i f s).1 = true →
    f.body = .candidate r e → get F.FAB_STATUS_MODE s = 2 → s.fab.best = some b → r < b.1 ∨ (r = b.1 ∧ e < b.2) →
    2 ≤ f.left → s.fab.fcnt ≠ 0xFFFFFFFF → ∃ t, exec (.candidateRx i f) s = .next t ∧
      Sent 1 [] (ownFrame { f with prio := 0, ldst := none, ackReq := false, left := f.left - 1, taken := f.taken + 1 })
        { (accept i f s).2 with fab := { (accept i f s).2.fab with
          best := some (r, e)
          txq := s.fab.txq.filter fun y => y.frame.body != .candidate (myRank s) myEui } } t) ∧
  (∀ (s : State) (i : RxInfo) (f : FabFrame) (r e : Nat) (b : Nat × Nat), (accept i f s).1 = true →
    f.body = .candidate r e → s.fab.best = some b → b.1 < r ∨ (r = b.1 ∧ b.2 ≤ e) →
    exec (.candidateRx i f) s = .next (accept i f s).2) ∧
  (∀ (s : State), s.Inv → e10Up s = true → get F.FAB_STATUS_MODE s = 2 → s.fab.modeAt + 16384 ≤ s.sup.mono →
    s.fab.target = 4 ∨ s.fab.target = 5 → s.fab.num ≠ none → s.fab.best = some (myRank s, myEui) →
    ∃ t, exec .electionEnd s = .next t ∧ get F.FAB_STATUS_COORD t = 1 ∧ get F.FAB_STATUS_MODE t = s.fab.target ∧
      OnlyFlds [F.FAB_STATUS_COORD, F.FAB_STATUS_MODE] { s with
        fab := { s.fab with coord := some myEui, beaconAt := s.sup.mono, lastJoin := s.sup.mono } } t) ∧
  (∀ (s : State), s.Inv → e10Up s = true ∧ e2Up s = true → get F.FAB_STATUS_MODE s = 2 →
    s.fab.modeAt + 16384 ≤ s.sup.mono → s.fab.target = 3 → s.fab.num ≠ none → s.fab.best = some (myRank s, myEui) →
    ∃ t, exec .electionEnd s = .next t ∧ get F.FAB_STATUS_COORD t = 1 ∧ get F.FAB_STATUS_MODE t = 3 ∧
      get F.FAB_ADDR_SHORT t = nextAddress s ∧ get F.FAB_ADDR_VALID t = 1 ∧ fbit F.FAB_CAUSE_ADDR_DONE 0 t = true ∧
      t.fab = { s.fab with
        coord := some myEui
        beaconAt := s.sup.mono
        lastJoin := s.sup.mono
        assigned := s.fab.assigned ++ [(myEui, nextAddress s)]
        newAssigned := s.fab.newAssigned ++ [(myEui, nextAddress s)]
        claim := none
        fails := 0
        recAddr := some (nextAddress s)
        recWait := false }) ∧
  (∀ (s : State) (b : Nat × Nat), s.Inv → e10Up s = true → get F.FAB_STATUS_MODE s = 2 →
    s.fab.modeAt + 16384 ≤ s.sup.mono → s.fab.target < 8 → s.fab.best = some b → b.1 < myRank s →
    ∃ t, exec .electionEnd s = .next t ∧ get F.FAB_STATUS_COORD t = 0 ∧ get F.FAB_STATUS_MODE t = s.fab.target ∧
      OnlyFlds [F.FAB_STATUS_COORD, F.FAB_STATUS_MODE] { s with
        fab := { s.fab with coord := some b.2, beaconAt := s.sup.mono, lastJoin := s.sup.mono } } t) ∧
  (∀ (s : State) (k : Nat × Nat), s.Inv → e10Up s = true ∧ e9Up s = true ∧ get F.FAB_STATUS_COORD s = 1 →
    3 ≤ get F.FAB_STATUS_MODE s ∧ get F.FAB_STATUS_MODE s ≤ 5 → flag F.FAB_STATUS_FCN_VALID s = true ∧ inPass s = false →
    get F.FAB_FCN_FCN s % (if get F.PHE_FRAME_POS_NOMINAL s = 1 then 60 else 50) = 0 →
    s.fab.sfFcn ≠ some (get F.FAB_FCN_FCN s) → (linkKeys (get F.FAB_STATUS_KEY_TX s) 1 4 s).1 = some k →
    s.lmd.tx = none ∧ soundingRuns s = false →
    flag F.LMD_STATUS_VLD_LOW s = false ∧ flag F.LMD_STATUS_HOT s = false ∧ muting s = false ∧ flag F.LMD_CFG_BAND_A s = true →
    s.fab.fcnt + 1 < 0xFFFFFFFF → ∃ t, exec .superframe s = .next t ∧ get F.LMD_STATUS_STATE t = 3 ∧
      get (F.FAB_COUNT_COUNT 0) t = min (2 ^ 32 - 1) (get (F.FAB_COUNT_COUNT 0) s + 1) ∧
      t.fab = { s.fab with
        sframe := s.fab.sframe + 1
        newAssigned := []
        beaconAt := s.sup.mono
        sfFcn := some (get F.FAB_FCN_FCN s)
        seq := (s.fab.seq + 1) % 256
        fcnt := s.fab.fcnt + 1 } ∧
      ∃ y, t.lmd.tx = some y ∧ y.bandC = false ∧ y.mod = 0 ∧ y.frame.dest = .broadcast ∧ y.frame.left = 15 ∧ y.frame.fcnt = s.fab.fcnt ∧
        y.frame.body = .beacon s.fab.sframe 0 (get F.FAB_STATUS_MODE s) (get F.FAB_STATUS_PLAN s) myEui (numberingNow s) s.fab.newAssigned) ∧
  (∀ (s : State),
    e10Up s = false ∨ get F.FAB_STATUS_COORD s = 0 ∨ get F.FAB_STATUS_MODE s < 3 ∨ 5 < get F.FAB_STATUS_MODE s ∨ flag F.FAB_STATUS_FCN_VALID s = false ∨ inPass s = true ∨ get F.FAB_FCN_FCN s % (if get F.PHE_FRAME_POS_NOMINAL s = 1 then 60 else 50) ≠ 0 ∨ s.fab.sfFcn = some (get F.FAB_FCN_FCN s) →
    exec .superframe s = .next s) ∧
  (∀ (s : State) (i : RxInfo) (f : FabFrame) (n d m p e : Nat), (accept i f s).1 = true →
    f.body = .beacon n d m p e none [] → get F.FAB_STATUS_MODE s ≠ 1 ∧ get F.FAB_STATUS_COORD s = 0 → m = 4 ∨ m = 5 →
    s.fab.lastBeacon ≠ some (e, n) → d < 15 → s.fab.fcnt ≠ 0xFFFFFFFF →
    ∃ t, exec (.beaconRx i f) s = .next t ∧ get F.FAB_STATUS_MODE t = m ∧
      Sent 1 [F.FAB_STATUS_MODE] (ownFrame { f with prio := 0, left := f.left - 1, taken := f.taken + 1, ldst := none, ackReq := false, body := .beacon n (d + 1) m p e (numberingNow s) [] })
        { (accept i f s).2 with fab := { (accept i f s).2.fab with
          lastBeacon := some (e, n)
          coord := some e
          parent := some f.lsrc
          sframe := n
          depth := d + 1
          beaconAt := s.sup.mono } } t) ∧
  (∀ (s : State) (i : RxInfo) (f : FabFrame) (n d m p e : Nat), (accept i f s).1 = true →
    f.body = .beacon n d m p e none [] →
    s.fab.lastBeacon = some (e, n) ∨ get F.FAB_STATUS_MODE s = 1 ∨ get F.FAB_STATUS_COORD s = 1 ∨ m < 3 ∨ 5 < m →
    exec (.beaconRx i f) s = .next (accept i f s).2) ∧
  (∀ (s : State) (i : RxInfo) (f : FabFrame) (e : Nat), s.Inv → (accept i f s).1 = true →
    f.body = .join e ∧ f.ackReq = false → forMe f s = true → get F.FAB_STATUS_MODE s = 3 ∧ get F.FAB_STATUS_COORD s = 1 →
    s.fab.assigned = [] → s.fab.fcnt ≠ 0xFFFFFFFF → ∃ t, exec (.joinRx i f) s = .next t ∧
      Sent 0 [] (freshFrame { dest := .node f.lsrc, ackReq := true, ldst := some f.lsrc, left := 1, body := .assign e 0 } (accept i f s).2)
        { (accept i f s).2 with fab := { (accept i f s).2.fab with
          assigned := [(e, 0)]
          newAssigned := s.fab.newAssigned ++ [(e, 0)]
          lastJoin := s.sup.mono } } t) ∧
  (∀ (s : State) (a : Nat), a < 4096 → (∀ b, b < a → s.fab.assigned.any (fun e => e.2 == b) = true) →
    s.fab.assigned.any (fun e => e.2 == a) = false → nextAddress s = a) ∧
  (∀ (s : State) (i : RxInfo) (f : FabFrame) (a : Nat), (accept i f s).1 = true →
    f.body = .assign myEui a ∧ f.ackReq = false → forMe f s = true → a < 4096 → e2Up s = true ∧ sessState 6 s = 0 →
    ∃ t, exec (.assignRx i f) s = .next t ∧ get F.FAB_ADDR_SHORT t = a ∧ get F.FAB_ADDR_VALID t = 1 ∧
      fbit F.FAB_CAUSE_ADDR_DONE 0 t = true ∧ (inForce t.cis.b3.fab).map (·.2) = some (fabRec t) ∧
      t.fab = { (accept i f s).2.fab with claim := none, fails := 0, recAddr := some a, recWait := false }) ∧
  (∀ (s : State), s.Inv → e10Up s = true ∧ get F.FAB_STATUS_COORD s = 1 →
    (get F.FAB_STATUS_MODE s = 3 ∧ s.fab.lastJoin + 61440 ≤ s.sup.mono) ∨ ((get F.FAB_STATUS_MODE s = 4 ∨ get F.FAB_STATUS_MODE s = 5) ∧ s.fab.modeEnd ≠ none ∧ s.fab.modeEnd.getD 0 ≤ s.sup.mono) →
    s.fab.pend = none ∧ inPass s = false → s.fab.fcnt ≠ 0xFFFFFFFF → ∃ t a, exec .coordinatedModeEnd s = .next t ∧
      a = ⟨(s.fab.planSeq + 1) % 65536, get F.FAB_STATUS_PLAN s, 3,
        (get F.FAB_FCN_FCN s + 60 * (if get F.PHE_FRAME_POS_NOMINAL s = 1 then 60 else 50)) % 2 ^ 32, 0⟩ ∧
      get F.FAB_STATUS_PLAN_PENDING t = 1 ∧ get F.FAB_ACT_FCN_FCN t = a.act ∧
      Sent 0 [F.FAB_STATUS_PLAN_PENDING, F.FAB_ACT_FCN_FCN] (freshFrame { dest := .broadcast, left := 15, prio := 0, body := .announce a (numberingNow s) } s)
        { s with fab := { s.fab with pend := some a } } t) ∧
  (∀ (s : State), s.Inv → e10Up s = true ∧ get F.FAB_STATUS_COORD s = 0 →
    3 ≤ get F.FAB_STATUS_MODE s ∧ get F.FAB_STATUS_MODE s ≤ 5 → s.fab.beaconAt + 5120 ≤ s.sup.mono →
    s.fab.fcnt ≠ 0xFFFFFFFF →
    ∃ t, exec .coordinatedModeEnd s = .next t ∧ get F.FAB_STATUS_MODE t = 2 ∧ t.fab.target = get F.FAB_STATUS_MODE s ∧
      t.fab.best = some (myRank s, myEui) ∧ t.fab.coord = none ∧ t.fab.modeAt = s.sup.mono ∧
      t.fab.txq = s.fab.txq ++ [freshFrame { dest := .broadcast, left := 15, prio := 0, body := .candidate (myRank s) myEui } s]) ∧
  (∀ (s : State),
    (e10Up s = false ∨ get F.FAB_STATUS_MODE s ≠ 2 ∨ s.sup.mono < s.fab.modeAt + 16384 → exec .electionEnd s = .next s) ∧
      (e10Up s = false ∨ get F.FAB_STATUS_MODE s < 3 ∨ 5 < get F.FAB_STATUS_MODE s ∨
        (get F.FAB_STATUS_COORD s = 0 ∧ s.sup.mono < s.fab.beaconAt + 5120) ∨
        (get F.FAB_STATUS_COORD s = 1 ∧ (inPass s = true ∨ (s.fab.pend.map (·.mode)) = some 3 ∨
          (get F.FAB_STATUS_MODE s = 3 ∧ s.sup.mono < s.fab.lastJoin + 61440) ∨
          (get F.FAB_STATUS_MODE s ≠ 3 ∧ (s.fab.modeEnd = none ∨ s.sup.mono < s.fab.modeEnd.getD 0)))) →
        exec .coordinatedModeEnd s = .next s) ∧
      (e10Up s = false ∨ s.fab.noRec = false ∨ get F.FAB_STATUS_MODE s ≠ 6 ∨ s.fab.heardRescue = true ∨
        s.sup.mono < s.fab.startAt + 2048 * get F.FAB_TIMING_RESCUE s → exec .coordinatedStartUp s = .next s)) ∧
  (∀ (s : State), s.Inv → e10Up s = true → s.fab.noRec = true → get F.FAB_STATUS_MODE s = 6 → s.fab.heardRescue = false →
    s.fab.startAt + 2048 * get F.FAB_TIMING_RESCUE s ≤ s.sup.mono → s.fab.fcnt ≠ 0xFFFFFFFF →
    ∃ t, exec .coordinatedStartUp s = .next t ∧ get F.FAB_STATUS_MODE t = 2 ∧ get F.FAB_STATUS_COORD t = 0 ∧
      get F.LMD_CFG_BAND_A t = 1 ∧ get F.LMD_CFG_BAND_C t = 0 ∧ get F.LMD_TONE_MASK_MASK_A t = (fabTab s).rescueMask % 2 ^ 25 ∧
      Sent 0 [F.FAB_STATUS_MODE, F.FAB_STATUS_COORD, F.LMD_CFG_BAND_A, F.LMD_CFG_BAND_C, F.LMD_TONE_MASK_MASK_A]
        (freshFrame { dest := .broadcast, left := 15, prio := 0, body := .candidate (myRank s) myEui } s)
        { s with fab := { s.fab with
          target := 3
          modeAt := s.sup.mono
          best := some (myRank s, myEui)
          coord := none
          parent := none
          sframe := 0
          depth := 0
          assigned := []
          newAssigned := [] } } t)

/-- The panel: power-up pump by pump, light, glow, blink, RAM, faults, power-down; the keypad: scans, presses, releases, overrun, wake -/
def Obligations.PanelAndKeypad : Prop :=
  (∀ (s : State) (m : Master) (w : Word), Writable m R.PNL_CTL s → arg F.PNL_CTL_KEY w = 0xB4 ∧ arg F.PNL_CTL_ON w = 1 →
    arg F.PNL_CTL_LIGHT w = 0 ∧ arg F.PNL_CTL_GLOW w = 0 ∧ arg F.PNL_CTL_OFF w = 0 → get F.PNL_STATUS_STATE s = 0 →
    get F.PNL_CFG_PANEL s ≠ 3 →
    ∃ t, exec (.panelOn m w) s = .next t ∧ get F.PNL_STATUS_STATE t = 1 ∧ get F.PNL_STATUS_FRAME t = 0 ∧
      OnlyFlds [F.PNL_STATUS_STATE, F.PNL_STATUS_FRAME] { s with pnl := { s.pnl with pumps := 0, offPend := false } } t) ∧
  (∀ (s : State) (m : Master) (w : Word), Writable m R.PNL_CTL s → arg F.PNL_CTL_KEY w = 0xB4 →
    (arg F.PNL_CTL_ON w = 1 ∧ arg F.PNL_CTL_LIGHT w = 0 ∧ arg F.PNL_CTL_GLOW w = 0 ∧ (get F.PNL_STATUS_STATE s ≠ 0 ∨ get F.PNL_CFG_PANEL s = 3)) ∨ (arg F.PNL_CTL_ON w = 0 ∧ arg F.PNL_CTL_LIGHT w = 1 ∧ arg F.PNL_CTL_GLOW w = 0 ∧ get F.PNL_STATUS_STATE s ≠ 2 ∧ get F.PNL_STATUS_STATE s ≠ 4) ∨ (arg F.PNL_CTL_ON w = 0 ∧ arg F.PNL_CTL_LIGHT w = 0 ∧ arg F.PNL_CTL_GLOW w = 1 ∧ (get F.PNL_STATUS_STATE s ≠ 3 ∨ get F.PNL_CFG_PANEL s ≠ 0)) →
    arg F.PNL_CTL_OFF w = 0 →
    ∃ t, exec (.panelOn m w) s = .next t ∧ exec (.panelLight m w) s = .next t ∧ exec (.panelGlow m w) s = .next t ∧
      Raised F.PNL_CAUSE_CMD_REFUSED s t ∧ OnlyFlds [F.PNL_CAUSE_CMD_REFUSED, F.INT_HOST_PEND_PEND] s t) ∧
  (∀ (s : State), s.Inv → domOn 10 s = true → get F.PNL_STATUS_STATE s = 1 → s.pnl.pumps = 3 →
    ∃ t, exec .pumpInRegulation s = .next t ∧ get F.PNL_STATUS_STATE t = 2 ∧ Raised F.PNL_CAUSE_ON_DONE s t ∧
      fbit F.PNL_STATUS_PUMP_OK 1 t = true ∧ (∀ k, k < 512 → get (F.PNL_RAM_DOTS k) t = 0) ∧
      t = { s with
        regs := t.regs
        pnl := { s.pnl with pumps := 4 } }) ∧
  (∀ (s : State), domOn 10 s = true → get F.PNL_STATUS_STATE s = 1 → s.pnl.pumps < 3 →
    ∃ t, exec .pumpInRegulation s = .next t ∧ fbit F.PNL_STATUS_PUMP_OK (nth 0 [2, 0, 3] s.pnl.pumps) t = true ∧
      OnlyFlds [F.PNL_STATUS_PUMP_OK] { s with pnl := { s.pnl with pumps := s.pnl.pumps + 1 } } t) ∧
  (∀ (s : State), domOn 10 s = true → get F.PNL_STATUS_STATE s = 4 →
    exec .pumpInRegulation s = .next { s with pnl := { s.pnl with raising := s.pnl.raising - 1 } }) ∧
  (∀ (s : State), domOn 10 s = false ∨ (get F.PNL_STATUS_STATE s ≠ 1 ∧ get F.PNL_STATUS_STATE s ≠ 4) →
    exec .pumpInRegulation s = .next s) ∧
  (∀ (s : State) (m : Master) (w : Word), Writable m R.PNL_CTL s → arg F.PNL_CTL_KEY w ≠ 0xB4 →
    exec (.panelOn m w) s = .next s ∧ exec (.panelLight m w) s = .next s ∧ exec (.panelOff m w) s = .next s ∧ exec (.panelGlow m w) s = .next s) ∧
  (∀ (s : State) (m : Master) (w : Word), Writable m R.PNL_CTL s → arg F.PNL_CTL_KEY w = 0xB4 ∧ arg F.PNL_CTL_LIGHT w = 1 →
    arg F.PNL_CTL_ON w = 0 ∧ arg F.PNL_CTL_GLOW w = 0 ∧ arg F.PNL_CTL_OFF w = 0 → get F.PNL_STATUS_STATE s = 2 →
    exec (.panelLight m w) s = .next { s with pnl := { s.pnl with lightPend := true } }) ∧
  (∀ (s : State) (m : Master) (w : Word), Writable m R.PNL_CTL s → arg F.PNL_CTL_KEY w = 0xB4 ∧ arg F.PNL_CTL_LIGHT w = 1 →
    arg F.PNL_CTL_ON w = 0 ∧ arg F.PNL_CTL_GLOW w = 0 ∧ arg F.PNL_CTL_OFF w = 0 → get F.PNL_STATUS_STATE s = 4 →
    exec (.panelLight m w) s = .next { s with pnl := { s.pnl with
        lightPend := true
        raising := if s.pnl.lightPend then s.pnl.raising else 2 } }) ∧
  (∀ (s : State) (m : Master) (w : Word), Writable m R.PNL_CTL s → arg F.PNL_CTL_KEY w = 0xB4 ∧ arg F.PNL_CTL_GLOW w = 1 →
    arg F.PNL_CTL_ON w = 0 ∧ arg F.PNL_CTL_LIGHT w = 0 ∧ arg F.PNL_CTL_OFF w = 0 → get F.PNL_STATUS_STATE s = 3 →
    get F.PNL_CFG_PANEL s = 0 → exec (.panelGlow m w) s = .next { s with pnl := { s.pnl with glowPend := true } }) ∧
  (∀ (s : State) (m : Master) (w : Word), Writable m R.PNL_CTL s → arg F.PNL_CTL_KEY w = 0xB4 ∧ arg F.PNL_CTL_OFF w = 1 →
    arg F.PNL_CTL_ON w = 0 ∧ arg F.PNL_CTL_LIGHT w = 0 ∧ arg F.PNL_CTL_GLOW w = 0 →
    1 ≤ get F.PNL_STATUS_STATE s ∧ get F.PNL_STATUS_STATE s ≤ 4 →
    ∃ t, exec (.panelOff m w) s = .next t ∧ get F.PNL_STATUS_STATE t = 5 ∧
      OnlyFlds [F.PNL_STATUS_STATE] { s with pnl := { s.pnl with offPend := true, lightPend := false, glowPend := false } } t) ∧
  (∀ (s : State) (m : Master) (w : Word), Writable m R.PNL_CTL s → arg F.PNL_CTL_KEY w = 0xB4 →
    arg F.PNL_CTL_ON w = 0 ∧ arg F.PNL_CTL_LIGHT w = 0 ∧ arg F.PNL_CTL_GLOW w = 0 →
    get F.PNL_STATUS_STATE s = 0 ∨ get F.PNL_STATUS_STATE s = 5 → exec (.panelOff m w) s = .next s) ∧
  (∀ (s : State), domOn 10 s = true → 2 ≤ get F.PNL_STATUS_STATE s →
    s.pnl.offPend = false ∧ s.pnl.lightPend = true ∧ s.pnl.raising = 0 →
    ∃ t, exec .panelFrameEnd s = .next t ∧ get F.PNL_STATUS_STATE t = 3 ∧ Raised F.PNL_CAUSE_LIT s t ∧
      get F.PNL_STATUS_FRAME t = (get F.PNL_STATUS_FRAME s + 1) % 65536 ∧
      OnlyFlds [F.PNL_STATUS_STATE, F.PNL_STATUS_FRAME, F.PNL_CAUSE_LIT, F.INT_HOST_PEND_PEND] { s with
        pnl := { s.pnl with
          blinks := (List.range 8).map fun n => (rd s (R.PNL_BLINK n)).toNat
          lightPend := false
          glowPend := false } } t) ∧
  (∀ (s : State), domOn 10 s = true → 2 ≤ get F.PNL_STATUS_STATE s →
    s.pnl.offPend = false ∧ s.pnl.lightPend = false ∧ s.pnl.glowPend = true →
    ∃ t, exec .panelFrameEnd s = .next t ∧ get F.PNL_STATUS_STATE t = 4 ∧
      get F.PNL_STATUS_FRAME t = (get F.PNL_STATUS_FRAME s + 1) % 65536 ∧
      OnlyFlds [F.PNL_STATUS_STATE, F.PNL_STATUS_FRAME] { s with
        pnl := { s.pnl with
          blinks := (List.range 8).map fun n => (rd s (R.PNL_BLINK n)).toNat
          glowPend := false } } t) ∧
  (∀ (s : State), domOn 10 s = true → 2 ≤ get F.PNL_STATUS_STATE s →
    s.pnl.offPend = false ∧ (s.pnl.lightPend = false ∨ s.pnl.raising ≠ 0) ∧ s.pnl.glowPend = false →
    ∃ t, exec .panelFrameEnd s = .next t ∧ get F.PNL_STATUS_FRAME t = (get F.PNL_STATUS_FRAME s + 1) % 65536 ∧
      OnlyFlds [F.PNL_STATUS_FRAME] { s with
        pnl := { s.pnl with blinks := (List.range 8).map fun n => (rd s (R.PNL_BLINK n)).toNat } } t) ∧
  (∀ (s : State), s.Inv → domOn 10 s = true → 2 ≤ get F.PNL_STATUS_STATE s → s.pnl.offPend = true →
    ∃ t, exec .panelFrameEnd s = .next t ∧ get F.PNL_STATUS_STATE t = 0 ∧ get F.PNL_STATUS_PUMP_OK t = 0 ∧
      Raised F.PNL_CAUSE_OFF_DONE s t ∧ (∀ k, k < 512 → get (F.PNL_RAM_DOTS k) t = 0) ∧
      t = { s with
        regs := t.regs
        pnl := { s.pnl with
          blinks := (List.range 8).map fun n => (rd s (R.PNL_BLINK n)).toNat
          pumps := 0
          offPend := false } }) ∧
  (∀ (s : State) (k sub : Nat), (domOn 10 s = false ∨ get F.PNL_STATUS_STATE s < 2 → exec .panelFrameEnd s = .next s) ∧
      (domOn 10 s = false ∨ get F.PNL_STATUS_STATE s = 0 ∨ 4 < get F.PNL_STATUS_STATE s ∨ 4 ≤ k → exec (.pumpFault k) s = .next s) ∧
      (domOn 10 s = false ∨ get F.PNL_CFG_PANEL s ≠ 2 → exec (.blinkPhase sub) s = .next s) ∧
      (scanning s = false → exec (.keypadScan k) s = .next s ∧ exec (.keyPress k) s = .next s ∧ exec (.keyRelease k) s = .next s) ∧
      (fbit F.KPD_STATUS_HELD k s = true ∨ nth 0 s.pnl.seen k < max 1 (get F.KPD_CFG_DEB s) → exec (.keyPress k) s = .next s) ∧
      (fbit F.KPD_STATUS_HELD k s = false ∨ nth 0 s.pnl.unseen k < max 1 (get F.KPD_CFG_DEB s) → exec (.keyRelease k) s = .next s)) ∧
  (∀ (s : State) (k : Nat), domOn 10 s = true → 1 ≤ get F.PNL_STATUS_STATE s ∧ get F.PNL_STATUS_STATE s ≤ 4 → k < 4 →
    ∃ t, exec (.pumpFault k) s = .next t ∧ Raised F.PNL_CAUSE_PUMP_FAULT s t ∧ fbit F.PNL_STATUS_PUMP_OK k t = false ∧
      get F.PNL_STATUS_STATE t = 5 ∧
      OnlyFlds [F.PNL_STATUS_STATE, F.PNL_STATUS_PUMP_OK, F.PNL_CAUSE_PUMP_FAULT, F.INT_HOST_PEND_PEND] { s with
        pnl := { s.pnl with offPend := true, lightPend := false, glowPend := false } } t) ∧
  (∀ (s : State) (sub : Nat), domOn 10 s = true → get F.PNL_CFG_PANEL s = 2 →
    ∃ t, exec (.blinkPhase sub) s = .next t ∧ t = { s with pnl := { s.pnl with blinkOff := t.pnl.blinkOff } } ∧
      (∀ k, k < 8 → bit t.pnl.blinkOff k = blinkOffAt (blinkField F.PNL_BLINK_RATE k s) (rtc s) sub)) ∧
  (∀ (s : State) (m : Master) (k : Nat) (w : Word), k < 512 → Writable m (R.PNL_RAM k) s → 2 ≤ get F.PNL_STATUS_STATE s →
    ∃ t, exec (.panelRamWrite m k w) s = .next t ∧ get (F.PNL_RAM_DOTS k) t = w.toNat ∧ OnlyFlds [F.PNL_RAM_DOTS k] s t) ∧
  (∀ (s : State) (m : Master) (k : Nat) (w : Word), k < 512 → Writable m (R.PNL_RAM k) s → get F.PNL_STATUS_STATE s ≤ 1 →
    ∃ t, exec (.panelRamWrite m k w) s = .next t ∧ Raised F.PNL_CAUSE_CMD_REFUSED s t ∧
      OnlyFlds [F.PNL_CAUSE_CMD_REFUSED, F.INT_HOST_PEND_PEND] s t) ∧
  (∀ (s : State) (keys : Nat), scanning s = true → s.pnl.wakeNext = false →
    ∃ t, exec (.keypadScan keys) s = .next t ∧ t = { s with pnl := { s.pnl with seen := t.pnl.seen, unseen := t.pnl.unseen } } ∧
      (∀ k, k < s.pnl.seen.length → nth 0 t.pnl.seen k = if bit keys k then min 5 (nth 0 s.pnl.seen k + 1) else 0) ∧
      (∀ k, k < s.pnl.unseen.length → nth 0 t.pnl.unseen k = if bit keys k then 0 else min 5 (nth 0 s.pnl.unseen k + 1))) ∧
  (∀ (s : State) (keys : Nat), s.Inv → scanning s = true → s.pnl.wakeNext = true → s.pnl.fifo = [] →
    ∃ t, exec (.keypadScan keys) s = .next t ∧ Raised F.KPD_CAUSE_WAKE s t ∧ Raised F.KPD_CAUSE_EVENT s t ∧
      get F.KPD_STATUS_LEVEL t = 1 ∧ t.pnl.wakeNext = false ∧ t.pnl.fifo.length = 1 ∧
      t.pnl.fifo.headD 0 % 256 = (((List.range 20).find? (bit keys)).getD 31) + 32 + 64 + 128 ∧
      (∀ k, k < 20 → (List.range 20).find? (bit keys) = some k → fbit F.KPD_STATUS_HELD k t = true)) ∧
  (∀ (s : State) (k : Nat), s.Inv → scanning s = true → k < 20 → fbit F.KPD_STATUS_HELD k s = false →
    1 ≤ get F.KPD_CFG_DEB s ∧ get F.KPD_CFG_DEB s ≤ nth 0 s.pnl.seen k → popCount (get F.KPD_STATUS_HELD s) 20 < 2 →
    s.pnl.fifo.length < 8 → s.pnl.wakeNext = false →
    ∃ t x, exec (.keyPress k) s = .next t ∧ x < 1024 ∧ t.pnl = { s.pnl with fifo := s.pnl.fifo ++ [k + 32 + 128 + 256 * x] } ∧
      fbit F.KPD_STATUS_HELD k t = true ∧ get F.KPD_STATUS_LEVEL t = s.pnl.fifo.length + 1 ∧ Raised F.KPD_CAUSE_EVENT s t ∧
      OnlyFlds [F.KPD_STATUS_HELD, F.KPD_STATUS_LEVEL, F.KPD_CAUSE_EVENT, F.INT_HOST_PEND_PEND, ⟨R.KPD_EVENT, 0, 32⟩] { s with
        pnl := t.pnl
        free := t.free } t) ∧
  (∀ (s : State) (k : Nat), scanning s = true → k < 20 → fbit F.KPD_STATUS_HELD k s = false →
    max 1 (get F.KPD_CFG_DEB s) ≤ nth 0 s.pnl.seen k → 2 ≤ popCount (get F.KPD_STATUS_HELD s) 20 →
    ∃ t, exec (.keyPress k) s = .next t ∧ Raised F.KPD_CAUSE_ROLLOVER s t ∧ OnlyFlds [F.KPD_CAUSE_ROLLOVER, F.INT_HOST_PEND_PEND] s t) ∧
  (∀ (s : State) (k : Nat), s.Inv → scanning s = true → k < 20 → fbit F.KPD_STATUS_HELD k s = true →
    1 ≤ get F.KPD_CFG_DEB s ∧ get F.KPD_CFG_DEB s ≤ nth 0 s.pnl.unseen k → s.pnl.fifo.length < 8 →
    ∃ t x, exec (.keyRelease k) s = .next t ∧ x < 1024 ∧
      t.pnl = { s.pnl with wakeNext := false, fifo := s.pnl.fifo ++ [k + (if s.pnl.wakeNext then 64 else 0) + 128 + 256 * x] } ∧
      fbit F.KPD_STATUS_HELD k t = false ∧ get F.KPD_STATUS_LEVEL t = s.pnl.fifo.length + 1 ∧ Raised F.KPD_CAUSE_EVENT s t) ∧
  (∀ (s : State) (k : Nat), scanning s = true → k < 20 → fbit F.KPD_STATUS_HELD k s = true →
    max 1 (get F.KPD_CFG_DEB s) ≤ nth 0 s.pnl.unseen k → 8 ≤ s.pnl.fifo.length →
    ∃ t, exec (.keyRelease k) s = .next t ∧ Raised F.KPD_CAUSE_OVERRUN s t ∧ fbit F.KPD_STATUS_HELD k t = false ∧
      OnlyFlds [F.KPD_STATUS_HELD, F.KPD_CAUSE_OVERRUN, F.INT_HOST_PEND_PEND] { s with
        pnl := { s.pnl with wakeNext := false }
        free := t.free } t)

/-- Host requests: the slot and RSEQ, STATUS, READ, WRITE, OBJECT, FAB_SEND, FAB_RECV, WAKE, faulty requests, responses and fetches -/
def Obligations.HostFrames : Prop :=
  (∀ (s : State) (i a n : Nat) (bs : List Byte) (wd : World), ifaceUp i s = true → slotOf i s ≠ .free →
    ∃ t, exec (.hostStatus i) s = .next t ∧ exec (.hostRead i a n 0) s = .next t ∧ exec (.hostWrite i a bs wd) s = .next t ∧
      exec (.hostObject i bs) s = .next t ∧ exec (.fabSend i a bs) s = .next t ∧ exec (.fabRecv i) s = .next t ∧
      exec (.hostWake i n) s = .next t ∧
      Raised F.HIF_CAUSE_REQ_DROPPED s t ∧ OnlyFlds [F.HIF_CAUSE_REQ_DROPPED, F.INT_HOST_PEND_PEND] s t) ∧
  (∀ (s : State) (i a n : Nat) (bs : List Byte) (wd : World), ifaceUp i s = false →
    exec (.hostStatus i) s = .next s ∧ exec (.hostRead i a n 0) s = .next s ∧ exec (.hostWrite i a bs wd) s = .next s ∧
      exec (.hostObject i bs) s = .next s ∧ exec (.fabSend i a bs) s = .next s ∧ exec (.fabRecv i) s = .next s ∧
      exec (.hostWake i n) s = .next s ∧ exec (.unknownCommand i bs) s = .next s ∧ exec (.responseReady i) s = .next s ∧
      exec (.hostFetch i) s = .next s) ∧
  (∀ (s : State) (i : Nat), s.Inv → Free i s → i < 2 →
    ∃ t, exec (.hostStatus i) s = .next t ∧ slotOf i t = .ready ⟨0, 7, (nth 0 s.hif.rseq i + 1) % 256,
        le 4 (rd t R.HIF_STATUS).toNat ++ le 4 (rd s R.INT_HOST_PEND).toNat⟩ ∧
      RaisedAt F.HIF_CAUSE_RSP_READY i s t ∧ fbit F.HIF_STATUS_SLOT i t = true ∧
      OnlyFlds [F.HIF_CAUSE_RSP_READY, F.HIF_STATUS_SLOT, F.INT_HOST_PEND_PEND] { s with hif := t.hif } t) ∧
  (∀ (s : State) (i a n : Nat), s.Inv → Free i s → 0x201FC000 ≤ a ∧ a + n ≤ 0x20200000 ∧ a % 4 = 0 →
    4 ≤ n ∧ n ≤ 1024 ∧ n % 4 = 0 → halted s = false ∧ domOn 5 s = true →
    ∃ t, exec (.hostRead i a n 0) s = .next t ∧ Answered i 1 0 (rdBytes s a n) [] s t) ∧
  (∀ (s : State) (i a n ecc : Nat), s.Inv → Free i s → 0x20000000 ≤ a ∧ a < 0x201FC000 ∧ a % 4 = 0 →
    4 ≤ n ∧ n ≤ 1024 ∧ n % 4 = 0 → halted s = false →
    ∃ t, exec (.hostRead i a n ecc) s = .next t ∧ slotOf i t = .busy 1 ((nth 0 s.hif.rseq i + 1) % 256) (some ⟨3, 1, (nth 0 s.hif.rseq i + 1) % 256, []⟩) ∧
      Raised F.HIF_CAUSE_DENIED s t ∧ t.mem = s.mem) ∧
  (∀ (s : State) (i a n ecc : Nat), s.Inv → Free i s → a % 4 ≠ 0 ∨ n < 4 ∨ 1024 < n ∨ n % 4 ≠ 0 →
    ∃ t, exec (.hostRead i a n ecc) s = .next t ∧ Answered i 1 5 [] [] s t) ∧
  (∀ (s : State) (i a ecc : Nat), s.Inv → Free i s → 0x40000000 ≤ a ∧ a ≤ 0x401BFFFC ∧ a % 4 = 0 →
    halted s = false ∧ domOn (blockDom (blockOf a)) s = true → blockOf a ≠ blockOf R.HIF_STATUS ∧ a ≠ R.INT_SUMMARY →
    liveWord a s = none →
    ∃ t, exec (.hostRead i a 4 ecc) s = .next t ∧ slotOf i t = .busy 1 ((nth 0 s.hif.rseq i + 1) % 256)
        (some ⟨0, 1, (nth 0 s.hif.rseq i + 1) % 256, le 4 (shownWord (hostOf i) a s).toNat⟩)) ∧
  (∀ (s : State) (i a ecc : Nat) (w : Word) (wd : World), s.Inv → Free i s → 0x40000000 ≤ a ∧ a ≤ 0x401BFFFC ∧ a % 4 = 0 →
    halted s = false ∧ domOn (blockDom (blockOf a)) s = false →
    (∃ t, exec (.hostRead i a 4 ecc) s = .next t ∧ slotOf i t = .busy 1 ((nth 0 s.hif.rseq i + 1) % 256)
        (some ⟨2, 1, (nth 0 s.hif.rseq i + 1) % 256, []⟩)) ∧
      (∃ t, exec (.hostWrite i a (le 4 w.toNat) wd) s = .next t ∧ slotOf i t = .busy 2 ((nth 0 s.hif.rseq i + 1) % 256)
        (some ⟨2, 2, (nth 0 s.hif.rseq i + 1) % 256, []⟩))) ∧
  (∀ (s : State) (i a : Nat) (w : Word) (wd : World), s.Inv → Free i s → 0x40000000 ≤ a ∧ a ≤ 0x401BFFFC ∧ a % 4 = 0 →
    halted s = false ∧ domOn (blockDom (blockOf a)) s = true ∧ mayWrite (hostOf i) a s = false →
    ∃ t, exec (.hostWrite i a (le 4 w.toNat) wd) s = .next t ∧
      Answered i 2 3 [] [F.HIF_CAUSE_DENIED, F.INT_HOST_PEND_PEND] s t ∧ Raised F.HIF_CAUSE_DENIED s t) ∧
  (∀ (s : State) (i a : Nat) (bs : List Byte) (wd : World), s.Inv → Free i s →
    0x201FC000 ≤ a ∧ a + bs.length ≤ 0x20200000 ∧ a % 4 = 0 → 4 ≤ bs.length ∧ bs.length ≤ 1024 ∧ bs.length % 4 = 0 →
    halted s = false ∧ domOn 5 s = true →
    ∃ t, exec (.hostWrite i a bs wd) s = .next t ∧ Answered i 2 0 [] [] (wrBytes a bs s) t) ∧
  (∀ (s : State) (i a : Nat) (bs : List Byte) (wd : World), s.Inv → Free i s →
    0x24000000 ≤ a ∧ a ≤ 0x2407FFFF ∧ a % 4 = 0 → 4 ≤ bs.length ∧ bs.length ≤ 1024 ∧ bs.length % 4 = 0 → halted s = false →
    ∃ t, exec (.hostWrite i a bs wd) s = .next t ∧ slotOf i t = .busy 2 ((nth 0 s.hif.rseq i + 1) % 256) (some ⟨3, 2, (nth 0 s.hif.rseq i + 1) % 256, []⟩) ∧
      Raised F.HIF_CAUSE_DENIED s t ∧ t.mem = s.mem) ∧
  (∀ (s : State) (i a : Nat) (bs : List Byte) (wd : World), s.Inv → Free i s →
    a % 4 ≠ 0 ∨ bs.length < 4 ∨ 1024 < bs.length ∨ bs.length % 4 ≠ 0 →
    ∃ t, exec (.hostWrite i a bs wd) s = .next t ∧ Answered i 2 5 [] [] s t) ∧
  (∀ (s : State) (i : Nat) (bs : List Byte), s.Inv → Free i s → 16 ≤ bs.length ∧ bs.length ≤ 1100 →
    halted s = false ∧ e2Up s = true → shapeOk bs = true →
    ∃ t, exec (.hostObject i bs) s = .next t ∧ slotOf i t = .busy 3 ((nth 0 s.hif.rseq i + 1) % 256) none ∧
      OnlyFlds [F.HIF_STATUS_SLOT] { s with
        hif := t.hif
        obj := { s.obj with req := upd s.obj.req i fun _ => some { bytes := bs } } } t) ∧
  (∀ (s : State) (i : Nat) (bs : List Byte), s.Inv → Free i s → 16 ≤ bs.length ∧ bs.length ≤ 1100 →
    halted s = false ∧ domOn 5 s = true ∧ e2Up s = false → sessState i s = 0 →
    ∃ t, exec (.hostObject i bs) s = .next t ∧ Answered i 3 1 [] [] s t) ∧
  (∀ (s : State) (i a : Nat) (bs : List Byte) (d : Dest), s.Inv → Free i s →
    6 ≤ bs.length ∧ bs.length ≤ 4096 ∧ field bs 4 2 + 6 = bs.length →
    halted s = false ∧ e10Up s = true ∧ isHead s = true ∧ inPass s = false → fabDest a = some d →
    ∃ t, exec (.fabSend i a bs) s = .next t ∧ slotOf i t = .busy 4 ((nth 0 s.hif.rseq i + 1) % 256) (some ⟨0, 4, (nth 0 s.hif.rseq i + 1) % 256, []⟩) ∧
      t.fab = (sendMessage { mtype := field bs 0 1, msgId := field bs 2 2, src := myName s, dest := d, body := bs.drop 6 } s).fab) ∧
  (∀ (s : State) (i a : Nat) (bs : List Byte), s.Inv → Free i s → 6 ≤ bs.length ∧ bs.length ≤ 4096 →
    halted s = false ∧ domOn 9 s = true ∧ isHead s = false →
    ∃ t, exec (.fabSend i a bs) s = .next t ∧ Answered i 4 3 [] [F.HIF_CAUSE_DENIED, F.INT_HOST_PEND_PEND] s t ∧ Raised F.HIF_CAUSE_DENIED s t) ∧
  (∀ (s : State) (i : Nat) (m : Message) (l : List Message), s.Inv → Free i s →
    halted s = false ∧ domOn 9 s = true ∧ isHead s = true → s.hif.inbox = m :: l → l.length < 8 →
    ∃ t, exec (.fabRecv i) s = .next t ∧ get F.HIF_STATUS_INBOX t = l.length ∧ (l = [] → get F.HIF_CAUSE_FAB_RX t = 0) ∧
      (l ≠ [] → get F.HIF_CAUSE_FAB_RX t = get F.HIF_CAUSE_FAB_RX s) ∧
      Answered i 5 0 (osrcBytes m.src ++ messageBytes m) [F.HIF_STATUS_INBOX, F.HIF_CAUSE_FAB_RX]
        { s with hif := { s.hif with inbox := l } } t) ∧
  (∀ (s : State) (i : Nat), s.Inv → Free i s → halted s = false ∧ domOn 9 s = true ∧ isHead s = true → s.hif.inbox = [] →
    ∃ t, exec (.fabRecv i) s = .next t ∧ Answered i 5 0 [] [] s t) ∧
  (∀ (s : State) (i : Nat), s.Inv → Free i s → halted s = false ∧ domOn 9 s = true ∧ isHead s = false →
    ∃ t, exec (.fabRecv i) s = .next t ∧ Answered i 5 3 [] [F.HIF_CAUSE_DENIED, F.INT_HOST_PEND_PEND] s t ∧ Raised F.HIF_CAUSE_DENIED s t) ∧
  (∀ (s : State) (i bad : Nat), s.Inv → Free i s → halted s = false → fbit F.PMU_WAKE_EN_EN 3 s = true →
    get F.PMU_STATE_STATE s = 0 → ∃ t, exec (.hostWake i bad) s = .next t ∧ Raised F.HIF_CAUSE_WAKE_REQ s t ∧
      Answered i 6 0 [] [F.HIF_CAUSE_WAKE_REQ, F.INT_HOST_PEND_PEND] s t) ∧
  (∀ (s : State) (i bad : Nat), s.Inv → Free i s → halted s = false → fbit F.PMU_WAKE_EN_EN 3 s = false →
    ∃ t, exec (.hostWake i bad) s = .next t ∧ Raised F.HIF_CAUSE_DENIED s t ∧
      Answered i 6 3 [] [F.HIF_CAUSE_WAKE_REQ, F.HIF_CAUSE_DENIED, F.INT_HOST_PEND_PEND] s t) ∧
  (∀ (s : State) (i : Nat) (bs : List Byte), s.Inv → Free i s →
    bs.length < 9 ∨ crc16 (bs.take (bs.length - 2)) ≠ field bs (bs.length - 2) 2 →
    ∃ t, exec (.unknownCommand i bs) s = .next t ∧ Raised F.HIF_CAUSE_CRC_FAIL s t ∧
      Answered i (field bs 0 1) 4 [] [F.HIF_CAUSE_CRC_FAIL, F.INT_HOST_PEND_PEND] s t) ∧
  (∀ (s : State) (i : Nat) (bs : List Byte), s.Inv → Free i s →
    9 ≤ bs.length ∧ crc16 (bs.take (bs.length - 2)) = field bs (bs.length - 2) 2 →
    8 ≤ field bs 0 1 ∨ (field bs 0 1 = 0 ∧ 2 ≤ i) ∨ ((field bs 0 1 = 1 ∨ field bs 0 1 = 2) ∧ (field bs 1 4 % 4 ≠ 0 ∨ field bs 5 2 < 4 ∨ 1024 < field bs 5 2 ∨ field bs 5 2 % 4 ≠ 0)) ∨ (field bs 0 1 = 3 ∧ (field bs 5 2 < 16 ∨ 1100 < field bs 5 2)) ∨ (field bs 0 1 = 4 ∧ (field bs 5 2 < 6 ∨ 4096 < field bs 5 2)) ∨ (5 ≤ field bs 0 1 ∧ field bs 0 1 ≤ 7 ∧ field bs 5 2 ≠ 0) ∨ bs.length ≠ 9 + (if field bs 0 1 = 1 then 0 else field bs 5 2) →
    ∃ t, exec (.unknownCommand i bs) s = .next t ∧ Answered i (field bs 0 1) 5 [] [] s t) ∧
  (∀ (s : State) (i : Nat) (bs : List Byte), frameFault i bs = none → exec (.unknownCommand i bs) s = .next s) ∧
  (∀ (s : State) (i cmd n : Nat) (r : HostResp), ifaceUp i s = true → slotOf i s = .busy cmd n (some r) → i < 2 →
    ∃ t, exec (.responseReady i) s = .next t ∧ slotOf i t = .ready r ∧ RaisedAt F.HIF_CAUSE_RSP_READY i s t ∧
      nth 0 t.hif.since i = (if i < s.hif.since.length then s.sup.mono else 0)) ∧
  (∀ (s : State) (i cmd n : Nat) (r : HostResp), ifaceUp i s = true → slotOf i s = .busy cmd n (some r) →
    2 ≤ i ∧ i < s.hif.sent.length →
    ∃ t, exec (.responseReady i) s = .next t ∧ slotOf i t = .free ∧ nth none t.hif.sent i = some (0x7E :: respBytes r)) ∧
  (∀ (s : State) (i : Nat), ((∀ cmd n r, slotOf i s ≠ .busy cmd n (some r)) → exec (.responseReady i) s = .next s) ∧
      ((∀ r, slotOf i s ≠ .ready r) ∨ s.sup.mono < nth 0 s.hif.since i + 2048 → exec (.responseDiscard i) s = .next s)) ∧
  (∀ (s : State) (i : Nat) (r : HostResp), slotOf i s = .ready r → i < 2 → nth 0 s.hif.since i + 2048 ≤ s.sup.mono →
    ∃ t, exec (.responseDiscard i) s = .next t ∧ slotOf i t = .free ∧ fbit F.HIF_CAUSE_RSP_READY i t = false ∧
      OnlyFlds [F.HIF_CAUSE_RSP_READY, F.HIF_STATUS_SLOT] { s with hif := t.hif } t) ∧
  (∀ (s : State) (i : Nat) (r : HostResp), ifaceUp i s = true → slotOf i s = .ready r → i < 2 ∧ i < s.hif.sent.length →
    ∃ t, exec (.hostFetch i) s = .next t ∧ slotOf i t = .free ∧ nth none t.hif.sent i = some (respBytes r) ∧
      fbit F.HIF_CAUSE_RSP_READY i t = false ∧ OnlyFlds [F.HIF_CAUSE_RSP_READY, F.HIF_STATUS_SLOT] { s with hif := t.hif } t) ∧
  (∀ (s : State) (i cmd n : Nat) (r : Option HostResp), ifaceUp i s = true → slotOf i s = .busy cmd n r →
    i < 2 ∧ i < s.hif.sent.length →
    exec (.hostFetch i) s = .next { s with hif := { s.hif with sent := upd s.hif.sent i fun _ => some (respBytes ⟨6, cmd, n, []⟩) } }) ∧
  (∀ (s : State) (i : Nat), ifaceUp i s = true → slotOf i s = .free → i < 2 →
    exec (.hostFetch i) s = .next { s with hif := { s.hif with sent := upd s.hif.sent i fun _ => none } }) ∧
  (∀ (s : State) (i : Nat), s.Inv → Free i s → 2 ≤ i → ∃ t, exec (.hostFetch i) s = .next t ∧ Answered i 0 5 [] [] s t) ∧
  (∀ (s : State) (i : Nat), exec (.uartGapTimeout i) s = .next s)

/-- The optical port: sign-on, identification, readout, frame mode, the silent option and the return to the sign-on wait -/
def Obligations.OpticalPort : Prop :=
  (∀ (s : State) (msg : List Byte), opticalUp s = true → s.hif.optical = .signOn → signOnFor msg s = true →
    ∃ t, exec (.signOn msg) s = .next t ∧ Raised F.HIF_CAUSE_OPT_SIGNON s t ∧ get F.HIF_STATUS_OPT_FRAME t = 0 ∧
      OnlyFlds [F.HIF_CAUSE_OPT_SIGNON, F.INT_HOST_PEND_PEND, F.HIF_STATUS_OPT_FRAME] { s with hif := { s.hif with
        optical := .identified
        optAt := s.sup.mono
        sent := upd s.hif.sent 5 fun _ => some ([0x2F] ++ s.ld.tables.obj.flagId ++ le 1 (rateChar s) ++ [0x56, 0x4D, 0x39, 0x36, 0x34, 0x30, 0x0D, 0x0A]) } } t) ∧
  (∀ (s : State) (msg : List Byte), opticalUp s = true → s.hif.optical = .identified →
    ∃ t, exec (.signOn msg) s = .next t ∧ get F.HIF_STATUS_OPT_FRAME t = 0 ∧
      OnlyFlds [F.HIF_STATUS_OPT_FRAME] { s with hif := { s.hif with optical := .signOn, optAt := s.sup.mono } } t) ∧
  (∀ (s : State) (msg : List Byte), s.hif.optical ≠ .identified →
    opticalUp s = false ∨ s.hif.optical ≠ .signOn ∨ signOnFor msg s = false →
    exec (.signOn msg) s = .next s ∧ exec .dataReadout s = .next s ∧ exec .programmingMode s = .next s ∧ exec .frameMode s = .next s) ∧
  (∀ (s : State) (msg : List Byte), opticalUp s = false →
    exec (.signOn msg) s = .next s ∧ exec .dataReadout s = .next s ∧ exec .programmingMode s = .next s ∧ exec .frameMode s = .next s) ∧
  (∀ (s : State) (msg : List Byte),
    (signOnFor [0x2F, 0x3F, 0x21] s = true) ∧ (signOnFor ([0x2F, 0x3F] ++ s.ld.tables.obj.optAddress ++ [0x21]) s = true) ∧
      (msg.take 2 ≠ [0x2F, 0x3F] → signOnFor msg s = false)) ∧
  (∀ (s : State), s.hif.optical = .signOn ∨ s.sup.mono < s.hif.optAt + (if s.hif.optical = .frame then 61440 else 1536) →
    exec .opticalTimeout s = .next s) ∧
  (∀ (s : State), opticalUp s = true → s.hif.optical = .identified → e2Up s = false → ∃ t, exec .dataReadout s = .next t ∧
      OnlyFlds [F.HIF_STATUS_OPT_FRAME] { s with hif := { s.hif with optical := .signOn, optAt := s.sup.mono } } t) ∧
  (∀ (s : State), 3 ≤ get (F.HIF_UART_CFG_BAUD 3) s ∧ get (F.HIF_UART_CFG_BAUD 3) s ≤ 5 →
    rateChar s = 0x31 + get (F.HIF_UART_CFG_BAUD 3) s) ∧
  (∀ (s : State), opticalUp s = true → s.hif.optical = .identified → e2Up s = true → ∃ t b, exec .dataReadout s = .next t ∧
      b = ((s.ld.tables.obj.readout.take 32).flatMap fun o => readoutLine o s) ++ [0x21, 0x0D, 0x0A, 0x03] ∧
      OnlyFlds [F.HIF_STATUS_OPT_FRAME] { s with hif := { s.hif with
        optical := .signOn
        optAt := s.sup.mono
        sent := upd s.hif.sent 5 fun _ => some ([0x02] ++ b ++ [bcc b]) } } t) ∧
  (∀ (s : State), opticalUp s = true → s.hif.optical = .identified →
    ∃ t, exec .programmingMode s = .next t ∧ get F.HIF_STATUS_OPT_FRAME t = 0 ∧
      OnlyFlds [F.HIF_STATUS_OPT_FRAME] { s with hif := { s.hif with optical := .silent, optAt := s.sup.mono } } t) ∧
  (∀ (s : State), opticalUp s = true → s.hif.optical = .identified →
    ∃ t, exec .frameMode s = .next t ∧ get F.HIF_STATUS_OPT_FRAME t = 1 ∧
      OnlyFlds [F.HIF_STATUS_OPT_FRAME] { s with hif := { s.hif with optical := .frame, optAt := s.sup.mono } } t) ∧
  (∀ (s : State), s.hif.optical ≠ .signOn → s.hif.optAt + (if s.hif.optical = .frame then 61440 else 1536) ≤ s.sup.mono →
    ∃ t, exec .opticalTimeout s = .next t ∧ get F.HIF_STATUS_OPT_FRAME t = 0 ∧
      OnlyFlds [F.HIF_STATUS_OPT_FRAME] { s with hif := { s.hif with optical := .signOn, optAt := s.sup.mono } } t)

/-- Run-time claims of pads and timers are granted where nothing else holds them; timers start, stop, match and capture -/
def Obligations.ClaimsAndTimers : Prop :=
  (∀ (s : State) (m : Master) (w : Word) (n : Nat), Writable m R.PIN_CLAIM s →
    arg F.PIN_CLAIM_KIND w = 0 ∧ arg F.PIN_CLAIM_GO w = 1 → arg F.PIN_CLAIM_INDEX w = n ∧ n < 80 →
    arg F.PIN_CLAIM_FUNC w = 1 → 1 ≤ arg F.PIN_CLAIM_OWNER w → get (F.PIN_PAD_FUNC n) s = 0 →
    ∃ t, exec (.claimGo m w) s = .next t ∧ Raised F.PIN_CAUSE_CLAIM_DONE s t ∧ get (F.PIN_PAD_FUNC n) t = 1 ∧
      get (F.PIN_PAD_OWNER n) t = arg F.PIN_CLAIM_OWNER w ∧
      OnlyFlds [F.PIN_CAUSE_CLAIM_DONE, F.INT_HOST_PEND_PEND, ⟨R.PIN_PAD n, 0, 32⟩] { s with
        hif := { s.hif with runPads := n :: s.hif.runPads } } t) ∧
  (∀ (s : State) (m : Master) (w : Word) (n : Nat), Writable m R.PIN_CLAIM s → domOn 5 s = true →
    arg F.PIN_CLAIM_KIND w = 1 ∧ arg F.PIN_CLAIM_GO w = 1 → arg F.PIN_CLAIM_INDEX w = n ∧ n < 8 →
    1 ≤ arg F.PIN_CLAIM_OWNER w → get (F.TIM_CTL_OWNER n) s = 0 →
    ∃ t, exec (.claimGo m w) s = .next t ∧ Raised F.PIN_CAUSE_CLAIM_DONE s t ∧
      get (F.TIM_CTL_OWNER n) t = arg F.PIN_CLAIM_OWNER w ∧
      OnlyFlds [F.PIN_CAUSE_CLAIM_DONE, F.INT_HOST_PEND_PEND, F.TIM_CTL_OWNER n] { s with
        hif := { s.hif with runTims := n :: s.hif.runTims } } t) ∧
  (∀ (s : State) (m : Master) (w : Word) (n k : Nat), Writable m R.PIN_CLAIM s →
    arg F.PIN_CLAIM_KIND w = 0 ∧ arg F.PIN_CLAIM_GO w = 1 → arg F.PIN_CLAIM_INDEX w = n ∧ n = 0x30 + k ∧ k < 8 →
    arg F.PIN_CLAIM_FUNC w = 15 → 1 ≤ arg F.PIN_CLAIM_OWNER w →
    get (F.PIN_PAD_FUNC n) s = 9 ∧ get (F.PIN_PAD_SHARED n) s = 0 →
    ∃ t, exec (.claimGo m w) s = .next t ∧ Raised F.PIN_CAUSE_CLAIM_DONE s t ∧ get (F.PIN_PAD_FUNC n) t = 9 ∧
      get (F.PIN_PAD_SHARED n) t = 1) ∧
  (∀ (s : State) (m : Master) (w : Word), Writable m R.PIN_CLAIM s → domOn 5 s = true → arg F.PIN_CLAIM_GO w = 1 →
    (arg F.PIN_CLAIM_KIND w = 0 ∧ get (F.PIN_PAD_FUNC (arg F.PIN_CLAIM_INDEX w)) s ≠ 0 ∧ get (F.PIN_PAD_FUNC (arg F.PIN_CLAIM_INDEX w)) s ≠ 9) ∨ (arg F.PIN_CLAIM_KIND w = 0 ∧ arg F.PIN_CLAIM_FUNC w = 9) ∨ (arg F.PIN_CLAIM_KIND w = 1 ∧ get (F.TIM_CTL_OWNER (arg F.PIN_CLAIM_INDEX w)) s ≠ 0) ∨ arg F.PIN_CLAIM_OWNER w = 0 →
    ∃ t, exec (.claimGo m w) s = .next t ∧ Raised F.PIN_CAUSE_CLAIM_CONFLICT s t ∧
      OnlyFlds [F.PIN_CAUSE_CLAIM_CONFLICT, F.INT_HOST_PEND_PEND] s t) ∧
  (∀ (s : State) (m : Master) (w : Word) (n : Nat), s.Inv → Writable m R.PIN_CLAIM s →
    arg F.PIN_CLAIM_KIND w = 0 ∧ arg F.PIN_CLAIM_GO w = 0 ∧ arg F.PIN_CLAIM_RELEASE w = 1 →
    arg F.PIN_CLAIM_INDEX w = n ∧ n < 80 → s.hif.runPads.contains n = true → get (F.PIN_PAD_SHARED n) s = 0 →
    ∃ t, exec (.claimRelease m w) s = .next t ∧ Raised F.PIN_CAUSE_CLAIM_DONE s t ∧ rd t (R.PIN_PAD n) = 0 ∧
      OnlyFlds [F.PIN_CAUSE_CLAIM_DONE, F.INT_HOST_PEND_PEND, ⟨R.PIN_PAD n, 0, 32⟩] { s with
        hif := { s.hif with runPads := s.hif.runPads.filter (· != n) } } t) ∧
  (∀ (s : State) (m : Master) (w : Word) (n : Nat), s.Inv → Writable m R.PIN_CLAIM s → domOn 5 s = true →
    arg F.PIN_CLAIM_KIND w = 1 ∧ arg F.PIN_CLAIM_GO w = 0 ∧ arg F.PIN_CLAIM_RELEASE w = 1 →
    arg F.PIN_CLAIM_INDEX w = n ∧ n < 8 → s.hif.runTims.contains n = true →
    ∃ t, exec (.claimRelease m w) s = .next t ∧ Raised F.PIN_CAUSE_CLAIM_DONE s t ∧ get (F.TIM_CTL_OWNER n) t = 0 ∧
      OnlyFlds [F.PIN_CAUSE_CLAIM_DONE, F.INT_HOST_PEND_PEND, F.TIM_CTL_OWNER n] { s with
        hif := { s.hif with runTims := s.hif.runTims.filter (· != n) } } t) ∧
  (∀ (s : State) (m : Master) (w : Word) (n : Nat), s.Inv → Writable m R.PIN_CLAIM s →
    arg F.PIN_CLAIM_KIND w = 0 ∧ arg F.PIN_CLAIM_GO w = 0 ∧ arg F.PIN_CLAIM_RELEASE w = 1 →
    arg F.PIN_CLAIM_INDEX w = n ∧ n < 80 → s.hif.runPads.contains n = true → get (F.PIN_PAD_SHARED n) s = 1 →
    ∃ t, exec (.claimRelease m w) s = .next t ∧ Raised F.PIN_CAUSE_CLAIM_DONE s t ∧ get (F.PIN_PAD_SHARED n) t = 0 ∧
      get (F.PIN_PAD_FUNC n) t = get (F.PIN_PAD_FUNC n) s ∧
      OnlyFlds [F.PIN_CAUSE_CLAIM_DONE, F.INT_HOST_PEND_PEND, F.PIN_PAD_SHARED n] { s with
        hif := { s.hif with runPads := s.hif.runPads.filter (· != n) } } t) ∧
  (∀ (s : State) (m : Master) (w : Word), Writable m R.PIN_CLAIM s → arg F.PIN_CLAIM_GO w = 0 →
    arg F.PIN_CLAIM_RELEASE w = 0 ∨ (arg F.PIN_CLAIM_KIND w = 0 ∧ s.hif.runPads.contains (arg F.PIN_CLAIM_INDEX w) = false) ∨ (arg F.PIN_CLAIM_KIND w = 1 ∧ (domOn 5 s = false ∨ s.hif.runTims.contains (arg F.PIN_CLAIM_INDEX w) = false)) →
    exec (.claimRelease m w) s = .next s ∧ exec (.claimGo m w) s = .next s) ∧
  (∀ (s : State) (n cnt : Nat) (r : Bool), counting n s = false →
    exec (.timerMatch n cnt) s = .next s ∧ exec (.timerCapture n r) s = .next s) ∧
  (∀ (s : State) (m : Master) (n : Nat) (w : Word), n < 8 → Writable m (R.TIM_CTL n) s →
    1 ≤ arg (F.TIM_CTL_MODE n) w ∧ arg (F.TIM_CTL_MODE n) w ≤ 4 →
    arg (F.TIM_CTL_START n) w = 1 ∧ arg (F.TIM_CTL_STOP n) w = 0 →
    ∃ t, exec (.timerStart m n w) s = .next t ∧ get (F.TIM_CTL_RUN n) t = 1 ∧ get (F.TIM_CNT_CNT n) t = 0 ∧
      get (F.TIM_CTL_MODE n) t = arg (F.TIM_CTL_MODE n) w ∧ get (F.TIM_CTL_CLK n) t = arg (F.TIM_CTL_CLK n) w ∧
      get (F.TIM_CTL_PRE n) t = arg (F.TIM_CTL_PRE n) w ∧ get (F.TIM_CTL_EDGE n) t = arg (F.TIM_CTL_EDGE n) w ∧
      get (F.TIM_CTL_OWNER n) t = get (F.TIM_CTL_OWNER n) s ∧
      OnlyFlds [⟨R.TIM_CTL n, 0, 32⟩, F.TIM_CNT_CNT n] s t) ∧
  (∀ (s : State) (m : Master) (n : Nat) (w : Word), s.Inv → n < 8 → Writable m (R.TIM_CTL n) s →
    arg (F.TIM_CTL_STOP n) w = 1 → flag (F.TIM_CTL_RUN n) s = true →
    ∃ t, exec (.timerStop m n w) s = .next t ∧ get (F.TIM_CTL_RUN n) t = 0 ∧ get (F.TIM_CNT_CNT n) t ≤ get (F.TIM_LOAD_LOAD n) s ∧
      OnlyFlds [⟨R.TIM_CTL n, 0, 32⟩, F.TIM_CNT_CNT n] { s with free := t.free } t) ∧
  (∀ (s : State) (n cnt : Nat), counting n s = true → cnt = get (F.TIM_CMP_CMP n) s →
    get (F.TIM_CTL_MODE n) s ≠ 1 ∨ cnt ≠ get (F.TIM_LOAD_LOAD n) s →
    ∃ t, exec (.timerMatch n cnt) s = .next t ∧ RaisedAt F.TIM_CAUSE_MATCH n s t ∧ OnlyFlds [F.TIM_CAUSE_MATCH, F.INT_HOST_PEND_PEND] s t) ∧
  (∀ (s : State) (n cnt : Nat), counting n s = true → cnt = get (F.TIM_LOAD_LOAD n) s ∧ cnt ≠ get (F.TIM_CMP_CMP n) s →
    get (F.TIM_CTL_MODE n) s = 1 →
    ∃ t, exec (.timerMatch n cnt) s = .next t ∧ get (F.TIM_CTL_RUN n) t = 0 ∧ get (F.TIM_CNT_CNT n) t = cnt ∧
      OnlyFlds [F.TIM_CTL_RUN n, F.TIM_CNT_CNT n] s t) ∧
  (∀ (s : State) (n : Nat) (r : Bool), s.Inv → counting n s = true → get (F.TIM_CTL_MODE n) s = 4 →
    bit (get (F.TIM_CTL_EDGE n) s) (if r then 0 else 1) = true →
    ∃ t, exec (.timerCapture n r) s = .next t ∧ RaisedAt F.TIM_CAUSE_CAPTURE n s t ∧ get (F.TIM_CMP_CMP n) t ≤ get (F.TIM_LOAD_LOAD n) s ∧
      OnlyFlds [F.TIM_CAUSE_CAPTURE, F.INT_HOST_PEND_PEND, F.TIM_CMP_CMP n] { s with free := t.free } t)
end

