-- ==== Sys2Proof/Laws/Bytes.lean ====
section
/-! SUPPORT. Numbers as bytes: their lengths, and that reading back what was written gives the number. -/
namespace Sys2Proof.Machine

theorem le_length (n v : Nat) : (le n v).length = n := by
  induction n generalizing v with
  | zero => rfl
  | succ n ih => simp [le, ih]

theorem be_length (n v : Nat) : (be n v).length = n := by simp [be, le_length]

/-- Reading back little-endian bytes gives the number modulo 256 to the number of bytes. -/
theorem ofLe_le (n v : Nat) : ofLe (le n v) = v % 256 ^ n := by
  induction n generalizing v with
  | zero => simp [le, ofLe, Nat.mod_one]
  | succ n ih =>
    have h : (256 : Nat) ^ (n + 1) = 256 * 256 ^ n := by rw [Nat.pow_succ, Nat.mul_comm]
    rw [le, ofLe, ih, BitVec.toNat_ofNat, h, Nat.mod_mul]

theorem ofLe_eq_foldr (l : List Byte) : ofLe l = l.foldr (fun b t => t * 256 + b.toNat) 0 := by
  induction l with
  | nil => rfl
  | cons b t ih => rw [ofLe, List.foldr_cons, ← ih]; omega

/-- Big-endian bytes are the little-endian ones in reverse. -/
theorem ofBe_reverse (l : List Byte) : ofBe l.reverse = ofLe l := by
  rw [ofBe, List.foldl_reverse, ofLe_eq_foldr]

theorem ofBe_be (n v : Nat) (h : v < 256 ^ n) : ofBe (be n v) = v := by
  rw [be, ofBe_reverse, ofLe_le, Nat.mod_eq_of_lt h]

theorem cmac_length (k : Nat) (m : List Byte) : (Config.cmac k m).length = 16 := by simp [Config.cmac]

theorem stag_length (k : Nat) (m : List Byte) : (stag k m).length = 8 := by simp [stag, cmac_length]

/-- A signature that its owner can make verifies. -/
theorem ecdsaOk_good (k d : Nat) : Config.ecdsaOk k d (Config.ecdsaGood k d) = true := by simp [Config.ecdsaOk]

/-- Its 64 bytes give it back. -/
theorem ofBe_good (k d : Nat) : ofBe (be 64 (Config.ecdsaGood k d)) = Config.ecdsaGood k d :=
  ofBe_be 64 _ (Nat.lt_of_lt_of_eq (Config.goodBits k d).isLt (Nat.pow_mul 2 8 64))

/-- The 32 bytes of a hash give it back. -/
theorem ofBe_sha (b : List Byte) : ofBe (be 32 (Config.sha256 b)) = Config.sha256 b :=
  ofBe_be 32 _ (Nat.lt_of_lt_of_eq (Config.shaBits b).isLt (Nat.pow_mul 2 8 32))

/-- A request in session with the right number and the tag of its session's key is in order (R230, R232). -/
theorem sessionOk_of (i key : Nat) (b : List Byte) (s : State) (h1 : sessState i s = 2) (hk : (sessOf i s).key = key)
    (h2 : field (b ++ stag key b) 2 4 = (sessOf i s).nextSeq) (h3 : 16 + dlenOf (b ++ stag key b) = b.length) :
    sessionOk i { bytes := b ++ stag key b } s = true := by
  simp only [sessionOk, h1, h2, h3, hk, List.drop_left, List.take_left]
  simp [List.take_of_length_le (Nat.le_of_eq (stag_length _ _))]

end Sys2Proof.Machine
end

