-- ==== Sys2Proof/Laws/Sparse.lean ====
section
/-! SUPPORT. Laws of the sparse maps: reading after a write, and that every operation keeps the canonical form. -/
namespace Sys2Proof.Machine

variable {α : Type} [DecidableEq α] {d : α}

/-- A write leaves every other key as it was. -/
theorem sparseGet_set_other (m : Sparse α) {k j : Nat} (v : α) (h : j ≠ k) :
    sparseGet d (sparseSet d m k v) j = sparseGet d m j := by
  induction m with
  | nil => unfold sparseSet; split <;> simp [sparseGet, h]
  | cons e t ih =>
    obtain ⟨a, w⟩ := e
    unfold sparseSet
    split
    · split <;> simp [sparseGet, h]
    · split
      · next hk => subst hk; split <;> simp [sparseGet, h]
      · simp only [sparseGet, ih]

/-- Keys above a bound read as the default at and below it. -/
theorem sparseGet_above (m : Sparse α) {b k : Nat} (h : sparseAbove d b m = true) (hk : k ≤ b) : sparseGet d m k = d := by
  induction m generalizing b with
  | nil => rfl
  | cons e t ih =>
    obtain ⟨a, w⟩ := e
    simp only [sparseAbove, Bool.and_eq_true, decide_eq_true_eq] at h
    have : k ≠ a := by omega
    simp only [sparseGet, this, if_false]
    exact ih h.2 (by omega)

/-- A lower bound weakens. -/
theorem sparseAbove_mono (m : Sparse α) {b c : Nat} (h : sparseAbove d c m = true) (hb : b ≤ c) : sparseAbove d b m = true := by
  cases m with
  | nil => rfl
  | cons e t =>
    simp only [sparseAbove, Bool.and_eq_true, decide_eq_true_eq] at h ⊢
    exact ⟨⟨by omega, h.1.2⟩, h.2⟩

/-- A write above a bound keeps the canonical form above it. -/
theorem sparseSet_above (m : Sparse α) {b k : Nat} (v : α) (h : sparseAbove d b m = true) (hk : b < k) :
    sparseAbove d b (sparseSet d m k v) = true := by
  induction m generalizing b with
  | nil => unfold sparseSet; split <;> simp_all [sparseAbove]
  | cons e t ih =>
    obtain ⟨a, w⟩ := e
    have h' := h
    simp only [sparseAbove, Bool.and_eq_true, decide_eq_true_eq] at h
    unfold sparseSet
    split
    · split
      · exact h'
      · simp_all [sparseAbove]
    · split
      · next hka =>
        subst hka
        split
        · exact sparseAbove_mono t h.2 (by omega)
        · simp_all [sparseAbove]
      · simp only [sparseAbove, Bool.and_eq_true, decide_eq_true_eq]
        exact ⟨h.1, ih h.2 (by omega)⟩

/-- The canonical form is the form above a bound below the first key. -/
theorem sparseWf_of_above (m : Sparse α) {b : Nat} (h : sparseAbove d b m = true) : sparseWf d m = true := by
  cases m with
  | nil => rfl
  | cons e t =>
    simp only [sparseAbove, sparseWf, Bool.and_eq_true, decide_eq_true_eq] at h ⊢
    exact ⟨h.1.2, h.2⟩

/-- A write keeps the canonical form. -/
theorem sparseSet_wf (m : Sparse α) (k : Nat) (v : α) (h : sparseWf d m = true) : sparseWf d (sparseSet d m k v) = true := by
  cases m with
  | nil => unfold sparseSet; split <;> simp_all [sparseWf, sparseAbove]
  | cons e t =>
    obtain ⟨a, w⟩ := e
    have h' := h
    simp only [sparseWf, Bool.and_eq_true, decide_eq_true_eq] at h
    unfold sparseSet
    split
    · split
      · exact h'
      · simp_all [sparseWf, sparseAbove]
    · split
      · next hka =>
        subst hka
        split
        · exact sparseWf_of_above t h.2
        · simp_all [sparseWf]
      · simp only [sparseWf, Bool.and_eq_true, decide_eq_true_eq]
        exact ⟨h.1, sparseSet_above t v h.2 (by omega)⟩

/-- In the canonical form a read after a write of the same key gives the value written. -/
theorem sparseGet_set_same (m : Sparse α) (k : Nat) (v : α) (h : sparseWf d m = true) :
    sparseGet d (sparseSet d m k v) k = v := by
  have core : ∀ (t : Sparse α) (b : Nat), sparseAbove d b t = true → sparseGet d (sparseSet d t k v) k = v := by
    intro t
    induction t with
    | nil => intro b _; unfold sparseSet; split <;> simp_all [sparseGet]
    | cons e t ih =>
      intro b h
      obtain ⟨a, w⟩ := e
      simp only [sparseAbove, Bool.and_eq_true, decide_eq_true_eq] at h
      unfold sparseSet
      split
      · next hka =>
        split
        · next hv =>
          subst hv
          have : k ≠ a := by omega
          simp only [sparseGet, this, if_false]
          exact sparseGet_above t h.2 (by omega)
        · simp [sparseGet]
      · split
        · next hka =>
          subst hka
          split
          · next hv => subst hv; exact sparseGet_above t h.2 (le_refl _)
          · simp [sparseGet]
        · next h1 h2 =>
          simp only [sparseGet, h2, if_false]
          exact ih a h.2
  cases m with
  | nil => exact core [] 0 rfl
  | cons e t =>
    obtain ⟨a, w⟩ := e
    simp only [sparseWf, Bool.and_eq_true, decide_eq_true_eq] at h
    cases a with
    | succ a => exact core _ a (by simp [sparseAbove, h])
    | zero =>
      unfold sparseSet
      split
      · omega
      · split
        · next hk =>
          subst hk
          split
          · next hv => subst hv; exact sparseGet_above t h.2 (le_refl _)
          · simp [sparseGet]
        · next _ h2 =>
          simp only [sparseGet, h2, if_false]
          exact core t 0 h.2

/-- A filter keeps the form above a bound. -/
theorem sparseFilter_above (p : Nat → Bool) (m : Sparse α) {b : Nat} (h : sparseAbove d b m = true) :
    sparseAbove d b (sparseFilter p m) = true := by
  induction m generalizing b with
  | nil => rfl
  | cons e t ih =>
    obtain ⟨a, w⟩ := e
    simp only [sparseAbove, Bool.and_eq_true, decide_eq_true_eq] at h
    unfold sparseFilter
    simp only [List.filter]
    split
    · simp only [sparseAbove, Bool.and_eq_true, decide_eq_true_eq]
      exact ⟨h.1, ih h.2⟩
    · exact sparseAbove_mono _ (ih h.2) (by omega)

/-- A filter keeps the canonical form. -/
theorem sparseFilter_wf (p : Nat → Bool) (m : Sparse α) (h : sparseWf d m = true) : sparseWf d (sparseFilter p m) = true := by
  cases m with
  | nil => rfl
  | cons e t =>
    obtain ⟨a, w⟩ := e
    simp only [sparseWf, Bool.and_eq_true, decide_eq_true_eq] at h
    unfold sparseFilter
    simp only [List.filter]
    split
    · simp only [sparseWf, Bool.and_eq_true, decide_eq_true_eq]
      exact ⟨h.1, sparseFilter_above p t h.2⟩
    · exact sparseWf_of_above _ (sparseFilter_above p t h.2)

/-- A run of writes keeps the canonical form. -/
theorem sparseSetMany_wf (m : Sparse α) (k : Nat) (vs : List α) (h : sparseWf d m = true) :
    sparseWf d (sparseSetMany d m k vs) = true := by
  induction vs generalizing m k with
  | nil => exact h
  | cons v vs ih => exact ih _ _ (sparseSet_wf m k v h)

/-- A run of writes leaves the keys outside it as they were. -/
theorem sparseGet_setMany_other (m : Sparse α) (k : Nat) (vs : List α) {j : Nat} (h : j < k ∨ k + vs.length ≤ j) :
    sparseGet d (sparseSetMany d m k vs) j = sparseGet d m j := by
  induction vs generalizing m k with
  | nil => rfl
  | cons v vs ih =>
    simp only [List.length_cons] at h
    unfold sparseSetMany
    rw [ih _ _ (by omega), sparseGet_set_other m v (by omega)]

/-- A run of writes reads back inside it. -/
theorem sparseGet_setMany_same (m : Sparse α) (k : Nat) (vs : List α) (i : Nat) (hi : i < vs.length) (h : sparseWf d m = true) :
    sparseGet d (sparseSetMany d m k vs) (k + i) = vs[i] := by
  induction vs generalizing m k i with
  | nil => simp at hi
  | cons v vs ih =>
    unfold sparseSetMany
    cases i with
    | zero =>
      rw [sparseGet_setMany_other _ _ _ (by omega)]
      simpa using sparseGet_set_same m k v h
    | succ i =>
      have := ih (sparseSet d m k v) (k + 1) i (by simpa using hi) (sparseSet_wf m k v h)
      rw [show k + (i + 1) = k + 1 + i by omega, this]
      simp

/-- Writes one after the other keep the canonical form. -/
theorem sparseSet_foldl_wf (l : List (Nat × α)) (m : Sparse α) (h : sparseWf d m = true) :
    sparseWf d (l.foldl (fun m e => sparseSet d m e.1 e.2) m) = true := by
  induction l generalizing m with
  | nil => exact h
  | cons e t ih => exact ih _ (sparseSet_wf m e.1 e.2 h)

omit [DecidableEq α] in
/-- A filter reads as the map where it keeps the key, and as the default elsewhere. -/
theorem sparseGet_filter (p : Nat → Bool) (m : Sparse α) (k : Nat) :
    sparseGet d (sparseFilter p m) k = if p k then sparseGet d m k else d := by
  induction m with
  | nil => simp [sparseFilter, sparseGet]
  | cons e t ih =>
    obtain ⟨a, w⟩ := e
    unfold sparseFilter at ih ⊢
    simp only [List.filter]
    split
    · next hp =>
      by_cases hk : k = a
      · subst hk; simp_all [sparseGet]
      · simpa [sparseGet, hk] using ih
    · next hp =>
      by_cases hk : k = a
      · subst hk; simp_all
      · simpa [sparseGet, hk] using ih

end Sys2Proof.Machine
end

