-- ==== Sys2Proof/Laws/Kept.lean ====
section
/-! SUPPORT. What every operation of the machine keeps: the canonical form of the state, the queue, the identity OTP. `Kept s t`
says that `t` has them if `s` has; one lemma per operation (Laws/KeptOps and the files after it) carries it through. -/
namespace Sys2Proof.Machine

/-- What no operation changes: the canonical form holds in `t` if it holds in `s`, the queue is the same, the OTP keeps what it
holds. -/
structure Kept (s t : State) : Prop where
  inv : s.Inv → t.Inv
  queue : t.pending = s.pending
  otp : OtpKept s t

/-- The command answers a next state, and that state is `Kept`. -/
def KeptOut (s : State) (o : Out) : Prop := ∃ t, o = .next t ∧ Kept s t

variable {s s0 t u : State}

/-- The OTP keeps what it holds when nothing is done. -/
theorem OtpKept.refl (s : State) : OtpKept s s := ⟨id, id, id, fun _ h => h, fun _ _ h => h⟩

/-- The OTP is kept along a chain. -/
theorem OtpKept.trans (h : OtpKept s t) (g : OtpKept t u) : OtpKept s u :=
  ⟨g.1 ∘ h.1, g.2.1 ∘ h.2.1, g.2.2.1 ∘ h.2.2.1, fun b e => g.2.2.2.1 b (h.2.2.2.1 b e),
    fun i k e => g.2.2.2.2 i k (h.2.2.2.2 i k e)⟩

/-- Nothing done keeps everything. -/
theorem Kept.refl (s : State) : Kept s s := ⟨id, rfl, OtpKept.refl s⟩

/-- `Kept` along a chain. -/
theorem Kept.trans (h : Kept s t) (g : Kept t u) : Kept s u := ⟨g.inv ∘ h.inv, g.queue.trans h.queue, h.otp.trans g.otp⟩

/-- A record update that leaves registers, stored values, memory, OTP and queue alone. -/
theorem Kept.upd (h : Kept s0 t) (hr : u.regs = t.regs) (hh : u.hidden = t.hidden) (hm : u.mem = t.mem)
    (hq : u.pending = t.pending) (h1 : u.well.provLock = t.well.provLock) (h2 : u.well.dbgKill = t.well.dbgKill)
    (h3 : u.well.wellInit = t.well.wellInit) (h4 : u.well.spareMap = t.well.spareMap) (h5 : u.well.otp = t.well.otp) :
    Kept s0 u where
  inv i := by rw [State.Inv, hr, hh, hm]; exact h.inv i
  queue := hq.trans h.queue
  otp := by
    refine h.otp.trans ⟨?_, ?_, ?_, ?_, ?_⟩
    · rw [h1]; exact id
    · rw [h2]; exact id
    · rw [h3]; exact id
    · rw [h4]; exact fun _ e => e
    · rw [h5]; exact fun _ _ e => e

/-- Both branches. -/
theorem Kept.ite {c : Prop} [Decidable c] (h : Kept s0 t) (g : Kept s0 u) : Kept s0 (if c then t else u) := by
  split <;> assumption

/-- Both branches of a pair. -/
theorem Kept.iteSnd {α : Type} {c : Prop} [Decidable c] {x y : α × State} (h : Kept s0 x.2) (g : Kept s0 y.2) :
    Kept s0 (if c then x else y).2 := by split <;> assumption

/-- Both branches of a triple. -/
theorem Kept.iteThd {α β : Type} {c : Prop} [Decidable c] {x y : α × β × State} (h : Kept s0 x.2.2) (g : Kept s0 y.2.2) :
    Kept s0 (if c then x else y).2.2 := by split <;> assumption

/-- Both branches of a pair with the state first. -/
theorem Kept.iteFst {α : Type} {c : Prop} [Decidable c] {x y : State × α} (h : Kept s0 x.1) (g : Kept s0 y.1) :
    Kept s0 (if c then x else y).1 := by split <;> assumption

/-- The first branch, or what the others answer. -/
theorem Kept.iteSome {c : Prop} [Decidable c] {o : Option State} (h : (if c then some t else o) = some u) (ht : Kept s0 t)
    (ho : o = some u → Kept s0 u) : Kept s0 u := by
  split at h
  · cases h; exact ht
  · exact ho h

/-- The state of a pair. -/
theorem Kept.mkSnd {α : Type} {x : α} (h : Kept s0 t) : Kept s0 (x, t).2 := h

/-- The state of a pair with the state first. -/
theorem Kept.mkFst {α : Type} {x : α} (h : Kept s0 t) : Kept s0 (t, x).1 := h

/-- The state of a triple. -/
theorem Kept.mkThd {α β : Type} {x : α} {p : β × State} (h : Kept s0 p.2) : Kept s0 (x, p).2.2 := h

/-- An operation over the elements of a list. -/
theorem Kept.foldl {α : Type} {g : State → α → State} {l : List α} (hg : ∀ x e, Kept s0 x → Kept s0 (g x e)) (h : Kept s0 t) :
    Kept s0 (l.foldl g t) := by
  induction l generalizing t with
  | nil => exact h
  | cons e l ih => exact ih (hg t e h)

/-- An operation over the elements of a list that carries a value with the state. -/
theorem Kept.foldlSnd {α β : Type} {g : β × State → α → β × State} {l : List α} {x : β × State}
    (hg : ∀ x e, Kept s0 x.2 → Kept s0 (g x e).2) (h : Kept s0 x.2) : Kept s0 (l.foldl g x).2 := by
  induction l generalizing x with
  | nil => exact h
  | cons e l ih => exact ih (hg x e h)

/-- An operation over the elements of a list that carries a value behind the state. -/
theorem Kept.foldlFst {α β : Type} {g : State × β → α → State × β} {l : List α} {x : State × β}
    (hg : ∀ x e, Kept s0 x.1 → Kept s0 (g x e).1) (h : Kept s0 x.1) : Kept s0 (l.foldl g x).1 := by
  induction l generalizing x with
  | nil => exact h
  | cons e l ih => exact ih (hg x e h)

/-- A command that answers a state. -/
theorem KeptOut.next (h : Kept s0 t) : KeptOut s0 (.next t) := ⟨t, rfl, h⟩

/-- Both branches. -/
theorem KeptOut.ite {c : Prop} [Decidable c] {x y : Out} (h : KeptOut s0 x) (g : KeptOut s0 y) :
    KeptOut s0 (if c then x else y) := by split <;> assumption

end Sys2Proof.Machine
end

