-- ==== Sys2Proof/Laws/KeptBase.lean ====
section
/-! SUPPORT. `Kept` for the operations that change registers, stored values or memory themselves. -/
namespace Sys2Proof.Machine

variable {s0 s : State}

/-- A change of registers alone that keeps their canonical form. -/
theorem Kept.regs (h : Kept s0 s) {m : Sparse Word} (hm : sparseWf (0 : Word) s.regs = true → sparseWf (0 : Word) m = true) :
    Kept s0 { s with regs := m } where
  inv i := ⟨hm (h.inv i).1, (h.inv i).2⟩
  queue := h.queue
  otp := h.otp

/-- A change of memory alone that keeps its canonical form. -/
theorem Kept.mem (h : Kept s0 s) {m : List Host.Cell} (hm : Memory.wf s.mem = true → Memory.wf m = true) :
    Kept s0 { s with mem := m } where
  inv i := ⟨(h.inv i).1, (h.inv i).2.1, hm (h.inv i).2.2⟩
  queue := h.queue
  otp := h.otp

/-- A change of stored write-only values alone that keeps their canonical form. -/
theorem Kept.hidden (h : Kept s0 s) {m : Sparse Word}
    (hm : sparseWf (0 : Word) s.hidden = true → sparseWf (0 : Word) m = true) : Kept s0 { s with hidden := m } where
  inv i := ⟨(h.inv i).1, hm (h.inv i).2.1, (h.inv i).2.2⟩
  queue := h.queue
  otp := h.otp

theorem wr_kept {a : Nat} {v : Word} (hs : Kept s0 s) : Kept s0 (wr a v s) := hs.regs (sparseSet_wf _ _ _)

theorem resetDomain_kept {d : Nat} (hs : Kept s0 s) : Kept s0 (resetDomain d s) where
  inv i := by
    have h1 := sparseFilter_wf (d := (0 : Word)) (fun a => blockDom (blockOf a) != d) s.regs (hs.inv i).1
    have h2 := sparseFilter_wf (d := (0 : Word)) (fun a => blockDom (blockOf a) != d) s.hidden (hs.inv i).2.1
    exact ⟨sparseSet_foldl_wf _ _ h1, h2, (hs.inv i).2.2⟩
  queue := hs.queue
  otp := hs.otp

theorem wrByte_kept {a : Nat} {b : Byte} (hs : Kept s0 s) : Kept s0 (wrByte a b s) := hs.mem (sparseSet_wf _ _ _)

theorem wrBytes_kept {a : Nat} {bs : List Byte} (hs : Kept s0 s) : Kept s0 (wrBytes a bs s) := hs.mem (sparseSetMany_wf _ _ _)

theorem loseMem_kept {lo hi : Nat} (hs : Kept s0 s) : Kept s0 (loseMem lo hi s) := hs.mem (sparseFilter_wf _ _)

theorem fresh_kept (hs : Kept s0 s) : Kept s0 (fresh s).2 := Kept.upd hs rfl rfl rfl rfl rfl rfl rfl rfl rfl

/-- A change of the Well that leaves the OTP alone. -/
theorem updWell_kept {f : WellSt → WellSt} (hs : Kept s0 s) (h1 : (f s.well).provLock = s.well.provLock)
    (h2 : (f s.well).dbgKill = s.well.dbgKill) (h3 : (f s.well).wellInit = s.well.wellInit)
    (h4 : (f s.well).spareMap = s.well.spareMap) (h5 : (f s.well).otp = s.well.otp) : Kept s0 (updWell f s) :=
  Kept.upd hs rfl rfl rfl rfl h1 h2 h3 h4 h5

theorem powerOnReset_kept (hs : Kept s0 s) : Kept s0 (powerOnReset s) where
  inv _ := by
    have h : sparseWf (0 : Word) resetRegs = true := by decide
    exact ⟨h, rfl, rfl⟩
  queue := hs.queue
  otp := hs.otp.trans ⟨id, id, id, fun _ h => h, fun _ _ h => h⟩

end Sys2Proof.Machine
end

