-- ==== Sys2Proof/Laws/KeptOps.lean ====
section
/-! SUPPORT. `Kept` for every operation of Machine/Ops.lean: what each of them leaves as it is (the canonical form of the state,
the queue, the identity OTP), cited in place of unfolding it. -/
namespace Sys2Proof.Machine

theorem put_kept {s0 : State} {f : Fld} {v : ℕ} {s : State} (hs : Kept s0 s) :
    Kept s0 (put f v s) := by
  unfold put
  refine wr_kept ?_
  assumption

theorem putBit_kept {s0 : State} {f : Fld} {i : ℕ} {b : Bool} {s : State} (hs : Kept s0 s) :
    Kept s0 (putBit f i b s) := by
  unfold putBit
  refine put_kept ?_
  assumption

theorem raiseAt_kept {s0 : State} {f : Fld} {i : ℕ} {s : State} (hs : Kept s0 s) :
    Kept s0 (raiseAt f i s) := by
  unfold raiseAt
  extract_lets y1
  have hy1 : Kept s0 y1 := by
    unfold y1
    refine putBit_kept ?_
    assumption
  clear_value y1
  refine Kept.ite ?_ ?_
  · refine putBit_kept ?_
    assumption
  · assumption

theorem raise_kept {s0 : State} {f : Fld} {s : State} (hs : Kept s0 s) :
    Kept s0 (raise f s) := by
  unfold raise
  refine raiseAt_kept ?_
  assumption

theorem raiseIf_kept {s0 : State} {c : Bool} {f : Fld} {s : State} (hs : Kept s0 s) :
    Kept s0 (raiseIf c f s) := by
  unfold raiseIf
  refine Kept.ite ?_ ?_
  · refine raise_kept ?_
    assumption
  · assumption

theorem addSat_kept {s0 : State} {f : Fld} {n : ℕ} {s : State} (hs : Kept s0 s) :
    Kept s0 (addSat f n s) := by
  unfold addSat
  refine put_kept ?_
  assumption

theorem wrMany_kept {s0 : State} {l : List (ℕ × Word)} {s : State} (hs : Kept s0 s) :
    Kept s0 (wrMany l s) := by
  unfold wrMany
  refine Kept.foldl ?_ ?_
  · intro q1 q2 q3
    refine wr_kept ?_
    assumption
  · assumption

theorem done_kept {s0 : State} {s : State} (hs : Kept s0 s) :
    KeptOut s0 (done s) := by
  unfold done
  refine KeptOut.next ?_
  assumption

theorem powerDown_kept {s0 : State} {d : ℕ} {s : State} (hs : Kept s0 s) :
    Kept s0 (powerDown d s) := by
  unfold powerDown
  refine putBit_kept ?_
  refine resetDomain_kept ?_
  assumption

theorem busFault_kept {s0 : State} {m : Master} {a : ℕ} {dom : ℕ} {kind : ℕ} {isWrite : Bool} {narrow : Bool} {s : State} (hs : Kept s0 s) :
    Kept s0 (busFault m a dom kind isWrite narrow s) := by
  unfold busFault
  extract_lets y1 y2
  clear_value y1
  clear_value y2
  refine raise_kept ?_
  refine put_kept ?_
  exact hs.upd rfl rfl rfl rfl rfl rfl rfl rfl rfl

theorem putS_kept {s0 : State} {f : Fld} {z : ℤ} {s : State} (hs : Kept s0 s) :
    Kept s0 (putS f z s) := by
  unfold putS
  refine put_kept ?_
  assumption

theorem onlyIf_kept {s0 : State} {c : Bool} {f : State → State} {s : State} (hf : ∀ x0, Kept s0 x0 → Kept s0 (f x0)) (hs : Kept s0 s) :
    KeptOut s0 (onlyIf c f s) := by
  unfold onlyIf
  refine KeptOut.next ?_
  refine Kept.ite ?_ ?_
  · refine hf _ ?_
    assumption
  · assumption

theorem setLoader_kept {s0 : State} {conf : ℕ} {guard : Bool} {fallback : Bool} {s : State} (hs : Kept s0 s) :
    Kept s0 (setLoader conf guard fallback s) := by
  unfold setLoader
  refine put_kept ?_
  refine put_kept ?_
  refine put_kept ?_
  exact hs.upd rfl rfl rfl rfl rfl rfl rfl rfl rfl

theorem powerUp_kept {s0 : State} {d : ℕ} {s : State} (hs : Kept s0 s) :
    Kept s0 (powerUp d s) := by
  unfold powerUp
  refine Kept.ite ?_ ?_
  · assumption
  · refine putBit_kept ?_
    refine resetDomain_kept ?_
    assumption

end Sys2Proof.Machine
end

