-- ==== Sys2Proof/Laws/KeptBus.lean ====
section
/-! SUPPORT. `Kept` for every operation of Machine/Bus.lean: what each of them leaves as it is (the canonical form of the state,
the queue, the identity OTP), cited in place of unfolding it. -/
namespace Sys2Proof.Machine

theorem denied_kept {s0 : State} {m : Master} {s : State} (hs : Kept s0 s) :
    Kept s0 (denied m s) := by
  unfold denied
  refine Kept.ite ?_ ?_
  · refine raise_kept ?_
    assumption
  · assumption

theorem regWrite_kept {s0 : State} {m : Master} {a : ℕ} {eff : State → State} {s : State} (heff : ∀ x0, Kept s0 x0 → Kept s0 (eff x0)) (hs : Kept s0 s) :
    Kept s0 (regWrite m a eff s) := by
  unfold regWrite
  refine Kept.ite ?_ ?_
  · refine busFault_kept ?_
    assumption
  · refine Kept.ite ?_ ?_
    · refine denied_kept ?_
      assumption
    · refine heff _ ?_
      assumption

theorem cmdWrite_kept {s0 : State} {m : Master} {a : ℕ} {eff : State → State} {s : State} (heff : ∀ x0, Kept s0 x0 → Kept s0 (eff x0)) (hs : Kept s0 s) :
    KeptOut s0 (cmdWrite m a eff s) := by
  unfold cmdWrite
  refine KeptOut.next ?_
  refine regWrite_kept ?_ ?_
  · intro q1 q2
    refine heff _ ?_
    assumption
  · assumption

theorem plainWrite_kept {s0 : State} {a : ℕ} {w : Word} {s : State} (hs : Kept s0 s) :
    Kept s0 (plainWrite a w s) := by
  unfold plainWrite
  refine wr_kept ?_
  assumption

end Sys2Proof.Machine
end

