-- ==== Sys2Proof/Laws/KeptRecords.lean ====
section
/-! SUPPORT. `Kept` for every operation of Machine/Records.lean: what each of them leaves as it is (the canonical form of the state,
the queue, the identity OTP), cited in place of unfolding it. -/
namespace Sys2Proof.Machine

theorem dirty_kept {s0 : State} {b : ℕ} {s : State} (hs : Kept s0 s) :
    Kept s0 (dirty b s) := by
  unfold dirty
  refine Kept.ite ?_ ?_
  · exact hs.upd rfl rfl rfl rfl rfl rfl rfl rfl rfl
  · refine putBit_kept ?_
    assumption

theorem counterAdd_kept {s0 : State} {i : ℕ} {n : ℕ} {s : State} (hs : Kept s0 s) :
    Kept s0 (counterAdd i n s) := by
  unfold counterAdd
  refine dirty_kept ?_
  exact hs.upd rfl rfl rfl rfl rfl rfl rfl rfl rfl

theorem legalEvent_kept {s0 : State} {kind : ℕ} {role : ℕ} {entries : List (List Byte)} {s : State} (hs : Kept s0 s) :
    Kept s0 (legalEvent kind role entries s) := by
  unfold legalEvent
  extract_lets y1 y2 y3 y4 y5 y6 y7 y8
  clear_value y1
  have hy2 : Kept s0 y2 := by
    unfold y2
    refine counterAdd_kept ?_
    assumption
  clear_value y2
  clear_value y3
  clear_value y4
  clear_value y5
  clear_value y6
  clear_value y7
  clear_value y8
  refine dirty_kept ?_
  exact hy2.upd rfl rfl rfl rfl rfl rfl rfl rfl rfl

theorem startCopy_kept {s0 : State} {b : ℕ} {s : State} (hs : Kept s0 s) :
    Kept s0 (startCopy b s) := by
  unfold startCopy
  extract_lets y1 y2 y3
  clear_value y1
  clear_value y2
  clear_value y3
  refine putBit_kept ?_
  refine putBit_kept ?_
  refine putBit_kept ?_
  exact hs.upd rfl rfl rfl rfl rfl rfl rfl rfl rfl

theorem startStores_kept {s0 s : State} {n : Nat} (hs : Kept s0 s) : Kept s0 (startStores n s) := by
  induction n generalizing s with
  | zero => exact hs
  | succ n ih =>
    unfold startStores
    split
    · exact hs
    · split
      · exact hs
      · exact ih (startCopy_kept hs)

theorem requestStore_kept {s0 : State} {b : ℕ} {s : State} (hs : Kept s0 s) :
    Kept s0 (requestStore b s) := by
  unfold requestStore
  refine Kept.ite ?_ ?_
  · refine raise_kept ?_
    assumption
  · refine Kept.ite ?_ ?_
    · refine raise_kept ?_
      assumption
    · refine Kept.ite ?_ ?_
      · refine raise_kept ?_
        assumption
      · refine putBit_kept ?_
        assumption

theorem storeBanks_kept {s0 : State} {m : ℕ} {s : State} (hs : Kept s0 s) :
    Kept s0 (storeBanks m s) := by
  unfold storeBanks
  refine Kept.ite ?_ ?_
  · assumption
  · refine Kept.ite ?_ ?_
    · refine raise_kept ?_
      assumption
    · refine startStores_kept ?_
      refine Kept.foldl ?_ ?_
      · intro q1 q2 q3
        refine Kept.ite ?_ ?_
        · refine requestStore_kept ?_
          assumption
        · assumption
      · assumption

theorem deviceStore_kept {s0 : State} {b : ℕ} {s : State} (hs : Kept s0 s) :
    Kept s0 (deviceStore b s) := by
  unfold deviceStore
  extract_lets y1 y2 y3
  clear_value y1
  have hy2 : Kept s0 y2 := by
    unfold y2
    refine storeBanks_kept ?_
    assumption
  clear_value y2
  clear_value y3
  refine Kept.ite ?_ ?_
  · exact hy2.upd rfl rfl rfl rfl rfl rfl rfl rfl rfl
  · assumption

theorem writeKeep_kept {s0 : State} {f : KeepRec → KeepRec} {s : State} (hs : Kept s0 s) :
    Kept s0 (writeKeep f s) := by
  unfold writeKeep
  refine dirty_kept ?_
  exact hs.upd rfl rfl rfl rfl rfl rfl rfl rfl rfl

theorem sliceEvent_kept {s0 : State} {ev : ℕ} {slice : ℕ} {s : State} (hs : Kept s0 s) :
    Kept s0 (sliceEvent ev slice s) := by
  unfold sliceEvent
  refine legalEvent_kept ?_
  assumption

theorem legalChange_kept {s0 : State} {kind : ℕ} {role : ℕ} {entries : List (List Byte)} {s : State} (hs : Kept s0 s) :
    Kept s0 (legalChange kind role entries s) := by
  unfold legalChange
  extract_lets y1 y2 y3 y4 y5 y6 y7
  clear_value y1
  have hy2 : Kept s0 y2 := by
    unfold y2
    refine counterAdd_kept ?_
    assumption
  clear_value y2
  clear_value y3
  clear_value y4
  clear_value y5
  clear_value y6
  have hy7 : Kept s0 y7 := by
    unfold y7
    refine dirty_kept ?_
    exact hy2.upd rfl rfl rfl rfl rfl rfl rfl rfl rfl
  clear_value y7
  refine raise_kept ?_
  refine put_kept ?_
  refine put_kept ?_
  assumption

theorem setBank_kept {s0 : State} {b : ℕ} {d : BankData} {s : State} (hs : Kept s0 s) :
    Kept s0 (setBank b d s) := by
  unfold setBank
  split
  · exact hs.upd rfl rfl rfl rfl rfl rfl rfl rfl rfl
  · exact hs.upd rfl rfl rfl rfl rfl rfl rfl rfl rfl
  · exact hs.upd rfl rfl rfl rfl rfl rfl rfl rfl rfl
  · exact hs.upd rfl rfl rfl rfl rfl rfl rfl rfl rfl
  · exact hs.upd rfl rfl rfl rfl rfl rfl rfl rfl rfl
  · exact hs.upd rfl rfl rfl rfl rfl rfl rfl rfl rfl
  · exact hs.upd rfl rfl rfl rfl rfl rfl rfl rfl rfl

end Sys2Proof.Machine
end

