-- ==== Sys2Proof/Laws/KeptFabBase.lean ====
section
/-! SUPPORT. `Kept` for every operation of Machine/FabBase.lean: what each of them leaves as it is (the canonical form of the state,
the queue, the identity OTP), cited in place of unfolding it. -/
namespace Sys2Proof.Machine

theorem updFab_kept {s0 : State} {f : FabSt → FabSt} {s : State} (hs : Kept s0 s) :
    Kept s0 (updFab f s) := by
  unfold updFab
  exact hs.upd rfl rfl rfl rfl rfl rfl rfl rfl rfl

theorem countFrame_kept {s0 : State} {k : ℕ} {s : State} (hs : Kept s0 s) :
    Kept s0 (countFrame k s) := by
  unfold countFrame
  refine addSat_kept ?_
  assumption

theorem queueFrame_kept {s0 : State} {bandC : Bool} {f : FabFrame} {s : State} (hs : Kept s0 s) :
    Kept s0 (queueFrame bandC f s) := by
  unfold queueFrame
  refine Kept.ite ?_ ?_
  · assumption
  · extract_lets y1
    clear_value y1
    refine updFab_kept ?_
    assumption

theorem originate_kept {s0 : State} {f : FabFrame} {s : State} (hs : Kept s0 s) :
    Kept s0 (originate f s) := by
  unfold originate
  refine countFrame_kept ?_
  refine queueFrame_kept ?_
  assumption

theorem touchRoute_kept {s0 : State} {n : Node} {s : State} (hs : Kept s0 s) :
    Kept s0 (touchRoute n s) := by
  unfold touchRoute
  split
  · assumption
  · split
    · refine updFab_kept ?_
      assumption
    · assumption

theorem sendMessage_kept {s0 : State} {m : Message} {s : State} (hs : Kept s0 s) :
    Kept s0 (sendMessage m s) := by
  unfold sendMessage
  split
  · split
    · refine Kept.foldl ?_ ?_
      · intro q1 q2 q3
        refine originate_kept ?_
        assumption
      · refine touchRoute_kept ?_
        assumption
    · split
      · refine raise_kept ?_
        assumption
      · refine raise_kept ?_
        assumption
      · extract_lets y1 y2
        clear_value y1
        have hy2 : Kept s0 y2 := by
          unfold y2
          refine updFab_kept ?_
          assumption
        clear_value y2
        refine originate_kept ?_
        assumption
  · refine Kept.foldl ?_ ?_
    · intro q1 q2 q3
      refine originate_kept ?_
      assumption
    · assumption

theorem handToE10_kept {s0 : State} {m : Message} {s : State} (hs : Kept s0 s) :
    Kept s0 (handToE10 m s).2 := by
  unfold handToE10
  refine Kept.iteSnd ?_ ?_
  · refine Kept.mkSnd ?_
    assumption
  · extract_lets y1
    clear_value y1
    refine Kept.iteSnd ?_ ?_
    · refine Kept.iteSnd ?_ ?_
      · refine Kept.mkSnd ?_
        refine updFab_kept ?_
        assumption
      · refine Kept.mkSnd ?_
        assumption
    · refine Kept.mkSnd ?_
      refine sendMessage_kept ?_
      assumption

theorem respond_kept {s0 : State} {mtype : ℕ} {msgId : ℕ} {to' : Node} {body : List Byte} {s : State} (hs : Kept s0 s) :
    Kept s0 (respond mtype msgId to' body s) := by
  unfold respond
  refine handToE10_kept ?_
  assumption

theorem updLmd_kept {s0 : State} {f : LmdSt → LmdSt} {s : State} (hs : Kept s0 s) :
    Kept s0 (updLmd f s) := by
  unfold updLmd
  exact hs.upd rfl rfl rfl rfl rfl rfl rfl rfl rfl

theorem showFab_kept {s0 : State} {s : State} (hs : Kept s0 s) :
    Kept s0 (showFab s) := by
  unfold showFab
  extract_lets y1
  have hy1 : Kept s0 y1 := by
    unfold y1
    refine put_kept ?_
    refine put_kept ?_
    assumption
  clear_value y1
  split
  · refine wr_kept ?_
    refine wr_kept ?_
    assumption
  · extract_lets y2 y3 y4
    clear_value y2
    have hy3 : Kept s0 y3 := by
      unfold y3
      refine put_kept ?_
      refine put_kept ?_
      refine put_kept ?_
      assumption
    clear_value y3
    have hy4 : Kept s0 y4 := by
      unfold y4
      refine put_kept ?_
      refine put_kept ?_
      refine put_kept ?_
      assumption
    clear_value y4
    refine put_kept ?_
    refine put_kept ?_
    refine put_kept ?_
    assumption

theorem queuePeer_kept {s0 : State} {m : Message} {s : State} (hs : Kept s0 s) :
    Kept s0 (queuePeer m s) := by
  unfold queuePeer
  split
  · refine countFrame_kept ?_
    refine queueFrame_kept ?_
    assumption
  · assumption

theorem sendPeer_kept {s0 : State} {mtype : ℕ} {body : List Byte} {s : State} (hs : Kept s0 s) :
    Kept s0 (sendPeer mtype body s) := by
  unfold sendPeer
  split
  · assumption
  · extract_lets y1 y2
    clear_value y1
    have hy2 : Kept s0 y2 := by
      unfold y2
      refine updFab_kept ?_
      assumption
    clear_value y2
    refine Kept.ite ?_ ?_
    · refine queuePeer_kept ?_
      assumption
    · refine Kept.ite ?_ ?_
      · refine updFab_kept ?_
        assumption
      · assumption

theorem makeFrame_kept {s0 s : State} {t : TxFrame} {keys : Nat × Nat} {r : TxFrame × State} (hs : Kept s0 s)
    (hr : makeFrame t keys s = some r) : Kept s0 r.2 := by
  unfold makeFrame at hr
  split at hr
  · cases hr
  · cases hr
    exact raiseIf_kept (updFab_kept hs)

theorem writeFabRec_kept {s0 : State} {s : State} (hs : Kept s0 s) :
    Kept s0 (writeFabRec s) := by
  unfold writeFabRec
  refine Kept.ite ?_ ?_
  · refine updFab_kept ?_
    assumption
  · refine Kept.ite ?_ ?_
    · refine updFab_kept ?_
      assumption
    · refine dirty_kept ?_
      extract_lets y1 y2 y3
      have hy1 : Kept s0 y1 := by
        unfold y1
        refine updFab_kept ?_
        assumption
      clear_value y1
      clear_value y2
      clear_value y3
      exact hy1.upd rfl rfl rfl rfl rfl rfl rfl rfl rfl

theorem addRoute_kept {s0 : State} {r : Route} {s : State} (hs : Kept s0 s) :
    Kept s0 (addRoute r s) := by
  unfold addRoute
  extract_lets y1 y2 y3 y4
  clear_value y1
  clear_value y2
  clear_value y3
  clear_value y4
  refine showFab_kept ?_
  refine Kept.ite ?_ ?_
  · refine updFab_kept ?_
    assumption
  · assumption

theorem settleFabRec_kept {s0 : State} {s : State} (hs : Kept s0 s) :
    Kept s0 (settleFabRec s) := by
  unfold settleFabRec
  refine Kept.ite ?_ ?_
  · refine writeFabRec_kept ?_
    assumption
  · assumption

theorem dropRoutes_kept {s0 : State} {p : Route → Bool} {s : State} (hs : Kept s0 s) :
    Kept s0 (dropRoutes p s) := by
  unfold dropRoutes
  refine showFab_kept ?_
  refine updFab_kept ?_
  assumption

theorem takeReply_kept {s0 : State} {r : Reply} {s : State} (hs : Kept s0 s) :
    Kept s0 (takeReply r s) := by
  unfold takeReply
  split
  · refine updFab_kept ?_
    assumption
  · assumption

end Sys2Proof.Machine
end

