-- ==== Sys2Proof/Laws/KeptAnswer.lean ====
section
/-! SUPPORT. `Kept` for every operation of Machine/Answer.lean: what each of them leaves as it is (the canonical form of the state,
the queue, the identity OTP), cited in place of unfolding it. -/
namespace Sys2Proof.Machine

theorem updObj_kept {s0 : State} {f : ObjSt → ObjSt} {s : State} (hs : Kept s0 s) :
    Kept s0 (updObj f s) := by
  unfold updObj
  exact hs.upd rfl rfl rfl rfl rfl rfl rfl rfl rfl

theorem updHif_kept {s0 : State} {f : HifSt → HifSt} {s : State} (hs : Kept s0 s) :
    Kept s0 (updHif f s) := by
  unfold updHif
  exact hs.upd rfl rfl rfl rfl rfl rfl rfl rfl rfl

theorem setSlot_kept {s0 : State} {i : ℕ} {x : HostSlot} {s : State} (hs : Kept s0 s) :
    Kept s0 (setSlot i x s) := by
  unfold setSlot
  extract_lets y1
  have hy1 : Kept s0 y1 := by
    unfold y1
    refine updHif_kept ?_
    assumption
  clear_value y1
  refine putBit_kept ?_
  assumption

theorem setResponse_kept {s0 : State} {i : ℕ} {status : ℕ} {payload : List Byte} {s : State} (hs : Kept s0 s) :
    Kept s0 (setResponse i status payload s) := by
  unfold setResponse
  split
  · refine setSlot_kept ?_
    assumption
  · assumption

theorem answerObject_kept {s0 : State} {i : ℕ} {code : ℕ} {data : List Byte} {s : State} (hs : Kept s0 s) :
    Kept s0 (answerObject i code data s) := by
  unfold answerObject
  split
  · assumption
  · extract_lets y1 y2
    clear_value y1
    have hy2 : Kept s0 y2 := by
      unfold y2
      refine updObj_kept ?_
      assumption
    clear_value y2
    refine Kept.ite ?_ ?_
    · refine setResponse_kept ?_
      assumption
    · refine respond_kept ?_
      assumption

theorem answerReply_kept {s0 : State} {r : Reply} {code : ℕ} {data : List Byte} {s : State} (hs : Kept s0 s) :
    Kept s0 (answerReply r code data s) := by
  unfold answerReply
  split
  · refine answerObject_kept ?_
    assumption
  · refine respond_kept ?_
    assumption
  · assumption

theorem closeSession_kept {s0 : State} {i : ℕ} {s : State} (hs : Kept s0 s) :
    Kept s0 (closeSession i s) := by
  unfold closeSession
  extract_lets y1 y2 y3
  clear_value y1
  have hy2 : Kept s0 y2 := by
    unfold y2
    refine putBit_kept ?_
    refine wr_kept ?_
    refine updObj_kept ?_
    assumption
  clear_value y2
  have hy3 : Kept s0 y3 := by
    unfold y3
    refine put_kept ?_
    assumption
  clear_value y3
  refine Kept.ite ?_ ?_
  · assumption
  · refine raiseIf_kept ?_
    assumption

theorem closeAll_kept {s0 : State} {s : State} (hs : Kept s0 s) :
    Kept s0 (closeAll s) := by
  unfold closeAll
  refine Kept.foldl ?_ ?_
  · intro q1 q2 q3
    refine closeSession_kept ?_
    refine answerObject_kept ?_
    assumption
  · exact hs.upd rfl rfl rfl rfl rfl rfl rfl rfl rfl

end Sys2Proof.Machine
end

