-- ==== Sys2Proof/Laws/KeptBlank.lean ====
section
/-! SUPPORT. `Kept` for every operation of Machine/Blank.lean: what each of them leaves as it is (the canonical form of the state,
the queue, the identity OTP), cited in place of unfolding it. -/
namespace Sys2Proof.Machine

theorem abortJob_kept {s0 : State} {s : State} (hs : Kept s0 s) :
    Kept s0 (abortJob s) := by
  unfold abortJob
  split
  · assumption
  · extract_lets y1 y2 y3
    clear_value y1
    clear_value y2
    have hy3 : Kept s0 y3 := by
      unfold y3
      refine updWell_kept ?_ ?_ ?_ ?_ ?_ ?_
      · assumption
      · rfl
      · rfl
      · rfl
      · rfl
      · rfl
    clear_value y3
    refine raise_kept ?_
    refine raiseIf_kept ?_
    assumption

theorem abortSigning_kept {s0 : State} {s : State} (hs : Kept s0 s) :
    Kept s0 (abortSigning s) := by
  unfold abortSigning
  split
  · assumption
  · refine answerObject_kept ?_
    refine raise_kept ?_
    exact hs.upd rfl rfl rfl rfl rfl rfl rfl rfl rfl

theorem kuResult_kept {s0 : State} {code : ℕ} {op : ℕ} {parent : ℕ} {child : ℕ} {s : State} (hs : Kept s0 s) :
    Kept s0 (kuResult code op parent child s) := by
  unfold kuResult
  extract_lets y1
  have hy1 : Kept s0 y1 := by
    unfold y1
    refine put_kept ?_
    refine put_kept ?_
    refine put_kept ?_
    refine put_kept ?_
    assumption
  clear_value y1
  refine put_kept ?_
  assumption

theorem abortKu_kept {s0 : State} {s : State} (hs : Kept s0 s) :
    Kept s0 (abortKu s) := by
  unfold abortKu
  split
  · assumption
  · refine Kept.ite ?_ ?_
    · assumption
    · extract_lets y1 y2
      have hy1 : Kept s0 y1 := by
        unfold y1
        refine updWell_kept ?_ ?_ ?_ ?_ ?_ ?_
        · assumption
        · rfl
        · rfl
        · rfl
        · rfl
        · rfl
      clear_value y1
      have hy2 : Kept s0 y2 := by
        unfold y2
        refine raise_kept ?_
        refine kuResult_kept ?_
        assumption
      clear_value y2
      refine answerReply_kept ?_
      assumption

theorem showWell_kept {s0 : State} {s : State} (hs : Kept s0 s) :
    Kept s0 (showWell s) := by
  unfold showWell
  refine put_kept ?_
  refine put_kept ?_
  refine put_kept ?_
  assumption

theorem drbg_kept {s0 : State} {s : State} (hs : Kept s0 s) :
    Kept s0 (drbg s).2 := by
  unfold drbg
  extract_lets y1
  have hy1 : Kept s0 y1.2 := by
    unfold y1
    refine fresh_kept ?_
    assumption
  clear_value y1
  refine Kept.mkSnd ?_
  refine updWell_kept ?_ ?_ ?_ ?_ ?_ ?_
  · assumption
  · rfl
  · rfl
  · rfl
  · rfl
  · rfl

theorem remask_kept {s0 : State} {s : State} (hs : Kept s0 s) :
    Kept s0 (remask s) := by
  unfold remask
  extract_lets y1
  have hy1 : Kept s0 y1.2 := by
    unfold y1
    refine drbg_kept ?_
    assumption
  clear_value y1
  refine updWell_kept ?_ ?_ ?_ ?_ ?_ ?_
  · assumption
  · rfl
  · rfl
  · rfl
  · rfl
  · rfl

theorem blankKeys_kept {s0 : State} {s : State} (hs : Kept s0 s) :
    Kept s0 (blankKeys s) := by
  unfold blankKeys
  extract_lets y1 y2 y3
  have hy1 : Kept s0 y1 := by
    unfold y1
    refine abortJob_kept ?_
    refine abortSigning_kept ?_
    refine abortKu_kept ?_
    refine updWell_kept ?_ ?_ ?_ ?_ ?_ ?_
    · assumption
    · rfl
    · rfl
    · rfl
    · rfl
    · rfl
  clear_value y1
  clear_value y2
  have hy3 : Kept s0 y3 := by
    unfold y3
    exact hy1.upd rfl rfl rfl rfl rfl rfl rfl rfl rfl
  clear_value y3
  refine raise_kept ?_
  refine showWell_kept ?_
  refine remask_kept ?_
  assumption

theorem lmdState_kept {s0 : State} {n : ℕ} {s : State} (hs : Kept s0 s) :
    Kept s0 (lmdState n s) := by
  unfold lmdState
  refine put_kept ?_
  assumption

theorem soundingRepeat_kept {s0 : State} {code : ℕ} {s : State} (hs : Kept s0 s) :
    Kept s0 (soundingRepeat code s) := by
  unfold soundingRepeat
  refine updLmd_kept ?_
  assumption

theorem abortSounding_kept {s0 : State} {code : ℕ} {s : State} (hs : Kept s0 s) :
    Kept s0 (abortSounding code s) := by
  unfold abortSounding
  refine Kept.ite ?_ ?_
  · assumption
  · extract_lets y1
    have hy1 : Kept s0 y1 := by
      unfold y1
      refine put_kept ?_
      refine put_kept ?_
      refine put_kept ?_
      assumption
    clear_value y1
    refine raise_kept ?_
    refine lmdState_kept ?_
    refine soundingRepeat_kept ?_
    assumption

theorem afterTx_kept {s0 : State} {t : TxFrame} {s : State} (hs : Kept s0 s) :
    Kept s0 (afterTx t s) := by
  unfold afterTx
  refine updFab_kept ?_
  refine updLmd_kept ?_
  assumption

theorem abandonTx_kept {s0 : State} {s : State} (hs : Kept s0 s) :
    Kept s0 (abandonTx s) := by
  unfold abandonTx
  split
  · assumption
  · refine lmdState_kept ?_
    refine raise_kept ?_
    refine afterTx_kept ?_
    assumption

theorem muteDriver_kept {s0 : State} {s : State} (hs : Kept s0 s) :
    Kept s0 (muteDriver s) := by
  unfold muteDriver
  refine Kept.ite ?_ ?_
  · assumption
  · extract_lets y1
    have hy1 : Kept s0 y1 := by
      unfold y1
      refine abortSounding_kept ?_
      refine abandonTx_kept ?_
      assumption
    clear_value y1
    refine Kept.ite ?_ ?_
    · assumption
    · refine lmdState_kept ?_
      assumption

theorem soundForCapture_kept {s0 : State} {s : State} (hs : Kept s0 s) :
    Kept s0 (soundForCapture s) := by
  unfold soundForCapture
  refine Kept.ite ?_ ?_
  · refine raise_kept ?_
    refine abortSounding_kept ?_
    assumption
  · assumption

theorem unmuteDriver_kept {s0 : State} {s : State} (hs : Kept s0 s) :
    Kept s0 (unmuteDriver s) := by
  unfold unmuteDriver
  extract_lets y1
  have hy1 : Kept s0 y1 := by
    unfold y1
    refine Kept.ite ?_ ?_
    · refine lmdState_kept ?_
      assumption
    · assumption
  clear_value y1
  refine Kept.ite ?_ ?_
  · refine updLmd_kept ?_
    assumption
  · assumption

end Sys2Proof.Machine
end

