-- ==== Sys2Proof/Laws/KeptCapture.lean ====
section
/-! SUPPORT. `Kept` for every operation of Machine/Capture.lean: what each of them leaves as it is (the canonical form of the state,
the queue, the identity OTP), cited in place of unfolding it. -/
namespace Sys2Proof.Machine

theorem captureMark_kept {s0 : State} {b : ℕ} {s : State} (hs : Kept s0 s) :
    Kept s0 (captureMark b s) := by
  unfold captureMark
  refine Kept.ite ?_ ?_
  · exact hs.upd rfl rfl rfl rfl rfl rfl rfl rfl rfl
  · refine Kept.ite ?_ ?_
    · exact hs.upd rfl rfl rfl rfl rfl rfl rfl rfl rfl
    · assumption

theorem enterPre_kept {s0 : State} {k : ℕ} {s : State} (hs : Kept s0 s) :
    Kept s0 (enterPre k s) := by
  unfold enterPre
  extract_lets y1 y2 y3 y4
  clear_value y1
  have hy2 : Kept s0 y2 := by
    unfold y2
    exact hs.upd rfl rfl rfl rfl rfl rfl rfl rfl rfl
  clear_value y2
  clear_value y3
  have hy4 : Kept s0 y4 := by
    unfold y4
    exact hy2.upd rfl rfl rfl rfl rfl rfl rfl rfl rfl
  clear_value y4
  refine put_kept ?_
  refine put_kept ?_
  refine put_kept ?_
  assumption

theorem nextSlot_kept {s0 : State} {k : ℕ} {s : State} (hs : Kept s0 s) :
    Kept s0 (nextSlot k s) := by
  unfold nextSlot
  split
  · refine enterPre_kept ?_
    assumption
  · refine Kept.ite ?_ ?_
    · refine raise_kept ?_
      refine put_kept ?_
      assumption
    · refine Kept.ite ?_ ?_
      · extract_lets y1 y2
        clear_value y1
        clear_value y2
        refine enterPre_kept ?_
        refine putBit_kept ?_
        exact hs.upd rfl rfl rfl rfl rfl rfl rfl rfl rfl
      · refine raise_kept ?_
        refine put_kept ?_
        assumption

theorem putSet_kept {s0 : State} {i : ℕ} {xs : List ℤ} {s : State} (hs : Kept s0 s) :
    Kept s0 (putSet i xs s) := by
  unfold putSet
  refine wrBytes_kept ?_
  assumption

theorem postSet_kept {s0 : State} {xs : List ℤ} {s : State} (hs : Kept s0 s) :
    Kept s0 (postSet xs s) := by
  unfold postSet
  refine Kept.ite ?_ ?_
  · extract_lets y1 y2
    have hy1 : Kept s0 y1 := by
      unfold y1
      refine putSet_kept ?_
      assumption
    clear_value y1
    clear_value y2
    refine put_kept ?_
    exact hy1.upd rfl rfl rfl rfl rfl rfl rfl rfl rfl
  · assumption

theorem captureTrigger_kept {s0 : State} {line : ℕ} {frac : ℕ} {snd : State → State} {s : State} (hsnd : ∀ x0, Kept s0 x0 → Kept s0 (snd x0)) (hs : Kept s0 s) :
    Kept s0 (captureTrigger line frac snd s) := by
  unfold captureTrigger
  refine Kept.ite ?_ ?_
  · assumption
  · refine Kept.ite ?_ ?_
    · extract_lets y1 y2 y3 y4 y5 y6 y7
      have hy1 : Kept s0 y1 := by
        unfold y1
        refine hsnd _ ?_
        assumption
      clear_value y1
      clear_value y2
      clear_value y3
      clear_value y4
      have hy5 : Kept s0 y5 := by
        unfold y5
        exact hy1.upd rfl rfl rfl rfl rfl rfl rfl rfl rfl
      clear_value y5
      have hy6 : Kept s0 y6 := by
        unfold y6
        refine put_kept ?_
        assumption
      clear_value y6
      have hy7 : Kept s0 y7 := by
        unfold y7
        split
        · assumption
        · refine postSet_kept ?_
          assumption
      clear_value y7
      refine raise_kept ?_
      assumption
    · refine Kept.ite ?_ ?_
      · exact hs.upd rfl rfl rfl rfl rfl rfl rfl rfl rfl
      · assumption

theorem writeHeader_kept {s0 : State} {s : State} (hs : Kept s0 s) :
    Kept s0 (writeHeader s) := by
  unfold writeHeader
  extract_lets y1 y2
  have hy1 : Kept s0 y1 := by
    unfold y1
    refine Kept.ite ?_ ?_
    · refine captureMark_kept ?_
      assumption
    · assumption
  clear_value y1
  clear_value y2
  refine wrBytes_kept ?_
  assumption

theorem loseCapture_kept {s0 : State} {s : State} (hs : Kept s0 s) :
    Kept s0 (loseCapture s) := by
  unfold loseCapture
  refine loseMem_kept ?_
  exact hs.upd rfl rfl rfl rfl rfl rfl rfl rfl rfl

theorem captureDone_kept {s0 : State} {s : State} (hs : Kept s0 s) :
    Kept s0 (captureDone s) := by
  unfold captureDone
  extract_lets y1 y2 y3 y4
  clear_value y1
  have hy2 : Kept s0 y2 := by
    unfold y2
    refine putBit_kept ?_
    refine writeHeader_kept ?_
    assumption
  clear_value y2
  clear_value y3
  have hy4 : Kept s0 y4 := by
    unfold y4
    refine raise_kept ?_
    exact hy2.upd rfl rfl rfl rfl rfl rfl rfl rfl rfl
  clear_value y4
  refine Kept.ite ?_ ?_
  · refine nextSlot_kept ?_
    assumption
  · refine put_kept ?_
    assumption

theorem captureEpoch_kept {s0 : State} {s : State} (hs : Kept s0 s) :
    Kept s0 (captureEpoch s) := by
  unfold captureEpoch
  refine Kept.ite ?_ ?_
  · refine raise_kept ?_
    refine captureDone_kept ?_
    exact hs.upd rfl rfl rfl rfl rfl rfl rfl rfl rfl
  · refine Kept.ite ?_ ?_
    · refine enterPre_kept ?_
      assumption
    · assumption

theorem preSet_kept {s0 : State} {xs : List ℤ} {s : State} (hs : Kept s0 s) :
    Kept s0 (preSet xs s) := by
  unfold preSet
  extract_lets y1 y2 y3 y4 y5 y6
  clear_value y1
  clear_value y2
  have hy3 : Kept s0 y3 := by
    unfold y3
    exact hs.upd rfl rfl rfl rfl rfl rfl rfl rfl rfl
  clear_value y3
  have hy4 : Kept s0 y4 := by
    unfold y4
    refine putSet_kept ?_
    assumption
  clear_value y4
  clear_value y5
  clear_value y6
  refine Kept.ite ?_ ?_
  · assumption
  · refine put_kept ?_
    exact hy4.upd rfl rfl rfl rfl rfl rfl rfl rfl rfl

theorem captureSample_kept {s0 : State} {last : List (List ℤ)} {xs : List ℤ} {s : State} (hs : Kept s0 s) :
    Kept s0 (captureSample last xs s) := by
  unfold captureSample
  refine Kept.ite ?_ ?_
  · assumption
  · refine Kept.ite ?_ ?_
    · extract_lets y1 y2
      have hy1 : Kept s0 y1 := by
        unfold y1
        split
        · refine Kept.ite ?_ ?_
          · refine preSet_kept ?_
            assumption
          · assumption
        · assumption
      clear_value y1
      clear_value y2
      exact hy1.upd rfl rfl rfl rfl rfl rfl rfl rfl rfl
    · refine Kept.ite ?_ ?_
      · refine postSet_kept ?_
        assumption
      · assumption

end Sys2Proof.Machine
end

