-- ==== Sys2Proof/Laws/KeptTamperLog.lean ====
section
/-! SUPPORT. `Kept` for every operation of Machine/TamperLog.lean: what each of them leaves as it is (the canonical form of the state,
the queue, the identity OTP), cited in place of unfolding it. -/
namespace Sys2Proof.Machine

theorem putTamp_kept {s0 : State} {r : TampRec} {s : State} (hs : Kept s0 s) :
    Kept s0 (putTamp r s) := by
  unfold putTamp
  extract_lets y1 y2 y3 y4 y5 y6
  clear_value y1
  clear_value y2
  clear_value y3
  have hy4 : Kept s0 y4 := by
    unfold y4
    refine counterAdd_kept ?_
    assumption
  clear_value y4
  clear_value y5
  clear_value y6
  split
  · refine dirty_kept ?_
    exact hs.upd rfl rfl rfl rfl rfl rfl rfl rfl rfl
  · refine dirty_kept ?_
    exact hy4.upd rfl rfl rfl rfl rfl rfl rfl rfl rfl

theorem queueTamp_kept {s0 : State} {r : TampRec} {s : State} (hs : Kept s0 s) :
    Kept s0 (queueTamp r s) := by
  unfold queueTamp
  split
  · exact hs.upd rfl rfl rfl rfl rfl rfl rfl rfl rfl
  · refine Kept.ite ?_ ?_
    · refine put_kept ?_
      exact hs.upd rfl rfl rfl rfl rfl rfl rfl rfl rfl
    · refine raise_kept ?_
      refine addSat_kept ?_
      assumption

theorem logTampAt_kept {s0 : State} {t : ℕ} {kind : ℕ} {c : ℕ} {frac : ℕ} {detail : ℕ} {s : State} (hs : Kept s0 s) :
    Kept s0 (logTampAt t kind c frac detail s) := by
  unfold logTampAt
  extract_lets y1 y2 y3 y4
  clear_value y1
  clear_value y2
  have hy3 : Kept s0 y3.2 := by
    unfold y3
    refine fresh_kept ?_
    assumption
  clear_value y3
  clear_value y4
  refine Kept.ite ?_ ?_
  · refine putTamp_kept ?_
    assumption
  · refine queueTamp_kept ?_
    assumption

theorem logTamp_kept {s0 : State} {kind : ℕ} {c : ℕ} {frac : ℕ} {detail : ℕ} {s : State} (hs : Kept s0 s) :
    Kept s0 (logTamp kind c frac detail s) := by
  unfold logTamp
  refine logTampAt_kept ?_
  assumption

theorem repairDone_kept {s0 : State} {c : ℕ} {detail : ℕ} {s : State} (hs : Kept s0 s) :
    Kept s0 (repairDone c detail s) := by
  unfold repairDone
  refine raise_kept ?_
  refine logTamp_kept ?_
  assumption

theorem flushTamp_kept {s0 : State} {s : State} (hs : Kept s0 s) :
    Kept s0 (flushTamp s) := by
  unfold flushTamp
  extract_lets y1 y2
  clear_value y1
  clear_value y2
  refine put_kept ?_
  refine Kept.foldl ?_ ?_
  · intro q1 q2 q3
    refine putTamp_kept ?_
    assumption
  · exact hs.upd rfl rfl rfl rfl rfl rfl rfl rfl rfl

end Sys2Proof.Machine
end

