-- ==== Sys2Proof/Laws/KeptConsumers.lean ====
section
/-! SUPPORT. `Kept` for every operation of Machine/Consumers.lean: what each of them leaves as it is (the canonical form of the state,
the queue, the identity OTP), cited in place of unfolding it. -/
namespace Sys2Proof.Machine

theorem setMap_kept {s0 : State} {n : ℕ} {v : ℕ} {s : State} (hs : Kept s0 s) :
    Kept s0 (setMap n v s) := by
  unfold setMap
  refine put_kept ?_
  assumption

theorem showSpares_kept {s0 : State} {s : State} (hs : Kept s0 s) :
    Kept s0 (showSpares s) := by
  unfold showSpares
  extract_lets y1 y2 y3
  clear_value y1
  clear_value y2
  have hy3 : Kept s0 y3 := by
    unfold y3
    refine put_kept ?_
    refine put_kept ?_
    assumption
  clear_value y3
  refine put_kept ?_
  refine put_kept ?_
  refine put_kept ?_
  assumption

theorem assignSwaps_kept {s0 : State} {s : State} (hs : Kept s0 s) :
    Kept s0 (assignSwaps s) := by
  unfold assignSwaps
  refine Kept.foldl ?_ ?_
  · intro q1 q2 q3
    refine Kept.ite ?_ ?_
    · split
      · exact q3.upd rfl rfl rfl rfl rfl rfl rfl rfl rfl
      · assumption
    · assumption
  · assumption

theorem idleRotation_kept {s0 : State} {s : State} (hs : Kept s0 s) :
    Kept s0 (idleRotation s) := by
  unfold idleRotation
  refine Kept.ite ?_ ?_
  · assumption
  · refine put_kept ?_
    assumption

theorem dropRelief_kept {s0 : State} {s : State} (hs : Kept s0 s) :
    Kept s0 (dropRelief s) := by
  unfold dropRelief
  split
  · assumption
  · extract_lets y1 y2 y3
    have hy1 : Kept s0 y1 := by
      unfold y1
      refine put_kept ?_
      refine put_kept ?_
      refine put_kept ?_
      refine put_kept ?_
      refine put_kept ?_
      assumption
    clear_value y1
    have hy2 : Kept s0 y2 := by
      unfold y2
      refine put_kept ?_
      refine put_kept ?_
      assumption
    clear_value y2
    clear_value y3
    refine idleRotation_kept ?_
    exact hy2.upd rfl rfl rfl rfl rfl rfl rfl rfl rfl

theorem retireSlice_kept {s0 : State} {sl : ℕ} {s : State} (hs : Kept s0 s) :
    Kept s0 (retireSlice sl s) := by
  unfold retireSlice
  extract_lets y1 y2 y3 y4 y5 y6 y7 y8 y9 y10 y11
  have hy1 : Kept s0 y1 := by
    unfold y1
    refine dropRelief_kept ?_
    assumption
  clear_value y1
  clear_value y2
  have hy3 : Kept s0 y3 := by
    unfold y3
    exact hy1.upd rfl rfl rfl rfl rfl rfl rfl rfl rfl
  clear_value y3
  clear_value y4
  have hy5 : Kept s0 y5 := by
    unfold y5
    refine Kept.ite ?_ ?_
    · exact hy3.upd rfl rfl rfl rfl rfl rfl rfl rfl rfl
    · assumption
  clear_value y5
  have hy6 : Kept s0 y6 := by
    unfold y6
    refine putBit_kept ?_
    assumption
  clear_value y6
  have hy7 : Kept s0 y7 := by
    unfold y7
    refine put_kept ?_
    refine put_kept ?_
    assumption
  clear_value y7
  have hy8 : Kept s0 y8 := by
    unfold y8
    refine writeKeep_kept ?_
    assumption
  clear_value y8
  have hy9 : Kept s0 y9 := by
    unfold y9
    refine repairDone_kept ?_
    refine deviceStore_kept ?_
    assumption
  clear_value y9
  have hy10 : Kept s0 y10 := by
    unfold y10
    refine showSpares_kept ?_
    refine raise_kept ?_
    refine sliceEvent_kept ?_
    assumption
  clear_value y10
  clear_value y11
  refine idleRotation_kept ?_
  refine Kept.ite ?_ ?_
  · refine sliceEvent_kept ?_
    assumption
  · refine Kept.ite ?_ ?_
    · refine raise_kept ?_
      refine sliceEvent_kept ?_
      assumption
    · assumption

theorem toSource_kept {s0 : State} {sl : ℕ} {s : State} (hs : Kept s0 s) :
    Kept s0 (toSource sl s) := by
  unfold toSource
  refine put_kept ?_
  refine put_kept ?_
  exact hs.upd rfl rfl rfl rfl rfl rfl rfl rfl rfl

theorem withdrawSpare_kept {s0 : State} {s : State} (hs : Kept s0 s) :
    Kept s0 (withdrawSpare s) := by
  unfold withdrawSpare
  split
  · assumption
  · extract_lets y1
    have hy1 : Kept s0 y1 := by
      unfold y1
      refine put_kept ?_
      refine dropRelief_kept ?_
      assumption
    clear_value y1
    refine Kept.ite ?_ ?_
    · refine toSource_kept ?_
      assumption
    · assumption

theorem sliceLasting_kept {s0 : State} {sl : ℕ} {s : State} (hs : Kept s0 s) :
    Kept s0 (sliceLasting sl s) := by
  unfold sliceLasting
  refine Kept.ite ?_ ?_
  · assumption
  · split
    · refine assignSwaps_kept ?_
      refine retireSlice_kept ?_
      assumption
    · extract_lets y1 y2 y3
      have hy1 : Kept s0 y1 := by
        unfold y1
        refine Kept.ite ?_ ?_
        · refine dropRelief_kept ?_
          assumption
        · assumption
      clear_value y1
      clear_value y2
      have hy3 : Kept s0 y3 := by
        unfold y3
        refine assignSwaps_kept ?_
        exact hy1.upd rfl rfl rfl rfl rfl rfl rfl rfl rfl
      clear_value y3
      refine Kept.ite ?_ ?_
      · assumption
      · refine withdrawSpare_kept ?_
        assumption

theorem coresAtOp0_kept {s0 : State} {s : State} (hs : Kept s0 s) :
    Kept s0 (coresAtOp0 s) := by
  unfold coresAtOp0
  extract_lets y1 y2
  clear_value y1
  have hy2 : Kept s0 y2 := by
    unfold y2
    refine put_kept ?_
    exact hs.upd rfl rfl rfl rfl rfl rfl rfl rfl rfl
  clear_value y2
  refine put_kept ?_
  refine put_kept ?_
  refine put_kept ?_
  refine put_kept ?_
  assumption

theorem wakeFromNap_kept {s0 : State} {src : ℕ} {bad : ℕ} {s : State} (hs : Kept s0 s) :
    Kept s0 (wakeFromNap src bad s) := by
  unfold wakeFromNap
  extract_lets y1 y2 y3 y4 y5 y6 y7 y8 y9 y10
  have hy1 : Kept s0 y1 := by
    unfold y1
    refine Kept.foldl ?_ ?_
    · intro q1 q2 q3
      refine Kept.ite ?_ ?_
      · assumption
      · refine putBit_kept ?_
        refine putBit_kept ?_
        assumption
    · assumption
  clear_value y1
  have hy2 : Kept s0 y2 := by
    unfold y2
    refine Kept.foldl ?_ ?_
    · intro q1 q2 q3
      split
      · assumption
      · refine Kept.ite ?_ ?_
        · assumption
        · refine wrMany_kept ?_
          assumption
    · assumption
  clear_value y2
  clear_value y3
  have hy4 : Kept s0 y4 := by
    unfold y4
    refine wrMany_kept ?_
    assumption
  clear_value y4
  clear_value y5
  have hy6 : Kept s0 y6 := by
    unfold y6
    refine coresAtOp0_kept ?_
    exact hy4.upd rfl rfl rfl rfl rfl rfl rfl rfl rfl
  clear_value y6
  have hy7 : Kept s0 y7 := by
    unfold y7
    refine put_kept ?_
    refine put_kept ?_
    refine put_kept ?_
    assumption
  clear_value y7
  have hy8 : Kept s0 y8 := by
    unfold y8
    refine raise_kept ?_
    refine putBit_kept ?_
    assumption
  clear_value y8
  have hy9 : Kept s0 y9 := by
    unfold y9
    refine Kept.foldl ?_ ?_
    · intro q1 q2 q3
      refine putBit_kept ?_
      assumption
    · assumption
  clear_value y9
  clear_value y10
  refine Kept.ite ?_ ?_
  · assumption
  · refine raise_kept ?_
    exact hy9.upd rfl rfl rfl rfl rfl rfl rfl rfl rfl

theorem wakeSource_kept {s0 : State} {src : ℕ} {bad : ℕ} {s : State} (hs : Kept s0 s) :
    Kept s0 (wakeSource src bad s) := by
  unfold wakeSource
  refine Kept.ite ?_ ?_
  · assumption
  · refine Kept.ite ?_ ?_
    · refine put_kept ?_
      refine put_kept ?_
      assumption
    · refine Kept.ite ?_ ?_
      · exact hs.upd rfl rfl rfl rfl rfl rfl rfl rfl rfl
      · refine Kept.ite ?_ ?_
        · refine wakeFromNap_kept ?_
          assumption
        · assumption

theorem startRelief_kept {s0 : State} {ch : ℕ} {sb : ℕ} {s : State} (hs : Kept s0 s) :
    Kept s0 (startRelief ch sb s) := by
  unfold startRelief
  extract_lets y1 y2 y3 y4 y5
  clear_value y1
  clear_value y2
  clear_value y3
  have hy4 : Kept s0 y4 := by
    unfold y4
    exact hs.upd rfl rfl rfl rfl rfl rfl rfl rfl rfl
  clear_value y4
  have hy5 : Kept s0 y5 := by
    unfold y5
    refine put_kept ?_
    refine put_kept ?_
    refine put_kept ?_
    refine put_kept ?_
    assumption
  clear_value y5
  refine put_kept ?_
  refine put_kept ?_
  assumption

theorem rotate_kept {s0 : State} {s : State} (hs : Kept s0 s) :
    Kept s0 (rotate s) := by
  unfold rotate
  split
  · assumption
  · refine raise_kept ?_
    exact hs.upd rfl rfl rfl rfl rfl rfl rfl rfl rfl
  · refine Kept.ite ?_ ?_
    · exact hs.upd rfl rfl rfl rfl rfl rfl rfl rfl rfl
    · refine startRelief_kept ?_
      exact hs.upd rfl rfl rfl rfl rfl rfl rfl rfl rfl

theorem startWaiting_kept {s0 : State} {s : State} (hs : Kept s0 s) :
    Kept s0 (startWaiting s) := by
  unfold startWaiting
  refine Kept.ite ?_ ?_
  · assumption
  · split
    · refine Kept.ite ?_ ?_
      · exact hs.upd rfl rfl rfl rfl rfl rfl rfl rfl rfl
      · refine Kept.ite ?_ ?_
        · refine startRelief_kept ?_
          exact hs.upd rfl rfl rfl rfl rfl rfl rfl rfl rfl
        · assumption
    · refine Kept.ite ?_ ?_
      · refine rotate_kept ?_
        assumption
      · assumption

theorem abandonRelief_kept {s0 : State} {s : State} (hs : Kept s0 s) :
    Kept s0 (abandonRelief s) := by
  unfold abandonRelief
  refine startWaiting_kept ?_
  refine dropRelief_kept ?_
  assumption

theorem undoKu_kept {s0 s : State} (hs : Kept s0 s) : Kept s0 (undoKu s) := by
  unfold undoKu
  extract_lets stored
  clear_value stored
  split
  · exact hs
  · have h : Kept s0 { s with well := { s.well with ku := none } } := hs.upd rfl rfl rfl rfl rfl rfl rfl rfl rfl
    exact Kept.ite (dirty_kept (h.upd rfl rfl rfl rfl rfl rfl rfl rfl rfl)) h

theorem clearDom_kept {s0 s : State} {d : Nat} (hs : Kept s0 s) : Kept s0 (clearDom d s) := by
  have e {u t : State} (h : Kept s0 t) (hr : u.regs = t.regs) (hh : u.hidden = t.hidden) (hm : u.mem = t.mem)
      (hq : u.pending = t.pending) (hw : u.well = t.well) : Kept s0 u :=
    h.upd hr hh hm hq (by rw [hw]) (by rw [hw]) (by rw [hw]) (by rw [hw]) (by rw [hw])
  unfold clearDom
  refine Kept.ite (e hs rfl rfl rfl rfl rfl) (Kept.ite (e hs rfl rfl rfl rfl rfl)
    (Kept.ite (e (loseCapture_kept hs) rfl rfl rfl rfl rfl) (Kept.ite (e (loseMem_kept hs) rfl rfl rfl rfl rfl)
      (Kept.ite (e (loseMem_kept hs) rfl rfl rfl rfl rfl) (Kept.ite ?_
        (Kept.ite (e (loseMem_kept hs) rfl rfl rfl rfl rfl) (Kept.ite (e hs rfl rfl rfl rfl rfl) hs)))))))
  exact (undoKu_kept hs).upd rfl rfl rfl rfl rfl rfl rfl rfl rfl

theorem dropProducers_kept {s0 : State} {ds : List ℕ} {s : State} (hs : Kept s0 s) :
    Kept s0 (dropProducers ds s) := by
  unfold dropProducers
  refine Kept.foldl ?_ ?_
  · intro q1 q2 q3
    refine Kept.ite ?_ ?_
    · refine put_kept ?_
      exact q3.upd rfl rfl rfl rfl rfl rfl rfl rfl rfl
    · assumption
  · assumption

theorem restartDoms_kept {s0 : State} {ds : List ℕ} {s : State} (hs : Kept s0 s) :
    Kept s0 (restartDoms ds s) := by
  unfold restartDoms
  refine dropProducers_kept ?_
  refine Kept.foldl ?_ ?_
  · intro q1 q2 q3
    refine powerUp_kept ?_
    refine powerDown_kept ?_
    refine clearDom_kept ?_
    assumption
  · assumption

theorem partialStart_kept {s0 : State} {s : State} (hs : Kept s0 s) :
    Kept s0 (partialStart s) := by
  unfold partialStart
  extract_lets y1 y2 y3 y4 y5 y6
  clear_value y1
  have hy2 : Kept s0 y2 := by
    unfold y2
    refine coresAtOp0_kept ?_
    refine restartDoms_kept ?_
    assumption
  clear_value y2
  have hy3 : Kept s0 y3 := by
    unfold y3
    refine put_kept ?_
    refine wr_kept ?_
    assumption
  clear_value y3
  have hy4 : Kept s0 y4 := by
    unfold y4
    refine put_kept ?_
    refine put_kept ?_
    refine put_kept ?_
    refine put_kept ?_
    assumption
  clear_value y4
  clear_value y5
  have hy6 : Kept s0 y6 := by
    unfold y6
    exact hy4.upd rfl rfl rfl rfl rfl rfl rfl rfl rfl
  clear_value y6
  refine setLoader_kept ?_
  assumption

theorem abandonEntry_kept {s0 : State} {ap : ℕ} {wake : ℕ} {s : State} (hs : Kept s0 s) :
    Kept s0 (abandonEntry ap wake s) := by
  unfold abandonEntry
  extract_lets y1 y2 y3
  have hy1 : Kept s0 y1 := by
    unfold y1
    refine put_kept ?_
    refine put_kept ?_
    refine put_kept ?_
    refine put_kept ?_
    assumption
  clear_value y1
  have hy2 : Kept s0 y2 := by
    unfold y2
    refine put_kept ?_
    refine put_kept ?_
    refine put_kept ?_
    assumption
  clear_value y2
  clear_value y3
  refine raise_kept ?_
  exact hy2.upd rfl rfl rfl rfl rfl rfl rfl rfl rfl

end Sys2Proof.Machine
end

