-- ==== Sys2Proof/Laws/KeptFault.lean ====
section
/-! SUPPORT. `Kept` for every operation of Machine/Fault.lean: what each of them leaves as it is (the canonical form of the state,
the queue, the identity OTP), cited in place of unfolding it. -/
namespace Sys2Proof.Machine

theorem latchStamp_kept {s0 : State} {l : ℕ} {frac : ℕ} {s : State} (hs : Kept s0 s) :
    Kept s0 (latchStamp l frac s) := by
  unfold latchStamp
  extract_lets y1 y2 y3 y4 y5
  clear_value y1
  have hy2 : Kept s0 y2.2 := by
    unfold y2
    refine fresh_kept ?_
    assumption
  clear_value y2
  clear_value y3
  have hy4 : Kept s0 y4 := by
    unfold y4
    refine put_kept ?_
    assumption
  clear_value y4
  clear_value y5
  exact hy4.upd rfl rfl rfl rfl rfl rfl rfl rfl rfl

theorem lineRise_kept {s0 : State} {frac : ℕ} {l : ℕ} {s : State} (hs : Kept s0 s) :
    Kept s0 (lineRise frac l s) := by
  unfold lineRise
  extract_lets y1 y2 y3 y4
  have hy1 : Kept s0 y1 := by
    unfold y1
    refine raiseAt_kept ?_
    assumption
  clear_value y1
  have hy2 : Kept s0 y2 := by
    unfold y2
    refine Kept.ite ?_ ?_
    · refine latchStamp_kept ?_
      assumption
    · assumption
  clear_value y2
  have hy3 : Kept s0 y3 := by
    unfold y3
    refine Kept.ite ?_ ?_
    · refine blankKeys_kept ?_
      assumption
    · assumption
  clear_value y3
  have hy4 : Kept s0 y4 := by
    unfold y4
    refine Kept.ite ?_ ?_
    · refine muteDriver_kept ?_
      assumption
    · assumption
  clear_value y4
  refine Kept.ite ?_ ?_
  · refine captureTrigger_kept ?_ ?_
    · intro q1 q2
      refine soundForCapture_kept ?_
      assumption
    · assumption
  · assumption

theorem refreshLines_kept {s0 : State} {frac : ℕ} {s : State} (hs : Kept s0 s) :
    Kept s0 (refreshLines frac s) := by
  unfold refreshLines
  extract_lets y1 y2 y3 y4 y5 y6
  clear_value y1
  clear_value y2
  have hy4 : Kept s0 y4 := by
    unfold y4
    refine put_kept ?_
    refine put_kept ?_
    assumption
  clear_value y4
  have hy5 : Kept s0 y5 := by
    unfold y5
    refine Kept.foldl ?_ ?_
    · intro q1 q2 q3
      refine lineRise_kept ?_
      assumption
    · assumption
  clear_value y5
  have hy6 : Kept s0 y6 := by
    unfold y6
    refine Kept.ite ?_ ?_
    · assumption
    · refine unmuteDriver_kept ?_
      assumption
  clear_value y6
  refine put_kept ?_
  assumption

theorem writeFaultRec_kept {s0 : State} {s : State} (hs : Kept s0 s) :
    Kept s0 (writeFaultRec s) := by
  unfold writeFaultRec
  refine Kept.ite ?_ ?_
  · exact hs.upd rfl rfl rfl rfl rfl rfl rfl rfl rfl
  · extract_lets y1 y2 y3 y4
    clear_value y1
    clear_value y2
    have hy3 : Kept s0 y3 := by
      unfold y3
      refine dirty_kept ?_
      exact hs.upd rfl rfl rfl rfl rfl rfl rfl rfl rfl
    clear_value y3
    clear_value y4
    exact hy3.upd rfl rfl rfl rfl rfl rfl rfl rfl rfl

theorem keepFaults_kept {s0 : State} {s : State} (hs : Kept s0 s) :
    Kept s0 (keepFaults s) := by
  unfold keepFaults
  extract_lets y1
  have hy1 : Kept s0 y1 := by
    unfold y1
    refine writeFaultRec_kept ?_
    assumption
  clear_value y1
  refine Kept.ite ?_ ?_
  · assumption
  · refine deviceStore_kept ?_
    assumption

theorem showWindow_kept {s0 : State} {c : ℕ} {s : State} (hs : Kept s0 s) :
    Kept s0 (showWindow c s) := by
  unfold showWindow
  extract_lets y1 y2
  clear_value y1
  have hy2 : Kept s0 y2 := by
    unfold y2
    refine put_kept ?_
    assumption
  clear_value y2
  refine Kept.ite ?_ ?_
  · refine put_kept ?_
    assumption
  · assumption

theorem clearLasting_kept {s0 : State} {c : ℕ} {kind : ℕ} {s : State} (hs : Kept s0 s) :
    Kept s0 (clearLasting c kind s) := by
  unfold clearLasting
  extract_lets y1 y2 y3 y4
  have hy1 : Kept s0 y1 := by
    unfold y1
    refine putBit_kept ?_
    refine put_kept ?_
    assumption
  clear_value y1
  clear_value y2
  have hy3 : Kept s0 y3 := by
    unfold y3
    exact hy1.upd rfl rfl rfl rfl rfl rfl rfl rfl rfl
  clear_value y3
  have hy4 : Kept s0 y4 := by
    unfold y4
    refine keepFaults_kept ?_
    refine logTamp_kept ?_
    refine showWindow_kept ?_
    assumption
  clear_value y4
  refine refreshLines_kept ?_
  refine raise_kept ?_
  assumption

theorem substituteBank_kept {s0 s : State} {b : Nat} (hs : Kept s0 s) : Kept s0 (substituteBank b s) := by
  unfold substituteBank
  split
  · exact raise_kept hs
  · next h =>
    have hn : s.well.spareMap = none := by simp_all
    refine repairDone_kept (put_kept (put_kept ⟨hs.inv, hs.queue, hs.otp.trans ⟨id, id, id, fun c e => ?_, fun _ _ e => e⟩⟩))
    simp [hn] at e

theorem fixedRepair_kept {s0 : State} {c : ℕ} {s : State} (hs : Kept s0 s) :
    Kept s0 (fixedRepair c s) := by
  unfold fixedRepair
  refine Kept.ite ?_ ?_
  · refine sliceLasting_kept ?_
    assumption
  · refine Kept.ite ?_ ?_
    · refine substituteBank_kept ?_
      assumption
    · refine Kept.ite ?_ ?_
      · refine repairDone_kept ?_
        exact hs.upd rfl rfl rfl rfl rfl rfl rfl rfl rfl
      · assumption

theorem sendAlarm_kept {s0 : State} {t : ℕ} {c : ℕ} {detail : ℕ} {s : State} (hs : Kept s0 s) :
    Kept s0 (sendAlarm t c detail s) := by
  unfold sendAlarm
  refine handToE10_kept ?_
  refine updFab_kept ?_
  assumption

theorem becomeLasting_kept {s0 : State} {t : ℕ} {c : ℕ} {frac : ℕ} {detail : ℕ} {s : State} (hs : Kept s0 s) :
    Kept s0 (becomeLasting t c frac detail s) := by
  unfold becomeLasting
  extract_lets y1 y2 y3 y4 y5 y6 y7 y8 y9
  clear_value y1
  have hy2 : Kept s0 y2 := by
    unfold y2
    refine putBit_kept ?_
    refine put_kept ?_
    assumption
  clear_value y2
  clear_value y3
  have hy4 : Kept s0 y4 := by
    unfold y4
    exact hy2.upd rfl rfl rfl rfl rfl rfl rfl rfl rfl
  clear_value y4
  have hy5 : Kept s0 y5 := by
    unfold y5
    refine raiseIf_kept ?_
    assumption
  clear_value y5
  have hy6 : Kept s0 y6 := by
    unfold y6
    refine keepFaults_kept ?_
    refine logTampAt_kept ?_
    assumption
  clear_value y6
  have hy7 : Kept s0 y7 := by
    unfold y7
    refine fixedRepair_kept ?_
    assumption
  clear_value y7
  have hy8 : Kept s0 y8 := by
    unfold y8
    refine refreshLines_kept ?_
    assumption
  clear_value y8
  have hy9 : Kept s0 y9 := by
    unfold y9
    refine Kept.ite ?_ ?_
    · refine sendAlarm_kept ?_
      assumption
    · assumption
  clear_value y9
  refine Kept.ite ?_ ?_
  · refine wakeSource_kept ?_
    assumption
  · assumption

theorem occurrenceAt_kept {s0 : State} {t : ℕ} {m : ℕ} {c : ℕ} {frac : ℕ} {detail : ℕ} {s : State} (hs : Kept s0 s) :
    Kept s0 (occurrenceAt t m c frac detail s) := by
  unfold occurrenceAt
  extract_lets y1 y2 y3 y4 y5 y6 y7
  clear_value y1
  clear_value y2
  clear_value y3
  have hy4 : Kept s0 y4 := by
    unfold y4
    exact hs.upd rfl rfl rfl rfl rfl rfl rfl rfl rfl
  clear_value y4
  clear_value y5
  have hy6 : Kept s0 y6 := by
    unfold y6
    refine showWindow_kept ?_
    refine addSat_kept ?_
    assumption
  clear_value y6
  have hy7 : Kept s0 y7 := by
    unfold y7
    refine logTampAt_kept ?_
    refine raise_kept ?_
    assumption
  clear_value y7
  refine Kept.ite ?_ ?_
  · assumption
  · refine Kept.ite ?_ ?_
    · refine becomeLasting_kept ?_
      assumption
    · assumption

theorem occurrence_kept {s0 : State} {c : ℕ} {frac : ℕ} {detail : ℕ} {s : State} (hs : Kept s0 s) :
    Kept s0 (occurrence c frac detail s) := by
  unfold occurrence
  refine occurrenceAt_kept ?_
  assumption

theorem tripProducerAt_kept {s0 : State} {t : ℕ} {m : ℕ} {x : ℕ} {frac : ℕ} {detail : ℕ} {s : State} (hs : Kept s0 s) :
    Kept s0 (tripProducerAt t m x frac detail s) := by
  unfold tripProducerAt
  refine Kept.ite ?_ ?_
  · assumption
  · extract_lets y1 y2
    clear_value y1
    have hy2 : Kept s0 y2 := by
      unfold y2
      exact hs.upd rfl rfl rfl rfl rfl rfl rfl rfl rfl
    clear_value y2
    refine occurrenceAt_kept ?_
    refine refreshLines_kept ?_
    refine put_kept ?_
    assumption

theorem releaseProducer_kept {s0 : State} {x : ℕ} {s : State} (hs : Kept s0 s) :
    Kept s0 (releaseProducer x s) := by
  unfold releaseProducer
  extract_lets y1 y2
  clear_value y1
  have hy2 : Kept s0 y2 := by
    unfold y2
    exact hs.upd rfl rfl rfl rfl rfl rfl rfl rfl rfl
  clear_value y2
  refine refreshLines_kept ?_
  refine put_kept ?_
  assumption

theorem tripProducer_kept {s0 : State} {x : ℕ} {frac : ℕ} {detail : ℕ} {s : State} (hs : Kept s0 s) :
    Kept s0 (tripProducer x frac detail s) := by
  unfold tripProducer
  refine tripProducerAt_kept ?_
  assumption

theorem wakeBy_kept {s0 : State} {src : ℕ} {bad : ℕ} {s : State} (hs : Kept s0 s) :
    Kept s0 (wakeBy src bad s) := by
  unfold wakeBy
  extract_lets y1 y2
  clear_value y1
  have hy2 : Kept s0 y2 := by
    unfold y2
    refine wakeSource_kept ?_
    assumption
  clear_value y2
  refine Kept.ite ?_ ?_
  · assumption
  · refine refreshLines_kept ?_
    refine partialStart_kept ?_
    refine Kept.foldl ?_ ?_
    · intro q1 q2 q3
      refine occurrence_kept ?_
      assumption
    · assumption

theorem showWindows_kept {s0 : State} {s : State} (hs : Kept s0 s) :
    Kept s0 (showWindows s) := by
  unfold showWindows
  refine Kept.foldl ?_ ?_
  · intro q1 q2 q3
    refine Kept.ite ?_ ?_
    · assumption
    · refine showWindow_kept ?_
      assumption
  · assumption

end Sys2Proof.Machine
end

