-- ==== Sys2Proof/Laws/KeptCredit.lean ====
section
/-! SUPPORT. `Kept` for every operation of Machine/Credit.lean: what each of them leaves as it is (the canonical form of the state,
the queue, the identity OTP), cited in place of unfolding it. -/
namespace Sys2Proof.Machine

theorem endEmergency_kept {s0 : State} {s : State} (hs : Kept s0 s) :
    Kept s0 (endEmergency s) := by
  unfold endEmergency
  refine Kept.ite ?_ ?_
  · exact hs.upd rfl rfl rfl rfl rfl rfl rfl rfl rfl
  · assumption

theorem updCredit_kept {s0 : State} {f : CreditRec → CreditRec} {s : State} (hs : Kept s0 s) :
    Kept s0 (updCredit f s) := by
  unfold updCredit
  exact hs.upd rfl rfl rfl rfl rfl rfl rfl rfl rfl

theorem updRly_kept {s0 : State} {f : RlySt → RlySt} {s : State} (hs : Kept s0 s) :
    Kept s0 (updRly f s) := by
  unfold updRly
  exact hs.upd rfl rfl rfl rfl rfl rfl rfl rfl rfl

theorem drawDelay_kept {s0 : State} {s : State} (hs : Kept s0 s) :
    Kept s0 (drawDelay s) := by
  unfold drawDelay
  extract_lets y1 y2 y3
  have hy1 : Kept s0 y1.2 := by
    unfold y1
    refine fresh_kept ?_
    assumption
  clear_value y1
  have hy2 : Kept s0 y2 := by
    unfold y2
    assumption
  clear_value y2
  clear_value y3
  exact hy2.upd rfl rfl rfl rfl rfl rfl rfl rfl rfl

theorem startLcPulse_kept {s0 : State} {s : State} (hs : Kept s0 s) :
    Kept s0 (startLcPulse s) := by
  unfold startLcPulse
  split
  · assumption
  · refine Kept.ite ?_ ?_
    · refine raiseIf_kept ?_
      assumption
    · refine Kept.ite ?_ ?_
      · assumption
      · refine abortSounding_kept ?_
        refine updRly_kept ?_
        assumption

theorem writeCredit_kept {s0 : State} {k : ℕ} {s : State} (hs : Kept s0 s) :
    Kept s0 (writeCredit k s) := by
  unfold writeCredit
  refine dirty_kept ?_
  exact hs.upd rfl rfl rfl rfl rfl rfl rfl rfl rfl

theorem switchLc_kept {s0 : State} {on : Bool} {s : State} (hs : Kept s0 s) :
    Kept s0 (switchLc on s) := by
  unfold switchLc
  extract_lets y1 y2 y3
  have hy1 : Kept s0 y1 := by
    unfold y1
    refine raise_kept ?_
    refine put_kept ?_
    refine put_kept ?_
    refine put_kept ?_
    assumption
  clear_value y1
  have hy2 : Kept s0 y2 := by
    unfold y2
    refine Kept.ite ?_ ?_
    · refine updRly_kept ?_
      assumption
    · refine updCredit_kept ?_
      assumption
  clear_value y2
  have hy3 : Kept s0 y3 := by
    unfold y3
    refine Kept.ite ?_ ?_
    · refine updRly_kept ?_
      assumption
    · refine startLcPulse_kept ?_
      refine updRly_kept ?_
      assumption
  clear_value y3
  refine writeCredit_kept ?_
  assumption

theorem dropLc_kept {s0 : State} {s : State} (hs : Kept s0 s) :
    Kept s0 (dropLc s) := by
  unfold dropLc
  extract_lets y1
  have hy1 : Kept s0 y1 := by
    unfold y1
    refine drawDelay_kept ?_
    refine updCredit_kept ?_
    assumption
  clear_value y1
  refine Kept.ite ?_ ?_
  · refine switchLc_kept ?_
    assumption
  · assumption

theorem commandMain_kept {s0 : State} {openIt : Bool} {s : State} (hs : Kept s0 s) :
    Kept s0 (commandMain openIt s) := by
  unfold commandMain
  extract_lets y1 y2 y3
  have hy1 : Kept s0 y1 := by
    unfold y1
    refine put_kept ?_
    refine put_kept ?_
    refine put_kept ?_
    assumption
  clear_value y1
  have hy2 : Kept s0 y2 := by
    unfold y2
    refine updRly_kept ?_
    assumption
  clear_value y2
  have hy3 : Kept s0 y3 := by
    unfold y3
    refine Kept.ite ?_ ?_
    · refine dropLc_kept ?_
      assumption
    · assumption
  clear_value y3
  refine raiseIf_kept ?_
  refine writeCredit_kept ?_
  assumption

theorem acceptReconnect_kept {s0 : State} {s : State} (hs : Kept s0 s) :
    Kept s0 (acceptReconnect s) := by
  unfold acceptReconnect
  refine Kept.ite ?_ ?_
  · refine commandMain_kept ?_
    assumption
  · assumption

theorem showCredit_kept {s0 : State} {s : State} (hs : Kept s0 s) :
    Kept s0 (showCredit s) := by
  unfold showCredit
  extract_lets y1 y2 y3
  clear_value y1
  have hy2 : Kept s0 y2 := by
    unfold y2
    refine put_kept ?_
    refine put_kept ?_
    assumption
  clear_value y2
  have hy3 : Kept s0 y3 := by
    unfold y3
    refine put_kept ?_
    refine put_kept ?_
    assumption
  clear_value y3
  refine put_kept ?_
  refine put_kept ?_
  refine put_kept ?_
  assumption

theorem matchLatch_kept {s0 : State} {s : State} (hs : Kept s0 s) :
    Kept s0 (matchLatch s) := by
  unfold matchLatch
  extract_lets y1
  clear_value y1
  refine Kept.ite ?_ ?_
  · refine updRly_kept ?_
    assumption
  · assumption

theorem evalLc_kept {s0 : State} {s : State} (hs : Kept s0 s) :
    Kept s0 (evalLc s) := by
  unfold evalLc
  extract_lets y1 y2 y3 y4
  have hy1 : Kept s0 y1 := by
    unfold y1
    refine startLcPulse_kept ?_
    refine matchLatch_kept ?_
    assumption
  clear_value y1
  clear_value y2
  clear_value y3
  have hy4 : Kept s0 y4 := by
    unfold y4
    refine raiseIf_kept ?_
    assumption
  clear_value y4
  refine Kept.ite ?_ ?_
  · assumption
  · refine Kept.ite ?_ ?_
    · refine put_kept ?_
      refine put_kept ?_
      assumption
    · refine Kept.ite ?_ ?_
      · refine switchLc_kept ?_
        assumption
      · refine raiseIf_kept ?_
        refine put_kept ?_
        refine put_kept ?_
        assumption

theorem driveMain_kept {s0 : State} {s : State} (hs : Kept s0 s) :
    Kept s0 (driveMain s) := by
  unfold driveMain
  extract_lets y1 y2
  clear_value y1
  clear_value y2
  refine Kept.ite ?_ ?_
  · assumption
  · refine Kept.ite ?_ ?_
    · refine Kept.ite ?_ ?_
      · refine put_kept ?_
        assumption
      · refine commandMain_kept ?_
        assumption
    · refine Kept.ite ?_ ?_
      · assumption
      · refine Kept.ite ?_ ?_
        · refine put_kept ?_
          assumption
        · refine commandMain_kept ?_
          assumption

theorem evalReasons_kept {s0 : State} {s : State} (hs : Kept s0 s) :
    Kept s0 (evalReasons s) := by
  unfold evalReasons
  extract_lets y1 y2 y3 y4
  clear_value y1
  have hy2 : Kept s0 y2 := by
    unfold y2
    refine updRly_kept ?_
    assumption
  clear_value y2
  clear_value y3
  clear_value y4
  refine evalLc_kept ?_
  refine driveMain_kept ?_
  refine put_kept ?_
  assumption

theorem evalCredit_kept {s0 : State} {s : State} (hs : Kept s0 s) :
    Kept s0 (evalCredit s) := by
  unfold evalCredit
  split
  · assumption
  · extract_lets y1 y2
    have hy1 : Kept s0 y1 := by
      unfold y1
      refine endEmergency_kept ?_
      assumption
    clear_value y1
    clear_value y2
    refine Kept.ite ?_ ?_
    · assumption
    · refine raiseAt_kept ?_
      refine put_kept ?_
      assumption

theorem requestEc_kept {s0 : State} {s : State} (hs : Kept s0 s) :
    Kept s0 (requestEc s) := by
  unfold requestEc
  split
  · refine raise_kept ?_
    assumption
  · refine Kept.ite ?_ ?_
    · extract_lets y1 y2
      clear_value y1
      have hy2 : Kept s0 y2 := by
        unfold y2
        refine raise_kept ?_
        exact hs.upd rfl rfl rfl rfl rfl rfl rfl rfl rfl
      clear_value y2
      refine showCredit_kept ?_
      refine writeCredit_kept ?_
      refine evalReasons_kept ?_
      refine evalCredit_kept ?_
      assumption
    · refine raise_kept ?_
      assumption

theorem dropLoadAtFreeze_kept {s0 : State} {s : State} (hs : Kept s0 s) :
    Kept s0 (dropLoadAtFreeze s) := by
  unfold dropLoadAtFreeze
  extract_lets y1 y2
  have hy1 : Kept s0 y1 := by
    unfold y1
    refine updCredit_kept ?_
    assumption
  clear_value y1
  have hy2 : Kept s0 y2 := by
    unfold y2
    refine raiseIf_kept ?_
    assumption
  clear_value y2
  refine Kept.ite ?_ ?_
  · assumption
  · refine put_kept ?_
    refine put_kept ?_
    refine put_kept ?_
    refine updRly_kept ?_
    assumption

theorem startMonth_kept {s0 : State} {s : State} (hs : Kept s0 s) :
    Kept s0 (startMonth s) := by
  unfold startMonth
  extract_lets y1
  have hy1 : Kept s0 y1 := by
    unfold y1
    refine raise_kept ?_
    refine updCredit_kept ?_
    assumption
  clear_value y1
  refine put_kept ?_
  assumption

theorem evalFriendly_kept {s0 : State} {special : List ℕ} {c : ℤ} {s : State} (hs : Kept s0 s) :
    Kept s0 (evalFriendly special c s) := by
  unfold evalFriendly
  extract_lets y1 y2
  clear_value y1
  clear_value y2
  refine raiseIf_kept ?_
  refine put_kept ?_
  exact hs.upd rfl rfl rfl rfl rfl rfl rfl rfl rfl

theorem rlyCtlWrite_kept {s0 : State} {w : Word} {s : State} (hs : Kept s0 s) :
    Kept s0 (rlyCtlWrite w s) := by
  unfold rlyCtlWrite
  extract_lets y1 y2 y3 y4 y5 y6
  have hy5 : Kept s0 y5 := by
    unfold y5
    refine Kept.ite ?_ ?_
    · refine put_kept ?_
      assumption
    · refine Kept.ite ?_ ?_
      · refine put_kept ?_
        assumption
      · assumption
  clear_value y5
  have hy6 : Kept s0 y6 := by
    unfold y6
    refine Kept.ite ?_ ?_
    · refine updRly_kept ?_
      assumption
    · refine Kept.ite ?_ ?_
      · refine updRly_kept ?_
        assumption
      · assumption
  clear_value y6
  refine Kept.ite ?_ ?_
  · refine raise_kept ?_
    assumption
  · refine evalReasons_kept ?_
    assumption

theorem threeCycles_kept {s0 : State} {x : ℕ} {cause : Fld} {trips : Bool} {quiet : Bool} {s : State} (hs : Kept s0 s) :
    Kept s0 (threeCycles x cause trips quiet s) := by
  unfold threeCycles
  refine Kept.ite ?_ ?_
  · assumption
  · refine Kept.ite ?_ ?_
    · refine Kept.ite ?_ ?_
      · assumption
      · refine tripProducer_kept ?_
        refine raise_kept ?_
        assumption
    · refine Kept.ite ?_ ?_
      · refine releaseProducer_kept ?_
        assumption
      · assumption

theorem execMplRelease_kept {s0 : State} {s : State} (hs : Kept s0 s) :
    KeptOut s0 (execMplRelease s) := by
  unfold execMplRelease
  refine onlyIf_kept ?_ ?_
  · intro q1 q2
    refine evalReasons_kept ?_
    refine raise_kept ?_
    refine put_kept ?_
    exact q2.upd rfl rfl rfl rfl rfl rfl rfl rfl rfl
  · assumption

theorem pulseWaits_kept {s0 : State} {s : State} (hs : Kept s0 s) :
    Kept s0 (pulseWaits s) := by
  unfold pulseWaits
  refine raiseIf_kept ?_
  assumption

theorem showBlock_kept {s0 : State} {p : Prepay} {s : State} (hs : Kept s0 s) :
    Kept s0 (showBlock p s) := by
  unfold showBlock
  extract_lets y1
  clear_value y1
  refine raiseIf_kept ?_
  refine put_kept ?_
  assumption

theorem chargeCredit_kept {s0 : State} {rate : ℕ} {e : ℕ} {s : State} (hs : Kept s0 s) :
    Kept s0 (chargeCredit rate e s) := by
  unfold chargeCredit
  split
  · refine updCredit_kept ?_
    assumption
  · extract_lets y1 y2
    clear_value y1
    clear_value y2
    refine showBlock_kept ?_
    refine updCredit_kept ?_
    assumption

theorem execMplTrip_kept {s0 : State} {s : State} (hs : Kept s0 s) :
    KeptOut s0 (execMplTrip s) := by
  unfold execMplTrip
  split
  · refine KeptOut.next ?_
    assumption
  · refine onlyIf_kept ?_ ?_
    · intro q1 q2
      extract_lets y1
      have hy1 : Kept s0 y1 := by
        unfold y1
        refine raise_kept ?_
        refine put_kept ?_
        assumption
      clear_value y1
      refine showCredit_kept ?_
      refine evalReasons_kept ?_
      refine updRly_kept ?_
      assumption
    · assumption

theorem startPulse_kept {s0 : State} {o : Bool} {s : State} (hs : Kept s0 s) :
    Kept s0 (startPulse o s) := by
  unfold startPulse
  refine abortSounding_kept ?_
  refine updRly_kept ?_
  assumption

theorem execMainRetry_kept {s0 : State} {s : State} (hs : Kept s0 s) :
    KeptOut s0 (execMainRetry s) := by
  unfold execMainRetry
  split
  · refine KeptOut.next ?_
    assumption
  · refine KeptOut.next ?_
    refine Kept.ite ?_ ?_
    · refine startPulse_kept ?_
      assumption
    · refine pulseWaits_kept ?_
      assumption

theorem execFreezeRelease_kept {s0 : State} {s : State} (hs : Kept s0 s) :
    KeptOut s0 (execFreezeRelease s) := by
  unfold execFreezeRelease
  extract_lets y1
  have hy1 : Kept s0 y1 := by
    unfold y1
    refine refreshLines_kept ?_
    assumption
  clear_value y1
  refine KeptOut.ite ?_ ?_
  · refine KeptOut.next ?_
    assumption
  · refine KeptOut.next ?_
    refine evalLc_kept ?_
    assumption

theorem execRemoteClose_kept {s0 : State} {m : Master} {w : Word} {s : State} (hs : Kept s0 s) :
    KeptOut s0 (execRemoteClose m w s) := by
  unfold execRemoteClose
  refine cmdWrite_kept ?_ ?_
  · intro q1 q2
    refine rlyCtlWrite_kept ?_
    assumption
  · assumption

theorem setMainState_kept {s0 : State} {v : ℕ} {s : State} (hs : Kept s0 s) :
    Kept s0 (setMainState v s) := by
  unfold setMainState
  refine Kept.ite ?_ ?_
  · assumption
  · refine writeCredit_kept ?_
    refine put_kept ?_
    assumption

theorem mainVerified_kept {s0 : State} {o : Bool} {s : State} (hs : Kept s0 s) :
    Kept s0 (mainVerified o s) := by
  unfold mainVerified
  extract_lets y1 y2 y3 y4
  have hy1 : Kept s0 y1 := by
    unfold y1
    refine updRly_kept ?_
    assumption
  clear_value y1
  have hy2 : Kept s0 y2 := by
    unfold y2
    refine setMainState_kept ?_
    assumption
  clear_value y2
  have hy3 : Kept s0 y3 := by
    unfold y3
    refine Kept.ite ?_ ?_
    · refine raise_kept ?_
      assumption
    · refine raise_kept ?_
      assumption
  clear_value y3
  clear_value y4
  exact hy3.upd rfl rfl rfl rfl rfl rfl rfl rfl rfl

theorem mainFails_kept {s0 : State} {o : Bool} {s : State} (hs : Kept s0 s) :
    Kept s0 (mainFails o s) := by
  unfold mainFails
  refine Kept.ite ?_ ?_
  · refine setMainState_kept ?_
    refine updRly_kept ?_
    assumption
  · refine occurrence_kept ?_
    refine raise_kept ?_
    refine setMainState_kept ?_
    refine updRly_kept ?_
    assumption

theorem execMainVerify_kept {s0 : State} {cyc : List (List (ℕ × ℕ))} {s : State} (hs : Kept s0 s) :
    KeptOut s0 (execMainVerify cyc s) := by
  unfold execMainVerify
  split
  · refine KeptOut.next ?_
    assumption
  · extract_lets y1 y2 y3
    clear_value y1
    clear_value y2
    have hy3 : Kept s0 y3 := by
      unfold y3
      refine updCredit_kept ?_
      refine updRly_kept ?_
      assumption
    clear_value y3
    refine KeptOut.ite ?_ ?_
    · refine KeptOut.next ?_
      assumption
    · refine KeptOut.ite ?_ ?_
      · refine KeptOut.next ?_
        refine showCredit_kept ?_
        refine setMainState_kept ?_
        assumption
      · refine KeptOut.next ?_
        refine showCredit_kept ?_
        refine writeCredit_kept ?_
        refine Kept.ite ?_ ?_
        · refine mainVerified_kept ?_
          assumption
        · refine mainFails_kept ?_
          assumption

theorem releaseRelays_kept {s0 : State} {s : State} (hs : Kept s0 s) :
    Kept s0 (releaseRelays s) := by
  unfold releaseRelays
  extract_lets y1 y2
  have hy1 : Kept s0 y1 := by
    unfold y1
    refine evalReasons_kept ?_
    assumption
  clear_value y1
  clear_value y2
  refine Kept.ite ?_ ?_
  · assumption
  · refine commandMain_kept ?_
    assumption

theorem execLcPulseEnd_kept {s0 : State} {s : State} (hs : Kept s0 s) :
    KeptOut s0 (execLcPulseEnd s) := by
  unfold execLcPulseEnd
  split
  · refine KeptOut.next ?_
    assumption
  · extract_lets y1
    have hy1 : Kept s0 y1 := by
      unfold y1
      refine updRly_kept ?_
      assumption
    clear_value y1
    refine KeptOut.next ?_
    refine startLcPulse_kept ?_
    refine Kept.ite ?_ ?_
    · refine updLmd_kept ?_
      assumption
    · assumption

theorem execMainPulseEnd_kept {s0 : State} {s : State} (hs : Kept s0 s) :
    KeptOut s0 (execMainPulseEnd s) := by
  unfold execMainPulseEnd
  split
  · refine KeptOut.next ?_
    assumption
  · refine KeptOut.next ?_
    refine startLcPulse_kept ?_
    refine updRly_kept ?_
    assumption

theorem execLcSwitch_kept {s0 : State} {s : State} (hs : Kept s0 s) :
    KeptOut s0 (execLcSwitch s) := by
  unfold execLcSwitch
  refine onlyIf_kept ?_ ?_
  · intro q1 q2
    refine switchLc_kept ?_
    assumption
  · assumption

theorem execRemoteOpen_kept {s0 : State} {m : Master} {w : Word} {s : State} (hs : Kept s0 s) :
    KeptOut s0 (execRemoteOpen m w s) := by
  unfold execRemoteOpen
  refine cmdWrite_kept ?_ ?_
  · intro q1 q2
    refine rlyCtlWrite_kept ?_
    assumption
  · assumption

theorem execLcShed_kept {s0 : State} {m : Master} {w : Word} {s : State} (hs : Kept s0 s) :
    KeptOut s0 (execLcShed m w s) := by
  unfold execLcShed
  refine cmdWrite_kept ?_ ?_
  · intro q1 q2
    refine rlyCtlWrite_kept ?_
    assumption
  · assumption

theorem execLcRestore_kept {s0 : State} {m : Master} {w : Word} {s : State} (hs : Kept s0 s) :
    KeptOut s0 (execLcRestore m w s) := by
  unfold execLcRestore
  refine cmdWrite_kept ?_ ?_
  · intro q1 q2
    refine rlyCtlWrite_kept ?_
    assumption
  · assumption

theorem execMainPulseStart_kept {s0 : State} {s : State} (hs : Kept s0 s) :
    KeptOut s0 (execMainPulseStart s) := by
  unfold execMainPulseStart
  split
  · refine KeptOut.next ?_
    assumption
  · refine KeptOut.next ?_
    refine Kept.ite ?_ ?_
    · refine startPulse_kept ?_
      assumption
    · refine pulseWaits_kept ?_
      assumption

theorem execLoadv_kept {s0 : State} {cyc : List (List (ℕ × ℕ))} {s : State} (hs : Kept s0 s) :
    KeptOut s0 (execLoadv cyc s) := by
  unfold execLoadv
  extract_lets y1 y2
  clear_value y1
  clear_value y2
  refine KeptOut.next ?_
  refine threeCycles_kept ?_
  assumption

theorem execOpenI_kept {s0 : State} {cyc : List (List ℕ)} {s : State} (hs : Kept s0 s) :
    KeptOut s0 (execOpenI cyc s) := by
  unfold execOpenI
  extract_lets y1 y2
  clear_value y1
  clear_value y2
  refine KeptOut.next ?_
  refine threeCycles_kept ?_
  assumption

end Sys2Proof.Machine
end

