-- ==== Sys2Proof/Laws/KeptBilling.lean ====
section
/-! SUPPORT. `Kept` for every operation of Machine/Billing.lean: what each of them leaves as it is (the canonical form of the state,
the queue, the identity OTP), cited in place of unfolding it. -/
namespace Sys2Proof.Machine

theorem showSlew_kept {s0 : State} {s : State} (hs : Kept s0 s) :
    Kept s0 (showSlew s) := by
  unfold showSlew
  refine Kept.ite ?_ ?_
  · refine put_kept ?_
    refine putS_kept ?_
    assumption
  · assumption

theorem setSlew_kept {s0 : State} {z : ℤ} {s : State} (hs : Kept s0 s) :
    Kept s0 (setSlew z s) := by
  unfold setSlew
  refine showSlew_kept ?_
  exact hs.upd rfl rfl rfl rfl rfl rfl rfl rfl rfl

theorem writeBill_kept {s0 : State} {k : ℕ} {rate : ℕ} {s : State} (hs : Kept s0 s) :
    Kept s0 (writeBill k rate s) := by
  unfold writeBill
  refine dirty_kept ?_
  exact hs.upd rfl rfl rfl rfl rfl rfl rfl rfl rfl

theorem updBil_kept {s0 : State} {f : BilSt → BilSt} {s : State} (hs : Kept s0 s) :
    Kept s0 (updBil f s) := by
  unfold updBil
  exact hs.upd rfl rfl rfl rfl rfl rfl rfl rfl rfl

theorem updBill_kept {s0 : State} {f : BillRec → BillRec} {s : State} (hs : Kept s0 s) :
    Kept s0 (updBill f s) := by
  unfold updBill
  exact hs.upd rfl rfl rfl rfl rfl rfl rfl rfl rfl

theorem addReg_kept {s0 : State} {r : ℕ} {m : ℕ} {s : State} (hs : Kept s0 s) :
    Kept s0 (addReg r m s) := by
  unfold addReg
  extract_lets y1 y2
  clear_value y1
  have hy2 : Kept s0 y2 := by
    unfold y2
    refine updBill_kept ?_
    assumption
  clear_value y2
  refine Kept.ite ?_ ?_
  · refine legalEvent_kept ?_
    refine raise_kept ?_
    assumption
  · assumption

theorem addQuantity_kept {s0 : State} {rate : ℕ} {j : ℕ} {e : ℕ} {s : State} (hs : Kept s0 s) :
    Kept s0 (addQuantity rate j e s) := by
  unfold addQuantity
  extract_lets y1 y2 y3 y4
  clear_value y1
  clear_value y2
  have hy3 : Kept s0 y3 := by
    unfold y3
    refine updBill_kept ?_
    assumption
  clear_value y3
  have hy4 : Kept s0 y4 := by
    unfold y4
    refine addReg_kept ?_
    refine addReg_kept ?_
    assumption
  clear_value y4
  split
  · refine Kept.ite ?_ ?_
    · refine updBill_kept ?_
      assumption
    · assumption
  · assumption

theorem applyIncs_kept {s0 : State} {rate : ℕ} {incs : List ℕ} {s : State} (hs : Kept s0 s) :
    Kept s0 (applyIncs rate incs s) := by
  unfold applyIncs
  extract_lets y1
  have hy1 : Kept s0 y1 := by
    unfold y1
    refine updBill_kept ?_
    assumption
  clear_value y1
  refine Kept.foldl ?_ ?_
  · intro q1 q2 q3
    refine addQuantity_kept ?_
    assumption
  · assumption

theorem applyDiff_kept {s0 : State} {acc : List ℕ} {rate : ℕ} {s : State} (hs : Kept s0 s) :
    Kept s0 (applyDiff acc rate s) := by
  unfold applyDiff
  extract_lets y1 y2
  clear_value y1
  have hy2 : Kept s0 y2 := by
    unfold y2
    refine applyIncs_kept ?_
    assumption
  clear_value y2
  refine updBill_kept ?_
  assumption

theorem rebaseP1_kept {s0 : State} {s : State} (hs : Kept s0 s) :
    Kept s0 (rebaseP1 s) := by
  unfold rebaseP1
  extract_lets y1
  refine updBil_kept ?_
  assumption

theorem showDisplay_kept {s0 : State} {n : ℕ} {s : State} (hs : Kept s0 s) :
    Kept s0 (showDisplay n s) := by
  unfold showDisplay
  refine Kept.ite ?_ ?_
  · assumption
  · extract_lets y1 y2 y3 y4 y5 y6
    clear_value y1
    clear_value y2
    clear_value y3
    have hy4 : Kept s0 y4 := by
      unfold y4
      refine put_kept ?_
      refine put_kept ?_
      assumption
    clear_value y4
    have hy5 : Kept s0 y5 := by
      unfold y5
      refine updBill_kept ?_
      assumption
    clear_value y5
    have hy6 : Kept s0 y6.2 := by
      unfold y6
      refine fresh_kept ?_
      assumption
    clear_value y6
    refine Kept.ite ?_ ?_
    · refine raise_kept ?_
      refine legalEvent_kept ?_
      assumption
    · assumption

theorem showDisplays_kept {s0 : State} {s : State} (hs : Kept s0 s) :
    Kept s0 (showDisplays s) := by
  unfold showDisplays
  refine Kept.foldl ?_ ?_
  · intro q1 q2 q3
    refine showDisplay_kept ?_
    assumption
  · assumption

theorem owe_kept {s0 : State} {rate : ℕ} {e : ℕ} {s : State} (hs : Kept s0 s) :
    Kept s0 (owe rate e s) := by
  unfold owe
  refine Kept.ite ?_ ?_
  · assumption
  · split
    · refine Kept.ite ?_ ?_
      · refine updBil_kept ?_
        assumption
      · refine updBil_kept ?_
        assumption
    · refine updBil_kept ?_
      assumption

theorem newMax_kept {s0 : State} {i : ℕ} {v : ℕ} {t : ℕ} {s : State} (hs : Kept s0 s) :
    Kept s0 (newMax i v t s) := by
  unfold newMax
  refine Kept.ite ?_ ?_
  · refine raise_kept ?_
    refine updBill_kept ?_
    assumption
  · assumption

theorem closeDemand_kept {s0 : State} {natural : Bool} {rate : ℕ} {t : ℕ} {s : State} (hs : Kept s0 s) :
    Kept s0 (closeDemand natural rate t s) := by
  unfold closeDemand
  extract_lets y1 y2 y3 y4 y5
  clear_value y1
  clear_value y2
  have hy3 : Kept s0 y3 := by
    unfold y3
    refine Kept.foldl ?_ ?_
    · intro q1 q2 q3
      extract_lets y6
      clear_value y6
      refine newMax_kept ?_
      refine newMax_kept ?_
      assumption
    · assumption
  clear_value y3
  have hy4 : Kept s0 y4 := by
    unfold y4
    refine raiseIf_kept ?_
    refine raise_kept ?_
    assumption
  clear_value y4
  clear_value y5
  refine updBill_kept ?_
  assumption

theorem putP1_kept {s0 : State} {e : ProfEntry} {s : State} (hs : Kept s0 s) :
    Kept s0 (putP1 e s) := by
  unfold putP1
  extract_lets y1 y2 y3
  clear_value y1
  have hy2 : Kept s0 y2 := by
    unfold y2
    refine counterAdd_kept ?_
    assumption
  clear_value y2
  clear_value y3
  refine dirty_kept ?_
  exact hy2.upd rfl rfl rfl rfl rfl rfl rfl rfl rfl

theorem closeP1_kept {s0 : State} {natural : Bool} {outage : Bool} {t : ℕ} {s : State} (hs : Kept s0 s) :
    Kept s0 (closeP1 natural outage t s) := by
  unfold closeP1
  extract_lets y1 y2 y3 y4 y5 y6 y7 y8
  clear_value y1
  clear_value y2
  clear_value y3
  clear_value y4
  clear_value y5
  clear_value y6
  have hy7 : Kept s0 y7 := by
    unfold y7
    refine raiseIf_kept ?_
    assumption
  clear_value y7
  have hy8 : Kept s0 y8 := by
    unfold y8
    refine Kept.ite ?_ ?_
    · assumption
    · refine raiseIf_kept ?_
      refine putP1_kept ?_
      assumption
  clear_value y8
  refine updBil_kept ?_
  assumption

theorem writeP2_kept {s0 : State} {day : ℤ} {t : ℕ} {outage : Bool} {gap : Bool} {s : State} (hs : Kept s0 s) :
    Kept s0 (writeP2 day t outage gap s) := by
  unfold writeP2
  extract_lets y1 y2 y3 y4 y5 y6 y7 y8 y9
  clear_value y1
  clear_value y2
  clear_value y3
  have hy4 : Kept s0 y4 := by
    unfold y4
    refine updBil_kept ?_
    assumption
  clear_value y4
  clear_value y5
  clear_value y6
  clear_value y7
  have hy8 : Kept s0 y8 := by
    unfold y8
    refine counterAdd_kept ?_
    assumption
  clear_value y8
  clear_value y9
  refine Kept.ite ?_ ?_
  · assumption
  · refine raiseIf_kept ?_
    refine dirty_kept ?_
    exact hy8.upd rfl rfl rfl rfl rfl rfl rfl rfl rfl

theorem monthStart_kept {s0 : State} {s : State} (hs : Kept s0 s) :
    Kept s0 (monthStart s) := by
  unfold monthStart
  refine Kept.ite ?_ ?_
  · refine startMonth_kept ?_
    assumption
  · refine updBil_kept ?_
    assumption

theorem snapshot_kept {s0 : State} {reason : ℕ} {skipped : ℕ} {t : ℕ} {s : State} (hs : Kept s0 s) :
    Kept s0 (snapshot reason skipped t s) := by
  unfold snapshot
  extract_lets y1 y2 y3 y4 y5 y6 y7
  have hy1 : Kept s0 y1 := by
    unfold y1
    refine counterAdd_kept ?_
    assumption
  clear_value y1
  clear_value y2
  clear_value y3
  clear_value y4
  clear_value y5
  clear_value y6
  have hy7 : Kept s0 y7 := by
    unfold y7
    refine dirty_kept ?_
    exact hy1.upd rfl rfl rfl rfl rfl rfl rfl rfl rfl
  clear_value y7
  refine updBil_kept ?_
  assumption

theorem closePeriod_kept {s0 : State} {reason : ℕ} {skipped : ℕ} {i : ℕ} {t : ℕ} {s : State} (hs : Kept s0 s) :
    Kept s0 (closePeriod reason skipped i t s) := by
  unfold closePeriod
  refine raise_kept ?_
  refine snapshot_kept ?_
  refine updBill_kept ?_
  assumption

theorem stageClose_kept {s0 : State} {t : ℕ} {s : State} (hs : Kept s0 s) :
    Kept s0 (stageClose t s) := by
  unfold stageClose
  extract_lets y1 y2 y3
  clear_value y1
  clear_value y2
  have hy3 : Kept s0 y3 := by
    unfold y3
    refine monthStart_kept ?_
    refine closePeriod_kept ?_
    assumption
  clear_value y3
  refine Kept.ite ?_ ?_
  · refine raiseIf_kept ?_
    refine updBil_kept ?_
    assumption
  · split
    · refine raise_kept ?_
      refine snapshot_kept ?_
      refine updBil_kept ?_
      assumption
    · assumption

theorem closePassed_kept {s0 s : State} {rule : Option (DstEnd × DstEnd)} {i skipped n : Nat} (hs : Kept s0 s) :
    Kept s0 (closePassed rule i skipped n s) := by
  induction n generalizing i skipped s with
  | zero => exact hs
  | succ n ih =>
    rw [closePassed]
    exact ih (closePeriod_kept (updBil_kept hs))

theorem closeOutage_kept {s0 : State} {tb : Tariff} {fz : ℕ} {s : State} (hs : Kept s0 s) :
    Kept s0 (closeOutage tb fz s) := by
  unfold closeOutage
  extract_lets y1 y2 y3 y4 y5 y6 y7 y8 y9 y10 y11 y12 y13
  clear_value y1
  have hy3 : Kept s0 y3 := by
    unfold y3
    refine Kept.ite ?_ ?_
    · refine closeDemand_kept ?_
      assumption
    · assumption
  clear_value y3
  have hy4 : Kept s0 y4 := by
    unfold y4
    refine Kept.ite ?_ ?_
    · refine closeP1_kept ?_
      assumption
    · assumption
  clear_value y4
  have hy5 : Kept s0 y5 := by
    unfold y5
    refine Kept.ite ?_ ?_
    · refine writeP2_kept ?_
      assumption
    · assumption
  clear_value y5
  have hy6 : Kept s0 y6 := by
    unfold y6
    refine Kept.ite ?_ ?_
    · refine stageClose_kept ?_
      assumption
    · assumption
  clear_value y6
  have hy7 : Kept s0 y7 := by
    unfold y7
    refine raise_kept ?_
    refine closeP1_kept ?_
    refine closeDemand_kept ?_
    assumption
  clear_value y7
  clear_value y8
  clear_value y9
  clear_value y10
  have hy11 : Kept s0 y11 := by
    unfold y11
    refine Kept.ite ?_ ?_
    · refine updBil_kept ?_
      refine monthStart_kept ?_
      refine closePassed_kept ?_
      assumption
    · assumption
  clear_value y11
  clear_value y12
  clear_value y13
  refine Kept.ite ?_ ?_
  · refine writeP2_kept ?_
    assumption
  · assumption

theorem newParts_kept {s0 : State} {s : State} (hs : Kept s0 s) :
    Kept s0 (newParts s) := by
  unfold newParts
  refine updBil_kept ?_
  assumption

theorem stageTariff_kept {s0 : State} {s : State} (hs : Kept s0 s) :
    Kept s0 (stageTariff s) := by
  unfold stageTariff
  extract_lets y1 y2 y3
  clear_value y1
  have hy2 : Kept s0 y2 := by
    unfold y2
    refine put_kept ?_
    refine put_kept ?_
    refine putS_kept ?_
    assumption
  clear_value y2
  split
  · refine evalFriendly_kept ?_
    refine updBill_kept ?_
    assumption
  · extract_lets y4 y5 y6 y7 y8 y9 y10 y11 y12
    clear_value y4
    have hy9 : Kept s0 y9 := by
      unfold y9
      refine raiseIf_kept ?_
      refine raiseIf_kept ?_
      refine raiseIf_kept ?_
      refine raiseIf_kept ?_
      assumption
    clear_value y9
    have hy10 : Kept s0 y10 := by
      unfold y10
      refine put_kept ?_
      refine put_kept ?_
      refine put_kept ?_
      assumption
    clear_value y10
    have hy11 : Kept s0 y11 := by
      unfold y11
      refine put_kept ?_
      refine put_kept ?_
      refine put_kept ?_
      refine put_kept ?_
      assumption
    clear_value y11
    have hy12 : Kept s0 y12 := by
      unfold y12
      refine putS_kept ?_
      refine put_kept ?_
      assumption
    clear_value y12
    refine evalFriendly_kept ?_
    refine updBill_kept ?_
    assumption

theorem showBilling_kept {s0 : State} {s : State} (hs : Kept s0 s) :
    Kept s0 (showBilling s) := by
  unfold showBilling
  extract_lets y1 y2
  have hy1 : Kept s0 y1 := by
    unfold y1
    refine put_kept ?_
    refine putS_kept ?_
    assumption
  clear_value y1
  have hy2 : Kept s0 y2 := by
    unfold y2
    refine put_kept ?_
    refine put_kept ?_
    assumption
  clear_value y2
  refine put_kept ?_
  refine showDisplays_kept ?_
  assumption

theorem restoreBilling_kept {s0 : State} {s : State} (hs : Kept s0 s) :
    Kept s0 (restoreBilling s) := by
  unfold restoreBilling
  extract_lets y1 y2 y3 y4 y5 y6 y7 y8 y9 y10 y11 y12 y13 y14 y15 y16
  have hy1 : Kept s0 y1 := by
    unfold y1
    refine put_kept ?_
    assumption
  clear_value y1
  clear_value y2
  clear_value y3
  have hy4 : Kept s0 y4 := by
    unfold y4
    refine updBil_kept ?_
    assumption
  clear_value y4
  have hy5 : Kept s0 y5 := by
    unfold y5
    refine updBil_kept ?_
    assumption
  clear_value y5
  clear_value y6
  have hy7 : Kept s0 y7 := by
    unfold y7
    refine updBil_kept ?_
    assumption
  clear_value y7
  clear_value y8
  clear_value y9
  have hy10 : Kept s0 y10 := by
    unfold y10
    refine applyDiff_kept ?_
    assumption
  clear_value y10
  have hy11 : Kept s0 y11 := by
    unfold y11
    refine rebaseP1_kept ?_
    refine showDisplays_kept ?_
    refine owe_kept ?_
    assumption
  clear_value y11
  have hy12 : Kept s0 y12 := by
    unfold y12
    refine Kept.ite ?_ ?_
    · assumption
    · refine legalEvent_kept ?_
      refine raise_kept ?_
      assumption
  clear_value y12
  have hy13 : Kept s0 y13 := by
    unfold y13
    split
    · refine Kept.ite ?_ ?_
      · refine closeOutage_kept ?_
        assumption
      · assumption
    · assumption
  clear_value y13
  have hy14 : Kept s0 y14 := by
    unfold y14
    refine Kept.ite ?_ ?_
    · refine updBil_kept ?_
      assumption
    · assumption
  clear_value y14
  have hy15 : Kept s0 y15 := by
    unfold y15
    refine newParts_kept ?_
    refine stageTariff_kept ?_
    assumption
  clear_value y15
  have hy16 : Kept s0 y16 := by
    unfold y16
    refine writeBill_kept ?_
    refine showDisplays_kept ?_
    refine updBill_kept ?_
    assumption
  clear_value y16
  refine showBilling_kept ?_
  refine put_kept ?_
  refine updBil_kept ?_
  assumption

theorem bilCtlWrite_kept {s0 : State} {w : Word} {s : State} (hs : Kept s0 s) :
    Kept s0 (bilCtlWrite w s) := by
  unfold bilCtlWrite
  refine Kept.ite ?_ ?_
  · assumption
  · refine Kept.ite ?_ ?_
    · refine raise_kept ?_
      assumption
    · refine updBil_kept ?_
      assumption

theorem adjWrite_kept {s0 : State} {w : Word} {src : ℕ} {osrc : ℕ} {s : State} (hs : Kept s0 s) :
    Kept s0 (adjWrite w src osrc s) := by
  unfold adjWrite
  refine Kept.ite ?_ ?_
  · assumption
  · refine updBil_kept ?_
    assumption

theorem keepRate_kept {s0 : State} {s : State} (hs : Kept s0 s) :
    Kept s0 (keepRate s) := by
  unfold keepRate
  refine updBil_kept ?_
  assumption

theorem sawSlew_kept {s0 : State} {secs : ℕ} {s : State} (hs : Kept s0 s) :
    Kept s0 (sawSlew secs s) := by
  unfold sawSlew
  refine updBil_kept ?_
  assumption

theorem applyRing_kept {s0 : State} {p : HandoffRec → Bool} {rate : ℕ} {s : State} (hs : Kept s0 s) :
    Kept s0 (applyRing p rate s) := by
  unfold applyRing
  extract_lets y1 y2 y3
  clear_value y1
  clear_value y2
  have hy3 : Kept s0 y3 := by
    unfold y3
    exact hs.upd rfl rfl rfl rfl rfl rfl rfl rfl rfl
  clear_value y3
  refine Kept.foldl ?_ ?_
  · intro q1 q2 q3
    refine Kept.ite ?_ ?_
    · refine applyIncs_kept ?_
      refine updBill_kept ?_
      assumption
    · assumption
  · assumption

theorem handoffCheck_kept {s0 : State} {rate : ℕ} {s : State} (hs : Kept s0 s) :
    Kept s0 (handoffCheck rate s) := by
  unfold handoffCheck
  extract_lets y1
  clear_value y1
  refine Kept.ite ?_ ?_
  · assumption
  · refine occurrence_kept ?_
    refine legalEvent_kept ?_
    refine raise_kept ?_
    refine applyDiff_kept ?_
    assumption

theorem settleOwed_kept {s0 : State} {s : State} (hs : Kept s0 s) :
    Kept s0 (settleOwed s) := by
  unfold settleOwed
  refine Kept.foldl ?_ ?_
  · intro q1 q2 q3
    split
    · refine chargeCredit_kept ?_
      assumption
    · refine startMonth_kept ?_
      assumption
  · refine updBil_kept ?_
    assumption

theorem stageEnergy_kept {s0 : State} {p : HandoffRec → Bool} {check : Bool} {rate : ℕ} {s : State} (hs : Kept s0 s) :
    Kept s0 (stageEnergy p check rate s) := by
  unfold stageEnergy
  extract_lets y1 y2 y3 y4 y5
  clear_value y1
  have hy2 : Kept s0 y2 := by
    unfold y2
    refine applyRing_kept ?_
    assumption
  clear_value y2
  have hy3 : Kept s0 y3 := by
    unfold y3
    refine Kept.ite ?_ ?_
    · refine handoffCheck_kept ?_
      assumption
    · assumption
  clear_value y3
  clear_value y4
  have hy5 : Kept s0 y5 := by
    unfold y5
    refine showDisplays_kept ?_
    assumption
  clear_value y5
  refine Kept.ite ?_ ?_
  · refine chargeCredit_kept ?_
    refine settleOwed_kept ?_
    assumption
  · refine owe_kept ?_
    assumption

theorem stepClock_kept {s0 : State} {d : ℤ} {src : ℕ} {osrc : ℕ} {s : State} (hs : Kept s0 s) :
    Kept s0 (stepClock d src osrc s) := by
  unfold stepClock
  extract_lets y1 y2 y3 y4 y5 y6
  clear_value y1
  clear_value y2
  have hy3 : Kept s0 y3 := by
    unfold y3
    refine stageEnergy_kept ?_
    assumption
  clear_value y3
  have hy4 : Kept s0 y4 := by
    unfold y4
    refine Kept.ite ?_ ?_
    · refine raise_kept ?_
      refine closeP1_kept ?_
      refine closeDemand_kept ?_
      assumption
    · assumption
  clear_value y4
  have hy5 : Kept s0 y5 := by
    unfold y5
    refine put_kept ?_
    refine setSlew_kept ?_
    assumption
  clear_value y5
  have hy6 : Kept s0 y6 := by
    unfold y6
    refine legalEvent_kept ?_
    assumption
  clear_value y6
  refine raise_kept ?_
  refine updBil_kept ?_
  assumption

theorem stageClock_kept {s0 : State} {s : State} (hs : Kept s0 s) :
    Kept s0 (stageClock s).2 := by
  unfold stageClock
  split
  · refine Kept.mkSnd ?_
    assumption
  · extract_lets y1 y2 y3 y4 y5 y6
    have hy1 : Kept s0 y1 := by
      unfold y1
      refine updBil_kept ?_
      assumption
    clear_value y1
    clear_value y2
    have hy3 : Kept s0 y3 := by
      unfold y3
      refine Kept.ite ?_ ?_
      · refine put_kept ?_
        assumption
      · assumption
    clear_value y3
    have hy6 : Kept s0 y6 := by
      unfold y6
      refine setSlew_kept ?_
      refine Kept.ite ?_ ?_
      · assumption
      · refine sawSlew_kept ?_
        assumption
    clear_value y6
    refine Kept.iteSnd ?_ ?_
    · refine Kept.mkSnd ?_
      refine raise_kept ?_
      assumption
    · refine Kept.iteSnd ?_ ?_
      · refine Kept.mkSnd ?_
        refine raiseIf_kept ?_
        refine raiseIf_kept ?_
        assumption
      · refine Kept.mkSnd ?_
        refine stepClock_kept ?_
        assumption

theorem slewSecond_kept {s0 : State} {s : State} (hs : Kept s0 s) :
    Kept s0 (slewSecond s) := by
  unfold slewSecond
  extract_lets y1 y2
  clear_value y1
  clear_value y2
  refine Kept.ite ?_ ?_
  · assumption
  · refine Kept.ite ?_ ?_
    · refine sawSlew_kept ?_
      assumption
    · refine raiseIf_kept ?_
      refine setSlew_kept ?_
      refine sawSlew_kept ?_
      assumption

theorem stageDemand_kept {s0 : State} {stepped : Bool} {rate : ℕ} {t : ℕ} {s : State} (hs : Kept s0 s) :
    Kept s0 (stageDemand stepped rate t s) := by
  unfold stageDemand
  refine Kept.ite ?_ ?_
  · assumption
  · extract_lets y1 y2 y3
    have hy1 : Kept s0 y1 := by
      unfold y1
      refine Kept.ite ?_ ?_
      · refine closeDemand_kept ?_
        assumption
      · assumption
    clear_value y1
    have hy2 : Kept s0 y2 := by
      unfold y2
      refine Kept.ite ?_ ?_
      · refine closeP1_kept ?_
        assumption
      · assumption
    clear_value y2
    have hy3 : Kept s0 y3 := by
      unfold y3
      refine Kept.ite ?_ ?_
      · refine writeP2_kept ?_
        assumption
      · assumption
    clear_value y3
    refine updBil_kept ?_
    assumption

theorem workTick_kept {s0 : State} {p : HandoffRec → Bool} {check : Bool} {stepped : Bool} {rate : ℕ} {t : ℕ} {s : State} (hs : Kept s0 s) :
    Kept s0 (workTick p check stepped rate t s) := by
  unfold workTick
  extract_lets y1 y2
  have hy1 : Kept s0 y1 := by
    unfold y1
    refine stageEnergy_kept ?_
    assumption
  clear_value y1
  have hy2 : Kept s0 y2 := by
    unfold y2
    refine stageClose_kept ?_
    refine stageDemand_kept ?_
    assumption
  clear_value y2
  refine writeBill_kept ?_
  refine showBilling_kept ?_
  refine put_kept ?_
  refine updBill_kept ?_
  assumption

theorem catchUpFrom_kept {s0 s : State} {t n : Nat} (hs : Kept s0 s) : Kept s0 (catchUpFrom t n s) := by
  induction n generalizing t s with
  | zero => exact hs
  | succ n ih =>
    rw [catchUpFrom]
    exact ih (workTick_kept hs)

theorem catchUp_kept {s0 : State} {before : Bool} {s : State} (hs : Kept s0 s) :
    Kept s0 (catchUp before s) := by
  unfold catchUp
  split
  · assumption
  · refine catchUpFrom_kept ?_
    refine updBil_kept ?_
    assumption

theorem execCloseRequest_kept {s0 : State} {m : Master} {w : Word} {s : State} (hs : Kept s0 s) :
    KeptOut s0 (execCloseRequest m w s) := by
  unfold execCloseRequest
  refine cmdWrite_kept ?_ ?_
  · intro q1 q2
    refine bilCtlWrite_kept ?_
    assumption
  · assumption

theorem execAdjRequest_kept {s0 : State} {m : Master} {w : Word} {src : ℕ} {osrc : ℕ} {s : State} (hs : Kept s0 s) :
    KeptOut s0 (execAdjRequest m w src osrc s) := by
  unfold execAdjRequest
  refine cmdWrite_kept ?_ ?_
  · intro q1 q2
    refine adjWrite_kept ?_
    assumption
  · assumption

theorem execTickCatchUp_kept {s0 : State} {s : State} (hs : Kept s0 s) :
    KeptOut s0 (execTickCatchUp s) := by
  unfold execTickCatchUp
  refine onlyIf_kept ?_ ?_
  · intro q1 q2
    refine showBilling_kept ?_
    refine catchUp_kept ?_
    assumption
  · assumption

end Sys2Proof.Machine
end

