-- ==== Sys2Proof/Laws/KeptCistern.lean ====
section
/-! SUPPORT. `Kept` for every operation of Machine/Cistern.lean: what each of them leaves as it is (the canonical form of the state,
the queue, the identity OTP), cited in place of unfolding it. -/
namespace Sys2Proof.Machine

theorem updCis_kept {s0 : State} {f : CisSt → CisSt} {s : State} (hs : Kept s0 s) :
    Kept s0 (updCis f s) := by
  unfold updCis
  exact hs.upd rfl rfl rfl rfl rfl rfl rfl rfl rfl

theorem endGrant_kept {s0 : State} {i : ℕ} {b : ℕ} {kind : ℕ} {s : State} (hs : Kept s0 s) :
    Kept s0 (endGrant i b kind s) := by
  unfold endGrant
  refine updCis_kept ?_
  assumption

theorem unlock_kept {s0 : State} {i : ℕ} {b : ℕ} {kind : ℕ} {s : State} (hs : Kept s0 s) :
    Kept s0 (unlock i b kind s).2 := by
  unfold unlock
  extract_lets y1
  clear_value y1
  refine Kept.iteSnd ?_ ?_
  · refine Kept.mkSnd ?_
    refine raise_kept ?_
    assumption
  · refine Kept.iteSnd ?_ ?_
    · refine Kept.mkSnd ?_
      assumption
    · refine Kept.iteSnd ?_ ?_
      · refine Kept.mkSnd ?_
        refine occurrence_kept ?_
        refine raise_kept ?_
        assumption
      · refine Kept.iteSnd ?_ ?_
        · refine Kept.mkSnd ?_
          assumption
        · refine Kept.mkSnd ?_
          refine updCis_kept ?_
          refine endGrant_kept ?_
          assumption

theorem unlockWrite_kept {s0 : State} {i : ℕ} {w : Word} {s : State} (hs : Kept s0 s) :
    Kept s0 (unlockWrite i w s).2 := by
  unfold unlockWrite
  extract_lets y1 y2 y3
  clear_value y1
  clear_value y2
  have hy3 : Kept s0 y3 := by
    unfold y3
    refine Kept.ite ?_ ?_
    · refine endGrant_kept ?_
      assumption
    · assumption
  clear_value y3
  refine Kept.iteSnd ?_ ?_
  · refine unlock_kept ?_
    assumption
  · refine Kept.mkSnd ?_
    assumption

theorem hostUnlock_kept {s0 : State} {m : Master} {w : Word} {s : State} (hs : Kept s0 s) :
    Kept s0 (hostUnlock m w s) := by
  unfold hostUnlock
  extract_lets y1
  have hy1 : Kept s0 y1.2 := by
    unfold y1
    refine unlockWrite_kept ?_
    assumption
  clear_value y1
  refine Kept.ite ?_ ?_
  · assumption
  · refine denied_kept ?_
    assumption

theorem execPasswordLock_kept {s0 : State} {m : Master} {w : Word} {s : State} (hs : Kept s0 s) :
    KeptOut s0 (execPasswordLock m w s) := by
  unfold execPasswordLock
  refine cmdWrite_kept ?_ ?_
  · intro q1 q2
    refine hostUnlock_kept ?_
    assumption
  · assumption

theorem touchGrant_kept {s0 : State} {i : ℕ} {b : ℕ} {s : State} (hs : Kept s0 s) :
    Kept s0 (touchGrant i b s) := by
  unfold touchGrant
  refine updCis_kept ?_
  assumption

theorem restoreFaults_kept {s0 : State} {s : State} (hs : Kept s0 s) :
    Kept s0 (restoreFaults s) := by
  unfold restoreFaults
  extract_lets y1 y2 y3 y4 y5
  clear_value y1
  clear_value y2
  have hy3 : Kept s0 y3 := by
    unfold y3
    exact hs.upd rfl rfl rfl rfl rfl rfl rfl rfl rfl
  clear_value y3
  clear_value y4
  have hy5 : Kept s0 y5 := by
    unfold y5
    exact hs.upd rfl rfl rfl rfl rfl rfl rfl rfl rfl
  clear_value y5
  refine Kept.ite ?_ ?_
  · refine Kept.ite ?_ ?_
    · assumption
    · refine writeFaultRec_kept ?_
      assumption
  · refine Kept.foldl ?_ ?_
    · intro q1 q2 q3
      refine Kept.ite ?_ ?_
      · refine putBit_kept ?_
        refine put_kept ?_
        assumption
      · assumption
    · assumption

theorem cisReportWrite_kept {s0 : State} {w : Word} {s : State} (hs : Kept s0 s) :
    Kept s0 (cisReportWrite w s) := by
  unfold cisReportWrite
  refine Kept.ite ?_ ?_
  · assumption
  · refine occurrence_kept ?_
    refine raise_kept ?_
    refine addSat_kept ?_
    assumption

theorem reportTies_kept {s0 : State} {s : State} (hs : Kept s0 s) :
    Kept s0 (reportTies s) := by
  unfold reportTies
  refine Kept.foldl ?_ ?_
  · intro q1 q2 q3
    refine cisReportWrite_kept ?_
    assumption
  · assumption

theorem cisCtlWrite_kept {s0 : State} {m : Master} {w : Word} {s : State} (hs : Kept s0 s) :
    Kept s0 (cisCtlWrite m w s).2 := by
  unfold cisCtlWrite
  extract_lets y1
  clear_value y1
  refine Kept.iteSnd ?_ ?_
  · refine Kept.mkSnd ?_
    assumption
  · refine Kept.iteSnd ?_ ?_
    · refine Kept.mkSnd ?_
      refine denied_kept ?_
      assumption
    · refine Kept.mkSnd ?_
      refine storeBanks_kept ?_
      assumption

theorem recallBank_kept {s0 : State} {b : ℕ} {s : State} (hs : Kept s0 s) :
    Kept s0 (recallBank b s) := by
  unfold recallBank
  extract_lets y1 y2 y3 y4 y5 y6 y7
  clear_value y1
  have hy2 : Kept s0 y2 := by
    unfold y2
    refine setBank_kept ?_
    assumption
  clear_value y2
  clear_value y3
  clear_value y4
  have hy5 : Kept s0 y5 := by
    unfold y5
    refine put_kept ?_
    refine put_kept ?_
    assumption
  clear_value y5
  have hy6 : Kept s0 y6 := by
    unfold y6
    refine putBit_kept ?_
    refine putBit_kept ?_
    assumption
  clear_value y6
  have hy7 : Kept s0 y7 := by
    unfold y7
    refine raiseIf_kept ?_
    refine putBit_kept ?_
    assumption
  clear_value y7
  refine raiseIf_kept ?_
  refine putBit_kept ?_
  assumption

theorem recallTo_kept {s0 : State} {n : ℕ} {s : State} (hs : Kept s0 s) :
    Kept s0 (recallTo n s) := by
  unfold recallTo
  refine Kept.foldl ?_ ?_
  · intro q1 q2 q3
    refine Kept.ite ?_ ?_
    · assumption
    · refine recallBank_kept ?_
      assumption
  · assumption

theorem sramWrite_kept {s0 : State} {a : ℕ} {bs : List Byte} {s : State} (hs : Kept s0 s) :
    Kept s0 (sramWrite a bs s) := by
  unfold sramWrite
  extract_lets y1 y2 y3 y4
  clear_value y1
  clear_value y2
  have hy3 : Kept s0 y3 := by
    unfold y3
    refine recallTo_kept ?_
    assumption
  clear_value y3
  have hy4 : Kept s0 y4 := by
    unfold y4
    refine raiseIf_kept ?_
    assumption
  clear_value y4
  refine dirty_kept ?_
  refine Kept.ite ?_ ?_
  · assumption
  · refine updCis_kept ?_
    assumption

theorem eccCistern_kept {s0 : State} {ecc : ℕ} {s : State} (hs : Kept s0 s) :
    Kept s0 (eccCistern ecc s) := by
  unfold eccCistern
  refine Kept.ite ?_ ?_
  · assumption
  · refine occurrence_kept ?_
    refine Kept.ite ?_ ?_
    · refine raise_kept ?_
      refine addSat_kept ?_
      assumption
    · refine raise_kept ?_
      assumption

theorem execPasswordUnlock_kept {s0 : State} {m : Master} {w : Word} {s : State} (hs : Kept s0 s) :
    KeptOut s0 (execPasswordUnlock m w s) := by
  unfold execPasswordUnlock
  refine cmdWrite_kept ?_ ?_
  · intro q1 q2
    refine hostUnlock_kept ?_
    assumption
  · assumption

theorem execStoreCommand_kept {s0 : State} {m : Master} {w : Word} {s : State} (hs : Kept s0 s) :
    KeptOut s0 (execStoreCommand m w s) := by
  unfold execStoreCommand
  refine cmdWrite_kept ?_ ?_
  · intro q1 q2
    refine cisCtlWrite_kept ?_
    assumption
  · assumption

theorem recallError_kept {s0 : State} {e : ℕ × ℕ × ℕ} {s : State} (hs : Kept s0 s) :
    Kept s0 (recallError e s) := by
  unfold recallError
  extract_lets y1
  have hy1 : Kept s0 y1 := by
    unfold y1
    refine Kept.ite ?_ ?_
    · refine setBank_kept ?_
      assumption
    · assumption
  clear_value y1
  refine eccCistern_kept ?_
  assumption

theorem execRecall_kept {s0 : State} {ecc : List (ℕ × ℕ × ℕ)} {s : State} (hs : Kept s0 s) :
    KeptOut s0 (execRecall ecc s) := by
  unfold execRecall
  refine onlyIf_kept ?_ ?_
  · intro q1 q2
    extract_lets y1
    clear_value y1
    refine Kept.foldl ?_ ?_
    · intro q3 q4 q5
      refine recallError_kept ?_
      assumption
    · refine recallTo_kept ?_
      assumption
  · assumption

theorem execPeriodicStoreTick_kept {s0 : State} {s : State} (hs : Kept s0 s) :
    KeptOut s0 (execPeriodicStoreTick s) := by
  unfold execPeriodicStoreTick
  refine onlyIf_kept ?_ ?_
  · intro q1 q2
    extract_lets y1 y2 y3
    clear_value y1
    clear_value y2
    have hy3 : Kept s0 y3 := by
      unfold y3
      refine updCis_kept ?_
      assumption
    clear_value y3
    refine startStores_kept ?_
    refine put_kept ?_
    refine raiseIf_kept ?_
    assumption
  · assumption

theorem execTieReport_kept {s0 : State} {m : Master} {w : Word} {s : State} (hs : Kept s0 s) :
    KeptOut s0 (execTieReport m w s) := by
  unfold execTieReport
  refine cmdWrite_kept ?_ ?_
  · intro q1 q2
    refine cisReportWrite_kept ?_
    assumption
  · assumption

theorem execGrantLapse_kept {s0 : State} {s : State} (hs : Kept s0 s) :
    KeptOut s0 (execGrantLapse s) := by
  unfold execGrantLapse
  refine KeptOut.next ?_
  refine updCis_kept ?_
  assumption

end Sys2Proof.Machine
end

