-- ==== Sys2Proof/Laws/KeptClaims.lean ====
section
/-! SUPPORT. `Kept` for every operation of Machine/Claims.lean: what each of them leaves as it is (the canonical form of the state,
the queue, the identity OTP), cited in place of unfolding it. -/
namespace Sys2Proof.Machine

theorem freePad_kept {s0 : State} {n : ℕ} {s : State} (hs : Kept s0 s) :
    Kept s0 (freePad n s) := by
  unfold freePad
  refine wr_kept ?_
  assumption

theorem claimPad_kept {s0 : State} {c : PinClaim} {s : State} (hs : Kept s0 s) :
    Kept s0 (claimPad c s) := by
  unfold claimPad
  refine Kept.ite ?_ ?_
  · refine put_kept ?_
    refine put_kept ?_
    assumption
  · refine put_kept ?_
    refine put_kept ?_
    refine put_kept ?_
    assumption

theorem claimTimer_kept {s0 : State} {e : ℕ × ℕ} {s : State} (hs : Kept s0 s) :
    Kept s0 (claimTimer e s) := by
  unfold claimTimer
  refine put_kept ?_
  assumption

theorem applyClaims_kept {s0 : State} {pins : List PinClaim} {tims : List (ℕ × ℕ)} {s : State} (hs : Kept s0 s) :
    Kept s0 (applyClaims pins tims s) := by
  unfold applyClaims
  extract_lets y1 y2 y3 y4 y5
  have hy1 : Kept s0 y1 := by
    unfold y1
    refine Kept.foldl ?_ ?_
    · intro q1 q2 q3
      refine freePad_kept ?_
      assumption
    · assumption
  clear_value y1
  have hy2 : Kept s0 y2 := by
    unfold y2
    refine Kept.foldl ?_ ?_
    · intro q1 q2 q3
      refine claimPad_kept ?_
      assumption
    · assumption
  clear_value y2
  have hy3 : Kept s0 y3 := by
    unfold y3
    refine Kept.foldl ?_ ?_
    · intro q1 q2 q3
      refine put_kept ?_
      assumption
    · assumption
  clear_value y3
  have hy4 : Kept s0 y4 := by
    unfold y4
    refine Kept.foldl ?_ ?_
    · intro q1 q2 q3
      refine claimTimer_kept ?_
      assumption
    · assumption
  clear_value y4
  clear_value y5
  exact hy4.upd rfl rfl rfl rfl rfl rfl rfl rfl rfl

end Sys2Proof.Machine
end

