-- ==== Sys2Proof/Laws/KeptConverter.lean ====
section
/-! SUPPORT. `Kept` for every operation of Machine/Converter.lean: what each of them leaves as it is (the canonical form of the state,
the queue, the identity OTP), cited in place of unfolding it. -/
namespace Sys2Proof.Machine

theorem showFifo_kept {s0 : State} {s : State} (hs : Kept s0 s) :
    Kept s0 (showFifo s) := by
  unfold showFifo
  extract_lets y1
  have hy1 : Kept s0 y1 := by
    unfold y1
    refine put_kept ?_
    assumption
  clear_value y1
  split
  · refine wr_kept ?_
    assumption
  · refine put_kept ?_
    refine put_kept ?_
    refine put_kept ?_
    assumption

theorem popTap_kept {s0 : State} {s : State} (hs : Kept s0 s) :
    Kept s0 (popTap s) := by
  unfold popTap
  refine showFifo_kept ?_
  exact hs.upd rfl rfl rfl rfl rfl rfl rfl rfl rfl

theorem calibrationFails_kept {s0 : State} {r : Relief} {s : State} (hs : Kept s0 s) :
    Kept s0 (calibrationFails r s) := by
  unfold calibrationFails
  extract_lets y1 y2 y3
  clear_value y1
  have hy2 : Kept s0 y2 := by
    unfold y2
    refine put_kept ?_
    refine put_kept ?_
    exact hs.upd rfl rfl rfl rfl rfl rfl rfl rfl rfl
  clear_value y2
  have hy3 : Kept s0 y3 := by
    unfold y3
    refine Kept.ite ?_ ?_
    · assumption
    · refine put_kept ?_
      assumption
  clear_value y3
  refine occurrence_kept ?_
  refine raise_kept ?_
  refine raiseIf_kept ?_
  assumption

theorem storeCoefs_kept {s0 : State} {sl : ℕ} {c : ℤ × ℤ × ℤ} {s : State} (hs : Kept s0 s) :
    Kept s0 (storeCoefs sl c s) := by
  unfold storeCoefs
  extract_lets y1
  have hy1 : Kept s0 y1 := by
    unfold y1
    refine putS_kept ?_
    refine putS_kept ?_
    refine putS_kept ?_
    assumption
  clear_value y1
  refine writeKeep_kept ?_
  assumption

theorem markReady_kept {s0 : State} {sl : ℕ} {s : State} (hs : Kept s0 s) :
    Kept s0 (markReady sl s) := by
  unfold markReady
  extract_lets y1 y2 y3
  clear_value y1
  clear_value y2
  have hy3 : Kept s0 y3 := by
    unfold y3
    exact hs.upd rfl rfl rfl rfl rfl rfl rfl rfl rfl
  clear_value y3
  refine startWaiting_kept ?_
  refine assignSwaps_kept ?_
  refine showSpares_kept ?_
  refine put_kept ?_
  refine put_kept ?_
  assumption

theorem readyUnlessRetired_kept {s0 : State} {sl : ℕ} {s : State} (hs : Kept s0 s) :
    Kept s0 (readyUnlessRetired sl s) := by
  unfold readyUnlessRetired
  refine Kept.ite ?_ ?_
  · assumption
  · refine markReady_kept ?_
    assumption

theorem spliceFault_kept {s0 : State} {result : ℕ} {sl : ℕ} {s : State} (hs : Kept s0 s) :
    Kept s0 (spliceFault result sl s) := by
  unfold spliceFault
  refine occurrence_kept ?_
  refine raise_kept ?_
  refine put_kept ?_
  assumption

theorem blameNew_kept {s0 : State} {r : Relief} {s : State} (hs : Kept s0 s) :
    Kept s0 (blameNew r s) := by
  unfold blameNew
  extract_lets y1 y2 y3
  have hy1 : Kept s0 y1 := by
    unfold y1
    refine spliceFault_kept ?_
    refine showSpares_kept ?_
    refine put_kept ?_
    refine put_kept ?_
    assumption
  clear_value y1
  have hy2 : Kept s0 y2 := by
    unfold y2
    refine readyUnlessRetired_kept ?_
    assumption
  clear_value y2
  clear_value y3
  refine Kept.ite ?_ ?_
  · refine Kept.ite ?_ ?_
    · assumption
    · exact hy2.upd rfl rfl rfl rfl rfl rfl rfl rfl rfl
  · refine Kept.ite ?_ ?_
    · refine startWaiting_kept ?_
      exact hy2.upd rfl rfl rfl rfl rfl rfl rfl rfl rfl
    · assumption

theorem attributeFault_kept {s0 : State} {r : Relief} {drifted : Bool} {s : State} (hs : Kept s0 s) :
    Kept s0 (attributeFault r drifted s) := by
  unfold attributeFault
  refine Kept.ite ?_ ?_
  · refine readyUnlessRetired_kept ?_
    refine spliceFault_kept ?_
    assumption
  · refine Kept.ite ?_ ?_
    · refine blameNew_kept ?_
      assumption
    · refine markReady_kept ?_
      refine put_kept ?_
      assumption

theorem calibrated_kept {s0 : State} {r : Relief} {c : ℤ × ℤ × ℤ} {s : State} (hs : Kept s0 s) :
    Kept s0 (calibrated r c s) := by
  unfold calibrated
  extract_lets y1 y2 y3 y4 y5
  clear_value y1
  have hy2 : Kept s0 y2 := by
    unfold y2
    exact hs.upd rfl rfl rfl rfl rfl rfl rfl rfl rfl
  clear_value y2
  have hy3 : Kept s0 y3 := by
    unfold y3
    refine Kept.ite ?_ ?_
    · assumption
    · refine idleRotation_kept ?_
      assumption
  clear_value y3
  clear_value y4
  have hy5 : Kept s0 y5 := by
    unfold y5
    refine storeCoefs_kept ?_
    assumption
  clear_value y5
  refine Kept.ite ?_ ?_
  · refine calibrationFails_kept ?_
    assumption
  · refine Kept.ite ?_ ?_
    · refine markReady_kept ?_
      assumption
    · refine attributeFault_kept ?_
      assumption

theorem crackReading_kept {s0 : State} {v : ℕ} {s : State} (hs : Kept s0 s) :
    Kept s0 (crackReading v s) := by
  unfold crackReading
  refine Kept.ite ?_ ?_
  · assumption
  · extract_lets y1 y2 y3
    clear_value y2
    have hy3 : Kept s0 y3 := by
      unfold y3
      exact hs.upd rfl rfl rfl rfl rfl rfl rfl rfl rfl
    refine Kept.ite ?_ ?_
    · refine tripProducer_kept ?_
      assumption
    · refine Kept.ite ?_ ?_
      · refine releaseProducer_kept ?_
        assumption
      · assumption

theorem hotReading_kept {s0 : State} {s : State} (hs : Kept s0 s) :
    Kept s0 (hotReading s) := by
  unfold hotReading
  extract_lets y1 y2
  clear_value y1
  clear_value y2
  refine Kept.ite ?_ ?_
  · refine put_kept ?_
    assumption
  · refine Kept.ite ?_ ?_
    · refine put_kept ?_
      assumption
    · assumption

theorem execSarResult_kept {s0 : State} {n : ℕ} {v : ℤ} {s : State} (hs : Kept s0 s) :
    KeptOut s0 (execSarResult n v s) := by
  unfold execSarResult
  refine onlyIf_kept ?_ ?_
  · intro q1 q2
    extract_lets y1 y2
    clear_value y1
    have hy2 : Kept s0 y2 := by
      unfold y2
      refine putS_kept ?_
      refine put_kept ?_
      assumption
    clear_value y2
    refine Kept.ite ?_ ?_
    · refine crackReading_kept ?_
      assumption
    · refine Kept.ite ?_ ?_
      · refine hotReading_kept ?_
        assumption
      · refine Kept.ite ?_ ?_
        · refine put_kept ?_
          assumption
        · assumption
  · assumption

theorem cnvCtlWrite_kept {s0 : State} {w : Word} {s : State} (hs : Kept s0 s) :
    Kept s0 (cnvCtlWrite w s) := by
  unfold cnvCtlWrite
  extract_lets y1 y2 y3 y4 y5
  clear_value y1
  have hy2 : Kept s0 y2 := by
    unfold y2
    refine plainWrite_kept ?_
    assumption
  clear_value y2
  clear_value y3
  have hy4 : Kept s0 y4 := by
    unfold y4
    refine Kept.ite ?_ ?_
    · assumption
    · refine idleRotation_kept ?_
      assumption
  clear_value y4
  clear_value y5
  refine Kept.ite ?_ ?_
  · refine raise_kept ?_
    assumption
  · refine Kept.ite ?_ ?_
    · assumption
    · split
      · refine Kept.ite ?_ ?_
        · refine raise_kept ?_
          assumption
        · refine startRelief_kept ?_
          assumption
      · refine raise_kept ?_
        assumption

theorem tapCfgWrite_kept {s0 : State} {w : Word} {s : State} (hs : Kept s0 s) :
    Kept s0 (tapCfgWrite w s) := by
  unfold tapCfgWrite
  refine Kept.ite ?_ ?_
  · refine raise_kept ?_
    assumption
  · refine plainWrite_kept ?_
    assumption

theorem commit_kept {s0 : State} {s : State} (hs : Kept s0 s) :
    Kept s0 (commit s) := by
  unfold commit
  refine Kept.ite ?_ ?_
  · assumption
  · extract_lets y1 y2
    clear_value y1
    clear_value y2
    refine Kept.ite ?_ ?_
    · refine raise_kept ?_
      assumption
    · refine put_kept ?_
      refine legalChange_kept ?_
      exact hs.upd rfl rfl rfl rfl rfl rfl rfl rfl rfl

theorem calCtlWrite_kept {s0 : State} {w : Word} {s : State} (hs : Kept s0 s) :
    Kept s0 (calCtlWrite w s) := by
  unfold calCtlWrite
  extract_lets y1 y2 y3 y4
  clear_value y1
  have hy2 : Kept s0 y2 := by
    unfold y2
    refine plainWrite_kept ?_
    assumption
  clear_value y2
  clear_value y3
  have hy4 : Kept s0 y4 := by
    unfold y4
    refine Kept.ite ?_ ?_
    · exact hy2.upd rfl rfl rfl rfl rfl rfl rfl rfl rfl
    · assumption
  clear_value y4
  refine Kept.ite ?_ ?_
  · refine raise_kept ?_
    assumption
  · refine Kept.ite ?_ ?_
    · refine commit_kept ?_
      assumption
    · assumption

theorem execSliceCalibration_kept {s0 : State} {gain : ℤ} {delay : ℤ} {s : State} (hs : Kept s0 s) :
    KeptOut s0 (execSliceCalibration gain delay s) := by
  unfold execSliceCalibration
  split
  · refine KeptOut.next ?_
    assumption
  · refine onlyIf_kept ?_ ?_
    · intro q1 q2
      refine calibrated_kept ?_
      assumption
    · assumption

theorem ringWord_kept {s0 : State} {w : ℕ} {s : State} (hs : Kept s0 s) :
    Kept s0 (ringWord w s) := by
  unfold ringWord
  extract_lets y1 y2 y3
  clear_value y1
  clear_value y2
  have hy3 : Kept s0 y3 := by
    unfold y3
    refine wrBytes_kept ?_
    assumption
  clear_value y3
  refine Kept.ite ?_ ?_
  · assumption
  · refine Kept.ite ?_ ?_
    · refine put_kept ?_
      refine put_kept ?_
      assumption
    · refine put_kept ?_
      assumption

theorem tapSample_kept {s0 : State} {codes : List ℕ} {back : ℕ} {s : State} (hs : Kept s0 s) :
    Kept s0 (tapSample codes back s) := by
  unfold tapSample
  refine Kept.ite ?_ ?_
  · assumption
  · refine Kept.ite ?_ ?_
    · refine ringWord_kept ?_
      assumption
    · extract_lets y1 y2 y3 y4 y5 y6
      clear_value y1
      clear_value y2
      clear_value y3
      have hy4 : Kept s0 y4 := by
        unfold y4
        exact hs.upd rfl rfl rfl rfl rfl rfl rfl rfl rfl
      clear_value y4
      have hy5 : Kept s0 y5.2 := by
        unfold y5
        refine fresh_kept ?_
        assumption
      clear_value y5
      clear_value y6
      refine Kept.ite ?_ ?_
      · refine ringWord_kept ?_
        assumption
      · refine Kept.ite ?_ ?_
        · refine raise_kept ?_
          refine put_kept ?_
          refine addSat_kept ?_
          assumption
        · refine showFifo_kept ?_
          exact hy4.upd rfl rfl rfl rfl rfl rfl rfl rfl rfl

theorem execTapSample_kept {s0 : State} {codes : List ℕ} {back : ℕ} {s : State} (hs : Kept s0 s) :
    KeptOut s0 (execTapSample codes back s) := by
  unfold execTapSample
  refine done_kept ?_
  refine tapSample_kept ?_
  assumption

theorem execCalWindowStart_kept {s0 : State} {m : Master} {w : Word} {s : State} (hs : Kept s0 s) :
    KeptOut s0 (execCalWindowStart m w s) := by
  unfold execCalWindowStart
  refine cmdWrite_kept ?_ ?_
  · intro q1 q2
    refine calCtlWrite_kept ?_
    assumption
  · assumption

theorem execTapCfgWrite_kept {s0 : State} {m : Master} {w : Word} {s : State} (hs : Kept s0 s) :
    KeptOut s0 (execTapCfgWrite m w s) := by
  unfold execTapCfgWrite
  refine cmdWrite_kept ?_ ?_
  · intro q1 q2
    refine tapCfgWrite_kept ?_
    assumption
  · assumption

theorem execStandbyCalibration_kept {s0 : State} {s : State} (hs : Kept s0 s) :
    KeptOut s0 (execStandbyCalibration s) := by
  unfold execStandbyCalibration
  refine KeptOut.ite ?_ ?_
  · refine KeptOut.next ?_
    assumption
  · extract_lets y1
    clear_value y1
    split
    · refine KeptOut.next ?_
      refine toSource_kept ?_
      assumption
    · split
      · refine onlyIf_kept ?_ ?_
        · intro q1 q2
          refine toSource_kept ?_
          exact q2.upd rfl rfl rfl rfl rfl rfl rfl rfl rfl
        · assumption
      · refine KeptOut.next ?_
        assumption

theorem execTempDisagree_kept {s0 : State} {s : State} (hs : Kept s0 s) :
    KeptOut s0 (execTempDisagree s) := by
  unfold execTempDisagree
  refine onlyIf_kept ?_ ?_
  · intro q1 q2
    refine occurrence_kept ?_
    refine raise_kept ?_
    refine put_kept ?_
    assumption
  · assumption

theorem execReliefTime_kept {s0 : State} {s : State} (hs : Kept s0 s) :
    KeptOut s0 (execReliefTime s) := by
  unfold execReliefTime
  refine onlyIf_kept ?_ ?_
  · intro q1 q2
    extract_lets y1 y2
    clear_value y1
    clear_value y2
    refine rotate_kept ?_
    exact q2.upd rfl rfl rfl rfl rfl rfl rfl rfl rfl
  · assumption

theorem execRelieveNow_kept {s0 : State} {m : Master} {w : Word} {s : State} (hs : Kept s0 s) :
    KeptOut s0 (execRelieveNow m w s) := by
  unfold execRelieveNow
  refine cmdWrite_kept ?_ ?_
  · intro q1 q2
    refine cnvCtlWrite_kept ?_
    assumption
  · assumption

theorem execSpliceWindowClose_kept {s0 : State} {s : State} (hs : Kept s0 s) :
    KeptOut s0 (execSpliceWindowClose s) := by
  unfold execSpliceWindowClose
  split
  · refine KeptOut.next ?_
    assumption
  · refine KeptOut.ite ?_ ?_
    · refine KeptOut.next ?_
      assumption
    · extract_lets y1 y2 y3 y4 y5
      clear_value y1
      clear_value y2
      have hy3 : Kept s0 y3 := by
        unfold y3
        exact hs.upd rfl rfl rfl rfl rfl rfl rfl rfl rfl
      clear_value y3
      have hy4 : Kept s0 y4 := by
        unfold y4
        refine put_kept ?_
        refine put_kept ?_
        refine put_kept ?_
        assumption
      clear_value y4
      have hy5 : Kept s0 y5 := by
        unfold y5
        refine put_kept ?_
        refine put_kept ?_
        assumption
      clear_value y5
      refine KeptOut.next ?_
      refine put_kept ?_
      refine put_kept ?_
      refine put_kept ?_
      assumption

theorem execSliceOffsetDone_kept {s0 : State} {offset : ℤ} {s : State} (hs : Kept s0 s) :
    KeptOut s0 (execSliceOffsetDone offset s) := by
  unfold execSliceOffsetDone
  refine onlyIf_kept ?_ ?_
  · intro q1 q2
    exact q2.upd rfl rfl rfl rfl rfl rfl rfl rfl rfl
  · assumption

theorem execOverloadMonitor_kept {s0 : State} {slice : ℕ} {s : State} (hs : Kept s0 s) :
    KeptOut s0 (execOverloadMonitor slice s) := by
  unfold execOverloadMonitor
  refine onlyIf_kept ?_ ?_
  · intro q1 q2
    extract_lets y1 y2 y3
    clear_value y1
    have hy2 : Kept s0 y2 := by
      unfold y2
      refine occurrence_kept ?_
      assumption
    clear_value y2
    clear_value y3
    refine Kept.ite ?_ ?_
    · refine raiseIf_kept ?_
      exact hy2.upd rfl rfl rfl rfl rfl rfl rfl rfl rfl
    · assumption
  · assumption

theorem execTempEvaluation_kept {s0 : State} {s : State} (hs : Kept s0 s) :
    KeptOut s0 (execTempEvaluation s) := by
  unfold execTempEvaluation
  refine onlyIf_kept ?_ ?_
  · intro q1 q2
    extract_lets y1 y2 y3 y4 y5 y6 y7 y8 y9 y10
    clear_value y1
    clear_value y2
    clear_value y3
    clear_value y4
    have hy5 : Kept s0 y5 := by
      unfold y5
      exact q2.upd rfl rfl rfl rfl rfl rfl rfl rfl rfl
    clear_value y5
    have hy6 : Kept s0 y6 := by
      unfold y6
      refine Kept.ite ?_ ?_
      · assumption
      · refine put_kept ?_
        assumption
    clear_value y6
    clear_value y7
    have hy8 : Kept s0 y8 := by
      unfold y8
      refine putS_kept ?_
      assumption
    clear_value y8
    clear_value y9
    clear_value y10
    refine put_kept ?_
    refine put_kept ?_
    assumption
  · assumption

theorem execCalCommit_kept {s0 : State} {m : Master} {w : Word} {s : State} (hs : Kept s0 s) :
    KeptOut s0 (execCalCommit m w s) := by
  unfold execCalCommit
  refine cmdWrite_kept ?_ ?_
  · intro q1 q2
    refine calCtlWrite_kept ?_
    assumption
  · assumption

theorem execCalWindowEnd_kept {s0 : State} {edges : ℕ} {s : State} (hs : Kept s0 s) :
    KeptOut s0 (execCalWindowEnd edges s) := by
  unfold execCalWindowEnd
  refine onlyIf_kept ?_ ?_
  · intro q1 q2
    refine raise_kept ?_
    refine put_kept ?_
    refine put_kept ?_
    refine put_kept ?_
    refine put_kept ?_
    assumption
  · assumption

end Sys2Proof.Machine
end

