-- ==== Sys2Proof/Laws/KeptMetrology.lean ====
section
/-! SUPPORT. `Kept` for every operation of Machine/Metrology.lean: what each of them leaves as it is (the canonical form of the state,
the queue, the identity OTP), cited in place of unfolding it. -/
namespace Sys2Proof.Machine

theorem phasePart_kept {s0 : State} {n : ℕ} {p : ℕ} {c : PhaseCycle} {s : State} (hs : Kept s0 s) :
    Kept s0 (phasePart n p c s).2 := by
  unfold phasePart
  extract_lets y1 y2 y3 y4 y5 y6 y7
  clear_value y1
  clear_value y2
  clear_value y3
  have hy4 : Kept s0 y4 := by
    unfold y4
    refine putBit_kept ?_
    refine putBit_kept ?_
    assumption
  clear_value y4
  have hy5 : Kept s0 y5 := by
    unfold y5
    refine raiseIf_kept ?_
    refine raiseIf_kept ?_
    assumption
  clear_value y5
  clear_value y6
  have hy7 : Kept s0 y7 := by
    unfold y7
    refine Kept.ite ?_ ?_
    · exact hy5.upd rfl rfl rfl rfl rfl rfl rfl rfl rfl
    · assumption
  clear_value y7
  refine Kept.mkSnd ?_
  assumption

theorem setTracker_kept {s0 : State} {st : ℕ} {s : State} (hs : Kept s0 s) :
    Kept s0 (setTracker st s) := by
  unfold setTracker
  extract_lets y1 y2 y3 y4
  clear_value y1
  have hy2 : Kept s0 y2 := by
    unfold y2
    refine put_kept ?_
    refine put_kept ?_
    assumption
  clear_value y2
  have hy3 : Kept s0 y3 := by
    unfold y3
    refine raiseIf_kept ?_
    refine raiseIf_kept ?_
    refine raiseIf_kept ?_
    refine raiseIf_kept ?_
    refine raiseIf_kept ?_
    assumption
  clear_value y3
  clear_value y4
  refine Kept.ite ?_ ?_
  · assumption
  · exact hy3.upd rfl rfl rfl rfl rfl rfl rfl rfl rfl

theorem windowOver_kept {s0 : State} {n : ℕ} {s : State} (hs : Kept s0 s) :
    Kept s0 (windowOver n s) := by
  unfold windowOver
  split
  · assumption
  · refine Kept.ite ?_ ?_
    · assumption
    · refine Kept.ite ?_ ?_
      · refine put_kept ?_
        exact hs.upd rfl rfl rfl rfl rfl rfl rfl rfl rfl
      · refine raise_kept ?_
        refine abandonRelief_kept ?_
        assumption

theorem markOver_kept {s0 : State} {n : ℕ} {s : State} (hs : Kept s0 s) :
    Kept s0 (markOver n s) := by
  unfold markOver
  extract_lets y1 y2 y3
  have hy1 : Kept s0 y1 := by
    unfold y1
    refine raise_kept ?_
    refine put_kept ?_
    assumption
  clear_value y1
  clear_value y2
  clear_value y3
  refine windowOver_kept ?_
  exact hy1.upd rfl rfl rfl rfl rfl rfl rfl rfl rfl

theorem accAdd_kept {s0 : State} {k : ℕ} {e : ℕ} {s : State} (hs : Kept s0 s) :
    Kept s0 (accAdd k e s) := by
  unfold accAdd
  extract_lets y1 y2
  clear_value y1
  clear_value y2
  refine raiseIf_kept ?_
  exact hs.upd rfl rfl rfl rfl rfl rfl rfl rfl rfl

theorem pulseFeed_kept {s0 : State} {incs : List (ℕ × ℕ)} {t0 : ℕ} {tc : ℕ} {k : ℕ} {s : State} (hs : Kept s0 s) :
    Kept s0 (pulseFeed incs t0 tc k s) := by
  unfold pulseFeed
  extract_lets y1 y2 y3 y4 y5
  clear_value y1
  clear_value y2
  clear_value y3
  clear_value y4
  clear_value y5
  refine Kept.ite ?_ ?_
  · assumption
  · exact hs.upd rfl rfl rfl rfl rfl rfl rfl rfl rfl

theorem registerCycle_kept {s0 : State} {n : ℕ} {cs : List (ℕ × PhaseCycle)} {s : State} (hs : Kept s0 s) :
    Kept s0 (registerCycle n cs s) := by
  unfold registerCycle
  extract_lets y1 y2 y3 y4 y5
  have hy1 : Kept s0 y1.2 := by
    unfold y1
    refine Kept.foldlSnd ?_ ?_
    · intro q1 q2 q3
      extract_lets y6
      have hy6 : Kept s0 y6.2 := by
        unfold y6
        refine phasePart_kept ?_
        assumption
      clear_value y6
      refine Kept.mkSnd ?_
      assumption
    · refine Kept.mkSnd ?_
      assumption
  clear_value y1
  have hy2 : Kept s0 y2 := by
    unfold y2
    assumption
  clear_value y2
  clear_value y3
  have hy4 : Kept s0 y4 := by
    unfold y4
    refine Kept.foldl ?_ ?_
    · intro q1 q2 q3
      refine accAdd_kept ?_
      assumption
    · assumption
  clear_value y4
  clear_value y5
  refine Kept.foldl ?_ ?_
  · intro q1 q2 q3
    refine pulseFeed_kept ?_
    assumption
  · assumption

theorem reverseCount_kept {s0 : State} {p : ℕ} {c : PhaseCycle} {s : State} (hs : Kept s0 s) :
    Kept s0 (reverseCount p c s) := by
  unfold reverseCount
  extract_lets y1 y2 y3 y4 y5
  clear_value y1
  have hy3 : Kept s0 y3 := by
    unfold y3
    exact hs.upd rfl rfl rfl rfl rfl rfl rfl rfl rfl
  clear_value y4
  have hy5 : Kept s0 y5 := by
    unfold y5
    exact hy3.upd rfl rfl rfl rfl rfl rfl rfl rfl rfl
  refine Kept.ite ?_ ?_
  · refine Kept.ite ?_ ?_
    · refine releaseProducer_kept ?_
      assumption
    · assumption
  · assumption

theorem setGrid_kept {s0 : State} {f : ℕ} {s : State} (hs : Kept s0 s) :
    Kept s0 (setGrid f s) := by
  unfold setGrid
  refine put_kept ?_
  refine put_kept ?_
  exact hs.upd rfl rfl rfl rfl rfl rfl rfl rfl rfl

theorem trackerFlags_kept {s0 : State} {s : State} (hs : Kept s0 s) :
    Kept s0 (trackerFlags s) := by
  unfold trackerFlags
  extract_lets y1 y2 y3 y4 y5
  clear_value y1
  clear_value y2
  clear_value y3
  clear_value y4
  clear_value y5
  exact hs.upd rfl rfl rfl rfl rfl rfl rfl rfl rfl

theorem trackerUpdate_kept {s0 : State} {s : State} (hs : Kept s0 s) :
    Kept s0 (trackerUpdate s) := by
  unfold trackerUpdate
  extract_lets y1 y2 y3 y4 y5 y6 y7 y8 y9 y10 y11 y12 y13 y14 y15 y16 y17 y18 y19 y20 y21 y22
  clear_value y1
  clear_value y2
  clear_value y3
  clear_value y4
  clear_value y5
  clear_value y6
  clear_value y7
  clear_value y8
  clear_value y9
  clear_value y10
  clear_value y11
  have hy12 : Kept s0 y12 := by
    unfold y12
    exact hs.upd rfl rfl rfl rfl rfl rfl rfl rfl rfl
  clear_value y12
  clear_value y13
  clear_value y14
  clear_value y15
  clear_value y16
  clear_value y17
  have hy18 : Kept s0 y18 := by
    unfold y18
    exact hy12.upd rfl rfl rfl rfl rfl rfl rfl rfl rfl
  clear_value y18
  have hy19 : Kept s0 y19 := by
    unfold y19
    refine Kept.ite ?_ ?_
    · refine setTracker_kept ?_
      assumption
    · refine Kept.ite ?_ ?_
      · refine setTracker_kept ?_
        assumption
      · refine Kept.ite ?_ ?_
        · refine setTracker_kept ?_
          assumption
        · refine Kept.ite ?_ ?_
          · refine setTracker_kept ?_
            assumption
          · assumption
  clear_value y19
  have hy20 : Kept s0 y20 := by
    unfold y20
    refine Kept.ite ?_ ?_
    · exact hy12.upd rfl rfl rfl rfl rfl rfl rfl rfl rfl
    · refine Kept.ite ?_ ?_
      · refine setTracker_kept ?_
        exact hy12.upd rfl rfl rfl rfl rfl rfl rfl rfl rfl
      · refine Kept.ite ?_ ?_
        · assumption
        · refine setGrid_kept ?_
          assumption
  clear_value y20
  clear_value y21
  have hy22 : Kept s0 y22 := by
    unfold y22
    exact hy20.upd rfl rfl rfl rfl rfl rfl rfl rfl rfl
  clear_value y22
  refine trackerFlags_kept ?_
  refine put_kept ?_
  assumption

theorem winStep_kept {s0 : State} {m : ℕ} {x : ℤ} {s : State} (hs : Kept s0 s) :
    Kept s0 (winStep m x s) := by
  unfold winStep
  refine Kept.ite ?_ ?_
  · assumption
  · refine Kept.ite ?_ ?_
    · exact hs.upd rfl rfl rfl rfl rfl rfl rfl rfl rfl
    · exact hs.upd rfl rfl rfl rfl rfl rfl rfl rfl rfl

theorem winSamples_kept {s0 : State} {xs : List ℤ} {s : State} (hs : Kept s0 s) :
    Kept s0 (winSamples xs s) := by
  unfold winSamples
  refine Kept.foldl ?_ ?_
  · intro q1 q2 q3
    extract_lets y1
    clear_value y1
    refine Kept.ite ?_ ?_
    · refine winStep_kept ?_
      assumption
    · refine Kept.ite ?_ ?_
      · refine winStep_kept ?_
        assumption
      · assumption
  · assumption

theorem winHalfCycles_kept {s0 : State} {s : State} (hs : Kept s0 s) :
    Kept s0 (winHalfCycles s) := by
  unfold winHalfCycles
  refine Kept.foldl ?_ ?_
  · intro q1 q2 q3
    refine Kept.ite ?_ ?_
    · refine winStep_kept ?_
      assumption
    · assumption
  · assumption

theorem refreshHalfCycle_kept {s0 : State} {s : State} (hs : Kept s0 s) :
    Kept s0 (refreshHalfCycle s) := by
  unfold refreshHalfCycle
  extract_lets y1 y2 y3
  clear_value y1
  clear_value y2
  clear_value y3
  refine Kept.ite ?_ ?_
  · exact hs.upd rfl rfl rfl rfl rfl rfl rfl rfl rfl
  · exact hs.upd rfl rfl rfl rfl rfl rfl rfl rfl rfl

end Sys2Proof.Machine
end

