-- ==== Sys2Proof/Laws/KeptChain.lean ====
section
/-! SUPPORT. `Kept` for every operation of Machine/Chain.lean: what each of them leaves as it is (the canonical form of the state,
the queue, the identity OTP), cited in place of unfolding it. -/
namespace Sys2Proof.Machine

theorem pathsTake_kept {s0 : State} {codes : List (List ℕ)} {s : State} (hs : Kept s0 s) :
    Kept s0 (pathsTake codes s) := by
  unfold pathsTake
  extract_lets y1 y2
  clear_value y2
  exact hs.upd rfl rfl rfl rfl rfl rfl rfl rfl rfl

theorem inputPeriod_kept {s0 : State} {codes : List (List ℕ)} {s : State} (hs : Kept s0 s) :
    Kept s0 (inputPeriod codes s) := by
  unfold inputPeriod
  extract_lets y1 y2 y3 y4 y5 y6 y7
  have hy1 : Kept s0 y1 := by
    unfold y1
    refine pathsTake_kept ?_
    assumption
  clear_value y1
  clear_value y2
  clear_value y3
  clear_value y4
  clear_value y5
  have hy6 : Kept s0 y6 := by
    unfold y6
    exact hy1.upd rfl rfl rfl rfl rfl rfl rfl rfl rfl
  clear_value y6
  clear_value y7
  split
  · assumption
  · extract_lets y8 y9 y10
    clear_value y8
    clear_value y9
    clear_value y10
    exact hy6.upd rfl rfl rfl rfl rfl rfl rfl rfl rfl

theorem takeInputs_kept {s0 : State} {codes : List (List ℕ)} {s : State} (hs : Kept s0 s) :
    Kept s0 (takeInputs codes s) := by
  unfold takeInputs
  extract_lets y1 y2 y3
  clear_value y1
  have hy2 : Kept s0 y2 := by
    unfold y2
    refine Kept.foldl ?_ ?_
    · intro q1 q2 q3
      refine inputPeriod_kept ?_
      assumption
    · assumption
  clear_value y2
  clear_value y3
  exact hy2.upd rfl rfl rfl rfl rfl rfl rfl rfl rfl

end Sys2Proof.Machine
end

