-- ==== Sys2Proof/Laws/KeptSample.lean ====
section
/-! SUPPORT. `Kept` for every operation of Machine/Sample.lean: what each of them leaves as it is (the canonical form of the state,
the queue, the identity OTP), cited in place of unfolding it. -/
namespace Sys2Proof.Machine

theorem dropProfile_kept {s0 : State} {s : State} (hs : Kept s0 s) :
    Kept s0 (dropProfile s) := by
  unfold dropProfile
  refine put_kept ?_
  refine put_kept ?_
  exact hs.upd rfl rfl rfl rfl rfl rfl rfl rfl rfl

theorem releaseWin_kept {s0 : State} {m : ℕ} {s : State} (hs : Kept s0 s) :
    Kept s0 (releaseWin m s) := by
  unfold releaseWin
  refine put_kept ?_
  exact hs.upd rfl rfl rfl rfl rfl rfl rfl rfl rfl

theorem releaseDeadWins_kept {s0 : State} {s : State} (hs : Kept s0 s) :
    Kept s0 (releaseDeadWins s) := by
  unfold releaseDeadWins
  refine Kept.foldl ?_ ?_
  · intro q1 q2 q3
    refine Kept.ite ?_ ?_
    · refine releaseWin_kept ?_
      assumption
    · assumption
  · assumption

theorem windowCycle_kept {s0 : State} {s : State} (hs : Kept s0 s) :
    Kept s0 (windowCycle s) := by
  unfold windowCycle
  split
  · assumption
  · refine Kept.ite ?_ ?_
    · assumption
    · extract_lets y1 y2 y3 y4 y5 y6
      clear_value y1
      clear_value y2
      clear_value y3
      clear_value y4
      clear_value y5
      clear_value y6
      exact hs.upd rfl rfl rfl rfl rfl rfl rfl rfl rfl

theorem presetRogowski_kept {s0 : State} {s : State} (hs : Kept s0 s) :
    Kept s0 (presetRogowski s) := by
  unfold presetRogowski
  refine Kept.ite ?_ ?_
  · assumption
  · extract_lets y1 y2 y3
    clear_value y1
    clear_value y3
    exact hs.upd rfl rfl rfl rfl rfl rfl rfl rfl rfl

theorem measureCycle_kept {s0 : State} {s : State} (hs : Kept s0 s) :
    Kept s0 (measureCycle s) := by
  unfold measureCycle
  refine Kept.ite ?_ ?_
  · assumption
  · extract_lets y1 y2 y3 y4 y5 y6 y7 y8 y9 y10 y11
    clear_value y1
    clear_value y2
    clear_value y3
    clear_value y4
    clear_value y5
    clear_value y6
    clear_value y7
    have hy8 : Kept s0 y8 := by
      unfold y8
      refine registerCycle_kept ?_
      assumption
    clear_value y8
    have hy9 : Kept s0 y9 := by
      unfold y9
      refine Kept.foldl ?_ ?_
      · intro q1 q2 q3
        refine reverseCount_kept ?_
        assumption
      · assumption
    clear_value y9
    clear_value y10
    clear_value y11
    exact hy9.upd rfl rfl rfl rfl rfl rfl rfl rfl rfl

theorem endCycle_kept {s0 : State} {s : State} (hs : Kept s0 s) :
    Kept s0 (endCycle s) := by
  unfold endCycle
  extract_lets y1 y2 y3 y4 y5
  have hy1 : Kept s0 y1 := by
    unfold y1
    refine windowCycle_kept ?_
    refine presetRogowski_kept ?_
    refine measureCycle_kept ?_
    assumption
  clear_value y1
  clear_value y2
  have hy3 : Kept s0 y3 := by
    unfold y3
    exact hy1.upd rfl rfl rfl rfl rfl rfl rfl rfl rfl
  clear_value y3
  have hy4 : Kept s0 y4 := by
    unfold y4
    refine trackerUpdate_kept ?_
    assumption
  clear_value y4
  clear_value y5
  exact hy4.upd rfl rfl rfl rfl rfl rfl rfl rfl rfl

theorem execCycleEnd_kept {s0 : State} {s : State} (hs : Kept s0 s) :
    KeptOut s0 (execCycleEnd s) := by
  unfold execCycleEnd
  refine onlyIf_kept ?_ ?_
  · intro q1 q2
    refine endCycle_kept ?_
    assumption
  · assumption

theorem updPulse_kept {s0 : State} {k : ℕ} {f : PulseSt → PulseSt} {s : State} (hs : Kept s0 s) :
    Kept s0 (updPulse k f s) := by
  unfold updPulse
  exact hs.upd rfl rfl rfl rfl rfl rfl rfl rfl rfl

theorem fltCtlWrite_kept {s0 : State} {w : Word} {s : State} (hs : Kept s0 s) :
    Kept s0 (fltCtlWrite w s) := by
  unfold fltCtlWrite
  refine Kept.ite ?_ ?_
  · assumption
  · refine Kept.ite ?_ ?_
    · refine raise_kept ?_
      assumption
    · refine Kept.ite ?_ ?_
      · refine Kept.ite ?_ ?_
        · assumption
        · extract_lets y1 y2
          have hy1 : Kept s0 y1 := by
            unfold y1
            refine Kept.ite ?_ ?_
            · refine dropProfile_kept ?_
              assumption
            · assumption
          clear_value y1
          clear_value y2
          refine put_kept ?_
          exact hy1.upd rfl rfl rfl rfl rfl rfl rfl rfl rfl
      · refine Kept.ite ?_ ?_
        · assumption
        · extract_lets y1 y2 y3 y4
          have hy1 : Kept s0 y1 := by
            unfold y1
            refine put_kept ?_
            refine put_kept ?_
            assumption
          clear_value y1
          clear_value y2
          clear_value y3
          have hy4 : Kept s0 y4 := by
            unfold y4
            exact hy1.upd rfl rfl rfl rfl rfl rfl rfl rfl rfl
          clear_value y4
          refine setGrid_kept ?_
          refine put_kept ?_
          refine setTracker_kept ?_
          refine put_kept ?_
          assumption

theorem writeWin_kept {s0 : State} {a : ℕ} {w : Word} {s : State} (hs : Kept s0 s) :
    Kept s0 (writeWin a w s) := by
  unfold writeWin
  split
  · assumption
  · refine Kept.ite ?_ ?_
    · refine raise_kept ?_
      assumption
    · refine refreshLines_kept ?_
      refine releaseWin_kept ?_
      refine plainWrite_kept ?_
      assumption

theorem execChainStop_kept {s0 : State} {m : Master} {w : Word} {s : State} (hs : Kept s0 s) :
    KeptOut s0 (execChainStop m w s) := by
  unfold execChainStop
  refine cmdWrite_kept ?_ ?_
  · intro q1 q2
    refine fltCtlWrite_kept ?_
    assumption
  · assumption

theorem execWinRelease_kept {s0 : State} {comp : ℕ} {s : State} (hs : Kept s0 s) :
    KeptOut s0 (execWinRelease comp s) := by
  unfold execWinRelease
  refine onlyIf_kept ?_ ?_
  · intro q1 q2
    refine refreshLines_kept ?_
    refine releaseWin_kept ?_
    assumption
  · assumption

theorem moveRef_kept {s0 : State} {c : ℕ} {s : State} (hs : Kept s0 s) :
    Kept s0 (moveRef c s) := by
  unfold moveRef
  extract_lets y1 y2
  have hy1 : Kept s0 y1 := by
    unfold y1
    refine put_kept ?_
    refine setTracker_kept ?_
    refine put_kept ?_
    assumption
  clear_value y1
  clear_value y2
  refine raise_kept ?_
  exact hy1.upd rfl rfl rfl rfl rfl rfl rfl rfl rfl

theorem leaveHold_kept {s0 : State} {s : State} (hs : Kept s0 s) :
    Kept s0 (leaveHold s) := by
  unfold leaveHold
  extract_lets y1
  have hy1 : Kept s0 y1 := by
    unfold y1
    refine put_kept ?_
    refine setTracker_kept ?_
    assumption
  clear_value y1
  refine Kept.ite ?_ ?_
  · assumption
  · split
    · refine Kept.ite ?_ ?_
      · assumption
      · refine moveRef_kept ?_
        assumption
    · refine put_kept ?_
      refine setTracker_kept ?_
      assumption

theorem windowSums_kept {s0 : State} {xa : ℤ} {xb : ℤ} {s : State} (hs : Kept s0 s) :
    Kept s0 (windowSums xa xb s) := by
  unfold windowSums
  split
  · assumption
  · refine Kept.ite ?_ ?_
    · assumption
    · extract_lets y1 y2 y3 y4 y5 y6
      clear_value y1
      clear_value y2
      clear_value y3
      clear_value y4
      clear_value y5
      clear_value y6
      exact hs.upd rfl rfl rfl rfl rfl rfl rfl rfl rfl

theorem takeSample_kept {s0 : State} {codes : List (List ℕ)} {s : State} (hs : Kept s0 s) :
    Kept s0 (takeSample codes s) := by
  unfold takeSample
  extract_lets y1 y2 y3 y4 y5 y6 y7 y8 y9
  have hy1 : Kept s0 y1 := by
    unfold y1
    refine takeInputs_kept ?_
    assumption
  clear_value y1
  clear_value y2
  clear_value y3
  clear_value y4
  clear_value y5
  clear_value y6
  have hy7 : Kept s0 y7 := by
    unfold y7
    exact hy1.upd rfl rfl rfl rfl rfl rfl rfl rfl rfl
  clear_value y7
  have hy8 : Kept s0 y8 := by
    unfold y8
    split
    · assumption
    · extract_lets y10
      have hy10 : Kept s0 y10 := by
        unfold y10
        refine windowSums_kept ?_
        assumption
      clear_value y10
      refine Kept.ite ?_ ?_
      · refine windowOver_kept ?_
        assumption
      · assumption
  clear_value y8
  have hy9 : Kept s0 y9 := by
    unfold y9
    refine Kept.foldl ?_ ?_
    · intro q1 q2 q3
      refine markOver_kept ?_
      assumption
    · assumption
  clear_value y9
  refine captureSample_kept ?_
  refine winSamples_kept ?_
  assumption

theorem emitEdge_kept {s0 : State} {k : ℕ} {t : ℕ} {s : State} (hs : Kept s0 s) :
    Kept s0 (emitEdge k t s) := by
  unfold emitEdge
  extract_lets y1
  clear_value y1
  refine put_kept ?_
  refine updPulse_kept ?_
  assumption

theorem holdEdge_kept {s0 : State} {k : ℕ} {s : State} (hs : Kept s0 s) :
    Kept s0 (holdEdge k s) := by
  unfold holdEdge
  refine Kept.ite ?_ ?_
  · refine raise_kept ?_
    refine addSat_kept ?_
    assumption
  · refine raise_kept ?_
    refine addSat_kept ?_
    assumption

theorem pulseEdge_kept {s0 : State} {k : ℕ} {s : State} (hs : Kept s0 s) :
    Kept s0 (pulseEdge k s) := by
  unfold pulseEdge
  extract_lets y1 y2 y3
  clear_value y1
  clear_value y2
  clear_value y3
  split
  · refine Kept.ite ?_ ?_
    · refine emitEdge_kept ?_
      refine put_kept ?_
      assumption
    · assumption
  · refine Kept.ite ?_ ?_
    · refine emitEdge_kept ?_
      refine put_kept ?_
      assumption
    · extract_lets y4
      have hy4 : Kept s0 y4 := by
        unfold y4
        refine updPulse_kept ?_
        assumption
      clear_value y4
      refine Kept.ite ?_ ?_
      · refine emitEdge_kept ?_
        assumption
      · refine holdEdge_kept ?_
        assumption

theorem execPulseEdge_kept {s0 : State} {k : ℕ} {s : State} (hs : Kept s0 s) :
    KeptOut s0 (execPulseEdge k s) := by
  unfold execPulseEdge
  refine onlyIf_kept ?_ ?_
  · intro q1 q2
    refine pulseEdge_kept ?_
    assumption
  · assumption

theorem tripWin_kept {s0 : State} {m : ℕ} {frac : ℕ} {s : State} (hs : Kept s0 s) :
    Kept s0 (tripWin m frac s) := by
  unfold tripWin
  extract_lets y1 y2 y3 y4 y5 y6 y7 y8
  clear_value y1
  have hy2 : Kept s0 y2 := by
    unfold y2
    refine releaseWin_kept ?_
    assumption
  clear_value y2
  have hy3 : Kept s0 y3 := by
    unfold y3
    refine put_kept ?_
    refine putBit_kept ?_
    assumption
  clear_value y3
  have hy4 : Kept s0 y4 := by
    unfold y4
    refine put_kept ?_
    refine put_kept ?_
    refine put_kept ?_
    assumption
  clear_value y4
  clear_value y5
  have hy6 : Kept s0 y6 := by
    unfold y6
    exact hy4.upd rfl rfl rfl rfl rfl rfl rfl rfl rfl
  clear_value y6
  clear_value y7
  have hy8 : Kept s0 y8 := by
    unfold y8
    refine Kept.ite ?_ ?_
    · exact hy6.upd rfl rfl rfl rfl rfl rfl rfl rfl rfl
    · assumption
  clear_value y8
  refine refreshLines_kept ?_
  refine raise_kept ?_
  assumption

theorem execWinTrip_kept {s0 : State} {comp : ℕ} {frac : ℕ} {s : State} (hs : Kept s0 s) :
    KeptOut s0 (execWinTrip comp frac s) := by
  unfold execWinTrip
  refine onlyIf_kept ?_ ?_
  · intro q1 q2
    refine tripWin_kept ?_
    assumption
  · assumption

theorem execPulseEnd_kept {s0 : State} {k : ℕ} {s : State} (hs : Kept s0 s) :
    KeptOut s0 (execPulseEnd k s) := by
  unfold execPulseEnd
  refine onlyIf_kept ?_ ?_
  · intro q1 q2
    refine updPulse_kept ?_
    assumption
  · assumption

theorem execCoherentSample_kept {s0 : State} {codes : List (List ℕ)} {s : State} (hs : Kept s0 s) :
    KeptOut s0 (execCoherentSample codes s) := by
  unfold execCoherentSample
  refine onlyIf_kept ?_ ?_
  · intro q1 q2
    refine takeSample_kept ?_
    assumption
  · assumption

theorem execChainRestart_kept {s0 : State} {m : Master} {w : Word} {s : State} (hs : Kept s0 s) :
    KeptOut s0 (execChainRestart m w s) := by
  unfold execChainRestart
  refine cmdWrite_kept ?_ ?_
  · intro q1 q2
    refine fltCtlWrite_kept ?_
    assumption
  · assumption

theorem execRefSwitch_kept {s0 : State} {s : State} (hs : Kept s0 s) :
    KeptOut s0 (execRefSwitch s) := by
  unfold execRefSwitch
  refine onlyIf_kept ?_ ?_
  · intro q1 q2
    extract_lets y1 y2
    have hy1 : Kept s0 y1 := by
      unfold y1
      refine leaveHold_kept ?_
      assumption
    clear_value y1
    clear_value y2
    refine trackerFlags_kept ?_
    exact hy1.upd rfl rfl rfl rfl rfl rfl rfl rfl rfl
  · assumption

theorem execRefReturn_kept {s0 : State} {s : State} (hs : Kept s0 s) :
    KeptOut s0 (execRefReturn s) := by
  unfold execRefReturn
  refine onlyIf_kept ?_ ?_
  · intro q1 q2
    exact q2.upd rfl rfl rfl rfl rfl rfl rfl rfl rfl
  · assumption

theorem execWinCfgWrite_kept {s0 : State} {m : Master} {addr : ℕ} {w : Word} {s : State} (hs : Kept s0 s) :
    KeptOut s0 (execWinCfgWrite m addr w s) := by
  unfold execWinCfgWrite
  refine KeptOut.ite ?_ ?_
  · refine cmdWrite_kept ?_ ?_
    · intro q1 q2
      refine writeWin_kept ?_
      assumption
    · assumption
  · refine KeptOut.next ?_
    assumption

theorem execImbalance_kept {s0 : State} {s : State} (hs : Kept s0 s) :
    KeptOut s0 (execImbalance s) := by
  unfold execImbalance
  refine onlyIf_kept ?_ ?_
  · intro q1 q2
    refine tripProducer_kept ?_
    refine raise_kept ?_
    refine put_kept ?_
    assumption
  · assumption

theorem execReverseEnergy_kept {s0 : State} {phase : ℕ} {s : State} (hs : Kept s0 s) :
    KeptOut s0 (execReverseEnergy phase s) := by
  unfold execReverseEnergy
  refine onlyIf_kept ?_ ?_
  · intro q1 q2
    refine tripProducer_kept ?_
    refine raise_kept ?_
    exact q2.upd rfl rfl rfl rfl rfl rfl rfl rfl rfl
  · assumption

end Sys2Proof.Machine
end

