-- ==== Sys2Proof/Laws/KeptSpectrum.lean ====
section
/-! SUPPORT. `Kept` for every operation of Machine/Spectrum.lean: what each of them leaves as it is (the canonical form of the state,
the queue, the identity OTP), cited in place of unfolding it. -/
namespace Sys2Proof.Machine

theorem showPq_kept {s0 : State} {s : State} (hs : Kept s0 s) :
    Kept s0 (showPq s) := by
  unfold showPq
  extract_lets y1 y2 y3 y4 y5 y6
  have hy1 : Kept s0 y1 := by
    unfold y1
    refine put_kept ?_
    refine put_kept ?_
    refine put_kept ?_
    assumption
  clear_value y1
  clear_value y2
  clear_value y3
  clear_value y4
  clear_value y5
  clear_value y6
  refine refreshLines_kept ?_
  exact hy1.upd rfl rfl rfl rfl rfl rfl rfl rfl rfl

theorem showEvents_kept {s0 : State} {s : State} (hs : Kept s0 s) :
    Kept s0 (showEvents s) := by
  unfold showEvents
  extract_lets y1
  clear_value y1
  refine Kept.foldl ?_ ?_
  · intro q1 q2 q3
    refine put_kept ?_
    assumption
  · refine put_kept ?_
    assumption

theorem pqPush_kept {s0 : State} {r : PqRec} {s : State} (hs : Kept s0 s) :
    Kept s0 (pqPush r s) := by
  unfold pqPush
  refine Kept.ite ?_ ?_
  · refine showEvents_kept ?_
    exact hs.upd rfl rfl rfl rfl rfl rfl rfl rfl rfl
  · refine raise_kept ?_
    refine addSat_kept ?_
    assumption

theorem pqEnd_kept {s0 : State} {kind : ℕ} {cause : Fld} {e : Option PqEvent} {s : State} (hs : Kept s0 s) :
    Kept s0 (pqEnd kind cause e s) := by
  unfold pqEnd
  split
  · assumption
  · refine raise_kept ?_
    refine pqPush_kept ?_
    assumption

theorem pqEvaluate_kept {s0 : State} {s : State} (hs : Kept s0 s) :
    Kept s0 (pqEvaluate s) := by
  unfold pqEvaluate
  refine Kept.ite ?_ ?_
  · assumption
  · extract_lets y1 y2 y3 y4 y5 y6 y7 y8 y9 y10 y11 y12 y13 y14
    clear_value y1
    clear_value y2
    clear_value y3
    clear_value y4
    clear_value y5
    clear_value y6
    clear_value y7
    clear_value y8
    clear_value y9
    clear_value y10
    clear_value y11
    clear_value y12
    have hy13 : Kept s0 y13 := by
      unfold y13
      refine put_kept ?_
      refine put_kept ?_
      exact hs.upd rfl rfl rfl rfl rfl rfl rfl rfl rfl
    clear_value y13
    have hy14 : Kept s0 y14 := by
      unfold y14
      refine raiseIf_kept ?_
      refine raiseIf_kept ?_
      refine raiseIf_kept ?_
      assumption
    clear_value y14
    refine showPq_kept ?_
    refine pqEnd_kept ?_
    refine pqEnd_kept ?_
    refine pqEnd_kept ?_
    assumption

theorem capCtlWrite_kept {s0 : State} {w : Word} {s : State} (hs : Kept s0 s) :
    Kept s0 (capCtlWrite w s) := by
  unfold capCtlWrite
  extract_lets y1 y2 y3 y4
  have hy1 : Kept s0 y1 := by
    unfold y1
    refine Kept.ite ?_ ?_
    · refine Kept.ite ?_ ?_
      · refine raise_kept ?_
        assumption
      · refine Kept.ite ?_ ?_
        · refine nextSlot_kept ?_
          assumption
        · assumption
    · assumption
  clear_value y1
  have hy2 : Kept s0 y2 := by
    unfold y2
    refine Kept.ite ?_ ?_
    · refine captureTrigger_kept ?_ ?_
      · intro q1 q2
        refine soundForCapture_kept ?_
        assumption
      · assumption
    · assumption
  clear_value y2
  clear_value y3
  have hy4 : Kept s0 y4 := by
    unfold y4
    refine Kept.ite ?_ ?_
    · refine writeHeader_kept ?_
      exact hy2.upd rfl rfl rfl rfl rfl rfl rfl rfl rfl
    · assumption
  clear_value y4
  refine Kept.ite ?_ ?_
  · refine put_kept ?_
    assumption
  · assumption

theorem execCaptureArm_kept {s0 : State} {m : Master} {w : Word} {s : State} (hs : Kept s0 s) :
    KeptOut s0 (execCaptureArm m w s) := by
  unfold execCaptureArm
  refine cmdWrite_kept ?_ ?_
  · intro q1 q2
    refine capCtlWrite_kept ?_
    assumption
  · assumption

theorem pqEpoch_kept {s0 : State} {s : State} (hs : Kept s0 s) :
    Kept s0 (pqEpoch s) := by
  unfold pqEpoch
  extract_lets y1 y2
  clear_value y1
  have hy2 : Kept s0 y2 := by
    unfold y2
    exact hs.upd rfl rfl rfl rfl rfl rfl rfl rfl rfl
  clear_value y2
  refine showPq_kept ?_
  refine pqEnd_kept ?_
  refine pqEnd_kept ?_
  refine pqEnd_kept ?_
  assumption

theorem pqAppend_kept {s0 : State} {r : PqRec} {s : State} (hs : Kept s0 s) :
    Kept s0 (pqAppend r s) := by
  unfold pqAppend
  extract_lets y1 y2 y3
  clear_value y1
  clear_value y2
  clear_value y3
  refine dirty_kept ?_
  refine counterAdd_kept ?_
  exact hs.upd rfl rfl rfl rfl rfl rfl rfl rfl rfl

theorem popEvents_kept {s0 : State} {s : State} (hs : Kept s0 s) :
    Kept s0 (popEvents s) := by
  unfold popEvents
  refine showEvents_kept ?_
  refine Kept.foldl ?_ ?_
  · intro q1 q2 q3
    refine pqAppend_kept ?_
    assumption
  · exact hs.upd rfl rfl rfl rfl rfl rfl rfl rfl rfl

theorem pqFreeze_kept {s0 : State} {s : State} (hs : Kept s0 s) :
    Kept s0 (pqFreeze s) := by
  unfold pqFreeze
  refine Kept.ite ?_ ?_
  · assumption
  · extract_lets y1 y2 y3 y4
    have hy1 : ∀ v0 v1 v2, Kept s0 v2 → Kept s0 (y1 v0 v1 v2) := by
      intro v0 v1 v2 hv
      unfold y1
      split
      · assumption
      · extract_lets y5
        clear_value y5
        refine pqAppend_kept ?_
        assumption
    clear_value y1
    clear_value y2
    have hy3 : Kept s0 y3 := by
      unfold y3
      refine popEvents_kept ?_
      exact hs.upd rfl rfl rfl rfl rfl rfl rfl rfl rfl
    clear_value y3
    have hy4 : Kept s0 y4 := by
      unfold y4
      refine raiseIf_kept ?_
      refine raiseIf_kept ?_
      refine raiseIf_kept ?_
      assumption
    clear_value y4
    refine showPq_kept ?_
    refine hy1 _ _ _ ?_
    refine hy1 _ _ _ ?_
    refine hy1 _ _ _ ?_
    assumption

theorem evtCtlWrite_kept {s0 : State} {w : Word} {s : State} (hs : Kept s0 s) :
    Kept s0 (evtCtlWrite w s) := by
  unfold evtCtlWrite
  refine Kept.ite ?_ ?_
  · assumption
  · split
    · assumption
    · refine showEvents_kept ?_
      refine pqAppend_kept ?_
      exact hs.upd rfl rfl rfl rfl rfl rfl rfl rfl rfl

theorem capFullWrite_kept {s0 : State} {w : Word} {s : State} (hs : Kept s0 s) :
    Kept s0 (capFullWrite w s) := by
  unfold capFullWrite
  extract_lets y1 y2 y3
  have hy1 : Kept s0 y1 := by
    unfold y1
    refine plainWrite_kept ?_
    assumption
  clear_value y1
  clear_value y2
  have hy3 : Kept s0 y3 := by
    unfold y3
    exact hy1.upd rfl rfl rfl rfl rfl rfl rfl rfl rfl
  clear_value y3
  refine Kept.ite ?_ ?_
  · split
    · refine enterPre_kept ?_
      assumption
    · assumption
  · assumption

theorem capCfgWrite_kept {s0 : State} {w : Word} {s : State} (hs : Kept s0 s) :
    Kept s0 (capCfgWrite w s) := by
  unfold capCfgWrite
  refine Kept.ite ?_ ?_
  · refine raise_kept ?_
    assumption
  · refine plainWrite_kept ?_
    assumption

theorem showResults_kept {s0 : State} {s : State} (hs : Kept s0 s) :
    Kept s0 (showResults s) := by
  unfold showResults
  extract_lets y1
  have hy1 : Kept s0 y1 := by
    unfold y1
    refine Kept.foldl ?_ ?_
    · intro q1 q2 q3
      refine put_kept ?_
      assumption
    · assumption
  clear_value y1
  refine put_kept ?_
  assumption

theorem execCaptureSlotFree_kept {s0 : State} {m : Master} {w : Word} {s : State} (hs : Kept s0 s) :
    KeptOut s0 (execCaptureSlotFree m w s) := by
  unfold execCaptureSlotFree
  refine cmdWrite_kept ?_ ?_
  · intro q1 q2
    refine capFullWrite_kept ?_
    assumption
  · assumption

theorem execCaptureAbort_kept {s0 : State} {m : Master} {w : Word} {s : State} (hs : Kept s0 s) :
    KeptOut s0 (execCaptureAbort m w s) := by
  unfold execCaptureAbort
  refine KeptOut.next ?_
  refine regWrite_kept ?_ ?_
  · intro q1 q2
    refine capCtlWrite_kept ?_
    assumption
  · assumption

theorem spoilFrames_kept {s0 : State} {s : State} (hs : Kept s0 s) :
    Kept s0 (spoilFrames s) := by
  unfold spoilFrames
  exact hs.upd rfl rfl rfl rfl rfl rfl rfl rfl rfl

theorem closeBlock_kept {s0 : State} {s : State} (hs : Kept s0 s) :
    Kept s0 (closeBlock s) := by
  unfold closeBlock
  extract_lets y1 y2 y3
  clear_value y1
  clear_value y2
  clear_value y3
  refine Kept.ite ?_ ?_
  · assumption
  · refine raise_kept ?_
    exact hs.upd rfl rfl rfl rfl rfl rfl rfl rfl rfl

theorem execAggregateClose_kept {s0 : State} {s : State} (hs : Kept s0 s) :
    KeptOut s0 (execAggregateClose s) := by
  unfold execAggregateClose
  refine onlyIf_kept ?_ ?_
  · intro q1 q2
    refine showResults_kept ?_
    refine closeBlock_kept ?_
    assumption
  · assumption

theorem execEvtPop_kept {s0 : State} {m : Master} {w : Word} {s : State} (hs : Kept s0 s) :
    KeptOut s0 (execEvtPop m w s) := by
  unfold execEvtPop
  refine cmdWrite_kept ?_ ?_
  · intro q1 q2
    refine evtCtlWrite_kept ?_
    assumption
  · assumption

theorem adcWrite_kept {s0 : State} {ws : List ℕ} {s : State} (hs : Kept s0 s) :
    Kept s0 (adcWrite ws s) := by
  unfold adcWrite
  extract_lets y1 y2 y3
  clear_value y1
  have hy2 : Kept s0 y2 := by
    unfold y2
    refine Kept.foldl ?_ ?_
    · intro q1 q2 q3
      extract_lets y4 y5
      have hy4 : Kept s0 y4 := by
        unfold y4
        refine wrBytes_kept ?_
        assumption
      clear_value y4
      clear_value y5
      exact hy4.upd rfl rfl rfl rfl rfl rfl rfl rfl rfl
    · assumption
  clear_value y2
  clear_value y3
  exact hy2.upd rfl rfl rfl rfl rfl rfl rfl rfl rfl

theorem publish_kept {s0 : State} {f : FrameSet} {rest : List FrameSet} {s : State} (hs : Kept s0 s) :
    Kept s0 (publish f rest s) := by
  unfold publish
  extract_lets y1 y2 y3 y4 y5 y6 y7 y8 y9 y10
  have hy1 : Kept s0 y1 := by
    unfold y1
    refine Kept.ite ?_ ?_
    · refine closeBlock_kept ?_
      assumption
    · assumption
  clear_value y1
  clear_value y2
  clear_value y3
  clear_value y4
  clear_value y5
  clear_value y6
  have hy7 : Kept s0 y7 := by
    unfold y7
    exact hy1.upd rfl rfl rfl rfl rfl rfl rfl rfl rfl
  clear_value y7
  have hy8 : Kept s0 y8 := by
    unfold y8
    refine Kept.foldl ?_ ?_
    · intro q1 q2 q3
      refine put_kept ?_
      assumption
    · assumption
  clear_value y8
  have hy9 : Kept s0 y9 := by
    unfold y9
    refine put_kept ?_
    refine put_kept ?_
    assumption
  clear_value y9
  have hy10 : Kept s0 y10 := by
    unfold y10
    refine put_kept ?_
    refine put_kept ?_
    assumption
  clear_value y10
  refine showResults_kept ?_
  refine put_kept ?_
  assumption

theorem execSpectrumPublish_kept {s0 : State} {s : State} (hs : Kept s0 s) :
    KeptOut s0 (execSpectrumPublish s) := by
  unfold execSpectrumPublish
  split
  · refine KeptOut.next ?_
    assumption
  · refine onlyIf_kept ?_ ?_
    · intro q1 q2
      refine publish_kept ?_
      assumption
    · assumption

theorem shBlock_kept {s0 : State} {start : ℕ} {s : State} (hs : Kept s0 s) :
    Kept s0 (shBlock start s) := by
  unfold shBlock
  extract_lets y1 y2 y3 y4 y5 y6 y7
  have hy1 : ∀ v0, Kept s0 v0 → Kept s0 (y1 v0) := by
    intro v0 hv
    unfold y1
    exact hv.upd rfl rfl rfl rfl rfl rfl rfl rfl rfl
  clear_value y1
  clear_value y2
  have hy3 : Kept s0 y3 := by
    unfold y3
    exact hs.upd rfl rfl rfl rfl rfl rfl rfl rfl rfl
  clear_value y3
  clear_value y4
  clear_value y5
  clear_value y6
  clear_value y7
  refine Kept.ite ?_ ?_
  · exact hs.upd rfl rfl rfl rfl rfl rfl rfl rfl rfl
  · refine Kept.ite ?_ ?_
    · refine raise_kept ?_
      refine addSat_kept ?_
      refine hy1 _ ?_
      assumption
    · refine Kept.ite ?_ ?_
      · refine hy1 _ ?_
        assumption
      · exact hy3.upd rfl rfl rfl rfl rfl rfl rfl rfl rfl

theorem execShBlock_kept {s0 : State} {ws : List ℕ} {s : State} (hs : Kept s0 s) :
    KeptOut s0 (execShBlock ws s) := by
  unfold execShBlock
  refine onlyIf_kept ?_ ?_
  · intro q1 q2
    extract_lets y1 y2
    clear_value y1
    have hy2 : Kept s0 y2 := by
      unfold y2
      refine adcWrite_kept ?_
      assumption
    clear_value y2
    refine Kept.ite ?_ ?_
    · assumption
    · refine shBlock_kept ?_
      refine put_kept ?_
      assumption
  · assumption

theorem execCaptureForce_kept {s0 : State} {m : Master} {w : Word} {s : State} (hs : Kept s0 s) :
    KeptOut s0 (execCaptureForce m w s) := by
  unfold execCaptureForce
  refine cmdWrite_kept ?_ ?_
  · intro q1 q2
    refine capCtlWrite_kept ?_
    assumption
  · assumption

theorem execCaptureDone_kept {s0 : State} {s : State} (hs : Kept s0 s) :
    KeptOut s0 (execCaptureDone s) := by
  unfold execCaptureDone
  refine onlyIf_kept ?_ ?_
  · intro q1 q2
    refine captureDone_kept ?_
    assumption
  · assumption

theorem execCapCfgWrite_kept {s0 : State} {m : Master} {w : Word} {s : State} (hs : Kept s0 s) :
    KeptOut s0 (execCapCfgWrite m w s) := by
  unfold execCapCfgWrite
  refine cmdWrite_kept ?_ ?_
  · intro q1 q2
    refine capCfgWrite_kept ?_
    assumption
  · assumption

end Sys2Proof.Machine
end

