-- ==== Sys2Proof/Laws/KeptFrame.lean ====
section
/-! SUPPORT. `Kept` for every operation of Machine/Frame.lean: what each of them leaves as it is (the canonical form of the state,
the queue, the identity OTP), cited in place of unfolding it. -/
namespace Sys2Proof.Machine

theorem takeChannel_kept {s0 : State} {ch : ℕ} {sb : ℕ} {s : State} (hs : Kept s0 s) :
    Kept s0 (takeChannel ch sb s) := by
  unfold takeChannel
  extract_lets y1 y2 y3 y4 y5 y6 y7
  have hy1 : Kept s0 y1 := by
    unfold y1
    refine setMap_kept ?_
    refine put_kept ?_
    refine put_kept ?_
    refine put_kept ?_
    refine put_kept ?_
    assumption
  clear_value y1
  clear_value y2
  have hy3 : Kept s0 y3 := by
    unfold y3
    exact hy1.upd rfl rfl rfl rfl rfl rfl rfl rfl rfl
  clear_value y3
  clear_value y4
  have hy5 : Kept s0 y5 := by
    unfold y5
    refine Kept.ite ?_ ?_
    · exact hy3.upd rfl rfl rfl rfl rfl rfl rfl rfl rfl
    · assumption
  clear_value y5
  have hy6 : Kept s0 y6 := by
    unfold y6
    refine Kept.ite ?_ ?_
    · refine put_kept ?_
      assumption
    · assumption
  clear_value y6
  clear_value y7
  refine captureMark_kept ?_
  exact hy6.upd rfl rfl rfl rfl rfl rfl rfl rfl rfl

theorem freeSource_kept {s0 : State} {s : State} (hs : Kept s0 s) :
    Kept s0 (freeSource s) := by
  unfold freeSource
  split
  · assumption
  · refine put_kept ?_
    refine put_kept ?_
    exact hs.upd rfl rfl rfl rfl rfl rfl rfl rfl rfl

theorem reliefBoundary_kept {s0 : State} {s : State} (hs : Kept s0 s) :
    Kept s0 (reliefBoundary s) := by
  unfold reliefBoundary
  split
  · assumption
  · extract_lets y1 y2 y3 y4 y5 y6 y7
    clear_value y1
    clear_value y2
    clear_value y3
    have hy4 : Kept s0 y4 := by
      unfold y4
      refine takeChannel_kept ?_
      refine freeSource_kept ?_
      assumption
    clear_value y4
    have hy5 : Kept s0 y5 := by
      unfold y5
      refine put_kept ?_
      refine put_kept ?_
      assumption
    clear_value y5
    clear_value y6
    have hy7 : Kept s0 y7 := by
      unfold y7
      refine showSpares_kept ?_
      exact hy5.upd rfl rfl rfl rfl rfl rfl rfl rfl rfl
    clear_value y7
    refine Kept.ite ?_ ?_
    · refine Kept.ite ?_ ?_
      · refine put_kept ?_
        exact hs.upd rfl rfl rfl rfl rfl rfl rfl rfl rfl
      · assumption
    · refine Kept.ite ?_ ?_
      · refine raise_kept ?_
        refine put_kept ?_
        assumption
      · assumption

theorem stopChain_kept {s0 : State} {s : State} (hs : Kept s0 s) :
    Kept s0 (stopChain s) := by
  unfold stopChain
  extract_lets y1 y2 y3 y4 y5 y6 y7
  clear_value y1
  clear_value y2
  have hy3 : Kept s0 y3 := by
    unfold y3
    refine dropRelief_kept ?_
    exact hs.upd rfl rfl rfl rfl rfl rfl rfl rfl rfl
  clear_value y3
  have hy4 : Kept s0 y4 := by
    unfold y4
    refine put_kept ?_
    refine put_kept ?_
    refine setTracker_kept ?_
    assumption
  clear_value y4
  have hy5 : Kept s0 y5 := by
    unfold y5
    refine Kept.ite ?_ ?_
    · refine dropProfile_kept ?_
      assumption
    · assumption
  clear_value y5
  have hy6 : Kept s0 y6 := by
    unfold y6
    refine raise_kept ?_
    refine releaseDeadWins_kept ?_
    assumption
  clear_value y6
  have hy7 : Kept s0 y7 := by
    unfold y7
    refine legalChange_kept ?_
    assumption
  clear_value y7
  refine refreshLines_kept ?_
  assumption

theorem imbalanceCheck_kept {s0 : State} {s : State} (hs : Kept s0 s) :
    Kept s0 (imbalanceCheck s) := by
  unfold imbalanceCheck
  extract_lets y1 y2 y3
  clear_value y1
  clear_value y2
  have hy3 : Kept s0 y3 := by
    unfold y3
    exact hs.upd rfl rfl rfl rfl rfl rfl rfl rfl rfl
  clear_value y3
  refine Kept.ite ?_ ?_
  · refine releaseProducer_kept ?_
    refine put_kept ?_
    assumption
  · assumption

theorem pushRec_kept {s0 : State} {r : HandoffRec} {s : State} (hs : Kept s0 s) :
    Kept s0 (pushRec r s) := by
  unfold pushRec
  refine Kept.ite ?_ ?_
  · exact hs.upd rfl rfl rfl rfl rfl rfl rfl rfl rfl
  · split
    · refine raise_kept ?_
      exact hs.upd rfl rfl rfl rfl rfl rfl rfl rfl rfl
    · exact hs.upd rfl rfl rfl rfl rfl rfl rfl rfl rfl

theorem publishAcc_kept {s0 : State} {s : State} (hs : Kept s0 s) :
    Kept s0 (publishAcc s) := by
  unfold publishAcc
  extract_lets y1 y2
  clear_value y1
  have hy2 : Kept s0 y2 := by
    unfold y2
    exact hs.upd rfl rfl rfl rfl rfl rfl rfl rfl rfl
  clear_value y2
  refine Kept.foldl ?_ ?_
  · intro q1 q2 q3
    refine put_kept ?_
    assumption
  · refine put_kept ?_
    assumption

theorem publishRes_kept {s0 : State} {s : State} (hs : Kept s0 s) :
    Kept s0 (publishRes s) := by
  unfold publishRes
  extract_lets y1
  clear_value y1
  refine Kept.foldl ?_ ?_
  · intro q1 q2 q3
    refine put_kept ?_
    assumption
  · assumption

theorem writeAccImage_kept {s0 : State} {kind : ℕ} {smp : ℕ} {s : State} (hs : Kept s0 s) :
    Kept s0 (writeAccImage kind smp s) := by
  unfold writeAccImage
  refine dirty_kept ?_
  exact hs.upd rfl rfl rfl rfl rfl rfl rfl rfl rfl

theorem handToE7_kept {s0 : State} {fl : ℕ} {s : State} (hs : Kept s0 s) :
    Kept s0 (handToE7 fl s) := by
  unfold handToE7
  extract_lets y1 y2 y3 y4 y5 y6
  clear_value y1
  have hy2 : Kept s0 y2 := by
    unfold y2
    refine Kept.ite ?_ ?_
    · refine captureMark_kept ?_
      assumption
    · assumption
  clear_value y2
  clear_value y3
  have hy4 : Kept s0 y4 := by
    unfold y4
    refine Kept.ite ?_ ?_
    · exact hy2.upd rfl rfl rfl rfl rfl rfl rfl rfl rfl
    · assumption
  clear_value y4
  clear_value y5
  clear_value y6
  exact hy4.upd rfl rfl rfl rfl rfl rfl rfl rfl rfl

theorem dcCheck_kept {s0 : State} {s : State} (hs : Kept s0 s) :
    Kept s0 (dcCheck s) := by
  unfold dcCheck
  extract_lets y1 y2
  clear_value y1
  refine Kept.ite ?_ ?_
  · refine tripProducer_kept ?_
    refine raise_kept ?_
    assumption
  · refine Kept.ite ?_ ?_
    · refine releaseProducer_kept ?_
      assumption
    · assumption

theorem completeFrame_kept {s0 : State} {s : State} (hs : Kept s0 s) :
    Kept s0 (completeFrame s) := by
  unfold completeFrame
  extract_lets y1 y2 y3 y4 y5 y6 y7 y8 y9 y10 y11 y12
  clear_value y1
  have hy2 : Kept s0 y2 := by
    unfold y2
    refine imbalanceCheck_kept ?_
    assumption
  clear_value y2
  clear_value y3
  clear_value y4
  clear_value y5
  clear_value y6
  clear_value y7
  have hy8 : Kept s0 y8 := by
    unfold y8
    refine pushRec_kept ?_
    assumption
  clear_value y8
  have hy9 : Kept s0 y9 := by
    unfold y9
    refine publishAcc_kept ?_
    refine publishRes_kept ?_
    assumption
  clear_value y9
  have hy10 : Kept s0 y10 := by
    unfold y10
    refine put_kept ?_
    refine put_kept ?_
    assumption
  clear_value y10
  clear_value y11
  have hy12 : Kept s0 y12 := by
    unfold y12
    refine Kept.ite ?_ ?_
    · refine writeAccImage_kept ?_
      exact hy10.upd rfl rfl rfl rfl rfl rfl rfl rfl rfl
    · assumption
  clear_value y12
  refine handToE7_kept ?_
  refine dcCheck_kept ?_
  assumption

theorem d3Off_kept {s0 : State} {s : State} (hs : Kept s0 s) :
    Kept s0 (d3Off s) := by
  unfold d3Off
  refine powerDown_kept ?_
  extract_lets y1 y2
  have hy1 : Kept s0 y1 := by
    unfold y1
    refine loseCapture_kept ?_
    assumption
  clear_value y1
  clear_value y2
  exact hy1.upd rfl rfl rfl rfl rfl rfl rfl rfl rfl

theorem d3On_kept {s0 : State} {s : State} (hs : Kept s0 s) :
    Kept s0 (d3On s) := by
  unfold d3On
  refine Kept.ite ?_ ?_
  · assumption
  · refine wrMany_kept ?_
    refine powerUp_kept ?_
    assumption

theorem stageProfile_kept {s0 : State} {p : ℕ} {s : State} (hs : Kept s0 s) :
    Kept s0 (stageProfile p s) := by
  unfold stageProfile
  refine Kept.ite ?_ ?_
  · refine raise_kept ?_
    assumption
  · extract_lets y1 y2 y3 y4 y5
    have hy1 : Kept s0 y1 := by
      unfold y1
      refine put_kept ?_
      refine put_kept ?_
      refine put_kept ?_
      assumption
    clear_value y1
    clear_value y2
    have hy3 : Kept s0 y3 := by
      unfold y3
      exact hy1.upd rfl rfl rfl rfl rfl rfl rfl rfl rfl
    clear_value y3
    have hy4 : Kept s0 y4 := by
      unfold y4
      refine d3On_kept ?_
      assumption
    clear_value y4
    clear_value y5
    refine Kept.ite ?_ ?_
    · exact hy4.upd rfl rfl rfl rfl rfl rfl rfl rfl rfl
    · assumption

theorem profileCtlWrite_kept {s0 : State} {w : Word} {s : State} (hs : Kept s0 s) :
    Kept s0 (profileCtlWrite w s) := by
  unfold profileCtlWrite
  refine Kept.ite ?_ ?_
  · refine raise_kept ?_
    assumption
  · extract_lets y1
    have hy1 : Kept s0 y1 := by
      unfold y1
      refine plainWrite_kept ?_
      assumption
    clear_value y1
    refine Kept.ite ?_ ?_
    · refine stageProfile_kept ?_
      assumption
    · assumption

theorem openFrame_kept {s0 : State} {s : State} (hs : Kept s0 s) :
    Kept s0 (openFrame s) := by
  unfold openFrame
  extract_lets y1 y2 y3 y4 y5
  clear_value y1
  clear_value y2
  clear_value y3
  clear_value y4
  clear_value y5
  refine trackerFlags_kept ?_
  exact hs.upd rfl rfl rfl rfl rfl rfl rfl rfl rfl

theorem applyProfile_kept {s0 : State} {s : State} (hs : Kept s0 s) :
    Kept s0 (applyProfile s) := by
  unfold applyProfile
  extract_lets y1 y2 y3 y4 y5 y6 y7 y8 y9 y10 y11
  clear_value y1
  have hy2 : Kept s0 y2 := by
    unfold y2
    refine Kept.ite ?_ ?_
    · refine captureEpoch_kept ?_
      refine pqEpoch_kept ?_
      assumption
    · assumption
  clear_value y2
  have hy3 : Kept s0 y3 := by
    unfold y3
    refine put_kept ?_
    refine dropProfile_kept ?_
    assumption
  clear_value y3
  have hy4 : Kept s0 y4 := by
    unfold y4
    refine put_kept ?_
    assumption
  clear_value y4
  clear_value y5
  have hy6 : Kept s0 y6 := by
    unfold y6
    exact hy4.upd rfl rfl rfl rfl rfl rfl rfl rfl rfl
  clear_value y6
  clear_value y7
  clear_value y8
  have hy9 : Kept s0 y9 := by
    unfold y9
    exact hy6.upd rfl rfl rfl rfl rfl rfl rfl rfl rfl
  clear_value y9
  have hy10 : Kept s0 y10 := by
    unfold y10
    refine raise_kept ?_
    refine setGrid_kept ?_
    assumption
  clear_value y10
  have hy11 : Kept s0 y11 := by
    unfold y11
    refine Kept.ite ?_ ?_
    · refine d3Off_kept ?_
      refine popEvents_kept ?_
      assumption
    · refine Kept.ite ?_ ?_
      · refine put_kept ?_
        assumption
      · assumption
  clear_value y11
  refine Kept.ite ?_ ?_
  · assumption
  · refine idleRotation_kept ?_
    assumption

theorem rollback_kept {s0 : State} {s : State} (hs : Kept s0 s) :
    Kept s0 (rollback s) := by
  unfold rollback
  extract_lets y1 y2
  have hy1 : Kept s0 y1 := by
    unfold y1
    refine put_kept ?_
    assumption
  clear_value y1
  have hy2 : Kept s0 y2 := by
    unfold y2
    refine dropProfile_kept ?_
    refine raise_kept ?_
    assumption
  clear_value y2
  refine Kept.ite ?_ ?_
  · refine d3Off_kept ?_
    assumption
  · assumption

theorem profileBoundary_kept {s0 : State} {s : State} (hs : Kept s0 s) :
    Kept s0 (profileBoundary s) := by
  unfold profileBoundary
  refine Kept.ite ?_ ?_
  · assumption
  · refine Kept.ite ?_ ?_
    · refine raise_kept ?_
      refine dropProfile_kept ?_
      assumption
    · extract_lets y1 y2 y3 y4
      clear_value y1
      clear_value y2
      have hy3 : Kept s0 y3 := by
        unfold y3
        exact hs.upd rfl rfl rfl rfl rfl rfl rfl rfl rfl
      clear_value y3
      have hy4 : Kept s0 y4 := by
        unfold y4
        refine put_kept ?_
        assumption
      clear_value y4
      refine Kept.ite ?_ ?_
      · refine applyProfile_kept ?_
        assumption
      · refine Kept.ite ?_ ?_
        · refine rollback_kept ?_
          assumption
        · assumption

theorem bandBoundary_kept {s0 : State} {s : State} (hs : Kept s0 s) :
    Kept s0 (bandBoundary s) := by
  unfold bandBoundary
  refine Kept.ite ?_ ?_
  · assumption
  · extract_lets y1 y2
    have hy1 : Kept s0 y1 := by
      unfold y1
      refine put_kept ?_
      refine put_kept ?_
      assumption
    clear_value y1
    clear_value y2
    refine captureMark_kept ?_
    refine raise_kept ?_
    exact hy1.upd rfl rfl rfl rfl rfl rfl rfl rfl rfl

theorem outageRecord_kept {s0 : State} {s : State} (hs : Kept s0 s) :
    Kept s0 (outageRecord s) := by
  unfold outageRecord
  split
  · assumption
  · extract_lets y1 y2 y3
    clear_value y1
    have hy2 : Kept s0 y2.2 := by
      unfold y2
      refine fresh_kept ?_
      assumption
    clear_value y2
    clear_value y3
    refine Kept.ite ?_ ?_
    · assumption
    · refine pqAppend_kept ?_
      assumption

theorem logRereadLoss_kept {s0 : State} {s : State} (hs : Kept s0 s) :
    Kept s0 (logRereadLoss s) := by
  unfold logRereadLoss
  split
  · assumption
  · extract_lets y1 y2 y3 y4
    have hy1 : Kept s0 y1.2 := by
      unfold y1
      refine fresh_kept ?_
      assumption
    clear_value y1
    clear_value y2
    have hy3 : Kept s0 y3 := by
      unfold y3
      assumption
    clear_value y3
    clear_value y4
    refine legalEvent_kept ?_
    exact hy3.upd rfl rfl rfl rfl rfl rfl rfl rfl rfl

theorem startQuiet_kept {s0 : State} {s : State} (hs : Kept s0 s) :
    Kept s0 (startQuiet s) := by
  unfold startQuiet
  refine Kept.ite ?_ ?_
  · exact hs.upd rfl rfl rfl rfl rfl rfl rfl rfl rfl
  · assumption

theorem firstFrame_kept {s0 : State} {s : State} (hs : Kept s0 s) :
    Kept s0 (firstFrame s) := by
  unfold firstFrame
  extract_lets y1 y2 y3 y4 y5 y6 y7 y8 y9 y10 y11 y12 y13 y14 y15 y16
  clear_value y1
  clear_value y2
  have hy3 : Kept s0 y3 := by
    unfold y3
    refine put_kept ?_
    refine put_kept ?_
    assumption
  clear_value y3
  have hy4 : Kept s0 y4 := by
    unfold y4
    refine raiseIf_kept ?_
    assumption
  clear_value y4
  clear_value y5
  clear_value y6
  have hy7 : Kept s0 y7 := by
    unfold y7
    exact hy4.upd rfl rfl rfl rfl rfl rfl rfl rfl rfl
  clear_value y7
  have hy8 : Kept s0 y8 := by
    unfold y8
    refine put_kept ?_
    refine put_kept ?_
    assumption
  clear_value y8
  clear_value y9
  have hy10 : Kept s0 y10 := by
    unfold y10
    refine openFrame_kept ?_
    refine Kept.ite ?_ ?_
    · assumption
    · exact hy8.upd rfl rfl rfl rfl rfl rfl rfl rfl rfl
  clear_value y10
  clear_value y11
  have hy12 : Kept s0 y12.2 := by
    unfold y12
    refine fresh_kept ?_
    assumption
  clear_value y12
  have hy13 : Kept s0 y13 := by
    unfold y13
    refine put_kept ?_
    assumption
  clear_value y13
  have hy14 : Kept s0 y14 := by
    unfold y14
    refine Kept.ite ?_ ?_
    · refine idleRotation_kept ?_
      refine put_kept ?_
      assumption
    · assumption
  clear_value y14
  clear_value y15
  have hy16 : Kept s0 y16 := by
    unfold y16
    exact hy14.upd rfl rfl rfl rfl rfl rfl rfl rfl rfl
  clear_value y16
  refine Kept.ite ?_ ?_
  · refine legalChange_kept ?_
    refine raise_kept ?_
    assumption
  · refine outageRecord_kept ?_
    refine logRereadLoss_kept ?_
    refine startQuiet_kept ?_
    assumption

theorem calBoundary_kept {s0 : State} {s : State} (hs : Kept s0 s) :
    Kept s0 (calBoundary s) := by
  unfold calBoundary
  refine Kept.ite ?_ ?_
  · extract_lets y1 y2 y3
    clear_value y1
    clear_value y2
    clear_value y3
    exact hs.upd rfl rfl rfl rfl rfl rfl rfl rfl rfl
  · refine Kept.ite ?_ ?_
    · refine put_kept ?_
      refine put_kept ?_
      exact hs.upd rfl rfl rfl rfl rfl rfl rfl rfl rfl
    · assumption

theorem mplFrame_kept {s0 : State} {start : ℕ} {s : State} (hs : Kept s0 s) :
    Kept s0 (mplFrame start s) := by
  unfold mplFrame
  extract_lets y1 y2 y3
  clear_value y1
  clear_value y3
  exact hs.upd rfl rfl rfl rfl rfl rfl rfl rfl rfl

theorem commitBoundary_kept {s0 : State} {s : State} (hs : Kept s0 s) :
    Kept s0 (commitBoundary s) := by
  unfold commitBoundary
  refine Kept.ite ?_ ?_
  · assumption
  · extract_lets y1 y2 y3 y4 y5 y6
    clear_value y1
    clear_value y2
    have hy3 : Kept s0 y3 := by
      unfold y3
      exact hs.upd rfl rfl rfl rfl rfl rfl rfl rfl rfl
    clear_value y3
    have hy4 : Kept s0 y4 := by
      unfold y4
      refine raiseIf_kept ?_
      refine raise_kept ?_
      refine put_kept ?_
      assumption
    clear_value y4
    have hy5 : Kept s0 y5 := by
      unfold y5
      refine Kept.ite ?_ ?_
      · refine put_kept ?_
        assumption
      · assumption
    clear_value y5
    clear_value y6
    exact hy5.upd rfl rfl rfl rfl rfl rfl rfl rfl rfl

theorem swapBoundary_kept {s0 : State} {s : State} (hs : Kept s0 s) :
    Kept s0 (swapBoundary s) := by
  unfold swapBoundary
  extract_lets y1 y2
  clear_value y1
  clear_value y2
  refine Kept.foldl ?_ ?_
  · intro q1 q2 q3
    extract_lets y3 y4
    clear_value y3
    have hy4 : Kept s0 y4 := by
      unfold y4
      refine Kept.ite ?_ ?_
      · refine dropRelief_kept ?_
        assumption
      · assumption
    clear_value y4
    refine Kept.ite ?_ ?_
    · refine retireSlice_kept ?_
      refine takeChannel_kept ?_
      assumption
    · assumption
  · exact hs.upd rfl rfl rfl rfl rfl rfl rfl rfl rfl

theorem clockBoundary_kept {s0 : State} {s : State} (hs : Kept s0 s) :
    Kept s0 (clockBoundary s) := by
  unfold clockBoundary
  split
  · assumption
  · extract_lets y1 y2
    clear_value y1
    have hy2 : Kept s0 y2 := by
      unfold y2
      refine put_kept ?_
      exact hs.upd rfl rfl rfl rfl rfl rfl rfl rfl rfl
    clear_value y2
    refine Kept.ite ?_ ?_
    · refine put_kept ?_
      assumption
    · assumption

theorem failBoundary_kept {s0 : State} {s : State} (hs : Kept s0 s) :
    Kept s0 (failBoundary s) := by
  unfold failBoundary
  refine Kept.ite ?_ ?_
  · assumption
  · refine releaseDeadWins_kept ?_
    refine Kept.foldl ?_ ?_
    · intro q1 q2 q3
      extract_lets y1
      clear_value y1
      refine Kept.ite ?_ ?_
      · refine put_kept ?_
        refine retireSlice_kept ?_
        refine setMap_kept ?_
        assumption
      · assumption
    · assumption

theorem trackerBoundary_kept {s0 : State} {s : State} (hs : Kept s0 s) :
    Kept s0 (trackerBoundary s) := by
  unfold trackerBoundary
  extract_lets y1 y2 y3 y4
  clear_value y1
  clear_value y2
  have hy3 : Kept s0 y3 := by
    unfold y3
    refine Kept.ite ?_ ?_
    · exact hs.upd rfl rfl rfl rfl rfl rfl rfl rfl rfl
    · assumption
  clear_value y3
  clear_value y4
  split
  · refine moveRef_kept ?_
    exact hy3.upd rfl rfl rfl rfl rfl rfl rfl rfl rfl
  · refine Kept.ite ?_ ?_
    · refine Kept.ite ?_ ?_
      · refine put_kept ?_
        refine setTracker_kept ?_
        assumption
      · refine addSat_kept ?_
        assumption
    · refine Kept.ite ?_ ?_
      · split
        · refine Kept.ite ?_ ?_
          · refine setTracker_kept ?_
            assumption
          · refine moveRef_kept ?_
            assumption
        · assumption
      · assumption

theorem epoch_kept {s0 : State} {s : State} (hs : Kept s0 s) :
    Kept s0 (epoch s) := by
  unfold epoch
  extract_lets y1 y2 y3 y4 y5
  have hy1 : Kept s0 y1 := by
    unfold y1
    refine calBoundary_kept ?_
    refine commitBoundary_kept ?_
    refine bandBoundary_kept ?_
    assumption
  clear_value y1
  have hy2 : Kept s0 y2 := by
    unfold y2
    refine swapBoundary_kept ?_
    refine reliefBoundary_kept ?_
    assumption
  clear_value y2
  have hy3 : Kept s0 y3 := by
    unfold y3
    refine clockBoundary_kept ?_
    refine failBoundary_kept ?_
    assumption
  clear_value y3
  have hy4 : Kept s0 y4 := by
    unfold y4
    refine trackerBoundary_kept ?_
    assumption
  clear_value y4
  have hy5 : Kept s0 y5 := by
    unfold y5
    refine Kept.ite ?_ ?_
    · refine stopChain_kept ?_
      assumption
    · assumption
  clear_value y5
  refine startWaiting_kept ?_
  assumption

theorem closeFrame_kept {s0 : State} {s : State} (hs : Kept s0 s) :
    Kept s0 (closeFrame s) := by
  unfold closeFrame
  extract_lets y1 y2 y3 y4 y5
  have hy1 : Kept s0 y1 := by
    unfold y1
    refine completeFrame_kept ?_
    assumption
  clear_value y1
  clear_value y2
  have hy3 : Kept s0 y3 := by
    unfold y3
    exact hy1.upd rfl rfl rfl rfl rfl rfl rfl rfl rfl
  clear_value y3
  have hy4 : Kept s0 y4 := by
    unfold y4
    refine epoch_kept ?_
    refine profileBoundary_kept ?_
    assumption
  clear_value y4
  clear_value y5
  refine Kept.ite ?_ ?_
  · refine openFrame_kept ?_
    assumption
  · refine openFrame_kept ?_
    refine raiseIf_kept ?_
    refine put_kept ?_
    assumption

theorem frameBoundary_kept {s0 : State} {s : State} (hs : Kept s0 s) :
    Kept s0 (frameBoundary s) := by
  unfold frameBoundary
  refine Kept.ite ?_ ?_
  · assumption
  · refine Kept.ite ?_ ?_
    · refine Kept.ite ?_ ?_
      · refine closeFrame_kept ?_
        assumption
      · assumption
    · refine Kept.ite ?_ ?_
      · refine firstFrame_kept ?_
        assumption
      · assumption

theorem execFrameBoundary_kept {s0 : State} {s : State} (hs : Kept s0 s) :
    KeptOut s0 (execFrameBoundary s) := by
  unfold execFrameBoundary
  extract_lets y1 y2
  clear_value y1
  clear_value y2
  refine KeptOut.next ?_
  refine Kept.ite ?_ ?_
  · refine mplFrame_kept ?_
    refine frameBoundary_kept ?_
    assumption
  · refine frameBoundary_kept ?_
    assumption

theorem execProfileStage_kept {s0 : State} {m : Master} {w : Word} {s : State} (hs : Kept s0 s) :
    KeptOut s0 (execProfileStage m w s) := by
  unfold execProfileStage
  refine cmdWrite_kept ?_ ?_
  · intro q1 q2
    refine profileCtlWrite_kept ?_
    assumption
  · assumption

theorem execE7Ready_kept {s0 : State} {s : State} (hs : Kept s0 s) :
    KeptOut s0 (execE7Ready s) := by
  unfold execE7Ready
  refine onlyIf_kept ?_ ?_
  · intro q1 q2
    exact q2.upd rfl rfl rfl rfl rfl rfl rfl rfl rfl
  · assumption

end Sys2Proof.Machine
end

