-- ==== Sys2Proof/Laws/KeptModem.lean ====
section
/-! SUPPORT. `Kept` for every operation of Machine/Modem.lean: what each of them leaves as it is (the canonical form of the state,
the queue, the identity OTP), cited in place of unfolding it. -/
namespace Sys2Proof.Machine

theorem listening_kept {s0 : State} {s : State} (hs : Kept s0 s) :
    Kept s0 (listening s) := by
  unfold listening
  refine lmdState_kept ?_
  assumption

theorem rxReport_kept {s0 : State} {i : RxInfo} {s : State} (hs : Kept s0 s) :
    Kept s0 (rxReport i s) := by
  unfold rxReport
  extract_lets y1 y2 y3 y4
  clear_value y1
  clear_value y2
  have hy3 : Kept s0 y3 := by
    unfold y3
    refine put_kept ?_
    refine put_kept ?_
    refine put_kept ?_
    refine put_kept ?_
    assumption
  clear_value y3
  have hy4 : Kept s0 y4 := by
    unfold y4
    refine put_kept ?_
    refine put_kept ?_
    refine put_kept ?_
    refine put_kept ?_
    assumption
  clear_value y4
  refine raise_kept ?_
  refine listening_kept ?_
  refine updLmd_kept ?_
  assumption

theorem returnFrame_kept {s0 : State} {t : TxFrame} {s : State} (hs : Kept s0 s) :
    Kept s0 (returnFrame t s) := by
  unfold returnFrame
  refine updFab_kept ?_
  assumption

theorem startTx_kept {s0 : State} {t : TxFrame} {s : State} (hs : Kept s0 s) :
    Kept s0 (startTx t s) := by
  unfold startTx
  refine put_kept ?_
  refine lmdState_kept ?_
  refine updLmd_kept ?_
  assumption

theorem handToE9_kept {s0 : State} {t : TxFrame} {s : State} (hs : Kept s0 s) :
    Kept s0 (handToE9 t s) := by
  unfold handToE9
  refine Kept.ite ?_ ?_
  · refine returnFrame_kept ?_
    assumption
  · refine Kept.ite ?_ ?_
    · refine raise_kept ?_
      refine returnFrame_kept ?_
      assumption
    · refine Kept.ite ?_ ?_
      · refine updLmd_kept ?_
        assumption
      · refine startTx_kept ?_
        assumption

theorem startModem_kept {s0 : State} {s : State} (hs : Kept s0 s) :
    Kept s0 (startModem s) := by
  unfold startModem
  refine Kept.ite ?_ ?_
  · assumption
  · extract_lets y1 y2 y3
    clear_value y1
    have hy2 : Kept s0 y2 := by
      unfold y2
      exact hs.upd rfl rfl rfl rfl rfl rfl rfl rfl rfl
    clear_value y2
    clear_value y3
    refine listening_kept ?_
    refine Kept.foldl ?_ ?_
    · intro q1 q2 q3
      split
      · assumption
      · refine putBit_kept ?_
        refine put_kept ?_
        refine put_kept ?_
        assumption
    · assumption

theorem refuseSounding_kept {s0 : State} {code : ℕ} {s : State} (hs : Kept s0 s) :
    Kept s0 (refuseSounding code s) := by
  unfold refuseSounding
  extract_lets y1
  have hy1 : Kept s0 y1 := by
    unfold y1
    refine put_kept ?_
    refine put_kept ?_
    refine put_kept ?_
    assumption
  clear_value y1
  refine raise_kept ?_
  refine soundingRepeat_kept ?_
  assumption

theorem requestSounding_kept {s0 : State} {base : Bool} {s : State} (hs : Kept s0 s) :
    Kept s0 (requestSounding base s) := by
  unfold requestSounding
  refine Kept.ite ?_ ?_
  · assumption
  · extract_lets y1
    have hy1 : Kept s0 y1 := by
      unfold y1
      refine updLmd_kept ?_
      assumption
    clear_value y1
    refine Kept.ite ?_ ?_
    · assumption
    · refine Kept.ite ?_ ?_
      · refine refuseSounding_kept ?_
        assumption
      · refine put_kept ?_
        refine updLmd_kept ?_
        assumption

theorem execSoundingRepeat_kept {s0 : State} {s : State} (hs : Kept s0 s) :
    KeptOut s0 (execSoundingRepeat s) := by
  unfold execSoundingRepeat
  split
  · refine KeptOut.next ?_
    assumption
  · refine onlyIf_kept ?_ ?_
    · intro q1 q2
      refine requestSounding_kept ?_
      refine updLmd_kept ?_
      assumption
    · assumption

theorem showFcn_kept {s0 : State} {s : State} (hs : Kept s0 s) :
    Kept s0 (showFcn s) := by
  unfold showFcn
  split
  · refine put_kept ?_
    refine put_kept ?_
    assumption
  · refine put_kept ?_
    refine put_kept ?_
    assumption

theorem sndCtlWrite_kept {s0 : State} {w : Word} {s : State} (hs : Kept s0 s) :
    Kept s0 (sndCtlWrite w s) := by
  unfold sndCtlWrite
  extract_lets y1
  refine Kept.ite ?_ ?_
  · assumption
  · refine Kept.ite ?_ ?_
    · refine requestSounding_kept ?_
      assumption
    · assumption

theorem execSoundingStart_kept {s0 : State} {m : Master} {w : Word} {s : State} (hs : Kept s0 s) :
    KeptOut s0 (execSoundingStart m w s) := by
  unfold execSoundingStart
  refine cmdWrite_kept ?_ ?_
  · intro q1 q2
    refine sndCtlWrite_kept ?_
    assumption
  · assumption

theorem execZeroCrossing_kept {s0 : State} {s : State} (hs : Kept s0 s) :
    KeptOut s0 (execZeroCrossing s) := by
  unfold execZeroCrossing
  refine onlyIf_kept ?_ ?_
  · intro q1 q2
    extract_lets y1 y2 y3 y4
    clear_value y1
    have hy2 : Kept s0 y2 := by
      unfold y2
      refine raiseIf_kept ?_
      assumption
    clear_value y2
    have hy3 : Kept s0 y3 := by
      unfold y3
      refine put_kept ?_
      refine put_kept ?_
      assumption
    clear_value y3
    have hy4 : Kept s0 y4 := by
      unfold y4
      refine updLmd_kept ?_
      assumption
    clear_value y4
    refine Kept.ite ?_ ?_
    · assumption
    · refine showFcn_kept ?_
      refine put_kept ?_
      assumption
  · assumption

theorem execTxFrame_kept {s0 : State} {f : TxFrame} {s : State} (hs : Kept s0 s) :
    KeptOut s0 (execTxFrame f s) := by
  unfold execTxFrame
  refine done_kept ?_
  refine handToE9_kept ?_
  assumption

theorem execSoundingTimeout_kept {s0 : State} {s : State} (hs : Kept s0 s) :
    KeptOut s0 (execSoundingTimeout s) := by
  unfold execSoundingTimeout
  split
  · refine KeptOut.next ?_
    assumption
  · refine onlyIf_kept ?_ ?_
    · intro q1 q2
      refine refuseSounding_kept ?_
      assumption
    · assumption

theorem execPreambleDetected_kept {s0 : State} {bandC : Bool} {s : State} (hs : Kept s0 s) :
    KeptOut s0 (execPreambleDetected bandC s) := by
  unfold execPreambleDetected
  refine onlyIf_kept ?_ ?_
  · intro q1 q2
    split
    · refine put_kept ?_
      refine lmdState_kept ?_
      refine updLmd_kept ?_
      assumption
    · refine raiseIf_kept ?_
      assumption
  · assumption

theorem execRxFrameDrop_kept {s0 : State} {s : State} (hs : Kept s0 s) :
    KeptOut s0 (execRxFrameDrop s) := by
  unfold execRxFrameDrop
  refine onlyIf_kept ?_ ?_
  · intro q1 q2
    refine raise_kept ?_
    refine listening_kept ?_
    refine updLmd_kept ?_
    assumption
  · assumption

theorem execDrvFault_kept {s0 : State} {s : State} (hs : Kept s0 s) :
    KeptOut s0 (execDrvFault s) := by
  unfold execDrvFault
  refine onlyIf_kept ?_ ?_
  · intro q1 q2
    refine listening_kept ?_
    refine raise_kept ?_
    refine abandonTx_kept ?_
    assumption
  · assumption

theorem execTxDone_kept {s0 : State} {s : State} (hs : Kept s0 s) :
    KeptOut s0 (execTxDone s) := by
  unfold execTxDone
  split
  · refine KeptOut.next ?_
    assumption
  · extract_lets y1
    have hy1 : Kept s0 y1 := by
      unfold y1
      refine Kept.ite ?_ ?_
      · refine updLmd_kept ?_
        assumption
      · assumption
    clear_value y1
    refine KeptOut.next ?_
    refine raise_kept ?_
    refine listening_kept ?_
    refine afterTx_kept ?_
    assumption

theorem execLbtAccess_kept {s0 : State} {s : State} (hs : Kept s0 s) :
    KeptOut s0 (execLbtAccess s) := by
  unfold execLbtAccess
  split
  · refine KeptOut.next ?_
    assumption
  · extract_lets y1
    clear_value y1
    refine onlyIf_kept ?_ ?_
    · intro q1 q2
      extract_lets y2
      have hy2 : Kept s0 y2 := by
        unfold y2
        refine put_kept ?_
        refine updLmd_kept ?_
        assumption
      clear_value y2
      refine Kept.ite ?_ ?_
      · refine raise_kept ?_
        refine returnFrame_kept ?_
        assumption
      · refine startTx_kept ?_
        assumption
    · assumption

theorem execLbtTimeout_kept {s0 : State} {s : State} (hs : Kept s0 s) :
    KeptOut s0 (execLbtTimeout s) := by
  unfold execLbtTimeout
  split
  · refine KeptOut.next ?_
    assumption
  · refine onlyIf_kept ?_ ?_
    · intro q1 q2
      refine raise_kept ?_
      refine put_kept ?_
      refine returnFrame_kept ?_
      refine updLmd_kept ?_
      assumption
    · assumption

theorem execSoundingBaseline_kept {s0 : State} {m : Master} {w : Word} {s : State} (hs : Kept s0 s) :
    KeptOut s0 (execSoundingBaseline m w s) := by
  unfold execSoundingBaseline
  refine cmdWrite_kept ?_ ?_
  · intro q1 q2
    refine sndCtlWrite_kept ?_
    assumption
  · assumption

theorem execSoundingPeriod_kept {s0 : State} {s : State} (hs : Kept s0 s) :
    KeptOut s0 (execSoundingPeriod s) := by
  unfold execSoundingPeriod
  extract_lets y1 y2 y3
  clear_value y1
  clear_value y2
  clear_value y3
  refine onlyIf_kept ?_ ?_
  · intro q1 q2
    extract_lets y4 y5
    have hy4 : Kept s0 y4 := by
      unfold y4
      refine Kept.ite ?_ ?_
      · refine updLmd_kept ?_
        assumption
      · assumption
    clear_value y4
    have hy5 : Kept s0 y5 := by
      unfold y5
      refine Kept.ite ?_ ?_
      · refine updLmd_kept ?_
        assumption
      · assumption
    clear_value y5
    refine requestSounding_kept ?_
    assumption
  · assumption

theorem execSoundingMediumWon_kept {s0 : State} {s : State} (hs : Kept s0 s) :
    KeptOut s0 (execSoundingMediumWon s) := by
  unfold execSoundingMediumWon
  refine onlyIf_kept ?_ ?_
  · intro q1 q2
    refine Kept.ite ?_ ?_
    · refine refuseSounding_kept ?_
      refine raise_kept ?_
      assumption
    · refine Kept.ite ?_ ?_
      · refine refuseSounding_kept ?_
        assumption
      · extract_lets y1
        have hy1 : Kept s0 y1 := by
          unfold y1
          refine put_kept ?_
          refine lmdState_kept ?_
          refine updLmd_kept ?_
          assumption
        clear_value y1
        refine Kept.ite ?_ ?_
        · refine abortSounding_kept ?_
          assumption
        · assumption
  · assumption

theorem takeBaseline_kept {s0 : State} {r : ℕ} {a : ℤ} {cap : ℕ} {s : State} (hs : Kept s0 s) :
    Kept s0 (takeBaseline r a cap s) := by
  unfold takeBaseline
  extract_lets y1 y2 y3 y4 y5 y6
  have hy1 : Kept s0 y1 := by
    unfold y1
    refine put_kept ?_
    refine put_kept ?_
    assumption
  clear_value y1
  have hy2 : Kept s0 y2 := by
    unfold y2
    refine putBit_kept ?_
    refine updLmd_kept ?_
    assumption
  clear_value y2
  clear_value y3
  clear_value y4
  clear_value y5
  clear_value y6
  refine raise_kept ?_
  refine dirty_kept ?_
  exact hy2.upd rfl rfl rfl rfl rfl rfl rfl rfl rfl

theorem bypassVerdict_kept {s0 : State} {r : ℕ} {a : ℤ} {s : State} (hs : Kept s0 s) :
    Kept s0 (bypassVerdict r a s) := by
  unfold bypassVerdict
  refine Kept.ite ?_ ?_
  · refine put_kept ?_
    assumption
  · refine Kept.ite ?_ ?_
    · refine tripProducer_kept ?_
      refine raise_kept ?_
      refine put_kept ?_
      assumption
    · extract_lets y1
      have hy1 : Kept s0 y1 := by
        unfold y1
        refine put_kept ?_
        assumption
      clear_value y1
      refine Kept.ite ?_ ?_
      · refine releaseProducer_kept ?_
        assumption
      · assumption

theorem execSoundingDone_kept {s0 : State} {sums : List Byte} {s : State} (hs : Kept s0 s) :
    KeptOut s0 (execSoundingDone sums s) := by
  unfold execSoundingDone
  refine onlyIf_kept ?_ ?_
  · intro q1 q2
    extract_lets y1 y2 y3 y4 y5 y6 y7 y8 y9
    clear_value y1
    clear_value y2
    clear_value y3
    have hy4 : Kept s0 y4 := by
      unfold y4
      refine Kept.ite ?_ ?_
      · refine wrBytes_kept ?_
        refine wrBytes_kept ?_
        assumption
      · assumption
    clear_value y4
    have hy5 : Kept s0 y5 := by
      unfold y5
      refine put_kept ?_
      refine put_kept ?_
      assumption
    clear_value y5
    clear_value y6
    have hy7 : Kept s0 y7 := by
      unfold y7
      refine raiseIf_kept ?_
      refine put_kept ?_
      assumption
    clear_value y7
    have hy8 : Kept s0 y8 := by
      unfold y8
      refine put_kept ?_
      refine put_kept ?_
      refine put_kept ?_
      assumption
    clear_value y8
    have hy9 : Kept s0 y9 := by
      unfold y9
      split
      · refine put_kept ?_
        assumption
      · refine Kept.ite ?_ ?_
        · refine put_kept ?_
          refine takeBaseline_kept ?_
          assumption
        · refine bypassVerdict_kept ?_
          assumption
    clear_value y9
    refine raise_kept ?_
    refine listening_kept ?_
    assumption
  · assumption

theorem execBlankingRatio_kept {s0 : State} {xs : List ℤ} {s : State} (hs : Kept s0 s) :
    KeptOut s0 (execBlankingRatio xs s) := by
  unfold execBlankingRatio
  refine onlyIf_kept ?_ ?_
  · intro q1 q2
    extract_lets y1 y2 y3
    clear_value y1
    clear_value y2
    have hy3 : Kept s0 y3 := by
      unfold y3
      refine updLmd_kept ?_
      assumption
    clear_value y3
    refine raiseIf_kept ?_
    refine put_kept ?_
    assumption
  · assumption

end Sys2Proof.Machine
end

