-- ==== Sys2Proof/Laws/KeptWell.lean ====
section
/-! SUPPORT. `Kept` for every operation of Machine/Well.lean: what each of them leaves as it is (the canonical form of the state,
the queue, the identity OTP), cited in place of unfolding it. -/
namespace Sys2Proof.Machine

theorem refuseLoad_kept {s0 : State} {r : Load} {s : State} (hs : Kept s0 s) :
    Kept s0 (refuseLoad r s).2 := by
  unfold refuseLoad
  extract_lets y1 y2
  clear_value y1
  have hy2 : Kept s0 y2 := by
    unfold y2
    refine raise_kept ?_
    refine updWell_kept ?_ ?_ ?_ ?_ ?_ ?_
    · assumption
    · rfl
    · rfl
    · rfl
    · rfl
    · rfl
  clear_value y2
  refine Kept.mkSnd ?_
  refine Kept.ite ?_ ?_
  · refine occurrence_kept ?_
    assumption
  · assumption

theorem useSlot_kept {s0 : State} {w : WSlot} {s : State} (hs : Kept s0 s) :
    Kept s0 (useSlot w s).2 := by
  unfold useSlot
  refine Kept.mkSnd ?_
  refine updWell_kept ?_ ?_ ?_ ?_ ?_ ?_
  · assumption
  · rfl
  · rfl
  · rfl
  · rfl
  · rfl

theorem parentOf_kept {s0 : State} {p : ℕ} {s : State} (hs : Kept s0 s) :
    Kept s0 (parentOf p s).2 := by
  unfold parentOf
  split
  · refine Kept.mkSnd ?_
    assumption
  · extract_lets y1
    clear_value y1
    refine Kept.mkSnd ?_
    refine updWell_kept ?_ ?_ ?_ ?_ ?_ ?_
    · assumption
    · rfl
    · rfl
    · rfl
    · rfl
    · rfl

theorem unwrap_kept {s0 : State} {p : ℕ} {c : ℕ} {need : Option (ℕ × ℕ)} {b : Blob} {s : State} (hs : Kept s0 s) :
    Kept s0 (unwrap p c need b s).2 := by
  unfold unwrap
  refine Kept.iteSnd ?_ ?_
  · refine refuseLoad_kept ?_
    assumption
  · refine Kept.iteSnd ?_ ?_
    · refine refuseLoad_kept ?_
      assumption
    · extract_lets y1 y2
      have hy1 : Kept s0 y1.2 := by
        unfold y1
        refine parentOf_kept ?_
        assumption
      clear_value y1
      have hy2 : Kept s0 y2 := by
        unfold y2
        refine updWell_kept ?_ ?_ ?_ ?_ ?_ ?_
        · assumption
        · rfl
        · rfl
        · rfl
        · rfl
        · rfl
      clear_value y2
      split
      · refine refuseLoad_kept ?_
        assumption
      · refine Kept.iteSnd ?_ ?_
        · refine refuseLoad_kept ?_
          assumption
        · extract_lets y3
          clear_value y3
          refine useSlot_kept ?_
          assumption

theorem loadKey_kept {s0 : State} {p : ℕ} {c : ℕ} {need : Option (ℕ × ℕ)} {s : State} (hs : Kept s0 s) :
    Kept s0 (loadKey p c need s).2 := by
  unfold loadKey
  extract_lets y1
  have hy1 : Kept s0 y1.2 := by
    unfold y1
    refine Kept.iteSnd ?_ ?_
    · refine refuseLoad_kept ?_
      assumption
    · refine Kept.iteSnd ?_ ?_
      · refine refuseLoad_kept ?_
        assumption
      · refine Kept.iteSnd ?_ ?_
        · refine refuseLoad_kept ?_
          assumption
        · split
          · split
            · refine Kept.iteSnd ?_ ?_
              · refine refuseLoad_kept ?_
                assumption
              · refine useSlot_kept ?_
                assumption
            · refine useSlot_kept ?_
              assumption
          · refine refuseLoad_kept ?_
            assumption
          · refine unwrap_kept ?_
            assumption
  clear_value y1
  refine Kept.mkSnd ?_
  refine showWell_kept ?_
  assumption

theorem writeWell_kept {s0 : State} {r : WellRec} {s : State} (hs : Kept s0 s) :
    Kept s0 (writeWell r s) := by
  unfold writeWell
  refine deviceStore_kept ?_
  refine dirty_kept ?_
  exact hs.upd rfl rfl rfl rfl rfl rfl rfl rfl rfl

theorem kuWrite_kept {s0 : State} {j : KeyJob} {r : WellRec} {keys : List KeyEntry} {s : State} (hs : Kept s0 s) :
    Kept s0 (kuWrite j r keys s) := by
  unfold kuWrite
  extract_lets y1 y2 y3 y4
  clear_value y1
  have hy2 : Kept s0 y2 := by
    unfold y2
    refine updWell_kept ?_ ?_ ?_ ?_ ?_ ?_
    · assumption
    · rfl
    · rfl
    · rfl
    · rfl
    · rfl
  clear_value y2
  clear_value y3
  clear_value y4
  refine writeWell_kept ?_
  exact hy2.upd rfl rfl rfl rfl rfl rfl rfl rfl rfl

theorem activateDecoder_kept {s0 : State} {s : State} (hs : Kept s0 s) :
    Kept s0 (activateDecoder s) := by
  unfold activateDecoder
  extract_lets y1 y2 y3
  clear_value y1
  clear_value y2
  clear_value y3
  split
  · assumption
  · refine kuWrite_kept ?_
    assumption

theorem loadNamed_kept {s0 : State} {k : Option (ℕ × ℕ)} {need : ℕ × ℕ} {s : State} (hs : Kept s0 s) :
    Kept s0 (loadNamed k need s).2 := by
  unfold loadNamed
  split
  · refine Kept.mkSnd ?_
    assumption
  · refine loadKey_kept ?_
    assumption

theorem showOtp_kept {s0 : State} {s : State} (hs : Kept s0 s) :
    Kept s0 (showOtp s) := by
  unfold showOtp
  extract_lets y1
  clear_value y1
  refine put_kept ?_
  refine put_kept ?_
  refine put_kept ?_
  assumption

theorem showRecord_kept {s0 : State} {s : State} (hs : Kept s0 s) :
    Kept s0 (showRecord s) := by
  unfold showRecord
  extract_lets y1 y2 y3
  clear_value y1
  have hy2 : Kept s0 y2 := by
    unfold y2
    refine Kept.foldl ?_ ?_
    · intro q1 q2 q3
      refine put_kept ?_
      assumption
    · assumption
  clear_value y2
  refine put_kept ?_
  refine wr_kept ?_
  assumption

theorem startWellKeys_kept {s0 : State} {s : State} (hs : Kept s0 s) :
    Kept s0 (startWellKeys s) := by
  unfold startWellKeys
  extract_lets y1 y2 y3
  clear_value y1
  clear_value y2
  clear_value y3
  refine Kept.ite ?_ ?_
  · assumption
  · refine deviceStore_kept ?_
    refine dirty_kept ?_
    exact hs.upd rfl rfl rfl rfl rfl rfl rfl rfl rfl

theorem startWellRec_kept {s0 : State} {c : Option WellRec} {m : Option WellRec} {s : State} (hs : Kept s0 s) :
    Kept s0 (startWellRec c m s) := by
  unfold startWellRec
  split
  · refine raise_kept ?_
    refine put_kept ?_
    assumption
  · refine Kept.ite ?_ ?_
    · refine writeWell_kept ?_
      refine put_kept ?_
      assumption
    · refine put_kept ?_
      assumption

theorem startWell_kept {s0 : State} {s : State} (hs : Kept s0 s) :
    Kept s0 (startWell s) := by
  unfold startWell
  extract_lets y1 y2 y3
  clear_value y1
  clear_value y2
  have hy3 : Kept s0 y3 := by
    unfold y3
    refine updWell_kept ?_ ?_ ?_ ?_ ?_ ?_
    · assumption
    · rfl
    · rfl
    · rfl
    · rfl
    · rfl
  clear_value y3
  refine put_kept ?_
  refine showWell_kept ?_
  refine showOtp_kept ?_
  refine showRecord_kept ?_
  refine startWellKeys_kept ?_
  refine startWellRec_kept ?_
  assumption

theorem otpWrite_kept {s0 s : State} {w : Word} (hs : Kept s0 s) : Kept s0 (otpWrite w s) := by
  unfold otpWrite
  refine Kept.ite hs ?_
  extract_lets slot y1 y2
  have h1 : Kept s0 y1 := by
    unfold y1
    refine Kept.ite ?_ hs
    split
    · exact raise_kept hs
    · next h =>
      have hn : nth none s.well.otp slot = none := by simp_all
      refine ⟨hs.inv, hs.queue, hs.otp.trans ⟨id, id, id, fun _ e => e, fun i k e => ?_⟩⟩
      have hi : i ≠ slot := by rintro rfl; simp [hn] at e
      simpa [updWell, nth, upd, List.getD_eq_getElem?_getD, List.getElem?_modify, Ne.symm hi] using e
  clear_value y1
  have h2 : Kept s0 y2 := by
    unfold y2
    refine Kept.ite ⟨h1.inv, h1.queue, h1.otp.trans ⟨fun _ => rfl, id, id, fun _ e => e, fun _ _ e => e⟩⟩ h1
  clear_value y2
  refine showOtp_kept (Kept.ite ⟨h2.inv, h2.queue, h2.otp.trans ⟨id, fun _ => rfl, id, fun _ e => e, fun _ _ e => e⟩⟩ h2)

theorem keyUpdate_kept {s0 : State} {m : List Byte} {reply : Reply} {s : State} (hs : Kept s0 s) :
    Kept s0 (keyUpdate m reply s) := by
  unfold keyUpdate
  refine Kept.ite ?_ ?_
  · refine answerReply_kept ?_
    assumption
  · refine Kept.ite ?_ ?_
    · refine answerReply_kept ?_
      refine put_kept ?_
      assumption
    · extract_lets y1 y2 y3 y4 y5 y6
      clear_value y1
      have hy2 : Kept s0 y2 := by
        unfold y2
        refine raise_kept ?_
        refine kuResult_kept ?_
        assumption
      clear_value y2
      clear_value y3
      have hy4 : Kept s0 y4.2 := by
        unfold y4
        refine drbg_kept ?_
        assumption
      clear_value y4
      clear_value y5
      clear_value y6
      refine Kept.ite ?_ ?_
      · refine Kept.ite ?_ ?_
        · refine answerReply_kept ?_
          assumption
        · refine answerReply_kept ?_
          assumption
      · refine updWell_kept ?_ ?_ ?_ ?_ ?_ ?_
        · refine Kept.ite ?_ ?_
          · assumption
          · assumption
        · rfl
        · rfl
        · rfl
        · rfl
        · rfl

theorem attest_kept {s0 : State} {p : ℕ} {c : ℕ} {nonce : List Byte} {reply : Reply} {s : State} (hs : Kept s0 s) :
    Kept s0 (attest p c nonce reply s) := by
  unfold attest
  extract_lets y1
  have hy1 : Kept s0 y1.2 := by
    unfold y1
    refine loadKey_kept ?_
    assumption
  clear_value y1
  split
  · refine answerReply_kept ?_
    assumption
  · refine answerReply_kept ?_
    assumption

theorem wrapEntry_kept {s0 : State} {j : KeyJob} {s : State} (hs : Kept s0 s) :
    Kept s0 (wrapEntry j s).2 := by
  unfold wrapEntry
  extract_lets y1 y2 y3 y4 y5 y6 y7 y8 y9
  clear_value y1
  clear_value y2
  clear_value y3
  have hy4 : Kept s0 y4.2 := by
    unfold y4
    refine drbg_kept ?_
    assumption
  clear_value y4
  have hy5 : Kept s0 y5.2 := by
    unfold y5
    refine parentOf_kept ?_
    assumption
  clear_value y5
  clear_value y6
  clear_value y7
  clear_value y9
  refine Kept.mkSnd ?_
  assumption

theorem execKeyStage_kept {s0 : State} {s : State} (hs : Kept s0 s) :
    KeptOut s0 (execKeyStage s) := by
  unfold execKeyStage
  split
  · refine KeptOut.next ?_
    assumption
  · extract_lets y1 y2
    have hy1 : Kept s0 y1.2 := by
      unfold y1
      refine wrapEntry_kept ?_
      assumption
    clear_value y1
    clear_value y2
    refine KeptOut.next ?_
    refine kuWrite_kept ?_
    assumption

theorem seedDrbg_kept {s0 : State} {s : State} (hs : Kept s0 s) :
    Kept s0 (seedDrbg s) := by
  unfold seedDrbg
  extract_lets y1
  have hy1 : Kept s0 y1 := by
    unfold y1
    refine updWell_kept ?_ ?_ ?_ ?_ ?_ ?_
    · assumption
    · rfl
    · rfl
    · rfl
    · rfl
    · rfl
  clear_value y1
  refine put_kept ?_
  refine put_kept ?_
  refine raise_kept ?_
  assumption

theorem releaseSlots_kept {s0 : State} {s : State} (hs : Kept s0 s) :
    Kept s0 (releaseSlots s) := by
  unfold releaseSlots
  refine updWell_kept ?_ ?_ ?_ ?_ ?_ ?_
  · assumption
  · rfl
  · rfl
  · rfl
  · rfl
  · rfl

theorem execRevokeChild_kept {s0 : State} {s : State} (hs : Kept s0 s) :
    KeptOut s0 (execRevokeChild s) := by
  unfold execRevokeChild
  split
  · refine KeptOut.next ?_
    assumption
  · extract_lets y1 y2
    clear_value y1
    clear_value y2
    refine KeptOut.next ?_
    refine kuWrite_kept ?_
    assumption

theorem kuCommit_kept {s0 s : State} {j : KeyJob} {r : WellRec} (hs : Kept s0 s) : Kept s0 (kuCommit j r s) := by
  unfold kuCommit
  extract_lets o y1 y2 y3 y4
  have h1 : Kept s0 y1 :=
    ⟨hs.inv, hs.queue, hs.otp.trans ⟨id, id, fun _ => rfl, fun _ e => e, fun _ _ e => e⟩⟩
  clear_value y1
  have h4 : Kept s0 y4 := showWell_kept (showRecord_kept (raiseIf_kept (raiseIf_kept (Kept.ite (put_kept h1) h1))))
  clear_value y4
  exact Kept.ite h4 (answerReply_kept (raise_kept (kuResult_kept h4)))

theorem execReseat_kept {s0 : State} {s : State} (hs : Kept s0 s) :
    KeptOut s0 (execReseat s) := by
  unfold execReseat
  split
  · refine KeptOut.next ?_
    assumption
  · extract_lets y1
    clear_value y1
    refine KeptOut.next ?_
    refine kuWrite_kept ?_
    assumption

theorem startJobs_kept {s0 s : State} {n : Nat} (hs : Kept s0 s) : Kept s0 (startJobs n s) := by
  induction n generalizing s with
  | zero => exact hs
  | succ n ih =>
    unfold startJobs
    refine Kept.ite hs ?_
    split
    · exact hs
    · next j l _ =>
      have h1 : Kept s0 (updWell (fun w => { w with jobs := l }) s) := updWell_kept hs rfl rfl rfl rfl rfl
      simp only
      split
      · exact updWell_kept h1 rfl rfl rfl rfl rfl
      · split
        · exact updWell_kept (loadKey_kept h1) rfl rfl rfl rfl rfl
        · exact ih (loadKey_kept h1)

theorem execCryptoJob_kept {s0 : State} {job : CryptoJob} {s : State} (hs : Kept s0 s) :
    KeptOut s0 (execCryptoJob job s) := by
  unfold execCryptoJob
  refine onlyIf_kept ?_ ?_
  · intro q1 q2
    refine Kept.ite ?_ ?_
    · refine raise_kept ?_
      assumption
    · refine showWell_kept ?_
      refine startJobs_kept ?_
      refine updWell_kept ?_ ?_ ?_ ?_ ?_ ?_
      · assumption
      · rfl
      · rfl
      · rfl
      · rfl
      · rfl
  · assumption

theorem execKeyUpdate_kept {s0 : State} {msg : List Byte} {reply : Reply} {s : State} (hs : Kept s0 s) :
    KeptOut s0 (execKeyUpdate msg reply s) := by
  unfold execKeyUpdate
  refine done_kept ?_
  refine keyUpdate_kept ?_
  refine takeReply_kept ?_
  assumption

theorem execOtpBurn_kept {s0 : State} {m : Master} {w : Word} {s : State} (hs : Kept s0 s) :
    KeptOut s0 (execOtpBurn m w s) := by
  unfold execOtpBurn
  refine cmdWrite_kept ?_ ?_
  · intro q1 q2
    refine otpWrite_kept ?_
    assumption
  · assumption

theorem execOtpLock_kept {s0 : State} {m : Master} {w : Word} {s : State} (hs : Kept s0 s) :
    KeptOut s0 (execOtpLock m w s) := by
  unfold execOtpLock
  refine cmdWrite_kept ?_ ?_
  · intro q1 q2
    refine otpWrite_kept ?_
    assumption
  · assumption

theorem execKeyInstall_kept {s0 : State} {s : State} (hs : Kept s0 s) :
    KeptOut s0 (execKeyInstall s) := by
  unfold execKeyInstall
  split
  · refine KeptOut.next ?_
    assumption
  · extract_lets y1
    have hy1 : Kept s0 y1.2 := by
      unfold y1
      refine wrapEntry_kept ?_
      assumption
    clear_value y1
    refine KeptOut.next ?_
    refine kuWrite_kept ?_
    assumption

theorem execKeyGenerate_kept {s0 : State} {s : State} (hs : Kept s0 s) :
    KeptOut s0 (execKeyGenerate s) := by
  unfold execKeyGenerate
  split
  · refine KeptOut.next ?_
    assumption
  · extract_lets y1
    have hy1 : Kept s0 y1.2 := by
      unfold y1
      refine wrapEntry_kept ?_
      assumption
    clear_value y1
    refine KeptOut.next ?_
    refine kuWrite_kept ?_
    assumption

theorem execDestroyParent_kept {s0 : State} {s : State} (hs : Kept s0 s) :
    KeptOut s0 (execDestroyParent s) := by
  unfold execDestroyParent
  split
  · refine KeptOut.next ?_
    assumption
  · extract_lets y1 y2
    clear_value y1
    clear_value y2
    refine KeptOut.next ?_
    refine kuWrite_kept ?_
    assumption

theorem execAttestationRequest_kept {s0 : State} {p : ℕ} {c : ℕ} {nonce : List Byte} {reply : Reply} {s : State} (hs : Kept s0 s) :
    KeptOut s0 (execAttestationRequest p c nonce reply s) := by
  unfold execAttestationRequest
  refine done_kept ?_
  refine attest_kept ?_
  refine takeReply_kept ?_
  assumption

theorem execCertificateRequest_kept {s0 : State} {reply : Reply} {s : State} (hs : Kept s0 s) :
    KeptOut s0 (execCertificateRequest reply s) := by
  unfold execCertificateRequest
  refine done_kept ?_
  refine answerReply_kept ?_
  refine takeReply_kept ?_
  assumption

theorem execRemask_kept {s0 : State} {s : State} (hs : Kept s0 s) :
    KeptOut s0 (execRemask s) := by
  unfold execRemask
  refine onlyIf_kept ?_ ?_
  · intro q1 q2
    refine remask_kept ?_
    assumption
  · assumption

theorem execOtpKill_kept {s0 : State} {m : Master} {w : Word} {s : State} (hs : Kept s0 s) :
    KeptOut s0 (execOtpKill m w s) := by
  unfold execOtpKill
  refine cmdWrite_kept ?_ ?_
  · intro q1 q2
    refine otpWrite_kept ?_
    assumption
  · assumption

theorem execCryptoJobDone_kept {s0 : State} {s : State} (hs : Kept s0 s) :
    KeptOut s0 (execCryptoJobDone s) := by
  unfold execCryptoJobDone
  refine onlyIf_kept ?_ ?_
  · intro q1 q2
    refine showWell_kept ?_
    refine startJobs_kept ?_
    refine releaseSlots_kept ?_
    refine updWell_kept ?_ ?_ ?_ ?_ ?_ ?_
    · assumption
    · rfl
    · rfl
    · rfl
    · rfl
    · rfl
  · assumption

theorem trngFail_kept {s0 : State} {s : State} (hs : Kept s0 s) :
    Kept s0 (trngFail s) := by
  unfold trngFail
  extract_lets y1 y2
  clear_value y1
  have hy2 : Kept s0 y2 := by
    unfold y2
    refine occurrence_kept ?_
    refine raise_kept ?_
    refine put_kept ?_
    assumption
  clear_value y2
  refine Kept.ite ?_ ?_
  · refine raise_kept ?_
    refine put_kept ?_
    assumption
  · assumption

theorem execTrngSeed_kept {s0 : State} {raw : List Bool} {s : State} (hs : Kept s0 s) :
    KeptOut s0 (execTrngSeed raw s) := by
  unfold execTrngSeed
  refine onlyIf_kept ?_ ?_
  · intro q1 q2
    extract_lets y1 y2 y3 y4 y5
    clear_value y1
    clear_value y2
    have hy3 : Kept s0 y3 := by
      unfold y3
      refine updWell_kept ?_ ?_ ?_ ?_ ?_ ?_
      · assumption
      · rfl
      · rfl
      · rfl
      · rfl
      · rfl
    clear_value y3
    have hy4 : Kept s0 y4 := by
      unfold y4
      refine addSat_kept ?_
      refine addSat_kept ?_
      assumption
    clear_value y4
    have hy5 : Kept s0 y5 := by
      unfold y5
      refine Kept.foldl ?_ ?_
      · intro q3 q4 q5
        refine trngFail_kept ?_
        assumption
      · assumption
    clear_value y5
    refine Kept.ite ?_ ?_
    · assumption
    · refine Kept.ite ?_ ?_
      · refine put_kept ?_
        assumption
      · refine seedDrbg_kept ?_
        assumption
  · assumption

theorem execDrbgReseed_kept {s0 : State} {s : State} (hs : Kept s0 s) :
    KeptOut s0 (execDrbgReseed s) := by
  unfold execDrbgReseed
  refine onlyIf_kept ?_ ?_
  · intro q1 q2
    refine seedDrbg_kept ?_
    assumption
  · assumption

end Sys2Proof.Machine
end

