-- ==== Sys2Proof/Laws/KeptToken.lean ====
section
/-! SUPPORT. `Kept` for every operation of Machine/Token.lean: what each of them leaves as it is (the canonical form of the state,
the queue, the identity OTP), cited in place of unfolding it. -/
namespace Sys2Proof.Machine

theorem logRef_kept {s0 : State} {b : List Byte} {s : State} (hs : Kept s0 s) :
    Kept s0 (logRef b s) := by
  unfold logRef
  extract_lets y1
  have hy1 : Kept s0 y1.2 := by
    unfold y1
    refine fresh_kept ?_
    assumption
  clear_value y1
  refine legalEvent_kept ?_
  assumption

theorem remoteToken_kept {s0 : State} {b : List Byte} {s : State} (hs : Kept s0 s) :
    Kept s0 (remoteToken b s).2.2 := by
  unfold remoteToken
  split
  · refine Kept.mkThd ?_
    refine Kept.mkSnd ?_
    assumption
  · split
    · extract_lets y1
      clear_value y1
      refine Kept.iteThd ?_ ?_
      · refine Kept.mkThd ?_
        refine Kept.mkSnd ?_
        assumption
      · refine Kept.mkThd ?_
        refine Kept.mkSnd ?_
        refine logRef_kept ?_
        refine endEmergency_kept ?_
        refine updCredit_kept ?_
        assumption
    · refine Kept.mkThd ?_
      refine Kept.mkSnd ?_
      assumption

theorem recordTid_kept {s0 : State} {tid : ℕ} {source : ℕ} {s : State} (hs : Kept s0 s) :
    Kept s0 (recordTid tid source s) := by
  unfold recordTid
  refine updCredit_kept ?_
  assumption

theorem accepted_kept {s0 : State} {tid : ℕ} {t : Token} {s : State} (hs : Kept s0 s) :
    Kept s0 (accepted tid t s) := by
  unfold accepted
  refine endEmergency_kept ?_
  refine recordTid_kept ?_
  assumption

theorem creditToken_kept {s0 : State} {n : ℕ} {tid : ℕ} {t : Token} {s : State} (hs : Kept s0 s) :
    Kept s0 (creditToken n tid t s).2.2 := by
  unfold creditToken
  split
  · refine Kept.mkThd ?_
    refine Kept.mkSnd ?_
    assumption
  · extract_lets y1
    clear_value y1
    refine Kept.iteThd ?_ ?_
    · refine Kept.mkThd ?_
      refine Kept.mkSnd ?_
      assumption
    · refine Kept.mkThd ?_
      refine Kept.mkSnd ?_
      refine accepted_kept ?_
      refine updCredit_kept ?_
      assumption

theorem limitToken_kept {s0 : State} {n : ℕ} {tid : ℕ} {t : Token} {s : State} (hs : Kept s0 s) :
    Kept s0 (limitToken n tid t s).2.2 := by
  unfold limitToken
  extract_lets y1 y2
  have hy1 : Kept s0 y1 := by
    unfold y1
    refine updCredit_kept ?_
    assumption
  clear_value y1
  have hy2 : Kept s0 y2 := by
    unfold y2
    refine Kept.ite ?_ ?_
    · refine raise_kept ?_
      refine put_kept ?_
      assumption
    · assumption
  clear_value y2
  refine Kept.mkThd ?_
  refine Kept.mkSnd ?_
  refine accepted_kept ?_
  assumption

theorem updPay_kept {s0 : State} {f : PaySt → PaySt} {s : State} (hs : Kept s0 s) :
    Kept s0 (updPay f s) := by
  unfold updPay
  exact hs.upd rfl rfl rfl rfl rfl rfl rfl rfl rfl

theorem clearToken_kept {s0 : State} {tid : ℕ} {t : Token} {s : State} (hs : Kept s0 s) :
    Kept s0 (clearToken tid t s).2.2 := by
  unfold clearToken
  refine Kept.iteThd ?_ ?_
  · refine Kept.mkThd ?_
    refine Kept.mkSnd ?_
    assumption
  · refine Kept.mkThd ?_
    refine Kept.mkSnd ?_
    refine accepted_kept ?_
    refine updPay_kept ?_
    refine updCredit_kept ?_
    assumption

theorem tamperToken_kept {s0 : State} {tid : ℕ} {t : Token} {s : State} (hs : Kept s0 s) :
    Kept s0 (tamperToken tid t s).2.2 := by
  unfold tamperToken
  extract_lets y1
  have hy1 : Kept s0 y1 := by
    unfold y1
    refine Kept.foldl ?_ ?_
    · intro q1 q2 q3
      refine Kept.ite ?_ ?_
      · refine clearLasting_kept ?_
        assumption
      · assumption
    · assumption
  clear_value y1
  refine Kept.mkThd ?_
  refine Kept.mkSnd ?_
  refine accepted_kept ?_
  refine updRly_kept ?_
  assumption

theorem keepSection_kept {s0 : State} {sub : ℕ} {content : ℕ} {tid : ℕ} {t : Token} {s : State} (hs : Kept s0 s) :
    Kept s0 (keepSection sub content tid t s) := by
  unfold keepSection
  refine updPay_kept ?_
  assumption

theorem stagedKey_kept {s0 : State} {s : State} (hs : Kept s0 s) :
    Kept s0 (stagedKey s).2 := by
  unfold stagedKey
  split
  · refine loadKey_kept ?_
    assumption
  · refine Kept.mkSnd ?_
    assumption

theorem sectionToken_kept {s0 : State} {sub : ℕ} {content : ℕ} {tid : ℕ} {t : Token} {s : State} (hs : Kept s0 s) :
    Kept s0 (sectionToken sub content tid t s).2.2 := by
  unfold sectionToken
  extract_lets y1 y2 y3 y4 y5 y6 y7 y8 y9
  have hy1 : Kept s0 y1 := by
    unfold y1
    assumption
  clear_value y1
  have hy2 : Kept s0 y2 := by
    unfold y2
    refine keepSection_kept ?_
    assumption
  clear_value y2
  clear_value y3
  have hy4 : Kept s0 y4.2 := by
    unfold y4
    refine stagedKey_kept ?_
    assumption
  clear_value y4
  have hy5 : Kept s0 y5 := by
    unfold y5
    assumption
  clear_value y5
  clear_value y6
  clear_value y7
  clear_value y8
  have hy9 : Kept s0 y9 := by
    unfold y9
    refine updPay_kept ?_
    assumption
  clear_value y9
  refine Kept.iteThd ?_ ?_
  · refine Kept.mkThd ?_
    refine Kept.mkSnd ?_
    assumption
  · split
    · refine Kept.iteThd ?_ ?_
      · refine Kept.mkThd ?_
        refine Kept.mkSnd ?_
        assumption
      · refine Kept.iteThd ?_ ?_
        · refine Kept.mkThd ?_
          refine Kept.mkSnd ?_
          assumption
        · refine Kept.mkThd ?_
          refine Kept.mkSnd ?_
          refine activateDecoder_kept ?_
          refine updPay_kept ?_
          assumption
    · refine Kept.mkThd ?_
      refine Kept.mkSnd ?_
      assumption

theorem actToken_kept {s0 : State} {t : Token} {cls : ℕ} {sub : ℕ} {tid : ℕ} {content : ℕ} {s : State} (hs : Kept s0 s) :
    Kept s0 (actToken t cls sub tid content s).2.2 := by
  unfold actToken
  extract_lets y1 y2 y3
  clear_value y1
  clear_value y2
  clear_value y3
  refine Kept.iteThd ?_ ?_
  · refine Kept.mkThd ?_
    refine Kept.mkSnd ?_
    assumption
  · refine Kept.iteThd ?_ ?_
    · refine Kept.mkThd ?_
      refine Kept.mkSnd ?_
      assumption
    · refine Kept.iteThd ?_ ?_
      · refine Kept.mkThd ?_
        refine Kept.mkSnd ?_
        assumption
      · refine Kept.iteThd ?_ ?_
        · refine creditToken_kept ?_
          assumption
        · refine Kept.iteThd ?_ ?_
          · refine limitToken_kept ?_
            assumption
          · refine Kept.iteThd ?_ ?_
            · refine clearToken_kept ?_
              assumption
            · refine Kept.iteThd ?_ ?_
              · refine tamperToken_kept ?_
                assumption
              · refine sectionToken_kept ?_
                assumption

theorem decodeToken_kept {s0 : State} {t : Token} {s : State} (hs : Kept s0 s) :
    Kept s0 (decodeToken t s).2.2 := by
  unfold decodeToken
  split
  · split
    · refine Kept.mkThd ?_
      refine Kept.mkSnd ?_
      assumption
    · refine actToken_kept ?_
      assumption
  · refine Kept.mkThd ?_
    refine Kept.mkSnd ?_
    assumption

theorem tokenOutcome_kept {s0 : State} {t : Token} {s : State} (hs : Kept s0 s) :
    Kept s0 (tokenOutcome t s).2.2 := by
  unfold tokenOutcome
  refine Kept.iteThd ?_ ?_
  · refine Kept.mkThd ?_
    refine Kept.mkSnd ?_
    assumption
  · refine Kept.iteThd ?_ ?_
    · refine Kept.mkThd ?_
      refine Kept.mkSnd ?_
      assumption
    · split
      · refine remoteToken_kept ?_
        assumption
      · refine decodeToken_kept ?_
        assumption

theorem answerToken_kept {s0 : State} {r : Reply} {code : ℕ} {s : State} (hs : Kept s0 s) :
    Kept s0 (answerToken r code s) := by
  unfold answerToken
  split
  · refine answerObject_kept ?_
    assumption
  · refine respond_kept ?_
    assumption
  · assumption

theorem postToken_kept {s0 : State} {code : ℕ} {cls : ℕ × ℕ} {t : Token} {s : State} (hs : Kept s0 s) :
    Kept s0 (postToken code cls t s) := by
  unfold postToken
  extract_lets y1 y2
  have hy1 : Kept s0 y1 := by
    unfold y1
    refine put_kept ?_
    refine put_kept ?_
    refine put_kept ?_
    refine put_kept ?_
    refine put_kept ?_
    assumption
  clear_value y1
  have hy2 : Kept s0 y2 := by
    unfold y2
    refine Kept.ite ?_ ?_
    · refine writeCredit_kept ?_
      assumption
    · assumption
  clear_value y2
  refine showCredit_kept ?_
  refine answerToken_kept ?_
  refine raise_kept ?_
  assumption

theorem decodeLoad_kept {s0 : State} {t : Token} {s : State} (hs : Kept s0 s) :
    Kept s0 (decodeLoad t s).2 := by
  unfold decodeLoad
  refine Kept.iteSnd ?_ ?_
  · refine Kept.iteSnd ?_ ?_
    · refine loadNamed_kept ?_
      assumption
    · refine Kept.mkSnd ?_
      assumption
  · split
    · refine Kept.mkSnd ?_
      assumption
    · refine loadKey_kept ?_
      assumption

theorem nextToken_kept {s0 : State} {s : State} (hs : Kept s0 s) :
    Kept s0 (nextToken s) := by
  unfold nextToken
  split
  · refine Kept.ite ?_ ?_
    · assumption
    · extract_lets y1
      have hy1 : Kept s0 y1.2 := by
        unfold y1
        refine decodeLoad_kept ?_
        assumption
      clear_value y1
      refine showCredit_kept ?_
      refine updPay_kept ?_
      assumption
  · assumption

theorem queueToken_kept {s0 : State} {t : Token} {s : State} (hs : Kept s0 s) :
    Kept s0 (queueToken t s) := by
  unfold queueToken
  refine Kept.ite ?_ ?_
  · refine postToken_kept ?_
    assumption
  · refine showCredit_kept ?_
    refine nextToken_kept ?_
    refine updPay_kept ?_
    assumption

theorem abandonTokens_kept {s0 : State} {s : State} (hs : Kept s0 s) :
    Kept s0 (abandonTokens s) := by
  unfold abandonTokens
  extract_lets y1
  clear_value y1
  refine Kept.foldl ?_ ?_
  · intro q1 q2 q3
    refine postToken_kept ?_
    assumption
  · refine updPay_kept ?_
    assumption

theorem payTokenWrite_kept {s0 : State} {w : Word} {s : State} (hs : Kept s0 s) :
    Kept s0 (payTokenWrite w s) := by
  unfold payTokenWrite
  extract_lets y1
  have hy1 : Kept s0 y1 := by
    unfold y1
    refine Kept.ite ?_ ?_
    · refine queueToken_kept ?_
      assumption
    · assumption
  clear_value y1
  refine Kept.ite ?_ ?_
  · refine requestEc_kept ?_
    assumption
  · assumption

theorem finishToken_kept {s0 s : State} {t : Token} {r : TokenOut} (hr : Kept s0 r.2.2) (hs : Kept s0 s) :
    Kept s0 (finishToken t r s) := by
  unfold finishToken
  extract_lets y1
  have h1 : Kept s0 y1 := releaseSlots_kept (updPay_kept hr)
  clear_value y1
  split
  · exact nextToken_kept (postToken_kept h1)
  · exact Kept.ite h1 hs

theorem execTokenSubmit_kept {s0 : State} {m : Master} {w : Word} {s : State} (hs : Kept s0 s) :
    KeptOut s0 (execTokenSubmit m w s) := by
  unfold execTokenSubmit
  refine cmdWrite_kept ?_ ?_
  · intro q1 q2
    refine payTokenWrite_kept ?_
    assumption
  · assumption

theorem finishActivation_kept {s0 : State} {s : State} (hs : Kept s0 s) :
    Kept s0 (finishActivation s) := by
  unfold finishActivation
  split
  · assumption
  · extract_lets y1
    have hy1 : Kept s0 y1 := by
      unfold y1
      refine Kept.foldl ?_ ?_
      · intro q1 q2 q3
        refine recordTid_kept ?_
        assumption
      · refine updCredit_kept ?_
        assumption
    clear_value y1
    refine nextToken_kept ?_
    refine postToken_kept ?_
    refine raise_kept ?_
    refine updPay_kept ?_
    assumption

theorem execKeyUpdateCommit_kept {s0 : State} {s : State} (hs : Kept s0 s) :
    KeptOut s0 (execKeyUpdateCommit s) := by
  unfold execKeyUpdateCommit
  split
  · refine KeptOut.next ?_
    assumption
  · split
    · refine KeptOut.next ?_
      assumption
    · refine onlyIf_kept ?_ ?_
      · intro q1 q2
        extract_lets y1
        have hy1 : Kept s0 y1 := by
          unfold y1
          refine kuCommit_kept ?_
          assumption
        clear_value y1
        refine Kept.ite ?_ ?_
        · refine finishActivation_kept ?_
          assumption
        · assumption
      · assumption

theorem execRemoteCredit_kept {s0 : State} {bytes : List Byte} {source : ℕ} {reply : Reply} {s : State} (hs : Kept s0 s) :
    KeptOut s0 (execRemoteCredit bytes source reply s) := by
  unfold execRemoteCredit
  refine onlyIf_kept ?_ ?_
  · intro q1 q2
    refine queueToken_kept ?_
    assumption
  · assumption

theorem execTokenDecodeDone_kept {s0 : State} {s : State} (hs : Kept s0 s) :
    KeptOut s0 (execTokenDecodeDone s) := by
  unfold execTokenDecodeDone
  split
  · refine KeptOut.next ?_
    assumption
  · refine onlyIf_kept ?_ ?_
    · intro q1 q2
      refine finishToken_kept ?_ ?_
      · refine tokenOutcome_kept ?_
        assumption
      · assumption
    · assumption

theorem execEcRequest_kept {s0 : State} {m : Master} {w : Word} {s : State} (hs : Kept s0 s) :
    KeptOut s0 (execEcRequest m w s) := by
  unfold execEcRequest
  refine cmdWrite_kept ?_ ?_
  · intro q1 q2
    refine payTokenWrite_kept ?_
    assumption
  · assumption

theorem execKeySectionsExpire_kept {s0 : State} {s : State} (hs : Kept s0 s) :
    KeptOut s0 (execKeySectionsExpire s) := by
  unfold execKeySectionsExpire
  refine onlyIf_kept ?_ ?_
  · intro q1 q2
    refine updPay_kept ?_
    assumption
  · assumption

end Sys2Proof.Machine
end

