-- ==== Sys2Proof/Laws/KeptPanel.lean ====
section
/-! SUPPORT. `Kept` for every operation of Machine/Panel.lean: what each of them leaves as it is (the canonical form of the state,
the queue, the identity OTP), cited in place of unfolding it. -/
namespace Sys2Proof.Machine

theorem updPnl_kept {s0 : State} {f : PnlSt → PnlSt} {s : State} (hs : Kept s0 s) :
    Kept s0 (updPnl f s) := by
  unfold updPnl
  exact hs.upd rfl rfl rfl rfl rfl rfl rfl rfl rfl

theorem showKeys_kept {s0 : State} {s : State} (hs : Kept s0 s) :
    Kept s0 (showKeys s) := by
  unfold showKeys
  refine wr_kept ?_
  refine put_kept ?_
  assumption

theorem keyEvent_kept {s0 : State} {code : ℕ} {press : Bool} {s : State} (hs : Kept s0 s) :
    Kept s0 (keyEvent code press s) := by
  unfold keyEvent
  extract_lets y1 y2 y3
  have hy1 : Kept s0 y1.2 := by
    unfold y1
    refine fresh_kept ?_
    assumption
  clear_value y1
  clear_value y2
  have hy3 : Kept s0 y3 := by
    unfold y3
    refine updPnl_kept ?_
    assumption
  clear_value y3
  refine Kept.ite ?_ ?_
  · refine raise_kept ?_
    assumption
  · refine raise_kept ?_
    refine showKeys_kept ?_
    refine updPnl_kept ?_
    assumption

theorem keyAction_kept {s0 : State} {code : ℕ} {s : State} (hs : Kept s0 s) :
    Kept s0 (keyAction code s) := by
  unfold keyAction
  extract_lets y1 y2 y3 y4 y5 y6
  clear_value y1
  clear_value y2
  have hy3 : Kept s0 y3 := by
    unfold y3
    refine updPnl_kept ?_
    assumption
  clear_value y3
  have hy4 : Kept s0 y4 := by
    unfold y4
    refine Kept.ite ?_ ?_
    · refine acceptReconnect_kept ?_
      assumption
    · assumption
  clear_value y4
  clear_value y5
  have hy6 : Kept s0 y6 := by
    unfold y6
    refine Kept.ite ?_ ?_
    · refine requestEc_kept ?_
      assumption
    · assumption
  clear_value y6
  refine Kept.ite ?_ ?_
  · split
    · refine Kept.ite ?_ ?_
      · assumption
      · refine Kept.ite ?_ ?_
        · refine sendPeer_kept ?_
          assumption
        · refine queueToken_kept ?_
          assumption
    · assumption
  · assumption

theorem popKey_kept {s0 : State} {m : Master} {s : State} (hs : Kept s0 s) :
    Kept s0 (popKey m s) := by
  unfold popKey
  split
  · assumption
  · extract_lets y1
    have hy1 : Kept s0 y1 := by
      unfold y1
      refine showKeys_kept ?_
      refine updPnl_kept ?_
      assumption
    clear_value y1
    refine Kept.ite ?_ ?_
    · refine keyAction_kept ?_
      assumption
    · assumption

theorem panelDown_kept {s0 : State} {s : State} (hs : Kept s0 s) :
    Kept s0 (panelDown s) := by
  unfold panelDown
  refine put_kept ?_
  refine updPnl_kept ?_
  assumption

theorem ctlOff_kept {s0 : State} {s : State} (hs : Kept s0 s) :
    Kept s0 (ctlOff s) := by
  unfold ctlOff
  refine Kept.ite ?_ ?_
  · assumption
  · refine panelDown_kept ?_
    assumption

theorem pnlRefuse_kept {s0 : State} {s : State} (hs : Kept s0 s) :
    Kept s0 (pnlRefuse s) := by
  unfold pnlRefuse
  refine raise_kept ?_
  assumption

theorem ctlLight_kept {s0 : State} {s : State} (hs : Kept s0 s) :
    Kept s0 (ctlLight s) := by
  unfold ctlLight
  refine Kept.ite ?_ ?_
  · refine updPnl_kept ?_
    assumption
  · refine Kept.ite ?_ ?_
    · refine updPnl_kept ?_
      assumption
    · refine pnlRefuse_kept ?_
      assumption

theorem ctlGlow_kept {s0 : State} {s : State} (hs : Kept s0 s) :
    Kept s0 (ctlGlow s) := by
  unfold ctlGlow
  refine Kept.ite ?_ ?_
  · refine updPnl_kept ?_
    assumption
  · refine pnlRefuse_kept ?_
    assumption

theorem preparePanel_kept {s0 : State} {glow : Bool} {s : State} (hs : Kept s0 s) :
    Kept s0 (preparePanel glow s) := by
  unfold preparePanel
  refine Kept.ite ?_ ?_
  · assumption
  · refine Kept.ite ?_ ?_
    · refine ctlOff_kept ?_
      assumption
    · refine Kept.ite ?_ ?_
      · refine ctlLight_kept ?_
        assumption
      · refine Kept.ite ?_ ?_
        · refine ctlGlow_kept ?_
          assumption
        · assumption

theorem execKeypadScan_kept {s0 : State} {keys : ℕ} {s : State} (hs : Kept s0 s) :
    KeptOut s0 (execKeypadScan keys s) := by
  unfold execKeypadScan
  refine onlyIf_kept ?_ ?_
  · intro q1 q2
    extract_lets y1 y2
    have hy1 : Kept s0 y1 := by
      unfold y1
      refine updPnl_kept ?_
      assumption
    clear_value y1
    have hy2 : Kept s0 y2 := by
      unfold y2
      refine raise_kept ?_
      assumption
    clear_value y2
    refine Kept.ite ?_ ?_
    · split
      · refine keyEvent_kept ?_
        refine putBit_kept ?_
        assumption
      · refine keyEvent_kept ?_
        assumption
    · assumption
  · assumption

theorem ctlOn_kept {s0 : State} {s : State} (hs : Kept s0 s) :
    Kept s0 (ctlOn s) := by
  unfold ctlOn
  refine Kept.ite ?_ ?_
  · refine pnlRefuse_kept ?_
    assumption
  · refine put_kept ?_
    refine put_kept ?_
    refine updPnl_kept ?_
    assumption

theorem pnlCtlWrite_kept {s0 : State} {w : Word} {s : State} (hs : Kept s0 s) :
    Kept s0 (pnlCtlWrite w s) := by
  unfold pnlCtlWrite
  refine Kept.ite ?_ ?_
  · assumption
  · extract_lets y1 y2 y3
    have hy1 : Kept s0 y1 := by
      unfold y1
      refine Kept.ite ?_ ?_
      · refine ctlOn_kept ?_
        assumption
      · assumption
    clear_value y1
    have hy2 : Kept s0 y2 := by
      unfold y2
      refine Kept.ite ?_ ?_
      · refine ctlLight_kept ?_
        assumption
      · assumption
    clear_value y2
    have hy3 : Kept s0 y3 := by
      unfold y3
      refine Kept.ite ?_ ?_
      · refine ctlGlow_kept ?_
        assumption
      · assumption
    clear_value y3
    refine Kept.ite ?_ ?_
    · refine ctlOff_kept ?_
      assumption
    · assumption

theorem ramWrite_kept {s0 : State} {k : ℕ} {w : Word} {s : State} (hs : Kept s0 s) :
    Kept s0 (ramWrite k w s) := by
  unfold ramWrite
  refine Kept.ite ?_ ?_
  · refine pnlRefuse_kept ?_
    assumption
  · refine plainWrite_kept ?_
    assumption

theorem execPanelLight_kept {s0 : State} {m : Master} {w : Word} {s : State} (hs : Kept s0 s) :
    KeptOut s0 (execPanelLight m w s) := by
  unfold execPanelLight
  refine cmdWrite_kept ?_ ?_
  · intro q1 q2
    refine pnlCtlWrite_kept ?_
    assumption
  · assumption

theorem clearRam_kept {s0 s : State} (hs : Kept s0 s) : Kept s0 (clearRam s) := hs.regs (sparseFilter_wf _ _)

theorem panelFastOff_kept {s0 : State} {s : State} (hs : Kept s0 s) :
    Kept s0 (panelFastOff s) := by
  unfold panelFastOff
  refine Kept.ite ?_ ?_
  · assumption
  · extract_lets y1
    have hy1 : Kept s0 y1 := by
      unfold y1
      refine updPnl_kept ?_
      assumption
    clear_value y1
    refine raise_kept ?_
    refine clearRam_kept ?_
    refine put_kept ?_
    refine put_kept ?_
    assumption

theorem execPanelOff_kept {s0 : State} {m : Master} {w : Word} {s : State} (hs : Kept s0 s) :
    KeptOut s0 (execPanelOff m w s) := by
  unfold execPanelOff
  refine cmdWrite_kept ?_ ?_
  · intro q1 q2
    refine pnlCtlWrite_kept ?_
    assumption
  · assumption

theorem execPanelRamWrite_kept {s0 : State} {m : Master} {k : ℕ} {w : Word} {s : State} (hs : Kept s0 s) :
    KeptOut s0 (execPanelRamWrite m k w s) := by
  unfold execPanelRamWrite
  refine KeptOut.ite ?_ ?_
  · refine cmdWrite_kept ?_ ?_
    · intro q1 q2
      refine ramWrite_kept ?_
      assumption
    · assumption
  · refine KeptOut.next ?_
    assumption

theorem execKeyPress_kept {s0 : State} {code : ℕ} {s : State} (hs : Kept s0 s) :
    KeptOut s0 (execKeyPress code s) := by
  unfold execKeyPress
  refine onlyIf_kept ?_ ?_
  · intro q1 q2
    refine Kept.ite ?_ ?_
    · refine raise_kept ?_
      assumption
    · refine keyEvent_kept ?_
      refine putBit_kept ?_
      assumption
  · assumption

theorem execPumpFault_kept {s0 : State} {k : ℕ} {s : State} (hs : Kept s0 s) :
    KeptOut s0 (execPumpFault k s) := by
  unfold execPumpFault
  refine onlyIf_kept ?_ ?_
  · intro q1 q2
    refine panelDown_kept ?_
    refine raise_kept ?_
    refine putBit_kept ?_
    assumption
  · assumption

theorem execPanelOn_kept {s0 : State} {m : Master} {w : Word} {s : State} (hs : Kept s0 s) :
    KeptOut s0 (execPanelOn m w s) := by
  unfold execPanelOn
  refine cmdWrite_kept ?_ ?_
  · intro q1 q2
    refine pnlCtlWrite_kept ?_
    assumption
  · assumption

theorem execPumpInRegulation_kept {s0 : State} {s : State} (hs : Kept s0 s) :
    KeptOut s0 (execPumpInRegulation s) := by
  unfold execPumpInRegulation
  refine onlyIf_kept ?_ ?_
  · intro q1 q2
    refine Kept.ite ?_ ?_
    · refine updPnl_kept ?_
      assumption
    · extract_lets y1
      have hy1 : Kept s0 y1 := by
        unfold y1
        refine putBit_kept ?_
        refine updPnl_kept ?_
        assumption
      clear_value y1
      refine Kept.ite ?_ ?_
      · assumption
      · refine raise_kept ?_
        refine put_kept ?_
        refine clearRam_kept ?_
        assumption
  · assumption

theorem execPanelGlow_kept {s0 : State} {m : Master} {w : Word} {s : State} (hs : Kept s0 s) :
    KeptOut s0 (execPanelGlow m w s) := by
  unfold execPanelGlow
  refine cmdWrite_kept ?_ ?_
  · intro q1 q2
    refine pnlCtlWrite_kept ?_
    assumption
  · assumption

theorem execPanelFrameEnd_kept {s0 : State} {s : State} (hs : Kept s0 s) :
    KeptOut s0 (execPanelFrameEnd s) := by
  unfold execPanelFrameEnd
  refine onlyIf_kept ?_ ?_
  · intro q1 q2
    extract_lets y1 y2
    have hy1 : Kept s0 y1 := by
      unfold y1
      refine put_kept ?_
      assumption
    clear_value y1
    have hy2 : Kept s0 y2 := by
      unfold y2
      refine updPnl_kept ?_
      assumption
    clear_value y2
    refine Kept.ite ?_ ?_
    · refine raise_kept ?_
      refine clearRam_kept ?_
      refine put_kept ?_
      refine put_kept ?_
      refine updPnl_kept ?_
      assumption
    · refine Kept.ite ?_ ?_
      · refine raise_kept ?_
        refine put_kept ?_
        refine updPnl_kept ?_
        assumption
      · refine Kept.ite ?_ ?_
        · refine put_kept ?_
          refine updPnl_kept ?_
          assumption
        · assumption
  · assumption

theorem execBlinkPhase_kept {s0 : State} {sub : ℕ} {s : State} (hs : Kept s0 s) :
    KeptOut s0 (execBlinkPhase sub s) := by
  unfold execBlinkPhase
  refine onlyIf_kept ?_ ?_
  · intro q1 q2
    refine updPnl_kept ?_
    assumption
  · assumption

theorem execKeyRelease_kept {s0 : State} {code : ℕ} {s : State} (hs : Kept s0 s) :
    KeptOut s0 (execKeyRelease code s) := by
  unfold execKeyRelease
  refine onlyIf_kept ?_ ?_
  · intro q1 q2
    refine keyEvent_kept ?_
    refine putBit_kept ?_
    assumption
  · assumption

end Sys2Proof.Machine
end

