-- ==== Sys2Proof/Laws/KeptFabric.lean ====
section
/-! SUPPORT. `Kept` for every operation of Machine/Fabric.lean: what each of them leaves as it is (the canonical form of the state,
the queue, the identity OTP), cited in place of unfolding it. -/
namespace Sys2Proof.Machine

theorem linkKeys_kept {s0 s : State} {k enc mac : Nat} (hs : Kept s0 s) : Kept s0 (linkKeys k enc mac s).2 := by
  unfold linkKeys
  split
  · exact hs
  · next e _ =>
    have ha : Kept s0 (loadNamed (some e.1) (4, enc) s).2 := loadNamed_kept hs
    have hb : Kept s0 (loadNamed (some e.2) (4, mac) (loadNamed (some e.1) (4, enc) s).2).2 := loadNamed_kept ha
    simp only
    split
    · split
      · exact hb
      · exact hb
    · exact ha

theorem loadRescue_kept {s0 : State} {s : State} (hs : Kept s0 s) :
    Kept s0 (loadRescue s) := by
  unfold loadRescue
  refine put_kept ?_
  refine put_kept ?_
  refine put_kept ?_
  assumption

theorem enterRescue_kept {s0 : State} {keep : Bool} {s : State} (hs : Kept s0 s) :
    Kept s0 (enterRescue keep s) := by
  unfold enterRescue
  refine raise_kept ?_
  refine loadRescue_kept ?_
  refine put_kept ?_
  refine put_kept ?_
  refine updFab_kept ?_
  assumption

theorem fabFault_kept {s0 : State} {s : State} (hs : Kept s0 s) :
    Kept s0 (fabFault s) := by
  unfold fabFault
  extract_lets y1 y2
  clear_value y1
  have hy2 : Kept s0 y2 := by
    unfold y2
    refine occurrence_kept ?_
    assumption
  clear_value y2
  refine Kept.ite ?_ ?_
  · refine enterRescue_kept ?_
    refine showFab_kept ?_
    refine updFab_kept ?_
    assumption
  · assumption

theorem hearNeighbour_kept {s0 : State} {i : RxInfo} {f : FabFrame} {s : State} (hs : Kept s0 s) :
    Kept s0 (hearNeighbour i f s) := by
  unfold hearNeighbour
  extract_lets y1 y2 y3
  clear_value y1
  clear_value y2
  clear_value y3
  refine showFab_kept ?_
  refine updFab_kept ?_
  assumption

theorem takeFrame_kept {s0 : State} {fcsOk : Bool} {micOk : ℕ → Bool} {i : RxInfo} {f : FabFrame} {s : State} (hs : Kept s0 s) :
    Kept s0 (takeFrame fcsOk micOk i f s).2 := by
  unfold takeFrame
  refine Kept.iteSnd ?_ ?_
  · refine Kept.mkSnd ?_
    assumption
  · extract_lets y1 y2
    have hy1 : Kept s0 y1.2 := by
      unfold y1
      refine linkKeys_kept ?_
      assumption
    clear_value y1
    have hy2 : Kept s0 y2 := by
      unfold y2
      refine hearNeighbour_kept ?_
      assumption
    clear_value y2
    split
    · refine Kept.mkSnd ?_
      assumption
    · refine Kept.iteSnd ?_ ?_
      · refine Kept.mkSnd ?_
        refine fabFault_kept ?_
        refine raise_kept ?_
        refine countFrame_kept ?_
        assumption
      · refine Kept.iteSnd ?_ ?_
        · refine Kept.mkSnd ?_
          refine countFrame_kept ?_
          assumption
        · refine Kept.mkSnd ?_
          assumption

theorem accept_kept {s0 : State} {i : RxInfo} {f : FabFrame} {s : State} (hs : Kept s0 s) :
    Kept s0 (accept i f s).2 := by
  unfold accept
  refine Kept.iteSnd ?_ ?_
  · refine Kept.mkSnd ?_
    assumption
  · refine takeFrame_kept ?_
    refine rxReport_kept ?_
    assumption

theorem onFrame_kept {s0 : State} {i : RxInfo} {f : FabFrame} {eff : State → State} {s : State} (heff : ∀ x0, Kept s0 x0 → Kept s0 (eff x0)) (hs : Kept s0 s) :
    KeptOut s0 (onFrame i f eff s) := by
  unfold onFrame
  extract_lets y1
  have hy1 : Kept s0 y1.2 := by
    unfold y1
    refine accept_kept ?_
    assumption
  clear_value y1
  refine KeptOut.next ?_
  refine Kept.ite ?_ ?_
  · refine heff _ ?_
    assumption
  · assumption

theorem sendFrame_kept {s0 s : State} {t : TxFrame} (hs : Kept s0 s) : Kept s0 (sendFrame t s) := by
  unfold sendFrame
  extract_lets k
  have hk : Kept s0 k.2 := linkKeys_kept hs
  clear_value k
  split
  · exact hk
  · split
    · exact hk
    · next h => exact handToE9_kept (makeFrame_kept hk h)

theorem sendNow_kept {s0 : State} {bandC : Bool} {f : FabFrame} {s : State} (hs : Kept s0 s) :
    Kept s0 (sendNow bandC f s) := by
  unfold sendNow
  refine sendFrame_kept ?_
  assumption

theorem takeAddress_kept {s0 : State} {a : ℕ} {s : State} (hs : Kept s0 s) :
    Kept s0 (takeAddress a s) := by
  unfold takeAddress
  extract_lets y1 y2 y3
  clear_value y1
  have hy2 : Kept s0 y2 := by
    unfold y2
    refine put_kept ?_
    refine put_kept ?_
    refine updFab_kept ?_
    assumption
  clear_value y2
  have hy3 : Kept s0 y3 := by
    unfold y3
    refine raise_kept ?_
    refine writeFabRec_kept ?_
    assumption
  clear_value y3
  refine Kept.ite ?_ ?_
  · refine closeSession_kept ?_
    assumption
  · assumption

theorem firstSeen_kept {s0 : State} {n : Node} {k : ℕ} {s : State} (hs : Kept s0 s) :
    Kept s0 (firstSeen n k s).2 := by
  unfold firstSeen
  extract_lets y1
  clear_value y1
  refine Kept.iteSnd ?_ ?_
  · refine Kept.mkSnd ?_
    assumption
  · refine Kept.mkSnd ?_
    refine updFab_kept ?_
    assumption

theorem learnRoute_kept {s0 : State} {f : FabFrame} {s : State} (hs : Kept s0 s) :
    Kept s0 (learnRoute f s) := by
  unfold learnRoute
  split
  · assumption
  · refine Kept.ite ?_ ?_
    · assumption
    · extract_lets y1 y2
      clear_value y1
      have hy2 : Kept s0 y2.2 := by
        unfold y2
        refine fresh_kept ?_
        assumption
      clear_value y2
      refine Kept.ite ?_ ?_
      · assumption
      · refine addRoute_kept ?_
        assumption

theorem relay_kept {s0 : State} {f : FabFrame} {s : State} (hs : Kept s0 s) :
    Kept s0 (relay f s) := by
  unfold relay
  refine Kept.ite ?_ ?_
  · assumption
  · refine countFrame_kept ?_
    refine queueFrame_kept ?_
    assumption

theorem execRouteRequest_kept {s0 : State} {i : RxInfo} {f : FabFrame} {s : State} (hs : Kept s0 s) :
    KeptOut s0 (execRouteRequest i f s) := by
  unfold execRouteRequest
  refine onFrame_kept ?_ ?_
  · intro q1 q2
    split
    · extract_lets y1 y2 y3
      have hy1 : Kept s0 y1.2 := by
        unfold y1
        refine firstSeen_kept ?_
        assumption
      clear_value y1
      have hy2 : Kept s0 y2 := by
        unfold y2
        refine learnRoute_kept ?_
        assumption
      clear_value y2
      have hy3 : ∀ v0 v1 v2 v3, Kept s0 v3 → Kept s0 (y3 v0 v1 v2 v3) := by
        intro v0 v1 v2 v3 hv
        unfold y3
        refine originate_kept ?_
        assumption
      clear_value y3
      refine Kept.ite ?_ ?_
      · assumption
      · refine Kept.ite ?_ ?_
        · refine hy3 _ _ _ _ ?_
          assumption
        · split
          · refine Kept.ite ?_ ?_
            · refine hy3 _ _ _ _ ?_
              assumption
            · refine relay_kept ?_
              assumption
          · refine relay_kept ?_
            assumption
    · assumption
  · assumption

theorem takeNum_kept {s0 : State} {i : RxInfo} {n : Numbering} {s : State} (hs : Kept s0 s) :
    Kept s0 (takeNum i n s) := by
  unfold takeNum
  refine Kept.ite ?_ ?_
  · assumption
  · extract_lets y1 y2 y3
    clear_value y1
    clear_value y2
    clear_value y3
    refine showFcn_kept ?_
    refine updFab_kept ?_
    assumption

theorem advertRoute_kept {s0 : State} {n : Node} {c : ℕ} {h : ℕ × ℕ × ℕ × ℕ} {s : State} (hs : Kept s0 s) :
    Kept s0 (advertRoute n c h s) := by
  unfold advertRoute
  extract_lets y1 y2
  clear_value y1
  clear_value y2
  refine Kept.ite ?_ ?_
  · assumption
  · refine addRoute_kept ?_
    assumption

theorem sendConflict_kept {s0 : State} {a : ℕ} {e : ℕ} {s : State} (hs : Kept s0 s) :
    Kept s0 (sendConflict a e s) := by
  unfold sendConflict
  refine originate_kept ?_
  assumption

theorem refuseMessage_kept {s0 : State} {m : Message} {s : State} (hs : Kept s0 s) :
    Kept s0 (refuseMessage m s) := by
  unfold refuseMessage
  refine Kept.ite ?_ ?_
  · refine respond_kept ?_
    assumption
  · refine raise_kept ?_
    assumption

theorem holdForE2_kept {s0 : State} {bad : ℕ} {m : Message} {s : State} (hs : Kept s0 s) :
    Kept s0 (holdForE2 bad m s) := by
  unfold holdForE2
  refine Kept.ite ?_ ?_
  · refine refuseMessage_kept ?_
    assumption
  · refine wakeBy_kept ?_
    refine updFab_kept ?_
    assumption

theorem takeMessage_kept {s0 : State} {i : RxInfo} {src : Node} {dest : Dest} {b : List Byte} {s : State} (hs : Kept s0 s) :
    Kept s0 (takeMessage i src dest b s) := by
  unfold takeMessage
  extract_lets y1 y2
  clear_value y1
  clear_value y2
  refine Kept.ite ?_ ?_
  · refine raise_kept ?_
    assumption
  · refine holdForE2_kept ?_
    assumption

theorem adoptNum_kept {s0 : State} {i : RxInfo} {num : Option Numbering} {s : State} (hs : Kept s0 s) :
    Kept s0 (adoptNum i num s) := by
  unfold adoptNum
  split
  · assumption
  · refine takeNum_kept ?_
    assumption
  · refine Kept.ite ?_ ?_
    · refine takeNum_kept ?_
      assumption
    · assumption

theorem execRouteAdvertisement_kept {s0 : State} {i : RxInfo} {f : FabFrame} {s : State} (hs : Kept s0 s) :
    KeptOut s0 (execRouteAdvertisement i f s) := by
  unfold execRouteAdvertisement
  refine onFrame_kept ?_ ?_
  · intro q1 q2
    split
    · refine Kept.ite ?_ ?_
      · assumption
      · extract_lets y1
        have hy1 : Kept s0 y1 := by
          unfold y1
          refine adoptNum_kept ?_
          assumption
        clear_value y1
        split
        · assumption
        · refine Kept.foldl ?_ ?_
          · intro q3 q4 q5
            refine advertRoute_kept ?_
            assumption
          · assumption
    · assumption
  · assumption

theorem execRouteExpiry_kept {s0 : State} {s : State} (hs : Kept s0 s) :
    KeptOut s0 (execRouteExpiry s) := by
  unfold execRouteExpiry
  refine onlyIf_kept ?_ ?_
  · intro q1 q2
    refine dropRoutes_kept ?_
    assumption
  · assumption

theorem ackFrame_kept {s0 : State} {i : RxInfo} {f : FabFrame} {s : State} (hs : Kept s0 s) :
    Kept s0 (ackFrame i f s) := by
  unfold ackFrame
  refine Kept.ite ?_ ?_
  · refine sendNow_kept ?_
    assumption
  · assumption

theorem addSegment_kept {s0 : State} {i : RxInfo} {f : FabFrame} {id : ℕ} {idx : ℕ} {n : ℕ} {b : List Byte} {s : State} (hs : Kept s0 s) :
    Kept s0 (addSegment i f id idx n b s) := by
  unfold addSegment
  extract_lets y1 y2 y3 y4 y5 y6
  clear_value y2
  clear_value y3
  clear_value y4
  clear_value y5
  clear_value y6
  refine Kept.ite ?_ ?_
  · refine raise_kept ?_
    assumption
  · refine Kept.ite ?_ ?_
    · refine takeMessage_kept ?_
      refine updFab_kept ?_
      assumption
    · refine updFab_kept ?_
      assumption

theorem deliver_kept {s0 : State} {i : RxInfo} {f : FabFrame} {b : List Byte} {s : State} (hs : Kept s0 s) :
    Kept s0 (deliver i f b s) := by
  unfold deliver
  extract_lets y1
  have hy1 : Kept s0 y1 := by
    unfold y1
    refine countFrame_kept ?_
    assumption
  clear_value y1
  split
  · refine takeMessage_kept ?_
    assumption
  · refine addSegment_kept ?_
    assumption

theorem requestRoute_kept {s0 : State} {a : ℕ} {s : State} (hs : Kept s0 s) :
    Kept s0 (requestRoute a s).2 := by
  unfold requestRoute
  extract_lets y1
  clear_value y1
  refine Kept.mkSnd ?_
  refine originate_kept ?_
  refine updFab_kept ?_
  assumption

theorem forward_kept {s0 : State} {f : FabFrame} {s : State} (hs : Kept s0 s) :
    Kept s0 (forward f s) := by
  unfold forward
  split
  · refine Kept.ite ?_ ?_
    · refine countFrame_kept ?_
      assumption
    · extract_lets y1
      clear_value y1
      split
      · refine countFrame_kept ?_
        refine queueFrame_kept ?_
        refine touchRoute_kept ?_
        assumption
      · extract_lets y2
        have hy2 : Kept s0 y2.2 := by
          unfold y2
          refine requestRoute_kept ?_
          assumption
        clear_value y2
        refine updFab_kept ?_
        assumption
      · refine raise_kept ?_
        refine countFrame_kept ?_
        assumption
  · assumption

theorem execDataRx_kept {s0 : State} {i : RxInfo} {f : FabFrame} {s : State} (hs : Kept s0 s) :
    KeptOut s0 (execDataRx i f s) := by
  unfold execDataRx
  refine onFrame_kept ?_ ?_
  · intro q1 q2
    split
    · refine Kept.ite ?_ ?_
      · assumption
      · extract_lets y1 y2 y3
        have hy1 : Kept s0 y1 := by
          unfold y1
          refine learnRoute_kept ?_
          refine ackFrame_kept ?_
          assumption
        clear_value y1
        have hy2 : Kept s0 y2.2 := by
          unfold y2
          refine firstSeen_kept ?_
          assumption
        clear_value y2
        have hy3 : Kept s0 y3 := by
          unfold y3
          refine relay_kept ?_
          assumption
        clear_value y3
        split
        · refine Kept.ite ?_ ?_
          · refine deliver_kept ?_
            assumption
          · refine Kept.ite ?_ ?_
            · refine countFrame_kept ?_
              assumption
            · refine forward_kept ?_
              assumption
        · refine Kept.ite ?_ ?_
          · assumption
          · refine Kept.ite ?_ ?_
            · refine deliver_kept ?_
              assumption
            · assumption
    · assumption
  · assumption

theorem originateNum_kept {s0 : State} {s : State} (hs : Kept s0 s) :
    Kept s0 (originateNum s) := by
  unfold originateNum
  refine Kept.ite ?_ ?_
  · assumption
  · refine showFcn_kept ?_
    refine updFab_kept ?_
    assumption

theorem execClaimTimeout_kept {s0 : State} {s : State} (hs : Kept s0 s) :
    KeptOut s0 (execClaimTimeout s) := by
  unfold execClaimTimeout
  split
  · refine KeptOut.next ?_
    assumption
  · refine onlyIf_kept ?_ ?_
    · intro q1 q2
      refine originateNum_kept ?_
      refine takeAddress_kept ?_
      assumption
    · assumption

theorem learnPair_kept {s0 : State} {a : ℕ} {e : ℕ} {s : State} (hs : Kept s0 s) :
    Kept s0 (learnPair a e s) := by
  unfold learnPair
  extract_lets y1
  clear_value y1
  split
  · refine Kept.ite ?_ ?_
    · assumption
    · refine sendConflict_kept ?_
      refine sendConflict_kept ?_
      assumption
  · refine updFab_kept ?_
    assumption

theorem releaseWaiting_kept {s0 : State} {s : State} (hs : Kept s0 s) :
    Kept s0 (releaseWaiting s) := by
  unfold releaseWaiting
  extract_lets y1 y2 y3 y4 y5
  clear_value y2
  clear_value y3
  have hy4 : Kept s0 y4 := by
    unfold y4
    refine updFab_kept ?_
    assumption
  clear_value y4
  have hy5 : Kept s0 y5 := by
    unfold y5
    refine Kept.foldl ?_ ?_
    · intro q1 q2 q3
      refine sendMessage_kept ?_
      assumption
    · assumption
  clear_value y5
  refine Kept.foldl ?_ ?_
  · intro q1 q2 q3
    split
    · refine countFrame_kept ?_
      refine queueFrame_kept ?_
      assumption
    · assumption
  · assumption

theorem execAckRx_kept {s0 : State} {i : RxInfo} {f : FabFrame} {s : State} (hs : Kept s0 s) :
    KeptOut s0 (execAckRx i f s) := by
  unfold execAckRx
  refine onFrame_kept ?_ ?_
  · intro q1 q2
    split
    · refine Kept.ite ?_ ?_
      · refine updFab_kept ?_
        assumption
      · assumption
    · assumption
  · assumption

theorem execAdvertisementTimer_kept {s0 : State} {s : State} (hs : Kept s0 s) :
    KeptOut s0 (execAdvertisementTimer s) := by
  unfold execAdvertisementTimer
  refine onlyIf_kept ?_ ?_
  · intro q1 q2
    extract_lets y1 y2
    have hy1 : Kept s0 y1 := by
      unfold y1
      refine updFab_kept ?_
      assumption
    clear_value y1
    clear_value y2
    refine originate_kept ?_
    assumption
  · assumption

theorem execReassemblyTimeout_kept {s0 : State} {s : State} (hs : Kept s0 s) :
    KeptOut s0 (execReassemblyTimeout s) := by
  unfold execReassemblyTimeout
  extract_lets y1
  refine onlyIf_kept ?_ ?_
  · intro q1 q2
    refine raise_kept ?_
    refine updFab_kept ?_
    assumption
  · assumption

theorem execAddrClaim_kept {s0 : State} {s : State} (hs : Kept s0 s) :
    KeptOut s0 (execAddrClaim s) := by
  unfold execAddrClaim
  extract_lets y1
  clear_value y1
  refine onlyIf_kept ?_ ?_
  · intro q1 q2
    extract_lets y2 y3
    clear_value y2
    have hy3 : Kept s0 y3 := by
      unfold y3
      refine addSat_kept ?_
      refine updFab_kept ?_
      assumption
    clear_value y3
    refine originate_kept ?_
    assumption
  · assumption

theorem execClaimRx_kept {s0 : State} {i : RxInfo} {f : FabFrame} {s : State} (hs : Kept s0 s) :
    KeptOut s0 (execClaimRx i f s) := by
  unfold execClaimRx
  refine onFrame_kept ?_ ?_
  · intro q1 q2
    split
    · refine Kept.ite ?_ ?_
      · assumption
      · extract_lets y1 y2
        have hy1 : Kept s0 y1 := by
          unfold y1
          refine Kept.ite ?_ ?_
          · refine sendConflict_kept ?_
            assumption
          · split
            · refine Kept.ite ?_ ?_
              · refine sendConflict_kept ?_
                assumption
              · refine updFab_kept ?_
                assumption
            · refine updFab_kept ?_
              assumption
        clear_value y1
        have hy2 : Kept s0 y2.2 := by
          unfold y2
          refine firstSeen_kept ?_
          assumption
        clear_value y2
        refine Kept.ite ?_ ?_
        · refine relay_kept ?_
          assumption
        · assumption
    · assumption
  · assumption

theorem execConflictRx_kept {s0 : State} {i : RxInfo} {f : FabFrame} {s : State} (hs : Kept s0 s) :
    KeptOut s0 (execConflictRx i f s) := by
  unfold execConflictRx
  refine onFrame_kept ?_ ?_
  · intro q1 q2
    split
    · extract_lets y1 y2
      have hy1 : Kept s0 y1.2 := by
        unfold y1
        refine firstSeen_kept ?_
        assumption
      clear_value y1
      have hy2 : Kept s0 y2 := by
        unfold y2
        refine Kept.ite ?_ ?_
        · refine relay_kept ?_
          assumption
        · assumption
      clear_value y2
      refine Kept.ite ?_ ?_
      · assumption
      · refine Kept.ite ?_ ?_
        · refine updFab_kept ?_
          assumption
        · refine Kept.ite ?_ ?_
          · refine closeSession_kept ?_
            refine raise_kept ?_
            refine writeFabRec_kept ?_
            refine put_kept ?_
            refine updFab_kept ?_
            assumption
          · assumption
    · assumption
  · assumption

theorem failLink_kept {s0 : State} {n : Node} {s : State} (hs : Kept s0 s) :
    Kept s0 (failLink n s) := by
  unfold failLink
  refine dropRoutes_kept ?_
  refine updFab_kept ?_
  assumption

theorem reroute_kept {s0 : State} {t : TxFrame} {s : State} (hs : Kept s0 s) :
    Kept s0 (reroute t s) := by
  unfold reroute
  split
  · refine Kept.ite ?_ ?_
    · refine countFrame_kept ?_
      assumption
    · split
      · refine updFab_kept ?_
        assumption
      · extract_lets y1
        have hy1 : Kept s0 y1.2 := by
          unfold y1
          refine requestRoute_kept ?_
          assumption
        clear_value y1
        refine updFab_kept ?_
        assumption
      · refine raise_kept ?_
        refine countFrame_kept ?_
        assumption
  · assumption

theorem execAckTimeout_kept {s0 : State} {s : State} (hs : Kept s0 s) :
    KeptOut s0 (execAckTimeout s) := by
  unfold execAckTimeout
  split
  · refine KeptOut.next ?_
    assumption
  · refine onlyIf_kept ?_ ?_
    · intro q1 q2
      extract_lets y1 y2
      have hy1 : Kept s0 y1 := by
        unfold y1
        refine updFab_kept ?_
        assumption
      clear_value y1
      have hy2 : Kept s0 y2 := by
        unfold y2
        split
        · refine failLink_kept ?_
          assumption
        · assumption
      clear_value y2
      refine Kept.ite ?_ ?_
      · refine updFab_kept ?_
        assumption
      · refine reroute_kept ?_
        assumption
    · assumption

theorem execRouteReply_kept {s0 : State} {i : RxInfo} {f : FabFrame} {s : State} (hs : Kept s0 s) :
    KeptOut s0 (execRouteReply i f s) := by
  unfold execRouteReply
  refine onFrame_kept ?_ ?_
  · intro q1 q2
    split
    · refine Kept.ite ?_ ?_
      · assumption
      · extract_lets y1 y2 y3 y4 y5
        have hy1 : Kept s0 y1 := by
          unfold y1
          refine ackFrame_kept ?_
          assumption
        clear_value y1
        clear_value y2
        clear_value y3
        have hy4 : Kept s0 y4 := by
          unfold y4
          refine Kept.ite ?_ ?_
          · refine addRoute_kept ?_
            assumption
          · assumption
        clear_value y4
        have hy5 : Kept s0 y5 := by
          unfold y5
          refine releaseWaiting_kept ?_
          assumption
        clear_value y5
        split
        · refine Kept.ite ?_ ?_
          · assumption
          · refine forward_kept ?_
            assumption
        · assumption
    · assumption
  · assumption

theorem execRouteTimeout_kept {s0 : State} {s : State} (hs : Kept s0 s) :
    KeptOut s0 (execRouteTimeout s) := by
  unfold execRouteTimeout
  extract_lets y1
  refine onlyIf_kept ?_ ?_
  · intro q1 q2
    extract_lets y2 y3
    clear_value y2
    have hy3 : Kept s0 y3 := by
      unfold y3
      refine updFab_kept ?_
      assumption
    clear_value y3
    refine raise_kept ?_
    refine addSat_kept ?_
    assumption
  · assumption

theorem execNeighbourLost_kept {s0 : State} {s : State} (hs : Kept s0 s) :
    KeptOut s0 (execNeighbourLost s) := by
  unfold execNeighbourLost
  extract_lets y1
  refine onlyIf_kept ?_ ?_
  · intro q1 q2
    refine Kept.foldl ?_ ?_
    · intro q3 q4 q5
      refine fabFault_kept ?_
      refine raise_kept ?_
      refine dropRoutes_kept ?_
      refine updFab_kept ?_
      assumption
    · assumption
  · assumption

theorem flushHeld_kept {s0 : State} {s : State} (hs : Kept s0 s) :
    Kept s0 (flushHeld s) := by
  unfold flushHeld
  refine Kept.ite ?_ ?_
  · assumption
  · refine Kept.foldl ?_ ?_
    · intro q1 q2 q3
      refine Kept.ite ?_ ?_
      · refine queuePeer_kept ?_
        assumption
      · refine sendMessage_kept ?_
        assumption
    · refine updFab_kept ?_
      assumption

theorem sendQueued_kept {s0 : State} {t : TxFrame} {s : State} (hs : Kept s0 s) :
    Kept s0 (sendQueued t s) := by
  unfold sendQueued
  refine sendFrame_kept ?_
  refine updFab_kept ?_
  assumption

theorem execContentionSlot_kept {s0 : State} {slot : ℕ} {idle : Bool} {s : State} (hs : Kept s0 s) :
    KeptOut s0 (execContentionSlot slot idle s) := by
  unfold execContentionSlot
  refine onlyIf_kept ?_ ?_
  · intro q1 q2
    extract_lets y1 y2 y3
    have hy1 : Kept s0 y1 := by
      unfold y1
      refine flushHeld_kept ?_
      assumption
    clear_value y1
    have hy2 : Kept s0 y2.2 := by
      unfold y2
      refine linkKeys_kept ?_
      assumption
    clear_value y2
    have hy3 : Kept s0 y3 := by
      unfold y3
      split
      · refine Kept.ite ?_ ?_
        · refine sendQueued_kept ?_
          assumption
        · assumption
      · assumption
    clear_value y3
    refine Kept.ite ?_ ?_
    · assumption
    · split
      · refine Kept.ite ?_ ?_
        · refine sendQueued_kept ?_
          assumption
        · assumption
      · assumption
  · assumption

end Sys2Proof.Machine
end

