-- ==== Sys2Proof/Laws/KeptPlans.lean ====
section
/-! SUPPORT. `Kept` for every operation of Machine/Plans.lean: what each of them leaves as it is (the canonical form of the state,
the queue, the identity OTP), cited in place of unfolding it. -/
namespace Sys2Proof.Machine

theorem pendChange_kept {s0 : State} {a : Announce} {s : State} (hs : Kept s0 s) :
    Kept s0 (pendChange a s) := by
  unfold pendChange
  refine put_kept ?_
  refine put_kept ?_
  refine updFab_kept ?_
  assumption

theorem announce_kept {s0 : State} {p : ℕ} {m : ℕ} {lead : ℕ} {dur : ℕ} {s : State} (hs : Kept s0 s) :
    Kept s0 (announce p m lead dur s) := by
  unfold announce
  extract_lets y1
  clear_value y1
  refine originate_kept ?_
  refine pendChange_kept ?_
  assumption

theorem announceRequest_kept {s0 : State} {s : State} (hs : Kept s0 s) :
    Kept s0 (announceRequest s) := by
  unfold announceRequest
  extract_lets y1 y2 y3 y4 y5
  clear_value y1
  clear_value y2
  clear_value y3
  clear_value y4
  refine Kept.ite ?_ ?_
  · refine announce_kept ?_
    assumption
  · refine raise_kept ?_
    assumption

theorem fabCtlWrite_kept {s0 : State} {w : Word} {s : State} (hs : Kept s0 s) :
    Kept s0 (fabCtlWrite w s) := by
  unfold fabCtlWrite
  refine Kept.ite ?_ ?_
  · assumption
  · extract_lets y1 y2
    have hy1 : Kept s0 y1 := by
      unfold y1
      refine Kept.ite ?_ ?_
      · refine writeFabRec_kept ?_
        refine put_kept ?_
        assumption
      · assumption
    clear_value y1
    have hy2 : Kept s0 y2 := by
      unfold y2
      refine Kept.ite ?_ ?_
      · refine writeFabRec_kept ?_
        refine put_kept ?_
        assumption
      · assumption
    clear_value y2
    refine Kept.ite ?_ ?_
    · refine announceRequest_kept ?_
      assumption
    · assumption

theorem execAnnounceReq_kept {s0 : State} {m : Master} {w : Word} {s : State} (hs : Kept s0 s) :
    KeptOut s0 (execAnnounceReq m w s) := by
  unfold execAnnounceReq
  refine cmdWrite_kept ?_ ?_
  · intro q1 q2
    refine fabCtlWrite_kept ?_
    assumption
  · assumption

theorem execHeadSet_kept {s0 : State} {m : Master} {w : Word} {s : State} (hs : Kept s0 s) :
    KeptOut s0 (execHeadSet m w s) := by
  unfold execHeadSet
  refine cmdWrite_kept ?_ ?_
  · intro q1 q2
    refine fabCtlWrite_kept ?_
    assumption
  · assumption

theorem loadPlan_kept {s0 : State} {p : ℕ} {s : State} (hs : Kept s0 s) :
    Kept s0 (loadPlan p s) := by
  unfold loadPlan
  extract_lets y1
  have hy1 : Kept s0 y1 := by
    unfold y1
    refine put_kept ?_
    assumption
  clear_value y1
  split
  · assumption
  · extract_lets y2 y3 y4
    have hy2 : Kept s0 y2 := by
      unfold y2
      refine put_kept ?_
      refine put_kept ?_
      assumption
    clear_value y2
    have hy3 : Kept s0 y3 := by
      unfold y3
      refine put_kept ?_
      assumption
    clear_value y3
    have hy4 : Kept s0 y4 := by
      unfold y4
      refine put_kept ?_
      refine put_kept ?_
      refine put_kept ?_
      assumption
    clear_value y4
    refine put_kept ?_
    assumption

theorem startFabric_kept {s0 : State} {s : State} (hs : Kept s0 s) :
    Kept s0 (startFabric s) := by
  unfold startFabric
  refine Kept.ite ?_ ?_
  · assumption
  · refine Kept.ite ?_ ?_
    · refine put_kept ?_
      assumption
    · extract_lets y1 y2 y3 y4 y5
      clear_value y1
      clear_value y2
      have hy3 : Kept s0 y3 := by
        unfold y3
        exact hs.upd rfl rfl rfl rfl rfl rfl rfl rfl rfl
      clear_value y3
      clear_value y4
      have hy5 : Kept s0 y5 := by
        unfold y5
        refine put_kept ?_
        refine put_kept ?_
        assumption
      clear_value y5
      split
      · refine writeFabRec_kept ?_
        refine put_kept ?_
        refine put_kept ?_
        refine loadPlan_kept ?_
        refine updFab_kept ?_
        assumption
      · refine loadRescue_kept ?_
        refine put_kept ?_
        refine put_kept ?_
        refine loadPlan_kept ?_
        refine updFab_kept ?_
        assumption

theorem sendJoin_kept {s0 : State} {s : State} (hs : Kept s0 s) :
    Kept s0 (sendJoin s) := by
  unfold sendJoin
  split
  · assumption
  · refine originate_kept ?_
    assumption

theorem startElection_kept {s0 : State} {target : ℕ} {s : State} (hs : Kept s0 s) :
    Kept s0 (startElection target s) := by
  unfold startElection
  extract_lets y1 y2
  have hy1 : Kept s0 y1 := by
    unfold y1
    refine updFab_kept ?_
    assumption
  clear_value y1
  have hy2 : Kept s0 y2 := by
    unfold y2
    refine loadRescue_kept ?_
    refine put_kept ?_
    refine put_kept ?_
    assumption
  clear_value y2
  refine originate_kept ?_
  assumption

theorem normalService_kept {s0 : State} {p : ℕ} {s : State} (hs : Kept s0 s) :
    Kept s0 (normalService p s) := by
  unfold normalService
  refine loadPlan_kept ?_
  refine put_kept ?_
  refine put_kept ?_
  refine updFab_kept ?_
  assumption

theorem activate_kept {s0 : State} {a : Announce} {s : State} (hs : Kept s0 s) :
    Kept s0 (activate a s) := by
  unfold activate
  extract_lets y1 y2 y3
  have hy1 : Kept s0 y1 := by
    unfold y1
    refine updFab_kept ?_
    assumption
  clear_value y1
  have hy2 : Kept s0 y2 := by
    unfold y2
    refine put_kept ?_
    refine put_kept ?_
    assumption
  clear_value y2
  have hy3 : Kept s0 y3 := by
    unfold y3
    refine Kept.ite ?_ ?_
    · refine startElection_kept ?_
      refine updFab_kept ?_
      assumption
    · refine Kept.ite ?_ ?_
      · refine normalService_kept ?_
        assumption
      · refine Kept.ite ?_ ?_
        · refine loadPlan_kept ?_
          assumption
        · refine loadRescue_kept ?_
          refine loadPlan_kept ?_
          assumption
  clear_value y3
  refine raise_kept ?_
  refine writeFabRec_kept ?_
  assumption

theorem execPlanActivation_kept {s0 : State} {s : State} (hs : Kept s0 s) :
    KeptOut s0 (execPlanActivation s) := by
  unfold execPlanActivation
  split
  · refine KeptOut.next ?_
    assumption
  · refine onlyIf_kept ?_ ?_
    · intro q1 q2
      refine activate_kept ?_
      assumption
    · assumption

theorem assign_kept {s0 : State} {eui : ℕ} {a : ℕ} {s : State} (hs : Kept s0 s) :
    Kept s0 (assign eui a s) := by
  unfold assign
  refine updFab_kept ?_
  assumption

theorem execElectionEnd_kept {s0 : State} {s : State} (hs : Kept s0 s) :
    KeptOut s0 (execElectionEnd s) := by
  unfold execElectionEnd
  refine onlyIf_kept ?_ ?_
  · intro q1 q2
    extract_lets y1 y2 y3 y4
    clear_value y1
    have hy2 : Kept s0 y2 := by
      unfold y2
      refine updFab_kept ?_
      assumption
    clear_value y2
    have hy3 : Kept s0 y3 := by
      unfold y3
      refine put_kept ?_
      refine put_kept ?_
      assumption
    clear_value y3
    have hy4 : Kept s0 y4 := by
      unfold y4
      refine originateNum_kept ?_
      assumption
    clear_value y4
    refine Kept.ite ?_ ?_
    · refine Kept.ite ?_ ?_
      · refine takeAddress_kept ?_
        refine assign_kept ?_
        assumption
      · assumption
    · assumption
  · assumption

theorem execCoordinatedModeEnd_kept {s0 : State} {s : State} (hs : Kept s0 s) :
    KeptOut s0 (execCoordinatedModeEnd s) := by
  unfold execCoordinatedModeEnd
  extract_lets y1 y2
  clear_value y1
  clear_value y2
  refine onlyIf_kept ?_ ?_
  · intro q1 q2
    refine Kept.ite ?_ ?_
    · refine Kept.ite ?_ ?_
      · refine announce_kept ?_
        assumption
      · assumption
    · refine Kept.ite ?_ ?_
      · refine startElection_kept ?_
        assumption
      · assumption
  · assumption

theorem heardBeacon_kept {s0 : State} {lsrc : Node} {frame : ℕ} {depth : ℕ} {mode : ℕ} {coord : ℕ} {pairs : List (ℕ × ℕ)} {s : State} (hs : Kept s0 s) :
    Kept s0 (heardBeacon lsrc frame depth mode coord pairs s) := by
  unfold heardBeacon
  extract_lets y1 y2
  have hy1 : Kept s0 y1 := by
    unfold y1
    refine put_kept ?_
    refine updFab_kept ?_
    assumption
  clear_value y1
  have hy2 : Kept s0 y2 := by
    unfold y2
    refine Kept.foldl ?_ ?_
    · intro q1 q2 q3
      refine Kept.ite ?_ ?_
      · refine takeAddress_kept ?_
        assumption
      · refine learnPair_kept ?_
        assumption
    · assumption
  clear_value y2
  refine Kept.ite ?_ ?_
  · refine sendJoin_kept ?_
    assumption
  · assumption

theorem execBeaconRx_kept {s0 : State} {i : RxInfo} {f : FabFrame} {s : State} (hs : Kept s0 s) :
    KeptOut s0 (execBeaconRx i f s) := by
  unfold execBeaconRx
  refine onFrame_kept ?_ ?_
  · intro q1 q2
    split
    · extract_lets y1 y2
      have hy1 : Kept s0 y1 := by
        unfold y1
        refine adoptNum_kept ?_
        assumption
      clear_value y1
      have hy2 : Kept s0 y2 := by
        unfold y2
        refine heardBeacon_kept ?_
        refine updFab_kept ?_
        assumption
      clear_value y2
      refine Kept.ite ?_ ?_
      · assumption
      · refine Kept.ite ?_ ?_
        · refine countFrame_kept ?_
          refine queueFrame_kept ?_
          assumption
        · assumption
    · assumption
  · assumption

theorem execCoordinatedStartUp_kept {s0 : State} {s : State} (hs : Kept s0 s) :
    KeptOut s0 (execCoordinatedStartUp s) := by
  unfold execCoordinatedStartUp
  refine onlyIf_kept ?_ ?_
  · intro q1 q2
    refine startElection_kept ?_
    assumption
  · assumption

theorem execRescueBeaconTimer_kept {s0 : State} {s : State} (hs : Kept s0 s) :
    KeptOut s0 (execRescueBeaconTimer s) := by
  unfold execRescueBeaconTimer
  extract_lets y1 y2
  clear_value y1
  clear_value y2
  refine onlyIf_kept ?_ ?_
  · intro q1 q2
    refine originate_kept ?_
    refine updFab_kept ?_
    assumption
  · assumption

theorem execHeadClr_kept {s0 : State} {m : Master} {w : Word} {s : State} (hs : Kept s0 s) :
    KeptOut s0 (execHeadClr m w s) := by
  unfold execHeadClr
  refine cmdWrite_kept ?_ ?_
  · intro q1 q2
    refine fabCtlWrite_kept ?_
    assumption
  · assumption

theorem execAnnouncement_kept {s0 : State} {i : RxInfo} {f : FabFrame} {s : State} (hs : Kept s0 s) :
    KeptOut s0 (execAnnouncement i f s) := by
  unfold execAnnouncement
  refine onFrame_kept ?_ ?_
  · intro q1 q2
    split
    · refine Kept.ite ?_ ?_
      · assumption
      · extract_lets y1 y2
        have hy1 : Kept s0 y1 := by
          unfold y1
          refine adoptNum_kept ?_
          assumption
        refine Kept.ite ?_ ?_
        · refine relay_kept ?_
          refine pendChange_kept ?_
          assumption
        · assumption
    · assumption
  · assumption

theorem execRescueBeacon_kept {s0 : State} {i : RxInfo} {f : FabFrame} {s : State} (hs : Kept s0 s) :
    KeptOut s0 (execRescueBeacon i f s) := by
  unfold execRescueBeacon
  refine onFrame_kept ?_ ?_
  · intro q1 q2
    split
    · extract_lets y1 y2 y3 y4 y5
      have hy1 : Kept s0 y1 := by
        unfold y1
        refine updFab_kept ?_
        assumption
      clear_value y1
      have hy2 : Kept s0 y2 := by
        unfold y2
        split
        · refine takeNum_kept ?_
          assumption
        · assumption
      clear_value y2
      have hy3 : Kept s0 y3 := by
        unfold y3
        refine normalService_kept ?_
        refine updFab_kept ?_
        assumption
      clear_value y3
      have hy4 : Kept s0 y4 := by
        unfold y4
        refine put_kept ?_
        refine put_kept ?_
        assumption
      clear_value y4
      have hy5 : Kept s0 y5 := by
        unfold y5
        refine Kept.ite ?_ ?_
        · refine updFab_kept ?_
          assumption
        · refine put_kept ?_
          assumption
      clear_value y5
      refine Kept.ite ?_ ?_
      · refine adoptNum_kept ?_
        assumption
      · refine raise_kept ?_
        refine writeFabRec_kept ?_
        assumption
    · assumption
  · assumption

theorem execRescueListen_kept {s0 : State} {s : State} (hs : Kept s0 s) :
    KeptOut s0 (execRescueListen s) := by
  unfold execRescueListen
  refine onlyIf_kept ?_ ?_
  · intro q1 q2
    refine enterRescue_kept ?_
    assumption
  · assumption

theorem execCandidateRx_kept {s0 : State} {i : RxInfo} {f : FabFrame} {s : State} (hs : Kept s0 s) :
    KeptOut s0 (execCandidateRx i f s) := by
  unfold execCandidateRx
  refine onFrame_kept ?_ ?_
  · intro q1 q2
    split
    · refine Kept.ite ?_ ?_
      · refine relay_kept ?_
        refine updFab_kept ?_
        assumption
      · assumption
    · assumption
  · assumption

theorem execSuperframe_kept {s0 : State} {s : State} (hs : Kept s0 s) :
    KeptOut s0 (execSuperframe s) := by
  unfold execSuperframe
  extract_lets y1
  clear_value y1
  refine onlyIf_kept ?_ ?_
  · intro q1 q2
    extract_lets y2 y3
    clear_value y2
    have hy3 : Kept s0 y3 := by
      unfold y3
      refine updFab_kept ?_
      assumption
    clear_value y3
    refine countFrame_kept ?_
    refine sendNow_kept ?_
    assumption
  · assumption

theorem execJoinRx_kept {s0 : State} {i : RxInfo} {f : FabFrame} {s : State} (hs : Kept s0 s) :
    KeptOut s0 (execJoinRx i f s) := by
  unfold execJoinRx
  refine onFrame_kept ?_ ?_
  · intro q1 q2
    split
    · refine Kept.ite ?_ ?_
      · assumption
      · extract_lets y1 y2 y3
        have hy1 : Kept s0 y1 := by
          unfold y1
          refine ackFrame_kept ?_
          assumption
        clear_value y1
        have hy2 : Kept s0 y2 := by
          unfold y2
          refine Kept.ite ?_ ?_
          · assumption
          · refine assign_kept ?_
            assumption
        clear_value y2
        clear_value y3
        refine Kept.ite ?_ ?_
        · refine originate_kept ?_
          assumption
        · split
          · refine Kept.ite ?_ ?_
            · assumption
            · refine countFrame_kept ?_
              refine queueFrame_kept ?_
              assumption
          · assumption
    · assumption
  · assumption

theorem execAssignRx_kept {s0 : State} {i : RxInfo} {f : FabFrame} {s : State} (hs : Kept s0 s) :
    KeptOut s0 (execAssignRx i f s) := by
  unfold execAssignRx
  refine onFrame_kept ?_ ?_
  · intro q1 q2
    split
    · refine Kept.ite ?_ ?_
      · assumption
      · extract_lets y1 y2
        have hy1 : Kept s0 y1 := by
          unfold y1
          refine ackFrame_kept ?_
          assumption
        clear_value y1
        have hy2 : Kept s0 y2 := by
          unfold y2
          refine learnPair_kept ?_
          assumption
        clear_value y2
        refine Kept.ite ?_ ?_
        · refine takeAddress_kept ?_
          assumption
        · refine Kept.ite ?_ ?_
          · refine originate_kept ?_
            assumption
          · assumption
    · assumption
  · assumption

end Sys2Proof.Machine
end

