-- ==== Sys2Proof/Laws/KeptRestore.lean ====
section
/-! SUPPORT. `Kept` for every operation of Machine/Restore.lean: what each of them leaves as it is (the canonical form of the state,
the queue, the identity OTP), cited in place of unfolding it. -/
namespace Sys2Proof.Machine

theorem showObj_kept {s0 : State} {s : State} (hs : Kept s0 s) :
    Kept s0 (showObj s) := by
  unfold showObj
  extract_lets y1 y2 y3
  clear_value y1
  clear_value y2
  have hy3 : Kept s0 y3 := by
    unfold y3
    refine put_kept ?_
    refine put_kept ?_
    assumption
  clear_value y3
  refine put_kept ?_
  refine put_kept ?_
  assumption

theorem showUpd_kept {s0 : State} {s : State} (hs : Kept s0 s) :
    Kept s0 (showUpd s) := by
  unfold showUpd
  extract_lets y1 y2 y3
  clear_value y1
  have hy2 : Kept s0 y2 := by
    unfold y2
    refine put_kept ?_
    refine put_kept ?_
    refine put_kept ?_
    assumption
  clear_value y2
  have hy3 : Kept s0 y3 := by
    unfold y3
    refine put_kept ?_
    assumption
  clear_value y3
  refine put_kept ?_
  refine put_kept ?_
  refine put_kept ?_
  assumption

theorem writeUpd_kept {s0 : State} {f : UpdRec → UpdRec} {s : State} (hs : Kept s0 s) :
    Kept s0 (writeUpd f s) := by
  unfold writeUpd
  refine showUpd_kept ?_
  refine dirty_kept ?_
  exact hs.upd rfl rfl rfl rfl rfl rfl rfl rfl rfl

theorem dropUpdate_kept {s0 : State} {s : State} (hs : Kept s0 s) :
    Kept s0 (dropUpdate s) := by
  unfold dropUpdate
  extract_lets y1 y2
  clear_value y1
  have hy2 : Kept s0 y2 := by
    unfold y2
    refine writeUpd_kept ?_
    refine put_kept ?_
    refine put_kept ?_
    assumption
  clear_value y2
  refine updObj_kept ?_
  assumption

theorem restoreRelays_kept {s0 : State} {frozen : Bool} {s : State} (hs : Kept s0 s) :
    Kept s0 (restoreRelays frozen s) := by
  unfold restoreRelays
  refine Kept.ite ?_ ?_
  · refine drawDelay_kept ?_
    refine updRly_kept ?_
    assumption
  · refine updRly_kept ?_
    assumption

theorem restoreCredit_kept {s0 : State} {frozen : Bool} {s : State} (hs : Kept s0 s) :
    Kept s0 (restoreCredit frozen s) := by
  unfold restoreCredit
  extract_lets y1 y2 y3 y4 y5
  clear_value y1
  clear_value y2
  have hy3 : Kept s0 y3 := by
    unfold y3
    exact hs.upd rfl rfl rfl rfl rfl rfl rfl rfl rfl
  clear_value y3
  have hy4 : Kept s0 y4 := by
    unfold y4
    refine put_kept ?_
    refine put_kept ?_
    refine put_kept ?_
    assumption
  clear_value y4
  have hy5 : Kept s0 y5 := by
    unfold y5
    refine put_kept ?_
    refine put_kept ?_
    refine put_kept ?_
    assumption
  clear_value y5
  refine showCredit_kept ?_
  refine restoreRelays_kept ?_
  refine put_kept ?_
  assumption

theorem switchSlot_kept {s0 : State} {s : State} (hs : Kept s0 s) :
    Kept s0 (switchSlot s) := by
  unfold switchSlot
  refine writeUpd_kept ?_
  assumption

theorem startPasswords_kept {s0 : State} {s : State} (hs : Kept s0 s) :
    Kept s0 (startPasswords s) := by
  unfold startPasswords
  refine Kept.ite ?_ ?_
  · assumption
  · refine dirty_kept ?_
    exact hs.upd rfl rfl rfl rfl rfl rfl rfl rfl rfl

theorem startObjects_kept {s0 : State} {s : State} (hs : Kept s0 s) :
    Kept s0 (startObjects s) := by
  unfold startObjects
  extract_lets y1 y2 y3 y4 y5 y6
  clear_value y1
  have hy2 : Kept s0 y2 := by
    unfold y2
    refine Kept.ite ?_ ?_
    · refine switchSlot_kept ?_
      assumption
    · assumption
  clear_value y2
  have hy3 : Kept s0 y3 := by
    unfold y3
    refine put_kept ?_
    refine showObj_kept ?_
    refine showUpd_kept ?_
    refine put_kept ?_
    assumption
  clear_value y3
  have hy4 : Kept s0 y4 := by
    unfold y4
    refine raiseIf_kept ?_
    assumption
  clear_value y4
  have hy5 : Kept s0 y5 := by
    unfold y5
    refine raiseIf_kept ?_
    assumption
  clear_value y5
  clear_value y6
  refine startPasswords_kept ?_
  exact hy5.upd rfl rfl rfl rfl rfl rfl rfl rfl rfl

theorem rejectTrial_kept {s0 : State} {s : State} (hs : Kept s0 s) :
    Kept s0 (rejectTrial s) := by
  unfold rejectTrial
  refine writeUpd_kept ?_
  assumption

end Sys2Proof.Machine
end

