-- ==== Sys2Proof/Laws/KeptFreeze.lean ====
section
/-! SUPPORT. `Kept` for every operation of Machine/Freeze.lean: what each of them leaves as it is (the canonical form of the state,
the queue, the identity OTP), cited in place of unfolding it. -/
namespace Sys2Proof.Machine

theorem updSup_kept {s0 : State} {f : SupSt → SupSt} {s : State} (hs : Kept s0 s) :
    Kept s0 (updSup f s) := by
  unfold updSup
  exact hs.upd rfl rfl rfl rfl rfl rfl rfl rfl rfl

theorem cutFrame_kept {s0 : State} {s : State} (hs : Kept s0 s) :
    Kept s0 (cutFrame s) := by
  unfold cutFrame
  extract_lets y1 y2 y3 y4 y5
  clear_value y1
  have hy2 : Kept s0 y2 := by
    unfold y2
    exact hs.upd rfl rfl rfl rfl rfl rfl rfl rfl rfl
  clear_value y2
  clear_value y3
  have hy4 : Kept s0 y4 := by
    unfold y4
    refine pushRec_kept ?_
    assumption
  clear_value y4
  clear_value y5
  exact hy4.upd rfl rfl rfl rfl rfl rfl rfl rfl rfl

theorem registerPartial_kept {s0 : State} {m : ℕ} {s : State} (hs : Kept s0 s) :
    Kept s0 (registerPartial m s) := by
  unfold registerPartial
  refine Kept.ite ?_ ?_
  · assumption
  · extract_lets y1 y2
    clear_value y1
    clear_value y2
    refine registerCycle_kept ?_
    assumption

theorem endAtFreeze_kept {s0 : State} {s : State} (hs : Kept s0 s) :
    Kept s0 (endAtFreeze s).2.2 := by
  unfold endAtFreeze
  extract_lets y1 y2 y3
  clear_value y1
  have hy2 : Kept s0 y2 := by
    unfold y2
    refine Kept.ite ?_ ?_
    · refine endCycle_kept ?_
      assumption
    · assumption
  clear_value y2
  clear_value y3
  refine Kept.iteThd ?_ ?_
  · refine Kept.mkThd ?_
    refine Kept.mkSnd ?_
    assumption
  · refine Kept.iteThd ?_ ?_
    · refine Kept.mkThd ?_
      refine Kept.mkSnd ?_
      assumption
    · refine Kept.iteThd ?_ ?_
      · refine Kept.mkThd ?_
        refine Kept.mkSnd ?_
        refine completeFrame_kept ?_
        assumption
      · refine Kept.mkThd ?_
        refine Kept.mkSnd ?_
        refine cutFrame_kept ?_
        refine Kept.ite ?_ ?_
        · assumption
        · refine registerPartial_kept ?_
          assumption

theorem abandonStaged_kept {s0 : State} {s : State} (hs : Kept s0 s) :
    Kept s0 (abandonStaged s) := by
  unfold abandonStaged
  extract_lets y1 y2
  have hy1 : Kept s0 y1 := by
    unfold y1
    refine Kept.ite ?_ ?_
    · refine dropProfile_kept ?_
      assumption
    · assumption
  clear_value y1
  clear_value y2
  refine dropRelief_kept ?_
  exact hy1.upd rfl rfl rfl rfl rfl rfl rfl rfl rfl

theorem stopPulses_kept {s0 : State} {s : State} (hs : Kept s0 s) :
    Kept s0 (stopPulses s) := by
  unfold stopPulses
  refine Kept.foldl ?_ ?_
  · intro q1 q2 q3
    extract_lets y1 y2 y3 y4
    clear_value y1
    clear_value y2
    have hy3 : Kept s0 y3 := by
      unfold y3
      refine updPulse_kept ?_
      assumption
    clear_value y3
    have hy4 : Kept s0 y4 := by
      unfold y4
      refine addSat_kept ?_
      assumption
    clear_value y4
    refine Kept.ite ?_ ?_
    · refine raise_kept ?_
      refine addSat_kept ?_
      assumption
    · assumption
  · assumption

theorem coreRecords_kept {s0 : State} {s : State} (hs : Kept s0 s) :
    Kept s0 (coreRecords s) := by
  unfold coreRecords
  extract_lets y1
  have hy1 : Kept s0 y1 := by
    unfold y1
    refine Kept.ite ?_ ?_
    · refine writeCredit_kept ?_
      refine dropLoadAtFreeze_kept ?_
      refine abandonTokens_kept ?_
      assumption
    · assumption
  clear_value y1
  refine Kept.ite ?_ ?_
  · refine writeBill_kept ?_
    assumption
  · assumption

theorem freezeMetro_kept {s0 : State} {src : ℕ} {s : State} (hs : Kept s0 s) :
    Kept s0 (freezeMetro src s) := by
  unfold freezeMetro
  refine Kept.ite ?_ ?_
  · assumption
  · extract_lets y1 y2 y3 y4 y5 y6 y7 y8 y9 y10
    clear_value y1
    have hy2 : Kept s0 y2.2.2 := by
      unfold y2
      refine endAtFreeze_kept ?_
      refine abandonStaged_kept ?_
      exact hs.upd rfl rfl rfl rfl rfl rfl rfl rfl rfl
    clear_value y2
    have hy3 : Kept s0 y3 := by
      unfold y3
      refine stopPulses_kept ?_
      assumption
    clear_value y3
    have hy4 : Kept s0 y4 := by
      unfold y4
      refine put_kept ?_
      refine put_kept ?_
      refine put_kept ?_
      refine put_kept ?_
      assumption
    clear_value y4
    have hy5 : Kept s0 y5 := by
      unfold y5
      refine updSup_kept ?_
      assumption
    clear_value y5
    clear_value y6
    clear_value y7
    clear_value y8
    clear_value y9
    have hy10 : Kept s0 y10 := by
      unfold y10
      refine dirty_kept ?_
      exact hy5.upd rfl rfl rfl rfl rfl rfl rfl rfl rfl
    clear_value y10
    refine raise_kept ?_
    refine put_kept ?_
    refine coreRecords_kept ?_
    refine pqFreeze_kept ?_
    assumption

theorem requestAgain_kept {s0 : State} {b : ℕ} {s : State} (hs : Kept s0 s) :
    Kept s0 (requestAgain b s) := by
  unfold requestAgain
  refine Kept.ite ?_ ?_
  · refine storeBanks_kept ?_
    refine updCis_kept ?_
    assumption
  · assumption

theorem afterCommit_kept {s0 : State} {b : ℕ} {s : State} (hs : Kept s0 s) :
    Kept s0 (afterCommit b s) := by
  unfold afterCommit
  extract_lets y1
  have hy1 : Kept s0 y1 := by
    unfold y1
    refine requestAgain_kept ?_
    assumption
  clear_value y1
  refine Kept.ite ?_ ?_
  · refine put_kept ?_
    assumption
  · refine Kept.ite ?_ ?_
    · refine Kept.ite ?_ ?_
      · refine storeBanks_kept ?_
        assumption
      · refine put_kept ?_
        refine updObj_kept ?_
        assumption
    · assumption

theorem loseDomains_kept {s0 s : State} (hs : Kept s0 s) : Kept s0 (loseDomains s) := by
  have h1 : Kept s0 (dropProducers [1, 2, 3, 4, 5, 6, 7, 8, 9, 10]
      ([1, 2, 3, 4, 5, 6, 7, 8, 9, 10].foldl (fun s d => powerDown d s) s)) :=
    dropProducers_kept (Kept.foldl (fun _ _ h => powerDown_kept h) hs)
  exact ⟨fun i => ⟨(h1.inv i).1, (h1.inv i).2.1, rfl⟩, h1.queue, h1.otp⟩

theorem enterOutage_kept {s0 : State} {s : State} (hs : Kept s0 s) :
    Kept s0 (enterOutage s) := by
  unfold enterOutage
  extract_lets y1 y2 y3
  have hy1 : Kept s0 y1 := by
    unfold y1
    refine put_kept ?_
    refine put_kept ?_
    refine put_kept ?_
    refine put_kept ?_
    refine put_kept ?_
    refine loseDomains_kept ?_
    assumption
  clear_value y1
  clear_value y2
  have hy3 : Kept s0 y3 := by
    unfold y3
    exact hy1.upd rfl rfl rfl rfl rfl rfl rfl rfl rfl
  clear_value y3
  refine refreshLines_kept ?_
  refine setLoader_kept ?_
  refine updSup_kept ?_
  assumption

theorem commitStore_kept {s0 : State} {b : ℕ} {s : State} (hs : Kept s0 s) :
    Kept s0 (commitStore b s) := by
  unfold commitStore
  extract_lets y1 y2 y3 y4 y5 y6 y7 y8 y9 y10
  clear_value y1
  clear_value y2
  clear_value y3
  clear_value y4
  have hy5 : Kept s0 y5 := by
    unfold y5
    refine putBit_kept ?_
    exact hs.upd rfl rfl rfl rfl rfl rfl rfl rfl rfl
  clear_value y5
  have hy6 : Kept s0 y6 := by
    unfold y6
    refine put_kept ?_
    refine put_kept ?_
    assumption
  clear_value y6
  have hy7 : Kept s0 y7 := by
    unfold y7
    refine Kept.ite ?_ ?_
    · refine putBit_kept ?_
      refine updCis_kept ?_
      assumption
    · assumption
  clear_value y7
  have hy8 : Kept s0 y8 := by
    unfold y8
    refine raise_kept ?_
    refine raiseIf_kept ?_
    assumption
  clear_value y8
  have hy9 : Kept s0 y9 := by
    unfold y9
    refine startStores_kept ?_
    refine afterCommit_kept ?_
    assumption
  clear_value y9
  have hy10 : Kept s0 y10 := by
    unfold y10
    refine updCis_kept ?_
    assumption
  clear_value y10
  refine Kept.ite ?_ ?_
  · refine Kept.ite ?_ ?_
    · assumption
    · refine enterOutage_kept ?_
      assumption
  · assumption

theorem setCodes_kept {s0 : State} {c1 : ℕ} {c2 : ℕ} {s : State} (hs : Kept s0 s) :
    Kept s0 (setCodes c1 c2 s) := by
  unfold setCodes
  refine put_kept ?_
  refine put_kept ?_
  assumption

theorem opDone_kept {s0 : State} {s : State} (hs : Kept s0 s) :
    Kept s0 (opDone s) := by
  unfold opDone
  split
  · assumption
  · extract_lets y1
    have hy1 : Kept s0 y1 := by
      unfold y1
      refine setCodes_kept ?_
      refine put_kept ?_
      refine put_kept ?_
      refine updSup_kept ?_
      assumption
    clear_value y1
    refine raise_kept ?_
    assumption

theorem shedLoad_kept {s0 : State} {s : State} (hs : Kept s0 s) :
    Kept s0 (shedLoad s) := by
  unfold shedLoad
  extract_lets y1 y2
  have hy1 : Kept s0 y1 := by
    unfold y1
    refine powerDown_kept ?_
    refine abandonTx_kept ?_
    refine abortSounding_kept ?_
    assumption
  clear_value y1
  have hy2 : Kept s0 y2 := by
    unfold y2
    refine powerDown_kept ?_
    refine updPnl_kept ?_
    refine panelFastOff_kept ?_
    assumption
  clear_value y2
  refine Kept.ite ?_ ?_
  · refine d3Off_kept ?_
    assumption
  · assumption

theorem cutUpdate_kept {s0 : State} {s : State} (hs : Kept s0 s) :
    Kept s0 (cutUpdate s) := by
  unfold cutUpdate
  refine Kept.ite ?_ ?_
  · refine updObj_kept ?_
    refine dropUpdate_kept ?_
    assumption
  · assumption

theorem cutReread_kept {s0 : State} {s : State} (hs : Kept s0 s) :
    Kept s0 (cutReread s) := by
  unfold cutReread
  refine put_kept ?_
  exact hs.upd rfl rfl rfl rfl rfl rfl rfl rfl rfl

theorem awaitStore_kept {s0 s : State} {b n : Nat} (hs : Kept s0 s) : Kept s0 (awaitStore b n s) := by
  induction n generalizing s with
  | zero => exact hs
  | succ n ih =>
    rw [awaitStore]
    refine Kept.ite (commitStore_kept hs) ?_
    split
    · exact hs
    · exact ih (commitStore_kept hs)

theorem storeNow_kept {s0 : State} {b : ℕ} {s : State} (hs : Kept s0 s) :
    Kept s0 (storeNow b s) := by
  unfold storeNow
  refine awaitStore_kept ?_
  refine storeBanks_kept ?_
  refine Kept.ite ?_ ?_
  · refine commitStore_kept ?_
    assumption
  · assumption

theorem voltageFail_kept {s0 : State} {s : State} (hs : Kept s0 s) :
    Kept s0 (voltageFail s).2 := by
  unfold voltageFail
  extract_lets y1 y2
  clear_value y1
  clear_value y2
  refine Kept.iteSnd ?_ ?_
  · refine Kept.mkSnd ?_
    assumption
  · refine Kept.iteSnd ?_ ?_
    · refine Kept.mkSnd ?_
      exact hs.upd rfl rfl rfl rfl rfl rfl rfl rfl rfl
    · refine Kept.mkSnd ?_
      assumption

theorem execVddBelow2v3_kept {s0 : State} {s : State} (hs : Kept s0 s) :
    KeptOut s0 (execVddBelow2v3 s) := by
  unfold execVddBelow2v3
  refine onlyIf_kept ?_ ?_
  · intro q1 q2
    refine Kept.ite ?_ ?_
    · refine updSup_kept ?_
      assumption
    · refine enterOutage_kept ?_
      refine put_kept ?_
      assumption
  · assumption

theorem powerFailStore_kept {s0 : State} {s : State} (hs : Kept s0 s) :
    Kept s0 (powerFailStore s) := by
  unfold powerFailStore
  extract_lets y1 y2 y3 y4
  clear_value y1
  have hy2 : Kept s0 y2 := by
    unfold y2
    refine raiseIf_kept ?_
    assumption
  clear_value y2
  clear_value y3
  have hy4 : Kept s0 y4 := by
    unfold y4
    refine put_kept ?_
    refine put_kept ?_
    refine put_kept ?_
    assumption
  clear_value y4
  refine startStores_kept ?_
  refine updCis_kept ?_
  assumption

theorem powerFail_kept {s0 : State} {src : ℕ} {s : State} (hs : Kept s0 s) :
    Kept s0 (powerFail src s) := by
  unfold powerFail
  extract_lets y1 y2 y3 y4
  have hy2 : Kept s0 y2 := by
    unfold y2
    refine opDone_kept ?_
    refine Kept.ite ?_ ?_
    · refine abandonEntry_kept ?_
      assumption
    · assumption
  clear_value y2
  have hy3 : Kept s0 y3 := by
    unfold y3
    refine undoKu_kept ?_
    refine cutReread_kept ?_
    refine cutUpdate_kept ?_
    refine freezeMetro_kept ?_
    assumption
  clear_value y3
  have hy4 : Kept s0 y4 := by
    unfold y4
    refine powerFailStore_kept ?_
    refine updHif_kept ?_
    assumption
  clear_value y4
  refine shedLoad_kept ?_
  refine updSup_kept ?_
  assumption

theorem abandonStart_kept {s0 : State} {s : State} (hs : Kept s0 s) :
    Kept s0 (abandonStart s) := by
  unfold abandonStart
  refine updSup_kept ?_
  refine cutReread_kept ?_
  assumption

theorem execVddMonitorTrip_kept {s0 : State} {s : State} (hs : Kept s0 s) :
    KeptOut s0 (execVddMonitorTrip s) := by
  unfold execVddMonitorTrip
  refine onlyIf_kept ?_ ?_
  · intro q1 q2
    refine Kept.ite ?_ ?_
    · refine updSup_kept ?_
      assumption
    · extract_lets y1 y2 y3
      have hy1 : Kept s0 y1 := by
        unfold y1
        refine raise_kept ?_
        refine put_kept ?_
        assumption
      clear_value y1
      have hy2 : Kept s0 y2 := by
        unfold y2
        refine cutReread_kept ?_
        assumption
      clear_value y2
      have hy3 : Kept s0 y3 := by
        unfold y3
        refine Kept.ite ?_ ?_
        · refine powerFailStore_kept ?_
          assumption
        · assumption
      clear_value y3
      refine Kept.ite ?_ ?_
      · refine Kept.ite ?_ ?_
        · refine enterOutage_kept ?_
          assumption
        · assumption
      · refine Kept.ite ?_ ?_
        · refine powerFail_kept ?_
          assumption
        · refine Kept.ite ?_ ?_
          · refine abandonStart_kept ?_
            assumption
          · assumption
  · assumption

theorem execHalfCycleBoundary_kept {s0 : State} {s : State} (hs : Kept s0 s) :
    KeptOut s0 (execHalfCycleBoundary s) := by
  unfold execHalfCycleBoundary
  refine onlyIf_kept ?_ ?_
  · intro q1 q2
    extract_lets y1 y2 y3
    have hy1 : Kept s0 y1 := by
      unfold y1
      refine refreshHalfCycle_kept ?_
      assumption
    clear_value y1
    have hy2 : Kept s0 y2 := by
      unfold y2
      refine Kept.ite ?_ ?_
      · refine winHalfCycles_kept ?_
        assumption
      · assumption
    clear_value y2
    have hy3 : Kept s0 y3.2 := by
      unfold y3
      refine voltageFail_kept ?_
      refine pqEvaluate_kept ?_
      assumption
    clear_value y3
    refine Kept.ite ?_ ?_
    · refine powerFail_kept ?_
      refine raise_kept ?_
      assumption
    · assumption
  · assumption

theorem execStoreCommit_kept {s0 : State} {b : ℕ} {s : State} (hs : Kept s0 s) :
    KeptOut s0 (execStoreCommit b s) := by
  unfold execStoreCommit
  refine onlyIf_kept ?_ ?_
  · intro q1 q2
    refine commitStore_kept ?_
    assumption
  · assumption

end Sys2Proof.Machine
end

