-- ==== Sys2Proof/Laws/KeptPower.lean ====
section
/-! SUPPORT. `Kept` for every operation of Machine/Power.lean: what each of them leaves as it is (the canonical form of the state,
the queue, the identity OTP), cited in place of unfolding it. -/
namespace Sys2Proof.Machine

theorem storeDirty_kept {s0 : State} {s : State} (hs : Kept s0 s) :
    Kept s0 (storeDirty s) := by
  unfold storeDirty
  refine storeBanks_kept ?_
  assumption

theorem askOwner_kept {s0 : State} {d : ℕ} {s : State} (hs : Kept s0 s) :
    Kept s0 (askOwner d s) := by
  unfold askOwner
  extract_lets y1 y2
  have hy1 : Kept s0 y1 := by
    unfold y1
    refine put_kept ?_
    assumption
  clear_value y1
  have hy2 : Kept s0 y2 := by
    unfold y2
    refine Kept.ite ?_ ?_
    · refine preparePanel_kept ?_
      assumption
    · assumption
  clear_value y2
  refine Kept.ite ?_ ?_
  · refine storeDirty_kept ?_
    refine updSup_kept ?_
    refine freezeMetro_kept ?_
    assumption
  · assumption

theorem beginEntry_kept {s0 : State} {ship : Bool} {s : State} (hs : Kept s0 s) :
    Kept s0 (beginEntry ship s) := by
  unfold beginEntry
  refine askOwner_kept ?_
  refine put_kept ?_
  refine put_kept ?_
  refine updSup_kept ?_
  assumption

theorem pmuCtlWrite_kept {s0 : State} {w : Word} {s : State} (hs : Kept s0 s) :
    Kept s0 (pmuCtlWrite w s) := by
  unfold pmuCtlWrite
  refine Kept.ite ?_ ?_
  · assumption
  · extract_lets y1 y2 y3
    have hy2 : Kept s0 y2 := by
      unfold y2
      refine Kept.ite ?_ ?_
      · refine updSup_kept ?_
        assumption
      · assumption
    clear_value y2
    clear_value y3
    refine Kept.ite ?_ ?_
    · assumption
    · refine Kept.ite ?_ ?_
      · refine raise_kept ?_
        assumption
      · refine beginEntry_kept ?_
        assumption

theorem execEntryAbort_kept {s0 : State} {m : Master} {w : Word} {s : State} (hs : Kept s0 s) :
    KeptOut s0 (execEntryAbort m w s) := by
  unfold execEntryAbort
  refine cmdWrite_kept ?_ ?_
  · intro q1 q2
    refine pmuCtlWrite_kept ?_
    assumption
  · assumption

theorem changeOp_kept {s0 : State} {op : ℕ} {c1 : ℕ} {c2 : ℕ} {en : ℕ} {s : State} (hs : Kept s0 s) :
    Kept s0 (changeOp op c1 c2 en s) := by
  unfold changeOp
  extract_lets y1 y2 y3 y4
  clear_value y1
  have hy3 : Kept s0 y3 := by
    unfold y3
    refine put_kept ?_
    assumption
  clear_value y3
  have hy4 : Kept s0 y4 := by
    unfold y4
    refine put_kept ?_
    refine put_kept ?_
    refine updSup_kept ?_
    assumption
  clear_value y4
  refine Kept.ite ?_ ?_
  · assumption
  · refine Kept.ite ?_ ?_
    · refine setCodes_kept ?_
      assumption
    · assumption

theorem clkCtlWrite_kept {s0 : State} {w : Word} {s : State} (hs : Kept s0 s) :
    Kept s0 (clkCtlWrite w s) := by
  unfold clkCtlWrite
  extract_lets y1 y2 y3 y4
  clear_value y1
  clear_value y2
  clear_value y3
  clear_value y4
  refine Kept.ite ?_ ?_
  · refine raise_kept ?_
    assumption
  · refine Kept.ite ?_ ?_
    · refine raise_kept ?_
      assumption
    · refine changeOp_kept ?_
      assumption

theorem rtcSource_kept {s0 : State} {sirc : Bool} {s : State} (hs : Kept s0 s) :
    Kept s0 (rtcSource sirc s) := by
  unfold rtcSource
  refine put_kept ?_
  refine put_kept ?_
  assumption

theorem execXtal32Fail_kept {s0 : State} {s : State} (hs : Kept s0 s) :
    KeptOut s0 (execXtal32Fail s) := by
  unfold execXtal32Fail
  refine onlyIf_kept ?_ ?_
  · intro q1 q2
    refine raise_kept ?_
    refine rtcSource_kept ?_
    refine put_kept ?_
    assumption
  · assumption

theorem enterShip_kept {s0 s : State} (hs : Kept s0 s) : Kept s0 (enterShip s) := by
  unfold enterShip
  extract_lets ok k y1 y2
  have h1 : Kept s0 y1 := wrMany_kept (resetDomain_kept (loseDomains_kept hs))
  clear_value y1
  exact setLoader_kept ⟨h1.inv, h1.queue, h1.otp.trans ⟨id, id, id, fun _ e => e, fun _ _ e => e⟩⟩

theorem afterShipFreeze_kept {s0 : State} {s : State} (hs : Kept s0 s) :
    Kept s0 (afterShipFreeze s) := by
  unfold afterShipFreeze
  refine Kept.ite ?_ ?_
  · refine updSup_kept ?_
    assumption
  · assumption

theorem refuseEntry_kept {s0 : State} {d : ℕ} {s : State} (hs : Kept s0 s) :
    Kept s0 (refuseEntry d s) := by
  unfold refuseEntry
  extract_lets y1 y2
  have hy1 : Kept s0 y1 := by
    unfold y1
    refine put_kept ?_
    refine put_kept ?_
    refine put_kept ?_
    refine put_kept ?_
    assumption
  clear_value y1
  have hy2 : Kept s0 y2 := by
    unfold y2
    refine put_kept ?_
    refine put_kept ?_
    refine put_kept ?_
    assumption
  clear_value y2
  refine afterShipFreeze_kept ?_
  refine raise_kept ?_
  refine updSup_kept ?_
  assumption

theorem execOpChange_kept {s0 : State} {m : Master} {w : Word} {s : State} (hs : Kept s0 s) :
    KeptOut s0 (execOpChange m w s) := by
  unfold execOpChange
  refine cmdWrite_kept ?_ ?_
  · intro q1 q2
    refine clkCtlWrite_kept ?_
    assumption
  · assumption

theorem execKeypadWake_kept {s0 : State} {bad : ℕ} {s : State} (hs : Kept s0 s) :
    KeptOut s0 (execKeypadWake bad s) := by
  unfold execKeypadWake
  refine onlyIf_kept ?_ ?_
  · intro q1 q2
    extract_lets y1 y2
    clear_value y1
    have hy2 : Kept s0 y2 := by
      unfold y2
      refine wakeBy_kept ?_
      assumption
    clear_value y2
    refine Kept.ite ?_ ?_
    · refine updPnl_kept ?_
      assumption
    · assumption
  · assumption

theorem execCoreWait_kept {s0 : State} {core : ℕ} {s : State} (hs : Kept s0 s) :
    KeptOut s0 (execCoreWait core s) := by
  unfold execCoreWait
  refine onlyIf_kept ?_ ?_
  · intro q1 q2
    extract_lets y1
    have hy1 : Kept s0 y1 := by
      unfold y1
      refine putBit_kept ?_
      assumption
    clear_value y1
    refine Kept.ite ?_ ?_
    · refine put_kept ?_
      assumption
    · assumption
  · assumption

theorem execRtcAlarm_kept {s0 : State} {bad : ℕ} {s : State} (hs : Kept s0 s) :
    KeptOut s0 (execRtcAlarm bad s) := by
  unfold execRtcAlarm
  refine onlyIf_kept ?_ ?_
  · intro q1 q2
    refine wakeBy_kept ?_
    assumption
  · assumption

theorem execSpllLock_kept {s0 : State} {s : State} (hs : Kept s0 s) :
    KeptOut s0 (execSpllLock s) := by
  unfold execSpllLock
  refine onlyIf_kept ?_ ?_
  · intro q1 q2
    refine put_kept ?_
    refine put_kept ?_
    assumption
  · assumption

theorem execVbatLow_kept {s0 : State} {s : State} (hs : Kept s0 s) :
    KeptOut s0 (execVbatLow s) := by
  unfold execVbatLow
  refine onlyIf_kept ?_ ?_
  · intro q1 q2
    refine raise_kept ?_
    refine put_kept ?_
    assumption
  · assumption

theorem execCoreDozeWake_kept {s0 : State} {core : ℕ} {s : State} (hs : Kept s0 s) :
    KeptOut s0 (execCoreDozeWake core s) := by
  unfold execCoreDozeWake
  refine onlyIf_kept ?_ ?_
  · intro q1 q2
    extract_lets y1
    have hy1 : Kept s0 y1 := by
      unfold y1
      refine putBit_kept ?_
      assumption
    clear_value y1
    refine Kept.ite ?_ ?_
    · refine put_kept ?_
      assumption
    · assumption
  · assumption

theorem execNapRequest_kept {s0 : State} {m : Master} {w : Word} {s : State} (hs : Kept s0 s) :
    KeptOut s0 (execNapRequest m w s) := by
  unfold execNapRequest
  refine cmdWrite_kept ?_ ?_
  · intro q1 q2
    refine pmuCtlWrite_kept ?_
    assumption
  · assumption

theorem execShipRequest_kept {s0 : State} {m : Master} {w : Word} {s : State} (hs : Kept s0 s) :
    KeptOut s0 (execShipRequest m w s) := by
  unfold execShipRequest
  refine cmdWrite_kept ?_ ?_
  · intro q1 q2
    refine pmuCtlWrite_kept ?_
    assumption
  · assumption

theorem setBoundaryWake_kept {s0 : State} {d : ℕ} {s : State} (hs : Kept s0 s) :
    Kept s0 (setBoundaryWake d s) := by
  unfold setBoundaryWake
  refine Kept.ite ?_ ?_
  · split
    · refine put_kept ?_
      assumption
    · assumption
  · assumption

theorem enterNap_kept {s0 : State} {s : State} (hs : Kept s0 s) :
    Kept s0 (enterNap s) := by
  unfold enterNap
  extract_lets y1 y2 y3 y4 y5
  clear_value y1
  have hy2 : Kept s0 y2 := by
    unfold y2
    refine updSup_kept ?_
    assumption
  clear_value y2
  have hy3 : Kept s0 y3 := by
    unfold y3
    refine Kept.foldl ?_ ?_
    · intro q1 q2 q3
      refine Kept.ite ?_ ?_
      · refine d3Off_kept ?_
        assumption
      · refine powerDown_kept ?_
        assumption
    · assumption
  clear_value y3
  have hy4 : Kept s0 y4 := by
    unfold y4
    refine Kept.ite ?_ ?_
    · refine updPnl_kept ?_
      assumption
    · assumption
  clear_value y4
  have hy5 : Kept s0 y5 := by
    unfold y5
    refine putBit_kept ?_
    refine putBit_kept ?_
    assumption
  clear_value y5
  refine put_kept ?_
  assumption

theorem finishEntry_kept {s0 : State} {wake : Option (ℕ × ℕ)} {s : State} (hs : Kept s0 s) :
    Kept s0 (finishEntry wake s) := by
  unfold finishEntry
  split
  · refine afterShipFreeze_kept ?_
    refine abandonEntry_kept ?_
    assumption
  · extract_lets y1 y2
    have hy1 : Kept s0 y1 := by
      unfold y1
      refine put_kept ?_
      refine put_kept ?_
      refine put_kept ?_
      refine put_kept ?_
      assumption
    clear_value y1
    have hy2 : Kept s0 y2 := by
      unfold y2
      refine put_kept ?_
      refine put_kept ?_
      refine raise_kept ?_
      assumption
    clear_value y2
    refine Kept.ite ?_ ?_
    · refine enterShip_kept ?_
      assumption
    · refine enterNap_kept ?_
      assumption

theorem execOwnerConsent_kept {s0 : State} {wake : Option (ℕ × ℕ)} {s : State} (hs : Kept s0 s) :
    KeptOut s0 (execOwnerConsent wake s) := by
  unfold execOwnerConsent
  refine onlyIf_kept ?_ ?_
  · intro q1 q2
    extract_lets y1
    clear_value y1
    refine Kept.ite ?_ ?_
    · refine refuseEntry_kept ?_
      assumption
    · refine Kept.ite ?_ ?_
      · refine Kept.ite ?_ ?_
        · refine storeDirty_kept ?_
          assumption
        · refine Kept.ite ?_ ?_
          · refine preparePanel_kept ?_
            assumption
          · assumption
      · refine Kept.ite ?_ ?_
        · refine askOwner_kept ?_
          refine setBoundaryWake_kept ?_
          assumption
        · refine finishEntry_kept ?_
          assumption
  · assumption

theorem execOwnerDelayLimit_kept {s0 : State} {s : State} (hs : Kept s0 s) :
    KeptOut s0 (execOwnerDelayLimit s) := by
  unfold execOwnerDelayLimit
  refine onlyIf_kept ?_ ?_
  · intro q1 q2
    refine refuseEntry_kept ?_
    assumption
  · assumption

theorem execNapMax_kept {s0 : State} {bad : ℕ} {s : State} (hs : Kept s0 s) :
    KeptOut s0 (execNapMax bad s) := by
  unfold execNapMax
  refine onlyIf_kept ?_ ?_
  · intro q1 q2
    refine wakeBy_kept ?_
    assumption
  · assumption

theorem execOpDone_kept {s0 : State} {s : State} (hs : Kept s0 s) :
    KeptOut s0 (execOpDone s) := by
  unfold execOpDone
  refine KeptOut.next ?_
  refine opDone_kept ?_
  assumption

theorem execXtal32Back_kept {s0 : State} {s : State} (hs : Kept s0 s) :
    KeptOut s0 (execXtal32Back s) := by
  unfold execXtal32Back
  refine onlyIf_kept ?_ ?_
  · intro q1 q2
    refine raise_kept ?_
    refine rtcSource_kept ?_
    refine put_kept ?_
    assumption
  · assumption

theorem execMpllUnlock_kept {s0 : State} {s : State} (hs : Kept s0 s) :
    KeptOut s0 (execMpllUnlock s) := by
  unfold execMpllUnlock
  refine onlyIf_kept ?_ ?_
  · intro q1 q2
    extract_lets y1 y2 y3
    have hy1 : Kept s0 y1 := by
      unfold y1
      refine put_kept ?_
      refine put_kept ?_
      refine updSup_kept ?_
      assumption
    clear_value y1
    clear_value y2
    have hy3 : Kept s0 y3 := by
      unfold y3
      exact hy1.upd rfl rfl rfl rfl rfl rfl rfl rfl rfl
    clear_value y3
    refine raise_kept ?_
    refine Kept.ite ?_ ?_
    · refine put_kept ?_
      assumption
    · assumption
  · assumption

theorem execSpllUnlock_kept {s0 : State} {s : State} (hs : Kept s0 s) :
    KeptOut s0 (execSpllUnlock s) := by
  unfold execSpllUnlock
  refine onlyIf_kept ?_ ?_
  · intro q1 q2
    extract_lets y1
    have hy1 : Kept s0 y1 := by
      unfold y1
      refine setCodes_kept ?_
      refine put_kept ?_
      refine put_kept ?_
      assumption
    clear_value y1
    refine raise_kept ?_
    refine updSup_kept ?_
    assumption
  · assumption

theorem execMpllLock_kept {s0 : State} {s : State} (hs : Kept s0 s) :
    KeptOut s0 (execMpllLock s) := by
  unfold execMpllLock
  refine onlyIf_kept ?_ ?_
  · intro q1 q2
    extract_lets y1
    have hy1 : Kept s0 y1 := by
      unfold y1
      refine updSup_kept ?_
      refine put_kept ?_
      assumption
    clear_value y1
    refine Kept.ite ?_ ?_
    · assumption
    · refine clockBoundary_kept ?_
      assumption
  · assumption

end Sys2Proof.Machine
end

