-- ==== Sys2Proof/Laws/KeptBoot.lean ====
section
/-! SUPPORT. `Kept` for every operation of Machine/Boot.lean: what each of them leaves as it is (the canonical form of the state,
the queue, the identity OTP), cited in place of unfolding it. -/
namespace Sys2Proof.Machine

theorem execD0BrownOut_kept {s0 : State} {s : State} (hs : Kept s0 s) :
    KeptOut s0 (execD0BrownOut s) := by
  unfold execD0BrownOut
  refine done_kept ?_
  refine powerOnReset_kept ?_
  assumption

theorem beginRead_kept {s0 : State} {p : Probe} {s : State} (hs : Kept s0 s) :
    Kept s0 (beginRead p s) := by
  unfold beginRead
  extract_lets y1 y2
  clear_value y1
  clear_value y2
  exact hs.upd rfl rfl rfl rfl rfl rfl rfl rfl rfl

theorem probeMemory_kept {s0 : State} {p : Probe} {s : State} (hs : Kept s0 s) :
    Kept s0 (probeMemory p s) := by
  unfold probeMemory
  extract_lets y1 y2 y3
  clear_value y1
  have hy2 : Kept s0 y2 := by
    unfold y2
    refine beginRead_kept ?_
    assumption
  clear_value y2
  clear_value y3
  refine raiseIf_kept ?_
  exact hy2.upd rfl rfl rfl rfl rfl rfl rfl rfl rfl

theorem sampleDebug_kept {s0 : State} {p : Probe} {s : State} (hs : Kept s0 s) :
    Kept s0 (sampleDebug p s) := by
  unfold sampleDebug
  refine Kept.ite ?_ ?_
  · refine logTamp_kept ?_
    refine put_kept ?_
    assumption
  · refine put_kept ?_
    assumption

theorem clearTotals_kept {s0 : State} {s : State} (hs : Kept s0 s) :
    Kept s0 (clearTotals s) := by
  unfold clearTotals
  refine Kept.foldl ?_ ?_
  · intro q1 q2 q3
    refine put_kept ?_
    assumption
  · exact hs.upd rfl rfl rfl rfl rfl rfl rfl rfl rfl

theorem startClocks_kept {s0 : State} {por : Bool} {p : Probe} {s : State} (hs : Kept s0 s) :
    Kept s0 (startClocks por p s) := by
  unfold startClocks
  extract_lets y1 y2 y3
  have hy1 : Kept s0 y1 := by
    unfold y1
    refine wr_kept ?_
    refine put_kept ?_
    refine put_kept ?_
    refine put_kept ?_
    refine put_kept ?_
    assumption
  clear_value y1
  have hy2 : Kept s0 y2 := by
    unfold y2
    refine put_kept ?_
    refine put_kept ?_
    assumption
  clear_value y2
  have hy3 : Kept s0 y3 := by
    unfold y3
    refine put_kept ?_
    refine put_kept ?_
    assumption
  clear_value y3
  refine Kept.ite ?_ ?_
  · refine rtcSource_kept ?_
    assumption
  · assumption

theorem showIdentity_kept {s0 : State} {p : Probe} {s : State} (hs : Kept s0 s) :
    Kept s0 (showIdentity p s) := by
  unfold showIdentity
  extract_lets y1 y2
  have hy1 : Kept s0 y1 := by
    unfold y1
    refine Kept.foldl ?_ ?_
    · intro q1 q2 q3
      refine put_kept ?_
      assumption
    · assumption
  clear_value y1
  have hy2 : Kept s0 y2 := by
    unfold y2
    refine put_kept ?_
    refine put_kept ?_
    refine put_kept ?_
    assumption
  clear_value y2
  split
  · refine put_kept ?_
    refine put_kept ?_
    assumption
  · assumption

theorem unclaimAll_kept {s0 : State} {s : State} (hs : Kept s0 s) :
    Kept s0 (unclaimAll s) := by
  unfold unclaimAll
  refine applyClaims_kept ?_
  assumption

theorem doStart_kept {s0 : State} {cause : ℕ} {p : Probe} {s : State} (hs : Kept s0 s) :
    Kept s0 (doStart cause p s) := by
  unfold doStart
  extract_lets y1 y2 y3 y4 y5 y6 y7 y8 y9 y10 y11
  clear_value y1
  clear_value y2
  have hy3 : Kept s0 y3 := by
    unfold y3
    refine clearTotals_kept ?_
    refine loseDomains_kept ?_
    assumption
  clear_value y3
  have hy4 : Kept s0 y4 := by
    unfold y4
    refine wr_kept ?_
    refine put_kept ?_
    assumption
  clear_value y4
  have hy5 : Kept s0 y5 := by
    unfold y5
    refine Kept.ite ?_ ?_
    · refine sampleDebug_kept ?_
      assumption
    · assumption
  clear_value y5
  have hy6 : Kept s0 y6 := by
    unfold y6
    refine startClocks_kept ?_
    refine showIdentity_kept ?_
    assumption
  clear_value y6
  have hy7 : Kept s0 y7 := by
    unfold y7
    refine put_kept ?_
    refine put_kept ?_
    refine put_kept ?_
    refine put_kept ?_
    assumption
  clear_value y7
  clear_value y8
  have hy9 : Kept s0 y9 := by
    unfold y9
    exact hy7.upd rfl rfl rfl rfl rfl rfl rfl rfl rfl
  clear_value y9
  have hy10 : Kept s0 y10 := by
    unfold y10
    refine Kept.foldl ?_ ?_
    · intro q1 q2 q3
      refine powerUp_kept ?_
      assumption
    · refine put_kept ?_
      assumption
  clear_value y10
  have hy11 : Kept s0 y11 := by
    unfold y11
    refine put_kept ?_
    assumption
  clear_value y11
  refine probeMemory_kept ?_
  refine put_kept ?_
  refine refreshLines_kept ?_
  refine setLoader_kept ?_
  refine unclaimAll_kept ?_
  assumption

theorem execResetNLow_kept {s0 : State} {p : Probe} {s : State} (hs : Kept s0 s) :
    KeptOut s0 (execResetNLow p s) := by
  unfold execResetNLow
  refine onlyIf_kept ?_ ?_
  · intro q1 q2
    refine Kept.ite ?_ ?_
    · refine powerFail_kept ?_
      assumption
    · refine Kept.ite ?_ ?_
      · refine doStart_kept ?_
        assumption
      · refine updSup_kept ?_
        assumption
  · assumption

theorem execStartUp_kept {s0 : State} {p : Probe} {s : State} (hs : Kept s0 s) :
    KeptOut s0 (execStartUp p s) := by
  unfold execStartUp
  extract_lets y1 y2
  have hy1 : Kept s0 y1 := by
    unfold y1
    refine put_kept ?_
    assumption
  clear_value y1
  clear_value y2
  refine KeptOut.next ?_
  refine Kept.ite ?_ ?_
  · refine doStart_kept ?_
    assumption
  · assumption

theorem execDebugStart_kept {s0 : State} {p : Probe} {s : State} (hs : Kept s0 s) :
    KeptOut s0 (execDebugStart p s) := by
  unfold execDebugStart
  refine onlyIf_kept ?_ ?_
  · intro q1 q2
    refine doStart_kept ?_
    assumption
  · assumption

end Sys2Proof.Machine
end

