-- ==== Sys2Proof/Laws/KeptImageMap.lean ====
section
/-! SUPPORT. `Kept` for every operation of Machine/ImageMap.lean: what each of them leaves as it is (the canonical form of the state,
the queue, the identity OTP), cited in place of unfolding it. -/
namespace Sys2Proof.Machine

theorem loadReg_kept {s0 : State} {e : ℕ × Word} {s : State} (hs : Kept s0 s) :
    Kept s0 (loadReg e s) := by
  unfold loadReg
  extract_lets y1
  clear_value y1
  refine Kept.ite ?_ ?_
  · assumption
  · refine wr_kept ?_
    assumption

theorem loadRegs_kept {s0 : State} {p : ℕ → Bool} {l : List (ℕ × Word)} {s : State} (hs : Kept s0 s) :
    Kept s0 (loadRegs p l s) := by
  unfold loadRegs
  refine Kept.foldl ?_ ?_
  · intro q1 q2 q3
    refine Kept.ite ?_ ?_
    · refine loadReg_kept ?_
      assumption
    · assumption
  · assumption

theorem defaultReg_kept {s0 : State} {a : ℕ} {m : Word} {s : State} (hs : Kept s0 s) :
    Kept s0 (defaultReg a m s) := by
  unfold defaultReg
  refine wr_kept ?_
  assumption

theorem defaultRegs_kept {s0 : State} {p : ℕ → Bool} {s : State} (hs : Kept s0 s) :
    Kept s0 (defaultRegs p s) := by
  unfold defaultRegs
  extract_lets y1
  have hy1 : Kept s0 y1 := by
    unfold y1
    refine Kept.foldl ?_ ?_
    · intro q1 q2 q3
      refine Kept.foldl ?_ ?_
      · intro q4 q5 q6
        extract_lets y2
        clear_value y2
        refine Kept.ite ?_ ?_
        · refine defaultReg_kept ?_
          assumption
        · assumption
      · assumption
    · assumption
  clear_value y1
  refine Kept.foldl ?_ ?_
  · intro q1 q2 q3
    refine Kept.ite ?_ ?_
    · refine put_kept ?_
      assumption
    · assumption
  · assumption

end Sys2Proof.Machine
end

