-- ==== Sys2Proof/Laws/KeptLoader.lean ====
section
/-! SUPPORT. `Kept` for every operation of Machine/Loader.lean: what each of them leaves as it is (the canonical form of the state,
the queue, the identity OTP), cited in place of unfolding it. -/
namespace Sys2Proof.Machine

theorem showFail_kept {s0 : State} {f : ImgFail} {s : State} (hs : Kept s0 s) :
    Kept s0 (showFail f s) := by
  unfold showFail
  refine raise_kept ?_
  refine put_kept ?_
  refine put_kept ?_
  refine put_kept ?_
  assumption

end Sys2Proof.Machine
end

