-- ==== Sys2Proof/Laws/KeptStartMetro.lean ====
section
/-! SUPPORT. `Kept` for every operation of Machine/StartMetro.lean: what each of them leaves as it is (the canonical form of the state,
the queue, the identity OTP), cited in place of unfolding it. -/
namespace Sys2Proof.Machine

theorem loadAcc_kept {s0 : State} {im : Option AccImage} {s : State} (hs : Kept s0 s) :
    Kept s0 (loadAcc im s) := by
  unfold loadAcc
  extract_lets y1 y2 y3 y4
  clear_value y1
  clear_value y2
  clear_value y3
  have hy4 : Kept s0 y4 := by
    unfold y4
    exact hs.upd rfl rfl rfl rfl rfl rfl rfl rfl rfl
  clear_value y4
  refine publishAcc_kept ?_
  refine Kept.foldl ?_ ?_
  · intro q1 q2 q3
    refine put_kept ?_
    assumption
  · assumption

theorem restoreAcc_kept {s0 : State} {s : State} (hs : Kept s0 s) :
    Kept s0 (restoreAcc s) := by
  unfold restoreAcc
  extract_lets y1 y2 y3 y4 y5
  clear_value y1
  clear_value y2
  have hy3 : Kept s0 y3 := by
    unfold y3
    refine put_kept ?_
    refine put_kept ?_
    refine put_kept ?_
    refine loadAcc_kept ?_
    assumption
  clear_value y3
  clear_value y4
  have hy5 : Kept s0 y5 := by
    unfold y5
    refine Kept.ite ?_ ?_
    · assumption
    · refine legalEvent_kept ?_
      assumption
  clear_value y5
  refine raise_kept ?_
  refine raiseIf_kept ?_
  assumption

theorem startTracker_kept {s0 : State} {s : State} (hs : Kept s0 s) :
    Kept s0 (startTracker s) := by
  unfold startTracker
  extract_lets y1 y2
  clear_value y1
  clear_value y2
  refine setGrid_kept ?_
  refine setTracker_kept ?_
  refine put_kept ?_
  assumption

theorem align_kept {s0 : State} {s : State} (hs : Kept s0 s) :
    Kept s0 (align s) := by
  unfold align
  extract_lets y1 y2
  clear_value y1
  clear_value y2
  refine Kept.foldl ?_ ?_
  · intro q1 q2 q3
    refine put_kept ?_
    assumption
  · assumption

theorem showCoef_kept {s0 : State} {sl : ℕ} {c : ℤ × ℤ × ℤ} {s : State} (hs : Kept s0 s) :
    Kept s0 (showCoef sl c s) := by
  unfold showCoef
  refine putS_kept ?_
  refine putS_kept ?_
  refine putS_kept ?_
  assumption

theorem startSlice_kept {s0 : State} {sl : ℕ} {s : State} (hs : Kept s0 s) :
    Kept s0 (startSlice sl s) := by
  unfold startSlice
  split
  · refine put_kept ?_
    refine put_kept ?_
    refine put_kept ?_
    assumption
  · refine put_kept ?_
    assumption

theorem startConverter_kept {s0 : State} {s : State} (hs : Kept s0 s) :
    Kept s0 (startConverter s) := by
  unfold startConverter
  extract_lets y1 y2 y3 y4 y5 y6 y7 y8 y9 y10 y11 y12 y13 y14 y15 y16
  clear_value y1
  have hy2 : Kept s0 y2 := by
    unfold y2
    refine put_kept ?_
    assumption
  clear_value y2
  have hy3 : Kept s0 y3 := by
    unfold y3
    refine Kept.foldl ?_ ?_
    · intro q1 q2 q3
      refine showCoef_kept ?_
      assumption
    · assumption
  clear_value y3
  clear_value y4
  clear_value y5
  clear_value y6
  have hy7 : Kept s0 y7 := by
    unfold y7
    exact hy3.upd rfl rfl rfl rfl rfl rfl rfl rfl rfl
  clear_value y7
  have hy8 : Kept s0 y8 := by
    unfold y8
    refine Kept.foldl ?_ ?_
    · intro q1 q2 q3
      refine setMap_kept ?_
      assumption
    · assumption
  clear_value y8
  have hy9 : Kept s0 y9 := by
    unfold y9
    refine Kept.foldl ?_ ?_
    · intro q1 q2 q3
      refine setMap_kept ?_
      assumption
    · assumption
  clear_value y9
  have hy10 : Kept s0 y10 := by
    unfold y10
    refine Kept.foldl ?_ ?_
    · intro q1 q2 q3
      refine put_kept ?_
      assumption
    · assumption
  clear_value y10
  have hy11 : Kept s0 y11 := by
    unfold y11
    refine Kept.foldl ?_ ?_
    · intro q1 q2 q3
      refine put_kept ?_
      refine startSlice_kept ?_
      assumption
    · assumption
  clear_value y11
  clear_value y12
  clear_value y13
  have hy14 : Kept s0 y14 := by
    unfold y14
    exact hy11.upd rfl rfl rfl rfl rfl rfl rfl rfl rfl
  clear_value y14
  have hy15 : Kept s0 y15 := by
    unfold y15
    refine showSpares_kept ?_
    refine put_kept ?_
    assumption
  clear_value y15
  clear_value y16
  refine Kept.ite ?_ ?_
  · refine sliceEvent_kept ?_
    exact hy15.upd rfl rfl rfl rfl rfl rfl rfl rfl rfl
  · assumption

theorem startMetro_kept {s0 : State} {s : State} (hs : Kept s0 s) :
    Kept s0 (startMetro s) := by
  unfold startMetro
  extract_lets y1 y2 y3 y4 y5
  clear_value y1
  have hy2 : Kept s0 y2 := by
    unfold y2
    exact hs.upd rfl rfl rfl rfl rfl rfl rfl rfl rfl
  clear_value y2
  have hy3 : Kept s0 y3 := by
    unfold y3
    refine put_kept ?_
    assumption
  clear_value y3
  have hy4 : Kept s0 y4 := by
    unfold y4
    refine put_kept ?_
    assumption
  clear_value y4
  have hy5 : Kept s0 y5 := by
    unfold y5
    refine restoreAcc_kept ?_
    refine startTracker_kept ?_
    refine align_kept ?_
    refine startConverter_kept ?_
    assumption
  clear_value y5
  refine put_kept ?_
  assumption

theorem resumeBilling_kept {s0 : State} {s : State} (hs : Kept s0 s) :
    Kept s0 (resumeBilling s) := by
  unfold resumeBilling
  extract_lets y1 y2
  clear_value y1
  have hy2 : Kept s0 y2 := by
    unfold y2
    refine updBil_kept ?_
    assumption
  clear_value y2
  refine showBilling_kept ?_
  refine stageTariff_kept ?_
  refine rebaseP1_kept ?_
  assumption

end Sys2Proof.Machine
end

