-- ==== Sys2Proof/Laws/KeptStart.lean ====
section
/-! SUPPORT. `Kept` for every operation of Machine/Start.lean: what each of them leaves as it is (the canonical form of the state,
the queue, the identity OTP), cited in place of unfolding it. -/
namespace Sys2Proof.Machine

theorem passOneFails_kept {s0 : State} {s : State} (hs : Kept s0 s) :
    Kept s0 (passOneFails s) := by
  unfold passOneFails
  refine raise_kept ?_
  refine put_kept ?_
  exact hs.upd rfl rfl rfl rfl rfl rfl rfl rfl rfl

theorem finishLegalCopy_kept {s0 : State} {s : State} (hs : Kept s0 s) :
    Kept s0 (finishLegalCopy s) := by
  unfold finishLegalCopy
  extract_lets y1 y2 y3 y4 y5
  clear_value y1
  clear_value y2
  clear_value y3
  have hy4 : Kept s0 y4 := by
    unfold y4
    exact hs.upd rfl rfl rfl rfl rfl rfl rfl rfl rfl
  clear_value y4
  have hy5 : Kept s0 y5 := by
    unfold y5
    refine Kept.ite ?_ ?_
    · refine legalChange_kept ?_
      assumption
    · assumption
  clear_value y5
  refine Kept.ite ?_ ?_
  · assumption
  · refine raise_kept ?_
    refine writeUpd_kept ?_
    assumption

theorem halt_kept {s0 : State} {s : State} (hs : Kept s0 s) :
    Kept s0 (halt s) := by
  unfold halt
  extract_lets y1 y2 y3 y4 y5
  have hy1 : Kept s0 y1 := by
    unfold y1
    refine Kept.foldl ?_ ?_
    · intro q1 q2 q3
      refine powerDown_kept ?_
      refine clearDom_kept ?_
      assumption
    · assumption
  clear_value y1
  clear_value y2
  clear_value y3
  have hy4 : Kept s0 y4 := by
    unfold y4
    exact hy1.upd rfl rfl rfl rfl rfl rfl rfl rfl rfl
  clear_value y4
  have hy5 : Kept s0 y5 := by
    unfold y5
    refine wr_kept ?_
    refine wr_kept ?_
    assumption
  clear_value y5
  refine setLoader_kept ?_
  refine put_kept ?_
  refine applyClaims_kept ?_
  assumption

theorem showFallback_kept {s0 : State} {f : Fallback} {s : State} (hs : Kept s0 s) :
    Kept s0 (showFallback f s) := by
  unfold showFallback
  refine put_kept ?_
  refine put_kept ?_
  refine put_kept ?_
  refine put_kept ?_
  assumption

theorem placeShares_kept {s0 : State} {loads : Bool} {s : State} (hs : Kept s0 s) :
    Kept s0 (placeShares loads s) := by
  unfold placeShares
  refine Kept.ite ?_ ?_
  · extract_lets y1
    clear_value y1
    refine put_kept ?_
    refine put_kept ?_
    refine put_kept ?_
    assumption
  · assumption

theorem loadClaims_kept {s0 : State} {k : LoadKind} {t : ImgTables} {s : State} (hs : Kept s0 s) :
    Kept s0 (loadClaims k t s) := by
  unfold loadClaims
  split
  · refine Kept.foldl ?_ ?_
    · intro q1 q2 q3
      refine claimTimer_kept ?_
      assumption
    · assumption
  · refine applyClaims_kept ?_
    assumption

theorem chooseMpll_kept {s0 : State} {s : State} (hs : Kept s0 s) :
    Kept s0 (chooseMpll s) := by
  unfold chooseMpll
  extract_lets y1
  clear_value y1
  refine put_kept ?_
  assumption

theorem sectionCoefs_kept {s0 : State} {regs : List (ℕ × Word)} {s : State} (hs : Kept s0 s) :
    Kept s0 (sectionCoefs regs s) := by
  unfold sectionCoefs
  extract_lets y1 y2 y3
  have hy2 : Kept s0 y2 := by
    unfold y2
    refine loadRegs_kept ?_
    assumption
  clear_value y2
  clear_value y3
  refine put_kept ?_
  exact hy2.upd rfl rfl rfl rfl rfl rfl rfl rfl rfl

theorem writeLoad_kept {s0 : State} {k : LoadKind} {regs : List (ℕ × Word)} {metro : List ℕ} {t : ImgTables} {s : State} (hs : Kept s0 s) :
    Kept s0 (writeLoad k regs metro t s) := by
  unfold writeLoad
  extract_lets y1 y2 y3 y4 y5 y6 y7 y8 y9 y10 y11 y12 y13 y14
  clear_value y1
  clear_value y2
  have hy3 : Kept s0 y3 := by
    unfold y3
    refine Kept.foldl ?_ ?_
    · intro q1 q2 q3
      refine powerUp_kept ?_
      assumption
    · assumption
  clear_value y3
  have hy4 : Kept s0 y4 := by
    unfold y4
    refine Kept.ite ?_ ?_
    · refine powerUp_kept ?_
      assumption
    · assumption
  clear_value y4
  clear_value y6
  have hy7 : Kept s0 y7 := by
    unfold y7
    refine loadRegs_kept ?_
    refine defaultRegs_kept ?_
    exact hy4.upd rfl rfl rfl rfl rfl rfl rfl rfl rfl
  clear_value y7
  have hy8 : Kept s0 y8 := by
    unfold y8
    refine Kept.ite ?_ ?_
    · refine put_kept ?_
      assumption
    · assumption
  clear_value y8
  have hy9 : Kept s0 y9 := by
    unfold y9
    refine Kept.foldl ?_ ?_
    · intro q1 q2 q3
      refine put_kept ?_
      refine put_kept ?_
      assumption
    · assumption
  clear_value y9
  have hy10 : Kept s0 y10 := by
    unfold y10
    refine placeShares_kept ?_
    assumption
  clear_value y10
  have hy11 : Kept s0 y11 := by
    unfold y11
    refine Kept.ite ?_ ?_
    · refine d3Off_kept ?_
      assumption
    · assumption
  clear_value y11
  have hy12 : Kept s0 y12 := by
    unfold y12
    refine Kept.ite ?_ ?_
    · refine loseCapture_kept ?_
      assumption
    · assumption
  clear_value y12
  have hy13 : Kept s0 y13 := by
    unfold y13
    refine loadClaims_kept ?_
    refine put_kept ?_
    assumption
  clear_value y13
  have hy14 : Kept s0 y14 := by
    unfold y14
    refine Kept.ite ?_ ?_
    · refine chooseMpll_kept ?_
      assumption
    · refine Kept.ite ?_ ?_
      · refine sectionCoefs_kept ?_
        assumption
      · assumption
  clear_value y14
  refine put_kept ?_
  assumption

theorem startEngines_kept {s0 : State} {k : LoadKind} {s : State} (hs : Kept s0 s) :
    Kept s0 (startEngines k s) := by
  unfold startEngines
  extract_lets y1 y2 y3 y4 y5 y6 y7 y8
  clear_value y2
  clear_value y3
  have hy4 : Kept s0 y4 := by
    unfold y4
    exact hs.upd rfl rfl rfl rfl rfl rfl rfl rfl rfl
  clear_value y4
  have hy5 : Kept s0 y5 := by
    unfold y5
    refine Kept.ite ?_ ?_
    · refine startMetro_kept ?_
      assumption
    · assumption
  clear_value y5
  have hy6 : Kept s0 y6 := by
    unfold y6
    refine Kept.ite ?_ ?_
    · refine counterAdd_kept ?_
      assumption
    · assumption
  clear_value y6
  have hy7 : Kept s0 y7 := by
    unfold y7
    refine raiseIf_kept ?_
    assumption
  clear_value y7
  have hy8 : Kept s0 y8 := by
    unfold y8
    refine restoreCredit_kept ?_
    refine startObjects_kept ?_
    refine startFabric_kept ?_
    refine startModem_kept ?_
    refine startWell_kept ?_
    refine refreshLines_kept ?_
    assumption
  clear_value y8
  refine Kept.ite ?_ ?_
  · refine restoreBilling_kept ?_
    assumption
  · refine resumeBilling_kept ?_
    assumption

theorem fallbackResponses_kept {s0 : State} {s : State} (hs : Kept s0 s) :
    Kept s0 (fallbackResponses s) := by
  unfold fallbackResponses
  refine Kept.foldl ?_ ?_
  · intro q1 q2 q3
    refine wr_kept ?_
    assumption
  · assumption

theorem runFallback_kept {s0 : State} {f : Fallback} {s : State} (hs : Kept s0 s) :
    Kept s0 (runFallback f s) := by
  unfold runFallback
  extract_lets y1 y2 y3 y4 y5 y6 y7 y8 y9
  clear_value y1
  clear_value y2
  have hy3 : Kept s0 y3 := by
    unfold y3
    refine Kept.ite ?_ ?_
    · refine restartDoms_kept ?_
      assumption
    · assumption
  clear_value y3
  clear_value y4
  have hy5 : Kept s0 y5 := by
    unfold y5
    refine setLoader_kept ?_
    refine showFallback_kept ?_
    assumption
  clear_value y5
  have hy6 : Kept s0 y6 := by
    unfold y6
    refine writeLoad_kept ?_
    assumption
  clear_value y6
  clear_value y7
  clear_value y8
  have hy9 : Kept s0 y9 := by
    unfold y9
    exact hy6.upd rfl rfl rfl rfl rfl rfl rfl rfl rfl
  clear_value y9
  refine put_kept ?_
  refine startEngines_kept ?_
  refine fallbackResponses_kept ?_
  assumption

theorem fallbackStart_kept {s0 : State} {s : State} (hs : Kept s0 s) :
    Kept s0 (fallbackStart s) := by
  unfold fallbackStart
  split
  · refine halt_kept ?_
    assumption
  · refine Kept.ite ?_ ?_
    · refine runFallback_kept ?_
      assumption
    · refine halt_kept ?_
      assumption

theorem execRecallDone_kept {s0 : State} {s : State} (hs : Kept s0 s) :
    KeptOut s0 (execRecallDone s) := by
  unfold execRecallDone
  refine onlyIf_kept ?_ ?_
  · intro q1 q2
    extract_lets y1 y2 y3 y4 y5 y6 y7 y8 y9 y10 y11 y12 y13 y14
    clear_value y1
    have hy2 : Kept s0 y2 := by
      unfold y2
      refine updCis_kept ?_
      assumption
    clear_value y2
    have hy3 : Kept s0 y3 := by
      unfold y3
      refine Kept.ite ?_ ?_
      · refine dirty_kept ?_
        assumption
      · assumption
    clear_value y3
    clear_value y4
    have hy5 : Kept s0 y5 := by
      unfold y5
      exact hy3.upd rfl rfl rfl rfl rfl rfl rfl rfl rfl
    clear_value y5
    have hy6 : Kept s0 y6 := by
      unfold y6
      refine put_kept ?_
      assumption
    clear_value y6
    have hy7 : Kept s0 y7 := by
      unfold y7
      refine Kept.ite ?_ ?_
      · refine put_kept ?_
        assumption
      · assumption
    clear_value y7
    have hy8 : Kept s0 y8 := by
      unfold y8
      refine Kept.ite ?_ ?_
      · assumption
      · refine put_kept ?_
        assumption
    clear_value y8
    clear_value y9
    have hy10 : Kept s0 y10 := by
      unfold y10
      refine Kept.ite ?_ ?_
      · assumption
      · refine legalEvent_kept ?_
        assumption
    clear_value y10
    clear_value y11
    have hy12 : Kept s0 y12 := by
      unfold y12
      refine flushTamp_kept ?_
      refine restoreFaults_kept ?_
      refine reportTies_kept ?_
      assumption
    clear_value y12
    have hy13 : Kept s0 y13 := by
      unfold y13
      refine finishLegalCopy_kept ?_
      refine Kept.ite ?_ ?_
      · refine keepFaults_kept ?_
        assumption
      · assumption
    clear_value y13
    have hy14 : Kept s0 y14 := by
      unfold y14
      refine Kept.ite ?_ ?_
      · refine storeBanks_kept ?_
        assumption
      · assumption
    clear_value y14
    refine Kept.ite ?_ ?_
    · refine fallbackStart_kept ?_
      assumption
    · assumption
  · assumption

theorem finishStores_kept {s0 s : State} {n : Nat} (hs : Kept s0 s) : Kept s0 (finishStores n s) := by
  induction n generalizing s with
  | zero => exact hs
  | succ n ih =>
    rw [finishStores]
    split
    · exact hs
    · exact ih (commitStore_kept hs)

theorem reloadHalted_kept {s0 : State} {p : Probe} {s : State} (hs : Kept s0 s) :
    Kept s0 (reloadHalted p s) := by
  unfold reloadHalted
  extract_lets y1 y2 y3
  have hy1 : Kept s0 y1 := by
    unfold y1
    refine restartDoms_kept ?_
    refine finishStores_kept ?_
    assumption
  clear_value y1
  clear_value y2
  have hy3 : Kept s0 y3 := by
    unfold y3
    exact hy1.upd rfl rfl rfl rfl rfl rfl rfl rfl rfl
  clear_value y3
  refine probeMemory_kept ?_
  refine setLoader_kept ?_
  assumption

theorem cfgCtlWrite_kept {s0 : State} {p : Probe} {w : Word} {s : State} (hs : Kept s0 s) :
    Kept s0 (cfgCtlWrite p w s) := by
  unfold cfgCtlWrite
  refine Kept.ite ?_ ?_
  · assumption
  · refine Kept.ite ?_ ?_
    · refine reloadHalted_kept ?_
      assumption
    · refine Kept.ite ?_ ?_
      · refine raise_kept ?_
        assumption
      · refine Kept.ite ?_ ?_
        · refine raise_kept ?_
          refine raise_kept ?_
          assumption
        · extract_lets y1 y2
          have hy1 : Kept s0 y1 := by
            unfold y1
            refine beginRead_kept ?_
            assumption
          clear_value y1
          clear_value y2
          refine put_kept ?_
          exact hy1.upd rfl rfl rfl rfl rfl rfl rfl rfl rfl

theorem beginSecondPass_kept {s0 : State} {all : Bool} {s : State} (hs : Kept s0 s) :
    Kept s0 (beginSecondPass all s) := by
  unfold beginSecondPass
  extract_lets y1 y2 y3 y4 y5 y6
  clear_value y1
  have hy2 : Kept s0 y2 := by
    unfold y2
    refine Kept.ite ?_ ?_
    · refine dropProfile_kept ?_
      assumption
    · assumption
  clear_value y2
  have hy3 : Kept s0 y3 := by
    unfold y3
    refine coresAtOp0_kept ?_
    refine restartDoms_kept ?_
    assumption
  clear_value y3
  have hy4 : Kept s0 y4 := by
    unfold y4
    refine put_kept ?_
    refine put_kept ?_
    refine put_kept ?_
    assumption
  clear_value y4
  clear_value y5
  have hy6 : Kept s0 y6 := by
    unfold y6
    exact hy4.upd rfl rfl rfl rfl rfl rfl rfl rfl rfl
  clear_value y6
  refine put_kept ?_
  refine setLoader_kept ?_
  assumption

theorem restartD5_kept {s0 : State} {s : State} (hs : Kept s0 s) :
    Kept s0 (restartD5 s) := by
  unfold restartD5
  extract_lets y1 y2 y3 y4
  have hy1 : Kept s0 y1 := by
    unfold y1
    refine restartDoms_kept ?_
    refine closeAll_kept ?_
    assumption
  clear_value y1
  have hy3 : Kept s0 y3 := by
    unfold y3
    refine loadRegs_kept ?_
    refine defaultRegs_kept ?_
    assumption
  clear_value y3
  have hy4 : Kept s0 y4 := by
    unfold y4
    refine Kept.foldl ?_ ?_
    · intro q1 q2 q3
      refine claimTimer_kept ?_
      assumption
    · assumption
  clear_value y4
  refine stageTariff_kept ?_
  refine restoreCredit_kept ?_
  refine startObjects_kept ?_
  assumption

theorem execEngineRestartDone_kept {s0 : State} {e : ℕ} {s : State} (hs : Kept s0 s) :
    KeptOut s0 (execEngineRestartDone e s) := by
  unfold execEngineRestartDone
  refine onlyIf_kept ?_ ?_
  · intro q1 q2
    extract_lets y1 y2 y3
    clear_value y1
    have hy2 : Kept s0 y2 := by
      unfold y2
      exact q2.upd rfl rfl rfl rfl rfl rfl rfl rfl rfl
    clear_value y2
    clear_value y3
    refine Kept.ite ?_ ?_
    · refine showBilling_kept ?_
      refine updBil_kept ?_
      assumption
    · refine Kept.ite ?_ ?_
      · refine restoreCredit_kept ?_
        assumption
      · refine Kept.ite ?_ ?_
        · refine spoilFrames_kept ?_
          assumption
        · refine Kept.ite ?_ ?_
          · refine Kept.ite ?_ ?_
            · refine listening_kept ?_
              assumption
            · assumption
          · assumption
  · assumption

theorem execReread_kept {s0 : State} {m : Master} {w : Word} {p : Probe} {s : State} (hs : Kept s0 s) :
    KeptOut s0 (execReread m w p s) := by
  unfold execReread
  refine cmdWrite_kept ?_ ?_
  · intro q1 q2
    refine Kept.ite ?_ ?_
    · refine denied_kept ?_
      assumption
    · refine cfgCtlWrite_kept ?_
      assumption
  · assumption

theorem placeImage_kept {s0 : State} {img : Image} {s : State} (hs : Kept s0 s) :
    Kept s0 (placeImage img s) := by
  unfold placeImage
  refine wrBytes_kept ?_
  assumption

theorem refuseLoading_kept {s0 : State} {s : State} (hs : Kept s0 s) :
    Kept s0 (refuseLoading s) := by
  unfold refuseLoading
  refine Kept.ite ?_ ?_
  · refine doStart_kept ?_
    refine powerOnReset_kept ?_
    assumption
  · refine Kept.ite ?_ ?_
    · refine fallbackStart_kept ?_
      assumption
    · exact hs.upd rfl rfl rfl rfl rfl rfl rfl rfl rfl

theorem keepImage_kept {s0 : State} {img : Image} {s : State} (hs : Kept s0 s) :
    Kept s0 (keepImage img s) := by
  unfold keepImage
  extract_lets y1 y2 y3 y4 y5 y6 y7
  clear_value y1
  clear_value y2
  clear_value y3
  have hy4 : Kept s0 y4 := by
    unfold y4
    refine Kept.ite ?_ ?_
    · refine writeKeep_kept ?_
      assumption
    · assumption
  clear_value y4
  clear_value y5
  clear_value y6
  have hy7 : Kept s0 y7 := by
    unfold y7
    refine Kept.ite ?_ ?_
    · refine dirty_kept ?_
      exact hy4.upd rfl rfl rfl rfl rfl rfl rfl rfl rfl
    · assumption
  clear_value y7
  refine Kept.ite ?_ ?_
  · refine storeNow_kept ?_
    assumption
  · assumption

theorem acceptImage_kept {s0 : State} {img : Image} {s : State} (hs : Kept s0 s) :
    Kept s0 (acceptImage img s) := by
  unfold acceptImage
  extract_lets y1 y2 y3 y4 y5 y6 y7 y8 y9
  clear_value y1
  have hy2 : Kept s0 y2 := by
    unfold y2
    refine keepImage_kept ?_
    assumption
  clear_value y2
  have hy3 : Kept s0 y3 := by
    unfold y3
    refine setLoader_kept ?_
    assumption
  clear_value y3
  have hy4 : Kept s0 y4 := by
    unfold y4
    refine put_kept ?_
    refine put_kept ?_
    refine put_kept ?_
    refine put_kept ?_
    assumption
  clear_value y4
  have hy5 : Kept s0 y5 := by
    unfold y5
    refine writeLoad_kept ?_
    assumption
  clear_value y5
  clear_value y6
  clear_value y7
  have hy8 : Kept s0 y8 := by
    unfold y8
    exact hy5.upd rfl rfl rfl rfl rfl rfl rfl rfl rfl
  clear_value y8
  have hy9 : Kept s0 y9 := by
    unfold y9
    refine startEngines_kept ?_
    assumption
  clear_value y9
  refine Kept.ite ?_ ?_
  · refine raise_kept ?_
    refine put_kept ?_
    assumption
  · assumption

theorem execImageVerify_kept {s0 : State} {img : Image} {s : State} (hs : Kept s0 s) :
    KeptOut s0 (execImageVerify img s) := by
  unfold execImageVerify
  refine onlyIf_kept ?_ ?_
  · intro q1 q2
    extract_lets y1
    have hy1 : Kept s0 y1 := by
      unfold y1
      refine placeImage_kept ?_
      assumption
    clear_value y1
    split
    · refine refuseLoading_kept ?_
      refine showFail_kept ?_
      assumption
    · refine Kept.ite ?_ ?_
      · refine refuseLoading_kept ?_
        assumption
      · refine acceptImage_kept ?_
        assumption
  · assumption

theorem revertTrial_kept {s0 : State} {s : State} (hs : Kept s0 s) :
    Kept s0 (revertTrial s) := by
  unfold revertTrial
  refine Kept.ite ?_ ?_
  · refine raise_kept ?_
    refine restartD5_kept ?_
    refine rejectTrial_kept ?_
    assumption
  · assumption

theorem quarantineEffect_kept {s0 : State} {e : ℕ} {s : State} (hs : Kept s0 s) :
    Kept s0 (quarantineEffect e s) := by
  unfold quarantineEffect
  refine Kept.ite ?_ ?_
  · refine revertTrial_kept ?_
    refine closeAll_kept ?_
    assumption
  · refine Kept.ite ?_ ?_
    · refine updWell_kept ?_ ?_ ?_ ?_ ?_ ?_
      · refine abortJob_kept ?_
        assumption
      · rfl
      · rfl
      · rfl
      · rfl
      · rfl
    · refine Kept.ite ?_ ?_
      · refine spoilFrames_kept ?_
        assumption
      · refine Kept.ite ?_ ?_
        · extract_lets y1
          have hy1 : Kept s0 y1 := by
            unfold y1
            refine updLmd_kept ?_
            refine abandonTx_kept ?_
            refine abortSounding_kept ?_
            assumption
          clear_value y1
          refine Kept.ite ?_ ?_
          · assumption
          · refine lmdState_kept ?_
            assumption
        · assumption

theorem retryRead_kept {s0 : State} {sect : ℕ} {n : ℕ} {s : State} (hs : Kept s0 s) :
    Kept s0 (retryRead sect n s) := by
  unfold retryRead
  extract_lets y1 y2
  clear_value y1
  clear_value y2
  exact hs.upd rfl rfl rfl rfl rfl rfl rfl rfl rfl

theorem execSectionRetry_kept {s0 : State} {sect : ℕ} {ok : Bool} {s : State} (hs : Kept s0 s) :
    KeptOut s0 (execSectionRetry sect ok s) := by
  unfold execSectionRetry
  extract_lets y1
  clear_value y1
  refine onlyIf_kept ?_ ?_
  · intro q1 q2
    extract_lets y2 y3 y4 y5
    clear_value y2
    have hy3 : Kept s0 y3 := by
      unfold y3
      refine retryRead_kept ?_
      assumption
    clear_value y3
    clear_value y4
    have hy5 : Kept s0 y5 := by
      unfold y5
      refine showFail_kept ?_
      exact hy3.upd rfl rfl rfl rfl rfl rfl rfl rfl rfl
    clear_value y5
    refine Kept.ite ?_ ?_
    · assumption
    · refine Kept.ite ?_ ?_
      · refine passOneFails_kept ?_
        assumption
      · refine refuseLoading_kept ?_
        assumption
  · assumption

theorem execGuardRelease_kept {s0 : State} {s : State} (hs : Kept s0 s) :
    KeptOut s0 (execGuardRelease s) := by
  unfold execGuardRelease
  refine onlyIf_kept ?_ ?_
  · intro q1 q2
    extract_lets y1 y2 y3
    clear_value y1
    have hy2 : Kept s0 y2 := by
      unfold y2
      refine put_kept ?_
      exact q2.upd rfl rfl rfl rfl rfl rfl rfl rfl rfl
    clear_value y2
    have hy3 : Kept s0 y3 := by
      unfold y3
      refine raise_kept ?_
      refine put_kept ?_
      assumption
    clear_value y3
    refine refreshLines_kept ?_
    refine nextToken_kept ?_
    refine releaseRelays_kept ?_
    assumption
  · assumption

theorem execRereadPassOneDone_kept {s0 : State} {img : Image} {s : State} (hs : Kept s0 s) :
    KeptOut s0 (execRereadPassOneDone img s) := by
  unfold execRereadPassOneDone
  refine onlyIf_kept ?_ ?_
  · intro q1 q2
    split
    · refine passOneFails_kept ?_
      refine showFail_kept ?_
      assumption
    · refine Kept.ite ?_ ?_
      · refine beginSecondPass_kept ?_
        assumption
      · extract_lets y1 y2
        have hy1 : Kept s0 y1 := by
          unfold y1
          refine powerFailStore_kept ?_
          refine freezeMetro_kept ?_
          assumption
        clear_value y1
        clear_value y2
        refine updSup_kept ?_
        exact hy1.upd rfl rfl rfl rfl rfl rfl rfl rfl rfl
  · assumption

theorem execFreezeRestart_kept {s0 : State} {p : Probe} {s : State} (hs : Kept s0 s) :
    KeptOut s0 (execFreezeRestart p s) := by
  unfold execFreezeRestart
  refine onlyIf_kept ?_ ?_
  · intro q1 q2
    refine Kept.ite ?_ ?_
    · refine beginSecondPass_kept ?_
      assumption
    · refine doStart_kept ?_
      assumption
  · assumption

theorem execWatchdogExpiry_kept {s0 : State} {e : ℕ} {p : Probe} {s : State} (hs : Kept s0 s) :
    KeptOut s0 (execWatchdogExpiry e p s) := by
  unfold execWatchdogExpiry
  extract_lets y1
  clear_value y1
  refine KeptOut.ite ?_ ?_
  · refine KeptOut.next ?_
    refine doStart_kept ?_
    refine powerOnReset_kept ?_
    assumption
  · refine onlyIf_kept ?_ ?_
    · intro q1 q2
      extract_lets y2 y3 y4
      clear_value y2
      have hy3 : Kept s0 y3 := by
        unfold y3
        refine raise_kept ?_
        exact q2.upd rfl rfl rfl rfl rfl rfl rfl rfl rfl
      clear_value y3
      have hy4 : Kept s0 y4 := by
        unfold y4
        refine occurrence_kept ?_
        refine quarantineEffect_kept ?_
        assumption
      clear_value y4
      refine Kept.ite ?_ ?_
      · refine refreshLines_kept ?_
        refine partialStart_kept ?_
        assumption
      · assumption
    · assumption

theorem execLegalCopyDone_kept {s0 : State} {p : Probe} {s : State} (hs : Kept s0 s) :
    KeptOut s0 (execLegalCopyDone p s) := by
  unfold execLegalCopyDone
  refine onlyIf_kept ?_ ?_
  · intro q1 q2
    refine doStart_kept ?_
    refine powerOnReset_kept ?_
    refine storeNow_kept ?_
    refine storeNow_kept ?_
    refine finishLegalCopy_kept ?_
    assumption
  · assumption

end Sys2Proof.Machine
end

