-- ==== Sys2Proof/Laws/KeptTamper.lean ====
section
/-! SUPPORT. `Kept` for every operation of Machine/Tamper.lean: what each of them leaves as it is (the canonical form of the state,
the queue, the identity OTP), cited in place of unfolding it. -/
namespace Sys2Proof.Machine

theorem evalLate_kept {s0 : State} {e : LateAlarm} {s : State} (hs : Kept s0 s) :
    Kept s0 (evalLate e s) := by
  unfold evalLate
  refine Kept.ite ?_ ?_
  · refine Kept.ite ?_ ?_
    · refine tripProducerAt_kept ?_
      assumption
    · assumption
  · refine Kept.ite ?_ ?_
    · refine releaseProducer_kept ?_
      assumption
    · assumption

theorem tampCtlWrite_kept {s0 : State} {w : Word} {s : State} (hs : Kept s0 s) :
    Kept s0 (tampCtlWrite w s) := by
  unfold tampCtlWrite
  refine Kept.ite ?_ ?_
  · assumption
  · refine Kept.ite ?_ ?_
    · refine clearLasting_kept ?_
      assumption
    · refine raise_kept ?_
      assumption

theorem addLate_kept {s0 : State} {x : ℕ} {trip : Bool} {detail : ℕ} {s : State} (hs : Kept s0 s) :
    Kept s0 (addLate x trip detail s) := by
  unfold addLate
  exact hs.upd rfl rfl rfl rfl rfl rfl rfl rfl rfl

theorem sourceTrip_kept {s0 : State} {x : ℕ} {frac : ℕ} {detail : ℕ} {s : State} (hs : Kept s0 s) :
    Kept s0 (sourceTrip x frac detail s) := by
  unfold sourceTrip
  refine Kept.ite ?_ ?_
  · refine Kept.ite ?_ ?_
    · refine addLate_kept ?_
      assumption
    · assumption
  · refine Kept.ite ?_ ?_
    · refine tripProducer_kept ?_
      assumption
    · assumption

theorem execTamperTrip_kept {s0 : State} {x : ℕ} {frac : ℕ} {detail : ℕ} {s : State} (hs : Kept s0 s) :
    KeptOut s0 (execTamperTrip x frac detail s) := by
  unfold execTamperTrip
  refine onlyIf_kept ?_ ?_
  · intro q1 q2
    refine sourceTrip_kept ?_
    assumption
  · assumption

theorem sourceRelease_kept {s0 : State} {x : ℕ} {s : State} (hs : Kept s0 s) :
    Kept s0 (sourceRelease x s) := by
  unfold sourceRelease
  refine Kept.ite ?_ ?_
  · refine Kept.ite ?_ ?_
    · refine addLate_kept ?_
      assumption
    · assumption
  · refine Kept.ite ?_ ?_
    · refine releaseProducer_kept ?_
      assumption
    · assumption

theorem execTamperRelease_kept {s0 : State} {x : ℕ} {s : State} (hs : Kept s0 s) :
    KeptOut s0 (execTamperRelease x s) := by
  unfold execTamperRelease
  refine onlyIf_kept ?_ ?_
  · intro q1 q2
    refine sourceRelease_kept ?_
    assumption
  · assumption

theorem execQuietClear_kept {s0 : State} {s : State} (hs : Kept s0 s) :
    KeptOut s0 (execQuietClear s) := by
  unfold execQuietClear
  refine onlyIf_kept ?_ ?_
  · intro q1 q2
    refine Kept.foldl ?_ ?_
    · intro q3 q4 q5
      refine Kept.ite ?_ ?_
      · refine clearLasting_kept ?_
        assumption
      · assumption
    · assumption
  · assumption

theorem evalLatched_kept {s0 : State} {x : ℕ} {s : State} (hs : Kept s0 s) :
    Kept s0 (evalLatched x s) := by
  unfold evalLatched
  refine Kept.ite ?_ ?_
  · refine tripProducer_kept ?_
    refine logTamp_kept ?_
    assumption
  · assumption

theorem execTamperEvaluation_kept {s0 : State} {s : State} (hs : Kept s0 s) :
    KeptOut s0 (execTamperEvaluation s) := by
  unfold execTamperEvaluation
  refine onlyIf_kept ?_ ?_
  · intro q1 q2
    extract_lets y1 y2 y3 y4 y5
    have hy1 : Kept s0 y1 := by
      unfold y1
      refine put_kept ?_
      refine put_kept ?_
      assumption
    clear_value y1
    clear_value y2
    have hy3 : Kept s0 y3 := by
      unfold y3
      refine Kept.foldl ?_ ?_
      · intro q3 q4 q5
        refine evalLatched_kept ?_
        assumption
      · assumption
    clear_value y3
    have hy4 : Kept s0 y4 := by
      unfold y4
      refine Kept.foldl ?_ ?_
      · intro q3 q4 q5
        refine evalLate_kept ?_
        assumption
      · assumption
    clear_value y4
    clear_value y5
    refine refreshLines_kept ?_
    exact hy4.upd rfl rfl rfl rfl rfl rfl rfl rfl rfl
  · assumption

theorem coverSample_kept {s0 : State} {x : ℕ} {level : Bool} {s : State} (hs : Kept s0 s) :
    Kept s0 (coverSample x level s) := by
  unfold coverSample
  extract_lets y1 y2 y3 y4 y5
  clear_value y1
  clear_value y2
  clear_value y3
  clear_value y4
  have hy5 : Kept s0 y5 := by
    unfold y5
    exact hs.upd rfl rfl rfl rfl rfl rfl rfl rfl rfl
  clear_value y5
  refine Kept.ite ?_ ?_
  · refine sourceTrip_kept ?_
    assumption
  · refine Kept.ite ?_ ?_
    · refine sourceRelease_kept ?_
      assumption
    · assumption

theorem execOutageCoverSample_kept {s0 : State} {cov : Bool} {tcov : Bool} {s : State} (hs : Kept s0 s) :
    KeptOut s0 (execOutageCoverSample cov tcov s) := by
  unfold execOutageCoverSample
  refine onlyIf_kept ?_ ?_
  · intro q1 q2
    refine coverSample_kept ?_
    refine coverSample_kept ?_
    assumption
  · assumption

theorem execTamperClear_kept {s0 : State} {m : Master} {w : Word} {s : State} (hs : Kept s0 s) :
    KeptOut s0 (execTamperClear m w s) := by
  unfold execTamperClear
  refine cmdWrite_kept ?_ ?_
  · intro q1 q2
    refine tampCtlWrite_kept ?_
    assumption
  · assumption

theorem execFaultRecordMinute_kept {s0 : State} {s : State} (hs : Kept s0 s) :
    KeptOut s0 (execFaultRecordMinute s) := by
  unfold execFaultRecordMinute
  refine onlyIf_kept ?_ ?_
  · intro q1 q2
    refine writeFaultRec_kept ?_
    assumption
  · assumption

end Sys2Proof.Machine
end

