-- ==== Sys2Proof/Laws/KeptUpdate.lean ====
section
/-! SUPPORT. `Kept` for every operation of Machine/Update.lean: what each of them leaves as it is (the canonical form of the state,
the queue, the identity OTP), cited in place of unfolding it. -/
namespace Sys2Proof.Machine

theorem updRefuse_kept {s0 : State} {s : State} (hs : Kept s0 s) :
    Kept s0 (updRefuse s) := by
  unfold updRefuse
  refine raise_kept ?_
  assumption

theorem setSlotBytes_kept {s0 : State} {n : ℕ} {f : List Byte → List Byte} {s : State} (hs : Kept s0 s) :
    Kept s0 (setSlotBytes n f s) := by
  unfold setSlotBytes
  refine updObj_kept ?_
  assumption

theorem updBegin_kept {s0 : State} {region : ℕ} {s : State} (hs : Kept s0 s) :
    Kept s0 (updBegin region s).2 := by
  unfold updBegin
  extract_lets y1 y2 y3 y4
  clear_value y1
  clear_value y2
  have hy3 : Kept s0 y3 := by
    unfold y3
    refine setSlotBytes_kept ?_
    refine updObj_kept ?_
    assumption
  clear_value y3
  have hy4 : Kept s0 y4 := by
    unfold y4
    refine writeUpd_kept ?_
    assumption
  clear_value y4
  refine Kept.iteSnd ?_ ?_
  · refine Kept.mkSnd ?_
    refine updRefuse_kept ?_
    assumption
  · refine Kept.iteSnd ?_ ?_
    · refine Kept.mkSnd ?_
      refine raise_kept ?_
      assumption
    · refine Kept.mkSnd ?_
      refine put_kept ?_
      refine put_kept ?_
      refine put_kept ?_
      assumption

theorem updVerify_kept {s0 : State} {s : State} (hs : Kept s0 s) :
    Kept s0 (updVerify s).2 := by
  unfold updVerify
  refine Kept.iteSnd ?_ ?_
  · refine Kept.mkSnd ?_
    refine put_kept ?_
    assumption
  · refine Kept.mkSnd ?_
    refine updRefuse_kept ?_
    assumption

theorem updActivate_kept {s0 : State} {s : State} (hs : Kept s0 s) :
    Kept s0 (updActivate s).2 := by
  unfold updActivate
  refine Kept.iteSnd ?_ ?_
  · refine Kept.mkSnd ?_
    refine updRefuse_kept ?_
    assumption
  · extract_lets y1
    clear_value y1
    refine Kept.mkSnd ?_
    refine storeBanks_kept ?_
    refine updObj_kept ?_
    refine writeUpd_kept ?_
    assumption

theorem updAbort_kept {s0 : State} {s : State} (hs : Kept s0 s) :
    Kept s0 (updAbort s).2 := by
  unfold updAbort
  refine Kept.iteSnd ?_ ?_
  · refine Kept.mkSnd ?_
    refine raise_kept ?_
    refine dropUpdate_kept ?_
    assumption
  · refine Kept.mkSnd ?_
    refine updRefuse_kept ?_
    assumption

theorem updCopyLegal_kept {s0 : State} {image : Option Image} {s : State} (hs : Kept s0 s) :
    Kept s0 (updCopyLegal image s).2 := by
  unfold updCopyLegal
  extract_lets y1 y2
  clear_value y1
  have hy2 : Kept s0 y2 := by
    unfold y2
    refine deviceStore_kept ?_
    refine writeUpd_kept ?_
    assumption
  clear_value y2
  refine Kept.iteSnd ?_ ?_
  · refine Kept.mkSnd ?_
    refine updRefuse_kept ?_
    assumption
  · refine Kept.iteSnd ?_ ?_
    · refine Kept.mkSnd ?_
      refine raise_kept ?_
      assumption
    · refine Kept.mkSnd ?_
      refine put_kept ?_
      refine put_kept ?_
      assumption

theorem updCtl_kept {s0 : State} {image : Option Image} {w : Word} {s : State} (hs : Kept s0 s) :
    Kept s0 (updCtl image w s).2 := by
  unfold updCtl
  extract_lets y1
  clear_value y1
  refine Kept.iteSnd ?_ ?_
  · refine Kept.mkSnd ?_
    refine updRefuse_kept ?_
    assumption
  · refine Kept.iteSnd ?_ ?_
    · refine updBegin_kept ?_
      assumption
    · refine Kept.iteSnd ?_ ?_
      · refine updVerify_kept ?_
        assumption
      · refine Kept.iteSnd ?_ ?_
        · refine updActivate_kept ?_
          assumption
        · refine Kept.iteSnd ?_ ?_
          · refine updAbort_kept ?_
            assumption
          · refine Kept.iteSnd ?_ ?_
            · refine updCopyLegal_kept ?_
              assumption
            · refine Kept.mkSnd ?_
              assumption

theorem updCtlWrite_kept {s0 : State} {image : Option Image} {w : Word} {s : State} (hs : Kept s0 s) :
    Kept s0 (updCtlWrite image w s) := by
  unfold updCtlWrite
  refine updCtl_kept ?_
  assumption

theorem execUpdBegin_kept {s0 : State} {m : Master} {w : Word} {s : State} (hs : Kept s0 s) :
    KeptOut s0 (execUpdBegin m w s) := by
  unfold execUpdBegin
  refine cmdWrite_kept ?_ ?_
  · intro q1 q2
    refine updCtlWrite_kept ?_
    assumption
  · assumption

theorem rejectPackage_kept {s0 : State} {cause : Fld} {s : State} (hs : Kept s0 s) :
    Kept s0 (rejectPackage cause s) := by
  unfold rejectPackage
  extract_lets y1
  clear_value y1
  refine raise_kept ?_
  refine put_kept ?_
  refine writeUpd_kept ?_
  assumption

theorem updChunk_kept {s0 : State} {off : ℕ} {bs : List Byte} {s : State} (hs : Kept s0 s) :
    Kept s0 (updChunk off bs s).2 := by
  unfold updChunk
  refine Kept.iteSnd ?_ ?_
  · refine Kept.mkSnd ?_
    refine updRefuse_kept ?_
    assumption
  · refine Kept.iteSnd ?_ ?_
    · refine Kept.mkSnd ?_
      assumption
    · refine Kept.mkSnd ?_
      refine put_kept ?_
      refine setSlotBytes_kept ?_
      assumption

theorem execUpdVerify_kept {s0 : State} {m : Master} {w : Word} {s : State} (hs : Kept s0 s) :
    KeptOut s0 (execUpdVerify m w s) := by
  unfold execUpdVerify
  refine cmdWrite_kept ?_ ?_
  · intro q1 q2
    refine updCtlWrite_kept ?_
    assumption
  · assumption

theorem execSlotSwitch_kept {s0 : State} {s : State} (hs : Kept s0 s) :
    KeptOut s0 (execSlotSwitch s) := by
  unfold execSlotSwitch
  refine onlyIf_kept ?_ ?_
  · intro q1 q2
    refine raise_kept ?_
    refine restartD5_kept ?_
    refine switchSlot_kept ?_
    assumption
  · assumption

theorem execEraseDone_kept {s0 : State} {s : State} (hs : Kept s0 s) :
    KeptOut s0 (execEraseDone s) := by
  unfold execEraseDone
  refine onlyIf_kept ?_ ?_
  · intro q1 q2
    refine put_kept ?_
    assumption
  · assumption

theorem execUpdAbort_kept {s0 : State} {m : Master} {w : Word} {s : State} (hs : Kept s0 s) :
    KeptOut s0 (execUpdAbort m w s) := by
  unfold execUpdAbort
  refine cmdWrite_kept ?_ ?_
  · intro q1 q2
    refine updCtlWrite_kept ?_
    assumption
  · assumption

theorem verifierKey_kept {s0 : State} {s : State} (hs : Kept s0 s) :
    Kept s0 (verifierKey s).2 := by
  unfold verifierKey
  extract_lets y1
  have hy1 : Kept s0 y1.2 := by
    unfold y1
    refine loadNamed_kept ?_
    assumption
  clear_value y1
  split
  · refine Kept.mkSnd ?_
    assumption
  · refine Kept.mkSnd ?_
    assumption

theorem execVerifyDone_kept {s0 : State} {s : State} (hs : Kept s0 s) :
    KeptOut s0 (execVerifyDone s) := by
  unfold execVerifyDone
  refine onlyIf_kept ?_ ?_
  · intro q1 q2
    extract_lets y1 y2 y3
    clear_value y1
    clear_value y2
    have hy3 : Kept s0 y3.2 := by
      unfold y3
      refine verifierKey_kept ?_
      assumption
    clear_value y3
    refine Kept.ite ?_ ?_
    · refine rejectPackage_kept ?_
      assumption
    · split
      · refine rejectPackage_kept ?_
        assumption
      · refine Kept.ite ?_ ?_
        · refine rejectPackage_kept ?_
          assumption
        · refine Kept.ite ?_ ?_
          · refine rejectPackage_kept ?_
            assumption
          · refine raise_kept ?_
            refine put_kept ?_
            refine writeUpd_kept ?_
            assumption
  · assumption

theorem execUpdActivate_kept {s0 : State} {m : Master} {w : Word} {s : State} (hs : Kept s0 s) :
    KeptOut s0 (execUpdActivate m w s) := by
  unfold execUpdActivate
  refine cmdWrite_kept ?_ ?_
  · intro q1 q2
    refine updCtlWrite_kept ?_
    assumption
  · assumption

theorem execTrialConfirm_kept {s0 : State} {s : State} (hs : Kept s0 s) :
    KeptOut s0 (execTrialConfirm s) := by
  unfold execTrialConfirm
  refine onlyIf_kept ?_ ?_
  · intro q1 q2
    extract_lets y1 y2 y3
    clear_value y1
    clear_value y2
    have hy3 : Kept s0 y3 := by
      unfold y3
      refine writeUpd_kept ?_
      assumption
    clear_value y3
    refine raise_kept ?_
    refine put_kept ?_
    assumption
  · assumption

theorem execCopyLegal_kept {s0 : State} {m : Master} {w : Word} {image : Option Image} {s : State} (hs : Kept s0 s) :
    KeptOut s0 (execCopyLegal m w image s) := by
  unfold execCopyLegal
  refine cmdWrite_kept ?_ ?_
  · intro q1 q2
    refine updCtlWrite_kept ?_
    assumption
  · assumption

end Sys2Proof.Machine
end

