-- ==== Sys2Proof/Laws/KeptRegs.lean ====
section
/-! SUPPORT. `Kept` for every operation of Machine/Regs.lean: what each of them leaves as it is (the canonical form of the state,
the queue, the identity OTP), cited in place of unfolding it. -/
namespace Sys2Proof.Machine

theorem liveWord_kept {s0 s : State} {a : Nat} {r : Word × State} (hs : Kept s0 s) (hr : liveWord a s = some r) :
    Kept s0 r.2 := by
  unfold liveWord at hr
  split at hr
  · cases hr
    exact fresh_kept hs
  · split at hr
    · split at hr
      · cases hr
        exact fresh_kept hs
      · cases hr
    · split at hr
      · cases hr
        exact fresh_kept hs
      · cases hr

theorem readFrameNum_kept {s0 : State} {s : State} (hs : Kept s0 s) :
    Kept s0 (readFrameNum s) := by
  unfold readFrameNum
  refine put_kept ?_
  assumption

theorem wrNat_kept {s0 : State} {a : ℕ} {n : ℕ} {s : State} (hs : Kept s0 s) :
    Kept s0 (wrNat a n s) := by
  unfold wrNat
  refine wr_kept ?_
  assumption

theorem readRegLo_kept {s0 : State} {s : State} (hs : Kept s0 s) :
    Kept s0 (readRegLo s) := by
  unfold readRegLo
  refine wrNat_kept ?_
  assumption

theorem readCreditLo_kept {s0 : State} {s : State} (hs : Kept s0 s) :
    Kept s0 (readCreditLo s) := by
  unfold readCreditLo
  refine wrNat_kept ?_
  assumption

theorem readWellCtr_kept {s0 : State} {s : State} (hs : Kept s0 s) :
    Kept s0 (readWellCtr s) := by
  unfold readWellCtr
  refine wrNat_kept ?_
  assumption

theorem readReadCtr_kept {s0 : State} {s : State} (hs : Kept s0 s) :
    Kept s0 (readReadCtr s) := by
  unfold readReadCtr
  refine wrNat_kept ?_
  assumption

theorem readRtcSec_kept {s0 : State} {s : State} (hs : Kept s0 s) :
    Kept s0 (readRtcSec s) := by
  unfold readRtcSec
  extract_lets y1
  have hy1 : Kept s0 y1.2 := by
    unfold y1
    refine fresh_kept ?_
    assumption
  clear_value y1
  refine put_kept ?_
  assumption

theorem readBusFault_kept {s0 : State} {s : State} (hs : Kept s0 s) :
    Kept s0 (readBusFault s) := by
  unfold readBusFault
  refine wrNat_kept ?_
  exact hs.upd rfl rfl rfl rfl rfl rfl rfl rfl rfl

theorem readBusInfo_kept {s0 : State} {s : State} (hs : Kept s0 s) :
    Kept s0 (readBusInfo s) := by
  unfold readBusInfo
  refine Kept.ite ?_ ?_
  · assumption
  · exact hs.upd rfl rfl rfl rfl rfl rfl rfl rfl rfl

theorem readAccLo_kept {s0 : State} {k : ℕ} {s : State} (hs : Kept s0 s) :
    Kept s0 (readAccLo k s) := by
  unfold readAccLo
  extract_lets y1
  clear_value y1
  refine wrNat_kept ?_
  refine wrNat_kept ?_
  assumption

theorem readTsFrame_kept {s0 : State} {l : ℕ} {s : State} (hs : Kept s0 s) :
    Kept s0 (readTsFrame l s) := by
  unfold readTsFrame
  extract_lets y1
  clear_value y1
  refine wrNat_kept ?_
  refine wrNat_kept ?_
  assumption

theorem clearRead_kept {s0 : State} {a : ℕ} {s : State} (hs : Kept s0 s) :
    Kept s0 (clearRead a s) := by
  unfold clearRead
  refine wr_kept ?_
  assumption

theorem readEffect_kept {s0 : State} {m : Master} {a : ℕ} {s : State} (hs : Kept s0 s) :
    Kept s0 (readEffect m a s) := by
  unfold readEffect
  refine Kept.ite ?_ ?_
  · refine readFrameNum_kept ?_
    assumption
  · refine Kept.ite ?_ ?_
    · refine readRegLo_kept ?_
      assumption
    · refine Kept.ite ?_ ?_
      · refine readCreditLo_kept ?_
        assumption
      · refine Kept.ite ?_ ?_
        · refine readWellCtr_kept ?_
          assumption
        · refine Kept.ite ?_ ?_
          · refine readReadCtr_kept ?_
            assumption
          · refine Kept.ite ?_ ?_
            · refine readRtcSec_kept ?_
              assumption
            · refine Kept.ite ?_ ?_
              · refine readBusFault_kept ?_
                assumption
              · refine Kept.ite ?_ ?_
                · refine readBusInfo_kept ?_
                  assumption
                · refine Kept.ite ?_ ?_
                  · refine popTap_kept ?_
                    assumption
                  · refine Kept.ite ?_ ?_
                    · refine popKey_kept ?_
                      assumption
                    · split
                      · refine readAccLo_kept ?_
                        assumption
                      · split
                        · refine readTsFrame_kept ?_
                          assumption
                        · refine Kept.ite ?_ ?_
                          · assumption
                          · refine clearRead_kept ?_
                            assumption

theorem readReg_kept {s0 s : State} {m : Master} {a : Nat} (hs : Kept s0 s) : Kept s0 (readReg m a s).2 := by
  unfold readReg
  extract_lets d
  refine Kept.iteSnd (busFault_kept hs) ?_
  split
  · next h => exact liveWord_kept hs h
  · exact readEffect_kept hs

theorem cmdRead_kept {s0 : State} {m : Master} {a : ℕ} {s : State} (hs : Kept s0 s) :
    KeptOut s0 (cmdRead m a s) := by
  unfold cmdRead
  refine KeptOut.next ?_
  refine readReg_kept ?_
  assumption

theorem execPayCreditLoRead_kept {s0 : State} {m : Master} {s : State} (hs : Kept s0 s) :
    KeptOut s0 (execPayCreditLoRead m s) := by
  unfold execPayCreditLoRead
  refine cmdRead_kept ?_
  assumption

theorem claimGo_kept {s0 : State} {w : Word} {s : State} (hs : Kept s0 s) :
    Kept s0 (claimGo w s) := by
  unfold claimGo
  extract_lets y1 y2 y3 y4
  clear_value y1
  clear_value y2
  clear_value y3
  clear_value y4
  refine Kept.ite ?_ ?_
  · refine Kept.ite ?_ ?_
    · refine raise_kept ?_
      refine claimTimer_kept ?_
      exact hs.upd rfl rfl rfl rfl rfl rfl rfl rfl rfl
    · refine raise_kept ?_
      assumption
  · refine Kept.ite ?_ ?_
    · refine raise_kept ?_
      refine claimPad_kept ?_
      exact hs.upd rfl rfl rfl rfl rfl rfl rfl rfl rfl
    · refine raise_kept ?_
      assumption

theorem claimRelease_kept {s0 : State} {w : Word} {s : State} (hs : Kept s0 s) :
    Kept s0 (claimRelease w s) := by
  unfold claimRelease
  extract_lets y1 y2 y3
  clear_value y1
  clear_value y2
  have hy3 : Kept s0 y3 := by
    unfold y3
    exact hs.upd rfl rfl rfl rfl rfl rfl rfl rfl rfl
  clear_value y3
  refine Kept.ite ?_ ?_
  · refine Kept.ite ?_ ?_
    · refine raise_kept ?_
      refine claimTimer_kept ?_
      exact hs.upd rfl rfl rfl rfl rfl rfl rfl rfl rfl
    · assumption
  · refine Kept.ite ?_ ?_
    · refine raise_kept ?_
      refine Kept.ite ?_ ?_
      · refine put_kept ?_
        assumption
      · refine freePad_kept ?_
        assumption
    · assumption

theorem pinClaimWrite_kept {s0 : State} {w : Word} {s : State} (hs : Kept s0 s) :
    Kept s0 (pinClaimWrite w s) := by
  unfold pinClaimWrite
  refine Kept.ite ?_ ?_
  · assumption
  · refine Kept.ite ?_ ?_
    · refine claimGo_kept ?_
      assumption
    · refine Kept.ite ?_ ?_
      · refine claimRelease_kept ?_
        assumption
      · assumption

theorem ctlWrite_kept {s0 s t : State} {a : Nat} {w : Word} {wd : World} (hs : Kept s0 s) (hr : ctlWrite a w wd s = some t) :
    Kept s0 t := by
  unfold ctlWrite at hr
  refine Kept.iteSome hr (profileCtlWrite_kept hs) fun hr => ?_
  refine Kept.iteSome hr (cfgCtlWrite_kept hs) fun hr => ?_
  refine Kept.iteSome hr (cnvCtlWrite_kept hs) fun hr => ?_
  refine Kept.iteSome hr (tapCfgWrite_kept hs) fun hr => ?_
  refine Kept.iteSome hr (calCtlWrite_kept hs) fun hr => ?_
  refine Kept.iteSome hr (fltCtlWrite_kept hs) fun hr => ?_
  refine Kept.iteSome hr (evtCtlWrite_kept hs) fun hr => ?_
  refine Kept.iteSome hr (capCtlWrite_kept hs) fun hr => ?_
  refine Kept.iteSome hr (capFullWrite_kept hs) fun hr => ?_
  refine Kept.iteSome hr (capCfgWrite_kept hs) fun hr => ?_
  refine Kept.iteSome hr (showResults_kept (plainWrite_kept hs)) fun hr => ?_
  refine Kept.iteSome hr (refreshLines_kept (plainWrite_kept hs)) fun hr => ?_
  refine Kept.iteSome hr (bilCtlWrite_kept hs) fun hr => ?_
  refine Kept.iteSome hr (showBilling_kept (plainWrite_kept hs)) fun hr => ?_
  refine Kept.iteSome hr (adjWrite_kept hs) fun hr => ?_
  refine Kept.iteSome hr (payTokenWrite_kept hs) fun hr => ?_
  refine Kept.iteSome hr (rlyCtlWrite_kept hs) fun hr => ?_
  refine Kept.iteSome hr (cisReportWrite_kept hs) fun hr => ?_
  refine Kept.iteSome hr (updCtlWrite_kept hs) fun hr => ?_
  refine Kept.iteSome hr (otpWrite_kept hs) fun hr => ?_
  refine Kept.iteSome hr (tampCtlWrite_kept hs) fun hr => ?_
  refine Kept.iteSome hr (pmuCtlWrite_kept hs) fun hr => ?_
  refine Kept.iteSome hr (clkCtlWrite_kept hs) fun hr => ?_
  refine Kept.iteSome hr (sndCtlWrite_kept hs) fun hr => ?_
  refine Kept.iteSome hr (fabCtlWrite_kept hs) fun hr => ?_
  refine Kept.iteSome hr (showFab_kept (plainWrite_kept hs)) fun hr => ?_
  refine Kept.iteSome hr (pnlCtlWrite_kept hs) fun hr => ?_
  refine Kept.iteSome hr (pinClaimWrite_kept hs) fun hr => ?_
  refine Kept.iteSome hr (Kept.ite hs (plainWrite_kept hs)) fun hr => ?_
  refine Kept.iteSome hr (Kept.ite hs (plainWrite_kept hs)) fun hr => ?_
  cases hr

theorem stageCoef_kept {s0 : State} {a : ℕ} {w : Word} {s : State} (hs : Kept s0 s) :
    Kept s0 (stageCoef a w s) := by
  unfold stageCoef
  refine Kept.ite ?_ ?_
  · refine plainWrite_kept ?_
    assumption
  · assumption

theorem legacyWrite_kept {s0 : State} {a : ℕ} {w : Word} {s : State} (hs : Kept s0 s) :
    Kept s0 (legacyWrite a w s) := by
  unfold legacyWrite
  refine Kept.ite ?_ ?_
  · refine raise_kept ?_
    assumption
  · refine Kept.ite ?_ ?_
    · refine plainWrite_kept ?_
      assumption
    · assumption

theorem delayWrite_kept {s0 : State} {a : ℕ} {n : ℕ} {w : Word} {s : State} (hs : Kept s0 s) :
    Kept s0 (delayWrite a n w s) := by
  unfold delayWrite
  extract_lets y1 y2
  clear_value y1
  have hy2 : Kept s0 y2 := by
    unfold y2
    refine plainWrite_kept ?_
    assumption
  clear_value y2
  refine Kept.ite ?_ ?_
  · assumption
  · refine Kept.ite ?_ ?_
    · refine raise_kept ?_
      assumption
    · refine put_kept ?_
      assumption

theorem gpioWrite_kept {s0 : State} {m : Master} {p : ℕ} {w : Word} {s : State} (hs : Kept s0 s) :
    Kept s0 (gpioWrite m p w s) := by
  unfold gpioWrite
  extract_lets y1
  clear_value y1
  refine wr_kept ?_
  assumption

theorem timCtlWrite_kept {s0 : State} {n : ℕ} {w : Word} {s : State} (hs : Kept s0 s) :
    Kept s0 (timCtlWrite n w s) := by
  unfold timCtlWrite
  extract_lets y1 y2 y3
  clear_value y1
  have hy2 : Kept s0 y2 := by
    unfold y2
    refine plainWrite_kept ?_
    assumption
  clear_value y2
  have hy3 : Kept s0 y3.2 := by
    unfold y3
    refine fresh_kept ?_
    assumption
  clear_value y3
  refine Kept.ite ?_ ?_
  · refine Kept.ite ?_ ?_
    · refine put_kept ?_
      refine put_kept ?_
      assumption
    · assumption
  · refine Kept.ite ?_ ?_
    · refine put_kept ?_
      refine put_kept ?_
      assumption
    · assumption

theorem famWrite_kept {s0 s : State} {m : Master} {a : Nat} {w : Word} (hs : Kept s0 s) : Kept s0 (famWrite m a w s) := by
  unfold famWrite
  refine Kept.ite (writeWin_kept hs) (Kept.ite (stageCoef_kept hs) (Kept.ite (legacyWrite_kept hs)
    (Kept.ite (hs.hidden (sparseSet_wf _ _ _)) ?_)))
  split
  · exact delayWrite_kept hs
  · split
    · exact gpioWrite_kept hs
    · split
      · exact timCtlWrite_kept hs
      · split
        · exact ramWrite_kept hs
        · exact Kept.ite hs (plainWrite_kept hs)

theorem writeEffect_kept {s0 s : State} {m : Master} {a : Nat} {w : Word} {wd : World} (hs : Kept s0 s) :
    Kept s0 (writeEffect m a w wd s).2 := by
  unfold writeEffect
  refine Kept.iteSnd (denied_kept hs) (Kept.iteSnd (cisCtlWrite_kept hs) (Kept.iteSnd ?_ ?_))
  · extract_lets r
    have hr : Kept s0 r.2 := unlockWrite_kept hs
    clear_value r
    exact Kept.ite hr (denied_kept hr)
  · split
    · next h => exact ctlWrite_kept hs h
    · exact famWrite_kept hs

theorem writeReg_kept {s0 : State} {m : Master} {a : ℕ} {w : Word} {wd : World} {s : State} (hs : Kept s0 s) :
    Kept s0 (writeReg m a w wd s).2 := by
  unfold writeReg
  extract_lets y1 y2
  clear_value y1
  have hy2 : Kept s0 y2.2 := by
    unfold y2
    refine writeEffect_kept ?_
    assumption
  clear_value y2
  refine Kept.iteSnd ?_ ?_
  · refine Kept.mkSnd ?_
    refine busFault_kept ?_
    assumption
  · refine Kept.iteSnd ?_ ?_
    · refine Kept.mkSnd ?_
      refine denied_kept ?_
      assumption
    · refine Kept.mkSnd ?_
      assumption

theorem execFrameNumRead_kept {s0 : State} {m : Master} {s : State} (hs : Kept s0 s) :
    KeptOut s0 (execFrameNumRead m s) := by
  unfold execFrameNumRead
  refine cmdRead_kept ?_
  assumption

theorem execBilRegLoRead_kept {s0 : State} {m : Master} {s : State} (hs : Kept s0 s) :
    KeptOut s0 (execBilRegLoRead m s) := by
  unfold execBilRegLoRead
  refine cmdRead_kept ?_
  assumption

theorem execTimerMatch_kept {s0 : State} {n : ℕ} {cnt : ℕ} {s : State} (hs : Kept s0 s) :
    KeptOut s0 (execTimerMatch n cnt s) := by
  unfold execTimerMatch
  refine onlyIf_kept ?_ ?_
  · intro q1 q2
    extract_lets y1
    have hy1 : Kept s0 y1 := by
      unfold y1
      refine Kept.ite ?_ ?_
      · refine raiseAt_kept ?_
        assumption
      · assumption
    clear_value y1
    refine Kept.ite ?_ ?_
    · refine put_kept ?_
      refine put_kept ?_
      assumption
    · assumption
  · assumption

theorem execTimerCapture_kept {s0 : State} {n : ℕ} {rising : Bool} {s : State} (hs : Kept s0 s) :
    KeptOut s0 (execTimerCapture n rising s) := by
  unfold execTimerCapture
  refine onlyIf_kept ?_ ?_
  · intro q1 q2
    extract_lets y1
    have hy1 : Kept s0 y1.2 := by
      unfold y1
      refine fresh_kept ?_
      assumption
    clear_value y1
    refine raiseAt_kept ?_
    refine put_kept ?_
    assumption
  · assumption

theorem execTimerStart_kept {s0 : State} {m : Master} {n : ℕ} {w : Word} {s : State} (hs : Kept s0 s) :
    KeptOut s0 (execTimerStart m n w s) := by
  unfold execTimerStart
  refine KeptOut.ite ?_ ?_
  · refine cmdWrite_kept ?_ ?_
    · intro q1 q2
      refine timCtlWrite_kept ?_
      assumption
    · assumption
  · refine KeptOut.next ?_
    assumption

theorem memWrite_kept {s0 : State} {m : Master} {a : ℕ} {w : Word} {n : ℕ} {s : State} (hs : Kept s0 s) :
    Kept s0 (memWrite m a w n s) := by
  unfold memWrite
  split
  · refine busFault_kept ?_
    assumption
  · refine Kept.ite ?_ ?_
    · assumption
    · refine Kept.ite ?_ ?_
      · refine busFault_kept ?_
        assumption
      · refine Kept.ite ?_ ?_
        · refine busFault_kept ?_
          assumption
        · refine Kept.ite ?_ ?_
          · refine sramWrite_kept ?_
            assumption
          · refine wrBytes_kept ?_
            assumption

theorem eccTouch_kept {s0 : State} {a : ℕ} {ecc : ℕ} {s : State} (hs : Kept s0 s) :
    Kept s0 (eccTouch a ecc s) := by
  unfold eccTouch
  refine Kept.ite ?_ ?_
  · refine eccCistern_kept ?_
    assumption
  · split
    · refine Kept.ite ?_ ?_
      · assumption
      · refine occurrence_kept ?_
        assumption
    · assumption

theorem execBusFaultInfoRead_kept {s0 : State} {m : Master} {s : State} (hs : Kept s0 s) :
    KeptOut s0 (execBusFaultInfoRead m s) := by
  unfold execBusFaultInfoRead
  refine cmdRead_kept ?_
  assumption

theorem execKpdEventRead_kept {s0 : State} {m : Master} {s : State} (hs : Kept s0 s) :
    KeptOut s0 (execKpdEventRead m s) := by
  unfold execKpdEventRead
  refine cmdRead_kept ?_
  assumption

theorem execBusFaultRead_kept {s0 : State} {m : Master} {s : State} (hs : Kept s0 s) :
    KeptOut s0 (execBusFaultRead m s) := by
  unfold execBusFaultRead
  refine cmdRead_kept ?_
  assumption

theorem execTimerStop_kept {s0 : State} {m : Master} {n : ℕ} {w : Word} {s : State} (hs : Kept s0 s) :
    KeptOut s0 (execTimerStop m n w s) := by
  unfold execTimerStop
  refine KeptOut.ite ?_ ?_
  · refine cmdWrite_kept ?_ ?_
    · intro q1 q2
      refine timCtlWrite_kept ?_
      assumption
    · assumption
  · refine KeptOut.next ?_
    assumption

theorem execClaimGo_kept {s0 : State} {m : Master} {w : Word} {s : State} (hs : Kept s0 s) :
    KeptOut s0 (execClaimGo m w s) := by
  unfold execClaimGo
  refine cmdWrite_kept ?_ ?_
  · intro q1 q2
    refine pinClaimWrite_kept ?_
    assumption
  · assumption

theorem execObjReadCtrRead_kept {s0 : State} {m : Master} {s : State} (hs : Kept s0 s) :
    KeptOut s0 (execObjReadCtrRead m s) := by
  unfold execObjReadCtrRead
  refine cmdRead_kept ?_
  assumption

theorem memRead_kept {s0 : State} {m : Master} {a : ℕ} {n : ℕ} {ecc : ℕ} {s : State} (hs : Kept s0 s) :
    Kept s0 (memRead m a n ecc s) := by
  unfold memRead
  split
  · refine busFault_kept ?_
    assumption
  · refine Kept.ite ?_ ?_
    · assumption
    · refine Kept.ite ?_ ?_
      · refine busFault_kept ?_
        assumption
      · refine Kept.ite ?_ ?_
        · refine busFault_kept ?_
          assumption
        · refine Kept.ite ?_ ?_
          · extract_lets y1
            have hy1 : Kept s0 y1 := by
              unfold y1
              refine recallTo_kept ?_
              assumption
            clear_value y1
            refine eccTouch_kept ?_
            refine Kept.ite ?_ ?_
            · refine touchGrant_kept ?_
              assumption
            · assumption
          · refine eccTouch_kept ?_
            assumption

theorem execReadToClear_kept {s0 : State} {m : Master} {a : ℕ} {width : AccessWidth} {ecc : ℕ} {s : State} (hs : Kept s0 s) :
    KeptOut s0 (execReadToClear m a width ecc s) := by
  unfold execReadToClear
  refine KeptOut.next ?_
  refine Kept.ite ?_ ?_
  · refine memRead_kept ?_
    assumption
  · refine Kept.ite ?_ ?_
    · refine busFault_kept ?_
      assumption
    · refine readReg_kept ?_
      assumption

theorem execTapDataRead_kept {s0 : State} {m : Master} {s : State} (hs : Kept s0 s) :
    KeptOut s0 (execTapDataRead m s) := by
  unfold execTapDataRead
  refine cmdRead_kept ?_
  assumption

theorem execClaimRelease_kept {s0 : State} {m : Master} {w : Word} {s : State} (hs : Kept s0 s) :
    KeptOut s0 (execClaimRelease m w s) := by
  unfold execClaimRelease
  refine cmdWrite_kept ?_ ?_
  · intro q1 q2
    refine pinClaimWrite_kept ?_
    assumption
  · assumption

theorem execAccLoRead_kept {s0 : State} {m : Master} {k : ℕ} {s : State} (hs : Kept s0 s) :
    KeptOut s0 (execAccLoRead m k s) := by
  unfold execAccLoRead
  refine onlyIf_kept ?_ ?_
  · intro q1 q2
    refine readReg_kept ?_
    assumption
  · assumption

theorem execWelCtrLoRead_kept {s0 : State} {m : Master} {s : State} (hs : Kept s0 s) :
    KeptOut s0 (execWelCtrLoRead m s) := by
  unfold execWelCtrLoRead
  refine cmdRead_kept ?_
  assumption

theorem execRtcSecRead_kept {s0 : State} {m : Master} {s : State} (hs : Kept s0 s) :
    KeptOut s0 (execRtcSecRead m s) := by
  unfold execRtcSecRead
  refine cmdRead_kept ?_
  assumption

theorem execTsFrameRead_kept {s0 : State} {m : Master} {l : ℕ} {s : State} (hs : Kept s0 s) :
    KeptOut s0 (execTsFrameRead m l s) := by
  unfold execTsFrameRead
  refine onlyIf_kept ?_ ?_
  · intro q1 q2
    refine readReg_kept ?_
    assumption
  · assumption

theorem execRegisterWrite_kept {s0 : State} {m : Master} {a : ℕ} {w : Word} {width : AccessWidth} {wd : World} {s : State} (hs : Kept s0 s) :
    KeptOut s0 (execRegisterWrite m a w width wd s) := by
  unfold execRegisterWrite
  refine KeptOut.next ?_
  refine Kept.ite ?_ ?_
  · refine memWrite_kept ?_
    assumption
  · refine Kept.ite ?_ ?_
    · refine busFault_kept ?_
      assumption
    · refine writeReg_kept ?_
      assumption

end Sys2Proof.Machine
end

