-- ==== Sys2Proof/Laws/State.lean ====
section
/-! SUPPORT. One lemma per part of the state and named update: what the update leaves there. -/
namespace Sys2Proof.Machine

/-- Two states with the same parts beside the registers. -/
theorem State.eq_but_regs {t u : State} (h1 : t.hidden = u.hidden)
    (h2 : t.mem = u.mem)
    (h3 : t.sup = u.sup)
    (h4 : t.ld = u.ld)
    (h5 : t.conv = u.conv)
    (h6 : t.metro = u.metro)
    (h7 : t.en = u.en)
    (h8 : t.tamp = u.tamp)
    (h9 : t.cis = u.cis)
    (h10 : t.obj = u.obj)
    (h11 : t.hif = u.hif)
    (h12 : t.cap = u.cap)
    (h13 : t.spec = u.spec)
    (h14 : t.bil = u.bil)
    (h15 : t.pay = u.pay)
    (h16 : t.rly = u.rly)
    (h17 : t.well = u.well)
    (h18 : t.lmd = u.lmd)
    (h19 : t.fab = u.fab)
    (h20 : t.pnl = u.pnl)
    (h21 : t.free = u.free)
    (h22 : t.pending = u.pending) :
    t = { u with regs := t.regs } := by
  cases t
  cases u
  simp_all

/-! The parts after `wr`. -/

@[simp] theorem wr_regs (a : Nat) (v : Word) (s : State) : (wr a v s).regs = sparseSet 0 s.regs a v := rfl
@[simp] theorem wr_hidden (a : Nat) (v : Word) (s : State) : (wr a v s).hidden = s.hidden := rfl
@[simp] theorem wr_mem (a : Nat) (v : Word) (s : State) : (wr a v s).mem = s.mem := rfl
@[simp] theorem wr_sup (a : Nat) (v : Word) (s : State) : (wr a v s).sup = s.sup := rfl
@[simp] theorem wr_ld (a : Nat) (v : Word) (s : State) : (wr a v s).ld = s.ld := rfl
@[simp] theorem wr_conv (a : Nat) (v : Word) (s : State) : (wr a v s).conv = s.conv := rfl
@[simp] theorem wr_metro (a : Nat) (v : Word) (s : State) : (wr a v s).metro = s.metro := rfl
@[simp] theorem wr_en (a : Nat) (v : Word) (s : State) : (wr a v s).en = s.en := rfl
@[simp] theorem wr_tamp (a : Nat) (v : Word) (s : State) : (wr a v s).tamp = s.tamp := rfl
@[simp] theorem wr_cis (a : Nat) (v : Word) (s : State) : (wr a v s).cis = s.cis := rfl
@[simp] theorem wr_obj (a : Nat) (v : Word) (s : State) : (wr a v s).obj = s.obj := rfl
@[simp] theorem wr_hif (a : Nat) (v : Word) (s : State) : (wr a v s).hif = s.hif := rfl
@[simp] theorem wr_cap (a : Nat) (v : Word) (s : State) : (wr a v s).cap = s.cap := rfl
@[simp] theorem wr_spec (a : Nat) (v : Word) (s : State) : (wr a v s).spec = s.spec := rfl
@[simp] theorem wr_bil (a : Nat) (v : Word) (s : State) : (wr a v s).bil = s.bil := rfl
@[simp] theorem wr_pay (a : Nat) (v : Word) (s : State) : (wr a v s).pay = s.pay := rfl
@[simp] theorem wr_rly (a : Nat) (v : Word) (s : State) : (wr a v s).rly = s.rly := rfl
@[simp] theorem wr_well (a : Nat) (v : Word) (s : State) : (wr a v s).well = s.well := rfl
@[simp] theorem wr_lmd (a : Nat) (v : Word) (s : State) : (wr a v s).lmd = s.lmd := rfl
@[simp] theorem wr_fab (a : Nat) (v : Word) (s : State) : (wr a v s).fab = s.fab := rfl
@[simp] theorem wr_pnl (a : Nat) (v : Word) (s : State) : (wr a v s).pnl = s.pnl := rfl
@[simp] theorem wr_free (a : Nat) (v : Word) (s : State) : (wr a v s).free = s.free := rfl
@[simp] theorem wr_pending (a : Nat) (v : Word) (s : State) : (wr a v s).pending = s.pending := rfl

/-! The parts after `put`. -/

@[simp] theorem put_hidden (f : Fld) (v : Nat) (s : State) : (put f v s).hidden = s.hidden := rfl
@[simp] theorem put_mem (f : Fld) (v : Nat) (s : State) : (put f v s).mem = s.mem := rfl
@[simp] theorem put_sup (f : Fld) (v : Nat) (s : State) : (put f v s).sup = s.sup := rfl
@[simp] theorem put_ld (f : Fld) (v : Nat) (s : State) : (put f v s).ld = s.ld := rfl
@[simp] theorem put_conv (f : Fld) (v : Nat) (s : State) : (put f v s).conv = s.conv := rfl
@[simp] theorem put_metro (f : Fld) (v : Nat) (s : State) : (put f v s).metro = s.metro := rfl
@[simp] theorem put_en (f : Fld) (v : Nat) (s : State) : (put f v s).en = s.en := rfl
@[simp] theorem put_tamp (f : Fld) (v : Nat) (s : State) : (put f v s).tamp = s.tamp := rfl
@[simp] theorem put_cis (f : Fld) (v : Nat) (s : State) : (put f v s).cis = s.cis := rfl
@[simp] theorem put_obj (f : Fld) (v : Nat) (s : State) : (put f v s).obj = s.obj := rfl
@[simp] theorem put_hif (f : Fld) (v : Nat) (s : State) : (put f v s).hif = s.hif := rfl
@[simp] theorem put_cap (f : Fld) (v : Nat) (s : State) : (put f v s).cap = s.cap := rfl
@[simp] theorem put_spec (f : Fld) (v : Nat) (s : State) : (put f v s).spec = s.spec := rfl
@[simp] theorem put_bil (f : Fld) (v : Nat) (s : State) : (put f v s).bil = s.bil := rfl
@[simp] theorem put_pay (f : Fld) (v : Nat) (s : State) : (put f v s).pay = s.pay := rfl
@[simp] theorem put_rly (f : Fld) (v : Nat) (s : State) : (put f v s).rly = s.rly := rfl
@[simp] theorem put_well (f : Fld) (v : Nat) (s : State) : (put f v s).well = s.well := rfl
@[simp] theorem put_lmd (f : Fld) (v : Nat) (s : State) : (put f v s).lmd = s.lmd := rfl
@[simp] theorem put_fab (f : Fld) (v : Nat) (s : State) : (put f v s).fab = s.fab := rfl
@[simp] theorem put_pnl (f : Fld) (v : Nat) (s : State) : (put f v s).pnl = s.pnl := rfl
@[simp] theorem put_free (f : Fld) (v : Nat) (s : State) : (put f v s).free = s.free := rfl
@[simp] theorem put_pending (f : Fld) (v : Nat) (s : State) : (put f v s).pending = s.pending := rfl

/-! The parts after `putBit`. -/

@[simp] theorem putBit_hidden (f : Fld) (i : Nat) (b : Bool) (s : State) : (putBit f i b s).hidden = s.hidden := rfl
@[simp] theorem putBit_mem (f : Fld) (i : Nat) (b : Bool) (s : State) : (putBit f i b s).mem = s.mem := rfl
@[simp] theorem putBit_sup (f : Fld) (i : Nat) (b : Bool) (s : State) : (putBit f i b s).sup = s.sup := rfl
@[simp] theorem putBit_ld (f : Fld) (i : Nat) (b : Bool) (s : State) : (putBit f i b s).ld = s.ld := rfl
@[simp] theorem putBit_conv (f : Fld) (i : Nat) (b : Bool) (s : State) : (putBit f i b s).conv = s.conv := rfl
@[simp] theorem putBit_metro (f : Fld) (i : Nat) (b : Bool) (s : State) : (putBit f i b s).metro = s.metro := rfl
@[simp] theorem putBit_en (f : Fld) (i : Nat) (b : Bool) (s : State) : (putBit f i b s).en = s.en := rfl
@[simp] theorem putBit_tamp (f : Fld) (i : Nat) (b : Bool) (s : State) : (putBit f i b s).tamp = s.tamp := rfl
@[simp] theorem putBit_cis (f : Fld) (i : Nat) (b : Bool) (s : State) : (putBit f i b s).cis = s.cis := rfl
@[simp] theorem putBit_obj (f : Fld) (i : Nat) (b : Bool) (s : State) : (putBit f i b s).obj = s.obj := rfl
@[simp] theorem putBit_hif (f : Fld) (i : Nat) (b : Bool) (s : State) : (putBit f i b s).hif = s.hif := rfl
@[simp] theorem putBit_cap (f : Fld) (i : Nat) (b : Bool) (s : State) : (putBit f i b s).cap = s.cap := rfl
@[simp] theorem putBit_spec (f : Fld) (i : Nat) (b : Bool) (s : State) : (putBit f i b s).spec = s.spec := rfl
@[simp] theorem putBit_bil (f : Fld) (i : Nat) (b : Bool) (s : State) : (putBit f i b s).bil = s.bil := rfl
@[simp] theorem putBit_pay (f : Fld) (i : Nat) (b : Bool) (s : State) : (putBit f i b s).pay = s.pay := rfl
@[simp] theorem putBit_rly (f : Fld) (i : Nat) (b : Bool) (s : State) : (putBit f i b s).rly = s.rly := rfl
@[simp] theorem putBit_well (f : Fld) (i : Nat) (b : Bool) (s : State) : (putBit f i b s).well = s.well := rfl
@[simp] theorem putBit_lmd (f : Fld) (i : Nat) (b : Bool) (s : State) : (putBit f i b s).lmd = s.lmd := rfl
@[simp] theorem putBit_fab (f : Fld) (i : Nat) (b : Bool) (s : State) : (putBit f i b s).fab = s.fab := rfl
@[simp] theorem putBit_pnl (f : Fld) (i : Nat) (b : Bool) (s : State) : (putBit f i b s).pnl = s.pnl := rfl
@[simp] theorem putBit_free (f : Fld) (i : Nat) (b : Bool) (s : State) : (putBit f i b s).free = s.free := rfl
@[simp] theorem putBit_pending (f : Fld) (i : Nat) (b : Bool) (s : State) : (putBit f i b s).pending = s.pending := rfl

/-! The parts after `putS`. -/

@[simp] theorem putS_hidden (f : Fld) (z : Int) (s : State) : (putS f z s).hidden = s.hidden := rfl
@[simp] theorem putS_mem (f : Fld) (z : Int) (s : State) : (putS f z s).mem = s.mem := rfl
@[simp] theorem putS_sup (f : Fld) (z : Int) (s : State) : (putS f z s).sup = s.sup := rfl
@[simp] theorem putS_ld (f : Fld) (z : Int) (s : State) : (putS f z s).ld = s.ld := rfl
@[simp] theorem putS_conv (f : Fld) (z : Int) (s : State) : (putS f z s).conv = s.conv := rfl
@[simp] theorem putS_metro (f : Fld) (z : Int) (s : State) : (putS f z s).metro = s.metro := rfl
@[simp] theorem putS_en (f : Fld) (z : Int) (s : State) : (putS f z s).en = s.en := rfl
@[simp] theorem putS_tamp (f : Fld) (z : Int) (s : State) : (putS f z s).tamp = s.tamp := rfl
@[simp] theorem putS_cis (f : Fld) (z : Int) (s : State) : (putS f z s).cis = s.cis := rfl
@[simp] theorem putS_obj (f : Fld) (z : Int) (s : State) : (putS f z s).obj = s.obj := rfl
@[simp] theorem putS_hif (f : Fld) (z : Int) (s : State) : (putS f z s).hif = s.hif := rfl
@[simp] theorem putS_cap (f : Fld) (z : Int) (s : State) : (putS f z s).cap = s.cap := rfl
@[simp] theorem putS_spec (f : Fld) (z : Int) (s : State) : (putS f z s).spec = s.spec := rfl
@[simp] theorem putS_bil (f : Fld) (z : Int) (s : State) : (putS f z s).bil = s.bil := rfl
@[simp] theorem putS_pay (f : Fld) (z : Int) (s : State) : (putS f z s).pay = s.pay := rfl
@[simp] theorem putS_rly (f : Fld) (z : Int) (s : State) : (putS f z s).rly = s.rly := rfl
@[simp] theorem putS_well (f : Fld) (z : Int) (s : State) : (putS f z s).well = s.well := rfl
@[simp] theorem putS_lmd (f : Fld) (z : Int) (s : State) : (putS f z s).lmd = s.lmd := rfl
@[simp] theorem putS_fab (f : Fld) (z : Int) (s : State) : (putS f z s).fab = s.fab := rfl
@[simp] theorem putS_pnl (f : Fld) (z : Int) (s : State) : (putS f z s).pnl = s.pnl := rfl
@[simp] theorem putS_free (f : Fld) (z : Int) (s : State) : (putS f z s).free = s.free := rfl
@[simp] theorem putS_pending (f : Fld) (z : Int) (s : State) : (putS f z s).pending = s.pending := rfl

/-! The parts after `addSat`. -/

@[simp] theorem addSat_hidden (f : Fld) (n : Nat) (s : State) : (addSat f n s).hidden = s.hidden := rfl
@[simp] theorem addSat_mem (f : Fld) (n : Nat) (s : State) : (addSat f n s).mem = s.mem := rfl
@[simp] theorem addSat_sup (f : Fld) (n : Nat) (s : State) : (addSat f n s).sup = s.sup := rfl
@[simp] theorem addSat_ld (f : Fld) (n : Nat) (s : State) : (addSat f n s).ld = s.ld := rfl
@[simp] theorem addSat_conv (f : Fld) (n : Nat) (s : State) : (addSat f n s).conv = s.conv := rfl
@[simp] theorem addSat_metro (f : Fld) (n : Nat) (s : State) : (addSat f n s).metro = s.metro := rfl
@[simp] theorem addSat_en (f : Fld) (n : Nat) (s : State) : (addSat f n s).en = s.en := rfl
@[simp] theorem addSat_tamp (f : Fld) (n : Nat) (s : State) : (addSat f n s).tamp = s.tamp := rfl
@[simp] theorem addSat_cis (f : Fld) (n : Nat) (s : State) : (addSat f n s).cis = s.cis := rfl
@[simp] theorem addSat_obj (f : Fld) (n : Nat) (s : State) : (addSat f n s).obj = s.obj := rfl
@[simp] theorem addSat_hif (f : Fld) (n : Nat) (s : State) : (addSat f n s).hif = s.hif := rfl
@[simp] theorem addSat_cap (f : Fld) (n : Nat) (s : State) : (addSat f n s).cap = s.cap := rfl
@[simp] theorem addSat_spec (f : Fld) (n : Nat) (s : State) : (addSat f n s).spec = s.spec := rfl
@[simp] theorem addSat_bil (f : Fld) (n : Nat) (s : State) : (addSat f n s).bil = s.bil := rfl
@[simp] theorem addSat_pay (f : Fld) (n : Nat) (s : State) : (addSat f n s).pay = s.pay := rfl
@[simp] theorem addSat_rly (f : Fld) (n : Nat) (s : State) : (addSat f n s).rly = s.rly := rfl
@[simp] theorem addSat_well (f : Fld) (n : Nat) (s : State) : (addSat f n s).well = s.well := rfl
@[simp] theorem addSat_lmd (f : Fld) (n : Nat) (s : State) : (addSat f n s).lmd = s.lmd := rfl
@[simp] theorem addSat_fab (f : Fld) (n : Nat) (s : State) : (addSat f n s).fab = s.fab := rfl
@[simp] theorem addSat_pnl (f : Fld) (n : Nat) (s : State) : (addSat f n s).pnl = s.pnl := rfl
@[simp] theorem addSat_free (f : Fld) (n : Nat) (s : State) : (addSat f n s).free = s.free := rfl
@[simp] theorem addSat_pending (f : Fld) (n : Nat) (s : State) : (addSat f n s).pending = s.pending := rfl

/-! The parts after `raiseAt`. -/

@[simp] theorem raiseAt_hidden (f : Fld) (i : Nat) (s : State) : (raiseAt f i s).hidden = s.hidden := by unfold raiseAt; split <;> rfl
@[simp] theorem raiseAt_mem (f : Fld) (i : Nat) (s : State) : (raiseAt f i s).mem = s.mem := by unfold raiseAt; split <;> rfl
@[simp] theorem raiseAt_sup (f : Fld) (i : Nat) (s : State) : (raiseAt f i s).sup = s.sup := by unfold raiseAt; split <;> rfl
@[simp] theorem raiseAt_ld (f : Fld) (i : Nat) (s : State) : (raiseAt f i s).ld = s.ld := by unfold raiseAt; split <;> rfl
@[simp] theorem raiseAt_conv (f : Fld) (i : Nat) (s : State) : (raiseAt f i s).conv = s.conv := by unfold raiseAt; split <;> rfl
@[simp] theorem raiseAt_metro (f : Fld) (i : Nat) (s : State) : (raiseAt f i s).metro = s.metro := by unfold raiseAt; split <;> rfl
@[simp] theorem raiseAt_en (f : Fld) (i : Nat) (s : State) : (raiseAt f i s).en = s.en := by unfold raiseAt; split <;> rfl
@[simp] theorem raiseAt_tamp (f : Fld) (i : Nat) (s : State) : (raiseAt f i s).tamp = s.tamp := by unfold raiseAt; split <;> rfl
@[simp] theorem raiseAt_cis (f : Fld) (i : Nat) (s : State) : (raiseAt f i s).cis = s.cis := by unfold raiseAt; split <;> rfl
@[simp] theorem raiseAt_obj (f : Fld) (i : Nat) (s : State) : (raiseAt f i s).obj = s.obj := by unfold raiseAt; split <;> rfl
@[simp] theorem raiseAt_hif (f : Fld) (i : Nat) (s : State) : (raiseAt f i s).hif = s.hif := by unfold raiseAt; split <;> rfl
@[simp] theorem raiseAt_cap (f : Fld) (i : Nat) (s : State) : (raiseAt f i s).cap = s.cap := by unfold raiseAt; split <;> rfl
@[simp] theorem raiseAt_spec (f : Fld) (i : Nat) (s : State) : (raiseAt f i s).spec = s.spec := by unfold raiseAt; split <;> rfl
@[simp] theorem raiseAt_bil (f : Fld) (i : Nat) (s : State) : (raiseAt f i s).bil = s.bil := by unfold raiseAt; split <;> rfl
@[simp] theorem raiseAt_pay (f : Fld) (i : Nat) (s : State) : (raiseAt f i s).pay = s.pay := by unfold raiseAt; split <;> rfl
@[simp] theorem raiseAt_rly (f : Fld) (i : Nat) (s : State) : (raiseAt f i s).rly = s.rly := by unfold raiseAt; split <;> rfl
@[simp] theorem raiseAt_well (f : Fld) (i : Nat) (s : State) : (raiseAt f i s).well = s.well := by unfold raiseAt; split <;> rfl
@[simp] theorem raiseAt_lmd (f : Fld) (i : Nat) (s : State) : (raiseAt f i s).lmd = s.lmd := by unfold raiseAt; split <;> rfl
@[simp] theorem raiseAt_fab (f : Fld) (i : Nat) (s : State) : (raiseAt f i s).fab = s.fab := by unfold raiseAt; split <;> rfl
@[simp] theorem raiseAt_pnl (f : Fld) (i : Nat) (s : State) : (raiseAt f i s).pnl = s.pnl := by unfold raiseAt; split <;> rfl
@[simp] theorem raiseAt_free (f : Fld) (i : Nat) (s : State) : (raiseAt f i s).free = s.free := by unfold raiseAt; split <;> rfl
@[simp] theorem raiseAt_pending (f : Fld) (i : Nat) (s : State) : (raiseAt f i s).pending = s.pending := by unfold raiseAt; split <;> rfl

/-! The parts after `raise`. -/

@[simp] theorem raise_hidden (f : Fld) (s : State) : (raise f s).hidden = s.hidden := raiseAt_hidden f 0 s
@[simp] theorem raise_mem (f : Fld) (s : State) : (raise f s).mem = s.mem := raiseAt_mem f 0 s
@[simp] theorem raise_sup (f : Fld) (s : State) : (raise f s).sup = s.sup := raiseAt_sup f 0 s
@[simp] theorem raise_ld (f : Fld) (s : State) : (raise f s).ld = s.ld := raiseAt_ld f 0 s
@[simp] theorem raise_conv (f : Fld) (s : State) : (raise f s).conv = s.conv := raiseAt_conv f 0 s
@[simp] theorem raise_metro (f : Fld) (s : State) : (raise f s).metro = s.metro := raiseAt_metro f 0 s
@[simp] theorem raise_en (f : Fld) (s : State) : (raise f s).en = s.en := raiseAt_en f 0 s
@[simp] theorem raise_tamp (f : Fld) (s : State) : (raise f s).tamp = s.tamp := raiseAt_tamp f 0 s
@[simp] theorem raise_cis (f : Fld) (s : State) : (raise f s).cis = s.cis := raiseAt_cis f 0 s
@[simp] theorem raise_obj (f : Fld) (s : State) : (raise f s).obj = s.obj := raiseAt_obj f 0 s
@[simp] theorem raise_hif (f : Fld) (s : State) : (raise f s).hif = s.hif := raiseAt_hif f 0 s
@[simp] theorem raise_cap (f : Fld) (s : State) : (raise f s).cap = s.cap := raiseAt_cap f 0 s
@[simp] theorem raise_spec (f : Fld) (s : State) : (raise f s).spec = s.spec := raiseAt_spec f 0 s
@[simp] theorem raise_bil (f : Fld) (s : State) : (raise f s).bil = s.bil := raiseAt_bil f 0 s
@[simp] theorem raise_pay (f : Fld) (s : State) : (raise f s).pay = s.pay := raiseAt_pay f 0 s
@[simp] theorem raise_rly (f : Fld) (s : State) : (raise f s).rly = s.rly := raiseAt_rly f 0 s
@[simp] theorem raise_well (f : Fld) (s : State) : (raise f s).well = s.well := raiseAt_well f 0 s
@[simp] theorem raise_lmd (f : Fld) (s : State) : (raise f s).lmd = s.lmd := raiseAt_lmd f 0 s
@[simp] theorem raise_fab (f : Fld) (s : State) : (raise f s).fab = s.fab := raiseAt_fab f 0 s
@[simp] theorem raise_pnl (f : Fld) (s : State) : (raise f s).pnl = s.pnl := raiseAt_pnl f 0 s
@[simp] theorem raise_free (f : Fld) (s : State) : (raise f s).free = s.free := raiseAt_free f 0 s
@[simp] theorem raise_pending (f : Fld) (s : State) : (raise f s).pending = s.pending := raiseAt_pending f 0 s

/-! The parts after `raiseIf`. -/

@[simp] theorem raiseIf_hidden (c : Bool) (f : Fld) (s : State) : (raiseIf c f s).hidden = s.hidden := by unfold raiseIf; split <;> simp
@[simp] theorem raiseIf_mem (c : Bool) (f : Fld) (s : State) : (raiseIf c f s).mem = s.mem := by unfold raiseIf; split <;> simp
@[simp] theorem raiseIf_sup (c : Bool) (f : Fld) (s : State) : (raiseIf c f s).sup = s.sup := by unfold raiseIf; split <;> simp
@[simp] theorem raiseIf_ld (c : Bool) (f : Fld) (s : State) : (raiseIf c f s).ld = s.ld := by unfold raiseIf; split <;> simp
@[simp] theorem raiseIf_conv (c : Bool) (f : Fld) (s : State) : (raiseIf c f s).conv = s.conv := by unfold raiseIf; split <;> simp
@[simp] theorem raiseIf_metro (c : Bool) (f : Fld) (s : State) : (raiseIf c f s).metro = s.metro := by unfold raiseIf; split <;> simp
@[simp] theorem raiseIf_en (c : Bool) (f : Fld) (s : State) : (raiseIf c f s).en = s.en := by unfold raiseIf; split <;> simp
@[simp] theorem raiseIf_tamp (c : Bool) (f : Fld) (s : State) : (raiseIf c f s).tamp = s.tamp := by unfold raiseIf; split <;> simp
@[simp] theorem raiseIf_cis (c : Bool) (f : Fld) (s : State) : (raiseIf c f s).cis = s.cis := by unfold raiseIf; split <;> simp
@[simp] theorem raiseIf_obj (c : Bool) (f : Fld) (s : State) : (raiseIf c f s).obj = s.obj := by unfold raiseIf; split <;> simp
@[simp] theorem raiseIf_hif (c : Bool) (f : Fld) (s : State) : (raiseIf c f s).hif = s.hif := by unfold raiseIf; split <;> simp
@[simp] theorem raiseIf_cap (c : Bool) (f : Fld) (s : State) : (raiseIf c f s).cap = s.cap := by unfold raiseIf; split <;> simp
@[simp] theorem raiseIf_spec (c : Bool) (f : Fld) (s : State) : (raiseIf c f s).spec = s.spec := by unfold raiseIf; split <;> simp
@[simp] theorem raiseIf_bil (c : Bool) (f : Fld) (s : State) : (raiseIf c f s).bil = s.bil := by unfold raiseIf; split <;> simp
@[simp] theorem raiseIf_pay (c : Bool) (f : Fld) (s : State) : (raiseIf c f s).pay = s.pay := by unfold raiseIf; split <;> simp
@[simp] theorem raiseIf_rly (c : Bool) (f : Fld) (s : State) : (raiseIf c f s).rly = s.rly := by unfold raiseIf; split <;> simp
@[simp] theorem raiseIf_well (c : Bool) (f : Fld) (s : State) : (raiseIf c f s).well = s.well := by unfold raiseIf; split <;> simp
@[simp] theorem raiseIf_lmd (c : Bool) (f : Fld) (s : State) : (raiseIf c f s).lmd = s.lmd := by unfold raiseIf; split <;> simp
@[simp] theorem raiseIf_fab (c : Bool) (f : Fld) (s : State) : (raiseIf c f s).fab = s.fab := by unfold raiseIf; split <;> simp
@[simp] theorem raiseIf_pnl (c : Bool) (f : Fld) (s : State) : (raiseIf c f s).pnl = s.pnl := by unfold raiseIf; split <;> simp
@[simp] theorem raiseIf_free (c : Bool) (f : Fld) (s : State) : (raiseIf c f s).free = s.free := by unfold raiseIf; split <;> simp
@[simp] theorem raiseIf_pending (c : Bool) (f : Fld) (s : State) : (raiseIf c f s).pending = s.pending := by unfold raiseIf; split <;> simp

/-! The parts after `wrByte`. -/

@[simp] theorem wrByte_regs (a : Nat) (b : Byte) (s : State) : (wrByte a b s).regs = s.regs := rfl
@[simp] theorem wrByte_hidden (a : Nat) (b : Byte) (s : State) : (wrByte a b s).hidden = s.hidden := rfl
@[simp] theorem wrByte_sup (a : Nat) (b : Byte) (s : State) : (wrByte a b s).sup = s.sup := rfl
@[simp] theorem wrByte_ld (a : Nat) (b : Byte) (s : State) : (wrByte a b s).ld = s.ld := rfl
@[simp] theorem wrByte_conv (a : Nat) (b : Byte) (s : State) : (wrByte a b s).conv = s.conv := rfl
@[simp] theorem wrByte_metro (a : Nat) (b : Byte) (s : State) : (wrByte a b s).metro = s.metro := rfl
@[simp] theorem wrByte_en (a : Nat) (b : Byte) (s : State) : (wrByte a b s).en = s.en := rfl
@[simp] theorem wrByte_tamp (a : Nat) (b : Byte) (s : State) : (wrByte a b s).tamp = s.tamp := rfl
@[simp] theorem wrByte_cis (a : Nat) (b : Byte) (s : State) : (wrByte a b s).cis = s.cis := rfl
@[simp] theorem wrByte_obj (a : Nat) (b : Byte) (s : State) : (wrByte a b s).obj = s.obj := rfl
@[simp] theorem wrByte_hif (a : Nat) (b : Byte) (s : State) : (wrByte a b s).hif = s.hif := rfl
@[simp] theorem wrByte_cap (a : Nat) (b : Byte) (s : State) : (wrByte a b s).cap = s.cap := rfl
@[simp] theorem wrByte_spec (a : Nat) (b : Byte) (s : State) : (wrByte a b s).spec = s.spec := rfl
@[simp] theorem wrByte_bil (a : Nat) (b : Byte) (s : State) : (wrByte a b s).bil = s.bil := rfl
@[simp] theorem wrByte_pay (a : Nat) (b : Byte) (s : State) : (wrByte a b s).pay = s.pay := rfl
@[simp] theorem wrByte_rly (a : Nat) (b : Byte) (s : State) : (wrByte a b s).rly = s.rly := rfl
@[simp] theorem wrByte_well (a : Nat) (b : Byte) (s : State) : (wrByte a b s).well = s.well := rfl
@[simp] theorem wrByte_lmd (a : Nat) (b : Byte) (s : State) : (wrByte a b s).lmd = s.lmd := rfl
@[simp] theorem wrByte_fab (a : Nat) (b : Byte) (s : State) : (wrByte a b s).fab = s.fab := rfl
@[simp] theorem wrByte_pnl (a : Nat) (b : Byte) (s : State) : (wrByte a b s).pnl = s.pnl := rfl
@[simp] theorem wrByte_free (a : Nat) (b : Byte) (s : State) : (wrByte a b s).free = s.free := rfl
@[simp] theorem wrByte_pending (a : Nat) (b : Byte) (s : State) : (wrByte a b s).pending = s.pending := rfl

/-! The parts after `wrBytes`. -/

@[simp] theorem wrBytes_regs (a : Nat) (bs : List Byte) (s : State) : (wrBytes a bs s).regs = s.regs := rfl
@[simp] theorem wrBytes_hidden (a : Nat) (bs : List Byte) (s : State) : (wrBytes a bs s).hidden = s.hidden := rfl
@[simp] theorem wrBytes_sup (a : Nat) (bs : List Byte) (s : State) : (wrBytes a bs s).sup = s.sup := rfl
@[simp] theorem wrBytes_ld (a : Nat) (bs : List Byte) (s : State) : (wrBytes a bs s).ld = s.ld := rfl
@[simp] theorem wrBytes_conv (a : Nat) (bs : List Byte) (s : State) : (wrBytes a bs s).conv = s.conv := rfl
@[simp] theorem wrBytes_metro (a : Nat) (bs : List Byte) (s : State) : (wrBytes a bs s).metro = s.metro := rfl
@[simp] theorem wrBytes_en (a : Nat) (bs : List Byte) (s : State) : (wrBytes a bs s).en = s.en := rfl
@[simp] theorem wrBytes_tamp (a : Nat) (bs : List Byte) (s : State) : (wrBytes a bs s).tamp = s.tamp := rfl
@[simp] theorem wrBytes_cis (a : Nat) (bs : List Byte) (s : State) : (wrBytes a bs s).cis = s.cis := rfl
@[simp] theorem wrBytes_obj (a : Nat) (bs : List Byte) (s : State) : (wrBytes a bs s).obj = s.obj := rfl
@[simp] theorem wrBytes_hif (a : Nat) (bs : List Byte) (s : State) : (wrBytes a bs s).hif = s.hif := rfl
@[simp] theorem wrBytes_cap (a : Nat) (bs : List Byte) (s : State) : (wrBytes a bs s).cap = s.cap := rfl
@[simp] theorem wrBytes_spec (a : Nat) (bs : List Byte) (s : State) : (wrBytes a bs s).spec = s.spec := rfl
@[simp] theorem wrBytes_bil (a : Nat) (bs : List Byte) (s : State) : (wrBytes a bs s).bil = s.bil := rfl
@[simp] theorem wrBytes_pay (a : Nat) (bs : List Byte) (s : State) : (wrBytes a bs s).pay = s.pay := rfl
@[simp] theorem wrBytes_rly (a : Nat) (bs : List Byte) (s : State) : (wrBytes a bs s).rly = s.rly := rfl
@[simp] theorem wrBytes_well (a : Nat) (bs : List Byte) (s : State) : (wrBytes a bs s).well = s.well := rfl
@[simp] theorem wrBytes_lmd (a : Nat) (bs : List Byte) (s : State) : (wrBytes a bs s).lmd = s.lmd := rfl
@[simp] theorem wrBytes_fab (a : Nat) (bs : List Byte) (s : State) : (wrBytes a bs s).fab = s.fab := rfl
@[simp] theorem wrBytes_pnl (a : Nat) (bs : List Byte) (s : State) : (wrBytes a bs s).pnl = s.pnl := rfl
@[simp] theorem wrBytes_free (a : Nat) (bs : List Byte) (s : State) : (wrBytes a bs s).free = s.free := rfl
@[simp] theorem wrBytes_pending (a : Nat) (bs : List Byte) (s : State) : (wrBytes a bs s).pending = s.pending := rfl

/-! The parts after `fresh`. -/

@[simp] theorem fresh_regs (s : State) : ((fresh s).2).regs = s.regs := rfl
@[simp] theorem fresh_hidden (s : State) : ((fresh s).2).hidden = s.hidden := rfl
@[simp] theorem fresh_mem (s : State) : ((fresh s).2).mem = s.mem := rfl
@[simp] theorem fresh_sup (s : State) : ((fresh s).2).sup = s.sup := rfl
@[simp] theorem fresh_ld (s : State) : ((fresh s).2).ld = s.ld := rfl
@[simp] theorem fresh_conv (s : State) : ((fresh s).2).conv = s.conv := rfl
@[simp] theorem fresh_metro (s : State) : ((fresh s).2).metro = s.metro := rfl
@[simp] theorem fresh_en (s : State) : ((fresh s).2).en = s.en := rfl
@[simp] theorem fresh_tamp (s : State) : ((fresh s).2).tamp = s.tamp := rfl
@[simp] theorem fresh_cis (s : State) : ((fresh s).2).cis = s.cis := rfl
@[simp] theorem fresh_obj (s : State) : ((fresh s).2).obj = s.obj := rfl
@[simp] theorem fresh_hif (s : State) : ((fresh s).2).hif = s.hif := rfl
@[simp] theorem fresh_cap (s : State) : ((fresh s).2).cap = s.cap := rfl
@[simp] theorem fresh_spec (s : State) : ((fresh s).2).spec = s.spec := rfl
@[simp] theorem fresh_bil (s : State) : ((fresh s).2).bil = s.bil := rfl
@[simp] theorem fresh_pay (s : State) : ((fresh s).2).pay = s.pay := rfl
@[simp] theorem fresh_rly (s : State) : ((fresh s).2).rly = s.rly := rfl
@[simp] theorem fresh_well (s : State) : ((fresh s).2).well = s.well := rfl
@[simp] theorem fresh_lmd (s : State) : ((fresh s).2).lmd = s.lmd := rfl
@[simp] theorem fresh_fab (s : State) : ((fresh s).2).fab = s.fab := rfl
@[simp] theorem fresh_pnl (s : State) : ((fresh s).2).pnl = s.pnl := rfl
@[simp] theorem fresh_free (s : State) : ((fresh s).2).free = s.free + 1 := rfl
@[simp] theorem fresh_pending (s : State) : ((fresh s).2).pending = s.pending := rfl

/-! The parts after `updSup`. -/

@[simp] theorem updSup_regs (g : SupSt → SupSt) (s : State) : (updSup g s).regs = s.regs := rfl
@[simp] theorem updSup_hidden (g : SupSt → SupSt) (s : State) : (updSup g s).hidden = s.hidden := rfl
@[simp] theorem updSup_mem (g : SupSt → SupSt) (s : State) : (updSup g s).mem = s.mem := rfl
@[simp] theorem updSup_sup (g : SupSt → SupSt) (s : State) : (updSup g s).sup = g s.sup := rfl
@[simp] theorem updSup_ld (g : SupSt → SupSt) (s : State) : (updSup g s).ld = s.ld := rfl
@[simp] theorem updSup_conv (g : SupSt → SupSt) (s : State) : (updSup g s).conv = s.conv := rfl
@[simp] theorem updSup_metro (g : SupSt → SupSt) (s : State) : (updSup g s).metro = s.metro := rfl
@[simp] theorem updSup_en (g : SupSt → SupSt) (s : State) : (updSup g s).en = s.en := rfl
@[simp] theorem updSup_tamp (g : SupSt → SupSt) (s : State) : (updSup g s).tamp = s.tamp := rfl
@[simp] theorem updSup_cis (g : SupSt → SupSt) (s : State) : (updSup g s).cis = s.cis := rfl
@[simp] theorem updSup_obj (g : SupSt → SupSt) (s : State) : (updSup g s).obj = s.obj := rfl
@[simp] theorem updSup_hif (g : SupSt → SupSt) (s : State) : (updSup g s).hif = s.hif := rfl
@[simp] theorem updSup_cap (g : SupSt → SupSt) (s : State) : (updSup g s).cap = s.cap := rfl
@[simp] theorem updSup_spec (g : SupSt → SupSt) (s : State) : (updSup g s).spec = s.spec := rfl
@[simp] theorem updSup_bil (g : SupSt → SupSt) (s : State) : (updSup g s).bil = s.bil := rfl
@[simp] theorem updSup_pay (g : SupSt → SupSt) (s : State) : (updSup g s).pay = s.pay := rfl
@[simp] theorem updSup_rly (g : SupSt → SupSt) (s : State) : (updSup g s).rly = s.rly := rfl
@[simp] theorem updSup_well (g : SupSt → SupSt) (s : State) : (updSup g s).well = s.well := rfl
@[simp] theorem updSup_lmd (g : SupSt → SupSt) (s : State) : (updSup g s).lmd = s.lmd := rfl
@[simp] theorem updSup_fab (g : SupSt → SupSt) (s : State) : (updSup g s).fab = s.fab := rfl
@[simp] theorem updSup_pnl (g : SupSt → SupSt) (s : State) : (updSup g s).pnl = s.pnl := rfl
@[simp] theorem updSup_free (g : SupSt → SupSt) (s : State) : (updSup g s).free = s.free := rfl
@[simp] theorem updSup_pending (g : SupSt → SupSt) (s : State) : (updSup g s).pending = s.pending := rfl

/-! The parts after `updHif`. -/

@[simp] theorem updHif_regs (g : HifSt → HifSt) (s : State) : (updHif g s).regs = s.regs := rfl
@[simp] theorem updHif_hidden (g : HifSt → HifSt) (s : State) : (updHif g s).hidden = s.hidden := rfl
@[simp] theorem updHif_mem (g : HifSt → HifSt) (s : State) : (updHif g s).mem = s.mem := rfl
@[simp] theorem updHif_sup (g : HifSt → HifSt) (s : State) : (updHif g s).sup = s.sup := rfl
@[simp] theorem updHif_ld (g : HifSt → HifSt) (s : State) : (updHif g s).ld = s.ld := rfl
@[simp] theorem updHif_conv (g : HifSt → HifSt) (s : State) : (updHif g s).conv = s.conv := rfl
@[simp] theorem updHif_metro (g : HifSt → HifSt) (s : State) : (updHif g s).metro = s.metro := rfl
@[simp] theorem updHif_en (g : HifSt → HifSt) (s : State) : (updHif g s).en = s.en := rfl
@[simp] theorem updHif_tamp (g : HifSt → HifSt) (s : State) : (updHif g s).tamp = s.tamp := rfl
@[simp] theorem updHif_cis (g : HifSt → HifSt) (s : State) : (updHif g s).cis = s.cis := rfl
@[simp] theorem updHif_obj (g : HifSt → HifSt) (s : State) : (updHif g s).obj = s.obj := rfl
@[simp] theorem updHif_hif (g : HifSt → HifSt) (s : State) : (updHif g s).hif = g s.hif := rfl
@[simp] theorem updHif_cap (g : HifSt → HifSt) (s : State) : (updHif g s).cap = s.cap := rfl
@[simp] theorem updHif_spec (g : HifSt → HifSt) (s : State) : (updHif g s).spec = s.spec := rfl
@[simp] theorem updHif_bil (g : HifSt → HifSt) (s : State) : (updHif g s).bil = s.bil := rfl
@[simp] theorem updHif_pay (g : HifSt → HifSt) (s : State) : (updHif g s).pay = s.pay := rfl
@[simp] theorem updHif_rly (g : HifSt → HifSt) (s : State) : (updHif g s).rly = s.rly := rfl
@[simp] theorem updHif_well (g : HifSt → HifSt) (s : State) : (updHif g s).well = s.well := rfl
@[simp] theorem updHif_lmd (g : HifSt → HifSt) (s : State) : (updHif g s).lmd = s.lmd := rfl
@[simp] theorem updHif_fab (g : HifSt → HifSt) (s : State) : (updHif g s).fab = s.fab := rfl
@[simp] theorem updHif_pnl (g : HifSt → HifSt) (s : State) : (updHif g s).pnl = s.pnl := rfl
@[simp] theorem updHif_free (g : HifSt → HifSt) (s : State) : (updHif g s).free = s.free := rfl
@[simp] theorem updHif_pending (g : HifSt → HifSt) (s : State) : (updHif g s).pending = s.pending := rfl

/-! The parts after `updObj`. -/

@[simp] theorem updObj_regs (g : ObjSt → ObjSt) (s : State) : (updObj g s).regs = s.regs := rfl
@[simp] theorem updObj_hidden (g : ObjSt → ObjSt) (s : State) : (updObj g s).hidden = s.hidden := rfl
@[simp] theorem updObj_mem (g : ObjSt → ObjSt) (s : State) : (updObj g s).mem = s.mem := rfl
@[simp] theorem updObj_sup (g : ObjSt → ObjSt) (s : State) : (updObj g s).sup = s.sup := rfl
@[simp] theorem updObj_ld (g : ObjSt → ObjSt) (s : State) : (updObj g s).ld = s.ld := rfl
@[simp] theorem updObj_conv (g : ObjSt → ObjSt) (s : State) : (updObj g s).conv = s.conv := rfl
@[simp] theorem updObj_metro (g : ObjSt → ObjSt) (s : State) : (updObj g s).metro = s.metro := rfl
@[simp] theorem updObj_en (g : ObjSt → ObjSt) (s : State) : (updObj g s).en = s.en := rfl
@[simp] theorem updObj_tamp (g : ObjSt → ObjSt) (s : State) : (updObj g s).tamp = s.tamp := rfl
@[simp] theorem updObj_cis (g : ObjSt → ObjSt) (s : State) : (updObj g s).cis = s.cis := rfl
@[simp] theorem updObj_obj (g : ObjSt → ObjSt) (s : State) : (updObj g s).obj = g s.obj := rfl
@[simp] theorem updObj_hif (g : ObjSt → ObjSt) (s : State) : (updObj g s).hif = s.hif := rfl
@[simp] theorem updObj_cap (g : ObjSt → ObjSt) (s : State) : (updObj g s).cap = s.cap := rfl
@[simp] theorem updObj_spec (g : ObjSt → ObjSt) (s : State) : (updObj g s).spec = s.spec := rfl
@[simp] theorem updObj_bil (g : ObjSt → ObjSt) (s : State) : (updObj g s).bil = s.bil := rfl
@[simp] theorem updObj_pay (g : ObjSt → ObjSt) (s : State) : (updObj g s).pay = s.pay := rfl
@[simp] theorem updObj_rly (g : ObjSt → ObjSt) (s : State) : (updObj g s).rly = s.rly := rfl
@[simp] theorem updObj_well (g : ObjSt → ObjSt) (s : State) : (updObj g s).well = s.well := rfl
@[simp] theorem updObj_lmd (g : ObjSt → ObjSt) (s : State) : (updObj g s).lmd = s.lmd := rfl
@[simp] theorem updObj_fab (g : ObjSt → ObjSt) (s : State) : (updObj g s).fab = s.fab := rfl
@[simp] theorem updObj_pnl (g : ObjSt → ObjSt) (s : State) : (updObj g s).pnl = s.pnl := rfl
@[simp] theorem updObj_free (g : ObjSt → ObjSt) (s : State) : (updObj g s).free = s.free := rfl
@[simp] theorem updObj_pending (g : ObjSt → ObjSt) (s : State) : (updObj g s).pending = s.pending := rfl

/-! The parts after `updBil`. -/

@[simp] theorem updBil_regs (g : BilSt → BilSt) (s : State) : (updBil g s).regs = s.regs := rfl
@[simp] theorem updBil_hidden (g : BilSt → BilSt) (s : State) : (updBil g s).hidden = s.hidden := rfl
@[simp] theorem updBil_mem (g : BilSt → BilSt) (s : State) : (updBil g s).mem = s.mem := rfl
@[simp] theorem updBil_sup (g : BilSt → BilSt) (s : State) : (updBil g s).sup = s.sup := rfl
@[simp] theorem updBil_ld (g : BilSt → BilSt) (s : State) : (updBil g s).ld = s.ld := rfl
@[simp] theorem updBil_conv (g : BilSt → BilSt) (s : State) : (updBil g s).conv = s.conv := rfl
@[simp] theorem updBil_metro (g : BilSt → BilSt) (s : State) : (updBil g s).metro = s.metro := rfl
@[simp] theorem updBil_en (g : BilSt → BilSt) (s : State) : (updBil g s).en = s.en := rfl
@[simp] theorem updBil_tamp (g : BilSt → BilSt) (s : State) : (updBil g s).tamp = s.tamp := rfl
@[simp] theorem updBil_cis (g : BilSt → BilSt) (s : State) : (updBil g s).cis = s.cis := rfl
@[simp] theorem updBil_obj (g : BilSt → BilSt) (s : State) : (updBil g s).obj = s.obj := rfl
@[simp] theorem updBil_hif (g : BilSt → BilSt) (s : State) : (updBil g s).hif = s.hif := rfl
@[simp] theorem updBil_cap (g : BilSt → BilSt) (s : State) : (updBil g s).cap = s.cap := rfl
@[simp] theorem updBil_spec (g : BilSt → BilSt) (s : State) : (updBil g s).spec = s.spec := rfl
@[simp] theorem updBil_bil (g : BilSt → BilSt) (s : State) : (updBil g s).bil = g s.bil := rfl
@[simp] theorem updBil_pay (g : BilSt → BilSt) (s : State) : (updBil g s).pay = s.pay := rfl
@[simp] theorem updBil_rly (g : BilSt → BilSt) (s : State) : (updBil g s).rly = s.rly := rfl
@[simp] theorem updBil_well (g : BilSt → BilSt) (s : State) : (updBil g s).well = s.well := rfl
@[simp] theorem updBil_lmd (g : BilSt → BilSt) (s : State) : (updBil g s).lmd = s.lmd := rfl
@[simp] theorem updBil_fab (g : BilSt → BilSt) (s : State) : (updBil g s).fab = s.fab := rfl
@[simp] theorem updBil_pnl (g : BilSt → BilSt) (s : State) : (updBil g s).pnl = s.pnl := rfl
@[simp] theorem updBil_free (g : BilSt → BilSt) (s : State) : (updBil g s).free = s.free := rfl
@[simp] theorem updBil_pending (g : BilSt → BilSt) (s : State) : (updBil g s).pending = s.pending := rfl

/-! The parts after `updWell`. -/

@[simp] theorem updWell_regs (g : WellSt → WellSt) (s : State) : (updWell g s).regs = s.regs := rfl
@[simp] theorem updWell_hidden (g : WellSt → WellSt) (s : State) : (updWell g s).hidden = s.hidden := rfl
@[simp] theorem updWell_mem (g : WellSt → WellSt) (s : State) : (updWell g s).mem = s.mem := rfl
@[simp] theorem updWell_sup (g : WellSt → WellSt) (s : State) : (updWell g s).sup = s.sup := rfl
@[simp] theorem updWell_ld (g : WellSt → WellSt) (s : State) : (updWell g s).ld = s.ld := rfl
@[simp] theorem updWell_conv (g : WellSt → WellSt) (s : State) : (updWell g s).conv = s.conv := rfl
@[simp] theorem updWell_metro (g : WellSt → WellSt) (s : State) : (updWell g s).metro = s.metro := rfl
@[simp] theorem updWell_en (g : WellSt → WellSt) (s : State) : (updWell g s).en = s.en := rfl
@[simp] theorem updWell_tamp (g : WellSt → WellSt) (s : State) : (updWell g s).tamp = s.tamp := rfl
@[simp] theorem updWell_cis (g : WellSt → WellSt) (s : State) : (updWell g s).cis = s.cis := rfl
@[simp] theorem updWell_obj (g : WellSt → WellSt) (s : State) : (updWell g s).obj = s.obj := rfl
@[simp] theorem updWell_hif (g : WellSt → WellSt) (s : State) : (updWell g s).hif = s.hif := rfl
@[simp] theorem updWell_cap (g : WellSt → WellSt) (s : State) : (updWell g s).cap = s.cap := rfl
@[simp] theorem updWell_spec (g : WellSt → WellSt) (s : State) : (updWell g s).spec = s.spec := rfl
@[simp] theorem updWell_bil (g : WellSt → WellSt) (s : State) : (updWell g s).bil = s.bil := rfl
@[simp] theorem updWell_pay (g : WellSt → WellSt) (s : State) : (updWell g s).pay = s.pay := rfl
@[simp] theorem updWell_rly (g : WellSt → WellSt) (s : State) : (updWell g s).rly = s.rly := rfl
@[simp] theorem updWell_well (g : WellSt → WellSt) (s : State) : (updWell g s).well = g s.well := rfl
@[simp] theorem updWell_lmd (g : WellSt → WellSt) (s : State) : (updWell g s).lmd = s.lmd := rfl
@[simp] theorem updWell_fab (g : WellSt → WellSt) (s : State) : (updWell g s).fab = s.fab := rfl
@[simp] theorem updWell_pnl (g : WellSt → WellSt) (s : State) : (updWell g s).pnl = s.pnl := rfl
@[simp] theorem updWell_free (g : WellSt → WellSt) (s : State) : (updWell g s).free = s.free := rfl
@[simp] theorem updWell_pending (g : WellSt → WellSt) (s : State) : (updWell g s).pending = s.pending := rfl

/-! The parts after `updCis`. -/

@[simp] theorem updCis_regs (g : CisSt → CisSt) (s : State) : (updCis g s).regs = s.regs := rfl
@[simp] theorem updCis_hidden (g : CisSt → CisSt) (s : State) : (updCis g s).hidden = s.hidden := rfl
@[simp] theorem updCis_mem (g : CisSt → CisSt) (s : State) : (updCis g s).mem = s.mem := rfl
@[simp] theorem updCis_sup (g : CisSt → CisSt) (s : State) : (updCis g s).sup = s.sup := rfl
@[simp] theorem updCis_ld (g : CisSt → CisSt) (s : State) : (updCis g s).ld = s.ld := rfl
@[simp] theorem updCis_conv (g : CisSt → CisSt) (s : State) : (updCis g s).conv = s.conv := rfl
@[simp] theorem updCis_metro (g : CisSt → CisSt) (s : State) : (updCis g s).metro = s.metro := rfl
@[simp] theorem updCis_en (g : CisSt → CisSt) (s : State) : (updCis g s).en = s.en := rfl
@[simp] theorem updCis_tamp (g : CisSt → CisSt) (s : State) : (updCis g s).tamp = s.tamp := rfl
@[simp] theorem updCis_cis (g : CisSt → CisSt) (s : State) : (updCis g s).cis = g s.cis := rfl
@[simp] theorem updCis_obj (g : CisSt → CisSt) (s : State) : (updCis g s).obj = s.obj := rfl
@[simp] theorem updCis_hif (g : CisSt → CisSt) (s : State) : (updCis g s).hif = s.hif := rfl
@[simp] theorem updCis_cap (g : CisSt → CisSt) (s : State) : (updCis g s).cap = s.cap := rfl
@[simp] theorem updCis_spec (g : CisSt → CisSt) (s : State) : (updCis g s).spec = s.spec := rfl
@[simp] theorem updCis_bil (g : CisSt → CisSt) (s : State) : (updCis g s).bil = s.bil := rfl
@[simp] theorem updCis_pay (g : CisSt → CisSt) (s : State) : (updCis g s).pay = s.pay := rfl
@[simp] theorem updCis_rly (g : CisSt → CisSt) (s : State) : (updCis g s).rly = s.rly := rfl
@[simp] theorem updCis_well (g : CisSt → CisSt) (s : State) : (updCis g s).well = s.well := rfl
@[simp] theorem updCis_lmd (g : CisSt → CisSt) (s : State) : (updCis g s).lmd = s.lmd := rfl
@[simp] theorem updCis_fab (g : CisSt → CisSt) (s : State) : (updCis g s).fab = s.fab := rfl
@[simp] theorem updCis_pnl (g : CisSt → CisSt) (s : State) : (updCis g s).pnl = s.pnl := rfl
@[simp] theorem updCis_free (g : CisSt → CisSt) (s : State) : (updCis g s).free = s.free := rfl
@[simp] theorem updCis_pending (g : CisSt → CisSt) (s : State) : (updCis g s).pending = s.pending := rfl

/-! The parts after `updRly`. -/

@[simp] theorem updRly_regs (g : RlySt → RlySt) (s : State) : (updRly g s).regs = s.regs := rfl
@[simp] theorem updRly_hidden (g : RlySt → RlySt) (s : State) : (updRly g s).hidden = s.hidden := rfl
@[simp] theorem updRly_mem (g : RlySt → RlySt) (s : State) : (updRly g s).mem = s.mem := rfl
@[simp] theorem updRly_sup (g : RlySt → RlySt) (s : State) : (updRly g s).sup = s.sup := rfl
@[simp] theorem updRly_ld (g : RlySt → RlySt) (s : State) : (updRly g s).ld = s.ld := rfl
@[simp] theorem updRly_conv (g : RlySt → RlySt) (s : State) : (updRly g s).conv = s.conv := rfl
@[simp] theorem updRly_metro (g : RlySt → RlySt) (s : State) : (updRly g s).metro = s.metro := rfl
@[simp] theorem updRly_en (g : RlySt → RlySt) (s : State) : (updRly g s).en = s.en := rfl
@[simp] theorem updRly_tamp (g : RlySt → RlySt) (s : State) : (updRly g s).tamp = s.tamp := rfl
@[simp] theorem updRly_cis (g : RlySt → RlySt) (s : State) : (updRly g s).cis = s.cis := rfl
@[simp] theorem updRly_obj (g : RlySt → RlySt) (s : State) : (updRly g s).obj = s.obj := rfl
@[simp] theorem updRly_hif (g : RlySt → RlySt) (s : State) : (updRly g s).hif = s.hif := rfl
@[simp] theorem updRly_cap (g : RlySt → RlySt) (s : State) : (updRly g s).cap = s.cap := rfl
@[simp] theorem updRly_spec (g : RlySt → RlySt) (s : State) : (updRly g s).spec = s.spec := rfl
@[simp] theorem updRly_bil (g : RlySt → RlySt) (s : State) : (updRly g s).bil = s.bil := rfl
@[simp] theorem updRly_pay (g : RlySt → RlySt) (s : State) : (updRly g s).pay = s.pay := rfl
@[simp] theorem updRly_rly (g : RlySt → RlySt) (s : State) : (updRly g s).rly = g s.rly := rfl
@[simp] theorem updRly_well (g : RlySt → RlySt) (s : State) : (updRly g s).well = s.well := rfl
@[simp] theorem updRly_lmd (g : RlySt → RlySt) (s : State) : (updRly g s).lmd = s.lmd := rfl
@[simp] theorem updRly_fab (g : RlySt → RlySt) (s : State) : (updRly g s).fab = s.fab := rfl
@[simp] theorem updRly_pnl (g : RlySt → RlySt) (s : State) : (updRly g s).pnl = s.pnl := rfl
@[simp] theorem updRly_free (g : RlySt → RlySt) (s : State) : (updRly g s).free = s.free := rfl
@[simp] theorem updRly_pending (g : RlySt → RlySt) (s : State) : (updRly g s).pending = s.pending := rfl

/-! The parts after `updFab`. -/

@[simp] theorem updFab_regs (g : FabSt → FabSt) (s : State) : (updFab g s).regs = s.regs := rfl
@[simp] theorem updFab_hidden (g : FabSt → FabSt) (s : State) : (updFab g s).hidden = s.hidden := rfl
@[simp] theorem updFab_mem (g : FabSt → FabSt) (s : State) : (updFab g s).mem = s.mem := rfl
@[simp] theorem updFab_sup (g : FabSt → FabSt) (s : State) : (updFab g s).sup = s.sup := rfl
@[simp] theorem updFab_ld (g : FabSt → FabSt) (s : State) : (updFab g s).ld = s.ld := rfl
@[simp] theorem updFab_conv (g : FabSt → FabSt) (s : State) : (updFab g s).conv = s.conv := rfl
@[simp] theorem updFab_metro (g : FabSt → FabSt) (s : State) : (updFab g s).metro = s.metro := rfl
@[simp] theorem updFab_en (g : FabSt → FabSt) (s : State) : (updFab g s).en = s.en := rfl
@[simp] theorem updFab_tamp (g : FabSt → FabSt) (s : State) : (updFab g s).tamp = s.tamp := rfl
@[simp] theorem updFab_cis (g : FabSt → FabSt) (s : State) : (updFab g s).cis = s.cis := rfl
@[simp] theorem updFab_obj (g : FabSt → FabSt) (s : State) : (updFab g s).obj = s.obj := rfl
@[simp] theorem updFab_hif (g : FabSt → FabSt) (s : State) : (updFab g s).hif = s.hif := rfl
@[simp] theorem updFab_cap (g : FabSt → FabSt) (s : State) : (updFab g s).cap = s.cap := rfl
@[simp] theorem updFab_spec (g : FabSt → FabSt) (s : State) : (updFab g s).spec = s.spec := rfl
@[simp] theorem updFab_bil (g : FabSt → FabSt) (s : State) : (updFab g s).bil = s.bil := rfl
@[simp] theorem updFab_pay (g : FabSt → FabSt) (s : State) : (updFab g s).pay = s.pay := rfl
@[simp] theorem updFab_rly (g : FabSt → FabSt) (s : State) : (updFab g s).rly = s.rly := rfl
@[simp] theorem updFab_well (g : FabSt → FabSt) (s : State) : (updFab g s).well = s.well := rfl
@[simp] theorem updFab_lmd (g : FabSt → FabSt) (s : State) : (updFab g s).lmd = s.lmd := rfl
@[simp] theorem updFab_fab (g : FabSt → FabSt) (s : State) : (updFab g s).fab = g s.fab := rfl
@[simp] theorem updFab_pnl (g : FabSt → FabSt) (s : State) : (updFab g s).pnl = s.pnl := rfl
@[simp] theorem updFab_free (g : FabSt → FabSt) (s : State) : (updFab g s).free = s.free := rfl
@[simp] theorem updFab_pending (g : FabSt → FabSt) (s : State) : (updFab g s).pending = s.pending := rfl

/-! The parts after `updLmd`. -/

@[simp] theorem updLmd_regs (g : LmdSt → LmdSt) (s : State) : (updLmd g s).regs = s.regs := rfl
@[simp] theorem updLmd_hidden (g : LmdSt → LmdSt) (s : State) : (updLmd g s).hidden = s.hidden := rfl
@[simp] theorem updLmd_mem (g : LmdSt → LmdSt) (s : State) : (updLmd g s).mem = s.mem := rfl
@[simp] theorem updLmd_sup (g : LmdSt → LmdSt) (s : State) : (updLmd g s).sup = s.sup := rfl
@[simp] theorem updLmd_ld (g : LmdSt → LmdSt) (s : State) : (updLmd g s).ld = s.ld := rfl
@[simp] theorem updLmd_conv (g : LmdSt → LmdSt) (s : State) : (updLmd g s).conv = s.conv := rfl
@[simp] theorem updLmd_metro (g : LmdSt → LmdSt) (s : State) : (updLmd g s).metro = s.metro := rfl
@[simp] theorem updLmd_en (g : LmdSt → LmdSt) (s : State) : (updLmd g s).en = s.en := rfl
@[simp] theorem updLmd_tamp (g : LmdSt → LmdSt) (s : State) : (updLmd g s).tamp = s.tamp := rfl
@[simp] theorem updLmd_cis (g : LmdSt → LmdSt) (s : State) : (updLmd g s).cis = s.cis := rfl
@[simp] theorem updLmd_obj (g : LmdSt → LmdSt) (s : State) : (updLmd g s).obj = s.obj := rfl
@[simp] theorem updLmd_hif (g : LmdSt → LmdSt) (s : State) : (updLmd g s).hif = s.hif := rfl
@[simp] theorem updLmd_cap (g : LmdSt → LmdSt) (s : State) : (updLmd g s).cap = s.cap := rfl
@[simp] theorem updLmd_spec (g : LmdSt → LmdSt) (s : State) : (updLmd g s).spec = s.spec := rfl
@[simp] theorem updLmd_bil (g : LmdSt → LmdSt) (s : State) : (updLmd g s).bil = s.bil := rfl
@[simp] theorem updLmd_pay (g : LmdSt → LmdSt) (s : State) : (updLmd g s).pay = s.pay := rfl
@[simp] theorem updLmd_rly (g : LmdSt → LmdSt) (s : State) : (updLmd g s).rly = s.rly := rfl
@[simp] theorem updLmd_well (g : LmdSt → LmdSt) (s : State) : (updLmd g s).well = s.well := rfl
@[simp] theorem updLmd_lmd (g : LmdSt → LmdSt) (s : State) : (updLmd g s).lmd = g s.lmd := rfl
@[simp] theorem updLmd_fab (g : LmdSt → LmdSt) (s : State) : (updLmd g s).fab = s.fab := rfl
@[simp] theorem updLmd_pnl (g : LmdSt → LmdSt) (s : State) : (updLmd g s).pnl = s.pnl := rfl
@[simp] theorem updLmd_free (g : LmdSt → LmdSt) (s : State) : (updLmd g s).free = s.free := rfl
@[simp] theorem updLmd_pending (g : LmdSt → LmdSt) (s : State) : (updLmd g s).pending = s.pending := rfl

/-! The parts after `updPnl`. -/

@[simp] theorem updPnl_regs (g : PnlSt → PnlSt) (s : State) : (updPnl g s).regs = s.regs := rfl
@[simp] theorem updPnl_hidden (g : PnlSt → PnlSt) (s : State) : (updPnl g s).hidden = s.hidden := rfl
@[simp] theorem updPnl_mem (g : PnlSt → PnlSt) (s : State) : (updPnl g s).mem = s.mem := rfl
@[simp] theorem updPnl_sup (g : PnlSt → PnlSt) (s : State) : (updPnl g s).sup = s.sup := rfl
@[simp] theorem updPnl_ld (g : PnlSt → PnlSt) (s : State) : (updPnl g s).ld = s.ld := rfl
@[simp] theorem updPnl_conv (g : PnlSt → PnlSt) (s : State) : (updPnl g s).conv = s.conv := rfl
@[simp] theorem updPnl_metro (g : PnlSt → PnlSt) (s : State) : (updPnl g s).metro = s.metro := rfl
@[simp] theorem updPnl_en (g : PnlSt → PnlSt) (s : State) : (updPnl g s).en = s.en := rfl
@[simp] theorem updPnl_tamp (g : PnlSt → PnlSt) (s : State) : (updPnl g s).tamp = s.tamp := rfl
@[simp] theorem updPnl_cis (g : PnlSt → PnlSt) (s : State) : (updPnl g s).cis = s.cis := rfl
@[simp] theorem updPnl_obj (g : PnlSt → PnlSt) (s : State) : (updPnl g s).obj = s.obj := rfl
@[simp] theorem updPnl_hif (g : PnlSt → PnlSt) (s : State) : (updPnl g s).hif = s.hif := rfl
@[simp] theorem updPnl_cap (g : PnlSt → PnlSt) (s : State) : (updPnl g s).cap = s.cap := rfl
@[simp] theorem updPnl_spec (g : PnlSt → PnlSt) (s : State) : (updPnl g s).spec = s.spec := rfl
@[simp] theorem updPnl_bil (g : PnlSt → PnlSt) (s : State) : (updPnl g s).bil = s.bil := rfl
@[simp] theorem updPnl_pay (g : PnlSt → PnlSt) (s : State) : (updPnl g s).pay = s.pay := rfl
@[simp] theorem updPnl_rly (g : PnlSt → PnlSt) (s : State) : (updPnl g s).rly = s.rly := rfl
@[simp] theorem updPnl_well (g : PnlSt → PnlSt) (s : State) : (updPnl g s).well = s.well := rfl
@[simp] theorem updPnl_lmd (g : PnlSt → PnlSt) (s : State) : (updPnl g s).lmd = s.lmd := rfl
@[simp] theorem updPnl_fab (g : PnlSt → PnlSt) (s : State) : (updPnl g s).fab = s.fab := rfl
@[simp] theorem updPnl_pnl (g : PnlSt → PnlSt) (s : State) : (updPnl g s).pnl = g s.pnl := rfl
@[simp] theorem updPnl_free (g : PnlSt → PnlSt) (s : State) : (updPnl g s).free = s.free := rfl
@[simp] theorem updPnl_pending (g : PnlSt → PnlSt) (s : State) : (updPnl g s).pending = s.pending := rfl

/-! The parts after `updPay`. -/

@[simp] theorem updPay_regs (g : PaySt → PaySt) (s : State) : (updPay g s).regs = s.regs := rfl
@[simp] theorem updPay_hidden (g : PaySt → PaySt) (s : State) : (updPay g s).hidden = s.hidden := rfl
@[simp] theorem updPay_mem (g : PaySt → PaySt) (s : State) : (updPay g s).mem = s.mem := rfl
@[simp] theorem updPay_sup (g : PaySt → PaySt) (s : State) : (updPay g s).sup = s.sup := rfl
@[simp] theorem updPay_ld (g : PaySt → PaySt) (s : State) : (updPay g s).ld = s.ld := rfl
@[simp] theorem updPay_conv (g : PaySt → PaySt) (s : State) : (updPay g s).conv = s.conv := rfl
@[simp] theorem updPay_metro (g : PaySt → PaySt) (s : State) : (updPay g s).metro = s.metro := rfl
@[simp] theorem updPay_en (g : PaySt → PaySt) (s : State) : (updPay g s).en = s.en := rfl
@[simp] theorem updPay_tamp (g : PaySt → PaySt) (s : State) : (updPay g s).tamp = s.tamp := rfl
@[simp] theorem updPay_cis (g : PaySt → PaySt) (s : State) : (updPay g s).cis = s.cis := rfl
@[simp] theorem updPay_obj (g : PaySt → PaySt) (s : State) : (updPay g s).obj = s.obj := rfl
@[simp] theorem updPay_hif (g : PaySt → PaySt) (s : State) : (updPay g s).hif = s.hif := rfl
@[simp] theorem updPay_cap (g : PaySt → PaySt) (s : State) : (updPay g s).cap = s.cap := rfl
@[simp] theorem updPay_spec (g : PaySt → PaySt) (s : State) : (updPay g s).spec = s.spec := rfl
@[simp] theorem updPay_bil (g : PaySt → PaySt) (s : State) : (updPay g s).bil = s.bil := rfl
@[simp] theorem updPay_pay (g : PaySt → PaySt) (s : State) : (updPay g s).pay = g s.pay := rfl
@[simp] theorem updPay_rly (g : PaySt → PaySt) (s : State) : (updPay g s).rly = s.rly := rfl
@[simp] theorem updPay_well (g : PaySt → PaySt) (s : State) : (updPay g s).well = s.well := rfl
@[simp] theorem updPay_lmd (g : PaySt → PaySt) (s : State) : (updPay g s).lmd = s.lmd := rfl
@[simp] theorem updPay_fab (g : PaySt → PaySt) (s : State) : (updPay g s).fab = s.fab := rfl
@[simp] theorem updPay_pnl (g : PaySt → PaySt) (s : State) : (updPay g s).pnl = s.pnl := rfl
@[simp] theorem updPay_free (g : PaySt → PaySt) (s : State) : (updPay g s).free = s.free := rfl
@[simp] theorem updPay_pending (g : PaySt → PaySt) (s : State) : (updPay g s).pending = s.pending := rfl

end Sys2Proof.Machine
end

