-- ==== Sys2Proof/Laws/Registers.lean ====
section
/-! SUPPORT. Registers and fields: what a field reads after a field has been set, at the level of the register map alone, so that a
proof follows the chain of field writes of a command and nothing else. -/
namespace Sys2Proof.Machine

/-- A field of a register map. -/
def rget (f : Fld) (r : Sparse Word) : Nat := fieldOf f (sparseGet 0 r f.addr)

/-- A register map with a field set. -/
def rput (f : Fld) (v : Nat) (r : Sparse Word) : Sparse Word := sparseSet 0 r f.addr (withField f v (sparseGet 0 r f.addr))

/-- The field lies within its register. -/
def Fld.inWord (f : Fld) : Bool := decide (f.lo + f.width ≤ 32)

theorem get_eq (f : Fld) (s : State) : get f s = rget f s.regs := rfl
theorem put_eq (f : Fld) (v : Nat) (s : State) : put f v s = { s with regs := rput f v s.regs } := rfl
@[simp] theorem put_regs (f : Fld) (v : Nat) (s : State) : (put f v s).regs = rput f v s.regs := rfl

/-- The number that `withField` stores, bit by bit. -/
theorem withField_testBit (f : Fld) (v : Nat) (w : Word) (h : f.inWord = true) (i : Nat) :
    (withField f v w).toNat.testBit i =
      if i < f.lo then w.toNat.testBit i
      else if i < f.lo + f.width then v.testBit (i - f.lo) else w.toNat.testBit i := by
  have hw : f.lo + f.width ≤ 32 := by simpa [Fld.inWord] using h
  have hn : w.toNat < 2 ^ 32 := w.isLt
  have e : w.toNat - fieldOf f w * 2 ^ f.lo + v % 2 ^ f.width * 2 ^ f.lo =
      2 ^ f.lo * (2 ^ f.width * (w.toNat / 2 ^ f.lo / 2 ^ f.width) + v % 2 ^ f.width) + w.toNat % 2 ^ f.lo := by
    have h1 := Nat.div_add_mod w.toNat (2 ^ f.lo)
    have h2 := Nat.div_add_mod (w.toNat / 2 ^ f.lo) (2 ^ f.width)
    have h3 : fieldOf f w = w.toNat / 2 ^ f.lo % 2 ^ f.width := by rw [fieldOf, Nat.shiftRight_eq_div_pow]
    rw [h3]
    generalize w.toNat = n at *
    generalize v % 2 ^ f.width = x at *
    generalize hq : n / 2 ^ f.lo / 2 ^ f.width = q at *
    generalize hm : n / 2 ^ f.lo % 2 ^ f.width = m at *
    rw [← h2] at h1
    have : 2 ^ f.lo * (2 ^ f.width * q + m) = 2 ^ f.lo * (2 ^ f.width * q) + m * 2 ^ f.lo := by ring
    have : 2 ^ f.lo * (2 ^ f.width * q + x) = 2 ^ f.lo * (2 ^ f.width * q) + x * 2 ^ f.lo := by ring
    omega
  have hb (j : Nat) : (2 ^ f.lo * (2 ^ f.width * (w.toNat / 2 ^ f.lo / 2 ^ f.width) + v % 2 ^ f.width) + w.toNat % 2 ^ f.lo).testBit j =
      if j < f.lo then w.toNat.testBit j
      else if j < f.lo + f.width then v.testBit (j - f.lo) else w.toNat.testBit j := by
    rw [Nat.testBit_two_pow_mul_add _ (Nat.mod_lt _ (Nat.two_pow_pos _))]
    split
    · rw [Nat.testBit_mod_two_pow]; simp [*]
    · rw [Nat.testBit_two_pow_mul_add _ (Nat.mod_lt _ (Nat.two_pow_pos _))]
      split
      · rw [if_pos (by omega), Nat.testBit_mod_two_pow]; simp [*]
      · rw [if_neg (by omega), Nat.testBit_div_two_pow, Nat.testBit_div_two_pow]
        congr 1
        omega
  have hlt : 2 ^ f.lo * (2 ^ f.width * (w.toNat / 2 ^ f.lo / 2 ^ f.width) + v % 2 ^ f.width) + w.toNat % 2 ^ f.lo < 2 ^ 32 := by
    refine Nat.lt_pow_two_of_testBit _ fun j hj => ?_
    rw [hb, if_neg (by omega), if_neg (by omega)]
    exact Nat.testBit_lt_two_pow (lt_of_lt_of_le hn (Nat.pow_le_pow_right (by decide) hj))
  rw [withField, e, BitVec.toNat_ofNat, Nat.mod_eq_of_lt hlt, hb]

/-- A field reads what it was set to. -/
theorem fieldOf_withField (f : Fld) (v : Nat) (w : Word) (h : f.inWord = true) : fieldOf f (withField f v w) = v % 2 ^ f.width := by
  refine Nat.eq_of_testBit_eq fun i => ?_
  rw [fieldOf, Nat.testBit_mod_two_pow, Nat.testBit_mod_two_pow, Nat.testBit_shiftRight, withField_testBit f v w h]
  by_cases hi : i < f.width
  · rw [if_neg (by omega), if_pos (by omega)]
    simp
  · simp [hi]

/-- A field of the same word that shares no bit reads as before. -/
theorem fieldOf_withField_apart (f g : Fld) (v : Nat) (w : Word) (h : f.inWord = true)
    (hd : f.lo + f.width ≤ g.lo ∨ g.lo + g.width ≤ f.lo) : fieldOf g (withField f v w) = fieldOf g w := by
  refine Nat.eq_of_testBit_eq fun i => ?_
  rw [fieldOf, fieldOf, Nat.testBit_mod_two_pow, Nat.testBit_mod_two_pow, Nat.testBit_shiftRight, Nat.testBit_shiftRight,
    withField_testBit f v w h]
  by_cases hi : i < g.width
  · split
    · rfl
    · rw [if_neg (by omega)]
  · simp [hi]

/-- A register map with a field set keeps its canonical form. -/
theorem rput_wf (f : Fld) (v : Nat) (r : Sparse Word) (h : sparseWf (0 : Word) r = true) : sparseWf (0 : Word) (rput f v r) = true :=
  sparseSet_wf _ _ _ h

/-- A field reads what it was set to. -/
theorem rget_rput_same (f : Fld) (v : Nat) (r : Sparse Word) (h : sparseWf (0 : Word) r = true) (hf : f.inWord = true) :
    rget f (rput f v r) = v % 2 ^ f.width := by
  rw [rget, rput, sparseGet_set_same r f.addr _ h, fieldOf_withField f v _ hf]

/-- A field apart from the one set reads as before. -/
theorem rget_rput_apart (f g : Fld) (v : Nat) (r : Sparse Word) (h : sparseWf (0 : Word) r = true) (hf : f.inWord = true)
    (hd : f.apart g = true) : rget g (rput f v r) = rget g r := by
  by_cases ha : g.addr = f.addr
  · rw [rget, rput, ha, sparseGet_set_same r f.addr _ h, rget, ha, fieldOf_withField_apart f g v _ hf]
    simpa [Fld.apart, ha, or_comm] using hd
  · rw [rget, rput, sparseGet_set_other r _ ha, rget]

/-- A register that is not the field's reads as before. -/
theorem sparseGet_rput_other (f : Fld) (v : Nat) (r : Sparse Word) {a : Nat} (ha : a ≠ f.addr) :
    sparseGet 0 (rput f v r) a = sparseGet 0 r a := sparseGet_set_other r _ ha

/-- A register map with bit `i` of a cause field set and passed on to `INT_HOST_PEND` (R371). -/
def rraise (f : Fld) (i : Nat) (r : Sparse Word) : Sparse Word :=
  let r1 := rput f (withBit (rget f r) i) r
  if (sparseGet 0 r (enableOf f.addr)).toNat.testBit (f.lo + i) then
    rput F.INT_HOST_PEND_PEND (withBit (rget F.INT_HOST_PEND_PEND r1) (blockOf f.addr)) r1 else r1

theorem raiseAt_eq (f : Fld) (i : Nat) (s : State) : raiseAt f i s = { s with regs := rraise f i s.regs } := by
  unfold raiseAt rraise
  split <;> rename_i h <;> simp only [rd] at h <;> simp only [h] <;> rfl

theorem raise_eq (f : Fld) (s : State) : raise f s = { s with regs := rraise f 0 s.regs } := raiseAt_eq f 0 s

@[simp] theorem raiseAt_regs (f : Fld) (i : Nat) (s : State) : (raiseAt f i s).regs = rraise f i s.regs := by rw [raiseAt_eq]
@[simp] theorem raise_regs (f : Fld) (s : State) : (raise f s).regs = rraise f 0 s.regs := raiseAt_regs f 0 s

/-- A raised cause keeps the canonical form. -/
theorem rraise_wf (f : Fld) (i : Nat) (r : Sparse Word) (h : sparseWf (0 : Word) r = true) :
    sparseWf (0 : Word) (rraise f i r) = true := by
  unfold rraise
  extract_lets r1
  have h1 : sparseWf (0 : Word) r1 = true := rput_wf _ _ _ h
  split
  · exact rput_wf _ _ _ h1
  · exact h1

/-- A field apart from the cause and from `INT_HOST_PEND` reads as before. -/
theorem rget_rraise_apart (f g : Fld) (i : Nat) (r : Sparse Word) (h : sparseWf (0 : Word) r = true) (hf : f.inWord = true)
    (hd : f.apart g = true) (hp : F.INT_HOST_PEND_PEND.apart g = true) : rget g (rraise f i r) = rget g r := by
  unfold rraise
  extract_lets r1
  have h1 : rget g r1 = rget g r := rget_rput_apart f g _ r h hf hd
  split
  · rw [rget_rput_apart _ _ _ _ (rput_wf _ _ _ h) (by decide) hp, h1]
  · exact h1

/-- The cause field reads with its bit set. -/
theorem rget_rraise_same (f : Fld) (i : Nat) (r : Sparse Word) (h : sparseWf (0 : Word) r = true) (hf : f.inWord = true)
    (hp : F.INT_HOST_PEND_PEND.apart f = true) : rget f (rraise f i r) = withBit (rget f r) i % 2 ^ f.width := by
  unfold rraise
  extract_lets r1
  have h1 : rget f r1 = withBit (rget f r) i % 2 ^ f.width := rget_rput_same f _ r h hf
  split
  · rw [rget_rput_apart _ _ _ _ (rput_wf _ _ _ h) (by decide) hp, h1]
  · exact h1

/-- A field's value fits its width. -/
theorem rget_lt (f : Fld) (r : Sparse Word) : rget f r < 2 ^ f.width := Nat.mod_lt _ (Nat.two_pow_pos _)

/-- A one-bit cause that has been raised reads 1. -/
theorem rget_rraise_one (f : Fld) (r : Sparse Word) (h : sparseWf (0 : Word) r = true) (hf : f.inWord = true)
    (hp : F.INT_HOST_PEND_PEND.apart f = true) (h1 : f.width = 1) : rget f (rraise f 0 r) = 1 := by
  have hl := rget_lt f r
  rw [rget_rraise_same f 0 r h hf hp, h1]
  rw [h1] at hl
  interval_cases rget f r <;> rfl

/-- A raised bit of a cause field reads 1. -/
theorem testBit_rraise (f : Fld) (i : Nat) (r : Sparse Word) (h : sparseWf (0 : Word) r = true) (hf : f.inWord = true)
    (hp : F.INT_HOST_PEND_PEND.apart f = true) (hi : i < f.width) : (rget f (rraise f i r)).testBit i = true := by
  rw [rget_rraise_same f i r h hf hp, Nat.testBit_mod_two_pow]
  simp [withBit, hi, Nat.testBit_or, Nat.testBit_shiftLeft]

/-- An enabled cause that has been raised shows in `INT_HOST_PEND` (R371). -/
theorem pend_rraise (f : Fld) (i : Nat) (r : Sparse Word) (h : sparseWf (0 : Word) r = true)
    (hb : blockOf f.addr < 28) (he : (sparseGet 0 r (enableOf f.addr)).toNat.testBit (f.lo + i) = true) :
    (rget F.INT_HOST_PEND_PEND (rraise f i r)).testBit (blockOf f.addr) = true := by
  unfold rraise
  extract_lets r1
  rw [if_pos he, rget_rput_same _ _ _ (rput_wf _ _ _ h) (by decide), Nat.testBit_mod_two_pow]
  simp [withBit, hb, Nat.testBit_or, Nat.testBit_shiftLeft]

end Sys2Proof.Machine
end

