-- ==== Sys2Proof/Laws/Frames.lean ====
section
/-! SUPPORT. How a command's frame is followed from one field write to the next: `Chain L u t` says that `t` is `u` with only
fields of `L` changed and its registers in canonical form. -/
namespace Sys2Proof.Machine

/-- `OnlyFlds` together with the canonical form of the registers, which the next link needs. -/
structure Chain (L : List Fld) (u t : State) : Prop where
  only : OnlyFlds L u t
  wf : sparseWf (0 : Word) t.regs = true

variable {L : List Fld} {u t : State}

theorem Chain.start (h : sparseWf (0 : Word) u.regs = true) : Chain L u u := ⟨⟨rfl, fun _ _ => rfl⟩, h⟩

/-- One field set. -/
theorem Chain.put {f : Fld} {v : Nat} (h : Chain L u t) (hf : f ∈ L) (hw : f.inWord = true) : Chain L u (put f v t) where
  only := by
    refine ⟨?_, fun g hg => ?_⟩
    · have e := h.only.1
      rw [put_eq]
      conv_lhs => rw [e]
    · rw [get_eq, put_regs, rget_rput_apart f g v _ h.wf hw (hg f hf)]
      exact h.only.2 g hg
  wf := rput_wf _ _ _ h.wf

/-- One cause raised. -/
theorem Chain.raiseAt {f : Fld} {i : Nat} (h : Chain L u t) (hf : f ∈ L) (hp : F.INT_HOST_PEND_PEND ∈ L) (hw : f.inWord = true) :
    Chain L u (raiseAt f i t) where
  only := by
    refine ⟨?_, fun g hg => ?_⟩
    · have e := h.only.1
      rw [raiseAt_eq]
      conv_lhs => rw [e]
    · rw [get_eq, raiseAt_regs, rget_rraise_apart f g i _ h.wf hw (hg f hf) (hg _ hp)]
      exact h.only.2 g hg
  wf := by rw [raiseAt_regs]; exact rraise_wf _ _ _ h.wf

theorem Chain.raise {f : Fld} (h : Chain L u t) (hf : f ∈ L) (hp : F.INT_HOST_PEND_PEND ∈ L) (hw : f.inWord = true) :
    Chain L u (raise f t) := h.raiseAt hf hp hw

theorem Chain.raiseIf {f : Fld} {c : Bool} (h : Chain L u t) (hf : f ∈ L) (hp : F.INT_HOST_PEND_PEND ∈ L) (hw : f.inWord = true) :
    Chain L u (raiseIf c f t) := by
  unfold Machine.raiseIf
  split
  · exact h.raise hf hp hw
  · exact h

theorem Chain.putBit {f : Fld} {i : Nat} {b : Bool} (h : Chain L u t) (hf : f ∈ L) (hw : f.inWord = true) :
    Chain L u (putBit f i b t) := h.put hf hw

theorem Chain.ite {c : Prop} [Decidable c] {x y : State} (h : Chain L u x) (g : Chain L u y) : Chain L u (if c then x else y) := by
  split <;> assumption

/-- A cause that has just been raised. -/
theorem raised_raise {f : Fld} {s : State} (h : sparseWf (0 : Word) t.regs = true) (hw : f.inWord = true)
    (hp : F.INT_HOST_PEND_PEND.apart f = true) (h1 : 0 < f.width) (hb : blockOf f.addr < 28)
    (he : rd s (enableOf f.addr) = rd t (enableOf f.addr)) : Raised f s (raise f t) := by
  refine ⟨?_, fun e => ?_⟩
  · rw [fbit, get_eq, raise_regs]
    exact testBit_rraise f 0 _ h hw hp h1
  · rw [fbit, get_eq, raise_regs]
    refine pend_rraise f 0 _ h hb ?_
    rw [he] at e
    exact e

end Sys2Proof.Machine
end

