-- ==== Sys2Proof/Laws/KeptMessages.lean ====
section
/-! SUPPORT. `Kept` for every operation of Machine/Messages.lean: what each of them leaves as it is (the canonical form of the state,
the queue, the identity OTP), cited in place of unfolding it. -/
namespace Sys2Proof.Machine

theorem execStatusTimer_kept {s0 : State} {s : State} (hs : Kept s0 s) :
    KeptOut s0 (execStatusTimer s) := by
  unfold execStatusTimer
  refine onlyIf_kept ?_ ?_
  · intro q1 q2
    extract_lets y1
    clear_value y1
    refine sendPeer_kept ?_
    refine updFab_kept ?_
    assumption
  · assumption

theorem execHandoverTimeout_kept {s0 : State} {s : State} (hs : Kept s0 s) :
    KeptOut s0 (execHandoverTimeout s) := by
  unfold execHandoverTimeout
  extract_lets y1
  refine onlyIf_kept ?_ ?_
  · intro q1 q2
    refine Kept.foldl ?_ ?_
    · intro q3 q4 q5
      refine refuseMessage_kept ?_
      assumption
    · refine updFab_kept ?_
      assumption
  · assumption

theorem toInbox_kept {s0 : State} {m : Message} {s : State} (hs : Kept s0 s) :
    Kept s0 (toInbox m s) := by
  unfold toInbox
  refine Kept.ite ?_ ?_
  · refine raise_kept ?_
    refine put_kept ?_
    refine updHif_kept ?_
    assumption
  · refine raise_kept ?_
    assumption

theorem onMessage_kept {s0 : State} {k : ℕ} {eff : Message → State → State} {s : State} (heff : ∀ x0 x1, Kept s0 x1 → Kept s0 (eff x0 x1)) (hs : Kept s0 s) :
    KeptOut s0 (onMessage k eff s) := by
  unfold onMessage
  split
  · refine KeptOut.next ?_
    assumption
  · refine onlyIf_kept ?_ ?_
    · intro q1 q2
      extract_lets y1
      have hy1 : Kept s0 y1 := by
        unfold y1
        refine updFab_kept ?_
        assumption
      clear_value y1
      refine Kept.ite ?_ ?_
      · refine toInbox_kept ?_
        assumption
      · refine heff _ _ ?_
        assumption
    · assumption

theorem execTokenMsg_kept {s0 : State} {s : State} (hs : Kept s0 s) :
    KeptOut s0 (execTokenMsg s) := by
  unfold execTokenMsg
  refine onMessage_kept ?_ ?_
  · intro q1 q2 q3
    refine queueToken_kept ?_
    assumption
  · assumption

theorem execKeyRes_kept {s0 : State} {s : State} (hs : Kept s0 s) :
    KeptOut s0 (execKeyRes s) := by
  unfold execKeyRes
  refine onMessage_kept ?_ ?_
  · intro q1 q2 q3
    refine toInbox_kept ?_
    assumption
  · assumption

theorem execCreditMsg_kept {s0 : State} {s : State} (hs : Kept s0 s) :
    KeptOut s0 (execCreditMsg s) := by
  unfold execCreditMsg
  refine onMessage_kept ?_ ?_
  · intro q1 q2 q3
    refine queueToken_kept ?_
    assumption
  · assumption

theorem execSessionRsp_kept {s0 : State} {s : State} (hs : Kept s0 s) :
    KeptOut s0 (execSessionRsp s) := by
  unfold execSessionRsp
  refine onMessage_kept ?_ ?_
  · intro q1 q2 q3
    refine toInbox_kept ?_
    assumption
  · assumption

theorem execTimeMsg_kept {s0 : State} {s : State} (hs : Kept s0 s) :
    KeptOut s0 (execTimeMsg s) := by
  unfold execTimeMsg
  refine onMessage_kept ?_ ?_
  · intro q1 q2 q3
    split
    · refine Kept.ite ?_ ?_
      · assumption
      · extract_lets y1 y2
        have hy1 : Kept s0 y1.2 := by
          unfold y1
          refine fresh_kept ?_
          assumption
        clear_value y1
        clear_value y2
        refine Kept.ite ?_ ?_
        · refine raise_kept ?_
          assumption
        · refine adjWrite_kept ?_
          refine put_kept ?_
          assumption
    · assumption
  · assumption

theorem execCreditRes_kept {s0 : State} {s : State} (hs : Kept s0 s) :
    KeptOut s0 (execCreditRes s) := by
  unfold execCreditRes
  refine onMessage_kept ?_ ?_
  · intro q1 q2 q3
    refine toInbox_kept ?_
    assumption
  · assumption

theorem execAlarmMsg_kept {s0 : State} {s : State} (hs : Kept s0 s) :
    KeptOut s0 (execAlarmMsg s) := by
  unfold execAlarmMsg
  refine onMessage_kept ?_ ?_
  · intro q1 q2 q3
    refine toInbox_kept ?_
    assumption
  · assumption

theorem execStatusMessage_kept {s0 : State} {s : State} (hs : Kept s0 s) :
    KeptOut s0 (execStatusMessage s) := by
  unfold execStatusMessage
  refine onMessage_kept ?_ ?_
  · intro q1 q2 q3
    refine updFab_kept ?_
    assumption
  · assumption

end Sys2Proof.Machine
end

