-- ==== Sys2Proof/Laws/KeptObjects.lean ====
section
/-! SUPPORT. `Kept` for every operation of Machine/Objects.lean: what each of them leaves as it is (the canonical form of the state,
the queue, the identity OTP), cited in place of unfolding it. -/
namespace Sys2Proof.Machine

theorem setPasswords_kept {s0 : State} {bank : ℕ} {rp : ℕ} {wp : ℕ} {s : State} (hs : Kept s0 s) :
    Kept s0 (setPasswords bank rp wp s).2 := by
  unfold setPasswords
  refine Kept.iteSnd ?_ ?_
  · refine Kept.mkSnd ?_
    assumption
  · extract_lets y1 y2 y3 y4 y5
    clear_value y1
    clear_value y2
    clear_value y3
    clear_value y4
    have hy5 : Kept s0 y5 := by
      unfold y5
      exact hs.upd rfl rfl rfl rfl rfl rfl rfl rfl rfl
    clear_value y5
    refine Kept.mkSnd ?_
    refine dirty_kept ?_
    assumption

theorem raiseReading_kept {s0 : State} {s : State} (hs : Kept s0 s) :
    Kept s0 (raiseReading s) := by
  unfold raiseReading
  extract_lets y1 y2 y3
  have hy1 : Kept s0 y1 := by
    unfold y1
    refine counterAdd_kept ?_
    assumption
  clear_value y1
  clear_value y2
  have hy3 : Kept s0 y3 := by
    unfold y3
    refine showObj_kept ?_
    refine put_kept ?_
    assumption
  clear_value y3
  refine Kept.ite ?_ ?_
  · refine deviceStore_kept ?_
    assumption
  · assumption

theorem touchSession_kept {s0 : State} {i : ℕ} {f : SessSt → SessSt} {s : State} (hs : Kept s0 s) :
    Kept s0 (touchSession i f s) := by
  unfold touchSession
  refine put_kept ?_
  refine updObj_kept ?_
  assumption

theorem inSession_kept {s0 : State} {i : ℕ} {r : ObjReq} {eff : State → State} {s : State} (heff : ∀ x0, Kept s0 x0 → Kept s0 (eff x0)) (hs : Kept s0 s) :
    Kept s0 (inSession i r eff s) := by
  unfold inSession
  refine Kept.ite ?_ ?_
  · refine heff _ ?_
    assumption
  · refine Kept.ite ?_ ?_
    · refine answerObject_kept ?_
      assumption
    · refine Kept.ite ?_ ?_
      · refine heff _ ?_
        refine touchSession_kept ?_
        assumption
      · refine closeSession_kept ?_
        refine answerObject_kept ?_
        assumption

theorem onRequest_kept {s0 : State} {i : ℕ} {op : ℕ} {eff : ObjReq → State → State} {s : State} (heff : ∀ x0 x1, Kept s0 x1 → Kept s0 (eff x0 x1)) (hs : Kept s0 s) :
    KeptOut s0 (onRequest i op eff s) := by
  unfold onRequest
  split
  · refine KeptOut.next ?_
    assumption
  · refine onlyIf_kept ?_ ?_
    · intro q1 q2
      refine inSession_kept ?_ ?_
      · intro q3 q4
        refine heff _ _ ?_
        assumption
      · assumption
    · assumption

theorem denyObject_kept {s0 : State} {i : ℕ} {s : State} (hs : Kept s0 s) :
    Kept s0 (denyObject i s) := by
  unfold denyObject
  refine answerObject_kept ?_
  refine raise_kept ?_
  assumption

theorem methodWrite_kept {s0 s : State} {a : Nat} {w : Word} {wd : World} (hs : Kept s0 s) :
    Kept s0 (methodWrite a w wd s).2 := by
  have h (x : Word) : Kept s0 (writeReg (writerOf a) a x wd (put F.OBJ_CAUSE_LEGAL_LOG_FULL 0 s)).2 :=
    writeReg_kept (put_kept hs)
  unfold methodWrite
  refine Kept.iteSnd (updCtl_kept hs) ?_
  exact Kept.mkSnd (Kept.ite (put_kept (h _)) (h _))

theorem runMethod_kept {s0 : State} {i : ℕ} {d : ℕ} {data : List Byte} {m : Method} {wd : World} {s : State} (hs : Kept s0 s) :
    Kept s0 (runMethod i d data m wd s).2 := by
  unfold runMethod
  split
  · refine Kept.iteSnd ?_ ?_
    · refine Kept.mkSnd ?_
      assumption
    · refine Kept.iteSnd ?_ ?_
      · refine Kept.mkSnd ?_
        refine put_kept ?_
        assumption
      · refine Kept.mkSnd ?_
        refine adjWrite_kept ?_
        assumption
  · refine Kept.iteSnd ?_ ?_
    · extract_lets y1
      have hy1 : Kept s0 y1.2 := by
        unfold y1
        refine methodWrite_kept ?_
        assumption
      clear_value y1
      refine Kept.mkSnd ?_
      assumption
    · refine Kept.mkSnd ?_
      assumption
  · refine Kept.iteSnd ?_ ?_
    · refine Kept.mkSnd ?_
      refine queueToken_kept ?_
      assumption
    · refine Kept.mkSnd ?_
      assumption
  · refine Kept.iteSnd ?_ ?_
    · refine Kept.mkSnd ?_
      refine queueToken_kept ?_
      assumption
    · refine Kept.mkSnd ?_
      assumption
  · refine Kept.iteSnd ?_ ?_
    · extract_lets y1
      have hy1 : Kept s0 y1.2 := by
        unfold y1
        refine setPasswords_kept ?_
        assumption
      clear_value y1
      refine Kept.mkSnd ?_
      assumption
    · refine Kept.mkSnd ?_
      assumption
  · refine Kept.iteSnd ?_ ?_
    · refine Kept.mkSnd ?_
      assumption
    · refine Kept.iteSnd ?_ ?_
      · refine Kept.mkSnd ?_
        assumption
      · extract_lets y1
        have hy1 : Kept s0 y1.2 := by
          unfold y1
          refine updChunk_kept ?_
          assumption
        clear_value y1
        refine Kept.mkSnd ?_
        assumption
  · refine Kept.iteSnd ?_ ?_
    · refine Kept.mkSnd ?_
      refine keyUpdate_kept ?_
      assumption
    · refine Kept.mkSnd ?_
      assumption

theorem callEffect_kept {s0 : State} {exec : Bool} {wd : World} {i : ℕ} {r : ObjReq} {s : State} (hs : Kept s0 s) :
    Kept s0 (callEffect exec wd i r s) := by
  unfold callEffect
  split
  · refine answerObject_kept ?_
    assumption
  · refine Kept.ite ?_ ?_
    · refine denyObject_kept ?_
      assumption
    · split
      · split
        · refine answerObject_kept ?_
          assumption
        · extract_lets y1
          have hy1 : Kept s0 y1.2 := by
            unfold y1
            refine runMethod_kept ?_
            assumption
          clear_value y1
          split
          · refine answerObject_kept ?_
            assumption
          · assumption
      · refine answerObject_kept ?_
        assumption

theorem execObjAction_kept {s0 : State} {i : ℕ} {wd : World} {s : State} (hs : Kept s0 s) :
    KeptOut s0 (execObjAction i wd s) := by
  unfold execObjAction
  refine onRequest_kept ?_ ?_
  · intro q1 q2 q3
    refine callEffect_kept ?_
    assumption
  · assumption

theorem readValue_kept {s0 : State} {b : Binding} {attr : ℕ} {data : List Byte} {e : Option ObjEntry} {s : State} (hs : Kept s0 s) :
    Kept s0 (readValue b attr data e s).2 := by
  unfold readValue
  refine Kept.iteSnd ?_ ?_
  · refine Kept.mkSnd ?_
    assumption
  · refine Kept.iteSnd ?_ ?_
    · extract_lets y1
      clear_value y1
      refine Kept.mkSnd ?_
      assumption
    · refine Kept.iteSnd ?_ ?_
      · extract_lets y1
        have hy1 : Kept s0 y1.2 := by
          unfold y1
          refine fresh_kept ?_
          assumption
        clear_value y1
        refine Kept.mkSnd ?_
        assumption
      · refine Kept.iteSnd ?_ ?_
        · split
          · refine Kept.mkSnd ?_
            assumption
          · refine Kept.mkSnd ?_
            assumption
          · refine Kept.mkSnd ?_
            assumption
        · refine Kept.mkSnd ?_
          assumption

theorem roleKey_kept {s0 : State} {role : ℕ} {s : State} (hs : Kept s0 s) :
    Kept s0 (roleKey role s).2 := by
  unfold roleKey
  extract_lets y1
  have hy1 : Kept s0 y1.2 := by
    unfold y1
    refine loadNamed_kept ?_
    assumption
  clear_value y1
  split
  · refine Kept.iteSnd ?_ ?_
    · assumption
    · refine Kept.mkSnd ?_
      assumption
  · assumption

theorem openSession_kept {s0 : State} {i : ℕ} {role : ℕ} {key : List Byte} {s : State} (hs : Kept s0 s) :
    Kept s0 (openSession i role key s) := by
  unfold openSession
  extract_lets y1 y2
  have hy1 : Kept s0 y1 := by
    unfold y1
    refine touchSession_kept ?_
    assumption
  clear_value y1
  have hy2 : Kept s0 y2 := by
    unfold y2
    refine putBit_kept ?_
    refine put_kept ?_
    assumption
  clear_value y2
  refine raise_kept ?_
  refine Kept.ite ?_ ?_
  · refine put_kept ?_
    assumption
  · assumption

theorem closeLegal_kept {s0 : State} {s : State} (hs : Kept s0 s) :
    Kept s0 (closeLegal s) := by
  unfold closeLegal
  refine Kept.foldl ?_ ?_
  · intro q1 q2 q3
    refine Kept.ite ?_ ?_
    · refine closeSession_kept ?_
      assumption
    · assumption
  · assumption

theorem submitObject_kept {s0 : State} {i : ℕ} {r : ObjReq} {s : State} (hs : Kept s0 s) :
    Kept s0 (submitObject i r s) := by
  unfold submitObject
  extract_lets y1
  have hy1 : Kept s0 y1 := by
    unfold y1
    refine updObj_kept ?_
    assumption
  clear_value y1
  refine Kept.ite ?_ ?_
  · assumption
  · refine answerObject_kept ?_
    assumption

theorem execSessionReq_kept {s0 : State} {s : State} (hs : Kept s0 s) :
    KeptOut s0 (execSessionReq s) := by
  unfold execSessionReq
  refine onMessage_kept ?_ ?_
  · intro q1 q2 q3
    split
    · refine respond_kept ?_
      assumption
    · refine submitObject_kept ?_
      assumption
  · assumption

theorem calEvent_kept {s0 : State} {rose : Bool} {reverted : Bool} {s : State} (hs : Kept s0 s) :
    Kept s0 (calEvent rose reverted s) := by
  unfold calEvent
  refine legalEvent_kept ?_
  assumption

theorem execCalEnRise_kept {s0 : State} {s : State} (hs : Kept s0 s) :
    KeptOut s0 (execCalEnRise s) := by
  unfold execCalEnRise
  refine onlyIf_kept ?_ ?_
  · intro q1 q2
    refine raise_kept ?_
    refine calEvent_kept ?_
    refine put_kept ?_
    assumption
  · assumption

theorem holdReading_kept {s0 : State} {i : ℕ} {s : State} (hs : Kept s0 s) :
    Kept s0 (holdReading i s) := by
  unfold holdReading
  refine answerObject_kept ?_
  refine raise_kept ?_
  assumption

theorem signedReading_kept {s0 : State} {i : ℕ} {obis : List ℕ} {v : ℕ × List Byte} {s : State} (hs : Kept s0 s) :
    Kept s0 (signedReading i obis v s) := by
  unfold signedReading
  refine Kept.ite ?_ ?_
  · assumption
  · extract_lets y1 y2
    have hy1 : Kept s0 y1.2 := by
      unfold y1
      refine loadNamed_kept ?_
      assumption
    clear_value y1
    have hy2 : Kept s0 y2 := by
      unfold y2
      refine raiseReading_kept ?_
      assumption
    clear_value y2
    split
    · refine Kept.ite ?_ ?_
      · refine holdReading_kept ?_
        assumption
      · refine updObj_kept ?_
        assumption
    · refine Kept.ite ?_ ?_
      · refine holdReading_kept ?_
        assumption
      · refine answerObject_kept ?_
        refine raise_kept ?_
        refine raiseReading_kept ?_
        assumption
    · refine answerObject_kept ?_
      assumption

theorem taggedReading_kept {s0 : State} {i : ℕ} {obis : List ℕ} {attr : ℕ} {v : ℕ × List Byte} {s : State} (hs : Kept s0 s) :
    Kept s0 (taggedReading i obis attr v s) := by
  unfold taggedReading
  extract_lets y1 y2 y3 y4 y5
  have hy1 : Kept s0 y1.2 := by
    unfold y1
    refine loadNamed_kept ?_
    assumption
  clear_value y1
  have hy2 : Kept s0 y2 := by
    unfold y2
    refine put_kept ?_
    assumption
  clear_value y2
  have hy3 : Kept s0 y3 := by
    unfold y3
    refine raiseReading_kept ?_
    assumption
  clear_value y3
  clear_value y4
  have hy5 : Kept s0 y5 := by
    unfold y5
    refine put_kept ?_
    assumption
  clear_value y5
  split
  · refine Kept.ite ?_ ?_
    · refine holdReading_kept ?_
      assumption
    · refine answerObject_kept ?_
      assumption
  · refine Kept.ite ?_ ?_
    · refine holdReading_kept ?_
      assumption
    · refine answerObject_kept ?_
      refine raise_kept ?_
      refine raiseReading_kept ?_
      assumption
  · refine answerObject_kept ?_
    assumption

theorem getEffect_kept {s0 : State} {i : ℕ} {r : ObjReq} {s : State} (hs : Kept s0 s) :
    Kept s0 (getEffect i r s) := by
  unfold getEffect
  split
  · refine answerObject_kept ?_
    assumption
  · refine Kept.ite ?_ ?_
    · refine denyObject_kept ?_
      assumption
    · refine Kept.ite ?_ ?_
      · refine answerObject_kept ?_
        assumption
      · extract_lets y1
        have hy1 : Kept s0 y1.2 := by
          unfold y1
          refine readValue_kept ?_
          assumption
        clear_value y1
        split
        · refine answerObject_kept ?_
          assumption
        · refine Kept.ite ?_ ?_
          · refine signedReading_kept ?_
            assumption
          · refine taggedReading_kept ?_
            assumption

theorem execObjSet_kept {s0 : State} {i : ℕ} {wd : World} {s : State} (hs : Kept s0 s) :
    KeptOut s0 (execObjSet i wd s) := by
  unfold execObjSet
  refine onRequest_kept ?_ ?_
  · intro q1 q2 q3
    refine callEffect_kept ?_
    assumption
  · assumption

theorem execSessionIdleTimeout_kept {s0 : State} {i : ℕ} {s : State} (hs : Kept s0 s) :
    KeptOut s0 (execSessionIdleTimeout i s) := by
  unfold execSessionIdleTimeout
  refine onlyIf_kept ?_ ?_
  · intro q1 q2
    refine closeSession_kept ?_
    assumption
  · assumption

theorem execSignDone_kept {s0 : State} {s : State} (hs : Kept s0 s) :
    KeptOut s0 (execSignDone s) := by
  unfold execSignDone
  split
  · refine KeptOut.next ?_
    assumption
  · refine onlyIf_kept ?_ ?_
    · intro q1 q2
      extract_lets y1
      have hy1 : Kept s0 y1 := by
        unfold y1
        refine showWell_kept ?_
        refine releaseSlots_kept ?_
        refine updObj_kept ?_
        assumption
      clear_value y1
      refine answerObject_kept ?_
      refine raise_kept ?_
      assumption
    · assumption

theorem challenge_kept {s0 : State} {i : ℕ} {role : ℕ} {nonce : List Byte} {s : State} (hs : Kept s0 s) :
    Kept s0 (challenge i role nonce s) := by
  unfold challenge
  extract_lets y1 y2 y3 y4 y5
  have hy1 : Kept s0 y1 := by
    unfold y1
    refine closeSession_kept ?_
    assumption
  clear_value y1
  have hy2 : Kept s0 y2.2 := by
    unfold y2
    refine drbg_kept ?_
    assumption
  clear_value y2
  clear_value y3
  have hy4 : Kept s0 y4 := by
    unfold y4
    refine put_kept ?_
    refine put_kept ?_
    assumption
  clear_value y4
  have hy5 : Kept s0 y5 := by
    unfold y5
    refine updObj_kept ?_
    assumption
  clear_value y5
  refine answerObject_kept ?_
  assumption

theorem openEffect_kept {s0 : State} {i : ℕ} {r : ObjReq} {s : State} (hs : Kept s0 s) :
    Kept s0 (openEffect i r s) := by
  unfold openEffect
  extract_lets y1 y2
  clear_value y1
  have hy2 : Kept s0 y2.2 := by
    unfold y2
    refine roleKey_kept ?_
    assumption
  clear_value y2
  refine Kept.ite ?_ ?_
  · refine answerObject_kept ?_
    assumption
  · refine Kept.ite ?_ ?_
    · refine answerObject_kept ?_
      assumption
    · refine Kept.ite ?_ ?_
      · refine answerObject_kept ?_
        assumption
      · refine Kept.ite ?_ ?_
        · refine answerObject_kept ?_
          refine raise_kept ?_
          assumption
        · refine Kept.ite ?_ ?_
          · refine answerObject_kept ?_
            assumption
          · split
            · refine challenge_kept ?_
              assumption
            · refine answerObject_kept ?_
              assumption

theorem execSessionOpen_kept {s0 : State} {i : ℕ} {s : State} (hs : Kept s0 s) :
    KeptOut s0 (execSessionOpen i s) := by
  unfold execSessionOpen
  refine onRequest_kept ?_ ?_
  · intro q1 q2 q3
    refine openEffect_kept ?_
    assumption
  · assumption

theorem failSession_kept {s0 : State} {i : ℕ} {s : State} (hs : Kept s0 s) :
    Kept s0 (failSession i s) := by
  unfold failSession
  extract_lets y1
  clear_value y1
  refine occurrence_kept ?_
  refine raise_kept ?_
  refine closeSession_kept ?_
  assumption

theorem proofEffect_kept {s0 : State} {i : ℕ} {r : ObjReq} {s : State} (hs : Kept s0 s) :
    Kept s0 (proofEffect i r s) := by
  unfold proofEffect
  extract_lets y1 y2 y3
  clear_value y1
  clear_value y2
  have hy3 : Kept s0 y3.2 := by
    unfold y3
    refine roleKey_kept ?_
    assumption
  clear_value y3
  refine Kept.ite ?_ ?_
  · refine answerObject_kept ?_
    assumption
  · refine Kept.ite ?_ ?_
    · refine answerObject_kept ?_
      assumption
    · split
      · refine Kept.ite ?_ ?_
        · refine answerObject_kept ?_
          refine openSession_kept ?_
          assumption
        · refine failSession_kept ?_
          refine answerObject_kept ?_
          assumption
      · refine closeSession_kept ?_
        refine answerObject_kept ?_
        assumption

theorem execSessionProof_kept {s0 : State} {i : ℕ} {s : State} (hs : Kept s0 s) :
    KeptOut s0 (execSessionProof i s) := by
  unfold execSessionProof
  refine onRequest_kept ?_ ?_
  · intro q1 q2 q3
    refine proofEffect_kept ?_
    assumption
  · assumption

theorem execProofTimeout_kept {s0 : State} {i : ℕ} {s : State} (hs : Kept s0 s) :
    KeptOut s0 (execProofTimeout i s) := by
  unfold execProofTimeout
  refine onlyIf_kept ?_ ?_
  · intro q1 q2
    refine failSession_kept ?_
    assumption
  · assumption

theorem execSessionClose_kept {s0 : State} {i : ℕ} {s : State} (hs : Kept s0 s) :
    KeptOut s0 (execSessionClose i s) := by
  unfold execSessionClose
  refine onRequest_kept ?_ ?_
  · intro q1 q2 q3
    refine Kept.ite ?_ ?_
    · refine answerObject_kept ?_
      assumption
    · refine Kept.ite ?_ ?_
      · refine closeSession_kept ?_
        refine answerObject_kept ?_
        assumption
      · refine answerObject_kept ?_
        assumption
  · assumption

theorem execObjGet_kept {s0 : State} {i : ℕ} {s : State} (hs : Kept s0 s) :
    KeptOut s0 (execObjGet i s) := by
  unfold execObjGet
  refine onRequest_kept ?_ ?_
  · intro q1 q2 q3
    refine getEffect_kept ?_
    assumption
  · assumption

theorem unstage_kept {s0 : State} {n : ℕ} {s : State} (hs : Kept s0 s) :
    Kept s0 (unstage n s) := by
  unfold unstage
  extract_lets y1
  clear_value y1
  refine put_kept ?_
  refine put_kept ?_
  refine put_kept ?_
  assumption

theorem execCalEnFall_kept {s0 : State} {s : State} (hs : Kept s0 s) :
    KeptOut s0 (execCalEnFall s) := by
  unfold execCalEnFall
  refine onlyIf_kept ?_ ?_
  · intro q1 q2
    extract_lets y1 y2 y3
    clear_value y1
    have hy2 : Kept s0 y2 := by
      unfold y2
      refine Kept.foldl ?_ ?_
      · intro q3 q4 q5
        refine unstage_kept ?_
        assumption
      · assumption
    clear_value y2
    have hy3 : Kept s0 y3 := by
      unfold y3
      refine Kept.ite ?_ ?_
      · refine put_kept ?_
        assumption
      · assumption
    clear_value y3
    refine closeLegal_kept ?_
    refine raise_kept ?_
    refine calEvent_kept ?_
    refine put_kept ?_
    assumption
  · assumption

end Sys2Proof.Machine
end

