-- ==== Sys2Proof/Laws/KeptHost.lean ====
section
/-! SUPPORT. `Kept` for every operation of Machine/Host.lean: what each of them leaves as it is (the canonical form of the state,
the queue, the identity OTP), cited in place of unfolding it. -/
namespace Sys2Proof.Machine

theorem setOptical_kept {s0 : State} {o : Optical} {s : State} (hs : Kept s0 s) :
    Kept s0 (setOptical o s) := by
  unfold setOptical
  refine put_kept ?_
  refine updHif_kept ?_
  assumption

theorem execProgrammingMode_kept {s0 : State} {s : State} (hs : Kept s0 s) :
    KeptOut s0 (execProgrammingMode s) := by
  unfold execProgrammingMode
  refine onlyIf_kept ?_ ?_
  · intro q1 q2
    refine setOptical_kept ?_
    assumption
  · assumption

theorem noResponse_kept {s0 : State} {i : ℕ} {s : State} (hs : Kept s0 s) :
    Kept s0 (noResponse i s) := by
  unfold noResponse
  refine setSlot_kept ?_
  assumption

theorem denyHost_kept {s0 : State} {i : ℕ} {s : State} (hs : Kept s0 s) :
    Kept s0 (denyHost i s) := by
  unfold denyHost
  refine setResponse_kept ?_
  refine raise_kept ?_
  assumption

theorem writeCistern_kept {s0 : State} {i : ℕ} {a : ℕ} {bs : List Byte} {s : State} (hs : Kept s0 s) :
    Kept s0 (writeCistern i a bs s) := by
  unfold writeCistern
  extract_lets y1
  clear_value y1
  refine Kept.ite ?_ ?_
  · refine setResponse_kept ?_
    refine busFault_kept ?_
    assumption
  · refine Kept.ite ?_ ?_
    · refine noResponse_kept ?_
      assumption
    · refine Kept.ite ?_ ?_
      · refine setResponse_kept ?_
        assumption
      · refine Kept.ite ?_ ?_
        · refine denyHost_kept ?_
          refine busFault_kept ?_
          assumption
        · refine setResponse_kept ?_
          refine sramWrite_kept ?_
          refine touchGrant_kept ?_
          assumption

theorem hostWake_kept {s0 : State} {bad : ℕ} {s : State} (hs : Kept s0 s) :
    Kept s0 (hostWake bad s) := by
  unfold hostWake
  refine wakeBy_kept ?_
  refine raise_kept ?_
  assumption

theorem execHwakeN_kept {s0 : State} {bad : ℕ} {s : State} (hs : Kept s0 s) :
    KeptOut s0 (execHwakeN bad s) := by
  unfold execHwakeN
  refine onlyIf_kept ?_ ?_
  · intro q1 q2
    refine Kept.ite ?_ ?_
    · refine hostWake_kept ?_
      assumption
    · refine raise_kept ?_
      assumption
  · assumption

theorem fabSend_kept {s0 : State} {i : ℕ} {a : ℕ} {bs : List Byte} {s : State} (hs : Kept s0 s) :
    Kept s0 (fabSend i a bs s) := by
  unfold fabSend
  refine Kept.ite ?_ ?_
  · refine denyHost_kept ?_
    assumption
  · refine Kept.ite ?_ ?_
    · refine setResponse_kept ?_
      assumption
    · refine Kept.ite ?_ ?_
      · refine denyHost_kept ?_
        assumption
      · split
        · refine setResponse_kept ?_
          assumption
        · refine Kept.ite ?_ ?_
          · refine setResponse_kept ?_
            assumption
          · extract_lets y1
            have hy1 : Kept s0 y1.2 := by
              unfold y1
              refine handToE10_kept ?_
              assumption
            clear_value y1
            refine setResponse_kept ?_
            assumption

theorem readCistern_kept {s0 : State} {i : ℕ} {a : ℕ} {n : ℕ} {ecc : ℕ} {s : State} (hs : Kept s0 s) :
    Kept s0 (readCistern i a n ecc s) := by
  unfold readCistern
  extract_lets y1 y2 y3 y4
  clear_value y1
  have hy2 : Kept s0 y2 := by
    unfold y2
    refine recallTo_kept ?_
    assumption
  clear_value y2
  have hy3 : Kept s0 y3 := by
    unfold y3
    refine Kept.foldl ?_ ?_
    · intro q1 q2 q3
      refine touchGrant_kept ?_
      assumption
    · assumption
  clear_value y3
  have hy4 : Kept s0 y4 := by
    unfold y4
    refine eccCistern_kept ?_
    assumption
  clear_value y4
  refine Kept.ite ?_ ?_
  · refine setResponse_kept ?_
    refine busFault_kept ?_
    assumption
  · refine Kept.ite ?_ ?_
    · refine noResponse_kept ?_
      assumption
    · refine Kept.ite ?_ ?_
      · refine setResponse_kept ?_
        assumption
      · refine Kept.ite ?_ ?_
        · refine denyHost_kept ?_
          refine busFault_kept ?_
          assumption
        · refine Kept.ite ?_ ?_
          · refine setResponse_kept ?_
            assumption
          · refine setResponse_kept ?_
            assumption

theorem deliverResponse_kept {s0 : State} {i : ℕ} {s : State} (hs : Kept s0 s) :
    Kept s0 (deliverResponse i s) := by
  unfold deliverResponse
  split
  · refine Kept.ite ?_ ?_
    · refine setSlot_kept ?_
      refine updHif_kept ?_
      assumption
    · refine raiseAt_kept ?_
      refine setSlot_kept ?_
      assumption
  · assumption

theorem request_kept {s0 : State} {i : ℕ} {cmd : ℕ} {eff : State → State} {s : State} (heff : ∀ x0, Kept s0 x0 → Kept s0 (eff x0)) (hs : Kept s0 s) :
    KeptOut s0 (request i cmd eff s) := by
  unfold request
  refine onlyIf_kept ?_ ?_
  · intro q1 q2
    split
    · extract_lets y1 y2
      clear_value y1
      have hy2 : Kept s0 y2 := by
        unfold y2
        refine updHif_kept ?_
        assumption
      clear_value y2
      refine heff _ ?_
      refine setSlot_kept ?_
      assumption
    · refine raise_kept ?_
      assumption
  · assumption

theorem sendBytes_kept {s0 : State} {i : ℕ} {b : Option (List Byte)} {s : State} (hs : Kept s0 s) :
    Kept s0 (sendBytes i b s) := by
  unfold sendBytes
  refine updHif_kept ?_
  assumption

theorem fetchSlot_kept {s0 : State} {i : ℕ} {s : State} (hs : Kept s0 s) :
    Kept s0 (fetchSlot i s) := by
  unfold fetchSlot
  split
  · refine sendBytes_kept ?_
    assumption
  · refine sendBytes_kept ?_
    assumption
  · refine putBit_kept ?_
    refine setSlot_kept ?_
    refine sendBytes_kept ?_
    assumption

theorem execHostFetch_kept {s0 : State} {i : ℕ} {s : State} (hs : Kept s0 s) :
    KeptOut s0 (execHostFetch i s) := by
  unfold execHostFetch
  refine KeptOut.ite ?_ ?_
  · refine request_kept ?_ ?_
    · intro q1 q2
      refine setResponse_kept ?_
      assumption
    · assumption
  · refine onlyIf_kept ?_ ?_
    · intro q1 q2
      refine fetchSlot_kept ?_
      assumption
    · assumption

theorem execHostWake_kept {s0 : State} {i : ℕ} {bad : ℕ} {s : State} (hs : Kept s0 s) :
    KeptOut s0 (execHostWake i bad s) := by
  unfold execHostWake
  refine request_kept ?_ ?_
  · intro q1 q2
    refine Kept.ite ?_ ?_
    · refine denyHost_kept ?_
      refine Kept.ite ?_ ?_
      · assumption
      · refine raise_kept ?_
        assumption
    · refine hostWake_kept ?_
      refine setResponse_kept ?_
      assumption
  · assumption

theorem readWords_kept {s0 s : State} {m : Master} {a n : Nat} (hs : Kept s0 s) : Kept s0 (readWords m a n s).2 := by
  induction n generalizing a s with
  | zero => exact hs
  | succ n ih =>
    rw [readWords]
    exact ih (readReg_kept hs)

theorem readRegs_kept {s0 : State} {i : ℕ} {a : ℕ} {n : ℕ} {s : State} (hs : Kept s0 s) :
    Kept s0 (readRegs i a n s) := by
  unfold readRegs
  split
  · refine setResponse_kept ?_
    refine readReg_kept ?_
    assumption
  · extract_lets y1
    have hy1 : Kept s0 y1.2 := by
      unfold y1
      refine readWords_kept ?_
      assumption
    clear_value y1
    refine setResponse_kept ?_
    assumption

theorem readMem_kept {s0 : State} {i : ℕ} {a : ℕ} {n : ℕ} {d : ℕ} {ecc : ℕ} {s : State} (hs : Kept s0 s) :
    Kept s0 (readMem i a n d ecc s) := by
  unfold readMem
  refine Kept.ite ?_ ?_
  · refine setResponse_kept ?_
    refine busFault_kept ?_
    assumption
  · refine Kept.ite ?_ ?_
    · refine setResponse_kept ?_
      refine eccTouch_kept ?_
      assumption
    · refine setResponse_kept ?_
      refine eccTouch_kept ?_
      assumption

theorem denyRange_kept {s0 : State} {i : ℕ} {a : ℕ} {isWrite : Bool} {s : State} (hs : Kept s0 s) :
    Kept s0 (denyRange i a isWrite s) := by
  unfold denyRange
  split
  · refine denyHost_kept ?_
    refine Kept.ite ?_ ?_
    · assumption
    · refine busFault_kept ?_
      assumption
  · refine denyHost_kept ?_
    refine busFault_kept ?_
    assumption

theorem readRange_kept {s0 : State} {i : ℕ} {a : ℕ} {n : ℕ} {ecc : ℕ} {s : State} (hs : Kept s0 s) :
    Kept s0 (readRange i a n ecc s) := by
  unfold readRange
  refine Kept.ite ?_ ?_
  · refine Kept.ite ?_ ?_
    · refine readRegs_kept ?_
      assumption
    · refine denyHost_kept ?_
      assumption
  · refine Kept.ite ?_ ?_
    · refine readRegs_kept ?_
      assumption
    · refine Kept.ite ?_ ?_
      · refine readMem_kept ?_
        assumption
      · refine Kept.ite ?_ ?_
        · refine readMem_kept ?_
          assumption
        · refine Kept.ite ?_ ?_
          · refine readCistern_kept ?_
            assumption
          · refine denyRange_kept ?_
            assumption

theorem execHostRead_kept {s0 : State} {i : ℕ} {a : ℕ} {n : ℕ} {ecc : ℕ} {s : State} (hs : Kept s0 s) :
    KeptOut s0 (execHostRead i a n ecc s) := by
  unfold execHostRead
  refine request_kept ?_ ?_
  · intro q1 q2
    refine Kept.ite ?_ ?_
    · refine readRange_kept ?_
      assumption
    · refine setResponse_kept ?_
      assumption
  · assumption

theorem writeWords_kept {s0 s : State} {m : Master} {wd : World} {a n : Nat} {bs : List Byte} (hs : Kept s0 s) :
    Kept s0 (writeWords m wd a n bs s).2 := by
  induction n generalizing a bs s with
  | zero => exact hs
  | succ n ih =>
    rw [writeWords]
    exact ih (writeReg_kept hs)

theorem writeRegs_kept {s0 : State} {i : ℕ} {a : ℕ} {bs : List Byte} {wd : World} {s : State} (hs : Kept s0 s) :
    Kept s0 (writeRegs i a bs wd s) := by
  unfold writeRegs
  split
  · refine setResponse_kept ?_
    refine busFault_kept ?_
    assumption
  · extract_lets y1
    have hy1 : Kept s0 y1.2 := by
      unfold y1
      refine writeWords_kept ?_
      assumption
    clear_value y1
    refine setResponse_kept ?_
    assumption

theorem execDataReadout_kept {s0 : State} {s : State} (hs : Kept s0 s) :
    KeptOut s0 (execDataReadout s) := by
  unfold execDataReadout
  refine onlyIf_kept ?_ ?_
  · intro q1 q2
    refine setOptical_kept ?_
    refine Kept.ite ?_ ?_
    · refine sendBytes_kept ?_
      assumption
    · assumption
  · assumption

theorem execHostStatus_kept {s0 : State} {i : ℕ} {s : State} (hs : Kept s0 s) :
    KeptOut s0 (execHostStatus i s) := by
  unfold execHostStatus
  refine request_kept ?_ ?_
  · intro q1 q2
    refine deliverResponse_kept ?_
    refine setResponse_kept ?_
    assumption
  · assumption

theorem writeRange_kept {s0 : State} {i : ℕ} {a : ℕ} {bs : List Byte} {wd : World} {s : State} (hs : Kept s0 s) :
    Kept s0 (writeRange i a bs wd s) := by
  unfold writeRange
  extract_lets y1
  clear_value y1
  refine Kept.ite ?_ ?_
  · refine Kept.ite ?_ ?_
    · refine writeRegs_kept ?_
      assumption
    · refine denyHost_kept ?_
      assumption
  · refine Kept.ite ?_ ?_
    · refine writeRegs_kept ?_
      assumption
    · refine Kept.ite ?_ ?_
      · refine Kept.ite ?_ ?_
        · refine setResponse_kept ?_
          refine wrBytes_kept ?_
          assumption
        · refine setResponse_kept ?_
          refine busFault_kept ?_
          assumption
      · refine Kept.ite ?_ ?_
        · refine writeCistern_kept ?_
          assumption
        · refine denyRange_kept ?_
          assumption

theorem execHostWrite_kept {s0 : State} {i : ℕ} {a : ℕ} {bs : List Byte} {wd : World} {s : State} (hs : Kept s0 s) :
    KeptOut s0 (execHostWrite i a bs wd s) := by
  unfold execHostWrite
  refine request_kept ?_ ?_
  · intro q1 q2
    refine Kept.ite ?_ ?_
    · refine writeRange_kept ?_
      assumption
    · refine setResponse_kept ?_
      assumption
  · assumption

theorem execHostObject_kept {s0 : State} {i : ℕ} {bs : List Byte} {s : State} (hs : Kept s0 s) :
    KeptOut s0 (execHostObject i bs s) := by
  unfold execHostObject
  refine request_kept ?_ ?_
  · intro q1 q2
    refine Kept.ite ?_ ?_
    · refine setResponse_kept ?_
      assumption
    · refine Kept.ite ?_ ?_
      · refine denyHost_kept ?_
        assumption
      · refine Kept.ite ?_ ?_
        · refine setResponse_kept ?_
          assumption
        · refine Kept.ite ?_ ?_
          · refine setResponse_kept ?_
            refine closeSession_kept ?_
            assumption
          · refine submitObject_kept ?_
            assumption
  · assumption

theorem execFabSend_kept {s0 : State} {i : ℕ} {a : ℕ} {bs : List Byte} {s : State} (hs : Kept s0 s) :
    KeptOut s0 (execFabSend i a bs s) := by
  unfold execFabSend
  refine request_kept ?_ ?_
  · intro q1 q2
    refine Kept.ite ?_ ?_
    · refine setResponse_kept ?_
      assumption
    · refine fabSend_kept ?_
      assumption
  · assumption

theorem execFabRecv_kept {s0 : State} {i : ℕ} {s : State} (hs : Kept s0 s) :
    KeptOut s0 (execFabRecv i s) := by
  unfold execFabRecv
  refine request_kept ?_ ?_
  · intro q1 q2
    refine Kept.ite ?_ ?_
    · refine denyHost_kept ?_
      assumption
    · refine Kept.ite ?_ ?_
      · refine setResponse_kept ?_
        assumption
      · refine Kept.ite ?_ ?_
        · refine denyHost_kept ?_
          assumption
        · split
          · refine setResponse_kept ?_
            assumption
          · extract_lets y1
            have hy1 : Kept s0 y1 := by
              unfold y1
              refine put_kept ?_
              refine updHif_kept ?_
              assumption
            clear_value y1
            refine setResponse_kept ?_
            refine Kept.ite ?_ ?_
            · refine put_kept ?_
              assumption
            · assumption
  · assumption

theorem execUnknownCommand_kept {s0 : State} {i : ℕ} {bs : List Byte} {s : State} (hs : Kept s0 s) :
    KeptOut s0 (execUnknownCommand i bs s) := by
  unfold execUnknownCommand
  split
  · refine KeptOut.next ?_
    assumption
  · refine request_kept ?_ ?_
    · intro q1 q2
      refine setResponse_kept ?_
      refine raiseIf_kept ?_
      assumption
    · assumption

theorem execResponseReady_kept {s0 : State} {i : ℕ} {s : State} (hs : Kept s0 s) :
    KeptOut s0 (execResponseReady i s) := by
  unfold execResponseReady
  refine onlyIf_kept ?_ ?_
  · intro q1 q2
    refine deliverResponse_kept ?_
    assumption
  · assumption

theorem execResponseDiscard_kept {s0 : State} {i : ℕ} {s : State} (hs : Kept s0 s) :
    KeptOut s0 (execResponseDiscard i s) := by
  unfold execResponseDiscard
  split
  · refine onlyIf_kept ?_ ?_
    · intro q1 q2
      refine putBit_kept ?_
      refine setSlot_kept ?_
      assumption
    · assumption
  · refine KeptOut.next ?_
    assumption

theorem execUartGapTimeout_kept {s0 : State} {_i : ℕ} {s : State} (hs : Kept s0 s) :
    KeptOut s0 (execUartGapTimeout _i s) := by
  unfold execUartGapTimeout
  refine done_kept ?_
  assumption

theorem execSignOn_kept {s0 : State} {msg : List Byte} {s : State} (hs : Kept s0 s) :
    KeptOut s0 (execSignOn msg s) := by
  unfold execSignOn
  refine onlyIf_kept ?_ ?_
  · intro q1 q2
    refine Kept.ite ?_ ?_
    · refine setOptical_kept ?_
      assumption
    · refine Kept.ite ?_ ?_
      · refine raise_kept ?_
        refine sendBytes_kept ?_
        refine setOptical_kept ?_
        assumption
      · assumption
  · assumption

theorem execFrameMode_kept {s0 : State} {s : State} (hs : Kept s0 s) :
    KeptOut s0 (execFrameMode s) := by
  unfold execFrameMode
  refine onlyIf_kept ?_ ?_
  · intro q1 q2
    refine setOptical_kept ?_
    assumption
  · assumption

theorem execOpticalTimeout_kept {s0 : State} {s : State} (hs : Kept s0 s) :
    KeptOut s0 (execOpticalTimeout s) := by
  unfold execOpticalTimeout
  extract_lets y1
  clear_value y1
  refine onlyIf_kept ?_ ?_
  · intro q1 q2
    refine setOptical_kept ?_
    assumption
  · assumption

end Sys2Proof.Machine
end

