-- ==== Sys2Proof/Laws/KeptTick.lean ====
section
/-! SUPPORT. `Kept` for every operation of Machine/Tick.lean: what each of them leaves as it is (the canonical form of the state,
the queue, the identity OTP), cited in place of unfolding it. -/
namespace Sys2Proof.Machine

theorem trialSecond_kept {s0 : State} {s : State} (hs : Kept s0 s) :
    Kept s0 (trialSecond s) := by
  unfold trialSecond
  refine Kept.ite ?_ ?_
  · refine writeUpd_kept ?_
    assumption
  · assumption

theorem metroSecond_kept {s0 : State} {s : State} (hs : Kept s0 s) :
    Kept s0 (metroSecond s) := by
  unfold metroSecond
  extract_lets y1 y2 y3 y4 y5
  clear_value y1
  have hy2 : Kept s0 y2 := by
    unfold y2
    exact hs.upd rfl rfl rfl rfl rfl rfl rfl rfl rfl
  clear_value y2
  clear_value y3
  have hy4 : Kept s0 y4 := by
    unfold y4
    refine Kept.ite ?_ ?_
    · exact hy2.upd rfl rfl rfl rfl rfl rfl rfl rfl rfl
    · assumption
  clear_value y4
  clear_value y5
  refine Kept.ite ?_ ?_
  · exact hy4.upd rfl rfl rfl rfl rfl rfl rfl rfl rfl
  · assumption

theorem idleLeft_kept {s0 : State} {s : State} (hs : Kept s0 s) :
    Kept s0 (idleLeft s) := by
  unfold idleLeft
  refine Kept.foldl ?_ ?_
  · intro q1 q2 q3
    refine Kept.ite ?_ ?_
    · refine put_kept ?_
      assumption
    · assumption
  · assumption

theorem coreTwoTick_kept {s0 : State} {s : State} (hs : Kept s0 s) :
    Kept s0 (coreTwoTick s) := by
  unfold coreTwoTick
  extract_lets y1
  have hy1 : Kept s0 y1 := by
    unfold y1
    refine evalReasons_kept ?_
    refine evalCredit_kept ?_
    refine stageTariff_kept ?_
    refine keepRate_kept ?_
    assumption
  clear_value y1
  refine settleFabRec_kept ?_
  refine idleLeft_kept ?_
  refine trialSecond_kept ?_
  refine showSlew_kept ?_
  refine showCredit_kept ?_
  refine writeCredit_kept ?_
  assumption

theorem countSecond_kept {s0 : State} {s : State} (hs : Kept s0 s) :
    Kept s0 (countSecond s) := by
  unfold countSecond
  extract_lets y1
  clear_value y1
  refine showWindows_kept ?_
  refine put_kept ?_
  refine updSup_kept ?_
  assumption

theorem missTick_kept {s0 : State} {s : State} (hs : Kept s0 s) :
    Kept s0 (missTick s) := by
  unfold missTick
  refine updBil_kept ?_
  assumption

theorem coreOneTick_kept {s0 : State} {s : State} (hs : Kept s0 s) :
    Kept s0 (coreOneTick s) := by
  unfold coreOneTick
  extract_lets y1
  have hy1 : Kept s0 y1.2 := by
    unfold y1
    refine stageClock_kept ?_
    refine catchUp_kept ?_
    assumption
  clear_value y1
  refine workTick_kept ?_
  assumption

theorem execRtcSecond_kept {s0 : State} {s : State} (hs : Kept s0 s) :
    KeptOut s0 (execRtcSecond s) := by
  unfold execRtcSecond
  extract_lets y1 y2 y3
  have hy1 : Kept s0 y1 := by
    unfold y1
    refine countSecond_kept ?_
    assumption
  clear_value y1
  have hy2 : Kept s0 y2 := by
    unfold y2
    refine metroSecond_kept ?_
    refine slewSecond_kept ?_
    assumption
  clear_value y2
  have hy3 : Kept s0 y3 := by
    unfold y3
    refine Kept.ite ?_ ?_
    · refine coreOneTick_kept ?_
      assumption
    · refine missTick_kept ?_
      assumption
  clear_value y3
  refine KeptOut.next ?_
  refine Kept.ite ?_ ?_
  · assumption
  · refine Kept.ite ?_ ?_
    · refine missTick_kept ?_
      assumption
    · refine Kept.ite ?_ ?_
      · refine coreTwoTick_kept ?_
        assumption
      · assumption

end Sys2Proof.Machine
end

