-- ==== Sys2Proof/WellFormed.lean ====
section
/-! DEFINITION. The operands each command may carry. The meanings are total: a command that is not well formed has no effect, or the
effect its rule gives a wrong operand. -/
namespace Sys2Proof

/-- A master of the bus (R17): engines E0 to E10, the four UARTs. -/
def masterOk : Master → Bool
  | .engine n => decide (n ≤ 10)
  | .uart u => decide (u < 4)
  | .spi | .i2c | .debugPort => true

/-- A 32-bit core (R282). -/
def coreOk (c : Nat) : Bool := c == 1 || c == 2

/-- A host interface (R355). -/
def hostOk (i : Nat) : Bool := decide (i < 6)

/-- A session interface (R230). -/
def sessionIface (i : Nat) : Bool := decide (i < 7)

/-- A mask of the four retention banks (R289). -/
def banksOk (n : Nat) : Bool := decide (n < 16)

/-- A wake source before abort point 2, 3 or 4 (R286, R288). -/
def wakeOk : Option (Nat × Nat) → Bool
  | none => true
  | some (ap, src) => decide (2 ≤ ap) && decide (ap ≤ 4) && decide (src < 6)

/-- Whoever waits for an answer is a session interface, a fabric node or nobody. -/
def replyOk : Reply → Bool
  | .object i => sessionIface i
  | .message _ _ | .nobody => true

/-- The operands of a command are in range. -/
def Instr.wellFormed : Instr → Bool
  | .startUp _ => true
  | .sectionRetry sect _ => decide (sect < 16)
  | .imageVerify _ => true
  | .tamperEvaluation => true
  | .guardRelease => true
  | .reread m _ _ => masterOk m
  | .rereadPassOneDone _ => true
  | .coherentSample codes => codes.length == 10 && codes.all fun c => c.all (· < 8)
  | .halfCycleBoundary => true
  | .cycleEnd => true
  | .frameBoundary => true
  | .profileStage m _ => masterOk m
  | .e7Ready => true
  | .reliefTime => true
  | .relieveNow m _ => masterOk m
  | .spliceWindowClose => true
  | .sliceOffsetDone _ => true
  | .sliceCalibration _ _ => true
  | .overloadMonitor slice => decide (slice < 10)
  | .tapCfgWrite m _ => masterOk m
  | .tapSample codes _ => codes.all (· < 8)
  | .tapDataRead m => masterOk m
  | .sarResult n _ => decide (n < 14)
  | .tempEvaluation => true
  | .tempDisagree => true
  | .calCommit m _ => masterOk m
  | .calWindowStart m _ => masterOk m
  | .calWindowEnd _ => true
  | .chainStop m _ => masterOk m
  | .chainRestart m _ => masterOk m
  | .refSwitch => true
  | .refReturn => true
  | .winTrip comp frac => decide (comp < 16) && decide (frac < 256)
  | .winRelease comp => decide (comp < 16)
  | .winCfgWrite m addr _ => masterOk m && decide (addr < 2 ^ 32)
  | .imbalance => true
  | .reverseEnergy phase => decide (phase < 3)
  | .vddMonitorTrip => true
  | .resetNLow _ => true
  | .freezeRestart _ => true
  | .vddBelow2v3 => true
  | .d0BrownOut => true
  | .vbatLow => true
  | .pulseEdge k => decide (k < 4)
  | .pulseEnd k => decide (k < 4)
  | .spectrumPublish => true
  | .aggregateClose => true
  | .shBlock ws => ws.all (· < 65536)
  | .evtPop m _ => masterOk m
  | .captureArm m _ => masterOk m
  | .captureForce m _ => masterOk m
  | .captureAbort m _ => masterOk m
  | .captureDone => true
  | .captureSlotFree m _ => masterOk m
  | .capCfgWrite m _ => masterOk m
  | .rtcSecond => true
  | .closeRequest m _ => masterOk m
  | .adjRequest m _ src osrc => masterOk m && decide (1 ≤ src) && decide (src ≤ 2) && decide (osrc < 2 ^ 16)
  | .tickCatchUp => true
  | .ecRequest m _ => masterOk m
  | .tokenSubmit m _ => masterOk m
  | .tokenDecodeDone => true
  | .keySectionsExpire => true
  | .remoteCredit _ source reply => decide (source ≤ 2) && replyOk reply
  | .mplTrip => true
  | .mplRelease => true
  | .remoteOpen m _ => masterOk m
  | .remoteClose m _ => masterOk m
  | .lcShed m _ => masterOk m
  | .lcRestore m _ => masterOk m
  | .mainPulseStart => true
  | .mainPulseEnd => true
  | .mainVerify _ => true
  | .mainRetry => true
  | .loadv _ => true
  | .openI _ => true
  | .freezeRelease => true
  | .lcSwitch => true
  | .periodicStoreTick => true
  | .storeCommand m _ => masterOk m
  | .storeCommit b => decide (b < 16)
  | .recall ecc => ecc.all fun e => decide (e.1 < 16) && decide (e.2.1 < 8192) && decide (e.2.2 ≤ 2)
  | .recallDone => true
  | .tieReport m _ => masterOk m
  | .passwordUnlock m _ => masterOk m
  | .passwordLock m _ => masterOk m
  | .grantLapse => true
  | .sessionOpen i => sessionIface i
  | .sessionProof i => sessionIface i
  | .proofTimeout i => sessionIface i
  | .sessionClose i => sessionIface i
  | .objGet i => sessionIface i
  | .objSet i _ => sessionIface i
  | .objAction i _ => sessionIface i
  | .sessionIdleTimeout i => sessionIface i
  | .signDone => true
  | .calEnRise => true
  | .calEnFall => true
  | .updBegin m _ => masterOk m
  | .eraseDone => true
  | .updVerify m _ => masterOk m
  | .verifyDone => true
  | .updActivate m _ => masterOk m
  | .slotSwitch => true
  | .trialConfirm => true
  | .updAbort m _ => masterOk m
  | .copyLegal m _ _ => masterOk m
  | .keyInstall => true
  | .keyStage => true
  | .keyGenerate => true
  | .destroyParent => true
  | .revokeChild => true
  | .reseat => true
  | .keyUpdateCommit => true
  | .attestationRequest p c nonce reply => decide (p < 16) && decide (c < 256) && nonce.length == 16 && replyOk reply
  | .certificateRequest reply => replyOk reply
  | .remask => true
  | .otpBurn m _ => masterOk m
  | .otpLock m _ => masterOk m
  | .otpKill m _ => masterOk m
  | .cryptoJob job => decide (job.caller ≤ 10)
  | .cryptoJobDone => true
  | .trngSeed raw => raw.length == 1024
  | .drbgReseed => true
  | .tamperTrip x frac detail => decide (x < 13) && decide (frac < 256) && decide (detail < 2 ^ 32)
  | .tamperRelease x => decide (x < 13)
  | .outageCoverSample _ _ => true
  | .quietClear => true
  | .tamperClear m _ => masterOk m
  | .faultRecordMinute => true
  | .watchdogExpiry e _ => decide (e ≤ 10)
  | .engineRestartDone e => decide (1 ≤ e) && decide (e ≤ 10)
  | .coreWait core => coreOk core
  | .coreDozeWake core => coreOk core
  | .napRequest m _ => masterOk m
  | .shipRequest m _ => masterOk m
  | .entryAbort m _ => masterOk m
  | .ownerConsent wake => wakeOk wake
  | .ownerDelayLimit => true
  | .rtcAlarm bad => banksOk bad
  | .napMax bad => banksOk bad
  | .opChange m _ => masterOk m
  | .opDone => true
  | .xtal32Fail => true
  | .xtal32Back => true
  | .mpllUnlock => true
  | .spllUnlock => true
  | .txFrame _ => true
  | .txDone => true
  | .lbtAccess => true
  | .lbtTimeout => true
  | .drvFault => true
  | .rxFrameDrop => true
  | .zeroCrossing => true
  | .soundingStart m _ => masterOk m
  | .soundingBaseline m _ => masterOk m
  | .soundingPeriod => true
  | .soundingMediumWon => true
  | .soundingDone _ => true
  | .soundingTimeout => true
  | .addrClaim => true
  | .claimTimeout => true
  | .claimRx _ _ => true
  | .conflictRx _ _ => true
  | .dataRx _ _ => true
  | .ackRx _ _ => true
  | .ackTimeout => true
  | .routeAdvertisement _ _ => true
  | .advertisementTimer => true
  | .routeExpiry => true
  | .routeRequest _ _ => true
  | .routeReply _ _ => true
  | .routeTimeout => true
  | .neighbourLost => true
  | .contentionSlot slot _ => decide (slot < 28)
  | .reassemblyTimeout => true
  | .sessionReq => true
  | .sessionRsp => true
  | .creditMsg => true
  | .creditRes => true
  | .keyUpdate _ reply => replyOk reply
  | .keyRes => true
  | .timeMsg => true
  | .alarmMsg => true
  | .tokenMsg => true
  | .statusMessage => true
  | .statusTimer => true
  | .handoverTimeout => true
  | .announceReq m _ => masterOk m
  | .headSet m _ => masterOk m
  | .headClr m _ => masterOk m
  | .announcement _ _ => true
  | .planActivation => true
  | .rescueBeacon _ _ => true
  | .rescueBeaconTimer => true
  | .rescueListen => true
  | .candidateRx _ _ => true
  | .electionEnd => true
  | .superframe => true
  | .beaconRx _ _ => true
  | .joinRx _ _ => true
  | .assignRx _ _ => true
  | .coordinatedModeEnd => true
  | .panelOn m _ => masterOk m
  | .pumpInRegulation => true
  | .panelLight m _ => masterOk m
  | .panelOff m _ => masterOk m
  | .panelGlow m _ => masterOk m
  | .panelFrameEnd => true
  | .pumpFault k => decide (k < 4)
  | .blinkPhase sub => decide (sub < 1024)
  | .panelRamWrite m k _ => masterOk m && decide (k < 512)
  | .keypadScan keys => decide (keys < 2 ^ 20)
  | .keyPress code => decide (code < 20)
  | .keyRelease code => decide (code < 20)
  | .keypadWake bad => banksOk bad
  | .kpdEventRead m => masterOk m
  | .hostFetch i => hostOk i
  | .hostRead i _ _ ecc => hostOk i && decide (ecc ≤ 2)
  | .hostWrite i _ _ _ => hostOk i
  | .hostObject i _ => hostOk i
  | .fabSend i _ _ => hostOk i
  | .fabRecv i => hostOk i
  | .hostWake i bad => hostOk i && banksOk bad
  | .hostStatus i => hostOk i
  | .unknownCommand i frame => hostOk i && decide (frame.length ≤ 4105)
  | .responseReady i => hostOk i
  | .responseDiscard i => hostOk i
  | .uartGapTimeout i => decide (2 ≤ i) && hostOk i
  | .hwakeN bad => banksOk bad
  | .signOn _ => true
  | .dataReadout => true
  | .programmingMode => true
  | .frameMode => true
  | .opticalTimeout => true
  | .claimGo m _ => masterOk m
  | .claimRelease m _ => masterOk m
  | .timerStart m n _ => masterOk m && decide (n < 8)
  | .timerStop m n _ => masterOk m && decide (n < 8)
  | .timerMatch n cnt => decide (n < 8) && decide (cnt < 2 ^ 32)
  | .timerCapture n _ => decide (n < 8)
  | .frameNumRead m => masterOk m
  | .accLoRead m k => masterOk m && decide (k < 40)
  | .bilRegLoRead m => masterOk m
  | .payCreditLoRead m => masterOk m
  | .welCtrLoRead m => masterOk m
  | .objReadCtrRead m => masterOk m
  | .rtcSecRead m => masterOk m
  | .tsFrameRead m l => masterOk m && decide (l < 64)
  | .busFaultRead m => masterOk m
  | .busFaultInfoRead m => masterOk m
  | .readToClear m a _ ecc => masterOk m && decide (a < 2 ^ 32) && decide (ecc ≤ 2)
  | .registerWrite m a _ _ _ => masterOk m && decide (a < 2 ^ 32)
  | .mpllLock => true
  | .spllLock => true
  | .standbyCalibration => true
  | .soundingRepeat => true
  | .coordinatedStartUp => true
  | .preambleDetected _ => true
  | .blankingRatio xs => xs.all fun x => decide (-8192 ≤ x) && decide (x ≤ 8191)
  | .legalCopyDone _ => true
  | .lcPulseEnd => true
  | .debugStart _ => true

end Sys2Proof
end

