-- ==== Sys2Proof/Tests/Slice0.lean ====
section
/-! SUPPORT. Tests: an ill-formed command for each check, worked examples of the spec, and for each statement states and operands that
meet its hypotheses. -/
namespace Sys2Proof.Machine

/-! States and operands the tests use. -/

/-- A state whose registers hold the given field values, everything else empty. -/
def st (l : List (Fld × Nat)) : State := l.foldl (fun s e => put e.1 e.2 s) {}

/-- A word with the given field values. -/
def wd (l : List (Fld × Nat)) : Word := l.foldl (fun w e => withField e.1 e.2 w) 0

/-- The legal identity of that image with an empty legal partition (R41). -/
def witLegalId : Nat := Config.sha256 (legalBody {} ++ [])

/-- A small image before it is signed: the five required sections, nothing claimed. -/
def witImage0 : Image := ⟨0x54424C49, 0x0100, 0, 0x160, 1, 5, 0, 0, witLegalId, 0x1000,
  [⟨1, 0, 0x90, 4, 0x2144DF1C, [0,0,0,0], true, []⟩, ⟨2, 0, 0x94, 4, 0x2144DF1C, [0,0,0,0], true, []⟩, ⟨3, 0, 0x98, 0, 0, [], true, [(R.CNV_CHAN_CFG 0, 32), (R.CNV_CHAN_CFG 1, 32), (R.CNV_CHAN_CFG 2, 32), (R.CNV_CHAN_CFG 3, 40), (R.CNV_CHAN_CFG 4, 40), (R.CNV_CHAN_CFG 5, 40), (R.CNV_CHAN_CFG 6, 40), (R.CNV_CHAN_CFG 7, 40)]⟩,
   ⟨0x0B, 0, 0x98, 0, 0, [], true, []⟩, ⟨0x0C, 0, 0x98, 0, 0, [], true, []⟩], 0, {}⟩

/-- That image, signed by the key of slot 0. -/
def witImage : Image := { witImage0 with sig := Config.ecdsaGood 7 (imageDigest witImage0) }

/-- A loading device that holds that key. -/
def witImageState : State :=
  { st [(F.PMU_DOM_STATUS_ON, 0x7FF)] with
    ld := { conf := 1, source := 1 }
    cis := { recalled := true }
    sup := { mode := .loading }
    well := { otp := [some 7, none, none, none] } }

/-- A running device with one key in its slots, named for every purpose. -/
def keyed (dest usage ktype role : Nat) : State :=
  { st [(F.PMU_DOM_STATUS_ON, 0x7FF), (F.PMU_VMON_VDD_OK, 1)] with
    sup := { mode := .running }
    well := { slots := [⟨1, 2, dest, usage, ktype, role, 0, 0, 0, 77⟩], d0 := some {} }
    ld := {
      conf := 3
      guard := false
      tables := { obj := {
        roleKeys := List.replicate 5 (some (1, 2))
        readKey := some (1, 2)
        signKey := some (1, 2)
        verifyKey := some (1, 2)
        remoteKey := some (1, 2)
        objects := [⟨[1, 0, 1, 8, 0, 255], .bill 0, 0, 30, true, 1, 0, 0⟩] } } } }

/-- The bytes of an object request (R232). -/
def reqBytes (op flags sel : Nat) (obis : List Nat) (data : List Byte) : List Byte :=
  le 1 op ++ le 1 flags ++ le 4 1 ++ obis.flatMap (le 1) ++ le 1 sel ++ le 1 0 ++ le 2 data.length ++ data

/-- An object request waits on interface `i`. -/
def withReq (i : Nat) (b : List Byte) (s : State) : State := { s with obj := { s.obj with req := upd s.obj.req i fun _ => some { bytes := b } } }

/-- The header of an empty firmware package (R240). -/
def witHead : List Byte := le 4 0x55504B47 ++ [1, 0, 0, 0] ++ le 4 7 ++ le 4 0 ++ zeros 48

/-- Its HSIG. -/
def witHsig : List Byte := be 64 (Config.ecdsaGood Config.firmwareKey (Config.sha256 ((witHead.drop 4).take 0x2C ++ [])))

/-- The public key of the update verifier. -/
def witVerifier : Nat := slotPublic ⟨1, 2, 0x10, 0x20, 4, 0, 0, 0, 0, 77⟩

/-- The package, signed by the update verifier. -/
def witPackage : List Byte := witHead ++ witHsig ++ be 64 (Config.ecdsaGood witVerifier (Config.sha256 (witHead ++ witHsig)))

/-- The image in the configuration memory at a COPY_LEGAL. -/
def witLegalImage : Image := witImage

/-- A device about to copy a legal partition. -/
def witLegalState : State :=
  { st [(F.PMU_DOM_STATUS_ON, 0x7FF), (F.OBJ_STATUS_LEGAL_SESSION, 1), (F.OBJ_STATUS_CAL_EN, 1), (F.UPD_STATUS_STATE, 4)] with
    obj := { updLegal := true, slotA := zeros 16 ++ be 32 witLegalId }
    well := { otp := [some 7, none, none, none] } }

/-- The signed part of a key update message that destroys a parent (R254). -/
def witKeyBody : List Byte := le 2 0x4B55 ++ le 2 240 ++ [4, 0, 1, 0] ++ be 16 Config.uid ++ le 8 1 ++ zeros 144

/-- The message with its signature. -/
def witKeyMsg : List Byte := witKeyBody ++ be 64 (Config.ecdsaGood 5 (Config.sha256 witKeyBody))

/-- A fabric node with address 7, its link keys and one neighbour, 5. -/
def fabW (l : List (Fld × Nat)) : State :=
  { st ([(F.PMU_DOM_STATUS_ON, 0x7FF), (F.PMU_VMON_VDD_OK, 1), (F.LMD_STATUS_STATE, 1), (F.LMD_CFG_BAND_A, 1),
      (F.FAB_STATUS_MODE, 1), (F.FAB_ADDR_VALID, 1), (F.FAB_ADDR_SHORT, 7), (F.FAB_CFG_NWK_ID, 3)] ++ l) with
    sup := { mode := .running, mono := 40960 }
    well := { slots := [⟨1, 2, 4, 3, 1, 0, 0, 0, 0, 77⟩, ⟨1, 3, 4, 12, 1, 0, 0, 0, 0, 78⟩], d0 := some {} }
    ld := { conf := 3, guard := false, tables := { fabric := some { pairs := [((1, 2), (1, 3))] } } }
    fab := { nbrs := [⟨.short 5, 1, 0, 600, 0, false⟩] } }

/-- A frame sealed with the link key of neighbour 5. -/
def sealed (f : FabFrame) : FabFrame := sealFrame 78 f

/-- A frame of neighbour 5 with the given body. -/
def fabF (b : FabBody) : FabFrame := { nwk := 3, lsrc := .short 5, osrc := .short 5, run := 1, fcnt := 1, left := 1, body := b }

/-- A device whose SPI, UART_0 and optical port pads are claimed. -/
def hifW (l : List (Fld × Nat)) : State :=
  { st ([(F.PMU_DOM_STATUS_ON, 0x7FF), (F.PMU_VMON_VDD_OK, 1), (F.PIN_PAD_FUNC 0, 2), (F.PIN_PAD_FUNC 1, 2),
      (F.PIN_PAD_FUNC 2, 2), (F.PIN_PAD_FUNC 3, 2), (F.PIN_PAD_FUNC 6, 4), (F.PIN_PAD_FUNC 7, 4),
      (F.PIN_PAD_FUNC 0x34, 7), (F.PIN_PAD_FUNC 0x35, 7)] ++ l) with
    sup := { mode := .running, mono := 70000 }
    ld := { conf := 3, guard := false, tables := { fabric := some {} } } }

/-! Each check of `Instr.wellFormed` refuses a command. -/

theorem test_refuses_master : Instr.wellFormed (.frameNumRead (.engine 11)) = false := by decide

theorem test_refuses_master_uart : Instr.wellFormed (.frameNumRead (.uart 4)) = false := by decide

theorem test_refuses_host : Instr.wellFormed (.hostFetch 6) = false := by decide

theorem test_refuses_session : Instr.wellFormed (.sessionOpen 7) = false := by decide

theorem test_refuses_banks : Instr.wellFormed (.rtcAlarm 16) = false := by decide

theorem test_refuses_core : Instr.wellFormed (.coreWait 3) = false := by decide

theorem test_refuses_wake_low : Instr.wellFormed (.ownerConsent (some (1, 0))) = false := by decide

theorem test_refuses_wake_high : Instr.wellFormed (.ownerConsent (some (5, 0))) = false := by decide

theorem test_refuses_wake_source : Instr.wellFormed (.ownerConsent (some (2, 6))) = false := by decide

theorem test_refuses_reply : Instr.wellFormed (.certificateRequest (.object 7)) = false := by decide

theorem test_refuses_retry_section : Instr.wellFormed (.sectionRetry 16 false) = false := by decide

theorem test_refuses_sample : Instr.wellFormed (.coherentSample [[0]]) = false := by decide

theorem test_refuses_sample_code : Instr.wellFormed (.coherentSample (List.replicate 10 [8])) = false := by decide

theorem test_refuses_tap_code : Instr.wellFormed (.tapSample [8] 0) = false := by decide

theorem test_refuses_receive_word : Instr.wellFormed (.shBlock [65536]) = false := by decide

theorem test_refuses_recall_word : Instr.wellFormed (.recall [(0, 8192, 2)]) = false := by decide

theorem test_refuses_noise_bits : Instr.wellFormed (.trngSeed []) = false := by decide

theorem test_refuses_slot : Instr.wellFormed (.contentionSlot 28 true) = false := by decide

theorem test_refuses_blanker_sample : Instr.wellFormed (.blankingRatio [8192]) = false := by decide

theorem test_refuses_slice : Instr.wellFormed (.overloadMonitor 10) = false := by decide

theorem test_refuses_sar : Instr.wellFormed (.sarResult 14 0) = false := by decide

theorem test_refuses_comparator : Instr.wellFormed (.winTrip 16 0) = false := by decide

theorem test_refuses_fraction : Instr.wellFormed (.winTrip 0 256) = false := by decide

theorem test_refuses_released_comparator : Instr.wellFormed (.winRelease 16) = false := by decide

theorem test_refuses_comparator_address : Instr.wellFormed (.winCfgWrite (.engine 1) (2 ^ 32) 0) = false := by decide

theorem test_refuses_phase : Instr.wellFormed (.reverseEnergy 3) = false := by decide

theorem test_refuses_pulse : Instr.wellFormed (.pulseEdge 4) = false := by decide

theorem test_refuses_pulse_end : Instr.wellFormed (.pulseEnd 4) = false := by decide

theorem test_refuses_adjust_source : Instr.wellFormed (.adjRequest (.engine 2) 1 3 0) = false := by decide

theorem test_refuses_adjust_no_source : Instr.wellFormed (.adjRequest (.engine 2) 1 0 0) = false := by decide

theorem test_refuses_adjust_osrc : Instr.wellFormed (.adjRequest (.engine 2) 1 2 (2 ^ 16)) = false := by decide

theorem test_refuses_credit_source : Instr.wellFormed (.remoteCredit [] 3 .nobody) = false := by decide

theorem test_refuses_bank : Instr.wellFormed (.storeCommit 16) = false := by decide

theorem test_refuses_attest_parent : Instr.wellFormed (.attestationRequest 16 0 (List.replicate 16 0) .nobody) = false := by decide

theorem test_refuses_attest_child : Instr.wellFormed (.attestationRequest 0 256 (List.replicate 16 0) .nobody) = false := by decide

theorem test_refuses_attest_nonce : Instr.wellFormed (.attestationRequest 0 0 [] .nobody) = false := by decide

theorem test_refuses_producer : Instr.wellFormed (.tamperTrip 13 0 0) = false := by decide

theorem test_refuses_producer_fraction : Instr.wellFormed (.tamperTrip 0 256 0) = false := by decide

theorem test_refuses_producer_detail : Instr.wellFormed (.tamperTrip 0 0 (2 ^ 32)) = false := by decide

theorem test_refuses_released_producer : Instr.wellFormed (.tamperRelease 13) = false := by decide

theorem test_refuses_engine : Instr.wellFormed (.engineRestartDone 11) = false := by decide

theorem test_refuses_engine_zero : Instr.wellFormed (.engineRestartDone 0) = false := by decide

theorem test_refuses_pump : Instr.wellFormed (.pumpFault 4) = false := by decide

theorem test_refuses_blink : Instr.wellFormed (.blinkPhase 1024) = false := by decide

theorem test_refuses_panel_word : Instr.wellFormed (.panelRamWrite (.engine 2) 512 0) = false := by decide

theorem test_refuses_keys : Instr.wellFormed (.keypadScan (2 ^ 20)) = false := by decide

theorem test_refuses_key : Instr.wellFormed (.keyPress 20) = false := by decide

theorem test_refuses_released_key : Instr.wellFormed (.keyRelease 20) = false := by decide

theorem test_refuses_ecc : Instr.wellFormed (.hostRead 0 0 4 3) = false := by decide

theorem test_refuses_command : Instr.wellFormed (.unknownCommand 6 []) = false := by decide

theorem test_refuses_gap : Instr.wellFormed (.uartGapTimeout 1) = false := by decide

theorem test_refuses_timer : Instr.wellFormed (.timerStart (.engine 2) 8 0) = false := by decide

theorem test_refuses_timer_count : Instr.wellFormed (.timerMatch 0 (2 ^ 32)) = false := by decide

theorem test_refuses_accumulator : Instr.wellFormed (.accLoRead (.engine 2) 40) = false := by decide

theorem test_refuses_line : Instr.wellFormed (.tsFrameRead (.engine 2) 64) = false := by decide

theorem test_refuses_address : Instr.wellFormed (.readToClear (.engine 2) (2 ^ 32) .word 0) = false := by decide

/-! Worked examples of the spec, each on one operation or one step. -/

/-- R306's worked example: 256 bytes in band A take 87 symbols in D8PSK and 683 in robust mode. -/
theorem test_frame_symbols : frameSymbols 3 256 25 = 87 ∧ frameSymbols 0 256 25 = 683 := by decide

/-- R315's worked example: ZCP 0x55 and OWN 0xAA give DELTA 171 and verdict 1. -/
theorem test_phase_verdict : (0x55 + 256 - 0xAA) % 256 = 171 ∧ verdictOf 171 = 1 := by decide

/-- R337's worked example: FCN 2 001 250 with ZCP 200 and OWN 30 makes this node's crossing 2 001 251. -/
theorem test_numbering_taken :
    get F.FAB_FCN_FCN (adoptNum { zcp := 200, own := 30, zcv := true } (some ⟨2001250, 0, 9⟩)
      { st [(F.LMD_STATUS_ZC_VALID, 1), (F.LMD_ZC_CYCLE_CYCLE, 77)] with metro := { clock := 2 ^ 40 } }) = 2001251 := by decide

/-- R365: FETCH on a UART is answered BAD_FRAME. -/
theorem test_fetch_on_uart :
    (match execHostFetch 2 (hifW []) with
      | .next t => slotOf 2 t == .busy 0 1 (some ⟨5, 0, 1, []⟩)
      | _ => false) = true := by decide

/-- R361: the second request of an interface is discarded. -/
theorem test_second_request_dropped :
    (match execHostStatus 0 { hifW [] with hif := { slots := [.busy 1 1 none, .free, .free, .free, .free, .free] } } with
      | .next t => flag F.HIF_CAUSE_REQ_DROPPED t
      | _ => false) = true := by decide

/-- R348: LIGHT in state 0 is dropped. -/
theorem test_light_refused :
    (match execPanelLight (.engine 2) (wd [(F.PNL_CTL_KEY, 0xB4), (F.PNL_CTL_LIGHT, 1)]) (st [(F.PMU_DOM_STATUS_ON, 0x7FF)]) with
      | .next t => flag F.PNL_CAUSE_CMD_REFUSED t
      | _ => false) = true := by decide

/-- R380: a host's write of `PNL_CTL` is denied and changes nothing of the panel. -/
theorem test_host_write_denied :
    (match execPanelOn .spi (wd [(F.PNL_CTL_KEY, 0xB4), (F.PNL_CTL_ON, 1)]) (st [(F.PMU_DOM_STATUS_ON, 0x7FF)]) with
      | .next t => get F.PNL_STATUS_STATE t == 0 && flag F.HIF_CAUSE_DENIED t
      | _ => false) = true := by decide

/-- An empty queue idles. -/
theorem test_idle : step State.reset = .next State.reset := rfl

/-! The witnesses that need more than evaluation. -/

theorem witImage_sections : witImage.sections = witImage0.sections := rfl

/-- The fallback copy of the witness image fits. -/
theorem witImage_fits : ¬ maxZlen < Config.deflateLen (fallbackPayload (deriveFallback witImage)) := by
  have hs : (deriveFallback witImage).sections = (witImage0.sections.filter fun x => [3, 4, 5, 0x0A, 0x0B].contains x.typ) := by
    show (List.mergeSort _ _) = _
    exact List.mergeSort_of_pairwise (by decide)
  have hp : (deriveFallback witImage).pinsBytes.length ≤ 4 := by
    show (Config.reducedPins [0, 0, 0, 0]).length ≤ 4
    simp [Config.reducedPins] <;> omega
  have h : (fallbackPayload (deriveFallback witImage)).length ≤ 64 := by
    unfold fallbackPayload
    rw [hs, List.length_append, partBytes]
    have h2 : (List.flatMap (fun x : ImgSection => partBytes x.typ x.bytes)
      (witImage0.sections.filter fun x => [3, 4, 5, 0x0A, 0x0B].contains x.typ)).length = 16 := by decide +kernel
    rw [h2]
    simp [le, zeros]
    omega
  have h3 : Config.deflateLen (fallbackPayload (deriveFallback witImage)) ≤ 69 := by
    simp only [Config.deflateLen, Config.deflate, List.length_take]
    omega
  unfold maxZlen; omega

theorem witImage_sig : witImage.sig = Config.ecdsaGood 7 (imageDigest witImage0) := by unfold witImage; with_reducible rfl

theorem witImage_digest : imageDigest witImage = imageDigest witImage0 := by
  unfold imageDigest signedBytes witImage; with_reducible rfl

theorem witImage_passes (s : State) (ho : s.well.otp = [some 7, none, none, none]) (hl : s.ld.legalPart = [])
    (hf : (keepRec s).floor = 0) (hm : 352 ≤ memCapacity s.ld.source) : checkImage witImage s = none := by
  have hk : nth none s.well.otp witImage.authSlot = some 7 := by rw [ho]; rfl
  have hg : legalIdOf witImage.sections s = witImage.legalId := by
    unfold legalIdOf legalBody; rw [hl]; rfl
  have h1 : headerOk witImage = true := by decide +kernel
  have h2 : layoutFail witImage = none := by decide +kernel
  have h3 : (witImage.sections.find? fun x => !(crcOk x)) = none := by rw [witImage_sections]; decide +kernel
  have h4 : (witImage.sections.find? fun x => !(sectionContentOk witImage x)) = none := by rw [witImage_sections]; decide +kernel
  have h5 : claimFail witImage = none := by decide +kernel
  have h6 : Config.ecdsaOk 7 (imageDigest witImage) witImage.sig = true := by rw [witImage_sig, witImage_digest]; exact ecdsaOk_good _ _
  simp only [checkImage, h1, h2, h3, h4, h5, hk, hg, h6, hf, Option.isNone_some, Option.getD_some, if_neg witImage_fits]
  simp
  exact hm

theorem witImage_meets : witImageState.Inv ∧ witImageState.ld.conf = 1 ∧ witImageState.ld.refused = false ∧
    witImageState.ld.source ≠ 0 ∧ witImageState.cis.recalled = true ∧ domOn 4 witImageState = true ∧
    witImageState.sup.mode = .loading ∧ witImageState.ld.partialRun = false ∧ witImageState.ld.reread = 0 ∧
    checkImage witImage witImageState = none :=
  ⟨by decide, by decide, by decide, by decide, by decide, by decide, by decide, by decide, by decide,
    witImage_passes _ rfl rfl (by decide) (by decide)⟩

theorem witReread_meets :
    ({ witImageState with ld := { conf := 3, reread := 1, metroHash := Config.sha256 (metroBytes witImage.sections) }, sup := { mode := .running } } : State).Inv ∧
    ({ witImageState with ld := { conf := 3, reread := 1, metroHash := Config.sha256 (metroBytes witImage.sections) }, sup := { mode := .running } } : State).ld.reread = 1 ∧
    ({ witImageState with ld := { conf := 3, reread := 1, metroHash := Config.sha256 (metroBytes witImage.sections) }, sup := { mode := .running } } : State).sup.mode = .running ∧
    checkImage witImage { witImageState with ld := { conf := 3, reread := 1, metroHash := Config.sha256 (metroBytes witImage.sections) }, sup := { mode := .running } } = none ∧
    Config.sha256 (metroBytes witImage.sections) =
      ({ witImageState with ld := { conf := 3, reread := 1, metroHash := Config.sha256 (metroBytes witImage.sections) }, sup := { mode := .running } } : State).ld.metroHash :=
  ⟨by decide, by decide, by decide, witImage_passes _ rfl rfl (by decide) (by decide), rfl⟩

theorem sessionOk_witness :
    sessionOk 2 { bytes := reqBytes 3 1 0 [0, 0, 0, 0, 0, 0] [] ++ stag 5 (reqBytes 3 1 0 [0, 0, 0, 0, 0, 0] []) }
      (withReq 2 (reqBytes 3 1 0 [0, 0, 0, 0, 0, 0] [] ++ stag 5 (reqBytes 3 1 0 [0, 0, 0, 0, 0, 0] [])) { put (F.OBJ_SESS_ROLE 2) 1 (put (F.OBJ_SESS_STATE 2) 2 (keyed 0x20 4 1 5)) with obj := { sess := [{}, {}, { key := 5 }, {}, {}, {}, {}] } }) = true :=
  sessionOk_of 2 5 (reqBytes 3 1 0 [0, 0, 0, 0, 0, 0] []) _ (by decide) (by decide) (by rfl) (by rfl)

theorem sessionOk_witness3 :
    sessionOk 3 { bytes := reqBytes 5 1 0 [0, 0, 1, 0, 0, 255] [] ++ stag 0 (reqBytes 5 1 0 [0, 0, 1, 0, 0, 255] []) }
      (withReq 3 (reqBytes 5 1 0 [0, 0, 1, 0, 0, 255] [] ++ stag 0 (reqBytes 5 1 0 [0, 0, 1, 0, 0, 255] [])) (put (F.OBJ_SESS_ROLE 3) 3 (put (F.OBJ_SESS_STATE 3) 2 (keyed 2 4 1 0)))) = true :=
  sessionOk_of 3 0 (reqBytes 5 1 0 [0, 0, 1, 0, 0, 255] []) _ (by decide) (by decide) (by rfl) (by rfl)

theorem sessionOk_witness8 :
    sessionOk 3 { bytes := reqBytes 6 1 0 [0, 0, 128, 5, 0, 255] [] ++ stag 0 (reqBytes 6 1 0 [0, 0, 128, 5, 0, 255] []) }
      (withReq 3 (reqBytes 6 1 0 [0, 0, 128, 5, 0, 255] [] ++ stag 0 (reqBytes 6 1 0 [0, 0, 128, 5, 0, 255] [])) (put (F.OBJ_SESS_ROLE 3) 3 (put (F.OBJ_SESS_STATE 3) 2 (keyed 2 4 1 0)))) = true :=
  sessionOk_of 3 0 (reqBytes 6 1 0 [0, 0, 128, 5, 0, 255] []) _ (by decide) (by decide) (by rfl) (by rfl)

theorem witPackage_head : packageHead false witPackage = true := by
  have h : witPackage.length = 192 := by simp [witPackage, witHsig, be_length, witHead, le_length, zeros]
  have h0 : field witPackage 0x0C 4 = 0 := rfl
  have h1 : field witPackage 0 4 = 0x55504B47 := rfl
  have h2 : field witPackage 4 1 = 1 := rfl
  have h3 : field witPackage 5 3 = 0 := rfl
  have h4 : (witPackage.drop 0x30).take 16 = zeros 16 := rfl
  simp [packageHead, h, h0, h1, h2, h3, h4]

theorem witHead_length : witHead.length = 64 := by simp [witHead, le_length, zeros]

theorem witHsig_length : witHsig.length = 64 := by simp [witHsig, be_length]

theorem witPackage_hsig : hsigOk witPackage = true := by
  have h0 : field witPackage 0x0C 4 = 0 := rfl
  have hb : packageBody witPackage = [] := by simp [packageBody, h0]
  have h4 : (witPackage.drop 4).take 0x2C = (witHead.drop 4).take 0x2C := rfl
  have h5 : ((witPackage.drop (0x40 + 0)).take 64) = witHsig := by
    rw [witPackage, List.append_assoc, List.drop_append_of_le_length (by have := witHead_length; omega), List.drop_of_length_le (by have := witHead_length; omega)]
    rw [List.nil_append, List.take_append_of_le_length (by have := witHsig_length; omega), List.take_of_length_le (by have := witHsig_length; omega)]
  simp only [hsigOk, h0, hb, h4, h5]
  rw [witHsig, ofBe_good]
  exact ecdsaOk_good _ _

theorem witPackage_sig : sigOk witVerifier witPackage = true := by
  have h0 : field witPackage 0x0C 4 = 0 := rfl
  have hl : (witHead ++ witHsig).length = 128 := by rw [List.length_append, witHead_length, witHsig_length]
  have h4 : witPackage.take (0x80 + 0) = witHead ++ witHsig := by
    rw [witPackage, List.take_append_of_le_length (by omega), List.take_of_length_le (by omega)]
  have h5 : (witPackage.drop (0x80 + 0)).take 64 = be 64 (Config.ecdsaGood witVerifier (Config.sha256 (witHead ++ witHsig))) := by
    rw [witPackage, List.drop_append_of_le_length (by omega), List.drop_of_length_le (by omega), List.nil_append,
      List.take_of_length_le (Nat.le_of_eq (be_length _ _))]
  simp only [sigOk, h0, h4, h5]
  rw [ofBe_good]
  exact ecdsaOk_good _ _

theorem witPackage_meets :
    ({ put F.UPD_STATUS_STATE 3 (keyed 0x10 0x20 4 0) with obj := { slotA := witPackage } } : State).Inv ∧
    updState { put F.UPD_STATUS_STATE 3 (keyed 0x10 0x20 4 0) with obj := { slotA := witPackage } } = 3 ∧
    domOn 5 { put F.UPD_STATUS_STATE 3 (keyed 0x10 0x20 4 0) with obj := { slotA := witPackage } } = true ∧
    packageHead false witPackage = true ∧ hsigOk witPackage = true ∧
    (verifierKey { put F.UPD_STATUS_STATE 3 (keyed 0x10 0x20 4 0) with obj := { slotA := witPackage } }).1 = some witVerifier ∧
    sigOk witVerifier witPackage = true ∧
    (updRec (verifierKey { put F.UPD_STATUS_STATE 3 (keyed 0x10 0x20 4 0) with obj := { slotA := witPackage } }).2).floor ≤ field witPackage 8 4 :=
  ⟨by decide, by decide, by decide, witPackage_head, witPackage_hsig, rfl, witPackage_sig, by decide⟩

theorem witPackage_floor :
    ({ put F.UPD_STATUS_STATE 3 (keyed 0x10 0x20 4 0) with obj := { slotA := witPackage }, cis := { b1 := { upd := { a := some (4, ⟨1, 2, 0, false, 8, 3, 9, 1, 2, false⟩) } } } } : State).Inv ∧
    updState { put F.UPD_STATUS_STATE 3 (keyed 0x10 0x20 4 0) with obj := { slotA := witPackage }, cis := { b1 := { upd := { a := some (4, ⟨1, 2, 0, false, 8, 3, 9, 1, 2, false⟩) } } } } = 3 ∧
    domOn 5 { put F.UPD_STATUS_STATE 3 (keyed 0x10 0x20 4 0) with obj := { slotA := witPackage }, cis := { b1 := { upd := { a := some (4, ⟨1, 2, 0, false, 8, 3, 9, 1, 2, false⟩) } } } } = true ∧
    packageHead false witPackage = true ∧ hsigOk witPackage = true ∧
    (verifierKey { put F.UPD_STATUS_STATE 3 (keyed 0x10 0x20 4 0) with obj := { slotA := witPackage }, cis := { b1 := { upd := { a := some (4, ⟨1, 2, 0, false, 8, 3, 9, 1, 2, false⟩) } } } }).1 = some witVerifier ∧
    (sigOk witVerifier witPackage = false ∨ field witPackage 8 4 < (updRec (verifierKey { put F.UPD_STATUS_STATE 3 (keyed 0x10 0x20 4 0) with obj := { slotA := witPackage }, cis := { b1 := { upd := { a := some (4, ⟨1, 2, 0, false, 8, 3, 9, 1, 2, false⟩) } } } }).2).floor) :=
  ⟨by decide, by decide, by decide, witPackage_head, witPackage_hsig, rfl, Or.inr (by decide)⟩

theorem witLegal_image :
    legalImageOk (some witLegalImage) (packageBody (slotBytesOf (updRegion witLegalState) witLegalState))
      (packageLegalId (slotBytesOf (updRegion witLegalState) witLegalState)) witLegalState = true := by
  have hs : slotBytesOf (updRegion witLegalState) witLegalState = zeros 16 ++ be 32 witLegalId := rfl
  have hb : packageBody (zeros 16 ++ be 32 witLegalId) = [] := by
    rw [packageBody, List.drop_of_length_le (by simp [zeros, be_length]), List.take_nil]
  have hi : packageLegalId (zeros 16 ++ be 32 witLegalId) = witLegalId := by
    rw [packageLegalId, List.drop_append_of_le_length (by simp [zeros]), List.drop_of_length_le (by simp [zeros]), List.nil_append,
      List.take_of_length_le (Nat.le_of_eq (be_length _ _)), witLegalId, ofBe_sha]
  rw [hs, hb, hi]
  have := witImage_passes { witLegalState with ld := { witLegalState.ld with legalPart := [] } } rfl rfl (by decide) (by decide)
  simp only [legalImageOk, witLegalImage, this]
  exact decide_eq_true rfl

theorem witLegal_meets : witLegalState.Inv ∧ Writable (.engine 2) R.UPD_CTL witLegalState ∧
    arg F.UPD_CTL_KEY (wd [(F.UPD_CTL_KEY, 0x69), (F.UPD_CTL_CMD, 5)]) = 0x69 ∧
    arg F.UPD_CTL_CMD (wd [(F.UPD_CTL_KEY, 0x69), (F.UPD_CTL_CMD, 5)]) = 5 ∧ updState witLegalState = 4 ∧
    witLegalState.obj.updLegal = true ∧ legalOk witLegalState = true ∧ legalFits 0 witLegalState = true ∧
    legalImageOk (some witLegalImage) (packageBody (slotBytesOf (updRegion witLegalState) witLegalState))
      (packageLegalId (slotBytesOf (updRegion witLegalState) witLegalState)) witLegalState = true :=
  ⟨by decide, by decide, by decide, by decide, by decide, by decide, by decide, by decide, witLegal_image⟩

theorem witKeyBody_length : witKeyBody.length = 176 := by
  simp [witKeyBody, le_length, be_length, zeros]

theorem witKeyMsg_check (s : State) (ho : s.well.otp = [none, none, some 5, none]) (hg : guarded s = false) (hf : inFallback s = false)
    (hb : blanking s = false) (hc : (wellRec s).counter = 0) (ha : kuAttr witKeyMsg s = true) : kuCheck witKeyMsg s = 0 := by
  have h1 : kuFormat witKeyMsg = true := by
    have hl : witKeyMsg.length = 240 := by rw [witKeyMsg, List.length_append, witKeyBody_length, be_length]
    have e : ∀ k n, field witKeyMsg k n = field witKeyMsg k n := fun _ _ => rfl
    have a1 : field witKeyMsg 4 1 = 4 := rfl
    have a2 : field witKeyMsg 0 2 = 0x4B55 := rfl
    have a3 : field witKeyMsg 2 2 = 240 := rfl
    have a4 : field witKeyMsg 0x26 2 = 0 := rfl
    have a5 : field witKeyMsg 0x2C 4 = 0 := rfl
    have a6 : field witKeyMsg 0xAC 4 = 0 := rfl
    have a7 : field witKeyMsg 0x30 64 = 0 := rfl
    have a8 : field witKeyMsg 0x7C 32 = 0 := rfl
    have a9 : field witKeyMsg 0x9C 16 = 0 := rfl
    simp [kuFormat, hl, a1, a2, a3, a4, a5, a6, a7, a8, a9]
  have a1 : field witKeyMsg 4 1 = 4 := rfl
  have a0 : field witKeyMsg 5 1 = 0 := rfl
  have au : (witKeyMsg.drop 8).take 16 = uidBytes := rfl
  have ac : field witKeyMsg 0x18 8 = 1 := rfl
  have at1 : witKeyMsg.take 0xB0 = witKeyBody := by
    rw [witKeyMsg, List.take_append_of_le_length (by have := witKeyBody_length; omega), List.take_of_length_le (by have := witKeyBody_length; omega)]
  have at2 : (witKeyMsg.drop 0xB0).take 64 = be 64 (Config.ecdsaGood 5 (Config.sha256 witKeyBody)) := by
    rw [witKeyMsg, List.drop_append_of_le_length (by have := witKeyBody_length; omega), List.drop_of_length_le (by have := witKeyBody_length; omega),
      List.nil_append, List.take_of_length_le (Nat.le_of_eq (be_length _ _))]
  have hn : nth none s.well.otp 2 = some 5 := by rw [ho]; rfl
  simp only [kuCheck, h1, a1, a0, hg, hf, hb, hc, ac, at1, at2, au, ofBe_good, ecdsaOk_good, ha, Nat.add_zero, hn]
  simp

theorem witKeyMsg_meets :
    ({ st [(F.PMU_DOM_STATUS_ON, 0x7FF)] with ld := { guard := false, conf := 3 }, well := { otp := [none, none, some 5, none], d0 := some {} } } : State).Inv ∧
    e8Up { st [(F.PMU_DOM_STATUS_ON, 0x7FF)] with ld := { guard := false, conf := 3 }, well := { otp := [none, none, some 5, none], d0 := some {} } } = true ∧
    ({ st [(F.PMU_DOM_STATUS_ON, 0x7FF)] with ld := { guard := false, conf := 3 }, well := { otp := [none, none, some 5, none], d0 := some {} } } : State).well.ku = none ∧
    kuCheck witKeyMsg { st [(F.PMU_DOM_STATUS_ON, 0x7FF)] with ld := { guard := false, conf := 3 }, well := { otp := [none, none, some 5, none], d0 := some {} } } = 0 :=
  ⟨by decide, by decide, rfl, witKeyMsg_check _ rfl rfl rfl (by decide) rfl (by decide)⟩

theorem takeFrame_mono (p q : Nat → Bool) (i : RxInfo) (f : FabFrame) (s : State) (hpq : ∀ m, p m = true → q m = true)
    (h : (takeFrame true p i f s).1 = true) : takeFrame true q i f s = takeFrame true p i f s := by
  unfold takeFrame at h ⊢
  split at h
  · cases h
  · rename_i h0
    rw [if_neg h0, if_neg h0]
    cases he : (linkKeys f.key 2 8 s).1 with
    | none => simp only [he] at h ⊢
    | some e =>
      simp only [he] at h ⊢
      cases hp : p e.2 with
      | false => simp [hp] at h
      | true => simp [hpq _ hp]

theorem accEq {i : RxInfo} {f : FabFrame} {s : State} (hc : canReceive i s = true)
    (h : (takeFrame true (fun mac => mac == 78) i (sealed f) (rxReport i s)).1 = true) :
    accept i (sealed f) s = takeFrame true (fun mac => mac == 78) i (sealed f) (rxReport i s) := by
  have h1 : ((sealed f).fcs == frameFcs (sealed f)) = true := beq_iff_eq.2 rfl
  have hm : ∀ m, (m == 78) = true → ((sealed f).mic == frameMic m (sealed f)) = true := by
    intro m hm
    have : m = 78 := by simpa using hm
    subst this
    exact beq_iff_eq.2 rfl
  unfold accept
  rw [hc, h1]
  exact takeFrame_mono _ _ i (sealed f) (rxReport i s) hm h

theorem accByDec {i : RxInfo} {f : FabFrame} {s : State} (hc : canReceive i s = true)
    (h : (takeFrame true (fun mac => mac == 78) i (sealed f) (rxReport i s)).1 = true) : (accept i (sealed f) s).1 = true := by
  rw [accEq hc h]; exact h

theorem sealed_fcs (f : FabFrame) : (sealed f).fcs = frameFcs (sealed f) := rfl

theorem sealed_mic (f : FabFrame) : (sealed f).mic = frameMic 78 (sealed f) := rfl

/-! For each statement with hypotheses, a state and operands that meet them. -/

/-- Each clause of `RegisterWriteAccess` has a state and operands that meet its hypotheses. -/
theorem wit_RegisterWriteAccess :
    (∃ (s : State) (w : Word) (wd : World), s.Inv ∧ domOn 3 s = true) ∧
    (∃ (s : State) (m : Master) (w : Word) (wd : World), s.Inv ∧ domOn 5 s = true ∧ (m = .engine 1 ∨ m = .engine 2)) ∧
    (∃ (s : State) (w : Word) (wd : World), s.Inv ∧ domOn 1 s = true ∧ s.ld.locked = true) ∧
    (∃ (s : State) (m : Master) (a : Nat) (w : Word) (width : AccessWidth) (wd : World), inRegs a = true ∧ (width ≠ .word ∨ a % 4 ≠ 0)) :=
  ⟨⟨st [(F.PMU_DOM_STATUS_ON, 0x7FF)], 0x14, ⟨⟨none, none, false, false, false, false, false, 0⟩, none⟩, by decide⟩,
    ⟨st [(F.PMU_DOM_STATUS_ON, 0x7FF), (F.PAY_CAUSE_EC_GRANT, 1)], .engine 1, 0xFFFFFFFF, ⟨⟨none, none, false, false, false, false, false, 0⟩, none⟩, by decide⟩,
    ⟨{ st [(F.PMU_DOM_STATUS_ON, 0x7FF)] with ld := { locked := true } }, 5, ⟨⟨none, none, false, false, false, false, false, 0⟩, none⟩, by decide⟩,
    ⟨{}, .i2c, 0x40010004, 5, .half, ⟨⟨none, none, false, false, false, false, false, 0⟩, none⟩, by decide⟩⟩

/-- Each clause of `ReadLatches` has a state and operands that meet its hypotheses. -/
theorem wit_ReadLatches :
    (∃ (s : State) (m : Master), s.Inv ∧ domOn 2 s = true) ∧
    (∃ (s : State) (m : Master) (k : Nat), s.Inv ∧ domOn 2 s = true ∧ k < 40) ∧
    (∃ (s : State) (m : Master), s.Inv ∧ domOn 4 s = true) ∧
    (∃ (s : State) (m : Master), s.Inv ∧ domOn 5 s = true) ∧
    (∃ (s : State) (m : Master), s.Inv ∧ domOn 0 s = true) ∧
    (∃ (s : State) (m : Master), s.Inv ∧ domOn 5 s = true) :=
  ⟨⟨{ st [(F.PMU_DOM_STATUS_ON, 0x7FF), (F.PHE_FRAME_NUM_FRAME, 7)] with metro := { pos := 12 } }, .engine 2, by decide⟩,
    ⟨st [(F.PMU_DOM_STATUS_ON, 0x7FF)], .engine 1, 39, by decide⟩,
    ⟨st [(F.PMU_DOM_STATUS_ON, 0x7FF)], .spi, by decide⟩,
    ⟨st [(F.PMU_DOM_STATUS_ON, 0x7FF)], .engine 2, by decide⟩,
    ⟨st [(F.PMU_DOM_STATUS_ON, 0x7FF)], .engine 1, by decide⟩,
    ⟨st [(F.PMU_DOM_STATUS_ON, 0x7FF)], .engine 1, by decide⟩⟩

/-- Each clause of `ReadEffects` has a state and operands that meet its hypotheses. -/
theorem wit_ReadEffects :
    (∃ (s : State) (m : Master), s.Inv ∧ domOn 0 s = true) ∧
    (∃ (s : State) (m : Master) (l : Nat), s.Inv ∧ domOn 0 s = true ∧ l < 64) ∧
    (∃ (s : State) (m : Master), s.Inv ∧ domOn 0 s = true ∧ s.sup.bfInfo < 2 ^ 16 ∧ s.sup.bfLive < 2 ^ 16) ∧
    (∃ (s : State) (m : Master), domOn 0 s = true ∧ s.sup.bfTaken = false) ∧
    (∃ (s : State) (m : Master), domOn 1 s = true) ∧
    (∃ (s : State) (m : Master) (e : Nat) (l : List Nat), domOn 10 s = true ∧ s.pnl.fifo = e :: l ∧ m ≠ .engine 2) ∧
    (∃ (s : State) (m : Master) (ecc : Nat), s.Inv ∧ domOn 3 s = true) :=
  ⟨⟨st [(F.PMU_DOM_STATUS_ON, 0x7FF)], .engine 2, by decide⟩,
    ⟨st [(F.PMU_DOM_STATUS_ON, 0x7FF)], .engine 2, 63, by decide⟩,
    ⟨{ st [(F.PMU_DOM_STATUS_ON, 0x7FF)] with sup := { bfLive := 3, bfInfo := 5 } }, .engine 2, by decide⟩,
    ⟨{ st [(F.PMU_DOM_STATUS_ON, 0x7FF), (F.PMU_BUS_FAULT_INFO_COUNT, 2)] with sup := { bfLive := 3, bfTaken := false } }, .engine 2, by decide⟩,
    ⟨{ st [(F.PMU_DOM_STATUS_ON, 0x7FF)] with conv := { fifo := [(1, 2), (3, 4)] } }, .engine 2, by decide⟩,
    ⟨{ st [(F.PMU_DOM_STATUS_ON, 0x7FF)] with pnl := { fifo := [33, 1] } }, .spi, 33, [1], by decide⟩,
    ⟨st [(F.PMU_DOM_STATUS_ON, 0x7FF), (F.SPE_EVT_CTL_LOST, 3)], .engine 2, 0, by decide⟩⟩

/-- Each clause of `StartBegins` has a state and operands that meet its hypotheses. -/
theorem wit_StartBegins :
    (∃ (s : State) (p : Probe), s.Inv ∧ s.sup.mode = .por ∧ s.sup.nextCause = 1) ∧
    (∃ (s : State) (p : Probe), s.Inv ∧ flag F.WEL_STATUS_ROOT s = true ∧ (s.sup.mode = .running ∨ s.sup.mode = .loading)) ∧
    (∃ (s : State) (p : Probe), flag F.WEL_STATUS_ROOT s = false) ∧
    (∃ (s : State) (p : Probe), s.Inv ∧ s.sup.mode = .running ∧ canFreeze s = false ∧ storesDone s = true) ∧
    (∃ (s : State) (p : Probe) (f : FreezeRec), s.Inv ∧ s.sup.mode = .frozen ∧ storesDone s = true ∧ vddGood s = true ∧ s.ld.restartAll = false ∧ s.sup.freezeOnResetN = false ∧ s.sup.freeze = some f) :=
  ⟨⟨{}, ⟨some 0x54424C49, none, true, false, false, true, false, 0⟩, by decide⟩,
    ⟨{ st [(F.WEL_STATUS_ROOT, 1), (F.SUP_RUN_RUN, 0xFFFFFFFF)] with sup := { mode := .running } }, ⟨some 0x54424C49, none, true, false, false, true, false, 0⟩, by decide⟩,
    ⟨{}, ⟨some 0x54424C49, none, true, false, false, true, false, 0⟩, by decide⟩,
    ⟨{ st [(F.PMU_DOM_STATUS_ON, 0x7FF)] with sup := { mode := .running } }, ⟨none, some 0x54424C49, true, false, false, true, false, 0⟩, by decide⟩,
    ⟨{ st [(F.PMU_VMON_VDD_OK, 1)] with sup := { mode := .frozen, freeze := some ⟨1, 2, 3, 4⟩ } }, ⟨none, some 0x54424C49, true, false, false, true, false, 0⟩, ⟨1, 2, 3, 4⟩, by decide⟩⟩

/-- Each clause of `ImageVerification` has a state and operands that meet its hypotheses. -/
theorem wit_ImageVerification :
    (∃ (s : State) (sect : Nat), s.ld.reread = 0 ∧ s.ld.conf = 1 ∧ s.ld.refused = false ∧ s.ld.source ≠ 0 ∧ (s.ld.retrySection ≠ sect ∨ s.ld.reads ≠ 2)) ∧
    (∃ (s : State) (sect : Nat), s.Inv ∧ s.ld.reread = 1 ∧ s.ld.retrySection = sect ∧ s.ld.reads = 2) ∧
    (∃ (s : State) (img : Image) (f : ImgFail), s.Inv ∧ s.ld.conf = 1 ∧ s.ld.refused = false ∧ s.ld.source ≠ 0 ∧ s.cis.recalled = true ∧ domOn 4 s = true ∧ s.sup.mode = .loading ∧ s.ld.partialRun = false ∧ checkImage img s = some f ∧ fallbackRec s = none) ∧
    (∃ (s : State) (img : Image), s.Inv ∧ s.ld.conf = 1 ∧ s.ld.refused = false ∧ s.ld.source ≠ 0 ∧ s.cis.recalled = true ∧ domOn 4 s = true ∧ s.sup.mode = .loading ∧ s.ld.partialRun = false ∧ s.ld.reread = 0 ∧ checkImage img s = none) :=
  ⟨⟨{ ({} : State) with ld := { conf := 1, source := 1 } }, 3, by decide⟩,
    ⟨{ ({} : State) with ld := { conf := 3, reread := 1, source := 1, retrySection := 4, reads := 2 } }, 4, by decide⟩,
    ⟨{ st [(F.PMU_DOM_STATUS_ON, 0x7FF)] with ld := { conf := 1, source := 1 }, cis := { recalled := true }, sup := { mode := .loading } }, ⟨0, 0, 0, 0, 0, 0, 0, 0, 0, 0, [], 0, {}⟩, { cause := F.CFG_CAUSE_MAGIC_FAIL }, by decide⟩,
    ⟨witImageState, witImage, witImage_meets⟩⟩

/-- Each clause of `RereadSecondRequest` has a state and operands that meet its hypotheses. -/
theorem wit_RereadSecondRequest :
    (∃ (s : State) (m : Master) (w : Word) (p : Probe), s.Inv ∧ Writable m R.CFG_CTL s ∧ arg F.CFG_CTL_KEY w = 0xA5 ∧ arg F.CFG_CTL_REREAD w = 1 ∧ halted s = false ∧ s.ld.reread ≠ 0) :=
  ⟨{ st [(F.PMU_DOM_STATUS_ON, 0x7FF)] with ld := { conf := 3, reread := 1 } }, .engine 2, wd [(F.CFG_CTL_KEY, 0xA5), (F.CFG_CTL_REREAD, 1)], ⟨some 0x54424C49, none, true, false, false, true, false, 0⟩, by decide⟩

/-- Each clause of `RereadPasses` has a state and operands that meet its hypotheses. -/
theorem wit_RereadPasses :
    (∃ (s : State) (m : Master) (w : Word) (p : Probe), s.Inv ∧ Writable m R.CFG_CTL s ∧ arg F.CFG_CTL_KEY w = 0xA5 ∧ arg F.CFG_CTL_REREAD w = 1 ∧ halted s = false ∧ s.ld.reread = 0 ∧ s.ld.partialRun = false ∧ (updState s = 0 ∨ updState s = 6) ∧ probeSource p ≠ 0) ∧
    (∃ (s : State) (img : Image) (f : ImgFail), s.Inv ∧ s.ld.reread = 1 ∧ s.sup.mode = .running ∧ checkImage img s = some f) ∧
    (∃ (s : State) (img : Image), s.Inv ∧ s.ld.reread = 1 ∧ s.sup.mode = .running ∧ checkImage img s = none ∧ Config.sha256 (metroBytes img.sections) = s.ld.metroHash) :=
  ⟨⟨{ st [(F.PMU_DOM_STATUS_ON, 0x7FF)] with ld := { conf := 3 } }, .engine 2, wd [(F.CFG_CTL_KEY, 0xA5), (F.CFG_CTL_REREAD, 1)], ⟨some 0x54424C49, none, true, false, false, true, false, 0⟩, by decide⟩,
    ⟨{ ({} : State) with ld := { conf := 3, reread := 1 }, sup := { mode := .running } }, ⟨0, 0, 0, 0, 0, 0, 0, 0, 0, 0, [], 0, {}⟩, { cause := F.CFG_CAUSE_MAGIC_FAIL }, by decide⟩,
    ⟨{ witImageState with ld := { conf := 3, reread := 1, metroHash := Config.sha256 (metroBytes witImage.sections) }, sup := { mode := .running } }, witImage, witReread_meets⟩⟩

/-- Each clause of `GuardedStart` has a state and operands that meet its hypotheses. -/
theorem wit_GuardedStart :
    (∃ (s : State), s.Inv ∧ configured s = true ∧ evaluated s = false ∧ s.ld.latched = 0 ∧ s.ld.lateAlarms = []) ∧
    (∃ (s : State) (x : Nat), s.Inv ∧ configured s = true ∧ evaluated s = false ∧ x < 13 ∧ s.ld.latched = 2 ^ x ∧ s.ld.lateAlarms = [] ∧ watched x s = true ∧ producer x s = false ∧ domOn 0 s = true ∧ staysBelow (48 + x) s = true) ∧
    (∃ (s : State), (configured s = false ∨ evaluated s = true)) ∧
    (∃ (s : State), s.Inv ∧ guarded s = true ∧ framesRun s = true ∧ s.metro.pos = 0 ∧ configured s = true ∧ evaluated s = true) ∧
    (∃ (s : State), (framesRun s = false ∨ s.metro.pos ≠ 0 ∨ configured s = false ∨ evaluated s = false)) ∧
    (∃ (s : State), s.Inv ∧ domOn 7 s = true ∧ s.cis.recalled = false ∧ get F.CIS_QUEUE_RECALLED s = 0) ∧
    (∃ (s : State) (b bit' : Nat), s.Inv ∧ domOn 7 s = true ∧ s.cis.recalled = false ∧ get F.CIS_QUEUE_RECALLED s = 0 ∧ b < 16 ∧ staysBelow 24 s = true) ∧
    (∃ (s : State), domOn 7 s = true ∧ s.cis.recalled = false ∧ get F.CIS_QUEUE_RECALLED s = 0xFFFF ∧ s.ld.refused = false) :=
  ⟨⟨{ st [(F.CFG_STATUS_TAMPER_PENDING, 1)] with ld := { conf := 3 } }, by decide⟩,
    ⟨{ st [(F.CFG_STATUS_TAMPER_PENDING, 1), (F.PMU_DOM_STATUS_ON, 1)] with ld := { conf := 3, latched := 16 } }, 4, by decide⟩,
    ⟨{ st [(F.TAMP_STATUS_EVALUATED, 1)] with ld := { conf := 3 } }, by decide⟩,
    ⟨{ st [(F.PHE_FRAME_POS_VALID, 1), (F.TAMP_STATUS_EVALUATED, 1), (F.CFG_STATUS_GUARDED, 1)] with ld := { conf := 3 } }, by decide⟩,
    ⟨{ ({} : State) with ld := { conf := 3 } }, by decide⟩,
    ⟨st [(F.PMU_DOM_STATUS_ON, 0x7FF)], by decide⟩,
    ⟨st [(F.PMU_DOM_STATUS_ON, 0x7FF)], 2, 9, by decide⟩,
    ⟨st [(F.PMU_DOM_STATUS_ON, 0x7FF), (F.CIS_QUEUE_RECALLED, 0xFFFF), (F.SUP_RTC_STATUS_VALID, 1)], by decide⟩⟩

/-- Each clause of `EngineFaults` has a state and operands that meet its hypotheses. -/
theorem wit_EngineFaults :
    (∃ (s : State) (e : Nat) (p : Probe), s.Inv ∧ s.sup.mode = .running ∧ (3 ≤ e ∧ e ≤ 6) ∧ bit s.sup.quarantined e = false ∧ staysBelow (24 + e) s = true ∧ s.sup.coldReq = false) ∧
    (∃ (s : State) (p : Probe), s.Inv ∧ s.sup.mode = .running) ∧
    (∃ (s : State) (e : Nat), bit s.sup.quarantined e = true ∧ 3 ≤ e ∧ e ≠ 9) ∧
    (∃ (s : State) (p : Probe), s.Inv ∧ updState s = 7 ∧ (updRec s).copyMark = true ∧ domOn 5 s = true) :=
  ⟨⟨{ ({} : State) with sup := { mode := .running } }, 3, ⟨none, none, false, false, false, false, false, 0⟩, by decide⟩,
    ⟨{ st [(F.SUP_RUN_RUN, 5)] with sup := { mode := .running } }, ⟨some 0x54424C49, none, true, true, false, true, false, 0⟩, by decide⟩,
    ⟨{ ({} : State) with sup := { quarantined := 8 } }, 3, by decide⟩,
    ⟨{ st [(F.PMU_DOM_STATUS_ON, 0x7FF), (F.UPD_STATUS_STATE, 7)] with cis := { b1 := { upd := { a := some (0, { firstUpd with copyMark := true }) } } } }, ⟨some 0x54424C49, none, true, false, false, true, false, 0⟩, by decide⟩⟩

/-- Each clause of `SliceRotation` has a state and operands that meet its hypotheses. -/
theorem wit_SliceRotation :
    (∃ (s : State) (ch sb : Nat), s.Inv ∧ flag F.CNV_CTL_ROT_EN s = true ∧ reliefAllowed s = true ∧ periodSince s.conv.rotAt s = true ∧ s.conv.relief = none ∧ nextRelief s = some ch ∧ choiceSpare s = some sb) ∧
    (∃ (s : State), (flag F.CNV_CTL_ROT_EN s = false ∨ reliefAllowed s = false ∨ periodSince s.conv.rotAt s = false)) ∧
    (∃ (s : State) (m : Master) (w : Word) (sb : Nat), s.Inv ∧ Writable m R.CNV_CTL s ∧ arg F.CNV_CTL_PERIOD w ≠ 1 ∧ arg F.CNV_CTL_PERIOD w ≤ 600 ∧ arg F.CNV_CTL_RELIEVE_NOW w = 1 ∧ s.conv.relief = none ∧ s.conv.calOf = none ∧ reliefAllowed s = true ∧ deadChan (arg F.CNV_CTL_RELIEVE_CHAN w) s = false ∧ choiceSpare s = some sb) ∧
    (∃ (s : State) (m : Master) (w : Word), s.Inv ∧ Writable m R.CNV_CTL s ∧ arg F.CNV_CTL_PERIOD w ≠ 1 ∧ arg F.CNV_CTL_PERIOD w ≤ 600 ∧ arg F.CNV_CTL_RELIEVE_NOW w = 1 ∧ s.conv.relief.isSome = true) ∧
    (∃ (s : State) (r : Relief), s.Inv ∧ s.conv.relief = some r ∧ get F.CNV_STATUS_ROT_STATE s = 2 ∧ 64 ≤ r.cycles) ∧
    (∃ (s : State) (sl : Nat), s.Inv ∧ domOn 1 s = true ∧ s.conv.calOf = none ∧ ((spares s).filter fun n => get (F.CNV_SLICE_CFG_ROLE n) s == 1 && !(promised n s)).find? (fun n => mayCalibrate n s) = some sl) :=
  ⟨⟨{ st [(F.PMU_DOM_STATUS_ON, 0x7FF), (F.CNV_CTL_ROT_EN, 1), (F.CNV_CTL_PERIOD, 2), (F.PHE_FRAME_POS_VALID, 1), (F.CNV_MAP_SLICE, 0x76543210), (F.CNV_SLICE_CFG_READY 8, 1), (F.CNV_SLICE_CFG_READY 9, 1)] with metro := { clock := 5 * 2 ^ 39 } }, 0, 8, by decide⟩,
    ⟨st [(F.PMU_DOM_STATUS_ON, 0x7FF), (F.CNV_CTL_ROT_EN, 1), (F.CNV_CTL_PERIOD, 2), (F.PHE_FRAME_POS_VALID, 1), (F.CNV_MAP_SLICE, 0x76543210), (F.CNV_SLICE_CFG_READY 8, 1)], by decide⟩,
    ⟨st [(F.PMU_DOM_STATUS_ON, 0x7FF), (F.CNV_STATUS_ROT_STATE, 4), (F.PHE_FRAME_POS_VALID, 1), (F.CNV_MAP_SLICE, 0x76543210), (F.CNV_SLICE_CFG_READY 9, 1)], .engine 1, wd [(F.CNV_CTL_PERIOD, 600), (F.CNV_CTL_RELIEVE_NOW, 1), (F.CNV_CTL_RELIEVE_CHAN, 7)], 9, by decide⟩,
    ⟨{ st [(F.PMU_DOM_STATUS_ON, 0x7FF), (F.CNV_SLICE_CFG_READY 9, 1)] with conv := { relief := some { chan := 3, new := 8 } } }, .engine 1, wd [(F.CNV_CTL_PERIOD, 2), (F.CNV_CTL_RELIEVE_NOW, 1)], by decide⟩,
    ⟨{ st [(F.CNV_STATUS_ROT_STATE, 2)] with conv := { relief := some { chan := 2, old := 2, new := 8, cycles := 64, n := 1 } } }, { chan := 2, old := 2, new := 8, cycles := 64, n := 1 }, by decide⟩,
    ⟨st [(F.PMU_DOM_STATUS_ON, 0x7FF), (F.CNV_MAP_SLICE, 0x76543210), (F.CNV_SLICE_CFG_READY 8, 1), (F.CNV_SLICE_CFG_ROLE 8, 1), (F.CNV_SLICE_CFG_ROLE 9, 1)], 9, by decide⟩⟩

/-- Each clause of `SliceCalibration` has a state and operands that meet its hypotheses. -/
theorem wit_SliceCalibration :
    (∃ (s : State) (offset : Int), s.conv.calOf.isSome = true ∧ s.conv.calStep = 1 ∧ domOn 1 s = true) ∧
    (∃ (s : State) (gain delay : Int) (r : Relief), s.Inv ∧ domOn 1 s = true ∧ s.conv.calOf = some r ∧ s.conv.calStep = 2 ∧ r.alone = true ∧ r.old < 10 ∧ s.conv.deferred = false ∧ s.conv.again = none ∧ (-32767 ≤ gain ∧ gain ≤ 32767) ∧ (-32767 ≤ s.conv.calOffset ∧ s.conv.calOffset ≤ 32767) ∧ (-2047 ≤ delay ∧ delay ≤ 2047)) ∧
    (∃ (s : State) (gain delay : Int) (r : Relief), s.Inv ∧ domOn 1 s = true ∧ s.conv.calOf = some r ∧ s.conv.calStep = 2 ∧ r.old < 10 ∧ s.conv.relief = none ∧ (gain < -32767 ∨ 32767 < gain) ∧ staysBelow r.old s = true) ∧
    (∃ (s : State) (slice : Nat), s.Inv ∧ domOn 1 s = true ∧ slice < 10 ∧ (chanOf slice s).isSome = true ∧ fbit F.CNV_RETIRED_SLICE slice s = false ∧ staysBelow slice s = true) :=
  ⟨⟨{ st [(F.PMU_DOM_STATUS_ON, 0x7FF)] with conv := { calOf := some { old := 3 }, calStep := 1 } }, -5, by decide⟩,
    ⟨{ st [(F.PMU_DOM_STATUS_ON, 0x7FF)] with conv := { calOf := some { old := 3, alone := true }, calStep := 2, calOffset := -32767 } }, 32767, -2047, { old := 3, alone := true }, by decide⟩,
    ⟨{ st [(F.PMU_DOM_STATUS_ON, 0x7FF), (F.CNV_STATUS_ROT_STATE, 3)] with conv := { calOf := some { old := 9 }, calStep := 2 } }, -32768, 0, { old := 9 }, by decide⟩,
    ⟨st [(F.PMU_DOM_STATUS_ON, 0x7FF), (F.CNV_MAP_SLICE, 0x76543210)], 7, by decide⟩⟩

/-- Each clause of `RawTap` has a state and operands that meet its hypotheses. -/
theorem wit_RawTap :
    (∃ (s : State) (m : Master) (w : Word), s.Inv ∧ Writable m R.CNV_TAP_CFG s ∧ (arg F.CNV_TAP_CFG_MODE w ≠ 1 ∨ arg F.CNV_TAP_CFG_DEST w = 1) ∧ (arg F.CNV_TAP_CFG_DEST w = 0 ∨ (share 2 s).2 ≠ 0)) ∧
    (∃ (s : State) (m : Master) (w : Word), s.Inv ∧ Writable m R.CNV_TAP_CFG s ∧ ((arg F.CNV_TAP_CFG_MODE w = 1 ∧ arg F.CNV_TAP_CFG_DEST w = 0) ∨ (arg F.CNV_TAP_CFG_DEST w = 1 ∧ (share 2 s).2 = 0))) ∧
    (∃ (s : State) (codes : List Nat) (back : Nat), s.Inv ∧ (domOn 1 s = true ∧ domOn 2 s = true) ∧ 2 ≤ get F.CNV_TAP_CFG_MODE s ∧ flag F.CNV_TAP_CFG_DEST s = false ∧ s.conv.fifo.length < 16) ∧
    (∃ (s : State) (codes : List Nat) (back : Nat), s.Inv ∧ (domOn 1 s = true ∧ domOn 2 s = true) ∧ 2 ≤ get F.CNV_TAP_CFG_MODE s ∧ flag F.CNV_TAP_CFG_DEST s = false ∧ s.conv.fifo.length = 16) :=
  ⟨⟨st [(F.PMU_DOM_STATUS_ON, 0x7FF)], .engine 2, wd [(F.CNV_TAP_CFG_MODE, 3), (F.CNV_TAP_CFG_SEL, 9)], by decide⟩,
    ⟨st [(F.PMU_DOM_STATUS_ON, 0x7FF)], .engine 2, wd [(F.CNV_TAP_CFG_MODE, 1)], by decide⟩,
    ⟨{ st [(F.PMU_DOM_STATUS_ON, 0x7FF), (F.CNV_TAP_CFG_MODE, 2)] with conv := { fifo := [(5, 0)], tapSeq := 127 } }, [3, 4], 0, by decide⟩,
    ⟨{ st [(F.PMU_DOM_STATUS_ON, 0x7FF), (F.CNV_TAP_CFG_MODE, 3), (F.CNV_TAP_STATUS_DROPPED, 0xFFFF)] with conv := { fifo := List.replicate 16 (5, 0) } }, [], 1, by decide⟩⟩

/-- Each clause of `TemperatureAndSar` has a state and operands that meet its hypotheses. -/
theorem wit_TemperatureAndSar :
    (∃ (s : State) (n : Nat) (v : Int), s.Inv ∧ domOn 1 s = true ∧ (2 ≤ n ∧ n < 14 ∧ n ≠ 4 ∧ n ≠ 9)) ∧
    (∃ (s : State) (a b : Int), s.Inv ∧ domOn 1 s = true ∧ a = getS (F.CNV_SAR_RES_VALUE 0) s ∧ b = getS (F.CNV_SAR_RES_VALUE 1) s ∧ (a - b).natAbs ≤ 50 ∧ flag F.CNV_TEMP_PENDING s = false) ∧
    (∃ (s : State), s.Inv ∧ domOn 1 s = true ∧ 10 ≤ s.conv.disagreeSecs ∧ flag F.CNV_STATUS_TEMP_DISAGREE s = false ∧ staysBelow 35 s = true) :=
  ⟨⟨st [(F.PMU_DOM_STATUS_ON, 0x7FF)], 13, 70000, by decide⟩,
    ⟨st [(F.PMU_DOM_STATUS_ON, 0x7FF), (F.CNV_SAR_RES_VALUE 0, 300), (F.CNV_SAR_RES_VALUE 1, 310), (F.CNV_TEMP_BAND, 3)], 300, 310, by decide⟩,
    ⟨{ st [(F.PMU_DOM_STATUS_ON, 0x7FF)] with conv := { disagreeSecs := 10 } }, by decide⟩⟩

/-- Each clause of `FactoryCalibration` has a state and operands that meet its hypotheses. -/
theorem wit_FactoryCalibration :
    (∃ (s : State) (m : Master) (w : Word), s.Inv ∧ Writable m R.CNV_CAL_CTL s ∧ arg F.CNV_CAL_CTL_START w = 0 ∧ arg F.CNV_CAL_CTL_COMMIT w = 1 ∧ legalOk s = true ∧ legalFits (commitEntries s).length s = true) ∧
    (∃ (s : State) (m : Master) (w : Word), s.Inv ∧ Writable m R.CNV_CAL_CTL s ∧ arg F.CNV_CAL_CTL_START w = 0 ∧ legalOk s = false) ∧
    (∃ (s : State) (m : Master) (w : Word), s.Inv ∧ Writable m R.CNV_CAL_CTL s ∧ arg F.CNV_CAL_CTL_START w = 1 ∧ arg F.CNV_CAL_CTL_COMMIT w = 0 ∧ arg F.CNV_CAL_CTL_FRAMES w ≠ 0 ∧ flag F.CNV_CAL_CTL_BUSY s = false ∧ s.conv.winPend = false) ∧
    (∃ (s : State) (m : Master) (w : Word), s.Inv ∧ Writable m R.CNV_CAL_CTL s ∧ arg F.CNV_CAL_CTL_START w = 1 ∧ (flag F.CNV_CAL_CTL_BUSY s = true ∨ s.conv.winPend = true)) ∧
    (∃ (s : State) (edges : Nat), s.Inv ∧ flag F.CNV_CAL_CTL_BUSY s = true ∧ s.conv.winLeft = 0 ∧ s.conv.winEnergy < 2 ^ 64 ∧ edges < 2 ^ 32) :=
  ⟨⟨{ st [(F.PMU_DOM_STATUS_ON, 0x7FF), (F.OBJ_STATUS_LEGAL_SESSION, 1), (F.OBJ_STATUS_CAL_EN, 1), (F.CNV_CHAN_GAIN_GAIN 3, 0x3FEFF1)] with cis := { b2 := { chgUsed := 255 } } }, .engine 1, wd [(F.CNV_CAL_CTL_COMMIT, 1)], by decide⟩,
    ⟨st [(F.PMU_DOM_STATUS_ON, 0x7FF), (F.OBJ_STATUS_LEGAL_SESSION, 1)], .engine 1, wd [(F.CNV_CAL_CTL_COMMIT, 1)], by decide⟩,
    ⟨st [(F.PMU_DOM_STATUS_ON, 0x7FF)], .engine 1, wd [(F.CNV_CAL_CTL_START, 1), (F.CNV_CAL_CTL_FRAMES, 4095), (F.CNV_CAL_CTL_PHASE, 2)], by decide⟩,
    ⟨st [(F.PMU_DOM_STATUS_ON, 0x7FF), (F.CNV_CAL_CTL_BUSY, 1)], .engine 1, wd [(F.CNV_CAL_CTL_START, 1), (F.CNV_CAL_CTL_FRAMES, 1)], by decide⟩,
    ⟨{ st [(F.CNV_CAL_CTL_BUSY, 1)] with conv := { winEnergy := 19185800000 } }, 19167, by decide⟩⟩

/-- Each clause of `ChainAndReference` has a state and operands that meet its hypotheses. -/
theorem wit_ChainAndReference :
    (∃ (s : State) (m : Master) (w : Word), s.Inv ∧ Writable m R.FLT_CTL s ∧ arg F.FLT_CTL_KEY w = 0x5A ∧ arg F.FLT_CTL_RUN w = 0 ∧ legalOk s = true ∧ legalFits 1 s = true ∧ flag F.FLT_STATUS_STOPPED s = false) ∧
    (∃ (s : State) (m : Master) (w : Word), s.Inv ∧ Writable m R.FLT_CTL s ∧ arg F.FLT_CTL_KEY w = 0x5A ∧ arg F.FLT_CTL_RUN w = 1 ∧ legalOk s = true ∧ legalFits 1 s = true ∧ flag F.FLT_STATUS_STOPPED s = true ∧ get F.FLT_STATUS_TRK_STATE s = 0) ∧
    (∃ (s : State), s.Inv ∧ metroOn s = true ∧ get F.FLT_STATUS_TRK_STATE s = 3 ∧ s.metro.pos = 0 ∧ get F.FLT_TRK_CTL_HOLD_MAX s ≤ get F.FLT_STATUS_HOLD_RUN s ∧ (s.metro.holdLow = false ∨ nextRef s = some (get F.FLT_STATUS_TRK_REF s))) ∧
    (∃ (s : State) (c : Nat), s.Inv ∧ metroOn s = true ∧ get F.FLT_STATUS_TRK_STATE s = 3 ∧ s.metro.pos = 0 ∧ get F.FLT_TRK_CTL_HOLD_MAX s ≤ get F.FLT_STATUS_HOLD_RUN s ∧ s.metro.holdLow = true ∧ nextRef s = some c ∧ c ≠ get F.FLT_STATUS_TRK_REF s) ∧
    (∃ (s : State), s.Inv ∧ metroOn s = true ∧ get F.FLT_STATUS_TRK_STATE s = 3 ∧ s.metro.pos = 0 ∧ get F.FLT_TRK_CTL_HOLD_MAX s ≤ get F.FLT_STATUS_HOLD_RUN s ∧ s.metro.holdLow = true ∧ nextRef s = none) ∧
    (∃ (s : State), metroOn s = true ∧ get F.FLT_STATUS_TRK_STATE s = 2 ∧ onFallback s = true ∧ 3600 ≤ s.metro.fallbackSecs) :=
  ⟨⟨st [(F.PMU_DOM_STATUS_ON, 0x7FF), (F.OBJ_STATUS_LEGAL_SESSION, 1), (F.OBJ_STATUS_CAL_EN, 1), (F.PHE_PROFILE_CTL_PENDING, 1), (F.FLT_CTL_RUN, 1)], .engine 1, wd [(F.FLT_CTL_KEY, 0x5A)], by decide⟩,
    ⟨{ st [(F.PMU_DOM_STATUS_ON, 0x7FF), (F.OBJ_STATUS_LEGAL_SESSION, 1), (F.OBJ_STATUS_CAL_EN, 1), (F.FLT_STATUS_STOPPED, 1), (F.FLT_TRK_CTL_REF_PREF, 2), (F.PHE_FRAME_POS_NOMINAL, 1)] with metro := { spc := 128, chainDown := true } }, .engine 1, wd [(F.FLT_CTL_KEY, 0x5A), (F.FLT_CTL_RUN, 1)], by decide⟩,
    ⟨{ st [(F.PMU_DOM_STATUS_ON, 0x7FF), (F.FLT_STATUS_TRK_STATE, 3), (F.FLT_STATUS_HOLD_RUN, 5), (F.FLT_TRK_CTL_HOLD_MAX, 5)] with metro := { holdLow := false }, en := { flags := 4 } }, by decide⟩,
    ⟨{ st [(F.PMU_DOM_STATUS_ON, 0x7FF), (F.FLT_STATUS_TRK_STATE, 3), (F.FLT_STATUS_TRK_REF, 2), (F.PHE_CFG_WIRING, 2), (F.CNV_MAP_SLICE, 0x76543210)] with metro := { holdLow := true, fallbackSecs := 7 } }, 0, by decide⟩,
    ⟨{ st [(F.PMU_DOM_STATUS_ON, 0x7FF), (F.FLT_STATUS_TRK_STATE, 3), (F.PHE_CFG_VNOM, 230)] with metro := { holdLow := true } }, by decide⟩,
    ⟨{ st [(F.PMU_DOM_STATUS_ON, 0x7FF), (F.FLT_STATUS_TRK_STATE, 2), (F.FLT_STATUS_TRK_REF, 1)] with metro := { fallbackSecs := 3600 } }, by decide⟩⟩

/-- Each clause of `WindowComparators` has a state and operands that meet its hypotheses. -/
theorem wit_WindowComparators :
    (∃ (s : State) (comp frac : Nat), s.Inv ∧ comp < 16 ∧ winLive comp s = true ∧ flag (F.FLT_WIN_CFG_ACTIVE comp) s = false ∧ get (F.FLT_WIN_CFG_PERSIST comp) s ≤ nth 0 s.metro.winCount comp ∧ 0 < nth 0 s.metro.winCount comp ∧ get (F.FLT_WIN_CFG_SRC comp) s ≠ 2) ∧
    (∃ (s : State) (comp : Nat), s.Inv ∧ comp < 16 ∧ flag (F.FLT_WIN_CFG_ACTIVE comp) s = true ∧ get (F.FLT_WIN_CFG_PERSIST comp) s ≤ nth 0 s.metro.winBack comp ∧ 0 < nth 0 s.metro.winBack comp) ∧
    (∃ (s : State) (m : Master) (w : Word) (comp : Nat), s.Inv ∧ comp < 16 ∧ Writable m (R.FLT_WIN_CFG comp) s ∧ arg (F.FLT_WIN_CFG_PERSIST comp) w ≠ 0) ∧
    (∃ (s : State) (m : Master) (w : Word) (comp : Nat), s.Inv ∧ comp < 16 ∧ Writable m (R.FLT_WIN_CFG comp) s ∧ arg (F.FLT_WIN_CFG_PERSIST comp) w = 0) :=
  ⟨⟨{ st [(F.PMU_DOM_STATUS_ON, 0x7FF), (F.PHE_FRAME_POS_VALID, 1), (F.PHE_CFG_WIRING, 2), (F.CNV_MAP_SLICE, 0x76543210), (F.FLT_WIN_CFG_EN 15, 1), (F.FLT_WIN_CFG_PERSIST 15, 2)] with metro := { pos := 9, winCount := List.replicate 16 2 } }, 15, 300, by decide⟩,
    ⟨{ st [(F.PMU_DOM_STATUS_ON, 0x7FF), (F.FLT_WIN_CFG_ACTIVE 3, 1)] with metro := { winBack := List.replicate 16 1 } }, 3, by decide⟩,
    ⟨st [(F.PMU_DOM_STATUS_ON, 0x7FF), (F.FLT_WIN_CFG_ACTIVE 15, 1)], .engine 1, wd [(F.FLT_WIN_CFG_PERSIST 15, 3), (F.FLT_WIN_CFG_EN 15, 1), (F.FLT_WIN_CFG_CHAN 15, 7)], 15, by decide⟩,
    ⟨st [(F.PMU_DOM_STATUS_ON, 0x7FF)], .engine 2, wd [(F.FLT_WIN_CFG_EN 0, 1)], 0, by decide⟩⟩

/-- Each clause of `SamplesCyclesFrames` has a state and operands that meet its hypotheses. -/
theorem wit_SamplesCyclesFrames :
    (∃ (s : State) (codes : List (List Nat)), s.Inv ∧ metroOn s = true) ∧
    (∃ (s : State), metroOn s = true ∧ 0 < s.metro.pos ∧ s.metro.pos % (s.metro.spc / 2) = 0 ∧ s.metro.spc ≤ s.metro.hcAge ∧ framesRun s = true ∧ domOn 3 s = false ∧ (List.range 16).all (fun n => get (F.FLT_WIN_CFG_SRC n) s != 2) = true ∧ liveVolts s ≠ [] ∧ (∀ c, c ∈ liveVolts s → 6 * get F.PHE_CFG_VNOM s * 2 ^ 23 ≤ nth 0 (halfCycleRms s) c * scale c s)) ∧
    (∃ (s : State), metroOn s = true ∧ 0 < s.metro.pos ∧ s.metro.pos % (s.metro.spc / 2) = 0 ∧ s.metro.spc ≤ s.metro.hcAge ∧ framesRun s = true ∧ domOn 3 s = false ∧ (List.range 16).all (fun n => get (F.FLT_WIN_CFG_SRC n) s != 2) = true ∧ liveVolts s ≠ [] ∧ s.en.pfArmed = true ∧ flag F.PHE_CFG_PF_VOLT s = true ∧ (∀ c, c ∈ liveVolts s → nth 0 (halfCycleRms s) c * scale c s < 6 * get F.PHE_CFG_VNOM s * 2 ^ 23)) ∧
    (∃ (s : State), s.Inv ∧ atCycleEnd s = true ∧ framesRun s = true ∧ get F.PHE_CFG_WIRING s = 1 ∧ flag F.PHE_CFG_BILL_LARGER s = false ∧ s.en.acc.length = 40 ∧ noLoad (fbit F.NRG_STATUS_NOLOAD_ACT 0 s) (phaseCycle 0 3 s).p (get (F.NRG_CREEP_ACT 0) s) = false ∧ 0 ≤ energyOf s.metro.spc (phaseCycle 0 3 s).p s) ∧
    (∃ (s : State), s.Inv ∧ metroOn s = true ∧ flag F.PHE_FRAME_POS_VALID s = false ∧ get F.FLT_STATUS_TRK_STATE s = 2 ∧ s.metro.pos = s.metro.cyc * s.metro.spc ∧ 0 < s.metro.cyc ∧ configured s = true ∧ s.metro.chainRestart = false ∧ s.metro.chainDown = false ∧ s.ld.rereadFrom = none ∧ s.sup.freeze = none) ∧
    (∃ (s : State), s.Inv ∧ metroOn s = true ∧ framesRun s = true ∧ s.metro.cyc = cyclesPerFrame s ∧ s.metro.pos = frameLen s ∧ s.metro.chainStop = false ∧ s.en.ring.length < 64 ∧ flag F.PHE_PROFILE_CTL_PENDING s = false) :=
  ⟨⟨{ st [(F.PMU_DOM_STATUS_ON, 0x7FF), (F.FLT_STATUS_TRK_STATE, 1), (F.FLT_TRK_STEP_STEP, 42949673)] with metro := { pos := 3 } }, List.replicate 10 (List.replicate 128 6), by decide⟩,
    ⟨{ st [(F.PMU_DOM_STATUS_ON, 0x7), (F.FLT_STATUS_TRK_STATE, 2), (F.PHE_FRAME_POS_VALID, 1), (F.PHE_CFG_WIRING, 2), (F.CNV_MAP_SLICE, 0x76543210), (F.PHE_SCALE_SCALE 0, 8388608), (F.PHE_SCALE_SCALE 1, 8388608), (F.PHE_SCALE_SCALE 2, 8388608), (F.PHE_CFG_VNOM, 1)] with metro := { spc := 2, pos := 1, hcAge := 2, hist := [[9, 9, 9], [9, 9, 9]] } }, by decide⟩,
    ⟨{ st [(F.PMU_DOM_STATUS_ON, 0x7), (F.FLT_STATUS_TRK_STATE, 2), (F.PHE_FRAME_POS_VALID, 1), (F.PHE_CFG_WIRING, 2), (F.CNV_MAP_SLICE, 0x76543210), (F.PHE_CFG_PF_VOLT, 1), (F.PHE_CFG_VNOM, 1)] with metro := { spc := 2, pos := 1, hcAge := 2, hist := [[9, 9, 9], [9, 9, 9]] }, en := { pfArmed := true } }, by decide⟩,
    ⟨{ st [(F.PMU_DOM_STATUS_ON, 0x7FF), (F.FLT_STATUS_TRK_STATE, 2), (F.PHE_FRAME_POS_VALID, 1), (F.PHE_CFG_WIRING, 1)] with metro := { spc := 2, pos := 2 } }, by decide⟩,
    ⟨{ st [(F.PMU_DOM_STATUS_ON, 0x7FF), (F.FLT_STATUS_TRK_STATE, 2)] with ld := { conf := 3 }, metro := { spc := 64, pos := 64, cyc := 1 } }, by decide⟩,
    ⟨{ st [(F.PMU_DOM_STATUS_ON, 0x7), (F.FLT_STATUS_TRK_STATE, 2), (F.PHE_FRAME_POS_VALID, 1), (F.PHE_FRAME_NUM_FRAME, 0xFFFFFFFF)] with metro := { spc := 4, pos := 40, cyc := 10 } }, by decide⟩⟩

/-- Each clause of `ProfileConditionsPulses` has a state and operands that meet its hypotheses. -/
theorem wit_ProfileConditionsPulses :
    (∃ (s : State) (m : Master) (w : Word), s.Inv ∧ Writable m R.PHE_PROFILE_CTL s ∧ arg F.PHE_PROFILE_CTL_REQ w ≠ 3 ∧ arg F.PHE_PROFILE_CTL_STAGE w = 1 ∧ flag F.PHE_PROFILE_CTL_PENDING s = false ∧ flag F.PHE_FRAME_POS_VALID s = true ∧ inPass s = false) ∧
    (∃ (s : State) (m : Master) (w : Word), s.Inv ∧ Writable m R.PHE_PROFILE_CTL s ∧ arg F.PHE_PROFILE_CTL_STAGE w = 1 ∧ (flag F.PHE_PROFILE_CTL_PENDING s = true ∨ flag F.PHE_FRAME_POS_VALID s = false ∨ arg F.PHE_PROFILE_CTL_REQ w = 3)) ∧
    (∃ (s : State), e7Up s = true) ∧
    (∃ (s : State), s.Inv ∧ metroOn s = true ∧ flag F.NRG_STATUS_IMBAL_ACTIVE s = false ∧ 1 ≤ s.en.imbalFrames ∧ get F.PHE_NEUT_CFG_PERSIST s ≤ s.en.imbalFrames) ∧
    (∃ (s : State) (phase : Nat), s.Inv ∧ metroOn s = true ∧ phase < 3 ∧ bit s.en.revOn phase = false ∧ 1 ≤ nth 0 s.en.revCount phase ∧ get F.PHE_TAMP_CFG_REV_PERSIST s ≤ nth 0 s.en.revCount phase) ∧
    (∃ (s : State) (k e : Nat) (l : List Nat), s.Inv ∧ k < 4 ∧ domOn 2 s = true ∧ flag (F.NRG_PULSE_CFG_EN k) s = true ∧ flag F.NRG_STATUS_PULSE_IDLE s = false ∧ flag F.NRG_STATUS_FROZEN s = false ∧ s.en.pulses.length = 4 ∧ (nth {} s.en.pulses k).edges = e :: l ∧ get (F.NRG_PULSE_STAT_BACKLOG k) s = 0 ∧ (∀ x, (nth {} s.en.pulses k).last = some x → x + 100 ≤ e)) ∧
    (∃ (s : State) (k e x : Nat) (l : List Nat), s.Inv ∧ k < 4 ∧ domOn 2 s = true ∧ flag (F.NRG_PULSE_CFG_EN k) s = true ∧ flag F.NRG_STATUS_PULSE_IDLE s = false ∧ flag F.NRG_STATUS_FROZEN s = false ∧ s.en.pulses.length = 4 ∧ (nth {} s.en.pulses k).edges = e :: l ∧ (nth {} s.en.pulses k).last = some x ∧ e < x + 100 ∧ get (F.NRG_PULSE_STAT_BACKLOG k) s < 65535) ∧
    (∃ (s : State) (k : Nat), k < 4 ∧ s.en.pulses.length = 4 ∧ (nth {} s.en.pulses k).active = true) :=
  ⟨⟨st [(F.PMU_DOM_STATUS_ON, 0x7FF), (F.PHE_FRAME_POS_VALID, 1), (F.PHE_PROFILE_ACK_MISSING, 3)], .engine 2, wd [(F.PHE_PROFILE_CTL_REQ, 1), (F.PHE_PROFILE_CTL_STAGE, 1)], by decide⟩,
    ⟨st [(F.PMU_DOM_STATUS_ON, 0x7FF), (F.PHE_FRAME_POS_VALID, 1), (F.PHE_PROFILE_CTL_PENDING, 1)], .engine 2, wd [(F.PHE_PROFILE_CTL_REQ, 2), (F.PHE_PROFILE_CTL_STAGE, 1)], by decide⟩,
    ⟨{ st [(F.PMU_DOM_STATUS_ON, 0x7FF)] with en := { e7Ready := false } }, by decide⟩,
    ⟨{ st [(F.PMU_DOM_STATUS_ON, 0x7FF), (F.FLT_STATUS_TRK_STATE, 2)] with en := { imbalFrames := 1 } }, by decide⟩,
    ⟨{ st [(F.PMU_DOM_STATUS_ON, 0x7FF), (F.FLT_STATUS_TRK_STATE, 2)] with en := { revCount := [0, 0, 5] } }, 2, by decide⟩,
    ⟨{ st [(F.PMU_DOM_STATUS_ON, 0x7FF), (F.NRG_PULSE_CFG_EN 3, 1), (F.NRG_PULSE_CNT_COUNT 3, 0xFFFFFFFF)] with en := { pulses := [{}, {}, {}, { edges := [500, 800], last := some 400 }] } }, 3, 500, [800], by decide⟩,
    ⟨{ st [(F.PMU_DOM_STATUS_ON, 0x7FF), (F.NRG_PULSE_CFG_EN 0, 1)] with en := { pulses := [{ edges := [499], last := some 400 }, {}, {}, {}] } }, 0, 499, 400, [], by decide⟩,
    ⟨{ ({} : State) with en := { pulses := [{}, {}, {}, { active := true }] } }, 3, by decide⟩⟩

/-- Each clause of `SpectrumAndEvents` has a state and operands that meet its hypotheses. -/
theorem wit_SpectrumAndEvents :
    (∃ (s : State) (f : FrameSet) (l : List FrameSet), s.Inv ∧ e7Up s = true ∧ s.en.e7Ready = true ∧ s.spec.waiting = f :: l ∧ f.starts = false ∧ s.spec.agg.n < 15) ∧
    (∃ (s : State) (f : FrameSet) (l : List FrameSet), s.Inv ∧ e7Up s = true ∧ s.en.e7Ready = true ∧ s.spec.waiting = f :: l ∧ (f.starts = true ∨ 15 ≤ s.spec.agg.n) ∧ 1 ≤ s.spec.agg.n) ∧
    (∃ (s : State), s.Inv ∧ e7Up s = true ∧ 1 ≤ s.spec.agg.n ∧ (15 ≤ s.spec.agg.n ∨ blockEnded s = true)) ∧
    (∃ (s : State) (w : Nat), s.Inv ∧ domOn 8 s = true ∧ domOn 9 s = true ∧ (e7Works s = false ∨ profile s ≠ 0 ∨ flag F.SPE_CFG_SH_EN s = false)) ∧
    (∃ (s : State) (ws : List Nat), s.Inv ∧ domOn 8 s = true ∧ domOn 9 s = true ∧ e7Works s = true ∧ profile s = 0 ∧ flag F.SPE_CFG_SH_EN s = true ∧ flag F.SPE_STATUS_SH_RUN s = true ∧ s.lmd.shNext + 8192 < s.lmd.adc + ws.length) ∧
    (∃ (s : State) (ws : List Nat), s.Inv ∧ domOn 8 s = true ∧ domOn 9 s = true ∧ e7Works s = true ∧ profile s = 0 ∧ flag F.SPE_CFG_SH_EN s = true ∧ flag F.SPE_STATUS_SH_RUN s = true ∧ s.lmd.adc + ws.length < s.lmd.shNext + 5000) ∧
    (∃ (s : State) (ws : List Nat), s.Inv ∧ domOn 8 s = true ∧ domOn 9 s = true ∧ e7Works s = true ∧ profile s = 0 ∧ flag F.SPE_CFG_SH_EN s = true ∧ flag F.SPE_STATUS_SH_RUN s = true ∧ s.lmd.shNext + 5000 ≤ s.lmd.adc + ws.length ∧ s.lmd.adc + ws.length ≤ s.lmd.shNext + 8192) ∧
    (∃ (s : State) (m : Master) (w : Word) (r : PqRec) (l : List PqRec), s.Inv ∧ Writable m R.SPE_EVT_CTL s ∧ arg F.SPE_EVT_CTL_POP w = 1 ∧ s.spec.fifo = r :: l ∧ l.length < 16 ∧ s.cis.b0.spread.length = 7 ∧ get F.CIS_STATUS_COPYING s = 0) :=
  ⟨⟨{ st [(F.PMU_DOM_STATUS_ON, 0x7FF)] with spec := { waiting := [{ num := 65537, status := 1, usable := 3 }, {}] } }, { num := 65537, status := 1, usable := 3 }, [{}], by decide⟩,
    ⟨{ st [(F.PMU_DOM_STATUS_ON, 0x7FF)] with spec := { agg := { n := 15, last := 9, disturbed := true }, waiting := [{ num := 10 }] } }, { num := 10 }, [], by decide⟩,
    ⟨{ st [(F.PMU_DOM_STATUS_ON, 0x7FF)] with spec := { agg := { n := 3, cut := true, last := 12, bands := [(2, 50), (0, 0)] } } }, by decide⟩,
    ⟨{ st [(F.PMU_DOM_STATUS_ON, 0x7FF)] with lmd := { adc := 8191, tx := some {} } }, 0x8003, by decide⟩,
    ⟨{ st [(F.PMU_DOM_STATUS_ON, 0x7FF), (F.SPE_CFG_SH_EN, 1), (F.SPE_STATUS_SH_RUN, 1), (F.SPE_SH_STAT_DROPPED, 0xFFFF)] with en := { e7Ready := true }, lmd := { adc := 8193 } }, [5], by decide⟩,
    ⟨{ st [(F.PMU_DOM_STATUS_ON, 0x7FF), (F.SPE_CFG_SH_EN, 1), (F.SPE_STATUS_SH_RUN, 1)] with en := { e7Ready := true }, lmd := { adc := 4998 } }, [5], by decide⟩,
    ⟨{ st [(F.PMU_DOM_STATUS_ON, 0x7FF), (F.SPE_CFG_SH_EN, 1), (F.SPE_STATUS_SH_RUN, 1)] with en := { e7Ready := true }, lmd := { adc := 4999 } }, [5], by decide⟩,
    ⟨{ st [(F.PMU_DOM_STATUS_ON, 0x7FF)] with spec := { fifo := [{ seq := 257, kind := 1, chan := 2 }, { kind := 2 }] } }, .engine 2, wd [(F.SPE_EVT_CTL_POP, 1)], { seq := 257, kind := 1, chan := 2 }, [{ kind := 2 }], by decide⟩⟩

/-- Each clause of `WaveformCapture` has a state and operands that meet its hypotheses. -/
theorem wit_WaveformCapture :
    (∃ (s : State) (m : Master) (w : Word) (k : Nat), s.Inv ∧ Writable m R.SPE_CAP_CTL s ∧ arg F.SPE_CAP_CTL_ARM w = 1 ∧ arg F.SPE_CAP_CTL_FORCE w = 0 ∧ arg F.SPE_CAP_CTL_ABORT w = 0 ∧ inPass s = false ∧ get F.SPE_CAP_STATUS_STATE s = 0 ∧ freeSlot 0 s = some k) ∧
    (∃ (s : State) (m : Master) (w : Word), s.Inv ∧ Writable m R.SPE_CAP_CTL s ∧ arg F.SPE_CAP_CTL_ARM w = 1 ∧ arg F.SPE_CAP_CTL_FORCE w = 0 ∧ arg F.SPE_CAP_CTL_ABORT w = 0 ∧ inPass s = true) ∧
    (∃ (s : State) (m : Master) (w : Word), s.Inv ∧ Writable m R.SPE_CAP_CTL s ∧ domOn 3 s = true ∧ arg F.SPE_CAP_CTL_ARM w = 0 ∧ arg F.SPE_CAP_CTL_FORCE w = 1 ∧ arg F.SPE_CAP_CTL_ABORT w = 0 ∧ get F.SPE_CAP_STATUS_STATE s = 1 ∧ soundingRuns s = false) ∧
    (∃ (s : State) (m : Master) (w : Word), s.Inv ∧ Writable m R.SPE_CAP_CTL s ∧ arg F.SPE_CAP_CTL_ARM w = 0 ∧ arg F.SPE_CAP_CTL_FORCE w = 0 ∧ arg F.SPE_CAP_CTL_ABORT w = 1 ∧ get F.SPE_CAP_STATUS_STATE s ≠ 2) ∧
    (∃ (s : State) (m : Master) (w : Word), s.Inv ∧ Writable m R.SPE_CAP_CTL s ∧ arg F.SPE_CAP_CTL_ARM w = 0 ∧ arg F.SPE_CAP_CTL_FORCE w = 0 ∧ arg F.SPE_CAP_CTL_ABORT w = 1 ∧ get F.SPE_CAP_STATUS_STATE s = 2) ∧
    (∃ (s : State), s.Inv ∧ domOn 3 s = true ∧ get F.SPE_CAP_STATUS_STATE s = 2 ∧ capTotal s ≤ s.cap.written ∧ flag F.SPE_CAP_CFG_MODE s = false ∧ disturbedSoFar s = false) ∧
    (∃ (s : State), s.Inv ∧ domOn 3 s = true ∧ get F.SPE_CAP_STATUS_STATE s = 2 ∧ capTotal s ≤ s.cap.written ∧ flag F.SPE_CAP_CFG_MODE s = false ∧ disturbedSoFar s = true) ∧
    (∃ (s : State) (m : Master) (w : Word), s.Inv ∧ Writable m R.SPE_CAP_FULL s ∧ get F.SPE_CAP_STATUS_STATE s ≠ 3) ∧
    (∃ (s : State) (m : Master) (w : Word), s.Inv ∧ Writable m R.SPE_CAP_CFG s ∧ get F.SPE_CAP_STATUS_STATE s = 0 ∧ arg F.SPE_CAP_CFG_CHANS w ≠ 0) ∧
    (∃ (s : State) (m : Master) (w : Word), s.Inv ∧ Writable m R.SPE_CAP_CFG s ∧ (get F.SPE_CAP_STATUS_STATE s ≠ 0 ∨ arg F.SPE_CAP_CFG_CHANS w = 0)) :=
  ⟨⟨st [(F.PMU_DOM_STATUS_ON, 0x7FF), (F.SPE_CAP_CFG_SLOTS, 7), (F.SPE_CAP_FULL_SLOT, 0x7F)], .engine 2, wd [(F.SPE_CAP_CTL_ARM, 1)], 7, by decide⟩,
    ⟨st [(F.PMU_DOM_STATUS_ON, 0x7FF), (F.PHE_PROFILE_CTL_ACTIVE, 2)], .engine 2, wd [(F.SPE_CAP_CTL_ARM, 1)], by decide⟩,
    ⟨{ st [(F.PMU_DOM_STATUS_ON, 0x7FF), (F.SPE_CAP_STATUS_STATE, 1), (F.PHE_FRAME_POS_VALID, 1), (F.PHE_FRAME_NUM_FRAME, 7)] with metro := { pos := 5, hist := [[1, 2, 3], [4, 5]] }, cap := { kept := 1 } }, .engine 2, wd [(F.SPE_CAP_CTL_FORCE, 1)], by decide⟩,
    ⟨st [(F.PMU_DOM_STATUS_ON, 0x7FF), (F.SPE_CAP_STATUS_STATE, 1)], .engine 2, wd [(F.SPE_CAP_CTL_ABORT, 1)], by decide⟩,
    ⟨st [(F.PMU_DOM_STATUS_ON, 0x7FF), (F.SPE_CAP_STATUS_STATE, 2)], .engine 2, wd [(F.SPE_CAP_CTL_ABORT, 1)], by decide⟩,
    ⟨{ st [(F.PMU_DOM_STATUS_ON, 0x7FF), (F.SPE_CAP_STATUS_STATE, 2), (F.SPE_CAP_STATUS_SLOT, 3)] with cap := { seq := 0xFFFFFFFF } }, by decide⟩,
    ⟨{ st [(F.PMU_DOM_STATUS_ON, 0x7FF), (F.SPE_CAP_STATUS_STATE, 2), (F.SPE_CAP_STATUS_SLOT, 3)] with cap := { seq := 8 }, spec := { marks := 2 } }, by decide⟩,
    ⟨{ st [(F.PMU_DOM_STATUS_ON, 0x7FF), (F.SPE_CAP_FULL_SLOT, 0x83)] with cap := { order := [1, 7, 0] } }, .engine 2, wd [(F.SPE_CAP_FULL_SLOT, 0x81)], by decide⟩,
    ⟨st [(F.PMU_DOM_STATUS_ON, 0x7FF)], .engine 2, wd [(F.SPE_CAP_CFG_CHANS, 0x81), (F.SPE_CAP_CFG_PRE, 100), (F.SPE_CAP_CFG_SLOTS, 7)], by decide⟩,
    ⟨st [(F.PMU_DOM_STATUS_ON, 0x7FF), (F.SPE_CAP_STATUS_STATE, 3)], .engine 2, wd [(F.SPE_CAP_CFG_CHANS, 0x81)], by decide⟩⟩

/-- Each clause of `SecondsAndBilling` has a state and operands that meet its hypotheses. -/
theorem wit_SecondsAndBilling :
    (∃ (s : State), s.Inv ∧ s.sup.mode ≠ .running ∧ s.sup.mode ≠ .loading) ∧
    (∃ (s : State), s.Inv ∧ s.sup.mode = .loading ∧ flag F.NRG_STATUS_FROZEN s = false ∧ domOn 2 s = true ∧ slewLeft s = 0) ∧
    (∃ (s : State), s.Inv ∧ s.sup.mode = .running ∧ flag F.NRG_STATUS_FROZEN s = false ∧ configured s = true ∧ s.bil.restored = true ∧ domOn 2 s = true ∧ e1Up s = true ∧ domOn 5 s = true ∧ bit s.sup.quarantined 2 = true ∧ s.bil.adj = none ∧ s.bil.missedFrom = none ∧ slewLeft s = 0) ∧
    (∃ (s : State) (n : Nat), s.Inv ∧ e1Up s = true ∧ flag F.NRG_STATUS_FROZEN s = false ∧ s.bil.missedFrom = some n ∧ n ≤ rtc s) ∧
    (∃ (s : State) (m : Master) (w : Word), Writable m R.BIL_CTL s ∧ arg F.BIL_CTL_CLOSE w = 1 ∧ arg F.BIL_CTL_KEY w = 0xC3 ∧ guarded s = false ∧ flag F.BIL_STATUS_RESTORING s = false) ∧
    (∃ (s : State) (m : Master) (w : Word), s.Inv ∧ Writable m R.BIL_CTL s ∧ arg F.BIL_CTL_CLOSE w = 1 ∧ arg F.BIL_CTL_KEY w = 0xC3 ∧ (guarded s = true ∨ flag F.BIL_STATUS_RESTORING s = true)) ∧
    (∃ (s : State) (m : Master) (w : Word) (src osrc : Nat), Writable m R.TAR_ADJ_REQ s ∧ w ≠ 0) :=
  ⟨⟨{ st [(F.SUP_RTC_SEC_SEC, 0xFFFFFFFF), (F.TAR_STATUS_SLEWING, 1)] with sup := { mode := .outage } }, by decide⟩,
    ⟨{ st [(F.PMU_DOM_STATUS_ON, 0x7FF), (F.SUP_RTC_SEC_SEC, 41)] with sup := { mode := .loading } }, by decide⟩,
    ⟨{ st [(F.PMU_DOM_STATUS_ON, 0x7FF), (F.SUP_RTC_SEC_SEC, 41)] with sup := { mode := .running, quarantined := 4 }, ld := { conf := 3 }, bil := { restored := true } }, by decide⟩,
    ⟨{ st [(F.PMU_DOM_STATUS_ON, 0x7FF), (F.SUP_RTC_SEC_SEC, 41)] with sup := { mode := .running }, ld := { conf := 3 }, bil := { restored := true, missedFrom := some 40 } }, 40, by decide⟩,
    ⟨{ st [(F.PMU_DOM_STATUS_ON, 0x7FF)] with ld := { guard := false } }, .engine 1, wd [(F.BIL_CTL_CLOSE, 1), (F.BIL_CTL_KEY, 0xC3)], by decide⟩,
    ⟨st [(F.PMU_DOM_STATUS_ON, 0x7FF)], .engine 1, wd [(F.BIL_CTL_CLOSE, 1), (F.BIL_CTL_KEY, 0xC3)], by decide⟩,
    ⟨st [(F.PMU_DOM_STATUS_ON, 0x7FF)], .engine 2, 0xFFFFFFFE, 2, 77, by decide⟩⟩

/-- Each clause of `CreditAndTokens` has a state and operands that meet its hypotheses. -/
theorem wit_CreditAndTokens :
    (∃ (s : State) (p : Prepay) (rate e : Nat), s.ld.tables.prepay = some p) ∧
    (∃ (s : State) (p : Prepay) (n tid : Nat) (t : Token), s.ld.tables.prepay = some p ∧ (convert p n s.pay.cur).1 ≤ p.creditMax ∧ s.pay.cur.resid < 10 ^ 6) ∧
    (∃ (s : State) (m : Master) (w : Word) (p : Prepay), s.Inv ∧ Writable m R.PAY_TOKEN_CTL s ∧ arg F.PAY_TOKEN_CTL_SUBMIT w = 0 ∧ arg F.PAY_TOKEN_CTL_EC_REQ w = 1 ∧ s.ld.tables.prepay = some p ∧ p.ecEn = true ∧ s.pay.ec = false ∧ s.pay.cur.credit ≤ p.ecOffer) ∧
    (∃ (s : State) (m : Master) (w : Word), s.Inv ∧ Writable m R.PAY_TOKEN_CTL s ∧ arg F.PAY_TOKEN_CTL_SUBMIT w = 0 ∧ arg F.PAY_TOKEN_CTL_EC_REQ w = 1 ∧ (∀ p, s.ld.tables.prepay = some p → p.ecEn = true → s.pay.ec = false → p.ecOffer < s.pay.cur.credit)) ∧
    (∃ (s : State) (m : Master) (w : Word), Writable m R.PAY_TOKEN_CTL s ∧ arg F.PAY_TOKEN_CTL_SUBMIT w = 0 ∧ arg F.PAY_TOKEN_CTL_EC_REQ w = 0) ∧
    (∃ (s : State) (m : Master) (w : Word) (k : Token), s.Inv ∧ Writable m R.PAY_TOKEN_CTL s ∧ arg F.PAY_TOKEN_CTL_SUBMIT w = 1 ∧ arg F.PAY_TOKEN_CTL_EC_REQ w = 0 ∧ s.pay.dec = none ∧ s.pay.queue = [] ∧ guarded s = false ∧ activationWaits s = false ∧ k = { bits := tokenBits s, source := arg F.PAY_TOKEN_CTL_SOURCE w }) ∧
    (∃ (s : State) (m : Master) (w : Word), s.Inv ∧ Writable m R.PAY_TOKEN_CTL s ∧ arg F.PAY_TOKEN_CTL_SUBMIT w = 1 ∧ arg F.PAY_TOKEN_CTL_EC_REQ w = 0 ∧ s.pay.dec.isSome = true ∧ s.pay.queue.length < 4) ∧
    (∃ (s : State) (m : Master) (w : Word), s.Inv ∧ Writable m R.PAY_TOKEN_CTL s ∧ arg F.PAY_TOKEN_CTL_SUBMIT w = 1 ∧ arg F.PAY_TOKEN_CTL_EC_REQ w = 0 ∧ 4 ≤ s.pay.queue.length) ∧
    (∃ (s : State) (bytes : List Byte) (source : Nat) (reply : Reply) (k : Token), s.Inv ∧ domOn 5 s = true ∧ s.pay.dec = none ∧ s.pay.queue = [] ∧ guarded s = false ∧ activationWaits s = false ∧ k = { remote := some bytes, source := source, reply := reply }) ∧
    (∃ (s : State) (bytes : List Byte) (source : Nat) (reply : Reply), s.Inv ∧ domOn 5 s = true ∧ s.pay.dec.isSome = true ∧ s.pay.queue.length < 4) ∧
    (∃ (s : State) (bytes : List Byte) (source : Nat), s.Inv ∧ domOn 5 s = true ∧ 4 ≤ s.pay.queue.length) ∧
    (∃ (s : State) (k : Token), s.Inv ∧ e2Up s = true ∧ s.pay.dec = some k ∧ k.reply = .nobody ∧ s.pay.queue = [] ∧ (s.pay.decBlanked = true ∨ blanking s = true)) ∧
    (∃ (s : State) (k : Token) (c : Nat), s.Inv ∧ e2Up s = true ∧ s.pay.dec = some k ∧ k.reply = .nobody ∧ (tokenOutcome k s).1 = some c ∧ (tokenOutcome k s).2.2.pay.queue = []) ∧
    (∃ (s : State), (s.pay.dec = none ∨ e2Up s = false)) ∧
    (∃ (s : State), s.pay.sections ≠ [] ∧ s.pay.sectSince + 1024 * 86400 ≤ s.sup.mono) ∧
    (∃ (s : State), (s.pay.sections = [] ∨ s.sup.mono < s.pay.sectSince + 1024 * 86400)) ∧
    (∃ (s : State) (x : Nat), s.Inv ∧ e2Up s = true ∧ s.rly.mplFrom = some x ∧ flag F.PAY_STATUS_MPL_TRIP s = false ∧ (mplTimes s).1 * 2 ^ 39 ≤ s.metro.clock - x) ∧
    (∃ (s : State), (s.rly.mplFrom = none ∨ e2Up s = false ∨ flag F.PAY_STATUS_MPL_TRIP s = true)) ∧
    (∃ (s : State), s.Inv ∧ e2Up s = true ∧ flag F.PAY_STATUS_MPL_TRIP s = true ∧ (s.rly.mplSetAt + 1024 * (mplTimes s).2 ≤ s.sup.mono ∨ s.pay.cur.mpl = 0)) ∧
    (∃ (s : State), (e2Up s = false ∨ flag F.PAY_STATUS_MPL_TRIP s = false ∨ (s.sup.mono < s.rly.mplSetAt + 1024 * (mplTimes s).2 ∧ s.pay.cur.mpl ≠ 0))) :=
  ⟨⟨{ ({} : State) with ld := { tables := { prepay := some { ratePrice := [7] } } }, pay := { cur := { resid := 999999 } } }, { ratePrice := [7] }, 1, 3, by decide⟩,
    ⟨{ ({} : State) with ld := { tables := { prepay := some { tokenPrice := 15, creditMax := 100 } } }, pay := { cur := { resid := 100 } } }, { tokenPrice := 15, creditMax := 100 }, 3, 7, {}, by decide⟩,
    ⟨{ st [(F.PMU_DOM_STATUS_ON, 0x7FF), (F.PAY_STATUS_STATE, 3)] with ld := { tables := { prepay := some { ecEn := true, ecLimit := 5 } } } }, .engine 2, wd [(F.PAY_TOKEN_CTL_EC_REQ, 1)], { ecEn := true, ecLimit := 5 }, by decide⟩,
    ⟨{ st [(F.PMU_DOM_STATUS_ON, 0x7FF)] with ld := { tables := { prepay := some { ecEn := true } } }, pay := { ec := true } }, .engine 2, wd [(F.PAY_TOKEN_CTL_EC_REQ, 1)], by decide⟩,
    ⟨st [(F.PMU_DOM_STATUS_ON, 0x7FF)], .engine 2, wd [(F.PAY_TOKEN_CTL_SOURCE, 1)], by decide⟩,
    ⟨{ st [(F.PMU_DOM_STATUS_ON, 0x7FF)] with ld := { guard := false }, hidden := [(R.PAY_TOKEN 0, 5), (R.PAY_TOKEN 2, 7)] }, .engine 2, wd [(F.PAY_TOKEN_CTL_SUBMIT, 1), (F.PAY_TOKEN_CTL_SOURCE, 1)], { bits := 5 + 3 * 2 ^ 64, source := 1 }, by decide⟩,
    ⟨{ st [(F.PMU_DOM_STATUS_ON, 0x7FF)] with pay := { dec := some {}, queue := [{ bits := 1 }, {}, {}] } }, .engine 2, wd [(F.PAY_TOKEN_CTL_SUBMIT, 1)], by decide⟩,
    ⟨{ st [(F.PMU_DOM_STATUS_ON, 0x7FF), (F.PAY_TOKEN_RES_SEQ, 0xFFFF)] with pay := { queue := [{}, {}, {}, {}] } }, .engine 2, wd [(F.PAY_TOKEN_CTL_SUBMIT, 1), (F.PAY_TOKEN_CTL_SOURCE, 2)], by decide⟩,
    ⟨{ st [(F.PMU_DOM_STATUS_ON, 0x7FF)] with ld := { guard := false } }, [1, 2], 2, .nobody, { remote := some [1, 2], source := 2 }, by decide⟩,
    ⟨{ st [(F.PMU_DOM_STATUS_ON, 0x7FF)] with pay := { dec := some {}, queue := [{ bits := 1 }] } }, [1, 2], 2, .nobody, by decide⟩,
    ⟨{ st [(F.PMU_DOM_STATUS_ON, 0x7FF), (F.PAY_TOKEN_RES_SEQ, 0xFFFF)] with pay := { queue := [{}, {}, {}, {}] } }, [1], 2, by decide⟩,
    ⟨{ st [(F.PMU_DOM_STATUS_ON, 0x7FF)] with sup := { mode := .running }, ld := { conf := 3 }, pay := { dec := some { bits := 9, source := 1 }, decBlanked := true } }, { bits := 9, source := 1 }, by decide⟩,
    ⟨{ st [(F.PMU_DOM_STATUS_ON, 0x7FF)] with sup := { mode := .running }, ld := { conf := 3 }, pay := { dec := some { remote := some [] } } }, { remote := some [] }, 4, by decide⟩,
    ⟨{}, by decide⟩,
    ⟨{ ({} : State) with sup := { mono := 88473601 }, pay := { sections := [(3, 0, 1, 2)], sectSince := 1 } }, by decide⟩,
    ⟨{ ({} : State) with sup := { mono := 88473600 }, pay := { sections := [(3, 0, 1, 2)], sectSince := 1 } }, by decide⟩,
    ⟨{ st [(F.PMU_DOM_STATUS_ON, 0x7FF)] with sup := { mode := .running, mono := 9 }, ld := { conf := 3, tables := { prepay := some { mplTime := 1 } } }, rly := { mplFrom := some 5 }, metro := { clock := 549755813893 } }, 5, by decide⟩,
    ⟨{}, by decide⟩,
    ⟨{ st [(F.PMU_DOM_STATUS_ON, 0x7FF), (F.PAY_STATUS_MPL_TRIP, 1)] with sup := { mode := .running, mono := 61449 }, ld := { conf := 3 }, rly := { mplFrom := some 5, mplSetAt := 9 }, pay := { cur := { mpl := 7 } } }, by decide⟩,
    ⟨{ st [(F.PMU_DOM_STATUS_ON, 0x7FF), (F.PAY_STATUS_MPL_TRIP, 1)] with sup := { mode := .running, mono := 9 }, ld := { conf := 3 }, pay := { cur := { mpl := 7 } } }, by decide⟩⟩

/-- Each clause of `RelayCommands` has a state and operands that meet its hypotheses. -/
theorem wit_RelayCommands :
    (∃ (s : State) (m : Master) (w : Word), s.Inv ∧ Writable m R.RLY_CTL s ∧ arg F.RLY_CTL_KEY w = 0x96 ∧ arg F.RLY_CTL_REMOTE_OPEN w = 1 ∧ arg F.RLY_CTL_REMOTE_CLOSE w = 0 ∧ arg F.RLY_CTL_LC_SHED w = 0 ∧ arg F.RLY_CTL_LC_RESTORE w = 0) ∧
    (∃ (s : State) (m : Master) (w : Word), s.Inv ∧ Writable m R.RLY_CTL s ∧ arg F.RLY_CTL_KEY w = 0x96 ∧ arg F.RLY_CTL_REMOTE_OPEN w = 0 ∧ arg F.RLY_CTL_REMOTE_CLOSE w = 1 ∧ arg F.RLY_CTL_LC_SHED w = 0 ∧ arg F.RLY_CTL_LC_RESTORE w = 0) ∧
    (∃ (s : State) (m : Master) (w : Word), Writable m R.RLY_CTL s ∧ arg F.RLY_CTL_KEY w = 0x96 ∧ arg F.RLY_CTL_REMOTE_OPEN w = 0 ∧ arg F.RLY_CTL_REMOTE_CLOSE w = 0 ∧ arg F.RLY_CTL_LC_SHED w = 1 ∧ arg F.RLY_CTL_LC_RESTORE w = 0) ∧
    (∃ (s : State) (m : Master) (w : Word), Writable m R.RLY_CTL s ∧ arg F.RLY_CTL_KEY w = 0x96 ∧ arg F.RLY_CTL_REMOTE_OPEN w = 0 ∧ arg F.RLY_CTL_REMOTE_CLOSE w = 0 ∧ arg F.RLY_CTL_LC_SHED w = 0 ∧ arg F.RLY_CTL_LC_RESTORE w = 1) ∧
    (∃ (s : State) (m : Master) (w : Word) (i : Instr), s.Inv ∧ Writable m R.RLY_CTL s ∧ (i = .remoteOpen m w ∨ i = .remoteClose m w ∨ i = .lcShed m w ∨ i = .lcRestore m w) ∧ (arg F.RLY_CTL_KEY w ≠ 0x96 ∨ (arg F.RLY_CTL_REMOTE_OPEN w = 1 ∧ arg F.RLY_CTL_REMOTE_CLOSE w = 1) ∨ (arg F.RLY_CTL_LC_SHED w = 1 ∧ arg F.RLY_CTL_LC_RESTORE w = 1))) ∧
    (∃ (s : State), s.Inv ∧ relaysOn s = true ∧ guarded s = false ∧ flag F.NRG_STATUS_FROZEN s = false ∧ get F.RLY_STATUS_REASONS s ≠ 0 ∧ flag F.RLY_STATUS_MAIN_CMD s = false) ∧
    (∃ (s : State), s.Inv ∧ e2Up s = true ∧ flag F.RLY_STATUS_LC_PENDING s = true ∧ relaysOn s = true ∧ driveHeld s = false ∧ lcWanted s ≠ flag F.RLY_STATUS_LC_STATE s ∧ lcWait (lcWanted s) s = 0 ∧ flag F.RLY_LC_CFG_LC_MODE s = false) ∧
    (∃ (s : State), s.Inv ∧ e2Up s = true ∧ flag F.RLY_STATUS_LC_PENDING s = true ∧ relaysOn s = true ∧ driveHeld s = false ∧ lcWanted s ≠ flag F.RLY_STATUS_LC_STATE s ∧ lcWait (lcWanted s) s = 0 ∧ flag F.RLY_LC_CFG_LC_MODE s = true ∧ s.rly.pulse = none ∧ s.rly.want = none ∧ s.rly.lcPulse = none) ∧
    (∃ (s : State), (e2Up s = false ∨ flag F.RLY_STATUS_LC_PENDING s = false ∨ relaysOn s = false ∨ driveHeld s = true ∨ lcWanted s = flag F.RLY_STATUS_LC_STATE s ∨ lcWait (lcWanted s) s ≠ 0)) ∧
    (∃ (s : State) (on : Bool), s.rly.lcPulse = some on ∧ s.rly.lcPulseWant = none) ∧
    (∃ (s : State), s.rly.lcPulse = none) :=
  ⟨⟨st [(F.PMU_DOM_STATUS_ON, 0x7FF), (F.RLY_STATUS_REASONS, 1)], .engine 2, wd [(F.RLY_CTL_KEY, 0x96), (F.RLY_CTL_REMOTE_OPEN, 1)], by decide⟩,
    ⟨st [(F.PMU_DOM_STATUS_ON, 0x7FF), (F.RLY_STATUS_REASONS, 9)], .engine 2, wd [(F.RLY_CTL_KEY, 0x96), (F.RLY_CTL_REMOTE_CLOSE, 1)], by decide⟩,
    ⟨st [(F.PMU_DOM_STATUS_ON, 0x7FF)], .engine 2, wd [(F.RLY_CTL_KEY, 0x96), (F.RLY_CTL_LC_SHED, 1)], by decide⟩,
    ⟨{ st [(F.PMU_DOM_STATUS_ON, 0x7FF)] with rly := { shed := true } }, .engine 2, wd [(F.RLY_CTL_KEY, 0x96), (F.RLY_CTL_LC_RESTORE, 1)], by decide⟩,
    ⟨st [(F.PMU_DOM_STATUS_ON, 0x7FF)], .engine 2, wd [(F.RLY_CTL_KEY, 0x96), (F.RLY_CTL_LC_RESTORE, 1), (F.RLY_CTL_LC_SHED, 1)], .lcShed (.engine 2) (wd [(F.RLY_CTL_KEY, 0x96), (F.RLY_CTL_LC_RESTORE, 1), (F.RLY_CTL_LC_SHED, 1)]), by decide⟩,
    ⟨{ st [(F.PMU_DOM_STATUS_ON, 0x7FF), (F.RLY_STATUS_REASONS, 2), (F.RLY_STATUS_MAIN_STATE, 1)] with ld := { guard := false, tables := { relays := true } } }, by decide⟩,
    ⟨{ st [(F.PMU_DOM_STATUS_ON, 0x7FF), (F.RLY_STATUS_LC_PENDING, 1), (F.RLY_STATUS_LC_STATE, 1)] with sup := { mode := .running }, ld := { conf := 3, guard := false, tables := { relays := true } } }, by decide⟩,
    ⟨{ st [(F.PMU_DOM_STATUS_ON, 0x7FF), (F.RLY_STATUS_LC_PENDING, 1), (F.RLY_STATUS_LC_STATE, 1), (F.RLY_LC_CFG_LC_MODE, 1)] with sup := { mode := .running }, ld := { conf := 3, guard := false, tables := { relays := true } } }, by decide⟩,
    ⟨{}, by decide⟩,
    ⟨{ ({} : State) with rly := { lcPulse := some true }, lmd := { repeatRly := true }, sup := { mono := 4 } }, true, by decide⟩,
    ⟨{}, by decide⟩⟩

/-- Each clause of `MainContactor` has a state and operands that meet its hypotheses. -/
theorem wit_MainContactor :
    (∃ (s : State) (o : Bool), s.rly.want = some o ∧ mainMayPulse s = true) ∧
    (∃ (s : State) (o : Bool), s.Inv ∧ s.rly.want = some o ∧ mainMayPulse s = false) ∧
    (∃ (s : State), s.rly.want = none) ∧
    (∃ (s : State) (o : Bool), s.rly.pulse = some o) ∧
    (∃ (s : State), s.rly.pulse = none) ∧
    (∃ (s : State) (o x : Bool) (cyc : List (List (Nat × Nat))), s.Inv ∧ e2Up s = true ∧ s.rly.verify = some x ∧ o = flag F.RLY_STATUS_MAIN_CMD s ∧ verdict o cyc s ≠ [] ∧ (verdict o cyc s).all id = true) ∧
    (∃ (s : State) (x : Bool) (cyc : List (List (Nat × Nat))), s.Inv ∧ e2Up s = true ∧ s.rly.verify = some x ∧ verdict (flag F.RLY_STATUS_MAIN_CMD s) cyc s = []) ∧
    (∃ (s : State) (o x : Bool) (cyc : List (List (Nat × Nat))), s.Inv ∧ e2Up s = true ∧ s.rly.verify = some x ∧ o = flag F.RLY_STATUS_MAIN_CMD s ∧ verdict o cyc s ≠ [] ∧ (verdict o cyc s).all id = false ∧ s.rly.tries < get F.RLY_MAIN_CFG_RETRY s) ∧
    (∃ (s : State) (o x : Bool) (cyc : List (List (Nat × Nat))), s.Inv ∧ e2Up s = true ∧ s.rly.verify = some x ∧ o = flag F.RLY_STATUS_MAIN_CMD s ∧ verdict o cyc s ≠ [] ∧ (verdict o cyc s).all id = false ∧ get F.RLY_MAIN_CFG_RETRY s ≤ s.rly.tries) ∧
    (∃ (s : State) (cyc : List (List (Nat × Nat))), (s.rly.verify = none ∨ e2Up s = false)) ∧
    (∃ (s : State) (o : Bool), s.rly.retry = some o ∧ mainMayPulse s = true ∧ s.rly.retryFrom + 1024 ≤ s.sup.mono) ∧
    (∃ (s : State) (o : Bool), s.Inv ∧ s.rly.retry = some o ∧ (mainMayPulse s = false ∨ s.sup.mono < s.rly.retryFrom + 1024)) ∧
    (∃ (s : State), s.rly.retry = none) ∧
    (∃ (s : State) (cyc : List (List (Nat × Nat))) (ph : List (Nat × Nat)), s.Inv ∧ e2Up s = true ∧ get F.RLY_STATUS_MAIN_STATE s = 2 ∧ producer 10 s = false ∧ ph ∈ cyc ∧ ph.length = 3 ∧ ph.all (fun e => decide (5 * get F.RLY_MAIN_CFG_OPEN_PCT s * e.2 < e.1 * 100)) = true) ∧
    (∃ (s : State) (cyc : List (List (Nat × Nat))), e2Up s = true ∧ producer 10 s = true ∧ (get F.RLY_STATUS_MAIN_STATE s ≠ 2 ∨ cyc.all (fun ph => ph.all fun e => decide (e.1 * 100 ≤ 5 * get F.RLY_MAIN_CFG_OPEN_PCT s * e.2)) = true)) ∧
    (∃ (s : State) (cyc : List (List Nat)) (ph : List Nat), s.Inv ∧ e2Up s = true ∧ get F.RLY_STATUS_MAIN_STATE s = 2 ∧ producer 11 s = false ∧ ph ∈ cyc ∧ ph.length = 3 ∧ ph.all (fun i => decide (20 * get F.RLY_MAIN_CFG_OPEN_I s < i)) = true) ∧
    (∃ (s : State) (cyc : List (List Nat)), e2Up s = true ∧ producer 11 s = true ∧ (get F.RLY_STATUS_MAIN_STATE s ≠ 2 ∨ cyc.all (fun ph => ph.all fun i => decide (i ≤ 20 * get F.RLY_MAIN_CFG_OPEN_I s)) = true)) ∧
    (∃ (s : State) (a : List (List (Nat × Nat))) (b : List (List Nat)), e2Up s = false) ∧
    (∃ (s : State), freezing (refreshLines 0 s) = false ∧ e2Up (refreshLines 0 s) = true) ∧
    (∃ (s : State), (freezing (refreshLines 0 s) = true ∨ e2Up (refreshLines 0 s) = false)) :=
  ⟨⟨{ st [(F.PMU_DOM_STATUS_ON, 0x7FF)] with ld := { conf := 3, guard := false, tables := { relays := true } }, rly := { want := some true, lastPulse := some 5 }, sup := { mode := .running, mono := 2053 } }, true, by decide⟩,
    ⟨{ st [(F.PMU_DOM_STATUS_ON, 0x7FF)] with ld := { guard := true }, rly := { want := some true } }, true, by decide⟩,
    ⟨{}, by decide⟩,
    ⟨{ ({} : State) with rly := { pulse := some false } }, false, by decide⟩,
    ⟨{}, by decide⟩,
    ⟨{ st [(F.PMU_DOM_STATUS_ON, 0x7FF), (F.PHE_CFG_VNOM, 100), (F.RLY_STATUS_MAIN_CMD, 1)] with sup := { mode := .running, mono := 3 }, ld := { conf := 3 }, rly := { verify := some true } }, true, true, [[(0, 200), (0, 200), (0, 300)], []], by decide⟩,
    ⟨{ st [(F.PMU_DOM_STATUS_ON, 0x7FF)] with sup := { mode := .running }, ld := { conf := 3 }, rly := { verify := some true } }, true, [], by decide⟩,
    ⟨{ st [(F.PMU_DOM_STATUS_ON, 0x7FF), (F.RLY_MAIN_CFG_RETRY, 1), (F.RLY_STATUS_MAIN_CMD, 1)] with sup := { mode := .running, mono := 77 }, ld := { conf := 3 }, rly := { verify := some true } }, true, true, [[(1, 0), (0, 0)]], by decide⟩,
    ⟨{ st [(F.PMU_DOM_STATUS_ON, 0x7FF), (F.RLY_STATUS_MAIN_CMD, 1)] with sup := { mode := .running, mono := 77 }, ld := { conf := 3 }, rly := { verify := some true } }, true, true, [[(1, 0), (0, 0)]], by decide⟩,
    ⟨{}, [], by decide⟩,
    ⟨{ st [(F.PMU_DOM_STATUS_ON, 0x7FF)] with ld := { conf := 3, guard := false, tables := { relays := true } }, rly := { retry := some true, retryFrom := 5 }, sup := { mode := .running, mono := 1029 } }, true, by decide⟩,
    ⟨{ st [(F.PMU_DOM_STATUS_ON, 0x7FF)] with rly := { retry := some true, retryFrom := 5 }, sup := { mono := 1028 } }, true, by decide⟩,
    ⟨{}, by decide⟩,
    ⟨{ st [(F.PMU_DOM_STATUS_ON, 0x7FF), (F.RLY_STATUS_MAIN_STATE, 2)] with sup := { mode := .running }, ld := { conf := 3 } }, [[], [(1, 9), (1, 9), (1, 9)]], [(1, 9), (1, 9), (1, 9)], by decide⟩,
    ⟨{ st [(F.PMU_DOM_STATUS_ON, 0x7FF), (F.RLY_STATUS_MAIN_STATE, 2)] with sup := { mode := .running }, ld := { conf := 3 }, tamp := { prods := 1024 } }, [[(0, 9), (0, 9), (0, 9)]], by decide⟩,
    ⟨{ st [(F.PMU_DOM_STATUS_ON, 0x7FF), (F.RLY_STATUS_MAIN_STATE, 2)] with sup := { mode := .running }, ld := { conf := 3 } }, [[1, 0, 1], [1, 1, 1]], [1, 1, 1], by decide⟩,
    ⟨{ st [(F.PMU_DOM_STATUS_ON, 0x7FF), (F.RLY_STATUS_MAIN_STATE, 2)] with sup := { mode := .running }, ld := { conf := 3 }, tamp := { prods := 2048 } }, [[0, 0, 0]], by decide⟩,
    ⟨{}, [], [], by decide⟩,
    ⟨{ st [(F.PMU_DOM_STATUS_ON, 0x7FF), (F.RLY_STATUS_LC_PENDING, 1), (F.RLY_STATUS_LC_STATE, 1)] with sup := { mode := .running }, ld := { conf := 3, guard := false, tables := { relays := true } } }, by decide⟩,
    ⟨{}, by decide⟩⟩

/-- Each clause of `CisternStores` has a state and operands that meet its hypotheses. -/
theorem wit_CisternStores :
    (∃ (s : State), s.Inv ∧ cisReady s = true ∧ periodOver s = true ∧ popCount (get F.CIS_STATUS_COPYING s) 16 ≤ 4) ∧
    (∃ (s : State), (cisReady s = false ∨ s.sup.mono < s.cis.tickAt + 61440 * get F.CIS_CFG_PERIOD s)) ∧
    (∃ (s : State) (m : Master) (w : Word) (b : Nat), s.Inv ∧ Writable m R.CIS_CTL s ∧ isHost m = false ∧ arg F.CIS_CTL_KEY w = 0x3C ∧ b < 16 ∧ arg F.CIS_CTL_BANKS w = 2 ^ b ∧ s.sup.mode = .running ∧ flag F.PMU_VMON_VDD_OK s = true ∧ fbit F.CIS_STATUS_DIRTY b s = true ∧ get F.CIS_STATUS_COPYING s = 0 ∧ get F.CIS_QUEUE_WAITING s = 0) ∧
    (∃ (s : State) (m : Master) (w : Word) (b : Nat), s.Inv ∧ Writable m R.CIS_CTL s ∧ isHost m = false ∧ arg F.CIS_CTL_KEY w = 0x3C ∧ b < 16 ∧ arg F.CIS_CTL_BANKS w = 2 ^ b ∧ fbit F.CIS_STATUS_COPYING b s = true ∧ get F.CIS_QUEUE_WAITING s = 0) ∧
    (∃ (s : State) (m : Master) (w : Word) (b : Nat), s.Inv ∧ Writable m R.CIS_CTL s ∧ isHost m = false ∧ arg F.CIS_CTL_KEY w = 0x3C ∧ b < 16 ∧ arg F.CIS_CTL_BANKS w = 2 ^ b ∧ s.sup.mode ≠ .frozen ∧ flag F.PMU_VMON_VDD_OK s = true ∧ fbit F.CIS_STATUS_COPYING b s = false ∧ fbit F.CIS_QUEUE_WAITING b s = true ∧ popCount (get F.CIS_STATUS_COPYING s) 16 = 4) ∧
    (∃ (s : State) (m : Master) (w : Word) (b : Nat), s.Inv ∧ Writable m R.CIS_CTL s ∧ isHost m = false ∧ arg F.CIS_CTL_KEY w = 0x3C ∧ b < 16 ∧ arg F.CIS_CTL_BANKS w = 2 ^ b ∧ s.sup.mode ≠ .frozen ∧ flag F.PMU_VMON_VDD_OK s = true ∧ fbit F.CIS_STATUS_COPYING b s = false ∧ fbit F.CIS_STATUS_DIRTY b s = false ∧ get F.CIS_QUEUE_WAITING s = 0) ∧
    (∃ (s : State) (m : Master) (w : Word), s.Inv ∧ Writable m R.CIS_CTL s ∧ isHost m = false ∧ arg F.CIS_CTL_KEY w = 0x3C ∧ (s.sup.mode = .frozen ∨ flag F.PMU_VMON_VDD_OK s = false)) ∧
    (∃ (s : State) (m : Master) (w : Word), Writable m R.CIS_CTL s ∧ arg F.CIS_CTL_KEY w ≠ 0x3C) ∧
    (∃ (s : State) (m : Master) (w : Word) (b : Nat), Writable m R.CIS_CTL s ∧ isHost m = true ∧ arg F.CIS_CTL_KEY w = 0x3C ∧ b < 14 ∧ bit (arg F.CIS_CTL_BANKS w) b = true) ∧
    (∃ (s : State) (b : Nat), s.Inv ∧ domOn 7 s = true ∧ b < 16 ∧ fbit F.CIS_STATUS_COPYING b s = true ∧ get F.CIS_QUEUE_WAITING s = 0 ∧ bit s.cis.again b = false ∧ (b ≠ 1 ∨ s.obj.actWait = false) ∧ s.cis.pfStore = false) ∧
    (∃ (s : State) (b : Nat), (domOn 7 s = false ∨ 16 ≤ b ∨ fbit F.CIS_STATUS_COPYING b s = false)) :=
  ⟨⟨{ st [(F.PMU_DOM_STATUS_ON, 0x7FF), (F.CIS_STATUS_DIRTY, 0x2FF), (F.CIS_CFG_PERIOD, 1)] with cis := { recalled := true, tickAt := 5 }, sup := { mode := .running, mono := 400000000 } }, by decide⟩,
    ⟨{}, by decide⟩,
    ⟨{ st [(F.PMU_DOM_STATUS_ON, 0x7FF), (F.CIS_STATUS_DIRTY, 0x2FF), (F.PMU_VMON_VDD_OK, 1)] with sup := { mode := .running } }, .engine 1, wd [(F.CIS_CTL_KEY, 0x3C), (F.CIS_CTL_BANKS, 0x200)], 9, by decide⟩,
    ⟨{ st [(F.PMU_DOM_STATUS_ON, 0x7FF), (F.CIS_STATUS_COPYING, 0xF), (F.PMU_VMON_VDD_OK, 1)] with sup := { mode := .running } }, .engine 2, wd [(F.CIS_CTL_KEY, 0x3C), (F.CIS_CTL_BANKS, 1)], 0, by decide⟩,
    ⟨{ st [(F.PMU_DOM_STATUS_ON, 0x7FF), (F.CIS_QUEUE_WAITING, 0x200), (F.CIS_STATUS_COPYING, 0xF), (F.PMU_VMON_VDD_OK, 1)] with sup := { mode := .running } }, .engine 1, wd [(F.CIS_CTL_KEY, 0x3C), (F.CIS_CTL_BANKS, 0x200)], 9, by decide⟩,
    ⟨{ st [(F.PMU_DOM_STATUS_ON, 0x7FF), (F.PMU_VMON_VDD_OK, 1)] with sup := { mode := .running } }, .engine 1, wd [(F.CIS_CTL_KEY, 0x3C), (F.CIS_CTL_BANKS, 0x200)], 9, by decide⟩,
    ⟨{ st [(F.PMU_DOM_STATUS_ON, 0x7FF), (F.CIS_STATUS_DIRTY, 0xFFFF)] with sup := { mode := .frozen } }, .engine 1, wd [(F.CIS_CTL_KEY, 0x3C), (F.CIS_CTL_BANKS, 0x200)], by decide⟩,
    ⟨st [(F.PMU_DOM_STATUS_ON, 0x7FF)], .spi, wd [(F.CIS_CTL_KEY, 0x3D), (F.CIS_CTL_BANKS, 0x200)], by decide⟩,
    ⟨st [(F.PMU_DOM_STATUS_ON, 0x7FF)], .uart 1, wd [(F.CIS_CTL_KEY, 0x3C), (F.CIS_CTL_BANKS, 0x8001)], 0, by decide⟩,
    ⟨{ st [(F.PMU_DOM_STATUS_ON, 0x7FF), (F.CIS_STATUS_COPYING, 0x8000)] with cis := { late := 0x8001 } }, 15, by decide⟩,
    ⟨{}, 3, by decide⟩⟩

/-- Each clause of `CisternHostAccess` has a state and operands that meet its hypotheses. -/
theorem wit_CisternHostAccess :
    (∃ (s : State) (m : Master) (w : Word), Writable m R.CIS_HOST_UNLOCK s ∧ arg F.CIS_HOST_UNLOCK_GO w = 1 ∧ isLasting 38 s = false ∧ (arg F.CIS_HOST_UNLOCK_KIND w = 0 ∨ 14 ≤ arg F.CIS_HOST_UNLOCK_BANK w) ∧ password (arg F.CIS_HOST_UNLOCK_BANK w) (arg F.CIS_HOST_UNLOCK_KIND w) s = presented s ∧ presented s ≠ 2 ^ 64 - 1) ∧
    (∃ (s : State) (m : Master) (w : Word), s.Inv ∧ Writable m R.CIS_HOST_UNLOCK s ∧ isHost m = true ∧ arg F.CIS_HOST_UNLOCK_GO w = 1 ∧ isLasting 38 s = false ∧ staysBelow 38 s = true ∧ (arg F.CIS_HOST_UNLOCK_KIND w = 0 ∨ 14 ≤ arg F.CIS_HOST_UNLOCK_BANK w) ∧ password (arg F.CIS_HOST_UNLOCK_BANK w) (arg F.CIS_HOST_UNLOCK_KIND w) s ≠ presented s) ∧
    (∃ (s : State) (m : Master) (w : Word), Writable m R.CIS_HOST_UNLOCK s ∧ isHost m = true ∧ arg F.CIS_HOST_UNLOCK_GO w = 1 ∧ arg F.CIS_HOST_UNLOCK_LOCK w = 0 ∧ isLasting 38 s = false ∧ ((arg F.CIS_HOST_UNLOCK_KIND w = 1 ∧ arg F.CIS_HOST_UNLOCK_BANK w < 14) ∨ (password (arg F.CIS_HOST_UNLOCK_BANK w) (arg F.CIS_HOST_UNLOCK_KIND w) s = 2 ^ 64 - 1 ∧ presented s = 2 ^ 64 - 1))) ∧
    (∃ (s : State) (m : Master) (w : Word), s.Inv ∧ Writable m R.CIS_HOST_UNLOCK s ∧ isHost m = true ∧ arg F.CIS_HOST_UNLOCK_GO w = 1 ∧ arg F.CIS_HOST_UNLOCK_LOCK w = 0 ∧ isLasting 38 s = true) ∧
    (∃ (s : State) (m : Master) (w : Word), Writable m R.CIS_HOST_UNLOCK s ∧ arg F.CIS_HOST_UNLOCK_GO w = 0 ∧ arg F.CIS_HOST_UNLOCK_LOCK w = 0) ∧
    (∃ (s : State) (m : Master) (w : Word), Writable m R.CIS_HOST_UNLOCK s ∧ arg F.CIS_HOST_UNLOCK_GO w = 0 ∧ arg F.CIS_HOST_UNLOCK_LOCK w = 1) ∧
    (∃ (s : State) (m : Master) (w : Word), s.Inv ∧ Writable m R.CIS_REPORT s ∧ arg F.CIS_REPORT_TIE w = 1 ∧ staysBelow 24 s = true) ∧
    (∃ (s : State) (m : Master) (w : Word), Writable m R.CIS_REPORT s ∧ arg F.CIS_REPORT_TIE w = 0) :=
  ⟨⟨{ st [(F.PMU_DOM_STATUS_ON, 0x7FF)] with cis := { b1 := { pw := { a := some (0, List.replicate 16 (0, 0x0100000002000000)) } } }, hidden := [(R.CIS_HOST_PW_0, 1), (R.CIS_HOST_PW_1, 2)] }, .spi, wd [(F.CIS_HOST_UNLOCK_BANK, 14), (F.CIS_HOST_UNLOCK_KIND, 1), (F.CIS_HOST_UNLOCK_GO, 1)], by decide⟩,
    ⟨st [(F.PMU_DOM_STATUS_ON, 0x7FF)], .uart 3, wd [(F.CIS_HOST_UNLOCK_BANK, 14), (F.CIS_HOST_UNLOCK_KIND, 0), (F.CIS_HOST_UNLOCK_GO, 1)], by decide⟩,
    ⟨{ st [(F.PMU_DOM_STATUS_ON, 0x7FF)] with hidden := [(R.CIS_HOST_PW_0, 0xFFFFFFFF), (R.CIS_HOST_PW_1, 0xFFFFFFFF)] }, .spi, wd [(F.CIS_HOST_UNLOCK_BANK, 14), (F.CIS_HOST_UNLOCK_KIND, 1), (F.CIS_HOST_UNLOCK_GO, 1)], by decide⟩,
    ⟨st [(F.PMU_DOM_STATUS_ON, 0x7FF), (F.TAMP_LASTING_LASTING 1, 64)], .spi, wd [(F.CIS_HOST_UNLOCK_BANK, 14), (F.CIS_HOST_UNLOCK_KIND, 1), (F.CIS_HOST_UNLOCK_GO, 1)], by decide⟩,
    ⟨st [(F.PMU_DOM_STATUS_ON, 0x7FF)], .spi, 0, by decide⟩,
    ⟨{ st [(F.PMU_DOM_STATUS_ON, 0x7FF)] with cis := { grants := [(0, 14, 1, 5)] } }, .spi, wd [(F.CIS_HOST_UNLOCK_BANK, 14), (F.CIS_HOST_UNLOCK_KIND, 1), (F.CIS_HOST_UNLOCK_LOCK, 1)], by decide⟩,
    ⟨st [(F.PMU_DOM_STATUS_ON, 0x7FF), (F.CIS_COUNT_TIES, 0xFFFF)], .engine 0, wd [(F.CIS_REPORT_TIE, 1)], by decide⟩,
    ⟨st [(F.PMU_DOM_STATUS_ON, 0x7FF)], .engine 0, 0, by decide⟩⟩

/-- Each clause of `Sessions` has a state and operands that meet its hypotheses. -/
theorem wit_Sessions :
    (∃ (s : State) (i code cmd n : Nat) (data : List Byte) (r : ObjReq), s.Inv ∧ i < 6 ∧ nth none s.obj.req i = some r ∧ nth .free s.hif.slots i = .busy cmd n none) ∧
    (∃ (s : State) (i : Nat) (r : ObjReq) (k : WSlot), s.Inv ∧ e2Up s = true ∧ i < 7 ∧ s.obj.sess.length = 7 ∧ nth none s.obj.req i = some r ∧ opOf r = 1 ∧ inSess r = false ∧ answering i s = false ∧ guarded s = false ∧ (1 ≤ selOf r ∧ selOf r ≤ 5) ∧ (dataOf r).length = 16 ∧ isLasting (38 + selOf r) s = false ∧ isLasting 45 s = false ∧ (roleKey (selOf r) s).1 = .ok k) ∧
    (∃ (s : State) (i : Nat) (r : ObjReq), e2Up s = true ∧ nth none s.obj.req i = some r ∧ answering i s = false ∧ opOf r = 1 ∧ inSess r = false ∧ (guarded s = true ∨ selOf r = 0 ∨ 5 < selOf r ∨ (dataOf r).length ≠ 16)) ∧
    (∃ (s : State) (i : Nat) (r : ObjReq), s.Inv ∧ e2Up s = true ∧ nth none s.obj.req i = some r ∧ answering i s = false ∧ opOf r = 1 ∧ inSess r = false ∧ guarded s = false ∧ (1 ≤ selOf r ∧ selOf r ≤ 5) ∧ (dataOf r).length = 16 ∧ isLasting (38 + selOf r) s = true) ∧
    (∃ (s : State) (i : Nat) (r : ObjReq), e2Up s = true ∧ nth none s.obj.req i = some r ∧ answering i s = false ∧ opOf r = 2 ∧ inSess r = false ∧ (guarded s = true ∨ sessState i s ≠ 1)) ∧
    (∃ (s : State) (i : Nat) (r : ObjReq) (k : WSlot), s.Inv ∧ i < 7 ∧ e2Up s = true ∧ nth none s.obj.req i = some r ∧ answering i s = false ∧ opOf r = 2 ∧ inSess r = false ∧ guarded s = false ∧ sessState i s = 1 ∧ (roleKey (get (F.OBJ_SESS_ROLE i) s) s).1 = .ok k ∧ (dataOf r ≠ Config.cmac k.key (proofInput i (get (F.OBJ_SESS_ROLE i) s) (sessOf i s)) ∨ (sessOf i s).last + 10240 ≤ s.sup.mono)) ∧
    (∃ (s : State) (i : Nat) (r : ObjReq) (k : WSlot), s.Inv ∧ e2Up s = true ∧ i < 7 ∧ s.obj.sess.length = 7 ∧ nth none s.obj.req i = some r ∧ opOf r = 2 ∧ inSess r = false ∧ answering i s = false ∧ guarded s = false ∧ sessState i s = 1 ∧ (roleKey (get (F.OBJ_SESS_ROLE i) s) s).1 = .ok k ∧ dataOf r = Config.cmac k.key (proofInput i (get (F.OBJ_SESS_ROLE i) s) (sessOf i s)) ∧ s.sup.mono < (sessOf i s).last + 10240) ∧
    (∃ (s : State) (i : Nat), s.Inv ∧ i < 7 ∧ domOn 5 s = true ∧ sessState i s = 1 ∧ (sessOf i s).last + 10240 ≤ s.sup.mono) ∧
    (∃ (s : State) (i : Nat) (r : ObjReq), s.Inv ∧ e2Up s = true ∧ i < 7 ∧ s.obj.sess.length = 7 ∧ nth none s.obj.req i = some r ∧ opOf r = 3 ∧ inSess r = true ∧ answering i s = false ∧ guarded s = false ∧ sessionOk i r s = true) ∧
    (∃ (s : State) (i : Nat) (r : ObjReq), e2Up s = true ∧ nth none s.obj.req i = some r ∧ answering i s = false ∧ opOf r = 3 ∧ inSess r = false) ∧
    (∃ (s : State) (i : Nat), s.Inv ∧ i < 7 ∧ domOn 5 s = true ∧ sessState i s = 2 ∧ (sessOf i s).last + 1024 * get F.OBJ_SESS_CFG_IDLE s ≤ s.sup.mono) ∧
    (∃ (s : State) (i : Nat), (7 ≤ i ∨ domOn 5 s = false ∨ sessState i s = 0)) ∧
    (∃ (s : State) (i : Nat) (r : ObjReq), e2Up s = true ∧ nth none s.obj.req i = some r ∧ answering i s = false ∧ (3 ≤ opOf r ∧ opOf r ≤ 6) ∧ inSess r = true ∧ sessionOk i r s = false) ∧
    (∃ (s : State) (i : Nat) (wd : World), (nth none s.obj.req i = none ∨ e2Up s = false)) :=
  ⟨⟨{ ({} : State) with obj := { req := [none, none, none, none, none, some { bytes := [4, 0, 1, 2, 3, 4] }, none] }, hif := { slots := [.free, .free, .free, .free, .free, .busy 4 9 none] } }, 5, 2, 4, 9, [7], { bytes := [4, 0, 1, 2, 3, 4] }, by decide⟩,
    ⟨withReq 5 (reqBytes 1 0 5 [0, 0, 0, 0, 0, 0] (List.replicate 16 9)) (keyed 0x20 4 1 5), 5, { bytes := reqBytes 1 0 5 [0, 0, 0, 0, 0, 0] (List.replicate 16 9) }, ⟨1, 2, 0x20, 4, 1, 5, 0, 0, 0, 77⟩, by decide⟩,
    ⟨withReq 5 (reqBytes 1 0 6 [0, 0, 0, 0, 0, 0] (List.replicate 16 9)) (keyed 0x20 4 1 5), 5, { bytes := reqBytes 1 0 6 [0, 0, 0, 0, 0, 0] (List.replicate 16 9) }, by decide⟩,
    ⟨withReq 5 (reqBytes 1 0 5 [0, 0, 0, 0, 0, 0] (List.replicate 16 9)) (put (F.TAMP_LASTING_LASTING 1) 0x800 (keyed 0x20 4 1 5)), 5, { bytes := reqBytes 1 0 5 [0, 0, 0, 0, 0, 0] (List.replicate 16 9) }, by decide⟩,
    ⟨withReq 5 (reqBytes 2 0 0 [0, 0, 0, 0, 0, 0] (List.replicate 16 9)) (keyed 0x20 4 1 5), 5, { bytes := reqBytes 2 0 0 [0, 0, 0, 0, 0, 0] (List.replicate 16 9) }, by decide⟩,
    ⟨withReq 6 (reqBytes 2 0 0 [0, 0, 0, 0, 0, 0] []) { put (F.OBJ_SESS_ROLE 6) 5 (put (F.OBJ_SESS_STATE 6) 1 (keyed 0x20 4 1 5)) with sup := { mode := .running, mono := 10240 } }, 6, { bytes := reqBytes 2 0 0 [0, 0, 0, 0, 0, 0] [] }, ⟨1, 2, 0x20, 4, 1, 5, 0, 0, 0, 77⟩, ⟨by decide, by decide, by decide, rfl, by decide, by decide, by decide, by decide, by decide, rfl, Or.inr (by decide)⟩⟩,
    ⟨withReq 6 (reqBytes 2 0 0 [0, 0, 0, 0, 0, 0] (Config.cmac 77 (proofInput 6 5 { challenge := [1, 2], nonce := [3] }))) { put (F.OBJ_SESS_ROLE 6) 5 (put (F.OBJ_SESS_STATE 6) 1 (keyed 0x20 4 1 5)) with obj := { sess := [{}, {}, {}, {}, {}, {}, { challenge := [1, 2], nonce := [3] }] } }, 6, { bytes := reqBytes 2 0 0 [0, 0, 0, 0, 0, 0] (Config.cmac 77 (proofInput 6 5 { challenge := [1, 2], nonce := [3] })) }, ⟨1, 2, 0x20, 4, 1, 5, 0, 0, 0, 77⟩, ⟨by decide, by decide, by decide, by decide, rfl, by decide, by decide, by decide, by decide, by decide, by decide, rfl, by decide⟩⟩,
    ⟨{ put (F.OBJ_SESS_ROLE 0) 3 (put (F.OBJ_SESS_STATE 0) 1 (keyed 0x20 4 1 5)) with sup := { mode := .running, mono := 10240 } }, 0, by decide⟩,
    ⟨withReq 2 (reqBytes 3 1 0 [0, 0, 0, 0, 0, 0] [] ++ stag 5 (reqBytes 3 1 0 [0, 0, 0, 0, 0, 0] [])) { put (F.OBJ_SESS_ROLE 2) 1 (put (F.OBJ_SESS_STATE 2) 2 (keyed 0x20 4 1 5)) with obj := { sess := [{}, {}, { key := 5 }, {}, {}, {}, {}] } }, 2, { bytes := reqBytes 3 1 0 [0, 0, 0, 0, 0, 0] [] ++ stag 5 (reqBytes 3 1 0 [0, 0, 0, 0, 0, 0] []) }, ⟨by decide, by decide, by decide, by decide, rfl, by decide, by decide, by decide, by decide, sessionOk_witness⟩⟩,
    ⟨withReq 5 (reqBytes 3 0 0 [0, 0, 0, 0, 0, 0] (List.replicate 0 9)) (keyed 0x20 4 1 5), 5, { bytes := reqBytes 3 0 0 [0, 0, 0, 0, 0, 0] (List.replicate 0 9) }, by decide⟩,
    ⟨{ put (F.OBJ_SESS_ROLE 6) 5 (put (F.OBJ_SESS_STATE 6) 2 (keyed 0x20 4 1 5)) with sup := { mode := .running, mono := 5 } }, 6, by decide⟩,
    ⟨{}, 6, by decide⟩,
    ⟨withReq 5 (reqBytes 3 1 0 [0, 0, 0, 0, 0, 0] (List.replicate 0 9)) (keyed 0x20 4 1 5), 5, { bytes := reqBytes 3 1 0 [0, 0, 0, 0, 0, 0] (List.replicate 0 9) }, by decide⟩,
    ⟨{}, 6, ⟨⟨none, none, false, false, false, false, false, 0⟩, none⟩, by decide⟩⟩

/-- Each clause of `ObjectRequests` has a state and operands that meet its hypotheses. -/
theorem wit_ObjectRequests :
    (∃ (s : State) (i n rd' wr' ex : Nat) (r : ObjReq) (k : WSlot), s.Inv ∧ e2Up s = true ∧ nth none s.obj.req i = some r ∧ opOf r = 4 ∧ inSess r = false ∧ wantsSig r = false ∧ selOf r = 1 ∧ answering i s = false ∧ objectFor (obisOf r) s = some (.bill n, rd', wr', ex) ∧ bit rd' 0 = true ∧ (loadNamed s.ld.tables.obj.readKey (2, 4) s).1 = .ok k ∧ get F.OBJ_READ_RESERVE_SINCE_STORE s < 32767 ∧ s.cis.b0.spread.length = 7 ∧ counter 6 s < 2 ^ 62) ∧
    (∃ (s : State) (i n rd' wr' ex : Nat) (r : ObjReq), s.Inv ∧ e2Up s = true ∧ nth none s.obj.req i = some r ∧ opOf r = 4 ∧ inSess r = false ∧ wantsSig r = false ∧ selOf r = 1 ∧ answering i s = false ∧ objectFor (obisOf r) s = some (.bill n, rd', wr', ex) ∧ bit rd' 0 = true ∧ s.ld.tables.obj.readKey = none) ∧
    (∃ (s : State) (i d : Nat) (r : ObjReq) (wd : World) (rd' wr' ex : Nat), s.Inv ∧ e2Up s = true ∧ i < 7 ∧ s.obj.sess.length = 7 ∧ nth none s.obj.req i = some r ∧ opOf r = 5 ∧ inSess r = true ∧ sessionOk i r s = true ∧ answering i s = false ∧ objectFor (obisOf r) s = some (.device d, rd', wr', ex) ∧ bit wr' (get (F.OBJ_SESS_ROLE i) s) = true) ∧
    (∃ (s : State) (i : Nat) (r : ObjReq) (wd : World) (rd' wr' ex : Nat), s.Inv ∧ e2Up s = true ∧ i < 7 ∧ s.obj.sess.length = 7 ∧ nth none s.obj.req i = some r ∧ opOf r = 5 ∧ inSess r = true ∧ sessionOk i r s = true ∧ answering i s = false ∧ objectFor (obisOf r) s = some (.device 0, rd', wr', ex) ∧ bit wr' (get (F.OBJ_SESS_ROLE i) s) = true) ∧
    (∃ (s : State) (i rd' wr' ex : Nat) (r : ObjReq) (k : WSlot) (e : Nat × Snapshot), s.Inv ∧ e2Up s = true ∧ nth none s.obj.req i = some r ∧ opOf r = 4 ∧ inSess r = false ∧ wantsSig r = true ∧ selOf r = 1 ∧ answering i s = false ∧ objectFor (obisOf r) s = some (.device 13, rd', wr', ex) ∧ bit rd' 0 = true ∧ s.cis.b3.snaps.find? (fun x => x.2.num == (if (dataOf r).isEmpty then counter 0 s % 2 ^ 32 else field (dataOf r) 0 4)) = some e ∧ s.obj.signing = none ∧ (loadNamed s.ld.tables.obj.signKey (2, 0x10) s).1 = .ok k ∧ get F.OBJ_READ_RESERVE_SINCE_STORE s < 32767 ∧ s.cis.b0.spread.length = 7 ∧ counter 6 s < 2 ^ 62) ∧
    (∃ (s : State) (i : Nat) (r : ObjReq) (wd : World), e2Up s = true ∧ nth none s.obj.req i = some r ∧ (4 ≤ opOf r ∧ opOf r ≤ 6) ∧ inSess r = false ∧ answering i s = false ∧ objectFor (obisOf r) s = none) ∧
    (∃ (s : State) (i : Nat) (r : ObjReq) (b : Binding) (rd' wr' ex : Nat), s.Inv ∧ e2Up s = true ∧ nth none s.obj.req i = some r ∧ opOf r = 4 ∧ inSess r = false ∧ answering i s = false ∧ objectFor (obisOf r) s = some (b, rd', wr', ex) ∧ bit rd' 0 = false) ∧
    (∃ (s : State) (i : Nat) (r : ObjReq) (wd : World) (b : Binding) (rd' wr' ex : Nat), s.Inv ∧ e2Up s = true ∧ nth none s.obj.req i = some r ∧ opOf r = 5 ∧ inSess r = false ∧ answering i s = false ∧ objectFor (obisOf r) s = some (b, rd', wr', ex) ∧ bit wr' 0 = false) ∧
    (∃ (s : State) (i d : Nat) (r : ObjReq) (wd : World) (rd' wr' ex : Nat), s.Inv ∧ e2Up s = true ∧ i < 7 ∧ s.obj.sess.length = 7 ∧ nth none s.obj.req i = some r ∧ opOf r = 6 ∧ inSess r = true ∧ sessionOk i r s = true ∧ answering i s = false ∧ objectFor (obisOf r) s = some (.device d, rd', wr', ex) ∧ bit ex (get (F.OBJ_SESS_ROLE i) s) = true) ∧
    (∃ (s : State) (i : Nat) (r : ObjReq) (wd : World) (rd' wr' ex : Nat), s.Inv ∧ e2Up s = true ∧ i < 7 ∧ s.obj.sess.length = 7 ∧ nth none s.obj.req i = some r ∧ opOf r = 6 ∧ inSess r = true ∧ sessionOk i r s = true ∧ answering i s = false ∧ objectFor (obisOf r) s = some (.device 8, rd', wr', ex) ∧ bit ex (get (F.OBJ_SESS_ROLE i) s) = true) ∧
    (∃ (s : State) (i key : Nat) (bs : List Byte), s.Inv ∧ e2Up s = true ∧ s.obj.signing = some (i, bs, key)) ∧
    (∃ (s : State), (s.obj.signing = none ∨ e2Up s = false)) ∧
    (∃ (s : State), s.Inv ∧ e2Up s = true ∧ flag F.OBJ_STATUS_CAL_EN s = false) ∧
    (∃ (s : State), (e2Up s = false ∨ flag F.OBJ_STATUS_CAL_EN s = true)) ∧
    (∃ (s : State), (e2Up s = false ∨ flag F.OBJ_STATUS_CAL_EN s = false)) ∧
    (∃ (s : State), s.Inv ∧ e2Up s = true ∧ flag F.OBJ_STATUS_CAL_EN s = true) :=
  ⟨⟨withReq 0 (reqBytes 4 0 1 [1, 0, 1, 8, 0, 255] []) (keyed 2 4 1 0), 0, 0, 1, 0, 0, { bytes := reqBytes 4 0 1 [1, 0, 1, 8, 0, 255] [] }, ⟨1, 2, 2, 4, 1, 0, 0, 0, 0, 77⟩, by decide⟩,
    ⟨{ withReq 0 (reqBytes 4 0 1 [1, 0, 1, 8, 0, 255] []) (keyed 2 4 1 0) with ld := { conf := 3, guard := false, tables := { obj := { objects := [⟨[1, 0, 1, 8, 0, 255], .bill 0, 0, 30, true, 1, 0, 0⟩] } } } }, 0, 0, 1, 0, 0, { bytes := reqBytes 4 0 1 [1, 0, 1, 8, 0, 255] [] }, by decide⟩,
    ⟨withReq 3 (reqBytes 5 1 0 [0, 0, 1, 0, 0, 255] [] ++ stag 0 (reqBytes 5 1 0 [0, 0, 1, 0, 0, 255] [])) (put (F.OBJ_SESS_ROLE 3) 3 (put (F.OBJ_SESS_STATE 3) 2 (keyed 2 4 1 0))), 3, 0, { bytes := reqBytes 5 1 0 [0, 0, 1, 0, 0, 255] [] ++ stag 0 (reqBytes 5 1 0 [0, 0, 1, 0, 0, 255] []) }, ⟨⟨none, none, false, false, false, false, false, 0⟩, none⟩, Config.deviceRead 0, 8, 8, ⟨by decide, by decide, by decide, by decide, rfl, by decide, by decide, sessionOk_witness3, by decide, rfl, by decide⟩⟩,
    ⟨withReq 3 (reqBytes 5 1 0 [0, 0, 1, 0, 0, 255] [] ++ stag 0 (reqBytes 5 1 0 [0, 0, 1, 0, 0, 255] [])) (put (F.OBJ_SESS_ROLE 3) 3 (put (F.OBJ_SESS_STATE 3) 2 (keyed 2 4 1 0))), 3, { bytes := reqBytes 5 1 0 [0, 0, 1, 0, 0, 255] [] ++ stag 0 (reqBytes 5 1 0 [0, 0, 1, 0, 0, 255] []) }, ⟨⟨none, none, false, false, false, false, false, 0⟩, none⟩, Config.deviceRead 0, 8, 8, ⟨by decide, by decide, by decide, by decide, rfl, by decide, by decide, sessionOk_witness3, by decide, rfl, by decide⟩⟩,
    ⟨{ withReq 0 (reqBytes 4 2 1 [0, 0, 98, 1, 0, 255] []) (keyed 2 0x10 3 0) with cis := { b3 := { snaps := [(0, {})] } }, ld := { conf := 3, guard := false, tables := { obj := { signKey := some (1, 2), objects := [⟨[0, 0, 98, 1, 0, 255], .device 13, 0, 0, false, 1, 0, 0⟩] } } } }, 0, 1, 0, 0, { bytes := reqBytes 4 2 1 [0, 0, 98, 1, 0, 255] [] }, ⟨1, 2, 2, 0x10, 3, 0, 0, 0, 0, 77⟩, (0, {}), by decide⟩,
    ⟨withReq 0 (reqBytes 5 0 1 [9, 9, 9, 9, 9, 9] []) (keyed 2 4 1 0), 0, { bytes := reqBytes 5 0 1 [9, 9, 9, 9, 9, 9] [] }, ⟨⟨none, none, false, false, false, false, false, 0⟩, none⟩, by decide⟩,
    ⟨{ withReq 0 (reqBytes 4 0 1 [1, 0, 1, 8, 0, 255] []) (keyed 2 4 1 0) with ld := { conf := 3, guard := false, tables := { obj := { objects := [⟨[1, 0, 1, 8, 0, 255], .bill 0, 0, 30, true, 2, 0, 0⟩] } } } }, 0, { bytes := reqBytes 4 0 1 [1, 0, 1, 8, 0, 255] [] }, .bill 0, 2, 0, 0, by decide⟩,
    ⟨withReq 0 (reqBytes 5 0 1 [1, 0, 1, 8, 0, 255] []) (keyed 2 4 1 0), 0, { bytes := reqBytes 5 0 1 [1, 0, 1, 8, 0, 255] [] }, ⟨⟨none, none, false, false, false, false, false, 0⟩, none⟩, .bill 0, 1, 0, 0, by decide⟩,
    ⟨withReq 3 (reqBytes 6 1 0 [0, 0, 128, 5, 0, 255] [] ++ stag 0 (reqBytes 6 1 0 [0, 0, 128, 5, 0, 255] [])) (put (F.OBJ_SESS_ROLE 3) 3 (put (F.OBJ_SESS_STATE 3) 2 (keyed 2 4 1 0))), 3, 8, { bytes := reqBytes 6 1 0 [0, 0, 128, 5, 0, 255] [] ++ stag 0 (reqBytes 6 1 0 [0, 0, 128, 5, 0, 255] []) }, ⟨⟨none, none, false, false, false, false, false, 0⟩, none⟩, Config.deviceRead 8, 8, 8, ⟨by decide, by decide, by decide, by decide, rfl, by decide, by decide, sessionOk_witness8, by decide, rfl, by decide⟩⟩,
    ⟨withReq 3 (reqBytes 6 1 0 [0, 0, 128, 5, 0, 255] [] ++ stag 0 (reqBytes 6 1 0 [0, 0, 128, 5, 0, 255] [])) (put (F.OBJ_SESS_ROLE 3) 3 (put (F.OBJ_SESS_STATE 3) 2 (keyed 2 4 1 0))), 3, { bytes := reqBytes 6 1 0 [0, 0, 128, 5, 0, 255] [] ++ stag 0 (reqBytes 6 1 0 [0, 0, 128, 5, 0, 255] []) }, ⟨⟨none, none, false, false, false, false, false, 0⟩, none⟩, Config.deviceRead 8, 8, 8, ⟨by decide, by decide, by decide, by decide, rfl, by decide, by decide, sessionOk_witness8, by decide, rfl, by decide⟩⟩,
    ⟨{ keyed 2 0x10 3 0 with obj := { signing := some (4, [1, 2], 77) } }, 4, 77, [1, 2], by decide⟩,
    ⟨{}, by decide⟩,
    ⟨keyed 2 4 1 0, by decide⟩,
    ⟨{}, by decide⟩,
    ⟨{}, by decide⟩,
    ⟨put (F.OBJ_SESS_ROLE 6) 5 (put (F.OBJ_SESS_STATE 6) 2 (put F.OBJ_STATUS_CAL_EN 1 (keyed 2 4 1 0))), by decide⟩⟩

/-- Each clause of `Updates` has a state and operands that meet its hypotheses. -/
theorem wit_Updates :
    (∃ (s : State) (m : Master) (w : Word), s.Inv ∧ Writable m R.UPD_CTL s ∧ arg F.UPD_CTL_KEY w = 0x69 ∧ arg F.UPD_CTL_CMD w = 1 ∧ arg F.UPD_CTL_REGION w ≤ 1 ∧ arg F.UPD_CTL_REGION w ≠ get F.UPD_STATUS_ACTIVE s ∧ updState s = 0 ∧ s.ld.reread = 0) ∧
    (∃ (s : State) (m : Master) (w : Word), s.Inv ∧ Writable m R.UPD_CTL s ∧ arg F.UPD_CTL_KEY w = 0x69 ∧ arg F.UPD_CTL_CMD w = 1 ∧ arg F.UPD_CTL_REGION w ≤ 2 ∧ (updState s ≠ 0 ∨ arg F.UPD_CTL_REGION w = get F.UPD_STATUS_ACTIVE s ∨ s.ld.reread ≠ 0 ∨ (arg F.UPD_CTL_REGION w = 2 ∧ legalOk s = false))) ∧
    (∃ (s : State) (m : Master) (w : Word), s.Inv ∧ Writable m R.UPD_CTL s ∧ arg F.UPD_CTL_KEY w = 0x69 ∧ arg F.UPD_CTL_CMD w = 1 ∧ arg F.UPD_CTL_REGION w = 2 ∧ get F.UPD_STATUS_ACTIVE s ≤ 1 ∧ updState s = 0 ∧ s.ld.reread = 0 ∧ legalOk s = true) ∧
    (∃ (s : State), s.Inv ∧ updState s = 1 ∧ domOn 5 s = true) ∧
    (∃ (s : State) (m : Master) (w : Word), s.Inv ∧ Writable m R.UPD_CTL s ∧ arg F.UPD_CTL_KEY w = 0x69 ∧ arg F.UPD_CTL_CMD w = 2 ∧ updState s = 2) ∧
    (∃ (s : State) (m : Master) (w : Word) (i : Instr), s.Inv ∧ Writable m R.UPD_CTL s ∧ (i = .updBegin m w ∨ i = .updVerify m w ∨ i = .updActivate m w ∨ i = .updAbort m w ∨ i = .copyLegal m w none) ∧ arg F.UPD_CTL_KEY w ≠ 0x69) ∧
    (∃ (s : State) (m : Master) (w : Word), s.Inv ∧ Writable m R.UPD_CTL s ∧ arg F.UPD_CTL_KEY w = 0x69 ∧ ((arg F.UPD_CTL_CMD w = 1 ∧ arg F.UPD_CTL_REGION w = 3) ∨ (arg F.UPD_CTL_CMD w = 2 ∧ updState s ≠ 2) ∨ (arg F.UPD_CTL_CMD w = 3 ∧ (updState s ≠ 4 ∨ s.obj.updLegal = true)) ∨ (arg F.UPD_CTL_CMD w = 4 ∧ (updState s = 0 ∨ 4 < updState s ∨ s.obj.actWait = true)))) ∧
    (∃ (s : State) (key : Nat), s.Inv ∧ updState s = 3 ∧ domOn 5 s = true ∧ packageHead s.obj.updLegal (slotBytesOf (updRegion s) s) = true ∧ hsigOk (slotBytesOf (updRegion s) s) = true ∧ (verifierKey s).1 = some key ∧ sigOk key (slotBytesOf (updRegion s) s) = true ∧ (updRec (verifierKey s).2).floor ≤ field (slotBytesOf (updRegion s) s) 8 4) ∧
    (∃ (s : State), s.Inv ∧ updState s = 3 ∧ domOn 5 s = true ∧ (packageHead s.obj.updLegal (slotBytesOf (updRegion s) s) = false ∨ hsigOk (slotBytesOf (updRegion s) s) = false)) ∧
    (∃ (s : State) (key : Nat), s.Inv ∧ updState s = 3 ∧ domOn 5 s = true ∧ packageHead s.obj.updLegal (slotBytesOf (updRegion s) s) = true ∧ hsigOk (slotBytesOf (updRegion s) s) = true ∧ (verifierKey s).1 = some key ∧ (sigOk key (slotBytesOf (updRegion s) s) = false ∨ field (slotBytesOf (updRegion s) s) 8 4 < (updRec (verifierKey s).2).floor)) ∧
    (∃ (s : State), domOn 5 s = false) ∧
    (∃ (s : State), (updState s ≠ 1 ∧ updState s ≠ 3)) ∧
    (∃ (s : State) (m : Master) (w : Word), Writable m R.UPD_CTL s ∧ arg F.UPD_CTL_KEY w = 0x69 ∧ arg F.UPD_CTL_CMD w = 3 ∧ updState s = 4 ∧ s.obj.updLegal = false) ∧
    (∃ (s : State) (x : Nat), updState s = 5 ∧ s.obj.actAt = some x ∧ x + 102 ≤ s.sup.mono ∧ domOn 5 s = true ∧ (updRec s).pend ≤ 1) ∧
    (∃ (s : State), (updState s ≠ 5 ∨ ∀ x, s.obj.actAt = some x → s.sup.mono < x + 102)) ∧
    (∃ (s : State), (e2Up s = false ∨ (updRec s).inTrial = false ∨ (updRec s).trialUsed < 600)) ∧
    (∃ (s : State), s.Inv ∧ e2Up s = true ∧ (updRec s).inTrial = true ∧ 600 ≤ (updRec s).trialUsed) ∧
    (∃ (s : State) (m : Master) (w : Word), s.Inv ∧ Writable m R.UPD_CTL s ∧ arg F.UPD_CTL_KEY w = 0x69 ∧ arg F.UPD_CTL_CMD w = 4 ∧ (1 ≤ updState s ∧ updState s ≤ 4) ∧ s.obj.actWait = false) ∧
    (∃ (s : State) (m : Master) (w : Word) (img : Image), s.Inv ∧ Writable m R.UPD_CTL s ∧ arg F.UPD_CTL_KEY w = 0x69 ∧ arg F.UPD_CTL_CMD w = 5 ∧ updState s = 4 ∧ s.obj.updLegal = true ∧ legalOk s = true ∧ legalFits 0 s = true ∧ legalImageOk (some img) (packageBody (slotBytesOf (updRegion s) s)) (packageLegalId (slotBytesOf (updRegion s) s)) s = true) ∧
    (∃ (s : State) (m : Master) (w : Word) (img : Option Image), s.Inv ∧ Writable m R.UPD_CTL s ∧ arg F.UPD_CTL_KEY w = 0x69 ∧ arg F.UPD_CTL_CMD w = 5 ∧ (updState s ≠ 4 ∨ s.obj.updLegal = false ∨ legalOk s = false)) :=
  ⟨⟨{ st [(F.PMU_DOM_STATUS_ON, 0x7FF)] with obj := { slotB := [1, 2], updLegal := true } }, .engine 2, wd [(F.UPD_CTL_KEY, 0x69), (F.UPD_CTL_CMD, 1), (F.UPD_CTL_REGION, 1)], by decide⟩,
    ⟨put F.UPD_STATUS_STATE 2 (st [(F.PMU_DOM_STATUS_ON, 0x7FF)]), .engine 2, wd [(F.UPD_CTL_KEY, 0x69), (F.UPD_CTL_CMD, 1), (F.UPD_CTL_REGION, 1)], by decide⟩,
    ⟨{ witLegalState with regs := (put F.UPD_STATUS_STATE 0 witLegalState).regs, obj := { slotB := [1, 2] } }, .engine 2, wd [(F.UPD_CTL_KEY, 0x69), (F.UPD_CTL_CMD, 1), (F.UPD_CTL_REGION, 2)], by decide⟩,
    ⟨put F.UPD_STATUS_STATE 1 (st [(F.PMU_DOM_STATUS_ON, 0x7FF)]), by decide⟩,
    ⟨put F.UPD_STATUS_STATE 2 (st [(F.PMU_DOM_STATUS_ON, 0x7FF)]), .engine 2, wd [(F.UPD_CTL_KEY, 0x69), (F.UPD_CTL_CMD, 2)], by decide⟩,
    ⟨st [(F.PMU_DOM_STATUS_ON, 0x7FF)], .engine 2, wd [(F.UPD_CTL_CMD, 2)], .updAbort (.engine 2) (wd [(F.UPD_CTL_CMD, 2)]), by decide⟩,
    ⟨st [(F.PMU_DOM_STATUS_ON, 0x7FF)], .engine 2, wd [(F.UPD_CTL_KEY, 0x69), (F.UPD_CTL_CMD, 3)], by decide⟩,
    ⟨{ put F.UPD_STATUS_STATE 3 (keyed 0x10 0x20 4 0) with obj := { slotA := witPackage } }, witVerifier, witPackage_meets⟩,
    ⟨put F.UPD_STATUS_STATE 3 (keyed 0x10 0x20 4 0), by decide⟩,
    ⟨{ put F.UPD_STATUS_STATE 3 (keyed 0x10 0x20 4 0) with obj := { slotA := witPackage }, cis := { b1 := { upd := { a := some (4, ⟨1, 2, 0, false, 8, 3, 9, 1, 2, false⟩) } } } }, witVerifier, witPackage_floor⟩,
    ⟨{}, by decide⟩,
    ⟨{}, by decide⟩,
    ⟨put F.UPD_STATUS_REGION 1 (put F.UPD_STATUS_STATE 4 (keyed 0x10 0x20 4 0)), .engine 2, wd [(F.UPD_CTL_KEY, 0x69), (F.UPD_CTL_CMD, 3)], by decide⟩,
    ⟨{ put F.UPD_STATUS_STATE 5 (keyed 0x10 0x20 4 0) with obj := { actAt := some 3 }, sup := { mode := .running, mono := 105 }, cis := { b1 := { upd := { a := some (4, ⟨0, 1, 0, false, 0, 3, 9, 1, 2, false⟩) } } } }, 3, by decide⟩,
    ⟨{ put F.UPD_STATUS_STATE 5 (keyed 0x10 0x20 4 0) with obj := { actAt := some 3 }, sup := { mode := .running, mono := 104 } }, by decide⟩,
    ⟨{}, by decide⟩,
    ⟨{ keyed 0x10 0x20 4 0 with cis := { b1 := { upd := { a := some (4, ⟨1, 2, 600, true, 7, 3, 9, 0, 2, false⟩) } } } }, by decide⟩,
    ⟨{ put F.UPD_STATUS_STATE 4 (keyed 0x10 0x20 4 0) with obj := { slotA := [1], slotB := [2] } }, .engine 2, wd [(F.UPD_CTL_KEY, 0x69), (F.UPD_CTL_CMD, 4)], by decide⟩,
    ⟨witLegalState, .engine 2, wd [(F.UPD_CTL_KEY, 0x69), (F.UPD_CTL_CMD, 5)], witLegalImage, witLegal_meets⟩,
    ⟨st [(F.PMU_DOM_STATUS_ON, 0x7FF)], .engine 2, wd [(F.UPD_CTL_KEY, 0x69), (F.UPD_CTL_CMD, 5)], none, by decide⟩⟩

/-- Each clause of `KeyAuthority` has a state and operands that meet its hypotheses. -/
theorem wit_KeyAuthority :
    (∃ (s : State) (m : List Byte), s.Inv ∧ e8Up s = true ∧ s.well.ku = none ∧ kuCheck m s = 0) ∧
    (∃ (s : State) (m : List Byte) (reply : Reply), s.Inv ∧ e8Up s = true ∧ s.well.ku = none ∧ kuCheck m s ≠ 0) ∧
    (∃ (s : State) (m : List Byte) (reply : Reply), s.Inv ∧ e8Up s = true ∧ s.well.ku.isSome = true) ∧
    (∃ (s : State) (m : List Byte) (reply : Reply), e8Up s = false) ∧
    (∃ (s : State), s.well.ku = none) ∧
    (∃ (s : State) (j : KeyJob), kuReady 1 s = some j) ∧
    (∃ (s : State) (j : KeyJob), kuReady 2 s = some j) ∧
    (∃ (s : State) (j : KeyJob), kuReady 3 s = some j) ∧
    (∃ (s : State) (j : KeyJob), s.Inv ∧ kuReady 4 s = some j) ∧
    (∃ (s : State) (j : KeyJob), kuReady 5 s = some j) ∧
    (∃ (s : State) (j : KeyJob), kuReady 6 s = some j) ∧
    (∃ (s : State) (j : KeyJob) (r : WellRec), s.Inv ∧ s.well.ku = some j ∧ j.written = some r ∧ j.op ≠ 0 ∧ j.reply = .nobody ∧ fbit F.CIS_STATUS_DIRTY 1 s = false ∧ fbit F.CIS_STATUS_COPYING 1 s = false ∧ fbit F.CIS_QUEUE_WAITING 1 s = false) ∧
    (∃ (s : State) (j : KeyJob) (r : WellRec) (a : Activation), s.Inv ∧ s.well.ku = some j ∧ j.written = some r ∧ j.op = 0 ∧ s.pay.activating = some a ∧ a.token.reply = .nobody ∧ s.pay.queue = [] ∧ domOn 5 s = true ∧ fbit F.CIS_STATUS_DIRTY 1 s = false ∧ fbit F.CIS_STATUS_COPYING 1 s = false ∧ fbit F.CIS_QUEUE_WAITING 1 s = false) ∧
    (∃ (s : State) (j : KeyJob), s.well.ku = some j ∧ (j.written = none ∨ fbit F.CIS_STATUS_DIRTY 1 s = true ∨ fbit F.CIS_STATUS_COPYING 1 s = true ∨ fbit F.CIS_QUEUE_WAITING 1 s = true)) :=
  ⟨⟨{ st [(F.PMU_DOM_STATUS_ON, 0x7FF)] with ld := { guard := false, conf := 3 }, well := { otp := [none, none, some 5, none], d0 := some {} } }, witKeyMsg, witKeyMsg_meets⟩,
    ⟨st [(F.PMU_DOM_STATUS_ON, 0x7FF)], [1, 2], .object 3, by decide⟩,
    ⟨{ st [(F.PMU_DOM_STATUS_ON, 0x7FF)] with well := { ku := some {} } }, [], .object 2, by decide⟩,
    ⟨{}, [], .object 2, by decide⟩,
    ⟨{}, by decide⟩,
    ⟨{ keyed 2 4 1 0 with well := { d0 := some {}, ku := some { op := 1, msg := List.replicate 240 3, key := 9 } } }, { op := 1, msg := List.replicate 240 3, key := 9 }, by decide +kernel⟩,
    ⟨{ keyed 2 4 1 0 with well := { d0 := some {}, ku := some { op := 2, msg := List.replicate 240 3, key := 9 } } }, { op := 2, msg := List.replicate 240 3, key := 9 }, by decide +kernel⟩,
    ⟨{ keyed 2 4 1 0 with well := { d0 := some {}, ku := some { op := 3, msg := List.replicate 240 3, key := 9 } } }, { op := 3, msg := List.replicate 240 3, key := 9 }, by decide +kernel⟩,
    ⟨{ keyed 2 4 1 0 with well := { d0 := some {}, ku := some { op := 4, msg := List.replicate 240 3 } } }, { op := 4, msg := List.replicate 240 3 }, by decide +kernel⟩,
    ⟨{ keyed 2 4 1 0 with well := { d0 := some {}, ku := some { op := 5, msg := List.replicate 240 3 } } }, { op := 5, msg := List.replicate 240 3 }, by decide +kernel⟩,
    ⟨{ keyed 2 4 1 0 with well := { d0 := none, ku := some { op := 6, msg := List.replicate 240 3 } } }, { op := 6, msg := List.replicate 240 3 }, by decide +kernel⟩,
    ⟨{ keyed 2 4 1 0 with well := { d0 := some {}, ku := some { op := 4, msg := [0, 0, 0, 0, 4, 0, 1, 2], written := some { counter := 8 } }, slots := [⟨1, 2, 0, 0, 0, 0, 0, 0, 0, 7⟩] } }, { op := 4, msg := [0, 0, 0, 0, 4, 0, 1, 2], written := some { counter := 8 } }, { counter := 8 }, by decide⟩,
    ⟨{ keyed 2 4 1 0 with well := { d0 := some {}, ku := some { op := 0, written := some { counter := 8 } } }, pay := { activating := some ⟨{}, 4, [(9, 1)], 6⟩ } }, { op := 0, written := some { counter := 8 } }, { counter := 8 }, ⟨{}, 4, [(9, 1)], 6⟩, by decide⟩,
    ⟨{ st [(F.CIS_STATUS_DIRTY, 2)] with well := { ku := some { written := some {} } } }, { written := some {} }, by decide⟩⟩

/-- Each clause of `WellAndCrypto` has a state and operands that meet its hypotheses (part 1). -/
theorem wit_WellAndCrypto :
    (∃ (s : State) (p ch i : Nat) (nonce : List Byte) (k : WSlot), s.Inv ∧ nonce.length = 16 ∧ (loadKey p ch none s).1 = .ok k) ∧
    (∃ (s : State) (p ch : Nat) (nonce : List Byte) (reply : Reply) (l : Load), (loadKey p ch none (takeReply reply s)).1 = l ∧ (∀ k, l ≠ .ok k)) ∧
    (∃ (s : State) (i : Nat), i < 7) ∧
    (∃ (s : State), s.sup.mode ≠ .outage ∧ s.sup.mode ≠ .ship ∧ s.well.maskAt + 1024 * get F.WEL_CFG_REMASK s ≤ s.sup.mono) ∧
    (∃ (s : State), (s.sup.mode = .outage ∨ s.sup.mode = .ship ∨ s.sup.mono < s.well.maskAt + 1024 * get F.WEL_CFG_REMASK s)) ∧
    (∃ (s : State) (w : Word), s.Inv ∧ domOn 0 s = true ∧ arg F.WEL_OTP_CTL_KEY w = 0xD7 ∧ arg F.WEL_OTP_CTL_BURN w = 1 ∧ arg F.WEL_OTP_CTL_LOCK w = 0 ∧ arg F.WEL_OTP_CTL_KILL w = 0 ∧ flag F.WEL_STATUS_ROOT s = true ∧ s.well.provLock = false ∧ s.well.otp.length = 4 ∧ nth none s.well.otp (arg F.WEL_OTP_CTL_SLOT w) = none) ∧
    (∃ (s : State) (w : Word), s.Inv ∧ domOn 0 s = true ∧ arg F.WEL_OTP_CTL_KEY w = 0xD7 ∧ arg F.WEL_OTP_CTL_BURN w = 1 ∧ arg F.WEL_OTP_CTL_LOCK w = 0 ∧ arg F.WEL_OTP_CTL_KILL w = 0 ∧ flag F.WEL_STATUS_ROOT s = true ∧ (s.well.provLock = true ∨ (nth none s.well.otp (arg F.WEL_OTP_CTL_SLOT w)).isSome = true)) ∧
    (∃ (s : State) (w : Word), s.Inv ∧ domOn 0 s = true ∧ arg F.WEL_OTP_CTL_KEY w = 0xD7 ∧ arg F.WEL_OTP_CTL_BURN w = 0 ∧ arg F.WEL_OTP_CTL_LOCK w = 1 ∧ arg F.WEL_OTP_CTL_KILL w = 0 ∧ flag F.WEL_STATUS_ROOT s = true) ∧
    (∃ (s : State) (w : Word), s.Inv ∧ domOn 0 s = true ∧ arg F.WEL_OTP_CTL_KEY w = 0xD7 ∧ arg F.WEL_OTP_CTL_BURN w = 0 ∧ arg F.WEL_OTP_CTL_LOCK w = 0 ∧ arg F.WEL_OTP_CTL_KILL w = 1 ∧ flag F.WEL_STATUS_ROOT s = true) ∧
    (∃ (s : State) (w : Word), domOn 0 s = true ∧ (arg F.WEL_OTP_CTL_KEY w ≠ 0xD7 ∨ flag F.WEL_STATUS_ROOT s = false)) ∧
    (∃ (s : State) (j : CryptoJob), s.Inv ∧ e8Up s = true ∧ (j.caller = 1 ∨ j.caller = 2 ∨ j.caller = 8 ∨ j.caller = 10) ∧ (j.op ≠ 8 ∨ isLasting 45 s = false) ∧ s.well.jobs = [] ∧ s.well.running = none ∧ j.key = none) ∧
    (∃ (s : State) (j : CryptoJob) (e : Nat × Nat) (k : WSlot), s.Inv ∧ e8Up s = true ∧ (j.caller = 1 ∨ j.caller = 2 ∨ j.caller = 8 ∨ j.caller = 10) ∧ (j.op ≠ 8 ∨ isLasting 45 s = false) ∧ s.well.jobs = [] ∧ s.well.running = none ∧ j.key = some e ∧ (loadKey e.1 e.2 (some (if servedTo j.caller j.dest then j.dest else 0, j.usage)) s).1 = .ok k) ∧
    (∃ (s : State) (j : CryptoJob), s.Inv ∧ e8Up s = true ∧ (j.caller = 1 ∨ j.caller = 2 ∨ j.caller = 8 ∨ j.caller = 10) ∧ (j.op ≠ 8 ∨ isLasting 45 s = false) ∧ s.well.running.isSome = true ∧ s.well.jobs.length < 8) ∧
    (∃ (s : State) (j : CryptoJob), s.Inv ∧ e8Up s = true ∧ (j.caller = 1 ∨ j.caller = 2 ∨ j.caller = 8 ∨ j.caller = 10) ∧ (j.op ≠ 8 ∨ isLasting 45 s = false) ∧ 8 ≤ s.well.jobs.length) ∧
    (∃ (s : State) (j : CryptoJob), (e8Up s = false ∨ (j.op = 8 ∧ isLasting 45 s = true))) ∧
    (∃ (s : State), s.Inv ∧ e8Up s = true ∧ s.well.running.isSome = true) ∧
    (∃ (s : State), (e8Up s = false ∨ s.well.running = none)) ∧
    (∃ (s : State) (raw : List Bool) (x : Trng), s.Inv ∧ e8Up s = true ∧ isLasting 45 s = false ∧ s.well.seeded = false ∧ trngRun s.well.trng raw = (0, 0, x) ∧ 1024 ≤ x.good) ∧
    (∃ (s : State) (raw : List Bool) (x : Trng), s.Inv ∧ e8Up s = true ∧ trngRun s.well.trng raw = (0, 0, x) ∧ (x.good < 1024 ∨ s.well.seeded = true)) ∧
    (∃ (s : State) (raw : List Bool) (rct apt : Nat) (x : Trng), s.Inv ∧ e8Up s = true ∧ trngRun s.well.trng raw = (rct, apt, x) ∧ rct + apt = 1 ∧ x.good < 1024 ∧ staysBelow 45 s = true) :=
  ⟨⟨keyed 2 4 1 0, 1, 2, 3, zeros 16, ⟨1, 2, 2, 4, 1, 0, 0, 0, 0, 77⟩, by decide⟩,
    ⟨keyed 2 4 1 0, 1, 9, zeros 16, .object 1, .absent, ⟨by decide, by intro k; nofun⟩⟩,
    ⟨keyed 2 4 1 0, 3, by decide⟩,
    ⟨{ keyed 2 4 1 0 with sup := { mode := .running, mono := 5 } }, by decide⟩,
    ⟨{ ({} : State) with sup := { mode := .ship } }, by decide⟩,
    ⟨{ st [(F.PMU_DOM_STATUS_ON, 0x7FF), (F.WEL_STATUS_ROOT, 1)] with hidden := [(R.WEL_OTP_DATA 0, 5)] }, wd [(F.WEL_OTP_CTL_KEY, 0xD7), (F.WEL_OTP_CTL_BURN, 1), (F.WEL_OTP_CTL_SLOT, 3)], by decide⟩,
    ⟨{ st [(F.PMU_DOM_STATUS_ON, 0x7FF), (F.WEL_STATUS_ROOT, 1)] with well := { provLock := true } }, wd [(F.WEL_OTP_CTL_KEY, 0xD7), (F.WEL_OTP_CTL_BURN, 1), (F.WEL_OTP_CTL_SLOT, 3)], by decide⟩,
    ⟨{ st [(F.PMU_DOM_STATUS_ON, 0x7FF), (F.WEL_STATUS_ROOT, 1)] with well := { otp := [some 1, none, some 2, none] } }, wd [(F.WEL_OTP_CTL_KEY, 0xD7), (F.WEL_OTP_CTL_LOCK, 1)], by decide⟩,
    ⟨st [(F.PMU_DOM_STATUS_ON, 0x7FF), (F.WEL_STATUS_ROOT, 1)], wd [(F.WEL_OTP_CTL_KEY, 0xD7), (F.WEL_OTP_CTL_KILL, 1)], by decide⟩,
    ⟨st [(F.PMU_DOM_STATUS_ON, 0x7FF), (F.WEL_STATUS_ROOT, 1)], wd [(F.WEL_OTP_CTL_KEY, 0xD6), (F.WEL_OTP_CTL_KILL, 1)], by decide⟩,
    ⟨keyed 2 4 1 0, { caller := 2, op := 5 }, by decide⟩,
    ⟨keyed 2 4 1 0, { caller := 2, key := some (1, 2), dest := 2, usage := 4 }, (1, 2), ⟨1, 2, 2, 4, 1, 0, 0, 0, 0, 77⟩, by decide⟩,
    ⟨{ keyed 2 4 1 0 with well := { running := some {}, jobs := [{ caller := 10 }, { caller := 1 }] } }, { caller := 10, op := 5 }, by decide⟩,
    ⟨{ keyed 2 4 1 0 with well := { jobs := List.replicate 8 {} } }, { caller := 10 }, by decide⟩,
    ⟨{}, {}, by decide⟩,
    ⟨{ keyed 2 4 1 0 with well := { running := some {} } }, by decide⟩,
    ⟨{}, by decide⟩,
    ⟨{ keyed 2 4 1 0 with sup := { mode := .running, mono := 8 }, well := { trng := { last := some false, run := 1, pos := 7, same := 3, good := 1023 } } }, [true], { last := some true, run := 1, first := false, same := 3, pos := 8, good := 1024 }, by decide⟩,
    ⟨{ keyed 2 4 1 0 with sup := { mode := .running, mono := 8 }, well := { seeded := true, trng := { last := some false, run := 1, pos := 7, same := 3, good := 1023 } } }, [true], { last := some true, run := 1, first := false, same := 3, pos := 8, good := 1024 }, by decide⟩,
    ⟨{ keyed 2 4 1 0 with well := { trng := { last := some true, run := 40, pos := 7, same := 3, good := 500 } } }, [true, false], 1, 0, { last := some false, run := 1, pos := 9, same := 4, good := 1 }, by decide⟩⟩

/-- Each clause of `WellAndCrypto` has a state and operands that meet its hypotheses (part 2). -/
theorem wit_WellAndCrypto_2 :
    (∃ (s : State) (raw : List Bool), e8Up s = false) ∧
    (∃ (s : State), s.Inv ∧ e8Up s = true ∧ s.well.seeded = true ∧ isLasting 45 s = false ∧ (s.well.seedAt + 61440 ≤ s.sup.mono ∨ 2 ^ 20 ≤ s.well.requests)) ∧
    (∃ (s : State), (s.well.seeded = false ∨ isLasting 45 s = true ∨ (s.sup.mono < s.well.seedAt + 61440 ∧ s.well.requests < 2 ^ 20))) :=
  ⟨⟨{}, [true], by decide⟩,
    ⟨{ keyed 2 4 1 0 with sup := { mode := .running, mono := 8 }, well := { seeded := true, requests := 1048576 } }, by decide⟩,
    ⟨{}, by decide⟩⟩

/-- Each clause of `TamperSources` has a state and operands that meet its hypotheses. -/
theorem wit_TamperSources :
    (∃ (s : State) (x frac detail : Nat), latchable x = true ∧ evaluated s = false ∧ s.sup.mode ≠ .ship ∧ (s.sup.mode ≠ .outage ∨ 1 < x) ∧ lateActive x s = false) ∧
    (∃ (s : State) (x frac detail : Nat), s.Inv ∧ latchable x = true ∧ evaluated s = true ∧ s.sup.mode = .running ∧ watched x s = true ∧ producer x s = false ∧ domOn (producerDom x) s = true) ∧
    (∃ (s : State) (x frac detail : Nat), latchable x = true ∧ evaluated s = true ∧ (s.sup.mode ≠ .outage ∨ 1 < x) ∧ watched x s = true) ∧
    (∃ (s : State) (x : Nat), latchable x = true ∧ evaluated s = false ∧ (s.sup.mode ≠ .outage ∨ 1 < x) ∧ lateActive x s = true) ∧
    (∃ (s : State) (x : Nat), s.Inv ∧ latchable x = true ∧ evaluated s = true ∧ s.sup.mode = .running ∧ producer x s = true) ∧
    (∃ (s : State) (x frac detail : Nat), (latchable x = false ∨ (s.sup.mode = .outage ∧ x ≤ 1) ∨ (evaluated s = true ∧ watched x s = false ∧ producer x s = false) ∨ (s.sup.mode = .ship ∧ evaluated s = false ∧ lateActive x s = false))) ∧
    (∃ (s : State) (cov tcov : Bool), s.sup.mode = .outage ∧ evaluated s = true ∧ cov = flag F.TAMP_IN_CFG_POL_COV s ∧ tcov = !(flag F.TAMP_IN_CFG_POL_TCOV s) ∧ s.tamp.covSeen.length = 2 ∧ s.tamp.relSeen.length = 2 ∧ nth 0 s.tamp.covSeen 0 + 1 < coverSamples 0 s ∧ nth 0 s.tamp.relSeen 1 + 1 ≠ coverSamples 1 s) ∧
    (∃ (s : State) (cov tcov : Bool), s.sup.mode = .outage ∧ evaluated s = true ∧ flag F.TAMP_IN_CFG_EN_COV s = true ∧ cov = flag F.TAMP_IN_CFG_POL_COV s ∧ s.tamp.covSeen.length = 2 ∧ s.tamp.relSeen.length = 2 ∧ nth 0 s.tamp.covSeen 0 + 1 = coverSamples 0 s) ∧
    (∃ (s : State) (cov tcov : Bool), s.sup.mode ≠ .outage) ∧
    (∃ (s : State) (m : Master) (w : Word), Writable m R.TAMP_CTL s ∧ (arg F.TAMP_CTL_KEY w ≠ 0xE1 ∨ arg F.TAMP_CTL_CLEAR w = 0)) ∧
    (∃ (s : State) (m : Master) (w : Word), s.Inv ∧ Writable m R.TAMP_CTL s ∧ arg F.TAMP_CTL_KEY w = 0xE1 ∧ arg F.TAMP_CTL_CLEAR w = 1 ∧ isLasting (arg F.TAMP_CTL_INDEX w) s = false) ∧
    (∃ (s : State) (m : Master) (w : Word), s.Inv ∧ Writable m R.TAMP_CTL s ∧ arg F.TAMP_CTL_KEY w = 0xE1 ∧ arg F.TAMP_CTL_CLEAR w = 1 ∧ isLasting (arg F.TAMP_CTL_INDEX w) s = true) ∧
    (∃ (s : State), s.Inv ∧ s.sup.mode ≠ .ship) ∧
    (∃ (s : State), s.sup.mode = .ship) ∧
    (∃ (s : State), s.Inv ∧ s.tamp.totalsChanged = true ∧ bank2Open s = true) ∧
    (∃ (s : State), (s.tamp.totalsChanged = false ∨ bank2Open s = false)) :=
  ⟨⟨{ ({} : State) with sup := { mode := .loading } }, 6, 0, 0, by decide⟩,
    ⟨{ st [(F.TAMP_STATUS_EVALUATED, 1), (F.PMU_DOM_STATUS_ON, 1)] with sup := { mode := .running } }, 4, 0, 0, by decide⟩,
    ⟨{ st [(F.TAMP_STATUS_EVALUATED, 1), (F.PMU_DOM_STATUS_ON, 1)] with sup := { mode := .outage } }, 4, 0, 0, by decide⟩,
    ⟨{ ({} : State) with sup := { mode := .loading }, tamp := { prods := 64 } }, 6, by decide⟩,
    ⟨{ st [(F.TAMP_STATUS_EVALUATED, 1)] with sup := { mode := .running }, tamp := { prods := 16 } }, 4, by decide⟩,
    ⟨{}, 2, 0, 0, by decide⟩,
    ⟨{ st [(F.TAMP_STATUS_EVALUATED, 1), (F.TAMP_IN_CFG_POL_COV, 1), (F.TAMP_IN_CFG_DEB_COV, 200), (F.TAMP_IN_CFG_DEB_TCOV, 200)] with sup := { mode := .outage } }, true, true, by decide⟩,
    ⟨{ st [(F.PMU_DOM_STATUS_ON, 1), (F.TAMP_STATUS_EVALUATED, 1), (F.TAMP_IN_CFG_POL_COV, 1), (F.TAMP_IN_CFG_EN_COV, 1), (F.TAMP_IN_CFG_DEB_COV, 50), (F.TAMP_IN_CFG_DEB_TCOV, 200)] with sup := { mode := .outage }, tamp := { covSeen := [1, 0] } }, true, true, by decide⟩,
    ⟨{}, true, true, by decide⟩,
    ⟨st [(F.PMU_DOM_STATUS_ON, 0x7FF)], .engine 2, wd [(F.TAMP_CTL_KEY, 0xE1), (F.TAMP_CTL_INDEX, 63)], by decide⟩,
    ⟨st [(F.PMU_DOM_STATUS_ON, 0x7FF)], .engine 2, wd [(F.TAMP_CTL_KEY, 0xE1), (F.TAMP_CTL_CLEAR, 1), (F.TAMP_CTL_INDEX, 63)], by decide⟩,
    ⟨st [(F.PMU_DOM_STATUS_ON, 0x7FF), (F.TAMP_LASTING_LASTING 1, 0x80000000), (F.TAMP_FC_STAT_LASTING 63, 1)], .engine 2, wd [(F.TAMP_CTL_KEY, 0xE1), (F.TAMP_CTL_CLEAR, 1), (F.TAMP_CTL_INDEX, 63)], by decide⟩,
    ⟨{ st [(F.TAMP_LASTING_LASTING 1, 0x80000000), (F.TAMP_FC_STAT_LASTING 63, 1), (F.TAMP_FC_QUIET_Q 63, 1)] with sup := { mode := .running, mono := 1024 } }, by decide⟩,
    ⟨{ ({} : State) with sup := { mode := .ship } }, by decide⟩,
    ⟨{ st [(F.PMU_DOM_STATUS_ON, 0x7FF), (F.CIS_QUEUE_RECALLED, 0xFFFF)] with tamp := { totalsChanged := true }, sup := { mode := .running } }, by decide⟩,
    ⟨{}, by decide⟩⟩

/-- Each clause of `ClockMonitors` has a state and operands that meet its hypotheses. -/
theorem wit_ClockMonitors :
    (∃ (s : State), s.Inv ∧ flag F.SUP_RTC_STATUS_SIRC s = false) ∧
    (∃ (s : State), s.Inv ∧ flag F.SUP_RTC_STATUS_SIRC s = true) ∧
    (∃ (s : State), s.Inv ∧ flag F.CLK_STATUS_SPLL_LOCK s = true) ∧
    (∃ (s : State), s.Inv ∧ flag F.CLK_CTL_SPLL_EN s = true ∧ flag F.CLK_STATUS_SPLL_LOCK s = false) ∧
    (∃ (s : State), s.Inv ∧ flag F.CLK_STATUS_MPLL_LOCK s = true) ∧
    (∃ (s : State), s.Inv ∧ (get F.CLK_STATUS_MPLL_REF s = 2 ∨ flag F.CLK_STATUS_MPLL_LOCK s = false) ∧ framesRun s = true) ∧
    (∃ (s : State), s.Inv ∧ get F.PMU_VMON_VBAT_LOW s ≠ 0) ∧
    (∃ (s : State), s.Inv ∧ (get F.CLK_STATUS_MPLL_REF s = 2 ∨ flag F.CLK_STATUS_MPLL_LOCK s = false) ∧ framesRun s = false) :=
  ⟨⟨st [(F.CLK_STATUS_XTAL32_OK, 1)], by decide⟩,
    ⟨st [(F.SUP_RTC_STATUS_SIRC, 1)], by decide⟩,
    ⟨st [(F.CLK_STATUS_SPLL_LOCK, 1)], by decide⟩,
    ⟨st [(F.CLK_CTL_SPLL_EN, 1)], by decide⟩,
    ⟨st [(F.CLK_STATUS_MPLL_LOCK, 1), (F.PMU_DOM_STATUS_ON, 0x7FF)], by decide⟩,
    ⟨st [(F.CLK_STATUS_MPLL_REF, 2), (F.PHE_FRAME_POS_VALID, 1)], by decide⟩,
    ⟨st [(F.PMU_VMON_VBAT_LOW, 1), (F.PMU_VMON_VBAT_OK, 1)], by decide⟩,
    ⟨st [(F.CLK_STATUS_MPLL_REF, 2), (F.CLK_CFG_XTALM, 1)], by decide⟩⟩

/-- Each clause of `OperatingPointChange` has a state and operands that meet its hypotheses. -/
theorem wit_OperatingPointChange :
    (∃ (s : State) (m : Master) (w : Word), s.Inv ∧ Writable m R.CLK_CTL s ∧ get F.PMU_STATE_STATE s ≠ 2 ∧ s.sup.opTarget = none ∧ get F.CLK_CTL_OP s < arg F.CLK_CTL_OP w ∧ arg F.CLK_CTL_OP w ≤ get F.CLK_CFG_MAX_OP s ∧ arg F.CLK_CTL_CORE1 w ≤ arg F.CLK_CTL_OP w ∧ arg F.CLK_CTL_CORE2 w ≤ arg F.CLK_CTL_OP w ∧ flag F.CLK_STATUS_SPLL_LOCK s = true) ∧
    (∃ (s : State) (m : Master) (w : Word), s.Inv ∧ Writable m R.CLK_CTL s ∧ (get F.PMU_STATE_STATE s = 2 ∨ s.sup.opTarget.isSome = true)) ∧
    (∃ (s : State) (m : Master) (w : Word), s.Inv ∧ Writable m R.CLK_CTL s ∧ get F.PMU_STATE_STATE s ≠ 2 ∧ s.sup.opTarget = none ∧ (get F.CLK_CFG_MAX_OP s < arg F.CLK_CTL_OP w ∨ (get F.CLK_CTL_OP s ≤ arg F.CLK_CTL_OP w ∧ (arg F.CLK_CTL_OP w < arg F.CLK_CTL_CORE1 w ∨ arg F.CLK_CTL_OP w < arg F.CLK_CTL_CORE2 w ∨ (0 < arg F.CLK_CTL_CORE1 w + arg F.CLK_CTL_CORE2 w ∧ flag F.CLK_STATUS_SPLL_LOCK s = false))))) ∧
    (∃ (s : State) (m : Master) (w : Word), s.Inv ∧ Writable m R.CLK_CTL s ∧ get F.PMU_STATE_STATE s ≠ 2 ∧ s.sup.opTarget = none ∧ arg F.CLK_CTL_OP w < get F.CLK_CTL_OP s ∧ arg F.CLK_CTL_OP w ≤ get F.CLK_CFG_MAX_OP s ∧ flag F.CLK_STATUS_SPLL_LOCK s = true) ∧
    (∃ (s : State) (m : Master) (w : Word), s.Inv ∧ Writable m R.CLK_CTL s ∧ get F.PMU_STATE_STATE s ≠ 2 ∧ s.sup.opTarget = none ∧ (arg F.CLK_CTL_OP w = get F.CLK_CTL_OP s ∧ arg F.CLK_CTL_CORE1 w = get F.CLK_CTL_CORE1 s ∧ arg F.CLK_CTL_CORE2 w = get F.CLK_CTL_CORE2 s) ∧ (arg F.CLK_CTL_OP w ≤ get F.CLK_CFG_MAX_OP s ∧ arg F.CLK_CTL_CORE1 w ≤ arg F.CLK_CTL_OP w ∧ arg F.CLK_CTL_CORE2 w ≤ arg F.CLK_CTL_OP w) ∧ (flag F.CLK_STATUS_SPLL_LOCK s = true ∨ arg F.CLK_CTL_CORE1 w + arg F.CLK_CTL_CORE2 w = 0)) ∧
    (∃ (s : State), s.sup.opTarget = none) ∧
    (∃ (s : State) (op c1 c2 : Nat), s.Inv ∧ s.sup.opTarget = some (op, c1, c2)) :=
  ⟨⟨st [(F.PMU_DOM_STATUS_ON, 0x7FF), (F.CLK_CFG_MAX_OP, 3), (F.CLK_STATUS_SPLL_LOCK, 1)], .engine 2, wd [(F.CLK_CTL_OP, 2), (F.CLK_CTL_CORE1, 2), (F.CLK_CTL_CORE2, 1)], by decide⟩,
    ⟨st [(F.PMU_DOM_STATUS_ON, 0x7FF), (F.PMU_STATE_STATE, 2)], .engine 1, 1, by decide⟩,
    ⟨st [(F.PMU_DOM_STATUS_ON, 0x7FF), (F.CLK_CFG_MAX_OP, 1)], .engine 2, wd [(F.CLK_CTL_OP, 2)], by decide⟩,
    ⟨st [(F.PMU_DOM_STATUS_ON, 0x7FF), (F.CLK_CFG_MAX_OP, 3), (F.CLK_CTL_OP, 3), (F.CLK_CTL_CORE1, 3), (F.CLK_STATUS_SPLL_LOCK, 1)], .engine 2, wd [(F.CLK_CTL_OP, 1), (F.CLK_CTL_CORE1, 2), (F.CLK_CTL_CORE2, 1)], by decide⟩,
    ⟨st [(F.PMU_DOM_STATUS_ON, 0x7FF), (F.CLK_CFG_MAX_OP, 3)], .engine 2, wd [(F.CLK_CTL_SPLL_EN, 1)], by decide⟩,
    ⟨{}, by decide⟩,
    ⟨{ st [(F.CLK_STATUS_BUSY, 1)] with sup := { opTarget := some (3, 3, 1) } }, 3, 3, 1, by decide⟩⟩

/-- Each clause of `PowerEntryHandshake` has a state and operands that meet its hypotheses. -/
theorem wit_PowerEntryHandshake :
    (∃ (s : State) (m : Master) (w : Word), s.Inv ∧ Writable m R.PMU_CTL s ∧ arg F.PMU_CTL_KEY w = 0x4D ∧ arg F.PMU_CTL_ABORT w = 0 ∧ arg F.PMU_CTL_GO w = 1 ∧ arg F.PMU_CTL_REQ w = 1 ∧ get F.PMU_STATE_STATE s ≠ 2 ∧ guarded s = false ∧ inFallback s = false ∧ flag F.PMU_NAP_CFG_NAP_EN s = true) ∧
    (∃ (s : State) (m : Master) (w : Word), s.Inv ∧ Writable m R.PMU_CTL s ∧ arg F.PMU_CTL_KEY w = 0x4D ∧ arg F.PMU_CTL_ABORT w = 0 ∧ arg F.PMU_CTL_GO w = 1 ∧ arg F.PMU_CTL_REQ w = 2 ∧ get F.PMU_STATE_STATE s ≠ 2 ∧ guarded s = false ∧ inFallback s = false) ∧
    (∃ (s : State) (m : Master) (w : Word), s.Inv ∧ Writable m R.PMU_CTL s ∧ arg F.PMU_CTL_KEY w = 0x4D ∧ arg F.PMU_CTL_ABORT w = 0 ∧ arg F.PMU_CTL_GO w = 1 ∧ (guarded s = true ∨ inFallback s = true ∨ get F.PMU_STATE_STATE s = 2 ∨ arg F.PMU_CTL_REQ w = 0 ∨ arg F.PMU_CTL_REQ w = 3 ∨ (arg F.PMU_CTL_REQ w = 1 ∧ flag F.PMU_NAP_CFG_NAP_EN s = false))) ∧
    (∃ (s : State) (m : Master) (w : Word), Writable m R.PMU_CTL s ∧ arg F.PMU_CTL_KEY w = 0x4D ∧ arg F.PMU_CTL_ABORT w = 1 ∧ arg F.PMU_CTL_GO w = 0 ∧ get F.PMU_STATE_STATE s = 2) ∧
    (∃ (s : State) (m : Master) (w : Word), Writable m R.PMU_CTL s ∧ (arg F.PMU_CTL_KEY w ≠ 0x4D ∨ (arg F.PMU_CTL_GO w = 0 ∧ (arg F.PMU_CTL_ABORT w = 0 ∨ get F.PMU_STATE_STATE s ≠ 2)))) ∧
    (∃ (s : State) (wake : Option (Nat × Nat)), s.Inv ∧ get F.PMU_STATE_STATE s = 2 ∧ get F.PMU_STATE_PHASE s = 1 ∧ 1 < get F.PMU_STATE_ASKING s ∧ ownerRefuses (get F.PMU_STATE_ASKING s) s = false ∧ ownerDelays (get F.PMU_STATE_ASKING s) s = false ∧ (get F.PMU_STATE_ASKING s ≠ 8 ∨ s.sup.shipEntry = false) ∧ get F.PMU_STATE_ASKING s ≤ 10 ∧ (get F.PMU_STATE_ASKING s ≠ 5 ∨ s.sup.shipEntry = true ∨ nextBoundary s = none)) ∧
    (∃ (s : State) (wake : Option (Nat × Nat)) (b : Nat), s.Inv ∧ get F.PMU_STATE_STATE s = 2 ∧ get F.PMU_STATE_PHASE s = 1 ∧ get F.PMU_STATE_ASKING s = 5 ∧ ownerRefuses (get F.PMU_STATE_ASKING s) s = false ∧ ownerDelays (get F.PMU_STATE_ASKING s) s = false ∧ s.sup.shipEntry = false ∧ nextBoundary s = some b) ∧
    (∃ (s : State) (wake : Option (Nat × Nat)), s.Inv ∧ get F.PMU_STATE_STATE s = 2 ∧ get F.PMU_STATE_PHASE s = 1 ∧ get F.PMU_STATE_ASKING s = 8 ∧ ownerRefuses (get F.PMU_STATE_ASKING s) s = false ∧ ownerDelays (get F.PMU_STATE_ASKING s) s = false ∧ s.sup.shipEntry = true) ∧
    (∃ (s : State) (wake : Option (Nat × Nat)), s.Inv ∧ get F.PMU_STATE_STATE s = 2 ∧ get F.PMU_STATE_PHASE s = 1 ∧ ownerRefuses (get F.PMU_STATE_ASKING s) s = true ∧ s.sup.shipFrozen = false) ∧
    (∃ (s : State) (wake : Option (Nat × Nat)), s.Inv ∧ get F.PMU_STATE_STATE s = 2 ∧ get F.PMU_STATE_PHASE s = 1 ∧ ownerRefuses (get F.PMU_STATE_ASKING s) s = false ∧ ownerDelays (get F.PMU_STATE_ASKING s) s = true ∧ get F.PMU_STATE_ASKING s ≠ 7 ∧ get F.PMU_STATE_ASKING s ≠ 10) ∧
    (∃ (s : State) (wake : Option (Nat × Nat)), s.Inv ∧ get F.PMU_STATE_STATE s = 2 ∧ get F.PMU_STATE_PHASE s = 1 ∧ get F.PMU_STATE_ASKING s = 1 ∧ abortAt wake s = none ∧ s.sup.shipEntry = false) ∧
    (∃ (s : State) (wake : Option (Nat × Nat)), s.Inv ∧ get F.PMU_STATE_STATE s = 2 ∧ get F.PMU_STATE_PHASE s = 1 ∧ get F.PMU_STATE_ASKING s = 1 ∧ abortAt wake s = none ∧ s.sup.shipEntry = true) ∧
    (∃ (s : State) (wake : Option (Nat × Nat)) (ap src : Nat), s.Inv ∧ get F.PMU_STATE_STATE s = 2 ∧ get F.PMU_STATE_PHASE s = 1 ∧ get F.PMU_STATE_ASKING s = 1 ∧ abortAt wake s = some (ap, src) ∧ s.sup.shipFrozen = false) ∧
    (∃ (s : State) (wake : Option (Nat × Nat)), (get F.PMU_STATE_STATE s ≠ 2 ∨ get F.PMU_STATE_PHASE s ≠ 1)) ∧
    (∃ (s : State), s.Inv ∧ get F.PMU_STATE_STATE s = 2 ∧ get F.PMU_STATE_PHASE s = 1 ∧ s.sup.shipFrozen = false) :=
  ⟨⟨{ st [(F.PMU_DOM_STATUS_ON, 0x7FF), (F.PMU_NAP_CFG_NAP_EN, 1)] with ld := { guard := false } }, .engine 2, wd [(F.PMU_CTL_KEY, 0x4D), (F.PMU_CTL_GO, 1), (F.PMU_CTL_REQ, 1)], by decide⟩,
    ⟨{ st [(F.PMU_DOM_STATUS_ON, 0x7FF)] with ld := { guard := false } }, .engine 2, wd [(F.PMU_CTL_KEY, 0x4D), (F.PMU_CTL_GO, 1), (F.PMU_CTL_REQ, 2)], by decide⟩,
    ⟨{ st [(F.PMU_DOM_STATUS_ON, 0x7FF)] with ld := { guard := true } }, .engine 2, wd [(F.PMU_CTL_KEY, 0x4D), (F.PMU_CTL_GO, 1), (F.PMU_CTL_REQ, 1)], by decide⟩,
    ⟨st [(F.PMU_DOM_STATUS_ON, 0x7FF), (F.PMU_STATE_STATE, 2)], .engine 2, wd [(F.PMU_CTL_KEY, 0x4D), (F.PMU_CTL_ABORT, 1)], by decide⟩,
    ⟨st [(F.PMU_DOM_STATUS_ON, 0x7FF)], .engine 2, wd [(F.PMU_CTL_KEY, 0x4D), (F.PMU_CTL_REQ, 1)], by decide⟩,
    ⟨st [(F.PMU_STATE_STATE, 2), (F.PMU_STATE_PHASE, 1), (F.PMU_STATE_ASKING, 10)], none, by decide⟩,
    ⟨{ st [(F.PMU_STATE_STATE, 2), (F.PMU_STATE_PHASE, 1), (F.PMU_STATE_ASKING, 5), (F.SUP_RTC_SEC_SEC, 61)] with ld := { tables := { tariff := some {} } } }, none, 300, by decide⟩,
    ⟨{ st [(F.PMU_STATE_STATE, 2), (F.PMU_STATE_PHASE, 1), (F.PMU_STATE_ASKING, 8)] with sup := { mode := .running, shipEntry := true } }, none, by decide⟩,
    ⟨st [(F.PMU_STATE_STATE, 2), (F.PMU_STATE_PHASE, 1), (F.PMU_STATE_ASKING, 2), (F.PHE_PROFILE_CTL_PENDING, 1)], none, by decide⟩,
    ⟨{ st [(F.PMU_STATE_STATE, 2), (F.PMU_STATE_PHASE, 1), (F.PMU_STATE_ASKING, 6)] with well := { running := some {} } }, none, by decide⟩,
    ⟨{ st [(F.PMU_STATE_STATE, 2), (F.PMU_STATE_PHASE, 1), (F.PMU_STATE_ASKING, 1), (F.PMU_DOM_STATUS_ON, 0x7FF)] with sup := { mode := .running, mono := 4 } }, none, by decide⟩,
    ⟨{ st [(F.PMU_STATE_STATE, 2), (F.PMU_STATE_PHASE, 1), (F.PMU_STATE_ASKING, 1), (F.PMU_DOM_STATUS_ON, 0x7FF), (F.SUP_RTC_SEC_SEC, 61)] with sup := { mode := .running, shipEntry := true } }, none, by decide⟩,
    ⟨{ st [(F.PMU_STATE_STATE, 2), (F.PMU_STATE_PHASE, 1), (F.PMU_STATE_ASKING, 1), (F.PMU_DOM_STATUS_ON, 0x7FF), (F.PMU_WAKE_EN_EN, 4)] with sup := { mode := .running } }, some (3, 2), 3, 4, by decide⟩,
    ⟨{}, none, by decide⟩,
    ⟨st [(F.PMU_STATE_STATE, 2), (F.PMU_STATE_PHASE, 1), (F.PMU_STATE_ASKING, 7)], by decide⟩⟩

/-- Each clause of `CoreDozeState` has a state and operands that meet its hypotheses. -/
theorem wit_CoreDozeState :
    (∃ (s : State) (n : Nat), s.Inv ∧ (n = 1 ∨ n = 2) ∧ coreUp n s = true ∧ get F.PMU_STATE_STATE s ≤ 1) ∧
    (∃ (s : State) (n : Nat), s.Inv ∧ (n = 1 ∨ n = 2) ∧ fbit F.PMU_STATE_CORE_DOZE (n - 1) s = true ∧ coreInterrupt n s = true) :=
  ⟨⟨{ st [(F.PMU_DOM_STATUS_ON, 0x7FF), (F.PMU_STATE_CORE_DOZE, 1)] with sup := { mode := .running }, ld := { conf := 4 } }, 2, by decide⟩,
    ⟨st [(F.PMU_STATE_STATE, 1), (F.PMU_STATE_CORE_DOZE, 3), (F.INT_CORE_EN_EN 2, 0x8000), (F.PAY_CAUSE_EC_GRANT, 1), (⟨R.PAY_CAUSE_EN, 0, 32⟩, 0xFFFF)], 2, by decide⟩⟩

/-- Each clause of `WakeSourcesDuringEntry` has a state and operands that meet its hypotheses. -/
theorem wit_WakeSourcesDuringEntry :
    (∃ (s : State) (bad : Nat), get F.PMU_STATE_STATE s = 2 ∧ fbit F.PMU_WAKE_EN_EN 0 s = true ∧ get F.SUP_RTC_ALARM_ALARM s ≠ 0 ∧ get F.SUP_RTC_ALARM_ALARM s = rtc s) ∧
    (∃ (s : State), s.Inv ∧ get F.PMU_STATE_STATE s = 3 ∧ fbit F.PMU_WAKE_EN_EN 0 s = true ∧ get F.SUP_RTC_ALARM_ALARM s ≠ 0 ∧ get F.SUP_RTC_ALARM_ALARM s = rtc s ∧ (s.sup.firm = [] ∧ s.sup.retBanks = [none, none, none, none])) ∧
    (∃ (s : State), s.Inv ∧ get F.PMU_STATE_STATE s = 3 ∧ s.sup.napSince + 1024 * get F.PMU_NAP_CFG_MAX s ≤ s.sup.mono ∧ (s.sup.firm = [] ∧ s.sup.retBanks = [none, none, none, none])) ∧
    (∃ (s : State) (bad : Nat), get F.PMU_STATE_STATE s = 2 ∧ keypadUsed s = true ∧ fbit F.PMU_WAKE_EN_EN 2 s = true) ∧
    (∃ (s : State), s.Inv ∧ get F.PMU_STATE_STATE s = 3 ∧ keypadUsed s = true ∧ fbit F.PMU_WAKE_EN_EN 2 s = true ∧ (s.sup.firm = [] ∧ s.sup.retBanks = [none, none, none, none])) ∧
    (∃ (s : State) (bad : Nat), s.Inv ∧ padHas 0x0C 8 s = true ∧ flag F.PMU_VMON_VDD_OK s = true ∧ s.sup.mode = .running ∧ halted s = false ∧ get F.PMU_STATE_STATE s = 2 ∧ fbit F.PMU_WAKE_EN_EN 3 s = true) ∧
    (∃ (s : State) (bad : Nat), s.Inv ∧ padHas 0x0C 8 s = true ∧ flag F.PMU_VMON_VDD_OK s = true ∧ s.sup.mode = .running ∧ halted s = false ∧ (fbit F.PMU_WAKE_EN_EN 3 s = false ∨ get F.PMU_STATE_STATE s ≤ 1)) :=
  ⟨⟨st [(F.PMU_STATE_STATE, 2), (F.PMU_WAKE_EN_EN, 1), (F.SUP_RTC_ALARM_ALARM, 5), (F.SUP_RTC_SEC_SEC, 5)], 3, by decide⟩,
    ⟨st [(F.PMU_STATE_STATE, 3), (F.PMU_WAKE_EN_EN, 1), (F.SUP_RTC_ALARM_ALARM, 5), (F.SUP_RTC_SEC_SEC, 5)], by decide⟩,
    ⟨st [(F.PMU_STATE_STATE, 3)], by decide⟩,
    ⟨st [(F.PMU_STATE_STATE, 2), (F.PMU_WAKE_EN_EN, 4), (F.KPD_CFG_EN, 1)], 0, by decide⟩,
    ⟨st [(F.PMU_STATE_STATE, 3), (F.PMU_WAKE_EN_EN, 4), (F.KPD_CFG_EN, 1)], by decide⟩,
    ⟨{ st [(F.PMU_STATE_STATE, 2), (F.PMU_WAKE_EN_EN, 8), (F.PMU_VMON_VDD_OK, 1), (F.PIN_PAD_FUNC 0x0C, 8)] with sup := { mode := .running }, ld := { conf := 3 } }, 1, by decide⟩,
    ⟨{ st [(F.PMU_VMON_VDD_OK, 1), (F.PIN_PAD_FUNC 0x0C, 8)] with sup := { mode := .running }, ld := { conf := 3 } }, 1, by decide⟩⟩

/-- Each clause of `SupplyLoss` has a state and operands that meet its hypotheses. -/
theorem wit_SupplyLoss :
    (∃ (s : State), s.Inv ∧ vddGood s = true ∧ (s.sup.mode = .loading ∨ s.sup.mode = .running) ∧ canFreeze s = false ∧ flag F.NRG_STATUS_FROZEN s = false) ∧
    (∃ (s : State), s.Inv ∧ vddGood s = true ∧ s.sup.mode = .running ∧ canFreeze s = true) ∧
    (∃ (s : State), s.Inv ∧ s.sup.mode ≠ .outage ∧ s.sup.mode ≠ .por ∧ s.sup.mode ≠ .ship) ∧
    (∃ (s : State), s.sup.mode = .ship) :=
  ⟨⟨{ st [(F.PMU_VMON_VDD_OK, 1)] with sup := { mode := .loading } }, by decide⟩,
    ⟨{ st [(F.PMU_VMON_VDD_OK, 1), (F.PHE_FRAME_POS_VALID, 1), (F.PMU_DOM_STATUS_ON, 0x7FF), (F.SUP_RTC_SEC_SEC, 9)] with sup := { mode := .running } }, by decide⟩,
    ⟨{ st [(F.PMU_VMON_VDD_OK, 1), (F.PMU_DOM_STATUS_ON, 0x7FF)] with sup := { mode := .running } }, by decide⟩,
    ⟨{ ({} : State) with sup := { mode := .ship } }, by decide⟩⟩

/-- Each clause of `ModemFrames` has a state and operands that meet its hypotheses (part 1). -/
theorem wit_ModemFrames :
    (∃ (s : State) (f : TxFrame), e9Up s = true ∧ s.lmd.tx = none ∧ soundingRuns s = false ∧ f.bandC = false ∧ flag F.LMD_STATUS_VLD_LOW s = false ∧ flag F.LMD_STATUS_HOT s = false ∧ muting s = false ∧ flag F.LMD_CFG_BAND_A s = true) ∧
    (∃ (s : State) (f : TxFrame), e9Up s = true ∧ s.lmd.tx = none ∧ s.lmd.lbt = none ∧ soundingRuns s = false ∧ f.bandC = true ∧ flag F.LMD_STATUS_VLD_LOW s = false ∧ flag F.LMD_STATUS_HOT s = false ∧ muting s = false ∧ flag F.LMD_CFG_BAND_C s = true ∧ 576 * frameSymbols f.mod f.len (tones true s) ≤ 10000 * get F.LMD_LBT_CFG_MAX_TX s) ∧
    (∃ (s : State) (f : TxFrame), e9Up s = true ∧ s.lmd.tx = none ∧ (f.bandC = false ∨ s.lmd.lbt = none) ∧ soundingRuns s = false ∧ (flag F.LMD_STATUS_VLD_LOW s = true ∨ flag F.LMD_STATUS_HOT s = true ∨ muting s = true ∨ bandOn f.bandC s = false ∨ (f.bandC = true ∧ 10000 * get F.LMD_LBT_CFG_MAX_TX s < 576 * frameSymbols f.mod f.len (tones true s)))) ∧
    (∃ (s : State) (f : TxFrame), (e9Up s = false ∨ s.lmd.tx.isSome = true ∨ soundingRuns s = true ∨ (f.bandC = true ∧ s.lmd.lbt.isSome = true))) ∧
    (∃ (s : State) (f : TxFrame), s.lmd.tx = some f) ∧
    (∃ (s : State) (f : TxFrame), e9Up s = true ∧ s.lmd.tx = none ∧ s.lmd.lbt = some f ∧ soundingRuns s = false ∧ (s.lmd.lastC = none ∨ get F.LMD_LBT_CFG_PAUSE s * 1024 ≤ (s.sup.mono - s.lmd.lastC.getD 0) * 1000) ∧ txRefused f s = false) ∧
    (∃ (s : State) (f : TxFrame), e9Up s = true ∧ s.lmd.tx = none ∧ s.lmd.lbt = some f ∧ soundingRuns s = false ∧ (s.lmd.lastC = none ∨ get F.LMD_LBT_CFG_PAUSE s * 1024 ≤ (s.sup.mono - s.lmd.lastC.getD 0) * 1000) ∧ txRefused f s = true) ∧
    (∃ (s : State) (e : Nat), s.lmd.lastC = some e ∧ (s.sup.mono - e) * 1000 < get F.LMD_LBT_CFG_PAUSE s * 1024) ∧
    (∃ (s : State) (f : TxFrame), s.lmd.lbt = some f ∧ s.lmd.lbtAt + 5120 ≤ s.sup.mono) ∧
    (∃ (s : State) (f : TxFrame), s.lmd.tx = some f) ∧
    (∃ (s : State) (b : Bool), e9Up s = true ∧ s.lmd.rx = some b) ∧
    (∃ (s : State) (c : Bool), e9Up s = true ∧ s.lmd.tx = none ∧ soundingRuns s = false ∧ bandOn c s = true ∧ s.lmd.rx = none) ∧
    (∃ (s : State) (c : Bool), e9Up s = true ∧ s.lmd.tx = none ∧ soundingRuns s = false ∧ bandOn c s = true ∧ s.lmd.rx = some (!c)) ∧
    (∃ (s : State) (c : Bool), (e9Up s = false ∨ s.lmd.tx.isSome = true ∨ soundingRuns s = true ∨ bandOn c s = false ∨ s.lmd.rx = some c)) ∧
    (∃ (s : State) (xs : List Int) (b : Blanker), e9Up s = true ∧ xs ≠ [] ∧ b = blankSecond (get F.LMD_CFG_BLANK_K s) xs s.lmd.blankWin s.lmd.blankAfter ∧ 4 * blankedCount b.2.2 ≤ xs.length) ∧
    (∃ (s : State) (xs : List Int) (b : Blanker), e9Up s = true ∧ xs ≠ [] ∧ b = blankSecond (get F.LMD_CFG_BLANK_K s) xs s.lmd.blankWin s.lmd.blankAfter ∧ xs.length < 4 * blankedCount b.2.2) ∧
    (∃ (s : State) (k : Nat) (xs : List Int) (win : List Int) (x : Int) (m : List Bool), e9Up s = false) ∧
    (∃ (s : State) (c : Nat) (n : Nat × Nat × Nat), e9Up s = true ∧ zcChannel s = some c ∧ s.fab.num = some n) ∧
    (∃ (s : State), e9Up s = true ∧ (get F.PHE_CFG_WIRING s = 0 ∨ trackerHolds s = false) ∧ flag F.LMD_STATUS_ZC_VALID s = true ∧ s.lmd.zcSeen = true ∧ s.fab.num = none) ∧
    (∃ (s : State), e9Up s = true ∧ zcChannel s = none ∧ flag F.LMD_STATUS_ZC_VALID s = false ∧ s.lmd.zcSeen = false) :=
  ⟨⟨st [(F.PMU_DOM_STATUS_ON, 0x7FF), (F.LMD_STATUS_STATE, 1), (F.LMD_CFG_BAND_A, 1)], {}, by decide⟩,
    ⟨st [(F.PMU_DOM_STATUS_ON, 0x7FF), (F.LMD_STATUS_STATE, 1), (F.LMD_CFG_BAND_C, 1), (F.LMD_LBT_CFG_MAX_TX, 100), (F.LMD_TX_CFG_MASK_C, 255)], { bandC := true }, by decide⟩,
    ⟨st [(F.PMU_DOM_STATUS_ON, 0x7FF), (F.LMD_STATUS_STATE, 1), (F.LMD_CFG_BAND_C, 1), (F.LMD_LBT_CFG_MAX_TX, 100), (F.LMD_TX_CFG_MASK_C, 255)], { bandC := true, len := 256 }, by decide⟩,
    ⟨{ st [(F.PMU_DOM_STATUS_ON, 0x7FF), (F.LMD_STATUS_STATE, 1), (F.LMD_CFG_BAND_A, 1)] with lmd := { lbt := some {} } }, { bandC := true }, by decide⟩,
    ⟨{ st [(F.PMU_DOM_STATUS_ON, 0x7FF), (F.LMD_STATUS_STATE, 3)] with lmd := { tx := some { frame := { ackReq := true } } } }, { frame := { ackReq := true } }, by decide⟩,
    ⟨{ st [(F.PMU_DOM_STATUS_ON, 0x7FF), (F.LMD_STATUS_STATE, 1), (F.LMD_CFG_BAND_C, 1), (F.LMD_LBT_CFG_MAX_TX, 100), (F.LMD_LBT_CFG_PAUSE, 125), (F.LMD_TX_CFG_MASK_C, 255)] with sup := { mono := 128 }, lmd := { lbt := some { bandC := true }, lastC := some 0 } }, { bandC := true }, by decide⟩,
    ⟨{ st [(F.PMU_DOM_STATUS_ON, 0x7FF), (F.LMD_STATUS_STATE, 1), (F.LMD_LBT_CFG_MAX_TX, 100), (F.LMD_LBT_CFG_PAUSE, 125), (F.LMD_TX_CFG_MASK_C, 255)] with sup := { mono := 128 }, lmd := { lbt := some { bandC := true }, lastC := some 0 } }, { bandC := true }, by decide⟩,
    ⟨{ st [(F.PMU_DOM_STATUS_ON, 0x7FF), (F.LMD_STATUS_STATE, 1), (F.LMD_CFG_BAND_C, 1), (F.LMD_LBT_CFG_PAUSE, 125)] with sup := { mono := 127 }, lmd := { lbt := some { bandC := true }, lastC := some 0 } }, 0, by decide⟩,
    ⟨{ st [(F.PMU_DOM_STATUS_ON, 0x7FF), (F.LMD_STATUS_STATE, 1)] with lmd := { lbt := some { bandC := true }, lbtAt := 7 }, sup := { mono := 5127 } }, { bandC := true }, by decide⟩,
    ⟨{ st [(F.PMU_DOM_STATUS_ON, 0x7FF), (F.LMD_STATUS_STATE, 3)] with lmd := { tx := some {} } }, {}, by decide⟩,
    ⟨{ st [(F.PMU_DOM_STATUS_ON, 0x7FF), (F.LMD_STATUS_STATE, 2)] with lmd := { rx := some true } }, true, by decide⟩,
    ⟨st [(F.PMU_DOM_STATUS_ON, 0x7FF), (F.LMD_STATUS_STATE, 1), (F.LMD_CFG_BAND_A, 1)], false, by decide⟩,
    ⟨{ st [(F.PMU_DOM_STATUS_ON, 0x7FF), (F.LMD_STATUS_STATE, 2), (F.LMD_CFG_BAND_A, 1)] with lmd := { rx := some true } }, false, by decide⟩,
    ⟨{ st [(F.PMU_DOM_STATUS_ON, 0x7FF), (F.LMD_STATUS_STATE, 2), (F.LMD_CFG_BAND_A, 1)] with lmd := { rx := some false } }, false, by decide⟩,
    ⟨{ st [(F.PMU_DOM_STATUS_ON, 0x7FF), (F.LMD_STATUS_STATE, 1), (F.LMD_CFG_BLANK_K, 3)] with lmd := { blankWin := [1, -1, 1] } }, [1, 1, 1, 1, 1, 1, 1, 1, 1, 1, 1, 1, 1, 1, 1, 1, 1, 9, 1, 1, 1, 1], blankSecond 3 [1, 1, 1, 1, 1, 1, 1, 1, 1, 1, 1, 1, 1, 1, 1, 1, 1, 9, 1, 1, 1, 1] [1, -1, 1] 0, by decide +kernel⟩,
    ⟨{ st [(F.PMU_DOM_STATUS_ON, 0x7FF), (F.LMD_STATUS_STATE, 1), (F.LMD_CFG_BLANK_K, 3)] with lmd := { blankWin := [1, -1, 1] } }, [1, 9, 1, 1], blankSecond 3 [1, 9, 1, 1] [1, -1, 1] 0, by decide +kernel⟩,
    ⟨st [(F.LMD_CFG_BAND_A, 1)], 3, [1, 9, 1, 1], [1, -1, 1], 4, [true], by decide⟩,
    ⟨{ st [(F.PMU_DOM_STATUS_ON, 0x7FF), (F.LMD_STATUS_STATE, 1), (F.FLT_STATUS_TRK_STATE, 2), (F.PHE_CFG_WIRING, 1), (F.LMD_ZC_CYCLE_CYCLE, 0xFFFFFFFF)] with fab := { num := some (5, 0, 7) } }, 0, (5, 0, 7), by decide⟩,
    ⟨{ st [(F.PMU_DOM_STATUS_ON, 0x7FF), (F.LMD_STATUS_STATE, 1), (F.LMD_STATUS_ZC_VALID, 1), (F.LMD_ZC_CYCLE_CYCLE, 8)] with lmd := { zcSeen := true } }, by decide⟩,
    ⟨st [(F.PMU_DOM_STATUS_ON, 0x7FF), (F.LMD_STATUS_STATE, 1), (F.FLT_STATUS_TRK_STATE, 2), (F.LMD_STATUS_ZC_SUBST, 1)], by decide⟩⟩

/-- Each clause of `ModemFrames` has a state and operands that meet its hypotheses (part 2). -/
theorem wit_ModemFrames_2 :
    (∃ (s : State), trackerHolds s = true ∧ get F.PHE_CFG_WIRING s ≠ 0) :=
  ⟨st [(F.FLT_STATUS_TRK_STATE, 2), (F.PHE_CFG_WIRING, 1)], by decide⟩

/-- Each clause of `Sounding` has a state and operands that meet its hypotheses (part 1). -/
theorem wit_Sounding :
    (∃ (s : State) (m : Master) (w : Word), Writable m R.LMD_SND_CTL s ∧ arg F.LMD_SND_CTL_KEY w = 0xA3 ∧ arg F.LMD_SND_CTL_START w = 1 ∧ arg F.LMD_SND_CTL_BASELINE w = 0 ∧ get F.LMD_SND_STATUS_STATE s = 0 ∧ e9Up s = true ∧ s.ld.tables.fabric.isSome = true ∧ flag F.LMD_CFG_BAND_A s = true ∧ inPass s = false ∧ guarded s = false ∧ muting s = false ∧ 49 * 1024 ≤ (share 1 s).2 ∧ flag F.LMD_STATUS_HOT s = false) ∧
    (∃ (s : State) (m : Master) (w : Word), Writable m R.LMD_SND_CTL s ∧ arg F.LMD_SND_CTL_KEY w = 0xA3 ∧ arg F.LMD_SND_CTL_START w = 1 ∧ arg F.LMD_SND_CTL_BASELINE w = 0 ∧ get F.LMD_SND_STATUS_STATE s = 0 ∧ (s.ld.tables.fabric = none ∨ flag F.LMD_CFG_BAND_A s = false ∨ inPass s = true ∨ guarded s = true ∨ muting s = true ∨ flag F.LMD_STATUS_HOT s = true ∨ e9Up s = false ∨ (share 1 s).2 < 49 * 1024)) ∧
    (∃ (s : State) (m : Master) (w : Word), Writable m R.LMD_SND_CTL s ∧ arg F.LMD_SND_CTL_BASELINE w = 0 ∧ (get F.LMD_SND_STATUS_STATE s ≠ 0 ∨ arg F.LMD_SND_CTL_START w = 0)) ∧
    (∃ (s : State) (m : Master) (w : Word), Writable m R.LMD_SND_CTL s ∧ arg F.LMD_SND_CTL_KEY w ≠ 0xA3) ∧
    (∃ (s : State) (m : Master) (w : Word), Writable m R.LMD_SND_CTL s ∧ arg F.LMD_SND_CTL_KEY w = 0xA3 ∧ arg F.LMD_SND_CTL_BASELINE w = 1 ∧ get F.LMD_SND_STATUS_STATE s = 0 ∧ soundingAllowed s = true) ∧
    (∃ (s : State) (m : Master) (w : Word), Writable m R.LMD_SND_CTL s ∧ arg F.LMD_SND_CTL_KEY w = 0xA3 ∧ arg F.LMD_SND_CTL_BASELINE w = 1 ∧ get F.LMD_SND_STATUS_STATE s ≠ 0) ∧
    (∃ (s : State) (m : Master) (w : Word), Writable m R.LMD_SND_CTL s ∧ arg F.LMD_SND_CTL_KEY w = 0xA3 ∧ arg F.LMD_SND_CTL_BASELINE w = 1 ∧ get F.LMD_SND_STATUS_STATE s = 0 ∧ soundingAllowed s = false) ∧
    (∃ (s : State), e9Up s = true ∧ get F.LMD_SND_CFG_PERIOD s ≠ 0 ∧ s.lmd.sndLast + 61440 * get F.LMD_SND_CFG_PERIOD s ≤ s.sup.mono ∧ s.lmd.verifAt = none ∧ get F.LMD_SND_STATUS_STATE s = 0 ∧ soundingAllowed s = true) ∧
    (∃ (s : State) (v : Nat), get F.LMD_SND_CFG_PERIOD s = 0 ∧ s.lmd.verifAt = some v ∧ v + 5120 ≤ s.sup.mono ∧ get F.LMD_SND_STATUS_STATE s = 0 ∧ soundingAllowed s = true) ∧
    (∃ (s : State), e9Up s = true ∧ get F.LMD_SND_CFG_PERIOD s ≠ 0 ∧ s.lmd.sndLast + 61440 * get F.LMD_SND_CFG_PERIOD s ≤ s.sup.mono ∧ s.lmd.verifAt = none ∧ (get F.LMD_SND_STATUS_STATE s ≠ 0 ∨ soundingAllowed s = false)) ∧
    (∃ (s : State), get F.LMD_SND_STATUS_STATE s = 1 ∧ s.lmd.tx = none ∧ get F.SPE_CAP_STATUS_STATE s ≠ 2 ∧ soundingAllowed s = true ∧ coilPulse s = false) ∧
    (∃ (s : State), e9Up s = true ∧ get F.LMD_SND_STATUS_STATE s = 1 ∧ s.lmd.tx = none ∧ get F.SPE_CAP_STATUS_STATE s = 2) ∧
    (∃ (s : State), get F.LMD_SND_STATUS_STATE s = 1 ∧ s.lmd.tx = none ∧ get F.SPE_CAP_STATUS_STATE s ≠ 2 ∧ soundingAllowed s = true ∧ coilPulse s = true) ∧
    (∃ (s : State), e9Up s = true ∧ get F.LMD_SND_STATUS_STATE s = 1 ∧ s.lmd.tx = none ∧ get F.SPE_CAP_STATUS_STATE s ≠ 2 ∧ soundingAllowed s = false) ∧
    (∃ (s : State) (sums : List Byte), e9Up s = true ∧ soundingRuns s = true ∧ domOn 3 s = true ∧ verifiedIndex s = none) ∧
    (∃ (s : State) (sums : List Byte), e9Up s = true ∧ soundingRuns s = true ∧ domOn 3 s = false ∧ verifiedIndex s = none) ∧
    (∃ (s : State) (sums : List Byte) (r : Nat), e9Up s = true ∧ soundingRuns s = true ∧ verifiedIndex s = some r ∧ s.lmd.sndBase = false ∧ get (F.LMD_SND_BASE_VALID r) s = 0) ∧
    (∃ (s : State) (sums : List Byte) (r : Nat), e9Up s = true ∧ soundingRuns s = true ∧ verifiedIndex s = some r ∧ s.lmd.sndBase = true) ∧
    (∃ (s : State) (sums : List Byte) (r : Nat), e9Up s = true ∧ soundingRuns s = true ∧ verifiedIndex s = some r ∧ s.lmd.sndBase = false ∧ get (F.LMD_SND_BASE_VALID r) s = 1) ∧
    (∃ (s : State) (a : Nat), get F.LMD_SND_STATUS_STATE s = 1 ∧ s.lmd.sndSince = some a ∧ a + 61440 ≤ s.sup.mono) :=
  ⟨⟨{ st [(F.PMU_DOM_STATUS_ON, 0x7FF), (F.LMD_STATUS_STATE, 1), (F.LMD_CFG_BAND_A, 1), (F.SPE_PART_SIZE 1, 49)] with ld := { guard := false, tables := { fabric := some {} } }, sup := { mono := 9 } }, .engine 2, wd [(F.LMD_SND_CTL_KEY, 0xA3), (F.LMD_SND_CTL_START, 1)], by decide⟩,
    ⟨{ st [(F.PMU_DOM_STATUS_ON, 0x7FF), (F.LMD_STATUS_STATE, 1), (F.LMD_CFG_BAND_A, 1), (F.SPE_PART_SIZE 1, 48)] with ld := { guard := false, tables := { fabric := some {} } } }, .engine 2, wd [(F.LMD_SND_CTL_KEY, 0xA3), (F.LMD_SND_CTL_START, 1)], by decide⟩,
    ⟨{ st [(F.PMU_DOM_STATUS_ON, 0x7FF), (F.LMD_STATUS_STATE, 4), (F.LMD_SND_STATUS_STATE, 2)] with lmd := {} }, .engine 2, wd [(F.LMD_SND_CTL_KEY, 0xA3), (F.LMD_SND_CTL_START, 1)], by decide⟩,
    ⟨st [(F.PMU_DOM_STATUS_ON, 0x7FF), (F.LMD_STATUS_STATE, 1)], .engine 2, wd [(F.LMD_SND_CTL_KEY, 0xA2), (F.LMD_SND_CTL_START, 1), (F.LMD_SND_CTL_BASELINE, 1)], by decide⟩,
    ⟨{ st [(F.PMU_DOM_STATUS_ON, 0x7FF), (F.LMD_STATUS_STATE, 1), (F.LMD_CFG_BAND_A, 1), (F.SPE_PART_SIZE 1, 64)] with ld := { guard := false, tables := { fabric := some {} } } }, .engine 2, wd [(F.LMD_SND_CTL_KEY, 0xA3), (F.LMD_SND_CTL_BASELINE, 1)], by decide⟩,
    ⟨st [(F.PMU_DOM_STATUS_ON, 0x7FF), (F.LMD_STATUS_STATE, 4), (F.LMD_SND_STATUS_STATE, 2)], .engine 2, wd [(F.LMD_SND_CTL_KEY, 0xA3), (F.LMD_SND_CTL_BASELINE, 1)], by decide⟩,
    ⟨st [(F.PMU_DOM_STATUS_ON, 0x7FF), (F.LMD_STATUS_STATE, 1)], .engine 2, wd [(F.LMD_SND_CTL_KEY, 0xA3), (F.LMD_SND_CTL_BASELINE, 1)], by decide⟩,
    ⟨{ st [(F.PMU_DOM_STATUS_ON, 0x7FF), (F.LMD_STATUS_STATE, 1), (F.LMD_CFG_BAND_A, 1), (F.SPE_PART_SIZE 1, 64), (F.LMD_SND_CFG_PERIOD, 1)] with ld := { guard := false, tables := { fabric := some {} } }, sup := { mono := 61440 } }, by decide⟩,
    ⟨{ st [(F.PMU_DOM_STATUS_ON, 0x7FF), (F.LMD_STATUS_STATE, 1), (F.LMD_CFG_BAND_A, 1), (F.SPE_PART_SIZE 1, 64)] with ld := { guard := false, tables := { fabric := some {} } }, sup := { mono := 5120 }, lmd := { verifAt := some 0 } }, 0, by decide⟩,
    ⟨{ st [(F.PMU_DOM_STATUS_ON, 0x7FF), (F.LMD_STATUS_STATE, 1), (F.LMD_SND_CFG_PERIOD, 1)] with ld := { guard := false }, sup := { mono := 61440 } }, by decide⟩,
    ⟨{ st [(F.PMU_DOM_STATUS_ON, 0x7FF), (F.LMD_STATUS_STATE, 1), (F.LMD_CFG_BAND_A, 1), (F.SPE_PART_SIZE 1, 64), (F.LMD_SND_STATUS_STATE, 1)] with ld := { guard := false, tables := { fabric := some {} } } }, by decide⟩,
    ⟨st [(F.PMU_DOM_STATUS_ON, 0x7FF), (F.LMD_STATUS_STATE, 1), (F.SPE_CAP_STATUS_STATE, 2), (F.LMD_SND_STATUS_STATE, 1)], by decide⟩,
    ⟨{ st [(F.PMU_DOM_STATUS_ON, 0x7FF), (F.LMD_STATUS_STATE, 1), (F.LMD_CFG_BAND_A, 1), (F.SPE_PART_SIZE 1, 64), (F.LMD_SND_STATUS_STATE, 1)] with ld := { guard := false, tables := { fabric := some {} } }, rly := { lcPulse := some true } }, by decide⟩,
    ⟨{ st [(F.PMU_DOM_STATUS_ON, 0x7FF), (F.LMD_STATUS_STATE, 1), (F.LMD_CFG_BAND_A, 1), (F.LMD_SND_STATUS_STATE, 1)] with ld := { guard := false, tables := { fabric := some {} } } }, by decide⟩,
    ⟨st [(F.PMU_DOM_STATUS_ON, 0x7FF), (F.LMD_STATUS_STATE, 4), (F.LMD_CFG_BAND_A, 1), (F.SPE_PART_SIZE 1, 64), (F.LMD_SND_STATUS_STATE, 2), (F.LMD_SND_STATUS_SEQ, 0xFFFF)], [1, 2], by decide⟩,
    ⟨st [(F.PMU_DOM_STATUS_ON, 0x7F7), (F.LMD_STATUS_STATE, 4), (F.LMD_SND_STATUS_STATE, 2)], [1, 2], by decide⟩,
    ⟨st [(F.PMU_DOM_STATUS_ON, 0x7FF), (F.LMD_STATUS_STATE, 4), (F.SPE_PART_SIZE 1, 64), (F.LMD_SND_STATUS_STATE, 2), (F.RLY_STATUS_MAIN_STATE, 2)], [1, 2], 1, by decide⟩,
    ⟨{ st [(F.PMU_DOM_STATUS_ON, 0x7FF), (F.LMD_STATUS_STATE, 4), (F.SPE_PART_SIZE 1, 64), (F.LMD_SND_STATUS_STATE, 2), (F.RLY_STATUS_MAIN_STATE, 1)] with lmd := { sndBase := true } }, [1, 2], 0, by decide⟩,
    ⟨st [(F.PMU_DOM_STATUS_ON, 0x7FF), (F.LMD_STATUS_STATE, 4), (F.SPE_PART_SIZE 1, 64), (F.LMD_SND_STATUS_STATE, 2), (F.RLY_STATUS_MAIN_STATE, 2), (F.LMD_SND_BASE_VALID 1, 1), (F.LMD_SND_BASE_ATTEN 1, 100)], [1, 2], 1, by decide⟩,
    ⟨{ st [(F.PMU_DOM_STATUS_ON, 0x7FF), (F.LMD_STATUS_STATE, 1), (F.LMD_SND_STATUS_STATE, 1)] with sup := { mono := 61440 }, lmd := { sndSince := some 0 } }, 0, by decide⟩⟩

/-- Each clause of `Sounding` has a state and operands that meet its hypotheses (part 2). -/
theorem wit_Sounding_2 :
    (∃ (s : State) (a : Nat), s.lmd.sndRepeat = some a ∧ a ≤ s.sup.mono ∧ get F.LMD_SND_STATUS_STATE s = 0 ∧ soundingAllowed s = true) ∧
    (∃ (s : State) (a : Nat), domOn 9 s = true ∧ s.lmd.sndRepeat = some a ∧ a ≤ s.sup.mono ∧ (get F.LMD_SND_STATUS_STATE s ≠ 0 ∨ soundingAllowed s = false)) :=
  ⟨⟨{ st [(F.PMU_DOM_STATUS_ON, 0x7FF), (F.LMD_STATUS_STATE, 1), (F.LMD_CFG_BAND_A, 1), (F.SPE_PART_SIZE 1, 64)] with ld := { guard := false, tables := { fabric := some {} } }, sup := { mono := 5 }, lmd := { sndRepeat := some 5 } }, 5, by decide⟩,
    ⟨{ st [(F.PMU_DOM_STATUS_ON, 0x7FF), (F.LMD_STATUS_STATE, 1)] with ld := { guard := false }, sup := { mono := 5 }, lmd := { sndRepeat := some 5 } }, 5, by decide⟩⟩

/-- Each clause of `FabricLink` has a state and operands that meet its hypotheses (part 1). -/
theorem wit_FabricLink :
    (∃ (s : State) (i : RxInfo) (f : FabFrame) (k : Nat × Nat), canReceive i s = true ∧ e10Up s = true ∧ (f.fcs = frameFcs f ∧ f.nwk = get F.FAB_CFG_NWK_ID s) ∧ (linkKeys f.key 2 8 s).1 = some k ∧ f.mic = frameMic k.2 f ∧ newerPair f s = true ∧ f.left ≠ 0 ∧ i.bandC = false) ∧
    (∃ (s : State) (i : RxInfo) (f : FabFrame), canReceive i s = true ∧ (f.fcs ≠ frameFcs f ∨ f.nwk ≠ get F.FAB_CFG_NWK_ID s)) ∧
    (∃ (s : State) (i : RxInfo) (f : FabFrame) (k : Nat × Nat), canReceive i s = true ∧ e10Up s = true ∧ (f.fcs = frameFcs f ∧ f.nwk = get F.FAB_CFG_NWK_ID s) ∧ (linkKeys f.key 2 8 s).1 = some k ∧ (f.mic ≠ frameMic k.2 f ∨ newerPair f s = false) ∧ s.Inv) ∧
    (∃ (s : State) (i : RxInfo) (f : FabFrame), canReceive i s = true ∧ e10Up s = true ∧ f.nwk = get F.FAB_CFG_NWK_ID s ∧ (linkKeys f.key 2 8 s).1 = none) ∧
    (∃ (s : State) (i : RxInfo) (f : FabFrame) (k : Nat × Nat), canReceive i s = true ∧ e10Up s = true ∧ (f.fcs = frameFcs f ∧ f.nwk = get F.FAB_CFG_NWK_ID s) ∧ (linkKeys f.key 2 8 s).1 = some k ∧ f.mic = frameMic k.2 f ∧ newerPair f s = true ∧ f.left = 0) ∧
    (∃ (s : State) (i : RxInfo) (f : FabFrame), canReceive i s = false) ∧
    (∃ (s : State) (i : RxInfo) (f : FabFrame), (accept i f s).1 = false) ∧
    (∃ (s : State), s.Inv ∧ isLasting 46 s = false ∧ isLasting 46 (occurrence 46 0 0 s) = true) ∧
    (∃ (s : State) (i : RxInfo) (f : FabFrame) (x : TxFrame) (n : Node), (accept i f s).1 = true ∧ f.body = .ack ∧ s.fab.await = some x ∧ x.frame.ldst = some n ∧ sameNode n f.lsrc s = true ∧ forMe f s = true) ∧
    (∃ (s : State) (i : RxInfo) (f : FabFrame), (accept i f s).1 = true ∧ f.body = .ack ∧ (s.fab.await = none ∨ forMe f s = false ∨ ((s.fab.await.bind fun x => x.frame.ldst).map fun n => sameNode n f.lsrc s) ≠ some true)) ∧
    (∃ (s : State) (x : TxFrame), s.fab.await = some x ∧ s.lmd.rx = none ∧ 2 * 1024 ≤ 1000 * (s.sup.mono - s.fab.awaitAt) ∧ x.tries < get F.FAB_CFG_RETRY s) ∧
    (∃ (s : State) (x : TxFrame) (n : Node), s.fab.await = some x ∧ s.lmd.rx = none ∧ 2 * 1024 ≤ 1000 * (s.sup.mono - s.fab.awaitAt) ∧ get F.FAB_CFG_RETRY s ≤ x.tries ∧ x.frame.ldst = some n) ∧
    (∃ (s : State), (s.fab.await = none ∨ s.lmd.rx ≠ none ∨ 1000 * (s.sup.mono - s.fab.awaitAt) < 2 * 1024)) ∧
    (∃ (s : State) (n : Node), (¬s.fab.nbrs = [])) ∧
    (∃ (s : State) (x : TxFrame) (n : Node), x.frame.dest = .node n ∧ x.rerouted = true) ∧
    (∃ (s : State) (x : TxFrame) (n m : Node), x.frame.dest = .node n ∧ x.rerouted = false ∧ nextHop n s = some m) ∧
    (∃ (s : State) (x : TxFrame) (a : Nat), x.frame.dest = .node (.short a) ∧ x.rerouted = false ∧ nextHop (.short a) s = none ∧ s.fab.fcnt ≠ 0xFFFFFFFF) ∧
    (∃ (s : State) (slot p : Nat) (x : TxFrame) (k : Nat × Nat), (e9Up s = true ∧ e10Up s = true ∧ get F.FAB_STATUS_MODE s < 3) ∧ (s.fab.await = none ∧ s.fab.passHeld = []) ∧ (linkKeys (get F.FAB_STATUS_KEY_TX s) 1 4 s).1 = some k ∧ ((slot < 4 ∧ p = 0) ∨ (4 ≤ slot ∧ slot < 12 ∧ p = 1) ∨ (12 ≤ slot ∧ slot < 28 ∧ p = 2)) ∧ (s.fab.txq.find? fun y => y.bandC) = none ∧ (s.fab.txq.find? fun y => !y.bandC && y.frame.prio == p) = some x ∧ (s.lmd.tx = none ∧ s.lmd.rx = none ∧ soundingRuns s = false) ∧ (flag F.LMD_STATUS_VLD_LOW s = false ∧ flag F.LMD_STATUS_HOT s = false ∧ muting s = false ∧ flag F.LMD_CFG_BAND_A s = true) ∧ s.fab.fcnt + 1 < 0xFFFFFFFF ∧ x.tries = 0) ∧
    (∃ (s : State) (slot : Nat) (idle : Bool) (x : TxFrame) (k : Nat × Nat), (e9Up s = true ∧ e10Up s = true ∧ get F.FAB_STATUS_MODE s ≠ 6) ∧ (s.fab.await = none ∧ s.fab.passHeld = []) ∧ (linkKeys (get F.FAB_STATUS_KEY_TX s) 1 4 s).1 = some k ∧ slot < 28 ∧ (s.fab.txq = [x] ∧ x.bandC = true ∧ x.tries = 0) ∧ (s.lmd.tx = none ∧ s.lmd.lbt = none ∧ soundingRuns s = false) ∧ (flag F.LMD_STATUS_VLD_LOW s = false ∧ flag F.LMD_STATUS_HOT s = false ∧ muting s = false ∧ flag F.LMD_CFG_BAND_C s = true) ∧ (get F.LMD_LBT_CFG_MAX_TX s = 100 ∧ tones true s = 8 ∧ x.frame.body = .ack ∧ x.frame.segh = none) ∧ s.fab.fcnt + 1 < 0xFFFFFFFF) ∧
    (∃ (s : State) (slot : Nat) (idle : Bool), s.fab.passHeld = [] ∧ (s.fab.txq.find? fun y => y.bandC) = none ∧ (idle = false ∨ s.lmd.tx ≠ none ∨ s.lmd.rx ≠ none ∨ s.fab.await ≠ none ∨ e9Up s = false ∨ e10Up s = false ∨ get F.FAB_STATUS_MODE s = 6 ∨ s.fab.txq = [])) :=
  ⟨⟨fabW [], {}, sealed (fabF .ack), (77, 78), ⟨by decide, by decide, ⟨sealed_fcs _, by decide⟩, by decide, sealed_mic _, by decide, by decide, by decide⟩⟩,
    ⟨fabW [], {}, { fabF .ack with nwk := 4 }, ⟨by decide, Or.inr (by decide)⟩⟩,
    ⟨fabW [], {}, sealed ({ fabF .ack with fcnt := 0 }), (77, 78), ⟨by decide, by decide, ⟨sealed_fcs _, by decide⟩, by decide, Or.inr (by decide), by decide⟩⟩,
    ⟨fabW [], {}, { fabF .ack with key := 9 }, by decide⟩,
    ⟨fabW [], {}, sealed ({ fabF .ack with left := 0 }), (77, 78), ⟨by decide, by decide, ⟨sealed_fcs _, by decide⟩, by decide, sealed_mic _, by decide, by decide⟩⟩,
    ⟨fabW [(F.LMD_STATUS_STATE, 0)], {}, fabF .ack, by decide⟩,
    ⟨fabW [(F.LMD_STATUS_STATE, 0)], {}, fabF .ack, (show (accept _ _ (fabW _)).1 = false by rfl)⟩,
    ⟨{ fabW [(F.TAMP_FC_CFG_N 46, 1), (F.TAMP_STATUS_EVALUATED, 1)] with fab := { (fabW []).fab with routes := [{ dest := 9, next := .short 5 }] } }, by decide⟩,
    ⟨{ fabW [] with fab := { (fabW []).fab with await := some { frame := { ldst := some (.short 5) } } } }, {}, sealed ({ fabF .ack with ldst := some (.short 7) }), { frame := { ldst := some (.short 5) } }, .short 5, ⟨accByDec (by decide) (by decide), by decide, by decide, by decide, by decide, by decide⟩⟩,
    ⟨{ fabW [] with fab := { (fabW []).fab with await := some { frame := { ldst := some (.short 6) } } } }, {}, sealed ({ fabF .ack with ldst := some (.short 7) }), ⟨accByDec (by decide) (by decide), by decide, by decide⟩⟩,
    ⟨{ fabW [(F.FAB_CFG_RETRY, 3)] with fab := { await := some { tries := 2 }, awaitAt := 40957 } }, { tries := 2 }, by decide⟩,
    ⟨{ fabW [(F.FAB_CFG_RETRY, 3)] with fab := { (fabW []).fab with await := some { tries := 3, rerouted := true, frame := { dest := .node (.short 9), ldst := some (.short 5) } }, routes := [{ dest := 9, next := .short 5 }] } }, { tries := 3, rerouted := true, frame := { dest := .node (.short 9), ldst := some (.short 5) } }, .short 5, by decide⟩,
    ⟨{ fabW [(F.FAB_CFG_RETRY, 3)] with fab := { await := some { tries := 2 }, awaitAt := 40958 } }, by decide⟩,
    ⟨{ fabW [] with fab := { (fabW []).fab with routes := [{ dest := 9, next := .short 5 }, { dest := 8, next := .short 4 }] } }, .short 5, by decide⟩,
    ⟨fabW [(F.FAB_COUNT_COUNT 3, 0xFFFFFFFF)], { frame := { dest := .node (.short 9) }, rerouted := true }, .short 9, by decide⟩,
    ⟨{ fabW [] with fab := { (fabW []).fab with routes := [{ dest := 9, next := .short 5 }] } }, { frame := { dest := .node (.short 9) } }, .short 9, .short 5, by decide⟩,
    ⟨fabW [], { frame := { dest := .node (.short 9) } }, 9, by decide⟩,
    ⟨{ fabW [] with fab := { (fabW []).fab with txq := [{ frame := { prio := 1 } }, { frame := { prio := 2 } }] } }, 12, 2, { frame := { prio := 2 } }, (77, 78), by decide⟩,
    ⟨{ fabW [(F.LMD_CFG_BAND_C, 1), (F.LMD_LBT_CFG_MAX_TX, 100), (F.LMD_TX_CFG_MASK_C, 255)] with fab := { (fabW []).fab with txq := [{ bandC := true }] } }, 27, false, { bandC := true }, (77, 78), by decide⟩,
    ⟨{ fabW [] with fab := { (fabW []).fab with txq := [{}] } }, 3, false, by decide⟩⟩

/-- Each clause of `FabricLink` has a state and operands that meet its hypotheses (part 2). -/
theorem wit_FabricLink_2 :
    (∃ (s : State) (slot : Nat) (idle : Bool), s.fab.passHeld = [] ∧ (linkKeys (get F.FAB_STATUS_KEY_TX s) 1 4 s).1 = none) ∧
    (∃ (s : State) (us : Nat), (3 ≤ get F.FAB_STATUS_MODE s ∧ get F.FAB_STATUS_MODE s ≤ 5) ∧ flag F.FAB_STATUS_FCN_VALID s = true) ∧
    (∃ (s : State) (b : Nbr), s.Inv ∧ e10Up s = true ∧ (s.fab.nbrs.filter fun x => decide (x.heard + 1024 * get F.FAB_TIMING_LOST s ≤ s.sup.mono)) = [b] ∧ staysBelow 46 s = true) ∧
    (∃ (s : State), (e10Up s = false ∨ (s.fab.nbrs.filter fun x => decide (x.heard + 1024 * get F.FAB_TIMING_LOST s ≤ s.sup.mono)) = [])) ∧
    (∃ (s : State), s.Inv ∧ e10Up s = true ∧ flag F.FAB_ADDR_VALID s = false ∧ s.fab.claim = none ∧ (inStartUp s = false ∧ get F.FAB_STATUS_MODE s ≠ 6) ∧ s.fab.fcnt ≠ 0xFFFFFFFF) ∧
    (∃ (s : State), (e10Up s = false ∨ flag F.FAB_ADDR_VALID s = true ∨ s.fab.claim ≠ none ∨ inStartUp s = true ∨ get F.FAB_STATUS_MODE s = 6)) ∧
    (∃ (s : State) (a : Nat), s.fab.recAddr = some a ∧ s.fab.fails = 0) ∧
    (∃ (s : State), (s.fab.recAddr = none ∨ s.fab.fails ≠ 0)) ∧
    (∃ (s : State) (a at' : Nat), s.Inv ∧ e10Up s = true ∧ s.fab.claim = some (a, at') ∧ a < 4096 ∧ at' + 10240 ≤ s.sup.mono ∧ s.fab.num ≠ none ∧ (e2Up s = true ∧ sessState 6 s = 0)) ∧
    (∃ (s : State), (e10Up s = false ∨ s.fab.claim = none ∨ s.sup.mono < (s.fab.claim.getD (0, 0)).2 + 10240)) ∧
    (∃ (s : State) (i : RxInfo) (f : FabFrame) (a e : Nat), (accept i f s).1 = true ∧ f.body = .claim a e ∧ e ≠ myEui ∧ get F.FAB_STATUS_MODE s ≠ 6 ∧ isMe (.short a) s = true ∧ f.left = 1 ∧ s.fab.fcnt ≠ 0xFFFFFFFF) ∧
    (∃ (s : State) (i : RxInfo) (f : FabFrame) (a e : Nat), (accept i f s).1 = true ∧ f.body = .claim a e ∧ e ≠ myEui ∧ get F.FAB_STATUS_MODE s ≠ 6 ∧ (isMe (.short a) s = false ∧ knownEui a s = none) ∧ s.fab.seenReq = [] ∧ 2 ≤ f.left ∧ s.fab.fcnt ≠ 0xFFFFFFFF) ∧
    (∃ (s : State) (i : RxInfo) (f : FabFrame) (a e at' : Nat), (accept i f s).1 = true ∧ f.body = .conflict a e ∧ e ≠ myEui ∧ s.fab.claim = some (a, at') ∧ f.left = 1) ∧
    (∃ (s : State) (i : RxInfo) (f : FabFrame) (e : Nat), (accept i f s).1 = true ∧ f.body = .conflict (get F.FAB_ADDR_SHORT s) e ∧ flag F.FAB_ADDR_VALID s = true ∧ s.fab.claim = none ∧ f.left = 1) :=
  ⟨⟨{ fabW [] with fab := { (fabW []).fab with txq := [{}] }, ld := { conf := 3, guard := true, tables := { fabric := some { pairs := [((1, 2), (1, 3))] } } } }, 2, true, by decide⟩,
    ⟨{ fabW [(F.FAB_STATUS_MODE, 4), (F.FAB_STATUS_FCN_VALID, 1), (F.FAB_FCN_FCN, 110)] with lmd := { zcAt := 40000000 } }, 100000, by decide⟩,
    ⟨{ fabW [(F.FAB_TIMING_LOST, 30), (F.TAMP_STATUS_EVALUATED, 1)] with fab := { (fabW []).fab with routes := [{ dest := 9, next := .short 5 }] } }, ⟨.short 5, 1, 0, 600, 0, false⟩, by decide⟩,
    ⟨fabW [(F.FAB_TIMING_LOST, 60)], by decide⟩,
    ⟨{ fabW [(F.FAB_ADDR_VALID, 0), (F.FAB_ADDR_CLAIMS, 0xFFFF)] with fab := { (fabW []).fab with recAddr := some 9 } }, by decide⟩,
    ⟨fabW [], by decide⟩,
    ⟨{ fabW [] with fab := { (fabW []).fab with recAddr := some 9 } }, 9, by decide⟩,
    ⟨{ fabW [] with fab := { (fabW []).fab with fails := 2, recAddr := some 9 } }, by decide⟩,
    ⟨{ fabW [(F.FAB_ADDR_VALID, 0)] with fab := { (fabW []).fab with claim := some (9, 30720), num := some (1, 0, 2) } }, 9, 30720, by decide⟩,
    ⟨{ fabW [] with fab := { (fabW []).fab with claim := some (9, 30721) } }, by decide⟩,
    ⟨fabW [], {}, sealed (fabF (.claim 7 (myEui + 1))), 7, myEui + 1, ⟨accByDec (by decide) (by decide), rfl, Nat.succ_ne_self _, by decide, by decide, by decide, by decide⟩⟩,
    ⟨fabW [], {}, sealed ({ fabF (.claim 9 (myEui + 1)) with left := 2 }), 9, myEui + 1, ⟨accByDec (by decide) (by decide), rfl, Nat.succ_ne_self _, by decide, by decide, by decide, by decide, by decide⟩⟩,
    ⟨{ fabW [(F.FAB_ADDR_VALID, 0)] with fab := { (fabW []).fab with claim := some (9, 3) } }, {}, sealed (fabF (.conflict 9 (myEui + 1))), 9, myEui + 1, 3, ⟨accByDec (by decide) (by decide), rfl, Nat.succ_ne_self _, by decide, by decide⟩⟩,
    ⟨fabW [], {}, sealed (fabF (.conflict 7 (myEui + 1))), myEui + 1, ⟨accByDec (by decide) (by decide), rfl, rfl, by decide, by decide⟩⟩⟩

/-- Each clause of `FabricRoutes` has a state and operands that meet its hypotheses. -/
theorem wit_FabricRoutes :
    (∃ (s : State) (i : RxInfo) (f : FabFrame) (b : List Byte), (accept i f s).1 = true ∧ (f.body = .data b ∧ f.segh = none ∧ f.ackReq = false) ∧ (f.dest = .node (.short (get F.FAB_ADDR_SHORT s)) ∧ f.ldst = some (.short (get F.FAB_ADDR_SHORT s))) ∧ (flag F.FAB_ADDR_VALID s = true ∧ get F.FAB_STATUS_MODE s ≠ 6) ∧ f.osrc = .eui 3 ∧ (1 ≤ field b 0 1 ∧ field b 0 1 ≤ 8 ∧ 6 + field b 4 2 ≤ b.length ∧ b.length ≤ 4096) ∧ i.bandC = false ∧ (s.fab.forE2.length < 4 ∧ get F.PMU_STATE_STATE s ≠ 3)) ∧
    (∃ (s : State) (i : RxInfo) (f : FabFrame) (b : List Byte) (n m : Node), (accept i f s).1 = true ∧ (f.body = .data b ∧ f.ackReq = false ∧ f.osrc = .eui 3) ∧ (f.dest = .node n ∧ isMe n s = false ∧ forMe f s = true) ∧ get F.FAB_STATUS_MODE s ≠ 6 ∧ i.bandC = false ∧ 2 ≤ f.left ∧ nextHop n (accept i f s).2 = some m ∧ s.fab.fcnt ≠ 0xFFFFFFFF) ∧
    (∃ (s : State) (i : RxInfo) (f : FabFrame) (b : List Byte) (a : Nat), (accept i f s).1 = true ∧ (f.body = .data b ∧ f.ackReq = false ∧ f.osrc = .eui 3) ∧ (f.dest = .node (.short a) ∧ isMe (.short a) s = false ∧ forMe f s = true) ∧ get F.FAB_STATUS_MODE s ≠ 6 ∧ i.bandC = false ∧ 2 ≤ f.left ∧ nextHop (.short a) (accept i f s).2 = none ∧ s.fab.fcnt ≠ 0xFFFFFFFF) ∧
    (∃ (s : State) (i : RxInfo) (f : FabFrame) (b : List Byte) (n : Node), (accept i f s).1 = true ∧ (f.body = .data b ∧ f.ackReq = false ∧ f.osrc = .eui 3) ∧ (f.dest = .node n ∧ isMe n s = false ∧ forMe f s = true) ∧ get F.FAB_STATUS_MODE s ≠ 6 ∧ f.left ≤ 1) ∧
    (∃ (s : State) (i : RxInfo) (f : FabFrame), (accept i f s).1 = true ∧ (forMe f s = false ∨ get F.FAB_STATUS_MODE s = 6)) ∧
    (∃ (s : State) (i : RxInfo) (f : FabFrame) (d q c h k : Nat), (accept i f s).1 = true ∧ f.body = .advert [(d, q, c, h)] none ∧ get F.FAB_STATUS_MODE s ≠ 6 ∧ (((nbrOf f.lsrc (accept i f s).2).bind fun b => linkTo b (accept i f s).2).map (·.2)) = some k ∧ isMe (.short d) s = false ∧ h < 15 ∧ s.fab.routes = []) ∧
    (∃ (s : State) (n : Node) (c d q cost h : Nat) (o : Route), s.fab.routes = [o] ∧ (o.dest = d ∧ o.head = true) ∧ isMe (.short d) s = false ∧ h < 15 ∧ (q < 65536 ∧ o.seq < 65536)) ∧
    (∃ (s : State), s.Inv ∧ e10Up s = true ∧ get F.FAB_STATUS_MODE s ≠ 6 ∧ s.fab.advAt + 1024 * get F.FAB_TIMING_ADV s ≤ s.sup.mono ∧ (isHead s = true ∧ flag F.FAB_ADDR_VALID s = true) ∧ s.fab.fcnt ≠ 0xFFFFFFFF) ∧
    (∃ (s : State), s.Inv ∧ e10Up s = true ∧ get F.FAB_STATUS_MODE s ≠ 6 ∧ s.fab.advAt + 1024 * get F.FAB_TIMING_ADV s ≤ s.sup.mono ∧ isHead s = false ∧ s.fab.fcnt ≠ 0xFFFFFFFF) ∧
    (∃ (s : State), e10Up s = true) ∧
    (∃ (s : State) (i : RxInfo) (f : FabFrame) (id o : Nat), (accept i f s).1 = true ∧ f.body = .routeReq id (get F.FAB_ADDR_SHORT s) ∧ (flag F.FAB_ADDR_VALID s = true ∧ get F.FAB_STATUS_MODE s ≠ 6) ∧ (f.osrc = .short o ∧ isMe (.short o) s = false) ∧ (s.fab.seenReq = [] ∧ s.fab.routes = []) ∧ s.fab.fcnt ≠ 0xFFFFFFFF) ∧
    (∃ (s : State) (i : RxInfo) (f : FabFrame) (id d o : Nat), (accept i f s).1 = true ∧ f.body = .routeReq id d ∧ (isMe (.short d) s = false ∧ get F.FAB_STATUS_MODE s ≠ 6) ∧ (f.osrc = .short o ∧ isMe (.short o) s = false ∧ o ≠ d) ∧ (s.fab.seenReq = [] ∧ s.fab.routes = []) ∧ 2 ≤ f.left ∧ s.fab.fcnt ≠ 0xFFFFFFFF) ∧
    (∃ (s : State) (i : RxInfo) (f : FabFrame) (d q c h : Nat), (accept i f s).1 = true ∧ f.body = .routeRep d q c h ∧ (f.dest = .node (.short (get F.FAB_ADDR_SHORT s)) ∧ f.ldst = some (.short (get F.FAB_ADDR_SHORT s)) ∧ f.ackReq = false) ∧ (flag F.FAB_ADDR_VALID s = true ∧ get F.FAB_STATUS_MODE s ≠ 6) ∧ (((nbrOf f.lsrc (accept i f s).2).bind fun b => linkTo b (accept i f s).2).map (·.2)) = some 1 ∧ h < 15 ∧ (s.fab.routes = [] ∧ s.fab.waiting = [] ∧ s.fab.heldFrames = [])) ∧
    (∃ (s : State) (m : Message) (n : Node) (k at' : Nat), m.dest = .node n ∧ (nextHop n s).isSome = true ∧ (s.fab.waiting = [(m, k, at')] ∧ s.fab.heldFrames = [])) ∧
    (∃ (s : State) (m : Message) (f : FabFrame) (k l a b : Nat), (s.fab.waiting = [(m, k, a)] ∧ s.fab.heldFrames = [(f, l, b)]) ∧ (a + 10240 ≤ s.sup.mono ∧ b + 10240 ≤ s.sup.mono)) :=
  ⟨⟨fabW [], {}, sealed ({ fabF (.data (le 1 8 ++ le 1 0 ++ le 2 4 ++ le 2 1 ++ [9])) with ldst := some (.short 7), dest := .node (.short 7), osrc := .eui 3 }), le 1 8 ++ le 1 0 ++ le 2 4 ++ le 2 1 ++ [9], ⟨accByDec (by decide) (by decide), by decide, by decide, by decide, by decide, by decide, by decide, by decide⟩⟩,
    ⟨{ fabW [] with fab := { (fabW []).fab with routes := [{ dest := 9, next := .short 5 }] } }, {}, sealed ({ fabF (.data [1, 2]) with ldst := some (.short 7), dest := .node (.short 9), osrc := .eui 3, left := 2 }), [1, 2], .short 9, .short 5, ⟨accByDec (by decide) (by decide), by decide, by decide, by decide, by decide, by decide, (by rw [accEq (by decide) (by decide)]; decide), by decide⟩⟩,
    ⟨fabW [], {}, sealed ({ fabF (.data [1, 2]) with ldst := some (.short 7), dest := .node (.short 9), osrc := .eui 3, left := 2 }), [1, 2], 9, ⟨accByDec (by decide) (by decide), by decide, by decide, by decide, by decide, by decide, (by rw [accEq (by decide) (by decide)]; decide), by decide⟩⟩,
    ⟨fabW [], {}, sealed ({ fabF (.data [1, 2]) with ldst := some (.short 7), dest := .node (.short 9), osrc := .eui 3 }), [1, 2], .short 9, ⟨accByDec (by decide) (by decide), by decide, by decide, by decide, by decide⟩⟩,
    ⟨fabW [], {}, sealed ({ fabF (.data [1, 2]) with ldst := some (.short 8), dest := .node (.short 9) }), ⟨accByDec (by decide) (by decide), by decide⟩⟩,
    ⟨fabW [(F.FAB_CFG_MARGIN, 2)], { snr := 75 }, sealed (fabF (.advert [(9, 4, 3, 2)] none)), 9, 4, 3, 2, 1, ⟨accByDec (by decide) (by decide), by decide, by decide, (by rw [accEq (by decide) (by decide)]; decide), by decide, by decide, by decide⟩⟩,
    ⟨{ fabW [] with fab := { routes := [⟨9, .short 5, 4, 1, 65535, true, true, 0⟩] } }, .short 6, 1, 9, 0, 7, 3, ⟨9, .short 5, 4, 1, 65535, true, true, 0⟩, by decide⟩,
    ⟨{ fabW [(F.FAB_STATUS_HEAD, 1), (F.FAB_TIMING_ADV, 10)] with fab := { headSeq := 65535 } }, by decide⟩,
    ⟨{ fabW [(F.FAB_TIMING_ADV, 10)] with fab := { (fabW []).fab with headSeq := 9, routes := [⟨9, .short 6, 4, 1, 3, true, true, 0⟩] } }, by decide⟩,
    ⟨{ fabW [(F.FAB_TIMING_ADV, 10)] with fab := { routes := [⟨9, .short 5, 4, 1, 3, true, true, 0⟩, ⟨8, .short 5, 4, 1, 3, false, false, 0⟩] } }, by decide⟩,
    ⟨fabW [], {}, sealed ({ fabF (.routeReq 2 7) with osrc := .short 9, taken := 15 }), 2, 9, ⟨accByDec (by decide) (by decide), by decide, by decide, by decide, by decide, by decide⟩⟩,
    ⟨fabW [], {}, sealed ({ fabF (.routeReq 2 4) with osrc := .short 9, left := 3 }), 2, 4, 9, ⟨accByDec (by decide) (by decide), by decide, by decide, by decide, by decide, by decide, by decide⟩⟩,
    ⟨fabW [(F.FAB_CFG_MARGIN, 2)], { snr := 75 }, sealed ({ fabF (.routeRep 9 4 3 2) with dest := .node (.short 7), ldst := some (.short 7) }), 9, 4, 3, 2, ⟨accByDec (by decide) (by decide), by decide, by decide, by decide, (by rw [accEq (by decide) (by decide)]; decide), by decide, by decide⟩⟩,
    ⟨{ fabW [] with fab := { (fabW []).fab with waiting := [({ dest := .node (.short 9) }, 3, 0)], routes := [{ dest := 9, next := .short 5 }] } }, { dest := .node (.short 9) }, .short 9, 3, 0, by decide⟩,
    ⟨{ fabW [(F.FAB_COUNT_COUNT 3, 0xFFFFFFFF)] with fab := { waiting := [({}, 3, 30720)], heldFrames := [({}, 4, 0)] } }, {}, {}, 3, 4, 30720, 0, by decide⟩⟩

/-- Each clause of `FabricMessages` has a state and operands that meet its hypotheses. -/
theorem wit_FabricMessages :
    (∃ (s : State) (r : Reasm), s.fab.reasm = [r] ∧ r.since + 30720 ≤ s.sup.mono) ∧
    (∃ (s : State) (m : Message) (n : Node) (a : Nat), e2Up s = true ∧ (s.fab.forE2 = [(m, a)] ∧ m.mtype = 1 ∧ m.dest = .node n) ∧ nth none s.obj.req 6 = none ∧ shapeOk m.body = true) ∧
    (∃ (s : State) (m : Message) (n : Node) (a : Nat), e2Up s = true ∧ (s.fab.forE2 = [(m, a)] ∧ m.mtype = 1 ∧ m.dest = .node n) ∧ nth none s.obj.req 6 ≠ none) ∧
    (∃ (s : State) (c : Instr) (m : Message) (a : Nat), e2Up s = true ∧ (c, m.mtype) ∈ [(Instr.sessionRsp, 2), (Instr.creditRes, 4), (Instr.keyRes, 6), (Instr.alarmMsg, 8)] ∧ s.fab.forE2 = [(m, a)] ∧ isHead s = true ∧ s.hif.inbox.length < 8) ∧
    (∃ (s : State) (c : Instr) (m : Message) (a : Nat), e2Up s = true ∧ (c, m.mtype) ∈ [(Instr.sessionRsp, 2), (Instr.creditRes, 4), (Instr.keyRes, 6), (Instr.alarmMsg, 8)] ∧ s.fab.forE2 = [(m, a)] ∧ (isHead s = false ∨ 8 ≤ s.hif.inbox.length)) ∧
    (∃ (s : State) (m : Message) (n : Node) (a : Nat), s.Inv ∧ e2Up s = true ∧ (s.fab.forE2 = [(m, a)] ∧ m.mtype = 3 ∧ m.dest = .node n) ∧ s.pay.queue.length < 4 ∧ s.pay.dec ≠ none) ∧
    (∃ (s : State) (m : Message) (n : Node) (a : Nat), s.Inv ∧ e2Up s = true ∧ (s.fab.forE2 = [(m, a)] ∧ m.mtype = 9 ∧ m.dest = .node n) ∧ s.pay.queue.length < 4 ∧ s.pay.dec ≠ none) ∧
    (∃ (s : State) (m : Message) (n : Node) (a o : Nat), e2Up s = true ∧ (s.fab.forE2 = [(m, a)] ∧ m.mtype = 7 ∧ m.dest = .node n) ∧ headRoute m.src s = some o ∧ (flag F.FAB_CFG_TIME_EN s = true ∧ flag F.FAB_STATUS_FCN_VALID s = true)) ∧
    (∃ (s : State) (m : Message) (n : Node) (a : Nat), e2Up s = true ∧ (s.fab.forE2 = [(m, a)] ∧ m.mtype = 7 ∧ m.dest = .node n) ∧ (headRoute m.src s = none ∨ flag F.FAB_CFG_TIME_EN s = false ∨ flag F.FAB_STATUS_FCN_VALID s = false)) ∧
    (∃ (s : State) (m : Message) (n : Node) (a : Nat), e2Up s = true ∧ (s.fab.forE2 = [(m, a)] ∧ m.mtype = 10 ∧ m.dest = .node n)) ∧
    (∃ (s : State) (e : Nat), (e10Up s = true ∧ e2Up s = true) ∧ (fabTab s).peer = some e ∧ s.ld.tables.prepay.isSome = true ∧ inPass s = false ∧ (s.fab.statusAt + 10240 ≤ s.sup.mono ∨ s.fab.sentStatus ≠ statusNow s) ∧ s.fab.fcnt ≠ 0xFFFFFFFF) ∧
    (∃ (s : State) (c : Instr) (k : Nat), (c, k) ∈ [(Instr.sessionReq, 1), (Instr.sessionRsp, 2), (Instr.creditMsg, 3), (Instr.creditRes, 4), (Instr.keyRes, 6), (Instr.timeMsg, 7), (Instr.alarmMsg, 8), (Instr.tokenMsg, 9), (Instr.statusMessage, 10)] ∧ (heldOf k s = none ∨ e2Up s = false)) ∧
    (∃ (s : State) (m : Message) (a : Nat), e10Up s = true ∧ s.fab.forE2 = [(m, a)] ∧ a + 2048 ≤ s.sup.mono ∧ isRequest m.mtype = false) ∧
    (∃ (s : State) (m : Message) (a : Nat), e10Up s = true ∧ s.fab.forE2 = [(m, a)] ∧ a + 2048 ≤ s.sup.mono ∧ (m.mtype = 1 ∨ m.mtype = 3 ∨ m.mtype = 5)) :=
  ⟨⟨{ fabW [] with fab := { reasm := [{ src := .short 5, msgId := 1, count := 2, since := 10240 }] } }, { src := .short 5, msgId := 1, count := 2, since := 10240 }, by decide⟩,
    ⟨{ fabW [] with fab := { forE2 := [({ mtype := 1, msgId := 8, src := .short 5, dest := .node (.short 7), body := reqBytes 4 0 0 [0, 0, 0, 0, 0, 0] [] }, 5)] } }, { mtype := 1, msgId := 8, src := .short 5, dest := .node (.short 7), body := reqBytes 4 0 0 [0, 0, 0, 0, 0, 0] [] }, .short 7, 5, by decide⟩,
    ⟨{ fabW [] with fab := { forE2 := [({ mtype := 1, msgId := 8, src := .short 5, dest := .node (.short 7) }, 5)] }, obj := { req := [none, none, none, none, none, none, some {}] } }, { mtype := 1, msgId := 8, src := .short 5, dest := .node (.short 7) }, .short 7, 5, by decide⟩,
    ⟨{ fabW [(F.FAB_STATUS_HEAD, 1)] with fab := { forE2 := [({ mtype := 8, dest := .heads }, 5)] }, hif := { inbox := List.replicate 7 {} } }, .alarmMsg, { mtype := 8, dest := .heads }, 5, by decide⟩,
    ⟨{ fabW [(F.FAB_STATUS_HEAD, 1)] with fab := { forE2 := [({ mtype := 2 }, 5)] }, hif := { inbox := List.replicate 8 {} } }, .sessionRsp, { mtype := 2 }, 5, by decide⟩,
    ⟨{ fabW [] with fab := { forE2 := [({ mtype := 3, msgId := 8, src := .short 5, dest := .node (.short 7), body := [1, 2] }, 5)] }, pay := { dec := some {} } }, { mtype := 3, msgId := 8, src := .short 5, dest := .node (.short 7), body := [1, 2] }, .short 7, 5, by decide⟩,
    ⟨{ fabW [] with fab := { forE2 := [({ mtype := 9, msgId := 8, src := .eui 5, dest := .node (.short 7), body := [1, 2, 3, 4, 5, 6, 7, 8, 255] }, 5)] }, pay := { dec := some {} } }, { mtype := 9, msgId := 8, src := .eui 5, dest := .node (.short 7), body := [1, 2, 3, 4, 5, 6, 7, 8, 255] }, .short 7, 5, by decide⟩,
    ⟨{ fabW [(F.FAB_CFG_TIME_EN, 1), (F.FAB_STATUS_FCN_VALID, 1)] with fab := { (fabW []).fab with forE2 := [({ mtype := 7, src := .short 9, dest := .node (.short 7) }, 5)], routes := [{ dest := 9, next := .short 5, head := true }] } }, { mtype := 7, src := .short 9, dest := .node (.short 7) }, .short 7, 5, 9, by decide⟩,
    ⟨{ fabW [] with fab := { forE2 := [({ mtype := 7, src := .short 9, dest := .node (.short 7) }, 5)] } }, { mtype := 7, src := .short 9, dest := .node (.short 7) }, .short 7, 5, by decide⟩,
    ⟨{ fabW [] with fab := { forE2 := [({ mtype := 10, dest := .node (.short 7), body := [1, 2] }, 5)] } }, { mtype := 10, dest := .node (.short 7), body := [1, 2] }, .short 7, 5, by decide⟩,
    ⟨{ fabW [] with ld := { conf := 3, guard := false, tables := { fabric := some { peer := some 12 }, prepay := some {} } } }, 12, by decide⟩,
    ⟨{ fabW [] with fab := { forE2 := [({ mtype := 8, dest := .heads }, 5)] } }, .creditMsg, 3, by decide⟩,
    ⟨{ fabW [] with fab := { forE2 := [({ mtype := 8 }, 38912)] } }, { mtype := 8 }, 38912, by decide⟩,
    ⟨{ fabW [] with fab := { forE2 := [({ mtype := 5 }, 38912)] } }, { mtype := 5 }, 38912, by decide⟩⟩

/-- Each clause of `FabricPlans` has a state and operands that meet its hypotheses. -/
theorem wit_FabricPlans :
    (∃ (s : State) (m : Master) (w : Word), s.Inv ∧ Writable m R.FAB_CTL s ∧ arg F.FAB_CTL_KEY w = 0xF1 ∧ arg F.FAB_CTL_HEAD_SET w = 1 ∧ (arg F.FAB_CTL_HEAD_CLR w = 0 ∧ arg F.FAB_CTL_ANNOUNCE w = 0) ∧ e2Up s = true) ∧
    (∃ (s : State) (m : Master) (w : Word), s.Inv ∧ Writable m R.FAB_CTL s ∧ arg F.FAB_CTL_KEY w = 0xF1 ∧ arg F.FAB_CTL_HEAD_CLR w = 1 ∧ (arg F.FAB_CTL_ANNOUNCE w = 0 ∧ arg F.FAB_CTL_HEAD_SET w = 0) ∧ e2Up s = true) ∧
    (∃ (s : State) (m : Master) (w : Word), Writable m R.FAB_CTL s ∧ arg F.FAB_CTL_KEY w ≠ 0xF1) ∧
    (∃ (s : State) (m : Master) (w : Word), s.Inv ∧ Writable m R.FAB_CTL s ∧ arg F.FAB_CTL_KEY w = 0xF1 ∧ arg F.FAB_CTL_ANNOUNCE w = 1 ∧ (arg F.FAB_CTL_HEAD_CLR w = 0 ∧ arg F.FAB_CTL_HEAD_SET w = 0) ∧ (e10Up s = true ∧ isHead s = true ∧ flag F.FAB_STATUS_FCN_VALID s = true ∧ inPass s = false) ∧ (60 ≤ get F.FAB_ANNOUNCE_LEAD s ∧ get F.FAB_ANNOUNCE_LEAD s ≤ 3600) ∧ (get F.FAB_ANNOUNCE_MODE s = 0 ∨ get F.FAB_ANNOUNCE_MODE s = 3 ∨ (1 ≤ get F.FAB_ANNOUNCE_DURATION s ∧ get F.FAB_ANNOUNCE_DURATION s ≤ 60)) ∧ get F.FAB_ANNOUNCE_PLAN s < (fabTab s).plans.length ∧ s.fab.pend = none ∧ s.fab.fcnt ≠ 0xFFFFFFFF) ∧
    (∃ (s : State) (m : Master) (w : Word), s.Inv ∧ Writable m R.FAB_CTL s ∧ arg F.FAB_CTL_KEY w = 0xF1 ∧ arg F.FAB_CTL_ANNOUNCE w = 1 ∧ (arg F.FAB_CTL_HEAD_CLR w = 0 ∧ arg F.FAB_CTL_HEAD_SET w = 0) ∧ (isHead s = false ∨ flag F.FAB_STATUS_FCN_VALID s = false ∨ inPass s = true ∨ get F.FAB_ANNOUNCE_LEAD s < 60 ∨ 3600 < get F.FAB_ANNOUNCE_LEAD s ∨ (fabTab s).plans.length ≤ get F.FAB_ANNOUNCE_PLAN s ∨ (0 < get F.FAB_ANNOUNCE_MODE s ∧ get F.FAB_ANNOUNCE_MODE s < 3 ∧ (get F.FAB_ANNOUNCE_DURATION s = 0 ∨ 60 < get F.FAB_ANNOUNCE_DURATION s)))) ∧
    (∃ (s : State) (i : RxInfo) (f : FabFrame) (a : Announce), (accept i f s).1 = true ∧ f.body = .announce a none ∧ get F.FAB_STATUS_MODE s ≠ 6 ∧ ((lastSeq s < a.seq ∧ a.seq - lastSeq s < 32768) ∨ (a.seq < lastSeq s ∧ 32768 < lastSeq s - a.seq)) ∧ (a.seq < 65536 ∧ lastSeq s < 65536 ∧ a.act < 2 ^ 32) ∧ 2 ≤ f.left ∧ s.fab.fcnt ≠ 0xFFFFFFFF) ∧
    (∃ (s : State) (i : RxInfo) (f : FabFrame) (a : Announce), (accept i f s).1 = true ∧ f.body = .announce a none ∧ (a.seq ≤ lastSeq s ∧ lastSeq s - a.seq < 32768)) ∧
    (∃ (s : State) (a : Announce) (x : FabPlan), s.Inv ∧ e10Up s = true ∧ flag F.FAB_STATUS_FCN_VALID s = true ∧ s.fab.pend = some a ∧ (a.mode = 0 ∧ get F.FAB_STATUS_MODE s = 1 ∧ e2Up s = true) ∧ (a.act ≤ get F.FAB_FCN_FCN s ∧ get F.FAB_FCN_FCN s - a.act < 2 ^ 31) ∧ (fabTab s).plans[a.plan]? = some x ∧ a.plan < 4) ∧
    (∃ (s : State) (a : Announce), s.Inv ∧ e10Up s = true ∧ flag F.FAB_STATUS_FCN_VALID s = true ∧ s.fab.pend = some a ∧ (a.mode = 1 ∨ a.mode = 2) ∧ (get F.FAB_FCN_FCN s + 2 ^ 32 - a.act) % 2 ^ 32 < 2 ^ 31) ∧
    (∃ (s : State) (a : Announce) (x : FabPlan), s.Inv ∧ e10Up s = true ∧ flag F.FAB_STATUS_FCN_VALID s = true ∧ s.fab.pend = some a ∧ a.mode = 3 ∧ (a.act ≤ get F.FAB_FCN_FCN s ∧ get F.FAB_FCN_FCN s - a.act < 2 ^ 31) ∧ (fabTab s).plans[a.plan]? = some x ∧ a.plan < 4) ∧
    (∃ (s : State) (i : RxInfo) (f : FabFrame) (p q : Nat), (accept i f s).1 = true ∧ f.body = .rescue p q none ∧ p < 4 ∧ get F.FAB_STATUS_MODE s = 6) ∧
    (∃ (s : State) (i : RxInfo) (f : FabFrame) (p q : Nat), (accept i f s).1 = true ∧ f.body = .rescue p q none ∧ get F.FAB_STATUS_MODE s ≠ 6) ∧
    (∃ (s : State), s.Inv ∧ e10Up s = true ∧ get F.FAB_STATUS_MODE s = 1 ∧ ((s.fab.actAt ≠ none ∧ s.sup.mono < s.fab.actAt.getD 0 + 3686400 ∧ s.fab.rescueAt + 30720 ≤ s.sup.mono) ∨ (s.fab.actAt = none ∧ s.fab.rescueAt + 1024 * get F.FAB_TIMING_RESCUE s ≤ s.sup.mono)) ∧ s.fab.fcnt ≠ 0xFFFFFFFF) ∧
    (∃ (s : State), e10Up s = true ∧ get F.FAB_STATUS_MODE s = 1 ∧ s.fab.heardAt + 1024 * get F.FAB_TIMING_LOST s ≤ s.sup.mono) :=
  ⟨⟨fabW [], .engine 2, wd [(F.FAB_CTL_KEY, 0xF1), (F.FAB_CTL_HEAD_SET, 1)], by decide⟩,
    ⟨fabW [(F.FAB_STATUS_HEAD, 1)], .engine 2, wd [(F.FAB_CTL_KEY, 0xF1), (F.FAB_CTL_HEAD_CLR, 1)], by decide⟩,
    ⟨fabW [], .engine 2, wd [(F.FAB_CTL_KEY, 0xF0), (F.FAB_CTL_HEAD_SET, 1)], by decide⟩,
    ⟨{ fabW [(F.FAB_STATUS_HEAD, 1), (F.FAB_STATUS_FCN_VALID, 1), (F.FAB_FCN_FCN, 0xFFFFFFFF), (F.FAB_ANNOUNCE_LEAD, 60)] with ld := { conf := 3, guard := false, tables := { fabric := some { plans := [{}] } } }, fab := { planSeq := 65535 } }, .engine 2, wd [(F.FAB_CTL_KEY, 0xF1), (F.FAB_CTL_ANNOUNCE, 1)], by decide⟩,
    ⟨fabW [(F.FAB_ANNOUNCE_LEAD, 60)], .engine 2, wd [(F.FAB_CTL_KEY, 0xF1), (F.FAB_CTL_ANNOUNCE, 1)], by decide⟩,
    ⟨{ fabW [] with fab := { (fabW []).fab with planSeq := 65535 } }, {}, sealed ({ fabF (.announce ⟨3, 1, 0, 9, 0⟩ none) with left := 2 }), ⟨3, 1, 0, 9, 0⟩, ⟨accByDec (by decide) (by decide), by decide, by decide, by decide, by decide, by decide, by decide⟩⟩,
    ⟨{ fabW [] with fab := { (fabW []).fab with planSeq := 3 } }, {}, sealed ({ fabF (.announce ⟨3, 1, 0, 9, 0⟩ none) with left := 2 }), ⟨3, 1, 0, 9, 0⟩, ⟨accByDec (by decide) (by decide), by decide, by decide⟩⟩,
    ⟨{ fabW [(F.FAB_STATUS_FCN_VALID, 1), (F.FAB_FCN_FCN, 9)] with ld := { conf := 3, guard := false, tables := { fabric := some { plans := [{}, ⟨3, 0x1FFFFFF, 0x550102, 1⟩] } } }, fab := { pend := some ⟨3, 1, 0, 9, 0⟩ } }, ⟨3, 1, 0, 9, 0⟩, ⟨3, 0x1FFFFFF, 0x550102, 1⟩, by decide⟩,
    ⟨{ fabW [(F.FAB_STATUS_FCN_VALID, 1), (F.FAB_FCN_FCN, 2)] with fab := { pend := some ⟨3, 0, 1, 0xFFFFFFFF, 60⟩ } }, ⟨3, 0, 1, 0xFFFFFFFF, 60⟩, by decide⟩,
    ⟨{ fabW [(F.FAB_STATUS_MODE, 5), (F.FAB_STATUS_COORD, 1), (F.FAB_STATUS_FCN_VALID, 1), (F.FAB_FCN_FCN, 9)] with ld := { conf := 3, guard := false, tables := { fabric := some { plans := [{}, ⟨3, 0x1FFFFFF, 0x550102, 1⟩] } } }, fab := { pend := some ⟨3, 1, 3, 9, 0⟩ } }, ⟨3, 1, 3, 9, 0⟩, ⟨3, 0x1FFFFFF, 0x550102, 1⟩, by decide⟩,
    ⟨fabW [(F.FAB_STATUS_MODE, 6)], {}, sealed (fabF (.rescue 2 9 none)), 2, 9, ⟨accByDec (by decide) (by decide), by decide, by decide, by decide⟩⟩,
    ⟨fabW [], {}, sealed (fabF (.rescue 2 9 none)), 2, 9, ⟨accByDec (by decide) (by decide), by decide, by decide⟩⟩,
    ⟨{ fabW [(F.FAB_TIMING_RESCUE, 300)] with fab := { actAt := some 10240, rescueAt := 10240 } }, by decide⟩,
    ⟨{ fabW [(F.FAB_TIMING_LOST, 40)] with fab := { claim := some (1, 2) } }, by decide⟩⟩

/-- Each clause of `CoordinatedModes` has a state and operands that meet its hypotheses. -/
theorem wit_CoordinatedModes :
    (∃ (s : State) (i : RxInfo) (f : FabFrame) (r e : Nat) (b : Nat × Nat), (accept i f s).1 = true ∧ f.body = .candidate r e ∧ get F.FAB_STATUS_MODE s = 2 ∧ s.fab.best = some b ∧ (r < b.1 ∨ (r = b.1 ∧ e < b.2)) ∧ 2 ≤ f.left ∧ s.fab.fcnt ≠ 0xFFFFFFFF) ∧
    (∃ (s : State) (i : RxInfo) (f : FabFrame) (r e : Nat) (b : Nat × Nat), (accept i f s).1 = true ∧ f.body = .candidate r e ∧ s.fab.best = some b ∧ (b.1 < r ∨ (r = b.1 ∧ b.2 ≤ e))) ∧
    (∃ (s : State), s.Inv ∧ e10Up s = true ∧ get F.FAB_STATUS_MODE s = 2 ∧ s.fab.modeAt + 16384 ≤ s.sup.mono ∧ (s.fab.target = 4 ∨ s.fab.target = 5) ∧ s.fab.num ≠ none ∧ s.fab.best = some (myRank s, myEui)) ∧
    (∃ (s : State), s.Inv ∧ (e10Up s = true ∧ e2Up s = true) ∧ get F.FAB_STATUS_MODE s = 2 ∧ s.fab.modeAt + 16384 ≤ s.sup.mono ∧ s.fab.target = 3 ∧ s.fab.num ≠ none ∧ s.fab.best = some (myRank s, myEui)) ∧
    (∃ (s : State) (b : Nat × Nat), s.Inv ∧ e10Up s = true ∧ get F.FAB_STATUS_MODE s = 2 ∧ s.fab.modeAt + 16384 ≤ s.sup.mono ∧ s.fab.target < 8 ∧ s.fab.best = some b ∧ b.1 < myRank s) ∧
    (∃ (s : State) (k : Nat × Nat), s.Inv ∧ (e10Up s = true ∧ e9Up s = true ∧ get F.FAB_STATUS_COORD s = 1) ∧ (3 ≤ get F.FAB_STATUS_MODE s ∧ get F.FAB_STATUS_MODE s ≤ 5) ∧ (flag F.FAB_STATUS_FCN_VALID s = true ∧ inPass s = false) ∧ get F.FAB_FCN_FCN s % (if get F.PHE_FRAME_POS_NOMINAL s = 1 then 60 else 50) = 0 ∧ s.fab.sfFcn ≠ some (get F.FAB_FCN_FCN s) ∧ (linkKeys (get F.FAB_STATUS_KEY_TX s) 1 4 s).1 = some k ∧ (s.lmd.tx = none ∧ soundingRuns s = false) ∧ (flag F.LMD_STATUS_VLD_LOW s = false ∧ flag F.LMD_STATUS_HOT s = false ∧ muting s = false ∧ flag F.LMD_CFG_BAND_A s = true) ∧ s.fab.fcnt + 1 < 0xFFFFFFFF) ∧
    (∃ (s : State), (e10Up s = false ∨ get F.FAB_STATUS_COORD s = 0 ∨ get F.FAB_STATUS_MODE s < 3 ∨ 5 < get F.FAB_STATUS_MODE s ∨ flag F.FAB_STATUS_FCN_VALID s = false ∨ inPass s = true ∨ get F.FAB_FCN_FCN s % (if get F.PHE_FRAME_POS_NOMINAL s = 1 then 60 else 50) ≠ 0 ∨ s.fab.sfFcn = some (get F.FAB_FCN_FCN s))) ∧
    (∃ (s : State) (i : RxInfo) (f : FabFrame) (n d m p e : Nat), (accept i f s).1 = true ∧ f.body = .beacon n d m p e none [] ∧ (get F.FAB_STATUS_MODE s ≠ 1 ∧ get F.FAB_STATUS_COORD s = 0) ∧ (m = 4 ∨ m = 5) ∧ s.fab.lastBeacon ≠ some (e, n) ∧ d < 15 ∧ s.fab.fcnt ≠ 0xFFFFFFFF) ∧
    (∃ (s : State) (i : RxInfo) (f : FabFrame) (n d m p e : Nat), (accept i f s).1 = true ∧ f.body = .beacon n d m p e none [] ∧ (s.fab.lastBeacon = some (e, n) ∨ get F.FAB_STATUS_MODE s = 1 ∨ get F.FAB_STATUS_COORD s = 1 ∨ m < 3 ∨ 5 < m)) ∧
    (∃ (s : State) (i : RxInfo) (f : FabFrame) (e : Nat), s.Inv ∧ (accept i f s).1 = true ∧ (f.body = .join e ∧ f.ackReq = false) ∧ forMe f s = true ∧ (get F.FAB_STATUS_MODE s = 3 ∧ get F.FAB_STATUS_COORD s = 1) ∧ s.fab.assigned = [] ∧ s.fab.fcnt ≠ 0xFFFFFFFF) ∧
    (∃ (s : State) (a : Nat), a < 4096 ∧ (∀ b, b < a → s.fab.assigned.any (fun e => e.2 == b) = true) ∧ s.fab.assigned.any (fun e => e.2 == a) = false) ∧
    (∃ (s : State) (i : RxInfo) (f : FabFrame) (a : Nat), (accept i f s).1 = true ∧ (f.body = .assign myEui a ∧ f.ackReq = false) ∧ forMe f s = true ∧ a < 4096 ∧ (e2Up s = true ∧ sessState 6 s = 0)) ∧
    (∃ (s : State), s.Inv ∧ (e10Up s = true ∧ get F.FAB_STATUS_COORD s = 1) ∧ ((get F.FAB_STATUS_MODE s = 3 ∧ s.fab.lastJoin + 61440 ≤ s.sup.mono) ∨ ((get F.FAB_STATUS_MODE s = 4 ∨ get F.FAB_STATUS_MODE s = 5) ∧ s.fab.modeEnd ≠ none ∧ s.fab.modeEnd.getD 0 ≤ s.sup.mono)) ∧ (s.fab.pend = none ∧ inPass s = false) ∧ s.fab.fcnt ≠ 0xFFFFFFFF) ∧
    (∃ (s : State), s.Inv ∧ (e10Up s = true ∧ get F.FAB_STATUS_COORD s = 0) ∧ (3 ≤ get F.FAB_STATUS_MODE s ∧ get F.FAB_STATUS_MODE s ≤ 5) ∧ s.fab.beaconAt + 5120 ≤ s.sup.mono ∧ s.fab.fcnt ≠ 0xFFFFFFFF) ∧
    (∃ (s : State), s.Inv ∧ e10Up s = true ∧ s.fab.noRec = true ∧ get F.FAB_STATUS_MODE s = 6 ∧ s.fab.heardRescue = false ∧ s.fab.startAt + 2048 * get F.FAB_TIMING_RESCUE s ≤ s.sup.mono ∧ s.fab.fcnt ≠ 0xFFFFFFFF) :=
  ⟨⟨{ fabW [(F.FAB_STATUS_MODE, 2)] with fab := { (fabW []).fab with best := some (1, 4) } }, {}, sealed ({ fabF (.candidate 0 9) with left := 2 }), 0, 9, (1, 4), ⟨accByDec (by decide) (by decide), by decide, by decide, by decide, by decide, by decide, by decide⟩⟩,
    ⟨{ fabW [(F.FAB_STATUS_MODE, 2)] with fab := { (fabW []).fab with best := some (1, 4) } }, {}, sealed ({ fabF (.candidate 1 4) with left := 2 }), 1, 4, (1, 4), ⟨accByDec (by decide) (by decide), by decide, by decide, by decide⟩⟩,
    ⟨{ fabW [(F.FAB_STATUS_MODE, 2), (F.FAB_STATUS_HEAD, 1)] with fab := { best := some (0, myEui), target := 4, num := some (1, 0, 2), modeAt := 24576 } }, ⟨by decide, by decide, by decide, by decide, by decide, by decide, rfl⟩⟩,
    ⟨{ fabW [(F.FAB_STATUS_MODE, 2), (F.FAB_STATUS_HEAD, 1), (F.FAB_ADDR_VALID, 0)] with fab := { best := some (0, myEui), target := 3, num := some (1, 0, 2), modeAt := 24576 } }, ⟨by decide, by decide, by decide, by decide, by decide, by decide, rfl⟩⟩,
    ⟨{ fabW [(F.FAB_STATUS_MODE, 2)] with fab := { best := some (0, 5), target := 3 } }, (0, 5), by decide⟩,
    ⟨{ fabW [(F.FAB_STATUS_MODE, 3), (F.FAB_STATUS_COORD, 1), (F.FAB_STATUS_FCN_VALID, 1), (F.FAB_FCN_FCN, 100)] with fab := { newAssigned := [(4, 0)], sframe := 6, sfFcn := some 50 } }, (77, 78), by decide⟩,
    ⟨{ fabW [(F.FAB_STATUS_MODE, 3), (F.FAB_STATUS_COORD, 1), (F.FAB_STATUS_FCN_VALID, 1), (F.FAB_FCN_FCN, 100)] with fab := { sfFcn := some 100 } }, by decide⟩,
    ⟨fabW [(F.FAB_STATUS_MODE, 4)], {}, sealed ({ fabF (.beacon 6 2 5 1 33 none []) with left := 9 }), 6, 2, 5, 1, 33, ⟨accByDec (by decide) (by decide), by decide, by decide, by decide, by decide, by decide, by decide⟩⟩,
    ⟨{ fabW [(F.FAB_STATUS_MODE, 4)] with fab := { (fabW []).fab with lastBeacon := some (33, 6) } }, {}, sealed ({ fabF (.beacon 6 2 5 1 33 none []) with left := 9 }), 6, 2, 5, 1, 33, ⟨accByDec (by decide) (by decide), by decide, by decide⟩⟩,
    ⟨fabW [(F.FAB_STATUS_MODE, 3), (F.FAB_STATUS_COORD, 1)], {}, sealed ({ fabF (.join 33) with ldst := some (.short 7) }), 33, ⟨by decide, accByDec (by decide) (by decide), by decide, by decide, by decide, by decide, by decide⟩⟩,
    ⟨{ ({} : State) with fab := { assigned := [(33, 0), (34, 2)] } }, 1, by decide⟩,
    ⟨fabW [(F.FAB_STATUS_MODE, 3), (F.FAB_ADDR_VALID, 0)], {}, sealed ({ fabF (.assign myEui 9) with ldst := none }), 9, ⟨accByDec (by decide) (by decide), ⟨rfl, rfl⟩, by decide, by decide, by decide⟩⟩,
    ⟨{ fabW [(F.FAB_STATUS_MODE, 5), (F.FAB_STATUS_COORD, 1), (F.FAB_FCN_FCN, 100)] with fab := { modeEnd := some 40960 } }, by decide⟩,
    ⟨{ fabW [(F.FAB_STATUS_MODE, 5)] with fab := { beaconAt := 35840 } }, by decide⟩,
    ⟨{ fabW [(F.FAB_STATUS_MODE, 6), (F.FAB_TIMING_RESCUE, 20)] with fab := { noRec := true } }, by decide⟩⟩

/-- Each clause of `PanelAndKeypad` has a state and operands that meet its hypotheses (part 1). -/
theorem wit_PanelAndKeypad :
    (∃ (s : State) (m : Master) (w : Word), Writable m R.PNL_CTL s ∧ (arg F.PNL_CTL_KEY w = 0xB4 ∧ arg F.PNL_CTL_ON w = 1) ∧ (arg F.PNL_CTL_LIGHT w = 0 ∧ arg F.PNL_CTL_GLOW w = 0 ∧ arg F.PNL_CTL_OFF w = 0) ∧ get F.PNL_STATUS_STATE s = 0 ∧ get F.PNL_CFG_PANEL s ≠ 3) ∧
    (∃ (s : State) (m : Master) (w : Word), Writable m R.PNL_CTL s ∧ arg F.PNL_CTL_KEY w = 0xB4 ∧ ((arg F.PNL_CTL_ON w = 1 ∧ arg F.PNL_CTL_LIGHT w = 0 ∧ arg F.PNL_CTL_GLOW w = 0 ∧ (get F.PNL_STATUS_STATE s ≠ 0 ∨ get F.PNL_CFG_PANEL s = 3)) ∨ (arg F.PNL_CTL_ON w = 0 ∧ arg F.PNL_CTL_LIGHT w = 1 ∧ arg F.PNL_CTL_GLOW w = 0 ∧ get F.PNL_STATUS_STATE s ≠ 2 ∧ get F.PNL_STATUS_STATE s ≠ 4) ∨ (arg F.PNL_CTL_ON w = 0 ∧ arg F.PNL_CTL_LIGHT w = 0 ∧ arg F.PNL_CTL_GLOW w = 1 ∧ (get F.PNL_STATUS_STATE s ≠ 3 ∨ get F.PNL_CFG_PANEL s ≠ 0))) ∧ arg F.PNL_CTL_OFF w = 0) ∧
    (∃ (s : State), s.Inv ∧ domOn 10 s = true ∧ get F.PNL_STATUS_STATE s = 1 ∧ s.pnl.pumps = 3) ∧
    (∃ (s : State), domOn 10 s = true ∧ get F.PNL_STATUS_STATE s = 1 ∧ s.pnl.pumps < 3) ∧
    (∃ (s : State), domOn 10 s = true ∧ get F.PNL_STATUS_STATE s = 4) ∧
    (∃ (s : State), (domOn 10 s = false ∨ (get F.PNL_STATUS_STATE s ≠ 1 ∧ get F.PNL_STATUS_STATE s ≠ 4))) ∧
    (∃ (s : State) (m : Master) (w : Word), Writable m R.PNL_CTL s ∧ arg F.PNL_CTL_KEY w ≠ 0xB4) ∧
    (∃ (s : State) (m : Master) (w : Word), Writable m R.PNL_CTL s ∧ (arg F.PNL_CTL_KEY w = 0xB4 ∧ arg F.PNL_CTL_LIGHT w = 1) ∧ (arg F.PNL_CTL_ON w = 0 ∧ arg F.PNL_CTL_GLOW w = 0 ∧ arg F.PNL_CTL_OFF w = 0) ∧ get F.PNL_STATUS_STATE s = 2) ∧
    (∃ (s : State) (m : Master) (w : Word), Writable m R.PNL_CTL s ∧ (arg F.PNL_CTL_KEY w = 0xB4 ∧ arg F.PNL_CTL_LIGHT w = 1) ∧ (arg F.PNL_CTL_ON w = 0 ∧ arg F.PNL_CTL_GLOW w = 0 ∧ arg F.PNL_CTL_OFF w = 0) ∧ get F.PNL_STATUS_STATE s = 4) ∧
    (∃ (s : State) (m : Master) (w : Word), Writable m R.PNL_CTL s ∧ (arg F.PNL_CTL_KEY w = 0xB4 ∧ arg F.PNL_CTL_GLOW w = 1) ∧ (arg F.PNL_CTL_ON w = 0 ∧ arg F.PNL_CTL_LIGHT w = 0 ∧ arg F.PNL_CTL_OFF w = 0) ∧ get F.PNL_STATUS_STATE s = 3 ∧ get F.PNL_CFG_PANEL s = 0) ∧
    (∃ (s : State) (m : Master) (w : Word), Writable m R.PNL_CTL s ∧ (arg F.PNL_CTL_KEY w = 0xB4 ∧ arg F.PNL_CTL_OFF w = 1) ∧ (arg F.PNL_CTL_ON w = 0 ∧ arg F.PNL_CTL_LIGHT w = 0 ∧ arg F.PNL_CTL_GLOW w = 0) ∧ (1 ≤ get F.PNL_STATUS_STATE s ∧ get F.PNL_STATUS_STATE s ≤ 4)) ∧
    (∃ (s : State) (m : Master) (w : Word), Writable m R.PNL_CTL s ∧ arg F.PNL_CTL_KEY w = 0xB4 ∧ (arg F.PNL_CTL_ON w = 0 ∧ arg F.PNL_CTL_LIGHT w = 0 ∧ arg F.PNL_CTL_GLOW w = 0) ∧ (get F.PNL_STATUS_STATE s = 0 ∨ get F.PNL_STATUS_STATE s = 5)) ∧
    (∃ (s : State), domOn 10 s = true ∧ 2 ≤ get F.PNL_STATUS_STATE s ∧ (s.pnl.offPend = false ∧ s.pnl.lightPend = true ∧ s.pnl.raising = 0)) ∧
    (∃ (s : State), domOn 10 s = true ∧ 2 ≤ get F.PNL_STATUS_STATE s ∧ (s.pnl.offPend = false ∧ s.pnl.lightPend = false ∧ s.pnl.glowPend = true)) ∧
    (∃ (s : State), domOn 10 s = true ∧ 2 ≤ get F.PNL_STATUS_STATE s ∧ (s.pnl.offPend = false ∧ (s.pnl.lightPend = false ∨ s.pnl.raising ≠ 0) ∧ s.pnl.glowPend = false)) ∧
    (∃ (s : State), s.Inv ∧ domOn 10 s = true ∧ 2 ≤ get F.PNL_STATUS_STATE s ∧ s.pnl.offPend = true) ∧
    (∃ (s : State) (k : Nat), domOn 10 s = true ∧ (1 ≤ get F.PNL_STATUS_STATE s ∧ get F.PNL_STATUS_STATE s ≤ 4) ∧ k < 4) ∧
    (∃ (s : State) (sub : Nat), domOn 10 s = true ∧ get F.PNL_CFG_PANEL s = 2) ∧
    (∃ (s : State) (m : Master) (k : Nat) (w : Word), k < 512 ∧ Writable m (R.PNL_RAM k) s ∧ 2 ≤ get F.PNL_STATUS_STATE s) ∧
    (∃ (s : State) (m : Master) (k : Nat) (w : Word), k < 512 ∧ Writable m (R.PNL_RAM k) s ∧ get F.PNL_STATUS_STATE s ≤ 1) :=
  ⟨⟨st [(F.PMU_DOM_STATUS_ON, 0x7FF), (F.PNL_STATUS_FRAME, 9)], .engine 2, wd [(F.PNL_CTL_KEY, 0xB4), (F.PNL_CTL_ON, 1)], by decide⟩,
    ⟨st [(F.PMU_DOM_STATUS_ON, 0x7FF), (F.PNL_STATUS_STATE, 1)], .engine 2, wd [(F.PNL_CTL_KEY, 0xB4), (F.PNL_CTL_ON, 1)], by decide⟩,
    ⟨{ st [(F.PMU_DOM_STATUS_ON, 0x7FF), (F.PNL_STATUS_STATE, 1), (F.PNL_RAM_DOTS 511, 5), (F.PNL_STATUS_PUMP_OK, 13)] with pnl := { pumps := 3 } }, by decide⟩,
    ⟨{ st [(F.PMU_DOM_STATUS_ON, 0x7FF), (F.PNL_STATUS_STATE, 1), (F.PNL_STATUS_PUMP_OK, 4)] with pnl := { pumps := 1 } }, by decide⟩,
    ⟨{ st [(F.PMU_DOM_STATUS_ON, 0x7FF), (F.PNL_STATUS_STATE, 4)] with pnl := { raising := 2 } }, by decide⟩,
    ⟨st [(F.PMU_DOM_STATUS_ON, 0x7FF), (F.PNL_STATUS_STATE, 3)], by decide⟩,
    ⟨st [(F.PMU_DOM_STATUS_ON, 0x7FF), (F.PNL_STATUS_STATE, 2)], .engine 2, wd [(F.PNL_CTL_KEY, 0xB5), (F.PNL_CTL_LIGHT, 1)], by decide⟩,
    ⟨st [(F.PMU_DOM_STATUS_ON, 0x7FF), (F.PNL_STATUS_STATE, 2)], .engine 2, wd [(F.PNL_CTL_KEY, 0xB4), (F.PNL_CTL_LIGHT, 1)], by decide⟩,
    ⟨st [(F.PMU_DOM_STATUS_ON, 0x7FF), (F.PNL_STATUS_STATE, 4)], .engine 2, wd [(F.PNL_CTL_KEY, 0xB4), (F.PNL_CTL_LIGHT, 1)], by decide⟩,
    ⟨st [(F.PMU_DOM_STATUS_ON, 0x7FF), (F.PNL_STATUS_STATE, 3)], .engine 2, wd [(F.PNL_CTL_KEY, 0xB4), (F.PNL_CTL_GLOW, 1)], by decide⟩,
    ⟨{ st [(F.PMU_DOM_STATUS_ON, 0x7FF), (F.PNL_STATUS_STATE, 4)] with pnl := { lightPend := true } }, .engine 2, wd [(F.PNL_CTL_KEY, 0xB4), (F.PNL_CTL_OFF, 1)], by decide⟩,
    ⟨st [(F.PMU_DOM_STATUS_ON, 0x7FF), (F.PNL_STATUS_STATE, 5)], .engine 2, wd [(F.PNL_CTL_KEY, 0xB4), (F.PNL_CTL_OFF, 1)], by decide⟩,
    ⟨{ st [(F.PMU_DOM_STATUS_ON, 0x7FF), (F.PNL_STATUS_STATE, 4), (F.PNL_STATUS_FRAME, 0xFFFF)] with pnl := { lightPend := true } }, by decide⟩,
    ⟨{ st [(F.PMU_DOM_STATUS_ON, 0x7FF), (F.PNL_STATUS_STATE, 3)] with pnl := { glowPend := true } }, by decide⟩,
    ⟨{ st [(F.PMU_DOM_STATUS_ON, 0x7FF), (F.PNL_STATUS_STATE, 4), (F.PNL_BLINK_RATE 7, 2)] with pnl := { lightPend := true, raising := 1 } }, by decide⟩,
    ⟨{ st [(F.PMU_DOM_STATUS_ON, 0x7FF), (F.PNL_STATUS_STATE, 5), (F.PNL_RAM_DOTS 0, 5)] with pnl := { offPend := true } }, by decide⟩,
    ⟨st [(F.PMU_DOM_STATUS_ON, 0x7FF), (F.PNL_STATUS_STATE, 3), (F.PNL_STATUS_PUMP_OK, 15)], 3, by decide⟩,
    ⟨{ st [(F.PMU_DOM_STATUS_ON, 0x7FF), (F.PNL_CFG_PANEL, 2)] with pnl := { blinks := [0, 1, 2, 3, 0x40000000, 0x80000000, 0xC0000000] } }, 512, by decide⟩,
    ⟨st [(F.PMU_DOM_STATUS_ON, 0x7FF), (F.PNL_STATUS_STATE, 2)], .engine 2, 511, 0xFFFFFFFF, by decide⟩,
    ⟨st [(F.PMU_DOM_STATUS_ON, 0x7FF), (F.PNL_STATUS_STATE, 1)], .engine 2, 511, 0xFFFFFFFF, by decide⟩⟩

/-- Each clause of `PanelAndKeypad` has a state and operands that meet its hypotheses (part 2). -/
theorem wit_PanelAndKeypad_2 :
    (∃ (s : State) (keys : Nat), scanning s = true ∧ s.pnl.wakeNext = false) ∧
    (∃ (s : State) (keys : Nat), s.Inv ∧ scanning s = true ∧ s.pnl.wakeNext = true ∧ s.pnl.fifo = []) ∧
    (∃ (s : State) (k : Nat), s.Inv ∧ scanning s = true ∧ k < 20 ∧ fbit F.KPD_STATUS_HELD k s = false ∧ (1 ≤ get F.KPD_CFG_DEB s ∧ get F.KPD_CFG_DEB s ≤ nth 0 s.pnl.seen k) ∧ popCount (get F.KPD_STATUS_HELD s) 20 < 2 ∧ s.pnl.fifo.length < 8 ∧ s.pnl.wakeNext = false) ∧
    (∃ (s : State) (k : Nat), scanning s = true ∧ k < 20 ∧ fbit F.KPD_STATUS_HELD k s = false ∧ max 1 (get F.KPD_CFG_DEB s) ≤ nth 0 s.pnl.seen k ∧ 2 ≤ popCount (get F.KPD_STATUS_HELD s) 20) ∧
    (∃ (s : State) (k : Nat), s.Inv ∧ scanning s = true ∧ k < 20 ∧ fbit F.KPD_STATUS_HELD k s = true ∧ (1 ≤ get F.KPD_CFG_DEB s ∧ get F.KPD_CFG_DEB s ≤ nth 0 s.pnl.unseen k) ∧ s.pnl.fifo.length < 8) ∧
    (∃ (s : State) (k : Nat), scanning s = true ∧ k < 20 ∧ fbit F.KPD_STATUS_HELD k s = true ∧ max 1 (get F.KPD_CFG_DEB s) ≤ nth 0 s.pnl.unseen k ∧ 8 ≤ s.pnl.fifo.length) :=
  ⟨⟨st [(F.PMU_DOM_STATUS_ON, 0x7FF), (F.KPD_CFG_EN, 1)], 0x80001, by decide⟩,
    ⟨{ st [(F.PMU_DOM_STATUS_ON, 0x7FF), (F.KPD_CFG_EN, 1)] with pnl := { wakeNext := true } }, 0x80000, by decide⟩,
    ⟨{ st [(F.PMU_DOM_STATUS_ON, 0x7FF), (F.KPD_CFG_EN, 1), (F.KPD_CFG_DEB, 5)] with pnl := { seen := List.replicate 20 5, fifo := [1, 2, 3, 4, 5, 6, 7] } }, 19, by decide⟩,
    ⟨{ st [(F.PMU_DOM_STATUS_ON, 0x7FF), (F.KPD_CFG_EN, 1), (F.KPD_STATUS_HELD, 3)] with pnl := { seen := List.replicate 20 1 } }, 19, by decide⟩,
    ⟨{ st [(F.PMU_DOM_STATUS_ON, 0x7FF), (F.KPD_CFG_EN, 1), (F.KPD_CFG_DEB, 5), (F.KPD_STATUS_HELD, 1)] with pnl := { unseen := List.replicate 20 5, wakeNext := true } }, 0, by decide⟩,
    ⟨{ st [(F.PMU_DOM_STATUS_ON, 0x7FF), (F.KPD_CFG_EN, 1), (F.KPD_STATUS_HELD, 1)] with pnl := { unseen := List.replicate 20 5, fifo := List.replicate 8 1 } }, 0, by decide⟩⟩

/-- Each clause of `HostFrames` has a state and operands that meet its hypotheses (part 1). -/
theorem wit_HostFrames :
    (∃ (s : State) (i a n : Nat) (bs : List Byte) (wd : World), ifaceUp i s = true ∧ slotOf i s ≠ .free) ∧
    (∃ (s : State) (i a n : Nat) (bs : List Byte) (wd : World), ifaceUp i s = false) ∧
    (∃ (s : State) (i : Nat), s.Inv ∧ Free i s ∧ i < 2) ∧
    (∃ (s : State) (i a n : Nat), s.Inv ∧ Free i s ∧ (0x201FC000 ≤ a ∧ a + n ≤ 0x20200000 ∧ a % 4 = 0) ∧ (4 ≤ n ∧ n ≤ 1024 ∧ n % 4 = 0) ∧ (halted s = false ∧ domOn 5 s = true)) ∧
    (∃ (s : State) (i a n ecc : Nat), s.Inv ∧ Free i s ∧ (0x20000000 ≤ a ∧ a < 0x201FC000 ∧ a % 4 = 0) ∧ (4 ≤ n ∧ n ≤ 1024 ∧ n % 4 = 0) ∧ halted s = false) ∧
    (∃ (s : State) (i a n ecc : Nat), s.Inv ∧ Free i s ∧ (a % 4 ≠ 0 ∨ n < 4 ∨ 1024 < n ∨ n % 4 ≠ 0)) ∧
    (∃ (s : State) (i a ecc : Nat), s.Inv ∧ Free i s ∧ (0x40000000 ≤ a ∧ a ≤ 0x401BFFFC ∧ a % 4 = 0) ∧ (halted s = false ∧ domOn (blockDom (blockOf a)) s = true) ∧ (blockOf a ≠ blockOf R.HIF_STATUS ∧ a ≠ R.INT_SUMMARY) ∧ liveWord a s = none) ∧
    (∃ (s : State) (i a ecc : Nat) (w : Word) (wd : World), s.Inv ∧ Free i s ∧ (0x40000000 ≤ a ∧ a ≤ 0x401BFFFC ∧ a % 4 = 0) ∧ (halted s = false ∧ domOn (blockDom (blockOf a)) s = false)) ∧
    (∃ (s : State) (i a : Nat) (w : Word) (wd : World), s.Inv ∧ Free i s ∧ (0x40000000 ≤ a ∧ a ≤ 0x401BFFFC ∧ a % 4 = 0) ∧ (halted s = false ∧ domOn (blockDom (blockOf a)) s = true ∧ mayWrite (hostOf i) a s = false)) ∧
    (∃ (s : State) (i a : Nat) (bs : List Byte) (wd : World), s.Inv ∧ Free i s ∧ (0x201FC000 ≤ a ∧ a + bs.length ≤ 0x20200000 ∧ a % 4 = 0) ∧ (4 ≤ bs.length ∧ bs.length ≤ 1024 ∧ bs.length % 4 = 0) ∧ (halted s = false ∧ domOn 5 s = true)) ∧
    (∃ (s : State) (i a : Nat) (bs : List Byte) (wd : World), s.Inv ∧ Free i s ∧ (0x24000000 ≤ a ∧ a ≤ 0x2407FFFF ∧ a % 4 = 0) ∧ (4 ≤ bs.length ∧ bs.length ≤ 1024 ∧ bs.length % 4 = 0) ∧ halted s = false) ∧
    (∃ (s : State) (i a : Nat) (bs : List Byte) (wd : World), s.Inv ∧ Free i s ∧ (a % 4 ≠ 0 ∨ bs.length < 4 ∨ 1024 < bs.length ∨ bs.length % 4 ≠ 0)) ∧
    (∃ (s : State) (i : Nat) (bs : List Byte), s.Inv ∧ Free i s ∧ (16 ≤ bs.length ∧ bs.length ≤ 1100) ∧ (halted s = false ∧ e2Up s = true) ∧ shapeOk bs = true) ∧
    (∃ (s : State) (i : Nat) (bs : List Byte), s.Inv ∧ Free i s ∧ (16 ≤ bs.length ∧ bs.length ≤ 1100) ∧ (halted s = false ∧ domOn 5 s = true ∧ e2Up s = false) ∧ sessState i s = 0) ∧
    (∃ (s : State) (i a : Nat) (bs : List Byte) (d : Dest), s.Inv ∧ Free i s ∧ (6 ≤ bs.length ∧ bs.length ≤ 4096 ∧ field bs 4 2 + 6 = bs.length) ∧ (halted s = false ∧ e10Up s = true ∧ isHead s = true ∧ inPass s = false) ∧ fabDest a = some d) ∧
    (∃ (s : State) (i a : Nat) (bs : List Byte), s.Inv ∧ Free i s ∧ (6 ≤ bs.length ∧ bs.length ≤ 4096) ∧ (halted s = false ∧ domOn 9 s = true ∧ isHead s = false)) ∧
    (∃ (s : State) (i : Nat) (m : Message) (l : List Message), s.Inv ∧ Free i s ∧ (halted s = false ∧ domOn 9 s = true ∧ isHead s = true) ∧ s.hif.inbox = m :: l ∧ l.length < 8) ∧
    (∃ (s : State) (i : Nat), s.Inv ∧ Free i s ∧ (halted s = false ∧ domOn 9 s = true ∧ isHead s = true) ∧ s.hif.inbox = []) ∧
    (∃ (s : State) (i : Nat), s.Inv ∧ Free i s ∧ (halted s = false ∧ domOn 9 s = true ∧ isHead s = false)) ∧
    (∃ (s : State) (i bad : Nat), s.Inv ∧ Free i s ∧ halted s = false ∧ fbit F.PMU_WAKE_EN_EN 3 s = true ∧ get F.PMU_STATE_STATE s = 0) :=
  ⟨⟨{ hifW [] with hif := { slots := [.busy 1 1 none, .free, .free, .free, .free, .free] } }, 0, 0, 4, [1], ⟨⟨none, none, true, true, false, true, false, 0⟩, none⟩, by decide⟩,
    ⟨st [(F.PMU_DOM_STATUS_ON, 0x7FF), (F.PMU_VMON_VDD_OK, 1)], 0, 0, 4, [1], ⟨⟨none, none, true, true, false, true, false, 0⟩, none⟩, by decide⟩,
    ⟨{ hifW [] with hif := { rseq := [255, 0, 0, 0, 0, 0] } }, 0, by decide⟩,
    ⟨hifW [], 0, 0x201FC000, 1024, by decide⟩,
    ⟨hifW [], 0, 0x201FBFFC, 4, 0, by decide⟩,
    ⟨hifW [], 0, 0x201FC002, 4, 0, by decide⟩,
    ⟨hifW [(F.PHE_CFG_WIRING, 2)], 0, R.PHE_CFG, 0, by decide⟩,
    ⟨hifW [(F.PMU_DOM_STATUS_ON, 0x7F7)], 0, R.SPE_CFG, 0, 0, ⟨⟨none, none, true, true, false, true, false, 0⟩, none⟩, by decide⟩,
    ⟨hifW [], 0, R.PHE_CFG, 0, ⟨⟨none, none, true, true, false, true, false, 0⟩, none⟩, by decide⟩,
    ⟨hifW [], 0, 0x201FFFFC, [1, 2, 3, 4], ⟨⟨none, none, true, true, false, true, false, 0⟩, none⟩, by decide⟩,
    ⟨hifW [], 0, 0x2407FFFC, [1, 2, 3, 4], ⟨⟨none, none, true, true, false, true, false, 0⟩, none⟩, by decide⟩,
    ⟨hifW [], 0, 0x201FC002, [1, 2, 3, 4], ⟨⟨none, none, true, true, false, true, false, 0⟩, none⟩, by decide⟩,
    ⟨hifW [], 0, reqBytes 4 0 0 [0, 0, 0, 0, 0, 0] [], by decide⟩,
    ⟨{ hifW [] with sup := { mode := .running, mono := 70000, quarantined := 4 } }, 0, reqBytes 4 0 0 [0, 0, 0, 0, 0, 0] [], by decide⟩,
    ⟨{ hifW [(F.FAB_STATUS_HEAD, 1), (F.FAB_STATUS_MODE, 1), (F.FAB_CFG_SEG_MAX, 32)] with sup := { mode := .running } }, 0, 0x2000, [7, 0, 9, 0, 1, 0, 5], .broadcast, by decide⟩,
    ⟨hifW [], 0, 0x2000, [7, 0, 9, 0, 1, 0, 5], by decide⟩,
    ⟨{ hifW [(F.FAB_STATUS_HEAD, 1), (F.HIF_STATUS_INBOX, 1), (F.HIF_CAUSE_FAB_RX, 1)] with hif := { inbox := [{ src := .short 0xABC, body := [1] }] } }, 0, { src := .short 0xABC, body := [1] }, [], by decide⟩,
    ⟨hifW [(F.FAB_STATUS_HEAD, 1)], 0, by decide⟩,
    ⟨hifW [], 0, by decide⟩,
    ⟨hifW [(F.PMU_WAKE_EN_EN, 8)], 0, 15, by decide⟩⟩

/-- Each clause of `HostFrames` has a state and operands that meet its hypotheses (part 2). -/
theorem wit_HostFrames_2 :
    (∃ (s : State) (i bad : Nat), s.Inv ∧ Free i s ∧ halted s = false ∧ fbit F.PMU_WAKE_EN_EN 3 s = false) ∧
    (∃ (s : State) (i : Nat) (bs : List Byte), s.Inv ∧ Free i s ∧ (bs.length < 9 ∨ crc16 (bs.take (bs.length - 2)) ≠ field bs (bs.length - 2) 2)) ∧
    (∃ (s : State) (i : Nat) (bs : List Byte), s.Inv ∧ Free i s ∧ (9 ≤ bs.length ∧ crc16 (bs.take (bs.length - 2)) = field bs (bs.length - 2) 2) ∧ (8 ≤ field bs 0 1 ∨ (field bs 0 1 = 0 ∧ 2 ≤ i) ∨ ((field bs 0 1 = 1 ∨ field bs 0 1 = 2) ∧ (field bs 1 4 % 4 ≠ 0 ∨ field bs 5 2 < 4 ∨ 1024 < field bs 5 2 ∨ field bs 5 2 % 4 ≠ 0)) ∨ (field bs 0 1 = 3 ∧ (field bs 5 2 < 16 ∨ 1100 < field bs 5 2)) ∨ (field bs 0 1 = 4 ∧ (field bs 5 2 < 6 ∨ 4096 < field bs 5 2)) ∨ (5 ≤ field bs 0 1 ∧ field bs 0 1 ≤ 7 ∧ field bs 5 2 ≠ 0) ∨ bs.length ≠ 9 + (if field bs 0 1 = 1 then 0 else field bs 5 2))) ∧
    (∃ (s : State) (i : Nat) (bs : List Byte), frameFault i bs = none) ∧
    (∃ (s : State) (i cmd n : Nat) (r : HostResp), ifaceUp i s = true ∧ slotOf i s = .busy cmd n (some r) ∧ i < 2) ∧
    (∃ (s : State) (i cmd n : Nat) (r : HostResp), ifaceUp i s = true ∧ slotOf i s = .busy cmd n (some r) ∧ (2 ≤ i ∧ i < s.hif.sent.length)) ∧
    (∃ (s : State) (i : Nat) (r : HostResp), slotOf i s = .ready r ∧ i < 2 ∧ nth 0 s.hif.since i + 2048 ≤ s.sup.mono) ∧
    (∃ (s : State) (i : Nat) (r : HostResp), ifaceUp i s = true ∧ slotOf i s = .ready r ∧ (i < 2 ∧ i < s.hif.sent.length)) ∧
    (∃ (s : State) (i cmd n : Nat) (r : Option HostResp), ifaceUp i s = true ∧ slotOf i s = .busy cmd n r ∧ (i < 2 ∧ i < s.hif.sent.length)) ∧
    (∃ (s : State) (i : Nat), ifaceUp i s = true ∧ slotOf i s = .free ∧ i < 2) ∧
    (∃ (s : State) (i : Nat), s.Inv ∧ Free i s ∧ 2 ≤ i) :=
  ⟨⟨hifW [], 0, 15, by decide⟩,
    ⟨hifW [], 0, [7, 0, 0, 0, 0, 0, 0, 0, 0], by decide +kernel⟩,
    ⟨hifW [], 0, le 7 0x55 ++ le 2 (crc16 (le 7 0x55)), by decide +kernel⟩,
    ⟨hifW [], 0, le 7 7 ++ le 2 (crc16 (le 7 7)), by decide +kernel⟩,
    ⟨{ hifW [] with hif := { slots := [.busy 1 1 (some ⟨0, 1, 1, [9]⟩), .free, .free, .free, .free, .free] } }, 0, 1, 1, ⟨0, 1, 1, [9]⟩, by decide⟩,
    ⟨{ hifW [] with hif := { slots := [.free, .free, .busy 1 1 (some ⟨0, 1, 1, [9]⟩), .free, .free, .free] } }, 2, 1, 1, ⟨0, 1, 1, [9]⟩, by decide⟩,
    ⟨{ hifW [(F.HIF_CAUSE_RSP_READY, 3)] with hif := { slots := [.ready ⟨0, 1, 1, [9]⟩, .free, .free, .free, .free, .free], since := [67952, 0, 0, 0, 0, 0] } }, 0, ⟨0, 1, 1, [9]⟩, by decide⟩,
    ⟨{ hifW [] with hif := { slots := [.ready ⟨0, 1, 1, [9]⟩, .free, .free, .free, .free, .free] } }, 0, ⟨0, 1, 1, [9]⟩, by decide⟩,
    ⟨{ hifW [] with hif := { slots := [.busy 3 7 none, .free, .free, .free, .free, .free] } }, 0, 3, 7, none, by decide⟩,
    ⟨hifW [], 0, by decide⟩,
    ⟨hifW [], 2, by decide⟩⟩

/-- Each clause of `OpticalPort` has a state and operands that meet its hypotheses. -/
theorem wit_OpticalPort :
    (∃ (s : State) (msg : List Byte), opticalUp s = true ∧ s.hif.optical = .signOn ∧ signOnFor msg s = true) ∧
    (∃ (s : State) (msg : List Byte), opticalUp s = true ∧ s.hif.optical = .identified) ∧
    (∃ (s : State) (msg : List Byte), s.hif.optical ≠ .identified ∧ (opticalUp s = false ∨ s.hif.optical ≠ .signOn ∨ signOnFor msg s = false)) ∧
    (∃ (s : State) (msg : List Byte), opticalUp s = false) ∧
    (∃ (s : State), (s.hif.optical = .signOn ∨ s.sup.mono < s.hif.optAt + (if s.hif.optical = .frame then 61440 else 1536))) ∧
    (∃ (s : State), opticalUp s = true ∧ s.hif.optical = .identified ∧ e2Up s = false) ∧
    (∃ (s : State), (3 ≤ get (F.HIF_UART_CFG_BAUD 3) s ∧ get (F.HIF_UART_CFG_BAUD 3) s ≤ 5)) ∧
    (∃ (s : State), opticalUp s = true ∧ s.hif.optical = .identified ∧ e2Up s = true) ∧
    (∃ (s : State), opticalUp s = true ∧ s.hif.optical = .identified) ∧
    (∃ (s : State), opticalUp s = true ∧ s.hif.optical = .identified) ∧
    (∃ (s : State), s.hif.optical ≠ .signOn ∧ s.hif.optAt + (if s.hif.optical = .frame then 61440 else 1536) ≤ s.sup.mono) :=
  ⟨⟨hifW [(F.HIF_UART_CFG_MODE 3, 1)], [0x2F, 0x3F, 0x21, 0x0D, 0x0A], by decide⟩,
    ⟨{ hifW [(F.HIF_UART_CFG_MODE 3, 1)] with hif := { optical := .identified } }, [0x06], by decide⟩,
    ⟨hifW [(F.HIF_UART_CFG_MODE 3, 1)], [0x2F, 0x3F, 0x31, 0x21], by decide⟩,
    ⟨{ hifW [] with hif := { optical := .identified } }, [0x06], by decide⟩,
    ⟨{ hifW [] with hif := { optical := .frame, optAt := 8561 } }, by decide⟩,
    ⟨{ hifW [(F.HIF_UART_CFG_MODE 3, 1)] with hif := { optical := .identified }, sup := { mode := .running, quarantined := 4 } }, by decide⟩,
    ⟨hifW [(F.HIF_UART_CFG_BAUD 3, 3)], by decide⟩,
    ⟨{ hifW [(F.HIF_UART_CFG_MODE 3, 1)] with hif := { optical := .identified } }, by decide⟩,
    ⟨{ hifW [(F.HIF_UART_CFG_MODE 3, 1)] with hif := { optical := .identified } }, by decide⟩,
    ⟨{ hifW [(F.HIF_UART_CFG_MODE 3, 1)] with hif := { optical := .identified } }, by decide⟩,
    ⟨{ hifW [(F.HIF_STATUS_OPT_FRAME, 1)] with hif := { optical := .frame, optAt := 8560 } }, by decide⟩⟩

/-- Each clause of `ClaimsAndTimers` has a state and operands that meet its hypotheses. -/
theorem wit_ClaimsAndTimers :
    (∃ (s : State) (m : Master) (w : Word) (n : Nat), Writable m R.PIN_CLAIM s ∧ (arg F.PIN_CLAIM_KIND w = 0 ∧ arg F.PIN_CLAIM_GO w = 1) ∧ (arg F.PIN_CLAIM_INDEX w = n ∧ n < 80) ∧ arg F.PIN_CLAIM_FUNC w = 1 ∧ 1 ≤ arg F.PIN_CLAIM_OWNER w ∧ get (F.PIN_PAD_FUNC n) s = 0) ∧
    (∃ (s : State) (m : Master) (w : Word) (n : Nat), Writable m R.PIN_CLAIM s ∧ domOn 5 s = true ∧ (arg F.PIN_CLAIM_KIND w = 1 ∧ arg F.PIN_CLAIM_GO w = 1) ∧ (arg F.PIN_CLAIM_INDEX w = n ∧ n < 8) ∧ 1 ≤ arg F.PIN_CLAIM_OWNER w ∧ get (F.TIM_CTL_OWNER n) s = 0) ∧
    (∃ (s : State) (m : Master) (w : Word) (n k : Nat), Writable m R.PIN_CLAIM s ∧ (arg F.PIN_CLAIM_KIND w = 0 ∧ arg F.PIN_CLAIM_GO w = 1) ∧ (arg F.PIN_CLAIM_INDEX w = n ∧ n = 0x30 + k ∧ k < 8) ∧ arg F.PIN_CLAIM_FUNC w = 15 ∧ 1 ≤ arg F.PIN_CLAIM_OWNER w ∧ (get (F.PIN_PAD_FUNC n) s = 9 ∧ get (F.PIN_PAD_SHARED n) s = 0)) ∧
    (∃ (s : State) (m : Master) (w : Word), Writable m R.PIN_CLAIM s ∧ domOn 5 s = true ∧ arg F.PIN_CLAIM_GO w = 1 ∧ ((arg F.PIN_CLAIM_KIND w = 0 ∧ get (F.PIN_PAD_FUNC (arg F.PIN_CLAIM_INDEX w)) s ≠ 0 ∧ get (F.PIN_PAD_FUNC (arg F.PIN_CLAIM_INDEX w)) s ≠ 9) ∨ (arg F.PIN_CLAIM_KIND w = 0 ∧ arg F.PIN_CLAIM_FUNC w = 9) ∨ (arg F.PIN_CLAIM_KIND w = 1 ∧ get (F.TIM_CTL_OWNER (arg F.PIN_CLAIM_INDEX w)) s ≠ 0) ∨ arg F.PIN_CLAIM_OWNER w = 0)) ∧
    (∃ (s : State) (m : Master) (w : Word) (n : Nat), s.Inv ∧ Writable m R.PIN_CLAIM s ∧ (arg F.PIN_CLAIM_KIND w = 0 ∧ arg F.PIN_CLAIM_GO w = 0 ∧ arg F.PIN_CLAIM_RELEASE w = 1) ∧ (arg F.PIN_CLAIM_INDEX w = n ∧ n < 80) ∧ s.hif.runPads.contains n = true ∧ get (F.PIN_PAD_SHARED n) s = 0) ∧
    (∃ (s : State) (m : Master) (w : Word) (n : Nat), s.Inv ∧ Writable m R.PIN_CLAIM s ∧ domOn 5 s = true ∧ (arg F.PIN_CLAIM_KIND w = 1 ∧ arg F.PIN_CLAIM_GO w = 0 ∧ arg F.PIN_CLAIM_RELEASE w = 1) ∧ (arg F.PIN_CLAIM_INDEX w = n ∧ n < 8) ∧ s.hif.runTims.contains n = true) ∧
    (∃ (s : State) (m : Master) (w : Word) (n : Nat), s.Inv ∧ Writable m R.PIN_CLAIM s ∧ (arg F.PIN_CLAIM_KIND w = 0 ∧ arg F.PIN_CLAIM_GO w = 0 ∧ arg F.PIN_CLAIM_RELEASE w = 1) ∧ (arg F.PIN_CLAIM_INDEX w = n ∧ n < 80) ∧ s.hif.runPads.contains n = true ∧ get (F.PIN_PAD_SHARED n) s = 1) ∧
    (∃ (s : State) (m : Master) (w : Word), Writable m R.PIN_CLAIM s ∧ arg F.PIN_CLAIM_GO w = 0 ∧ (arg F.PIN_CLAIM_RELEASE w = 0 ∨ (arg F.PIN_CLAIM_KIND w = 0 ∧ s.hif.runPads.contains (arg F.PIN_CLAIM_INDEX w) = false) ∨ (arg F.PIN_CLAIM_KIND w = 1 ∧ (domOn 5 s = false ∨ s.hif.runTims.contains (arg F.PIN_CLAIM_INDEX w) = false)))) ∧
    (∃ (s : State) (n cnt : Nat) (r : Bool), counting n s = false) ∧
    (∃ (s : State) (m : Master) (n : Nat) (w : Word), n < 8 ∧ Writable m (R.TIM_CTL n) s ∧ (1 ≤ arg (F.TIM_CTL_MODE n) w ∧ arg (F.TIM_CTL_MODE n) w ≤ 4) ∧ (arg (F.TIM_CTL_START n) w = 1 ∧ arg (F.TIM_CTL_STOP n) w = 0)) ∧
    (∃ (s : State) (m : Master) (n : Nat) (w : Word), s.Inv ∧ n < 8 ∧ Writable m (R.TIM_CTL n) s ∧ arg (F.TIM_CTL_STOP n) w = 1 ∧ flag (F.TIM_CTL_RUN n) s = true) ∧
    (∃ (s : State) (n cnt : Nat), counting n s = true ∧ cnt = get (F.TIM_CMP_CMP n) s ∧ (get (F.TIM_CTL_MODE n) s ≠ 1 ∨ cnt ≠ get (F.TIM_LOAD_LOAD n) s)) ∧
    (∃ (s : State) (n cnt : Nat), counting n s = true ∧ (cnt = get (F.TIM_LOAD_LOAD n) s ∧ cnt ≠ get (F.TIM_CMP_CMP n) s) ∧ get (F.TIM_CTL_MODE n) s = 1) ∧
    (∃ (s : State) (n : Nat) (r : Bool), s.Inv ∧ counting n s = true ∧ get (F.TIM_CTL_MODE n) s = 4 ∧ bit (get (F.TIM_CTL_EDGE n) s) (if r then 0 else 1) = true) :=
  ⟨⟨st [(F.PMU_DOM_STATUS_ON, 0x7FF)], .engine 2, wd [(F.PIN_CLAIM_INDEX, 79), (F.PIN_CLAIM_FUNC, 1), (F.PIN_CLAIM_OWNER, 3), (F.PIN_CLAIM_GO, 1)], 79, by decide⟩,
    ⟨st [(F.PMU_DOM_STATUS_ON, 0x7FF)], .engine 2, wd [(F.PIN_CLAIM_INDEX, 7), (F.PIN_CLAIM_KIND, 1), (F.PIN_CLAIM_OWNER, 3), (F.PIN_CLAIM_GO, 1)], 7, by decide⟩,
    ⟨st [(F.PMU_DOM_STATUS_ON, 0x7FF), (F.PIN_PAD_FUNC 0x37, 9)], .engine 2, wd [(F.PIN_CLAIM_INDEX, 0x37), (F.PIN_CLAIM_FUNC, 15), (F.PIN_CLAIM_OWNER, 2), (F.PIN_CLAIM_GO, 1)], 0x37, 7, by decide⟩,
    ⟨st [(F.PMU_DOM_STATUS_ON, 0x7FF), (F.PIN_PAD_FUNC 2, 2)], .engine 2, wd [(F.PIN_CLAIM_INDEX, 2), (F.PIN_CLAIM_FUNC, 1), (F.PIN_CLAIM_OWNER, 2), (F.PIN_CLAIM_GO, 1)], by decide⟩,
    ⟨{ st [(F.PMU_DOM_STATUS_ON, 0x7FF), (F.PIN_PAD_FUNC 79, 1), (F.PIN_PAD_OWNER 79, 3)] with hif := { runPads := [79, 3] } }, .engine 2, wd [(F.PIN_CLAIM_INDEX, 79), (F.PIN_CLAIM_RELEASE, 1)], 79, by decide⟩,
    ⟨{ st [(F.PMU_DOM_STATUS_ON, 0x7FF), (F.TIM_CTL_OWNER 7, 3)] with hif := { runTims := [7] } }, .engine 2, wd [(F.PIN_CLAIM_INDEX, 7), (F.PIN_CLAIM_KIND, 1), (F.PIN_CLAIM_RELEASE, 1)], 7, by decide⟩,
    ⟨{ st [(F.PMU_DOM_STATUS_ON, 0x7FF), (F.PIN_PAD_FUNC 0x37, 9), (F.PIN_PAD_SHARED 0x37, 1)] with hif := { runPads := [0x37] } }, .engine 2, wd [(F.PIN_CLAIM_INDEX, 0x37), (F.PIN_CLAIM_RELEASE, 1)], 0x37, by decide⟩,
    ⟨st [(F.PMU_DOM_STATUS_ON, 0x7FF), (F.PIN_PAD_FUNC 3, 1)], .engine 2, wd [(F.PIN_CLAIM_INDEX, 3), (F.PIN_CLAIM_RELEASE, 1)], by decide⟩,
    ⟨st [(F.PMU_DOM_STATUS_ON, 0x7FF), (F.TIM_CTL_OWNER 7, 2)], 7, 0, true, by decide⟩,
    ⟨st [(F.PMU_DOM_STATUS_ON, 0x7FF), (F.TIM_CTL_OWNER 7, 2), (F.TIM_CNT_CNT 7, 9)], .engine 2, 7, wd [(F.TIM_CTL_MODE 7, 4), (F.TIM_CTL_START 7, 1), (F.TIM_CTL_PRE 7, 15), (F.TIM_CTL_EDGE 7, 3)], by decide⟩,
    ⟨st [(F.PMU_DOM_STATUS_ON, 0x7FF), (F.TIM_CTL_OWNER 0, 2), (F.TIM_CTL_RUN 0, 1), (F.TIM_LOAD_LOAD 0, 5)], .engine 2, 0, wd [(F.TIM_CTL_MODE 0, 2), (F.TIM_CTL_STOP 0, 1), (F.TIM_CTL_START 0, 1)], by decide⟩,
    ⟨st [(F.PMU_DOM_STATUS_ON, 0x7FF), (F.TIM_CTL_RUN 7, 1), (F.TIM_CMP_CMP 7, 5), (F.TIM_LOAD_LOAD 7, 9), (F.TIM_CTL_MODE 7, 2)], 7, 5, by decide⟩,
    ⟨st [(F.PMU_DOM_STATUS_ON, 0x7FF), (F.TIM_CTL_RUN 7, 1), (F.TIM_CMP_CMP 7, 5), (F.TIM_LOAD_LOAD 7, 9), (F.TIM_CTL_MODE 7, 1)], 7, 9, by decide⟩,
    ⟨st [(F.PMU_DOM_STATUS_ON, 0x7FF), (F.TIM_CTL_RUN 7, 1), (F.TIM_CTL_MODE 7, 4), (F.TIM_CTL_EDGE 7, 2), (F.TIM_LOAD_LOAD 7, 9)], 7, false, by decide⟩⟩

/-! The statements on the step and on access: states and operands for their hypotheses. -/

theorem wit_StepRunsFrontCommand : ∃ (s : State) (c : Instr) (rest : List Instr), s.pending = c :: rest :=
  ⟨{ pending := [.frameNumRead .spi] }, _, _, rfl⟩

theorem wit_StepIdlesOnEmptyQueue : ∃ s : State, s.pending = [] := ⟨State.reset, rfl⟩

theorem wit_StepKeepsInv : ∃ s t : State, s.Inv ∧ s.pending ≠ [] ∧ step s = .next t :=
  ⟨{ pending := [.frameNumRead .spi] }, _, by decide, by decide, rfl⟩

theorem wit_StepKeepsOtp : ∃ s t : State, s.pending ≠ [] ∧ step s = .next t := ⟨{ pending := [.frameNumRead .spi] }, _, by decide, rfl⟩

theorem wit_OffDomainAccess :
    (∃ (c : Instr) (m : Master) (a : Nat) (s : State), writeOf c = some (m, a) ∧ domOn (blockDom (blockOf a)) s = false) ∧
    (∃ (c : Instr) (m : Master) (a : Nat) (s : State), readOf c = some (m, a) ∧ domOn (blockDom (blockOf a)) s = false) ∧
    (∃ (a : Nat) (s : State), inRegs a = true ∧ a % 4 = 0 ∧ domOn (blockDom (blockOf a)) s = false) ∧
    (∃ s : State, s.Inv ∧ s.sup.bfLive = 0xFFFF) :=
  ⟨⟨.profileStage .spi 0, _, _, {}, rfl, by decide⟩, ⟨.frameNumRead .spi, _, _, {}, rfl, by decide⟩,
    ⟨R.UPD_CTL, {}, by decide⟩, ⟨{ sup := { bfLive := 0xFFFF } }, by decide, rfl⟩⟩

theorem wit_DeniedWrite :
    (∃ (c : Instr) (m : Master) (a : Nat) (s : State), writeOf c = some (m, a) ∧ domOn (blockDom (blockOf a)) s = true ∧
      mayWrite m a s = false ∧ isHost m = true) ∧
    (∃ (m : Master) (a : Nat) (s : State), inRegs a = true ∧ a % 4 = 0 ∧ domOn (blockDom (blockOf a)) s = true ∧
      mayWrite m a s = false ∧ isHost m = false) :=
  ⟨⟨.profileStage .spi 0, _, _, st [(F.PMU_DOM_STATUS_ON, 0x7FF)], rfl, by decide, by decide, by decide⟩,
    ⟨.engine 3, R.UPD_CTL, st [(F.PMU_DOM_STATUS_ON, 0x7FF)], by decide⟩⟩

theorem wit_ProfileControlOwner : ∃ (m : Master) (s : State), m ≠ .engine 2 ∧ domOn 2 s = true ∧ isHost m = true :=
  ⟨.spi, st [(F.PMU_DOM_STATUS_ON, 0x7FF)], by decide⟩

theorem wit_UpdateControlOwner :
    (∃ (m : Master) (s : State), domOn 5 s = true ∧ mayWrite m R.UPD_CTL s = false ∧ isHost m = true) ∧
    (∃ (m : Master) (s : State), domOn 5 s = true ∧ m ≠ .engine 2) :=
  ⟨⟨.spi, st [(F.PMU_DOM_STATUS_ON, 0x7FF)], by decide⟩, ⟨.engine 1, st [(F.PMU_DOM_STATUS_ON, 0x7FF)], by decide⟩⟩

end Sys2Proof.Machine
end

section
/-! SUPPORT. What one step can do, from the lemma of each command: the canonical form, the queue and the OTP are kept (O5, O6). -/
namespace Sys2Proof.Machine

/-- Every command answers a next state, and keeps the canonical form, the queue and the identity OTP: one lemma per command. -/
theorem exec_kept (s : State) : ∀ c : Instr, KeptOut s (exec c s)
  | .startUp _ => execStartUp_kept (.refl s)
  | .sectionRetry _ _ => execSectionRetry_kept (.refl s)
  | .imageVerify _ => execImageVerify_kept (.refl s)
  | .tamperEvaluation => execTamperEvaluation_kept (.refl s)
  | .guardRelease => execGuardRelease_kept (.refl s)
  | .reread _ _ _ => execReread_kept (.refl s)
  | .rereadPassOneDone _ => execRereadPassOneDone_kept (.refl s)
  | .coherentSample _ => execCoherentSample_kept (.refl s)
  | .halfCycleBoundary => execHalfCycleBoundary_kept (.refl s)
  | .cycleEnd => execCycleEnd_kept (.refl s)
  | .frameBoundary => execFrameBoundary_kept (.refl s)
  | .profileStage _ _ => execProfileStage_kept (.refl s)
  | .e7Ready => execE7Ready_kept (.refl s)
  | .reliefTime => execReliefTime_kept (.refl s)
  | .relieveNow _ _ => execRelieveNow_kept (.refl s)
  | .spliceWindowClose => execSpliceWindowClose_kept (.refl s)
  | .sliceOffsetDone _ => execSliceOffsetDone_kept (.refl s)
  | .sliceCalibration _ _ => execSliceCalibration_kept (.refl s)
  | .overloadMonitor _ => execOverloadMonitor_kept (.refl s)
  | .tapCfgWrite _ _ => execTapCfgWrite_kept (.refl s)
  | .tapSample _ _ => execTapSample_kept (.refl s)
  | .tapDataRead _ => execTapDataRead_kept (.refl s)
  | .sarResult _ _ => execSarResult_kept (.refl s)
  | .tempEvaluation => execTempEvaluation_kept (.refl s)
  | .tempDisagree => execTempDisagree_kept (.refl s)
  | .calCommit _ _ => execCalCommit_kept (.refl s)
  | .calWindowStart _ _ => execCalWindowStart_kept (.refl s)
  | .calWindowEnd _ => execCalWindowEnd_kept (.refl s)
  | .chainStop _ _ => execChainStop_kept (.refl s)
  | .chainRestart _ _ => execChainRestart_kept (.refl s)
  | .refSwitch => execRefSwitch_kept (.refl s)
  | .refReturn => execRefReturn_kept (.refl s)
  | .winTrip _ _ => execWinTrip_kept (.refl s)
  | .winRelease _ => execWinRelease_kept (.refl s)
  | .winCfgWrite _ _ _ => execWinCfgWrite_kept (.refl s)
  | .imbalance => execImbalance_kept (.refl s)
  | .reverseEnergy _ => execReverseEnergy_kept (.refl s)
  | .vddMonitorTrip => execVddMonitorTrip_kept (.refl s)
  | .resetNLow _ => execResetNLow_kept (.refl s)
  | .freezeRestart _ => execFreezeRestart_kept (.refl s)
  | .vddBelow2v3 => execVddBelow2v3_kept (.refl s)
  | .d0BrownOut => execD0BrownOut_kept (.refl s)
  | .vbatLow => execVbatLow_kept (.refl s)
  | .pulseEdge _ => execPulseEdge_kept (.refl s)
  | .pulseEnd _ => execPulseEnd_kept (.refl s)
  | .spectrumPublish => execSpectrumPublish_kept (.refl s)
  | .aggregateClose => execAggregateClose_kept (.refl s)
  | .shBlock _ => execShBlock_kept (.refl s)
  | .evtPop _ _ => execEvtPop_kept (.refl s)
  | .captureArm _ _ => execCaptureArm_kept (.refl s)
  | .captureForce _ _ => execCaptureForce_kept (.refl s)
  | .captureAbort _ _ => execCaptureAbort_kept (.refl s)
  | .captureDone => execCaptureDone_kept (.refl s)
  | .captureSlotFree _ _ => execCaptureSlotFree_kept (.refl s)
  | .capCfgWrite _ _ => execCapCfgWrite_kept (.refl s)
  | .rtcSecond => execRtcSecond_kept (.refl s)
  | .closeRequest _ _ => execCloseRequest_kept (.refl s)
  | .adjRequest _ _ _ _ => execAdjRequest_kept (.refl s)
  | .tickCatchUp => execTickCatchUp_kept (.refl s)
  | .ecRequest _ _ => execEcRequest_kept (.refl s)
  | .tokenSubmit _ _ => execTokenSubmit_kept (.refl s)
  | .tokenDecodeDone => execTokenDecodeDone_kept (.refl s)
  | .keySectionsExpire => execKeySectionsExpire_kept (.refl s)
  | .remoteCredit _ _ _ => execRemoteCredit_kept (.refl s)
  | .mplTrip => execMplTrip_kept (.refl s)
  | .mplRelease => execMplRelease_kept (.refl s)
  | .remoteOpen _ _ => execRemoteOpen_kept (.refl s)
  | .remoteClose _ _ => execRemoteClose_kept (.refl s)
  | .lcShed _ _ => execLcShed_kept (.refl s)
  | .lcRestore _ _ => execLcRestore_kept (.refl s)
  | .mainPulseStart => execMainPulseStart_kept (.refl s)
  | .mainPulseEnd => execMainPulseEnd_kept (.refl s)
  | .mainVerify _ => execMainVerify_kept (.refl s)
  | .mainRetry => execMainRetry_kept (.refl s)
  | .loadv _ => execLoadv_kept (.refl s)
  | .openI _ => execOpenI_kept (.refl s)
  | .freezeRelease => execFreezeRelease_kept (.refl s)
  | .lcSwitch => execLcSwitch_kept (.refl s)
  | .periodicStoreTick => execPeriodicStoreTick_kept (.refl s)
  | .storeCommand _ _ => execStoreCommand_kept (.refl s)
  | .storeCommit _ => execStoreCommit_kept (.refl s)
  | .recall _ => execRecall_kept (.refl s)
  | .recallDone => execRecallDone_kept (.refl s)
  | .tieReport _ _ => execTieReport_kept (.refl s)
  | .passwordUnlock _ _ => execPasswordUnlock_kept (.refl s)
  | .passwordLock _ _ => execPasswordLock_kept (.refl s)
  | .grantLapse => execGrantLapse_kept (.refl s)
  | .sessionOpen _ => execSessionOpen_kept (.refl s)
  | .sessionProof _ => execSessionProof_kept (.refl s)
  | .proofTimeout _ => execProofTimeout_kept (.refl s)
  | .sessionClose _ => execSessionClose_kept (.refl s)
  | .objGet _ => execObjGet_kept (.refl s)
  | .objSet _ _ => execObjSet_kept (.refl s)
  | .objAction _ _ => execObjAction_kept (.refl s)
  | .sessionIdleTimeout _ => execSessionIdleTimeout_kept (.refl s)
  | .signDone => execSignDone_kept (.refl s)
  | .calEnRise => execCalEnRise_kept (.refl s)
  | .calEnFall => execCalEnFall_kept (.refl s)
  | .updBegin _ _ => execUpdBegin_kept (.refl s)
  | .eraseDone => execEraseDone_kept (.refl s)
  | .updVerify _ _ => execUpdVerify_kept (.refl s)
  | .verifyDone => execVerifyDone_kept (.refl s)
  | .updActivate _ _ => execUpdActivate_kept (.refl s)
  | .slotSwitch => execSlotSwitch_kept (.refl s)
  | .trialConfirm => execTrialConfirm_kept (.refl s)
  | .updAbort _ _ => execUpdAbort_kept (.refl s)
  | .copyLegal _ _ _ => execCopyLegal_kept (.refl s)
  | .keyInstall => execKeyInstall_kept (.refl s)
  | .keyStage => execKeyStage_kept (.refl s)
  | .keyGenerate => execKeyGenerate_kept (.refl s)
  | .destroyParent => execDestroyParent_kept (.refl s)
  | .revokeChild => execRevokeChild_kept (.refl s)
  | .reseat => execReseat_kept (.refl s)
  | .keyUpdateCommit => execKeyUpdateCommit_kept (.refl s)
  | .attestationRequest _ _ _ _ => execAttestationRequest_kept (.refl s)
  | .certificateRequest _ => execCertificateRequest_kept (.refl s)
  | .remask => execRemask_kept (.refl s)
  | .otpBurn _ _ => execOtpBurn_kept (.refl s)
  | .otpLock _ _ => execOtpLock_kept (.refl s)
  | .otpKill _ _ => execOtpKill_kept (.refl s)
  | .cryptoJob _ => execCryptoJob_kept (.refl s)
  | .cryptoJobDone => execCryptoJobDone_kept (.refl s)
  | .trngSeed _ => execTrngSeed_kept (.refl s)
  | .drbgReseed => execDrbgReseed_kept (.refl s)
  | .tamperTrip _ _ _ => execTamperTrip_kept (.refl s)
  | .tamperRelease _ => execTamperRelease_kept (.refl s)
  | .outageCoverSample _ _ => execOutageCoverSample_kept (.refl s)
  | .quietClear => execQuietClear_kept (.refl s)
  | .tamperClear _ _ => execTamperClear_kept (.refl s)
  | .faultRecordMinute => execFaultRecordMinute_kept (.refl s)
  | .watchdogExpiry _ _ => execWatchdogExpiry_kept (.refl s)
  | .engineRestartDone _ => execEngineRestartDone_kept (.refl s)
  | .coreWait _ => execCoreWait_kept (.refl s)
  | .coreDozeWake _ => execCoreDozeWake_kept (.refl s)
  | .napRequest _ _ => execNapRequest_kept (.refl s)
  | .shipRequest _ _ => execShipRequest_kept (.refl s)
  | .entryAbort _ _ => execEntryAbort_kept (.refl s)
  | .ownerConsent _ => execOwnerConsent_kept (.refl s)
  | .ownerDelayLimit => execOwnerDelayLimit_kept (.refl s)
  | .rtcAlarm _ => execRtcAlarm_kept (.refl s)
  | .napMax _ => execNapMax_kept (.refl s)
  | .opChange _ _ => execOpChange_kept (.refl s)
  | .opDone => execOpDone_kept (.refl s)
  | .xtal32Fail => execXtal32Fail_kept (.refl s)
  | .xtal32Back => execXtal32Back_kept (.refl s)
  | .mpllUnlock => execMpllUnlock_kept (.refl s)
  | .spllUnlock => execSpllUnlock_kept (.refl s)
  | .txFrame _ => execTxFrame_kept (.refl s)
  | .txDone => execTxDone_kept (.refl s)
  | .lbtAccess => execLbtAccess_kept (.refl s)
  | .lbtTimeout => execLbtTimeout_kept (.refl s)
  | .drvFault => execDrvFault_kept (.refl s)
  | .rxFrameDrop => execRxFrameDrop_kept (.refl s)
  | .zeroCrossing => execZeroCrossing_kept (.refl s)
  | .soundingStart _ _ => execSoundingStart_kept (.refl s)
  | .soundingBaseline _ _ => execSoundingBaseline_kept (.refl s)
  | .soundingPeriod => execSoundingPeriod_kept (.refl s)
  | .soundingMediumWon => execSoundingMediumWon_kept (.refl s)
  | .soundingDone _ => execSoundingDone_kept (.refl s)
  | .soundingTimeout => execSoundingTimeout_kept (.refl s)
  | .addrClaim => execAddrClaim_kept (.refl s)
  | .claimTimeout => execClaimTimeout_kept (.refl s)
  | .claimRx _ _ => execClaimRx_kept (.refl s)
  | .conflictRx _ _ => execConflictRx_kept (.refl s)
  | .dataRx _ _ => execDataRx_kept (.refl s)
  | .ackRx _ _ => execAckRx_kept (.refl s)
  | .ackTimeout => execAckTimeout_kept (.refl s)
  | .routeAdvertisement _ _ => execRouteAdvertisement_kept (.refl s)
  | .advertisementTimer => execAdvertisementTimer_kept (.refl s)
  | .routeExpiry => execRouteExpiry_kept (.refl s)
  | .routeRequest _ _ => execRouteRequest_kept (.refl s)
  | .routeReply _ _ => execRouteReply_kept (.refl s)
  | .routeTimeout => execRouteTimeout_kept (.refl s)
  | .neighbourLost => execNeighbourLost_kept (.refl s)
  | .contentionSlot _ _ => execContentionSlot_kept (.refl s)
  | .reassemblyTimeout => execReassemblyTimeout_kept (.refl s)
  | .sessionReq => execSessionReq_kept (.refl s)
  | .sessionRsp => execSessionRsp_kept (.refl s)
  | .creditMsg => execCreditMsg_kept (.refl s)
  | .creditRes => execCreditRes_kept (.refl s)
  | .keyUpdate _ _ => execKeyUpdate_kept (.refl s)
  | .keyRes => execKeyRes_kept (.refl s)
  | .timeMsg => execTimeMsg_kept (.refl s)
  | .alarmMsg => execAlarmMsg_kept (.refl s)
  | .tokenMsg => execTokenMsg_kept (.refl s)
  | .statusMessage => execStatusMessage_kept (.refl s)
  | .statusTimer => execStatusTimer_kept (.refl s)
  | .handoverTimeout => execHandoverTimeout_kept (.refl s)
  | .announceReq _ _ => execAnnounceReq_kept (.refl s)
  | .headSet _ _ => execHeadSet_kept (.refl s)
  | .headClr _ _ => execHeadClr_kept (.refl s)
  | .announcement _ _ => execAnnouncement_kept (.refl s)
  | .planActivation => execPlanActivation_kept (.refl s)
  | .rescueBeacon _ _ => execRescueBeacon_kept (.refl s)
  | .rescueBeaconTimer => execRescueBeaconTimer_kept (.refl s)
  | .rescueListen => execRescueListen_kept (.refl s)
  | .candidateRx _ _ => execCandidateRx_kept (.refl s)
  | .electionEnd => execElectionEnd_kept (.refl s)
  | .superframe => execSuperframe_kept (.refl s)
  | .beaconRx _ _ => execBeaconRx_kept (.refl s)
  | .joinRx _ _ => execJoinRx_kept (.refl s)
  | .assignRx _ _ => execAssignRx_kept (.refl s)
  | .coordinatedModeEnd => execCoordinatedModeEnd_kept (.refl s)
  | .panelOn _ _ => execPanelOn_kept (.refl s)
  | .pumpInRegulation => execPumpInRegulation_kept (.refl s)
  | .panelLight _ _ => execPanelLight_kept (.refl s)
  | .panelOff _ _ => execPanelOff_kept (.refl s)
  | .panelGlow _ _ => execPanelGlow_kept (.refl s)
  | .panelFrameEnd => execPanelFrameEnd_kept (.refl s)
  | .pumpFault _ => execPumpFault_kept (.refl s)
  | .blinkPhase _ => execBlinkPhase_kept (.refl s)
  | .panelRamWrite _ _ _ => execPanelRamWrite_kept (.refl s)
  | .keypadScan _ => execKeypadScan_kept (.refl s)
  | .keyPress _ => execKeyPress_kept (.refl s)
  | .keyRelease _ => execKeyRelease_kept (.refl s)
  | .keypadWake _ => execKeypadWake_kept (.refl s)
  | .kpdEventRead _ => execKpdEventRead_kept (.refl s)
  | .hostFetch _ => execHostFetch_kept (.refl s)
  | .hostRead _ _ _ _ => execHostRead_kept (.refl s)
  | .hostWrite _ _ _ _ => execHostWrite_kept (.refl s)
  | .hostObject _ _ => execHostObject_kept (.refl s)
  | .fabSend _ _ _ => execFabSend_kept (.refl s)
  | .fabRecv _ => execFabRecv_kept (.refl s)
  | .hostWake _ _ => execHostWake_kept (.refl s)
  | .hostStatus _ => execHostStatus_kept (.refl s)
  | .unknownCommand _ _ => execUnknownCommand_kept (.refl s)
  | .responseReady _ => execResponseReady_kept (.refl s)
  | .responseDiscard _ => execResponseDiscard_kept (.refl s)
  | .uartGapTimeout i => execUartGapTimeout_kept (_i := i) (.refl s)
  | .hwakeN _ => execHwakeN_kept (.refl s)
  | .signOn _ => execSignOn_kept (.refl s)
  | .dataReadout => execDataReadout_kept (.refl s)
  | .programmingMode => execProgrammingMode_kept (.refl s)
  | .frameMode => execFrameMode_kept (.refl s)
  | .opticalTimeout => execOpticalTimeout_kept (.refl s)
  | .claimGo _ _ => execClaimGo_kept (.refl s)
  | .claimRelease _ _ => execClaimRelease_kept (.refl s)
  | .timerStart _ _ _ => execTimerStart_kept (.refl s)
  | .timerStop _ _ _ => execTimerStop_kept (.refl s)
  | .timerMatch _ _ => execTimerMatch_kept (.refl s)
  | .timerCapture _ _ => execTimerCapture_kept (.refl s)
  | .frameNumRead _ => execFrameNumRead_kept (.refl s)
  | .accLoRead _ _ => execAccLoRead_kept (.refl s)
  | .bilRegLoRead _ => execBilRegLoRead_kept (.refl s)
  | .payCreditLoRead _ => execPayCreditLoRead_kept (.refl s)
  | .welCtrLoRead _ => execWelCtrLoRead_kept (.refl s)
  | .objReadCtrRead _ => execObjReadCtrRead_kept (.refl s)
  | .rtcSecRead _ => execRtcSecRead_kept (.refl s)
  | .tsFrameRead _ _ => execTsFrameRead_kept (.refl s)
  | .busFaultRead _ => execBusFaultRead_kept (.refl s)
  | .busFaultInfoRead _ => execBusFaultInfoRead_kept (.refl s)
  | .readToClear _ _ _ _ => execReadToClear_kept (.refl s)
  | .registerWrite _ _ _ _ _ => execRegisterWrite_kept (.refl s)
  | .mpllLock => execMpllLock_kept (.refl s)
  | .spllLock => execSpllLock_kept (.refl s)
  | .standbyCalibration => execStandbyCalibration_kept (.refl s)
  | .soundingRepeat => execSoundingRepeat_kept (.refl s)
  | .coordinatedStartUp => execCoordinatedStartUp_kept (.refl s)
  | .preambleDetected _ => execPreambleDetected_kept (.refl s)
  | .blankingRatio _ => execBlankingRatio_kept (.refl s)
  | .legalCopyDone _ => execLegalCopyDone_kept (.refl s)
  | .lcPulseEnd => execLcPulseEnd_kept (.refl s)
  | .debugStart _ => execDebugStart_kept (.refl s)

/-- With no command waiting the block idles (log 6). -/
theorem step_of_pending_nil {s : State} (h : s.pending = []) : step s = .next s := by simp [step, h]

/-- A step runs the front command on the state with the queue's rest. -/
theorem step_of_pending_cons {s : State} {c : Instr} {rest : List Instr} (h : s.pending = c :: rest) :
    step s = exec c { s with pending := rest } := by simp [step, h]

/-- What a step can do: idle, or run the front command on the queue's rest. -/
theorem step_next {s t : State} (h : step s = .next t) :
    t = s ∨ ∃ c rest, s.pending = c :: rest ∧ Kept { s with pending := rest } t := by
  cases hq : s.pending with
  | nil =>
    rw [step_of_pending_nil hq] at h
    cases h
    exact .inl rfl
  | cons c rest =>
    rw [step_of_pending_cons hq] at h
    obtain ⟨u, hu, hk⟩ := exec_kept { s with pending := rest } c
    cases hu.symm.trans h
    exact .inr ⟨c, rest, rfl, hk⟩

/-- Settles O5: the front command keeps the canonical form, on which the queue has no bearing. -/
theorem stepKeepsInv : Obligations.StepKeepsInv := by
  unfold Obligations.StepKeepsInv
  intro s t hs h
  obtain rfl | ⟨_, rest, _, hk⟩ := step_next h
  · exact hs
  · exact hk.inv hs

/-- Settles O6: the meaning of each command answers a next state and leaves the queue alone. -/
theorem everyCommandAnswersNext : Obligations.EveryCommandAnswersNext := by
  unfold Obligations.EveryCommandAnswersNext
  intro c s
  obtain ⟨t, ht, hk⟩ := exec_kept s c
  exact ⟨t, ht, hk.queue⟩

end Sys2Proof.Machine
end

section
/-! SUPPORT. The bus and the registers: a write that is denied (O9), a write by the access codes (O12), the reads with an effect of
their own (O14), and what the registers hold after reset (O3, O4). -/
namespace Sys2Proof.Machine

/-! Accesses of the bus -/

section
variable {m : Master} {a : Nat} {s : State}

/-- A write that the writer rules refuse is dropped; a host learns it. -/
theorem regWrite_of_not_mayWrite (eff : State → State) (hd : domOn (blockDom (blockOf a)) s = true) (hm : mayWrite m a s = false) :
    regWrite m a eff s = denied m s := by simp [regWrite, domReady, hd, hm]

/-- REGISTER_WRITE of such a word is dropped, with status DENIED. -/
theorem writeReg_of_not_mayWrite (w : Word) (wd : World) (hd : domOn (blockDom (blockOf a)) s = true) (hm : mayWrite m a s = false) :
    writeReg m a w wd s = (3, denied m s) := by simp [writeReg, hd, hm]

/-- A word that gets through has the register's own effect. -/
theorem writeReg_of_writable (w : Word) (wd : World) (h : Writable m a s) :
    writeReg m a w wd s = (if (writeEffect m a w wd s).1 then 0 else 3, (writeEffect m a w wd s).2) := by
  simp [writeReg, h.1, h.2]

/-- An aligned word in the register blocks goes to its register. -/
theorem exec_registerWrite_word (w : Word) (wd : World) (hr : inRegs a = true) (ha : a % 4 = 0) :
    exec (.registerWrite m a w .word wd) s = .next (writeReg m a w wd s).2 := by
  simp [exec, execRegisterWrite, badAccess, hr, ha]

/-- Any other access to the register blocks is dropped as a bus fault of KIND 2 (R3). -/
theorem exec_registerWrite_narrow (w : Word) {width : AccessWidth} (wd : World) (hr : inRegs a = true)
    (hb : width ≠ .word ∨ a % 4 ≠ 0) :
    exec (.registerWrite m a w width wd) s = .next (busFault m a (blockDom (blockOf a)) 2 true true s) := by
  have : badAccess a width = true := by simpa [badAccess] using hb
  simp [exec, execRegisterWrite, this, hr]

/-- In a powered domain a register whose value is not free at the read shows its word and has its own effect. -/
theorem readReg_of_domOn (hd : domOn (blockDom (blockOf a)) s = true) (hl : liveWord a s = none) :
    readReg m a s = (shownWord m a s, readEffect m a s) := by simp [readReg, hd, hl]

end

/-- A command that is a write of one register goes over the bus to that register, with some effect. -/
theorem exec_of_writeOf {c : Instr} {m : Master} {a : Nat} (h : writeOf c = some (m, a)) :
    ∃ eff, ∀ s, exec c s = cmdWrite m a eff s := by
  unfold writeOf at h
  split at h <;> cases h <;> exact ⟨_, fun _ => rfl⟩

/-- Settles O9: such a write never reaches its effect. -/
theorem deniedWrite : Obligations.DeniedWrite := by
  unfold Obligations.DeniedWrite
  refine ⟨fun c m a s hc hd hm => ?_, fun m a w wd s hr ha hd hm => ?_⟩
  · obtain ⟨eff, he⟩ := exec_of_writeOf hc
    rw [he, cmdWrite, regWrite_of_not_mayWrite eff hd hm, denied]
  · have h := writeReg_of_not_mayWrite w wd hd hm
    refine ⟨by rw [h], ?_⟩
    rw [exec_registerWrite_word w wd hr ha, h, denied]

/-! Words of registers -/

/-- A field set, bit by bit. -/
theorem getElem_withField (f : Fld) (v : Nat) (w : Word) (hf : f.inWord = true) (i : Nat) (hi : i < 32) :
    (withField f v w)[i] = if f.lo ≤ i ∧ i < f.lo + f.width then v.testBit (i - f.lo) else w[i] := by
  have h := withField_testBit f v w hf i
  simp only [BitVec.testBit_toNat, BitVec.getLsbD_eq_getElem hi] at h
  rw [h]
  grind

/-- The mask of `width` bits from bit `lo`, bit by bit. -/
theorem getElem_fieldMask (lo width i : Nat) (hi : i < 32) :
    (BitVec.ofNat 32 ((2 ^ width - 1) * 2 ^ lo))[i] = decide (lo ≤ i ∧ i < lo + width) := by
  rw [BitVec.getElem_eq_testBit_toNat, BitVec.toNat_ofNat, Nat.testBit_mod_two_pow, Nat.testBit_mul_two_pow,
    Nat.testBit_two_pow_sub_one]
  grind

/-- What a write leaves in each bit of a field, by the field's access code (R5); the other bits stay. -/
theorem getElem_writeField (locked : Bool) (w old : Word) (f : FieldDesc) (i : Nat) (hi : i < 32) :
    (writeField locked w old f)[i] =
      if f.lo ≤ i ∧ i < f.lo + f.width then
        match f.acc with
        | .rw | .rwh => w[i]
        | .w1c => old[i] && !w[i]
        | .lk => if locked then old[i] else w[i]
        | .ro | .wo | .rc => old[i]
      else old[i] := by
  unfold writeField
  by_cases h : f.lo ≤ i ∧ i < f.lo + f.width
  · cases f.acc <;> simp [getElem_fieldMask, h, apply_ite (fun x : Word => x[i])]
  · cases f.acc <;> simp [getElem_fieldMask, h, apply_ite (fun x : Word => x[i])]

/-- Setting a field to 0 is masking it out. -/
theorem withField_zero (f : Fld) (w : Word) (hf : f.inWord = true) :
    withField f 0 w = w &&& ~~~BitVec.ofNat 32 ((2 ^ f.width - 1) * 2 ^ f.lo) := by
  ext i hi
  by_cases h : f.lo ≤ i ∧ i < f.lo + f.width <;> simp [getElem_withField, getElem_fieldMask, hf, h]

/-- A store of a register is a write of the field that is the whole word. -/
theorem wr_eq_put (a : Nat) (v : Word) (s : State) : wr a v s = put ⟨a, 0, 32⟩ v.toNat s := by
  have h : withField ⟨a, 0, 32⟩ v.toNat (rd s a) = v := by
    ext i hi
    rw [getElem_withField _ _ _ rfl i hi, if_pos ⟨Nat.zero_le i, by simpa using hi⟩, BitVec.getElem_eq_testBit_toNat, Nat.sub_zero]
  rw [put, h]

/-- In the canonical form a register reads what was stored in it. -/
theorem rd_wr_same {s : State} (a : Nat) (v : Word) (h : sparseWf (0 : Word) s.regs = true) : rd (wr a v s) a = v :=
  sparseGet_set_same s.regs a v h

/-- Any other register reads as before. -/
theorem rd_wr_other {s : State} {a b : Nat} (v : Word) (h : b ≠ a) : rd (wr a v s) b = rd s b :=
  sparseGet_set_other s.regs v h

/-- In the canonical form a register reads the number stored in it, modulo 2^32. -/
theorem rd_wrNat_same {s : State} (a n : Nat) (h : sparseWf (0 : Word) s.regs = true) : (rd (wrNat a n s) a).toNat = n % 2 ^ 32 := by
  rw [wrNat, rd_wr_same _ _ h, BitVec.toNat_ofNat]

theorem rd_wrNat_other {s : State} {a b : Nat} (n : Nat) (h : b ≠ a) : rd (wrNat a n s) b = rd s b := rd_wr_other _ h

/-- In the canonical form a field reads what it was set to. -/
theorem get_put_same {f : Fld} {s : State} (v : Nat) (h : sparseWf (0 : Word) s.regs = true) (hf : f.inWord = true) :
    get f (put f v s) = v % 2 ^ f.width := rget_rput_same f v s.regs h hf

/-- A whole register stored. -/
theorem Chain.wr {L : List Fld} {u t : State} {a : Nat} {v : Word} (h : Chain L u t) (ha : ⟨a, 0, 32⟩ ∈ L) :
    Chain L u (wr a v t) := by
  rw [wr_eq_put]
  exact h.put ha (by simp [Fld.inWord])

/-- A register stored again as it stands. -/
theorem Chain.wr_rd {L : List Fld} {u t : State} {a : Nat} (h : Chain L u t) : Chain L u (Machine.wr a (rd t a) t) where
  only := by
    refine ⟨?_, fun g hg => ?_⟩
    · conv_lhs => rw [h.only.1]
      rfl
    · have : rd (Machine.wr a (rd t a) t) g.addr = rd t g.addr := by
        by_cases e : g.addr = a
        · rw [e, rd_wr_same _ _ h.wf]
        · rw [rd_wr_other _ e]
      rw [get, this]
      exact h.only.2 g hg
  wf := sparseSet_wf _ _ _ h.wf

/-! REGISTER_WRITE of a register without an effect of its own -/

/-- `SPE_PQ_THR` takes the whole word: its four RW fields fill it. -/
theorem writtenWord_SPE_PQ_THR (w : Word) (s : State) : writtenWord R.SPE_PQ_THR w s = w := by
  have hd : writtenWord R.SPE_PQ_THR w s =
      [⟨0, 8, .rw⟩, ⟨8, 8, .rw⟩, ⟨16, 8, .rw⟩, ⟨24, 8, .rw⟩].foldl (writeField s.ld.locked w) (rd s R.SPE_PQ_THR) := rfl
  rw [hd]
  ext i hi
  simp only [List.foldl_cons, List.foldl_nil, getElem_writeField]
  grind

/-- `PAY_CAUSE` loses the causes written as 1: its eleven bits are W1C. -/
theorem writtenWord_PAY_CAUSE (w : Word) (s : State) :
    writtenWord R.PAY_CAUSE w s = rd s R.PAY_CAUSE &&& ~~~(w &&& 0x7FF#32) := by
  have hd : writtenWord R.PAY_CAUSE w s =
      [⟨0, 4, .w1c⟩, ⟨4, 1, .w1c⟩, ⟨5, 1, .w1c⟩, ⟨6, 1, .w1c⟩, ⟨7, 1, .w1c⟩, ⟨8, 1, .w1c⟩, ⟨9, 1, .w1c⟩, ⟨10, 1, .w1c⟩].foldl
        (writeField s.ld.locked w) (rd s R.PAY_CAUSE) := rfl
  have hm : 0x7FF#32 = BitVec.ofNat 32 ((2 ^ 11 - 1) * 2 ^ 0) := by decide
  rw [hd, hm]
  ext i hi
  simp only [List.foldl_cons, List.foldl_nil, getElem_writeField, BitVec.getElem_and, BitVec.getElem_not, getElem_fieldMask]
  grind

/-- `CNV_PLAUS_LIM_0` keeps its word once the image has been loaded: its two fields are LK. -/
theorem writtenWord_CNV_PLAUS_LIM_0 (w : Word) (s : State) (h : s.ld.locked = true) :
    writtenWord R.CNV_PLAUS_LIM_0 w s = rd s R.CNV_PLAUS_LIM_0 := by
  have hd : writtenWord R.CNV_PLAUS_LIM_0 w s =
      [⟨0, 11, .lk⟩, ⟨16, 10, .lk⟩].foldl (writeField s.ld.locked w) (rd s R.CNV_PLAUS_LIM_0) := rfl
  simp [hd, writeField, h]

/-- A write that gets through to a register without an effect of its own goes by the access codes alone. -/
theorem exec_registerWrite_plain {m : Master} {a : Nat} {s : State} (w : Word) (wd : World) (hr : inRegs a = true) (ha : a % 4 = 0)
    (h : Writable m a s) (he : writeEffect m a w wd s = (true, plainWrite a w s)) :
    exec (.registerWrite m a w .word wd) s = .next (plainWrite a w s) := by
  rw [exec_registerWrite_word w wd hr ha, writeReg_of_writable w wd h, he]

/-- Settles O12: the first three registers have no effect of their own, so their access codes decide; R3 drops a narrow access. -/
theorem registerWriteAccess : Obligations.RegisterWriteAccess := by
  unfold Obligations.RegisterWriteAccess
  refine ⟨fun s w wd hs hd => ?_, fun s m w wd hs hd hm => ?_, fun s w wd hs hd hl => ?_, fun s m a w width wd hr hb => ?_⟩
  · refine ⟨_, exec_registerWrite_plain w wd rfl rfl ⟨hd, rfl⟩ rfl, ?_, ?_⟩
    · rw [plainWrite, rd_wr_same _ _ hs.1, writtenWord_SPE_PQ_THR]
    · exact ((Chain.start hs.1).wr (by simp)).only
  · have hw : mayWrite m R.PAY_CAUSE s = true := by obtain rfl | rfl := hm <;> rfl
    refine ⟨_, exec_registerWrite_plain w wd rfl rfl ⟨hd, hw⟩ rfl, ?_, ?_⟩
    · rw [plainWrite, rd_wr_same _ _ hs.1, writtenWord_PAY_CAUSE]
    · exact ((Chain.start hs.1).wr (by simp)).only
  · have hp : plainWrite R.CNV_PLAUS_LIM_0 w s = wr R.CNV_PLAUS_LIM_0 (rd s R.CNV_PLAUS_LIM_0) s := by
      rw [plainWrite, writtenWord_CNV_PLAUS_LIM_0 w s hl]
    refine ⟨_, exec_registerWrite_plain w wd rfl rfl ⟨hd, rfl⟩ rfl, ?_, ?_⟩
    · rw [hp, rd_wr_same _ _ hs.1]
    · rw [hp]
      exact (Chain.start hs.1).wr_rd.only
  · exact exec_registerWrite_narrow w wd hr hb

/-! Reads -/

/-- Registers of different blocks are different. -/
theorem ne_of_blockOf {a b : Nat} (h : blockOf a ≠ blockOf b) : a ≠ b := fun e => h (e ▸ rfl)

/-- A family's register `l` is its `l`th. -/
theorem indexAt_member {base step n l : Nat} (hl : l < n) (hs : 0 < step) : indexAt base step n (base + step * l) = some l := by
  have h : step * l < step * n := Nat.mul_lt_mul_of_pos_left hl hs
  rw [indexAt, if_pos ⟨by omega, by omega, by simp⟩]
  simp [hs]

/-- An address outside a family's range is none of its registers. -/
theorem indexAt_outside {base step n a : Nat} (h : a < base ∨ base + step * n ≤ a) : indexAt base step n a = none :=
  if_neg (by omega)

section
variable {l : Nat} (m : Master) (s : State)

theorem EVF_TS_FRAME_lt (hl : l < 64) : R.EVF_TS_FRAME l < 0x40041400 := by
  unfold R.EVF_TS_FRAME
  omega

theorem blockOf_EVF_TS_FRAME (hl : l < 64) : blockOf (R.EVF_TS_FRAME l) = 4 := by
  unfold blockOf R.EVF_TS_FRAME
  omega

theorem EVF_TS_FRAME_ne (hl : l < 64) (b : Nat) (hb : 4 ≠ blockOf b) : R.EVF_TS_FRAME l ≠ b :=
  ne_of_blockOf (by rwa [blockOf_EVF_TS_FRAME hl])

/-- A timestamp's frame number stands in its register, and a read of it latches the rest. -/
theorem readReg_EVF_TS_FRAME (hl : l < 64) (hd : domOn 0 s = true) :
    readReg m (R.EVF_TS_FRAME l) s = (rd s (R.EVF_TS_FRAME l), readTsFrame l s) := by
  have hlive : liveWord (R.EVF_TS_FRAME l) s = none := by
    have hlt := EVF_TS_FRAME_lt hl
    rw [liveWord, indexAt_outside (.inl (hlt.trans_le (by decide))), indexAt_outside (.inl (hlt.trans_le (by decide)))]
    exact if_neg (EVF_TS_FRAME_ne hl _ (by decide))
  have hshown : shownWord m (R.EVF_TS_FRAME l) s = rd s (R.EVF_TS_FRAME l) := by
    unfold shownWord
    iterate 7 refine (if_neg (EVF_TS_FRAME_ne hl _ (by decide))).trans ?_
    rfl
  have heffect : readEffect m (R.EVF_TS_FRAME l) s = readTsFrame l s := by
    unfold readEffect
    iterate 10 refine (if_neg (EVF_TS_FRAME_ne hl _ (by decide))).trans ?_
    rw [indexAt_outside (.inl ((EVF_TS_FRAME_lt hl).trans_le (by decide))), indexAt_member hl (by decide)]
  have hdom : domOn (blockDom (blockOf (R.EVF_TS_FRAME l))) s = true := by rw [blockOf_EVF_TS_FRAME hl]; exact hd
  rw [readReg_of_domOn hdom hlive, hshown, heffect]

end

/-- A read of a register whose word is stored, in a powered domain, answers that word and has the register's own effect `t`. -/
theorem readReg_stored {m : Master} {a : Nat} {s t : State} (hd : domOn (blockDom (blockOf a)) s = true) (hl : liveWord a s = none)
    (hw : shownWord m a s = rd s a) (he : readEffect m a s = t) : readReg m a s = (rd s a, t) := by
  rw [readReg_of_domOn hd hl, hw, he]

/-- The command that reads it answers the state after the read. -/
theorem cmdRead_of_readReg {m : Master} {a : Nat} {v : Word} {s t : State} (h : readReg m a s = (v, t)) : cmdRead m a s = .next t := by
  rw [cmdRead, h]

/-- In the canonical form the latched timestamp reads in full: position and RTC second, and nothing else differs. -/
theorem readTsFrame_latches {l : Nat} {s : State} (hs : sparseWf (0 : Word) s.regs = true) :
    (rd (readTsFrame l s) (R.EVF_TS_POS l)).toNat = (sparseGet (0, 0, 0) s.tamp.tsLive l).2.1 % 2 ^ 32 ∧
    (rd (readTsFrame l s) (R.EVF_TS_RTC l)).toNat = (sparseGet (0, 0, 0) s.tamp.tsLive l).2.2 % 2 ^ 32 ∧
    OnlyFlds [⟨R.EVF_TS_POS l, 0, 32⟩, ⟨R.EVF_TS_RTC l, 0, 32⟩] s (readTsFrame l s) := by
  have hne : R.EVF_TS_RTC l ≠ R.EVF_TS_POS l := by
    unfold R.EVF_TS_RTC R.EVF_TS_POS
    omega
  refine ⟨rd_wrNat_same _ _ (sparseSet_wf _ _ _ hs), ?_, (((Chain.start hs).wr (by simp)).wr (by simp)).only⟩
  rw [readTsFrame, rd_wrNat_other _ hne, rd_wrNat_same _ _ hs]

/-- In the canonical form the latched bus fault reads in full: the newest access below, the live count above. -/
theorem readBusFault_latches {s : State} (hs : sparseWf (0 : Word) s.regs = true) (hi : s.sup.bfInfo < 2 ^ 16)
    (hc : s.sup.bfLive < 2 ^ 16) :
    get F.PMU_BUS_FAULT_INFO_COUNT (readBusFault s) = s.sup.bfLive ∧
    (rd (readBusFault s) R.PMU_BUS_FAULT_INFO).toNat % 2 ^ 16 = s.sup.bfInfo ∧
    OnlyFlds [⟨R.PMU_BUS_FAULT_INFO, 0, 32⟩] { s with sup := { s.sup with bfTaken := false } } (readBusFault s) := by
  have hw : (rd (readBusFault s) R.PMU_BUS_FAULT_INFO).toNat = (s.sup.bfInfo + s.sup.bfLive * 2 ^ 16) % 2 ^ 32 := rd_wrNat_same _ _ hs
  refine ⟨?_, ?_, Chain.only (Chain.wr (.start hs) (by simp))⟩
  · rw [get, fieldOf, hw, Nat.shiftRight_eq_div_pow]
    change _ / 2 ^ 16 % 2 ^ 16 = _
    omega
  · rw [hw]
    omega

/-- Showing the tap's FIFO changes registers alone. -/
theorem showFifo_eq (s : State) : showFifo s = { s with regs := (showFifo s).regs } := by
  simp only [showFifo, put_conv]
  split <;> rfl

/-- A key event that is not acted upon leaves the FIFO and shows in registers alone. -/
theorem popKey_of_not_E2 {m : Master} {s : State} {e : Nat} {l : List Nat} (hf : s.pnl.fifo = e :: l) (hm : m ≠ .engine 2) :
    popKey m s = showKeys { s with pnl := { s.pnl with fifo := l } } := by
  rw [popKey, hf]
  exact if_neg fun h => hm h.1

/-- The read of `SPE_EVT_CTL` clears its RC field, the count of lost records. -/
theorem clearRead_SPE_EVT_CTL (s : State) : clearRead R.SPE_EVT_CTL s = put F.SPE_EVT_CTL_LOST 0 s := by
  rw [put, withField_zero _ _ rfl]
  rfl

/-- Settles O14: each register shows its stored word, and its read has its own latch, removal or clearing. -/
theorem readEffects : Obligations.ReadEffects := by
  unfold Obligations.ReadEffects
  refine ⟨fun s m hs hd => ?_, fun s m l hs hd hl => ?_, fun s m hs hd hi hc => ?_, fun s m hd ht => ?_, fun s m hd => ?_,
    fun s m e l hd hf hm => ?_, fun s m ecc hs hd => ?_⟩
  · have h : readReg m R.SUP_RTC_SEC s = (_, readRtcSec s) := readReg_stored hd rfl rfl rfl
    refine ⟨_, cmdRead_of_readReg h, by rw [h], ?_, ?_⟩
    · exact (get_put_same (s := (fresh s).2) _ hs.1 rfl).trans (Nat.mod_mod _ _)
    · exact Chain.only (Chain.put (.start hs.1) (by simp) rfl)
  · have h := readReg_EVF_TS_FRAME m s hl hd
    refine ⟨_, ?_, by rw [h], readTsFrame_latches hs.1⟩
    simp [exec, execTsFrameRead, onlyIf, hl, h]
  · have h : readReg m R.PMU_BUS_FAULT s = (_, readBusFault s) := readReg_stored hd rfl rfl rfl
    exact ⟨_, cmdRead_of_readReg h, by rw [h], readBusFault_latches hs.1 hi hc⟩
  · have h : readReg m R.PMU_BUS_FAULT_INFO s = (_, readBusInfo s) := readReg_stored hd rfl rfl rfl
    refine ⟨(cmdRead_of_readReg h).trans ?_, by rw [h]⟩
    simp [readBusInfo, ht]
  · have h : readReg m R.CNV_TAP_DATA s = (_, popTap s) := readReg_stored hd rfl rfl rfl
    refine ⟨_, cmdRead_of_readReg h, by rw [h], ?_⟩
    rw [popTap, showFifo_eq]
    exact ⟨rfl, rfl, rfl⟩
  · have h : readReg m R.KPD_EVENT s = (_, popKey m s) := readReg_stored hd rfl rfl rfl
    refine ⟨_, cmdRead_of_readReg h, by rw [h], ?_⟩
    rw [popKey_of_not_E2 hf hm]
    exact ⟨rfl, rfl⟩
  · have h : readReg m R.SPE_EVT_CTL s = (_, put F.SPE_EVT_CTL_LOST 0 s) :=
      readReg_stored hd rfl rfl (clearRead_SPE_EVT_CTL s)
    have he : exec (.readToClear m R.SPE_EVT_CTL .word ecc) s = .next (readReg m R.SPE_EVT_CTL s).2 := rfl
    rw [he, h]
    exact ⟨_, rfl, rfl, get_put_same _ hs.1 rfl, Chain.only (Chain.put (.start hs.1) (by simp) rfl)⟩

/-! After reset -/

/-- Settles O3: the reset state is closed, so its registers are read off. -/
theorem resetValues : Obligations.ResetValues := by
  unfold Obligations.ResetValues
  refine ⟨by decide, by decide, by decide, by decide, by decide, by decide, by decide, by decide, rfl, rfl⟩

/-- Settles O4: the list of reset values rises and holds no 0. -/
theorem resetInv : Obligations.ResetInv := by
  unfold Obligations.ResetInv
  exact ⟨by decide, rfl, rfl⟩

end Sys2Proof.Machine
end

section
/-! SUPPORT. The identity OTP over a step (O7), the owner of `PHE_PROFILE_CTL` (O10), and the reads of a low word that latch the rest
of a wide value (O13). -/
namespace Sys2Proof.Machine

/-- Settles O7: a step idles or runs one command, and every command keeps the OTP. -/
theorem stepKeepsOtp : Obligations.StepKeepsOtp := by
  unfold Obligations.StepKeepsOtp
  intro s t h
  obtain rfl | ⟨_, rest, _, hk⟩ := step_next h
  · exact OtpKept.refl t
  · exact hk.otp

/-! The owner of `PHE_PROFILE_CTL` -/

/-- Of the engines, E2 alone may write `PHE_PROFILE_CTL`: it is no cause or enable register, and in E2's list alone. -/
theorem engineWrites_PHE_PROFILE_CTL (n : Nat) : engineWrites n R.PHE_PROFILE_CTL = true ↔ n = 2 := by
  have hcr : (causeRegs (blockOf R.PHE_PROFILE_CTL)).contains R.PHE_PROFILE_CTL = false := by decide
  have h0 : R.PHE_PROFILE_CTL ≠ R.CIS_REPORT := by decide
  have h1 : e1Only R.PHE_PROFILE_CTL = false := by decide
  have h2 : e2Only R.PHE_PROFILE_CTL = true := by decide
  unfold engineWrites
  simp only [hcr, h0, h1, h2]
  grind

/-- A host's list has no `PHE_PROFILE_CTL`, halted or not (R380). -/
theorem hostWrites_PHE_PROFILE_CTL (s : State) : hostWrites R.PHE_PROFILE_CTL s = false := by
  unfold hostWrites
  split <;> decide

/-- R29: E2 may write `PHE_PROFILE_CTL`, no other master. -/
theorem mayWrite_PHE_PROFILE_CTL (m : Master) (s : State) : mayWrite m R.PHE_PROFILE_CTL s = true ↔ m = .engine 2 := by
  cases m with
  | engine n => exact (engineWrites_PHE_PROFILE_CTL n).trans (by simp)
  | debugPort => exact iff_of_false Bool.false_ne_true nofun
  | spi | i2c | uart =>
    refine iff_of_false (fun h => ?_) nofun
    exact Bool.false_ne_true ((hostWrites_PHE_PROFILE_CTL s).symm.trans h)

/-- Settles O10: the writer rules name E2 alone, and a write they refuse is dropped whichever command makes it. -/
theorem profileControlOwner : Obligations.ProfileControlOwner := by
  unfold Obligations.ProfileControlOwner
  intro m w wd s
  refine ⟨mayWrite_PHE_PROFILE_CTL m s, fun hm hd => ?_⟩
  have hw : mayWrite m R.PHE_PROFILE_CTL s = false := by simpa using mt (mayWrite_PHE_PROFILE_CTL m s).mp hm
  obtain ⟨hcmd, hreg⟩ := deniedWrite
  obtain ⟨hstatus, hwrite⟩ := hreg m R.PHE_PROFILE_CTL w wd s rfl rfl hd hw
  exact ⟨hcmd (.profileStage m w) m R.PHE_PROFILE_CTL s rfl hd hw, hwrite, fun _ => hstatus⟩

/-! Reads by block -/

section
variable {a b : Nat} {s : State}

/-- A register outside the blocks `L` is none of theirs. -/
theorem ne_of_blockOf_notMem {L : List Nat} (h : blockOf a ∉ L) (hb : blockOf b ∈ L) : a ≠ b := fun e => h (e ▸ hb)

/-- A family that lies in one block has no register in another. -/
theorem indexAt_other_block {base step n : Nat} (h0 : 0x40000000 ≤ base) (hlast : blockOf (base + step * n - 1) = blockOf base)
    (h : blockOf a ≠ blockOf base) : indexAt base step n a = none := by
  refine indexAt_outside ?_
  unfold blockOf at *
  omega

/-- Outside TAMP, PIN and TIM no register's value is free at the read. -/
theorem liveWord_of_blockOf (h : blockOf a ∉ [5, 6, 26]) : liveWord a s = none := by
  have hpin : indexAt (R.PIN_GPIO_IN 0) 4 5 a = none :=
    indexAt_other_block (by decide) (by decide) fun e => h (by rw [e]; decide)
  have htim : indexAt (R.TIM_CNT 0) 16 8 a = none :=
    indexAt_other_block (by decide) (by decide) fun e => h (by rw [e]; decide)
  rw [liveWord, hpin, htim]
  exact if_neg (ne_of_blockOf_notMem h (by decide))

/-- Outside INT, SPE, CIS, OBJ, WEL, SEC and FAB a register shows the word it stores. -/
theorem shownWord_of_blockOf (m : Master) (h : blockOf a ∉ [3, 12, 17, 18, 19, 20, 22]) : shownWord m a s = rd s a := by
  unfold shownWord
  iterate 7 refine (if_neg (ne_of_blockOf_notMem h (by decide))).trans ?_
  rfl

end

section
variable {k : Nat} (m : Master) {s : State}

theorem blockOf_NRG_ACC_LO (hk : k < 40) : blockOf (R.NRG_ACC_LO k) = 11 := by
  unfold blockOf R.NRG_ACC_LO
  omega

/-- A read of an accumulator's low word has the family's effect. -/
theorem readEffect_NRG_ACC_LO (hk : k < 40) : readEffect m (R.NRG_ACC_LO k) s = readAccLo k s := by
  have hb : blockOf (R.NRG_ACC_LO k) ∉ [0, 1, 8, 10, 13, 15, 18, 19, 24] := by rw [blockOf_NRG_ACC_LO hk]; decide
  unfold readEffect
  iterate 10 refine (if_neg (ne_of_blockOf_notMem hb (by decide))).trans ?_
  rw [indexAt_member hk (by decide)]

/-- A read of an accumulator's low word answers the stored word and latches the rest. -/
theorem readReg_NRG_ACC_LO (hk : k < 40) (hd : domOn 2 s = true) :
    readReg m (R.NRG_ACC_LO k) s = (rd s (R.NRG_ACC_LO k), readAccLo k s) := by
  have hb := blockOf_NRG_ACC_LO hk
  refine readReg_stored ?_ (liveWord_of_blockOf ?_) (shownWord_of_blockOf m ?_) (readEffect_NRG_ACC_LO m hk)
  · rw [hb]; exact hd
  · rw [hb]; decide
  · rw [hb]; decide

end

/-- In the canonical form the latched accumulator reads in full: its middle and high words, and nothing else differs (R120). -/
theorem readAccLo_latches (k : Nat) {s : State} (hs : sparseWf (0 : Word) s.regs = true) :
    (rd (readAccLo k s) (R.NRG_ACC_MID k)).toNat = nth 0 s.en.accPub k / 2 ^ 64 % 2 ^ 32 ∧
    (rd (readAccLo k s) (R.NRG_ACC_HI k)).toNat = nth 0 s.en.accPub k / 2 ^ 96 % 2 ^ 32 ∧
    OnlyFlds [⟨R.NRG_ACC_MID k, 0, 32⟩, ⟨R.NRG_ACC_HI k, 0, 32⟩] s (readAccLo k s) := by
  have hne : R.NRG_ACC_HI k ≠ R.NRG_ACC_MID k := by
    unfold R.NRG_ACC_HI R.NRG_ACC_MID
    omega
  refine ⟨?_, ?_, (((Chain.start hs).wr (by simp)).wr (by simp)).only⟩
  · rw [readAccLo, rd_wrNat_same _ _ (sparseSet_wf _ _ _ hs), Nat.div_div_eq_div_mul, ← Nat.pow_add]
  · rw [readAccLo, rd_wrNat_other _ hne, rd_wrNat_same _ _ hs, Nat.div_div_eq_div_mul, ← Nat.pow_add]

/-- A high word latched beside a low one reads in full, and nothing else differs. -/
theorem wrNat_latches (a n : Nat) {s : State} (hs : sparseWf (0 : Word) s.regs = true) :
    (rd (wrNat a n s) a).toNat = n % 2 ^ 32 ∧ OnlyFlds [⟨a, 0, 32⟩] s (wrNat a n s) :=
  ⟨rd_wrNat_same a n hs, ((Chain.start hs).wr (by simp)).only⟩

/-- Settles O13: each register shows its stored word, and its read has its own latch and no other effect. -/
theorem readLatches : Obligations.ReadLatches := by
  unfold Obligations.ReadLatches
  refine ⟨fun s m hs hd => ?_, fun s m k hs hd hk => ?_, fun s m hs hd => ?_, fun s m hs hd => ?_, fun s m hs hd => ?_,
    fun s m hs hd => ?_⟩
  · have h : readReg m R.PHE_FRAME_NUM s = (_, readFrameNum s) := readReg_stored hd rfl rfl rfl
    exact ⟨_, cmdRead_of_readReg h, by rw [h], get_put_same _ hs.1 rfl, ((Chain.start hs.1).put (by simp) rfl).only⟩
  · have h := readReg_NRG_ACC_LO m hk hd
    refine ⟨_, ?_, by rw [h], readAccLo_latches k hs.1⟩
    simp [exec, execAccLoRead, onlyIf, hk, h]
  · have h : readReg m R.BIL_REG_LO s = (_, readRegLo s) := readReg_stored hd rfl rfl rfl
    exact ⟨_, cmdRead_of_readReg h, by rw [h], wrNat_latches _ _ hs.1⟩
  · have h : readReg m R.PAY_CREDIT_LO s = (_, readCreditLo s) := readReg_stored hd rfl rfl rfl
    exact ⟨_, cmdRead_of_readReg h, by rw [h], wrNat_latches _ _ hs.1⟩
  · have h : readReg m R.WEL_CTR_LO s = (_, readWellCtr s) := readReg_stored hd rfl rfl rfl
    exact ⟨_, cmdRead_of_readReg h, by rw [h], wrNat_latches _ _ hs.1⟩
  · have h : readReg m R.OBJ_READ_CTR s = (_, readReadCtr s) := readReg_stored hd rfl rfl rfl
    exact ⟨_, cmdRead_of_readReg h, by rw [h], wrNat_latches _ _ hs.1⟩

end Sys2Proof.Machine
end

section
/-! SUPPORT. Profile changes, the conditions of E4 and the pulse outputs (O29). -/
namespace Sys2Proof.Machine

/-! `PHE_PROFILE_CTL` -/

/-- A read-write field takes its bits of the word written. -/
theorem writeField_rw (locked : Bool) (f : Fld) (w old : Word) (hf : f.inWord = true) :
    writeField locked w old ⟨f.lo, f.width, .rw⟩ = withField f (fieldOf f w) old := by
  ext i hi
  rw [getElem_writeField, getElem_withField _ _ _ hf]
  refine ite_congr rfl (fun h => ?_) fun _ => rfl
  rw [fieldOf, Nat.testBit_mod_two_pow, Nat.testBit_shiftRight, BitVec.getElem_eq_testBit_toNat]
  grind

/-- By the access codes a write of `PHE_PROFILE_CTL` sets REQ and nothing else. -/
theorem plainWrite_PHE_PROFILE_CTL (w : Word) (s : State) :
    plainWrite R.PHE_PROFILE_CTL w s = put F.PHE_PROFILE_CTL_REQ (arg F.PHE_PROFILE_CTL_REQ w) s :=
  congrArg (wr R.PHE_PROFILE_CTL · s) (writeField_rw s.ld.locked F.PHE_PROFILE_CTL_REQ w (rd s R.PHE_PROFILE_CTL) rfl)

section
variable {m : Master} {s : State} {w : Word}

/-- A write that gets through has its effect. -/
theorem cmdWrite_of_writable {a : Nat} (eff : State → State) (h : Writable m a s) : cmdWrite m a eff s = .next (eff s) := by
  simp [cmdWrite, regWrite, domReady, h.1, h.2]

/-- In the canonical form a field apart from the one set reads as before. -/
theorem get_put_apart {f g : Fld} (v : Nat) (h : sparseWf (0 : Word) s.regs = true) (hf : f.inWord = true)
    (hd : f.apart g = true) : get g (put f v s) = get g s := rget_rput_apart f g v s.regs h hf hd

/-- In the canonical form a field apart from the cause raised and from `INT_HOST_PEND` reads as before. -/
theorem get_raise_apart {f g : Fld} (h : sparseWf (0 : Word) s.regs = true) (hf : f.inWord = true)
    (hd : f.apart g = true) (hp : F.INT_HOST_PEND_PEND.apart g = true) : get g (raise f s) = get g s := by
  rw [get_eq, raise_regs]
  exact rget_rraise_apart f g 0 s.regs h hf hd hp

/-- A register other than the field's reads as before. -/
theorem rd_put_other {f : Fld} {a : Nat} (v : Nat) (ha : a ≠ f.addr) : rd (put f v s) a = rd s a := sparseGet_rput_other f v s.regs ha

/-- A write of 1 to STAGE with a profile that exists sets REQ and stages it (R22). -/
theorem profileCtlWrite_stage (hr : arg F.PHE_PROFILE_CTL_REQ w ≠ 3) (hst : arg F.PHE_PROFILE_CTL_STAGE w = 1) :
    profileCtlWrite w s = stageProfile (arg F.PHE_PROFILE_CTL_REQ w) (put F.PHE_PROFILE_CTL_REQ (arg F.PHE_PROFILE_CTL_REQ w) s) := by
  simp only [profileCtlWrite, hr, hst, if_true, if_false, plainWrite_PHE_PROFILE_CTL]

/-- In the canonical form a flag apart from the field set reads as before. -/
theorem flag_put_apart {f g : Fld} (v : Nat) (h : sparseWf (0 : Word) s.regs = true) (hf : f.inWord = true)
    (hd : f.apart g = true) : flag g (put f v s) = flag g s := by rw [flag, flag, get_put_apart v h hf hd]

/-- While a change is pending, and before the first valid frame, staging a profile is refused (R22). -/
theorem stageProfile_refused (p : Nat) (h : flag F.PHE_PROFILE_CTL_PENDING s = true ∨ flag F.PHE_FRAME_POS_VALID s = false) :
    stageProfile p s = raise F.PHE_CAUSE_PROFILE_REFUSED s := if_pos (by simpa using h)

end

/-- The fields a write of STAGE may change. -/
def stageFlds : List Fld :=
  [F.PHE_PROFILE_CTL_REQ, F.PHE_PROFILE_CTL_STAGE, F.PHE_PROFILE_CTL_PENDING, F.PHE_PROFILE_ACK_ACK, F.PHE_PROFILE_ACK_MISSING]

/-- What staging profile `p` notes beside the registers (R22, R23). -/
def noteStaged (p : Nat) (s : State) : State :=
  { s with en := { s.en with profTo := p, boundaries := 0, stagedAt := s.metro.clock } }

/-- What staging a profile shows in the registers: pending, with nothing acknowledged or missing yet (R22). -/
def showStaged (s : State) : State := put F.PHE_PROFILE_CTL_PENDING 1 (put F.PHE_PROFILE_ACK_ACK 0 (put F.PHE_PROFILE_ACK_MISSING 0 s))

/-- Staging shows in its own fields alone. -/
theorem showStaged_chain {u t : State} (h : Chain stageFlds u t) : Chain stageFlds u (showStaged t) :=
  ((h.put (by simp [stageFlds]) rfl).put (by simp [stageFlds]) rfl).put (by simp [stageFlds]) rfl

/-- In the canonical form the three fields read what staging shows. -/
theorem get_showStaged {s : State} (hs : sparseWf (0 : Word) s.regs = true) :
    get F.PHE_PROFILE_CTL_PENDING (showStaged s) = 1 ∧ get F.PHE_PROFILE_ACK_ACK (showStaged s) = 0 ∧
      get F.PHE_PROFILE_ACK_MISSING (showStaged s) = 0 := by
  have h1 := rput_wf F.PHE_PROFILE_ACK_MISSING 0 _ hs
  have h2 := rput_wf F.PHE_PROFILE_ACK_ACK 0 _ h1
  refine ⟨get_put_same _ h2 rfl, ?_, ?_⟩
  · exact (get_put_apart _ h2 rfl rfl).trans (get_put_same _ h1 rfl)
  · exact (get_put_apart _ h2 rfl rfl).trans ((get_put_apart _ h1 rfl rfl).trans (get_put_same _ hs rfl))

/-- Outside Pass, in valid frames and with no change pending, a profile is staged. -/
theorem stageProfile_accepted (p : Nat) {s : State} (hs : sparseWf (0 : Word) s.regs = true)
    (hp : flag F.PHE_PROFILE_CTL_PENDING s = false) (hv : flag F.PHE_FRAME_POS_VALID s = true) (hi : inPass s = false) :
    stageProfile p s = showStaged (noteStaged p s) := by
  have hactive : get F.PHE_PROFILE_CTL_ACTIVE (showStaged (noteStaged p s)) = get F.PHE_PROFILE_CTL_ACTIVE s :=
    (showStaged_chain (.start hs)).only.2 _ (by decide)
  have hi' : inPass (showStaged (noteStaged p s)) = false := by rwa [inPass, profile, hactive]
  unfold stageProfile
  rw [hp, hv]
  refine (if_neg (by decide)).trans ?_
  exact if_neg fun hpass => Bool.false_ne_true (hi'.symm.trans hpass.1)

section
variable {m : Master} {w : Word} {s : State} (hs : sparseWf (0 : Word) s.regs = true) (hw : Writable m R.PHE_PROFILE_CTL s)
  (hst : arg F.PHE_PROFILE_CTL_STAGE w = 1)
include hs hw hst

/-- PROFILE_STAGE that is accepted: the change is pending, and the profile in force stays. -/
theorem exec_profileStage_accepted (hr : arg F.PHE_PROFILE_CTL_REQ w ≠ 3) (hp : flag F.PHE_PROFILE_CTL_PENDING s = false)
    (hv : flag F.PHE_FRAME_POS_VALID s = true) (hi : inPass s = false) :
    ∃ t, exec (.profileStage m w) s = .next t ∧ get F.PHE_PROFILE_CTL_PENDING t = 1 ∧ get F.PHE_PROFILE_ACK_ACK t = 0 ∧
      get F.PHE_PROFILE_ACK_MISSING t = 0 ∧ get F.PHE_PROFILE_CTL_ACTIVE t = get F.PHE_PROFILE_CTL_ACTIVE s ∧
      OnlyFlds stageFlds (noteStaged (arg F.PHE_PROFILE_CTL_REQ w) s) t := by
  have hexec : exec (.profileStage m w) s = .next (profileCtlWrite w s) := cmdWrite_of_writable _ hw
  have hi' : inPass (put F.PHE_PROFILE_CTL_REQ (arg F.PHE_PROFILE_CTL_REQ w) s) = false := by
    rwa [inPass, profile, get_put_apart _ hs rfl rfl]
  rw [hexec, profileCtlWrite_stage hr hst, stageProfile_accepted _ (rput_wf _ _ _ hs) (by rwa [flag_put_apart _ hs rfl rfl])
    (by rwa [flag_put_apart _ hs rfl rfl]) hi']
  have hnote : Chain stageFlds (noteStaged (arg F.PHE_PROFILE_CTL_REQ w) s) (noteStaged (arg F.PHE_PROFILE_CTL_REQ w) s) := .start hs
  have hreq : Chain stageFlds (noteStaged (arg F.PHE_PROFILE_CTL_REQ w) s)
      (noteStaged (arg F.PHE_PROFILE_CTL_REQ w) (put F.PHE_PROFILE_CTL_REQ (arg F.PHE_PROFILE_CTL_REQ w) s)) :=
    hnote.put (f := F.PHE_PROFILE_CTL_REQ) (by simp [stageFlds]) rfl
  have hall := showStaged_chain hreq
  obtain ⟨hpend, hack, hmiss⟩ := get_showStaged hreq.wf
  exact ⟨_, rfl, hpend, hack, hmiss, hall.only.2 _ (by decide), hall.only⟩

/-- PROFILE_STAGE that is refused: the cause is raised, and at most REQ has taken the value written. -/
theorem exec_profileStage_refused (h : flag F.PHE_PROFILE_CTL_PENDING s = true ∨ flag F.PHE_FRAME_POS_VALID s = false ∨
      arg F.PHE_PROFILE_CTL_REQ w = 3) :
    ∃ t, exec (.profileStage m w) s = .next t ∧ Raised F.PHE_CAUSE_PROFILE_REFUSED s t ∧
      OnlyFlds [F.PHE_PROFILE_CTL_REQ, F.PHE_PROFILE_CTL_STAGE, F.PHE_CAUSE_PROFILE_REFUSED, F.INT_HOST_PEND_PEND] s t := by
  have hexec : exec (.profileStage m w) s = .next (profileCtlWrite w s) := cmdWrite_of_writable _ hw
  by_cases hr : arg F.PHE_PROFILE_CTL_REQ w = 3
  · have hraise : profileCtlWrite w s = raise F.PHE_CAUSE_PROFILE_REFUSED s := if_pos hr
    rw [hexec, hraise]
    exact ⟨_, rfl, raised_raise hs rfl rfl (by decide) (by decide) rfl,
      ((Chain.start hs).raise (by simp) (by simp) rfl).only⟩
  · have hreq := rput_wf F.PHE_PROFILE_CTL_REQ (arg F.PHE_PROFILE_CTL_REQ w) _ hs
    have href : flag F.PHE_PROFILE_CTL_PENDING (put F.PHE_PROFILE_CTL_REQ (arg F.PHE_PROFILE_CTL_REQ w) s) = true ∨
        flag F.PHE_FRAME_POS_VALID (put F.PHE_PROFILE_CTL_REQ (arg F.PHE_PROFILE_CTL_REQ w) s) = false := by
      rw [flag_put_apart _ hs rfl rfl, flag_put_apart _ hs rfl rfl]
      simpa [hr] using h
    rw [hexec, profileCtlWrite_stage hr hst, stageProfile_refused _ href]
    exact ⟨_, rfl, raised_raise hreq rfl rfl (by decide) (by decide) (rd_put_other _ (by decide)).symm,
      (((Chain.start hs).put (by simp) rfl).raise (by simp) (by simp) rfl).only⟩

end

/-! The conditions of E4 that trip a fixed producer -/

/-- A command whose condition holds has its effect. -/
theorem onlyIf_of_true {c : Bool} (h : c = true) (f : State → State) (s : State) : onlyIf c f s = .next (f s) := by simp [onlyIf, h]

/-- A bit that has been set reads as set. -/
theorem bit_withBit_same (n i : Nat) : bit (withBit n i) i = true := by simp [bit, withBit, Nat.testBit_or, Nat.testBit_shiftLeft]

section
variable {s : State} (hs : sparseWf (0 : Word) s.regs = true) (hm : metroOn s = true)
include hs hm

/-- IMBALANCE after its persistence marks the condition, raises its cause and trips producer 7 (R113). -/
theorem exec_imbalance (ha : flag F.NRG_STATUS_IMBAL_ACTIVE s = false) (h1 : 1 ≤ s.en.imbalFrames)
    (hp : get F.PHE_NEUT_CFG_PERSIST s ≤ s.en.imbalFrames) :
    ∃ u, exec .imbalance s = .next (tripProducer 7 0 0 u) ∧ get F.NRG_STATUS_IMBAL_ACTIVE u = 1 ∧ Raised F.PHE_CAUSE_IMBALANCE s u ∧
      OnlyFlds [F.NRG_STATUS_IMBAL_ACTIVE, F.PHE_CAUSE_IMBALANCE, F.INT_HOST_PEND_PEND] s u := by
  have hput := rput_wf F.NRG_STATUS_IMBAL_ACTIVE 1 _ hs
  have hexec : execImbalance s = .next _ := onlyIf_of_true (by simp [hm, ha, h1, hp]) _ s
  refine ⟨_, hexec, ?_, ?_, ?_⟩
  · exact (get_raise_apart hput rfl rfl rfl).trans (get_put_same 1 hs rfl)
  · exact raised_raise hput rfl rfl (by decide) (by decide) (rd_put_other _ (by decide)).symm
  · exact (((Chain.start hs).put (by simp) rfl).raise (by simp) (by simp) rfl).only

/-- REVERSE_ENERGY after its persistence marks the phase, raises its cause and trips producer 8 with the phase (R115). -/
theorem exec_reverseEnergy {phase : Nat} (hph : phase < 3) (ho : bit s.en.revOn phase = false)
    (h1 : 1 ≤ nth 0 s.en.revCount phase) (hp : get F.PHE_TAMP_CFG_REV_PERSIST s ≤ nth 0 s.en.revCount phase) :
    ∃ u, exec (.reverseEnergy phase) s = .next (tripProducer 8 0 phase u) ∧ bit u.en.revOn phase = true ∧
      Raised F.PHE_CAUSE_REVERSE s u ∧
      OnlyFlds [F.PHE_CAUSE_REVERSE, F.INT_HOST_PEND_PEND] { s with en := { s.en with revOn := withBit s.en.revOn phase } } u := by
  have hexec : execReverseEnergy phase s = .next _ := onlyIf_of_true (by simp [hm, hph, ho, h1, hp]) _ s
  refine ⟨_, hexec, ?_, ?_, ?_⟩
  · rw [raise_en]
    exact bit_withBit_same _ _
  · exact raised_raise hs rfl rfl (by decide) (by decide) rfl
  · exact Chain.only (Chain.raise (.start hs) (by simp) (by simp) rfl)

end

/-! Pulse outputs -/

/-- A channel changed twice is changed once by both. -/
theorem updPulse_updPulse (k : Nat) (f g : PulseSt → PulseSt) (s : State) :
    updPulse k g (updPulse k f s) = updPulse k (fun p => g (f p)) s := by
  simp [updPulse, upd, List.modify_modify_eq, Function.comp_def]

/-- `NRG_PULSE_STAT_k` stands above the registers below the first of the family. -/
theorem ne_NRG_PULSE_STAT (k : Nat) {a : Nat} (h : a < R.NRG_PULSE_STAT 0) : a ≠ R.NRG_PULSE_STAT k := by
  unfold R.NRG_PULSE_STAT at *
  omega

theorem apart_NRG_PULSE_STAT_BACKLOG (k : Nat) {f : Fld} (h : f.addr < R.NRG_PULSE_STAT 0) :
    f.apart (F.NRG_PULSE_STAT_BACKLOG k) = true := by simp [Fld.apart, ne_NRG_PULSE_STAT k h]

/-- The edge taken off the front of a channel's schedule. -/
def takeEdge (l : List Nat) (p : PulseSt) : PulseSt := { p with edges := l, placed := p.placed.tail }

theorem takeEdge_eq (l : List Nat) : takeEdge l = fun p => { p with edges := l, placed := p.placed.tail } := rfl

section
variable {k e : Nat} {l : List Nat} {s : State}

/-- A scheduled edge at least 100 µs after the last one leaves at its instant, where none waits (R130). -/
theorem pulseEdge_due (he : (nth {} s.en.pulses k).edges = e :: l) (hb : get (F.NRG_PULSE_STAT_BACKLOG k) s = 0)
    (hlast : ∀ x, (nth {} s.en.pulses k).last = some x → x + 100 ≤ e) :
    pulseEdge k s = emitEdge k e (updPulse k (takeEdge l) s) := by
  unfold pulseEdge
  cases hx : (nth {} s.en.pulses k).last with
  | none => simp [he, hb, hx, takeEdge_eq]
  | some x => simp [he, hb, hx, hlast x hx, takeEdge_eq]

/-- A scheduled edge less than 100 µs after the last one is held (R130). -/
theorem pulseEdge_early {x : Nat} (he : (nth {} s.en.pulses k).edges = e :: l) (hx : (nth {} s.en.pulses k).last = some x)
    (hlt : e < x + 100) : pulseEdge k s = holdEdge k (updPulse k (takeEdge l) s) := by
  unfold pulseEdge
  simp [he, hx, Nat.not_le.mpr hlt, takeEdge_eq]

/-- The edge that leaves is counted, and the output is active from its instant (R130, R131). -/
theorem emitEdge_spec (hs : sparseWf (0 : Word) s.regs = true) :
    get (F.NRG_PULSE_CNT_COUNT k) (emitEdge k e s) = (get (F.NRG_PULSE_CNT_COUNT k) s + 1) % 2 ^ 32 ∧
    OnlyFlds [F.NRG_PULSE_CNT_COUNT k] (updPulse k (fun p => { p with last := some e, off := none, active := true }) s)
      (emitEdge k e s) := by
  refine ⟨?_, Chain.only (Chain.put (.start hs) (by simp) rfl)⟩
  exact (get_put_same _ hs rfl).trans (Nat.mod_mod _ _)

/-- An edge that is held joins the backlog, while it has room, and raises its cause (R130). -/
theorem holdEdge_spec (hs : sparseWf (0 : Word) s.regs = true) (hb : get (F.NRG_PULSE_STAT_BACKLOG k) s < 65535) :
    get (F.NRG_PULSE_STAT_BACKLOG k) (holdEdge k s) = get (F.NRG_PULSE_STAT_BACKLOG k) s + 1 ∧
    Raised F.NRG_CAUSE_PULSE_BACKLOG s (holdEdge k s) ∧
    OnlyFlds [F.NRG_PULSE_STAT_BACKLOG k, F.NRG_CAUSE_PULSE_BACKLOG, F.INT_HOST_PEND_PEND] s (holdEdge k s) := by
  have hadd := rput_wf (F.NRG_PULSE_STAT_BACKLOG k) (satNat 0xFFFF (get (F.NRG_PULSE_STAT_BACKLOG k) s + 1)) _ hs
  have hhold : holdEdge k s = raise F.NRG_CAUSE_PULSE_BACKLOG (addSat (F.NRG_PULSE_STAT_BACKLOG k) 1 s) := if_pos hb
  rw [hhold]
  refine ⟨?_, ?_, ?_⟩
  · calc get (F.NRG_PULSE_STAT_BACKLOG k) (raise F.NRG_CAUSE_PULSE_BACKLOG (addSat (F.NRG_PULSE_STAT_BACKLOG k) 1 s))
      _ = get (F.NRG_PULSE_STAT_BACKLOG k) (addSat (F.NRG_PULSE_STAT_BACKLOG k) 1 s) :=
        get_raise_apart hadd rfl (apart_NRG_PULSE_STAT_BACKLOG k (by decide)) (apart_NRG_PULSE_STAT_BACKLOG k (by decide))
      _ = satNat 0xFFFF (get (F.NRG_PULSE_STAT_BACKLOG k) s + 1) % 2 ^ 16 := get_put_same _ hs rfl
      _ = get (F.NRG_PULSE_STAT_BACKLOG k) s + 1 := by rw [satNat, if_neg (by omega), Nat.mod_eq_of_lt (by omega)]
  · exact raised_raise hadd rfl rfl (by decide) (by decide) (rd_put_other _ (ne_NRG_PULSE_STAT k (by decide))).symm
  · exact ((Chain.put (.start hs) (by simp) rfl).raise (by simp) (by simp) rfl).only

/-- PULSE_EDGE of a channel that runs goes by the channel's next instant. -/
theorem exec_pulseEdge (hk : k < 4) (hd : domOn 2 s = true) (hen : flag (F.NRG_PULSE_CFG_EN k) s = true)
    (hidle : flag F.NRG_STATUS_PULSE_IDLE s = false) (hfz : flag F.NRG_STATUS_FROZEN s = false) :
    exec (.pulseEdge k) s = .next (pulseEdge k s) :=
  (onlyIf_of_true (by simp [hk, hd, hen, hidle, hfz]) _ s : execPulseEdge k s = _)

end

/-- Settles O29: PROFILE_STAGE by its two outcomes, the conditions by their marks and causes, the pulse edge by its distance from
the last one. -/
theorem profileConditionsPulses : Obligations.ProfileConditionsPulses := by
  unfold Obligations.ProfileConditionsPulses
  refine ⟨fun s m w hs hw hr hst hp hv hi => exec_profileStage_accepted hs.1 hw hst hr hp hv hi,
    fun s m w hs hw hst h => exec_profileStage_refused hs.1 hw hst h, fun s h => (onlyIf_of_true h _ s : execE7Ready s = _),
    fun s hs hm ha h1 hp => exec_imbalance hs.1 hm ha h1 hp,
    fun s phase hs hm hph ho h1 hp => exec_reverseEnergy hs.1 hm hph ho h1 hp,
    fun s k e l hs hk hd hen hidle hfz _ he hb hlast => ?_, fun s k e x l hs hk hd hen hidle hfz _ he hx hlt hb => ?_,
    fun s k hk _ ha => onlyIf_of_true (by simp [hk, ha]) _ s⟩
  · obtain ⟨hcount, honly⟩ := emitEdge_spec (k := k) (e := e) (s := updPulse k (takeEdge l) s) hs.1
    rw [exec_pulseEdge hk hd hen hidle hfz, pulseEdge_due he hb hlast]
    rw [updPulse_updPulse] at honly
    exact ⟨_, rfl, hcount, honly⟩
  · rw [exec_pulseEdge hk hd hen hidle hfz, pulseEdge_early he hx hlt]
    exact ⟨_, rfl, holdEdge_spec (s := updPulse k (takeEdge l) s) hs.1 hb⟩

end Sys2Proof.Machine
end

section
/-! SUPPORT. The clock monitors (O44) and a second request of a re-read (O17): commands that set a few fields and raise a cause. -/
namespace Sys2Proof.Machine

/-! Several fields set, then a cause raised -/

/-- Several fields set, one after the other. -/
def putAll (l : List (Fld × Nat)) (s : State) : State := l.foldl (fun s e => put e.1 e.2 s) s

/-- The fields lie in their registers, and no two of them share a bit. -/
abbrev FieldsApart (l : List Fld) : Prop := (∀ f ∈ l, f.inWord = true) ∧ l.Pairwise fun f g => f.apart g = true

theorem Fld.apart_comm (f g : Fld) : f.apart g = g.apart f := by
  rw [Fld.apart, Fld.apart, bne_comm, Bool.or_right_comm]

/-- More fields may change. -/
theorem OnlyFlds.mono {L M : List Fld} {u t : State} (h : OnlyFlds L u t) (hLM : L ⊆ M) : OnlyFlds M u t :=
  ⟨h.1, fun g hg => h.2 g fun f hf => hg f (hLM hf)⟩

theorem Chain.putAll {L : List Fld} {u t : State} {l : List (Fld × Nat)} (h : Chain L u t) (hl : l.map (·.1) ⊆ L)
    (hw : ∀ f ∈ l.map (·.1), f.inWord = true) : Chain L u (putAll l t) := by
  induction l generalizing t with
  | nil => exact h
  | cons e l ih =>
    rw [List.map_cons, List.cons_subset] at hl
    rw [List.map_cons, List.forall_mem_cons] at hw
    exact ih (h.put hl.1 hw.1) hl.2 hw.2

section
variable {l : List (Fld × Nat)} {s : State} (hs : sparseWf (0 : Word) s.regs = true)
include hs

/-- In the canonical form each of the fields reads what it was set to. -/
theorem get_putAll (hl : FieldsApart (l.map (·.1))) : ∀ e ∈ l, get e.1 (putAll l s) = e.2 % 2 ^ e.1.width := by
  induction l generalizing s with
  | nil => exact fun _ h => nomatch h
  | cons e l ih =>
    obtain ⟨hw, hp⟩ := hl
    rw [List.map_cons, List.forall_mem_cons] at hw
    rw [List.map_cons, List.pairwise_cons] at hp
    have hput := rput_wf e.1 e.2 _ hs
    have hrest : OnlyFlds (l.map (·.1)) (put e.1 e.2 s) (putAll l (put e.1 e.2 s)) := ((Chain.start hput).putAll (by simp) hw.2).only
    refine List.forall_mem_cons.mpr ⟨?_, ih hput ⟨hw.2, hp.2⟩⟩
    rw [← get_put_same e.2 hs hw.1]
    exact hrest.2 e.1 fun f hf => (f.apart_comm e.1).trans (hp.1 f hf)

/-- A cause raised after several fields have been set: each of them reads what it was set to, and beside them only the cause and
`INT_HOST_PEND` change. -/
theorem raise_putAll (c : Fld) (hl : FieldsApart (F.INT_HOST_PEND_PEND :: c :: l.map (·.1))) (h1 : 0 < c.width)
    (hb : blockOf c.addr < 28) (he : ∀ f ∈ l.map (·.1), enableOf c.addr ≠ f.addr) :
    (∀ e ∈ l, get e.1 (raise c (putAll l s)) = e.2 % 2 ^ e.1.width) ∧ Raised c s (raise c (putAll l s)) ∧
      OnlyFlds (F.INT_HOST_PEND_PEND :: c :: l.map (·.1)) s (raise c (putAll l s)) := by
  obtain ⟨hw, hp⟩ := hl
  simp only [List.pairwise_cons, List.forall_mem_cons] at hp hw
  obtain ⟨⟨hpc, hpl⟩, hcl, hll⟩ := hp
  have hall : Chain (F.INT_HOST_PEND_PEND :: c :: l.map (·.1)) s (putAll l s) := (Chain.start hs).putAll (by simp) hw.2.2
  refine ⟨fun e hmem => ?_, ?_, (hall.raise (by simp) (by simp) hw.2.1).only⟩
  · have hf := List.mem_map_of_mem (f := (·.1)) hmem
    rw [get_raise_apart hall.wf hw.2.1 (hcl _ hf) (hpl _ hf)]
    exact get_putAll hs ⟨hw.2.2, hll⟩ e hmem
  · refine raised_raise hall.wf hw.2.1 hpc h1 hb ?_
    clear hall hcl hll hpl hw
    induction l generalizing s with
    | nil => rfl
    | cons e l ih =>
      rw [List.map_cons, List.forall_mem_cons] at he
      exact (rd_put_other e.2 he.1).symm.trans (ih (rput_wf e.1 e.2 _ hs) he.2)

end

/-- A change beside the registers goes before the fields or after them. -/
theorem putAll_comm {g : State → State} (hg : ∀ f v s, g (put f v s) = put f v (g s)) (l : List (Fld × Nat)) (s : State) :
    g (putAll l s) = putAll l (g s) := by
  induction l generalizing s with
  | nil => rfl
  | cons e l ih => exact (ih (put e.1 e.2 s)).trans (by rw [hg]; rfl)

/-- The domains' power is read as before a field of another register was set. -/
theorem domOn_put_other (d : Nat) {f : Fld} (v : Nat) (s : State) (hf : R.PMU_DOM_STATUS ≠ f.addr) : domOn d (put f v s) = domOn d s := by
  rw [domOn, domOn, fbit, fbit, get, get, rd_put_other v hf]

/-- A command whose condition does not hold has no effect. -/
theorem onlyIf_of_false {c : Bool} (h : c = false) (f : State → State) (s : State) : onlyIf c f s = .next s := by simp [onlyIf, h]

/-! The clock monitors -/

/-- The cores' codes of a pending change of the operating point fall to FIRC (R295). -/
def dropCodes (s : State) : State := updSup (fun p => { p with opTarget := p.opTarget.map fun x => (x.1, 0, 0) }) s

/-- What MPLL_UNLOCK notes beside the registers: no reference is staged, and the frame is marked PROV_CLK (R295, R55). -/
def noteFirc (s : State) : State :=
  { s with sup := { s.sup with mpllNext := none }, en := { s.en with flags := withBit s.en.flags 3 } }

/-- What MPLL_LOCK stages (R55): XTALM where it is fitted, XTAL32 otherwise. -/
def stageRef (r : Nat) (s : State) : State := updSup (fun p => { p with mpllNext := some r }) s

/-- MPLL_LOCK as it is noted: the lock shown, the reference staged (R55). -/
def lockMpll (s : State) : State := stageRef (if flag F.CLK_CFG_XTALM s then 0 else 1) (put F.CLK_STATUS_MPLL_LOCK 1 s)

section
variable {s : State} (hs : sparseWf (0 : Word) s.regs = true)
include hs

/-- XTAL32_FAIL while the RTC runs on XTAL32 moves it to SIRC (R295). -/
theorem exec_xtal32Fail (h : flag F.SUP_RTC_STATUS_SIRC s = false) : ∃ t, exec .xtal32Fail s = .next t ∧
    get F.CLK_STATUS_XTAL32_OK t = 0 ∧ get F.CLK_STATUS_RTC_SRC t = 1 ∧ get F.SUP_RTC_STATUS_SIRC t = 1 ∧
    Raised F.CLK_CAUSE_XTAL32_FAIL s t ∧
    OnlyFlds [F.CLK_STATUS_XTAL32_OK, F.CLK_STATUS_RTC_SRC, F.SUP_RTC_STATUS_SIRC, F.CLK_CAUSE_XTAL32_FAIL, F.INT_HOST_PEND_PEND] s t := by
  have hexec : execXtal32Fail s = .next _ := onlyIf_of_true (by rw [h]; rfl) _ s
  obtain ⟨hv, hr, ho⟩ := raise_putAll (l := [(F.CLK_STATUS_XTAL32_OK, 0), (F.SUP_RTC_STATUS_SIRC, 1), (F.CLK_STATUS_RTC_SRC, 1)])
    hs F.CLK_CAUSE_XTAL32_FAIL (by decide) (by decide) (by decide) (by decide)
  simp only [List.forall_mem_cons] at hv
  obtain ⟨hok, hsirc, hsrc, -⟩ := hv
  exact ⟨_, hexec, hok, hsrc, hsirc, hr, ho.mono (by simp)⟩

/-- XTAL32_BACK while the RTC runs on SIRC moves it back (R295). -/
theorem exec_xtal32Back (h : flag F.SUP_RTC_STATUS_SIRC s = true) : ∃ t, exec .xtal32Back s = .next t ∧
    get F.CLK_STATUS_XTAL32_OK t = 1 ∧ get F.CLK_STATUS_RTC_SRC t = 0 ∧ get F.SUP_RTC_STATUS_SIRC t = 0 ∧
    Raised F.CLK_CAUSE_XTAL32_BACK s t ∧
    OnlyFlds [F.CLK_STATUS_XTAL32_OK, F.CLK_STATUS_RTC_SRC, F.SUP_RTC_STATUS_SIRC, F.CLK_CAUSE_XTAL32_BACK, F.INT_HOST_PEND_PEND] s t := by
  have hexec : execXtal32Back s = .next _ := onlyIf_of_true h _ s
  obtain ⟨hv, hr, ho⟩ := raise_putAll (l := [(F.CLK_STATUS_XTAL32_OK, 1), (F.SUP_RTC_STATUS_SIRC, 0), (F.CLK_STATUS_RTC_SRC, 0)])
    hs F.CLK_CAUSE_XTAL32_BACK (by decide) (by decide) (by decide) (by decide)
  simp only [List.forall_mem_cons] at hv
  obtain ⟨hok, hsirc, hsrc, -⟩ := hv
  exact ⟨_, hexec, hok, hsrc, hsirc, hr, ho.mono (by simp)⟩

/-- SPLL_UNLOCK puts system clock and cores on FIRC, the codes of a pending change too (R295). -/
theorem exec_spllUnlock (h : flag F.CLK_STATUS_SPLL_LOCK s = true) : ∃ t, exec .spllUnlock s = .next t ∧
    get F.CLK_STATUS_SPLL_LOCK t = 0 ∧ get F.CLK_STATUS_SYS_SRC t = 1 ∧ get F.CLK_CTL_CORE1 t = 0 ∧ get F.CLK_CTL_CORE2 t = 0 ∧
    Raised F.CLK_CAUSE_SPLL_UNLOCK s t ∧
    OnlyFlds [F.CLK_STATUS_SPLL_LOCK, F.CLK_STATUS_SYS_SRC, F.CLK_CTL_CORE1, F.CLK_CTL_CORE2, F.CLK_CAUSE_SPLL_UNLOCK,
      F.INT_HOST_PEND_PEND] (dropCodes s) t := by
  have hexec : execSpllUnlock s = .next (raise F.CLK_CAUSE_SPLL_UNLOCK (dropCodes (putAll
      [(F.CLK_STATUS_SYS_SRC, 1), (F.CLK_STATUS_SPLL_LOCK, 0), (F.CLK_CTL_CORE2, 0), (F.CLK_CTL_CORE1, 0)] s))) := onlyIf_of_true h _ s
  rw [putAll_comm (g := dropCodes) fun _ _ _ => rfl] at hexec
  obtain ⟨hv, hr, ho⟩ := raise_putAll (s := dropCodes s)
    (l := [(F.CLK_STATUS_SYS_SRC, 1), (F.CLK_STATUS_SPLL_LOCK, 0), (F.CLK_CTL_CORE2, 0), (F.CLK_CTL_CORE1, 0)])
    hs F.CLK_CAUSE_SPLL_UNLOCK (by decide) (by decide) (by decide) (by decide)
  simp only [List.forall_mem_cons] at hv
  obtain ⟨hsys, hlock, hcore2, hcore1, -⟩ := hv
  exact ⟨_, hexec, hlock, hsys, hcore1, hcore2, hr, ho.mono (by simp)⟩

/-- SPLL_LOCK with the PLL enabled moves the system clock back (R293). -/
theorem exec_spllLock (he : flag F.CLK_CTL_SPLL_EN s = true) (h : flag F.CLK_STATUS_SPLL_LOCK s = false) :
    ∃ t, exec .spllLock s = .next t ∧ get F.CLK_STATUS_SPLL_LOCK t = 1 ∧ get F.CLK_STATUS_SYS_SRC t = 0 ∧
      OnlyFlds [F.CLK_STATUS_SPLL_LOCK, F.CLK_STATUS_SYS_SRC] s t := by
  have hexec : execSpllLock s = .next _ := onlyIf_of_true (by rw [he, h]; rfl) _ s
  have hv := get_putAll (l := [(F.CLK_STATUS_SYS_SRC, 0), (F.CLK_STATUS_SPLL_LOCK, 1)]) hs (by decide)
  simp only [List.forall_mem_cons] at hv
  obtain ⟨hsys, hlock, -⟩ := hv
  exact ⟨_, hexec, hlock, hsys, (((Chain.start hs).put (by simp) rfl).put (by simp) rfl).only⟩

/-- MPLL_UNLOCK: the MPLL runs on FIRC, and with D4 on the frame is marked PROV_CLK (R295, R55). -/
theorem exec_mpllUnlock (h : flag F.CLK_STATUS_MPLL_LOCK s = true) : ∃ t, exec .mpllUnlock s = .next t ∧
    get F.CLK_STATUS_MPLL_LOCK t = 0 ∧ get F.CLK_STATUS_MPLL_REF t = 2 ∧
    (domOn 4 s = true → get F.CFG_STATUS_PROVISIONAL_CLK t = 1) ∧ Raised F.CLK_CAUSE_MPLL_UNLOCK s t ∧
    OnlyFlds [F.CLK_STATUS_MPLL_LOCK, F.CLK_STATUS_MPLL_REF, F.CFG_STATUS_PROVISIONAL_CLK, F.CLK_CAUSE_MPLL_UNLOCK, F.INT_HOST_PEND_PEND]
      { s with
        sup := { s.sup with mpllNext := none }
        en := { s.en with flags := withBit s.en.flags 3 } } t := by
  have hexec : execMpllUnlock s = .next (raise F.CLK_CAUSE_MPLL_UNLOCK (
      let x := noteFirc (putAll [(F.CLK_STATUS_MPLL_LOCK, 0), (F.CLK_STATUS_MPLL_REF, 2)] s)
      if domOn 4 x then put F.CFG_STATUS_PROVISIONAL_CLK 1 x else x)) := onlyIf_of_true h _ s
  have hd : domOn 4 (noteFirc (putAll [(F.CLK_STATUS_MPLL_LOCK, 0), (F.CLK_STATUS_MPLL_REF, 2)] s)) = domOn 4 s :=
    (domOn_put_other 4 2 _ (by decide)).trans (domOn_put_other 4 0 s (by decide))
  simp only [hd] at hexec
  by_cases hd4 : domOn 4 s = true
  · have hput : put F.CFG_STATUS_PROVISIONAL_CLK 1 (noteFirc (putAll [(F.CLK_STATUS_MPLL_LOCK, 0), (F.CLK_STATUS_MPLL_REF, 2)] s)) =
        noteFirc (putAll [(F.CLK_STATUS_MPLL_LOCK, 0), (F.CLK_STATUS_MPLL_REF, 2), (F.CFG_STATUS_PROVISIONAL_CLK, 1)] s) := rfl
    rw [if_pos hd4, hput, putAll_comm (g := noteFirc) fun _ _ _ => rfl] at hexec
    obtain ⟨hv, hr, ho⟩ := raise_putAll (s := noteFirc s)
      (l := [(F.CLK_STATUS_MPLL_LOCK, 0), (F.CLK_STATUS_MPLL_REF, 2), (F.CFG_STATUS_PROVISIONAL_CLK, 1)])
      hs F.CLK_CAUSE_MPLL_UNLOCK (by decide) (by decide) (by decide) (by decide)
    simp only [List.forall_mem_cons] at hv
    obtain ⟨hlock, href, hprov, -⟩ := hv
    exact ⟨_, hexec, hlock, href, fun _ => hprov, hr, ho.mono (by simp)⟩
  · rw [if_neg hd4, putAll_comm (g := noteFirc) fun _ _ _ => rfl] at hexec
    obtain ⟨hv, hr, ho⟩ := raise_putAll (s := noteFirc s) (l := [(F.CLK_STATUS_MPLL_LOCK, 0), (F.CLK_STATUS_MPLL_REF, 2)])
      hs F.CLK_CAUSE_MPLL_UNLOCK (by decide) (by decide) (by decide) (by decide)
    simp only [List.forall_mem_cons] at hv
    obtain ⟨hlock, href, -⟩ := hv
    exact ⟨_, hexec, hlock, href, fun h => absurd h hd4, hr, ho.mono (by simp)⟩

omit hs in
/-- The reference that MPLL_LOCK chooses (R55). -/
theorem execMpllLock_eq (h : get F.CLK_STATUS_MPLL_REF s = 2 ∨ flag F.CLK_STATUS_MPLL_LOCK s = false) : execMpllLock s =
    .next (if framesRun (lockMpll s) then lockMpll s else clockBoundary (lockMpll s)) := onlyIf_of_true (by simpa using h) _ s

theorem framesRun_lockMpll : framesRun (lockMpll s) = framesRun s := by
  have hvalid : flag F.PHE_FRAME_POS_VALID (lockMpll s) = flag F.PHE_FRAME_POS_VALID s := flag_put_apart (s := s) 1 hs rfl rfl
  rw [framesRun, framesRun, hvalid]
  rfl

/-- MPLL_LOCK with frames running stages the reference for the next epoch (R55). -/
theorem exec_mpllLock_running (h : get F.CLK_STATUS_MPLL_REF s = 2 ∨ flag F.CLK_STATUS_MPLL_LOCK s = false) (hf : framesRun s = true) :
    ∃ t, exec .mpllLock s = .next t ∧ get F.CLK_STATUS_MPLL_LOCK t = 1 ∧
      OnlyFlds [F.CLK_STATUS_MPLL_LOCK] (stageRef (if flag F.CLK_CFG_XTALM s then 0 else 1) s) t := by
  have hexec := execMpllLock_eq h
  rw [framesRun_lockMpll hs, if_pos hf] at hexec
  have hput : lockMpll s = put F.CLK_STATUS_MPLL_LOCK 1 (stageRef (if flag F.CLK_CFG_XTALM s then 0 else 1) s) := rfl
  rw [hput] at hexec
  exact ⟨_, hexec, get_put_same 1 hs rfl, Chain.only (.put (.start hs) (by simp) rfl)⟩

/-- MPLL_LOCK without frames puts the reference in force at once (R55). -/
theorem exec_mpllLock_idle (h : get F.CLK_STATUS_MPLL_REF s = 2 ∨ flag F.CLK_STATUS_MPLL_LOCK s = false) (hf : framesRun s = false) :
    ∃ t, exec .mpllLock s = .next t ∧ get F.CLK_STATUS_MPLL_LOCK t = 1 ∧
      get F.CLK_STATUS_MPLL_REF t = (if flag F.CLK_CFG_XTALM s then 0 else 1) ∧ t.sup.mpllNext = none := by
  have hexec := execMpllLock_eq h
  rw [framesRun_lockMpll hs, hf, if_neg Bool.false_ne_true] at hexec
  generalize hr : (if flag F.CLK_CFG_XTALM s then 0 else 1) = r
  have hr2 : r % 2 ^ 2 = r := by subst hr; split <;> rfl
  let u : State := updSup (fun p => { p with mpllNext := none }) (put F.CLK_STATUS_MPLL_LOCK 1 s)
  have hu : sparseWf (0 : Word) u.regs = true := rput_wf _ _ _ hs
  have hx : sparseWf (0 : Word) (put F.CLK_STATUS_MPLL_REF r u).regs = true := rput_wf _ _ _ hu
  have hlock : get F.CLK_STATUS_MPLL_LOCK (put F.CLK_STATUS_MPLL_REF r u) = 1 :=
    (get_put_apart r hu rfl rfl).trans (get_put_same (s := s) 1 hs rfl)
  have href : get F.CLK_STATUS_MPLL_REF (put F.CLK_STATUS_MPLL_REF r u) = r := (get_put_same r hu rfl).trans hr2
  have hbound : clockBoundary (lockMpll s) = if domOn 4 (put F.CLK_STATUS_MPLL_REF r u) then
      put F.CFG_STATUS_PROVISIONAL_CLK 0 (put F.CLK_STATUS_MPLL_REF r u) else put F.CLK_STATUS_MPLL_REF r u := by subst hr; rfl
  refine ⟨_, hexec.trans (congrArg _ hbound), ?_⟩
  split
  · exact ⟨(get_put_apart 0 hx rfl rfl).trans hlock, (get_put_apart 0 hx rfl rfl).trans href, rfl⟩
  · exact ⟨hlock, href, rfl⟩

/-- VBAT_LOW with a threshold (R298). -/
theorem exec_vbatLow (h : get F.PMU_VMON_VBAT_LOW s ≠ 0) : ∃ t, exec .vbatLow s = .next t ∧ get F.PMU_VMON_VBAT_OK t = 0 ∧
    Raised F.PMU_CAUSE_VBAT_LOW s t ∧ OnlyFlds [F.PMU_VMON_VBAT_OK, F.PMU_CAUSE_VBAT_LOW, F.INT_HOST_PEND_PEND] s t := by
  have hexec : execVbatLow s = .next _ := onlyIf_of_true (by simpa using h) _ s
  obtain ⟨hv, hr, ho⟩ := raise_putAll (l := [(F.PMU_VMON_VBAT_OK, 0)]) hs F.PMU_CAUSE_VBAT_LOW (by decide) (by decide) (by decide) (by decide)
  exact ⟨_, hexec, hv (F.PMU_VMON_VBAT_OK, 0) (by simp), hr, ho.mono (by simp)⟩

end

/-- Settles O44: each event sets its fields and raises its cause, and does nothing where they stand so already. -/
theorem clockMonitors : Obligations.ClockMonitors := by
  unfold Obligations.ClockMonitors
  refine ⟨fun s hs h => exec_xtal32Fail hs.1 h, fun s hs h => exec_xtal32Back hs.1 h, fun s hs h => exec_spllUnlock hs.1 h,
    fun s hs he h => exec_spllLock hs.1 he h, fun s hs h => exec_mpllUnlock hs.1 h, fun s hs h hf => exec_mpllLock_running hs.1 h hf,
    fun s hs h => exec_vbatLow hs.1 h, fun s hs h hf => exec_mpllLock_idle hs.1 h hf, fun s => ?_⟩
  refine ⟨fun h => ?_, fun h => ?_, fun h => ?_, fun h => ?_, fun h => ?_, fun h hl => ?_, fun h => ?_⟩
  · exact (onlyIf_of_false (by simp [h]) _ s : execXtal32Fail s = _)
  · exact (onlyIf_of_false h _ s : execXtal32Back s = _)
  · exact (onlyIf_of_false h _ s : execSpllUnlock s = _)
  · exact (onlyIf_of_false (by obtain h | h := h <;> simp [h]) _ s : execSpllLock s = _)
  · exact (onlyIf_of_false h _ s : execMpllUnlock s = _)
  · exact (onlyIf_of_false (by simp [h, hl]) _ s : execMpllLock s = _)
  · exact (onlyIf_of_false (by simp [h]) _ s : execVbatLow s = _)

/-- Settles O17: a request while a re-read runs is refused before anything else of it is looked at (R53). -/
theorem rereadSecondRequest : Obligations.RereadSecondRequest := by
  unfold Obligations.RereadSecondRequest
  intro s m w p hs hw hk hr hh hrun
  have hasks : asksReread w = true := by simp [asksReread, hk, hr]
  have hwrite : cfgCtlWrite p w s = raise F.CFG_CAUSE_REREAD_REFUSED s := by simp [cfgCtlWrite, hasks, hh, hrun]
  have hexec : exec (.reread m w p) s = .next (raise F.CFG_CAUSE_REREAD_REFUSED s) := by
    refine (cmdWrite_of_writable _ hw).trans ?_
    simp [deniedReread, hasks, hwrite]
  exact ⟨_, hexec, raised_raise hs.1 rfl rfl (by decide) (by decide) rfl, ((Chain.start hs.1).raise (by simp) (by simp) rfl).only⟩

end Sys2Proof.Machine
end

section
/-! SUPPORT. The passes of a re-read (O18): what a failed check leaves, and the restart of the domains for the second pass. -/
namespace Sys2Proof.Machine

/-! A cause stays raised -/

section
variable {c : Fld} {s t : State}

/-- A cause stays raised when a field apart from it and from `INT_HOST_PEND` is set. -/
theorem Raised.put {f : Fld} (v : Nat) (h : Raised c s t) (ht : sparseWf (0 : Word) t.regs = true) (hf : f.inWord = true)
    (hc : f.apart c = true) (hp : f.apart F.INT_HOST_PEND_PEND = true) : Raised c s (put f v t) := by
  refine ⟨?_, fun he => ?_⟩
  · rw [fbit, get_put_apart v ht hf hc]
    exact h.1
  · rw [fbit, get_put_apart v ht hf hp]
    exact h.2 he

/-- A raised cause reads as set. -/
theorem Raised.flag (h : Raised c s t) : flag c t = true := by
  refine bne_iff_ne.mpr fun h0 => ?_
  have hbit := h.1
  rw [fbit, h0] at hbit
  cases hbit

/-- A bit of `INT_HOST_PEND` stays set when a cause is raised. -/
theorem pend_raise {f : Fld} {b : Nat} (ht : sparseWf (0 : Word) t.regs = true) (hf : f.inWord = true)
    (hp : f.apart F.INT_HOST_PEND_PEND = true) (h : fbit F.INT_HOST_PEND_PEND b t = true) :
    fbit F.INT_HOST_PEND_PEND b (raise f t) = true := by
  have hset : fbit F.INT_HOST_PEND_PEND b (putBit f 0 true t) = true := by
    rw [putBit, fbit, get_put_apart _ ht hf hp]
    exact h
  rw [raise, raiseAt]
  split
  · have hb : b < F.INT_HOST_PEND_PEND.width := by
      refine Nat.lt_of_not_le fun hle => ?_
      have : get F.INT_HOST_PEND_PEND t < 2 ^ b := Nat.lt_of_lt_of_le (rget_lt F.INT_HOST_PEND_PEND t.regs) (Nat.pow_le_pow_right (by decide) hle)
      rw [fbit, bit, Nat.testBit_lt_two_pow this] at h
      cases h
    rw [putBit, fbit, get_put_same _ (rput_wf f _ _ ht) rfl, if_pos rfl, bit, Nat.testBit_mod_two_pow]
    simp only [withBit, Nat.testBit_or, Bool.and_eq_true, Bool.or_eq_true]
    exact ⟨decide_eq_true hb, .inl hset⟩
  · exact hset

/-- A cause stays raised when another one is raised. -/
theorem Raised.raise {f : Fld} (h : Raised c s t) (ht : sparseWf (0 : Word) t.regs = true) (hf : f.inWord = true)
    (hc : f.apart c = true) (hp : f.apart F.INT_HOST_PEND_PEND = true) (hpc : F.INT_HOST_PEND_PEND.apart c = true) :
    Raised c s (raise f t) := by
  refine ⟨?_, fun he => pend_raise ht hf hp (h.2 he)⟩
  rw [fbit, get_raise_apart ht hf hc hpc]
  exact h.1

end

/-- A register that is neither the cause's nor `INT_HOST_PEND` reads as before. -/
theorem rd_raise_other {f : Fld} {a : Nat} (s : State) (hf : a ≠ f.addr) (hp : a ≠ R.INT_HOST_PEND) : rd (raise f s) a = rd s a := by
  rw [raise, raiseAt]
  split
  · exact (rd_put_other _ hp).trans (rd_put_other _ hf)
  · exact rd_put_other _ hf

/-- A register of none of the fields reads as before. -/
theorem rd_putAll_other {l : List (Fld × Nat)} {a : Nat} (s : State) (h : ∀ f ∈ l.map (·.1), a ≠ f.addr) :
    rd (putAll l s) a = rd s a := by
  induction l generalizing s with
  | nil => rfl
  | cons e l ih =>
    rw [List.map_cons, List.forall_mem_cons] at h
    exact (ih _ h.2).trans (rd_put_other _ h.1)

/-- What leaves all but a few fields as they are, twice in a row. -/
theorem OnlyFlds.trans {L : List Fld} {u t v : State} (h : OnlyFlds L u t) (g : OnlyFlds L t v) : OnlyFlds L u v := by
  refine ⟨?_, fun x hx => (g.2 x hx).trans (h.2 x hx)⟩
  have ht := h.1
  rw [g.1, ht]

/-! A failed check -/

/-- The causes that the checks of R40 set. -/
def checkCauses : List Fld :=
  [F.CFG_CAUSE_MAGIC_FAIL, F.CFG_CAUSE_SECTION_FAIL, F.CFG_CAUSE_CRC_FAIL, F.CFG_CAUSE_NO_AUTHORITY, F.CFG_CAUSE_SIG_FAIL,
   F.CFG_CAUSE_ROLLBACK, F.CFG_CAUSE_LEGAL_ID_FAIL, F.CFG_CAUSE_CLAIM_CONFLICT, F.CFG_CAUSE_FALLBACK_SIZE]

/-- A claim in conflict is shown as such. -/
theorem claimFail_cause {img : Image} {f : ImgFail} (h : claimFail img = some f) : f.cause = F.CFG_CAUSE_CLAIM_CONFLICT := by
  unfold claimFail at h
  extract_lets l at h
  split at h
  · cases h; rfl
  · split at h
    · cases h; rfl
    · split at h
      · cases h; rfl
      · cases h

/-- A failed check names one of the causes of R40. -/
theorem checkImage_cause {img : Image} {s : State} {f : ImgFail} (h : checkImage img s = some f) : f.cause ∈ checkCauses := by
  unfold checkImage at h
  extract_lets key at h
  iterate 8
    split at h
    · cases h; simp [checkCauses]
  split at h
  next hclaim =>
    cases h
    simp [checkCauses, claimFail_cause hclaim]
  split at h
  · cases h; simp [checkCauses]
  · cases h

/-- The fields that name a failed check's section, kind and claim. -/
def failInfo (f : ImgFail) : List (Fld × Nat) :=
  [(F.CFG_FAIL_INFO_INDEX, f.index), (F.CFG_FAIL_INFO_KIND, f.kind), (F.CFG_FAIL_INFO_SECTION, f.sect)]

/-- A check's cause shares no bit with what a failed check and the end of a re-read set beside it. -/
theorem checkCauses_apart {c : Fld} (hc : c ∈ checkCauses) :
    FieldsApart [F.INT_HOST_PEND_PEND, c, F.CFG_FAIL_INFO_INDEX, F.CFG_FAIL_INFO_KIND, F.CFG_FAIL_INFO_SECTION] ∧ c.addr = R.CFG_CAUSE ∧
      0 < c.width ∧ F.INT_HOST_PEND_PEND.apart c = true ∧ F.CFG_CAUSE_REREAD_FAIL.apart c = true ∧ F.CFG_STATUS_REREAD_BUSY.apart c = true := by
  revert c
  decide

/-- What a failed check shows: its cause, its section and its kind. -/
theorem showFail_spec {s : State} {f : ImgFail} (hs : sparseWf (0 : Word) s.regs = true) (hc : f.cause ∈ checkCauses) :
    get F.CFG_FAIL_INFO_SECTION (showFail f s) = f.sect % 2 ^ 16 ∧ get F.CFG_FAIL_INFO_KIND (showFail f s) = f.kind % 2 ^ 2 ∧
      Raised f.cause s (showFail f s) ∧
      OnlyFlds [F.INT_HOST_PEND_PEND, f.cause, F.CFG_FAIL_INFO_INDEX, F.CFG_FAIL_INFO_KIND, F.CFG_FAIL_INFO_SECTION] s (showFail f s) := by
  obtain ⟨hapart, haddr, hwidth, -⟩ := checkCauses_apart hc
  have henable : ∀ g ∈ [F.CFG_FAIL_INFO_INDEX, F.CFG_FAIL_INFO_KIND, F.CFG_FAIL_INFO_SECTION], enableOf f.cause.addr ≠ g.addr := by
    rw [haddr]
    decide
  obtain ⟨hv, hr, ho⟩ := raise_putAll (l := failInfo f) hs f.cause hapart hwidth (by rw [haddr]; decide) henable
  simp only [failInfo, List.forall_mem_cons] at hv
  obtain ⟨-, hkind, hsect, -⟩ := hv
  exact ⟨hsect, hkind, hr, ho⟩

/-- The loader's state once the first pass of a re-read has ended (R52). -/
def endPassOne (s : State) : State := { s with ld := { s.ld with reread := 0 } }

theorem showFail_endPassOne (f : ImgFail) (s : State) : showFail f (endPassOne s) = endPassOne (showFail f s) := by
  simp [endPassOne, showFail, raise, raiseAt_eq, put_eq]

/-- A check fails and ends the first pass of a re-read: both causes, the section and the kind are shown, and nothing else changes but the
loader's mark of the pass. -/
theorem passOneFails_showFail {s : State} {f : ImgFail} (hs : s.Inv) (hc : f.cause ∈ checkCauses) :
    Raised f.cause s (passOneFails (showFail f s)) ∧ Raised F.CFG_CAUSE_REREAD_FAIL s (passOneFails (showFail f s)) ∧
      get F.CFG_FAIL_INFO_SECTION (passOneFails (showFail f s)) = f.sect % 2 ^ 16 ∧
      get F.CFG_FAIL_INFO_KIND (passOneFails (showFail f s)) = f.kind % 2 ^ 2 ∧
      get F.CFG_STATUS_REREAD_BUSY (passOneFails (showFail f s)) = 0 ∧
      OnlyFlds [f.cause, F.CFG_CAUSE_REREAD_FAIL, F.CFG_FAIL_INFO_SECTION, F.CFG_FAIL_INFO_KIND, F.CFG_FAIL_INFO_INDEX,
        F.CFG_STATUS_REREAD_BUSY, F.INT_HOST_PEND_PEND] (endPassOne s) (passOneFails (showFail f s)) := by
  obtain ⟨-, haddr, -, hpc, hfc, hbc⟩ := checkCauses_apart hc
  obtain ⟨hsect, hkind, hr, ho⟩ := showFail_spec (s := endPassOne s) hs.1 hc
  have hwf : sparseWf (0 : Word) (showFail f (endPassOne s)).regs = true := ((showFail_kept (.refl (endPassOne s))).inv hs).1
  obtain ⟨hv, hr', ho'⟩ := raise_putAll (l := [(F.CFG_STATUS_REREAD_BUSY, 0)]) hwf F.CFG_CAUSE_REREAD_FAIL (by decide) (by decide)
    (by decide) (by decide)
  have hend : passOneFails (showFail f s) =
      raise F.CFG_CAUSE_REREAD_FAIL (putAll [(F.CFG_STATUS_REREAD_BUSY, 0)] (showFail f (endPassOne s))) := by
    rw [showFail_endPassOne]
    rfl
  have henable : rd (showFail f (endPassOne s)) R.CFG_CAUSE_EN = rd (endPassOne s) R.CFG_CAUSE_EN :=
    (rd_raise_other _ (by rw [haddr]; decide) (by decide)).trans (rd_putAll_other (l := failInfo f) _ (by simp [failInfo]))
  rw [hend]
  refine ⟨?_, ?_, (ho'.2 _ (by decide)).trans hsect, (ho'.2 _ (by decide)).trans hkind, ?_, ?_⟩
  · exact (hr.put 0 hwf rfl hbc rfl).raise (rput_wf _ _ _ hwf) rfl hfc rfl hpc
  · refine ⟨hr'.1, fun he => hr'.2 ?_⟩
    rw [← he]
    exact congrArg (fun w : Word => w.toNat.testBit F.CFG_CAUSE_REREAD_FAIL.lo) henable
  · exact hv (F.CFG_STATUS_REREAD_BUSY, 0) (by simp)
  · exact (ho.mono (by simp)).trans (ho'.mono (by simp))

/-! The second pass -/

/-- A part of the state that each step of a fold leaves as it is. -/
theorem foldl_same {α β : Type} {k : State → β} {f : State → α → State} {l : List α} (h : ∀ s, ∀ a ∈ l, k (f s a) = k s) (s : State) :
    k (l.foldl f s) = k s := by
  induction l generalizing s with
  | nil => rfl
  | cons a l ih => exact (ih (fun s b hb => h s b (List.mem_cons_of_mem a hb)) _).trans (h s a List.mem_cons_self)

/-- The loader's state but for what metrology takes up from it at its start: the time of a re-read's freeze, the missing keep record. -/
def LoadSt.settled (u : LoadSt) : LoadSt := { u with rereadFrom := none, keepBad := false }

/-- What the running device notes beside its registers of its load and its freeze. -/
def loadMarks (s : State) : LoadSt × PowerMode × Option Nat × Option FreezeRec :=
  (s.ld.settled, s.sup.mode, s.sup.digest, s.sup.freeze)

section
variable (s : State)

@[simp] theorem loadMarks_dirty (b : Nat) : loadMarks (dirty b s) = loadMarks s := by
  unfold dirty
  split <;> rfl

@[simp] theorem loadMarks_powerUp (d : Nat) : loadMarks (powerUp d s) = loadMarks s := by
  unfold powerUp
  split <;> rfl

@[simp] theorem loadMarks_powerDown (d : Nat) : loadMarks (powerDown d s) = loadMarks s := rfl

@[simp] theorem loadMarks_undoKu : loadMarks (undoKu s) = loadMarks s := by
  unfold undoKu
  extract_lets stored
  split
  · rfl
  · split
    · exact loadMarks_dirty _ _
    · rfl

@[simp] theorem loadMarks_clearDom (d : Nat) : loadMarks (clearDom d s) = loadMarks s := by
  by_cases h : d = 6
  · subst h
    exact loadMarks_undoKu s
  · unfold clearDom
    split_ifs <;> rfl

@[simp] theorem loadMarks_dropProducers (ds : List Nat) : loadMarks (dropProducers ds s) = loadMarks s := by
  refine foldl_same (fun t x _ => ?_) s
  split <;> rfl

@[simp] theorem loadMarks_restartDoms (ds : List Nat) : loadMarks (restartDoms ds s) = loadMarks s := by
  refine (loadMarks_dropProducers _ ds).trans (foldl_same (fun t d _ => ?_) s)
  simp

@[simp] theorem loadMarks_coresAtOp0 : loadMarks (coresAtOp0 s) = loadMarks s := rfl

end

/-- The state in which the second pass restarts the domains (R52): a pending profile is dropped, the cores run at OP0. -/
def secondPassRestart (s : State) : State :=
  coresAtOp0 (restartDoms [4, 5, 6, 8, 9, 10] (if flag F.PHE_PROFILE_CTL_PENDING s then dropProfile s else s))

theorem secondPassRestart_freeze (s : State) : (secondPassRestart s).sup.freeze = s.sup.freeze := by
  have h : loadMarks (secondPassRestart s) = loadMarks s := by
    simp only [secondPassRestart, loadMarks_coresAtOp0, loadMarks_restartDoms]
    split <;> rfl
  exact congrArg (·.2.2.2) h

theorem secondPassRestart_kept (s : State) : Kept s (secondPassRestart s) :=
  coresAtOp0_kept (restartDoms_kept (Kept.ite (dropProfile_kept (.refl s)) (.refl s)))

/-- The second pass begins without a freeze (R52): the loader reads again with the locks lifted, and the freeze record stays. -/
theorem beginSecondPass_spec {s : State} (hs : s.Inv) :
    (beginSecondPass false s).ld = { s.ld with
      reread := 2, restartAll := false, refused := false, retrySection := 0, reads := 0, locked := false, conf := 1, fallback := false } ∧
    (beginSecondPass false s).sup.mode = .running ∧ (beginSecondPass false s).sup.freeze = s.sup.freeze ∧
      get F.CFG_STATUS_REREAD_BUSY (beginSecondPass false s) = 1 := by
  refine ⟨rfl, rfl, secondPassRestart_freeze s, get_put_same 1 ?_ rfl⟩
  have h := put_kept (f := F.PMU_STATE_STATE) (v := 0) (put_kept (f := F.PMU_STATE_CORE_DOZE) (v := 0)
    (put_kept (f := F.PMU_STATE_PHASE) (v := 0) (secondPassRestart_kept s)))
  exact ((setLoader_kept (h.upd rfl rfl rfl rfl rfl rfl rfl rfl rfl)).inv hs).1

/-- The loader as the first pass of a re-read begins (R51). -/
def beginPassOne (p : Probe) (s : State) : State :=
  { s with ld := { s.ld with
    reread := 1, source := probeSource p, retrySection := 0, reads := 0, fast := p.fast, spiKhz := bodyClock (probeSource p) p.fast } }

/-- A re-read is requested with a memory found, and none runs (R51). -/
theorem cfgCtlWrite_begins {s : State} {p : Probe} {w : Word} (ha : asksReread w = true) (hh : halted s = false)
    (hr : s.ld.reread = 0) (hp : s.ld.partialRun = false) (hu : updState s = 0 ∨ updState s = 6) (hm : probeSource p ≠ 0) :
    cfgCtlWrite p w s = put F.CFG_STATUS_REREAD_BUSY 1 (beginPassOne p s) := by
  obtain hu | hu := hu <;> simp [cfgCtlWrite, ha, hh, hr, hp, hu, hm, beginRead, beginPassOne]

/-- Settles O18: the request begins the first pass; its end is a failed check or the restart of the domains for the second. -/
theorem rereadPasses : Obligations.RereadPasses := by
  unfold Obligations.RereadPasses
  refine ⟨fun s m w p hs hw hk hr hh hrun hpart hu hm => ?_, fun s img f hs hrun hmode hcheck => ?_,
    fun s img hs hrun hmode hcheck hhash => ?_⟩
  · have hasks : asksReread w = true := by simp [asksReread, hk, hr]
    have hexec : exec (.reread m w p) s = .next (cfgCtlWrite p w s) := by
      refine (cmdWrite_of_writable _ hw).trans ?_
      simp [deniedReread, hasks]
    rw [hexec, cfgCtlWrite_begins hasks hh hrun hpart hu hm]
    have hstart : Chain [F.CFG_STATUS_REREAD_BUSY] (beginPassOne p s) (beginPassOne p s) := .start hs.1
    exact ⟨_, rfl, get_put_same 1 hs.1 rfl, (hstart.put (by simp) rfl).only⟩
  · have hexec : execRereadPassOneDone img s = .next (passOneFails (showFail f s)) :=
      (onlyIf_of_true (by simp [hrun, hmode]) _ s).trans (by rw [hcheck])
    obtain ⟨hcause, hfail, hsect, -, hbusy, honly⟩ := passOneFails_showFail hs (checkImage_cause hcheck)
    exact ⟨_, hexec, hcause.flag, hsect, hfail, hbusy, honly⟩
  · have hexec : execRereadPassOneDone img s = .next (beginSecondPass false s) :=
      (onlyIf_of_true (by simp [hrun, hmode]) _ s).trans (by rw [hcheck, if_pos hhash])
    obtain ⟨hld, hm, hfreeze, hbusy⟩ := beginSecondPass_spec hs
    exact ⟨_, hexec, by rw [hld], by rw [hld], by rw [hld], by rw [hld], by rw [hld], hm, hfreeze, hbusy⟩

end Sys2Proof.Machine
end

section
/-! SUPPORT. A source that trips a napping device (O43): the counter becomes lasting, wakes the device, and the words that are written back at
the wake (R285) need not be the firmware's own. -/
namespace Sys2Proof.Machine

/-- A napping device whose next electrical tamper alarm makes counter 52 lasting and wakes it. Among the words kept for the wake is one
of `TAMP_CAUSE`, which no entry into NAP keeps, but no hypothesis of the statement excludes. -/
def nappingTamper : State :=
  { st [(F.PMU_DOM_STATUS_ON, 1), (F.TAMP_STATUS_EVALUATED, 1), (F.TAMP_FC_CFG_N 52, 1), (F.TAMP_FC_RESP_WAKE 52, 1),
      (F.PMU_WAKE_EN_EN, 2 ^ 4), (F.PMU_STATE_STATE, 3)] with
    sup := { mode := .running, firm := [(R.TAMP_CAUSE, 0)] }
    ld := { guard := false } }

/-- The trip is counted and its cause raised; the wake then writes `TAMP_CAUSE` back as it was kept. -/
theorem tripProducer_nappingTamper : flag F.TAMP_CAUSE_OCCURRENCE (tripProducer 4 0 0 nappingTamper) = false := by decide +kernel

/-- Refutes O43: a trip that wakes the device from NAP may leave `TAMP_CAUSE.OCCURRENCE` clear, where the words kept for the wake hold
`TAMP_CAUSE` itself (the clause on TAMPER_TRIP after the evaluation). -/
theorem not_tamperSources : ¬ Obligations.TamperSources := by
  unfold Obligations.TamperSources
  rintro ⟨-, htrip, -⟩
  obtain ⟨t, hexec, -, -, hocc⟩ := htrip nappingTamper 4 0 0 (by decide) (by decide) (by decide) (by decide) (by decide) (by decide) (by decide)
  have hnext : exec (.tamperTrip 4 0 0) nappingTamper = .next (tripProducer 4 0 0 nappingTamper) := by
    refine (onlyIf_of_true (by decide) (sourceTrip 4 0 0) nappingTamper).trans ?_
    rw [sourceTrip, if_neg (by decide), if_pos (by decide)]
  rw [hnext] at hexec
  cases hexec
  rw [tripProducer_nappingTamper] at hocc
  cases hocc

end Sys2Proof.Machine
end

section
/-! SUPPORT. A recall over planes that do not hold their own bank's kind of data (O19). -/
namespace Sys2Proof.Machine

/-- A device before its recall whose bank 2 is blank, while the stored plane of bank 3 holds contents of bank 2's kind, which no
store writes there, but no hypothesis of the statement excludes. -/
def strayPlane : State :=
  { st [(F.PMU_DOM_STATUS_ON, 2 ^ 7)] with
    cis := { planes := [noPlanes, noPlanes, noPlanes, ({ data := .b2 { chgUsed := 5 }, trl := some (1, 0, 0) }, { data := .user [] })] } }

/-- The recall of bank 3 puts that plane's contents over what the recall of bank 2 left. -/
theorem recall_strayPlane : (recallTo 16 strayPlane).cis.b2.chgUsed = 5 := by decide +kernel

/-- A recall that meets no error recalls the sixteen banks (R213, R214). -/
theorem execRecall_clean (s : State) (hd : domOn 7 s = true) (hr : s.cis.recalled = false) (hq : get F.CIS_QUEUE_RECALLED s = 0) :
    exec (.recall []) s = .next (recallTo 16 s) :=
  (onlyIf_of_true (by simp [hd, hr, hq]) _ s : execRecall [] s = _)

/-- Refutes O19: a blank bank need not hold its blank contents after RECALL, where a later bank's plane holds contents of its kind (the
clause on RECALL without errors). -/
theorem not_guardedStart : ¬ Obligations.GuardedStart := by
  unfold Obligations.GuardedStart
  rintro ⟨-, -, -, -, -, hrecall, -⟩
  obtain ⟨t, hexec, -, -, -, -, hblank, -⟩ := hrecall strayPlane (by decide) (by decide) (by decide) (by decide)
  have hnext := execRecall_clean strayPlane (by decide) (by decide) (by decide)
  have ht : t = recallTo 16 strayPlane := (Host.Outcome.next.inj (hnext.symm.trans hexec)).symm
  have hbank : BankData.b2 t.cis.b2 = .b2 {} := hblank 2 (by decide) (by decide)
  have hused : t.cis.b2.chgUsed = 5 := by rw [ht, recall_strayPlane]
  rw [BankData.b2.inj hbank] at hused
  exact absurd hused (by decide)

end Sys2Proof.Machine
end

section
/-! SUPPORT. Which registers the shared operations of a start leave as they are, and which domains are up after them (O15, O16, O49). -/
namespace Sys2Proof.Machine

/-! Bits -/

/-- A bit of a number whose bit `i` has been cleared. -/
theorem testBit_noBit (n i j : Nat) : (noBit n i).testBit j = (n.testBit j && decide (j ≠ i)) := by
  unfold noBit
  split
  · rename_i hi
    have hmod : n / 2 ^ i % 2 = 1 := by simpa [Nat.testBit_eq_decide_div_mod_eq] using hi
    have hn : n = 2 ^ i * (2 ^ 1 * (n / 2 ^ i / 2) + 1) + n % 2 ^ i := by
      have := Nat.div_add_mod n (2 ^ i)
      have := Nat.div_add_mod (n / 2 ^ i) 2
      rw [hmod] at this
      rw [pow_one, this, Nat.div_add_mod]
    have hlt := Nat.mod_lt n (Nat.two_pow_pos i)
    have hsub : n - 1 <<< i = 2 ^ i * (2 ^ 1 * (n / 2 ^ i / 2) + 0) + n % 2 ^ i := by
      rw [Nat.one_shiftLeft]
      conv_lhs => rw [hn, Nat.mul_add (2 ^ i) _ 1, Nat.mul_one, Nat.add_right_comm, Nat.add_sub_cancel]
      rfl
    rw [hsub]
    conv_rhs => rw [hn]
    rw [Nat.testBit_two_pow_mul_add _ hlt, Nat.testBit_two_pow_mul_add _ hlt, Nat.testBit_two_pow_mul_add _ (by decide),
      Nat.testBit_two_pow_mul_add _ (by decide)]
    by_cases hj : j < i
    · simp [hj, Nat.ne_of_lt hj]
    · by_cases hji : j = i
      · simp [hji]
      · simp [hj, hji, show ¬ j - i < 1 by omega]
  · rename_i hi
    by_cases hji : j = i
    · simp [hji, hi]
    · simp [hji]

/-- In the canonical form a bit of a field reads what was put there, and the others as before. -/
theorem fbit_putBit {f : Fld} {s : State} (i j : Nat) (b : Bool) (hs : sparseWf (0 : Word) s.regs = true) (hf : f.inWord = true)
    (hj : j < f.width) : fbit f j (putBit f i b s) = if j = i then b else fbit f j s := by
  rw [fbit, putBit, get_put_same _ hs hf, bit, Nat.testBit_mod_two_pow, decide_eq_true hj, Bool.true_and]
  cases b
  · rw [if_neg Bool.false_ne_true, testBit_noBit]
    by_cases h : j = i <;> simp [h, fbit, bit]
  · rw [if_pos rfl, withBit, Nat.testBit_or, Nat.one_shiftLeft, Nat.testBit_two_pow]
    by_cases h : j = i
    · simp [h]
    · simp [h, Ne.symm h, fbit, bit]

/-! Registers that an operation leaves -/

theorem blockOf_TAMP_FC_STAT {c : Nat} (h : c < 64) : blockOf (R.TAMP_FC_STAT c) = 5 := by
  simp only [blockOf, R.TAMP_FC_STAT]
  omega

theorem blockOf_PIN_PAD {n : Nat} (h : n < 80) : blockOf (R.PIN_PAD n) = 6 := by
  simp only [blockOf, R.PIN_PAD]
  omega

theorem blockOf_TIM_CTL {n : Nat} (h : n < 8) : blockOf (R.TIM_CTL n) = 26 := by
  simp only [blockOf, R.TIM_CTL]
  omega

section
variable {a : Nat} (s : State)

theorem rd_putBit_other {f : Fld} (i : Nat) (b : Bool) (h : a ≠ f.addr) : rd (putBit f i b s) a = rd s a := rd_put_other _ h

theorem rd_raiseIf_other {f : Fld} (c : Bool) (hf : a ≠ f.addr) (hp : a ≠ R.INT_HOST_PEND) : rd (raiseIf c f s) a = rd s a := by
  unfold raiseIf
  split
  · exact rd_raise_other s hf hp
  · rfl

/-- A domain's reset leaves the registers of the others. -/
theorem rd_resetDomain_other {d : Nat} (h : blockDom (blockOf a) ≠ d) : rd (resetDomain d s) a = rd s a := by
  have hset : ∀ (l : List (Nat × Word)), (∀ e ∈ l, blockDom (blockOf e.1) = d) → ∀ m : Sparse Word,
      sparseGet 0 (l.foldl (fun m e => sparseSet 0 m e.1 e.2) m) a = sparseGet 0 m a := by
    intro l hl
    induction l with
    | nil => exact fun _ => rfl
    | cons e l ih =>
      rw [List.forall_mem_cons] at hl
      refine fun m => (ih hl.2 _).trans (sparseGet_set_other _ _ fun ha => h ?_)
      rw [ha]
      exact hl.1
  have hfilter : sparseGet 0 (sparseFilter (fun a => blockDom (blockOf a) != d) s.regs) a = sparseGet 0 s.regs a := by
    rw [sparseGet_filter, if_pos (bne_iff_ne.mpr h)]
  exact (hset _ (fun e he => by simpa using (List.mem_filter.mp he).2) _).trans hfilter

theorem rd_powerDown_other {d : Nat} (h : blockDom (blockOf a) ≠ d) (hp : a ≠ R.PMU_DOM_STATUS) : rd (powerDown d s) a = rd s a :=
  (rd_putBit_other _ d false hp).trans (rd_resetDomain_other s h)

theorem rd_powerUp_other {d : Nat} (h : blockDom (blockOf a) ≠ d) (hp : a ≠ R.PMU_DOM_STATUS) : rd (powerUp d s) a = rd s a := by
  unfold powerUp
  split
  · rfl
  · exact (rd_putBit_other _ d true hp).trans (rd_resetDomain_other s h)

theorem rd_dirty_other (b : Nat) (h : a ≠ R.CIS_STATUS) : rd (dirty b s) a = rd s a := by
  unfold dirty
  split
  · rfl
  · exact rd_putBit_other s b true h

theorem rd_undoKu_other (h : a ≠ R.CIS_STATUS) : rd (undoKu s) a = rd s a := by
  unfold undoKu
  extract_lets stored
  split
  · rfl
  · split
    · exact rd_dirty_other _ 1 h
    · rfl

theorem rd_clearDom_other (d : Nat) (h : a ≠ R.CIS_STATUS) : rd (clearDom d s) a = rd s a := by
  by_cases hd : d = 6
  · subst hd
    exact rd_undoKu_other s h
  · unfold clearDom
    split_ifs <;> rfl

/-- The producers' registers lie in block 5. -/
theorem rd_dropProducers_other (ds : List Nat) (h : blockOf a ≠ 5) : rd (dropProducers ds s) a = rd s a := by
  refine foldl_same (k := fun s => rd s a) (fun t x hx => ?_) s
  dsimp only
  split
  · have hc : 48 + x < 64 := by
      rw [List.mem_range] at hx
      omega
    have ha : a ≠ (F.TAMP_FC_STAT_ACTIVE (48 + x)).addr := fun ha => h ((congrArg blockOf ha).trans (blockOf_TAMP_FC_STAT hc))
    exact (rd_put_other 0 ha).trans rfl
  · rfl

theorem rd_setLoader_other (conf : Nat) (guard fb : Bool) (h : a ≠ R.CFG_STATUS) : rd (setLoader conf guard fb s) a = rd s a :=
  (rd_put_other _ h).trans ((rd_put_other _ h).trans ((rd_put_other _ h).trans rfl))

/-- The counters' registers lie in block 5. -/
theorem rd_clearTotals_other (h : blockOf a ≠ 5) : rd (clearTotals s) a = rd s a := by
  refine (foldl_same (k := fun s => rd s a) (fun t c hc => ?_) _).trans rfl
  have ha : a ≠ (F.TAMP_FC_STAT_TOTAL c).addr := fun ha => h ((congrArg blockOf ha).trans (blockOf_TAMP_FC_STAT (List.mem_range.mp hc)))
  exact rd_put_other 0 ha

/-- The claims of pads and timers that exist stand in blocks 6 and 26. -/
theorem rd_applyClaims_other {pins : List PinClaim} {tims : List (Nat × Nat)} (hp : ∀ c ∈ pins, c.pad < 80) (ht : ∀ e ∈ tims, e.1 < 8)
    (h6 : blockOf a ≠ 6) (h26 : blockOf a ≠ 26) : rd (applyClaims pins tims s) a = rd s a := by
  have hpad : ∀ n < 80, a ≠ R.PIN_PAD n := fun n hn ha => h6 ((congrArg blockOf ha).trans (blockOf_PIN_PAD hn))
  have htim : ∀ n < 8, a ≠ R.TIM_CTL n := fun n hn ha => h26 ((congrArg blockOf ha).trans (blockOf_TIM_CTL hn))
  have hclaim : ∀ c ∈ pins, ∀ t, rd (claimPad c t) a = rd t a := fun c hc t => by
    have hc := hpad c.pad (hp c hc)
    unfold claimPad
    split
    · exact (rd_put_other _ hc).trans (rd_put_other _ hc)
    · exact (rd_put_other _ hc).trans ((rd_put_other _ hc).trans (rd_put_other _ hc))
  unfold applyClaims
  extract_lets t1 t2 t3 t4
  calc rd t4 a
    _ = rd t3 a := foldl_same (k := fun s => rd s a) (fun t e he => rd_put_other _ (htim e.1 (ht e he))) t3
    _ = rd t2 a := foldl_same (k := fun s => rd s a) (fun t n hn => rd_put_other _ (htim n (List.mem_range.mp hn))) t2
    _ = rd t1 a := foldl_same (k := fun s => rd s a) (fun t c hc => hclaim c hc t) t1
    _ = rd s a := foldl_same (k := fun s => rd s a) (fun t n hn => rd_wr_other _ (hpad n (List.mem_range.mp hn))) s

end

/-! Domains -/

/-- Whether domain `e` is up is read in `PMU_DOM_STATUS`. -/
theorem domOn_of_rd {s t : State} (h : rd t R.PMU_DOM_STATUS = rd s R.PMU_DOM_STATUS) (e : Nat) : domOn e t = domOn e s := by
  rw [domOn, domOn, fbit, fbit, get, get, h]

section
variable {s : State} {d e : Nat} (hs : s.Inv) (hd : d ≠ 0) (he : e < 11)
include hs hd he

theorem domOn_putBit_resetDomain (b : Bool) :
    domOn e (putBit F.PMU_DOM_STATUS_ON d b (resetDomain d s)) = if e = d then b else domOn e s := by
  have hwf := ((resetDomain_kept (d := d) (.refl s)).inv hs).1
  rw [domOn, fbit_putBit d e b hwf rfl he]
  exact if_congr Iff.rfl rfl (domOn_of_rd (rd_resetDomain_other s hd.symm) e)

theorem domOn_powerDown : domOn e (powerDown d s) = (domOn e s && decide (e ≠ d)) := by
  rw [powerDown, domOn_putBit_resetDomain hs hd he]
  by_cases h : e = d <;> simp [h]

theorem domOn_powerUp : domOn e (powerUp d s) = (domOn e s || decide (e = d)) := by
  unfold powerUp
  split
  next hon =>
    by_cases h : e = d
    · simp [h, hon]
    · simp [h]
  next =>
    rw [domOn_putBit_resetDomain hs hd he]
    by_cases h : e = d <;> simp [h]

end

/-- Domains powered down one after the other are off. -/
theorem domOn_foldl_powerDown {s : State} {e : Nat} {ds : List Nat} (hs : s.Inv) (hds : ∀ d ∈ ds, d ≠ 0) (he : e < 11) :
    domOn e (ds.foldl (fun s d => powerDown d s) s) = (domOn e s && decide (e ∉ ds)) := by
  induction ds generalizing s with
  | nil => simp
  | cons d ds ih =>
    rw [List.forall_mem_cons] at hds
    rw [List.foldl_cons, ih ((powerDown_kept (.refl s)).inv hs) hds.2, domOn_powerDown hs hds.1 he]
    simp [Bool.and_assoc]

/-- Domains powered up one after the other are up, and the others as before. -/
theorem domOn_foldl_powerUp {s : State} {e : Nat} {ds : List Nat} (hs : s.Inv) (hds : ∀ d ∈ ds, d ≠ 0) (he : e < 11) :
    domOn e (ds.foldl (fun s d => powerUp d s) s) = (domOn e s || decide (e ∈ ds)) := by
  induction ds generalizing s with
  | nil => simp
  | cons d ds ih =>
    rw [List.forall_mem_cons] at hds
    rw [List.foldl_cons, ih ((powerUp_kept (.refl s)).inv hs) hds.2, domOn_powerUp hs hds.1 he]
    simp [Bool.or_assoc]

end Sys2Proof.Machine
end

section
/-! SUPPORT. What the event lines can do (R266, R268) while no line driver, no capture and no key operation is up: beside their own
registers and those of the Well, nothing (O15, O49). -/
namespace Sys2Proof.Machine

/-- The register blocks that lines and the blanking of keys write while nothing else is up: INT, EVF, WEL, SEC and LMD. -/
def lineBlocks : List Nat := [3, 4, 19, 20, 21]

/-- From `s` to `t` only what event lines and the blanking of keys write has changed. -/
structure LinesOnly (s t : State) : Prop where
  rest : t = { s with regs := t.regs, free := t.free, tamp := { s.tamp with tsLive := t.tamp.tsLive }, well := t.well }
  ku : t.well.ku = s.well.ku
  reads : ∀ a, blockOf a ∉ lineBlocks → rd t a = rd s a

/-- No line driver, no capture and no operation with a key is up. -/
structure LinesIdle (s : State) : Prop where
  capture : domOn 3 s = false
  driver : domOn 9 s = false
  repeatMute : s.lmd.repeatMute = false
  decode : s.pay.dec = none
  signing : s.obj.signing = none
  ku : s.well.ku = none

namespace LinesOnly
variable {s t u : State}

theorem refl (s : State) : LinesOnly s s := ⟨rfl, rfl, fun _ _ => rfl⟩

theorem trans (h : LinesOnly s t) (g : LinesOnly t u) : LinesOnly s u where
  rest := by
    have ht := h.rest
    rw [g.rest, ht]
  ku := g.ku.trans h.ku
  reads a ha := (g.reads a ha).trans (h.reads a ha)

/-- A register of those blocks is written. -/
theorem put {f : Fld} {v : Nat} (h : LinesOnly s t) (hf : blockOf f.addr ∈ lineBlocks) : LinesOnly s (put f v t) :=
  h.trans ⟨rfl, rfl, fun _ ha => rd_put_other v fun e => ha (e ▸ hf)⟩

theorem raiseAt {f : Fld} {i : Nat} (h : LinesOnly s t) (hf : blockOf f.addr ∈ lineBlocks) : LinesOnly s (raiseAt f i t) := by
  unfold Machine.raiseAt
  split
  · exact (h.put hf).put (by decide)
  · exact h.put hf

theorem raiseIf {c : Bool} {f : Fld} (h : LinesOnly s t) (hf : blockOf f.addr ∈ lineBlocks) : LinesOnly s (raiseIf c f t) := by
  unfold Machine.raiseIf
  split
  · exact h.raiseAt hf
  · exact h

/-- The Well's own state changes, the key update in progress but not. -/
theorem updWell {f : WellSt → WellSt} (h : LinesOnly s t) (hf : (f t.well).ku = t.well.ku) : LinesOnly s (updWell f t) :=
  h.trans ⟨rfl, hf, fun _ _ => rfl⟩

theorem ite {c : Prop} [Decidable c] (h : LinesOnly s t) (g : LinesOnly s u) : LinesOnly s (if c then t else u) := by
  split <;> assumption

theorem domOn (h : LinesOnly s t) (d : Nat) : domOn d t = domOn d s := domOn_of_rd (h.reads _ (by decide)) d

theorem ld (h : LinesOnly s t) : t.ld = s.ld := by rw [h.rest]

theorem sup (h : LinesOnly s t) : t.sup = s.sup := by rw [h.rest]

theorem idle (h : LinesOnly s t) (hi : LinesIdle s) : LinesIdle t where
  capture := (h.domOn 3).trans hi.capture
  driver := (h.domOn 9).trans hi.driver
  repeatMute := by rw [h.rest]; exact hi.repeatMute
  decode := by rw [h.rest]; exact hi.decode
  signing := by rw [h.rest]; exact hi.signing
  ku := h.ku.trans hi.ku

end LinesOnly

section
variable {s : State}

theorem abortJob_linesOnly : LinesOnly s (abortJob s) := by
  unfold abortJob
  split
  · exact .refl s
  · exact (((LinesOnly.refl s).updWell rfl).raiseIf (by decide)).raiseAt (by decide)

theorem remask_linesOnly : LinesOnly s (remask s) := ⟨rfl, rfl, fun _ _ => rfl⟩

/-- The working slots emptied, as blanking begins. -/
def emptySlots (s : State) : State := updWell (fun w => { w with slots := [] }) s

/-- What blanking notes for a token decode in progress. -/
def noteBlanked (s : State) : State := { s with pay := { s.pay with decBlanked := s.pay.decBlanked || s.pay.dec.isSome } }

theorem noteBlanked_of_idle (h : s.pay.dec = none) : noteBlanked s = s := by
  have hd : s.pay.dec.isSome = false := by simp [h]
  simp only [noteBlanked, hd, Bool.or_false]

theorem abortKu_of_idle (h : s.well.ku = none) : abortKu s = s := by simp [abortKu, h]

theorem abortSigning_of_idle (h : s.obj.signing = none) : abortSigning s = s := by simp [abortSigning, h]

/-- Blanking aborts nothing but the Well's job while no operation with a key is up (R263). -/
theorem blankKeys_linesOnly (hi : LinesIdle s) : LinesOnly s (blankKeys s) := by
  have hslots : LinesOnly s (emptySlots s) := (LinesOnly.refl s).updWell rfl
  have hjob := hslots.trans abortJob_linesOnly
  have hblank : blankKeys s = raise F.WEL_CAUSE_BLANKED (showWell (remask (abortJob (emptySlots s)))) := by
    change raise _ (showWell (remask (noteBlanked (abortJob (abortSigning (abortKu (emptySlots s))))))) = _
    rw [abortKu_of_idle (hslots.idle hi).ku, abortSigning_of_idle (hslots.idle hi).signing, noteBlanked_of_idle (hjob.idle hi).decode]
  rw [hblank, showWell]
  exact ((((hjob.trans remask_linesOnly).put (by decide)).put (by decide)).put (by decide)).raiseAt (by decide)

theorem latchStamp_linesOnly {l frac : Nat} (hl : l < 64) : LinesOnly s (latchStamp l frac s) := by
  have hf : blockOf (F.EVF_TS_FRAME_FRAME l).addr ∈ lineBlocks := by
    rw [blockOf_EVF_TS_FRAME hl]
    decide
  have hfresh : LinesOnly s (fresh s).2 := ⟨rfl, rfl, fun _ _ => rfl⟩
  exact (hfresh.put hf).trans ⟨rfl, rfl, fun _ _ => rfl⟩

/-- A rising line sets its cause, takes its stamp and blanks keys; no driver is muted and no capture triggered (R268). -/
theorem lineRise_linesOnly {l frac : Nat} (hl : l < 64) (hi : LinesIdle s) : LinesOnly s (lineRise frac l s) := by
  have hrise : blockOf (F.EVF_CAUSE_RISE (l / 32)).addr ∈ lineBlocks := by
    obtain h | h : l / 32 = 0 ∨ l / 32 = 1 := by omega
    all_goals rw [h]; decide
  unfold lineRise
  extract_lets t1 t2 t3 t4
  have h1 : LinesOnly s t1 := (LinesOnly.refl s).raiseAt hrise
  have h2 : LinesOnly s t2 := .ite (h1.trans (latchStamp_linesOnly hl)) h1
  have h3 : LinesOnly s t3 := .ite (h2.trans (blankKeys_linesOnly (h2.idle hi))) h2
  have h4 : LinesOnly s t4 := by
    refine .ite ?_ h3
    rw [muteDriver, if_pos (by simp [(h3.idle hi).driver])]
    exact h3
  refine .ite ?_ h4
  rw [captureTrigger, if_pos (by simp [(h4.idle hi).capture])]
  exact h4

theorem unmuteDriver_linesOnly (hi : LinesIdle s) : LinesOnly s (unmuteDriver s) := by
  unfold unmuteDriver
  extract_lets t
  have ht : LinesOnly s t := .ite ((LinesOnly.refl s).put (by decide)) (.refl s)
  rw [if_neg (by simp [(ht.idle hi).repeatMute])]
  exact ht

/-- Lines that rise one after the other. -/
theorem foldl_lineRise_linesOnly {ls : List Nat} {frac : Nat} (hls : ∀ l ∈ ls, l < 64) (hi : LinesIdle s) :
    LinesOnly s (ls.foldl (fun s l => lineRise frac l s) s) := by
  induction ls generalizing s with
  | nil => exact .refl s
  | cons l ls ih =>
    rw [List.forall_mem_cons] at hls
    have h := lineRise_linesOnly (frac := frac) hls.1 hi
    exact h.trans (ih hls.2 (h.idle hi))

/-- The lines brought up to date while nothing that they act on is up (R266). -/
theorem refreshLines_linesOnly {frac : Nat} (hi : LinesIdle s) : LinesOnly s (refreshLines frac s) := by
  unfold refreshLines
  extract_lets now rising word t1 t2 t3
  have h1 : LinesOnly s t1 := ((LinesOnly.refl s).put (by decide)).put (by decide)
  have hrising : ∀ l ∈ rising, l < 64 := fun l hl => List.mem_range.mp (List.mem_of_mem_filter (List.mem_of_mem_filter hl))
  have h2 : LinesOnly s t2 := h1.trans (foldl_lineRise_linesOnly hrising (h1.idle hi))
  have h3 : LinesOnly s t3 := .ite h2 (h2.trans (unmuteDriver_linesOnly (h2.idle hi)))
  exact h3.put (by decide)

end

end Sys2Proof.Machine
end

section
/-! SUPPORT. How a start begins (O15): the stages of `doStart`, what each of them loses and what it leaves. -/
namespace Sys2Proof.Machine

/-! What the domains' loss takes -/

/-- What a start loses beside the registers and what lines could act on, with E0's supervision and the image's tables. -/
def volatile (s : State) : (List Host.Cell × MetroSt × EnergySt × SpecSt) × (PaySt × LmdSt × FabSt × PnlSt) ×
    CisSt × Option KeyJob × Option (Nat × List Byte × Nat) × SupSt × ImgTables :=
  ((s.mem, s.metro, s.en, s.spec), (s.pay, s.lmd, s.fab, s.pnl), s.cis, s.well.ku, s.obj.signing, s.sup, s.ld.tables)

section
variable (s : State)

@[simp] theorem volatile_put (f : Fld) (v : Nat) : volatile (put f v s) = volatile s := rfl
@[simp] theorem volatile_wr (a : Nat) (v : Word) : volatile (wr a v s) = volatile s := rfl
@[simp] theorem volatile_powerDown (d : Nat) : volatile (powerDown d s) = volatile s := rfl
@[simp] theorem volatile_setLoader (conf : Nat) (guard fb : Bool) : volatile (setLoader conf guard fb s) = volatile s := rfl

@[simp] theorem volatile_raise (f : Fld) : volatile (raise f s) = volatile s := by
  rw [raise, raiseAt_eq]
  rfl

@[simp] theorem volatile_raiseIf (c : Bool) (f : Fld) : volatile (raiseIf c f s) = volatile s := by
  unfold raiseIf
  split <;> simp

@[simp] theorem volatile_powerUp (d : Nat) : volatile (powerUp d s) = volatile s := by
  unfold powerUp
  split <;> rfl

@[simp] theorem volatile_dropProducers (ds : List Nat) : volatile (dropProducers ds s) = volatile s := by
  refine foldl_same (fun t x _ => ?_) s
  split <;> rfl

@[simp] theorem volatile_clearTotals : volatile (clearTotals s) = volatile s := by
  unfold clearTotals
  refine (foldl_same (fun t c _ => ?_) _).trans ?_
  · exact volatile_put t _ 0
  · rfl

/-- The UID's words are shown. -/
def showUid (s : State) : State := (List.range 4).foldl (fun s w => put (F.SUP_UID_UID w) (field uidBytes (4 * w) 4) s) s

theorem volatile_showUid : volatile (showUid s) = volatile s := by
  unfold showUid
  refine foldl_same (fun t w _ => ?_) s
  rw [volatile_put]

/-- The supplies and the spare map are shown. -/
def showSupplies (p : Probe) (s : State) : State :=
  let s := put F.PMU_VMON_VDD_OK 1 (put F.PMU_VMON_VBAT_OK (b2n p.vbatOk) (put F.PMU_STATE_SUPPLY 0 s))
  match s.well.spareMap with
  | some b => put F.TAMP_STATUS_SPARE_BANK b (put F.TAMP_STATUS_SPARE_USED 1 s)
  | none => s

theorem showIdentity_eq (p : Probe) : showIdentity p s = showSupplies p (showUid s) := rfl

theorem volatile_showSupplies (p : Probe) : volatile (showSupplies p s) = volatile s := by
  unfold showSupplies
  extract_lets t
  split <;> rfl

@[simp] theorem volatile_showIdentity (p : Probe) : volatile (showIdentity p s) = volatile s := by
  rw [showIdentity_eq, volatile_showSupplies, volatile_showUid]

@[simp] theorem volatile_startClocks (por : Bool) (p : Probe) : volatile (startClocks por p s) = volatile s := by
  unfold startClocks
  extract_lets t u v
  split <;> rfl

@[simp] theorem volatile_unclaimAll : volatile (unclaimAll s) = volatile s := by
  unfold unclaimAll applyClaims
  extract_lets t1 t2 t3 t4
  have h1 : volatile t1 = volatile s := foldl_same (fun t n _ => volatile_wr t _ _) s
  have h3 : volatile t3 = volatile t2 := foldl_same (fun t n _ => volatile_put t _ _) t2
  clear_value t1
  exact h3.trans h1

@[simp] theorem volatile_queueTamp (r : TampRec) : volatile (queueTamp r s) = volatile s := by
  unfold queueTamp
  split
  · rfl
  · split
    · rfl
    · simp [addSat]

end

/-- With D7 off a tamper event is queued (R277). -/
theorem volatile_logTamp {s : State} (h : domOn 7 s = false) (kind c frac detail : Nat) :
    volatile (logTamp kind c frac detail s) = volatile s := by
  unfold logTamp logTampAt
  extract_lets v flags f r
  have hclosed : bank2Open s = false := by simp [bank2Open, h]
  rw [hclosed]
  exact (volatile_queueTamp _ r).trans rfl

theorem volatile_sampleDebug {s : State} (h : domOn 7 s = false) (p : Probe) : volatile (sampleDebug p s) = volatile s := by
  unfold sampleDebug
  split
  · exact (volatile_logTamp ((domOn_put_other 7 1 s (by decide)).trans h) 8 0 0 0).trans rfl
  · rfl

theorem LinesOnly.volatile {s t : State} (h : LinesOnly s t) : volatile t = volatile s := by
  unfold Machine.volatile
  rw [h.ku, h.rest]

/-- What is left of E0's supervision when the domains are lost. -/
def lostSup (u : SupSt) : SupSt :=
  { u with retBanks := [none, none, none, none], opTarget := none, mpllNext := none, quarantined := 0, coldReq := false, slew := 0, firm := [] }

theorem volatile_loseDomains (s : State) :
    volatile (loseDomains s) =
      (([], {}, {}, {}), ({}, {}, {}, {}), { planes := s.cis.planes }, none, none, lostSup s.sup, s.ld.tables) := by
  have h : volatile (dropProducers [1, 2, 3, 4, 5, 6, 7, 8, 9, 10] ([1, 2, 3, 4, 5, 6, 7, 8, 9, 10].foldl (fun s d => powerDown d s) s)) = volatile s :=
    (volatile_dropProducers _ _).trans (foldl_same (fun t d _ => volatile_powerDown t d) s)
  simp only [volatile, Prod.mk.injEq] at h ⊢
  obtain ⟨-, -, hcis, -, -, hsup, htables⟩ := h
  refine ⟨⟨rfl, rfl, rfl, rfl⟩, ⟨rfl, rfl, rfl, rfl⟩, ?_, rfl, rfl, ?_, htables⟩
  · exact congrArg (fun c : CisSt => ({ planes := c.planes } : CisSt)) hcis
  · exact congrArg lostSup hsup

/-! The stages of a start -/

/-- A start for this cause is one as from power-on reset. -/
def isPor (cause : Nat) : Bool := cause = 1 || cause = 16

/-- The run and the cause of a start are shown (R300). -/
def showRun (cause n : Nat) (s : State) : State := wr R.SUP_RESET_CAUSE (BitVec.ofNat 32 cause) (put F.SUP_RUN_RUN (n % 2 ^ 32) s)

/-- The run that a start shows: the one after the run before (R300), which at a power-on reset the Cistern's planes hold (R298). -/
def nextRun (cause : Nat) (s : State) : Nat := if isPor cause then newestRun s + 1 else run s + 1

/-- The domains are lost, the run and the cause shown. -/
def startRun (cause : Nat) (s : State) : State := showRun cause (nextRun cause s) (clearTotals (loseDomains s))

/-- Debug is sampled, the identity shown, the clocks start. -/
def startRelease (cause : Nat) (p : Probe) (s : State) : State :=
  startClocks (isPor cause) p (showIdentity p (if isPor cause then sampleDebug p s else s))

/-- The power state is RUN. -/
def startPower (s : State) : State :=
  put F.PMU_STATE_STATE 0 (put F.PMU_STATE_PHASE 0 (put F.PMU_STATE_CORE_DOZE 0 (put F.PMU_DOM_STATUS_RET 0 s)))

/-- E0's supervision as a start sets it. -/
def startSup (cause : Nat) (u : SupSt) : SupSt :=
  { u with
    mode := .loading, d0Kept := !(isPor cause || cause == 4), shipEntry := false, shipFrozen := false, wakePend := 0, abortPend := false
    freezeOnResetN := false, vddRemoved := false, digest := none }

/-- The loader and E0's supervision as a start sets them. -/
def startMarks (cause : Nat) (p : Probe) (s : State) : State :=
  { s with
    ld := { legalPart := s.ld.legalPart, latched := latchAt p s, lateAlarms := s.ld.lateAlarms }
    sup := startSup cause s.sup }

/-- The domains of the boot go up, the loader shows its state, nothing is claimed. -/
def startLoader (s : State) : State :=
  let s := [1, 4, 5, 6, 7].foldl (fun s d => powerUp d s) (put F.TAMP_STATUS_EVALUATED 0 s)
  let s := put F.CFG_STATUS_PROVISIONAL_CLK (b2n (get F.CLK_STATUS_MPLL_REF s == 2)) s
  setLoader 1 true false (unclaimAll s)

/-- A start, up to where the event lines are brought up to date. -/
def started (cause : Nat) (p : Probe) (s : State) : State :=
  startLoader (startMarks cause p (startPower (startRelease cause p (startRun cause s))))

theorem doStart_eq (cause : Nat) (p : Probe) (s : State) :
    doStart cause p s = probeMemory p (put F.CFG_STATUS_TAMPER_PENDING 1 (refreshLines 0 (started cause p s))) := rfl

section
variable (cause : Nat) (p : Probe) {s : State}

theorem startRun_kept (s : State) : Kept s (startRun cause s) := wr_kept (put_kept (clearTotals_kept (loseDomains_kept (.refl s))))

theorem startRelease_kept (s : State) : Kept s (startRelease cause p s) :=
  startClocks_kept (showIdentity_kept (.ite (sampleDebug_kept (.refl s)) (.refl s)))

theorem startPower_kept (s : State) : Kept s (startPower s) := put_kept (put_kept (put_kept (put_kept (.refl s))))

theorem startMarks_kept (s : State) : Kept s (startMarks cause p s) := (Kept.refl s).upd rfl rfl rfl rfl rfl rfl rfl rfl rfl

theorem startLoader_kept (s : State) : Kept s (startLoader s) :=
  setLoader_kept (unclaimAll_kept (put_kept (.foldl (fun _ _ h => powerUp_kept h) (put_kept (.refl s)))))

theorem started_kept (s : State) : Kept s (started cause p s) :=
  ((((startRun_kept cause s).trans (startRelease_kept cause p _)).trans (startPower_kept _)).trans (startMarks_kept cause p _)).trans
    (startLoader_kept _)

end

/-! What the stages leave -/

/-- After the domains' loss none but D0 is up. -/
theorem domOn_startRun {s : State} (cause : Nat) {d : Nat} (hs : s.Inv) (hd : d ≠ 0) (hlt : d < 11) :
    domOn d (startRun cause s) = false := by
  have hrun : domOn d (startRun cause s) = domOn d (loseDomains s) := domOn_of_rd
    ((rd_wr_other _ (by decide)).trans ((rd_put_other _ (by decide)).trans (rd_clearTotals_other _ (by decide)))) d
  have hlose : domOn d (loseDomains s) = domOn d ([1, 2, 3, 4, 5, 6, 7, 8, 9, 10].foldl (fun s d => powerDown d s) s) :=
    domOn_of_rd ((rd_dropProducers_other _ [1, 2, 3, 4, 5, 6, 7, 8, 9, 10] (by decide))) d
  have hmem : d ∈ [1, 2, 3, 4, 5, 6, 7, 8, 9, 10] := by
    simp only [List.mem_cons, List.not_mem_nil]
    omega
  rw [hrun, hlose, domOn_foldl_powerDown hs (by decide) hlt, decide_eq_false (not_not_intro hmem), Bool.and_false]

/-- The registers of D0 that the release of a start leaves as they are. -/
def releaseWords : List Nat := [R.SUP_RUN, R.SUP_RESET_CAUSE, R.PMU_DOM_STATUS]

section
variable {a : Nat} (ha : a ∈ releaseWords) (s : State)
include ha

theorem rd_queueTamp (r : TampRec) : rd (queueTamp r s) a = rd s a := by
  have h : ∀ a ∈ releaseWords, a ≠ R.TAMP_STATUS ∧ a ≠ R.TAMP_CAUSE ∧ a ≠ R.INT_HOST_PEND := by decide
  obtain ⟨hs, hc, hp⟩ := h a ha
  unfold queueTamp
  split
  · rfl
  · split
    · exact (rd_put_other _ hs).trans rfl
    · exact (rd_raise_other _ hc hp).trans (rd_put_other _ hs)

theorem rd_sampleDebug (p : Probe) (h7 : domOn 7 s = false) : rd (sampleDebug p s) a = rd s a := by
  have h : ∀ a ∈ releaseWords, a ≠ R.WEL_STATUS := by decide
  have hw := h a ha
  have hclosed : bank2Open (put F.WEL_STATUS_ROOT 1 s) = false := by
    have : domOn 7 (put F.WEL_STATUS_ROOT 1 s) = false := (domOn_put_other 7 1 s (by decide)).trans h7
    simp [bank2Open, this]
  unfold sampleDebug
  split
  · unfold logTamp logTampAt
    rw [hclosed]
    exact (rd_queueTamp ha _ _).trans (rd_put_other 1 hw)
  · exact rd_put_other 0 hw

theorem rd_showIdentity (p : Probe) : rd (showIdentity p s) a = rd s a := by
  have h : ∀ a ∈ releaseWords, a ≠ R.PMU_VMON ∧ a ≠ R.PMU_STATE ∧ a ≠ R.TAMP_STATUS ∧ ∀ w ∈ List.range 4, a ≠ R.SUP_UID w := by decide
  obtain ⟨hv, hp, ht, hu⟩ := h a ha
  have huid : rd (showUid s) a = rd s a := foldl_same (k := fun s => rd s a) (fun t w hw => rd_put_other _ (hu w hw)) s
  rw [showIdentity_eq, ← huid]
  generalize showUid s = t
  unfold showSupplies
  extract_lets u
  have hsup : rd u a = rd t a := (rd_put_other _ hv).trans ((rd_put_other _ hv).trans (rd_put_other _ hp))
  split
  · exact (rd_put_other _ ht).trans ((rd_put_other _ ht).trans hsup)
  · exact hsup

theorem rd_startClocks (por : Bool) (p : Probe) : rd (startClocks por p s) a = rd s a := by
  have h : ∀ a ∈ releaseWords, a ≠ R.CLK_STATUS ∧ a ≠ R.CLK_CTL ∧ a ≠ R.SUP_RTC_STATUS := by decide
  obtain ⟨hc, hk, hr⟩ := h a ha
  unfold startClocks
  extract_lets t u v
  have ht : rd t a = rd s a :=
    (rd_wr_other _ hk).trans ((rd_put_other _ hc).trans ((rd_put_other _ hc).trans ((rd_put_other _ hc).trans (rd_put_other _ hc))))
  have hv : rd v a = rd s a := (rd_put_other _ hc).trans ((rd_put_other _ hc).trans ((rd_put_other _ hc).trans ((rd_put_other _ hc).trans ht)))
  split
  · exact (rd_put_other _ hc).trans ((rd_put_other _ hr).trans hv)
  · exact hv

/-- The release of a start leaves them. -/
theorem rd_startRelease (cause : Nat) (p : Probe) (h7 : domOn 7 s = false) : rd (startRelease cause p s) a = rd s a := by
  rw [startRelease, rd_startClocks ha, rd_showIdentity ha]
  split
  · exact rd_sampleDebug ha s p h7
  · rfl

end

/-- The run and the cause read as they are shown. -/
theorem showRun_spec {s : State} (cause n : Nat) (hs : sparseWf (0 : Word) s.regs = true) :
    run (showRun cause n s) = n % 2 ^ 32 ∧ rd (showRun cause n s) R.SUP_RESET_CAUSE = BitVec.ofNat 32 cause := by
  have hput := rput_wf F.SUP_RUN_RUN (n % 2 ^ 32) _ hs
  refine ⟨?_, rd_wr_same _ _ hput⟩
  have hrun : run (showRun cause n s) = get F.SUP_RUN_RUN (put F.SUP_RUN_RUN (n % 2 ^ 32) s) :=
    congrArg (fieldOf F.SUP_RUN_RUN) (rd_wr_other _ (by decide))
  rw [hrun, get_put_same _ hs rfl]
  exact Nat.mod_mod _ _

/-- The power state's change leaves the domains as they are. -/
theorem domOn_startPower {s : State} (hs : sparseWf (0 : Word) s.regs = true) (d : Nat) : domOn d (startPower s) = domOn d s := by
  have hstate : domOn d (startPower s) = domOn d (put F.PMU_DOM_STATUS_RET 0 s) := domOn_of_rd
    ((rd_put_other _ (by decide)).trans ((rd_put_other _ (by decide)).trans (rd_put_other _ (by decide)))) d
  have hret : get F.PMU_DOM_STATUS_ON (put F.PMU_DOM_STATUS_RET 0 s) = get F.PMU_DOM_STATUS_ON s := get_put_apart 0 hs rfl rfl
  rw [hstate, domOn, domOn, fbit, fbit, hret]

section
variable {s : State} {a : Nat}

/-- Beside the powering up of domains the loader leaves the registers of D0's blocks 0 to 2 as they are. -/
theorem rd_startLoader_domains (ha : blockOf a ≤ 2) :
    rd (startLoader s) a = rd ([1, 4, 5, 6, 7].foldl (fun s d => powerUp d s) (put F.TAMP_STATUS_EVALUATED 0 s)) a := by
  have hc : a ≠ R.CFG_STATUS := by
    rintro rfl
    revert ha
    decide
  unfold startLoader
  extract_lets t u
  have hclaims : rd (unclaimAll u) a = rd u a := rd_applyClaims_other u (by simp) (by simp) (by omega) (by omega)
  exact (rd_setLoader_other _ 1 true false hc).trans (hclaims.trans (rd_put_other _ hc))

/-- The registers of D0 and of the clocks read as before the loader shows its state. -/
theorem rd_startLoader (ha : blockOf a = 0 ∨ blockOf a = 2) : rd (startLoader s) a = rd s a := by
  have ht : a ≠ R.TAMP_STATUS := by
    rintro rfl
    revert ha
    decide
  have hp : a ≠ R.PMU_DOM_STATUS := by
    rintro rfl
    revert ha
    decide
  have hdom : blockDom (blockOf a) = 0 := by obtain h | h := ha <;> rw [h] <;> rfl
  have hup : rd ([1, 4, 5, 6, 7].foldl (fun s d => powerUp d s) (put F.TAMP_STATUS_EVALUATED 0 s)) a = rd (put F.TAMP_STATUS_EVALUATED 0 s) a := by
    refine foldl_same (k := fun s => rd s a) (fun t d hd => rd_powerUp_other t ?_ hp) _
    rw [hdom]
    revert d
    decide
  rw [rd_startLoader_domains (by omega), hup, rd_put_other 0 ht]

/-- The boot's domains go up. -/
theorem domOn_startLoader (hs : s.Inv) {d : Nat} (hd : d < 11) :
    domOn d (startLoader s) = (domOn d s || decide (d ∈ [1, 4, 5, 6, 7])) := by
  have hput : (put F.TAMP_STATUS_EVALUATED 0 s).Inv := (put_kept (.refl s)).inv hs
  rw [domOn_of_rd (rd_startLoader_domains (by decide)) d, domOn_foldl_powerUp hput (by decide) hd, domOn_put_other d 0 s (by decide)]

end

/-- The fields that the clocks' start sets after the operating point. -/
def startClockFields : List Fld :=
  [⟨R.CLK_CTL, 0, 32⟩, F.CLK_STATUS_SYS_SRC, F.CLK_STATUS_MPLL_REF, F.CLK_STATUS_XTAL32_OK, F.CLK_STATUS_XTALM_OK, F.CLK_STATUS_RTC_SRC,
   F.SUP_RTC_STATUS_SIRC]

/-- The clocks start at OP0 (R31). -/
theorem get_startClocks_OP {s : State} (por : Bool) (p : Probe) (hs : sparseWf (0 : Word) s.regs = true) :
    get F.CLK_STATUS_OP (startClocks por p s) = 0 := by
  have hstop := rput_wf F.CLK_STATUS_BUSY 0 _ (rput_wf F.CLK_STATUS_SPLL_LOCK 0 _ (rput_wf F.CLK_STATUS_MPLL_LOCK 0 _ hs))
  generalize hb : put F.CLK_STATUS_BUSY 0 (put F.CLK_STATUS_SPLL_LOCK 0 (put F.CLK_STATUS_MPLL_LOCK 0 s)) = b
  have hwf : sparseWf (0 : Word) b.regs = true := hb ▸ hstop
  have hrest : Chain startClockFields (put F.CLK_STATUS_OP 0 b) (startClocks por p s) := by
    unfold startClocks
    rw [hb]
    extract_lets t u v
    have ht : Chain startClockFields (put F.CLK_STATUS_OP 0 b) t := Chain.wr (.start (rput_wf F.CLK_STATUS_OP 0 _ hwf)) (by decide)
    have hu : Chain startClockFields (put F.CLK_STATUS_OP 0 b) u := (ht.put (by decide) rfl).put (by decide) rfl
    have hv : Chain startClockFields (put F.CLK_STATUS_OP 0 b) v := (hu.put (by decide) rfl).put (by decide) rfl
    exact .ite ((hv.put (by decide) rfl).put (by decide) rfl) hv
  rw [hrest.only.2 F.CLK_STATUS_OP (by decide)]
  exact get_put_same 0 hwf rfl

/-- The loader's state and the guard are shown as they are set. -/
theorem setLoader_shown {s : State} (conf : Nat) (guard fb : Bool) (hs : sparseWf (0 : Word) s.regs = true) :
    get F.CFG_STATUS_STATE (setLoader conf guard fb s) = conf % 2 ^ F.CFG_STATUS_STATE.width ∧
      get F.CFG_STATUS_GUARDED (setLoader conf guard fb s) = b2n guard % 2 := by
  have h := get_putAll (l := [(F.CFG_STATUS_STATE, conf), (F.CFG_STATUS_GUARDED, b2n guard), (F.CFG_STATUS_FALLBACK, b2n fb)]) (s := { s with ld := { s.ld with conf := conf, guard := guard, fallback := fb } }) hs
    (show FieldsApart [F.CFG_STATUS_STATE, F.CFG_STATUS_GUARDED, F.CFG_STATUS_FALLBACK] by decide)
  exact ⟨h (F.CFG_STATUS_STATE, conf) (by simp), h (F.CFG_STATUS_GUARDED, b2n guard) (by simp)⟩

/-! The start up to the event lines -/

section
variable (cause : Nat) (p : Probe) {s : State} (hs : s.Inv)
include hs

/-- Only D0 and the boot's domains are up. -/
theorem domOn_started {d : Nat} (hd : d ≠ 0) (hlt : d < 11) : domOn d (started cause p s) = decide (d ∈ [1, 4, 5, 6, 7]) := by
  have hrun := startRun_kept cause s
  have hrel := hrun.trans (startRelease_kept cause p _)
  have hpow := hrel.trans (startPower_kept _)
  have h7 : domOn 7 (startRun cause s) = false := domOn_startRun cause hs (by decide) (by decide)
  have hmarks : (startMarks cause p (startPower (startRelease cause p (startRun cause s)))).Inv := (startMarks_kept cause p _).inv (hpow.inv hs)
  rw [started, domOn_startLoader hmarks hlt]
  have hoff : domOn d (startMarks cause p (startPower (startRelease cause p (startRun cause s)))) = false := calc
    _ = domOn d (startPower (startRelease cause p (startRun cause s))) := rfl
    _ = domOn d (startRelease cause p (startRun cause s)) := domOn_startPower (hrel.inv hs).1 d
    _ = domOn d (startRun cause s) := domOn_of_rd (rd_startRelease (by decide) _ cause p h7) d
    _ = false := domOn_startRun cause hs hd hlt
  rw [hoff, Bool.false_or]

/-- What is lost, and E0's supervision as the start sets it. -/
theorem volatile_started : volatile (started cause p s) =
    (([], {}, {}, {}), ({}, {}, {}, {}), { planes := s.cis.planes }, none, none, startSup cause (lostSup s.sup), {}) := by
  have h7 : domOn 7 (startRun cause s) = false := domOn_startRun cause hs (by decide) (by decide)
  have hloader : ∀ t, volatile (startLoader t) = volatile t := fun t => by
    unfold startLoader
    rw [volatile_setLoader, volatile_unclaimAll, volatile_put]
    exact foldl_same (fun t d _ => volatile_powerUp t d) _
  have hpower : ∀ t, volatile (startPower t) = volatile t := fun _ => rfl
  have hrel : ∀ t, domOn 7 t = false → volatile (startRelease cause p t) = volatile t := fun t ht => by
    rw [startRelease, volatile_startClocks, volatile_showIdentity]
    split
    · exact volatile_sampleDebug ht p
    · rfl
  have hrun : volatile (startRun cause s) = volatile (loseDomains s) := by
    rw [startRun, showRun, volatile_wr, volatile_put, volatile_clearTotals]
  have h : volatile (startPower (startRelease cause p (startRun cause s))) = volatile (loseDomains s) := by rw [hpower, hrel _ h7, hrun]
  rw [volatile_loseDomains] at h
  rw [started, hloader]
  simp only [volatile, startMarks, Prod.mk.injEq] at h ⊢
  obtain ⟨hmem, hpay, hcis, hku, hsign, hsup, -⟩ := h
  exact ⟨hmem, hpay, hcis, hku, hsign, congrArg (startSup cause) hsup, trivial⟩

/-- No line that rises at the start can act on anything but its own registers and the Well. -/
theorem linesIdle_started : LinesIdle (started cause p s) := by
  have h := volatile_started cause p hs
  simp only [volatile, Prod.mk.injEq] at h
  obtain ⟨-, ⟨hpay, hlmd, -⟩, -, hku, hsign, -⟩ := h
  refine ⟨domOn_started cause p hs (by decide) (by decide), domOn_started cause p hs (by decide) (by decide), ?_, ?_, hsign, hku⟩
  · rw [hlmd]
  · rw [hpay]

/-- The run, the cause and the operating point are shown. -/
theorem started_shown : run (started cause p s) = nextRun cause s % 2 ^ 32 ∧
    rd (started cause p s) R.SUP_RESET_CAUSE = BitVec.ofNat 32 cause ∧ get F.CLK_STATUS_OP (started cause p s) = 0 := by
  have h7 : domOn 7 (startRun cause s) = false := domOn_startRun cause hs (by decide) (by decide)
  have hpow : ∀ a, a ≠ R.PMU_STATE → a ≠ R.PMU_DOM_STATUS → ∀ t, rd (startPower t) a = rd t a := fun a h1 h2 t =>
    (rd_put_other _ h1).trans ((rd_put_other _ h1).trans ((rd_put_other _ h1).trans (rd_put_other _ h2)))
  have hsup : ∀ a ∈ [R.SUP_RUN, R.SUP_RESET_CAUSE], rd (started cause p s) a = rd (startRun cause s) a := fun a ha => by
    have h : ∀ a ∈ [R.SUP_RUN, R.SUP_RESET_CAUSE], blockOf a = 0 ∧ a ≠ R.PMU_STATE ∧ a ≠ R.PMU_DOM_STATUS ∧ a ∈ releaseWords := by decide
    obtain ⟨hb, h1, h2, hrel⟩ := h a ha
    rw [started, rd_startLoader (.inl hb), ← rd_startRelease hrel _ cause p h7]
    exact hpow a h1 h2 _
  have hwf := ((clearTotals_kept (loseDomains_kept (.refl s))).inv hs).1
  obtain ⟨hrun, hcause⟩ := showRun_spec cause (nextRun cause s) hwf
  refine ⟨?_, (hsup _ (by decide)).trans hcause, ?_⟩
  · exact (congrArg (fieldOf F.SUP_RUN_RUN) (hsup R.SUP_RUN (by decide))).trans hrun
  · have hop : get F.CLK_STATUS_OP (started cause p s) = get F.CLK_STATUS_OP (startRelease cause p (startRun cause s)) :=
      congrArg (fieldOf F.CLK_STATUS_OP) ((rd_startLoader (.inr rfl)).trans (hpow _ (by decide) (by decide) _))
    rw [hop]
    exact get_startClocks_OP _ p ((showIdentity_kept (.ite (sampleDebug_kept (startRun_kept cause s)) (startRun_kept cause s))).inv hs).1

/-- The loader shows state 1 in guarded start. -/
theorem started_loader : get F.CFG_STATUS_STATE (started cause p s) = 1 ∧ get F.CFG_STATUS_GUARDED (started cause p s) = 1 := by
  have hkept := ((startRun_kept cause s).trans (startRelease_kept cause p _)).trans ((startPower_kept _).trans (startMarks_kept cause p _))
  refine setLoader_shown 1 true false (((unclaimAll_kept (put_kept (.foldl (fun _ _ h => powerUp_kept h) (put_kept hkept)))).inv hs).1)

end

/-! The whole start -/

section
variable (p : Probe) (s : State)

/-- The loader after the probe (R33). -/
def probed (u : LoadSt) : LoadSt :=
  { u with source := probeSource p, retrySection := 0, reads := 0, fast := p.fast, spiKhz := bodyClock (probeSource p) p.fast
           refused := decide (probeSource p = 0) }

theorem probeMemory_eq : probeMemory p s = raiseIf (decide (probeSource p = 0)) F.CFG_CAUSE_NO_MEMORY { s with ld := probed p s.ld } := rfl

theorem probeMemory_ld : (probeMemory p s).ld = probed p s.ld := by rw [probeMemory_eq, raiseIf_ld]

theorem volatile_probeMemory : volatile (probeMemory p s) = volatile s := by
  rw [probeMemory_eq, volatile_raiseIf]
  rfl

theorem rd_probeMemory_other {a : Nat} (hc : a ≠ R.CFG_CAUSE) (hp : a ≠ R.INT_HOST_PEND) : rd (probeMemory p s) a = rd s a :=
  rd_raiseIf_other _ _ hc hp

/-- Without a memory the loader says so (R33). -/
theorem flag_probeMemory (hs : sparseWf (0 : Word) s.regs = true) (h : probeSource p = 0) : flag F.CFG_CAUSE_NO_MEMORY (probeMemory p s) = true := by
  rw [probeMemory_eq, raiseIf, if_pos (by simp [h])]
  have hraised := raised_raise (f := F.CFG_CAUSE_NO_MEMORY) (s := s) (t := { s with ld := probed p s.ld }) hs rfl rfl (by decide) (by decide) rfl
  exact hraised.flag

end

section
variable (cause : Nat) (p : Probe) {s : State} (hs : s.Inv)
include hs

/-- The registers of D0 and of the clocks read after the start as they did before the lines were brought up to date. -/
theorem rd_doStart {a : Nat} (ha : blockOf a = 0 ∨ blockOf a = 2) : rd (doStart cause p s) a = rd (started cause p s) a := by
  have hne : ∀ b, blockOf b ≠ 0 ∧ blockOf b ≠ 2 → a ≠ b := by
    rintro b hb rfl
    omega
  have hlines := refreshLines_linesOnly (frac := 0) (linesIdle_started cause p hs)
  rw [doStart_eq, rd_probeMemory_other p _ (hne _ (by decide)) (hne _ (by decide)), rd_put_other 1 (hne _ (by decide))]
  refine hlines.reads a ?_
  obtain h | h := ha <;> rw [h] <;> decide

theorem volatile_doStart : volatile (doStart cause p s) =
    (([], {}, {}, {}), ({}, {}, {}, {}), { planes := s.cis.planes }, none, none, startSup cause (lostSup s.sup), {}) := by
  rw [doStart_eq, volatile_probeMemory, volatile_put, (refreshLines_linesOnly (linesIdle_started cause p hs)).volatile, volatile_started cause p hs]

/-- The loader shows what the start set, and that the alarms wait. -/
theorem doStart_loader : get F.CFG_STATUS_STATE (doStart cause p s) = 1 ∧ get F.CFG_STATUS_GUARDED (doStart cause p s) = 1 ∧
    get F.CFG_STATUS_TAMPER_PENDING (doStart cause p s) = 1 ∧ (doStart cause p s).ld = probed p (started cause p s).ld := by
  have hlines := refreshLines_linesOnly (frac := 0) (linesIdle_started cause p hs)
  have hwf : sparseWf (0 : Word) (refreshLines 0 (started cause p s)).regs = true := ((refreshLines_kept (started_kept cause p s)).inv hs).1
  have hprobe : rd (doStart cause p s) R.CFG_STATUS = rd (put F.CFG_STATUS_TAMPER_PENDING 1 (refreshLines 0 (started cause p s))) R.CFG_STATUS := by
    rw [doStart_eq]
    exact rd_probeMemory_other p _ (by decide) (by decide)
  have hshown : ∀ f : Fld, f.addr = R.CFG_STATUS → F.CFG_STATUS_TAMPER_PENDING.apart f = true → get f (doStart cause p s) = get f (started cause p s) := by
    intro f hf hapart
    have h1 : get f (doStart cause p s) = get f (put F.CFG_STATUS_TAMPER_PENDING 1 (refreshLines 0 (started cause p s))) := by
      rw [get, get, hf, hprobe]
    rw [h1, get_put_apart 1 hwf rfl hapart, get, get, hlines.reads f.addr (by rw [hf]; decide)]
  obtain ⟨hstate, hguard⟩ := started_loader cause p hs
  refine ⟨(hshown _ rfl rfl).trans hstate, (hshown _ rfl rfl).trans hguard, ?_, ?_⟩
  · rw [get, hprobe]
    exact get_put_same 1 hwf rfl
  · have hld : (refreshLines 0 (started cause p s)).ld = (started cause p s).ld := hlines.ld
    rw [doStart_eq, probeMemory_ld, ← hld]
    rfl

/-- A start loads, with the next run and its cause shown (R31, R33, R44, R298). -/
theorem doStart_spec : Loads p s (doStart cause p s) ∧ run (doStart cause p s) = nextRun cause s % 2 ^ 32 ∧
    rd (doStart cause p s) R.SUP_RESET_CAUSE = BitVec.ofNat 32 cause ∧ (doStart cause p s).sup = startSup cause (lostSup s.sup) := by
  have hvol := volatile_doStart cause p hs
  simp only [volatile, Prod.mk.injEq] at hvol
  obtain ⟨⟨hmem, hmetro, hen, hspec⟩, ⟨hpay, hlmd, hfab, hpnl⟩, hcis, -, -, hsup, htables⟩ := hvol
  obtain ⟨hstate, hguard, hpend, hld⟩ := doStart_loader cause p hs
  obtain ⟨hrun, hcause, hop⟩ := started_shown cause p hs
  refine ⟨⟨?_, ?_, ?_, ?_, hstate, hguard, hpend, fun h => ?_, ?_, htables, hmem, hmetro, hen, hspec, hpay, hlmd, hfab, hpnl, hcis⟩, ?_, ?_, hsup⟩
  · rw [hsup]; rfl
  · rw [hld]; rfl
  · rw [hld]; rfl
  · rw [guarded, hld]; rfl
  · rw [doStart_eq]
    exact flag_probeMemory p _ ((put_kept (refreshLines_kept (started_kept cause p s))).inv hs).1 h
  · exact (congrArg (fieldOf F.CLK_STATUS_OP) (rd_doStart cause p hs (.inr rfl))).trans hop
  · exact (congrArg (fieldOf F.SUP_RUN_RUN) (rd_doStart cause p hs (.inl rfl))).trans hrun
  · exact (rd_doStart cause p hs (.inl rfl)).trans hcause

end

/-- Settles O15: each event begins the start for its cause, and D0_BROWN_OUT is the power-on reset itself. -/
theorem startBegins : Obligations.StartBegins := by
  unfold Obligations.StartBegins
  refine ⟨fun s p hs hm hc => ?_, fun s p hs hr hm => ?_, fun s p hr => onlyIf_of_false (by simp [hr]) _ s, fun s p hs hm hf hd => ?_,
    fun s p f hs hm hd hv ha hn hf => ?_, fun s => ⟨_, rfl, rfl, rfl, rfl, rfl, rfl, rfl, rfl, rfl, rfl, rfl, rfl, rfl⟩⟩
  · have hexec : execStartUp p s = .next (doStart 1 p (put F.PMU_VMON_VDD_OK 1 s)) := by simp [execStartUp, hm, hc]
    have hput : (put F.PMU_VMON_VDD_OK 1 s).Inv := (put_kept (.refl s)).inv hs
    obtain ⟨hloads, hrun, hcause, hsup⟩ := doStart_spec 1 p hput
    exact ⟨_, hexec, hloads, hrun, hcause, by rw [hsup]; rfl⟩
  · have hexec : execDebugStart p s = .next (doStart 64 p s) := onlyIf_of_true (by obtain h | h := hm <;> simp [hr, h]) _ s
    obtain ⟨hloads, hrun, hcause, hsup⟩ := doStart_spec 64 p hs
    exact ⟨_, hexec, hloads, hrun, hcause, by rw [hsup]; rfl⟩
  · have hexec : execResetNLow p s = .next (doStart 8 p s) :=
      (onlyIf_of_true (by simp [hm]) _ s).trans (by rw [if_neg (by simp [hf]), if_pos hd])
    obtain ⟨hloads, hrun, hcause, hsup⟩ := doStart_spec 8 p hs
    exact ⟨_, hexec, hloads, hrun, hcause, by rw [hsup]; rfl⟩
  · have hexec : execFreezeRestart p s = .next (doStart 128 p s) :=
      (onlyIf_of_true (by simp [hm, hd, hv]) _ s).trans (by simp [ha, hn, hf])
    obtain ⟨hloads, hrun, hcause, hsup⟩ := doStart_spec 128 p hs
    exact ⟨_, hexec, hloads, hrun, hcause, by rw [hsup]; rfl, by rw [hsup]; exact hf⟩

end Sys2Proof.Machine
end

section
/-! SUPPORT. What a load leaves of the loader's marks, of the device's mode and of the digest (O16): metrology, the engines' records and the
lines that a load brings up work beside them. One lemma per operation. A proof `(rfl)` keeps a lemma out of the definitional rewrites, which
the kernel would check by unfolding the whole operation. -/
namespace Sys2Proof.Machine

@[simp] theorem settled_rereadFrom (u : LoadSt) : ({ u with rereadFrom := none } : LoadSt).settled = u.settled := (rfl)
@[simp] theorem settled_keepBad (u : LoadSt) : ({ u with keepBad := false } : LoadSt).settled = u.settled := (rfl)

@[simp] theorem loadMarks_mk (regs hidden mem sup ld conv metro en tamp cis obj hif cap spec bil pay rly well lmd fab pnl free pending) :
    loadMarks (State.mk regs hidden mem sup ld conv metro en tamp cis obj hif cap spec bil pay rly well lmd fab pnl free pending) =
      (ld.settled, sup.mode, sup.digest, sup.freeze) := (rfl)

@[simp] theorem loadMarks_fold (s : State) : (s.ld.settled, s.sup.mode, s.sup.digest, s.sup.freeze) = loadMarks s := (rfl)
@[simp] theorem loadMarks_ite (c : Prop) [Decidable c] (s t : State) :
    loadMarks (if c then s else t) = if c then loadMarks s else loadMarks t := apply_ite _ _ _ _

@[simp] theorem loadMarks_foldl {α : Type} {f : State → α → State} {l : List α} {s : State}
    (h : ∀ s a, loadMarks (f s a) = loadMarks s) : loadMarks (l.foldl f s) = loadMarks s := foldl_same (fun s a _ => h s a) s

@[simp] theorem loadMarks_put (f : Fld) (v : Nat) (s : State) : loadMarks (put f v s) = loadMarks s := (rfl)
@[simp] theorem loadMarks_wr (a : Nat) (v : Word) (s : State) : loadMarks (wr a v s) = loadMarks s := (rfl)
@[simp] theorem loadMarks_putBit (f : Fld) (i : Nat) (b : Bool) (s : State) : loadMarks (putBit f i b s) = loadMarks s := (rfl)
@[simp] theorem loadMarks_raiseAt (f : Fld) (i : Nat) (s : State) : loadMarks (raiseAt f i s) = loadMarks s := by rw [raiseAt_eq]; rfl
@[simp] theorem loadMarks_raise (f : Fld) (s : State) : loadMarks (raise f s) = loadMarks s := loadMarks_raiseAt f 0 s

@[simp] theorem loadMarks_raiseIf (c : Bool) (f : Fld) (s : State) : loadMarks (raiseIf c f s) = loadMarks s := by simp [raiseIf]
@[simp] theorem loadMarks_fresh (s : State) : loadMarks (fresh s).2 = loadMarks s := (rfl)
@[simp] theorem loadMarks_counterAdd (i n : Nat) (s : State) : loadMarks (counterAdd i n s) = loadMarks s := by simp [counterAdd]
@[simp] theorem loadMarks_updLmd (f : LmdSt → LmdSt) (s : State) : loadMarks (updLmd f s) = loadMarks s := (rfl)
@[simp] theorem loadMarks_lmdState (n : Nat) (s : State) : loadMarks (lmdState n s) = loadMarks s := (rfl)
@[simp] theorem loadMarks_unmuteDriver (s : State) : loadMarks (unmuteDriver s) = loadMarks s := by simp [unmuteDriver]
@[simp] theorem loadMarks_wrBytes (a : Nat) (bs : List Byte) (s : State) : loadMarks (wrBytes a bs s) = loadMarks s := (rfl)
@[simp] theorem loadMarks_putSet (i : Nat) (xs : List Int) (s : State) : loadMarks (putSet i xs s) = loadMarks s := (rfl)
@[simp] theorem loadMarks_postSet (xs : List Int) (s : State) : loadMarks (postSet xs s) = loadMarks s := by simp [postSet]
@[simp] theorem loadMarks_legalChange (kind role : Nat) (entries : List (List Byte)) (s : State) :
    loadMarks (legalChange kind role entries s) = loadMarks s := by simp [legalChange]
@[simp] theorem loadMarks_idleRotation (s : State) : loadMarks (idleRotation s) = loadMarks s := by simp [idleRotation]
@[simp] theorem loadMarks_trackerFlags (s : State) : loadMarks (trackerFlags s) = loadMarks s := (rfl)
@[simp] theorem loadMarks_openFrame (s : State) : loadMarks (openFrame s) = loadMarks s := (rfl)
@[simp] theorem loadMarks_legalEvent (kind role : Nat) (entries : List (List Byte)) (s : State) :
    loadMarks (legalEvent kind role entries s) = loadMarks s := by simp [legalEvent]

@[simp] theorem loadMarks_logRereadLoss (s : State) : loadMarks (logRereadLoss s) = loadMarks s := by
  unfold logRereadLoss
  split <;> simp

@[simp] theorem loadMarks_pqAppend (r : PqRec) (s : State) : loadMarks (pqAppend r s) = loadMarks s := by simp [pqAppend]

@[simp] theorem loadMarks_outageRecord (s : State) : loadMarks (outageRecord s) = loadMarks s := by
  unfold outageRecord
  split
  · rfl
  · extract_lets newest f ms
    split
    · rfl
    · exact loadMarks_pqAppend _ _

@[simp] theorem loadMarks_startQuiet (s : State) : loadMarks (startQuiet s) = loadMarks s := by simp [startQuiet]
@[simp] theorem loadMarks_firstFrame (s : State) : loadMarks (firstFrame s) = loadMarks s := by simp [firstFrame]

@[simp] theorem loadMarks_captureTrigger (line frac : Nat) {snd : State → State} (hsnd : ∀ s, loadMarks (snd s) = loadMarks s)
    (s : State) : loadMarks (captureTrigger line frac snd s) = loadMarks s := by
  unfold captureTrigger
  split
  · rfl
  · split
    · dsimp only
      rw [loadMarks_raise]
      split <;> simp [hsnd]
    · split <;> simp

@[simp] theorem loadMarks_updWell (f : WellSt → WellSt) (s : State) : loadMarks (updWell f s) = loadMarks s := (rfl)
@[simp] theorem loadMarks_showWell (s : State) : loadMarks (showWell s) = loadMarks s := (rfl)
@[simp] theorem loadMarks_drbg (s : State) : loadMarks (drbg s).2 = loadMarks s := (rfl)
@[simp] theorem loadMarks_remask (s : State) : loadMarks (remask s) = loadMarks s := (rfl)
@[simp] theorem loadMarks_updFab (f : FabSt → FabSt) (s : State) : loadMarks (updFab f s) = loadMarks s := (rfl)

@[simp] theorem loadMarks_touchRoute (n : Node) (s : State) : loadMarks (touchRoute n s) = loadMarks s := by
  unfold touchRoute
  split
  · rfl
  · split <;> simp

@[simp] theorem loadMarks_queueFrame (bandC : Bool) (f : FabFrame) (s : State) :
    loadMarks (queueFrame bandC f s) = loadMarks s := by simp [queueFrame]
@[simp] theorem loadMarks_addSat (f : Fld) (n : Nat) (s : State) : loadMarks (addSat f n s) = loadMarks s := (rfl)
@[simp] theorem loadMarks_countFrame (k : Nat) (s : State) : loadMarks (countFrame k s) = loadMarks s := (rfl)
@[simp] theorem loadMarks_originate (f : FabFrame) (s : State) : loadMarks (originate f s) = loadMarks s := by simp [originate]

@[simp] theorem loadMarks_sendMessage (m : Message) (s : State) : loadMarks (sendMessage m s) = loadMarks s := by
  unfold sendMessage
  split
  · split
    · simp
    · split <;> simp
  · simp

@[simp] theorem loadMarks_handToE10 (m : Message) (s : State) : loadMarks (handToE10 m s).2 = loadMarks s := by
  unfold handToE10
  split
  · rfl
  · extract_lets m'
    split
    · split <;> simp
    · exact loadMarks_sendMessage m' s

@[simp] theorem loadMarks_respond (mtype msgId : Nat) (to' : Node) (body : List Byte) (s : State) :
    loadMarks (respond mtype msgId to' body s) = loadMarks s := by simp [respond]
@[simp] theorem loadMarks_updObj (f : ObjSt → ObjSt) (s : State) : loadMarks (updObj f s) = loadMarks s := (rfl)
@[simp] theorem loadMarks_updHif (f : HifSt → HifSt) (s : State) : loadMarks (updHif f s) = loadMarks s := (rfl)
@[simp] theorem loadMarks_setSlot (i : Nat) (x : HostSlot) (s : State) : loadMarks (setSlot i x s) = loadMarks s := (rfl)

@[simp] theorem loadMarks_setResponse (i : Nat) (status : Nat) (payload : List Byte) (s : State) :
    loadMarks (setResponse i status payload s) = loadMarks s := by
  unfold setResponse
  split <;> simp

@[simp] theorem loadMarks_answerObject (i code : Nat) (data : List Byte) (s : State) :
    loadMarks (answerObject i code data s) = loadMarks s := by
  unfold answerObject
  split <;> simp

@[simp] theorem loadMarks_answerReply (r : Reply) (code : Nat) (data : List Byte) (s : State) :
    loadMarks (answerReply r code data s) = loadMarks s := by
  unfold answerReply
  split <;> simp

@[simp] theorem loadMarks_kuResult (code op parent child : Nat) (s : State) :
    loadMarks (kuResult code op parent child s) = loadMarks s := (rfl)

@[simp] theorem loadMarks_abortKu (s : State) : loadMarks (abortKu s) = loadMarks s := by
  unfold abortKu
  split <;> simp

@[simp] theorem loadMarks_abortSigning (s : State) : loadMarks (abortSigning s) = loadMarks s := by
  unfold abortSigning
  split <;> simp

@[simp] theorem loadMarks_abortJob (s : State) : loadMarks (abortJob s) = loadMarks s := by
  unfold abortJob
  split <;> simp

@[simp] theorem loadMarks_blankKeys (s : State) : loadMarks (blankKeys s) = loadMarks s := by simp [blankKeys]
@[simp] theorem loadMarks_afterTx (t : TxFrame) (s : State) : loadMarks (afterTx t s) = loadMarks s := (rfl)

@[simp] theorem loadMarks_abandonTx (s : State) : loadMarks (abandonTx s) = loadMarks s := by
  unfold abandonTx
  split <;> simp

@[simp] theorem loadMarks_soundingRepeat (code : Nat) (s : State) : loadMarks (soundingRepeat code s) = loadMarks s := (rfl)
@[simp] theorem loadMarks_abortSounding (code : Nat) (s : State) :
    loadMarks (abortSounding code s) = loadMarks s := by simp [abortSounding]
@[simp] theorem loadMarks_muteDriver (s : State) : loadMarks (muteDriver s) = loadMarks s := by simp [muteDriver]
@[simp] theorem loadMarks_soundForCapture (s : State) : loadMarks (soundForCapture s) = loadMarks s := by simp [soundForCapture]
@[simp] theorem loadMarks_latchStamp (l frac : Nat) (s : State) : loadMarks (latchStamp l frac s) = loadMarks s := by simp [latchStamp]

@[simp] theorem loadMarks_lineRise (frac l : Nat) (s : State) : loadMarks (lineRise frac l s) = loadMarks s := by
  unfold lineRise
  simp [loadMarks_captureTrigger _ _ loadMarks_soundForCapture]

@[simp] theorem loadMarks_refreshLines (frac : Nat) (s : State) : loadMarks (refreshLines frac s) = loadMarks s := by simp [refreshLines]
@[simp] theorem loadMarks_updBill (f : BillRec → BillRec) (s : State) : loadMarks (updBill f s) = loadMarks s := (rfl)
@[simp] theorem loadMarks_updBil (f : BilSt → BilSt) (s : State) : loadMarks (updBil f s) = loadMarks s := (rfl)
@[simp] theorem loadMarks_writeBill (k rate : Nat) (s : State) : loadMarks (writeBill k rate s) = loadMarks s := by simp [writeBill]
@[simp] theorem loadMarks_showDisplay (n : Nat) (s : State) : loadMarks (showDisplay n s) = loadMarks s := by simp [showDisplay]
@[simp] theorem loadMarks_showDisplays (s : State) : loadMarks (showDisplays s) = loadMarks s := by simp [showDisplays]
@[simp] theorem loadMarks_putS (f : Fld) (z : Int) (s : State) : loadMarks (putS f z s) = loadMarks s := (rfl)
@[simp] theorem loadMarks_showBilling (s : State) : loadMarks (showBilling s) = loadMarks s := by simp [showBilling]
@[simp] theorem loadMarks_addReg (r m : Nat) (s : State) : loadMarks (addReg r m s) = loadMarks s := by simp [addReg]

@[simp] theorem loadMarks_addQuantity (rate j e : Nat) (s : State) : loadMarks (addQuantity rate j e s) = loadMarks s := by
  unfold addQuantity
  split <;> simp

@[simp] theorem loadMarks_applyIncs (rate : Nat) (incs : List Nat) (s : State) :
    loadMarks (applyIncs rate incs s) = loadMarks s := by simp [applyIncs]
@[simp] theorem loadMarks_applyDiff (acc : List Nat) (rate : Nat) (s : State) :
    loadMarks (applyDiff acc rate s) = loadMarks s := by simp [applyDiff]
@[simp] theorem loadMarks_rebaseP1 (s : State) : loadMarks (rebaseP1 s) = loadMarks s := by simp [rebaseP1]

@[simp] theorem loadMarks_owe (rate e : Nat) (s : State) : loadMarks (owe rate e s) = loadMarks s := by
  unfold owe
  split
  · rfl
  · split <;> simp

@[simp] theorem loadMarks_evalFriendly (special : List Nat) (c : Int) (s : State) :
    loadMarks (evalFriendly special c s) = loadMarks s := by simp [evalFriendly]

@[simp] theorem loadMarks_stageTariff (s : State) : loadMarks (stageTariff s) = loadMarks s := by
  unfold stageTariff
  split <;> simp

@[simp] theorem loadMarks_newParts (s : State) : loadMarks (newParts s) = loadMarks s := (rfl)
@[simp] theorem loadMarks_newMax (i v t : Nat) (s : State) : loadMarks (newMax i v t s) = loadMarks s := by simp [newMax]
@[simp] theorem loadMarks_closeDemand (natural : Bool) (rate t : Nat) (s : State) :
    loadMarks (closeDemand natural rate t s) = loadMarks s := by simp [closeDemand]
@[simp] theorem loadMarks_putP1 (e : ProfEntry) (s : State) : loadMarks (putP1 e s) = loadMarks s := by simp [putP1]
@[simp] theorem loadMarks_closeP1 (natural outage : Bool) (t : Nat) (s : State) :
    loadMarks (closeP1 natural outage t s) = loadMarks s := by simp [closeP1]
@[simp] theorem loadMarks_writeP2 (day : Int) (t : Nat) (outage gap : Bool) (s : State) :
    loadMarks (writeP2 day t outage gap s) = loadMarks s := by simp [writeP2]
@[simp] theorem loadMarks_updCredit (f : CreditRec → CreditRec) (s : State) : loadMarks (updCredit f s) = loadMarks s := (rfl)
@[simp] theorem loadMarks_startMonth (s : State) : loadMarks (startMonth s) = loadMarks s := by simp [startMonth]
@[simp] theorem loadMarks_monthStart (s : State) : loadMarks (monthStart s) = loadMarks s := by simp [monthStart]
@[simp] theorem loadMarks_snapshot (reason skipped t : Nat) (s : State) :
    loadMarks (snapshot reason skipped t s) = loadMarks s := by simp [snapshot]
@[simp] theorem loadMarks_closePeriod (reason skipped i t : Nat) (s : State) :
    loadMarks (closePeriod reason skipped i t s) = loadMarks s := by simp [closePeriod]

@[simp] theorem loadMarks_stageClose (t : Nat) (s : State) : loadMarks (stageClose t s) = loadMarks s := by
  unfold stageClose
  extract_lets b
  split
  · exact (loadMarks_raiseIf _ _ _).trans ((loadMarks_updBil _ _).trans ((loadMarks_monthStart _).trans (loadMarks_closePeriod _ _ _ _ _)))
  · split <;> simp

@[simp] theorem loadMarks_closePassed (rule : Option (DstEnd × DstEnd)) (i skipped n : Nat) (s : State) :
    loadMarks (closePassed rule i skipped n s) = loadMarks s := by
  induction n generalizing i skipped s with
  | zero => rfl
  | succ n ih => simp [closePassed, ih]

@[simp] theorem loadMarks_closeOutage (tb : Tariff) (fz : Nat) (s : State) : loadMarks (closeOutage tb fz s) = loadMarks s := by
  unfold closeOutage
  extract_lets p pend t1 t2 t3 t4 t5 now from' n t6 d0 d1
  have h1 : loadMarks t1 = loadMarks s := by simp [t1]
  have h2 : loadMarks t2 = loadMarks t1 := by simp [t2]
  have h3 : loadMarks t3 = loadMarks t2 := by simp [t3]
  have h4 : loadMarks t4 = loadMarks t3 := by simp [t4]
  have h5 : loadMarks t5 = loadMarks t4 := by simp [t5]
  have h6 : loadMarks t6 = loadMarks t5 := by simp [t6]
  split <;> simp [h1, h2, h3, h4, h5, h6]

@[simp] theorem loadMarks_restoreBilling (s : State) : loadMarks (restoreBilling s) = loadMarks s := by
  unfold restoreBilling
  extract_lets t1 rec' fz t2 t3 base t4 e0 l t5 t6 t7 t8 t9 t10 t11
  have h5 : loadMarks t5 = loadMarks s := by simp [t5, t4, t3, t2, t1]
  have h7 : loadMarks t7 = loadMarks t5 := by simp [t7, t6]
  have h8 : loadMarks t8 = loadMarks t7 := by
    unfold t8
    split
    · split <;> simp
    · rfl
  have h9 : loadMarks t9 = loadMarks t8 := by simp [t9]
  simp [t11, t10, h9, h8, h7, h5]

@[simp] theorem loadMarks_showRecord (s : State) : loadMarks (showRecord s) = loadMarks s := by
  unfold showRecord
  extract_lets r t ref
  have h : loadMarks t = loadMarks s := loadMarks_foldl fun t p => loadMarks_put _ _ t
  rw [loadMarks_put, loadMarks_wr, h]

@[simp] theorem loadMarks_showOtp (s : State) : loadMarks (showOtp s) = loadMarks s := by simp [showOtp]
@[simp] theorem loadMarks_startCopy (b : Nat) (s : State) : loadMarks (startCopy b s) = loadMarks s := (rfl)

@[simp] theorem loadMarks_startStores (n : Nat) (s : State) : loadMarks (startStores n s) = loadMarks s := by
  induction n generalizing s with
  | zero => rfl
  | succ n ih =>
    unfold startStores
    split
    · rfl
    · split <;> simp [ih]

@[simp] theorem loadMarks_requestStore (b : Nat) (s : State) : loadMarks (requestStore b s) = loadMarks s := by simp [requestStore]

@[simp] theorem loadMarks_storeBanks (m : Nat) (s : State) : loadMarks (storeBanks m s) = loadMarks s := by
  unfold storeBanks
  split
  · rfl
  · split <;> simp

@[simp] theorem loadMarks_deviceStore (b : Nat) (s : State) : loadMarks (deviceStore b s) = loadMarks s := by simp [deviceStore]
@[simp] theorem loadMarks_writeWell (r : WellRec) (s : State) : loadMarks (writeWell r s) = loadMarks s := by simp [writeWell]

@[simp] theorem loadMarks_startWellRec (c m : Option WellRec) (s : State) : loadMarks (startWellRec c m s) = loadMarks s := by
  unfold startWellRec
  split <;> simp

@[simp] theorem loadMarks_startWellKeys (s : State) : loadMarks (startWellKeys s) = loadMarks s := by simp [startWellKeys]

@[simp] theorem loadMarks_startWell (s : State) : loadMarks (startWell s) = loadMarks s := by
  unfold startWell
  extract_lets c m t
  have h : loadMarks t = loadMarks s := rfl
  simp [h]

@[simp] theorem loadMarks_listening (s : State) : loadMarks (listening s) = loadMarks s := (rfl)

@[simp] theorem loadMarks_startModem (s : State) : loadMarks (startModem s) = loadMarks s := by
  unfold startModem
  split
  · rfl
  · extract_lets t b
    refine (loadMarks_listening _).trans ((loadMarks_foldl fun t r => ?_).trans rfl)
    split <;> rfl

@[simp] theorem loadMarks_showCredit (s : State) : loadMarks (showCredit s) = loadMarks s := (rfl)
@[simp] theorem loadMarks_updRly (f : RlySt → RlySt) (s : State) : loadMarks (updRly f s) = loadMarks s := (rfl)
@[simp] theorem loadMarks_drawDelay (s : State) : loadMarks (drawDelay s) = loadMarks s := (rfl)
@[simp] theorem loadMarks_restoreRelays (frozen : Bool) (s : State) :
    loadMarks (restoreRelays frozen s) = loadMarks s := by simp [restoreRelays]
@[simp] theorem loadMarks_restoreCredit (frozen : Bool) (s : State) :
    loadMarks (restoreCredit frozen s) = loadMarks s := by simp [restoreCredit]
@[simp] theorem loadMarks_showUpd (s : State) : loadMarks (showUpd s) = loadMarks s := (rfl)
@[simp] theorem loadMarks_writeUpd (f : UpdRec → UpdRec) (s : State) : loadMarks (writeUpd f s) = loadMarks s := by simp [writeUpd]
@[simp] theorem loadMarks_switchSlot (s : State) : loadMarks (switchSlot s) = loadMarks s := by simp [switchSlot]
@[simp] theorem loadMarks_showObj (s : State) : loadMarks (showObj s) = loadMarks s := (rfl)
@[simp] theorem loadMarks_startPasswords (s : State) : loadMarks (startPasswords s) = loadMarks s := by simp [startPasswords]
@[simp] theorem loadMarks_startObjects (s : State) : loadMarks (startObjects s) = loadMarks s := by simp [startObjects]
@[simp] theorem loadMarks_writeFabRec (s : State) : loadMarks (writeFabRec s) = loadMarks s := by simp [writeFabRec]
@[simp] theorem loadMarks_loadRescue (s : State) : loadMarks (loadRescue s) = loadMarks s := (rfl)

@[simp] theorem loadMarks_loadPlan (p : Nat) (s : State) : loadMarks (loadPlan p s) = loadMarks s := by
  unfold loadPlan
  extract_lets t
  split <;> rfl

@[simp] theorem loadMarks_startFabric (s : State) : loadMarks (startFabric s) = loadMarks s := by
  unfold startFabric
  split
  · rfl
  · split
    · rfl
    · extract_lets t fab t1 b t2
      have h : loadMarks t2 = loadMarks s := by simp [t2, t1]
      split <;> simp [h]

@[simp] theorem loadMarks_sliceEvent (ev slice : Nat) (s : State) :
    loadMarks (sliceEvent ev slice s) = loadMarks s := by simp [sliceEvent]
@[simp] theorem loadMarks_setMap (n v : Nat) (s : State) : loadMarks (setMap n v s) = loadMarks s := (rfl)
@[simp] theorem loadMarks_showSpares (s : State) : loadMarks (showSpares s) = loadMarks s := by simp [showSpares]
@[simp] theorem loadMarks_showCoef (sl : Nat) (c : Int × Int × Int) (s : State) : loadMarks (showCoef sl c s) = loadMarks s := (rfl)

@[simp] theorem loadMarks_startSlice (sl : Nat) (s : State) : loadMarks (startSlice sl s) = loadMarks s := by
  unfold startSlice
  split <;> simp

@[simp] theorem loadMarks_startConverter (s : State) : loadMarks (startConverter s) = loadMarks s := by
  unfold startConverter
  extract_lets cs t1 t2 act pairs conv t3 t4 t5 t6 t7 co conv' t8 t9 ld
  have h2 : loadMarks t2 = loadMarks s := by simp [t2, t1]
  have h5 : loadMarks t5 = loadMarks t2 := by simp [t5, t4, t3]
  have h7 : loadMarks t7 = loadMarks t5 := by simp [t7, t6]
  have h9 : loadMarks t9 = loadMarks t7 := by simp [t9, t8]
  split
  · rw [loadMarks_sliceEvent]
    simp [ld, h9, h7, h5, h2]
  · exact h9.trans (h7.trans (h5.trans h2))

@[simp] theorem loadMarks_align (s : State) : loadMarks (align s) = loadMarks s := by
  unfold align
  extract_lets act top
  exact loadMarks_foldl fun t n => loadMarks_put _ _ t

@[simp] theorem loadMarks_setTracker (st : Nat) (s : State) : loadMarks (setTracker st s) = loadMarks s := by simp [setTracker]
@[simp] theorem loadMarks_setGrid (f : Nat) (s : State) : loadMarks (setGrid f s) = loadMarks s := (rfl)
@[simp] theorem loadMarks_startTracker (s : State) : loadMarks (startTracker s) = loadMarks s := by simp [startTracker]

@[simp] theorem loadMarks_publishAcc (s : State) : loadMarks (publishAcc s) = loadMarks s := by
  unfold publishAcc
  extract_lets t
  exact (loadMarks_foldl fun t k => loadMarks_put _ _ t).trans rfl

@[simp] theorem loadMarks_loadAcc (im : Option AccImage) (s : State) : loadMarks (loadAcc im s) = loadMarks s := by
  unfold loadAcc
  extract_lets acc pulse t
  refine (loadMarks_publishAcc _).trans ((loadMarks_foldl fun t e => ?_).trans rfl)
  exact loadMarks_put _ _ t

@[simp] theorem loadMarks_restoreAcc (s : State) : loadMarks (restoreAcc s) = loadMarks s := by
  unfold restoreAcc
  extract_lets im r t1 quiet t2
  have h1 : loadMarks t1 = loadMarks s := by simp [t1]
  have h2 : loadMarks t2 = loadMarks t1 := by simp [t2]
  simp [h1, h2]

@[simp] theorem loadMarks_startMetro (s : State) : loadMarks (startMetro s) = loadMarks s := by simp [startMetro]
@[simp] theorem loadMarks_resumeBilling (s : State) : loadMarks (resumeBilling s) = loadMarks s := by simp [resumeBilling]
@[simp] theorem loadMarks_loseMem (lo hi : Nat) (s : State) : loadMarks (loseMem lo hi s) = loadMarks s := (rfl)
@[simp] theorem loadMarks_loseCapture (s : State) : loadMarks (loseCapture s) = loadMarks s := (rfl)
@[simp] theorem loadMarks_claimPad (c : PinClaim) (s : State) : loadMarks (claimPad c s) = loadMarks s := by simp [claimPad]
@[simp] theorem loadMarks_freePad (n : Nat) (s : State) : loadMarks (freePad n s) = loadMarks s := (rfl)
@[simp] theorem loadMarks_claimTimer (e : Nat × Nat) (s : State) : loadMarks (claimTimer e s) = loadMarks s := (rfl)

@[simp] theorem loadMarks_applyClaims (pins : List PinClaim) (tims : List (Nat × Nat)) (s : State) :
    loadMarks (applyClaims pins tims s) = loadMarks s := by
  unfold applyClaims
  extract_lets t1 t2 t3 t4
  have h4 : loadMarks t4 = loadMarks s := by simp [t4, t3, t2, t1]
  exact h4

@[simp] theorem loadMarks_d3Off (s : State) : loadMarks (d3Off s) = loadMarks s := (rfl)
@[simp] theorem loadMarks_loadReg (e : Nat × Word) (s : State) : loadMarks (loadReg e s) = loadMarks s := by simp [loadReg]
@[simp] theorem loadMarks_loadRegs (p : Nat → Bool) (l : List (Nat × Word)) (s : State) :
    loadMarks (loadRegs p l s) = loadMarks s := by simp [loadRegs]
@[simp] theorem loadMarks_defaultReg (a : Nat) (m : Word) (s : State) : loadMarks (defaultReg a m s) = loadMarks s := (rfl)
@[simp] theorem loadMarks_defaultRegs (p : Nat → Bool) (s : State) : loadMarks (defaultRegs p s) = loadMarks s := by simp [defaultRegs]
@[simp] theorem loadMarks_chooseMpll (s : State) : loadMarks (chooseMpll s) = loadMarks s := (rfl)

@[simp] theorem loadMarks_loadClaims (k : LoadKind) (t : ImgTables) (s : State) : loadMarks (loadClaims k t s) = loadMarks s := by
  unfold loadClaims
  split <;> simp

@[simp] theorem loadMarks_placeShares (loads : Bool) (s : State) : loadMarks (placeShares loads s) = loadMarks s := by simp [placeShares]
@[simp] theorem loadMarks_sectionCoefs (regs : List (Nat × Word)) (s : State) :
    loadMarks (sectionCoefs regs s) = loadMarks s := by simp [sectionCoefs]

end Sys2Proof.Machine
end

section
/-! SUPPORT. The load's end (O16): a section read again, a failed check that halts the device, an image put in force. -/
namespace Sys2Proof.Machine

/-! A section read again (R34) -/

/-- The first read again of a section halves the clock. -/
theorem exec_sectionRetry_ok {s : State} {sect : Nat} (hc : s.ld.conf = 1) (hr : s.ld.refused = false)
    (hsrc : s.ld.source ≠ 0) (hn : s.ld.retrySection ≠ sect ∨ s.ld.reads ≠ 2) :
    exec (.sectionRetry sect true) s = .next (retryRead sect 2 s) := by
  change execSectionRetry sect true s = _
  unfold execSectionRetry
  extract_lets reading
  refine (onlyIf_of_true (by simp [reading, hc, hr, hsrc]) _ s).trans ?_
  have hfirst : ¬(s.ld.retrySection = sect ∧ s.ld.reads = 2) := not_and_or.mpr hn
  simp [hfirst]

/-- The check that a section fails whose CRC does not hold at its third read. -/
def thirdReadFail (sect : Nat) : ImgFail := { cause := F.CFG_CAUSE_CRC_FAIL, sect := sect }

/-- The loader after the third read of a section has failed: no section is being read again. -/
def thirdRead (sect : Nat) (s : State) : State :=
  { retryRead sect 3 s with ld := { (retryRead sect 3 s).ld with retrySection := 0, reads := 0 } }

/-- The third failed read of a section ends the first pass of a re-read. -/
theorem exec_sectionRetry_third {s : State} {sect : Nat} (hre : s.ld.reread = 1) (hsect : s.ld.retrySection = sect) (hn : s.ld.reads = 2) :
    exec (.sectionRetry sect false) s = .next (passOneFails (showFail (thirdReadFail sect) (thirdRead sect s))) := by
  change execSectionRetry sect false s = _
  unfold execSectionRetry
  extract_lets reading
  refine (onlyIf_of_true (by simp [reading, hre]) _ s).trans ?_
  have hpass : (showFail (thirdReadFail sect) (thirdRead sect s)).ld.reread = 1 := by
    rw [showFail, raise_ld]
    exact hre
  simp only [hsect, hn, and_self, ↓reduceIte]
  exact congrArg Host.Outcome.next (if_pos hpass)

/-! The halted state (R50) -/

/-- The registers of CFG keep what the load showed when the device halts. -/
theorem rd_halt {a : Nat} (s : State) (hb : blockOf a = 7) (hc : a ≠ R.CFG_STATUS) : rd (halt s) a = rd s a := by
  have hne : ∀ b, blockOf b ≠ 7 → a ≠ b := by
    rintro b h rfl
    exact h hb
  unfold halt
  extract_lets t1 sup ld t2 t3
  have h1 : rd t1 a = rd s a := by
    refine foldl_same (k := fun s => rd s a) (fun t d hd => ?_) s
    have hdom : blockDom (blockOf a) ≠ d := by
      rw [hb]
      revert d
      decide
    exact (rd_powerDown_other _ hdom (hne _ (by decide))).trans (rd_clearDom_other t d (hne _ (by decide)))
  have h3 : rd t3 a = rd t1 a := (rd_wr_other _ (hne _ (by decide))).trans (rd_wr_other _ (hne _ (by decide)))
  have hclaims : rd (applyClaims haltedPins [] t3) a = rd t3 a := rd_applyClaims_other t3 (by decide) (by simp) (by omega) (by omega)
  exact (rd_setLoader_other _ 5 true false hc).trans ((rd_put_other 0 hc).trans (hclaims.trans (h3.trans h1)))

/-- The halted device runs in guarded start, without an image's tables. -/
theorem halt_spec {s : State} (hs : s.Inv) : get F.CFG_STATUS_STATE (halt s) = 5 ∧ get F.CFG_STATUS_GUARDED (halt s) = 1 ∧ halted (halt s) = true ∧
    guarded (halt s) = true ∧ (halt s).sup.mode = .running ∧ (halt s).ld.tables = {} := by
  unfold halt
  extract_lets t1 sup ld t2 t3
  have h1 : Kept s t1 := .foldl (fun _ _ h => powerDown_kept (clearDom_kept h)) (.refl s)
  clear_value t1
  have h2 : Kept s t2 := h1.upd rfl rfl rfl rfl rfl rfl rfl rfl rfl
  have hclaims : Kept s (applyClaims haltedPins [] t3) := applyClaims_kept (wr_kept (wr_kept h2))
  have hmarks : loadMarks (applyClaims haltedPins [] t3) = loadMarks t2 := by rw [loadMarks_applyClaims, loadMarks_wr, loadMarks_wr]
  generalize applyClaims haltedPins [] t3 = t4 at hclaims hmarks
  obtain ⟨hstate, hguard⟩ := setLoader_shown 5 true false ((put_kept (f := F.CFG_STATUS_REREAD_BUSY) (v := 0) hclaims).inv hs).1
  have hmode : t4.sup.mode = .running := congrArg (·.2.1) hmarks
  have htables : t4.ld.tables = {} := congrArg (·.1.tables) hmarks
  exact ⟨hstate, hguard, rfl, rfl, hmode, htables⟩

/-- A start whose image is refused halts where the fallback copy is missing (R48, R50). -/
theorem refuseLoading_halts {s : State} (hp : s.ld.partialRun = false) (hr : s.cis.recalled = true) (hf : fallbackRec s = none) :
    refuseLoading s = halt s := by
  simp [refuseLoading, fallbackStart, hp, hr, hf]

/-! An image in force -/

/-- The marks with an image's tables taken and the fields locked. -/
def withTables (t : ImgTables) (regs : List (Nat × Word)) (m : LoadSt × PowerMode × Option Nat × Option FreezeRec) :
    LoadSt × PowerMode × Option Nat × Option FreezeRec := ({ m.1 with tables := t, imageRegs := regs, locked := true }, m.2)

/-- A load's register part takes the tables and locks the fields. -/
theorem loadMarks_writeLoad (k : LoadKind) (regs : List (Nat × Word)) (metro : List Nat) (t : ImgTables) (s : State) :
    loadMarks (writeLoad k regs metro t s) = withTables t regs (loadMarks s) := by
  unfold writeLoad
  extract_lets part prof t1 t2 p ld t3 t4 t5 t6 t7 t8 t9 t10
  have h2 : loadMarks t2 = loadMarks s := by simp [t2, t1]
  have h3 : loadMarks t3 = withTables t regs (loadMarks t2) := by simp [t3]; rfl
  have h5 : loadMarks t5 = loadMarks t3 := by simp [t5, t4]
  have h8 : loadMarks t8 = loadMarks t5 := by simp [t8, t7, t6]
  have h10 : loadMarks t10 = loadMarks t8 := by simp [t10, t9]
  rw [loadMarks_put, h10, h8, h5, h3, h2]

/-- The marks of a device that runs its load. -/
def running (m : LoadSt × PowerMode × Option Nat × Option FreezeRec) : LoadSt × PowerMode × Option Nat × Option FreezeRec :=
  ({ m.1 with partialRun := false, reread := 0, restartAll := false }, .running, m.2.2)

theorem loadMarks_startEngines (k : LoadKind) (s : State) : loadMarks (startEngines k s) = running (loadMarks s) := by
  unfold startEngines
  extract_lets fresh sup ld t1 t2 t3 t4 t5
  have h1 : loadMarks t1 = running (loadMarks s) := rfl
  have h4 : loadMarks t4 = loadMarks t1 := by simp [t4, t3, t2]
  have h5 : loadMarks t5 = loadMarks t4 := by simp [t5]
  rw [loadMarks_ite, loadMarks_restoreBilling, loadMarks_resumeBilling, ite_self, h5, h4, h1]

/-- An image accepted at a start is in force: its tables taken, the fields locked, its METROLOGY hash and its digest kept (R42, R48). -/
theorem acceptImage_start {img : Image} {s : State} (hk : loadKind s = .start) :
    (acceptImage img s).ld.conf = 3 ∧ (acceptImage img s).ld.locked = true ∧ (acceptImage img s).ld.tables = img.tables ∧
      (acceptImage img s).ld.metroHash = Config.sha256 (metroBytes img.sections) ∧
      (acceptImage img s).sup.digest = some (imageDigest img) ∧ (acceptImage img s).sup.mode = .running := by
  unfold acceptImage
  extract_lets k t1 t2 t3 t4 ld sup t5 t6
  have hnot : ¬(k = .keepMetro ∨ k = .restart) := by simp [k, hk]
  rw [if_neg hnot]
  have hconf : t3.ld.conf = 3 := rfl
  have h4 : loadMarks t4 = withTables img.tables (sectionRegs img.sections) (loadMarks t3) := loadMarks_writeLoad _ _ _ _ _
  have h6 : loadMarks t6 = running (loadMarks t5) := loadMarks_startEngines _ _
  clear_value t6 t4 t3
  have hld : t6.ld.settled = (running (loadMarks t5)).1 := congrArg (·.1) h6
  have hld4 : t4.ld.settled = (withTables img.tables (sectionRegs img.sections) (loadMarks t3)).1 := congrArg (·.1) h4
  refine ⟨?_, ?_, ?_, ?_, congrArg (·.2.2.1) h6, congrArg (·.2.1) h6⟩
  · exact (congrArg LoadSt.conf hld).trans ((congrArg LoadSt.conf hld4).trans hconf)
  · exact (congrArg LoadSt.locked hld).trans (congrArg LoadSt.locked hld4)
  · exact (congrArg LoadSt.tables hld).trans (congrArg LoadSt.tables hld4)
  · exact congrArg LoadSt.metroHash hld

section
variable {img : Image} {s : State} (hc : s.ld.conf = 1) (hr : s.ld.refused = false) (hsrc : s.ld.source ≠ 0)
  (hrec : s.cis.recalled = true) (hd : domOn 4 s = true) (hm : s.sup.mode = .loading)
include hc hr hsrc hrec hd hm

/-- IMAGE_VERIFY at a start, the Cistern recalled, of an image that fails a check. -/
theorem exec_imageVerify_fails {f : ImgFail} (hcheck : checkImage img s = some f) :
    exec (.imageVerify img) s = .next (refuseLoading (showFail f (placeImage img s))) := by
  change execImageVerify img s = _
  unfold execImageVerify
  refine (onlyIf_of_true (by simp [hc, hr, hsrc, hrec, hd, hm]) _ s).trans ?_
  have hplaced : checkImage img (placeImage img s) = some f := hcheck
  simp only [hplaced]

/-- IMAGE_VERIFY at a start, the Cistern recalled, of an image that passes every check. -/
theorem exec_imageVerify_passes (hp : s.ld.partialRun = false) (hcheck : checkImage img s = none) :
    exec (.imageVerify img) s = .next (acceptImage img (placeImage img s)) := by
  change execImageVerify img s = _
  unfold execImageVerify
  refine (onlyIf_of_true (by simp [hc, hr, hsrc, hrec, hd, hm]) _ s).trans ?_
  have hplaced : checkImage img (placeImage img s) = none := hcheck
  have hpart : (placeImage img s).ld.partialRun = false := hp
  simp only [hplaced, hpart, Bool.false_eq_true, false_and, if_false]

end

/-- Settles O16: a section is read again or fails its re-read; the image halts the device with its first failed check, or is in force. -/
theorem imageVerification : Obligations.ImageVerification := by
  unfold Obligations.ImageVerification
  refine ⟨fun s sect _ hc hr hsrc hn => exec_sectionRetry_ok hc hr hsrc hn, fun s sect hs hre hsect hn => ?_,
    fun s img f hs hc hr hsrc hrec hd hm hp hcheck hfall => ?_, fun s img hs hc hr hsrc hrec hd hm hp hre hcheck => ?_⟩
  · obtain ⟨hcrc, hfail, hinfo, hkind, hbusy, honly⟩ := passOneFails_showFail (s := thirdRead sect s) (f := thirdReadFail sect) hs
      (by simp [thirdReadFail, checkCauses])
    exact ⟨_, exec_sectionRetry_third hre hsect hn, hcrc, hfail, hinfo, hkind, hbusy, honly⟩
  · have hexec := exec_imageVerify_fails hc hr hsrc hrec hd hm hcheck
    have hplace : (placeImage img s).Inv := (placeImage_kept (.refl s)).inv hs
    obtain ⟨hsect, -, hraised, honly⟩ := showFail_spec (f := f) hplace.1 (checkImage_cause hcheck)
    have hshown : (showFail f (placeImage img s)).Inv := (showFail_kept (.refl _)).inv hplace
    have hhalt : refuseLoading (showFail f (placeImage img s)) = halt (showFail f (placeImage img s)) := by
      refine refuseLoading_halts ?_ ?_ ?_
      · rw [honly.1]; exact hp
      · rw [honly.1]; exact hrec
      · rw [honly.1]; exact hfall
    obtain ⟨hstate, hguard, hhalted, hguarded, hmode, htables⟩ := halt_spec hshown
    refine ⟨_, hexec.trans (congrArg _ hhalt), ?_, ?_, hstate, hhalted, hguarded, hmode, htables, hguard⟩
    · obtain ⟨-, haddr, -⟩ := checkCauses_apart (checkImage_cause hcheck)
      have hcause : get f.cause (halt (showFail f (placeImage img s))) = get f.cause (showFail f (placeImage img s)) :=
        congrArg (fieldOf f.cause) (rd_halt _ (by rw [haddr]; decide) (by rw [haddr]; decide))
      exact (congrArg (· != 0) hcause).trans hraised.flag
    · exact (congrArg (fieldOf F.CFG_FAIL_INFO_SECTION) (rd_halt _ (by decide) (by decide))).trans hsect
  · exact ⟨_, exec_imageVerify_passes hc hr hsrc hrec hd hm hp hcheck, acceptImage_start (by simp [loadKind, placeImage, hp, hre])⟩

end Sys2Proof.Machine
end

section
/-! SUPPORT. The freeze record (R126, O49): what follows the freeze in the power-fail sequence leaves the record alone. -/
namespace Sys2Proof.Machine

theorem freeze_of_loadMarks {s t : State} (h : loadMarks t = loadMarks s) : t.sup.freeze = s.sup.freeze :=
  congrArg (fun m => m.2.2.2) h

section
variable (s : State)

@[simp] theorem loadMarks_updPnl (f : PnlSt → PnlSt) : loadMarks (updPnl f s) = loadMarks s := (rfl)
@[simp] theorem loadMarks_updPay (f : PaySt → PaySt) : loadMarks (updPay f s) = loadMarks s := (rfl)
@[simp] theorem loadMarks_updCis (f : CisSt → CisSt) : loadMarks (updCis f s) = loadMarks s := (rfl)
@[simp] theorem loadMarks_clearRam : loadMarks (clearRam s) = loadMarks s := (rfl)
@[simp] theorem loadMarks_panelFastOff : loadMarks (panelFastOff s) = loadMarks s := by simp [panelFastOff]
@[simp] theorem loadMarks_shedLoad : loadMarks (shedLoad s) = loadMarks s := by simp [shedLoad]
@[simp] theorem loadMarks_powerFailStore : loadMarks (powerFailStore s) = loadMarks s := by simp [powerFailStore]
@[simp] theorem loadMarks_dropUpdate : loadMarks (dropUpdate s) = loadMarks s := by simp [dropUpdate]
@[simp] theorem loadMarks_cutUpdate : loadMarks (cutUpdate s) = loadMarks s := by simp [cutUpdate]
@[simp] theorem loadMarks_writeCredit (k : Nat) : loadMarks (writeCredit k s) = loadMarks s := by simp [writeCredit]
@[simp] theorem loadMarks_dropLoadAtFreeze : loadMarks (dropLoadAtFreeze s) = loadMarks s := by simp [dropLoadAtFreeze]

@[simp] theorem loadMarks_answerToken (r : Reply) (code : Nat) : loadMarks (answerToken r code s) = loadMarks s := by
  cases r <;> simp [answerToken]

@[simp] theorem loadMarks_postToken (code : Nat) (cls : Nat × Nat) (t : Token) :
    loadMarks (postToken code cls t s) = loadMarks s := by simp [postToken]

@[simp] theorem loadMarks_abandonTokens : loadMarks (abandonTokens s) = loadMarks s :=
  (loadMarks_foldl fun u t => loadMarks_postToken u 11 (shownClass t) t).trans (loadMarks_updPay s _)
@[simp] theorem loadMarks_coreRecords : loadMarks (coreRecords s) = loadMarks s := by simp [coreRecords]
@[simp] theorem loadMarks_showPq : loadMarks (showPq s) = loadMarks s := by simp [showPq]
@[simp] theorem loadMarks_showEvents : loadMarks (showEvents s) = loadMarks s := by simp [showEvents]
@[simp] theorem loadMarks_popEvents : loadMarks (popEvents s) = loadMarks s := by simp [popEvents]

@[simp] theorem loadMarks_pqFreeze : loadMarks (pqFreeze s) = loadMarks s := by
  unfold pqFreeze
  split
  · rfl
  · extract_lets one sp t1 t2
    have hone (kind : Nat) (e : Option PqEvent) (u : State) : loadMarks (one kind e u) = loadMarks u := by
      cases e <;> simp [one]
    simp [hone, t2, t1]

end

theorem rtc_put {f : Fld} (v : Nat) (s : State) (hf : R.SUP_RTC_SEC ≠ f.addr) : rtc (put f v s) = rtc s :=
  congrArg (fieldOf F.SUP_RTC_SEC_SEC) (rd_put_other v hf)

theorem rtc_raise {f : Fld} (s : State) (hf : R.SUP_RTC_SEC ≠ f.addr) : rtc (raise f s) = rtc s :=
  congrArg (fieldOf F.SUP_RTC_SEC_SEC) (rd_raise_other s hf (by decide))

/-- The pulse channels stop: only their own counts and the overrun cause are written (R130, R131). -/
theorem rtc_stopPulses (s : State) : rtc (stopPulses s) = rtc s := by
  unfold stopPulses
  refine foldl_same (k := rtc) (fun u k hk => ?_) s
  have hk4 : k < 4 := List.mem_range.mp hk
  have hstat : R.SUP_RTC_SEC ≠ R.NRG_PULSE_STAT k := by simp only [R.SUP_RTC_SEC, R.NRG_PULSE_STAT]; omega
  extract_lets n room t1 t2
  have h2 : rtc t2 = rtc u := rtc_put _ t1 hstat
  split
  · exact (rtc_raise _ (by decide)).trans ((rtc_put _ t2 hstat).trans h2)
  · exact h2

/-- The freeze record holds the RTC second of the state in which the frame has ended. -/
theorem freezeMetro_rtc {src : Nat} {s : State} (h : canFreeze s = true) :
    ∃ f, (freezeMetro src s).sup.freeze = some f ∧
      f.rtc = rtc (endAtFreeze (abandonStaged { s with en := { s.en with imageDue := false } })).2.2 := by
  unfold freezeMetro
  rw [if_neg (by simp [h])]
  extract_lets en r t1 t2 t3 im im' cis b0 t4
  have hmarks : loadMarks (raise F.NRG_CAUSE_FROZEN (put F.NRG_STATUS_FROZEN 1 (coreRecords (pqFreeze t4)))) = loadMarks t3 := by
    simp [t4]
  have h2 : rtc t2 = rtc t1 := by
    refine (rtc_put _ _ ?_).trans ((rtc_put _ _ ?_).trans ((rtc_put _ _ ?_).trans (rtc_put _ _ ?_))) <;> decide
  exact ⟨_, (freeze_of_loadMarks hmarks).trans rfl, h2.trans (rtc_stopPulses _)⟩

/-- What follows the freeze of the power-fail sequence leaves the freeze record alone (R126, R296). -/
theorem powerFail_freeze {src : Nat} {s : State} (hs : get F.PMU_STATE_STATE s ≠ 2) (hop : s.sup.opTarget = none) :
    (powerFail src s).sup.freeze = (freezeMetro src s).sup.freeze := by
  unfold powerFail
  extract_lets entering t1 t2 t3
  have h1 : t1 = s := by simp [t1, entering, hs, opDone, hop]
  have h2 : t2.sup.freeze = (freezeMetro src s).sup.freeze := by
    have hreread : (cutReread (cutUpdate (freezeMetro src t1))).sup.freeze = (cutUpdate (freezeMetro src t1)).sup.freeze := rfl
    rw [← h1]
    exact (freeze_of_loadMarks (loadMarks_undoKu _)).trans (hreread.trans (freeze_of_loadMarks (loadMarks_cutUpdate _)))
  have h3 : t3.sup.freeze = t2.sup.freeze := freeze_of_loadMarks ((loadMarks_powerFailStore _).trans (loadMarks_updHif _ _))
  exact (freeze_of_loadMarks (loadMarks_shedLoad _)).trans (h3.trans h2)

end Sys2Proof.Machine
end

section
/-! SUPPORT. A freeze of a napping device whose last frame makes the DC-injection counter lasting (O49): the counter wakes the device before
the freeze record is made (R115, R271, R277), and the words written back at the wake (R285) need not be the firmware's own. -/
namespace Sys2Proof.Machine

/-- A napping device at the end of a frame whose phase current carries DC: the check of that frame makes counter 57 lasting and wakes the
device. Among the words kept for the wake is one of `SUP_RTC_SEC`, which no entry into NAP keeps, but no hypothesis of the statement
excludes. -/
def nappingDc : State :=
  { st [(F.PMU_VMON_VDD_OK, 1), (F.PHE_FRAME_POS_VALID, 1), (F.PMU_DOM_STATUS_ON, 2 ^ 2), (F.PMU_STATE_STATE, 3), (F.PMU_WAKE_EN_EN, 2 ^ 4),
      (F.TAMP_FC_CFG_N 57, 1), (F.TAMP_FC_RESP_WAKE 57, 1), (F.PHE_CFG_WIRING, 1), (F.PHE_SCALE_SCALE 3, 11), (F.PHE_TAMP_CFG_DC_THR, 1)] with
    sup := { mode := .running, firm := [(R.SUP_RTC_SEC, 7)] }
    ld := { guard := false }
    metro := { spc := 1, pos := 10, hist := [[0, 0, 0, 2 ^ 23]] } }

/-- What the check, the counter and the wake read beside registers and producers. -/
def asleep (s : State) : SupSt × LoadSt × MetroSt × LmdSt × PaySt × ObjSt × Option KeyJob :=
  (s.sup, s.ld, s.metro, s.lmd, s.pay, s.obj, s.well.ku)

/-- `s` follows from `nappingDc` and still naps as it does: the registers of `L` read the same, the producers `p` are tripped. -/
structure Napping (L : List Nat) (p : Nat) (s : State) : Prop where
  kept : Kept nappingDc s
  regs : ∀ a ∈ L, rd s a = rd nappingDc a
  prods : s.tamp.prods = p
  rest : asleep s = asleep nappingDc

namespace Napping
variable {L M : List Nat} {p : Nat} {s : State} (h : Napping L p s)
include h

theorem mono (hM : ∀ a ∈ M, a ∈ L) : Napping M p s := ⟨h.kept, fun a ha => h.regs a (hM a ha), h.prods, h.rest⟩

theorem put {f : Fld} (v : Nat) (hf : f.addr ∉ L) : Napping L p (put f v s) :=
  ⟨put_kept h.kept, fun a ha => (rd_put_other v fun e => hf (e ▸ ha)).trans (h.regs a ha), h.prods, h.rest⟩

theorem raise {f : Fld} (hf : f.addr ∉ L) (hp : R.INT_HOST_PEND ∉ L) : Napping L p (raise f s) := by
  unfold Machine.raise raiseAt
  split
  · exact (h.put _ hf).put _ hp
  · exact h.put _ hf

/-- A change of the tamper state that leaves its producers alone. -/
theorem tamp {x : TampSt} (hx : x.prods = s.tamp.prods) : Napping L p { s with tamp := x } :=
  ⟨h.kept.upd rfl rfl rfl rfl rfl rfl rfl rfl rfl, h.regs, hx.trans h.prods, h.rest⟩

theorem get {f : Fld} (hf : f.addr ∈ L) : get f s = get f nappingDc := congrArg (fieldOf f) (h.regs _ hf)

theorem flag {f : Fld} (hf : f.addr ∈ L) : flag f s = flag f nappingDc := congrArg (· != 0) (h.get hf)

theorem domOn (hL : R.PMU_DOM_STATUS ∈ L) (d : Nat) : domOn d s = domOn d nappingDc := domOn_of_rd (h.regs _ hL) d

theorem sup : s.sup = nappingDc.sup := congrArg (·.1) h.rest

theorem guarded : guarded s = false := congrArg (fun x => x.2.1.guard) h.rest

theorem metro : s.metro = nappingDc.metro := congrArg (·.2.2.1) h.rest

/-- Nothing that the event lines act on is up. -/
theorem idle (hL : R.PMU_DOM_STATUS ∈ L) : LinesIdle s where
  capture := h.domOn hL 3
  driver := h.domOn hL 9
  repeatMute := congrArg (fun x => x.2.2.2.1.repeatMute) h.rest
  decode := congrArg (fun x => x.2.2.2.2.1.dec) h.rest
  signing := congrArg (fun x => x.2.2.2.2.2.1.signing) h.rest
  ku := congrArg (fun x => x.2.2.2.2.2.2) h.rest

theorem refreshLines (frac : Nat) (hL : R.PMU_DOM_STATUS ∈ L) (hb : ∀ a ∈ L, blockOf a ∉ lineBlocks) :
    Napping L p (refreshLines frac s) := by
  have hl := refreshLines_linesOnly (frac := frac) (h.idle hL)
  refine ⟨refreshLines_kept h.kept, fun a ha => (hl.reads a (hb a ha)).trans (h.regs a ha), ?_, ?_⟩
  · rw [hl.rest]; exact h.prods
  · have hrest : asleep (Machine.refreshLines frac s) = asleep s := by
      unfold asleep
      rw [hl.ku, hl.rest]
    exact hrest.trans h.rest

end Napping

/-- The registers that the wake reads. -/
def wakeRegs : List Nat := [R.SUP_RTC_SEC, R.PMU_STATE, R.PMU_WAKE_EN, R.PMU_DOM_STATUS, R.TAMP_FC_RESP 57]

/-- The registers that the counter of DC injection and the wake read. -/
def countRegs : List Nat := [R.TAMP_LASTING 1, R.TAMP_FC_CFG 57] ++ wakeRegs

/-- The registers that the check of DC injection, its counter and the wake read. -/
def checkRegs : List Nat :=
  [R.CNV_CHAN_CFG 3, R.PHE_CFG, R.PHE_SCALE 3, R.PHE_TAMP_CFG, R.PHE_PROFILE_CTL, R.PHE_FRAME_POS] ++ countRegs

theorem nappingDc_inv : nappingDc.Inv := by decide

theorem rtc_coresAtOp0 (s : State) : rtc (coresAtOp0 s) = rtc s := by
  unfold coresAtOp0
  refine (rtc_put _ _ ?_).trans ((rtc_put _ _ ?_).trans ((rtc_put _ _ ?_).trans ((rtc_put _ _ ?_).trans (rtc_put _ _ ?_)))) <;> decide

variable {p : Nat} {s : State}

/-- The wake writes back the words kept for it, and nothing later writes `SUP_RTC_SEC`. -/
theorem rtc_wakeFromNap (h : Napping wakeRegs p s) : rtc (wakeFromNap 4 0 s) = 7 := by
  unfold wakeFromNap
  extract_lets t1 t2 written t3 old t4 t5 t6
  have hwritten : written = [] := by simp [written, bit]
  have h1 : t1.sup = nappingDc.sup := by
    refine (foldl_same (k := State.sup) (fun u d _ => ?_) s).trans h.sup
    split <;> rfl
  have hwf1 : Kept s t1 := Kept.foldl (fun u d hu => Kept.ite hu (putBit_kept (putBit_kept hu))) (.refl s)
  clear_value t1
  have h2 : t2 = t1 := by
    have hnone (b : Nat) (hb : b < 4) : nth none t1.sup.retBanks b = none := by
      rw [h1]
      interval_cases b <;> rfl
    simp [t2, List.range, List.range.loop, hnone]
  have h3 : rtc t3 = 7 := by
    have hfirm : t3 = wr R.SUP_RTC_SEC 7 t1 := by
      simp only [t3, h2, h1]
      rfl
    have hwf : sparseWf (0 : Word) t1.regs = true := (hwf1.inv (h.kept.inv nappingDc_inv)).1
    rw [hfirm]
    exact (congrArg (fieldOf F.SUP_RTC_SEC_SEC) (rd_wr_same R.SUP_RTC_SEC 7 hwf)).trans (by decide)
  clear_value t3
  rw [if_pos (by simp [hwritten])]
  calc rtc t6
      = rtc t5 := (rtc_raise _ (by decide)).trans (rtc_put _ _ (by decide))
    _ = rtc t4 := by unfold t5; rw [rtc_put _ _ (by decide), rtc_put _ _ (by decide), rtc_put _ _ (by decide)]
    _ = rtc t3 := rtc_coresAtOp0 _
    _ = 7 := h3

/-- A counter that becomes lasting wakes the napping device (R286). -/
theorem rtc_wakeSource (h : Napping wakeRegs p s) : rtc (wakeSource 4 0 s) = 7 := by
  have hen : wakeEnabled 4 s = true := by
    rw [wakeEnabled, fbit, h.get (by decide)]
    decide
  have hstate : Machine.get F.PMU_STATE_STATE s = 3 := h.get (by decide)
  rw [wakeSource, if_neg (by simp [hen]), if_neg (by simp [hstate]), if_neg (by simp [hstate]), if_pos hstate]
  exact rtc_wakeFromNap h

/-- Bank 2 being closed, a record of the tamper log waits. -/
theorem Napping.logTampAt {L : List Nat} (h : Napping L p s) (hd : R.PMU_DOM_STATUS ∈ L) (hq : R.TAMP_STATUS ∉ L) (hc : R.TAMP_CAUSE ∉ L)
    (hp : R.INT_HOST_PEND ∉ L) (t kind c frac detail : Nat) : Napping L p (logTampAt t kind c frac detail s) := by
  unfold Machine.logTampAt
  extract_lets v flags f r
  have hf : Napping L p f.2 := ⟨fresh_kept h.kept, h.regs, h.prods, h.rest⟩
  have hclosed : bank2Open s = false := by simp [bank2Open, (h.domOn hd 7).trans (by decide : Machine.domOn 7 nappingDc = false)]
  rw [hclosed, if_neg Bool.false_ne_true, queueTamp]
  split
  · exact hf.tamp rfl
  · split
    · refine Napping.put (f := F.TAMP_STATUS_QUEUED) ?_ _ hq
      exact hf.tamp rfl
    · exact (hf.put (f := F.TAMP_STATUS_LOST) _ hq).raise hc hp

/-- The Cistern being off, the record of the fault counters is due. -/
theorem Napping.keepFaults {L : List Nat} (h : Napping L p s) (hd : R.PMU_DOM_STATUS ∈ L) : Napping L p (keepFaults s) := by
  have hoff : Machine.domOn 7 s = false := h.domOn hd 7
  simp only [Machine.keepFaults, writeFaultRec, hoff, Bool.false_and, Bool.not_false, if_true]
  exact h.tamp rfl

/-- The counter of DC injection becomes lasting: it wakes the device, which is not in guarded start. -/
theorem rtc_becomeLasting (h : Napping wakeRegs p s) (t frac detail : Nat) : rtc (becomeLasting t 57 frac detail s) = 7 := by
  unfold becomeLasting
  extract_lets wakes t1 old t2 t3 t4 t5 t6 t7
  have hwakes : wakes = true := by
    simp only [wakes, h.guarded, h.flag (f := F.TAMP_FC_RESP_WAKE 57) (by decide)]
    decide
  have h1 : Napping wakeRegs p t1 := Napping.put (h.put _ (by decide)) _ (by decide)
  have h2 : Napping wakeRegs p t2 := h1.tamp rfl
  have h3 : Napping wakeRegs p t3 := by
    unfold t3 raiseIf
    split
    · exact h2.raise (by decide) (by decide)
    · exact h2
  have h4 : Napping wakeRegs p t4 := (h3.logTampAt (by decide) (by decide) (by decide) (by decide) _ _ _ _ _).keepFaults (by decide)
  have h5 : Napping wakeRegs p t5 := h4
  have h6 : Napping wakeRegs p t6 := h5.refreshLines _ (by decide) (by decide)
  have h7 : Napping wakeRegs p t7 := by
    have hirq : Machine.flag (F.TAMP_FC_RESP_IRQ 57) t6 = false := h6.flag (by decide)
    simp only [t7, hirq, Bool.false_eq_true, if_false]
    exact h6
  rw [if_pos hwakes]
  exact rtc_wakeSource h7

/-- One occurrence suffices (R271). -/
theorem rtc_occurrenceAt (h : Napping countRegs p s) (t m frac detail : Nat) : rtc (occurrenceAt t m 57 frac detail s) = 7 := by
  unfold occurrenceAt
  extract_lets n hist old t1 k t2 t3
  have hn : n = 1 := h.get (by decide)
  have h1 : Napping countRegs p t1 := h.tamp rfl
  have hk : 1 ≤ k := by
    have hhist : hist = [m] := by simp [hist, hn]
    simp [k, hhist, inWindow]
  have h2 : Napping countRegs p t2 := Napping.put (h1.put _ (by decide)) _ (by decide)
  have h3 : Napping countRegs p t3 :=
    (h2.raise (by decide) (by decide)).logTampAt (by decide) (by decide) (by decide) (by decide) _ _ _ _ _
  have hnew : isLasting 57 t3 = false := by
    rw [isLasting, fbit, h3.get (by decide)]
    decide
  rw [hnew, if_neg Bool.false_ne_true, if_pos ⟨hn.ge, hn.symm ▸ hk⟩]
  exact rtc_becomeLasting (h3.mono (by decide)) _ _ _

/-- The producer of DC injection trips in NAP. -/
theorem rtc_tripProducer (h : Napping countRegs 0 s) : rtc (tripProducer 9 0 0 s) = 7 := by
  have hprod : producer 9 s = false := by simp [producer, h.prods, bit]
  have hdom : Machine.domOn 2 s = true := h.domOn (by decide) 2
  have hup : Machine.domOn (producerDom 9) s = true := hdom
  rw [tripProducer, tripProducerAt, hprod, hup]
  have ht : Napping countRegs (withBit 0 9) { s with tamp := { s.tamp with prods := withBit s.tamp.prods 9 } } :=
    ⟨h.kept.upd rfl rfl rfl rfl rfl rfl rfl rfl rfl, h.regs, congrArg (withBit · 9) h.prods, h.rest⟩
  exact rtc_occurrenceAt ((ht.put _ (by decide)).refreshLines _ (by decide) (by decide)) _ _ _ _

/-- The frame carries DC, more than the threshold (R115). -/
theorem rtc_dcCheck (h : Napping checkRegs 0 s) : rtc (dcCheck s) = 7 := by
  have hpass : inPass s = false := by
    rw [inPass, profile, h.get (by decide)]
    decide
  have hphase : 0 ∈ phases s := by
    have hwired : hasPhase 0 s = true := by
      rw [hasPhase, h.get (by decide)]
      decide
    simp [phases, hwired]
  have hsensor : isRogowski 3 s = false := by
    rw [isRogowski, h.get (by decide)]
    decide
  have hdc : dcValue 3 s = 11000 := by
    rw [dcValue, frameWin, frameLen, cyclesPerFrame, spc, scale, h.flag (by decide), h.get (by decide), h.metro]
    decide
  have hthr : Machine.get F.PHE_TAMP_CFG_DC_THR s = 1 := h.get (by decide)
  unfold dcCheck
  extract_lets thr bad
  rw [if_pos]
  · exact rtc_tripProducer ((h.mono (by decide)).raise (by decide) (by decide))
  · have hover : (!isRogowski (3 + 0) s && decide (thr < (dcValue (3 + 0) s).natAbs)) = true := by simp [hsensor, hdc, thr, hthr]
    simp only [bad]
    exact ⟨by simp [thr, hthr], by simp [hpass], List.any_eq_true.mpr ⟨0, hphase, hover⟩⟩

theorem rtc_captureMark (b : Nat) (s : State) : rtc (captureMark b s) = rtc s := by
  unfold captureMark
  split
  · rfl
  · split <;> rfl

theorem rtc_handToE7 (fl : Nat) (s : State) : rtc (handToE7 fl s) = rtc s := by
  unfold handToE7
  extract_lets f t1 old t2 keep
  have h1 : rtc t1 = rtc s := by
    unfold t1
    split
    · exact rtc_captureMark 3 s
    · rfl
  have h2 : rtc t2 = rtc t1 := by
    unfold t2
    split <;> rfl
  exact h2.trans h1

namespace Napping
variable {L : List Nat} (h : Napping L p s)
include h

/-- A change of the energy engine's state. -/
theorem en (x : EnergySt) : Napping L p { s with en := x } := ⟨h.kept.upd rfl rfl rfl rfl rfl rfl rfl rfl rfl, h.regs, h.prods, h.rest⟩

theorem foldl_put {l : List Nat} {f : Nat → Fld} {v : Nat → State → Nat} (hf : ∀ k ∈ l, (f k).addr ∉ L) :
    Napping L p (l.foldl (fun s k => Machine.put (f k) (v k s) s) s) := by
  induction l generalizing s with
  | nil => exact h
  | cons k l ih =>
    rw [List.forall_mem_cons] at hf
    exact ih (h.put _ hf.1) hf.2

end Napping

theorem Napping.writeAccImage {L : List Nat} (h : Napping L p s) (hd : R.CIS_STATUS ∉ L) (kind smp : Nat) :
    Napping L p (writeAccImage kind smp s) := by
  unfold Machine.writeAccImage dirty
  split
  · exact ⟨h.kept.upd rfl rfl rfl rfl rfl rfl rfl rfl rfl, h.regs, h.prods, h.rest⟩
  · refine Napping.put (f := F.CIS_STATUS_DIRTY) ?_ _ hd
    exact ⟨h.kept.upd rfl rfl rfl rfl rfl rfl rfl rfl rfl, h.regs, h.prods, h.rest⟩

/-- The record of the frame, its published values and its image are nothing that the check of DC injection reads. -/
theorem rtc_completeFrame (h : Napping checkRegs 0 s) (himb : flag F.NRG_STATUS_IMBAL_ACTIVE s = false) : rtc (completeFrame s) = 7 := by
  unfold completeFrame
  extract_lets imbal t1 pend prof fl rolled fl' t2 t3 t4 old t5
  have h1 : Napping checkRegs 0 t1 := by
    have hno : (flag F.NRG_STATUS_IMBAL_ACTIVE s && !s.en.imbalAny) ≠ true := by simp [himb]
    refine (congrArg (Napping checkRegs 0) (if_neg hno)).mpr ?_
    exact h.en _
  have h2 : Napping checkRegs 0 t2 := by
    unfold t2 pushRec
    split
    · exact h1.en _
    · split
      · exact Napping.raise (h1.en _) (by decide) (by decide)
      · exact h1.en _
  have h3 : Napping checkRegs 0 t3 := by
    refine Napping.foldl_put (f := F.NRG_ACC_LO_ACC) ?_ (by decide)
    refine Napping.put (Napping.en ?_ _) _ (by decide)
    exact Napping.foldl_put (f := F.PHE_RES_VALUE) h2 (by decide)
  have h4 : Napping checkRegs 0 t4 := Napping.put (h3.put _ (by decide)) _ (by decide)
  have h5 : Napping checkRegs 0 t5 := by
    unfold t5
    split
    · exact (h4.en _).writeAccImage (by decide) _ _
    · exact h4
  exact (rtc_handToE7 _ _).trans (rtc_dcCheck h5)

/-- The state in which the freeze begins: VDD noted as gone. -/
def vddLost : State := raise F.PMU_CAUSE_PF_VDD (put F.PMU_VMON_VDD_OK 0 nappingDc)

/-- The state in which the freeze ends the frame. -/
def atFrameEnd : State := abandonStaged { vddLost with en := { vddLost.en with imageDue := false } }

theorem atFrameEnd_napping : Napping checkRegs 0 atFrameEnd where
  kept := by
    refine abandonStaged_kept ?_
    exact Kept.upd (raise_kept (put_kept (.refl nappingDc))) rfl rfl rfl rfl rfl rfl rfl rfl rfl
  regs := by decide
  prods := by decide
  rest := rfl

/-- The frame being complete, the freeze ends it as usual (R126). -/
theorem rtc_endAtFreeze : rtc (endAtFreeze atFrameEnd).2.2 = 7 := by
  have hchain : ¬ atFrameEnd.metro.chainDown = true := by decide
  have hcycle : ¬ atCycleEnd atFrameEnd = true := by decide
  have hpos : ¬ atFrameEnd.metro.pos = 0 := by decide
  have hlen : atFrameEnd.metro.pos = frameLen atFrameEnd := by decide
  unfold endAtFreeze
  rw [if_neg hchain, if_neg hcycle, if_neg hpos, if_pos hlen]
  exact rtc_completeFrame atFrameEnd_napping (by decide)

/-- VDD lost in this nap: the freeze record holds the RTC second that was written back, not the device's own. -/
theorem vddMonitorTrip_nappingDc : ∃ f t, exec .vddMonitorTrip nappingDc = .next t ∧ t.sup.freeze = some f ∧ f.rtc = 7 := by
  have hexec : exec .vddMonitorTrip nappingDc = .next (powerFail 1 vddLost) := by
    change execVddMonitorTrip nappingDc = _
    unfold execVddMonitorTrip
    refine (onlyIf_of_true (by decide) _ nappingDc).trans (congrArg Host.Outcome.next ?_)
    change (if _ then _ else if _ then _ else if _ then powerFail 1 vddLost else _) = _
    rw [if_neg (by decide), if_neg (by decide), if_pos (by decide)]
  obtain ⟨f, hf, hrtc⟩ := freezeMetro_rtc (src := 1) (s := vddLost) (by decide)
  refine ⟨f, _, hexec, (powerFail_freeze (by decide) (by decide)).trans hf, hrtc.trans rtc_endAtFreeze⟩

/-- Refutes O49: where the frame that the freeze ends wakes the device from NAP, the freeze record need not hold the RTC second before the
event, as the words kept for the wake may hold `SUP_RTC_SEC` itself (the clause on a freeze after the first valid frame). -/
theorem not_supplyLoss : ¬ Obligations.SupplyLoss := by
  unfold Obligations.SupplyLoss
  rintro ⟨-, hfreeze, -⟩
  obtain ⟨t, hexec, -, -, -, -, -, ⟨f, hf, -, hrtc⟩, -⟩ := hfreeze nappingDc nappingDc_inv (by decide) (by decide) (by decide)
  obtain ⟨g, u, hnext, hg, hseven⟩ := vddMonitorTrip_nappingDc
  obtain rfl : u = t := Host.Outcome.next.inj (hnext.symm.trans hexec)
  obtain rfl : f = g := Option.some.inj (hf.symm.trans hg)
  rw [hseven] at hrtc
  exact absurd hrtc (by decide)

end Sys2Proof.Machine
end

section
/-! SUPPORT. How the register map is followed through a command that changes other parts of the state beside it, and what one
occurrence of a fault counter does while the counter does not become lasting (R271). -/
namespace Sys2Proof.Machine

/-! Register maps -/

/-- From `r` to `r'` only bits of the fields `L` have changed, no bit of `INT_HOST_PEND` has been cleared, and the canonical form holds. -/
structure Touches (L : List Fld) (r r' : Sparse Word) : Prop where
  reads : ∀ g : Fld, (∀ f ∈ L, f.apart g = true) → rget g r' = rget g r
  pend : ∀ b, (rget F.INT_HOST_PEND_PEND r).testBit b = true → (rget F.INT_HOST_PEND_PEND r').testBit b = true
  wf : sparseWf (0 : Word) r' = true

/-- Fields of different registers share no bit. -/
theorem Fld.apart_of_addr {f g : Fld} (h : f.addr ≠ g.addr) : f.apart g = true := by simp [Fld.apart, h]

namespace Touches
variable {L M : List Fld} {r r' r'' : Sparse Word} {s t : State} {f : Fld}

theorem refl (h : sparseWf (0 : Word) r = true) : Touches L r r := ⟨fun _ _ => rfl, fun _ h => h, h⟩

theorem trans (h : Touches L r r') (g : Touches L r' r'') : Touches L r r'' :=
  ⟨fun x hx => (g.reads x hx).trans (h.reads x hx), fun b hb => g.pend b (h.pend b hb), g.wf⟩

theorem mono (h : Touches L r r') (hLM : L ⊆ M) : Touches M r r' :=
  ⟨fun g hg => h.reads g fun f hf => hg f (hLM hf), h.pend, h.wf⟩

/-- One field set. -/
theorem put {v : Nat} (h : Touches L r t.regs) (hf : f ∈ L) (hw : f.inWord = true) (hp : f.apart F.INT_HOST_PEND_PEND = true) :
    Touches L r (put f v t).regs where
  reads g hg := (get_put_apart v h.wf hw (hg f hf)).trans (h.reads g hg)
  pend b hb := by
    have hb' : (Machine.get F.INT_HOST_PEND_PEND t).testBit b = true := h.pend b hb
    rwa [← get_put_apart v h.wf hw hp] at hb'
  wf := rput_wf f v _ h.wf

/-- One cause raised. -/
theorem raise (h : Touches L r t.regs) (hf : f ∈ L) (hL : F.INT_HOST_PEND_PEND ∈ L) (hw : f.inWord = true)
    (hp : f.apart F.INT_HOST_PEND_PEND = true) : Touches L r (raise f t).regs where
  reads g hg := (get_raise_apart h.wf hw (hg f hf) (hg _ hL)).trans (h.reads g hg)
  pend b hb := pend_raise h.wf hw hp (h.pend b hb)
  wf := by rw [raise_regs]; exact rraise_wf f 0 _ h.wf

theorem raiseIf {c : Bool} (h : Touches L r t.regs) (hf : f ∈ L) (hL : F.INT_HOST_PEND_PEND ∈ L) (hw : f.inWord = true)
    (hp : f.apart F.INT_HOST_PEND_PEND = true) : Touches L r (raiseIf c f t).regs := by
  unfold Machine.raiseIf
  split
  · exact h.raise hf hL hw hp
  · exact h

/-- Fields set one after the other. -/
theorem putAll {l : List (Fld × Nat)} (h : Touches L r t.regs) (hl : l.map (·.1) ⊆ L)
    (hw : ∀ f ∈ l.map (·.1), f.inWord = true ∧ f.apart F.INT_HOST_PEND_PEND = true) : Touches L r (putAll l t).regs := by
  induction l generalizing t with
  | nil => exact h
  | cons e l ih =>
    rw [List.map_cons, List.cons_subset] at hl
    rw [List.map_cons, List.forall_mem_cons] at hw
    exact ih (h.put hl.1 hw.1.1 hw.1.2) hl.2 hw.2

/-- A field apart from those of `L` reads as before. -/
theorem get (h : Touches L s.regs t.regs) {g : Fld} (hg : ∀ f ∈ L, f.apart g = true) : get g t = get g s := h.reads g hg

theorem flag (h : Touches L s.regs t.regs) {g : Fld} (hg : ∀ f ∈ L, f.apart g = true) : flag g t = flag g s := by
  rw [Machine.flag, Machine.flag, h.get hg]

theorem fbit (h : Touches L s.regs t.regs) {g : Fld} {i : Nat} (hg : ∀ f ∈ L, f.apart g = true) : fbit g i t = fbit g i s := by
  rw [Machine.fbit, Machine.fbit, h.get hg]

/-- A register with no field in `L` reads as before. -/
theorem rd (h : Touches L s.regs t.regs) {a : Nat} (ha : ∀ f ∈ L, f.addr ≠ a) : rd t a = rd s a := by
  have hw : ∀ w : Word, fieldOf ⟨a, 0, 32⟩ w = w.toNat := fun w => Nat.mod_eq_of_lt w.isLt
  have hr := h.get (g := ⟨a, 0, 32⟩) fun f hf => Fld.apart_of_addr (ha f hf)
  rw [Machine.get, Machine.get, hw, hw] at hr
  exact BitVec.eq_of_toNat_eq hr

/-- The frame of a statement, once the other parts of the state are known. -/
theorem onlyFlds (h : Touches L r t.regs) (ht : t = { s with regs := t.regs }) (hr : s.regs = r) : OnlyFlds L s t :=
  ⟨ht, fun g hg => (h.reads g hg).trans (congrArg (rget g) hr.symm)⟩

end Touches

section
variable {c : Fld} {s t u : State} {L : List Fld}

/-- A cause stays raised while only fields apart from it change. -/
theorem Raised.touches (h : Raised c s t) (ht : Touches L t.regs u.regs) (hc : ∀ f ∈ L, f.apart c = true) : Raised c s u := by
  refine ⟨?_, fun he => ht.pend _ (h.2 he)⟩
  rw [ht.fbit hc]
  exact h.1

/-- A cause raised after fields have changed, told from before they had. -/
theorem Raised.rebase (h : Raised c t u) (ht : Touches L s.regs t.regs) (he : ∀ f ∈ L, f.addr ≠ enableOf c.addr) : Raised c s u := by
  refine ⟨h.1, ?_⟩
  rw [← ht.rd he]
  exact h.2

/-- A cause raised after fields have changed, none of them in its enable register. -/
theorem Touches.raised (h : Touches L s.regs t.regs) (hw : c.inWord = true) (hp : F.INT_HOST_PEND_PEND.apart c = true)
    (h1 : 0 < c.width) (hb : blockOf c.addr < 28) (he : ∀ f ∈ L, f.addr ≠ enableOf c.addr) :
    Raised c s (Machine.raise c t) :=
  raised_raise h.wf hw hp h1 hb (h.rd he).symm

end

section
variable {L : List Fld} {l : List (Fld × Nat)} {s : State} (hs : sparseWf (0 : Word) s.regs = true)
include hs

/-- The fields `L` set one after the other: each reads what it was set to, and nothing else changes. -/
theorem putAll_spec (L : List Fld) (hl : l.map (·.1) = L) (hL : FieldsApart (F.INT_HOST_PEND_PEND :: L)) :
    (∀ e ∈ l, get e.1 (putAll l s) = e.2 % 2 ^ e.1.width) ∧ Touches L s.regs (putAll l s).regs := by
  subst hl
  obtain ⟨hin, hpair⟩ := hL
  rw [List.forall_mem_cons] at hin
  rw [List.pairwise_cons] at hpair
  exact ⟨get_putAll hs ⟨hin.2, hpair.2⟩, (Touches.refl hs).putAll (List.Subset.refl _)
    fun f hf => ⟨hin.2 f hf, (Fld.apart_comm _ _).trans (hpair.1 f hf)⟩⟩

/-- A cause raised after the fields `L` have been set. -/
theorem raise_putAll_spec (L : List Fld) (c : Fld) (hl : l.map (·.1) = L) (hL : FieldsApart (F.INT_HOST_PEND_PEND :: c :: L))
    (h1 : 0 < c.width) (hb : blockOf c.addr < 28) (he : ∀ f ∈ L, enableOf c.addr ≠ f.addr) :
    (∀ e ∈ l, get e.1 (raise c (putAll l s)) = e.2 % 2 ^ e.1.width) ∧ Raised c s (raise c (putAll l s)) ∧
      OnlyFlds (F.INT_HOST_PEND_PEND :: c :: L) s (raise c (putAll l s)) := by
  subst hl
  exact raise_putAll hs c hL h1 hb he

end

/-- Fields set change registers alone. -/
theorem putAll_eq (l : List (Fld × Nat)) (s : State) : putAll l s = { s with regs := (putAll l s).regs } := by
  induction l generalizing s with
  | nil => rfl
  | cons e l ih => exact ih (put e.1 e.2 s)

/-! A write of a register whose fields a master may read and write -/

/-- The description of a read-write field. -/
def rwField (f : Fld) : FieldDesc := ⟨f.lo, f.width, .rw⟩

/-- The fields `L` with their parts of the word written. -/
def argsOf (L : List Fld) (w : Word) : List (Fld × Nat) := L.map fun f => (f, arg f w)

theorem argsOf_fst (L : List Fld) (w : Word) : (argsOf L w).map (·.1) = L := by
  rw [argsOf, List.map_map]
  exact List.map_id L

section
variable {a : Nat} {L : List Fld} {w : Word} {s : State} (hs : sparseWf (0 : Word) s.regs = true)
include hs

/-- Fields of one register set one after the other from a word leave what a write of the word leaves. -/
theorem rd_putAll_arg (ha : ∀ f ∈ L, f.addr = a) (hw : ∀ f ∈ L, f.inWord = true) :
    rd (putAll (argsOf L w) s) a = (L.map rwField).foldl (writeField s.ld.locked w) (rd s a) := by
  induction L generalizing s with
  | nil => rfl
  | cons f L ih =>
    rw [List.forall_mem_cons] at ha hw
    obtain ⟨rfl, ha⟩ := ha
    have hput : rd (put f (arg f w) s) f.addr = writeField s.ld.locked w (rd s f.addr) (rwField f) :=
      (rd_wr_same _ _ hs).trans (writeField_rw _ f w _ hw.1).symm
    rw [List.map_cons, List.foldl_cons, ← hput]
    exact ih (rput_wf _ _ _ hs) ha hw.2

/-- A write that takes the fields `L` alone: each reads its part of the word, and nothing else changes. -/
theorem plainWrite_spec (ha : ∀ f ∈ L, f.addr = a) (hL : FieldsApart (F.INT_HOST_PEND_PEND :: L))
    (hw : writtenWord a w s = (L.map rwField).foldl (writeField s.ld.locked w) (rd s a)) :
    (∀ f ∈ L, get f (plainWrite a w s) = arg f w) ∧ Touches L s.regs (plainWrite a w s).regs := by
  obtain ⟨hin, hpair⟩ := hL
  rw [List.forall_mem_cons] at hin
  rw [List.pairwise_cons] at hpair
  have hsame : ∀ b, rd (plainWrite a w s) b = rd (putAll (argsOf L w) s) b := fun b => by
    by_cases hb : b = a
    · rw [hb, plainWrite, rd_wr_same _ _ hs, hw, rd_putAll_arg hs ha hin.2]
    · rw [plainWrite, rd_wr_other _ hb, rd_putAll_other]
      rw [argsOf_fst]
      exact fun f hf => by rwa [ha f hf]
  have hget : ∀ g, get g (plainWrite a w s) = get g (putAll (argsOf L w) s) := fun g =>
    congrArg (fieldOf g) (hsame g.addr)
  have hall : Touches L s.regs (putAll (argsOf L w) s).regs :=
    (Touches.refl hs).putAll (by rw [argsOf_fst]; exact List.Subset.refl L)
      (by rw [argsOf_fst]; exact fun f hf => ⟨hin.2 f hf, (Fld.apart_comm _ _).trans (hpair.1 f hf)⟩)
  refine ⟨fun f hf => ?_, fun g hg => (hget g).trans (hall.reads g hg), fun b hb => ?_, sparseSet_wf _ _ _ hs⟩
  · have hmem : (f, arg f w) ∈ argsOf L w := List.mem_map_of_mem hf
    rw [hget]
    exact (get_putAll hs (by rw [argsOf_fst]; exact ⟨hin.2, hpair.2⟩) _ hmem).trans (Nat.mod_mod _ _)
  · have hpend := hall.pend b hb
    rw [← get_eq] at hpend ⊢
    rwa [hget]

end

/-! The Cistern's banks and the tamper log -/

/-- A bank marked dirty. -/
theorem Touches.dirty {L : List Fld} {r : Sparse Word} {t : State} {b : Nat} (h : Touches L r t.regs) (hL : F.CIS_STATUS_DIRTY ∈ L) :
    Touches L r (dirty b t).regs := by
  unfold Machine.dirty
  split
  · exact h
  · exact h.put hL rfl rfl

/-- What a bank's write leaves beside the registers and the Cistern. -/
theorem dirty_eq (b : Nat) (s : State) : dirty b s = { s with regs := (dirty b s).regs, cis := (dirty b s).cis } := by
  unfold dirty
  split <;> rfl

@[simp] theorem dirty_cis_b1 (b : Nat) (s : State) : (dirty b s).cis.b1 = s.cis.b1 := by
  unfold dirty
  split <;> rfl

@[simp] theorem dirty_cis_b2 (b : Nat) (s : State) : (dirty b s).cis.b2 = s.cis.b2 := by
  unfold dirty
  split <;> rfl

/-- The state without the registers and the Cistern. -/
def beyondCis (s : State) : State := { s with regs := [], cis := {} }

/-- A state that agrees beyond them. -/
theorem eq_of_beyondCis {s t : State} (h : beyondCis t = beyondCis s) : t = { s with regs := t.regs, cis := t.cis } :=
  congrArg (fun u : State => { u with regs := t.regs, cis := t.cis }) h

/-- A state that agrees beyond them with one whose converter part may differ. -/
theorem eq_of_beyondCis_conv {s t : State} (c : ConvSt) (h : beyondCis t = beyondCis { s with conv := c }) :
    t = { s with regs := t.regs, conv := t.conv, cis := t.cis } :=
  congrArg (fun u : State => { u with regs := t.regs, conv := t.conv, cis := t.cis }) h

@[simp] theorem beyondCis_put (f : Fld) (v : Nat) (s : State) : beyondCis (put f v s) = beyondCis s := rfl
@[simp] theorem beyondCis_raise (f : Fld) (s : State) : beyondCis (raise f s) = beyondCis s := by rw [raise_eq]; rfl
@[simp] theorem beyondCis_dirty (b : Nat) (s : State) : beyondCis (dirty b s) = beyondCis s := by rw [dirty_eq]; rfl
@[simp] theorem beyondCis_counterAdd (i n : Nat) (s : State) : beyondCis (counterAdd i n s) = beyondCis s := beyondCis_dirty _ _
@[simp] theorem beyondCis_writeKeep (g : KeepRec → KeepRec) (s : State) : beyondCis (writeKeep g s) = beyondCis s := beyondCis_dirty _ _

/-- The state without the parts in which an occurrence is counted and logged. -/
def beyondLog (s : State) : State := { s with regs := [], tamp := {}, cis := {}, free := 0 }

/-- A state that agrees beyond them. -/
theorem eq_of_beyondLog {s t : State} (h : beyondLog t = beyondLog s) :
    t = { s with regs := t.regs, tamp := t.tamp, cis := t.cis, free := t.free } :=
  congrArg (fun u : State => { u with regs := t.regs, tamp := t.tamp, cis := t.cis, free := t.free }) h

/-- A state that agrees beyond them with one whose converter part may differ. -/
theorem eq_of_beyondLog_conv {s t : State} (c : ConvSt) (h : beyondLog t = beyondLog { s with conv := c }) :
    t = { s with regs := t.regs, conv := t.conv, tamp := t.tamp, cis := t.cis, free := t.free } :=
  congrArg (fun u : State => { u with regs := t.regs, conv := t.conv, tamp := t.tamp, cis := t.cis, free := t.free }) h

@[simp] theorem beyondLog_put (f : Fld) (v : Nat) (s : State) : beyondLog (put f v s) = beyondLog s := rfl
@[simp] theorem beyondLog_putAll (l : List (Fld × Nat)) (s : State) : beyondLog (putAll l s) = beyondLog s := by rw [putAll_eq]; rfl
@[simp] theorem beyondLog_raise (f : Fld) (s : State) : beyondLog (raise f s) = beyondLog s := by rw [raise_eq]; rfl

@[simp] theorem beyondLog_dirty (b : Nat) (s : State) : beyondLog (dirty b s) = beyondLog s := by rw [dirty_eq]; rfl

@[simp] theorem beyondLog_putTamp (x : TampRec) (s : State) : beyondLog (putTamp x s) = beyondLog s := by
  unfold putTamp
  extract_lets n t
  split
  · exact beyondLog_dirty _ _
  · exact (beyondLog_dirty _ _).trans (beyondLog_dirty _ _)

@[simp] theorem beyondLog_queueTamp (x : TampRec) (s : State) : beyondLog (queueTamp x s) = beyondLog s := by
  unfold queueTamp
  split
  · rfl
  · split
    · rfl
    · exact beyondLog_raise _ _

theorem beyondLog_logTampAt (t kind c frac detail : Nat) (s : State) : beyondLog (logTampAt t kind c frac detail s) = beyondLog s := by
  unfold logTampAt
  extract_lets v flags f x
  split
  · exact beyondLog_putTamp x f.2
  · exact beyondLog_queueTamp x f.2

/-- The fields in which a record of the tamper log shows: the queue in D0 or bank 2, with the cause of a lost one (R277). -/
def logFlds : List Fld :=
  [F.TAMP_CAUSE_LOG_LOST, F.TAMP_STATUS_QUEUED, F.TAMP_STATUS_LOST, F.CIS_STATUS_DIRTY, F.INT_HOST_PEND_PEND]

section
variable {L : List Fld} {r : Sparse Word} {s : State} (h : Touches logFlds r s.regs)
include h

theorem Touches.putTamp (x : TampRec) : Touches logFlds r (putTamp x s).regs := by
  unfold Machine.putTamp
  extract_lets n t
  split
  · exact Touches.dirty h (by decide)
  · refine Touches.dirty ?_ (by decide)
    exact Touches.dirty h (by decide)

theorem Touches.queueTamp (x : TampRec) : Touches logFlds r (queueTamp x s).regs := by
  unfold Machine.queueTamp
  split
  · exact h
  · split
    · exact Touches.put h (by decide) rfl rfl
    · exact (h.put (by decide) rfl rfl).raise (by decide) (by decide) rfl rfl

theorem Touches.logTampAt (t kind c frac detail : Nat) : Touches logFlds r (logTampAt t kind c frac detail s).regs := by
  unfold Machine.logTampAt
  extract_lets v flags f x
  have hf : Touches logFlds r f.2.regs := h
  split
  · exact hf.putTamp x
  · exact hf.queueTamp x

end

/-! One occurrence of a fault counter -/

/-- What an occurrence of counter `c` notes beside the registers: its time among the last N, the totals (R271). -/
def noteOccurrence (c : Nat) (s : State) : State :=
  { s with tamp := { s.tamp with
    hist := upd s.tamp.hist c fun _ => (s.sup.mono :: nth [] s.tamp.hist c).take (max (get (F.TAMP_FC_CFG_N c) s) 1)
    life := upd s.tamp.life c fun t => satNat (2 ^ 32 - 1) (t + 1)
    quietFrom := upd s.tamp.quietFrom c fun _ => s.sup.mono
    totalsChanged := true } }

/-- The counter's registers after an occurrence, with its cause. -/
def showOccurrence (c : Nat) (s : State) : State :=
  raise F.TAMP_CAUSE_OCCURRENCE (showWindow c (addSat (F.TAMP_FC_STAT_TOTAL c) 1 (noteOccurrence c s)))

theorem beyondLog_showWindow (c : Nat) (s : State) : beyondLog (showWindow c s) = beyondLog s := by
  unfold showWindow
  extract_lets k t
  split <;> rfl

theorem beyondLog_showOccurrence (c : Nat) (s : State) : beyondLog (showOccurrence c s) = beyondLog s := by
  rw [showOccurrence, beyondLog_raise, beyondLog_showWindow]
  rfl

theorem mem_countedFlds {c : Nat} {f : Fld} (h : f ∈ [F.TAMP_FC_STAT_TOTAL c, F.TAMP_FC_STAT_IN_WIN c, F.TAMP_CAUSE_OCCURRENCE,
    F.TAMP_CAUSE_LOG_LOST, F.TAMP_STATUS_QUEUED, F.TAMP_STATUS_LOST, F.CIS_STATUS_DIRTY, F.INT_HOST_PEND_PEND]) : f ∈ countedFlds c :=
  List.mem_append_left _ h

theorem FAULTS_mem_countedFlds {c : Nat} (h : c ≤ 9) : F.CNV_SLICE_CFG_FAULTS c ∈ countedFlds c :=
  List.mem_append_right _ (by rw [if_pos h]; exact List.mem_singleton_self _)

theorem logFlds_subset_countedFlds (c : Nat) : logFlds ⊆ countedFlds c :=
  fun _ hf => mem_countedFlds (List.mem_cons_of_mem _ (List.mem_cons_of_mem _ (List.mem_cons_of_mem _ hf)))

/-- Between `TAMP_CAUSE` and the counters' registers an occurrence touches none. -/
theorem addr_ne_of_mem_countedFlds {c a : Nat} {f : Fld} (hf : f ∈ countedFlds c) (hlo : R.TAMP_CAUSE < a) (hhi : a < R.TAMP_FC_CFG 0) :
    f.addr ≠ a := by
  rw [countedFlds, List.mem_append] at hf
  unfold R.TAMP_CAUSE at hlo
  unfold R.TAMP_FC_CFG at hhi
  obtain h | h := hf
  · simp only [List.mem_cons, List.not_mem_nil, or_false] at h
    obtain rfl | rfl | rfl | rfl | rfl | rfl | rfl | rfl := h <;>
      dsimp only [R.TAMP_FC_STAT, R.TAMP_CAUSE, R.TAMP_STATUS, R.CIS_STATUS, R.INT_HOST_PEND] <;> omega
  · split at h
    next =>
      rw [List.mem_singleton] at h
      subst h
      dsimp only [R.CNV_SLICE_CFG]
      omega
    next => cases h

/-- The counter's registers lie beyond `INT_HOST_PEND`. -/
theorem TAMP_FC_STAT_apart_pend (c lo width : Nat) : (⟨R.TAMP_FC_STAT c, lo, width⟩ : Fld).apart F.INT_HOST_PEND_PEND = true :=
  Fld.apart_of_addr (show 0x4005100c + 16 * c ≠ 0x40030014 by omega)

theorem CNV_SLICE_CFG_apart_pend (n lo width : Nat) : (⟨R.CNV_SLICE_CFG n, lo, width⟩ : Fld).apart F.INT_HOST_PEND_PEND = true :=
  Fld.apart_of_addr (show 0x40080040 + 4 * n ≠ 0x40030014 by omega)

section
variable {c : Nat} {r : Sparse Word} {s : State}

theorem Touches.showWindow (h : Touches (countedFlds c) r s.regs) : Touches (countedFlds c) r (showWindow c s).regs := by
  unfold Machine.showWindow
  extract_lets k t
  have ht : Touches (countedFlds c) r t.regs := h.put (mem_countedFlds (by simp)) rfl (TAMP_FC_STAT_apart_pend c _ _)
  split
  next hc => exact ht.put (FAULTS_mem_countedFlds hc.1) rfl (CNV_SLICE_CFG_apart_pend c _ _)
  next => exact ht

/-- TOTAL is not touched when the window is shown. -/
theorem get_TOTAL_showWindow (hs : sparseWf (0 : Word) s.regs = true) :
    get (F.TAMP_FC_STAT_TOTAL c) (showWindow c s) = get (F.TAMP_FC_STAT_TOTAL c) s := by
  unfold showWindow
  extract_lets k t
  have ht : sparseWf (0 : Word) t.regs = true := rput_wf _ _ _ hs
  have hget : get (F.TAMP_FC_STAT_TOTAL c) t = get (F.TAMP_FC_STAT_TOTAL c) s := get_put_apart k hs rfl (by simp [Fld.apart])
  split
  next hc =>
    refine (get_put_apart _ ht rfl (Fld.apart_of_addr ?_)).trans hget
    show 0x40080040 + 4 * c ≠ 0x4005100c + 16 * c
    omega
  next => exact hget

variable (hs : sparseWf (0 : Word) s.regs = true)
include hs

theorem touches_windowShown :
    Touches (countedFlds c) s.regs (showWindow c (addSat (F.TAMP_FC_STAT_TOTAL c) 1 (noteOccurrence c s))).regs :=
  Touches.showWindow (Touches.put (.refl hs) (mem_countedFlds (by simp)) rfl (TAMP_FC_STAT_apart_pend c _ _))

theorem touches_showOccurrence : Touches (countedFlds c) s.regs (showOccurrence c s).regs :=
  (touches_windowShown hs).raise (mem_countedFlds (by simp)) (mem_countedFlds (by simp)) rfl rfl

/-- TOTAL rises, saturating. -/
theorem get_TOTAL_showOccurrence : get (F.TAMP_FC_STAT_TOTAL c) (showOccurrence c s) =
    min (2 ^ (F.TAMP_FC_STAT_TOTAL c).width - 1) (get (F.TAMP_FC_STAT_TOTAL c) s + 1) := by
  have hadd : sparseWf (0 : Word) (addSat (F.TAMP_FC_STAT_TOTAL c) 1 (noteOccurrence c s)).regs = true := rput_wf _ _ _ hs
  have hcause : F.TAMP_CAUSE_OCCURRENCE.apart (F.TAMP_FC_STAT_TOTAL c) = true :=
    Fld.apart_of_addr (show 0x40050004 ≠ 0x4005100c + 16 * c by omega)
  have hpend : F.INT_HOST_PEND_PEND.apart (F.TAMP_FC_STAT_TOTAL c) = true :=
    Fld.apart_of_addr (show 0x40030014 ≠ 0x4005100c + 16 * c by omega)
  calc get (F.TAMP_FC_STAT_TOTAL c) (showOccurrence c s)
    _ = get (F.TAMP_FC_STAT_TOTAL c) (addSat (F.TAMP_FC_STAT_TOTAL c) 1 (noteOccurrence c s)) :=
      (get_raise_apart (touches_windowShown hs).wf rfl hcause hpend).trans (get_TOTAL_showWindow hadd)
    _ = satNat (2 ^ 24 - 1) (get (F.TAMP_FC_STAT_TOTAL c) s + 1) % 2 ^ 24 := get_put_same _ hs rfl
    _ = min (2 ^ 24 - 1) (get (F.TAMP_FC_STAT_TOTAL c) s + 1) := by
      unfold satNat
      split <;> omega

/-- While the counter does not become lasting, an occurrence is shown and logged, and nothing more (R271). -/
theorem occurrence_of_staysBelow (hc : c < 64) (hb : staysBelow c s = true) (frac detail : Nat) :
    occurrence c frac detail s = logTampAt (rtc s) 1 c frac detail (showOccurrence c s) := by
  have hlog : Touches (countedFlds c) s.regs (logTampAt (rtc s) 1 c frac detail (showOccurrence c s)).regs :=
    (touches_showOccurrence hs).trans (((Touches.refl (touches_showOccurrence hs).wf).logTampAt _ _ _ _ _).mono
      (logFlds_subset_countedFlds c))
  have hlasting : isLasting c (logTampAt (rtc s) 1 c frac detail (showOccurrence c s)) = isLasting c s := by
    refine hlog.fbit fun f hf => Fld.apart_of_addr (addr_ne_of_mem_countedFlds hf ?_ ?_)
    · show 0x40050004 < 0x40050010 + 4 * (c / 32)
      omega
    · show 0x40050010 + 4 * (c / 32) < 0x40051000
      omega
  have hunfold : occurrence c frac detail s =
      let t := logTampAt (rtc s) 1 c frac detail (showOccurrence c s)
      let n := get (F.TAMP_FC_CFG_N c) s
      let k := inWindow (winOf c s) s.sup.mono ((s.sup.mono :: nth [] s.tamp.hist c).take (max n 1))
      if isLasting c t then t else if 1 ≤ n ∧ n ≤ k then becomeLasting (rtc s) c frac detail t else t := rfl
  rw [hunfold]
  simp only [staysBelow, Bool.or_eq_true, beq_iff_eq, decide_eq_true_eq] at hb
  simp only [hlasting]
  obtain (h | h) | h := hb
  · rw [if_pos h]
  · rw [if_neg (c := 1 ≤ _ ∧ _) (by omega), ite_self]
  · rw [if_neg (c := 1 ≤ _ ∧ _) (by omega), ite_self]

/-- Such an occurrence is counted, it touches the fields it may touch and nothing beyond the tamper log and the Cistern (R271, R277). -/
theorem occurrence_spec (hc : c < 64) (hb : staysBelow c s = true) (frac detail : Nat) :
    Counted c s (occurrence c frac detail s) ∧ Touches (countedFlds c) s.regs (occurrence c frac detail s).regs ∧
      beyondLog (occurrence c frac detail s) = beyondLog s := by
  have hshow := touches_showOccurrence (c := c) hs
  have hlog : Touches logFlds (showOccurrence c s).regs (logTampAt (rtc s) 1 c frac detail (showOccurrence c s)).regs :=
    (Touches.refl hshow.wf).logTampAt _ _ _ _ _
  rw [occurrence_of_staysBelow hs hc hb]
  refine ⟨⟨?_, ?_⟩, hshow.trans (hlog.mono (logFlds_subset_countedFlds c)), ?_⟩
  · rw [← get_TOTAL_showOccurrence hs]
    refine hlog.get fun f hf => Fld.apart_of_addr ?_
    show f.addr ≠ 0x4005100c + 16 * c
    simp only [logFlds, List.mem_cons, List.not_mem_nil, or_false] at hf
    obtain rfl | rfl | rfl | rfl | rfl := hf <;>
      dsimp only [R.TAMP_CAUSE, R.TAMP_STATUS, R.CIS_STATUS, R.INT_HOST_PEND] <;> omega
  · refine Raised.touches ?_ hlog (by decide)
    refine (touches_windowShown hs).raised rfl rfl (by decide) (by decide) fun f hf => ?_
    exact addr_ne_of_mem_countedFlds hf (by decide) (by decide)
  · rw [beyondLog_logTampAt, beyondLog_showOccurrence]

end

section
variable {c : Nat} {L : List Fld} {s u : State} (h : Touches L s.regs u.regs) (hL : ∀ f ∈ L, blockOf f.addr ≠ 5)
include h hL

/-- A register of the fault counters' block reads as before while fields of other blocks are set. -/
theorem rd_block5 {a : Nat} (ha : blockOf a = 5) : rd u a = rd s a := h.rd fun f hf he => hL f hf (by rw [he, ha])

variable (hc : c < 64)
include hc

/-- Whether one more occurrence makes a counter lasting does not depend on fields of other blocks. -/
theorem staysBelow_eq (ht : u.tamp = s.tamp) (hsup : u.sup = s.sup) : staysBelow c u = staysBelow c s := by
  have hcfg : rd u (R.TAMP_FC_CFG c) = rd s (R.TAMP_FC_CFG c) := rd_block5 h hL (by dsimp only [blockOf, R.TAMP_FC_CFG]; omega)
  have hlast : rd u (R.TAMP_LASTING (c / 32)) = rd s (R.TAMP_LASTING (c / 32)) :=
    rd_block5 h hL (by dsimp only [blockOf, R.TAMP_LASTING]; omega)
  have hlasting : isLasting c u = isLasting c s := congrArg (fun w => bit (fieldOf (F.TAMP_LASTING_LASTING (c / 32)) w) (c % 32)) hlast
  have hcount : get (F.TAMP_FC_CFG_N c) u = get (F.TAMP_FC_CFG_N c) s := congrArg (fieldOf _) hcfg
  have hwindow : winOf c u = winOf c s := congrArg (fun w => 1024 * fieldOf (F.TAMP_FC_CFG_WIN c) w) hcfg
  unfold staysBelow
  rw [hlasting, hcount, hwindow, ht, hsup]

/-- An occurrence after fields of other blocks have been set, told from before they were (R271). -/
theorem occurrence_after (hb : staysBelow c s = true) (ht : u.tamp = s.tamp) (hsup : u.sup = s.sup) (frac detail : Nat) :
    Counted c s (occurrence c frac detail u) ∧ Touches (countedFlds c) u.regs (occurrence c frac detail u).regs ∧
      beyondLog (occurrence c frac detail u) = beyondLog u := by
  obtain ⟨⟨htotal, hbit, hpend⟩, htouch, hrest⟩ :=
    occurrence_spec h.wf hc ((staysBelow_eq h hL hc ht hsup).trans hb) frac detail
  have hstat : rd u (R.TAMP_FC_STAT c) = rd s (R.TAMP_FC_STAT c) := rd_block5 h hL (blockOf_TAMP_FC_STAT hc)
  have hen : rd u (enableOf F.TAMP_CAUSE_OCCURRENCE.addr) = rd s (enableOf F.TAMP_CAUSE_OCCURRENCE.addr) :=
    rd_block5 h hL (by decide)
  refine ⟨⟨?_, hbit, ?_⟩, htouch, hrest⟩
  · rw [htotal, get, get, hstat]
  · rw [← hen]
    exact hpend

end

end Sys2Proof.Machine
end

section
/-! SUPPORT. The rotation of the converter slices of chapter 03 (O21): how a relief starts, is refused and is judged, and how a spare
goes on the calibration source. -/
namespace Sys2Proof.Machine

/-! The start of a relief -/

/-- Step 1 of a relief of channel `ch`, served by `old`, by slice `sb`, as it is noted beside the registers (R65). -/
def openRelief (ch old sb : Nat) (s : State) : State :=
  { s with
    conv := { s.conv with relief := some { chan := ch, old := old, new := sb, start := s.metro.clock } }
    metro := { s.metro with joined := [], joinInteg := nth 0 s.metro.integ ch } }

/-- The fields in which the start of a relief by slice `sb` shows. -/
def reliefFlds (sb : Nat) : List Fld :=
  [F.CNV_SLICE_CFG_PGA sb, F.CNV_SLICE_CFG_READY sb, F.CNV_SLICE_CFG_CHAN sb, F.CNV_SLICE_CFG_ROLE sb, F.CNV_STATUS_ROT_STATE,
    F.CNV_STATUS_REL_CHAN]

/-- What the start of a relief of channel `ch`, of gain `pga`, by slice `sb` shows. -/
def reliefShown (ch sb pga : Nat) : List (Fld × Nat) :=
  [(F.CNV_SLICE_CFG_PGA sb, pga), (F.CNV_SLICE_CFG_READY sb, 0), (F.CNV_SLICE_CFG_CHAN sb, ch), (F.CNV_SLICE_CFG_ROLE sb, 2),
    (F.CNV_STATUS_ROT_STATE, 1), (F.CNV_STATUS_REL_CHAN, ch)]

theorem startRelief_eq (ch sb : Nat) (s : State) :
    startRelief ch sb s = putAll (reliefShown ch sb (get (F.CNV_CHAN_CFG_PGA ch) s)) (openRelief ch (sliceOf ch s) sb s) := rfl

/-- A relief starts without a change of `CNV_CTL`. -/
theorem reliefFlds_beside_control (sb : Nat) : ∀ f ∈ reliefFlds sb, f.addr ≠ R.CNV_CTL := by
  have hslice : R.CNV_SLICE_CFG sb ≠ R.CNV_CTL := (show 0x40080040 + 4 * sb ≠ 0x40080000 by omega)
  simp [reliefFlds, hslice]

/-- The slices' registers share no bit with `CNV_STATUS` and `INT_HOST_PEND`. -/
theorem reliefFlds_apart (sb : Nat) : FieldsApart (F.INT_HOST_PEND_PEND :: reliefFlds sb) := by
  have hpend : R.INT_HOST_PEND ≠ R.CNV_SLICE_CFG sb := (show 0x40030014 ≠ 0x40080040 + 4 * sb by omega)
  have hstatus : R.CNV_SLICE_CFG sb ≠ R.CNV_STATUS := (show 0x40080040 + 4 * sb ≠ 0x40080004 by omega)
  constructor
  · simp [reliefFlds, Fld.inWord]
  · simp [reliefFlds, Fld.apart, hpend, hstatus]

/-- A relief that has started: its slice is routed to the channel with the channel's gain (R65). -/
theorem startRelief_spec {ch : Nat} (sb : Nat) {s : State} (hs : sparseWf (0 : Word) s.regs = true) (hch : ch < 8) :
    get F.CNV_STATUS_ROT_STATE (startRelief ch sb s) = 1 ∧ get F.CNV_STATUS_REL_CHAN (startRelief ch sb s) = ch ∧
      get (F.CNV_SLICE_CFG_ROLE sb) (startRelief ch sb s) = 2 ∧ get (F.CNV_SLICE_CFG_CHAN sb) (startRelief ch sb s) = ch ∧
      get (F.CNV_SLICE_CFG_READY sb) (startRelief ch sb s) = 0 ∧
      get (F.CNV_SLICE_CFG_PGA sb) (startRelief ch sb s) = get (F.CNV_CHAN_CFG_PGA ch) s ∧
      Touches (reliefFlds sb) s.regs (startRelief ch sb s).regs := by
  obtain ⟨hv, ht⟩ := putAll_spec (s := openRelief ch (sliceOf ch s) sb s) (l := reliefShown ch sb (get (F.CNV_CHAN_CFG_PGA ch) s))
    hs (reliefFlds sb) rfl (reliefFlds_apart sb)
  simp only [reliefShown, List.forall_mem_cons] at hv
  obtain ⟨hpga, hready, hchan, hrole, hrot, hrel, -⟩ := hv
  exact ⟨hrot, hrel.trans (Nat.mod_eq_of_lt hch), hrole, hchan.trans (Nat.mod_eq_of_lt hch), hready,
    hpga.trans (Nat.mod_eq_of_lt (rget_lt (F.CNV_CHAN_CFG_PGA ch) s.regs)), ht⟩

/-- What the start of a relief changes beside the registers depends on the registers by the channel's slice alone. -/
theorem startRelief_beside {ch sb : Nat} {s u : State} (hu : u = { s with regs := u.regs }) (hold : sliceOf ch u = sliceOf ch s) :
    startRelief ch sb u = { openRelief ch (sliceOf ch s) sb s with regs := (startRelief ch sb u).regs } := by
  have h : startRelief ch sb u = { openRelief ch (sliceOf ch u) sb u with regs := (startRelief ch sb u).regs } := rfl
  rw [hold] at h
  exact h.trans (congrArg (fun v => { openRelief ch (sliceOf ch s) sb v with regs := (startRelief ch sb u).regs }) hu)

/-! RELIEF_TIME -/

/-- The channel whose relief is next is one of eight. -/
theorem nextRelief_lt {s : State} {ch : Nat} (h : nextRelief s = some ch) : ch < 8 := by
  obtain ⟨i, -, rfl⟩ := List.mem_map.mp (List.mem_of_find?_eq_some h)
  exact Nat.mod_lt _ (by decide)

/-- A relief that is due starts when none runs and a spare is ready (R65). -/
theorem rotate_starts {s : State} {ch sb : Nat} (hr : s.conv.relief = none) (hn : nextRelief s = some ch) (hc : choiceSpare s = some sb) :
    rotate s = startRelief ch sb { s with conv := { s.conv with nextChan := (ch + 1) % 8, deferred := false } } := by
  simp [rotate, hn, hc, hr]

/-- The schedule of reliefs, moved on by whole periods (R64). -/
def nextDue (s : State) : Nat :=
  s.conv.rotAt + (s.metro.clock - s.conv.rotAt) / ((rotPeriod s).getD 1 * 2 ^ 39) * ((rotPeriod s).getD 1 * 2 ^ 39)

/-- The schedule noted. -/
def schedule (t : Nat) (s : State) : State := { s with conv := { s.conv with rotAt := t } }

/-- RELIEF_TIME moves the schedule on and rotates. -/
theorem execReliefTime_eq (s : State) : execReliefTime s = onlyIf (flag F.CNV_CTL_ROT_EN s && reliefAllowed s &&
    periodSince s.conv.rotAt s) (fun s => rotate (schedule (nextDue s) s)) s := by
  unfold execReliefTime nextDue schedule
  rfl

theorem nextRelief_schedule (t : Nat) (s : State) : nextRelief (schedule t s) = nextRelief s := rfl

theorem choiceSpare_schedule (t : Nat) (s : State) : choiceSpare (schedule t s) = choiceSpare s := rfl

/-- With a spare ready and no relief running, the schedule moved on to `d`, the next channel's relief starts (R65). -/
theorem rotate_schedule_spec {s : State} {ch sb : Nat} (d : Nat) (hs : sparseWf (0 : Word) s.regs = true) (hr : s.conv.relief = none)
    (hn : nextRelief s = some ch) (hc : choiceSpare s = some sb) :
    get F.CNV_STATUS_ROT_STATE (rotate (schedule d s)) = 1 ∧ get F.CNV_STATUS_REL_CHAN (rotate (schedule d s)) = ch ∧
      get (F.CNV_SLICE_CFG_ROLE sb) (rotate (schedule d s)) = 2 ∧ get (F.CNV_SLICE_CFG_CHAN sb) (rotate (schedule d s)) = ch ∧
      get (F.CNV_SLICE_CFG_READY sb) (rotate (schedule d s)) = 0 ∧
      get (F.CNV_SLICE_CFG_PGA sb) (rotate (schedule d s)) = get (F.CNV_CHAN_CFG_PGA ch) s ∧
      OnlyFlds (reliefFlds sb) (openRelief ch (sliceOf ch s) sb
        { s with conv := { s.conv with nextChan := (ch + 1) % 8, deferred := false, rotAt := d } }) (rotate (schedule d s)) := by
  rw [rotate_starts (s := schedule d s) hr ((nextRelief_schedule d s).trans hn) ((choiceSpare_schedule d s).trans hc)]
  obtain ⟨hrot, hrel, hrole, hchan, hready, hpga, ht⟩ := startRelief_spec
    (s := { s with conv := { s.conv with nextChan := (ch + 1) % 8, deferred := false, rotAt := d } }) sb hs (nextRelief_lt hn)
  exact ⟨hrot, hrel, hrole, hchan, hready, hpga, ht.onlyFlds rfl rfl⟩

/-- RELIEF_TIME that is due and allowed rotates. -/
theorem exec_reliefTime_due {s : State} (hen : flag F.CNV_CTL_ROT_EN s = true) (hal : reliefAllowed s = true)
    (hp : periodSince s.conv.rotAt s = true) : exec .reliefTime s = .next (rotate (schedule (nextDue s) s)) := by
  have hdue : (flag F.CNV_CTL_ROT_EN s && reliefAllowed s && periodSince s.conv.rotAt s) = true := by simp [hen, hal, hp]
  exact (execReliefTime_eq s).trans (onlyIf_of_true hdue _ s)

/-- RELIEF_TIME that is not due or not allowed changes nothing. -/
theorem exec_reliefTime_idle {s : State}
    (h : flag F.CNV_CTL_ROT_EN s = false ∨ reliefAllowed s = false ∨ periodSince s.conv.rotAt s = false) :
    exec .reliefTime s = .next s := by
  have hexec : execReliefTime s = .next s := by
    refine onlyIf_of_false ?_ _ s
    obtain h | h | h := h <;> simp [h]
  exact hexec

/-! RELIEVE_NOW -/

/-- The fields of `CNV_CTL` that a write sets. -/
def cnvCtlFlds : List Fld := [F.CNV_CTL_PERIOD, F.CNV_CTL_ROT_EN]

/-- A write of `CNV_CTL` by the access codes alone. -/
def cnvCtlSet (w : Word) (s : State) : State := plainWrite R.CNV_CTL w s

theorem cnvCtlSet_spec {s : State} (w : Word) (hs : sparseWf (0 : Word) s.regs = true) :
    (∀ f ∈ cnvCtlFlds, get f (cnvCtlSet w s) = arg f w) ∧ Touches cnvCtlFlds s.regs (cnvCtlSet w s).regs :=
  plainWrite_spec (a := R.CNV_CTL) hs (by decide) (by decide) rfl

/-- The state of the rotation is shown in its own field. -/
theorem touches_idleRotation {s : State} (hs : sparseWf (0 : Word) s.regs = true) :
    Touches [F.CNV_STATUS_ROT_STATE] s.regs (idleRotation s).regs := by
  unfold idleRotation
  split
  · exact .refl hs
  · exact Touches.put (.refl hs) (by simp) rfl rfl

theorem idleRotation_eq (s : State) : idleRotation s = { s with regs := (idleRotation s).regs } := by
  unfold idleRotation
  split <;> rfl

section
variable {L : List Fld} {s u : State} (h : Touches L s.regs u.regs) (hL : ∀ f ∈ L, f.addr = R.CNV_CTL ∨ f.addr = R.CNV_STATUS)
include h hL

/-- A register beside `CNV_CTL` and `CNV_STATUS` reads as before. -/
theorem rd_beside_control {a : Nat} (hc : a ≠ R.CNV_CTL) (hst : a ≠ R.CNV_STATUS) : rd u a = rd s a :=
  h.rd fun f hf he => (hL f hf).elim (fun e => hc (he.symm.trans e)) fun e => hst (he.symm.trans e)

theorem sliceOf_beside_control (n : Nat) : sliceOf n u = sliceOf n s := by
  rw [sliceOf, sliceOf, get, get, rd_beside_control h hL (by decide) (by decide)]

theorem deadChan_beside_control (n : Nat) : deadChan n u = deadChan n s := by
  have hchan : rd u (R.CNV_CHAN_CFG n) = rd s (R.CNV_CHAN_CFG n) :=
    rd_beside_control h hL (show 0x40080020 + 4 * n ≠ 0x40080000 by omega) (show 0x40080020 + 4 * n ≠ 0x40080004 by omega)
  rw [deadChan, deadChan, idleChan, idleChan, flag, flag, get, get, hchan, sliceOf_beside_control h hL]

theorem choiceSpare_beside_control (hconv : u.conv = s.conv) : choiceSpare u = choiceSpare s := by
  have hready : ∀ n, flag (F.CNV_SLICE_CFG_READY n) u = flag (F.CNV_SLICE_CFG_READY n) s := fun n => by
    rw [flag, flag, get, get, rd_beside_control h hL (show 0x40080040 + 4 * n ≠ 0x40080000 by omega)
      (show 0x40080040 + 4 * n ≠ 0x40080004 by omega)]
  have hretired : ∀ n, fbit F.CNV_RETIRED_SLICE n u = fbit F.CNV_RETIRED_SLICE n s := fun n => by
    rw [fbit, fbit, get, get, rd_beside_control h hL (by decide) (by decide)]
  unfold choiceSpare readySpares spares liveSlices promised chanOf
  simp only [hready, hretired, sliceOf_beside_control h hL, hconv]

theorem reliefAllowed_beside_control (hmetro : u.metro = s.metro) : reliefAllowed u = reliefAllowed s := by
  have hget : ∀ f : Fld, f.addr ≠ R.CNV_CTL → f.addr ≠ R.CNV_STATUS → get f u = get f s := fun f hc hst =>
    congrArg (fieldOf f) (rd_beside_control h hL hc hst)
  have hpass : inPass u = inPass s := by
    rw [inPass, inPass, profile, profile, hget F.PHE_PROFILE_CTL_ACTIVE (by decide) (by decide)]
  simp only [reliefAllowed, domOn, fbit, framesRun, flag, hget F.PMU_DOM_STATUS_ON (by decide) (by decide),
    hget F.PHE_FRAME_POS_VALID (by decide) (by decide), hget F.FLT_STATUS_STOPPED (by decide) (by decide),
    hget F.CNV_RETIRED_SLICE (by decide) (by decide), hget F.PHE_PROFILE_CTL_PENDING (by decide) (by decide), hpass, hmetro]

end

section
variable {w : Word} {s : State} (h1 : arg F.CNV_CTL_PERIOD w ≠ 1) (h600 : arg F.CNV_CTL_PERIOD w ≤ 600)
  (hnow : arg F.CNV_CTL_RELIEVE_NOW w = 1)
include h1 h600 hnow

/-- RELIEVE_NOW with no relief running starts one, where the conditions hold after the write (R69). -/
theorem cnvCtlWrite_starts {sb : Nat} (hr : s.conv.relief = none) (hcal : s.conv.calOf = none)
    (hal : reliefAllowed (idleRotation (cnvCtlSet w s)) = true)
    (hdead : deadChan (arg F.CNV_CTL_RELIEVE_CHAN w) (idleRotation (cnvCtlSet w s)) = false)
    (hc : choiceSpare (idleRotation (cnvCtlSet w s)) = some sb) :
    cnvCtlWrite w s = startRelief (arg F.CNV_CTL_RELIEVE_CHAN w) sb (idleRotation (cnvCtlSet w s)) := by
  have hperiod : ¬ (arg F.CNV_CTL_PERIOD w = 1 ∨ 600 < arg F.CNV_CTL_PERIOD w) := by omega
  have hbusy : ((cnvCtlSet w s).conv.relief.isSome || (cnvCtlSet w s).conv.calOf.any fun r => !r.alone) = false := by
    have hconv : (cnvCtlSet w s).conv = s.conv := rfl
    rw [hconv, hr, hcal]
    rfl
  simp only [cnvCtlSet] at *
  simp [cnvCtlWrite, hperiod, hbusy, hnow, hc, hal, hdead]

/-- RELIEVE_NOW while a relief runs is refused (R69). -/
theorem cnvCtlWrite_refused (hr : s.conv.relief.isSome = true) :
    cnvCtlWrite w s = raise F.CNV_CAUSE_RELIEVE_REFUSED (cnvCtlSet w s) := by
  have hperiod : ¬ (arg F.CNV_CTL_PERIOD w = 1 ∨ 600 < arg F.CNV_CTL_PERIOD w) := by omega
  have hbusy : (cnvCtlSet w s).conv.relief.isSome = true := hr
  simp only [cnvCtlSet] at *
  simp only [cnvCtlWrite, hperiod, hbusy, hnow, if_false, if_true, Bool.true_or]
  rw [if_neg (by decide)]
  cases choiceSpare (plainWrite R.CNV_CTL w s) <;> rfl

variable {m : Master} (hs : sparseWf (0 : Word) s.regs = true) (hw : Writable m R.CNV_CTL s)
include hs hw

/-- RELIEVE_NOW relieves its channel out of turn (R69). -/
theorem exec_relieveNow_starts {sb : Nat} (hr : s.conv.relief = none) (hcal : s.conv.calOf = none) (hal : reliefAllowed s = true)
    (hdead : deadChan (arg F.CNV_CTL_RELIEVE_CHAN w) s = false) (hc : choiceSpare s = some sb) :
    ∃ t, exec (.relieveNow m w) s = .next t ∧ get F.CNV_STATUS_ROT_STATE t = 1 ∧
      get F.CNV_STATUS_REL_CHAN t = arg F.CNV_CTL_RELIEVE_CHAN w ∧ get (F.CNV_SLICE_CFG_ROLE sb) t = 2 ∧
      get (F.CNV_SLICE_CFG_CHAN sb) t = arg F.CNV_CTL_RELIEVE_CHAN w ∧ (∀ f ∈ cnvCtlFlds, get f t = arg f w) ∧
      OnlyFlds (reliefFlds sb ++ cnvCtlFlds)
        (openRelief (arg F.CNV_CTL_RELIEVE_CHAN w) (sliceOf (arg F.CNV_CTL_RELIEVE_CHAN w) s) sb s) t := by
  let u := idleRotation (cnvCtlSet w s)
  obtain ⟨hget, hset⟩ := cnvCtlSet_spec w hs
  have hidle := touches_idleRotation hset.wf
  have hu : Touches (cnvCtlFlds ++ [F.CNV_STATUS_ROT_STATE]) s.regs u.regs :=
    (hset.mono (by decide)).trans (hidle.mono (by decide))
  have hL : ∀ f ∈ cnvCtlFlds ++ [F.CNV_STATUS_ROT_STATE], f.addr = R.CNV_CTL ∨ f.addr = R.CNV_STATUS := by decide
  have hueq : u = { s with regs := u.regs } := idleRotation_eq (cnvCtlSet w s)
  have hexec : exec (.relieveNow m w) s = .next (startRelief (arg F.CNV_CTL_RELIEVE_CHAN w) sb u) := by
    refine (cmdWrite_of_writable (cnvCtlWrite w) hw).trans (congrArg Host.Outcome.next ?_)
    refine cnvCtlWrite_starts h1 h600 hnow hr hcal ?_ ?_ ?_
    · rw [reliefAllowed_beside_control hu hL (congrArg State.metro hueq :), hal]
    · rw [deadChan_beside_control hu hL, hdead]
    · rw [choiceSpare_beside_control hu hL (congrArg State.conv hueq :), hc]
  obtain ⟨hrot, hrel, hrole, hchan, -, -, ht⟩ := startRelief_spec (ch := arg F.CNV_CTL_RELIEVE_CHAN w) sb hu.wf (Nat.mod_lt _ (by decide))
  refine ⟨_, hexec, hrot, hrel, hrole, hchan, fun f hf => ?_, ?_⟩
  · have hctl : f.addr = R.CNV_CTL := by
      revert f
      decide
    rw [← hget f hf, ← hidle.get (g := f)]
    · refine ht.get fun g hg => Fld.apart_of_addr ?_
      rw [hctl]
      exact reliefFlds_beside_control sb g hg
    · intro g hg
      refine Fld.apart_of_addr ?_
      rw [hctl, List.mem_singleton.mp hg]
      decide
  · refine ((hu.mono ?_).trans (ht.mono (List.subset_append_left _ _))).onlyFlds
      (startRelief_beside hueq (sliceOf_beside_control hu hL _)) rfl
    simp [cnvCtlFlds, reliefFlds]

/-- RELIEVE_NOW while a relief runs raises `RELIEVE_REFUSED` (R69). -/
theorem exec_relieveNow_refused (hr : s.conv.relief.isSome = true) :
    ∃ t, exec (.relieveNow m w) s = .next t ∧ Raised F.CNV_CAUSE_RELIEVE_REFUSED s t ∧
      OnlyFlds [F.CNV_CTL_PERIOD, F.CNV_CTL_ROT_EN, F.CNV_CAUSE_RELIEVE_REFUSED, F.INT_HOST_PEND_PEND] s t := by
  have hexec : exec (.relieveNow m w) s = .next (cnvCtlWrite w s) := cmdWrite_of_writable _ hw
  rw [hexec, cnvCtlWrite_refused h1 h600 hnow hr]
  obtain ⟨-, hset⟩ := cnvCtlSet_spec w hs
  refine ⟨_, rfl, hset.raised rfl rfl (by decide) (by decide) (by decide), ?_⟩
  refine ((hset.mono (by decide)).raise (by simp) (by simp) rfl rfl).onlyFlds ?_ rfl
  rw [raise_eq]
  rfl

end

/-! The end of a window, and the calibration source -/

/-- The fields in which the verdict of a window shows (R67). -/
def verdictFlds : List Fld :=
  [F.CNV_SPLICE_RES_NEW, F.CNV_SPLICE_RES_OLD, F.CNV_SPLICE_RES_CHAN, F.CNV_SPLICE_RES_DELAY_ASSESSED,
    F.CNV_SPLICE_RES_GAIN_ASSESSED, F.CNV_STATUS_ROT_STATE, F.CNV_SPLICE_RES_RESTARTS, F.CNV_SPLICE_RES_FAILED]

/-- What the verdict of relief `r` shows, of which the checks `f` have failed. -/
def windowVerdict (r : Relief) (f : Nat) : List (Fld × Nat) :=
  [(F.CNV_SPLICE_RES_NEW, r.new), (F.CNV_SPLICE_RES_OLD, r.old), (F.CNV_SPLICE_RES_CHAN, r.chan),
    (F.CNV_SPLICE_RES_DELAY_ASSESSED, b2n r.delaySeen), (F.CNV_SPLICE_RES_GAIN_ASSESSED, b2n r.gainSeen),
    (F.CNV_STATUS_ROT_STATE, 3), (F.CNV_SPLICE_RES_RESTARTS, r.restarts), (F.CNV_SPLICE_RES_FAILED, f)]

/-- The relief's window is closed. -/
def closeWindow (r : Relief) (f : Nat) (s : State) : State :=
  { s with conv := { s.conv with relief := some { r with closed := true, failed := f } } }

theorem b2n_lt (b : Bool) : b2n b < 2 := by cases b <;> decide

/-- SPLICE_WINDOW_CLOSE after 64 cycles shows the verdict (R67). -/
theorem exec_spliceWindowClose {s : State} {r : Relief} (hs : sparseWf (0 : Word) s.regs = true) (hr : s.conv.relief = some r)
    (hst : get F.CNV_STATUS_ROT_STATE s = 2) (h64 : 64 ≤ r.cycles) :
    ∃ t, exec .spliceWindowClose s = .next t ∧ get F.CNV_STATUS_ROT_STATE t = 3 ∧ get F.CNV_SPLICE_RES_CHAN t = r.chan % 8 ∧
      get F.CNV_SPLICE_RES_OLD t = r.old % 16 ∧ get F.CNV_SPLICE_RES_NEW t = r.new % 16 ∧
      get F.CNV_SPLICE_RES_FAILED t = failedChecks r s % 16 ∧ get F.CNV_SPLICE_RES_RESTARTS t = r.restarts % 4 ∧
      get F.CNV_SPLICE_RES_GAIN_ASSESSED t = b2n r.gainSeen ∧ get F.CNV_SPLICE_RES_DELAY_ASSESSED t = b2n r.delaySeen ∧
      OnlyFlds verdictFlds (closeWindow r (failedChecks r s) s) t := by
  have hexec : execSpliceWindowClose s = .next (putAll (windowVerdict r (failedChecks r s)) (closeWindow r (failedChecks r s) s)) := by
    unfold execSpliceWindowClose
    rw [hr]
    exact if_neg (not_or.mpr ⟨not_not.mpr hst, Nat.not_lt.mpr h64⟩)
  obtain ⟨hv, ht⟩ := putAll_spec (s := closeWindow r (failedChecks r s) s) (l := windowVerdict r (failedChecks r s)) hs verdictFlds rfl
    (by decide)
  simp only [windowVerdict, List.forall_mem_cons] at hv
  obtain ⟨hnew, hold, hchan, hdelay, hgain, hrot, hrestarts, hfailed, -⟩ := hv
  exact ⟨_, hexec, hrot, hchan, hold, hnew, hfailed, hrestarts, hgain.trans (Nat.mod_eq_of_lt (b2n_lt _)),
    hdelay.trans (Nat.mod_eq_of_lt (b2n_lt _)), ht.onlyFlds rfl rfl⟩

/-- Slice `sl` is measured on its own, beginning with its offset (R63, R73). -/
def startCal (sl : Nat) (s : State) : State :=
  { s with conv := { s.conv with calOf := some { old := sl, new := sl, alone := true }, calStep := 1 } }

/-- The spares that STANDBY_CALIBRATION may put on the source: no relief uses them and none is promised (R73). -/
def idleSpares (s : State) : List Nat := (spares s).filter fun n => get (F.CNV_SLICE_CFG_ROLE n) s == 1 && !(promised n s)

/-- STANDBY_CALIBRATION puts the first spare that may be calibrated on the source (R73). -/
theorem exec_standbyCalibration {s : State} {sl : Nat} (hs : sparseWf (0 : Word) s.regs = true) (hd : domOn 1 s = true)
    (hcal : s.conv.calOf = none) (hsl : (idleSpares s).find? (fun n => mayCalibrate n s) = some sl) :
    ∃ t, exec .standbyCalibration s = .next t ∧ get (F.CNV_SLICE_CFG_ROLE sl) t = 2 ∧ get (F.CNV_SLICE_CFG_READY sl) t = 0 ∧
      OnlyFlds [F.CNV_SLICE_CFG_READY sl, F.CNV_SLICE_CFG_ROLE sl] (startCal sl s) t := by
  have hexec : execStandbyCalibration s =
      .next (putAll [(F.CNV_SLICE_CFG_READY sl, 0), (F.CNV_SLICE_CFG_ROLE sl, 2)] (startCal sl s)) := by
    unfold execStandbyCalibration
    rw [if_neg (by simp [hcal, hd])]
    unfold idleSpares at hsl
    dsimp only
    rw [hsl]
    rfl
  have hpend : R.INT_HOST_PEND ≠ R.CNV_SLICE_CFG sl := (show 0x40030014 ≠ 0x40080040 + 4 * sl by omega)
  obtain ⟨hv, ht⟩ := putAll_spec (s := startCal sl s) (l := [(F.CNV_SLICE_CFG_READY sl, 0), (F.CNV_SLICE_CFG_ROLE sl, 2)]) hs
    [F.CNV_SLICE_CFG_READY sl, F.CNV_SLICE_CFG_ROLE sl] rfl ⟨by simp [Fld.inWord], by simp [Fld.apart, hpend]⟩
  simp only [List.forall_mem_cons] at hv
  obtain ⟨hready, hrole, -⟩ := hv
  exact ⟨_, hexec, hrole, hready, ht.onlyFlds rfl rfl⟩

/-- Settles O21: a relief starts when it is due or asked for, its window closes with the verdict, an idle spare is calibrated. -/
theorem sliceRotation : Obligations.SliceRotation := by
  unfold Obligations.SliceRotation
  refine ⟨fun s ch sb hs hen hal hp hr hn hc => ?_, fun s h => exec_reliefTime_idle h,
    fun s m w sb hs hw h1 h600 hnow hr hcal hal hdead hc => ?_,
    fun s m w hs hw h1 h600 hnow hr => exec_relieveNow_refused h1 h600 hnow hs.1 hw hr, fun s r hs hr hst h64 => ?_,
    fun s sl hs hd hcal hsl => ?_⟩
  · obtain ⟨hrot, hrel, hrole, hchan, hready, hpga, honly⟩ := rotate_schedule_spec (nextDue s) hs.1 hr hn hc
    exact ⟨_, exec_reliefTime_due hen hal hp, hrot, hrel, hrole, hchan, hready, hpga, honly.mono (by simp [reliefFlds])⟩
  · obtain ⟨t, hexec, hrot, hrel, hrole, hchan, hctl, honly⟩ := exec_relieveNow_starts h1 h600 hnow hs.1 hw hr hcal hal hdead hc
    simp only [cnvCtlFlds, List.forall_mem_cons] at hctl
    obtain ⟨hperiod, hen, -⟩ := hctl
    exact ⟨t, hexec, hrot, hrel, hrole, hchan, hperiod, hen, honly.mono (by simp [reliefFlds, cnvCtlFlds])⟩
  · obtain ⟨t, hexec, hrot, hchan, hold, hnew, hfailed, hrestarts, hgain, hdelay, honly⟩ := exec_spliceWindowClose hs.1 hr hst h64
    exact ⟨t, hexec, hrot, hchan, hold, hnew, hfailed, hrestarts, hgain, hdelay, honly.mono (by decide)⟩
  · obtain ⟨t, hexec, hrole, hready, honly⟩ := exec_standbyCalibration hs.1 hd hcal hsl
    exact ⟨t, hexec, hrole, hready, honly.mono (by simp)⟩

end Sys2Proof.Machine
end

section
/-! SUPPORT. The calibration of a converter slice of chapter 03 (O22): its two steps, what becomes of a slice that has been measured, and
the occurrences counted against a slice. -/
namespace Sys2Proof.Machine

/-! Two's complement -/

/-- A number that fits `w` bits of two's complement reads as it was stored. -/
theorem signed_wrapTo {w : Nat} {z : Int} (hw : 0 < w) (hlo : -(2 ^ (w - 1) : Nat) ≤ z) (hhi : z < (2 ^ (w - 1) : Nat)) :
    signed w (wrapTo w z) = z := by
  have hp : 2 ^ w = 2 * 2 ^ (w - 1) := by rw [← pow_succ', Nat.sub_add_cancel hw]
  unfold signed wrapTo
  rw [hp]
  generalize 2 ^ (w - 1) = p at *
  obtain hz | hz := lt_or_ge z 0
  · have hm : z % ((2 * p : Nat) : Int) = z + (2 * p : Nat) := by
      rw [← Int.add_emod_right, Int.emod_eq_of_lt (by omega) (by omega)]
    rw [hm]
    have : (z + (2 * p : Nat)).toNat % (2 * p) = (z + (2 * p : Nat)).toNat := Nat.mod_eq_of_lt (by omega)
    rw [this, if_neg (by omega)]
    omega
  · rw [Int.emod_eq_of_lt hz (by omega)]
    have : z.toNat % (2 * p) = z.toNat := Nat.mod_eq_of_lt (by omega)
    rw [this, if_pos (by omega)]
    omega

/-- The low bits decide the signed value. -/
theorem signed_mod (w n : Nat) : signed w (n % 2 ^ w) = signed w n := by rw [signed, signed, Nat.mod_mod]

/-! The end of a calibration -/

/-- The calibration in progress ends, and the state of the rotation is shown unless a relief runs (R65). -/
def endCalibration (s : State) : State :=
  let s := { s with conv := { s.conv with calOf := none, calStep := 0 } }
  if s.conv.relief.isSome then s else idleRotation s

/-- What the end of a calibration notes beside the registers. -/
theorem endCalibration_eq (s : State) : endCalibration s =
    { s with regs := (endCalibration s).regs, conv := { s.conv with calOf := none, calStep := 0 } } := by
  unfold endCalibration
  extract_lets conv t
  split
  · rfl
  · rw [idleRotation_eq]

theorem touches_endCalibration {s : State} (hs : sparseWf (0 : Word) s.regs = true) :
    Touches [F.CNV_STATUS_ROT_STATE] s.regs (endCalibration s).regs := by
  unfold endCalibration
  extract_lets conv t
  split
  · exact .refl hs
  · exact touches_idleRotation (s := t) hs

section
variable {r : Relief} {c : Int × Int × Int} {s : State}

/-- A slice measured on its own with gain and offset in the trim range is stored and becomes a ready spare (R69, R73). -/
theorem calibrated_in_trim (ha : r.alone = true) (hg : inTrim c.1 = true) (ho : inTrim c.2.1 = true) :
    calibrated r c s = markReady r.old (storeCoefs r.old c (endCalibration s)) := by
  have h : calibrated r c s = if !(inTrim c.1) || !(inTrim c.2.1) then calibrationFails r (endCalibration s)
      else if r.alone then markReady r.old (storeCoefs r.old c (endCalibration s))
      else attributeFault r (!(driftOk c (nth (0, 0, 0) (endCalibration s).conv.lastTaken r.old) (endCalibration s)))
        (storeCoefs r.old c (endCalibration s)) := rfl
  rw [h, hg, ho, ha]
  rfl

/-- A gain outside the trim range makes the calibration impossible (R69). -/
theorem calibrated_out_of_trim (hg : inTrim c.1 = false) : calibrated r c s = calibrationFails r (endCalibration s) := by
  refine if_pos ?_
  rw [hg]
  rfl

end

/-! A slice that becomes a ready spare -/

/-- The fields of slice `sl`'s coefficients. -/
def coefFlds (sl : Nat) : List Fld := [F.CNV_SLICE_CFG_DELAY sl, F.CNV_SLICE_CAL_OFFSET sl, F.CNV_SLICE_CAL_GAIN sl]

/-- The coefficients of slice `sl` as its registers hold them. -/
def coefShown (sl : Nat) (c : Int × Int × Int) : List (Fld × Nat) :=
  [(F.CNV_SLICE_CFG_DELAY sl, wrapTo 12 c.2.2), (F.CNV_SLICE_CAL_OFFSET sl, wrapTo 16 c.2.1), (F.CNV_SLICE_CAL_GAIN sl, wrapTo 16 c.1)]

theorem storeCoefs_eq (sl : Nat) (c : Int × Int × Int) (s : State) : storeCoefs sl c s =
    writeKeep (fun k => { k with slices := upd k.slices sl fun _ => c }) (putAll (coefShown sl c) s) := rfl

/-- Coefficients that fit their fields are stored in the registers and in the keep record (R62). -/
theorem storeCoefs_spec {sl : Nat} {c : Int × Int × Int} {s : State} (hs : sparseWf (0 : Word) s.regs = true) (hsl : sl < 10)
    (hg : -32767 ≤ c.1 ∧ c.1 ≤ 32767) (ho : -32767 ≤ c.2.1 ∧ c.2.1 ≤ 32767) (hd : -2047 ≤ c.2.2 ∧ c.2.2 ≤ 2047) :
    getS (F.CNV_SLICE_CAL_GAIN sl) (storeCoefs sl c s) = c.1 ∧ getS (F.CNV_SLICE_CAL_OFFSET sl) (storeCoefs sl c s) = c.2.1 ∧
      getS (F.CNV_SLICE_CFG_DELAY sl) (storeCoefs sl c s) = c.2.2 ∧
      (storeCoefs sl c s).cis.b1.keep =
        writeCopy s.cis.b1.keep { keepRec s with slices := upd (keepRec s).slices sl fun _ => c } ∧
      Touches (coefFlds sl ++ [F.CIS_STATUS_DIRTY]) s.regs (storeCoefs sl c s).regs ∧ beyondCis (storeCoefs sl c s) = beyondCis s := by
  have hpend : R.INT_HOST_PEND ≠ R.CNV_SLICE_CFG sl := (show 0x40030014 ≠ 0x40080040 + 4 * sl by omega)
  have hpend' : R.INT_HOST_PEND ≠ R.CNV_SLICE_CAL sl := (show 0x40030014 ≠ 0x40080080 + 4 * sl by omega)
  have hcfg : R.CIS_STATUS ≠ R.CNV_SLICE_CFG sl := (show 0x40110004 ≠ 0x40080040 + 4 * sl by omega)
  have hcal : R.CIS_STATUS ≠ R.CNV_SLICE_CAL sl := (show 0x40110004 ≠ 0x40080080 + 4 * sl by omega)
  obtain ⟨hv, ht⟩ := putAll_spec (l := coefShown sl c) hs (coefFlds sl) rfl
    ⟨by simp [coefFlds, Fld.inWord], by simp [coefFlds, Fld.apart, hpend, hpend']⟩
  simp only [coefShown, List.forall_mem_cons] at hv
  obtain ⟨hdelay, hoffset, hgain, -⟩ := hv
  have hkeep : Touches [F.CIS_STATUS_DIRTY] (putAll (coefShown sl c) s).regs (storeCoefs sl c s).regs :=
    Touches.dirty (.refl ht.wf) (by simp)
  have hread : ∀ g : Fld, g.addr = R.CNV_SLICE_CFG sl ∨ g.addr = R.CNV_SLICE_CAL sl →
      get g (storeCoefs sl c s) = get g (putAll (coefShown sl c) s) := fun g hg => hkeep.get fun f hf => by
    rw [List.mem_singleton] at hf
    subst hf
    obtain hg | hg := hg <;> exact Fld.apart_of_addr (by rw [hg]; assumption)
  refine ⟨?_, ?_, ?_, ?_, (ht.mono (List.subset_append_left _ _)).trans (hkeep.mono (List.subset_append_right _ _)), ?_⟩
  · rw [getS, hread _ (.inr rfl)]
    exact (congrArg (signed 16) hgain).trans ((signed_mod 16 _).trans (signed_wrapTo (by decide) (by omega) (by omega)))
  · rw [getS, hread _ (.inr rfl)]
    exact (congrArg (signed 16) hoffset).trans ((signed_mod 16 _).trans (signed_wrapTo (by decide) (by omega) (by omega)))
  · rw [getS, hread _ (.inl rfl)]
    exact (congrArg (signed 12) hdelay).trans ((signed_mod 12 _).trans (signed_wrapTo (by decide) (by omega) (by omega)))
  · rw [storeCoefs_eq, writeKeep, dirty_cis_b1]
    rfl
  · rw [storeCoefs_eq, beyondCis_writeKeep]
    rfl

/-- The fields of `CNV_STATUS` in which the spares show (R73). -/
def spareFlds : List Fld :=
  [F.CNV_STATUS_SPARE_B, F.CNV_STATUS_SPARE_A, F.CNV_STATUS_RETIRED_N, F.CNV_STATUS_DEGRADED, F.CNV_STATUS_CONV_FAULT]

theorem touches_showSpares {s : State} (hs : sparseWf (0 : Word) s.regs = true) : Touches spareFlds s.regs (showSpares s).regs :=
  Touches.put (Touches.put (Touches.put (Touches.put (Touches.put (.refl hs) (by decide) rfl rfl) (by decide) rfl rfl) (by decide)
    rfl rfl) (by decide) rfl rfl) (by decide) rfl rfl

theorem showSpares_eq (s : State) : showSpares s = { s with regs := (showSpares s).regs } := rfl

/-- The state but for the spares that have been promised to channels. -/
def beyondSwaps (s : State) : State := { s with conv := { s.conv with swaps := [], again := none } }

/-- Spares are promised to channels, and nothing else changes (R71, R72). -/
theorem beyondSwaps_assignSwaps (s : State) : beyondSwaps (assignSwaps s) = beyondSwaps s := by
  refine foldl_same (k := beyondSwaps) (fun t ch _ => ?_) s
  dsimp only
  split
  · split <;> rfl
  · rfl

/-- No relief out of turn comes to wait when spares are promised. -/
theorem again_assignSwaps {s : State} (h : s.conv.again = none) : (assignSwaps s).conv.again = none := by
  refine List.foldlRecOn (motive := fun t : State => t.conv.again = none) _ _ h fun t ht ch _ => ?_
  dsimp only
  split
  · split
    · rfl
    · exact ht
  · exact ht

/-- Nothing starts where nothing waits (R65, R68). -/
theorem startWaiting_idle {s : State} (ha : s.conv.again = none) (hd : s.conv.deferred = false) : startWaiting s = s := by
  unfold startWaiting
  split
  · rfl
  · rw [ha, hd]
    rfl

/-- What a slice that becomes a ready spare notes: when it did (R65). -/
def noteReady (sl : Nat) (s : State) : State :=
  { s with conv := { s.conv with
    readyStamp := s.conv.readyStamp + 1
    readyAt := upd s.conv.readyAt sl fun _ => s.conv.readyStamp + 1
    waitCal := noBit s.conv.waitCal sl } }

/-- The slice shown as a ready spare. -/
def showReady (sl : Nat) (s : State) : State :=
  showSpares (putAll [(F.CNV_SLICE_CFG_READY sl, 1), (F.CNV_SLICE_CFG_ROLE sl, 1)] (noteReady sl s))

theorem markReady_eq (sl : Nat) (s : State) : markReady sl s = startWaiting (assignSwaps (showReady sl s)) := rfl

/-- The registers of the slices lie between `CNV_STATUS` and the Cistern's. -/
theorem spareFlds_apart_slice {f : Fld} (hf : f ∈ spareFlds) {n : Nat} (lo width : Nat) :
    f.apart ⟨R.CNV_SLICE_CFG n, lo, width⟩ = true := by
  have hne : R.CNV_STATUS ≠ R.CNV_SLICE_CFG n := (show 0x40080004 ≠ 0x40080040 + 4 * n by omega)
  simp only [spareFlds, List.mem_cons, List.not_mem_nil, or_false] at hf
  obtain rfl | rfl | rfl | rfl | rfl := hf <;> exact Fld.apart_of_addr hne

/-- A slice becomes a ready spare while nothing waits for one: its role and its readiness show, and spares may be promised (R65, R72). -/
theorem markReady_spec {sl : Nat} {s : State} (hs : sparseWf (0 : Word) s.regs = true) (hd : s.conv.deferred = false)
    (ha : s.conv.again = none) :
    get (F.CNV_SLICE_CFG_ROLE sl) (markReady sl s) = 1 ∧ get (F.CNV_SLICE_CFG_READY sl) (markReady sl s) = 1 ∧
      Touches ([F.CNV_SLICE_CFG_READY sl, F.CNV_SLICE_CFG_ROLE sl] ++ spareFlds) s.regs (markReady sl s).regs ∧
      beyondSwaps (markReady sl s) = beyondSwaps { noteReady sl s with regs := (markReady sl s).regs } := by
  have hpend : R.INT_HOST_PEND ≠ R.CNV_SLICE_CFG sl := (show 0x40030014 ≠ 0x40080040 + 4 * sl by omega)
  obtain ⟨hv, ht⟩ := putAll_spec (s := noteReady sl s) (l := [(F.CNV_SLICE_CFG_READY sl, 1), (F.CNV_SLICE_CFG_ROLE sl, 1)]) hs
    [F.CNV_SLICE_CFG_READY sl, F.CNV_SLICE_CFG_ROLE sl] rfl ⟨by simp [Fld.inWord], by simp [Fld.apart, hpend]⟩
  simp only [List.forall_mem_cons] at hv
  obtain ⟨hready, hrole, -⟩ := hv
  have hshow := touches_showSpares ht.wf
  have hswaps := beyondSwaps_assignSwaps (showReady sl s)
  have hwait : markReady sl s = assignSwaps (showReady sl s) := by
    refine startWaiting_idle (again_assignSwaps ha) ?_
    exact (congrArg (fun t : State => t.conv.deferred) hswaps :).trans hd
  have hregs : (markReady sl s).regs = (showReady sl s).regs := by
    rw [hwait]
    exact (congrArg State.regs hswaps :)
  refine ⟨?_, ?_, ?_, ?_⟩
  · rw [get_eq, hregs]
    exact (hshow.get fun f hf => spareFlds_apart_slice hf _ _).trans hrole
  · rw [get_eq, hregs]
    exact (hshow.get fun f hf => spareFlds_apart_slice hf _ _).trans hready
  · rw [hregs]
    exact (ht.mono (List.subset_append_left _ _)).trans (hshow.mono (List.subset_append_right _ _))
  · rw [hregs, hwait]
    exact hswaps

/-! A calibration that is impossible -/

/-- A slice whose calibration was impossible waits a rotation period for the next (R69). -/
def noteImpossible (r : Relief) (s : State) : State :=
  { s with conv := { s.conv with
    waitCal := withBit s.conv.waitCal r.old, waitAt := upd s.conv.waitAt r.old fun _ => s.metro.clock } }

/-- What an impossible calibration shows: the slice is a spare and not ready, and a relief has its result (R69). -/
def impossibleShown (r : Relief) : List (Fld × Nat) :=
  [(F.CNV_SLICE_CFG_READY r.old, 0), (F.CNV_SLICE_CFG_ROLE r.old, 1)] ++
    if r.alone then [] else [(F.CNV_SPLICE_RES_RESULT, b2n (decide (r.failed ≠ 0)))]

/-- The causes of an impossible calibration (R68, R69). -/
def raiseImpossible (r : Relief) (s : State) : State :=
  raise F.CNV_CAUSE_CAL_FAIL (raiseIf (decide (r.failed ≠ 0)) F.CNV_CAUSE_SPLICE_FAIL s)

theorem calibrationFails_eq (r : Relief) (s : State) :
    calibrationFails r s = occurrence r.old 0 0 (raiseImpossible r (putAll (impossibleShown r) (noteImpossible r s))) := by
  unfold calibrationFails impossibleShown raiseImpossible
  cases r.alone <;> rfl

/-- The fields in which slice `sl` and the result of a relief show. -/
def slotFlds (sl : Nat) : List Fld := [F.CNV_SLICE_CFG_READY sl, F.CNV_SLICE_CFG_ROLE sl, F.CNV_SPLICE_RES_RESULT]

theorem slotFlds_apart : ∀ sl < 10, FieldsApart (F.INT_HOST_PEND_PEND :: slotFlds sl) := by decide

/-- The result of a relief is written for a relief alone (R68). -/
theorem impossibleShown_spec {r : Relief} {s : State} (hs : sparseWf (0 : Word) s.regs = true) (hr : r.old < 10) :
    get (F.CNV_SLICE_CFG_ROLE r.old) (putAll (impossibleShown r) s) = 1 ∧
      get (F.CNV_SLICE_CFG_READY r.old) (putAll (impossibleShown r) s) = 0 ∧
      get F.CNV_SPLICE_RES_RESULT (putAll (impossibleShown r) s) =
        (if r.alone then get F.CNV_SPLICE_RES_RESULT s else b2n (decide (r.failed ≠ 0))) ∧
      Touches (slotFlds r.old) s.regs (putAll (impossibleShown r) s).regs := by
  have hslot := slotFlds_apart r.old hr
  cases ha : r.alone with
  | true =>
    obtain ⟨hin, hpair⟩ := hslot
    simp only [slotFlds, List.forall_mem_cons, List.pairwise_cons] at hin hpair
    have hshown : impossibleShown r = [(F.CNV_SLICE_CFG_READY r.old, 0), (F.CNV_SLICE_CFG_ROLE r.old, 1)] := by
      rw [impossibleShown, ha]
      rfl
    rw [hshown]
    obtain ⟨hv, ht⟩ := putAll_spec (l := [(F.CNV_SLICE_CFG_READY r.old, 0), (F.CNV_SLICE_CFG_ROLE r.old, 1)]) hs
      [F.CNV_SLICE_CFG_READY r.old, F.CNV_SLICE_CFG_ROLE r.old] rfl ⟨by simp [hin], by simp [hpair]⟩
    simp only [List.forall_mem_cons] at hv
    obtain ⟨hready, hrole, -⟩ := hv
    exact ⟨hrole, hready, ht.get (by simp [hpair]), ht.mono (by simp [slotFlds])⟩
  | false =>
    have hshown : impossibleShown r = [(F.CNV_SLICE_CFG_READY r.old, 0), (F.CNV_SLICE_CFG_ROLE r.old, 1),
        (F.CNV_SPLICE_RES_RESULT, b2n (decide (r.failed ≠ 0)))] := by
      rw [impossibleShown, ha]
      rfl
    rw [hshown]
    obtain ⟨hv, ht⟩ := putAll_spec (l := [(F.CNV_SLICE_CFG_READY r.old, 0), (F.CNV_SLICE_CFG_ROLE r.old, 1),
      (F.CNV_SPLICE_RES_RESULT, b2n (decide (r.failed ≠ 0)))]) hs (slotFlds r.old) rfl hslot
    simp only [List.forall_mem_cons] at hv
    obtain ⟨hready, hrole, hresult, -⟩ := hv
    refine ⟨hrole, hready, hresult.trans ?_, ht⟩
    exact Nat.mod_eq_of_lt ((b2n_lt _).trans (by decide))

/-- The fields of the two causes. -/
def failFlds : List Fld := [F.CNV_CAUSE_CAL_FAIL, F.CNV_CAUSE_SPLICE_FAIL, F.INT_HOST_PEND_PEND]

/-- An impossible calibration raises `CAL_FAIL`, and `SPLICE_FAIL` after a failed window (R68, R69). -/
theorem raiseImpossible_spec {r : Relief} {s : State} (hs : sparseWf (0 : Word) s.regs = true) :
    Raised F.CNV_CAUSE_CAL_FAIL s (raiseImpossible r s) ∧ (r.failed ≠ 0 → Raised F.CNV_CAUSE_SPLICE_FAIL s (raiseImpossible r s)) ∧
      Touches failFlds s.regs (raiseImpossible r s).regs ∧ beyondLog (raiseImpossible r s) = beyondLog s ∧
      (raiseImpossible r s).tamp = s.tamp := by
  have hsplice : Touches failFlds s.regs (raiseIf (decide (r.failed ≠ 0)) F.CNV_CAUSE_SPLICE_FAIL s).regs :=
    Touches.raiseIf (.refl hs) (by decide) (by decide) rfl rfl
  refine ⟨hsplice.raised rfl rfl (by decide) (by decide) (by decide), fun hf => ?_, hsplice.raise (by decide) (by decide) rfl rfl, ?_, ?_⟩
  · have hraise : raiseIf (decide (r.failed ≠ 0)) F.CNV_CAUSE_SPLICE_FAIL s = raise F.CNV_CAUSE_SPLICE_FAIL s := if_pos (decide_eq_true hf)
    have hr : Raised F.CNV_CAUSE_SPLICE_FAIL s (raiseIf (decide (r.failed ≠ 0)) F.CNV_CAUSE_SPLICE_FAIL s) := by
      rw [hraise]
      exact raised_raise hs rfl rfl (by decide) (by decide) rfl
    exact hr.raise hsplice.wf rfl rfl rfl rfl
  · rw [raiseImpossible, beyondLog_raise, raiseIf]
    split
    · exact beyondLog_raise _ _
    · rfl
  · rw [raiseImpossible, raise_tamp, raiseIf_tamp]

/-! The commands -/

/-- The fields in which an impossible calibration of slice `sl` shows, beside those of its counter. -/
def impossibleFlds (sl : Nat) : List Fld := F.CNV_STATUS_ROT_STATE :: slotFlds sl ++ failFlds

/-- The state in which an impossible calibration is counted against the slice. -/
def impossible (r : Relief) (s : State) : State :=
  raiseImpossible r (putAll (impossibleShown r) (noteImpossible r (endCalibration s)))

/-- An impossible calibration before it is counted: the slice waits, not ready, and the causes are raised (R69). -/
theorem impossible_spec {r : Relief} {s : State} (hs : sparseWf (0 : Word) s.regs = true) (hr : r.old < 10) :
    get (F.CNV_SLICE_CFG_ROLE r.old) (impossible r s) = 1 ∧ get (F.CNV_SLICE_CFG_READY r.old) (impossible r s) = 0 ∧
      get F.CNV_SPLICE_RES_RESULT (impossible r s) =
        (if r.alone then get F.CNV_SPLICE_RES_RESULT s else b2n (decide (r.failed ≠ 0))) ∧
      Raised F.CNV_CAUSE_CAL_FAIL s (impossible r s) ∧ (r.failed ≠ 0 → Raised F.CNV_CAUSE_SPLICE_FAIL s (impossible r s)) ∧
      Touches (impossibleFlds r.old) s.regs (impossible r s).regs ∧
      beyondLog (impossible r s) = beyondLog (noteImpossible r (endCalibration s)) ∧ (impossible r s).tamp = s.tamp := by
  have hend := touches_endCalibration hs
  obtain ⟨hrole, hready, hresult, hslot⟩ := impossibleShown_spec (s := noteImpossible r (endCalibration s)) hend.wf hr
  obtain ⟨hcal, hsplice, hfail, hrest, htamp⟩ := raiseImpossible_spec (r := r) hslot.wf
  have hcfg : ∀ n < 10, ∀ f ∈ failFlds, f.apart (F.CNV_SLICE_CFG_ROLE n) = true ∧ f.apart (F.CNV_SLICE_CFG_READY n) = true := by decide
  have hbefore : Touches (F.CNV_STATUS_ROT_STATE :: slotFlds r.old) s.regs
      (putAll (impossibleShown r) (noteImpossible r (endCalibration s))).regs :=
    (hend.mono (by simp)).trans (hslot.mono (List.subset_cons_self _ _))
  have henable : ∀ n < 10, ∀ f ∈ F.CNV_STATUS_ROT_STATE :: slotFlds n, f.addr ≠ R.CNV_CAUSE_EN := by decide
  refine ⟨(hfail.get fun f hf => (hcfg _ hr f hf).1).trans hrole, (hfail.get fun f hf => (hcfg _ hr f hf).2).trans hready, ?_,
    hcal.rebase hbefore (henable _ hr), fun hf => (hsplice hf).rebase hbefore (henable _ hr), ?_, hrest.trans (beyondLog_putAll _ _), ?_⟩
  · refine (hfail.get (by decide)).trans (hresult.trans ?_)
    rw [← hend.get (g := F.CNV_SPLICE_RES_RESULT) (by decide)]
    rfl
  · exact (hbefore.mono (List.subset_append_left _ _)).trans (hfail.mono (List.subset_append_right _ _))
  · rw [impossible, htamp, putAll_eq]
    exact (congrArg State.tamp (endCalibration_eq s) :)

/-- A slice's registers but its count share no bit with what an occurrence touches. -/
theorem countedFlds_apart_slice : ∀ n < 10, ∀ f ∈ countedFlds n, ∀ g ∈ [F.CNV_SLICE_CFG_ROLE n, F.CNV_SLICE_CFG_READY n,
    F.CNV_SPLICE_RES_RESULT, F.CNV_CAUSE_CAL_FAIL, F.CNV_CAUSE_SPLICE_FAIL], f.apart g = true := by decide

/-- The fields of an impossible calibration lie outside the fault counters' block. -/
theorem blockOf_impossibleFlds : ∀ n < 10, ∀ f ∈ impossibleFlds n, blockOf f.addr ≠ 5 := by decide

/-- SLICE_CALIBRATION ends the calibration with what was measured (R68). -/
theorem exec_sliceCalibration {s : State} {gain delay : Int} {r : Relief} (hd : domOn 1 s = true) (hr : s.conv.calOf = some r)
    (hst : s.conv.calStep = 2) : exec (.sliceCalibration gain delay) s = .next (calibrated r (gain, s.conv.calOffset, delay) s) := by
  have hexec : execSliceCalibration gain delay s =
      onlyIf (s.conv.calStep == 2 && domOn 1 s) (calibrated r (gain, s.conv.calOffset, delay)) s := by
    rw [execSliceCalibration, hr]
  exact hexec.trans (onlyIf_of_true (by simp [hst, hd]) _ s)

/-- SLICE_CALIBRATION of a slice on its own stores what lies in the trim range and makes the slice a ready spare (R69, R73). -/
theorem exec_sliceCalibration_stores {s : State} {gain delay : Int} {r : Relief} (hs : sparseWf (0 : Word) s.regs = true)
    (hd : domOn 1 s = true) (hr : s.conv.calOf = some r) (hst : s.conv.calStep = 2) (hal : r.alone = true) (hold : r.old < 10)
    (hdef : s.conv.deferred = false) (hag : s.conv.again = none) (hg : -32767 ≤ gain ∧ gain ≤ 32767)
    (ho : -32767 ≤ s.conv.calOffset ∧ s.conv.calOffset ≤ 32767) (hdel : -2047 ≤ delay ∧ delay ≤ 2047) :
    ∃ t, exec (.sliceCalibration gain delay) s = .next t ∧ t.conv.calOf = none ∧ getS (F.CNV_SLICE_CAL_GAIN r.old) t = gain ∧
      getS (F.CNV_SLICE_CAL_OFFSET r.old) t = s.conv.calOffset ∧ getS (F.CNV_SLICE_CFG_DELAY r.old) t = delay ∧
      get (F.CNV_SLICE_CFG_ROLE r.old) t = 1 ∧ get (F.CNV_SLICE_CFG_READY r.old) t = 1 ∧
      get F.CNV_SPLICE_RES_RESULT t = get F.CNV_SPLICE_RES_RESULT s ∧
      t.cis.b1.keep = writeCopy s.cis.b1.keep { keepRec s with
        slices := upd (keepRec s).slices r.old fun _ => (gain, s.conv.calOffset, delay) } ∧ t.tamp = s.tamp := by
  have hend := touches_endCalibration hs
  have hendeq := endCalibration_eq s
  have hexec := (exec_sliceCalibration (gain := gain) (delay := delay) hd hr hst).trans (congrArg Host.Outcome.next
    (calibrated_in_trim (c := (gain, s.conv.calOffset, delay)) hal (by simp [inTrim, hg]) (by simp [inTrim, ho])))
  obtain ⟨hgain, hoffset, hdelay, hkeep, hstore, hcis⟩ :=
    storeCoefs_spec (c := (gain, s.conv.calOffset, delay)) hend.wf hold hg ho hdel
  have hconv : (storeCoefs r.old (gain, s.conv.calOffset, delay) (endCalibration s)).conv =
      { s.conv with calOf := none, calStep := 0 } :=
    (congrArg State.conv hcis :).trans (congrArg State.conv hendeq :)
  obtain ⟨hrole, hready, hmark, hrest⟩ := markReady_spec (sl := r.old) hstore.wf (by rw [hconv]; exact hdef) (by rw [hconv]; exact hag)
  have hslice : ∀ n < 10, ∀ f ∈ [F.CNV_SLICE_CFG_READY n, F.CNV_SLICE_CFG_ROLE n] ++ spareFlds,
      ∀ g ∈ [F.CNV_SLICE_CAL_GAIN n, F.CNV_SLICE_CAL_OFFSET n, F.CNV_SLICE_CFG_DELAY n, F.CNV_SPLICE_RES_RESULT],
      f.apart g = true := by decide
  have hcoef : ∀ n < 10, ∀ f ∈ coefFlds n ++ [F.CIS_STATUS_DIRTY], f.apart F.CNV_SPLICE_RES_RESULT = true := by decide
  refine ⟨_, hexec, ?_, ?_, ?_, ?_, hrole, hready, ?_, ?_, ?_⟩
  · exact (congrArg (fun u : State => u.conv.calOf) hrest :).trans (congrArg ConvSt.calOf hconv)
  · rw [getS, hmark.get fun f hf => hslice _ hold f hf _ (by simp)]
    exact hgain
  · rw [getS, hmark.get fun f hf => hslice _ hold f hf _ (by simp)]
    exact hoffset
  · rw [getS, hmark.get fun f hf => hslice _ hold f hf _ (by simp)]
    exact hdelay
  · rw [hmark.get fun f hf => hslice _ hold f hf _ (by simp), hstore.get (hcoef _ hold), hend.get (by decide)]
  · have hrec : (endCalibration s).cis.b1.keep = s.cis.b1.keep ∧ keepRec (endCalibration s) = keepRec s := by
      rw [hendeq]
      exact ⟨rfl, rfl⟩
    have hcis' := (congrArg (fun u : State => u.cis.b1.keep) hrest :).trans hkeep
    rwa [hrec.1, hrec.2] at hcis'
  · exact (congrArg State.tamp hrest :).trans ((congrArg State.tamp hcis :).trans (congrArg State.tamp hendeq :))

/-- SLICE_CALIBRATION with a gain outside the trim range counts one occurrence against the slice, which stays not ready (R69). -/
theorem exec_sliceCalibration_fails {s : State} {gain delay : Int} {r : Relief} (hs : sparseWf (0 : Word) s.regs = true)
    (hd : domOn 1 s = true) (hr : s.conv.calOf = some r) (hst : s.conv.calStep = 2) (hold : r.old < 10)
    (hg : gain < -32767 ∨ 32767 < gain) (hb : staysBelow r.old s = true) :
    ∃ t, exec (.sliceCalibration gain delay) s = .next t ∧ t.conv.calOf = none ∧ bit t.conv.waitCal r.old = true ∧
      get (F.CNV_SLICE_CFG_ROLE r.old) t = 1 ∧ get (F.CNV_SLICE_CFG_READY r.old) t = 0 ∧ Raised F.CNV_CAUSE_CAL_FAIL s t ∧
      Counted r.old s t ∧
      get F.CNV_SPLICE_RES_RESULT t = (if r.alone then get F.CNV_SPLICE_RES_RESULT s else b2n (decide (r.failed ≠ 0))) ∧
      (r.failed ≠ 0 → Raised F.CNV_CAUSE_SPLICE_FAIL s t) ∧
      OnlyFlds (impossibleFlds r.old ++ countedFlds r.old) { s with conv := t.conv, tamp := t.tamp, cis := t.cis, free := t.free } t := by
  have hout : inTrim gain = false := by
    rw [inTrim, Bool.and_eq_false_iff]
    obtain h | h := hg
    · exact .inl (decide_eq_false (by omega))
    · exact .inr (decide_eq_false (by omega))
  have hexec : exec (.sliceCalibration gain delay) s = .next (occurrence r.old 0 0 (impossible r s)) :=
    (exec_sliceCalibration hd hr hst).trans (congrArg Host.Outcome.next
      ((calibrated_out_of_trim (c := (gain, s.conv.calOffset, delay)) hout).trans (calibrationFails_eq _ _)))
  obtain ⟨hrole, hready, hresult, hcal, hsplice, hbefore, hrest, htamp⟩ := impossible_spec hs hold
  have hnote := hrest.trans (congrArg (fun u => beyondLog (noteImpossible r u)) (endCalibration_eq s))
  obtain ⟨hcount, ht, hlog⟩ := occurrence_after hbefore (blockOf_impossibleFlds _ hold) (by omega) hb htamp
    (congrArg State.sup hnote :) 0 0
  have happ : ∀ g ∈ [F.CNV_SLICE_CFG_ROLE r.old, F.CNV_SLICE_CFG_READY r.old, F.CNV_SPLICE_RES_RESULT, F.CNV_CAUSE_CAL_FAIL,
      F.CNV_CAUSE_SPLICE_FAIL], ∀ f ∈ countedFlds r.old, f.apart g = true :=
    fun g hg f hf => countedFlds_apart_slice _ hold f hf g hg
  have hconv := (congrArg State.conv (hlog.trans hnote) :)
  refine ⟨_, hexec, (congrArg ConvSt.calOf hconv :), ?_, (ht.get (happ _ (by simp))).trans hrole,
    (ht.get (happ _ (by simp))).trans hready, hcal.touches ht (happ _ (by simp)), hcount, (ht.get (happ _ (by simp))).trans hresult,
    fun hf => (hsplice hf).touches ht (happ _ (by simp)), ?_⟩
  · exact (congrArg (fun c : ConvSt => bit c.waitCal r.old) hconv :).trans (bit_withBit_same _ _)
  · exact ((hbefore.mono (List.subset_append_left _ _)).trans (ht.mono (List.subset_append_right _ _))).onlyFlds
      (eq_of_beyondLog_conv _ (hlog.trans hnote)) rfl

/-- OVERLOAD_MONITOR of a live slice counts one occurrence against it (R71). -/
theorem exec_overloadMonitor {s : State} {slice : Nat} (hs : sparseWf (0 : Word) s.regs = true) (hd : domOn 1 s = true)
    (hsl : slice < 10) (hlive : (chanOf slice s).isSome = true) (hret : fbit F.CNV_RETIRED_SLICE slice s = false)
    (hb : staysBelow slice s = true) :
    ∃ t, exec (.overloadMonitor slice) s = .next t ∧ Counted slice s t ∧
      OnlyFlds (countedFlds slice) { s with tamp := t.tamp, cis := t.cis, free := t.free } t := by
  obtain ⟨hcount, ht, hlog⟩ := occurrence_spec hs (by omega : slice < 64) hb 0 0
  have hdoomed : (bit (occurrence slice 0 0 s).conv.doomed slice && !(bit s.conv.doomed slice)) = false := by
    have hconv : (occurrence slice 0 0 s).conv = s.conv := (congrArg State.conv hlog :)
    rw [hconv]
    exact Bool.and_not_self _
  have hexec : execOverloadMonitor slice s = .next (occurrence slice 0 0 s) := by
    refine (onlyIf_of_true (by simp [hd, hlive, hret, hsl]) _ s).trans (congrArg Host.Outcome.next ?_)
    dsimp only
    rw [hdoomed]
    rfl
  exact ⟨_, hexec, hcount, ht.onlyFlds (eq_of_beyondLog hlog) rfl⟩

/-- Settles O22: the offset is kept; a measured slice is stored and ready, or counts a fault; a live slice held at an extreme counts one. -/
theorem sliceCalibration : Obligations.SliceCalibration := by
  unfold Obligations.SliceCalibration
  refine ⟨fun s offset hcal hst hd => ?_,
    fun s gain delay r hs hd hr hst hal hold hdef hag hg ho hdel =>
      exec_sliceCalibration_stores hs.1 hd hr hst hal hold hdef hag hg ho hdel,
    fun s gain delay r hs hd hr hst hold _ hg hb => ?_,
    fun s slice hs hd hsl hlive hret hb => exec_overloadMonitor hs.1 hd hsl hlive hret hb⟩
  · exact (onlyIf_of_true (by simp [hcal, hst, hd]) _ s : execSliceOffsetDone offset s = _)
  · obtain ⟨t, hexec, hcal, hwait, hrole, hready, hfail, hcount, hresult, hsplice, honly⟩ :=
      exec_sliceCalibration_fails (delay := delay) hs.1 hd hr hst hold hg hb
    refine ⟨t, hexec, hcal, hwait, hrole, hready, hfail, hcount, hresult, hsplice, honly.mono ?_⟩
    refine List.append_subset.mpr ⟨fun f hf => ?_, List.subset_append_right _ _⟩
    simp only [impossibleFlds, slotFlds, failFlds, List.cons_append, List.nil_append, List.mem_cons, List.not_mem_nil, or_false] at hf
    obtain rfl | rfl | rfl | rfl | rfl | rfl | rfl := hf <;> simp [countedFlds]

end Sys2Proof.Machine
end

section
/-! SUPPORT. The raw tap of chapter 03 (O23): its selection, its FIFO, and the sample that finds the FIFO full. -/
namespace Sys2Proof.Machine

/-- The fields of `CNV_TAP_CFG`. -/
def tapCfgFlds : List Fld := [F.CNV_TAP_CFG_MODE, F.CNV_TAP_CFG_SEL_KIND, F.CNV_TAP_CFG_SEL, F.CNV_TAP_CFG_DEST]

/-- The fields in which the tap's FIFO shows: its level and its oldest sample. -/
def fifoFlds : List Fld := [F.CNV_TAP_STATUS_LEVEL, F.CNV_TAP_DATA_VALID, F.CNV_TAP_DATA_SEQ, F.CNV_TAP_DATA_SAMPLE]

/-- A saturated sum is the smaller of bound and sum. -/
theorem satNat_eq_min (hi n : Nat) : satNat hi n = min hi n := by
  unfold satNat
  split <;> omega

section
variable {m : Master} {w : Word} {s : State}

theorem tapCfgWrite_allowed (h : arg F.CNV_TAP_CFG_MODE w ≠ 1 ∨ arg F.CNV_TAP_CFG_DEST w = 1)
    (hsh : arg F.CNV_TAP_CFG_DEST w = 0 ∨ (share 2 s).2 ≠ 0) : tapCfgWrite w s = plainWrite R.CNV_TAP_CFG w s := by
  refine if_neg ?_
  rintro (⟨hmode, hdest⟩ | ⟨hdest, hshare⟩)
  · obtain h | h := h
    · exact h hmode
    · omega
  · obtain h | h := hsh
    · omega
    · exact h hshare

variable (hs : sparseWf (0 : Word) s.regs = true) (hw : Writable m R.CNV_TAP_CFG s)
include hs hw

/-- TAP_CFG_WRITE of an allowed selection stores it (R74). -/
theorem exec_tapCfgWrite_stores (h : arg F.CNV_TAP_CFG_MODE w ≠ 1 ∨ arg F.CNV_TAP_CFG_DEST w = 1)
    (hsh : arg F.CNV_TAP_CFG_DEST w = 0 ∨ (share 2 s).2 ≠ 0) :
    ∃ t, exec (.tapCfgWrite m w) s = .next t ∧ (∀ f ∈ tapCfgFlds, get f t = arg f w) ∧ OnlyFlds tapCfgFlds s t := by
  have hexec : exec (.tapCfgWrite m w) s = .next (tapCfgWrite w s) := cmdWrite_of_writable _ hw
  rw [hexec, tapCfgWrite_allowed h hsh]
  obtain ⟨hget, htouch⟩ := plainWrite_spec (a := R.CNV_TAP_CFG) (L := tapCfgFlds) (w := w) hs (by decide) (by decide) rfl
  exact ⟨_, rfl, hget, htouch.onlyFlds rfl rfl⟩

/-- TAP_CFG_WRITE of a selection that is not allowed stores nothing (R75). -/
theorem exec_tapCfgWrite_refused (h : (arg F.CNV_TAP_CFG_MODE w = 1 ∧ arg F.CNV_TAP_CFG_DEST w = 0) ∨
      (arg F.CNV_TAP_CFG_DEST w = 1 ∧ (share 2 s).2 = 0)) :
    ∃ t, exec (.tapCfgWrite m w) s = .next t ∧ Raised F.CNV_CAUSE_CFG_REFUSED s t ∧
      OnlyFlds [F.CNV_CAUSE_CFG_REFUSED, F.INT_HOST_PEND_PEND] s t := by
  have hexec : exec (.tapCfgWrite m w) s = .next (tapCfgWrite w s) := cmdWrite_of_writable _ hw
  have hraise : tapCfgWrite w s = raise F.CNV_CAUSE_CFG_REFUSED s := if_pos h
  rw [hexec, hraise]
  exact ⟨_, rfl, raised_raise hs rfl rfl (by decide) (by decide) rfl, ((Chain.start hs).raise (by simp) (by simp) rfl).only⟩

end

/-- A FIFO that holds a sample shows its level and its oldest sample. -/
theorem showFifo_of_cons {s : State} {e : Nat × Nat} {l : List (Nat × Nat)} (h : s.conv.fifo = e :: l) :
    showFifo s = putAll [(F.CNV_TAP_STATUS_LEVEL, s.conv.fifo.length), (F.CNV_TAP_DATA_VALID, 1), (F.CNV_TAP_DATA_SEQ, e.2),
      (F.CNV_TAP_DATA_SAMPLE, e.1)] s := by
  simp only [showFifo, put_conv]
  rw [h]
  rfl

/-- A FIFO that holds a sample, as it shows. -/
theorem showFifo_spec {s : State} (hs : sparseWf (0 : Word) s.regs = true) (h : s.conv.fifo ≠ []) :
    get F.CNV_TAP_STATUS_LEVEL (showFifo s) = s.conv.fifo.length % 32 ∧ OnlyFlds fifoFlds s (showFifo s) := by
  obtain ⟨e, l, he⟩ := List.exists_cons_of_ne_nil h
  rw [showFifo_of_cons he]
  obtain ⟨hv, ht⟩ := putAll_spec (l := [(F.CNV_TAP_STATUS_LEVEL, s.conv.fifo.length), (F.CNV_TAP_DATA_VALID, 1),
    (F.CNV_TAP_DATA_SEQ, e.2), (F.CNV_TAP_DATA_SAMPLE, e.1)]) hs fifoFlds rfl (by decide)
  exact ⟨hv (F.CNV_TAP_STATUS_LEVEL, s.conv.fifo.length) (by simp), ht.onlyFlds rfl rfl⟩

/-- A sample taken into the FIFO: its sequence number has been given (R74). -/
def takeSeq (s : State) : State := { s with conv := { s.conv with tapSeq := (s.conv.tapSeq + 1) % 128 } }

/-- The FIFO with one more sample at its end. -/
def pushTap (e : Nat × Nat) (s : State) : State := { s with conv := { s.conv with fifo := s.conv.fifo ++ [e] } }

section
variable {s : State} {codes : List Nat} {back : Nat} (hs : sparseWf (0 : Word) s.regs = true) (hd : domOn 1 s = true ∧ domOn 2 s = true)
  (hmode : 2 ≤ get F.CNV_TAP_CFG_MODE s) (hdest : flag F.CNV_TAP_CFG_DEST s = false)
include hd hmode hdest

/-- A sample of mode 2 or 3 for the register FIFO (R74, R75). -/
theorem tapSample_fifo : tapSample codes back s = if 16 ≤ s.conv.fifo.length then
    raise F.CNV_CAUSE_TAP_OVERRUN (put F.CNV_TAP_STATUS_OVERRUN 1 (addSat F.CNV_TAP_STATUS_DROPPED 1 (takeSeq s)))
    else showFifo (pushTap (wrapTo 24 (tapValue back s), s.conv.tapSeq) (takeSeq s)) := by
  have hoff : ¬ (get F.CNV_TAP_CFG_MODE s = 0 || !(domOn 1 s) || !(domOn 2 s)) = true := by
    have h0 : get F.CNV_TAP_CFG_MODE s ≠ 0 := by omega
    simp [h0, hd.1, hd.2]
  unfold tapSample
  rw [if_neg hoff, if_neg (by omega)]
  refine (if_neg ?_).trans rfl
  exact fun h => Bool.false_ne_true (hdest.symm.trans h)

include hs

/-- TAP_SAMPLE with room in the FIFO appends the sample (R75). -/
theorem exec_tapSample_appends (hlen : s.conv.fifo.length < 16) :
    ∃ t, exec (.tapSample codes back) s = .next t ∧
      t.conv = { s.conv with
        tapSeq := (s.conv.tapSeq + 1) % 128, fifo := s.conv.fifo ++ [(wrapTo 24 (tapValue back s), s.conv.tapSeq)] } ∧
      get F.CNV_TAP_STATUS_LEVEL t = s.conv.fifo.length + 1 ∧
      OnlyFlds fifoFlds { s with conv := t.conv } t := by
  have hexec : exec (.tapSample codes back) s = .next (tapSample codes back s) := rfl
  have hpush : (pushTap (wrapTo 24 (tapValue back s), s.conv.tapSeq) (takeSeq s)).conv.fifo ≠ [] := by simp [pushTap]
  obtain ⟨hlevel, honly⟩ := showFifo_spec (s := pushTap (wrapTo 24 (tapValue back s), s.conv.tapSeq) (takeSeq s)) hs hpush
  have hconv := congrArg State.conv (showFifo_eq (pushTap (wrapTo 24 (tapValue back s), s.conv.tapSeq) (takeSeq s)))
  rw [hexec, tapSample_fifo hd hmode hdest, if_neg (by omega)]
  refine ⟨_, rfl, hconv, hlevel.trans ?_, ?_⟩
  · simp only [pushTap, takeSeq, List.length_append, List.length_cons, List.length_nil]
    omega
  · rw [hconv]
    exact honly

/-- TAP_SAMPLE with the FIFO full drops the sample and says so (R75). -/
theorem exec_tapSample_drops (hlen : s.conv.fifo.length = 16) :
    ∃ t, exec (.tapSample codes back) s = .next t ∧ get F.CNV_TAP_STATUS_OVERRUN t = 1 ∧ Raised F.CNV_CAUSE_TAP_OVERRUN s t ∧
      get F.CNV_TAP_STATUS_DROPPED t = min 0xFFFF (get F.CNV_TAP_STATUS_DROPPED s + 1) ∧
      OnlyFlds [F.CNV_TAP_STATUS_OVERRUN, F.CNV_TAP_STATUS_DROPPED, F.CNV_CAUSE_TAP_OVERRUN, F.INT_HOST_PEND_PEND] (takeSeq s) t := by
  have hexec : exec (.tapSample codes back) s = .next (tapSample codes back s) := rfl
  obtain ⟨hv, hr, ho⟩ := raise_putAll_spec (s := takeSeq s)
    (l := [(F.CNV_TAP_STATUS_DROPPED, satNat 0xFFFF (get F.CNV_TAP_STATUS_DROPPED s + 1)), (F.CNV_TAP_STATUS_OVERRUN, 1)])
    hs [F.CNV_TAP_STATUS_DROPPED, F.CNV_TAP_STATUS_OVERRUN] F.CNV_CAUSE_TAP_OVERRUN rfl (by decide) (by decide) (by decide) (by decide)
  simp only [List.forall_mem_cons] at hv
  obtain ⟨hdropped, hoverrun, -⟩ := hv
  rw [hexec, tapSample_fifo hd hmode hdest, if_pos hlen.ge]
  refine ⟨_, rfl, hoverrun, hr, hdropped.trans ?_, ho.mono (by simp)⟩
  rw [satNat_eq_min]
  exact Nat.mod_eq_of_lt (Nat.lt_of_le_of_lt (Nat.min_le_left _ _) (by decide))

end

/-- Settles O23: a selection is stored or refused as a whole, and a sample is appended or dropped. -/
theorem rawTap : Obligations.RawTap := by
  unfold Obligations.RawTap
  refine ⟨fun s m w hs hw h hsh => ?_, fun s m w hs hw h => exec_tapCfgWrite_refused hs.1 hw h,
    fun s codes back hs hd hmode hdest hlen => ?_,
    fun s codes back hs hd hmode hdest hlen => exec_tapSample_drops hs.1 hd hmode hdest hlen⟩
  · obtain ⟨t, hexec, hget, honly⟩ := exec_tapCfgWrite_stores hs.1 hw h hsh
    simp only [tapCfgFlds, List.forall_mem_cons] at hget
    obtain ⟨hm, hk, hsel, hdest, -⟩ := hget
    exact ⟨t, hexec, hm, hk, hsel, hdest, honly⟩
  · obtain ⟨t, hexec, hconv, hlevel, honly⟩ := exec_tapSample_appends hs.1 hd hmode hdest hlen
    exact ⟨t, hexec, hconv, hlevel, honly.mono (by decide)⟩

end Sys2Proof.Machine
end

section
/-! SUPPORT. The auxiliary SAR and the compensation temperature of chapter 03 (O24). -/
namespace Sys2Proof.Machine

/-! SAR results -/

/-- A clamped number as the 16 bits of a register hold it. -/
theorem wrapTo_clampInt_16 (v : Int) : ((wrapTo 16 (clampInt 0 0xFFFF v) % 2 ^ 16 : Nat) : Int) = max 0 (min 0xFFFF v) := by
  unfold wrapTo clampInt
  split
  · omega
  · split <;> omega

/-- A result beside the die sensors, VLD and the crack loop is stored, limited to its register, with NEW (R76, R385). -/
theorem exec_sarResult {s : State} {n : Nat} (v : Int) (hs : sparseWf (0 : Word) s.regs = true) (hd : domOn 1 s = true)
    (hn : 2 ≤ n ∧ n < 14 ∧ n ≠ 4 ∧ n ≠ 9) :
    ∃ t, exec (.sarResult n v) s = .next t ∧ (get (F.CNV_SAR_RES_VALUE n) t : Int) = max 0 (min 0xFFFF v) ∧
      get (F.CNV_SAR_RES_NEW n) t = 1 ∧ OnlyFlds [F.CNV_SAR_RES_VALUE n, F.CNV_SAR_RES_NEW n] s t := by
  obtain ⟨h2, h14, h4, h9⟩ := hn
  have hexec : execSarResult n v s = .next (putAll [(F.CNV_SAR_RES_NEW n, 1),
      (F.CNV_SAR_RES_VALUE n, wrapTo 16 (clampInt 0 0xFFFF v))] s) := by
    refine (onlyIf_of_true (by simp [hd, h14]) _ s).trans ?_
    have hlow : ¬ n < 2 := by omega
    simp only [hlow, h4, h9, if_false, false_and]
    rfl
  have hpend : R.INT_HOST_PEND ≠ R.CNV_SAR_RES n := (show 0x40030014 ≠ 0x40080300 + 4 * n by omega)
  obtain ⟨hv, ht⟩ := putAll_spec (l := [(F.CNV_SAR_RES_NEW n, 1), (F.CNV_SAR_RES_VALUE n, wrapTo 16 (clampInt 0 0xFFFF v))]) hs
    [F.CNV_SAR_RES_NEW n, F.CNV_SAR_RES_VALUE n] rfl ⟨by simp [Fld.inWord], by simp [hpend, Fld.apart]⟩
  simp only [List.forall_mem_cons] at hv
  obtain ⟨hnew, hvalue, -⟩ := hv
  refine ⟨_, hexec, ?_, hnew, (ht.mono (by simp)).onlyFlds rfl rfl⟩
  rw [hvalue]
  exact wrapTo_clampInt_16 v

/-! The compensation temperature -/

/-- A band is one of eight. -/
theorem nextBand_lt (t : Int) {b : Nat} (h : b < 8) : nextBand t b < 8 := by
  unfold nextBand
  extract_lets up
  have hup : up < 8 := by
    refine List.foldlRecOn (motive := (· < 8)) _ _ h fun b hb i hi => ?_
    have := List.mem_range.mp hi
    split <;> omega
  refine List.foldlRecOn (motive := (· < 8)) _ _ hup fun b hb i hi => ?_
  have := List.mem_range.mp (List.mem_reverse.mp hi)
  split <;> omega

/-- The sensors' disagreement as an evaluation notes it (R77). -/
def compareSensors (apart : Bool) (s : State) : State :=
  let s := { s with conv := { s.conv with disagreeSecs := if apart then s.conv.disagreeSecs + 1 else 0 } }
  if apart then s else put F.CNV_STATUS_TEMP_DISAGREE 0 s

/-- The end of an evaluation: the temperature `t` is shown, and the band that follows is staged (R78). -/
def stageBand (t : Int) (s : State) : State :=
  let s := putS F.CNV_TEMP_TEMP t s
  let nb := nextBand t (if flag F.CNV_TEMP_PENDING s then get F.CNV_TEMP_PENDING_BAND s else get F.CNV_TEMP_BAND s)
  put F.CNV_TEMP_PENDING (b2n (nb != get F.CNV_TEMP_BAND s)) (put F.CNV_TEMP_PENDING_BAND nb s)

/-- An evaluation compares the die sensors and stages the band of what they tell. -/
theorem execTempEvaluation_eq (s : State) : execTempEvaluation s = onlyIf (domOn 1 s) (fun s =>
    let a := getS (F.CNV_SAR_RES_VALUE 0) s
    let b := getS (F.CNV_SAR_RES_VALUE 1) s
    let u := compareSensors (decide (50 < (a - b).natAbs)) s
    stageBand (if flag F.CNV_STATUS_TEMP_DISAGREE u then max a b else quot (a + b) 2) u) s := rfl

section
variable {s : State} (hs : sparseWf (0 : Word) s.regs = true)
include hs

/-- With no band pending the temperature is shown, and the band that the hysteresis gives is staged. -/
theorem stageBand_spec (t : Int) (hp : flag F.CNV_TEMP_PENDING s = false) :
    getS F.CNV_TEMP_TEMP (stageBand t s) = signed 16 (wrapTo 16 t) ∧
      get F.CNV_TEMP_PENDING_BAND (stageBand t s) = nextBand t (get F.CNV_TEMP_BAND s) ∧
      (flag F.CNV_TEMP_PENDING (stageBand t s) = true ↔ nextBand t (get F.CNV_TEMP_BAND s) ≠ get F.CNV_TEMP_BAND s) ∧
      Touches [F.CNV_TEMP_TEMP, F.CNV_TEMP_PENDING_BAND, F.CNV_TEMP_PENDING] s.regs (stageBand t s).regs := by
  generalize hnb : nextBand t (get F.CNV_TEMP_BAND s) = nb
  have hlt : nb < 8 := hnb ▸ nextBand_lt t (rget_lt F.CNV_TEMP_BAND s.regs)
  have hstage : stageBand t s = putAll [(F.CNV_TEMP_TEMP, wrapTo 16 t), (F.CNV_TEMP_PENDING_BAND, nb),
      (F.CNV_TEMP_PENDING, b2n (nb != get F.CNV_TEMP_BAND s))] s := by
    have hpend : flag F.CNV_TEMP_PENDING (putS F.CNV_TEMP_TEMP t s) = false := (flag_put_apart _ hs rfl rfl).trans hp
    have hband : get F.CNV_TEMP_BAND (putS F.CNV_TEMP_TEMP t s) = get F.CNV_TEMP_BAND s := get_put_apart _ hs rfl rfl
    unfold stageBand
    dsimp only
    rw [hpend, hband, if_neg Bool.false_ne_true, hnb]
    rfl
  obtain ⟨hv, ht⟩ := putAll_spec (l := [(F.CNV_TEMP_TEMP, wrapTo 16 t), (F.CNV_TEMP_PENDING_BAND, nb),
      (F.CNV_TEMP_PENDING, b2n (nb != get F.CNV_TEMP_BAND s))]) hs
    [F.CNV_TEMP_TEMP, F.CNV_TEMP_PENDING_BAND, F.CNV_TEMP_PENDING] rfl (by decide)
  simp only [List.forall_mem_cons] at hv
  obtain ⟨htemp, hpband, hpend, -⟩ := hv
  rw [hstage]
  refine ⟨?_, hpband.trans (Nat.mod_eq_of_lt hlt), ?_, ht⟩
  · rw [getS, htemp, signed, signed, Nat.mod_mod]
  · rw [flag, hpend]
    by_cases h : nb = get F.CNV_TEMP_BAND s <;> simp [h, b2n]

/-- With sensors that agree the mean of their readings is shown and its band staged (R77, R78). -/
theorem exec_tempEvaluation_agree (hd : domOn 1 s = true) {a b : Int} (ha : a = getS (F.CNV_SAR_RES_VALUE 0) s)
    (hb : b = getS (F.CNV_SAR_RES_VALUE 1) s) (hab : (a - b).natAbs ≤ 50) (hp : flag F.CNV_TEMP_PENDING s = false) :
    ∃ t, exec .tempEvaluation s = .next t ∧ getS F.CNV_TEMP_TEMP t = signed 16 (wrapTo 16 (quot (a + b) 2)) ∧
      get F.CNV_TEMP_PENDING_BAND t = nextBand (quot (a + b) 2) (get F.CNV_TEMP_BAND s) ∧
      (flag F.CNV_TEMP_PENDING t = true ↔ nextBand (quot (a + b) 2) (get F.CNV_TEMP_BAND s) ≠ get F.CNV_TEMP_BAND s) ∧
      get F.CNV_STATUS_TEMP_DISAGREE t = 0 ∧
      OnlyFlds [F.CNV_TEMP_TEMP, F.CNV_TEMP_PENDING, F.CNV_TEMP_PENDING_BAND, F.CNV_STATUS_TEMP_DISAGREE]
        { s with conv := { s.conv with disagreeSecs := 0 } } t := by
  let u := compareSensors false s
  have hu : Touches [F.CNV_STATUS_TEMP_DISAGREE] s.regs u.regs := Touches.put (.refl hs) (by simp) rfl rfl
  have hdis : get F.CNV_STATUS_TEMP_DISAGREE u = 0 := get_put_same (s := { s with conv := _ }) 0 hs rfl
  have hexec : exec .tempEvaluation s = .next (stageBand (quot (a + b) 2) u) := by
    have hclose : decide (50 < (getS (F.CNV_SAR_RES_VALUE 0) s - getS (F.CNV_SAR_RES_VALUE 1) s).natAbs) = false := by
      rw [← ha, ← hb]
      exact decide_eq_false (by omega)
    refine (execTempEvaluation_eq s).trans ((onlyIf_of_true hd _ s).trans ?_)
    dsimp only
    rw [hclose, ← ha, ← hb, flag, hdis]
    rfl
  have hband : get F.CNV_TEMP_BAND u = get F.CNV_TEMP_BAND s := hu.get (by decide)
  obtain ⟨htemp, hpband, hpend, ht⟩ := stageBand_spec hu.wf (quot (a + b) 2) ((hu.flag (by decide)).trans hp)
  rw [hband] at hpband hpend
  exact ⟨_, hexec, htemp, hpband, hpend, (ht.get (by decide)).trans hdis,
    ((hu.mono (by decide)).trans (ht.mono (by decide))).onlyFlds rfl rfl⟩

/-- Ten seconds of disagreement are reported, and one occurrence of counter 35 is counted (R77). -/
theorem exec_tempDisagree (hd : domOn 1 s = true) (h10 : 10 ≤ s.conv.disagreeSecs) (hf : flag F.CNV_STATUS_TEMP_DISAGREE s = false)
    (hb : staysBelow 35 s = true) :
    ∃ t, exec .tempDisagree s = .next t ∧ get F.CNV_STATUS_TEMP_DISAGREE t = 1 ∧ Raised F.CNV_CAUSE_TEMP_DISAGREE s t ∧
      Counted 35 s t ∧ OnlyFlds (F.CNV_STATUS_TEMP_DISAGREE :: F.CNV_CAUSE_TEMP_DISAGREE :: countedFlds 35)
        { s with tamp := t.tamp, cis := t.cis, free := t.free } t := by
  let u := raise F.CNV_CAUSE_TEMP_DISAGREE (put F.CNV_STATUS_TEMP_DISAGREE 1 s)
  have hexec : execTempDisagree s = .next (occurrence 35 0 0 u) := onlyIf_of_true (by simp [hd, h10, hf]) _ s
  obtain ⟨hv, hr, -⟩ := raise_putAll (l := [(F.CNV_STATUS_TEMP_DISAGREE, 1)]) hs F.CNV_CAUSE_TEMP_DISAGREE (by decide) (by decide)
    (by decide) (by decide)
  have hu : Touches [F.CNV_STATUS_TEMP_DISAGREE, F.CNV_CAUSE_TEMP_DISAGREE, F.INT_HOST_PEND_PEND] s.regs u.regs :=
    Touches.raise (Touches.put (.refl hs) (by simp) rfl rfl) (by simp) (by simp) rfl rfl
  have hrest : beyondLog u = beyondLog s := beyondLog_raise _ _
  obtain ⟨hcount, ht, hlog⟩ := occurrence_after hu (by decide) (by decide) hb (raise_tamp _ _) (raise_sup _ _) 0 0
  have hdis : get F.CNV_STATUS_TEMP_DISAGREE u = 1 := hv (F.CNV_STATUS_TEMP_DISAGREE, 1) (by simp)
  exact ⟨_, hexec, (ht.get (by decide)).trans hdis, Raised.touches hr ht (by decide), hcount,
    ((hu.mono (by decide)).trans (ht.mono (by decide))).onlyFlds (eq_of_beyondLog (hlog.trans hrest)) rfl⟩

end

/-- Settles O24: a result is clamped as it is stored, the evaluation stages the band of the mean, a lasting disagreement counts. -/
theorem temperatureAndSar : Obligations.TemperatureAndSar := by
  unfold Obligations.TemperatureAndSar
  exact ⟨fun s n v hs hd hn => exec_sarResult v hs.1 hd hn,
    fun s a b hs hd ha hb hab hp => exec_tempEvaluation_agree hs.1 hd ha hb hab hp,
    fun s hs hd h10 hf hb => exec_tempDisagree hs.1 hd h10 hf hb⟩

end Sys2Proof.Machine
end

section
/-! SUPPORT. Factory calibration of chapter 03 (O25): the commit with its record in the legal log, and the calibration window. -/
namespace Sys2Proof.Machine

/-! The change part of the legal log -/

/-- The fields in which a change record shows (R238): the log's fill, the cause, the dirty banks. -/
def legalFlds : List Fld :=
  [F.OBJ_CAUSE_LEGAL_CHANGE, F.OBJ_LEGAL_LOG_CHANGES, F.OBJ_LEGAL_LOG_USED, F.CIS_STATUS_DIRTY, F.INT_HOST_PEND_PEND]

/-- A change record fills its slots, is counted and announced, and touches nothing beyond the Cistern (R238, R239). -/
theorem legalChange_spec {s : State} (hs : sparseWf (0 : Word) s.regs = true) (kind role : Nat) (es : List (List Byte)) :
    (legalChange kind role es s).cis.b2.chgUsed = s.cis.b2.chgUsed + legalSlots es.length ∧
      (legalChange kind role es s).cis.b2.chgCount = s.cis.b2.chgCount + 1 ∧
      Raised F.OBJ_CAUSE_LEGAL_CHANGE s (legalChange kind role es s) ∧
      Touches legalFlds s.regs (legalChange kind role es s).regs ∧ beyondCis (legalChange kind role es s) = beyondCis s := by
  unfold legalChange
  extract_lets num t n m b2 cis u
  have ht : Touches legalFlds s.regs t.regs := Touches.dirty (.refl hs) (by decide)
  have hb : t.cis.b2 = s.cis.b2 := dirty_cis_b2 _ _
  have hu : Touches legalFlds s.regs u.regs := Touches.dirty (by exact ht) (by decide)
  have hub : u.cis.b2 = { t.cis.b2 with
      legal := m, chgUsed := t.cis.b2.chgUsed + n, chgCount := t.cis.b2.chgCount + 1 } := dirty_cis_b2 _ _
  have hput := (hu.put (f := F.OBJ_LEGAL_LOG_USED) (v := u.cis.b2.chgUsed) (by decide) rfl rfl).put
    (f := F.OBJ_LEGAL_LOG_CHANGES) (v := u.cis.b2.chgCount) (by decide) rfl rfl
  refine ⟨?_, ?_, hput.raised rfl rfl (by decide) (by decide) (by decide), hput.raise (by decide) (by decide) rfl rfl, ?_⟩
  · rw [raise_cis, put_cis, put_cis, hub, hb]
  · rw [raise_cis, put_cis, put_cis, hub, hb]
  · rw [beyondCis_raise, beyondCis_put, beyondCis_put]
    exact (beyondCis_dirty _ _).trans (beyondCis_counterAdd 4 1 s)

/-! `CNV_CAL_CTL` -/

/-- The fields of `CNV_CAL_CTL` that a write sets. -/
def calCtlFlds : List Fld := [F.CNV_CAL_CTL_PHASE, F.CNV_CAL_CTL_QTY, F.CNV_CAL_CTL_FRAMES]

/-- A write of `CNV_CAL_CTL` by the access codes alone. -/
def calCtlSet (w : Word) (s : State) : State := plainWrite R.CNV_CAL_CTL w s

section
variable {w : Word} {s : State}

/-- A write without START sets the fields, and commits when asked to (R79). -/
theorem calCtlWrite_of_no_start (h : arg F.CNV_CAL_CTL_START w = 0) :
    calCtlWrite w s = if arg F.CNV_CAL_CTL_COMMIT w = 1 then commit (calCtlSet w s) else calCtlSet w s := by
  simp [calCtlWrite, calCtlSet, h]

/-- A START with no window running, of at least one frame, asks for a window (R81). -/
theorem calCtlWrite_start (h : arg F.CNV_CAL_CTL_START w = 1) (hc : arg F.CNV_CAL_CTL_COMMIT w = 0) (hf : arg F.CNV_CAL_CTL_FRAMES w ≠ 0)
    (hb : flag F.CNV_CAL_CTL_BUSY s = false) (hp : s.conv.winPend = false) :
    calCtlWrite w s = { calCtlSet w s with conv := { s.conv with winPend := true } } := by
  simp only [calCtlWrite, h, hc, hf, hb, hp]
  rfl

/-- A START while a window runs or is asked for is refused (R81). -/
theorem calCtlWrite_refused (h : arg F.CNV_CAL_CTL_START w = 1) (hr : flag F.CNV_CAL_CTL_BUSY s = true ∨ s.conv.winPend = true) :
    calCtlWrite w s = raise F.CNV_CAUSE_CFG_REFUSED s := if_pos ⟨h, .inl (by simpa using hr)⟩

variable (hs : sparseWf (0 : Word) s.regs = true)
include hs

theorem calCtlSet_spec : (∀ f ∈ calCtlFlds, get f (calCtlSet w s) = arg f w) ∧ Touches calCtlFlds s.regs (calCtlSet w s).regs :=
  plainWrite_spec (a := R.CNV_CAL_CTL) hs (by decide) (by decide) rfl

/-- The conditions of a legal change are not touched. -/
theorem legalOk_calCtlSet : legalOk (calCtlSet w s) = legalOk s := by
  obtain ⟨-, ht⟩ := calCtlSet_spec (w := w) hs
  rw [legalOk, legalOk, ht.flag (by decide), ht.flag (by decide)]

/-- The staged coefficients are not touched. -/
theorem stagedCoef_calCtlSet (n : Nat) : stagedCoef n (calCtlSet w s) = stagedCoef n s := by
  obtain ⟨-, ht⟩ := calCtlSet_spec (w := w) hs
  have hn : ∀ a, R.CNV_CAL_CTL < a → ∀ f ∈ calCtlFlds, f.addr ≠ a := fun a ha f hf => by
    simp only [calCtlFlds, List.mem_cons, List.not_mem_nil, or_false] at hf
    obtain rfl | rfl | rfl := hf <;> exact ha.ne
  have hrd : ∀ a, R.CNV_CAL_CTL < a → rd (calCtlSet w s) a = rd s a := fun a ha => ht.rd (hn a ha)
  rw [stagedCoef, stagedCoef, get, get, get, hrd, hrd, hrd]
  · rfl
  all_goals
    dsimp only [R.CNV_CAL_CTL, R.CNV_CHAN_GAIN, R.CNV_CHAN_OFS, R.FLT_DELAY]
    omega

theorem commitEntries_calCtlSet : commitEntries (calCtlSet w s) = commitEntries s := by
  unfold commitEntries
  simp only [stagedCoef_calCtlSet hs]
  rfl

end

/-- What a commit notes for the next epoch (R79). -/
def noteCommit (s : State) : State :=
  { s with conv := { s.conv with commitPend := true, committed := (List.range 8).map fun n => stagedCoef n s } }

/-- A commit under the conditions of a legal change, with room in the log (R79, R239). -/
theorem commit_accepted {s : State} (hok : legalOk s = true) (hfit : legalFits (commitEntries s).length s = true) :
    commit s = put F.CNV_STATUS_CAL_UNSAVED 1 (legalChange 0x0001 5 (commitEntries s) (noteCommit s)) := by
  simp only [commit, hok, hfit]
  rfl

/-- Outside a legal session a commit does nothing (R237). -/
theorem commit_refused {s : State} (hok : legalOk s = false) : commit s = s := by
  simp [commit, hok]

section
variable {m : Master} {w : Word} {s : State} (hs : sparseWf (0 : Word) s.regs = true) (hw : Writable m R.CNV_CAL_CTL s)
include hs hw

/-- CAL_COMMIT in a legal session marks the staged values and logs every change (R79, R239). -/
theorem exec_calCommit_accepted (hst : arg F.CNV_CAL_CTL_START w = 0) (hc : arg F.CNV_CAL_CTL_COMMIT w = 1) (hok : legalOk s = true)
    (hfit : legalFits (commitEntries s).length s = true) :
    ∃ t, exec (.calCommit m w) s = .next t ∧
      t.conv = { s.conv with commitPend := true, committed := (List.range 8).map fun n => stagedCoef n s } ∧
      get F.CNV_STATUS_CAL_UNSAVED t = 1 ∧ Raised F.OBJ_CAUSE_LEGAL_CHANGE s t ∧
      t.cis.b2.chgUsed = s.cis.b2.chgUsed + legalSlots (commitEntries s).length ∧ t.cis.b2.chgCount = s.cis.b2.chgCount + 1 ∧
      OnlyFlds (calCtlFlds ++ F.CNV_STATUS_CAL_UNSAVED :: legalFlds) { s with conv := t.conv, cis := t.cis } t := by
  have hexec : exec (.calCommit m w) s = .next (calCtlWrite w s) := cmdWrite_of_writable _ hw
  obtain ⟨-, hset⟩ := calCtlSet_spec (w := w) hs
  have hentries := commitEntries_calCtlSet (w := w) hs
  rw [hexec, calCtlWrite_of_no_start hst, if_pos hc, commit_accepted ((legalOk_calCtlSet hs).trans hok) (by rw [hentries]; exact hfit),
    hentries]
  have hnote : (noteCommit (calCtlSet w s)).conv =
      { s.conv with commitPend := true, committed := (List.range 8).map fun n => stagedCoef n s } := by
    simp only [noteCommit, stagedCoef_calCtlSet hs]
    rfl
  obtain ⟨hused, hcount, hraised, ht, hrest⟩ := legalChange_spec (s := noteCommit (calCtlSet w s)) hset.wf 0x0001 5 (commitEntries s)
  have hconv : (beyondCis (legalChange 0x0001 5 (commitEntries s) (noteCommit (calCtlSet w s)))).conv = _ :=
    (congrArg State.conv hrest).trans hnote
  have hall : Touches (calCtlFlds ++ F.CNV_STATUS_CAL_UNSAVED :: legalFlds) s.regs _ := (hset.mono (by decide)).trans (ht.mono (by decide))
  refine ⟨_, rfl, hconv, get_put_same 1 ht.wf rfl, ?_, hused, hcount, ?_⟩
  · exact (hraised.put 1 ht.wf rfl rfl rfl).rebase hset (by decide)
  · refine (hall.put (by decide) rfl rfl).onlyFlds (eq_of_beyondCis_conv (noteCommit (calCtlSet w s)).conv ?_) rfl
    exact (beyondCis_put _ _ _).trans hrest

/-- CAL_COMMIT outside a legal session commits nothing (R237). -/
theorem exec_calCommit_refused (hst : arg F.CNV_CAL_CTL_START w = 0) (hok : legalOk s = false) :
    ∃ t, exec (.calCommit m w) s = .next t ∧ OnlyFlds calCtlFlds s t := by
  have hexec : exec (.calCommit m w) s = .next (calCtlWrite w s) := cmdWrite_of_writable _ hw
  have hcommit : commit (calCtlSet w s) = calCtlSet w s := commit_refused ((legalOk_calCtlSet hs).trans hok)
  obtain ⟨-, hset⟩ := calCtlSet_spec (w := w) hs
  rw [hexec, calCtlWrite_of_no_start hst, hcommit, ite_self]
  exact ⟨_, rfl, hset.onlyFlds rfl rfl⟩

/-- CAL_WINDOW_START with no window running asks for one (R81). -/
theorem exec_calWindowStart_accepted (hst : arg F.CNV_CAL_CTL_START w = 1) (hc : arg F.CNV_CAL_CTL_COMMIT w = 0)
    (hf : arg F.CNV_CAL_CTL_FRAMES w ≠ 0) (hb : flag F.CNV_CAL_CTL_BUSY s = false) (hp : s.conv.winPend = false) :
    ∃ t, exec (.calWindowStart m w) s = .next t ∧ (∀ f ∈ calCtlFlds, get f t = arg f w) ∧
      OnlyFlds calCtlFlds { s with conv := { s.conv with winPend := true } } t := by
  have hexec : exec (.calWindowStart m w) s = .next (calCtlWrite w s) := cmdWrite_of_writable _ hw
  obtain ⟨hget, hset⟩ := calCtlSet_spec (w := w) hs
  rw [hexec, calCtlWrite_start hst hc hf hb hp]
  exact ⟨_, rfl, hget, Touches.onlyFlds (by exact hset) rfl rfl⟩

/-- A second START is refused (R81). -/
theorem exec_calWindowStart_refused (hst : arg F.CNV_CAL_CTL_START w = 1)
    (hr : flag F.CNV_CAL_CTL_BUSY s = true ∨ s.conv.winPend = true) :
    ∃ t, exec (.calWindowStart m w) s = .next t ∧ Raised F.CNV_CAUSE_CFG_REFUSED s t ∧
      OnlyFlds [F.CNV_CAUSE_CFG_REFUSED, F.INT_HOST_PEND_PEND] s t := by
  have hexec : exec (.calWindowStart m w) s = .next (calCtlWrite w s) := cmdWrite_of_writable _ hw
  rw [hexec, calCtlWrite_refused hst hr]
  exact ⟨_, rfl, raised_raise hs rfl rfl (by decide) (by decide) rfl, ((Chain.start hs).raise (by simp) (by simp) rfl).only⟩

end

/-- CAL_WINDOW_END latches energy and reference count (R81). -/
theorem exec_calWindowEnd {s : State} {edges : Nat} (hs : sparseWf (0 : Word) s.regs = true) (hb : flag F.CNV_CAL_CTL_BUSY s = true)
    (hl : s.conv.winLeft = 0) (hen : s.conv.winEnergy < 2 ^ 64) (hed : edges < 2 ^ 32) :
    ∃ t, exec (.calWindowEnd edges) s = .next t ∧ get F.CNV_CAL_REF_COUNT t = edges ∧
      get F.CNV_CAL_ENERGY_LO_ENERGY t + 2 ^ 32 * get F.CNV_CAL_ENERGY_HI_ENERGY t = s.conv.winEnergy ∧
      get F.CNV_CAL_CTL_BUSY t = 0 ∧ Raised F.CNV_CAUSE_CAL_DONE s t ∧
      OnlyFlds [F.CNV_CAL_CTL_BUSY, F.CNV_CAL_REF_COUNT, F.CNV_CAL_ENERGY_LO_ENERGY, F.CNV_CAL_ENERGY_HI_ENERGY,
        F.CNV_CAUSE_CAL_DONE, F.INT_HOST_PEND_PEND] s t := by
  have hexec : execCalWindowEnd edges s = .next _ := onlyIf_of_true (by simp [hb, hl]) _ s
  obtain ⟨hv, hr, ho⟩ := raise_putAll_spec (l := [(F.CNV_CAL_ENERGY_HI_ENERGY, s.conv.winEnergy / 2 ^ 32 % 2 ^ 32),
      (F.CNV_CAL_ENERGY_LO_ENERGY, s.conv.winEnergy % 2 ^ 32), (F.CNV_CAL_REF_COUNT, edges), (F.CNV_CAL_CTL_BUSY, 0)]) hs
    [F.CNV_CAL_ENERGY_HI_ENERGY, F.CNV_CAL_ENERGY_LO_ENERGY, F.CNV_CAL_REF_COUNT, F.CNV_CAL_CTL_BUSY] F.CNV_CAUSE_CAL_DONE rfl
    (by decide) (by decide) (by decide) (by decide)
  simp only [List.forall_mem_cons] at hv
  obtain ⟨hhi, hlo, hcount, hbusy, -⟩ := hv
  refine ⟨_, hexec, hcount.trans (Nat.mod_eq_of_lt hed), ?_, hbusy, hr, ho.mono (by decide)⟩
  calc _ = s.conv.winEnergy % 2 ^ 32 % 2 ^ 32 + 2 ^ 32 * (s.conv.winEnergy / 2 ^ 32 % 2 ^ 32 % 2 ^ 32) :=
        congrArg₂ (fun a b => a + 2 ^ 32 * b) hlo hhi
    _ = s.conv.winEnergy := by omega

/-- Settles O25: a commit goes through in a legal session alone, one window runs at a time, and its end is latched. -/
theorem factoryCalibration : Obligations.FactoryCalibration := by
  unfold Obligations.FactoryCalibration
  refine ⟨fun s m w hs hw hst hc hok hfit => ?_, fun s m w hs hw hst hok => exec_calCommit_refused hs.1 hw hst hok,
    fun s m w hs hw hst hc hf hb hp => ?_, fun s m w hs hw hst hr => exec_calWindowStart_refused hs.1 hw hst hr,
    fun s edges hs hb hl hen hed => exec_calWindowEnd hs.1 hb hl hen hed⟩
  · obtain ⟨t, hexec, hconv, hunsaved, hraised, hused, hcount, honly⟩ := exec_calCommit_accepted hs.1 hw hst hc hok hfit
    exact ⟨t, hexec, hconv, hunsaved, hraised, hused, hcount, honly.mono (by decide)⟩
  · obtain ⟨t, hexec, hget, honly⟩ := exec_calWindowStart_accepted hs.1 hw hst hc hf hb hp
    simp only [calCtlFlds, List.forall_mem_cons] at hget
    obtain ⟨hphase, hqty, hframes, -⟩ := hget
    exact ⟨t, hexec, hphase, hqty, hframes, honly⟩

end Sys2Proof.Machine
end

section
/-! SUPPORT. The chain and the tracker of chapter 04 (O26): the entry of a tracker state and what it raises, the ways out of HOLD, and the
two meanings of a write of `FLT_CTL`. -/
namespace Sys2Proof.Machine

/-! The tracker's states -/

section
variable {s : State}

/-- From any state but LOCKED the tracker enters ACQUIRE without a cause (R95). -/
theorem setTracker_acquire (h : get F.FLT_STATUS_TRK_STATE s ≠ 2) :
    setTracker 1 s = putAll [(F.FLT_STATUS_TRK_STATE, 1), (F.FLT_STATUS_COHERENT, 0)] s := by
  have hlost : (decide (get F.FLT_STATUS_TRK_STATE s = 2) && decide (1 = 1)) = false := by simp [h]
  unfold setTracker
  dsimp only
  rw [hlost]
  split
  · rfl
  · simp only [raiseIf, Nat.reduceEqDiff, decide_false, Nat.reduceBEq, Bool.or_false]
    rfl

/-- The tracker that is not coasting already enters COAST with its cause (R95). -/
theorem setTracker_coast (h : get F.FLT_STATUS_TRK_STATE s ≠ 4) :
    setTracker 4 s = raise F.FLT_CAUSE_COAST (putAll [(F.FLT_STATUS_TRK_STATE, 4), (F.FLT_STATUS_COHERENT, 0)] s) := by
  unfold setTracker
  dsimp only
  rw [if_neg (Ne.symm h)]
  simp only [raiseIf, Nat.reduceEqDiff, decide_false, decide_true, Bool.and_false, if_true, Nat.reduceBEq, Bool.or_false]
  rfl

end

/-! REF_SWITCH -/

section
variable {s : State}

/-- What a move to another reference forgets of the earlier one (R97). -/
def forgetRef (s : State) : State := { s with metro := { s.metro with fallbackSecs := 0, slipPrev := 0, phasePrev := none } }

/-- A jittering reference, and a low one with no other that qualifies, is acquired again (R97). -/
theorem leaveHold_again (h3 : get F.FLT_STATUS_TRK_STATE s = 3)
    (h : s.metro.holdLow = false ∨ nextRef s = some (get F.FLT_STATUS_TRK_REF s)) :
    leaveHold s = putAll [(F.FLT_STATUS_TRK_STATE, 1), (F.FLT_STATUS_COHERENT, 0), (F.FLT_STATUS_HOLD_RUN, 0)] s := by
  have hagain : put F.FLT_STATUS_HOLD_RUN 0 (setTracker 1 s) =
      putAll [(F.FLT_STATUS_TRK_STATE, 1), (F.FLT_STATUS_COHERENT, 0), (F.FLT_STATUS_HOLD_RUN, 0)] s := by
    rw [setTracker_acquire (by omega)]
    rfl
  unfold leaveHold
  obtain hlow | hnext := h
  · rw [hlow]
    exact hagain
  · rw [hnext, hagain]
    dsimp only
    rw [if_pos rfl, ite_self]

/-- A low reference gives way to the next channel that qualifies (R97). -/
theorem leaveHold_moves {c : Nat} (hs : sparseWf (0 : Word) s.regs = true) (h3 : get F.FLT_STATUS_TRK_STATE s = 3)
    (hlow : s.metro.holdLow = true) (hnext : nextRef s = some c) (hc : c ≠ get F.FLT_STATUS_TRK_REF s) :
    leaveHold s = raise F.FLT_CAUSE_REF_SWITCH (putAll [(F.FLT_STATUS_TRK_REF, c), (F.FLT_STATUS_TRK_STATE, 1),
      (F.FLT_STATUS_COHERENT, 0), (F.FLT_STATUS_HOLD_RUN, 0)] (forgetRef s)) := by
  have hstate : get F.FLT_STATUS_TRK_STATE (put F.FLT_STATUS_TRK_REF c s) = 3 := (get_put_apart c hs rfl rfl).trans h3
  unfold leaveHold
  rw [hlow, hnext]
  refine (if_neg (by decide)).trans ((if_neg hc).trans ?_)
  rw [moveRef, setTracker_acquire (by omega)]
  rfl

/-- With no channel that qualifies the tracker coasts (R97). -/
theorem leaveHold_coasts (h3 : get F.FLT_STATUS_TRK_STATE s = 3) (hlow : s.metro.holdLow = true) (hnext : nextRef s = none) :
    leaveHold s = put F.FLT_STATUS_HOLD_RUN 0 (raise F.FLT_CAUSE_COAST
      (putAll [(F.FLT_STATUS_TRK_STATE, 4), (F.FLT_STATUS_COHERENT, 0)] s)) := by
  unfold leaveHold
  rw [hlow, hnext, setTracker_coast (by omega)]
  rfl

/-- The next reference is one of the three voltage channels. -/
theorem nextRef_lt {c : Nat} (h : nextRef s = some c) : c < 3 := by
  have hmem := List.mem_of_find?_eq_some h
  simp only [List.map_cons, List.map_nil, List.mem_cons, List.not_mem_nil, or_false] at hmem
  omega

end

/-- The new frame's flags once the tracker has left HOLD: no longer TRK_HOLD, but as the state it is in gives them (R123). -/
def newFrame (s : State) : State := trackerFlags { s with en := { s.en with flags := noBit s.en.flags 2 } }

/-- A frame that the tracker does not begin in HOLD is not marked TRK_HOLD (R123). -/
theorem newFrame_not_hold {s : State} (h : get F.FLT_STATUS_TRK_STATE s ≠ 3) : bit (newFrame s).en.flags 2 = false := by
  have hbit : ∀ (c : Prop) [Decidable c] (n i : Nat), i < 2 → bit n 2 = false → bit (if c then withBit n i else n) 2 = false := by
    intro c _ n i hi hn
    split
    · simp only [bit, withBit, Nat.testBit_or, Nat.one_shiftLeft, Nat.testBit_two_pow] at hn ⊢
      simp [hn, hi.ne]
    · exact hn
  have hhold : (newFrame s).en.flags = _ := if_neg h
  rw [hhold]
  refine hbit _ _ _ (by decide) (hbit _ _ _ (by decide) ?_)
  simp [bit, testBit_noBit]

/-- REF_SWITCH in HOLD for HOLD_MAX frames: the tracker leaves HOLD, and the new frame is marked for the state it is then in (R97). -/
theorem exec_refSwitch {L : List Fld} {s u t : State} (hm : metroOn s = true) (h3 : get F.FLT_STATUS_TRK_STATE s = 3)
    (hpos : s.metro.pos = 0) (hmax : get F.FLT_TRK_CTL_HOLD_MAX s ≤ get F.FLT_STATUS_HOLD_RUN s) (hleave : leaveHold s = t)
    (honly : OnlyFlds L u t) (hst : get F.FLT_STATUS_TRK_STATE t ≠ 3) :
    exec .refSwitch s = .next (newFrame t) ∧ bit (newFrame t).en.flags 2 = false ∧
      OnlyFlds L { u with en := { u.en with flags := (newFrame t).en.flags } } (newFrame t) := by
  have hexec : execRefSwitch s = .next (newFrame (leaveHold s)) := onlyIf_of_true (by simp [hm, h3, hpos, hmax]) _ s
  obtain ⟨hrest, hreads⟩ := honly
  refine ⟨hleave ▸ hexec, newFrame_not_hold hst, ?_, hreads⟩
  exact congrArg (fun v : State => { v with en := { v.en with flags := (newFrame t).en.flags } }) hrest

section
variable {s : State} (hs : sparseWf (0 : Word) s.regs = true) (hm : metroOn s = true) (h3 : get F.FLT_STATUS_TRK_STATE s = 3)
  (hpos : s.metro.pos = 0) (hmax : get F.FLT_TRK_CTL_HOLD_MAX s ≤ get F.FLT_STATUS_HOLD_RUN s)
include hs hm h3 hpos hmax

/-- REF_SWITCH of a jittering reference, or of a low one where no other channel qualifies, acquires it again (R97). -/
theorem exec_refSwitch_again (h : s.metro.holdLow = false ∨ nextRef s = some (get F.FLT_STATUS_TRK_REF s)) :
    ∃ t, exec .refSwitch s = .next t ∧ get F.FLT_STATUS_TRK_STATE t = 1 ∧ get F.FLT_STATUS_HOLD_RUN t = 0 ∧
      get F.FLT_STATUS_COHERENT t = 0 ∧ bit t.en.flags 2 = false ∧
      OnlyFlds [F.FLT_STATUS_TRK_STATE, F.FLT_STATUS_HOLD_RUN, F.FLT_STATUS_COHERENT]
        { s with en := { s.en with flags := t.en.flags } } t := by
  obtain ⟨hv, ht⟩ := putAll_spec (l := [(F.FLT_STATUS_TRK_STATE, 1), (F.FLT_STATUS_COHERENT, 0), (F.FLT_STATUS_HOLD_RUN, 0)]) hs
    [F.FLT_STATUS_TRK_STATE, F.FLT_STATUS_COHERENT, F.FLT_STATUS_HOLD_RUN] rfl (by decide)
  simp only [List.forall_mem_cons] at hv
  obtain ⟨hstate, hcoh, hrun, -⟩ := hv
  obtain ⟨hexec, hbit, honly⟩ := exec_refSwitch hm h3 hpos hmax (leaveHold_again h3 h) (ht.onlyFlds (s := s) rfl rfl)
    (hstate.trans_ne (by decide))
  exact ⟨_, hexec, hstate, hrun, hcoh, hbit, honly.mono (by decide)⟩

/-- REF_SWITCH of a low reference moves to the next channel that qualifies (R97). -/
theorem exec_refSwitch_moves {c : Nat} (hlow : s.metro.holdLow = true) (hnext : nextRef s = some c)
    (hc : c ≠ get F.FLT_STATUS_TRK_REF s) :
    ∃ t, exec .refSwitch s = .next t ∧ get F.FLT_STATUS_TRK_STATE t = 1 ∧ get F.FLT_STATUS_TRK_REF t = c ∧
      get F.FLT_STATUS_HOLD_RUN t = 0 ∧ get F.FLT_STATUS_COHERENT t = 0 ∧ Raised F.FLT_CAUSE_REF_SWITCH s t ∧
      bit t.en.flags 2 = false ∧
      OnlyFlds [F.FLT_STATUS_TRK_STATE, F.FLT_STATUS_TRK_REF, F.FLT_STATUS_HOLD_RUN, F.FLT_STATUS_COHERENT,
          F.FLT_CAUSE_REF_SWITCH, F.INT_HOST_PEND_PEND]
        { forgetRef s with en := { s.en with flags := t.en.flags } } t := by
  obtain ⟨hv, hr, ho⟩ := raise_putAll_spec (s := forgetRef s) (l := [(F.FLT_STATUS_TRK_REF, c), (F.FLT_STATUS_TRK_STATE, 1),
      (F.FLT_STATUS_COHERENT, 0), (F.FLT_STATUS_HOLD_RUN, 0)]) hs
    [F.FLT_STATUS_TRK_REF, F.FLT_STATUS_TRK_STATE, F.FLT_STATUS_COHERENT, F.FLT_STATUS_HOLD_RUN] F.FLT_CAUSE_REF_SWITCH rfl
    (by decide) (by decide) (by decide) (by decide)
  simp only [List.forall_mem_cons] at hv
  obtain ⟨href, hstate, hcoh, hrun, -⟩ := hv
  have hc4 : c % 2 ^ 2 = c := Nat.mod_eq_of_lt ((nextRef_lt hnext).trans (by decide))
  obtain ⟨hexec, hbit, honly⟩ := exec_refSwitch hm h3 hpos hmax (leaveHold_moves hs h3 hlow hnext hc) ho
    (hstate.trans_ne (by decide))
  exact ⟨_, hexec, hstate, href.trans hc4, hrun, hcoh, hr, hbit, honly.mono (by decide)⟩

/-- REF_SWITCH of a low reference with no channel that qualifies coasts (R97). -/
theorem exec_refSwitch_coasts (hlow : s.metro.holdLow = true) (hnext : nextRef s = none) :
    ∃ t, exec .refSwitch s = .next t ∧ get F.FLT_STATUS_TRK_STATE t = 4 ∧ get F.FLT_STATUS_HOLD_RUN t = 0 ∧
      get F.FLT_STATUS_COHERENT t = 0 ∧ Raised F.FLT_CAUSE_COAST s t ∧ bit t.en.flags 2 = false ∧
      OnlyFlds [F.FLT_STATUS_TRK_STATE, F.FLT_STATUS_HOLD_RUN, F.FLT_STATUS_COHERENT, F.FLT_CAUSE_COAST, F.INT_HOST_PEND_PEND]
        { s with en := { s.en with flags := t.en.flags } } t := by
  obtain ⟨hv, hr, -⟩ := raise_putAll_spec (l := [(F.FLT_STATUS_TRK_STATE, 4), (F.FLT_STATUS_COHERENT, 0)]) hs
    [F.FLT_STATUS_TRK_STATE, F.FLT_STATUS_COHERENT] F.FLT_CAUSE_COAST rfl (by decide) (by decide) (by decide) (by decide)
  simp only [List.forall_mem_cons] at hv
  obtain ⟨hstate, hcoh, -⟩ := hv
  have hcoast : Chain [F.FLT_STATUS_TRK_STATE, F.FLT_STATUS_HOLD_RUN, F.FLT_STATUS_COHERENT, F.FLT_CAUSE_COAST,
      F.INT_HOST_PEND_PEND] s (raise F.FLT_CAUSE_COAST (putAll [(F.FLT_STATUS_TRK_STATE, 4), (F.FLT_STATUS_COHERENT, 0)] s)) :=
    ((Chain.start hs).putAll (by decide) (by decide)).raise (by decide) (by decide) rfl
  have hleft := (get_put_apart (f := F.FLT_STATUS_HOLD_RUN) 0 hcoast.wf rfl rfl).trans hstate
  obtain ⟨hexec, hbit, honly⟩ := exec_refSwitch hm h3 hpos hmax (leaveHold_coasts h3 hlow hnext)
    (hcoast.put (by decide) rfl).only (hleft.trans_ne (by decide))
  exact ⟨_, hexec, hleft, get_put_same 0 hcoast.wf rfl, (get_put_apart 0 hcoast.wf rfl rfl).trans hcoh,
    hr.put 0 hcoast.wf rfl rfl rfl, hbit, honly⟩

end

/-! Writes of `FLT_CTL` -/

/-- A stop is staged (R91). -/
def noteStop (s : State) : State := { s with metro := { s.metro with chainStop := true } }

/-- What a stop notes beside the registers: it is staged, and a pending profile change is given up (R91, R26). -/
def stageStop (s : State) : State :=
  noteStop { s with en := { s.en with boundaries := if flag F.PHE_PROFILE_CTL_PENDING s then 0 else s.en.boundaries } }

/-- The boundaries since a profile change was staged are counted no longer (R26). -/
def stopCounting (s : State) : State := { s with en := { s.en with boundaries := 0 } }

theorem dropProfile_eq (s : State) :
    dropProfile s = putAll [(F.PHE_PROFILE_ACK_ACK, 0), (F.PHE_PROFILE_CTL_PENDING, 0)] (stopCounting s) := rfl

theorem stageStop_pending {s : State} (h : flag F.PHE_PROFILE_CTL_PENDING s = true) :
    stageStop s = noteStop (stopCounting s) := by
  rw [stageStop, h, if_pos rfl]
  rfl

theorem stageStop_of_not_pending {s : State} (h : flag F.PHE_PROFILE_CTL_PENDING s = false) : stageStop s = noteStop s := by
  rw [stageStop, h, if_neg Bool.false_ne_true]

/-- The nominal frequency in µHz (R91). -/
def nominalGrid (s : State) : Nat := if flag F.PHE_FRAME_POS_NOMINAL s then 60000000 else 50000000

/-- The chain after a restart: no sample, filter or integrator holds anything (R91). -/
def emptyChain (s : State) : State :=
  { s with metro := { s.metro with
    chainRestart := true, hist := [], pos := 0, cyc := 0, freshCycle := true, hcAge := 0, hcValid := false,
    everLocked := false, slipPrev := 0, phasePrev := none, slow := 0, paths := List.replicate 10 {}, filled := false,
    integ := List.replicate 8 0, presetDue := true, inputs := List.replicate 8 [], joined := [], joinInteg := 0 } }

/-- The frequency in force, beside the registers. -/
def noteGrid (f : Nat) (s : State) : State := { s with metro := { s.metro with fGrid := f } }

section
variable {w : Word} {s : State} (hkey : arg F.FLT_CTL_KEY w = 0x5A) (hok : legalOk s = true) (hfit : legalFits 1 s = true)
include hkey hok hfit

/-- RUN = 0 with the key under the conditions of R237 stages the stop of a chain that runs (R91). -/
theorem fltCtlWrite_stop (hrun : arg F.FLT_CTL_RUN w = 0) (hst : flag F.FLT_STATUS_STOPPED s = false) :
    fltCtlWrite w s = putAll ((if flag F.PHE_PROFILE_CTL_PENDING s then [(F.PHE_PROFILE_ACK_ACK, 0), (F.PHE_PROFILE_CTL_PENDING, 0)]
      else []) ++ [(F.FLT_CTL_RUN, 0)]) (stageStop s) := by
  have hwrite : fltCtlWrite w s = put F.FLT_CTL_RUN 0 (noteStop (if flag F.PHE_PROFILE_CTL_PENDING s then dropProfile s else s)) :=
    (if_neg (by simp [hkey, hok])).trans ((if_neg (by simp [hfit])).trans ((if_pos hrun).trans (if_neg (by simp [hst]))))
  cases hp : flag F.PHE_PROFILE_CTL_PENDING s with
  | false =>
    rw [hwrite, hp, stageStop_of_not_pending hp]
    rfl
  | true =>
    have hdrop : noteStop (dropProfile s) = putAll [(F.PHE_PROFILE_ACK_ACK, 0), (F.PHE_PROFILE_CTL_PENDING, 0)] (stageStop s) := by
      rw [stageStop_pending hp, dropProfile_eq]
      exact putAll_comm (g := noteStop) (fun _ _ _ => rfl) _ _
    rw [hwrite, hp, if_pos rfl, hdrop]
    rfl

/-- RUN = 1 with the key under the conditions of R237 has a stopped chain acquire from the nominal frequency on REF_PREF (R91). -/
theorem fltCtlWrite_restart (hs : sparseWf (0 : Word) s.regs = true) (hrun : arg F.FLT_CTL_RUN w = 1)
    (hst : flag F.FLT_STATUS_STOPPED s = true) (h0 : get F.FLT_STATUS_TRK_STATE s = 0) :
    fltCtlWrite w s = putAll [(F.FLT_STATUS_STOPPED, 0), (F.FLT_CTL_RUN, 1), (F.FLT_STATUS_TRK_REF, get F.FLT_TRK_CTL_REF_PREF s),
      (F.FLT_STATUS_TRK_STATE, 1), (F.FLT_STATUS_COHERENT, 0), (F.FLT_STATUS_HOLD_RUN, 0), (F.FLT_TRK_FREQ_FREQ, nominalGrid s),
      (F.FLT_TRK_STEP_STEP, stepFor (nominalGrid s) s.metro.spc)] (noteGrid (nominalGrid s) (emptyChain s)) := by
  let u := putAll [(F.FLT_STATUS_STOPPED, 0), (F.FLT_CTL_RUN, 1)] s
  have hu : Touches [F.FLT_STATUS_STOPPED, F.FLT_CTL_RUN] s.regs u.regs := (Touches.refl hs).putAll (by decide) (by decide)
  have hgrid : nominalGrid u = nominalGrid s := by rw [nominalGrid, nominalGrid, hu.flag (by decide)]
  have hpref : get F.FLT_TRK_CTL_REF_PREF (emptyChain u) = get F.FLT_TRK_CTL_REF_PREF s := hu.get (by decide)
  have hstate : ∀ c, get F.FLT_STATUS_TRK_STATE (put F.FLT_STATUS_TRK_REF c (emptyChain u)) = 0 := fun c =>
    (get_put_apart c (show sparseWf 0 (emptyChain u).regs = true from hu.wf) rfl rfl).trans ((hu.get (by decide)).trans h0)
  calc fltCtlWrite w s
    _ = setGrid (nominalGrid u) (put F.FLT_STATUS_HOLD_RUN 0
        (setTracker 1 (put F.FLT_STATUS_TRK_REF (get F.FLT_TRK_CTL_REF_PREF (emptyChain u)) (emptyChain u)))) :=
      (if_neg (by simp [hkey, hok])).trans ((if_neg (by simp [hfit])).trans ((if_neg (by omega)).trans (if_neg (by simp [hst]))))
    _ = _ := by
      rw [hgrid, hpref, setTracker_acquire (by rw [hstate]; decide)]
      rfl

end

section
variable {m : Master} {w : Word} {s : State} (hs : sparseWf (0 : Word) s.regs = true) (hw : Writable m R.FLT_CTL s)
  (hkey : arg F.FLT_CTL_KEY w = 0x5A) (hok : legalOk s = true) (hfit : legalFits 1 s = true)
include hs hw hkey hok hfit

/-- CHAIN_STOP stages the stop and abandons a pending profile change (R91, R26). -/
theorem exec_chainStop (hrun : arg F.FLT_CTL_RUN w = 0) (hst : flag F.FLT_STATUS_STOPPED s = false) :
    ∃ t, exec (.chainStop m w) s = .next t ∧ get F.FLT_CTL_RUN t = 0 ∧ get F.PHE_PROFILE_CTL_PENDING t = 0 ∧
      (flag F.PHE_PROFILE_CTL_PENDING s = false → get F.PHE_PROFILE_ACK_ACK t = get F.PHE_PROFILE_ACK_ACK s) ∧
      OnlyFlds [F.FLT_CTL_RUN, F.PHE_PROFILE_CTL_PENDING, F.PHE_PROFILE_ACK_ACK] (stageStop s) t := by
  have hexec : exec (.chainStop m w) s = .next (fltCtlWrite w s) := cmdWrite_of_writable _ hw
  rw [hexec, fltCtlWrite_stop hkey hok hfit hrun hst]
  cases hp : flag F.PHE_PROFILE_CTL_PENDING s with
  | true =>
    obtain ⟨hv, ht⟩ := putAll_spec (s := stageStop s)
      (l := [(F.PHE_PROFILE_ACK_ACK, 0), (F.PHE_PROFILE_CTL_PENDING, 0), (F.FLT_CTL_RUN, 0)]) hs
      [F.PHE_PROFILE_ACK_ACK, F.PHE_PROFILE_CTL_PENDING, F.FLT_CTL_RUN] rfl (by decide)
    simp only [List.forall_mem_cons] at hv
    obtain ⟨-, hpend, hrun0, -⟩ := hv
    exact ⟨_, rfl, hrun0, hpend, nofun, (ht.mono (by decide)).onlyFlds (putAll_eq _ _) rfl⟩
  | false =>
    obtain ⟨hv, ht⟩ := putAll_spec (s := stageStop s) (l := [(F.FLT_CTL_RUN, 0)]) hs [F.FLT_CTL_RUN] rfl (by decide)
    have hpend : get F.PHE_PROFILE_CTL_PENDING s = 0 := by simpa [flag] using hp
    exact ⟨_, rfl, hv (F.FLT_CTL_RUN, 0) (by simp), (ht.get (s := stageStop s) (by decide)).trans hpend,
      fun _ => ht.get (s := stageStop s) (by decide), (ht.mono (by decide)).onlyFlds (putAll_eq _ _) rfl⟩

/-- CHAIN_RESTART empties the chain and acquires from the nominal frequency on REF_PREF (R91). -/
theorem exec_chainRestart (hrun : arg F.FLT_CTL_RUN w = 1) (hst : flag F.FLT_STATUS_STOPPED s = true)
    (h0 : get F.FLT_STATUS_TRK_STATE s = 0) :
    ∃ t, exec (.chainRestart m w) s = .next t ∧ get F.FLT_CTL_RUN t = 1 ∧ get F.FLT_STATUS_STOPPED t = 0 ∧
      get F.FLT_STATUS_TRK_STATE t = 1 ∧ get F.FLT_STATUS_COHERENT t = 0 ∧
      get F.FLT_STATUS_TRK_REF t = get F.FLT_TRK_CTL_REF_PREF s ∧ get F.FLT_TRK_FREQ_FREQ t = nominalGrid s ∧
      get F.FLT_TRK_STEP_STEP t = stepFor (nominalGrid s) s.metro.spc % 2 ^ 32 ∧ get F.FLT_STATUS_HOLD_RUN t = 0 ∧
      t.metro = (noteGrid (nominalGrid s) (emptyChain s)).metro ∧
      OnlyFlds [F.FLT_CTL_RUN, F.FLT_STATUS_STOPPED, F.FLT_STATUS_HOLD_RUN, F.FLT_STATUS_TRK_STATE, F.FLT_STATUS_COHERENT,
          F.FLT_STATUS_TRK_REF, F.FLT_TRK_FREQ_FREQ, F.FLT_TRK_STEP_STEP] { s with metro := t.metro } t := by
  have hexec : exec (.chainRestart m w) s = .next (fltCtlWrite w s) := cmdWrite_of_writable _ hw
  have hgrid : nominalGrid s % 2 ^ 32 = nominalGrid s := by
    unfold nominalGrid
    split <;> rfl
  obtain ⟨hv, ht⟩ := putAll_spec (s := noteGrid (nominalGrid s) (emptyChain s))
    (l := [(F.FLT_STATUS_STOPPED, 0), (F.FLT_CTL_RUN, 1), (F.FLT_STATUS_TRK_REF, get F.FLT_TRK_CTL_REF_PREF s),
      (F.FLT_STATUS_TRK_STATE, 1), (F.FLT_STATUS_COHERENT, 0), (F.FLT_STATUS_HOLD_RUN, 0), (F.FLT_TRK_FREQ_FREQ, nominalGrid s),
      (F.FLT_TRK_STEP_STEP, stepFor (nominalGrid s) s.metro.spc)]) hs
    [F.FLT_STATUS_STOPPED, F.FLT_CTL_RUN, F.FLT_STATUS_TRK_REF, F.FLT_STATUS_TRK_STATE, F.FLT_STATUS_COHERENT, F.FLT_STATUS_HOLD_RUN,
      F.FLT_TRK_FREQ_FREQ, F.FLT_TRK_STEP_STEP] rfl (by decide)
  simp only [List.forall_mem_cons] at hv
  obtain ⟨hstopped, hrun1, href, hstate, hcoh, hhold, hfreq, hstep, -⟩ := hv
  rw [hexec, fltCtlWrite_restart hkey hok hfit hs hrun hst h0]
  have hpref := Nat.mod_eq_of_lt (rget_lt F.FLT_TRK_CTL_REF_PREF s.regs)
  exact ⟨_, rfl, hrun1, hstopped, hstate, hcoh, href.trans hpref, hfreq.trans hgrid, hstep, hhold, rfl,
    (ht.mono (by decide)).onlyFlds rfl rfl⟩

end

/-- Settles O26: FLT_CTL stops a chain that runs and restarts a stopped one; a tracker held too long acquires, moves or coasts. -/
theorem chainAndReference : Obligations.ChainAndReference := by
  unfold Obligations.ChainAndReference
  refine ⟨fun s m w hs hw hkey hrun hok hfit hst => exec_chainStop hs.1 hw hkey hok hfit hrun hst,
    fun s m w hs hw hkey hrun hok hfit hst h0 => ?_,
    fun s hs hm h3 hpos hmax h => exec_refSwitch_again hs.1 hm h3 hpos hmax h,
    fun s c hs hm h3 hpos hmax hlow hnext hc => exec_refSwitch_moves hs.1 hm h3 hpos hmax hlow hnext hc,
    fun s hs hm h3 hpos hmax hlow hnext => exec_refSwitch_coasts hs.1 hm h3 hpos hmax hlow hnext,
    fun s hm h2 hf h => (onlyIf_of_true (by simp [hm, h2, hf, h]) _ s : execRefReturn s = _)⟩
  obtain ⟨t, hexec, hrun1, hstopped, hstate, hcoh, href, hfreq, hstep, hhold, hmetro, honly⟩ :=
    exec_chainRestart hs.1 hw hkey hok hfit hrun hst h0
  exact ⟨t, hexec, hrun1, hstopped, hstate, hcoh, href, hfreq, hstep, congrArg (·.chainRestart) hmetro, congrArg (·.hist) hmetro,
    congrArg (·.pos) hmetro, congrArg (·.cyc) hmetro, congrArg (·.freshCycle) hmetro, congrArg (·.clock) hmetro,
    congrArg (·.integ) hmetro, congrArg (·.paths) hmetro, hhold, honly⟩

end Sys2Proof.Machine
end

section
/-! SUPPORT. The window comparators of chapter 04 (O27): a trip, a release, and a write of `FLT_WIN_CFG`. -/
namespace Sys2Proof.Machine

/-- A comparator's counts restart (R100). -/
def clearCounts (comp : Nat) (s : State) : State :=
  { s with metro := { s.metro with
    winCount := upd s.metro.winCount comp (fun _ => 0), winBack := upd s.metro.winBack comp (fun _ => 0) } }

/-- The comparators' registers lie beyond `INT_HOST_PEND`. -/
theorem FLT_WIN_CFG_apart_pend (n lo width : Nat) : (⟨R.FLT_WIN_CFG n, lo, width⟩ : Fld).apart F.INT_HOST_PEND_PEND = true :=
  Fld.apart_of_addr (show 0x40090400 + 16 * n ≠ 0x40030014 by omega)

section
variable {comp : Nat} {s : State} (hs : sparseWf (0 : Word) s.regs = true)
include hs

/-- A release changes ACTIVE alone beside the counts (R100). -/
theorem releaseWin_touches : Touches [F.FLT_WIN_CFG_ACTIVE comp] s.regs (releaseWin comp s).regs :=
  Touches.put (t := clearCounts comp s) (.refl hs) (List.mem_singleton_self _) rfl (FLT_WIN_CFG_apart_pend _ _ _)

theorem get_releaseWin_ACTIVE : get (F.FLT_WIN_CFG_ACTIVE comp) (releaseWin comp s) = 0 :=
  get_put_same (s := clearCounts comp s) 0 hs rfl

/-- WIN_RELEASE of a comparator that has been back inside for its persistence count (R100). -/
theorem exec_winRelease (hc : comp < 16) (ha : flag (F.FLT_WIN_CFG_ACTIVE comp) s = true)
    (hp : get (F.FLT_WIN_CFG_PERSIST comp) s ≤ nth 0 s.metro.winBack comp) (h0 : 0 < nth 0 s.metro.winBack comp) :
    ∃ u, exec (.winRelease comp) s = .next (refreshLines 0 u) ∧ get (F.FLT_WIN_CFG_ACTIVE comp) u = 0 ∧
      OnlyFlds [F.FLT_WIN_CFG_ACTIVE comp] (clearCounts comp s) u := by
  have hexec : execWinRelease comp s = .next _ := onlyIf_of_true (by simp [hc, ha, hp, h0]) _ s
  exact ⟨_, hexec, get_releaseWin_ACTIVE hs, (releaseWin_touches hs).onlyFlds rfl rfl⟩

end

/-! A trip -/

/-- The fields a trip sets: `ACTIVE`, the comparator's bit of `FLT_WIN_TRIP`, the timestamp (R101). -/
def tripFlds (comp : Nat) : List Fld :=
  [F.FLT_WIN_TRIP_TRIP, F.FLT_WIN_CFG_ACTIVE comp, F.FLT_WIN_TS_POS_FRAC comp, F.FLT_WIN_TS_POS_SAMPLE comp, F.FLT_WIN_TS_FRAME_FRAME comp]

theorem tripFlds_apart : ∀ comp < 16, FieldsApart (F.INT_HOST_PEND_PEND :: F.FLT_CAUSE_WIN_TRIP :: tripFlds comp) := by decide

/-- A register outside the comparators' block has none of these fields. -/
theorem addr_ne_of_mem_tripFlds {comp a : Nat} {f : Fld} (hc : comp < 16) (ha : a < R.FLT_WIN_CFG 0 ∨ R.FLT_WIN_TRIP < a)
    (hf : f ∈ tripFlds comp) : f.addr ≠ a := by
  dsimp only [R.FLT_WIN_CFG, R.FLT_WIN_TRIP] at ha
  simp only [tripFlds, List.mem_cons, List.not_mem_nil, or_false] at hf
  obtain rfl | rfl | rfl | rfl | rfl := hf <;>
    dsimp only [R.FLT_WIN_CFG, R.FLT_WIN_TRIP, R.FLT_WIN_TS_POS, R.FLT_WIN_TS_FRAME] <;> omega

theorem tripFlds_apart_of_addr {comp : Nat} {g : Fld} (hc : comp < 16) (hg : g.addr < R.FLT_WIN_CFG 0 ∨ R.FLT_WIN_TRIP < g.addr) :
    ∀ f ∈ tripFlds comp, f.apart g = true := fun _ hf => Fld.apart_of_addr (addr_ne_of_mem_tripFlds hc hg hf)

/-- A bit set in a field: the others read as before. -/
theorem fbit_of_get_withBit {f : Fld} {s u : State} {i j : Nat} (hs : sparseWf (0 : Word) s.regs = true) (hf : f.inWord = true)
    (h : get f u = withBit (get f s) i % 2 ^ f.width) (hj : j < f.width) : fbit f j u = if j = i then true else fbit f j s :=
  (congrArg (bit · j) (h.trans (get_put_same _ hs hf).symm)).trans (fbit_putBit i j true hs hf hj)

/-- The frame in which a trip falls is named as before its fields were set. -/
theorem frameStamp_of_touches {L : List Fld} {s u : State} (ht : Touches L s.regs u.regs) (hm : u.metro.chainDown = s.metro.chainDown)
    (hvalid : ∀ f ∈ L, f.apart F.PHE_FRAME_POS_VALID = true) (hnum : ∀ f ∈ L, f.apart F.PHE_FRAME_NUM_FRAME = true) :
    frameStamp u = frameStamp s := by
  rw [frameStamp, frameStamp, framesRun, framesRun, ht.flag hvalid, ht.get hnum, hm]

/-- The frame's flags and the distortion marks set beside the registers. -/
def setMarks (flags marks : Nat) (s : State) : State :=
  { s with en := { s.en with flags := flags }, spec := { s.spec with marks := marks } }

/-- The marks a trip leaves on the frame, and on the distortion record where the mask asks for it (R101). -/
def markTrip (comp : Nat) (s : State) : State :=
  setMarks (withBit s.en.flags 8) (if fbit F.SPE_DIST_MASK_WIN comp s then withBit s.spec.marks 10 else s.spec.marks) s

/-- What a trip in state `s` writes into its fields. -/
def tripValues (comp frac : Nat) (s : State) : List (Fld × Nat) :=
  [(F.FLT_WIN_TRIP_TRIP, withBit (get F.FLT_WIN_TRIP_TRIP s) comp), (F.FLT_WIN_CFG_ACTIVE comp, 1),
    (F.FLT_WIN_TS_POS_FRAC comp, frac), (F.FLT_WIN_TS_POS_SAMPLE comp, sampleIdx s), (F.FLT_WIN_TS_FRAME_FRAME comp, frameStamp s)]

/-- A state in which comparator `comp` has tripped: all of a trip but the event lines. -/
def tripped (comp frac : Nat) (s : State) : State :=
  raise F.FLT_CAUSE_WIN_TRIP (putAll (tripValues comp frac s) (releaseWin comp (markTrip comp s)))

section
variable {comp : Nat} {s : State} (hs : sparseWf (0 : Word) s.regs = true) (hc : comp < 16)
include hs hc

/-- The fields of a trip and its release, followed over the register map. -/
theorem putAll_releaseWin_touches {l : List (Fld × Nat)} (hl : l.map (·.1) ⊆ tripFlds comp) :
    Touches (tripFlds comp) s.regs (putAll l (releaseWin comp s)).regs := by
  obtain ⟨hin, hpair⟩ := tripFlds_apart comp hc
  simp only [List.forall_mem_cons] at hin
  simp only [List.pairwise_cons, List.forall_mem_cons] at hpair
  obtain ⟨-, -, hin⟩ := hin
  obtain ⟨⟨-, hpend⟩, -⟩ := hpair
  exact ((releaseWin_touches hs).mono (by simp [tripFlds])).putAll hl
    fun f hf => ⟨hin f (hl hf), (Fld.apart_comm _ _).trans (hpend f (hl hf))⟩

/-- A comparator that watches samples trips with the crossing's fraction (R101). -/
theorem tripWin_eq {frac : Nat} (hsrc : get (F.FLT_WIN_CFG_SRC comp) s ≠ 2) :
    tripWin comp frac s = refreshLines (frac % 256) (tripped comp (frac % 256) s) := by
  have htrip : get F.FLT_WIN_TRIP_TRIP (releaseWin comp s) = get F.FLT_WIN_TRIP_TRIP s :=
    (releaseWin_touches hs).get (List.forall_mem_singleton.mpr (Fld.apart_of_addr
      (show 0x40090400 + 16 * comp ≠ 0x40090500 by omega)))
  unfold tripWin
  rw [if_neg hsrc]
  extract_lets f r u v e x p y
  have hu : Touches (tripFlds comp) s.regs u.regs :=
    putAll_releaseWin_touches (l := [(F.FLT_WIN_TRIP_TRIP, withBit (get F.FLT_WIN_TRIP_TRIP r) comp), (F.FLT_WIN_CFG_ACTIVE comp, 1)])
      hs hc (by simp [tripFlds])
  have hframe : frameStamp u = frameStamp s :=
    frameStamp_of_touches hu rfl (tripFlds_apart_of_addr hc (by decide)) (tripFlds_apart_of_addr hc (by decide))
  have hv : v = putAll (tripValues comp f s) r := by
    rw [tripValues, ← htrip, ← hframe]
    rfl
  have hmask : fbit F.SPE_DIST_MASK_WIN comp x = fbit F.SPE_DIST_MASK_WIN comp s := by
    have hx : Touches (tripFlds comp) s.regs v.regs := hv ▸ putAll_releaseWin_touches hs hc (by simp [tripFlds, tripValues])
    exact Touches.fbit (t := x) hx (tripFlds_apart_of_addr hc (by decide))
  have hy : y = setMarks (withBit v.en.flags 8)
      (if fbit F.SPE_DIST_MASK_WIN comp x then withBit v.spec.marks 10 else v.spec.marks) v := by
    unfold y
    split <;> rfl
  have hen : v.en = s.en := rfl
  have hspec : v.spec = s.spec := rfl
  rw [hy, hmask, hen, hspec, hv, putAll_comm (g := setMarks _ _) fun _ _ _ => rfl]
  rfl

end

section
variable {comp frac : Nat} {s : State} (hs : sparseWf (0 : Word) s.regs = true) (hc : comp < 16)
include hs hc

/-- WIN_TRIP of a comparator that watches samples and has been outside for its persistence count (R101). -/
theorem exec_winTrip (hlive : winLive comp s = true) (ha : flag (F.FLT_WIN_CFG_ACTIVE comp) s = false)
    (hp : get (F.FLT_WIN_CFG_PERSIST comp) s ≤ nth 0 s.metro.winCount comp) (h0 : 0 < nth 0 s.metro.winCount comp)
    (hsrc : get (F.FLT_WIN_CFG_SRC comp) s ≠ 2) :
    exec (.winTrip comp frac) s = .next (refreshLines (frac % 256) (tripped comp (frac % 256) s)) := by
  rw [← tripWin_eq hs hc hsrc]
  exact (onlyIf_of_true (by simp [hc, hlive, ha, hp, h0]) _ s : execWinTrip comp frac s = _)

/-- What a trip leaves: its fields as written, its cause raised, and no other field changed (R101). -/
theorem tripped_spec : (∀ e ∈ tripValues comp frac s, get e.1 (tripped comp frac s) = e.2 % 2 ^ e.1.width) ∧
    Raised F.FLT_CAUSE_WIN_TRIP s (tripped comp frac s) ∧
    OnlyFlds (F.INT_HOST_PEND_PEND :: F.FLT_CAUSE_WIN_TRIP :: tripFlds comp) (clearCounts comp (markTrip comp s))
      (tripped comp frac s) := by
  have hrel : Touches [F.FLT_WIN_CFG_ACTIVE comp] s.regs (releaseWin comp (markTrip comp s)).regs :=
    releaseWin_touches (s := markTrip comp s) hs
  have hen : ∀ f ∈ tripFlds comp, f.addr ≠ enableOf F.FLT_CAUSE_WIN_TRIP.addr :=
    fun f hf => addr_ne_of_mem_tripFlds hc (by decide) hf
  obtain ⟨hv, hr, ho⟩ := raise_putAll_spec hrel.wf (l := tripValues comp frac s) (tripFlds comp) F.FLT_CAUSE_WIN_TRIP rfl
    (tripFlds_apart comp hc) (by decide) (by decide) (fun f hf => (hen f hf).symm)
  refine ⟨hv, hr.rebase hrel (List.forall_mem_singleton.mpr (hen _ (by simp [tripFlds]))), OnlyFlds.trans ?_ ho⟩
  exact (hrel.onlyFlds (s := clearCounts comp (markTrip comp s)) rfl rfl).mono (by simp [tripFlds])

end

/-! A write of `FLT_WIN_CFG` -/

/-- The fields of `FLT_WIN_CFG_m` that a write sets. -/
def winCfgFlds (comp : Nat) : List Fld :=
  [F.FLT_WIN_CFG_EN comp, F.FLT_WIN_CFG_SRC comp, F.FLT_WIN_CFG_MODE comp, F.FLT_WIN_CFG_CHAN comp, F.FLT_WIN_CFG_PERSIST comp,
    F.FLT_WIN_CFG_LINE comp, F.FLT_WIN_CFG_LINE_EN comp, F.FLT_WIN_CFG_HYST comp]

theorem winCfgFlds_apart : ∀ comp < 16, FieldsApart (F.INT_HOST_PEND_PEND :: winCfgFlds comp) := by decide

/-- By the access codes a write of a comparator's configuration sets these fields and leaves ACTIVE (R102). -/
theorem writtenWord_FLT_WIN_CFG {comp : Nat} (w : Word) (s : State) (hc : comp < 16) : writtenWord (R.FLT_WIN_CFG comp) w s =
    ((winCfgFlds comp).map rwField).foldl (writeField s.ld.locked w) (rd s (R.FLT_WIN_CFG comp)) := by
  interval_cases comp <;> rfl

theorem comparatorOf_FLT_WIN_CFG : ∀ comp < 16, comparatorOf (R.FLT_WIN_CFG comp) = some comp := by decide

/-- Changes of fields of one register, told of the whole register. -/
theorem OnlyFlds.word {L : List Fld} {u t : State} {a : Nat} (h : OnlyFlds L u t) (hL : ∀ f ∈ L, f.addr = a ∧ f.inWord = true) :
    OnlyFlds [⟨a, 0, 32⟩] u t := by
  refine ⟨h.1, fun g hg => h.2 g fun f hf => ?_⟩
  obtain ⟨ha, hw⟩ := hL f hf
  have hword := hg _ (List.mem_singleton_self _)
  simp only [Fld.inWord, decide_eq_true_eq] at hw
  simp only [Fld.apart, Bool.or_eq_true, bne_iff_ne, decide_eq_true_eq] at hword ⊢
  rw [ha]
  omega

section
variable {m : Master} {w : Word} {comp : Nat} {s : State} (hs : sparseWf (0 : Word) s.regs = true) (hc : comp < 16)
  (hw : Writable m (R.FLT_WIN_CFG comp) s)
include hc hw

/-- WIN_CFG_WRITE that gets through, by the persistence count it writes (R102). -/
theorem exec_winCfgWrite : exec (.winCfgWrite m (R.FLT_WIN_CFG comp) w) s = .next
    (if arg (F.FLT_WIN_CFG_PERSIST comp) w = 0 then raise F.FLT_CAUSE_CFG_REFUSED s
    else refreshLines 0 (releaseWin comp (plainWrite (R.FLT_WIN_CFG comp) w s))) := by
  have hcomp := comparatorOf_FLT_WIN_CFG comp hc
  have hexec : exec (.winCfgWrite m (R.FLT_WIN_CFG comp) w) s = .next (writeWin (R.FLT_WIN_CFG comp) w s) :=
    (if_pos (by rw [hcomp]; rfl)).trans (cmdWrite_of_writable _ hw)
  rw [hexec, writeWin, hcomp]
  simp only [true_and]

include hs

/-- A PERSIST of 0 is refused (R102). -/
theorem exec_winCfgWrite_refused (hp : arg (F.FLT_WIN_CFG_PERSIST comp) w = 0) :
    ∃ t, exec (.winCfgWrite m (R.FLT_WIN_CFG comp) w) s = .next t ∧ Raised F.FLT_CAUSE_CFG_REFUSED s t ∧
      OnlyFlds [F.FLT_CAUSE_CFG_REFUSED, F.INT_HOST_PEND_PEND] s t := by
  rw [exec_winCfgWrite hc hw, if_pos hp]
  exact ⟨_, rfl, raised_raise hs rfl rfl (by decide) (by decide) rfl, ((Chain.start hs).raise (by simp) (by simp) rfl).only⟩

/-- Any other configuration is stored, and the comparator is released (R102). -/
theorem exec_winCfgWrite_stores (hp : arg (F.FLT_WIN_CFG_PERSIST comp) w ≠ 0) :
    ∃ u, exec (.winCfgWrite m (R.FLT_WIN_CFG comp) w) s = .next (refreshLines 0 u) ∧ get (F.FLT_WIN_CFG_ACTIVE comp) u = 0 ∧
      (∀ f ∈ winCfgFlds comp, get f u = arg f w) ∧ OnlyFlds [⟨R.FLT_WIN_CFG comp, 0, 32⟩] (clearCounts comp s) u := by
  have haddr : ∀ f ∈ winCfgFlds comp, f.addr = R.FLT_WIN_CFG comp := by simp [winCfgFlds]
  have hactive : ∀ f ∈ winCfgFlds comp, (F.FLT_WIN_CFG_ACTIVE comp).apart f = true := by simp [winCfgFlds, Fld.apart]
  obtain ⟨hget, ht⟩ := plainWrite_spec hs haddr (winCfgFlds_apart comp hc) (writtenWord_FLT_WIN_CFG w s hc)
  have hrel := releaseWin_touches (comp := comp) ht.wf
  have honly : OnlyFlds (F.FLT_WIN_CFG_ACTIVE comp :: winCfgFlds comp) (clearCounts comp s) _ :=
    ((ht.mono (by simp)).trans (hrel.mono (by simp))).onlyFlds rfl rfl
  rw [exec_winCfgWrite hc hw, if_neg hp]
  refine ⟨_, rfl, get_releaseWin_ACTIVE ht.wf, fun f hf => ?_, honly.word (by simp [winCfgFlds, Fld.inWord])⟩
  exact (hrel.get (List.forall_mem_singleton.mpr (hactive f hf))).trans (hget f hf)

end

/-- Settles O27: a trip and a release are told up to the event lines; a write is refused for its PERSIST alone. -/
theorem windowComparators : Obligations.WindowComparators := by
  unfold Obligations.WindowComparators
  refine ⟨fun s comp frac hs hc hlive ha hp h0 hsrc => ?_, fun s comp hs hc ha hp h0 => exec_winRelease hs.1 hc ha hp h0,
    fun s m w comp hs hc hw hp => ?_, fun s m w comp hs hc hw hp => exec_winCfgWrite_refused hs.1 hc hw hp⟩
  · obtain ⟨hv, hr, ho⟩ := tripped_spec (frac := frac % 256) hs.1 hc
    simp only [tripValues, List.forall_mem_cons] at hv
    obtain ⟨htrip, hactive, hfrac, hsample, hframe, -⟩ := hv
    have hbit : ∀ j < 16, _ := fun j hj => fbit_of_get_withBit (f := F.FLT_WIN_TRIP_TRIP) hs.1 rfl htrip hj
    have hflags : bit (tripped comp (frac % 256) s).en.flags 8 = true :=
      (congrArg (fun u : State => bit u.en.flags 8) ho.1).trans (bit_withBit_same _ _)
    exact ⟨_, exec_winTrip hs.1 hc hlive ha hp h0 hsrc, hactive, (hbit comp hc).trans (if_pos rfl),
      fun j hj hne => (hbit j hj).trans (if_neg hne), hframe, hsample, hfrac.trans (Nat.mod_mod _ _), hflags, hr,
      ho.mono (by simp [tripFlds])⟩
  · obtain ⟨u, hexec, hactive, hget, honly⟩ := exec_winCfgWrite_stores hs.1 hc hw hp
    simp only [winCfgFlds, List.forall_mem_cons] at hget
    obtain ⟨hen, hsrc, hmode, hchan, hpersist, hline, hlineEn, hhyst, -⟩ := hget
    exact ⟨u, hexec, hactive, hpersist, hen, hsrc, hmode, hchan, hline, hlineEn, hhyst, honly⟩

end Sys2Proof.Machine
end

section
/-! SUPPORT. The end of a frame at which a relief completes whose number is no slice's (O28): the relief writes the register of the slice it
names (R65), and beyond the ten slices that address is another register's. -/
namespace Sys2Proof.Machine

/-- A number that no slice has: its `CNV_SLICE_CFG` would stand where `PHE_FRAME_NUM` does. -/
def straySlice : Nat := (R.PHE_FRAME_NUM - R.CNV_SLICE_CFG 0) / 4

theorem CNV_SLICE_CFG_straySlice : R.CNV_SLICE_CFG straySlice = R.PHE_FRAME_NUM := by decide

/-- Frame 0 ends, and the comparison of a relief of `straySlice` has closed with its verdict. No relief begins with such a number, but no
hypothesis of the statement excludes it. -/
def strayRelief : State :=
  { st [(F.PMU_DOM_STATUS_ON, 2 ^ 1 + 2 ^ 2), (F.FLT_STATUS_TRK_STATE, 2), (F.PHE_FRAME_POS_VALID, 1), (F.CNV_STATUS_ROT_STATE, 3)] with
    metro := { spc := 4, pos := 40, cyc := 10 }
    conv := { relief := some { old := straySlice, closed := true } } }

theorem frameNum_strayRelief : get F.PHE_FRAME_NUM_FRAME strayRelief = 0 := by decide

/-- The relieved slice goes to the calibration source: ROLE 2 is written over the frame's number before the next one is formed from it. -/
theorem frameNum_closeFrame_strayRelief : get F.PHE_FRAME_NUM_FRAME (closeFrame strayRelief) = 2 + 1 := by decide +kernel

/-- At the end of a complete frame FRAME_BOUNDARY closes it (R14), and the power limit is judged on its values (R197). -/
theorem exec_frameBoundary_complete {s : State} (hm : metroOn s = true) (hf : framesRun s = true) (hc : s.metro.cyc = cyclesPerFrame s)
    (hp : s.metro.pos = frameLen s) : ∃ start, exec .frameBoundary s = .next (mplFrame start (closeFrame s)) := by
  have hclose : frameBoundary s = closeFrame s := by
    rw [frameBoundary, if_neg (by simp [hm]), if_pos hf, if_pos ⟨hc, hp⟩]
  refine ⟨s.metro.clock - frameLen s * get F.FLT_TRK_STEP_STEP s, ?_⟩
  change execFrameBoundary s = _
  rw [execFrameBoundary, hclose, if_pos (by simp [hm, hf, hc, hp])]

/-- The judgement of the power limit changes no register. -/
theorem get_mplFrame (f : Fld) (start : Nat) (s : State) : get f (mplFrame start s) = get f s := rfl

/-- Refutes O28: the frame after frame 0 need not be numbered 1, where the relief that completes at the boundary names a number beyond the ten
slices (the clause on FRAME_BOUNDARY at the end of a frame). -/
theorem not_samplesCyclesFrames : ¬ Obligations.SamplesCyclesFrames := by
  unfold Obligations.SamplesCyclesFrames
  rintro ⟨-, -, -, -, -, hframe⟩
  obtain ⟨t, -, hexec, hnum, -⟩ := hframe strayRelief (by decide) (by decide) (by decide) (by decide) (by decide) (by decide)
    (by decide) (by decide)
  obtain ⟨start, hnext⟩ := exec_frameBoundary_complete (s := strayRelief) (by decide) (by decide) (by decide) (by decide)
  obtain rfl : mplFrame start (closeFrame strayRelief) = t := Host.Outcome.next.inj (hnext.symm.trans hexec)
  rw [get_mplFrame, frameNum_closeFrame_strayRelief, frameNum_strayRelief] at hnum
  exact absurd hnum (by decide)

end Sys2Proof.Machine
end

section
/-! SUPPORT. A sounding that becomes the baseline while bank 3 is being stored (O51): the record that E2 writes then is taken into account
only when the copy has committed (R209), so the bank does not read dirty yet. -/
namespace Sys2Proof.Machine

/-- A write of a bank that is being copied waits for the commit, and no register shows it (R209). -/
theorem rd_dirty_of_copying {b : Nat} {s : State} (h : fbit F.CIS_STATUS_COPYING b s = true) (a : Nat) :
    rd (dirty b s) a = rd s a := by
  rw [dirty, if_pos h]
  rfl

/-- The sums and the table of a measurement in the sounding share, while D3 is on (R316, R153). -/
def soundingStored (sums : List Byte) (s : State) : State :=
  if domOn 3 s then wrBytes ((share 1 s).1 + 0xC000) (soundTable sums) (wrBytes (share 1 s).1 (sums.take 0xC000) s) else s

/-- What SOUNDING_DONE shows of a measurement before it takes the baseline or makes the verdict: mean attenuation, capacitance and a new
number (R317). -/
def soundingShown (atten cap : Nat) (s : State) : State :=
  let s := put F.LMD_SND_RES_ATTEN_MEAN atten (put F.LMD_SND_RES_CAP_EST cap s)
  let low := decide (cap < get F.LMD_SND_CFG_CAP_MIN s * get F.LMD_CFG_CAP_NOM s)
  let s := raiseIf low F.LMD_CAUSE_CAP_LOW (put F.LMD_STATUS_CAP_LOW (b2n low) s)
  put F.LMD_SND_STATUS_ABORT 0 (put F.LMD_SND_STATUS_STATE 0 (put F.LMD_SND_STATUS_SEQ (get F.LMD_SND_STATUS_SEQ s + 1) s))

section
variable (sums : List Byte) (atten cap : Nat) (s : State)

@[simp] theorem soundingStored_regs : (soundingStored sums s).regs = s.regs := by
  unfold soundingStored
  split <;> simp

@[simp] theorem soundingStored_lmd : (soundingStored sums s).lmd = s.lmd := by
  unfold soundingStored
  split <;> simp

@[simp] theorem soundingShown_lmd : (soundingShown atten cap s).lmd = s.lmd := by simp [soundingShown]

/-- The registers of other blocks than the modem's and the interrupts' are not touched. -/
theorem rd_soundingShown {a : Nat} (h : blockOf a ∉ [3, 21]) : rd (soundingShown atten cap s) a = rd s a := by
  have hne : ∀ {b : Nat}, blockOf b ∈ [3, 21] → a ≠ b := fun hb => ne_of_blockOf_notMem h hb
  unfold soundingShown
  extract_lets t low u
  have ht : rd t a = rd s a := (rd_put_other _ (hne (by decide))).trans (rd_put_other _ (hne (by decide)))
  have hu : rd u a = rd t a := (rd_raiseIf_other _ _ (hne (by decide)) (hne (by decide))).trans (rd_put_other _ (hne (by decide)))
  calc _ = rd u a := (rd_put_other _ (hne (by decide))).trans
        ((rd_put_other _ (hne (by decide))).trans (rd_put_other _ (hne (by decide))))
    _ = rd s a := hu.trans ht

end

section
variable {sums : List Byte} {s : State}

/-- SOUNDING_DONE of a measurement that becomes the baseline of the relay's verified state (R318). -/
theorem exec_soundingDone_baseline {r : Nat} (hup : e9Up s = true) (hrun : soundingRuns s = true) (hv : verifiedIndex s = some r)
    (hb : s.lmd.sndBase = true) : exec (.soundingDone sums) s = .next (raise F.LMD_CAUSE_SND_DONE (listening
      (put F.LMD_SND_STATUS_RESULT 0 (takeBaseline r (attenMean sums) (capEst sums)
        (soundingShown (wrapTo 16 (attenMean sums)) (capEst sums) (soundingStored sums s)))))) := by
  have hexec : exec (.soundingDone sums) s = execSoundingDone sums s := rfl
  rw [hexec, execSoundingDone, onlyIf_of_true (by simp [hup, hrun])]
  extract_lets a cap base t u low v x y
  have hx : x = soundingShown (wrapTo 16 a) cap t := rfl
  have ht : t = soundingStored sums s := rfl
  have hvx : verifiedIndex x = some r := by
    rw [hx, verifiedIndex, get, rd_soundingShown _ _ _ (by decide), ht, rd, soundingStored_regs]
    exact hv
  have hbx : x.lmd.sndBase = true := by rw [hx, soundingShown_lmd, ht, soundingStored_lmd, hb]
  have hy : y = put F.LMD_SND_STATUS_RESULT 0 (takeBaseline r a cap x) := by
    unfold y
    rw [hvx]
    exact if_pos hbx
  rw [hy, hx, ht]

/-- A baseline taken while bank 3 is being copied leaves the Cistern's status as it is. -/
theorem rd_takeBaseline_of_copying {a : Int} {cap : Nat} (h : fbit F.CIS_STATUS_COPYING 3 s = true) :
    rd (takeBaseline 0 a cap s) R.CIS_STATUS = rd s R.CIS_STATUS := by
  unfold takeBaseline
  extract_lets t u old rec'
  have ht : rd t R.CIS_STATUS = rd s R.CIS_STATUS := (rd_put_other _ (by decide)).trans (rd_put_other _ (by decide))
  clear_value t
  have hu : rd u R.CIS_STATUS = rd s R.CIS_STATUS := (rd_putBit_other (updLmd _ t) 0 true (by decide)).trans ht
  have hcopy : fbit F.CIS_STATUS_COPYING 3 u = true := by
    rw [fbit, get, hu]
    exact h
  refine (rd_raise_other _ (by decide) (by decide)).trans ((rd_dirty_of_copying ?_ _).trans hu)
  exact hcopy

end

/-- A measurement that is to be the baseline of the closed relay has come to its end while bank 3 is being stored: the bank copies
and is not dirty. -/
def copyingBaseline : State :=
  { st [(F.PMU_DOM_STATUS_ON, 2 ^ 8 + 2 ^ 9), (F.LMD_STATUS_STATE, 4), (F.LMD_SND_STATUS_STATE, 2), (F.RLY_STATUS_MAIN_STATE, 1),
      (F.CIS_STATUS_COPYING, 2 ^ 3)] with
    lmd := { sndBase := true } }

/-- Refutes O51: where bank 3 is being stored, SOUNDING_DONE with a baseline to take need not leave it dirty (the clause on the baseline
that SOUNDING_DONE takes). -/
theorem not_sounding : ¬ Obligations.Sounding := by
  unfold Obligations.Sounding
  rintro ⟨-, -, -, -, -, -, -, -, -, -, -, -, -, -, -, -, -, -, hbase, -⟩
  obtain ⟨t, hexec, -, -, -, -, -, -, -, hdirty, -⟩ := hbase copyingBaseline [] 0 (by decide) (by decide) (by decide) (by decide)
  have hnext := exec_soundingDone_baseline (sums := []) (s := copyingBaseline) (r := 0) (by decide) (by decide) (by decide) (by decide)
  generalize hu : soundingShown _ _ _ = u at hnext
  have hshown : rd u R.CIS_STATUS = rd copyingBaseline R.CIS_STATUS := by
    rw [← hu, rd_soundingShown _ _ _ (by decide), rd, soundingStored_regs, rd]
  have hcopy : fbit F.CIS_STATUS_COPYING 3 u = true := by
    rw [fbit, get, hshown]
    decide
  have hstatus : rd t R.CIS_STATUS = rd copyingBaseline R.CIS_STATUS := by
    obtain rfl := Host.Outcome.next.inj (hnext.symm.trans hexec)
    refine (rd_raise_other _ (by decide) (by decide)).trans ((rd_put_other _ (by decide)).trans ((rd_put_other _ (by decide)).trans ?_))
    exact (rd_takeBaseline_of_copying hcopy).trans hshown
  rw [fbit, get, hstatus] at hdirty
  exact absurd hdirty (by decide)

end Sys2Proof.Machine
end

section
/-! SUPPORT. The waveform capture (O31): a write of `SPE_CAP_CTL` by the bit it sets, the start of the post-trigger phase, the header that
ends a capture, the slots that are full, and a write of `SPE_CAP_CFG`. -/
namespace Sys2Proof.Machine

/-! Parts of the state beside the registers, told by a statement's frame -/

section
variable {L : List Fld} {u t : State} (h : OnlyFlds L u t)
include h

theorem OnlyFlds.mem : t.mem = u.mem := (congrArg State.mem h.1 :)
theorem OnlyFlds.cap : t.cap = u.cap := (congrArg State.cap h.1 :)
theorem OnlyFlds.spec : t.spec = u.spec := (congrArg State.spec h.1 :)

end

/-! A write of `SPE_CAP_CTL` -/

section
variable {m : Master} {w : Word} {s : State}

/-- ARM, FORCE and ABORT are writes of the same register. -/
theorem exec_capCtl (hw : Writable m R.SPE_CAP_CTL s) : exec (.captureArm m w) s = .next (capCtlWrite w s) ∧
    exec (.captureForce m w) s = .next (capCtlWrite w s) ∧ exec (.captureAbort m w) s = .next (capCtlWrite w s) :=
  ⟨cmdWrite_of_writable _ hw, cmdWrite_of_writable _ hw, cmdWrite_of_writable _ hw⟩

/-- ARM alone is refused in Pass, and outside it takes effect in IDLE (R155, R156). -/
theorem capCtlWrite_arm (ha : arg F.SPE_CAP_CTL_ARM w = 1) (hf : arg F.SPE_CAP_CTL_FORCE w = 0) (hb : arg F.SPE_CAP_CTL_ABORT w = 0) :
    capCtlWrite w s = if inPass s then raise F.SPE_CAUSE_CFG_REFUSED s
      else if get F.SPE_CAP_STATUS_STATE s = 0 then nextSlot 0 s else s := by
  simp [capCtlWrite, ha, hf, hb]

/-- FORCE alone is a trigger that no line gives (R155). -/
theorem capCtlWrite_force (ha : arg F.SPE_CAP_CTL_ARM w = 0) (hf : arg F.SPE_CAP_CTL_FORCE w = 1) (hb : arg F.SPE_CAP_CTL_ABORT w = 0) :
    capCtlWrite w s = captureTrigger 0xFF 0 soundForCapture s := by
  simp [capCtlWrite, ha, hf, hb]

/-- The capture with the flags `n`. -/
def setCapFlags (n : Nat) (s : State) : State := { s with cap := { s.cap with flags := n } }

/-- ABORT alone returns to IDLE, in POST after the header has been written (R155). -/
theorem capCtlWrite_abort (ha : arg F.SPE_CAP_CTL_ARM w = 0) (hf : arg F.SPE_CAP_CTL_FORCE w = 0) (hb : arg F.SPE_CAP_CTL_ABORT w = 1) :
    capCtlWrite w s = put F.SPE_CAP_STATUS_STATE 0
      (if get F.SPE_CAP_STATUS_STATE s = 2 then writeHeader (setCapFlags (withBit s.cap.flags 4) s) else s) := by
  simp [capCtlWrite, ha, hf, hb, setCapFlags]

end

/-! Arming -/

/-- The capture with an empty ring and nothing marked. -/
def emptyRing (s : State) : State :=
  { s with cap := { s.cap with
    kept := 0, written := 0, place := 0, retrig := 0, preKept := 0, flags := 0, lag := false, taken := 0, marks := [] } }

/-- PRE begins with an empty ring, shown in `SPE_CAP_STATUS`. -/
theorem enterPre_eq (k : Nat) (s : State) : enterPre k s =
    putAll [(F.SPE_CAP_STATUS_STATE, 1), (F.SPE_CAP_STATUS_SLOT, k), (F.SPE_CAP_STATUS_SETS, 0)] (emptyRing s) := rfl

/-- A free slot is one of at most eight. -/
theorem freeSlot_lt {n k : Nat} {s : State} (h : freeSlot n s = some k) : k < 8 := by
  have hmem := List.mem_of_find?_eq_some h
  obtain ⟨i, -, rfl⟩ := List.mem_map.mp hmem
  have hslots : get F.SPE_CAP_CFG_SLOTS s < 2 ^ 3 := rget_lt F.SPE_CAP_CFG_SLOTS s.regs
  have hlt : (n + i) % capSlots s < capSlots s := Nat.mod_lt _ (Nat.succ_pos _)
  unfold capSlots at hlt ⊢
  omega

section
variable {m : Master} {w : Word} {s : State} (hs : sparseWf (0 : Word) s.regs = true) (hw : Writable m R.SPE_CAP_CTL s)
include hs hw

/-- CAPTURE_ARM from IDLE outside Pass enters PRE in the first free slot (R155). -/
theorem exec_captureArm_enters {k : Nat} (ha : arg F.SPE_CAP_CTL_ARM w = 1) (hf : arg F.SPE_CAP_CTL_FORCE w = 0)
    (hb : arg F.SPE_CAP_CTL_ABORT w = 0) (hp : inPass s = false) (h0 : get F.SPE_CAP_STATUS_STATE s = 0) (hk : freeSlot 0 s = some k) :
    ∃ t, exec (.captureArm m w) s = .next t ∧ get F.SPE_CAP_STATUS_STATE t = 1 ∧ get F.SPE_CAP_STATUS_SLOT t = k ∧
      get F.SPE_CAP_STATUS_SETS t = 0 ∧
      OnlyFlds [F.SPE_CAP_STATUS_STATE, F.SPE_CAP_STATUS_SLOT, F.SPE_CAP_STATUS_SETS] (emptyRing s) t := by
  have hnext : capCtlWrite w s = enterPre k s := by
    rw [capCtlWrite_arm ha hf hb, hp, if_neg Bool.false_ne_true, if_pos h0, nextSlot, hk]
  obtain ⟨hv, ht⟩ := putAll_spec (s := emptyRing s) hs
    (l := [(F.SPE_CAP_STATUS_STATE, 1), (F.SPE_CAP_STATUS_SLOT, k), (F.SPE_CAP_STATUS_SETS, 0)])
    [F.SPE_CAP_STATUS_STATE, F.SPE_CAP_STATUS_SLOT, F.SPE_CAP_STATUS_SETS] rfl (by decide)
  simp only [List.forall_mem_cons] at hv
  obtain ⟨hstate, hslot, hsets, -⟩ := hv
  refine ⟨_, (exec_capCtl hw).1, ?_⟩
  rw [hnext, enterPre_eq]
  exact ⟨hstate, hslot.trans (Nat.mod_eq_of_lt (freeSlot_lt hk)), hsets, ht.onlyFlds (putAll_eq _ _) rfl⟩

/-- CAPTURE_ARM in Pass is refused (R156). -/
theorem exec_captureArm_refused (ha : arg F.SPE_CAP_CTL_ARM w = 1) (hf : arg F.SPE_CAP_CTL_FORCE w = 0)
    (hb : arg F.SPE_CAP_CTL_ABORT w = 0) (hp : inPass s = true) :
    ∃ t, exec (.captureArm m w) s = .next t ∧ Raised F.SPE_CAUSE_CFG_REFUSED s t ∧
      OnlyFlds [F.SPE_CAUSE_CFG_REFUSED, F.INT_HOST_PEND_PEND] s t := by
  refine ⟨_, (exec_capCtl hw).1, ?_⟩
  rw [capCtlWrite_arm ha hf hb, if_pos hp]
  exact ⟨raised_raise hs rfl rfl (by decide) (by decide) rfl, ((Chain.start hs).raise (by simp) (by simp) rfl).only⟩

end

/-! A trigger -/

/-- What a trigger notes beside the registers: its frame and sample, the sets kept before it, and its mark on the frame (R155, R149). -/
def noteTrigger (line frac : Nat) (s : State) : State :=
  let first := backFrom s.cap.kept (cyclesPerFrame s * s.metro.spc) s
  { s with
    cap := { s.cap with
      trigFrame := frameStamp s, trigSample := sampleIdx s, trigFrac := frac, trigLine := line, trigRtc := rtc s,
      trigFreq := s.metro.fGrid, preKept := s.cap.kept, retrig := 0, written := s.cap.kept,
      firstFrame := first.1, firstSample := first.2, lag := false
      flags := keptMarks s.cap, marks := [] }
    spec := { s.spec with marks := withBit s.spec.marks 8 } }

/-- The trigger's sample, the newest one, becomes the first set after it. -/
def postNewest (s : State) : State :=
  match s.metro.hist with
  | [] => s
  | x :: _ => postSet x s

/-- The capture with `n` sets written, in the memory `m`. -/
def withSets (n : Nat) (m : List Host.Cell) (s : State) : State := { s with cap := { s.cap with written := n }, mem := m }

/-- A set after the trigger shows in SETS alone beside the capture and its memory. -/
theorem postSet_spec (xs : List Int) {s : State} (hs : sparseWf (0 : Word) s.regs = true) :
    Touches [F.SPE_CAP_STATUS_SETS] s.regs (postSet xs s).regs ∧
      ∃ n m, postSet xs s = { withSets n m s with regs := (postSet xs s).regs } := by
  unfold postSet
  split
  · exact ⟨Touches.put (f := F.SPE_CAP_STATUS_SETS) (Touches.refl hs) (by simp) rfl rfl, _, _, rfl⟩
  · exact ⟨.refl hs, s.cap.written, s.mem, rfl⟩

theorem postNewest_spec {s : State} (hs : sparseWf (0 : Word) s.regs = true) :
    Touches [F.SPE_CAP_STATUS_SETS] s.regs (postNewest s).regs ∧
      ∃ n m, postNewest s = { withSets n m s with regs := (postNewest s).regs } := by
  unfold postNewest
  split
  · exact ⟨.refl hs, s.cap.written, s.mem, rfl⟩
  · exact postSet_spec _ hs

section
variable {s : State} {line frac : Nat}

/-- A trigger in PRE while no sounding runs starts the post-trigger phase (R155). -/
theorem captureTrigger_pre (hd : domOn 3 s = true) (h1 : get F.SPE_CAP_STATUS_STATE s = 1) (hr : soundingRuns s = false) :
    captureTrigger line frac soundForCapture s =
      raise F.SPE_CAUSE_CAP_TRIG (postNewest (put F.SPE_CAP_STATUS_STATE 2 (noteTrigger line frac s))) := by
  have hsound : soundForCapture s = s := if_neg (by simp [hr])
  unfold captureTrigger
  rw [if_neg (by simp [hd]), if_pos h1, hsound]
  rfl

variable (hs : sparseWf (0 : Word) s.regs = true)
include hs

/-- CAPTURE_FORCE in PRE is a trigger (R155). -/
theorem exec_captureForce {m : Master} {w : Word} (hw : Writable m R.SPE_CAP_CTL s) (hd : domOn 3 s = true)
    (ha : arg F.SPE_CAP_CTL_ARM w = 0) (hf : arg F.SPE_CAP_CTL_FORCE w = 1) (hb : arg F.SPE_CAP_CTL_ABORT w = 0)
    (h1 : get F.SPE_CAP_STATUS_STATE s = 1) (hr : soundingRuns s = false) :
    ∃ t n mem, exec (.captureForce m w) s = .next t ∧ get F.SPE_CAP_STATUS_STATE t = 2 ∧ Raised F.SPE_CAUSE_CAP_TRIG s t ∧
      OnlyFlds [F.SPE_CAP_STATUS_STATE, F.SPE_CAP_STATUS_SETS, F.SPE_CAUSE_CAP_TRIG, F.INT_HOST_PEND_PEND]
        (withSets n mem (noteTrigger 0xFF 0 s)) t := by
  have hstate : Touches [F.SPE_CAP_STATUS_STATE] s.regs (put F.SPE_CAP_STATUS_STATE 2 (noteTrigger 0xFF 0 s)).regs :=
    Touches.put (t := noteTrigger 0xFF 0 s) (.refl hs) (by simp) rfl rfl
  obtain ⟨hsets, n, mem, heq⟩ := postNewest_spec hstate.wf
  have hall : Touches [F.SPE_CAP_STATUS_STATE, F.SPE_CAP_STATUS_SETS, F.SPE_CAUSE_CAP_TRIG, F.INT_HOST_PEND_PEND] s.regs
      (postNewest (put F.SPE_CAP_STATUS_STATE 2 (noteTrigger 0xFF 0 s))).regs := (hstate.mono (by simp)).trans (hsets.mono (by simp))
  refine ⟨_, n, mem, (exec_capCtl hw).2.1, ?_⟩
  rw [capCtlWrite_force ha hf hb, captureTrigger_pre hd h1 hr]
  refine ⟨?_, hall.raised rfl rfl (by decide) (by decide) (by decide), (hall.raise (by simp) (by simp) rfl rfl).onlyFlds ?_ rfl⟩
  · calc get F.SPE_CAP_STATUS_STATE (raise F.SPE_CAUSE_CAP_TRIG (postNewest (put F.SPE_CAP_STATUS_STATE 2 (noteTrigger 0xFF 0 s))))
      _ = get F.SPE_CAP_STATUS_STATE (postNewest (put F.SPE_CAP_STATUS_STATE 2 (noteTrigger 0xFF 0 s))) :=
          get_raise_apart hall.wf rfl rfl rfl
      _ = get F.SPE_CAP_STATUS_STATE (put F.SPE_CAP_STATUS_STATE 2 (noteTrigger 0xFF 0 s)) := hsets.get (by decide)
      _ = 2 := get_put_same (s := noteTrigger 0xFF 0 s) 2 hs rfl
  · rw [raise_eq, heq]
    rfl

end

/-! The header -/

/-- The header of R157 with its CRC in the capture's slot. -/
def putHeader (s : State) : State := wrBytes (slotBase (capSlot s) s) (capHeader s ++ le 4 (crc32 (capHeader s))) s

/-- The flags of a header: DISTURBED is added when the frame in progress is so far (R149, R157). -/
def headerFlags (s : State) : Nat := if disturbedSoFar s then withBit s.cap.flags 3 else s.cap.flags

/-- The capture with the flags `n`, in the memory `mem`. -/
def withHeader (n : Nat) (mem : List Host.Cell) (s : State) : State := { s with cap := { s.cap with flags := n }, mem := mem }

/-- Bytes go into the memory alone. -/
theorem wrBytes_setCapFlags (a : Nat) (bs : List Byte) (n : Nat) (s : State) :
    wrBytes a bs (setCapFlags n s) = withHeader n (wrBytes a bs (setCapFlags n s)).mem s := rfl

/-- In POST the header is written with its flags, and nothing else changes. -/
theorem writeHeader_post {s : State} (h2 : get F.SPE_CAP_STATUS_STATE s = 2) :
    ∃ mem, mem = (putHeader (setCapFlags (headerFlags s) s)).mem ∧ writeHeader s = withHeader (headerFlags s) mem s := by
  have hmark : captureMark 3 s = setCapFlags (withBit s.cap.flags 3) s := if_pos h2
  have hflags : (if disturbedSoFar s then captureMark 3 s else s) = setCapFlags (headerFlags s) s := by
    rw [hmark, headerFlags]
    split <;> rfl
  have hput : writeHeader s = putHeader (if disturbedSoFar s then captureMark 3 s else s) := rfl
  refine ⟨_, rfl, ?_⟩
  rw [hput, hflags]
  exact wrBytes_setCapFlags _ _ _ s

/-- A bit of a number in which another one has been set. -/
theorem bit_withBit_of_bit {n i : Nat} (j : Nat) (h : bit n i = true) : bit (withBit n j) i = true := by
  unfold bit withBit at *
  simp [Nat.testBit_or, h]

section
variable {m : Master} {w : Word} {s : State} (hs : sparseWf (0 : Word) s.regs = true) (hw : Writable m R.SPE_CAP_CTL s)
  (ha : arg F.SPE_CAP_CTL_ARM w = 0) (hf : arg F.SPE_CAP_CTL_FORCE w = 0) (hb : arg F.SPE_CAP_CTL_ABORT w = 1)
include hs hw ha hf hb

/-- CAPTURE_ABORT outside POST returns to IDLE and changes nothing else (R155). -/
theorem exec_captureAbort (h2 : get F.SPE_CAP_STATUS_STATE s ≠ 2) :
    ∃ t, exec (.captureAbort m w) s = .next t ∧ get F.SPE_CAP_STATUS_STATE t = 0 ∧ OnlyFlds [F.SPE_CAP_STATUS_STATE] s t := by
  refine ⟨_, (exec_capCtl hw).2.2, ?_⟩
  rw [capCtlWrite_abort ha hf hb, if_neg h2]
  exact ⟨get_put_same 0 hs rfl, ((Chain.start hs).put (by simp) rfl).only⟩

/-- CAPTURE_ABORT in POST writes the header with ABORTED, and with DISTURBED where the frame is (R155, R157). -/
theorem exec_captureAbort_post (h2 : get F.SPE_CAP_STATUS_STATE s = 2) :
    ∃ t, exec (.captureAbort m w) s = .next t ∧ get F.SPE_CAP_STATUS_STATE t = 0 ∧ bit t.cap.flags 4 = true ∧
      OnlyFlds [F.SPE_CAP_STATUS_STATE] { s with cap := { s.cap with flags := t.cap.flags }, mem := t.mem } t := by
  have haborted : bit (headerFlags (setCapFlags (withBit s.cap.flags 4) s)) 4 = true := by
    have hset : bit (withBit s.cap.flags 4) 4 = true := bit_withBit_same _ _
    unfold headerFlags
    split
    · exact bit_withBit_of_bit 3 hset
    · exact hset
  obtain ⟨mem, -, hheader⟩ := writeHeader_post (s := setCapFlags (withBit s.cap.flags 4) s) h2
  refine ⟨_, (exec_capCtl hw).2.2, ?_⟩
  rw [capCtlWrite_abort ha hf hb, if_pos h2, hheader]
  generalize headerFlags _ = n at haborted
  exact ⟨get_put_same (s := withHeader n mem s) 0 hs rfl, haborted, Chain.only (u := withHeader n mem s) (.put (.start hs) (by simp) rfl)⟩

end

/-! The end of a capture -/

/-- A capture is numbered, and its slot `k` joins the full ones. -/
def countCapture (k : Nat) (s : State) : State :=
  { s with cap := { s.cap with order := s.cap.order ++ [k], seq := (s.cap.seq + 1) % 2 ^ 32 } }

/-- Slot `k` is shown full and the capture done. -/
def fillSlot (k : Nat) (s : State) : State := raise F.SPE_CAUSE_CAP_DONE (putBit F.SPE_CAP_FULL_SLOT k true s)

/-- A capture that is complete has its header written, is counted and fills its slot; in ring mode the next slot begins (R155). -/
theorem captureDone_eq (s : State) : captureDone s =
    let u := fillSlot (capSlot s) (countCapture (capSlot s) (writeHeader s))
    if flag F.SPE_CAP_CFG_MODE u then nextSlot ((capSlot s + 1) % capSlots u) u else put F.SPE_CAP_STATUS_STATE 0 u := by
  unfold captureDone
  generalize writeHeader s = h
  have hcount : raise F.SPE_CAUSE_CAP_DONE { putBit F.SPE_CAP_FULL_SLOT (capSlot s) true h with cap := { h.cap with
      order := h.cap.order ++ [capSlot s], seq := (h.cap.seq + 1) % 2 ^ 32 } } = fillSlot (capSlot s) (countCapture (capSlot s) h) := rfl
  rw [← hcount]
  rfl

/-- The fields in which the end of a single capture shows. -/
def captureDoneFlds : List Fld := [F.SPE_CAP_STATUS_STATE, F.SPE_CAP_FULL_SLOT, F.SPE_CAUSE_CAP_DONE, F.INT_HOST_PEND_PEND]

section
variable {s : State} (hs : sparseWf (0 : Word) s.regs = true)
include hs

theorem fillSlot_touches (k : Nat) : Touches captureDoneFlds s.regs (fillSlot k s).regs :=
  Touches.raise (Touches.put (f := F.SPE_CAP_FULL_SLOT) (.refl hs) (by decide) rfl rfl) (by decide) (by decide) rfl rfl

/-- A slot that has been filled and the capture left IDLE: the slot reads full, the others as before, and the capture is told as done. -/
theorem fillSlot_idle {k : Nat} : get F.SPE_CAP_STATUS_STATE (put F.SPE_CAP_STATUS_STATE 0 (fillSlot k s)) = 0 ∧
    (∀ j < 8, fbit F.SPE_CAP_FULL_SLOT j (put F.SPE_CAP_STATUS_STATE 0 (fillSlot k s)) =
      if j = k then true else fbit F.SPE_CAP_FULL_SLOT j s) ∧
    Raised F.SPE_CAUSE_CAP_DONE s (put F.SPE_CAP_STATUS_STATE 0 (fillSlot k s)) ∧
    OnlyFlds captureDoneFlds s (put F.SPE_CAP_STATUS_STATE 0 (fillSlot k s)) := by
  have hfull : Touches [F.SPE_CAP_FULL_SLOT] s.regs (putBit F.SPE_CAP_FULL_SLOT k true s).regs := .put (.refl hs) (by simp) rfl rfl
  have hfill := fillSlot_touches hs k
  have hraised : Raised F.SPE_CAUSE_CAP_DONE s (fillSlot k s) := hfull.raised rfl rfl (by decide) (by decide) (by decide)
  refine ⟨get_put_same 0 hfill.wf rfl, fun j hj => ?_, hraised.put 0 hfill.wf rfl rfl rfl,
    (hfill.put (by decide) rfl rfl).onlyFlds ?_ rfl⟩
  · rw [← fbit_putBit k j true hs rfl hj, fbit, fbit, get_put_apart 0 hfill.wf rfl rfl, fillSlot, get_raise_apart hfull.wf rfl rfl rfl]
  · rw [fillSlot, raise_eq]
    rfl

/-- CAPTURE_DONE of a single capture that is complete: its header is written with its flags, it is counted, its slot filled, and it is
IDLE (R155, R157). -/
theorem exec_captureDone (hd : domOn 3 s = true) (h2 : get F.SPE_CAP_STATUS_STATE s = 2) (hsets : capTotal s ≤ s.cap.written)
    (hmode : flag F.SPE_CAP_CFG_MODE s = false) : ∃ t mem, exec .captureDone s = .next t ∧
      mem = (putHeader (setCapFlags (headerFlags s) s)).mem ∧ get F.SPE_CAP_STATUS_STATE t = 0 ∧
      (∀ j < 8, fbit F.SPE_CAP_FULL_SLOT j t = if j = capSlot s then true else fbit F.SPE_CAP_FULL_SLOT j s) ∧
      Raised F.SPE_CAUSE_CAP_DONE s t ∧ OnlyFlds captureDoneFlds (countCapture (capSlot s) (withHeader (headerFlags s) mem s)) t := by
  have hexec : execCaptureDone s = .next (captureDone s) := onlyIf_of_true (by simp [hd, h2, hsets]) _ s
  obtain ⟨mem, hmem, hheader⟩ := writeHeader_post h2
  have hmode' : flag F.SPE_CAP_CFG_MODE (fillSlot (capSlot s) (countCapture (capSlot s) (withHeader (headerFlags s) mem s))) = false :=
    (Touches.flag (s := s) (fillSlot_touches (s := countCapture _ (withHeader _ mem s)) hs _) (by decide)).trans hmode
  refine ⟨_, mem, hexec, hmem, ?_⟩
  rw [captureDone_eq, hheader]
  dsimp only
  rw [hmode', if_neg Bool.false_ne_true]
  exact fillSlot_idle (s := countCapture _ (withHeader _ mem s)) hs

end

/-! The full slots and the configuration -/

/-- The fields of `SPE_CAP_CFG`. -/
def capCfgFlds : List Fld := [F.SPE_CAP_CFG_CHANS, F.SPE_CAP_CFG_MODE, F.SPE_CAP_CFG_OVERWRITE, F.SPE_CAP_CFG_SLOTS, F.SPE_CAP_CFG_PRE]

/-- A W1C field loses the bits written as 1. -/
theorem writeField_w1c (locked : Bool) (f : Fld) (w old : Word) (hf : f.inWord = true) :
    writeField locked w old ⟨f.lo, f.width, .w1c⟩ = withField f (fieldOf f (old &&& ~~~w)) old := by
  ext i hi
  rw [getElem_writeField, getElem_withField _ _ _ hf]
  refine ite_congr rfl (fun h => ?_) fun _ => rfl
  rw [fieldOf, Nat.testBit_mod_two_pow, Nat.testBit_shiftRight, ← BitVec.getLsbD, Nat.add_sub_cancel' h.1, BitVec.getLsbD_eq_getElem hi]
  simp [show i - f.lo < f.width by omega]

/-- The slots that stay full under a write of `SPE_CAP_FULL`. -/
def slotsKept (w : Word) (s : State) : Nat := fieldOf F.SPE_CAP_FULL_SLOT (rd s R.SPE_CAP_FULL &&& ~~~w)

/-- By the access codes a write of `SPE_CAP_FULL` leaves those slots. -/
theorem plainWrite_SPE_CAP_FULL (w : Word) (s : State) :
    plainWrite R.SPE_CAP_FULL w s = put F.SPE_CAP_FULL_SLOT (slotsKept w s) s :=
  congrArg (wr R.SPE_CAP_FULL · s) (writeField_w1c s.ld.locked F.SPE_CAP_FULL_SLOT w (rd s R.SPE_CAP_FULL) rfl)

/-- A field's value, bit by bit. -/
theorem testBit_fieldOf (f : Fld) (w : Word) (j : Nat) : (fieldOf f w).testBit j = (decide (j < f.width) && w.getLsbD (f.lo + j)) := by
  rw [fieldOf, Nat.testBit_mod_two_pow, Nat.testBit_shiftRight, BitVec.testBit_toNat]

theorem bit_slotsKept (w : Word) (s : State) (j : Nat) :
    bit (slotsKept w s) j = (fbit F.SPE_CAP_FULL_SLOT j s && !(bit (arg F.SPE_CAP_FULL_SLOT w) j)) := by
  simp only [slotsKept, bit, fbit, get, arg, testBit_fieldOf, BitVec.getLsbD_and, BitVec.getLsbD_not]
  by_cases hj : j < 8
  · simp [hj, show j < 32 by omega]
  · simp [hj]

/-- Of the slots in the order in which they filled, those stay that are not freed. -/
def keepSlots (w : Word) (s : State) : State :=
  { s with cap := { s.cap with
    order := s.cap.order.filter fun k => fbit F.SPE_CAP_FULL_SLOT k s && !(bit (arg F.SPE_CAP_FULL_SLOT w) k) } }

section
variable {m : Master} {w : Word} {s u : State} (hs : sparseWf (0 : Word) s.regs = true)
include hs

/-- In the canonical form the slots read full that have been kept. -/
theorem fbit_put_slotsKept (hu : u.regs = s.regs) (j : Nat) : fbit F.SPE_CAP_FULL_SLOT j (put F.SPE_CAP_FULL_SLOT (slotsKept w s) u) =
    (fbit F.SPE_CAP_FULL_SLOT j s && !(bit (arg F.SPE_CAP_FULL_SLOT w) j)) := by
  have hmod : slotsKept w s % 2 ^ 8 = slotsKept w s := Nat.mod_mod _ _
  rw [fbit, get_put_same _ (hu ▸ hs) rfl, hmod, bit_slotsKept]

/-- CAPTURE_SLOT_FREE of a capture that is not stopped frees the slots written 1 (R155). -/
theorem exec_captureSlotFree (hw : Writable m R.SPE_CAP_FULL s) (h3 : get F.SPE_CAP_STATUS_STATE s ≠ 3) :
    exec (.captureSlotFree m w) s = .next (put F.SPE_CAP_FULL_SLOT (slotsKept w s) (keepSlots w s)) := by
  have hstate : get F.SPE_CAP_STATUS_STATE (put F.SPE_CAP_FULL_SLOT (slotsKept w s) s) ≠ 3 := by
    rwa [get_put_apart _ hs rfl rfl]
  refine (cmdWrite_of_writable (capFullWrite w) hw).trans ?_
  rw [capFullWrite, plainWrite_SPE_CAP_FULL]
  simp only [fbit_put_slotsKept hs rfl]
  exact congrArg Host.Outcome.next (if_neg hstate)

/-- CAP_CFG_WRITE in IDLE that names a channel is stored (R154). -/
theorem exec_capCfgWrite_stores (hw : Writable m R.SPE_CAP_CFG s) (h0 : get F.SPE_CAP_STATUS_STATE s = 0)
    (hc : arg F.SPE_CAP_CFG_CHANS w ≠ 0) : ∃ t, exec (.capCfgWrite m w) s = .next t ∧ (∀ f ∈ capCfgFlds, get f t = arg f w) ∧
      OnlyFlds capCfgFlds s t := by
  have hexec : exec (.capCfgWrite m w) s = .next (capCfgWrite w s) := cmdWrite_of_writable _ hw
  obtain ⟨hget, ht⟩ := plainWrite_spec (a := R.SPE_CAP_CFG) (L := capCfgFlds) (w := w) hs (by decide) (by decide) rfl
  rw [hexec, capCfgWrite, if_neg (by simp [h0, hc])]
  exact ⟨_, rfl, hget, ht.onlyFlds rfl rfl⟩

/-- Any other CAP_CFG_WRITE is refused (R154). -/
theorem exec_capCfgWrite_refused (hw : Writable m R.SPE_CAP_CFG s)
    (h : get F.SPE_CAP_STATUS_STATE s ≠ 0 ∨ arg F.SPE_CAP_CFG_CHANS w = 0) : ∃ t, exec (.capCfgWrite m w) s = .next t ∧
      Raised F.SPE_CAUSE_CFG_REFUSED s t ∧ OnlyFlds [F.SPE_CAUSE_CFG_REFUSED, F.INT_HOST_PEND_PEND] s t := by
  have hexec : exec (.capCfgWrite m w) s = .next (capCfgWrite w s) := cmdWrite_of_writable _ hw
  rw [hexec, capCfgWrite, if_pos h]
  exact ⟨_, rfl, raised_raise hs rfl rfl (by decide) (by decide) rfl, ((Chain.start hs).raise (by simp) (by simp) rfl).only⟩

end

/-- Settles O31: arming and a trigger by the state they meet, the end of a capture by its header's flags, and the two writes of the
configuration registers. -/
theorem waveformCapture : Obligations.WaveformCapture := by
  unfold Obligations.WaveformCapture
  refine ⟨fun s m w k hs hw ha hf hb hp h0 hk => exec_captureArm_enters hs.1 hw ha hf hb hp h0 hk,
    fun s m w hs hw ha hf hb hp => exec_captureArm_refused hs.1 hw ha hf hb hp,
    fun s m w hs hw hd ha hf hb h1 hr => ?_, fun s m w hs hw ha hf hb h2 => exec_captureAbort hs.1 hw ha hf hb h2,
    fun s m w hs hw ha hf hb h2 => exec_captureAbort_post hs.1 hw ha hf hb h2,
    fun s hs hd h2 hsets hmode hno => ?_, fun s hs hd h2 hsets hmode hyes => ?_, fun s m w hs hw h3 => ?_,
    fun s m w hs hw h0 hc => ?_, fun s m w hs hw h => exec_capCfgWrite_refused hs.1 hw h⟩
  · obtain ⟨t, n, mem, hexec, hstate, hraised, honly⟩ := exec_captureForce hs.1 hw hd ha hf hb h1 hr
    have hcap : t.cap = (withSets n mem (noteTrigger 0xFF 0 s)).cap := honly.cap
    have hspec : t.spec = (noteTrigger 0xFF 0 s).spec := honly.spec
    have hmem : t.mem = mem := honly.mem
    refine ⟨t, hexec, hstate, ?_⟩
    rw [hcap, hspec, hmem]
    exact ⟨rfl, rfl, rfl, rfl, rfl, rfl, rfl, rfl, rfl, hraised, honly⟩
  · obtain ⟨t, mem, hexec, hmem, hstate, hfull, hraised, honly⟩ := exec_captureDone hs.1 hd h2 hsets hmode
    have hflags : headerFlags s = s.cap.flags := if_neg (by simp [hno])
    rw [hflags] at hmem honly
    have hcap : t.cap = (countCapture (capSlot s) s).cap := honly.cap
    have htmem : t.mem = mem := honly.mem
    refine ⟨t, hexec, hstate, (hfull _ (rget_lt F.SPE_CAP_STATUS_SLOT s.regs)).trans (if_pos rfl),
      fun j hj hne => (hfull j hj).trans (if_neg hne), hcap, htmem.trans hmem, hraised, ?_⟩
    rw [hcap, htmem]
    exact honly
  · obtain ⟨t, mem, hexec, hmem, hstate, hfull, hraised, honly⟩ := exec_captureDone hs.1 hd h2 hsets hmode
    have hflags : headerFlags s = withBit s.cap.flags 3 := if_pos hyes
    rw [hflags] at honly
    have hcap : t.cap = (countCapture (capSlot s) (setCapFlags (withBit s.cap.flags 3) s)).cap := honly.cap
    have htmem : t.mem = mem := honly.mem
    refine ⟨t, hexec, hstate, (hfull _ (rget_lt F.SPE_CAP_STATUS_SLOT s.regs)).trans (if_pos rfl), hcap, hraised, ?_⟩
    rw [hcap, htmem]
    exact honly
  · exact ⟨_, exec_captureSlotFree hs.1 hw h3, fun j _ => fbit_put_slotsKept hs.1 rfl j, rfl,
      Chain.only (u := keepSlots w s) (.put (.start hs.1) (by simp) rfl)⟩
  · obtain ⟨t, hexec, hget, honly⟩ := exec_capCfgWrite_stores hs.1 hw h0 hc
    simp only [capCfgFlds, List.forall_mem_cons] at hget
    obtain ⟨hchans, hmode, hover, hslots, hpre, -⟩ := hget
    exact ⟨t, hexec, hchans, hmode, hover, hslots, hpre, honly⟩

end Sys2Proof.Machine
end

section
/-! SUPPORT. E7's spectra, aggregates, supraharmonic blocks and records (O30): the frame that is published, the block that closes, the words
of the receive ADC in their ring, and the record that moves to the log. -/
namespace Sys2Proof.Machine

/-! Families of fields set one after the other -/

section
variable {L : List Fld} {r : Sparse Word} {f : Nat → Fld} {v : Nat → State → Nat} {l : List Nat}

/-- A family of fields set one after the other. -/
theorem Touches.foldl_put {t : State} (h : Touches L r t.regs)
    (hf : ∀ k ∈ l, f k ∈ L ∧ (f k).inWord = true ∧ (f k).apart F.INT_HOST_PEND_PEND = true) :
    Touches L r (l.foldl (fun s k => Machine.put (f k) (v k s) s) t).regs := by
  induction l generalizing t with
  | nil => exact h
  | cons k l ih =>
    rw [List.forall_mem_cons] at hf
    obtain ⟨⟨hL, hw, hp⟩, hl⟩ := hf
    exact ih (h.put hL hw hp) hl

/-- It changes registers alone. -/
theorem foldl_put_eq (s : State) : l.foldl (fun s k => Machine.put (f k) (v k s) s) s =
    { s with regs := (l.foldl (fun s k => Machine.put (f k) (v k s) s) s).regs } := by
  induction l generalizing s with
  | nil => rfl
  | cons k l ih => exact ih (put (f k) (v k s) s)

/-- Another field set changes registers alone. -/
theorem put_eq_of_eq {s t : State} {f : Fld} {v : Nat} (h : t = { s with regs := t.regs }) :
    put f v t = { s with regs := (put f v t).regs } := by
  conv_lhs => rw [put_eq, h]
  rfl

end

/-! The results shown -/

/-- The registers of the result window. -/
def windowFlds : List Fld := F.SPE_RES_FRAME_FRAME :: (List.range 1024).map F.SPE_RES_VALUE

/-- They lie behind E7's other results. -/
theorem le_addr_of_mem_windowFlds {f : Fld} (hf : f ∈ windowFlds) : R.SPE_RES_FRAME ≤ f.addr := by
  obtain rfl | hf := List.mem_cons.mp hf
  · exact le_rfl
  · obtain ⟨k, -, rfl⟩ := List.mem_map.mp hf
    dsimp only [R.SPE_RES, R.SPE_RES_FRAME]
    omega

theorem windowFlds_apart {f g : Fld} (hf : f ∈ windowFlds) (hg : g.addr < R.SPE_RES_FRAME) : f.apart g = true :=
  Fld.apart_of_addr (Nat.ne_of_gt (Nat.lt_of_lt_of_le hg (le_addr_of_mem_windowFlds hf)))

section
variable {s : State}

/-- The window is brought up in its own registers. -/
theorem showResults_touches (hs : sparseWf (0 : Word) s.regs = true) : Touches windowFlds s.regs (showResults s).regs := by
  refine Touches.put (f := F.SPE_RES_FRAME_FRAME) (Touches.foldl_put (.refl hs) fun k hk => ?_) (by simp [windowFlds]) rfl rfl
  have hmem : F.SPE_RES_VALUE k ∈ windowFlds := List.mem_cons_of_mem _ (List.mem_map_of_mem hk)
  exact ⟨hmem, rfl, windowFlds_apart hmem (by decide)⟩

theorem showResults_eq (s : State) : showResults s = { s with regs := (showResults s).regs } := by
  have h := foldl_put_eq (l := List.range 1024) (f := F.SPE_RES_VALUE) (v := fun m s => resultValue m s % 2 ^ 32) s
  unfold showResults
  extract_lets t
  exact put_eq_of_eq h

end

/-- The fields that show the published frame beside its THD and the result window. -/
def frameFlds : List Fld :=
  [F.SPE_FRAME_STAT_FRAME, F.SPE_FRAME_STAT_FLAGS, F.SPE_SH_STAT_EXCLUDED, F.SPE_SH_STAT_USED, F.SPE_STATUS_RUN]

/-- What E7 keeps of a frame that it publishes: its results are shown, and the block takes it (R134, R140). -/
def publishFrame (f : FrameSet) (rest : List FrameSet) (s : State) : State :=
  let r := results f s
  let a := s.spec.agg
  let agg : AggBlock := { a with
    n := a.n + 1, last := f.num, disturbed := a.disturbed || bit (spectrumFlags f) 0, bands := aggList a.bands r.bands,
    cut := (rest.any fun g => g.starts) || s.spec.blockStart
    rms := (List.range 8).map fun c => aggList (nth [] a.rms c) (nth [] r.rms c) }
  { s with spec := { s.spec with waiting := rest, shown := r, agg := agg } }

/-- The THD of the frame's channels shown. -/
def showThd (r : ResultSet) (s : State) : State := (List.range 8).foldl (fun s c => put (F.SPE_THD_THD c) (thd c r s % 2 ^ 32) s) s

/-- What the status registers say of the frame. -/
def frameShown (f : FrameSet) : List (Fld × Nat) :=
  [(F.SPE_FRAME_STAT_FRAME, f.num % 2 ^ 16), (F.SPE_FRAME_STAT_FLAGS, spectrumFlags f), (F.SPE_SH_STAT_EXCLUDED, satNat 255 f.unusable),
    (F.SPE_SH_STAT_USED, satNat 255 f.usable), (F.SPE_STATUS_RUN, 1)]

/-- A frame published into the block as it stands. -/
def publishInto (f : FrameSet) (rest : List FrameSet) (s : State) : State :=
  showResults (putAll (frameShown f) (showThd (results f s) (publishFrame f rest s)))

/-- A frame is published after the block before it has closed, where it ends one (R140). -/
theorem publish_eq (f : FrameSet) (rest : List FrameSet) (s : State) :
    publish f rest s = publishInto f rest (if f.starts || decide (15 ≤ s.spec.agg.n) then closeBlock s else s) := rfl

/-- All that a publication shows. -/
def publishFlds : List Fld := windowFlds ++ ((List.range 8).map F.SPE_THD_THD ++ frameFlds)

/-- None of it is a cause or an enable bit. -/
theorem addr_ne_of_mem_publishFlds {f : Fld} {a : Nat} (hf : f ∈ publishFlds) (ha : a = R.SPE_CAUSE ∨ a = R.SPE_CAUSE_EN) : f.addr ≠ a := by
  have hrest : ∀ g ∈ (List.range 8).map F.SPE_THD_THD ++ frameFlds, g.addr ≠ R.SPE_CAUSE ∧ g.addr ≠ R.SPE_CAUSE_EN := by decide
  obtain hf | hf := List.mem_append.mp hf
  · have hle := le_addr_of_mem_windowFlds hf
    have hlt : a < R.SPE_RES_FRAME := by
      obtain rfl | rfl := ha <;> decide
    omega
  · obtain rfl | rfl := ha
    · exact (hrest f hf).1
    · exact (hrest f hf).2

section
variable {f : FrameSet} {rest : List FrameSet} {s : State}

theorem publishInto_eq : publishInto f rest s = { publishFrame f rest s with regs := (publishInto f rest s).regs } := by
  have hthd : showThd (results f s) (publishFrame f rest s) =
      { publishFrame f rest s with regs := (showThd (results f s) (publishFrame f rest s)).regs } := foldl_put_eq _
  have hput := putAll_eq (frameShown f) (showThd (results f s) (publishFrame f rest s))
  rw [publishInto, showResults_eq, hput, hthd]

variable (hs : sparseWf (0 : Word) s.regs = true)
include hs

/-- The status registers show the frame. -/
theorem publishInto_spec : (∀ e ∈ frameShown f, get e.1 (publishInto f rest s) = e.2 % 2 ^ e.1.width) ∧
    Touches publishFlds s.regs (publishInto f rest s).regs := by
  have hthd : Touches ((List.range 8).map F.SPE_THD_THD) s.regs (showThd (results f s) (publishFrame f rest s)).regs :=
    Touches.foldl_put (t := publishFrame f rest s) (.refl hs) fun k hk => by
      have hk8 := List.mem_range.mp hk
      refine ⟨List.mem_map_of_mem hk, rfl, Fld.apart_of_addr ?_⟩
      dsimp only [R.SPE_THD, R.INT_HOST_PEND]
      omega
  obtain ⟨hv, hframe⟩ := putAll_spec hthd.wf (l := frameShown f) frameFlds rfl (by decide)
  have hwindow := showResults_touches hframe.wf
  refine ⟨fun e he => (hwindow.get fun g hg => windowFlds_apart hg ?_).trans (hv e he), ?_⟩
  · have hlow : ∀ g ∈ frameFlds, g.addr < R.SPE_RES_FRAME := by decide
    exact hlow _ (List.mem_map_of_mem (f := (·.1)) he)
  · exact (hthd.mono (by simp [publishFlds])).trans ((hframe.mono (by simp [publishFlds])).trans (hwindow.mono (by simp [publishFlds])))

end

/-! A block closes -/

/-- What E7 keeps of a block that closes: its values are shown with SHORT and DISTURBED, and a new block begins (R140). -/
def closedBlock (s : State) : State :=
  { s with spec := { s.spec with
    aggShown := { frame := s.spec.agg.last, rms := s.spec.agg.rms.map fun l => l.map aggValue, bands := s.spec.agg.bands.map aggValue }
    aggFlags := b2n (decide (s.spec.agg.n < 15)) + 2 * b2n s.spec.agg.disturbed, agg := { cut := s.spec.agg.cut } } }

/-- A block that holds a frame closes with its cause (R140). -/
theorem closeBlock_eq {s : State} (h : 1 ≤ s.spec.agg.n) : closeBlock s = raise F.SPE_CAUSE_AGG_DONE (closedBlock s) :=
  if_neg (by omega)

/-- The flags of two conditions read as the conditions. -/
theorem bit_b2n_pair (x y : Bool) : bit (b2n x + 2 * b2n y) 0 = x ∧ bit (b2n x + 2 * b2n y) 1 = y := by
  cases x <;> cases y <;> decide

section
variable {s : State} (hs : sparseWf (0 : Word) s.regs = true) (hn : 1 ≤ s.spec.agg.n)
include hn

theorem closeBlock_eq_closedBlock : closeBlock s = { closedBlock s with regs := (closeBlock s).regs } := by
  rw [closeBlock_eq hn, raise_regs]
  exact raise_eq _ _

include hs

/-- Closing raises AGG_DONE. -/
theorem closeBlock_spec : Raised F.SPE_CAUSE_AGG_DONE s (closeBlock s) ∧ sparseWf (0 : Word) (closeBlock s).regs = true := by
  rw [closeBlock_eq hn]
  exact ⟨raised_raise (t := closedBlock s) hs rfl rfl (by decide) (by decide) rfl,
    by rw [raise_regs]; exact rraise_wf _ _ _ hs⟩

end

/-! SPECTRUM_PUBLISH and AGGREGATE_CLOSE -/

section
variable {f : FrameSet} {l : List FrameSet} {s u : State}

/-- A publication changes E7's registers and what it keeps. -/
theorem publishInto_frame (hu : u = { s with regs := u.regs, spec := u.spec }) :
    publishInto f l u = { s with regs := (publishInto f l u).regs, spec := (publishInto f l u).spec } := by
  have hspec : (publishInto f l u).spec = (publishFrame f l u).spec := (congrArg State.spec publishInto_eq :)
  conv_lhs => rw [publishInto_eq]
  rw [hspec]
  exact (congrArg (fun v : State => { v with regs := (publishInto f l u).regs, spec := (publishFrame f l u).spec }) hu :)

/-- SPECTRUM_PUBLISH takes the oldest frame that waits (R134). -/
theorem exec_spectrumPublish (hup : e7Up s = true) (hready : s.en.e7Ready = true) (hwait : s.spec.waiting = f :: l) :
    exec .spectrumPublish s = .next (publish f l s) := by
  have hexec : exec .spectrumPublish s = execSpectrumPublish s := rfl
  have hdo : (e7Up s && s.en.e7Ready) = true := by simp [hup, hready]
  rw [hexec, execSpectrumPublish, hwait]
  exact onlyIf_of_true hdo _ s

variable (hs : sparseWf (0 : Word) s.regs = true)
include hs

/-- A frame that goes on with the block (R134, R140). -/
theorem publish_continues (hst : f.starts = false) (hn : s.spec.agg.n < 15) :
    (publish f l s).spec = (publishFrame f l s).spec ∧ get F.SPE_FRAME_STAT_FRAME (publish f l s) = f.num % 2 ^ 16 ∧
      get F.SPE_FRAME_STAT_FLAGS (publish f l s) = spectrumFlags f % 2 ^ 12 ∧ get F.SPE_STATUS_RUN (publish f l s) = 1 ∧
      publish f l s = { s with regs := (publish f l s).regs, spec := (publish f l s).spec } := by
  have hnext : publish f l s = publishInto f l s := by
    rw [publish_eq, if_neg (by simp [hst, hn])]
  have hv := (publishInto_spec (f := f) (rest := l) hs).1
  simp only [frameShown, List.forall_mem_cons] at hv
  obtain ⟨hframe, hflags, -, -, hrun, -⟩ := hv
  rw [hnext]
  exact ⟨(congrArg State.spec publishInto_eq :), hframe.trans (Nat.mod_mod _ _), hflags, hrun, publishInto_frame rfl⟩

/-- A frame that starts a block, or meets a full one: the block before it closes first (R140). -/
theorem publish_closes (hst : f.starts = true ∨ 15 ≤ s.spec.agg.n) (hn : 1 ≤ s.spec.agg.n) :
    ∃ u, publish f l s = publishInto f l u ∧ u.spec = (closedBlock s).spec ∧ Raised F.SPE_CAUSE_AGG_DONE s (publish f l s) ∧
      publish f l s = { s with regs := (publish f l s).regs, spec := (publish f l s).spec } := by
  have hnext : publish f l s = publishInto f l (closeBlock s) := by
    rw [publish_eq, if_pos (by simpa using hst)]
  have hclosed := closeBlock_eq_closedBlock hn
  have hspec : (closeBlock s).spec = (closedBlock s).spec := (congrArg State.spec hclosed :)
  have hframe : closeBlock s = { s with regs := (closeBlock s).regs, spec := (closeBlock s).spec } := by
    rw [hspec]
    exact hclosed
  obtain ⟨hraised, hwf⟩ := closeBlock_spec hs hn
  refine ⟨closeBlock s, hnext, hspec, ?_, ?_⟩
  · rw [hnext]
    exact hraised.touches (publishInto_spec hwf).2 fun g hg => Fld.apart_of_addr (addr_ne_of_mem_publishFlds hg (.inl rfl))
  · rw [hnext]
    exact publishInto_frame hframe

/-- AGGREGATE_CLOSE closes the block and brings the window up (R140). -/
theorem exec_aggregateClose (hup : e7Up s = true) (hn : 1 ≤ s.spec.agg.n) (hend : 15 ≤ s.spec.agg.n ∨ blockEnded s = true) :
    ∃ t, exec .aggregateClose s = .next t ∧ t.spec = (closedBlock s).spec ∧ Raised F.SPE_CAUSE_AGG_DONE s t ∧
      t = { s with regs := t.regs, spec := t.spec } := by
  have hexec : exec .aggregateClose s = execAggregateClose s := rfl
  have hdo : (e7Up s && decide (1 ≤ s.spec.agg.n) && (decide (15 ≤ s.spec.agg.n) || blockEnded s)) = true := by
    simpa [hup, hn] using hend
  obtain ⟨hraised, hwf⟩ := closeBlock_spec hs hn
  have ht : showResults (closeBlock s) = { closedBlock s with regs := (showResults (closeBlock s)).regs } :=
    (showResults_eq _).trans
      (congrArg (fun v : State => { v with regs := (showResults (closeBlock s)).regs }) (closeBlock_eq_closedBlock hn) :)
  have hspec : (showResults (closeBlock s)).spec = (closedBlock s).spec := (congrArg State.spec ht :)
  rw [hexec, execAggregateClose]
  refine ⟨_, onlyIf_of_true hdo _ s, hspec, hraised.touches (showResults_touches hwf) fun g hg => windowFlds_apart hg (by decide), ?_⟩
  rw [hspec]
  exact ht

end

/-! The receive ADC's words -/

/-- After the ADC's words: the ring in the memory `m`, `n` samples taken in all, and whether the line is in use now (R142, R313). -/
def withAdc (n : Nat) (m : List Host.Cell) (s : State) : State :=
  { s with mem := m, lmd := { s.lmd with adc := n, lineUsed := lineInUse s } }

/-- The ADC's words, one after the other, advance the ring. -/
theorem foldl_adc (used : Bool) (ws : List Nat) (s : State) :
    ∃ m, ws.foldl (fun s w =>
      { wrBytes (0x2D000000 + 2 * (s.lmd.adc % 8192)) (le 2 (adcWord used w)) s with lmd := { s.lmd with adc := s.lmd.adc + 1 } }) s =
      { s with mem := m, lmd := { s.lmd with adc := s.lmd.adc + ws.length } } := by
  induction ws generalizing s with
  | nil => exact ⟨s.mem, rfl⟩
  | cons w ws ih =>
    obtain ⟨m, hm⟩ := ih { wrBytes (0x2D000000 + 2 * (s.lmd.adc % 8192)) (le 2 (adcWord used w)) s with
      lmd := { s.lmd with adc := s.lmd.adc + 1 } }
    refine ⟨m, hm.trans ?_⟩
    rw [List.length_cons, Nat.add_comm ws.length, ← Nat.add_assoc]
    rfl

/-- The ADC's words change the ring, their count and whether the line was in use. -/
theorem adcWrite_eq (ws : List Nat) (s : State) : ∃ m, adcWrite ws s = withAdc (s.lmd.adc + ws.length) m s := by
  obtain ⟨m, hm⟩ := foldl_adc (s.lmd.lineUsed || lineInUse s) ws s
  refine ⟨m, ?_⟩
  rw [adcWrite]
  dsimp only
  rw [hm]
  rfl

/-- One word of the ADC in the ring. -/
theorem adcWrite_singleton (w : Nat) (s : State) : adcWrite [w] s = withAdc (s.lmd.adc + 1)
    (wrBytes (0x2D000000 + 2 * (s.lmd.adc % 8192)) (le 2 (adcWord (s.lmd.lineUsed || lineInUse s) w)) s).mem s := rfl

/-- A word of the ring has 16 bits. -/
theorem adcWord_lt (used : Bool) (w : Nat) : adcWord used w < 2 ^ 16 := by
  have hmod : w % 2 ^ 15 < 2 ^ 15 := Nat.mod_lt _ (by decide)
  unfold adcWord
  split <;> omega

/-- A run of writes reads back. -/
theorem sparseGetMany_setMany {α : Type} [DecidableEq α] {d : α} {m : Sparse α} (k : Nat) (vs : List α) (h : sparseWf d m = true) :
    sparseGetMany d (sparseSetMany d m k vs) k vs.length = vs := by
  induction vs generalizing m k with
  | nil => rfl
  | cons v vs ih =>
    have hhead : sparseGet d (sparseSetMany d (sparseSet d m k v) (k + 1) vs) k = v :=
      (sparseGet_setMany_other _ _ _ (by omega)).trans (sparseGet_set_same m k v h)
    exact congrArg₂ List.cons hhead (ih (k + 1) (sparseSet_wf m k v h))

/-- A word written at its place in the ring reads back, and lies in its two bytes alone (R142). -/
theorem ringSample_adcWrite_singleton (w : Nat) {s : State} (hm : Memory.wf s.mem = true) :
    ringSample s.lmd.adc (adcWrite [w] s) = adcWord (s.lmd.lineUsed || lineInUse s) w ∧
      ∀ a, a < 0x2D000000 + 2 * (s.lmd.adc % 8192) ∨ 0x2D000000 + 2 * (s.lmd.adc % 8192) + 1 < a →
        rdByte (adcWrite [w] s) a = rdByte s a := by
  rw [adcWrite_singleton]
  constructor
  · have hread := sparseGetMany_setMany (0x2D000000 + 2 * (s.lmd.adc % 8192)) (le 2 (adcWord (s.lmd.lineUsed || lineInUse s) w)) hm
    rw [le_length] at hread
    calc ofLe (sparseGetMany 0 (sparseSetMany 0 s.mem _ (le 2 (adcWord (s.lmd.lineUsed || lineInUse s) w))) _ 2)
        = ofLe (le 2 (adcWord (s.lmd.lineUsed || lineInUse s) w)) := congrArg ofLe hread
      _ = adcWord (s.lmd.lineUsed || lineInUse s) w := (ofLe_le 2 _).trans (Nat.mod_eq_of_lt (adcWord_lt _ w))
  · intro a ha
    refine sparseGet_setMany_other _ _ _ ?_
    rw [le_length]
    omega

/-! SH_BLOCK -/

/-- The next block due at sample `n`. -/
def withNext (n : Nat) (s : State) : State := { s with lmd := { s.lmd with shNext := n } }

/-- A block more that could not be used. -/
def countUnusable (s : State) : State := { s with spec := { s.spec with unusable := s.spec.unusable + 1 } }

/-- The words of the block at sample `start`. -/
def blockWords (start : Nat) (s : State) : List Nat := (List.range 5000).map fun i => ringSample (start + i) s

/-- A usable block's bands added. -/
def countUsable (ws : List Nat) (s : State) : State :=
  { s with spec := { s.spec with
    usable := s.spec.usable + 1
    bands := (List.range 741).map fun b => nth 0 s.spec.bands b + bandRms b (ws.map fun w => signed 14 w) s ^ 2 } }

section
variable {start : Nat} {s : State}

/-- A block that the ADC has not completed waits (R143). -/
theorem shBlock_waits (h : s.lmd.adc < start + 5000) : shBlock start s = withNext start s := if_pos h

/-- A block that the ADC has overwritten is dropped (R144). -/
theorem shBlock_drops (h : start + 8192 < s.lmd.adc) : shBlock start s =
    raise F.SPE_CAUSE_SH_DROP (addSat F.SPE_SH_STAT_DROPPED 1 (countUnusable (withNext (start + 10000) s))) := by
  unfold shBlock
  rw [if_neg (by omega)]
  exact if_pos h

/-- A complete block is unusable where one of its words has bit 15, and is taken otherwise (R143, R144). -/
theorem shBlock_completes (h5 : start + 5000 ≤ s.lmd.adc) (h8 : s.lmd.adc ≤ start + 8192) : shBlock start s =
    if (blockWords start s).any (·.testBit 15) then countUnusable (withNext (start + 10000) s)
    else countUsable (blockWords start s) (withNext (start + 10000) s) := by
  unfold shBlock
  rw [if_neg (by omega)]
  exact if_neg (Nat.not_lt.mpr h8)

end

section
variable {s : State} {ws : List Nat} (h8 : domOn 8 s = true) (h9 : domOn 9 s = true)
include h8 h9

theorem exec_shBlock : exec (.shBlock ws) s = .next
    (if !(e7Works (adcWrite ws s) && profile (adcWrite ws s) == 0 && flag F.SPE_CFG_SH_EN (adcWrite ws s)) then adcWrite ws s
    else shBlock (if flag F.SPE_STATUS_SH_RUN (adcWrite ws s) then (adcWrite ws s).lmd.shNext else s.lmd.adc)
      (put F.SPE_STATUS_SH_RUN 1 (adcWrite ws s))) := by
  have hexec : exec (.shBlock ws) s = execShBlock ws s := rfl
  rw [hexec, execShBlock]
  exact onlyIf_of_true (by simp [h8, h9]) _ s

/-- Where E7 looks for no blocks the words enter the ring alone. -/
theorem exec_shBlock_idle (h : e7Works s = false ∨ profile s ≠ 0 ∨ flag F.SPE_CFG_SH_EN s = false) :
    exec (.shBlock ws) s = .next (adcWrite ws s) := by
  obtain ⟨m, hm⟩ := adcWrite_eq ws s
  have hworks : (e7Works (withAdc (s.lmd.adc + ws.length) m s) && profile (withAdc (s.lmd.adc + ws.length) m s) == 0 &&
      flag F.SPE_CFG_SH_EN (withAdc (s.lmd.adc + ws.length) m s)) = (e7Works s && profile s == 0 && flag F.SPE_CFG_SH_EN s) := rfl
  rw [exec_shBlock h8 h9, hm, hworks, if_pos]
  obtain h | h | h := h <;> simp [h]

/-- Where blocks run E7 turns to the next one due. -/
theorem exec_shBlock_runs (hworks : e7Works s = true) (hplain : profile s = 0) (hen : flag F.SPE_CFG_SH_EN s = true)
    (hrun : flag F.SPE_STATUS_SH_RUN s = true) :
    ∃ m, exec (.shBlock ws) s = .next (shBlock s.lmd.shNext (put F.SPE_STATUS_SH_RUN 1 (withAdc (s.lmd.adc + ws.length) m s))) := by
  obtain ⟨m, hm⟩ := adcWrite_eq ws s
  have hdo : (e7Works (withAdc (s.lmd.adc + ws.length) m s) && profile (withAdc (s.lmd.adc + ws.length) m s) == 0 &&
      flag F.SPE_CFG_SH_EN (withAdc (s.lmd.adc + ws.length) m s)) = (e7Works s && profile s == 0 && flag F.SPE_CFG_SH_EN s) := rfl
  have hgo : flag F.SPE_STATUS_SH_RUN (withAdc (s.lmd.adc + ws.length) m s) = flag F.SPE_STATUS_SH_RUN s := rfl
  refine ⟨m, ?_⟩
  rw [exec_shBlock h8 h9, hm, hdo, hgo, if_neg (by simp [hworks, hplain, hen]), if_pos hrun]
  rfl

end

section
variable {s : State} {ws : List Nat} (hs : sparseWf (0 : Word) s.regs = true) (h8 : domOn 8 s = true) (h9 : domOn 9 s = true)
  (hworks : e7Works s = true) (hplain : profile s = 0) (hen : flag F.SPE_CFG_SH_EN s = true) (hrun : flag F.SPE_STATUS_SH_RUN s = true)
include hs h8 h9 hworks hplain hen hrun

/-- SH_BLOCK while the next block is not complete (R143). -/
theorem exec_shBlock_waits (h : s.lmd.adc + ws.length < s.lmd.shNext + 5000) :
    ∃ t, exec (.shBlock ws) s = .next t ∧ t.lmd.adc = s.lmd.adc + ws.length ∧ t.lmd.shNext = s.lmd.shNext ∧
      OnlyFlds [F.SPE_STATUS_SH_RUN] { s with lmd := t.lmd, mem := t.mem } t := by
  obtain ⟨m, hm⟩ := exec_shBlock_runs (ws := ws) h8 h9 hworks hplain hen hrun
  rw [shBlock_waits h] at hm
  exact ⟨_, hm, rfl, rfl, Chain.only (u := withNext s.lmd.shNext (withAdc (s.lmd.adc + ws.length) m s)) (.put (.start hs) (by simp) rfl)⟩

/-- SH_BLOCK past a block that has been overwritten (R144). -/
theorem exec_shBlock_drops (h : s.lmd.shNext + 8192 < s.lmd.adc + ws.length) :
    ∃ t, exec (.shBlock ws) s = .next t ∧ get F.SPE_SH_STAT_DROPPED t = min 0xFFFF (get F.SPE_SH_STAT_DROPPED s + 1) ∧
      Raised F.SPE_CAUSE_SH_DROP s t ∧ t.spec = (countUnusable s).spec ∧ t.lmd.shNext = s.lmd.shNext + 10000 ∧
      OnlyFlds [F.SPE_STATUS_SH_RUN, F.SPE_SH_STAT_DROPPED, F.SPE_CAUSE_SH_DROP, F.INT_HOST_PEND_PEND]
        { s with spec := t.spec, lmd := t.lmd, mem := t.mem } t := by
  obtain ⟨m, hm⟩ := exec_shBlock_runs (ws := ws) h8 h9 hworks hplain hen hrun
  let u := countUnusable (withNext (s.lmd.shNext + 10000) (withAdc (s.lmd.adc + ws.length) m s))
  have hdropped : get F.SPE_SH_STAT_DROPPED (put F.SPE_STATUS_SH_RUN 1 u) = get F.SPE_SH_STAT_DROPPED s :=
    get_put_apart 1 (s := u) hs rfl rfl
  have hput : addSat F.SPE_SH_STAT_DROPPED 1 (put F.SPE_STATUS_SH_RUN 1 u) =
      putAll [(F.SPE_STATUS_SH_RUN, 1), (F.SPE_SH_STAT_DROPPED, min 0xFFFF (get F.SPE_SH_STAT_DROPPED s + 1))] u := by
    rw [addSat, hdropped, satNat_eq_min]
    rfl
  have hnext : shBlock s.lmd.shNext (put F.SPE_STATUS_SH_RUN 1 (withAdc (s.lmd.adc + ws.length) m s)) =
      raise F.SPE_CAUSE_SH_DROP (addSat F.SPE_SH_STAT_DROPPED 1 (put F.SPE_STATUS_SH_RUN 1 u)) := shBlock_drops h
  obtain ⟨hv, hraised, honly⟩ := raise_putAll_spec (s := u) hs
    (l := [(F.SPE_STATUS_SH_RUN, 1), (F.SPE_SH_STAT_DROPPED, min 0xFFFF (get F.SPE_SH_STAT_DROPPED s + 1))])
    [F.SPE_STATUS_SH_RUN, F.SPE_SH_STAT_DROPPED] F.SPE_CAUSE_SH_DROP rfl (by decide) (by decide) (by decide) (by decide)
  simp only [List.forall_mem_cons] at hv
  obtain ⟨-, hcount, -⟩ := hv
  rw [← hput, ← hnext] at hraised honly hcount
  rw [hm]
  generalize shBlock s.lmd.shNext (put F.SPE_STATUS_SH_RUN 1 (withAdc (s.lmd.adc + ws.length) m s)) = t at hraised honly hcount ⊢
  have hspec : t.spec = u.spec := honly.spec
  have hmem : t.mem = m := honly.mem
  have hlmd : t.lmd = u.lmd := (congrArg State.lmd honly.1 :)
  refine ⟨t, rfl, hcount.trans (Nat.mod_eq_of_lt ?_), hraised, hspec, by rw [hlmd]; rfl, ?_⟩
  · exact Nat.lt_of_le_of_lt (Nat.min_le_left _ _) (by decide)
  · rw [hspec, hmem, hlmd]
    exact honly.mono (by simp)

/-- SH_BLOCK with the words that complete a block (R143, R144). -/
theorem exec_shBlock_completes (h5 : s.lmd.shNext + 5000 ≤ s.lmd.adc + ws.length) (h8192 : s.lmd.adc + ws.length ≤ s.lmd.shNext + 8192) :
    ∃ t, exec (.shBlock ws) s = .next t ∧ t.lmd.shNext = s.lmd.shNext + 10000 ∧
      t.spec = (if (blockWords s.lmd.shNext t).any (·.testBit 15) then (countUnusable s).spec
        else { s.spec with
          usable := s.spec.usable + 1
          bands := (List.range 741).map fun b => nth 0 s.spec.bands b +
            bandRms b ((blockWords s.lmd.shNext t).map fun w => signed 14 w) t ^ 2 }) ∧
      OnlyFlds [F.SPE_STATUS_SH_RUN] { s with spec := t.spec, lmd := t.lmd, mem := t.mem } t := by
  obtain ⟨m, hm⟩ := exec_shBlock_runs (ws := ws) h8 h9 hworks hplain hen hrun
  let u := withAdc (s.lmd.adc + ws.length) m s
  have hblock : shBlock s.lmd.shNext (put F.SPE_STATUS_SH_RUN 1 u) = _ := shBlock_completes h5 h8192
  rw [hm, hblock]
  split
  next hown =>
    refine ⟨_, rfl, rfl, (if_pos hown).symm, ?_⟩
    exact ⟨rfl, fun g hg => get_put_apart 1 (s := u) hs rfl (hg _ (List.mem_singleton_self _))⟩
  next hown =>
    refine ⟨_, rfl, rfl, (if_neg hown).symm, ?_⟩
    exact ⟨rfl, fun g hg => get_put_apart 1 (s := u) hs rfl (hg _ (List.mem_singleton_self _))⟩

end

/-! EVT_POP -/

/-- The oldest record taken out of the FIFO and put in its place in the log, the counter of the log raised (R147, R219). -/
def logRecord (r : PqRec) (l : List PqRec) (s : State) : State :=
  { s with
    spec := { s.spec with fifo := l }
    cis := { s.cis with
      b0 := { s.cis.b0 with spread := upd s.cis.b0.spread 3 (spreadRaise (counter 3 s + 1)) }
      b3 := { s.cis.b3 with pq := sparseSet {} s.cis.b3.pq (counter 3 s % 256) r } } }

/-- A spread counter raised reads the greater of its value and the target, which saturates (R219, R220). -/
theorem spreadRead_spreadRaise (n : Nat) (c : Spread) :
    spreadRead (spreadRaise n c) = max (spreadRead c) (min spreadMax n) := by
  unfold spreadRaise
  rw [satNat_eq_min]
  dsimp only
  split
  next hlt => exact (max_eq_right hlt.le).symm
  next hge => exact (max_eq_left (Nat.not_lt.mp hge)).symm

/-- The log's counter goes on by one and saturates. -/
theorem counter_logRecord {r : PqRec} {l : List PqRec} {s : State} (h : s.cis.b0.spread.length = 7) :
    counter 3 (logRecord r l s) = max (counter 3 s) (min (2 ^ 63 - 1) (counter 3 s + 1)) := by
  have hread : nth {} (upd s.cis.b0.spread 3 (spreadRaise (counter 3 s + 1))) 3 =
      spreadRaise (counter 3 s + 1) (nth {} s.cis.b0.spread 3) := by
    have hlt : 3 < s.cis.b0.spread.length := by omega
    simp [nth, upd, List.getD_eq_getElem?_getD, hlt]
  exact (congrArg spreadRead hread).trans (spreadRead_spreadRaise _ _)

/-- The registers that show the FIFO. -/
def eventFlds : List Fld := F.SPE_EVT_CTL_LEVEL :: (List.range 8).map F.SPE_EVT_WORD_WORD

/-- The registers that show the FIFO, with its level and the bytes of its oldest record. -/
def eventsShown (n : Nat) (bs : List Byte) : List (Fld × Nat) :=
  (F.SPE_EVT_CTL_LEVEL, n) :: (List.range 8).map fun w => (F.SPE_EVT_WORD_WORD w, ofLe ((bs.drop (4 * w)).take 4))

theorem showEvents_eq (s : State) : ∃ bs, showEvents s = putAll (eventsShown s.spec.fifo.length bs) s := by
  unfold showEvents
  extract_lets bs
  refine ⟨bs, ?_⟩
  clear_value bs
  rw [eventsShown, putAll, List.foldl_cons, List.foldl_map]

section
variable {s : State} (hs : sparseWf (0 : Word) s.regs = true)

/-- While no bank copies, a write marks its bank dirty (R207). -/
theorem dirty_of_idle (b : Nat) (h : get F.CIS_STATUS_COPYING s = 0) : dirty b s = putBit F.CIS_STATUS_DIRTY b true s := by
  unfold dirty
  rw [if_neg]
  simp [fbit, h, bit]

include hs

/-- A record logged, with banks 0 and 3 marked dirty. -/
def logDirty (r : PqRec) (l : List PqRec) (s : State) : State :=
  putBit F.CIS_STATUS_DIRTY 3 true (putBit F.CIS_STATUS_DIRTY 0 true (logRecord r l s))

variable {r : PqRec} {l : List PqRec}

/-- A record that enters the log makes banks 0 and 3 dirty (R147, R219). -/
theorem pqAppend_eq (h : get F.CIS_STATUS_COPYING s = 0) : pqAppend r { s with spec := { s.spec with fifo := l } } = logDirty r l s := by
  have hfirst : dirty 0 (logRecord r l s) = putBit F.CIS_STATUS_DIRTY 0 true (logRecord r l s) := dirty_of_idle 0 h
  have hcopying : get F.CIS_STATUS_COPYING (putBit F.CIS_STATUS_DIRTY 0 true (logRecord r l s)) = 0 :=
    (get_put_apart _ (s := logRecord r l s) hs rfl rfl).trans h
  rw [logDirty, ← dirty_of_idle 3 hcopying, ← hfirst]
  rfl

/-- The two banks' bits, and nothing else in the registers. -/
theorem logDirty_spec : fbit F.CIS_STATUS_DIRTY 3 (logDirty r l s) = true ∧ fbit F.CIS_STATUS_DIRTY 0 (logDirty r l s) = true ∧
    Touches [F.CIS_STATUS_DIRTY] s.regs (logDirty r l s).regs := by
  have hzero : Touches [F.CIS_STATUS_DIRTY] s.regs (putBit F.CIS_STATUS_DIRTY 0 true (logRecord r l s)).regs :=
    Touches.put (t := logRecord r l s) (.refl hs) (List.mem_singleton_self _) rfl rfl
  refine ⟨(fbit_putBit 3 3 true hzero.wf rfl (by decide)).trans (if_pos rfl), ?_, hzero.put (List.mem_singleton_self _) rfl rfl⟩
  rw [logDirty, fbit_putBit 3 0 true hzero.wf rfl (by decide), if_neg (by decide)]
  exact (fbit_putBit (s := logRecord r l s) 0 0 true hs rfl (by decide)).trans (if_pos rfl)

/-- EVT_POP of a FIFO that holds a record. -/
theorem exec_evtPop {m : Master} {w : Word} (hw : Writable m R.SPE_EVT_CTL s) (hpop : arg F.SPE_EVT_CTL_POP w = 1)
    (hfifo : s.spec.fifo = r :: l) (hl : l.length < 16) (h : get F.CIS_STATUS_COPYING s = 0) :
    ∃ t, exec (.evtPop m w) s = .next t ∧ get F.SPE_EVT_CTL_LEVEL t = l.length ∧ fbit F.CIS_STATUS_DIRTY 3 t = true ∧
      fbit F.CIS_STATUS_DIRTY 0 t = true ∧
      OnlyFlds ([F.SPE_EVT_CTL_LEVEL, F.CIS_STATUS_DIRTY] ++ (List.range 8).map F.SPE_EVT_WORD_WORD) (logRecord r l s) t := by
  have hexec : exec (.evtPop m w) s = .next (evtCtlWrite w s) := cmdWrite_of_writable _ hw
  obtain ⟨hthree, hzero, hdirty⟩ := logDirty_spec hs (r := r) (l := l)
  obtain ⟨bs, hbs⟩ := showEvents_eq (logDirty r l s)
  have ht : evtCtlWrite w s = putAll (eventsShown l.length bs) (logDirty r l s) := by
    rw [evtCtlWrite, hpop, if_neg (by decide), hfifo]
    exact (congrArg showEvents (pqAppend_eq hs h)).trans hbs
  obtain ⟨hv, hshown⟩ := putAll_spec hdirty.wf (l := eventsShown l.length bs) eventFlds rfl (by decide)
  have hlevel := hv _ (List.mem_cons_self ..)
  have hfits : l.length < 2 ^ 5 := by omega
  refine ⟨_, hexec, ?_⟩
  rw [ht]
  refine ⟨hlevel.trans (Nat.mod_eq_of_lt hfits), (hshown.fbit (by decide)).trans hthree, (hshown.fbit (by decide)).trans hzero,
    ((hdirty.mono (by simp)).trans (hshown.mono ?_)).onlyFlds (putAll_eq _ (logDirty r l s)) rfl⟩
  exact List.cons_subset.mpr ⟨List.mem_cons_self .., List.subset_append_right _ _⟩

end

/-- Settles O30: a publication by whether the block before it closes first, SH_BLOCK by where the block due stands in the ring, and the
pop of a record by its way from the FIFO into the log. -/
theorem spectrumAndEvents : Obligations.SpectrumAndEvents := by
  unfold Obligations.SpectrumAndEvents
  refine ⟨fun s f l hs hup hready hwait hst hn => ?_, fun s f l hs hup hready hwait hst hn => ?_, fun s hs hup hn hend => ?_,
    fun s w hs h8 h9 hidle => ?_,
    fun s ws hs h8 h9 hworks hplain hen hrun h => exec_shBlock_drops hs.1 h8 h9 hworks hplain hen hrun h,
    fun s ws hs h8 h9 hworks hplain hen hrun h => exec_shBlock_waits hs.1 h8 h9 hworks hplain hen hrun h,
    fun s ws hs h8 h9 hworks hplain hen hrun h5 h8192 => ?_, fun s m w r l hs hw hpop hfifo hl hspread hidle => ?_⟩
  · obtain ⟨hspec, hframe, hflags, hrun, honly⟩ := publish_continues (f := f) (l := l) hs.1 hst hn
    refine ⟨_, exec_spectrumPublish hup hready hwait, ?_⟩
    rw [hspec] at honly ⊢
    exact ⟨rfl, rfl, rfl, rfl, hframe, hflags, hrun, honly⟩
  · obtain ⟨u, hnext, hclosed, hraised, honly⟩ := publish_closes (f := f) (l := l) hs.1 hst hn
    have hspec : (publish f l s).spec = (publishFrame f l u).spec := by
      rw [hnext]
      exact (congrArg State.spec publishInto_eq :)
    obtain ⟨hshort, hdisturbed⟩ := bit_b2n_pair (decide (s.spec.agg.n < 15)) s.spec.agg.disturbed
    have hn0 : u.spec.agg.n = 0 := congrArg (fun p => p.agg.n) hclosed
    have hshown : u.spec.aggShown = (closedBlock s).spec.aggShown := congrArg (fun p => p.aggShown) hclosed
    have hflags : u.spec.aggFlags = (closedBlock s).spec.aggFlags := congrArg (fun p => p.aggFlags) hclosed
    refine ⟨_, exec_spectrumPublish hup hready hwait, ?_⟩
    rw [hspec] at honly ⊢
    refine ⟨rfl, congrArg (· + 1) hn0, rfl, (congrArg ResultSet.frame hshown :), (congrArg ResultSet.bands hshown :),
      (congrArg (bit · 0) hflags).trans hshort, (congrArg (bit · 1) hflags).trans hdisturbed, hraised, honly⟩
  · obtain ⟨t, hexec, hspec, hraised, honly⟩ := exec_aggregateClose hs.1 hup hn hend
    obtain ⟨hshort, hdisturbed⟩ := bit_b2n_pair (decide (s.spec.agg.n < 15)) s.spec.agg.disturbed
    refine ⟨t, hexec, ?_⟩
    rw [hspec] at honly ⊢
    exact ⟨rfl, rfl, rfl, rfl, hshort, hdisturbed, rfl, hraised, honly⟩
  · obtain ⟨hsample, hother⟩ := ringSample_adcWrite_singleton w hs.2.2
    exact ⟨_, exec_shBlock_idle h8 h9 hidle, rfl, hsample, hother, rfl⟩
  · obtain ⟨t, hexec, hnext, hspec, honly⟩ := exec_shBlock_completes hs.1 h8 h9 hworks hplain hen hrun h5 h8192
    refine ⟨t, hexec, hnext, ?_, honly⟩
    rw [blockWords, List.any_map, List.map_map] at hspec
    exact hspec
  · obtain ⟨t, hexec, hlevel, hthree, hzero, honly⟩ := exec_evtPop (r := r) (l := l) hs.1 hw hpop hfifo hl hidle
    have hspec : t.spec = (logRecord r l s).spec := honly.spec
    have hcis : t.cis = (logRecord r l s).cis := (congrArg State.cis honly.1 :)
    have hcounter : counter 3 t = counter 3 (logRecord r l s) := congrArg (fun c : CisSt => spreadRead (nth {} c.b0.spread 3)) hcis
    refine ⟨t, hexec, hspec, hcis, hcounter.trans (counter_logRecord hspread), hlevel, hthree, hzero, ?_⟩
    rw [hspec, hcis]
    exact honly

end Sys2Proof.Machine
end

section
/-! SUPPORT. How far the billing has come (R176): which operations leave E1's billing state alone, which of its own operations neither move
the billing record to another second nor settle a missed tick, and where a tick that is worked through brings it. One lemma per operation. -/
namespace Sys2Proof.Machine

/-- How far the billing has come (R176): the RTC second of the billing record, and the first tick that E1 has missed. -/
def BilSt.billedTo (b : BilSt) : Nat × Option Nat := (b.cur.rtc, b.missedFrom)

@[simp] theorem billedTo_mk (cur p1Base p1Reg p1Start p1Last p1Gap slewIn p2Last slewDay slewSecs closeReq adj stepped outage present rates
    missedFrom restored owed) :
    (BilSt.mk cur p1Base p1Reg p1Start p1Last p1Gap slewIn p2Last slewDay slewSecs closeReq adj stepped outage present rates missedFrom
      restored owed).billedTo = (cur.rtc, missedFrom) := rfl
@[simp] theorem billedTo_fold (b : BilSt) : (b.cur.rtc, b.missedFrom) = b.billedTo := rfl
@[simp] theorem bil_ite (c : Prop) [Decidable c] (s t : State) : (if c then s else t).bil = if c then s.bil else t.bil := apply_ite _ _ _ _
@[simp] theorem billedTo_ite (c : Prop) [Decidable c] (a b : BilSt) :
    (if c then a else b).billedTo = if c then a.billedTo else b.billedTo := apply_ite _ _ _ _

/-! Operations that leave the billing -/

@[simp] theorem foldl_bil {α : Type} {f : State → α → State} {l : List α} {s : State} (h : ∀ s a, (f s a).bil = s.bil) :
    (l.foldl f s).bil = s.bil := foldl_same (k := State.bil) (fun s a _ => h s a) s

@[simp] theorem dirty_bil (b : Nat) (s : State) : (dirty b s).bil = s.bil := by simp [dirty]
@[simp] theorem counterAdd_bil (i n : Nat) (s : State) : (counterAdd i n s).bil = s.bil := by simp [counterAdd]
@[simp] theorem legalEvent_bil (kind role : Nat) (entries : List (List Byte)) (s : State) :
    (legalEvent kind role entries s).bil = s.bil := by simp [legalEvent]
@[simp] theorem writeBill_bil (k rate : Nat) (s : State) : (writeBill k rate s).bil = s.bil := by simp [writeBill]
@[simp] theorem putP1_bil (e : ProfEntry) (s : State) : (putP1 e s).bil = s.bil := by simp [putP1]
@[simp] theorem updCredit_bil (f : CreditRec → CreditRec) (s : State) : (updCredit f s).bil = s.bil := rfl
@[simp] theorem startMonth_bil (s : State) : (startMonth s).bil = s.bil := by simp [startMonth]

@[simp] theorem chargeCredit_bil (rate e : Nat) (s : State) : (chargeCredit rate e s).bil = s.bil := by
  unfold chargeCredit
  split <;> simp [showBlock]

@[simp] theorem evalFriendly_bil (special : List Nat) (c : Int) (s : State) : (evalFriendly special c s).bil = s.bil := by
  simp [evalFriendly]
@[simp] theorem endEmergency_bil (s : State) : (endEmergency s).bil = s.bil := by simp [endEmergency]

@[simp] theorem evalCredit_bil (s : State) : (evalCredit s).bil = s.bil := by
  unfold evalCredit
  split <;> simp

@[simp] theorem writeCredit_bil (k : Nat) (s : State) : (writeCredit k s).bil = s.bil := by simp [writeCredit]
@[simp] theorem showCredit_bil (s : State) : (showCredit s).bil = s.bil := rfl
@[simp] theorem abortSounding_bil (code : Nat) (s : State) : (abortSounding code s).bil = s.bil := by
  simp [abortSounding, lmdState, soundingRepeat]

@[simp] theorem startLcPulse_bil (s : State) : (startLcPulse s).bil = s.bil := by
  unfold startLcPulse
  split <;> simp

@[simp] theorem matchLatch_bil (s : State) : (matchLatch s).bil = s.bil := by simp [matchLatch]
@[simp] theorem switchLc_bil (on : Bool) (s : State) : (switchLc on s).bil = s.bil := by simp [switchLc]
@[simp] theorem evalLc_bil (s : State) : (evalLc s).bil = s.bil := by simp [evalLc]
@[simp] theorem dropLc_bil (s : State) : (dropLc s).bil = s.bil := by simp [dropLc, drawDelay]
@[simp] theorem commandMain_bil (openIt : Bool) (s : State) : (commandMain openIt s).bil = s.bil := by simp [commandMain]
@[simp] theorem driveMain_bil (s : State) : (driveMain s).bil = s.bil := by simp [driveMain]
@[simp] theorem evalReasons_bil (s : State) : (evalReasons s).bil = s.bil := by simp [evalReasons]
@[simp] theorem showSlew_bil (s : State) : (showSlew s).bil = s.bil := by simp [showSlew]
@[simp] theorem writeUpd_bil (f : UpdRec → UpdRec) (s : State) : (writeUpd f s).bil = s.bil := by simp [writeUpd, showUpd]
@[simp] theorem trialSecond_bil (s : State) : (trialSecond s).bil = s.bil := by simp [trialSecond]
@[simp] theorem idleLeft_bil (s : State) : (idleLeft s).bil = s.bil := by simp [idleLeft]
@[simp] theorem settleFabRec_bil (s : State) : (settleFabRec s).bil = s.bil := by simp [settleFabRec, writeFabRec]

/-! Operations of the billing that neither move the record to another second nor settle a missed tick -/

@[simp] theorem updBill_bil (f : BillRec → BillRec) (s : State) : (updBill f s).bil = { s.bil with cur := f s.bil.cur } := rfl

@[simp] theorem foldl_billedTo {α : Type} {f : State → α → State} {l : List α} {s : State}
    (h : ∀ s a, (f s a).bil.billedTo = s.bil.billedTo) : (l.foldl f s).bil.billedTo = s.bil.billedTo :=
  foldl_same (k := fun s => s.bil.billedTo) (fun s a _ => h s a) s

section
variable (s : State)

@[simp] theorem showDisplay_billedTo (n : Nat) : (showDisplay n s).bil.billedTo = s.bil.billedTo := by simp [showDisplay]
@[simp] theorem showDisplays_billedTo : (showDisplays s).bil.billedTo = s.bil.billedTo := by simp [showDisplays]
@[simp] theorem showBilling_billedTo : (showBilling s).bil.billedTo = s.bil.billedTo := by simp [showBilling]
@[simp] theorem addReg_billedTo (r m : Nat) : (addReg r m s).bil.billedTo = s.bil.billedTo := by simp [addReg]

@[simp] theorem addQuantity_billedTo (rate j e : Nat) : (addQuantity rate j e s).bil.billedTo = s.bil.billedTo := by
  unfold addQuantity
  split <;> simp

@[simp] theorem applyIncs_billedTo (rate : Nat) (incs : List Nat) : (applyIncs rate incs s).bil.billedTo = s.bil.billedTo := by
  simp [applyIncs]
@[simp] theorem applyRing_billedTo (p : HandoffRec → Bool) (rate : Nat) : (applyRing p rate s).bil.billedTo = s.bil.billedTo := by
  simp [applyRing]

@[simp] theorem settleOwed_billedTo : (settleOwed s).bil.billedTo = s.bil.billedTo := by
  refine (foldl_billedTo fun s o => ?_).trans rfl
  split <;> simp

@[simp] theorem owe_billedTo (rate e : Nat) : (owe rate e s).bil.billedTo = s.bil.billedTo := by
  unfold owe
  split
  · rfl
  · split <;> simp

/-- Stage 3 without the check of R125. -/
theorem stageEnergy_billedTo (p : HandoffRec → Bool) (rate : Nat) : (stageEnergy p false rate s).bil.billedTo = s.bil.billedTo := by
  simp [stageEnergy]

@[simp] theorem newMax_billedTo (i v t : Nat) : (newMax i v t s).bil.billedTo = s.bil.billedTo := by simp [newMax]
@[simp] theorem closeDemand_billedTo (natural : Bool) (rate t : Nat) : (closeDemand natural rate t s).bil.billedTo = s.bil.billedTo := by
  simp [closeDemand]
@[simp] theorem closeP1_billedTo (natural outage : Bool) (t : Nat) : (closeP1 natural outage t s).bil.billedTo = s.bil.billedTo := by
  simp [closeP1]
@[simp] theorem writeP2_billedTo (day : Int) (t : Nat) (outage gap : Bool) :
    (writeP2 day t outage gap s).bil.billedTo = s.bil.billedTo := by
  simp [writeP2]
@[simp] theorem stageDemand_billedTo (stepped : Bool) (rate t : Nat) : (stageDemand stepped rate t s).bil.billedTo = s.bil.billedTo := by
  simp [stageDemand]
@[simp] theorem closePeriod_billedTo (reason skipped i t : Nat) : (closePeriod reason skipped i t s).bil.billedTo = s.bil.billedTo := by
  simp [closePeriod, snapshot]
@[simp] theorem monthStart_billedTo : (monthStart s).bil.billedTo = s.bil.billedTo := by simp [monthStart]

@[simp] theorem stageClose_billedTo (t : Nat) : (stageClose t s).bil.billedTo = s.bil.billedTo := by
  unfold stageClose
  extract_lets b rule closed
  split
  · simp [closed]
  · split <;> simp [snapshot]

@[simp] theorem keepRate_billedTo : (keepRate s).bil.billedTo = s.bil.billedTo := rfl

@[simp] theorem stageTariff_billedTo : (stageTariff s).bil.billedTo = s.bil.billedTo := by
  unfold stageTariff
  split <;> simp

@[simp] theorem coreTwoTick_billedTo : (coreTwoTick s).bil.billedTo = s.bil.billedTo := by simp [coreTwoTick]

/-! The ticks -/

theorem workTick_billedTo (p : HandoffRec → Bool) (check stepped : Bool) (rate t : Nat) :
    (workTick p check stepped rate t s).bil.billedTo = (t, (stageEnergy p check rate s).bil.missedFrom) := by
  have hmissed : (stageClose t (stageDemand stepped rate t (stageEnergy p check rate s))).bil.missedFrom =
      (stageEnergy p check rate s).bil.missedFrom :=
    congrArg Prod.snd ((stageClose_billedTo _ t).trans (stageDemand_billedTo _ stepped rate t))
  simp [workTick, hmissed]

/-- A missed tick is worked through without the check of R125 (R176). -/
theorem workTick_missed_billedTo (p : HandoffRec → Bool) (stepped : Bool) (rate t : Nat) :
    (workTick p false stepped rate t s).bil.billedTo = (t, s.bil.missedFrom) :=
  (workTick_billedTo s p false stepped rate t).trans (congrArg (fun b : Nat × Option Nat => (t, b.2)) (stageEnergy_billedTo s p rate))

/-- Missed ticks worked through one after the other (R176). -/
theorem catchUpFrom_billedTo (t n : Nat) : (catchUpFrom t (n + 1) s).bil.billedTo = (t + n, s.bil.missedFrom) := by
  induction n generalizing t s with
  | zero => exact workTick_missed_billedTo s _ false _ t
  | succ n ih =>
    have hfirst := workTick_missed_billedTo s (fun r => decide (r.endRtc < t)) false (keptRate t s) t
    have hmissed : (workTick (fun r => decide (r.endRtc < t)) false false (keptRate t s) t s).bil.missedFrom = s.bil.missedFrom :=
      congrArg Prod.snd hfirst
    rw [catchUpFrom, ih, hmissed, Nat.add_assoc, Nat.add_comm 1 n]

end

/-- With no tick missed and no adjustment waiting E1 brings the record to the present second (R176). -/
theorem coreOneTick_rtc {s : State} (hadj : s.bil.adj = none) (hmissed : s.bil.missedFrom = none) :
    (coreOneTick s).bil.billedTo.1 = rtc s := by
  have hcatch : catchUp true s = s := by rw [catchUp, hmissed]
  have hclock : stageClock s = (false, s) := by rw [stageClock, hadj]
  rw [coreOneTick, hcatch, hclock, workTick_billedTo]

theorem missTick_bil (s : State) : (missTick s).bil = { s.bil with missedFrom := some (s.bil.missedFrom.getD (rtc s)) } := by
  rw [missTick, updBil_bil]
  cases s.bil.missedFrom <;> rfl

theorem missTick_keeps (s : State) : (missTick s).regs = s.regs ∧ (missTick s).en = s.en ∧ (missTick s).sup = s.sup := by
  rw [missTick, updBil_regs, updBil_en, updBil_sup]
  exact ⟨rfl, rfl, rfl⟩

end Sys2Proof.Machine
end

section
/-! SUPPORT. The RTC second (O32): what E0 and metrology count of it, which engines take it then, and the requests that wait for it. -/
namespace Sys2Proof.Machine

section
variable {s : State}

/-! The counted second -/

/-- The fields that show the windows of the fault counters (R271). -/
def faultWindowFlds : List Fld := (List.range 64).map F.TAMP_FC_STAT_IN_WIN ++ (List.range 10).map F.CNV_SLICE_CFG_FAULTS

/-- Operations over the elements of a list touch no more than each of them does. -/
theorem Touches.foldl {α : Type} {L : List Fld} {r : Sparse Word} {f : State → α → State} {l : List α}
    (hf : ∀ a ∈ l, ∀ t, Touches L r t.regs → Touches L r (f t a).regs) (h : Touches L r s.regs) : Touches L r (l.foldl f s).regs := by
  induction l generalizing s with
  | nil => exact h
  | cons a l ih =>
    rw [List.forall_mem_cons] at hf
    exact ih hf.2 (hf.1 s h)

theorem Touches.showWindows {L : List Fld} {r : Sparse Word} (hL : faultWindowFlds ⊆ L) (h : Touches L r s.regs) :
    Touches L r (showWindows s).regs := by
  refine Touches.foldl (fun c hc t ht => ?_) h
  have hwin : F.TAMP_FC_STAT_IN_WIN c ∈ L := hL (List.mem_append_left _ (List.mem_map_of_mem hc))
  split
  · exact ht
  · unfold Machine.showWindow
    extract_lets k u
    have hu : Touches L r u.regs := ht.put hwin rfl (TAMP_FC_STAT_apart_pend c _ _)
    split
    next h9 =>
      have hfaults : F.CNV_SLICE_CFG_FAULTS c ∈ faultWindowFlds :=
        List.mem_append_right _ (List.mem_map_of_mem (List.mem_range.mpr (Nat.lt_succ_of_le h9.1)))
      exact hu.put (hL hfaults) rfl (CNV_SLICE_CFG_apart_pend c _ _)
    next => exact hu

/-- The state without the registers. -/
def beyondRegs (s : State) : State := { s with regs := [] }

/-- A state that agrees beyond them. -/
theorem eq_of_beyondRegs {s t : State} (h : beyondRegs t = beyondRegs s) : t = { s with regs := t.regs } :=
  congrArg (fun u : State => { u with regs := t.regs }) h

theorem beyondRegs_showWindow (c : Nat) (s : State) : beyondRegs (showWindow c s) = beyondRegs s := by
  unfold showWindow
  extract_lets k t
  split <;> rfl

theorem beyondRegs_showWindows (s : State) : beyondRegs (showWindows s) = beyondRegs s := by
  refine foldl_same (fun t c _ => ?_) s
  split
  · rfl
  · exact beyondRegs_showWindow c t

/-- Beside registers a second counts the monotonic tick alone, which stands still in SHIP (R301). -/
theorem countSecond_eq (s : State) : countSecond s =
    { s with
      regs := (countSecond s).regs
      sup := { s.sup with mono := s.sup.mono + if s.sup.mode = .ship then 0 else secondTicks s } } :=
  eq_of_beyondRegs (beyondRegs_showWindows _)

theorem countSecond_sup (s : State) : (countSecond s).sup =
    { s.sup with mono := s.sup.mono + if s.sup.mode = .ship then 0 else secondTicks s } := by rw [countSecond_eq]
theorem countSecond_ld (s : State) : (countSecond s).ld = s.ld := by rw [countSecond_eq]
theorem countSecond_bil (s : State) : (countSecond s).bil = s.bil := by rw [countSecond_eq]

/-- The fields that a second may touch in E0. -/
abbrev secondFlds : List Fld := F.SUP_RTC_SEC_SEC :: faultWindowFlds

section
variable (hs : sparseWf (0 : Word) s.regs = true)
include hs

theorem touches_countSecond : Touches secondFlds s.regs (countSecond s).regs :=
  Touches.showWindows (List.subset_cons_self _ _) (Touches.put (.refl hs) List.mem_cons_self rfl rfl)

/-- The RTC seconds count modulo 2^32 (R301). -/
theorem rtc_countSecond : rtc (countSecond s) = (rtc s + 1) % 2 ^ 32 := by
  have hput := rput_wf F.SUP_RTC_SEC_SEC (rtc s + 1) s.regs hs
  have hshown : Touches faultWindowFlds (rput F.SUP_RTC_SEC_SEC (rtc s + 1) s.regs) (countSecond s).regs :=
    Touches.showWindows (List.Subset.refl _) (.refl hput)
  exact (hshown.reads F.SUP_RTC_SEC_SEC (by decide)).trans (rget_rput_same _ _ _ hs rfl)

theorem flag_FROZEN_countSecond : flag F.NRG_STATUS_FROZEN (countSecond s) = flag F.NRG_STATUS_FROZEN s :=
  (touches_countSecond hs).flag (by decide)

theorem domOn_countSecond (d : Nat) : domOn d (countSecond s) = domOn d s := (touches_countSecond hs).fbit (by decide)

end

/-- Metrology's count of the second shows in no register and has no bearing on the billing (R97, R121, R140). -/
theorem metroSecond_keeps (s : State) : (metroSecond s).regs = s.regs ∧ (metroSecond s).sup = s.sup ∧ (metroSecond s).ld = s.ld ∧
    (metroSecond s).bil = s.bil ∧ (metroSecond s).en.imageDue = true := by
  unfold metroSecond
  extract_lets en due spec block metro
  have hblock : block.regs = s.regs ∧ block.sup = s.sup ∧ block.ld = s.ld ∧ block.bil = s.bil ∧ block.en.imageDue = true := by
    unfold block
    split <;> exact ⟨rfl, rfl, rfl, rfl, rfl⟩
  split <;> exact hblock

/-- The second as E0 and metrology have counted it while the clock does not slew. -/
def countedSecond (s : State) : State := metroSecond (countSecond s)

/-- What the counted second leaves for the stages of E1 and E2. -/
theorem countedSecond_keeps (s : State) : (countedSecond s).regs = (countSecond s).regs ∧
    (countedSecond s).sup = { s.sup with mono := s.sup.mono + if s.sup.mode = .ship then 0 else secondTicks s } ∧
    (countedSecond s).ld = s.ld ∧ (countedSecond s).bil = s.bil ∧ (countedSecond s).en.imageDue = true := by
  have hmetro := metroSecond_keeps (countSecond s)
  rwa [countSecond_sup, countSecond_ld, countSecond_bil, ← countedSecond] at hmetro

theorem configured_countedSecond (s : State) : configured (countedSecond s) = configured s := by
  obtain ⟨-, -, hld, -⟩ := countedSecond_keeps s
  rw [configured, configured, hld]

section
variable (hs : sparseWf (0 : Word) s.regs = true)
include hs

theorem touches_countedSecond : Touches secondFlds s.regs (countedSecond s).regs := by
  rw [(countedSecond_keeps s).1]
  exact touches_countSecond hs

theorem rtc_countedSecond : rtc (countedSecond s) = (rtc s + 1) % 2 ^ 32 := by
  rw [← rtc_countSecond hs, rtc, rtc, get_eq, get_eq, (countedSecond_keeps s).1]

theorem domOn_countedSecond (d : Nat) : domOn d (countedSecond s) = domOn d s := (touches_countedSecond hs).fbit (by decide)

/-- Whether E1 runs does not depend on the second. -/
theorem e1Up_countedSecond : e1Up (countedSecond s) = e1Up s := by
  have hstate : get F.PMU_STATE_STATE (countedSecond s) = get F.PMU_STATE_STATE s := (touches_countedSecond hs).get (by decide)
  obtain ⟨-, hsup, -⟩ := countedSecond_keeps s
  simp only [e1Up, domOn_countedSecond hs, configured_countedSecond, hsup, hstate]

end

/-! RTC_SECOND -/

/-- A second in which the clock does not slew. -/
theorem slewSecond_countSecond (hz : slewLeft s = 0) : slewSecond (countSecond s) = countSecond s := by
  have hz' : slewLeft (countSecond s) = 0 := by rw [slewLeft, countSecond_sup, ← hz, slewLeft]
  rw [slewSecond, hz', if_pos rfl]

/-- Outside a load and a run E0 alone counts the second (R301). -/
theorem exec_rtcSecond_idle (hr : s.sup.mode ≠ .running) (hl : s.sup.mode ≠ .loading) :
    exec .rtcSecond s = .next (countSecond s) := by
  have hmode : (countSecond s).sup.mode = s.sup.mode := by rw [countSecond_sup]
  show execRtcSecond s = _
  simp [execRtcSecond, hmode, hr, hl]

section
variable (hs : sparseWf (0 : Word) s.regs = true) (hf : flag F.NRG_STATUS_FROZEN s = false) (hd : domOn 2 s = true)
  (hz : slewLeft s = 0)
include hs hf hd hz

/-- During a load the stages do not run, and the tick is missed (R178). -/
theorem exec_rtcSecond_loading (hm : s.sup.mode = .loading) : exec .rtcSecond s = .next (missTick (countedSecond s)) := by
  have hmode : (countSecond s).sup.mode = .loading := by rw [countSecond_sup, hm]
  have hslew := slewSecond_countSecond hz
  have hmode' : (countedSecond s).sup.mode = .loading := by rw [(countedSecond_keeps s).2.1, hm]
  show execRtcSecond s = _
  rw [countedSecond] at hmode' ⊢
  simp [execRtcSecond, hslew, hmode, hmode', flag_FROZEN_countSecond hs, domOn_countSecond hs, hf, hd]

/-- In a run whose billing has been restored E1 takes the second, and after it E2 (R176). -/
theorem exec_rtcSecond_running (hm : s.sup.mode = .running) (hc : configured s = true) (hr : s.bil.restored = true)
    (h1 : e1Up s = true) (h5 : domOn 5 s = true) : exec .rtcSecond s =
    .next (
      let t := coreOneTick (countedSecond s)
      if e2Up t then coreTwoTick t else t) := by
  have hmode : (countSecond s).sup.mode = .running := by rw [countSecond_sup, hm]
  have hslew := slewSecond_countSecond hz
  have hc' := configured_countedSecond s
  have h1' := e1Up_countedSecond hs
  have h5' := domOn_countedSecond hs 5
  obtain ⟨-, hsup, -, hbil, -⟩ := countedSecond_keeps s
  have hmode' : (countedSecond s).sup.mode = .running := by rw [hsup, hm]
  show execRtcSecond s = _
  rw [countedSecond] at *
  simp [execRtcSecond, hslew, hmode, hmode', flag_FROZEN_countSecond hs, domOn_countSecond hs, hf, hd, hc', hc, hbil, hr,
    h1', h1, h5', h5]

end

/-! TICK_CATCH_UP -/

theorem exec_tickCatchUp (h1 : e1Up s = true) (hf : flag F.NRG_STATUS_FROZEN s = false) :
    exec .tickCatchUp s = .next (showBilling (catchUp false s)) := by
  show execTickCatchUp s = _
  rw [execTickCatchUp, h1, hf]
  rfl

/-- E1 works through the ticks it has missed up to the present second (R176). -/
theorem tickCatchUp_billedTo {n : Nat} (hn : s.bil.missedFrom = some n) (hle : n ≤ rtc s) :
    (showBilling (catchUp false s)).bil.billedTo = (rtc s, none) := by
  have hcount : rtc s + 1 - n = rtc s - n + 1 := by omega
  have hlast : n + (rtc s - n) = rtc s := by omega
  have hcatch : catchUp false s = catchUpFrom n (rtc s - n + 1) (updBil (fun b => { b with missedFrom := none }) s) := by
    simp only [catchUp, hn, hcount, Bool.false_eq_true, if_false]
  rw [showBilling_billedTo, hcatch, catchUpFrom_billedTo, hlast, updBil_bil]

end

/-! The requests -/

section
variable {w : Word} {s : State}

section
variable (hclose : arg F.BIL_CTL_CLOSE w = 1) (hkey : arg F.BIL_CTL_KEY w = 0xC3)
include hclose hkey

/-- A closure commanded with the key waits for the tick with its second (R172). -/
theorem bilCtlWrite_waits (hg : guarded s = false) (hr : flag F.BIL_STATUS_RESTORING s = false) :
    bilCtlWrite w s = { s with bil := { s.bil with closeReq := some (rtc s) } } := by
  rw [bilCtlWrite, if_neg (by simp [hclose, hkey]), if_neg (by simp [hg, hr]), updBil]

/-- In guarded start and during the restore it is refused (R172). -/
theorem bilCtlWrite_refused (hbar : guarded s = true ∨ flag F.BIL_STATUS_RESTORING s = true) :
    bilCtlWrite w s = raise F.BIL_CAUSE_CLOSE_REFUSED s := by
  rw [bilCtlWrite, if_neg (by simp [hclose, hkey]), if_pos (by simpa using hbar)]

end

/-- An adjustment of a number that is not 0 waits for the tick (R179). -/
theorem adjWrite_waits (src osrc : Nat) (h0 : w ≠ 0) :
    adjWrite w src osrc s = { s with bil := { s.bil with adj := some (signed 32 w.toNat, src, osrc) } } := by
  rw [adjWrite, if_neg h0, updBil]

end

/-- Settles O32: RTC_SECOND by what runs in it, TICK_CATCH_UP by its last tick, the requests by what their writes keep or refuse. E2's part
of a second leaves the record where E1 has brought it, so that E2 need not be quarantined. -/
theorem secondsAndBilling : Obligations.SecondsAndBilling := by
  unfold Obligations.SecondsAndBilling
  refine ⟨fun s hs hr hl => ?_, fun s hs hm hf hd hz => ?_, fun s hs hm hf hc hr hd h1 h5 _ hadj hmissed hz => ?_,
    fun s n _ h1 hf hn hle => ?_, fun s m w hw hclose hkey hg hrest => ?_, fun s m w hs hw hclose hkey hbar => ?_,
    fun s m w src osrc hw h0 => ?_⟩
  · refine ⟨_, exec_rtcSecond_idle hr hl, rtc_countSecond hs.1, ?_⟩
    exact (touches_countSecond hs.1).onlyFlds (countSecond_eq s) rfl
  · obtain ⟨-, hsup, -, hbil, hdue⟩ := countedSecond_keeps s
    have hrtc := rtc_countedSecond hs.1
    obtain ⟨hregs, hen, hsup'⟩ := missTick_keeps (countedSecond s)
    refine ⟨_, exec_rtcSecond_loading hs.1 hf hd hz hm, ?_, ?_, ?_, ?_⟩
    · rw [get_eq, hregs]
      exact hrtc
    · rw [missTick_bil, hbil, hrtc, rtc]
    · rw [hen, hdue]
    · rw [hsup', hsup, hm, if_neg (by decide)]
  · obtain ⟨-, -, -, hbil, -⟩ := countedSecond_keeps s
    refine ⟨_, exec_rtcSecond_running hs.1 hf hd hz hm hc hr h1 h5, ?_⟩
    rw [← hbil] at hadj hmissed
    have hcore : (coreOneTick (countedSecond s)).bil.billedTo.1 = (rtc s + 1) % 2 ^ 32 :=
      (coreOneTick_rtc hadj hmissed).trans (rtc_countedSecond hs.1)
    dsimp only
    split
    · exact (congrArg Prod.fst (coreTwoTick_billedTo _)).trans hcore
    · exact hcore
  · have hend := tickCatchUp_billedTo hn hle
    exact ⟨_, exec_tickCatchUp h1 hf, congrArg Prod.fst hend, congrArg Prod.snd hend⟩
  · exact (cmdWrite_of_writable _ hw).trans (congrArg _ (bilCtlWrite_waits hclose hkey hg hrest))
  · refine ⟨_, (cmdWrite_of_writable _ hw).trans (congrArg _ (bilCtlWrite_refused hclose hkey hbar)), ?_⟩
    exact ⟨raised_raise hs.1 rfl rfl (by decide) (by decide) rfl, ((Chain.start hs.1).raise (by simp) (by simp) rfl).only⟩
  · exact (cmdWrite_of_writable _ hw).trans (congrArg _ (adjWrite_waits src osrc h0))

end Sys2Proof.Machine
end

section
/-! SUPPORT. The operations that the relay commands of chapter 08 share (O34, O35): the credit record and the account as it is shown, a
sounding that a relay abandons, the main's state, and what each of them leaves as it is. -/
namespace Sys2Proof.Machine

/-! Parts that an operation leaves -/

@[simp] theorem rly_ite (c : Prop) [Decidable c] (s t : State) : (if c then s else t).rly = if c then s.rly else t.rly := apply_ite _ _ _ _
@[simp] theorem pay_ite (c : Prop) [Decidable c] (s t : State) : (if c then s else t).pay = if c then s.pay else t.pay := apply_ite _ _ _ _

@[simp] theorem dirty_rly (b : Nat) (s : State) : (dirty b s).rly = s.rly := by simp [dirty]
@[simp] theorem dirty_pay (b : Nat) (s : State) : (dirty b s).pay = s.pay := by simp [dirty]
@[simp] theorem writeCredit_rly (k : Nat) (s : State) : (writeCredit k s).rly = s.rly := by simp [writeCredit]
@[simp] theorem writeCredit_pay (k : Nat) (s : State) : (writeCredit k s).pay = s.pay := by simp [writeCredit]
@[simp] theorem showCredit_rly (s : State) : (showCredit s).rly = s.rly := rfl
@[simp] theorem showCredit_pay (s : State) : (showCredit s).pay = s.pay := rfl
@[simp] theorem abortSounding_rly (code : Nat) (s : State) : (abortSounding code s).rly = s.rly := by
  simp [abortSounding, lmdState, soundingRepeat]
@[simp] theorem abortSounding_pay (code : Nat) (s : State) : (abortSounding code s).pay = s.pay := by
  simp [abortSounding, lmdState, soundingRepeat]
@[simp] theorem setMainState_rly (v : Nat) (s : State) : (setMainState v s).rly = s.rly := by simp [setMainState]
@[simp] theorem setMainState_pay (v : Nat) (s : State) : (setMainState v s).pay = s.pay := by simp [setMainState]

/-- The state without the registers, the relays, the account and the Cistern. -/
def beyondRly (s : State) : State := { s with regs := [], rly := {}, pay := {}, cis := {} }

/-- A state that agrees beyond them. -/
theorem eq_of_beyondRly {s t : State} (h : beyondRly t = beyondRly s) :
    t = { s with regs := t.regs, rly := t.rly, pay := t.pay, cis := t.cis } :=
  congrArg (fun u : State => { u with regs := t.regs, rly := t.rly, pay := t.pay, cis := t.cis }) h

@[simp] theorem beyondRly_put (f : Fld) (v : Nat) (s : State) : beyondRly (put f v s) = beyondRly s := rfl
@[simp] theorem beyondRly_raise (f : Fld) (s : State) : beyondRly (raise f s) = beyondRly s := by rw [raise_eq]; rfl
@[simp] theorem beyondRly_updRly (f : RlySt → RlySt) (s : State) : beyondRly (updRly f s) = beyondRly s := rfl
@[simp] theorem beyondRly_updCredit (f : CreditRec → CreditRec) (s : State) : beyondRly (updCredit f s) = beyondRly s := rfl
@[simp] theorem beyondRly_writeCredit (k : Nat) (s : State) : beyondRly (writeCredit k s) = beyondRly s := by
  rw [writeCredit, dirty_eq]
  rfl
@[simp] theorem beyondRly_showCredit (s : State) : beyondRly (showCredit s) = beyondRly s := rfl
@[simp] theorem beyondRly_setMainState (v : Nat) (s : State) : beyondRly (setMainState v s) = beyondRly s := by
  unfold setMainState
  split <;> simp

/-! Registers that an operation touches -/

/-- What the account shows in its registers (R204), in the order in which they are set. -/
def accountShown (s : State) : List (Fld × Nat) :=
  [(F.PAY_MONTH_WH, satNat (2 ^ 32 - 1) (s.pay.cur.month / 1000)), (F.PAY_CREDIT_LO_CREDIT, wrapTo 64 s.pay.cur.credit % 2 ^ 32),
    (F.PAY_STATUS_QUEUE, s.pay.queue.length), (F.PAY_MPL_LIMIT, s.pay.cur.mpl), (F.RLY_OPS_OPS, s.pay.cur.ops),
    (F.PAY_STATUS_NO_PREPAY, b2n s.ld.tables.prepay.isNone), (F.PAY_STATUS_EC_ACTIVE, b2n s.pay.ec)]

/-- The registers in which the account is shown. -/
def accountFlds : List Fld :=
  [F.PAY_MONTH_WH, F.PAY_CREDIT_LO_CREDIT, F.PAY_STATUS_QUEUE, F.PAY_MPL_LIMIT, F.RLY_OPS_OPS, F.PAY_STATUS_NO_PREPAY,
    F.PAY_STATUS_EC_ACTIVE]

theorem accountShown_fst (s : State) : (accountShown s).map (·.1) = accountFlds := rfl

theorem showCredit_eq (s : State) : showCredit s = putAll (accountShown s) s := rfl

/-- The registers in which a sounding is abandoned (R319). -/
def soundingFlds : List Fld :=
  [F.LMD_SND_STATUS_ABORT, F.LMD_SND_STATUS_RESULT, F.LMD_SND_STATUS_STATE, F.LMD_STATUS_STATE, F.LMD_CAUSE_SND_ABORT, F.INT_HOST_PEND_PEND]

section
variable {L : List Fld} {r : Sparse Word} {s : State} (h : Touches L r s.regs)
include h

theorem Touches.writeCredit (k : Nat) (hL : F.CIS_STATUS_DIRTY ∈ L) : Touches L r (writeCredit k s).regs := by
  unfold Machine.writeCredit
  exact Touches.dirty h hL

theorem Touches.setMainState (v : Nat) (hL : F.CIS_STATUS_DIRTY ∈ L) (hm : F.RLY_STATUS_MAIN_STATE ∈ L) :
    Touches L r (setMainState v s).regs := by
  unfold Machine.setMainState
  split
  · exact h
  · exact (h.put hm rfl rfl).writeCredit 3 hL

theorem Touches.abortSounding (code : Nat) (hL : soundingFlds ⊆ L) : Touches L r (abortSounding code s).regs := by
  unfold Machine.abortSounding
  split
  · exact h
  · have hput : Touches L r (Machine.put F.LMD_SND_STATUS_STATE 0 (Machine.put F.LMD_SND_STATUS_RESULT 3
        (Machine.put F.LMD_SND_STATUS_ABORT code s))).regs :=
      ((h.put (hL (by decide)) rfl rfl).put (hL (by decide)) rfl rfl).put (hL (by decide)) rfl rfl
    exact Touches.raise (Touches.put (t := soundingRepeat code _) hput (hL (by decide)) rfl rfl) (hL (by decide)) (hL (by decide)) rfl rfl

theorem Touches.showCredit (hL : creditShown ⊆ L) : Touches L r (showCredit s).regs := by
  have hsub : accountFlds ⊆ creditShown := by decide
  exact h.putAll (l := accountShown s) (fun f hf => hL (hsub hf)) (by rw [accountShown_fst]; decide)

end

/-- The account shown: RLY_OPS reads the operations of the main, and only the account's registers change (R204). -/
theorem showCredit_spec {s : State} (hs : sparseWf (0 : Word) s.regs = true) :
    get F.RLY_OPS_OPS (showCredit s) = s.pay.cur.ops % 2 ^ 32 ∧ Touches creditShown s.regs (showCredit s).regs := by
  refine ⟨?_, (Touches.refl hs).showCredit (List.Subset.refl _)⟩
  exact get_putAll (l := accountShown s) hs (by rw [accountShown_fst]; decide) (F.RLY_OPS_OPS, s.pay.cur.ops) (by simp [accountShown])

end Sys2Proof.Machine
end

section
/-! SUPPORT. The relay commands of chapter 08 (O34): writes of `RLY_CTL`, the reasons that open the main, and the load-control supply that
is switched by its drive or by a pulse. -/
namespace Sys2Proof.Machine

section
variable {s : State}

/-! `RLY_CTL` -/

section
variable {w : Word}

/-- A wrong key, or two opposing bits, refuses the write whole (R204). -/
theorem rlyCtlWrite_refused (h : arg F.RLY_CTL_KEY w ≠ 0x96 ∨ (arg F.RLY_CTL_REMOTE_OPEN w = 1 ∧ arg F.RLY_CTL_REMOTE_CLOSE w = 1) ∨
    (arg F.RLY_CTL_LC_SHED w = 1 ∧ arg F.RLY_CTL_LC_RESTORE w = 1)) : rlyCtlWrite w s = raise F.RLY_CAUSE_CMD_REFUSED s := if_pos h

variable (hkey : arg F.RLY_CTL_KEY w = 0x96)
include hkey

section
variable (hshed : arg F.RLY_CTL_LC_SHED w = 0) (hrest : arg F.RLY_CTL_LC_RESTORE w = 0)
include hshed hrest

/-- REMOTE_OPEN sets the remote reason (R197). -/
theorem rlyCtlWrite_remoteOpen (hopen : arg F.RLY_CTL_REMOTE_OPEN w = 1) (hclose : arg F.RLY_CTL_REMOTE_CLOSE w = 0) :
    rlyCtlWrite w s = evalReasons (putBit F.RLY_STATUS_REASONS 3 true s) := by
  simp [rlyCtlWrite, hkey, hopen, hclose, hshed, hrest, putBit]

/-- REMOTE_CLOSE clears it (R197). -/
theorem rlyCtlWrite_remoteClose (hopen : arg F.RLY_CTL_REMOTE_OPEN w = 0) (hclose : arg F.RLY_CTL_REMOTE_CLOSE w = 1) :
    rlyCtlWrite w s = evalReasons (putBit F.RLY_STATUS_REASONS 3 false s) := by
  simp [rlyCtlWrite, hkey, hopen, hclose, hshed, hrest, putBit]

end

section
variable (hopen : arg F.RLY_CTL_REMOTE_OPEN w = 0) (hclose : arg F.RLY_CTL_REMOTE_CLOSE w = 0)
include hopen hclose

/-- LC_SHED sheds the load (R202). -/
theorem rlyCtlWrite_shed (hshed : arg F.RLY_CTL_LC_SHED w = 1) (hrest : arg F.RLY_CTL_LC_RESTORE w = 0) :
    rlyCtlWrite w s = evalReasons { s with rly := { s.rly with shed := true } } := by
  simp [rlyCtlWrite, hkey, hopen, hclose, hshed, hrest, updRly]

/-- LC_RESTORE ends the shedding (R202). -/
theorem rlyCtlWrite_restore (hshed : arg F.RLY_CTL_LC_SHED w = 0) (hrest : arg F.RLY_CTL_LC_RESTORE w = 1) :
    rlyCtlWrite w s = evalReasons { s with rly := { s.rly with shed := false } } := by
  simp [rlyCtlWrite, hkey, hopen, hclose, hshed, hrest, updRly]

end

end

/-- The remote reason put as a command says: the other reasons and everything else stay (R197). -/
theorem remoteReason_spec (hs : sparseWf (0 : Word) s.regs = true) (b : Bool) :
    fbit F.RLY_STATUS_REASONS 3 (putBit F.RLY_STATUS_REASONS 3 b s) = b ∧
      (∀ j, j < 3 → fbit F.RLY_STATUS_REASONS j (putBit F.RLY_STATUS_REASONS 3 b s) = fbit F.RLY_STATUS_REASONS j s) ∧
      OnlyFlds [F.RLY_STATUS_REASONS] s (putBit F.RLY_STATUS_REASONS 3 b s) := by
  refine ⟨?_, fun j hj => ?_, ((Chain.start hs).putBit (by simp) rfl).only⟩
  · rw [fbit_putBit 3 3 b hs rfl (by decide), if_pos rfl]
  · rw [fbit_putBit 3 j b hs rfl (show j < 4 by omega), if_neg (by omega)]

/-! The load-control supply -/

/-- What a change of the load-control supply shows (R202): its state, nothing pending, the cause. -/
def showSwitch (on : Bool) (s : State) : State :=
  raise F.RLY_CAUSE_LC_CHANGE (putAll [(F.RLY_LC_WAIT_SECONDS, 0), (F.RLY_STATUS_LC_PENDING, 0), (F.RLY_STATUS_LC_STATE, b2n on)] s)

/-- What it notes for the minimum times (R203): the tick of a change to on, the second of a change to off. -/
def noteSwitch (on : Bool) (s : State) : State :=
  if on then updRly (fun r => { r with lcOnAt := s.sup.mono, lcRand := 0 }) s else updCredit (fun c => { c with lcOffT := rtc s }) s

theorem switchLc_eq (on : Bool) (s : State) : switchLc on s =
    let t := noteSwitch on (showSwitch on s)
    writeCredit 3 (if !(flag F.RLY_LC_CFG_LC_MODE t) then updRly (fun r => { r with lcDrive := on }) t
      else startLcPulse (updRly (fun r => { r with lcPulseWant := some on }) t)) := rfl

/-- The registers in which a change of the load-control supply shows (R202). -/
def switchFlds : List Fld :=
  [F.INT_HOST_PEND_PEND, F.RLY_CAUSE_LC_CHANGE, F.RLY_LC_WAIT_SECONDS, F.RLY_STATUS_LC_PENDING, F.RLY_STATUS_LC_STATE]

/-- The registers that the load-control supply may touch: with the change a pulse that waits for the freeze or ends a sounding, and the
credit record. -/
def lcFlds : List Fld := switchFlds ++ [F.RLY_CAUSE_FREEZE_WAIT, F.CIS_STATUS_DIRTY] ++ soundingFlds

theorem soundingFlds_subset_lcFlds : soundingFlds ⊆ lcFlds := List.subset_append_right _ _

theorem noteSwitch_regs (on : Bool) (s : State) : (noteSwitch on s).regs = s.regs := by cases on <;> rfl

theorem noteSwitch_ld (on : Bool) (s : State) : (noteSwitch on s).ld = s.ld := by cases on <;> rfl

theorem beyondRly_noteSwitch (on : Bool) (s : State) : beyondRly (noteSwitch on s) = beyondRly s := by cases on <;> rfl

theorem showSwitch_eq (on : Bool) (s : State) : showSwitch on s = { s with regs := (showSwitch on s).regs } := by
  rw [showSwitch, raise_eq, putAll_eq]

theorem Touches.showSwitch {L : List Fld} {r : Sparse Word} (on : Bool) (h : Touches L r s.regs) (hL : switchFlds ⊆ L) :
    Touches L r (showSwitch on s).regs := by
  unfold Machine.showSwitch
  refine (h.putAll (fun f hf => hL ?_) (by simp only [List.map_cons, List.map_nil]; decide)).raise (hL (by decide)) (hL (by decide)) rfl rfl
  exact List.mem_cons_of_mem _ (List.mem_cons_of_mem _ hf)

/-- A change of the load-control supply shows its state, leaves nothing pending and raises its cause (R202). -/
theorem showSwitch_spec (on : Bool) (hs : sparseWf (0 : Word) s.regs = true) :
    get F.RLY_STATUS_LC_STATE (showSwitch on s) = b2n on ∧ get F.RLY_STATUS_LC_PENDING (showSwitch on s) = 0 ∧
      get F.RLY_LC_WAIT_SECONDS (showSwitch on s) = 0 ∧ Raised F.RLY_CAUSE_LC_CHANGE s (showSwitch on s) := by
  obtain ⟨hget, hraised, -⟩ := raise_putAll_spec (l := [(F.RLY_LC_WAIT_SECONDS, 0), (F.RLY_STATUS_LC_PENDING, 0),
    (F.RLY_STATUS_LC_STATE, b2n on)]) hs [F.RLY_LC_WAIT_SECONDS, F.RLY_STATUS_LC_PENDING, F.RLY_STATUS_LC_STATE]
    F.RLY_CAUSE_LC_CHANGE rfl (by decide) (by decide) (by decide) (by decide)
  refine ⟨?_, hget (F.RLY_STATUS_LC_PENDING, 0) (by simp), hget (F.RLY_LC_WAIT_SECONDS, 0) (by simp), hraised⟩
  refine (hget (F.RLY_STATUS_LC_STATE, b2n on) (by simp)).trans ?_
  cases on <;> rfl

/-- What is commanded of the main: the pulse that waits, the one due again, and how often it was repeated. -/
def RlySt.command (r : RlySt) : Option Bool × Option Bool × Nat := (r.want, r.retry, r.tries)

theorem startLcPulse_command (s : State) : (startLcPulse s).rly.command = s.rly.command := by
  unfold startLcPulse
  split
  · rfl
  · split
    · simp
    · split
      · rfl
      · simp [RlySt.command]

theorem startLcPulse_pay (s : State) : (startLcPulse s).pay = s.pay := by
  unfold startLcPulse
  split
  · rfl
  · split
    · simp
    · split
      · rfl
      · simp

theorem Touches.startLcPulse {L : List Fld} {r : Sparse Word} (h : Touches L r s.regs) (hL : lcFlds ⊆ L) :
    Touches L r (startLcPulse s).regs := by
  unfold Machine.startLcPulse
  split
  · exact h
  · split
    · exact h.raiseIf (hL (by decide)) (hL (by decide)) rfl rfl
    · split
      · exact h
      · exact Touches.abortSounding (s := updRly _ s) h 3 fun f hf => hL (soundingFlds_subset_lcFlds hf)

/-- With no load-control pulse waiting none starts. -/
theorem startLcPulse_idle (h : s.rly.lcPulseWant = none) : startLcPulse s = s := by rw [startLcPulse, h]

/-- With no pulse of the main or the load control running or waiting, one of the load control starts (R201, R202). -/
theorem startLcPulse_starts {on : Bool} (hw : s.rly.lcPulseWant = some on) (hheld : driveHeld s = false) (hon : relaysOn s = true)
    (hp : s.rly.pulse = none) (hm : s.rly.want = none) (hl : s.rly.lcPulse = none) :
    startLcPulse s = abortSounding 3 (updRly (fun r => { r with lcPulse := some on, lcPulseWant := none }) s) := by
  simp [startLcPulse, hw, hheld, hon, hp, hm, hl]

theorem Touches.switchLc {L : List Fld} {r : Sparse Word} (on : Bool) (h : Touches L r s.regs) (hL : lcFlds ⊆ L) :
    Touches L r (switchLc on s).regs := by
  have hsub : switchFlds ⊆ L := fun f hf => hL (List.mem_append_left _ (List.mem_append_left _ hf))
  have hnote : Touches L r (noteSwitch on (Machine.showSwitch on s)).regs := by
    rw [noteSwitch_regs]
    exact h.showSwitch on hsub
  rw [switchLc_eq]
  refine Touches.writeCredit ?_ 3 (hL (by decide))
  split
  · exact hnote
  · exact Touches.startLcPulse (s := updRly _ _) hnote hL

theorem switchLc_command (on : Bool) (s : State) : (switchLc on s).rly.command = s.rly.command := by
  have hnote : (noteSwitch on (showSwitch on s)).rly.command = s.rly.command := by
    rw [showSwitch_eq]
    cases on <;> rfl
  rw [switchLc_eq, writeCredit_rly]
  split
  · exact hnote
  · rw [startLcPulse_command]
    exact hnote

/-- The minimum off time counts from a change to off (R203). -/
theorem lcOffT_switchLc_off (hs : sparseWf (0 : Word) s.regs = true) : (switchLc false s).pay.cur.lcOffT = rtc s := by
  have hrtc : rtc (showSwitch false s) = rtc s :=
    ((Touches.refl hs).showSwitch false (List.Subset.refl _)).get (by decide)
  rw [switchLc_eq, writeCredit_pay]
  split
  · exact hrtc
  · rw [startLcPulse_pay]
    exact hrtc

/-! The main commanded open -/

theorem dropLc_command (s : State) : (dropLc s).rly.command = s.rly.command := by
  unfold dropLc
  extract_lets t
  split
  · exact switchLc_command false t
  · rfl

theorem Touches.dropLc {L : List Fld} {r : Sparse Word} (h : Touches L r s.regs) (hL : lcFlds ⊆ L) : Touches L r (dropLc s).regs := by
  unfold Machine.dropLc
  extract_lets t
  have ht : Touches L r t.regs := h
  split
  · exact ht.switchLc false hL
  · exact ht

/-- The load goes off with the main: its minimum off time counts from now (R203). -/
theorem lcOffT_dropLc (hs : sparseWf (0 : Word) s.regs = true) : (dropLc s).pay.cur.lcOffT = rtc s := by
  unfold dropLc
  extract_lets t
  have ht : sparseWf (0 : Word) t.regs = true := hs
  split
  · exact lcOffT_switchLc_off ht
  · rfl

/-- The main's fields in `RLY_STATUS` as it is commanded (R197, R198): moving, and not armed. -/
def mainCommanded (openIt : Bool) : List (Fld × Nat) :=
  [(F.RLY_STATUS_MAIN_CMD, b2n openIt), (F.RLY_STATUS_MAIN_STATE, 3), (F.RLY_STATUS_ARMED, 0)]

/-- The main commanded open, and a pulse that waits for it. -/
def openCommanded (s : State) : State :=
  updRly (fun r => { r with want := some true, retry := none, verify := none, tries := 0 }) (putAll (mainCommanded true) s)

theorem commandMain_open (s : State) : commandMain true s =
    raiseIf (freezing (dropLc (openCommanded s))) F.RLY_CAUSE_FREEZE_WAIT (writeCredit 3 (dropLc (openCommanded s))) := rfl

/-- Commanding the main open shows it as moving, has a pulse wait and counts the minimum off time from now (R197, R198, R203). -/
theorem commandMain_open_spec (hs : sparseWf (0 : Word) s.regs = true) :
    get F.RLY_STATUS_MAIN_CMD (commandMain true s) = 1 ∧ get F.RLY_STATUS_MAIN_STATE (commandMain true s) = 3 ∧
      (commandMain true s).rly.command = (some true, none, 0) ∧ (commandMain true s).pay.cur.lcOffT = rtc s := by
  obtain ⟨hget, hput⟩ := putAll_spec (l := mainCommanded true) hs
    [F.RLY_STATUS_MAIN_CMD, F.RLY_STATUS_MAIN_STATE, F.RLY_STATUS_ARMED] rfl (by decide)
  have hwf : sparseWf (0 : Word) (openCommanded s).regs = true := hput.wf
  have hdrop : Touches lcFlds (openCommanded s).regs (dropLc (openCommanded s)).regs :=
    (Touches.refl hwf).dropLc (List.Subset.refl lcFlds)
  have hrest : Touches lcFlds (openCommanded s).regs (commandMain true s).regs :=
    (hdrop.writeCredit 3 (by decide)).raiseIf (by decide) (by decide) rfl rfl
  refine ⟨?_, ?_, ?_, ?_⟩
  · exact (hrest.get (by decide)).trans (hget (F.RLY_STATUS_MAIN_CMD, 1) (by decide))
  · exact (hrest.get (by decide)).trans (hget (F.RLY_STATUS_MAIN_STATE, 3) (by decide))
  · rw [commandMain_open, raiseIf_rly, writeCredit_rly, dropLc_command]
    rfl
  · rw [commandMain_open, raiseIf_pay, writeCredit_pay, lcOffT_dropLc hwf]
    exact hput.get (g := F.SUP_RTC_SEC_SEC) (by decide)

/-- A reason commands the main open (R197). -/
theorem driveMain_opens (hon : relaysOn s = true) (hg : guarded s = false) (hf : flag F.NRG_STATUS_FROZEN s = false)
    (hr : get F.RLY_STATUS_REASONS s ≠ 0) (hcmd : flag F.RLY_STATUS_MAIN_CMD s = false) : driveMain s = commandMain true s := by
  simp [driveMain, hon, hg, hf, hr, hcmd]

/-! LC_SWITCH -/

/-- The relays are driven as before while the loader's part of the state stays. -/
theorem relaysOn_eq {t : State} (hld : t.ld = s.ld) : relaysOn t = relaysOn s := by
  rw [relaysOn, relaysOn, inFallback, inFallback, hld]

/-- A freeze of the relay drive is read as before while no register of the event lines changes. -/
theorem freezing_eq {L : List Fld} {t : State} (h : Touches L s.regs t.regs) (hL : ∀ f ∈ L, blockOf f.addr ≠ 4) :
    freezing t = freezing s := by
  have hrd : ∀ a, blockOf a = 4 → rd t a = rd s a := fun a ha => h.rd fun f hf he => hL f hf (he ▸ ha)
  simp only [freezing, maskActive, hrd (R.EVF_FREEZE 0) (by decide), hrd (R.EVF_FREEZE 0 + 4) (by decide),
    hrd (R.EVF_STATUS 0) (by decide), hrd (R.EVF_STATUS 1) (by decide)]

/-- Whether the drive is held is read as before while no register of the event lines or of the freeze changes. -/
theorem driveHeld_eq {L : List Fld} {t : State} (h : Touches L s.regs t.regs) (hld : t.ld = s.ld)
    (hL : ∀ f ∈ L, blockOf f.addr ≠ 4) (hF : ∀ f ∈ L, f.apart F.NRG_STATUS_FROZEN = true) : driveHeld t = driveHeld s := by
  rw [driveHeld, driveHeld, freezing_eq h hL, h.flag hF, guarded, guarded, hld]

section
variable {on : Bool} (hs : sparseWf (0 : Word) s.regs = true)
include hs

theorem touches_noteSwitch (on : Bool) : Touches switchFlds s.regs (noteSwitch on (showSwitch on s)).regs := by
  rw [noteSwitch_regs]
  exact (Touches.refl hs).showSwitch on (List.Subset.refl _)

/-- With LC_MODE 0 the supply is changed by its drive (R202). -/
theorem switchLc_drive (hmode : flag F.RLY_LC_CFG_LC_MODE s = false) :
    switchLc on s = writeCredit 3 (updRly (fun r => { r with lcDrive := on }) (noteSwitch on (showSwitch on s))) := by
  have hflag := (touches_noteSwitch hs on).flag (g := F.RLY_LC_CFG_LC_MODE) (by decide)
  simp only [switchLc_eq, hflag, hmode, Bool.not_false, if_true]

/-- With LC_MODE 1 it is changed by a pulse, which starts where nothing is in its way (R201, R202). -/
theorem switchLc_pulse (hmode : flag F.RLY_LC_CFG_LC_MODE s = true) (hheld : driveHeld s = false) (hon : relaysOn s = true)
    (hp : s.rly.pulse = none) (hm : s.rly.want = none) (hl : s.rly.lcPulse = none) :
    switchLc on s = writeCredit 3 (abortSounding 3
      (updRly (fun r => { r with lcPulse := some on, lcPulseWant := none }) (noteSwitch on (showSwitch on s)))) := by
  have htouch := touches_noteSwitch hs on
  have hflag := htouch.flag (g := F.RLY_LC_CFG_LC_MODE) (by decide)
  have hld : (noteSwitch on (showSwitch on s)).ld = s.ld := by rw [noteSwitch_ld, showSwitch_eq]
  have hrly : ∀ α (g : RlySt → α), (∀ r a b, g { r with lcOnAt := a, lcRand := b } = g r) →
      g (noteSwitch on (showSwitch on s)).rly = g s.rly := fun α g hg => by
    rw [showSwitch_eq]
    cases on
    · rfl
    · exact hg s.rly _ _
  simp only [switchLc_eq, hflag, hmode, Bool.not_true, Bool.false_eq_true, if_false]
  rw [startLcPulse_starts (on := on) rfl]
  · rfl
  · exact (driveHeld_eq (t := updRly _ _) htouch hld (by decide) (by decide)).trans hheld
  · exact (relaysOn_eq (t := updRly _ _) hld).trans hon
  · exact (hrly _ RlySt.pulse fun _ _ _ => rfl).trans hp
  · exact (hrly _ RlySt.want fun _ _ _ => rfl).trans hm
  · exact (hrly _ RlySt.lcPulse fun _ _ _ => rfl).trans hl

end

/-- LC_SWITCH makes a change that is due (R203). -/
theorem exec_lcSwitch_due (h2 : e2Up s = true) (hpend : flag F.RLY_STATUS_LC_PENDING s = true) (hon : relaysOn s = true)
    (hheld : driveHeld s = false) (hwant : lcWanted s ≠ flag F.RLY_STATUS_LC_STATE s) (hwait : lcWait (lcWanted s) s = 0) :
    exec .lcSwitch s = .next (switchLc (lcWanted s) s) := by
  show execLcSwitch s = _
  exact onlyIf_of_true (by simp [h2, hpend, hon, hheld, hwant, hwait]) _ s

/-- Where none is due it does nothing. -/
theorem exec_lcSwitch_idle (h : e2Up s = false ∨ flag F.RLY_STATUS_LC_PENDING s = false ∨ relaysOn s = false ∨ driveHeld s = true ∨
    lcWanted s = flag F.RLY_STATUS_LC_STATE s ∨ lcWait (lcWanted s) s ≠ 0) : exec .lcSwitch s = .next s := by
  show execLcSwitch s = _
  refine onlyIf_of_false ?_ _ s
  obtain h | h | h | h | h | h := h <;> simp [h]

/-- What a change shows still stands while registers of other blocks change. -/
theorem showSwitch_then {L : List Fld} {on : Bool} {t : State} (hs : sparseWf (0 : Word) s.regs = true)
    (h : Touches L (showSwitch on s).regs t.regs) (hL : ∀ f ∈ L, blockOf f.addr ≠ 16) :
    get F.RLY_STATUS_LC_STATE t = b2n on ∧ get F.RLY_STATUS_LC_PENDING t = 0 ∧ get F.RLY_LC_WAIT_SECONDS t = 0 ∧
      Raised F.RLY_CAUSE_LC_CHANGE s t := by
  obtain ⟨hstate, hpend, hwait, hraised⟩ := showSwitch_spec on hs
  have hapart : ∀ g : Fld, blockOf g.addr = 16 → ∀ f ∈ L, f.apart g = true :=
    fun g hg f hf => Fld.apart_of_addr fun he => hL f hf (he ▸ hg)
  exact ⟨(h.get (hapart _ (by decide))).trans hstate, (h.get (hapart _ (by decide))).trans hpend,
    (h.get (hapart _ (by decide))).trans hwait, hraised.touches h (hapart _ (by decide))⟩

/-- The credit record written: bank 0 reads dirty, unless it is being copied (R207, R209). -/
theorem dirty_writeCredit {k : Nat} (hs : sparseWf (0 : Word) s.regs = true) (hc : fbit F.CIS_STATUS_COPYING 0 s = false) :
    fbit F.CIS_STATUS_DIRTY 0 (writeCredit k s) = true := by
  rw [writeCredit, dirty, if_neg (by rw [Bool.not_eq_true]; exact hc)]
  exact (fbit_putBit 0 0 true hs rfl (by decide)).trans (if_pos rfl)

/-- A change by the drive: what it shows, notes and records (R202, R203). -/
theorem switchLc_drive_spec (hs : sparseWf (0 : Word) s.regs = true) (on : Bool) (hmode : flag F.RLY_LC_CFG_LC_MODE s = false) :
    get F.RLY_STATUS_LC_STATE (switchLc on s) = b2n on ∧ get F.RLY_STATUS_LC_PENDING (switchLc on s) = 0 ∧
      get F.RLY_LC_WAIT_SECONDS (switchLc on s) = 0 ∧ Raised F.RLY_CAUSE_LC_CHANGE s (switchLc on s) ∧
      (switchLc on s).rly =
        (if on then { s.rly with lcOnAt := s.sup.mono, lcRand := 0, lcDrive := true } else { s.rly with lcDrive := false }) ∧
      (switchLc on s).pay = (if on then s.pay else { s.pay with cur := { s.pay.cur with lcOffT := rtc s } }) ∧
      (fbit F.CIS_STATUS_COPYING 0 s = false → fbit F.CIS_STATUS_DIRTY 0 (switchLc on s) = true) ∧
      OnlyFlds [F.RLY_STATUS_LC_STATE, F.RLY_STATUS_LC_PENDING, F.RLY_LC_WAIT_SECONDS, F.RLY_CAUSE_LC_CHANGE,
          F.INT_HOST_PEND_PEND, F.CIS_STATUS_DIRTY]
        { s with rly := (switchLc on s).rly, pay := (switchLc on s).pay, cis := (switchLc on s).cis } (switchLc on s) := by
  have hnote := touches_noteSwitch hs on
  have hshow := (Touches.refl hs).showSwitch on (List.Subset.refl _)
  have hrec : Touches [F.CIS_STATUS_DIRTY] (showSwitch on s).regs (switchLc on s).regs := by
    rw [switchLc_drive hs hmode]
    refine Touches.writeCredit ?_ 3 (by decide)
    exact noteSwitch_regs on _ ▸ Touches.refl hnote.wf
  obtain ⟨hstate, hpend, hwait, hraised⟩ := showSwitch_then hs hrec (by decide)
  have honly : Touches [F.RLY_STATUS_LC_STATE, F.RLY_STATUS_LC_PENDING, F.RLY_LC_WAIT_SECONDS, F.RLY_CAUSE_LC_CHANGE,
      F.INT_HOST_PEND_PEND, F.CIS_STATUS_DIRTY] s.regs (switchLc on s).regs :=
    (hshow.mono (by decide)).trans (hrec.mono (by decide))
  refine ⟨hstate, hpend, hwait, hraised, ?_, ?_, fun hc => ?_, honly.onlyFlds ?_ rfl⟩
  · rw [switchLc_drive hs hmode, writeCredit_rly, showSwitch_eq]
    cases on <;> rfl
  · rw [switchLc_drive hs hmode, writeCredit_pay]
    have hrtc : rtc (showSwitch on s) = rtc s := hshow.get (by decide)
    cases on
    · show { (showSwitch false s).pay with cur := { (showSwitch false s).pay.cur with lcOffT := rtc (showSwitch false s) } } = _
      rw [hrtc, showSwitch_eq]
      rfl
    · rw [showSwitch_eq]
      rfl
  · rw [switchLc_drive hs hmode]
    exact dirty_writeCredit (s := updRly _ _) hnote.wf ((hnote.fbit (by decide)).trans hc)
  · refine eq_of_beyondRly ?_
    rw [switchLc_drive hs hmode, beyondRly_writeCredit, beyondRly_updRly, beyondRly_noteSwitch, showSwitch_eq]
    rfl

/-- A change by a pulse that starts at once: what it shows, and what of the relays it changes (R202). -/
theorem switchLc_pulse_spec (hs : sparseWf (0 : Word) s.regs = true) (on : Bool) (hmode : flag F.RLY_LC_CFG_LC_MODE s = true)
    (hheld : driveHeld s = false) (hon : relaysOn s = true) (hp : s.rly.pulse = none) (hm : s.rly.want = none) (hl : s.rly.lcPulse = none) :
    get F.RLY_STATUS_LC_STATE (switchLc on s) = b2n on ∧ get F.RLY_STATUS_LC_PENDING (switchLc on s) = 0 ∧
      fbit F.RLY_CAUSE_LC_CHANGE 0 (switchLc on s) = true ∧ (switchLc on s).rly =
        if on then { s.rly with lcOnAt := s.sup.mono, lcRand := 0, lcPulse := some true, lcPulseWant := none }
        else { s.rly with lcPulse := some false, lcPulseWant := none } := by
  have hnote := touches_noteSwitch hs on
  have hrec : Touches (F.CIS_STATUS_DIRTY :: soundingFlds) (showSwitch on s).regs (switchLc on s).regs := by
    rw [switchLc_pulse hs hmode hheld hon hp hm hl]
    refine Touches.writeCredit (Touches.abortSounding ?_ 3 (List.subset_cons_self _ _)) 3 (by decide)
    exact noteSwitch_regs on _ ▸ Touches.refl hnote.wf
  obtain ⟨hstate, hpend, -, hraised⟩ := showSwitch_then hs hrec (by decide)
  refine ⟨hstate, hpend, hraised.1, ?_⟩
  rw [switchLc_pulse hs hmode hheld hon hp hm hl, writeCredit_rly, abortSounding_rly, showSwitch_eq]
  cases on <;> rfl

/-! LC_PULSE_END -/

/-- LC_PULSE_END with no further pulse waiting: the relay stands as the pulse said, and a sounding that it abandoned is due (R202, R319). -/
theorem exec_lcPulseEnd {on : Bool} (hl : s.rly.lcPulse = some on) (hw : s.rly.lcPulseWant = none) :
    exec .lcPulseEnd s = .next { s with
        rly := { s.rly with lcPulse := none, lcLatch := on }
        lmd := { s.lmd with verifAt := if s.lmd.repeatRly then some s.sup.mono else s.lmd.verifAt } } := by
  show execLcPulseEnd s = _
  rw [execLcPulseEnd, hl]
  dsimp only
  split
  next h =>
    have hrep : s.lmd.repeatRly = true := h
    refine (congrArg Host.Outcome.next (startLcPulse_idle ?_)).trans ?_
    · exact hw
    · rw [if_pos hrep]
      rfl
  next h =>
    have hrep : ¬ s.lmd.repeatRly = true := h
    refine (congrArg Host.Outcome.next (startLcPulse_idle ?_)).trans ?_
    · exact hw
    · rw [if_neg hrep]
      rfl

theorem exec_lcPulseEnd_idle (hl : s.rly.lcPulse = none) : exec .lcPulseEnd s = .next s := by
  show execLcPulseEnd s = _
  rw [execLcPulseEnd, hl]

end

/-- Settles O34: `RLY_CTL` by what its word asks, a reason by what commanding the main open leaves, LC_SWITCH by its drive or its pulse. -/
theorem relayCommands : Obligations.RelayCommands := by
  unfold Obligations.RelayCommands
  refine ⟨fun s m w hs hw hkey ho hc hsh hre => ?_, fun s m w hs hw hkey ho hc hsh hre => ?_, fun s m w hw hkey ho hc hsh hre => ?_,
    fun s m w hw hkey ho hc hsh hre => ?_, fun s m w i hs hw hi href => ?_, fun s hs hon hg hf hr hcmd => ?_,
    fun s hs h2 hpend hon hheld hwant hwait hmode => ?_, fun s hs h2 hpend hon hheld hwant hwait hmode hp hm hl => ?_,
    fun s => exec_lcSwitch_idle, fun s on => exec_lcPulseEnd, fun s => exec_lcPulseEnd_idle⟩
  · exact ⟨_, (cmdWrite_of_writable _ hw).trans (congrArg _ (rlyCtlWrite_remoteOpen hkey hsh hre ho hc)), remoteReason_spec hs.1 true⟩
  · exact ⟨_, (cmdWrite_of_writable _ hw).trans (congrArg _ (rlyCtlWrite_remoteClose hkey hsh hre ho hc)), remoteReason_spec hs.1 false⟩
  · exact (cmdWrite_of_writable _ hw).trans (congrArg _ (rlyCtlWrite_shed hkey ho hc hsh hre))
  · exact (cmdWrite_of_writable _ hw).trans (congrArg _ (rlyCtlWrite_restore hkey ho hc hsh hre))
  · have hexec : exec i s = cmdWrite m R.RLY_CTL (rlyCtlWrite w) s := by
      obtain rfl | rfl | rfl | rfl := hi <;> rfl
    refine ⟨_, hexec.trans ((cmdWrite_of_writable _ hw).trans (congrArg _ (rlyCtlWrite_refused href))), ?_⟩
    exact ⟨raised_raise hs.1 rfl rfl (by decide) (by decide) rfl, ((Chain.start hs.1).raise (by simp) (by simp) rfl).only⟩
  · obtain ⟨hcmd', hstate, hrly, hoff⟩ := commandMain_open_spec hs.1
    obtain ⟨hwant, hrest⟩ := Prod.mk.inj hrly
    obtain ⟨hretry, htries⟩ := Prod.mk.inj hrest
    rw [driveMain_opens hon hg hf hr hcmd]
    exact ⟨hcmd', hstate, hwant, hretry, htries, hoff⟩
  · exact ⟨_, exec_lcSwitch_due h2 hpend hon hheld hwant hwait, switchLc_drive_spec hs.1 _ hmode⟩
  · obtain ⟨hstate, hpend', hcause, hrly⟩ := switchLc_pulse_spec hs.1 (lcWanted s) hmode hheld hon hp hm hl
    refine ⟨_, exec_lcSwitch_due h2 hpend hon hheld hwant hwait, hstate, hpend', hcause, ?_⟩
    rw [hrly]
    cases lcWanted s
    · exact ⟨rfl, rfl, rfl, rfl, hm, hp⟩
    · exact ⟨rfl, rfl, rfl, rfl, hm, hp⟩

end Sys2Proof.Machine
end

section
/-! SUPPORT. The main contactor of chapter 08 (O35): its pulses, their verification and repetition, the load sensed behind a main that is
verified open, and the end of a freeze of the relay drive. -/
namespace Sys2Proof.Machine

section
variable {s : State}

/-! Pulses -/

/-- With no sounding on the line there is none to abandon. -/
theorem abortSounding_idle {code : Nat} (h : soundingRuns s = false) : abortSounding code s = s := by simp [abortSounding, h]

theorem exec_mainPulseStart_starts {o : Bool} (hw : s.rly.want = some o) (hm : mainMayPulse s = true) :
    exec .mainPulseStart s = .next (startPulse o s) := by
  show execMainPulseStart s = _
  simp [execMainPulseStart, hw, hm]

theorem exec_mainPulseStart_waits {o : Bool} (hw : s.rly.want = some o) (hm : mainMayPulse s = false) :
    exec .mainPulseStart s = .next (pulseWaits s) := by
  show execMainPulseStart s = _
  simp [execMainPulseStart, hw, hm]

theorem exec_mainPulseStart_idle (hw : s.rly.want = none) : exec .mainPulseStart s = .next s := by
  show execMainPulseStart s = _
  rw [execMainPulseStart, hw]

theorem exec_mainRetry_starts {o : Bool} (hr : s.rly.retry = some o) (hm : mainMayPulse s = true)
    (hlate : s.rly.retryFrom + 1024 ≤ s.sup.mono) : exec .mainRetry s = .next (startPulse o s) := by
  show execMainRetry s = _
  simp [execMainRetry, hr, hm, hlate]

theorem exec_mainRetry_waits {o : Bool} (hr : s.rly.retry = some o)
    (hm : mainMayPulse s = false ∨ s.sup.mono < s.rly.retryFrom + 1024) : exec .mainRetry s = .next (pulseWaits s) := by
  show execMainRetry s = _
  obtain hm | hm := hm
  · simp [execMainRetry, hr, hm]
  · simp [execMainRetry, hr, Nat.not_le.mpr hm]

theorem exec_mainRetry_idle (hr : s.rly.retry = none) : exec .mainRetry s = .next s := by
  show execMainRetry s = _
  rw [execMainRetry, hr]

/-- A pulse that may not start says so only while a relay-drive freeze line is active (R201). -/
theorem pulseWaits_spec (hs : sparseWf (0 : Word) s.regs = true) :
    OnlyFlds [F.RLY_CAUSE_FREEZE_WAIT, F.INT_HOST_PEND_PEND] s (pulseWaits s) ∧
      (freezing s = true → domOn 5 s = true → Raised F.RLY_CAUSE_FREEZE_WAIT s (pulseWaits s)) := by
  refine ⟨((Chain.start hs).raiseIf (by simp) (by simp) rfl).only, fun hf hd => ?_⟩
  rw [pulseWaits, raiseIf, hf, hd, Bool.and_self, if_pos rfl]
  exact raised_raise hs rfl rfl (by decide) (by decide) rfl

/-- The end of the main's pulse hands it to verification, unless a later command waits (R198). -/
theorem exec_mainPulseEnd {o : Bool} (hp : s.rly.pulse = some o) : exec .mainPulseEnd s = .next (startLcPulse { s with
    rly := { s.rly with pulse := none, verify := if s.rly.want.isNone then some o else none } }) := by
  show execMainPulseEnd s = _
  rw [execMainPulseEnd, hp]
  rfl

theorem exec_mainPulseEnd_idle (hp : s.rly.pulse = none) : exec .mainPulseEnd s = .next s := by
  show execMainPulseEnd s = _
  rw [execMainPulseEnd, hp]

/-! The main's state -/

/-- In the canonical form `MAIN_STATE` reads what it was set to. -/
theorem get_setMainState {v : Nat} (hs : sparseWf (0 : Word) s.regs = true) (hv : v < 4) :
    get F.RLY_STATUS_MAIN_STATE (setMainState v s) = v := by
  unfold setMainState
  split
  next h => exact h
  next =>
    have hput : sparseWf (0 : Word) (put F.RLY_STATUS_MAIN_STATE v s).regs = true := rput_wf _ _ _ hs
    calc get F.RLY_STATUS_MAIN_STATE (writeCredit 3 (put F.RLY_STATUS_MAIN_STATE v s))
      _ = get F.RLY_STATUS_MAIN_STATE (put F.RLY_STATUS_MAIN_STATE v s) :=
        Touches.get ((Touches.refl hput).writeCredit 3 (List.mem_singleton_self _)) (by decide)
      _ = v := (get_put_same v hs rfl).trans (Nat.mod_eq_of_lt hv)

/-- `MAIN_STATE` changes itself alone, with the credit record's bank (R196). -/
theorem touches_setMainState (v : Nat) (hs : sparseWf (0 : Word) s.regs = true) :
    Touches [F.RLY_STATUS_MAIN_STATE, F.CIS_STATUS_DIRTY] s.regs (setMainState v s).regs :=
  (Touches.refl hs).setMainState v (by decide) (by decide)

/-! MAIN_VERIFY -/

/-- A verdict counts an operation of the main and ends what was to be verified (R198, R199). -/
def countVerdict (s : State) : State :=
  { s with
    rly := { s.rly with verify := none }
    pay := { s.pay with cur := { s.pay.cur with ops := (s.pay.cur.ops + 1) % 2 ^ 32 } } }

/-- A verdict recorded: the credit record is written and the account shown (R196). -/
def recordVerdict (s : State) : State := showCredit (writeCredit 3 s)

theorem recordVerdict_rly (s : State) : (recordVerdict s).rly = s.rly := writeCredit_rly 3 s
theorem recordVerdict_pay (s : State) : (recordVerdict s).pay = s.pay := writeCredit_pay 3 s
theorem beyondRly_recordVerdict (s : State) : beyondRly (recordVerdict s) = beyondRly s := beyondRly_writeCredit 3 s

theorem touches_recordVerdict (hs : sparseWf (0 : Word) s.regs = true) : Touches creditShown s.regs (recordVerdict s).regs :=
  ((Touches.refl hs).writeCredit 3 (by decide)).showCredit (List.Subset.refl _)

theorem get_OPS_recordVerdict (hs : sparseWf (0 : Word) s.regs = true) :
    get F.RLY_OPS_OPS (recordVerdict s) = s.pay.cur.ops % 2 ^ 32 := by
  have hrec := (Touches.refl hs).writeCredit (L := [F.CIS_STATUS_DIRTY]) 3 (by decide)
  rw [recordVerdict, (showCredit_spec hrec.wf).1, writeCredit_pay]

section
variable {x : Bool} {cyc : List (List (Nat × Nat))} (hv : s.rly.verify = some x) (h2 : e2Up s = true)
include hv h2

/-- With no phase assessed there is no verdict (R199). -/
theorem exec_mainVerify_unassessed (hempty : verdict (flag F.RLY_STATUS_MAIN_CMD s) cyc s = []) :
    exec (.mainVerify cyc) s = .next (showCredit (setMainState 0 s)) := by
  show execMainVerify cyc s = _
  simp [execMainVerify, hv, h2, hempty]

section
variable {o : Bool} (ho : o = flag F.RLY_STATUS_MAIN_CMD s) (hsome : verdict o cyc s ≠ [])
include ho hsome

/-- The verdict by whether every assessed phase bears the commanded state out (R198, R199). -/
theorem exec_mainVerify_judged : exec (.mainVerify cyc) s = .next (recordVerdict (
    if (verdict o cyc s).all id then mainVerified o (countVerdict s) else mainFails o (countVerdict s))) := by
  subst ho
  show execMainVerify cyc s = _
  rw [execMainVerify, hv]
  simp only [h2, List.isEmpty_eq_false_iff.mpr hsome, Bool.not_true, Bool.false_eq_true, if_false]
  rfl

end

end

theorem exec_mainVerify_idle (cyc : List (List (Nat × Nat))) (h : s.rly.verify = none ∨ e2Up s = false) :
    exec (.mainVerify cyc) s = .next s := by
  show execMainVerify cyc s = _
  unfold execMainVerify
  split
  · rfl
  next hv =>
    have h2 : e2Up s = false := h.resolve_left (by simp [hv])
    simp [h2]

/-- A verdict shown: the main's state and the cause that tells it (R199). -/
def showVerdict (c : Fld) (v : Nat) (s : State) : State := raise c (setMainState v s)

@[simp] theorem showVerdict_rly (c : Fld) (v : Nat) (s : State) : (showVerdict c v s).rly = s.rly := by simp [showVerdict]
@[simp] theorem showVerdict_pay (c : Fld) (v : Nat) (s : State) : (showVerdict c v s).pay = s.pay := by simp [showVerdict]
@[simp] theorem beyondRly_showVerdict (c : Fld) (v : Nat) (s : State) : beyondRly (showVerdict c v s) = beyondRly s := by
  simp [showVerdict]
@[simp] theorem showVerdict_lmd (c : Fld) (v : Nat) (s : State) : (showVerdict c v s).lmd = s.lmd := by
  have h := congrArg State.lmd (beyondRly_showVerdict c v s)
  exact h
@[simp] theorem showVerdict_sup (c : Fld) (v : Nat) (s : State) : (showVerdict c v s).sup = s.sup := by
  have h := congrArg State.sup (beyondRly_showVerdict c v s)
  exact h

/-- The causes of a verdict. -/
def verdictCauses : List Fld := [F.RLY_CAUSE_MAIN_OPENED, F.RLY_CAUSE_MAIN_CLOSED, F.RLY_CAUSE_VERIFY_FAIL]

/-- What a verdict shows, and that nothing else changes but the record's bank (R196, R199). -/
theorem showVerdict_spec {c : Fld} {v : Nat} (hs : sparseWf (0 : Word) s.regs = true) (hc : c ∈ verdictCauses) (hv : v < 4) :
    get F.RLY_STATUS_MAIN_STATE (showVerdict c v s) = v ∧ Raised c s (showVerdict c v s) ∧
      Touches [F.RLY_STATUS_MAIN_STATE, F.CIS_STATUS_DIRTY, c, F.INT_HOST_PEND_PEND] s.regs (showVerdict c v s).regs := by
  have hcause : ∀ c ∈ verdictCauses, c.inWord = true ∧ F.INT_HOST_PEND_PEND.apart c = true ∧ c.apart F.INT_HOST_PEND_PEND = true ∧
      c.apart F.RLY_STATUS_MAIN_STATE = true ∧ 0 < c.width ∧ blockOf c.addr < 28 ∧
      ∀ f ∈ [F.RLY_STATUS_MAIN_STATE, F.CIS_STATUS_DIRTY], f.addr ≠ enableOf c.addr := by decide
  obtain ⟨hin, hpend, hpend', hstate, hwidth, hblock, hen⟩ := hcause c hc
  have hset := touches_setMainState v hs
  refine ⟨(get_raise_apart hset.wf hin hstate (by decide)).trans (get_setMainState hs hv), hset.raised hin hpend hwidth hblock hen, ?_⟩
  exact (hset.mono (by simp)).raise (by simp) (by simp) hin hpend'

/-- The cause of a main verified open or closed (R199). -/
def verifiedCause (o : Bool) : Fld := if o then F.RLY_CAUSE_MAIN_OPENED else F.RLY_CAUSE_MAIN_CLOSED

/-- What a verdict that is borne out notes of the relays (R198, R203). -/
def noteVerified (o : Bool) (s : State) : State :=
  { s with rly := { s.rly with tries := 0, lcFrom := if o then s.rly.lcFrom else rtc s } }

/-- A main verified as commanded is shown, and a sounding is due after it (R199, R319). -/
theorem mainVerified_eq (o : Bool) (s : State) : mainVerified o s =
    { showVerdict (verifiedCause o) (if o then 2 else 1) (noteVerified o s) with
      lmd := { s.lmd with verifAt := some s.sup.mono } } := by
  have hlmd := showVerdict_lmd (verifiedCause o) (if o then 2 else 1) (noteVerified o s)
  have hsup := showVerdict_sup (verifiedCause o) (if o then 2 else 1) (noteVerified o s)
  have hs : s.lmd = (noteVerified o s).lmd ∧ s.sup = (noteVerified o s).sup := ⟨rfl, rfl⟩
  rw [hs.1, hs.2, ← hlmd, ← hsup]
  cases o <;> rfl

theorem mainVerified_rly (o : Bool) (s : State) : (mainVerified o s).rly = (noteVerified o s).rly := by
  rw [mainVerified_eq]
  exact showVerdict_rly _ _ _

theorem mainVerified_pay (o : Bool) (s : State) : (mainVerified o s).pay = s.pay := by
  rw [mainVerified_eq]
  exact showVerdict_pay _ _ (noteVerified o s)

theorem beyondRly_mainVerified (o : Bool) (s : State) :
    beyondRly (mainVerified o s) = beyondRly { s with lmd := { s.lmd with verifAt := some s.sup.mono } } := by
  rw [mainVerified_eq]
  have h := beyondRly_showVerdict (verifiedCause o) (if o then 2 else 1) (noteVerified o s)
  exact congrArg (fun u : State => { u with lmd := { s.lmd with verifAt := some s.sup.mono } }) h

/-- The main verified as commanded shows its state and its cause (R199). -/
theorem mainVerified_spec (o : Bool) (hs : sparseWf (0 : Word) s.regs = true) :
    get F.RLY_STATUS_MAIN_STATE (mainVerified o s) = (if o then 2 else 1) ∧ Raised (verifiedCause o) s (mainVerified o s) ∧
      Touches [F.RLY_STATUS_MAIN_STATE, F.CIS_STATUS_DIRTY, verifiedCause o, F.INT_HOST_PEND_PEND] s.regs (mainVerified o s).regs := by
  rw [mainVerified_eq]
  exact showVerdict_spec (s := noteVerified o s) hs (by cases o <;> decide) (by cases o <;> decide)

/-- What MAIN_VERIFY leaves where every assessed phase bears the commanded state out (R199). -/
theorem mainVerify_verified_spec (hs : sparseWf (0 : Word) s.regs = true) {o : Bool} {t : State}
    (ht : t = recordVerdict (mainVerified o (countVerdict s))) :
    get F.RLY_STATUS_MAIN_STATE t = (if o then 2 else 1) ∧
      Raised (if o then F.RLY_CAUSE_MAIN_OPENED else F.RLY_CAUSE_MAIN_CLOSED) s t ∧
      t.rly = { s.rly with verify := none, tries := 0, lcFrom := if o then s.rly.lcFrom else rtc s } ∧
      t.pay = { s.pay with cur := { s.pay.cur with ops := (s.pay.cur.ops + 1) % 2 ^ 32 } } ∧
      get F.RLY_OPS_OPS t = (s.pay.cur.ops + 1) % 2 ^ 32 ∧
      OnlyFlds ([F.RLY_STATUS_MAIN_STATE, F.RLY_CAUSE_MAIN_OPENED, F.RLY_CAUSE_MAIN_CLOSED, F.INT_HOST_PEND_PEND] ++ creditShown)
        { s with rly := t.rly, pay := t.pay, cis := t.cis, lmd := { s.lmd with verifAt := some s.sup.mono } } t := by
  obtain ⟨hstate, hraised, hverdict⟩ := mainVerified_spec (s := countVerdict s) o hs
  have hrec := touches_recordVerdict hverdict.wf
  have hpay : (mainVerified o (countVerdict s)).pay = (countVerdict s).pay := mainVerified_pay o _
  have hops := get_OPS_recordVerdict hverdict.wf
  rw [hpay] at hops
  have honly : Touches ([F.RLY_STATUS_MAIN_STATE, F.RLY_CAUSE_MAIN_OPENED, F.RLY_CAUSE_MAIN_CLOSED, F.INT_HOST_PEND_PEND] ++ creditShown)
      s.regs t.regs := by
    rw [ht]
    exact (hverdict.mono (by cases o <;> decide)).trans (hrec.mono (List.subset_append_right _ _))
  have hbeyond : beyondRly t = beyondRly { s with lmd := { s.lmd with verifAt := some s.sup.mono } } := by
    rw [ht, beyondRly_recordVerdict, beyondRly_mainVerified]
    rfl
  refine ⟨?_, ?_, ?_, ?_, ?_, honly.onlyFlds (eq_of_beyondRly hbeyond) rfl⟩
  · rw [ht, hrec.get (by decide), hstate]
  · rw [ht]
    exact hraised.touches hrec (by cases o <;> decide)
  · rw [ht, recordVerdict_rly, mainVerified_rly]
    rfl
  · rw [ht, recordVerdict_pay, hpay]
    rfl
  · rw [ht, hops]
    exact Nat.mod_mod _ _

/-- A failed verdict within the retries has the pulse repeated (R198). -/
theorem mainFails_retries {o : Bool} (h : s.rly.tries < get F.RLY_MAIN_CFG_RETRY s) : mainFails o s =
    setMainState 3 { s with rly := { s.rly with retry := some o, retryFrom := s.sup.mono, tries := s.rly.tries + 1 } } := if_pos h

/-- A failed verdict after the last retry is an occurrence of counter 37 (R199). -/
theorem mainFails_givesUp {o : Bool} (h : get F.RLY_MAIN_CFG_RETRY s ≤ s.rly.tries) : mainFails o s =
    occurrence 37 0 0 (showVerdict F.RLY_CAUSE_VERIFY_FAIL 0 { s with rly := { s.rly with tries := 0 } }) := if_neg (Nat.not_lt.mpr h)

/-- What MAIN_VERIFY leaves where a retry is due (R198). -/
theorem mainVerify_retry_spec (hs : sparseWf (0 : Word) s.regs = true) {o : Bool} (h : s.rly.tries < get F.RLY_MAIN_CFG_RETRY s) {t : State}
    (ht : t = recordVerdict (mainFails o (countVerdict s))) :
    get F.RLY_STATUS_MAIN_STATE t = 3 ∧
      t.rly = { s.rly with verify := none, retry := some o, retryFrom := s.sup.mono, tries := s.rly.tries + 1 } ∧
      t.pay = { s.pay with cur := { s.pay.cur with ops := (s.pay.cur.ops + 1) % 2 ^ 32 } } ∧
      OnlyFlds (F.RLY_STATUS_MAIN_STATE :: creditShown) { s with rly := t.rly, pay := t.pay, cis := t.cis } t := by
  rw [mainFails_retries (s := countVerdict s) h] at ht
  have hset := touches_setMainState (s := { countVerdict s with rly := { (countVerdict s).rly with
    retry := some o, retryFrom := s.sup.mono, tries := s.rly.tries + 1 } }) 3 hs
  have hrec := touches_recordVerdict hset.wf
  have honly : Touches (F.RLY_STATUS_MAIN_STATE :: creditShown) s.regs t.regs := by
    rw [ht]
    exact (hset.mono (by decide)).trans (hrec.mono (List.subset_cons_self _ _))
  have hbeyond : beyondRly t = beyondRly s := by
    rw [ht, beyondRly_recordVerdict, beyondRly_setMainState]
    rfl
  refine ⟨?_, ?_, ?_, honly.onlyFlds (eq_of_beyondRly hbeyond) rfl⟩
  · rw [ht]
    exact (hrec.get (by decide)).trans (get_setMainState hs (by decide))
  · rw [ht, recordVerdict_rly, setMainState_rly]
    rfl
  · rw [ht, recordVerdict_pay, setMainState_pay]
    rfl

/-- What a failed verdict after the last retry shows before it is counted as an occurrence (R199). -/
theorem mainVerify_givesUp_spec (hs : sparseWf (0 : Word) s.regs = true) {u : State} (hu : u = showVerdict F.RLY_CAUSE_VERIFY_FAIL 0
    { countVerdict s with rly := { (countVerdict s).rly with tries := 0 } }) :
    get F.RLY_STATUS_MAIN_STATE u = 0 ∧ Raised F.RLY_CAUSE_VERIFY_FAIL s u ∧ u.rly = { s.rly with verify := none, tries := 0 } ∧
      u.pay = { s.pay with cur := { s.pay.cur with ops := (s.pay.cur.ops + 1) % 2 ^ 32 } } ∧
      OnlyFlds [F.RLY_STATUS_MAIN_STATE, F.CIS_STATUS_DIRTY, F.RLY_CAUSE_VERIFY_FAIL, F.INT_HOST_PEND_PEND]
        { s with rly := u.rly, pay := u.pay, cis := u.cis } u := by
  obtain ⟨hstate, hraised, hverdict⟩ := showVerdict_spec (c := F.RLY_CAUSE_VERIFY_FAIL) (v := 0)
    (s := { countVerdict s with rly := { (countVerdict s).rly with tries := 0 } }) hs (by decide) (by decide)
  rw [← hu] at hstate hraised hverdict
  have hbeyond : beyondRly u = beyondRly s := by
    rw [hu, beyondRly_showVerdict]
    rfl
  refine ⟨hstate, hraised, ?_, ?_, hverdict.onlyFlds (eq_of_beyondRly hbeyond) rfl⟩
  · rw [hu, showVerdict_rly]
    rfl
  · rw [hu, showVerdict_pay]
    rfl

/-- What MAIN_VERIFY leaves with no phase to assess: the state is unknown (R199). -/
theorem mainVerify_unassessed_spec (hs : sparseWf (0 : Word) s.regs = true) {t : State} (ht : t = showCredit (setMainState 0 s)) :
    get F.RLY_STATUS_MAIN_STATE t = 0 ∧ OnlyFlds (F.RLY_STATUS_MAIN_STATE :: creditShown) { s with cis := t.cis } t := by
  have hset := touches_setMainState 0 hs
  have hshow : Touches creditShown (setMainState 0 s).regs t.regs := by
    rw [ht]
    exact (showCredit_spec hset.wf).2
  have honly : Touches (F.RLY_STATUS_MAIN_STATE :: creditShown) s.regs t.regs :=
    (hset.mono (by decide)).trans (hshow.mono (List.subset_cons_self _ _))
  have hbeyond : beyondRly t = beyondRly s := by rw [ht, beyondRly_showCredit, beyondRly_setMainState]
  have hrly : t.rly = s.rly := by rw [ht, showCredit_rly, setMainState_rly]
  have hpay : t.pay = s.pay := by rw [ht, showCredit_pay, setMainState_pay]
  refine ⟨(hshow.get (by decide)).trans (get_setMainState hs (by decide)), honly.onlyFlds ?_ rfl⟩
  have heq := eq_of_beyondRly hbeyond
  rwa [hrly, hpay] at heq

/-! Load behind an open main -/

section
variable {α : Type} {p : α → Bool} {cyc : List (List α)}

/-- One phase that meets the condition in three cycles of a main verified open (R200). -/
theorem openCycles_trips {ph : List α} (hopen : get F.RLY_STATUS_MAIN_STATE s = 2) (hmem : ph ∈ cyc) (hlen : ph.length = 3)
    (hall : ph.all p = true) : (openCycles p cyc s).1 = true := by
  have hany : (cyc.any fun ph => ph.length == 3 && ph.all p) = true := List.any_eq_true.mpr ⟨ph, hmem, by simp [hlen, hall]⟩
  simp only [openCycles, verifiedOpen, hopen, decide_true, hany, Bool.and_self]

/-- A main not verified open, or no phase that meets it in any cycle (R200). -/
theorem openCycles_quiet (h : get F.RLY_STATUS_MAIN_STATE s ≠ 2 ∨ ∀ ph ∈ cyc, ∀ e ∈ ph, p e = false) :
    openCycles p cyc s = (false, true) := by
  obtain h | h := h
  · simp [openCycles, verifiedOpen, h]
  · have hany : (cyc.any fun ph => ph.any p) = false := by simpa using h
    have hall : (cyc.any fun ph => ph.length == 3 && ph.all p) = false := by
      rw [List.any_eq_false]
      intro ph hph
      match ph, h ph hph with
      | [], _ => simp
      | e :: l, hp => simp [hp e List.mem_cons_self]
    simp only [openCycles, hany, hall, Bool.and_false, Bool.not_false]

end

/-- The condition met trips the producer, after its cause (R200). -/
theorem threeCycles_trips {x : Nat} {cause : Fld} {quiet : Bool} (h2 : e2Up s = true) (hx : producer x s = false) :
    threeCycles x cause true quiet s = tripProducer x 0 0 (raise cause s) := by simp [threeCycles, h2, hx]

/-- The condition met by no phase releases it (R200). -/
theorem threeCycles_releases {x : Nat} {cause : Fld} (h2 : e2Up s = true) (hx : producer x s = true) :
    threeCycles x cause false true s = releaseProducer x s := by simp [threeCycles, h2, hx]

theorem threeCycles_off {x : Nat} {cause : Fld} {trips quiet : Bool} (h2 : e2Up s = false) : threeCycles x cause trips quiet s = s := by
  simp [threeCycles, h2]

/-- LOADV: the load sensed in a cycle exceeds the limit for the voltage there (R200). -/
def loadSensed (s : State) (e : Nat × Nat) : Bool := decide (5 * get F.RLY_MAIN_CFG_OPEN_PCT s * e.2 < e.1 * 100)

theorem exec_loadv (cyc : List (List (Nat × Nat))) : exec (.loadv cyc) s =
    .next (threeCycles 10 F.RLY_CAUSE_LOADV (openCycles (loadSensed s) cyc s).1 (openCycles (loadSensed s) cyc s).2 s) := rfl

/-- OPEN_I: the current in a cycle exceeds the limit (R200). -/
def currentFlows (s : State) (i : Nat) : Bool := decide (20 * get F.RLY_MAIN_CFG_OPEN_I s < i)

theorem exec_openI (cyc : List (List Nat)) : exec (.openI cyc) s =
    .next (threeCycles 11 F.RLY_CAUSE_OPEN_I (openCycles (currentFlows s) cyc s).1 (openCycles (currentFlows s) cyc s).2 s) := rfl

/-- A cause of R200 raised. -/
theorem raise_open_spec {c : Fld} (hs : sparseWf (0 : Word) s.regs = true) (hc : c ∈ [F.RLY_CAUSE_LOADV, F.RLY_CAUSE_OPEN_I]) :
    Raised c s (raise c s) ∧ OnlyFlds [c, F.INT_HOST_PEND_PEND] s (raise c s) := by
  have hcause : ∀ c ∈ [F.RLY_CAUSE_LOADV, F.RLY_CAUSE_OPEN_I],
      c.inWord = true ∧ F.INT_HOST_PEND_PEND.apart c = true ∧ 0 < c.width ∧ blockOf c.addr < 28 := by decide
  obtain ⟨hin, hpend, hwidth, hblock⟩ := hcause c hc
  exact ⟨raised_raise hs hin hpend hwidth hblock rfl, ((Chain.start hs).raise (by simp) (by simp) hin).only⟩

/-! FREEZE_RELEASE -/

/-- With no freeze line active any more the load-control supply is evaluated (R201). -/
theorem exec_freezeRelease_evaluates (hf : freezing (refreshLines 0 s) = false) (h2 : e2Up (refreshLines 0 s) = true) :
    exec .freezeRelease s = .next (evalLc (refreshLines 0 s)) := by
  show execFreezeRelease s = _
  simp [execFreezeRelease, hf, h2]

theorem exec_freezeRelease_holds (h : freezing (refreshLines 0 s) = true ∨ e2Up (refreshLines 0 s) = false) :
    exec .freezeRelease s = .next (refreshLines 0 s) := by
  show execFreezeRelease s = _
  obtain h | h := h <;> simp [execFreezeRelease, h]

/-- The evaluation makes a change by the drive that is due (R203). -/
theorem evalLc_switches (hon : relaysOn s = true) (hheld : driveHeld s = false) (hw : s.rly.lcPulseWant = none)
    (hmode : flag F.RLY_LC_CFG_LC_MODE s = false) (hwant : lcWanted s ≠ flag F.RLY_STATUS_LC_STATE s) (hwait : lcWait (lcWanted s) s = 0) :
    evalLc s = switchLc (lcWanted s) s := by
  have hlatch : matchLatch s = s := by simp [matchLatch, hmode]
  simp [evalLc, hlatch, startLcPulse_idle hw, hon, hheld, hwant, hwait]

end

/-- Settles O35: each pulse by whether it may start, MAIN_VERIFY by its verdict, LOADV and OPEN_I by their condition,
FREEZE_RELEASE by what it evaluates. -/
theorem mainContactor : Obligations.MainContactor := by
  unfold Obligations.MainContactor
  refine ⟨fun s o hw hm => ⟨exec_mainPulseStart_starts hw hm, fun hsnd => ?_⟩, fun s o hs hw hm => ?_,
    fun s => exec_mainPulseStart_idle, fun s o hp => ⟨exec_mainPulseEnd hp, fun hlc => ?_⟩, fun s => exec_mainPulseEnd_idle,
    fun s o x cyc hs h2 hv ho hsome hall => ?_,
    fun s x cyc hs h2 hv hempty => ?_, fun s o x cyc hs h2 hv ho hsome hall htries => ?_,
    fun s o x cyc hs h2 hv ho hsome hall htries => ?_, fun s => exec_mainVerify_idle, fun s o => exec_mainRetry_starts,
    fun s o hs hr hm => ?_, fun s => exec_mainRetry_idle, fun s cyc ph hs h2 hopen hx hmem hlen hall => ?_,
    fun s cyc h2 hx hquiet => ?_, fun s cyc ph hs h2 hopen hx hmem hlen hall => ?_, fun s cyc h2 hx hquiet => ?_,
    fun s a b h2 => ⟨?_, ?_⟩, fun s hf h2 => ⟨exec_freezeRelease_evaluates hf h2, fun hon hheld hw hmode hwant hwait => ?_⟩,
    fun s => exec_freezeRelease_holds⟩
  · rw [exec_mainPulseStart_starts hw hm]
    exact congrArg _ (abortSounding_idle hsnd)
  · exact ⟨_, exec_mainPulseStart_waits hw hm, pulseWaits_spec hs.1⟩
  · rw [exec_mainPulseEnd hp]
    exact congrArg _ (startLcPulse_idle hlc)
  · refine ⟨_, ?_, mainVerify_verified_spec hs.1 rfl⟩
    rw [exec_mainVerify_judged hv h2 ho hsome, if_pos hall]
  · exact ⟨_, exec_mainVerify_unassessed hv h2 hempty, mainVerify_unassessed_spec hs.1 rfl⟩
  · refine ⟨_, ?_, mainVerify_retry_spec hs.1 htries rfl⟩
    rw [exec_mainVerify_judged hv h2 ho hsome, if_neg (by simp [hall])]
  · refine ⟨_, ?_, mainVerify_givesUp_spec hs.1 rfl⟩
    rw [exec_mainVerify_judged hv h2 ho hsome, if_neg (by simp [hall]), mainFails_givesUp (s := countVerdict s) htries]
    rfl
  · exact ⟨_, exec_mainRetry_waits hr hm, pulseWaits_spec hs.1⟩
  · refine ⟨_, ?_, raise_open_spec hs.1 (by decide)⟩
    rw [exec_loadv, openCycles_trips (p := loadSensed s) hopen hmem hlen hall, threeCycles_trips h2 hx]
  · have hnone : openCycles (loadSensed s) cyc s = (false, true) := by
      refine openCycles_quiet (hquiet.imp_right fun h ph hph e he => ?_)
      have hle := of_decide_eq_true (List.all_eq_true.mp (List.all_eq_true.mp h ph hph) e he)
      exact decide_eq_false (Nat.not_lt.mpr hle)
    rw [exec_loadv, hnone, threeCycles_releases h2 hx]
  · refine ⟨_, ?_, raise_open_spec hs.1 (by decide)⟩
    rw [exec_openI, openCycles_trips (p := currentFlows s) hopen hmem hlen hall, threeCycles_trips h2 hx]
  · have hnone : openCycles (currentFlows s) cyc s = (false, true) := by
      refine openCycles_quiet (hquiet.imp_right fun h ph hph i hi => ?_)
      have hle := of_decide_eq_true (List.all_eq_true.mp (List.all_eq_true.mp h ph hph) i hi)
      exact decide_eq_false (Nat.not_lt.mpr hle)
    rw [exec_openI, hnone, threeCycles_releases h2 hx]
  · rw [exec_loadv, threeCycles_off h2]
  · rw [exec_openI, threeCycles_off h2]
  · rw [exec_freezeRelease_evaluates hf h2, evalLc_switches hon hheld hw hmode hwant hwait]

end Sys2Proof.Machine
end

section
/-! SUPPORT. Registers outside the canonical form: a write that does not leave the word 0, a cause that is raised and a counter that counts
among them, reads back in every state, which the statements on the fabric's messages (O54) ask for. -/
namespace Sys2Proof.Machine

/-- A value other than the default reads back in every sparse map. -/
theorem sparseGet_set_of_ne {α : Type} [DecidableEq α] {d : α} (m : Sparse α) (k : Nat) {v : α} (hv : v ≠ d) :
    sparseGet d (sparseSet d m k v) k = v := by
  induction m with
  | nil => simp [sparseSet, sparseGet, hv]
  | cons e t ih =>
    obtain ⟨a, w⟩ := e
    unfold sparseSet
    split
    · simp [sparseGet]
    · split
      next hk => simp [sparseGet, hk]
      next hk => rw [sparseGet, if_neg hk, ih]

section
variable {f g : Fld} {v i : Nat} {s t : State}

/-- A bit that is set leaves a field that is not 0. -/
theorem withBit_mod_ne_zero {n w : Nat} (hi : i < w) : withBit n i % 2 ^ w ≠ 0 := by
  intro h
  have hbit := congrArg (fun n => n.testBit i) h
  simp [withBit, hi, Nat.testBit_or, Nat.testBit_shiftLeft, Nat.testBit_mod_two_pow] at hbit

section
variable (hf : f.inWord = true) (hv : v % 2 ^ f.width ≠ 0)
include hf hv

theorem rd_put_of_ne (s : State) : rd (put f v s) f.addr = withField f v (rd s f.addr) := by
  refine sparseGet_set_of_ne s.regs f.addr fun h => hv ?_
  rw [← fieldOf_withField f v (rd s f.addr) hf, h]
  exact Nat.zero_mod _ ▸ congrArg (· % 2 ^ f.width) (Nat.zero_shiftRight f.lo)

/-- A field set to a number that is not 0 reads it in every state. -/
theorem get_put_of_ne (s : State) : get f (put f v s) = v % 2 ^ f.width := by
  rw [get, rd_put_of_ne hf hv, fieldOf_withField f v _ hf]

/-- Fields apart from it read as before. -/
theorem get_put_apart_of_ne (s : State) (hd : f.apart g = true) : get g (put f v s) = get g s := by
  by_cases ha : g.addr = f.addr
  · rw [get, ha, rd_put_of_ne hf hv, get, ha, fieldOf_withField_apart f g v _ hf]
    simpa [Fld.apart, ha, or_comm] using hd
  · rw [get, get, rd_put_other v ha]

theorem onlyFlds_put_of_ne (s : State) : OnlyFlds [f] s (put f v s) :=
  ⟨rfl, fun _ hg => get_put_apart_of_ne hf hv s (hg f (List.mem_singleton_self f))⟩

end

section
variable (hf : f.inWord = true) (hi : i < f.width)
include hf hi

theorem onlyFlds_setBit (s : State) : OnlyFlds [f] s (putBit f i true s) :=
  onlyFlds_put_of_ne hf (withBit_mod_ne_zero hi) s

theorem fbit_setBit (s : State) : fbit f i (putBit f i true s) = true := by
  rw [fbit, putBit, if_pos rfl, get_put_of_ne hf (withBit_mod_ne_zero hi), bit, Nat.testBit_mod_two_pow]
  simp [withBit, hi, Nat.testBit_or, Nat.testBit_shiftLeft]

end

section
variable (hf : f.inWord = true) (h1 : 0 < f.width) (hb : blockOf f.addr < 28)
include hf h1 hb

/-- A cause raised changes itself and `INT_HOST_PEND` alone, in every state (R371). -/
theorem onlyFlds_raise (s : State) : OnlyFlds [f, F.INT_HOST_PEND_PEND] s (raise f s) := by
  have hset := (onlyFlds_setBit hf h1 s).mono (M := [f, F.INT_HOST_PEND_PEND]) (by simp)
  rw [raise, raiseAt]
  split
  · exact hset.trans ((onlyFlds_setBit (f := F.INT_HOST_PEND_PEND) rfl hb _).mono (by simp))
  · exact hset

/-- A cause raised reads as raised in every state; its enable may be told from an earlier one. -/
theorem raised_raise_of_rd (hp : F.INT_HOST_PEND_PEND.apart f = true) (he : rd s (enableOf f.addr) = rd t (enableOf f.addr)) :
    Raised f s (raise f t) := by
  have hset := fbit_setBit hf h1 t
  rw [Raised, RaisedAt, he, raise, raiseAt]
  split
  next h =>
    refine ⟨?_, fun _ => fbit_setBit rfl hb _⟩
    rw [fbit, putBit, if_pos rfl, get_put_apart_of_ne rfl (withBit_mod_ne_zero hb) _ hp]
    exact hset
  next h => exact ⟨hset, fun h' => absurd h' h⟩

end

/-- A counter of frames counts one, saturating, in every state. -/
theorem countFrame_spec (k : Nat) (s : State) :
    get (F.FAB_COUNT_COUNT k) (countFrame k s) = min (2 ^ 32 - 1) (get (F.FAB_COUNT_COUNT k) s + 1) ∧
      OnlyFlds [F.FAB_COUNT_COUNT k] s (countFrame k s) := by
  have hsat : satNat (2 ^ 32 - 1) (get (F.FAB_COUNT_COUNT k) s + 1) = min (2 ^ 32 - 1) (get (F.FAB_COUNT_COUNT k) s + 1) := by
    unfold satNat
    split <;> omega
  have hmod : satNat (2 ^ 32 - 1) (get (F.FAB_COUNT_COUNT k) s + 1) % 2 ^ 32 = min (2 ^ 32 - 1) (get (F.FAB_COUNT_COUNT k) s + 1) := by
    rw [hsat]
    exact Nat.mod_eq_of_lt (by omega)
  have hne : satNat (2 ^ 32 - 1) (get (F.FAB_COUNT_COUNT k) s + 1) % 2 ^ 32 ≠ 0 := by
    rw [hmod]
    omega
  exact ⟨(get_put_of_ne (f := F.FAB_COUNT_COUNT k) rfl hne s).trans hmod, onlyFlds_put_of_ne (f := F.FAB_COUNT_COUNT k) rfl hne s⟩

end

end Sys2Proof.Machine
end

section
/-! SUPPORT. The messages that E10 holds for E2 (O54): how E2 takes one, where each kind goes, the peer's STATUS, and the two timeouts. -/
namespace Sys2Proof.Machine

section
variable {s : State} {m : Message} {a : Nat}

/-! Taking a message -/

/-- E10 holds no message for E2 any more. -/
def handedOver (s : State) : State := { s with fab := { s.fab with forE2 := [] } }

/-- The only message held is the oldest of its kind; E2 takes it (R334), and one for all heads is the host's (R368). -/
theorem onMessage_takes {k : Nat} (eff : Message → State → State) (h2 : e2Up s = true) (hheld : s.fab.forE2 = [(m, a)])
    (hk : m.mtype = k) :
    onMessage k eff s = .next (if m.dest = .heads then toInbox m (handedOver s) else eff m (handedOver s)) := by
  have hof : heldOf k s = some m := by simp [heldOf, hheld, hk]
  have hdrop : dropOldest k s.fab.forE2 = [] := by simp [hheld, dropOldest, hk]
  rw [onMessage, hof]
  simp only [onlyIf, h2, if_true, updFab, hdrop]
  rfl

/-- One addressed to this node is E2's. -/
theorem onMessage_node {k : Nat} {n : Node} (eff : Message → State → State) (h2 : e2Up s = true)
    (h : s.fab.forE2 = [(m, a)] ∧ m.mtype = k ∧ m.dest = .node n) : onMessage k eff s = .next (eff m (handedOver s)) := by
  obtain ⟨hheld, hk, hdest⟩ := h
  rw [onMessage_takes eff h2 hheld hk, if_neg (by simp [hdest])]

/-- With none of the kind held, or E2 down, nothing happens. -/
theorem onMessage_idle {k : Nat} (eff : Message → State → State) (h : heldOf k s = none ∨ e2Up s = false) :
    onMessage k eff s = .next s := by
  unfold onMessage
  split
  · rfl
  next m hm => exact onlyIf_of_false (h.resolve_left (by simp [hm])) _ s

/-- The commands with which E2 takes a message, and the kind each takes (R333). -/
def messageKinds : List (Instr × Nat) :=
  [(.sessionReq, 1), (.sessionRsp, 2), (.creditMsg, 3), (.creditRes, 4), (.keyRes, 6), (.timeMsg, 7), (.alarmMsg, 8), (.tokenMsg, 9),
    (.statusMessage, 10)]

theorem exec_message {c : Instr} {k : Nat} (hc : (c, k) ∈ messageKinds) : ∃ eff, exec c s = onMessage k eff s := by
  simp only [messageKinds, List.mem_cons, List.not_mem_nil, or_false, Prod.mk.injEq] at hc
  obtain ⟨rfl, rfl⟩ | ⟨rfl, rfl⟩ | ⟨rfl, rfl⟩ | ⟨rfl, rfl⟩ | ⟨rfl, rfl⟩ | ⟨rfl, rfl⟩ | ⟨rfl, rfl⟩ | ⟨rfl, rfl⟩ |
    ⟨rfl, rfl⟩ := hc
  · exact ⟨_, execSessionReq.eq_1 s⟩
  · exact ⟨_, execSessionRsp.eq_1 s⟩
  · exact ⟨_, execCreditMsg.eq_1 s⟩
  · exact ⟨_, execCreditRes.eq_1 s⟩
  · exact ⟨_, execKeyRes.eq_1 s⟩
  · exact ⟨_, execTimeMsg.eq_1 s⟩
  · exact ⟨_, execAlarmMsg.eq_1 s⟩
  · exact ⟨_, execTokenMsg.eq_1 s⟩
  · exact ⟨_, execStatusMessage.eq_1 s⟩

/-! The host's inbox -/

/-- The host's kinds go to a head's inbox, whomever they are addressed to (R368). -/
theorem exec_toInbox {c : Instr} (h2 : e2Up s = true)
    (hc : (c, m.mtype) ∈ [(Instr.sessionRsp, 2), (Instr.creditRes, 4), (Instr.keyRes, 6), (Instr.alarmMsg, 8)])
    (hheld : s.fab.forE2 = [(m, a)]) : exec c s = .next (toInbox m (handedOver s)) := by
  have hexec : exec c s = onMessage m.mtype toInbox s := by
    simp only [List.mem_cons, List.not_mem_nil, or_false, Prod.mk.injEq] at hc
    obtain ⟨rfl, hk⟩ | ⟨rfl, hk⟩ | ⟨rfl, hk⟩ | ⟨rfl, hk⟩ := hc <;> rw [hk] <;> rfl
  rw [hexec, onMessage_takes toInbox h2 hheld rfl, ite_self]

/-- A message dropped raises its cause and changes nothing else, in every state (R333, R334). -/
theorem drop_spec (s : State) : Raised F.FAB_CAUSE_MSG_DROP s (raise F.FAB_CAUSE_MSG_DROP (handedOver s)) ∧
    OnlyFlds [F.FAB_CAUSE_MSG_DROP, F.INT_HOST_PEND_PEND] (handedOver s) (raise F.FAB_CAUSE_MSG_DROP (handedOver s)) :=
  ⟨raised_raise_of_rd rfl (by decide) (by decide) rfl rfl, onlyFlds_raise rfl (by decide) (by decide) _⟩

/-- An inbox with room takes the message and raises FAB_RX (R368). -/
theorem toInbox_room (hh : isHead s = true) (hroom : s.hif.inbox.length < 8) :
    Raised F.HIF_CAUSE_FAB_RX s (toInbox m s) ∧ get F.HIF_STATUS_INBOX (toInbox m s) = s.hif.inbox.length + 1 ∧
      OnlyFlds [F.HIF_CAUSE_FAB_RX, F.INT_HOST_PEND_PEND, F.HIF_STATUS_INBOX]
        { s with hif := { s.hif with inbox := s.hif.inbox ++ [m] } } (toInbox m s) := by
  have hmod : (s.hif.inbox.length + 1) % 2 ^ F.HIF_STATUS_INBOX.width = s.hif.inbox.length + 1 :=
    Nat.mod_eq_of_lt (show s.hif.inbox.length + 1 < 16 by omega)
  have hne : (s.hif.inbox.length + 1) % 2 ^ F.HIF_STATUS_INBOX.width ≠ 0 := by
    rw [hmod]
    exact Nat.succ_ne_zero _
  have htake : toInbox m s = raise F.HIF_CAUSE_FAB_RX (put F.HIF_STATUS_INBOX (s.hif.inbox.length + 1)
      { s with hif := { s.hif with inbox := s.hif.inbox ++ [m] } }) := by
    simp [toInbox, hh, hroom, updHif]
  have hput := onlyFlds_put_of_ne (f := F.HIF_STATUS_INBOX) rfl hne { s with hif := { s.hif with inbox := s.hif.inbox ++ [m] } }
  have hraise := onlyFlds_raise (f := F.HIF_CAUSE_FAB_RX) rfl (by decide) (by decide)
    (put F.HIF_STATUS_INBOX (s.hif.inbox.length + 1) { s with hif := { s.hif with inbox := s.hif.inbox ++ [m] } })
  rw [htake]
  refine ⟨raised_raise_of_rd rfl (by decide) (by decide) rfl (rd_put_other _ (by decide)).symm, ?_,
    (hput.mono (by decide)).trans (hraise.mono (by decide))⟩
  rw [hraise.2 _ (by decide), get_put_of_ne rfl hne, hmod]

/-- Without room, or at a node that is no head, it is dropped (R368). -/
theorem toInbox_drops (h : isHead s = false ∨ 8 ≤ s.hif.inbox.length) : toInbox m s = raise F.FAB_CAUSE_MSG_DROP s := by
  refine if_neg ?_
  obtain h | h := h <;> simp [h]

/-! Tokens and remote credit -/

/-- A token that arrives while one is in decode waits behind it, the queue having room (R191). -/
theorem queueToken_waits {k : Token} (hs : sparseWf (0 : Word) s.regs = true) (hroom : s.pay.queue.length < 4) (hdec : s.pay.dec ≠ none) :
    OnlyFlds creditShown { s with pay := { s.pay with queue := s.pay.queue ++ [k] }, cis := (queueToken k s).cis } (queueToken k s) := by
  obtain ⟨d, hd⟩ := Option.ne_none_iff_exists'.mp hdec
  have hnext : ∀ t : State, t.pay.dec = some d → nextToken t = t := fun t ht => by simp [nextToken, ht]
  have hqueue : queueToken k s = showCredit { s with pay := { s.pay with queue := s.pay.queue ++ [k] } } := by
    rw [queueToken, if_neg (by omega)]
    exact congrArg showCredit (hnext _ hd)
  rw [hqueue]
  exact (showCredit_spec (s := { s with pay := { s.pay with queue := s.pay.queue ++ [k] } }) hs).2.onlyFlds rfl rfl

/-! TIME -/

/-- An adjustment of a number other than 0 that fits 32 bits waits for the tick as it is (R179). -/
theorem adjWrite_ofInt {z : Int} (src osrc : Nat) (h0 : z ≠ 0) (hlo : -(2 ^ 31 : Nat) ≤ z) (hhi : z < (2 ^ 31 : Nat)) :
    adjWrite (BitVec.ofInt 32 z) src osrc s = { s with bil := { s.bil with adj := some (z, src, osrc) } } := by
  have hsigned : signed 32 (BitVec.ofInt 32 z).toNat = z := by
    rw [BitVec.toNat_ofInt]
    exact signed_wrapTo (by decide) hlo hhi
  have hne : BitVec.ofInt 32 z ≠ 0 := fun h => h0 (by rw [← hsigned, h]; rfl)
  rw [adjWrite_waits src osrc hne, hsigned]

theorem adjWrite_regs (w : Word) (src osrc : Nat) : (adjWrite w src osrc s).regs = s.regs := by
  unfold adjWrite
  split <;> rfl

theorem adjWrite_fab (w : Word) (src osrc : Nat) : (adjWrite w src osrc s).fab = s.fab := by
  unfold adjWrite
  split <;> rfl

section
variable {n : Node} (h2 : e2Up s = true) (h : s.fab.forE2 = [(m, a)] ∧ m.mtype = 7 ∧ m.dest = .node n)
include h2 h

/-- A TIME message that is not from a head, or at a node that takes no time, is dropped in silence (R336). -/
theorem exec_timeMsg_ignored (hno : headRoute m.src s = none ∨ flag F.FAB_CFG_TIME_EN s = false ∨ flag F.FAB_STATUS_FCN_VALID s = false) :
    exec .timeMsg s = .next (handedOver s) := by
  show execTimeMsg s = _
  rw [execTimeMsg, onMessage_node _ h2 h]
  dsimp only
  split
  next o utc fcn valid hroute hfields =>
    have hroute' : headRoute m.src s = some o := hroute
    have hdeaf : flag F.FAB_CFG_TIME_EN (handedOver s) = false ∨ flag F.FAB_STATUS_FCN_VALID (handedOver s) = false :=
      hno.resolve_left (by simp [hroute'])
    exact congrArg _ (if_pos (by obtain hd | hd := hdeaf <;> simp [hd]))
  next => rfl

/-- Whatever a TIME message says, E10 is left as it was but for the message. -/
theorem fab_timeMsg {t : State} (ht : exec .timeMsg s = .next t) : t.fab = { s.fab with forE2 := [] } := by
  have hexec : execTimeMsg s = .next t := ht
  rw [execTimeMsg, onMessage_node _ h2 h] at hexec
  obtain rfl := Host.Outcome.next.inj hexec
  dsimp only
  split
  · split
    · rfl
    · split
      · exact raise_fab _ _
      · exact adjWrite_fab _ _ _
  · rfl

section
variable {o utc fcn valid : Nat} {d : Int} (hroute : headRoute m.src s = some o)
  (hen : flag F.FAB_CFG_TIME_EN s = true ∧ flag F.FAB_STATUS_FCN_VALID s = true) (hfields : Config.fieldsOf 7 m.body = [utc, fcn, valid])
  (hd : d = timeDiff utc fcn ((fresh s).1 % 1024) s)
include hroute hen hfields hd

/-- A TIME message from a head: dropped where its time is not valid, refused beyond 900 s, else an adjustment (R336). -/
theorem exec_timeMsg_head : exec .timeMsg s = .next (
    if valid = 0 then handedOver s
    else if 900 * 10 ^ 6 < d.natAbs then raise F.FAB_CAUSE_TIME_REFUSED (fresh (handedOver s)).2
    else adjWrite (BitVec.ofInt 32 (Int.tdiv d (10 ^ 6))) 2 o (put F.SUP_RTC_STATUS_VALID 1 (fresh (handedOver s)).2)) := by
  have hroute' : headRoute m.src (handedOver s) = some o := hroute
  have hen' : flag F.FAB_CFG_TIME_EN (handedOver s) = true ∧ flag F.FAB_STATUS_FCN_VALID (handedOver s) = true := hen
  have hd' : timeDiff utc fcn ((fresh (handedOver s)).1 % 1024) (handedOver s) = d := hd.symm
  show execTimeMsg s = _
  rw [execTimeMsg, onMessage_node _ h2 h]
  simp [hroute', hfields, hen', hd']

/-- What it leaves where its difference is refused, and where it is passed on (R336, R298). -/
theorem timeMsg_spec {t : State} (ht : exec .timeMsg s = .next t) :
    (valid = 0 → t = handedOver s) ∧
      (valid ≠ 0 → 900000000 < d.natAbs → Raised F.FAB_CAUSE_TIME_REFUSED s t ∧ t.bil = s.bil) ∧
      (valid ≠ 0 → d.natAbs ≤ 900000000 → get F.SUP_RTC_STATUS_VALID t = 1 ∧
        (1000000 ≤ d.natAbs → t.bil = { s.bil with adj := some (Int.tdiv d 1000000, 2, o) })) := by
  obtain rfl := Host.Outcome.next.inj ((exec_timeMsg_head h2 h hroute hen hfields hd).symm.trans ht)
  refine ⟨fun hv => if_pos hv, fun hv hbig => ?_, fun hv hsmall => ⟨?_, fun hbig => ?_⟩⟩
  · rw [if_neg hv, if_pos (by omega)]
    exact ⟨raised_raise_of_rd rfl (by decide) (by decide) rfl rfl, raise_bil _ _⟩
  · rw [if_neg hv, if_neg (by omega), get_eq, adjWrite_regs]
    exact get_put_of_ne (f := F.SUP_RTC_STATUS_VALID) rfl (by decide) _
  · have habs : (Int.tdiv d (10 ^ 6)).natAbs = d.natAbs / 10 ^ 6 := Int.natAbs_tdiv d (10 ^ 6)
    rw [if_neg hv, if_neg (by omega), adjWrite_ofInt 2 o (by omega) (by omega) (by omega)]
    rfl

end

end

/-! Session requests and STATUS -/

section
variable {n : Node} (h2 : e2Up s = true) (h : s.fab.forE2 = [(m, a)] ∧ m.mtype = 1 ∧ m.dest = .node n)
include h2 h

/-- A session request waits on interface 6 while nothing else does (R333). -/
theorem exec_sessionReq_waits (hfree : nth none s.obj.req 6 = none) (hshape : shapeOk m.body = true) :
    exec .sessionReq s = .next { handedOver s with
      obj := { s.obj with req := upd s.obj.req 6 fun _ => some ⟨m.body, m.src, m.msgId⟩ } } := by
  have hfree' : nth none (handedOver s).obj.req 6 = none := hfree
  show execSessionReq s = _
  rw [execSessionReq, onMessage_node _ h2 h]
  simp only [hfree', submitObject, hshape, if_true]
  rfl

/-- Beside another it is answered BUSY_RETRY (R334). -/
theorem exec_sessionReq_busy (hbusy : nth none s.obj.req 6 ≠ none) :
    exec .sessionReq s = .next (respond 2 m.msgId m.src [4] (handedOver s)) := by
  obtain ⟨r, hr⟩ := Option.ne_none_iff_exists'.mp hbusy
  have hr' : nth none (handedOver s).obj.req 6 = some r := hr
  show execSessionReq s = _
  rw [execSessionReq, onMessage_node _ h2 h]
  simp only [hr']
  rfl

end

/-- The frame in which a measurement unit reports to its peer `e` (R329). -/
def statusFrame (e : Nat) (s : State) : TxFrame :=
  { bandC := true
    frame := { dest := .node (.eui e), ackReq := true, ldst := some (.eui e), osrc := myName s, left := 1, body := .data (messageBytes
      { mtype := 10, msgId := s.fab.msgId, body := Config.bodyOf 10 ((statusNow s).map (wrapTo 64)) }) } }

/-- What E10 notes of a report (R329). -/
def noteStatus (s : State) : State :=
  { s with fab := { s.fab with statusAt := s.sup.mono, sentStatus := statusNow s, msgId := (s.fab.msgId + 1) % 65536 } }

/-- A report that is due is queued in band C (R329). -/
theorem exec_statusTimer_due {e : Nat} (hup : e10Up s = true ∧ e2Up s = true) (hpeer : (fabTab s).peer = some e)
    (hprep : s.ld.tables.prepay.isSome = true) (hpass : inPass s = false)
    (hdue : s.fab.statusAt + 10240 ≤ s.sup.mono ∨ s.fab.sentStatus ≠ statusNow s) (hfcnt : s.fab.fcnt ≠ 0xFFFFFFFF) :
    exec .statusTimer s = .next (countFrame 0 (updFab (fun b => { b with txq := b.txq ++ [statusFrame e s] }) (noteStatus s))) := by
  have hcond : (e10Up s && e2Up s && (fabTab s).peer.isSome && s.ld.tables.prepay.isSome && !(inPass s) &&
      (decide (s.fab.statusAt + 10240 ≤ s.sup.mono) || s.fab.sentStatus != statusNow s)) = true := by
    simp [hup, hpeer, hprep, hpass, hdue]
  have hpeer' : (fabTab (updFab (fun f => { f with statusAt := s.sup.mono, sentStatus := statusNow s }) s)).peer = some e := hpeer
  have hpass' : inPass (updFab (fun f => { f with msgId := (f.msgId + 1) % 2 ^ 16 })
      (updFab (fun f => { f with statusAt := s.sup.mono, sentStatus := statusNow s }) s)) = false := hpass
  have hqueue : ∀ (f : FabFrame) (t : State), t.fab.fcnt ≠ 0xFFFFFFFF → queueFrame true f t =
      updFab (fun b => { b with txq := b.txq ++ [{ ownFrame f with bandC := true }] }) t := fun f t ht => if_neg ht
  show execStatusTimer s = _
  refine (onlyIf_of_true hcond _ s).trans (congrArg _ ?_)
  simp only [sendPeer, hpeer', hpass', Bool.not_false, if_true, queuePeer]
  exact congrArg (countFrame 0) (hqueue _ _ hfcnt)

theorem exec_statusTimer_idle (h : e10Up s = false ∨ e2Up s = false ∨ (fabTab s).peer = none ∨ s.ld.tables.prepay = none ∨
    inPass s = true ∨ (s.sup.mono < s.fab.statusAt + 10240 ∧ s.fab.sentStatus = statusNow s)) : exec .statusTimer s = .next s := by
  show execStatusTimer s = _
  refine onlyIf_of_false ?_ _ s
  obtain h | h | h | h | h | ⟨hearly, hsame⟩ := h
  · simp [h]
  · simp [h]
  · simp [h]
  · simp [h]
  · simp [h]
  · simp [Nat.not_le.mpr hearly, hsame]

/-! The timeouts -/

/-- An incomplete message is dropped after 30 s (R333). -/
theorem exec_reassemblyTimeout_late {r : Reasm} (hr : s.fab.reasm = [r]) (hlate : r.since + 30720 ≤ s.sup.mono) :
    exec .reassemblyTimeout s = .next (raise F.FAB_CAUSE_MSG_DROP { s with fab := { s.fab with reasm := [] } }) := by
  show execReassemblyTimeout s = _
  simp [execReassemblyTimeout, onlyIf, updFab, hr, hlate]

theorem exec_reassemblyTimeout_idle (hr : s.fab.reasm = []) : exec .reassemblyTimeout s = .next s := by
  show execReassemblyTimeout s = _
  rw [execReassemblyTimeout, hr]
  exact onlyIf_of_false rfl _ s

/-- A message that E10 has held for 2 s is refused (R334). -/
theorem exec_handoverTimeout_late (hup : e10Up s = true) (hheld : s.fab.forE2 = [(m, a)]) (hlate : a + 2048 ≤ s.sup.mono) :
    exec .handoverTimeout s = .next (refuseMessage m (handedOver s)) := by
  show execHandoverTimeout s = _
  simp [execHandoverTimeout, onlyIf, hup, updFab, hheld, hlate, handedOver]

theorem exec_handoverTimeout_idle (hup : e10Up s = false) : exec .handoverTimeout s = .next s := by
  show execHandoverTimeout s = _
  rw [execHandoverTimeout]
  exact onlyIf_of_false hup _ s

/-- A message that asks for no answer is dropped (R334). -/
theorem refuseMessage_drops (h : isRequest m.mtype = false) : refuseMessage m s = raise F.FAB_CAUSE_MSG_DROP s := by
  simp [refuseMessage, h]

/-- A request is answered BUSY_RETRY (R334). -/
theorem refuseMessage_answers (h : m.mtype = 1 ∨ m.mtype = 3 ∨ m.mtype = 5) :
    refuseMessage m s = respond (m.mtype + 1) m.msgId m.src [4] s := by
  refine if_pos ?_
  obtain h | h | h := h <;> simp [isRequest, h]

end

/-- Settles O54: each kind of message by what E2 does with the only one held, STATUS by whether a report is due, the timeouts by their age. -/
theorem fabricMessages : Obligations.FabricMessages := by
  unfold Obligations.FabricMessages
  refine ⟨fun s r hr hlate => ?_, fun s m n a h2 h hfree hshape => ?_, fun s m n a h2 h hbusy => ?_,
    fun s c m a h2 hc hheld hh hroom => ?_, fun s c m a h2 hc hheld hfull => ?_, fun s m n a hs h2 h hroom hdec => ?_,
    fun s m n a hs h2 h hroom hdec => ?_, fun s m n a o h2 h hroute hen => ?_, fun s m n a h2 h hno => ?_, fun s m n a h2 h => ?_,
    fun s e hup hpeer hprep hpass hdue hfcnt => ?_,
    fun s => ⟨exec_statusTimer_idle, exec_handoverTimeout_idle, exec_reassemblyTimeout_idle⟩,
    fun s c k hc hidle => ?_, fun s m a hup hheld hlate hreq => ?_, fun s m a hup hheld hlate hreq => ?_⟩
  · exact ⟨_, exec_reassemblyTimeout_late hr hlate, raised_raise_of_rd rfl (by decide) (by decide) rfl rfl,
      onlyFlds_raise rfl (by decide) (by decide) _⟩
  · exact exec_sessionReq_waits h2 h hfree hshape
  · exact exec_sessionReq_busy h2 h hbusy
  · exact ⟨_, exec_toInbox h2 hc hheld, toInbox_room (s := handedOver s) hh hroom⟩
  · exact ⟨_, (exec_toInbox h2 hc hheld).trans (congrArg _ (toInbox_drops (s := handedOver s) hfull)), drop_spec s⟩
  · refine ⟨_, ?_, queueToken_waits (s := handedOver s) hs.1 hroom hdec⟩
    show execCreditMsg s = _
    rw [execCreditMsg, onMessage_node _ h2 h]
  · refine ⟨_, ?_, queueToken_waits (s := handedOver s) hs.1 hroom hdec⟩
    show execTokenMsg s = _
    rw [execTokenMsg, onMessage_node _ h2 h]
  · obtain ⟨t, ht, -⟩ := everyCommandAnswersNext .timeMsg s
    refine ⟨t, ht, fab_timeMsg h2 h ht, fun utc fcn valid sub d hfields hsub hd => ?_⟩
    subst hsub
    exact timeMsg_spec h2 h hroute hen hfields hd ht
  · exact exec_timeMsg_ignored h2 h hno
  · show execStatusMessage s = _
    rw [execStatusMessage, onMessage_node _ h2 h]
    rfl
  · obtain ⟨hcount, honly⟩ := countFrame_spec 0 (updFab (fun b => { b with txq := b.txq ++ [statusFrame e s] }) (noteStatus s))
    exact ⟨_, exec_statusTimer_due hup hpeer hprep hpass hdue hfcnt, hcount, honly⟩
  · obtain ⟨eff, heff⟩ := exec_message (s := s) hc
    rw [heff, onMessage_idle eff hidle]
  · refine ⟨_, ?_, drop_spec s⟩
    rw [exec_handoverTimeout_late hup hheld hlate, refuseMessage_drops hreq]
  · rw [exec_handoverTimeout_late hup hheld hlate, refuseMessage_answers hreq]
    rfl

end Sys2Proof.Machine
end

section
/-! SUPPORT. The stores of the Cistern (O36): how a copy starts, what the store engines take, what a request asks for and what a commit
stamps. -/
namespace Sys2Proof.Machine

/-! Masks of banks -/

theorem popCount_congr {n k : Nat} : ∀ w : Nat, (∀ j < w, n.testBit j = k.testBit j) → popCount n w = popCount k w
  | 0, _ => rfl
  | w + 1, h => by rw [popCount, popCount, popCount_congr w fun j hj => h j (by omega), h w (by omega)]

/-- One bit that differs adds at most one. -/
theorem popCount_le_succ {n k b : Nat} : ∀ w : Nat, (∀ j < w, j ≠ b → n.testBit j = k.testBit j) → popCount n w ≤ popCount k w + 1
  | 0, _ => Nat.zero_le _
  | w + 1, h => by
    rw [popCount, popCount]
    by_cases hb : w = b
    · rw [popCount_congr w fun j hj => h j (by omega) (by omega)]
      have := b2n_lt (n.testBit w)
      omega
    · have := popCount_le_succ w fun j hj hne => h j (by omega) hne
      rw [h w (by omega) hb]
      omega

/-- The banks of a condition added to a mask. -/
theorem bit_foldl_withBit (p : Nat → Bool) (m j k : Nat) :
    bit ((List.range k).foldl (fun n b => if p b then withBit n b else n) m) j = (bit m j || (decide (j < k) && p j)) := by
  induction k with
  | zero => simp
  | succ k ih =>
    rw [List.range_succ, List.foldl_append, List.foldl_cons, List.foldl_nil]
    by_cases hj : j = k
    · subst hj
      split
      next hp => simp [bit_withBit_same, hp]
      next hp => simp [ih, hp]
    · have hlt : decide (j < k + 1) = decide (j < k) := decide_eq_decide.mpr (by omega)
      have hbit : ∀ n, bit (withBit n k) j = bit n j := fun n => by
        simp [bit, withBit, Nat.testBit_or, Nat.one_shiftLeft, Ne.symm hj]
      rw [hlt, ← ih]
      split
      · exact hbit _
      · rfl

/-- Of a mask with one bank in it, only that bank is asked for. -/
theorem foldl_one_bank (f : Nat → State → State) (b k : Nat) (s : State) :
    (List.range k).foldl (fun s c => if bit (2 ^ b) c then f c s else s) s = if b < k then f b s else s := by
  induction k with
  | zero => rfl
  | succ k ih =>
    rw [List.range_succ, List.foldl_append, List.foldl_cons, List.foldl_nil, ih, bit, Nat.testBit_two_pow]
    by_cases hb : b = k
    · simp [hb]
    · rw [if_neg (by simpa using hb)]
      exact if_congr (by omega) rfl rfl

theorem lowestBank_two_pow : ∀ b < 16, lowestBank (2 ^ b) = some b := by decide

/-! The start of a copy -/

/-- The fields in which a bank's store shows before it commits. -/
def copyFlds : List Fld := [F.CIS_STATUS_DIRTY, F.CIS_STATUS_COPYING, F.CIS_QUEUE_WAITING]

/-- The state without the registers and the shadow planes. -/
def beyondCopies (s : State) : State := { s with regs := [], cis := { s.cis with planes := [] } }

theorem eq_of_beyondCopies {s t : State} (h : beyondCopies t = beyondCopies s) :
    t = { s with regs := t.regs, cis := { s.cis with planes := t.cis.planes } } :=
  congrArg (fun u : State => { u with regs := t.regs, cis := { u.cis with planes := t.cis.planes } }) h

/-- The planes of bank `b` with the copy begun (R208). -/
def begun (b : Nat) (s : State) : List (Plane × Plane) :=
  upd s.cis.planes b fun _ => updTarget (planesOf b s) fun _ =>
    { beg := some (storesOf (planesOf b s) + 1, rtc s), trl := none, data := bankData b s }

/-- The bank shown as one that copies: it waits no more and is not dirty. -/
def showCopy (b : Nat) (s : State) : State :=
  putBit F.CIS_STATUS_COPYING b true (putBit F.CIS_STATUS_DIRTY b false (putBit F.CIS_QUEUE_WAITING b false s))

theorem startCopy_eq (b : Nat) (s : State) : startCopy b s = showCopy b { s with cis := { s.cis with planes := begun b s } } := rfl

theorem Touches.startCopy {L : List Fld} {r : Sparse Word} {b : Nat} {s : State} (h : Touches L r s.regs) (hL : copyFlds ⊆ L) :
    Touches L r (startCopy b s).regs :=
  have hw : Touches L r (putBit F.CIS_QUEUE_WAITING b false { s with cis := { s.cis with planes := begun b s } }).regs :=
    Touches.put h (hL (by decide)) rfl rfl
  (hw.put (f := F.CIS_STATUS_DIRTY) (hL (by decide)) rfl rfl).put (hL (by decide)) rfl rfl

theorem fbit_of_get_zero {f : Fld} {b : Nat} {s : State} (h : get f s = 0) : fbit f b s = false := by
  rw [fbit, h, bit, Nat.zero_testBit]

/-- A field is told by its bits. -/
theorem get_eq_of_fbit {f : Fld} {n : Nat} {s : State} (hn : n < 2 ^ f.width) (h : ∀ j < f.width, fbit f j s = n.testBit j) :
    get f s = n := by
  refine Nat.eq_of_testBit_eq fun j => ?_
  by_cases hj : j < f.width
  · exact h j hj
  · have hle : 2 ^ f.width ≤ 2 ^ j := Nat.pow_le_pow_right (by decide) (Nat.not_lt.mp hj)
    rw [Nat.testBit_lt_two_pow (hn.trans_le hle), Nat.testBit_lt_two_pow (Nat.lt_of_lt_of_le (rget_lt f s.regs) hle : get f s < 2 ^ j)]

section
variable {b j : Nat} {s : State} (hs : sparseWf (0 : Word) s.regs = true)
include hs

theorem fbit_put_apart {f g : Fld} (v : Nat) (hf : f.inWord = true) (hd : f.apart g = true) : fbit g j (put f v s) = fbit g j s := by
  rw [fbit, fbit, get_put_apart v hs hf hd]

/-- The bank whose copy starts copies, is not dirty and does not wait; the other banks stand as before (R207, R208). -/
theorem fbit_showCopy (hj : j < 16) :
    fbit F.CIS_STATUS_COPYING j (showCopy b s) = (if j = b then true else fbit F.CIS_STATUS_COPYING j s) ∧
    fbit F.CIS_STATUS_DIRTY j (showCopy b s) = (if j = b then false else fbit F.CIS_STATUS_DIRTY j s) ∧
    fbit F.CIS_QUEUE_WAITING j (showCopy b s) = (if j = b then false else fbit F.CIS_QUEUE_WAITING j s) := by
  have hw : sparseWf (0 : Word) (putBit F.CIS_QUEUE_WAITING b false s).regs = true := rput_wf _ _ _ hs
  have hd : sparseWf (0 : Word) (putBit F.CIS_STATUS_DIRTY b false (putBit F.CIS_QUEUE_WAITING b false s)).regs = true := rput_wf _ _ _ hw
  rw [showCopy]
  refine ⟨?_, ?_, ?_⟩
  · rw [fbit_putBit b j true hd rfl hj, putBit, fbit_put_apart hw _ rfl rfl, putBit, fbit_put_apart hs _ rfl rfl]
  · rw [putBit, fbit_put_apart hd _ rfl rfl, fbit_putBit b j false hw rfl hj, putBit, fbit_put_apart hs _ rfl rfl]
  · rw [putBit, fbit_put_apart hd _ rfl rfl, putBit, fbit_put_apart hw _ rfl rfl, fbit_putBit b j false hs rfl hj]

theorem fbit_startCopy (hj : j < 16) :
    fbit F.CIS_STATUS_COPYING j (startCopy b s) = (if j = b then true else fbit F.CIS_STATUS_COPYING j s) ∧
    fbit F.CIS_STATUS_DIRTY j (startCopy b s) = (if j = b then false else fbit F.CIS_STATUS_DIRTY j s) ∧
    fbit F.CIS_QUEUE_WAITING j (startCopy b s) = (if j = b then false else fbit F.CIS_QUEUE_WAITING j s) :=
  fbit_showCopy (s := { s with cis := { s.cis with planes := begun b s } }) hs hj

/-- A bank alone in the queue leaves it, and copies alone when none copied. -/
theorem get_startCopy (hc : get F.CIS_STATUS_COPYING s = 0) (hw : get F.CIS_QUEUE_WAITING s = 2 ^ b) (hb : b < 16) :
    get F.CIS_STATUS_COPYING (startCopy b s) = 2 ^ b ∧ get F.CIS_QUEUE_WAITING (startCopy b s) = 0 := by
  refine ⟨get_eq_of_fbit (Nat.pow_lt_pow_right (by decide) hb) fun j hj => ?_,
    get_eq_of_fbit (Nat.two_pow_pos _) fun j hj => ?_⟩
  · obtain ⟨hcopy, -, -⟩ := fbit_startCopy hs (b := b) hj
    rw [hcopy, fbit_of_get_zero hc, Nat.testBit_two_pow]
    obtain rfl | h := eq_or_ne j b
    · simp
    · simp [h, h.symm]
  · obtain ⟨-, -, hwait⟩ := fbit_startCopy hs (b := b) hj
    rw [hwait, fbit, hw, bit, Nat.testBit_two_pow, Nat.zero_testBit]
    obtain rfl | h := eq_or_ne j b
    · simp
    · simp [h, h.symm]

end

/-! The store engines -/

section
variable {s : State}

theorem startStores_idle (h : get F.CIS_QUEUE_WAITING s = 0) : ∀ n, startStores n s = s
  | 0 => rfl
  | n + 1 => by
    rw [startStores, h]
    exact ite_self _

theorem startStores_full (h : popCount (get F.CIS_STATUS_COPYING s) 16 = 4) (n : Nat) : startStores (n + 1) s = s := by
  rw [startStores, if_pos h.ge]

/-- What every copy that an engine may begin keeps, the engines keep (R208). -/
theorem startStores_induct {P : State → Prop}
    (hcopy : ∀ b t, popCount (get F.CIS_STATUS_COPYING t) 16 < 4 → P t → P (startCopy b t)) (n : Nat) (h : P s) :
    P (startStores n s) := by
  induction n generalizing s with
  | zero => exact h
  | succ n ih =>
    rw [startStores]
    split
    · exact h
    next hfree =>
      split
      · exact h
      next b _ => exact ih (hcopy b s (by omega) h)

end

/-- What the store engines make of a queue: at most four banks copy, and what waited or copied still does one or the other (R207, R208). -/
structure Stored (s t : State) : Prop where
  touches : Touches copyFlds s.regs t.regs
  rest : beyondCopies t = beyondCopies s
  engines : popCount (get F.CIS_STATUS_COPYING t) 16 ≤ 4
  accepted : ∀ b < 16, (fbit F.CIS_STATUS_COPYING b s || fbit F.CIS_QUEUE_WAITING b s) = true →
    (fbit F.CIS_STATUS_COPYING b t || fbit F.CIS_QUEUE_WAITING b t) = true

theorem Stored.startCopy {s t : State} {b : Nat} (h : Stored s t) (hfree : popCount (get F.CIS_STATUS_COPYING t) 16 < 4) :
    Stored s (startCopy b t) where
  touches := h.touches.startCopy (List.Subset.refl _)
  rest := h.rest
  engines := by
    refine (popCount_le_succ (b := b) (k := get F.CIS_STATUS_COPYING t) 16 fun j hj hne => ?_).trans hfree
    obtain ⟨hcopy, -, -⟩ := fbit_startCopy (b := b) h.touches.wf hj
    rw [if_neg hne] at hcopy
    exact hcopy
  accepted j hj hheld := by
    obtain ⟨hcopy, -, hwait⟩ := fbit_startCopy (b := b) h.touches.wf hj
    rw [hcopy, hwait]
    split
    · rfl
    · exact h.accepted j hj hheld

theorem startStores_stored {s : State} (hs : sparseWf (0 : Word) s.regs = true) (h4 : popCount (get F.CIS_STATUS_COPYING s) 16 ≤ 4)
    (n : Nat) : Stored s (startStores n s) :=
  startStores_induct (P := Stored s) (fun _ _ hfree h => h.startCopy hfree) n ⟨.refl hs, rfl, h4, fun _ _ h => h⟩

/-! The periodic store -/

/-- The queue with every dirty bank that does not copy. -/
def queued (s : State) : Nat :=
  (List.range 16).foldl (fun n b => if fbit F.CIS_STATUS_DIRTY b s && !(fbit F.CIS_STATUS_COPYING b s) then withBit n b else n)
    (get F.CIS_QUEUE_WAITING s)

/-- The queue of a periodic store, the next of which is timed from now on. -/
def queueStores (s : State) : State :=
  put F.CIS_QUEUE_WAITING (queued s) (raiseIf (get F.CIS_QUEUE_WAITING s != 0) F.CIS_CAUSE_STORE_MERGED
    (updCis (fun c => { c with tickAt := c.tickAt + storePeriod s }) s))

theorem exec_periodicStoreTick_due {s : State} (hr : cisReady s = true) (hp : periodOver s = true) :
    exec .periodicStoreTick s = .next (startStores 4 (queueStores s)) := by
  show execPeriodicStoreTick s = _
  rw [execPeriodicStoreTick]
  exact onlyIf_of_true (by rw [hr, hp]; rfl) _ s

theorem exec_periodicStoreTick_idle {s : State} (h : cisReady s = false ∨ s.sup.mono < s.cis.tickAt + 61440 * get F.CIS_CFG_PERIOD s) :
    exec .periodicStoreTick s = .next s := by
  show execPeriodicStoreTick s = _
  rw [execPeriodicStoreTick]
  refine onlyIf_of_false ?_ _ s
  obtain h | h := h
  · rw [h, Bool.false_and]
  · rw [periodOver, storePeriod, decide_eq_false (by omega), Bool.and_false]

section
variable {s : State} (hs : sparseWf (0 : Word) s.regs = true)
include hs

/-- A dirty bank copies or is in the queue, no copy is touched, and a bank that waited already is told as merged (R207, R210). -/
theorem queueStores_spec :
    Touches [F.CIS_QUEUE_WAITING, F.CIS_CAUSE_STORE_MERGED, F.INT_HOST_PEND_PEND] s.regs (queueStores s).regs ∧
    (get F.CIS_QUEUE_WAITING s ≠ 0 → Raised F.CIS_CAUSE_STORE_MERGED s (queueStores s)) ∧
    ∀ b < 16, fbit F.CIS_STATUS_DIRTY b s = true →
      (fbit F.CIS_STATUS_COPYING b (queueStores s) || fbit F.CIS_QUEUE_WAITING b (queueStores s)) = true := by
  have hmerge : Touches [F.CIS_QUEUE_WAITING, F.CIS_CAUSE_STORE_MERGED, F.INT_HOST_PEND_PEND] s.regs
      (raiseIf (get F.CIS_QUEUE_WAITING s != 0) F.CIS_CAUSE_STORE_MERGED
        (updCis (fun c => { c with tickAt := c.tickAt + storePeriod s }) s)).regs :=
    Touches.raiseIf (t := updCis (fun c => { c with tickAt := c.tickAt + storePeriod s }) s) (.refl hs) (by decide) (by decide) rfl rfl
  have hqueue := hmerge.put (f := F.CIS_QUEUE_WAITING) (v := queued s) (by decide) rfl rfl
  refine ⟨hqueue, fun hw => ?_, fun b hb hd => ?_⟩
  · refine Raised.put _ ?_ hmerge.wf rfl rfl rfl
    rw [raiseIf, if_pos (bne_iff_ne.mpr hw)]
    exact raised_raise hs rfl (by decide) (by decide) (by decide) rfl
  · have hcopy : fbit F.CIS_STATUS_COPYING b (queueStores s) = fbit F.CIS_STATUS_COPYING b s := hqueue.fbit (by decide)
    have hwait : fbit F.CIS_QUEUE_WAITING b (queueStores s) = bit (queued s) b := by
      rw [queueStores, fbit, get_put_same _ hmerge.wf rfl, bit, Nat.testBit_mod_two_pow, decide_eq_true hb]
      rfl
    rw [hcopy, hwait, queued, bit_foldl_withBit, hd, decide_eq_true hb]
    cases fbit F.CIS_STATUS_COPYING b s <;> simp

/-- A periodic store moves the queue on, and beside it only the planes and the time of the next one change. -/
theorem periodicStore_spec (h4 : popCount (get F.CIS_STATUS_COPYING s) 16 ≤ 4) {t : State} (ht : t = startStores 4 (queueStores s)) :
    popCount (get F.CIS_STATUS_COPYING t) 16 ≤ 4 ∧
    (∀ b < 16, fbit F.CIS_STATUS_DIRTY b s = true → fbit F.CIS_STATUS_COPYING b t = true ∨ fbit F.CIS_QUEUE_WAITING b t = true) ∧
    (get F.CIS_QUEUE_WAITING s ≠ 0 → Raised F.CIS_CAUSE_STORE_MERGED s t) ∧
    OnlyFlds [F.CIS_STATUS_DIRTY, F.CIS_STATUS_COPYING, F.CIS_QUEUE_WAITING, F.CIS_CAUSE_STORE_MERGED, F.INT_HOST_PEND_PEND]
      { s with cis := { s.cis with planes := t.cis.planes, tickAt := s.cis.tickAt + 61440 * get F.CIS_CFG_PERIOD s } } t := by
  obtain ⟨hqueue, hmerged, hdirty⟩ := queueStores_spec hs
  have hcopying : get F.CIS_STATUS_COPYING (queueStores s) = get F.CIS_STATUS_COPYING s := hqueue.get (by decide)
  have hst : Stored (queueStores s) t := ht ▸ startStores_stored hqueue.wf (hcopying ▸ h4) 4
  refine ⟨hst.engines, fun b hb hd => Bool.or_eq_true _ _ ▸ hst.accepted b hb (hdirty b hb hd), fun hw =>
    (hmerged hw).touches hst.touches (by decide), ((hqueue.mono (by decide)).trans (hst.touches.mono (by decide))).onlyFlds ?_ rfl⟩
  refine eq_of_beyondCopies (s := { s with cis := { s.cis with planes := t.cis.planes, tickAt := _ } }) (hst.rest.trans ?_)
  unfold queueStores raiseIf
  split
  · rw [raise_eq]
    rfl
  · rfl

end

/-! A write of `CIS_CTL` -/

section
variable {m : Master} {w : Word} {b : Nat} {s : State}

theorem exec_storeCommand_wrongKey (h : Writable m R.CIS_CTL s) (hk : arg F.CIS_CTL_KEY w ≠ 0x3C) :
    exec (.storeCommand m w) s = .next s := by
  refine (cmdWrite_of_writable _ h).trans ?_
  rw [cisCtlWrite, if_pos hk]

/-- A host may not have a bank below 14 stored (R224). -/
theorem exec_storeCommand_denied (h : Writable m R.CIS_CTL s) (hh : isHost m = true) (hk : arg F.CIS_CTL_KEY w = 0x3C) (hb : b < 14)
    (hbit : bit (arg F.CIS_CTL_BANKS w) b = true) : exec (.storeCommand m w) s = .next (raise F.HIF_CAUSE_DENIED s) := by
  refine (cmdWrite_of_writable _ h).trans ?_
  have hall : ((List.range 16).all fun n =>
      !(bit (arg F.CIS_CTL_BANKS w) n) || (decide (14 ≤ n) && hostMay (ifaceOf m) n 1 s)) = false := by
    refine List.all_eq_false.mpr ⟨b, List.mem_range.mpr (by omega), ?_⟩
    simp [hbit, Nat.not_le.mpr hb]
  rw [cisCtlWrite, if_neg (not_not.mpr hk), hall, hh]
  exact congrArg _ (if_pos hh)

variable (h : Writable m R.CIS_CTL s) (hh : isHost m = false) (hk : arg F.CIS_CTL_KEY w = 0x3C)
include h hh hk

theorem exec_storeCommand_engine : exec (.storeCommand m w) s = .next (storeBanks (arg F.CIS_CTL_BANKS w) s) := by
  refine (cmdWrite_of_writable _ h).trans ?_
  rw [cisCtlWrite, if_neg (not_not.mpr hk), hh]
  rfl

/-- While a power-fail store may run no store is taken (R56). -/
theorem exec_storeCommand_refused (hr : s.sup.mode = .frozen ∨ flag F.PMU_VMON_VDD_OK s = false) :
    exec (.storeCommand m w) s = .next (raise F.CIS_CAUSE_STORE_REFUSED s) := by
  have h7 : domOn 7 s = true := h.1
  rw [exec_storeCommand_engine h hh hk, storeBanks, h7, Bool.not_true, if_neg Bool.false_ne_true]
  refine congrArg _ (if_pos ?_)
  obtain hr | hr := hr <;> simp [hr]

/-- A store of one bank: it is requested, then the store engines take what waits (R210, R208). -/
theorem exec_storeCommand_one (hb : b < 16) (hw : arg F.CIS_CTL_BANKS w = 2 ^ b) (hm : s.sup.mode ≠ .frozen)
    (hv : flag F.PMU_VMON_VDD_OK s = true) : exec (.storeCommand m w) s = .next (startStores 4 (requestStore b s)) := by
  have h7 : domOn 7 s = true := h.1
  rw [exec_storeCommand_engine h hh hk, hw, storeBanks, h7, Bool.not_true, if_neg Bool.false_ne_true,
    foldl_one_bank requestStore b 16 s, if_pos hb]
  refine congrArg _ (if_neg ?_)
  simp [hm, hv]

end

section
variable {b : Nat} {s : State}

theorem requestStore_copying (hc : fbit F.CIS_STATUS_COPYING b s = true) : requestStore b s = raise F.CIS_CAUSE_STORE_REFUSED s := by
  rw [requestStore, if_pos hc]

theorem requestStore_waiting (hc : fbit F.CIS_STATUS_COPYING b s = false) (hw : fbit F.CIS_QUEUE_WAITING b s = true) :
    requestStore b s = raise F.CIS_CAUSE_STORE_MERGED s := by
  rw [requestStore, hc, if_neg Bool.false_ne_true, if_pos hw]

theorem requestStore_clean (hc : fbit F.CIS_STATUS_COPYING b s = false) (hw : fbit F.CIS_QUEUE_WAITING b s = false)
    (hd : fbit F.CIS_STATUS_DIRTY b s = false) : requestStore b s = raise F.CIS_CAUSE_STORE_DONE s := by
  rw [requestStore, hc, hw, hd]
  rfl

theorem requestStore_dirty (hc : fbit F.CIS_STATUS_COPYING b s = false) (hw : fbit F.CIS_QUEUE_WAITING b s = false)
    (hd : fbit F.CIS_STATUS_DIRTY b s = true) : requestStore b s = putBit F.CIS_QUEUE_WAITING b true s := by
  rw [requestStore, hc, hw, hd]
  rfl

/-- A request told by its cause alone. -/
theorem storeTold (c : Fld) (hc : c ∈ [F.CIS_CAUSE_STORE_REFUSED, F.CIS_CAUSE_STORE_MERGED, F.CIS_CAUSE_STORE_DONE]) (s : State) :
    Raised c s (raise c s) ∧ OnlyFlds [c, F.INT_HOST_PEND_PEND] s (raise c s) := by
  simp only [List.mem_cons, List.not_mem_nil, or_false] at hc
  obtain rfl | rfl | rfl := hc <;>
    exact ⟨raised_raise_of_rd rfl (by decide) (by decide) rfl rfl, onlyFlds_raise rfl (by decide) (by decide) s⟩

variable (hs : sparseWf (0 : Word) s.regs = true)
include hs

/-- The engines take the one bank that waits (R208). -/
theorem startStores_one (hc : get F.CIS_STATUS_COPYING s = 0) (hw : get F.CIS_QUEUE_WAITING s = 2 ^ b) (hb : b < 16) (n : Nat) :
    startStores (n + 1) s = startCopy b s := by
  rw [startStores, hc, hw, if_neg (by decide), lowestBank_two_pow b hb]
  refine startStores_idle ?_ n
  exact (get_startCopy hs hc hw hb).2

/-- A dirty bank requested while nothing waits or copies: its copy starts at once (R207, R208). -/
theorem storeDirty_spec (hb : b < 16) (hd : fbit F.CIS_STATUS_DIRTY b s = true) (hc : get F.CIS_STATUS_COPYING s = 0)
    (hw : get F.CIS_QUEUE_WAITING s = 0) {t : State} (ht : t = startStores 4 (requestStore b s)) :
    get F.CIS_STATUS_COPYING t = 2 ^ b ∧ get F.CIS_QUEUE_WAITING t = 0 ∧ fbit F.CIS_STATUS_DIRTY b t = false ∧
      t.cis.planes = begun b s ∧
      OnlyFlds [F.CIS_STATUS_DIRTY, F.CIS_STATUS_COPYING, F.CIS_QUEUE_WAITING]
        { s with cis := { s.cis with planes := t.cis.planes } } t := by
  have hwait : Touches copyFlds s.regs (putBit F.CIS_QUEUE_WAITING b true s).regs := Touches.put (.refl hs) (by decide) rfl rfl
  have hcopying : get F.CIS_STATUS_COPYING (putBit F.CIS_QUEUE_WAITING b true s) = 0 := (get_put_apart _ hs rfl rfl).trans hc
  have hwaiting : get F.CIS_QUEUE_WAITING (putBit F.CIS_QUEUE_WAITING b true s) = 2 ^ b := by
    rw [putBit, get_put_same _ hs rfl, hw, if_pos rfl, withBit, Nat.zero_or, Nat.one_shiftLeft]
    exact Nat.mod_eq_of_lt (Nat.pow_lt_pow_right (by decide) hb)
  have hplanes : begun b (putBit F.CIS_QUEUE_WAITING b true s) = begun b s := by
    rw [begun, putBit, rtc_put _ _ (by decide)]
    rfl
  rw [requestStore_dirty (fbit_of_get_zero hc) (fbit_of_get_zero hw) hd, startStores_one hwait.wf hcopying hwaiting hb] at ht
  subst ht
  obtain ⟨hget, hqueue⟩ := get_startCopy hwait.wf hcopying hwaiting hb
  obtain ⟨-, hdirty, -⟩ := fbit_startCopy hwait.wf (b := b) hb
  rw [if_pos rfl] at hdirty
  exact ⟨hget, hqueue, hdirty, hplanes, (hwait.startCopy (List.Subset.refl _)).onlyFlds rfl rfl⟩

end


theorem exec_storeCommit_idle {b : Nat} {s : State} (h : domOn 7 s = false ∨ 16 ≤ b ∨ fbit F.CIS_STATUS_COPYING b s = false) :
    exec (.storeCommit b) s = .next s := by
  show execStoreCommit b s = _
  rw [execStoreCommit, onlyIf_of_false]
  obtain h | h | h := h
  · rw [h, Bool.false_and, Bool.false_and]
  · rw [decide_eq_false (by omega), Bool.and_false, Bool.false_and]
  · rw [h, Bool.and_false]

/-! The commit -/

/-- What a commit notes beside the registers: the trailer, and that a write that waited for the commit has made the bank dirty. -/
def noteTrailer (b : Nat) (s : State) : State :=
  { s with cis := { s.cis with
    planes := upd s.cis.planes b fun _ => updTarget (planesOf b s) fun x => { x with trl := some (storesOf (planesOf b s) + 1, run s, rtc s) }
    late := if bit s.cis.late b then noBit s.cis.late b else s.cis.late } }

/-- What a commit shows of its bank: it copies no more, the stamp, the store count. -/
def stampShown (b : Nat) (s : State) : List (Fld × Nat) :=
  [(F.CIS_STATUS_COPYING, noBit (get F.CIS_STATUS_COPYING s) b), (F.CIS_STAMP_RTC b, rtc s), (F.CIS_WEAR_STORES b, storesOf (planesOf b s) + 1)]

/-- The bank with its trailer and its stamp. -/
def stamped (b : Nat) (s : State) : State := putAll (stampShown b s) (noteTrailer b s)

/-- The bank, dirty where it was written while it copied (R209). -/
def dirtyLate (b : Nat) (s : State) : State := if bit s.cis.late b then putBit F.CIS_STATUS_DIRTY b true (stamped b s) else stamped b s

/-- The commit told, with a warning above 900 000 stores (R208, R225). -/
def tellCommit (b : Nat) (s : State) : State :=
  raise F.CIS_CAUSE_STORE_DONE (raiseIf (decide (900000 < storesOf (planesOf b s) + 1)) F.CIS_CAUSE_WEAR_WARN (dirtyLate b s))

/-- The reading counter's reserve starts anew with a store of bank 0 (R236). -/
def startReserve (b : Nat) (s : State) : State := if b = 0 ∧ domOn 5 s then put F.OBJ_READ_RESERVE_SINCE_STORE 0 s else s

/-- The fields of the stamp. -/
def stampFlds (b : Nat) : List Fld := [F.CIS_STATUS_COPYING, F.CIS_STAMP_RTC b, F.CIS_WEAR_STORES b]

/-- The fields in which a commit is told. -/
def tellFlds : List Fld := [F.CIS_CAUSE_WEAR_WARN, F.CIS_CAUSE_STORE_DONE, F.INT_HOST_PEND_PEND]

/-- All that the commit of bank `b` may touch. -/
def commitFlds (b : Nat) : List Fld :=
  [F.CIS_STATUS_COPYING, F.CIS_STATUS_DIRTY, F.CIS_STAMP_RTC b, F.CIS_WEAR_STORES b, F.CIS_CAUSE_WEAR_WARN,
    F.CIS_CAUSE_STORE_DONE, F.OBJ_READ_RESERVE_SINCE_STORE, F.INT_HOST_PEND_PEND]

theorem stampFlds_apart : ∀ b < 16, FieldsApart (F.INT_HOST_PEND_PEND :: stampFlds b) := by decide

/-- The fields that a commit touches after the stamp. -/
def afterStampFlds : List Fld := F.CIS_STATUS_DIRTY :: tellFlds ++ [F.OBJ_READ_RESERVE_SINCE_STORE]

theorem afterStampFlds_apart : ∀ b < 16, ∀ f ∈ afterStampFlds, ∀ g ∈ stampFlds b, f.apart g = true := by decide

theorem stampFlds_beside : ∀ b < 16, ∀ f ∈ stampFlds b, f.apart F.CIS_STATUS_DIRTY = true := by decide

theorem commitFlds_beside : ∀ b < 16, ∀ f ∈ commitFlds b, f.addr ≠ R.CIS_CAUSE_EN ∧ f.addr ≠ R.PMU_DOM_STATUS ∧
    f.addr ≠ R.CIS_QUEUE := by decide

@[simp] theorem beyondRegs_raise (f : Fld) (s : State) : beyondRegs (raise f s) = beyondRegs s := by
  rw [raise_eq]
  rfl

@[simp] theorem beyondRegs_raiseIf (c : Bool) (f : Fld) (s : State) : beyondRegs (raiseIf c f s) = beyondRegs s := by
  unfold raiseIf
  split
  · exact beyondRegs_raise f s
  · rfl

theorem beyondRegs_tellCommit (b : Nat) (s : State) : beyondRegs (tellCommit b s) = beyondRegs (noteTrailer b s) := by
  rw [tellCommit, beyondRegs_raise, beyondRegs_raiseIf, dirtyLate]
  split <;> rfl

theorem beyondRegs_startReserve (b : Nat) (s : State) : beyondRegs (startReserve b s) = beyondRegs s := by
  unfold startReserve
  split <;> rfl

/-- A commit changes registers, the planes and the note of late writes. -/
theorem beyondRegs_committed (b : Nat) (s : State) :
    beyondRegs (startReserve b (tellCommit b s)) = beyondRegs (noteTrailer b s) :=
  (beyondRegs_startReserve b _).trans (beyondRegs_tellCommit b s)

/-- Nothing hangs on the store: it is not requested again, and no activation waits for it. -/
theorem afterCommit_quiet {b : Nat} {s : State} (ha : bit s.cis.again b = false) (hact : b ≠ 1 ∨ s.obj.actWait = false) :
    afterCommit b s = startReserve b s := by
  have hno : ¬(b = 1 ∧ s.obj.actWait = true) := fun h => hact.elim (· h.1) fun hf => Bool.false_ne_true (hf.symm.trans h.2)
  rw [afterCommit, requestAgain, ha, if_neg Bool.false_ne_true, if_neg hno, startReserve]

section
variable {b : Nat} {s : State} (hs : sparseWf (0 : Word) s.regs = true) (hb : b < 16)
include hs hb

theorem stamped_spec : (∀ e ∈ stampShown b s, get e.1 (stamped b s) = e.2 % 2 ^ e.1.width) ∧
    Touches (stampFlds b) s.regs (stamped b s).regs :=
  putAll_spec (s := noteTrailer b s) hs (stampFlds b) rfl (stampFlds_apart b hb)

/-- The bank that committed copies no more; the others stand as before (R208). -/
theorem fbit_stamped {j : Nat} (hj : j < 16) :
    fbit F.CIS_STATUS_COPYING j (stamped b s) = (fbit F.CIS_STATUS_COPYING j s && decide (j ≠ b)) := by
  obtain ⟨hget, -⟩ := stamped_spec hs hb
  rw [fbit, hget _ (.head _), bit, Nat.testBit_mod_two_pow, decide_eq_true hj, Bool.true_and, testBit_noBit]
  rfl

/-- The bank written late becomes dirty; the others stand as before (R209). -/
theorem dirtyLate_spec : Touches [F.CIS_STATUS_DIRTY] (stamped b s).regs (dirtyLate b s).regs ∧
    ∀ j < 16, fbit F.CIS_STATUS_DIRTY j (dirtyLate b s) = (decide (j = b) && bit s.cis.late b || fbit F.CIS_STATUS_DIRTY j s) := by
  obtain ⟨-, hstamp⟩ := stamped_spec hs hb
  have hkept : ∀ j, fbit F.CIS_STATUS_DIRTY j (stamped b s) = fbit F.CIS_STATUS_DIRTY j s := fun j =>
    hstamp.fbit (stampFlds_beside b hb)
  unfold dirtyLate
  split
  next hl =>
    refine ⟨Touches.put (.refl hstamp.wf) (by decide) rfl rfl, fun j hj => ?_⟩
    rw [fbit_putBit b j true hstamp.wf rfl hj, hkept, hl]
    split <;> simp [*]
  next hl =>
    refine ⟨.refl hstamp.wf, fun j _ => ?_⟩
    rw [hkept, eq_false_of_ne_true hl, Bool.and_false, Bool.false_or]

theorem touches_tellCommit : Touches tellFlds (dirtyLate b s).regs (tellCommit b s).regs := by
  obtain ⟨hlate, -⟩ := dirtyLate_spec hs hb
  exact ((Touches.refl hlate.wf).raiseIf (by decide) (by decide) rfl rfl).raise (by decide) (by decide) rfl rfl

theorem touches_startReserve : Touches [F.OBJ_READ_RESERVE_SINCE_STORE] (tellCommit b s).regs (startReserve b (tellCommit b s)).regs := by
  have htell := touches_tellCommit hs hb
  unfold startReserve
  split
  · exact Touches.put (.refl htell.wf) (by decide) rfl rfl
  · exact .refl htell.wf

/-- What the commit touches up to the causes. -/
theorem touches_dirtyLate : Touches (commitFlds b) s.regs (dirtyLate b s).regs :=
  ((stamped_spec hs hb).2.mono (by simp [stampFlds, commitFlds])).trans ((dirtyLate_spec hs hb).1.mono (by simp [commitFlds]))

theorem touches_told : Touches (commitFlds b) s.regs (tellCommit b s).regs :=
  (touches_dirtyLate hs hb).trans ((touches_tellCommit hs hb).mono (by simp [tellFlds, commitFlds]))

theorem raised_storeDone : Raised F.CIS_CAUSE_STORE_DONE s (tellCommit b s) := by
  have hwarn : Touches (commitFlds b) s.regs
      (raiseIf (decide (900000 < storesOf (planesOf b s) + 1)) F.CIS_CAUSE_WEAR_WARN (dirtyLate b s)).regs :=
    (touches_dirtyLate hs hb).raiseIf (by simp [commitFlds]) (by simp [commitFlds]) rfl rfl
  exact hwarn.raised rfl (by decide) (by decide) (by decide) fun f hf => (commitFlds_beside b hb f hf).1

/-- Above 900 000 stores each commit warns (R225). -/
theorem raised_wearWarn (hn : 900000 < storesOf (planesOf b s) + 1) : Raised F.CIS_CAUSE_WEAR_WARN s (tellCommit b s) := by
  have hlate := touches_dirtyLate hs hb
  have hwarn := hlate.raised (c := F.CIS_CAUSE_WEAR_WARN) rfl (by decide) (by decide) (by decide) fun f hf => (commitFlds_beside b hb f hf).1
  rw [tellCommit, decide_eq_true hn]
  exact hwarn.raise (hlate.raise (by simp [commitFlds]) (by simp [commitFlds]) rfl rfl).wf rfl rfl rfl rfl

theorem touches_committed : Touches (commitFlds b) s.regs (startReserve b (tellCommit b s)).regs :=
  (touches_told hs hb).trans ((touches_startReserve hs hb).mono (by simp [commitFlds]))

/-- What follows the stamp touches no field of it. -/
theorem touches_afterStamp : Touches afterStampFlds (stamped b s).regs (startReserve b (tellCommit b s)).regs :=
  ((dirtyLate_spec hs hb).1.mono (by decide)).trans
    (((touches_tellCommit hs hb).mono (by decide)).trans ((touches_startReserve hs hb).mono (by decide)))

/-- While nothing hangs on the store, the commit is its trailer, its stamp and its causes, and for bank 0 the reserve (R208, R236). -/
theorem commitStore_eq (hw : get F.CIS_QUEUE_WAITING s = 0) (ha : bit s.cis.again b = false) (hact : b ≠ 1 ∨ s.obj.actWait = false)
    (hpf : s.cis.pfStore = false) : commitStore b s = startReserve b (tellCommit b s) := by
  unfold commitStore
  extract_lets p n p' c0 s1 s2 s3 s4 s5
  have h2 : s2 = put (F.CIS_WEAR_STORES b) n (put (F.CIS_STAMP_RTC b) (rtc s) s1) :=
    congrArg (fun x => put (F.CIS_WEAR_STORES b) n (put (F.CIS_STAMP_RTC b) x s1)) (rtc_put _ _ (by decide))
  have h3 : s3 = dirtyLate b s := by
    show (if bit s.cis.late b then putBit F.CIS_STATUS_DIRTY b true (updCis (fun c => { c with late := noBit c.late b }) s2) else s2) = _
    unfold dirtyLate stamped noteTrailer
    split <;> rw [h2] <;> rfl
  have h4 : s4 = tellCommit b s := congrArg (fun x => raise F.CIS_CAUSE_STORE_DONE
    (raiseIf (decide (900000 < n)) F.CIS_CAUSE_WEAR_WARN x)) h3
  have hrest : beyondRegs s4 = beyondRegs (noteTrailer b s) := h4 ▸ beyondRegs_tellCommit b s
  have hagain : s4.cis.again = s.cis.again := congrArg (·.cis.again) hrest
  have hobj : s4.obj = s.obj := congrArg (·.obj) hrest
  have hwait : get F.CIS_QUEUE_WAITING (startReserve b (tellCommit b s)) = 0 := ((touches_committed hs hb).get fun f hf =>
    Fld.apart_of_addr (commitFlds_beside b hb f hf).2.2).trans hw
  have h5 : s5 = startReserve b (tellCommit b s) := by
    show startStores 4 (afterCommit b s4) = _
    rw [afterCommit_quiet (hagain ▸ ha) (hobj ▸ hact), h4, startStores_idle hwait]
  have hpower : s5.cis.pfStore = false := (congrArg (·.cis.pfStore) (h5 ▸ beyondRegs_committed b s)).trans hpf
  rw [hpower, Bool.false_and, if_neg Bool.false_ne_true, h5]

theorem exec_storeCommit_runs (h7 : domOn 7 s = true) (hc : fbit F.CIS_STATUS_COPYING b s = true)
    (hw : get F.CIS_QUEUE_WAITING s = 0) (ha : bit s.cis.again b = false) (hact : b ≠ 1 ∨ s.obj.actWait = false)
    (hpf : s.cis.pfStore = false) : exec (.storeCommit b) s = .next (startReserve b (tellCommit b s)) := by
  show execStoreCommit b s = _
  rw [execStoreCommit, onlyIf_of_true (by rw [h7, hc, decide_eq_true hb]; rfl), commitStore_eq hs hb hw ha hact hpf]

/-- What a commit leaves (R208, R209, R236). -/
theorem commit_spec {t : State} (ht : t = startReserve b (tellCommit b s)) :
    fbit F.CIS_STATUS_COPYING b t = false ∧ Raised F.CIS_CAUSE_STORE_DONE s t ∧
      fbit F.CIS_STATUS_DIRTY b t = (bit s.cis.late b || fbit F.CIS_STATUS_DIRTY b s) ∧
      (∀ j < 16, j ≠ b → fbit F.CIS_STATUS_DIRTY j t = fbit F.CIS_STATUS_DIRTY j s ∧
        fbit F.CIS_STATUS_COPYING j t = fbit F.CIS_STATUS_COPYING j s) ∧
      get (F.CIS_STAMP_RTC b) t = rtc s ∧
      get (F.CIS_WEAR_STORES b) t = (storesOf (planesOf b s) + 1) % 2 ^ (F.CIS_WEAR_STORES b).width ∧
      (900000 < storesOf (planesOf b s) + 1 → Raised F.CIS_CAUSE_WEAR_WARN s t) ∧
      (b = 0 → domOn 5 s = true → get F.OBJ_READ_RESERVE_SINCE_STORE t = 0) ∧
      t.cis.planes = (noteTrailer b s).cis.planes ∧
      OnlyFlds (commitFlds b) { s with cis := { s.cis with
        planes := t.cis.planes
        late := if bit s.cis.late b then noBit s.cis.late b else s.cis.late } } t := by
  obtain ⟨hstamp, -⟩ := stamped_spec hs hb
  have hafter : Touches afterStampFlds (stamped b s).regs t.regs := ht ▸ touches_afterStamp hs hb
  have hall : Touches (commitFlds b) s.regs t.regs := ht ▸ touches_committed hs hb
  have hrest : beyondRegs t = beyondRegs (noteTrailer b s) := ht ▸ beyondRegs_committed b s
  have hcopying : ∀ j < 16, fbit F.CIS_STATUS_COPYING j t = (fbit F.CIS_STATUS_COPYING j s && decide (j ≠ b)) := fun j hj =>
    (hafter.fbit fun f hf => afterStampFlds_apart b hb f hf _ (by simp [stampFlds])).trans (fbit_stamped hs hb hj)
  have hdirty : ∀ j < 16, fbit F.CIS_STATUS_DIRTY j t = (decide (j = b) && bit s.cis.late b || fbit F.CIS_STATUS_DIRTY j s) :=
    fun j hj => by
      subst ht
      rw [(touches_startReserve hs hb).fbit (by decide), (touches_tellCommit hs hb).fbit (by decide), (dirtyLate_spec hs hb).2 j hj]
  have hplanes : t.cis.planes = (noteTrailer b s).cis.planes := congrArg (·.cis.planes) hrest
  refine ⟨?_, ?_, ?_, fun j hj hne => ⟨?_, ?_⟩, ?_, ?_, fun hn => ?_, fun hb0 h5 => ?_, hplanes, hall.onlyFlds ?_ rfl⟩
  · rw [hcopying b hb]
    simp
  · subst ht
    exact (raised_storeDone hs hb).touches (touches_startReserve hs hb) (by decide)
  · rw [hdirty b hb]
    simp
  · rw [hdirty j hj]
    simp [hne]
  · rw [hcopying j hj]
    simp [hne]
  · rw [hafter.get fun f hf => afterStampFlds_apart b hb f hf _ (by simp [stampFlds]), hstamp (F.CIS_STAMP_RTC b, rtc s) (by simp [stampShown])]
    exact Nat.mod_eq_of_lt (rget_lt F.SUP_RTC_SEC_SEC s.regs)
  · rw [hafter.get fun f hf => afterStampFlds_apart b hb f hf _ (by simp [stampFlds]),
      hstamp (F.CIS_WEAR_STORES b, storesOf (planesOf b s) + 1) (by simp [stampShown])]
  · subst ht
    exact (raised_wearWarn hs hb hn).touches (touches_startReserve hs hb) (by decide)
  · have hon : domOn 5 (tellCommit b s) = true := ((touches_told hs hb).fbit fun f hf =>
      Fld.apart_of_addr (commitFlds_beside b hb f hf).2.1).trans h5
    rw [ht, startReserve, if_pos ⟨hb0, hon⟩, get_put_same _ (touches_told hs hb).wf rfl, Nat.zero_mod]
  · rw [hplanes]
    exact eq_of_beyondRegs hrest

end

/-- Settles O36: the periodic store by the queue it leaves, a command by how its bank stands, the commit by its trailer and its stamp. -/
theorem cisternStores : Obligations.CisternStores := by
  unfold Obligations.CisternStores
  refine ⟨fun s hs hr hp h4 => ⟨_, exec_periodicStoreTick_due hr hp, periodicStore_spec hs.1 h4 rfl⟩,
    fun s => exec_periodicStoreTick_idle, fun s m w b hs h hh hk hb hw hm hv hd hc hq => ?_,
    fun s m w b hs h hh hk hb hw hc hq => ?_, fun s m w b hs h hh hk hb hw hm hv hc hq hfull => ?_,
    fun s m w b hs h hh hk hb hw hm hv hc hd hq => ?_,
    fun s m w hs h hh hk hr => ⟨_, exec_storeCommand_refused h hh hk hr, storeTold F.CIS_CAUSE_STORE_REFUSED (by decide) s⟩,
    fun s m w h hk => exec_storeCommand_wrongKey h hk, fun s m w b h hh hk hb hbit => exec_storeCommand_denied h hh hk hb hbit,
    fun s b hs h7 hb hc hq ha hact hpf => ?_, fun s b h => ?_⟩
  · exact ⟨_, exec_storeCommand_one h hh hk hb hw (by rw [hm]; decide) hv, storeDirty_spec hs.1 hb hd hc hq rfl⟩
  · have hidle : get F.CIS_QUEUE_WAITING (raise F.CIS_CAUSE_STORE_REFUSED s) = 0 := (get_raise_apart hs.1 rfl rfl rfl).trans hq
    refine ⟨raise F.CIS_CAUSE_STORE_REFUSED s, ?_, storeTold _ (by decide) s⟩
    by_cases hr : s.sup.mode = .frozen ∨ flag F.PMU_VMON_VDD_OK s = false
    · exact exec_storeCommand_refused h hh hk hr
    · rw [not_or, Bool.not_eq_false] at hr
      rw [exec_storeCommand_one h hh hk hb hw hr.1 hr.2, requestStore_copying hc, startStores_idle hidle]
  · have hbusy : popCount (get F.CIS_STATUS_COPYING (raise F.CIS_CAUSE_STORE_MERGED s)) 16 = 4 := by
      rw [get_raise_apart hs.1 rfl rfl rfl, hfull]
    refine ⟨_, ?_, storeTold F.CIS_CAUSE_STORE_MERGED (by decide) s⟩
    rw [exec_storeCommand_one h hh hk hb hw hm hv, requestStore_waiting hc hq, startStores_full hbusy]
  · have hidle : get F.CIS_QUEUE_WAITING (raise F.CIS_CAUSE_STORE_DONE s) = 0 := (get_raise_apart hs.1 rfl rfl rfl).trans hq
    refine ⟨_, ?_, storeTold F.CIS_CAUSE_STORE_DONE (by decide) s⟩
    rw [exec_storeCommand_one h hh hk hb hw hm hv, requestStore_clean hc (fbit_of_get_zero hq) hd, startStores_idle hidle]
  · exact ⟨_, exec_storeCommit_runs hs.1 hb h7 hc hq ha hact hpf, commit_spec hs.1 hb rfl⟩
  · exact exec_storeCommit_idle h

end Sys2Proof.Machine
end

section
/-! SUPPORT. The host's access to the Cistern's banks (O37): what a presented password does, how a grant ends, and the report of a tie. -/
namespace Sys2Proof.Machine

/-! The grants are no part of the log -/

@[simp] theorem dirty_grants (b : Nat) (s : State) : (dirty b s).cis.grants = s.cis.grants := by
  unfold dirty
  split <;> rfl

@[simp] theorem putTamp_grants (x : TampRec) (s : State) : (putTamp x s).cis.grants = s.cis.grants := by
  unfold putTamp
  extract_lets n t
  split
  · exact dirty_grants _ _
  · exact (dirty_grants _ _).trans (dirty_grants _ _)

@[simp] theorem queueTamp_cis (x : TampRec) (s : State) : (queueTamp x s).cis = s.cis := by
  unfold queueTamp
  split
  · rfl
  · split
    · rfl
    · simp

theorem logTampAt_grants (t kind c frac detail : Nat) (s : State) : (logTampAt t kind c frac detail s).cis.grants = s.cis.grants := by
  unfold logTampAt
  extract_lets v flags f x
  split
  · exact putTamp_grants x f.2
  · exact congrArg (·.grants) (queueTamp_cis x f.2)

theorem showOccurrence_cis (c : Nat) (s : State) : (showOccurrence c s).cis = s.cis := by
  rw [showOccurrence, raise_cis, showWindow]
  split <;> rfl

/-- An occurrence that does not make its counter lasting ends no grant. -/
theorem occurrence_grants {c : Nat} {s : State} (hs : sparseWf (0 : Word) s.regs = true) (hc : c < 64) (hb : staysBelow c s = true)
    (frac detail : Nat) : (occurrence c frac detail s).cis.grants = s.cis.grants := by
  rw [occurrence_of_staysBelow hs hc hb, logTampAt_grants, showOccurrence_cis]

/-! What a presented password does -/

section
variable {i b kind : Nat} {s : State}

/-- While counter 38 is lasting every unlock is refused (R223). -/
theorem unlock_lockout (hl : isLasting 38 s = true) : unlock i b kind s = (false, raise F.CIS_CAUSE_HOST_LOCKOUT s) := by
  rw [unlock, if_pos hl]

/-- A password that is not the bank's counts on counter 38 (R223). -/
theorem unlock_wrong (hl : isLasting 38 s = false) (hk : kind = 0 ∨ 14 ≤ b) (hp : password b kind s ≠ presented s) :
    unlock i b kind s = (false, occurrence 38 0 0 (raise F.CIS_CAUSE_PW_FAIL s)) := by
  simp only [unlock, hl, Bool.false_eq_true, if_false]
  rw [if_neg (by omega), if_pos hp]

/-- The bank's password grants (R223). -/
theorem unlock_right (hl : isLasting 38 s = false) (hk : kind = 0 ∨ 14 ≤ b) (hp : password b kind s = presented s)
    (hff : presented s ≠ 2 ^ 64 - 1) : unlock i b kind s =
      (true, updCis (fun c => { c with grants := c.grants ++ [(i, b, kind, s.sup.mono)] }) (endGrant i b kind s)) := by
  simp only [unlock, hl, Bool.false_eq_true, if_false]
  rw [if_neg (by omega), if_neg (not_not.mpr hp), if_neg (hp.trans_ne hff)]

/-- Write access to the banks below 14, and a password of eight bytes 0xFF, are refused without a count (R222, log 42). -/
theorem unlock_never (hl : isLasting 38 s = false)
    (h : (kind = 1 ∧ b < 14) ∨ (password b kind s = 2 ^ 64 - 1 ∧ presented s = 2 ^ 64 - 1)) : unlock i b kind s = (false, s) := by
  simp only [unlock, hl, Bool.false_eq_true, if_false]
  obtain hw | ⟨hp, hff⟩ := h
  · rw [if_pos hw]
  · rw [if_neg (not_not.mpr (hp.trans hff.symm)), if_pos hp, ite_self]

end

/-! A write of `CIS_HOST_UNLOCK` -/

/-- What LOCK leaves of the grants. -/
def grantsAfterLock (m : Master) (w : Word) (s : State) : List (Nat × Nat × Nat × Nat) :=
  if arg F.CIS_HOST_UNLOCK_LOCK w = 1 then s.cis.grants.filter fun g => !(g.1 == ifaceOf m && g.2.1 == arg F.CIS_HOST_UNLOCK_BANK w &&
    g.2.2.1 == arg F.CIS_HOST_UNLOCK_KIND w) else s.cis.grants

/-- The state in which GO finds the grants: LOCK goes before it. -/
def afterLock (m : Master) (w : Word) (s : State) : State := { s with cis := { s.cis with grants := grantsAfterLock m w s } }

section
variable {m : Master} {w : Word} {s : State}

/-- LOCK alone ends the grant; with neither bit the write does nothing (R223). -/
theorem hostUnlock_without_go (hgo : arg F.CIS_HOST_UNLOCK_GO w = 0) : hostUnlock m w s = afterLock m w s := by
  simp only [hostUnlock, unlockWrite, hgo, Nat.zero_ne_one, if_false, if_true]
  unfold afterLock grantsAfterLock
  split <;> rfl

theorem afterLock_without_lock (hlock : arg F.CIS_HOST_UNLOCK_LOCK w = 0) : afterLock m w s = s := by
  simp [afterLock, grantsAfterLock, hlock]

/-- GO presents the password, after LOCK; a refusal is told to a host (R223). -/
theorem hostUnlock_go {ok : Bool} {t : State} (hgo : arg F.CIS_HOST_UNLOCK_GO w = 1)
    (hu : unlock (ifaceOf m) (arg F.CIS_HOST_UNLOCK_BANK w) (arg F.CIS_HOST_UNLOCK_KIND w) (afterLock m w s) = (ok, t)) :
    hostUnlock m w s = if ok then t else denied m t := by
  have hw : unlockWrite (ifaceOf m) w s = (ok, t) := by
    rw [← hu]
    simp only [unlockWrite, hgo, if_true]
    unfold afterLock grantsAfterLock
    split <;> rfl
  rw [hostUnlock, hw]

variable (h : Writable m R.CIS_HOST_UNLOCK s)
include h

theorem exec_passwordUnlock : exec (.passwordUnlock m w) s = .next (hostUnlock m w s) := cmdWrite_of_writable _ h

theorem exec_passwordLock : exec (.passwordLock m w) s = .next (hostUnlock m w s) := cmdWrite_of_writable _ h

end

section
variable {m : Master} {w : Word} {s : State} (h : Writable m R.CIS_HOST_UNLOCK s) (hgo : arg F.CIS_HOST_UNLOCK_GO w = 1)
include h hgo

/-- The right password: the grant starts anew. -/
theorem exec_passwordUnlock_right (hl : isLasting 38 s = false)
    (hk : arg F.CIS_HOST_UNLOCK_KIND w = 0 ∨ 14 ≤ arg F.CIS_HOST_UNLOCK_BANK w)
    (hp : password (arg F.CIS_HOST_UNLOCK_BANK w) (arg F.CIS_HOST_UNLOCK_KIND w) s = presented s) (hff : presented s ≠ 2 ^ 64 - 1) :
    exec (.passwordUnlock m w) s = .next { s with cis := { s.cis with
      grants := (s.cis.grants.filter fun g => !(g.1 == ifaceOf m && g.2.1 == arg F.CIS_HOST_UNLOCK_BANK w &&
          g.2.2.1 == arg F.CIS_HOST_UNLOCK_KIND w)) ++
        [(ifaceOf m, arg F.CIS_HOST_UNLOCK_BANK w, arg F.CIS_HOST_UNLOCK_KIND w, s.sup.mono)] } } := by
  rw [exec_passwordUnlock h, hostUnlock_go hgo (unlock_right (s := afterLock m w s) hl hk hp hff), if_pos rfl]
  unfold updCis endGrant afterLock grantsAfterLock updCis
  split
  · simp only [List.filter_filter, Bool.and_self]
  · rfl

/-- A wrong password: LOCK first, then the count, then the host hears DENIED. -/
theorem exec_passwordUnlock_wrong (hh : isHost m = true) (hl : isLasting 38 s = false)
    (hk : arg F.CIS_HOST_UNLOCK_KIND w = 0 ∨ 14 ≤ arg F.CIS_HOST_UNLOCK_BANK w)
    (hp : password (arg F.CIS_HOST_UNLOCK_BANK w) (arg F.CIS_HOST_UNLOCK_KIND w) s ≠ presented s) :
    exec (.passwordUnlock m w) s =
      .next (raise F.HIF_CAUSE_DENIED (occurrence 38 0 0 (raise F.CIS_CAUSE_PW_FAIL (afterLock m w s)))) := by
  rw [exec_passwordUnlock h, hostUnlock_go hgo (unlock_wrong (s := afterLock m w s) hl hk hp)]
  simp [denied, hh]

end

/-- The frame of what is counted and logged on the way. -/
theorem Touches.onlyFlds_log {L : List Fld} {s t : State} (h : Touches L s.regs t.regs) (ht : beyondLog t = beyondLog s) :
    OnlyFlds L { s with tamp := t.tamp, cis := t.cis, free := t.free } t :=
  h.onlyFlds (eq_of_beyondLog (s := { s with tamp := t.tamp, cis := t.cis, free := t.free }) ht) rfl

/-- The wrong password counts and is told, and no grant comes of it (R223). -/
theorem passwordFails_spec {m : Master} {w : Word} {s t : State} (hs : sparseWf (0 : Word) s.regs = true) (hb : staysBelow 38 s = true)
    (ht : t = raise F.HIF_CAUSE_DENIED (occurrence 38 0 0 (raise F.CIS_CAUSE_PW_FAIL (afterLock m w s)))) :
    Raised F.CIS_CAUSE_PW_FAIL s t ∧ t.cis.grants = grantsAfterLock m w s ∧ Raised F.HIF_CAUSE_DENIED s t ∧ Counted 38 s t ∧
      OnlyFlds (F.CIS_CAUSE_PW_FAIL :: F.HIF_CAUSE_DENIED :: countedFlds 38)
        { s with tamp := t.tamp, cis := t.cis, free := t.free } t := by
  have hlock : Touches [] s.regs (afterLock m w s).regs := .refl hs
  have hraised := hlock.raised (c := F.CIS_CAUSE_PW_FAIL) rfl (by decide) (by decide) (by decide) (by decide)
  have hfail := (hlock.mono (List.nil_subset [F.CIS_CAUSE_PW_FAIL, F.INT_HOST_PEND_PEND])).raise
    (f := F.CIS_CAUSE_PW_FAIL) (by decide) (by decide) rfl rfl
  have htamp : (raise F.CIS_CAUSE_PW_FAIL (afterLock m w s)).tamp = s.tamp := raise_tamp _ _
  have hsup : (raise F.CIS_CAUSE_PW_FAIL (afterLock m w s)).sup = s.sup := raise_sup _ _
  have hbelow := (staysBelow_eq hfail (by decide) (by decide) htamp hsup).trans hb
  obtain ⟨⟨htotal, hocc⟩, hcount, hrest⟩ := occurrence_after hfail (by decide) (by decide) hb htamp hsup 0 0
  have hbefore := (hfail.mono (M := F.CIS_CAUSE_PW_FAIL :: F.HIF_CAUSE_DENIED :: countedFlds 38) (by decide)).trans
    (hcount.mono (by decide))
  have hden := (Touches.refl (L := [F.HIF_CAUSE_DENIED, F.INT_HOST_PEND_PEND]) hcount.wf).raise
    (f := F.HIF_CAUSE_DENIED) (by decide) (by decide) rfl rfl
  subst ht
  refine ⟨(hraised.touches hcount (by decide)).touches hden (by decide), ?_,
    hbefore.raised rfl (by decide) (by decide) (by decide) (by decide), ⟨?_, hocc.touches hden (by decide)⟩,
    (hbefore.trans (hden.mono (by decide))).onlyFlds_log ?_⟩
  · rw [raise_cis, occurrence_grants hfail.wf (by decide) hbelow, raise_cis]
    rfl
  · rw [hden.get (by decide), htotal]
  · rw [beyondLog_raise, hrest, beyondLog_raise]
    rfl

/-! The report of a tie -/

section
variable {m : Master} {w : Word} {s : State}

theorem exec_tieReport_tie (h : Writable m R.CIS_REPORT s) (ht : arg F.CIS_REPORT_TIE w = 1) : exec (.tieReport m w) s =
    .next (occurrence 24 0 0 (raise F.CIS_CAUSE_SEQ_TIE (addSat F.CIS_COUNT_TIES 1 s))) := by
  refine (cmdWrite_of_writable _ h).trans ?_
  rw [cisReportWrite, if_neg (by omega)]

theorem exec_tieReport_idle (h : Writable m R.CIS_REPORT s) (ht : arg F.CIS_REPORT_TIE w = 0) : exec (.tieReport m w) s = .next s := by
  refine (cmdWrite_of_writable _ h).trans ?_
  rw [cisReportWrite, if_pos ht]

/-- A tie is told, counted among the ties and on counter 24 (R218). -/
theorem tie_spec {t : State} (hs : sparseWf (0 : Word) s.regs = true) (hb : staysBelow 24 s = true)
    (ht : t = occurrence 24 0 0 (raise F.CIS_CAUSE_SEQ_TIE (addSat F.CIS_COUNT_TIES 1 s))) :
    Raised F.CIS_CAUSE_SEQ_TIE s t ∧ get F.CIS_COUNT_TIES t = min 0xFFFF (get F.CIS_COUNT_TIES s + 1) ∧ Counted 24 s t ∧
      OnlyFlds (F.CIS_CAUSE_SEQ_TIE :: F.CIS_COUNT_TIES :: countedFlds 24)
        { s with tamp := t.tamp, cis := t.cis, free := t.free } t := by
  have hadd : Touches [F.CIS_CAUSE_SEQ_TIE, F.CIS_COUNT_TIES, F.INT_HOST_PEND_PEND] s.regs (addSat F.CIS_COUNT_TIES 1 s).regs :=
    Touches.put (.refl hs) (by decide) rfl rfl
  have hraised := hadd.raised (c := F.CIS_CAUSE_SEQ_TIE) rfl (by decide) (by decide) (by decide) (by decide)
  have htie := hadd.raise (f := F.CIS_CAUSE_SEQ_TIE) (by decide) (by decide) rfl rfl
  obtain ⟨hcounted, hcount, hrest⟩ := occurrence_after htie (by decide) (by decide) hb (raise_tamp _ _) (raise_sup _ _) 0 0
  subst ht
  refine ⟨hraised.touches hcount (by decide), ?_, hcounted, ((htie.mono (by decide)).trans (hcount.mono (by decide))).onlyFlds_log ?_⟩
  · rw [hcount.get (by decide), get_raise_apart hadd.wf rfl rfl rfl, addSat, get_put_same _ hs rfl, satNat_eq_min]
    show min (2 ^ 16 - 1) _ % 2 ^ 16 = _
    omega
  · rw [hrest, beyondLog_raise]
    rfl

end

/-- Settles O37: a write of `CIS_HOST_UNLOCK` by its bits and by how the password compares, the report by TIE. -/
theorem cisternHostAccess : Obligations.CisternHostAccess := by
  unfold Obligations.CisternHostAccess
  refine ⟨fun s m w h hgo hl hk hp hff => ⟨_, exec_passwordUnlock_right h hgo hl hk hp hff, rfl, rfl⟩,
    fun s m w hs h hh hgo hl hb hk hp => ⟨_, exec_passwordUnlock_wrong h hgo hh hl hk hp, passwordFails_spec hs.1 hb rfl⟩,
    fun s m w h hh hgo hlock hl hp => ?_, fun s m w hs h hh hgo hlock hl => ?_, fun s m w h hgo hlock => ?_,
    fun s m w h hgo hlock => ?_, fun s => ⟨_, rfl, rfl, rfl⟩,
    fun s m w hs h ht hb => ⟨_, exec_tieReport_tie h ht, tie_spec hs.1 hb rfl⟩, fun s m w h ht => exec_tieReport_idle h ht⟩
  · rw [exec_passwordUnlock h, hostUnlock_go hgo (unlock_never (s := afterLock m w s) hl hp), afterLock_without_lock hlock]
    simp [denied, hh]
  · have hout : Touches [F.CIS_CAUSE_HOST_LOCKOUT, F.HIF_CAUSE_DENIED, F.INT_HOST_PEND_PEND] s.regs
        (raise F.CIS_CAUSE_HOST_LOCKOUT s).regs := Touches.raise (.refl hs.1) (by decide) (by decide) rfl rfl
    refine ⟨raise F.HIF_CAUSE_DENIED (raise F.CIS_CAUSE_HOST_LOCKOUT s), ?_, ?_, ?_, ?_⟩
    · rw [exec_passwordUnlock h, hostUnlock_go hgo (unlock_lockout (s := afterLock m w s) hl), afterLock_without_lock hlock]
      simp [denied, hh]
    · exact (raised_raise hs.1 rfl (by decide) (by decide) (by decide) rfl).raise hout.wf rfl (by decide) (by decide) (by decide)
    · exact hout.raised rfl (by decide) (by decide) (by decide) (by decide)
    · refine (hout.raise (by decide) (by decide) rfl rfl).onlyFlds ?_ rfl
      rw [raise_eq, raise_eq]
  · rw [exec_passwordUnlock h, exec_passwordLock h, hostUnlock_without_go hgo, afterLock_without_lock hlock]
    exact ⟨rfl, rfl⟩
  · rw [exec_passwordLock h, hostUnlock_without_go hgo]
    exact ⟨_, rfl, rfl, if_pos hlock⟩

end Sys2Proof.Machine
end

section
/-! SUPPORT. The owners of the update controller's command register and of the cause and enable registers of the object server and the update
controller (O11). -/
namespace Sys2Proof.Machine

/-- The cause and enable registers of the object server and of the update controller. -/
def serverCauseRegs : List Nat := [R.OBJ_CAUSE, R.OBJ_CAUSE_EN, R.UPD_CAUSE, R.UPD_CAUSE_EN]

/-- Those registers with `UPD_CTL`. -/
def serverRegs : List Nat := R.UPD_CTL :: serverCauseRegs

/-- None of these registers is a timer's or a GPIO port's, and no host's and no debug port's list has them (R380). -/
theorem serverRegs_engines (m : Master) {a : Nat} (ha : a ∈ serverRegs) (s : State) :
    mayWrite m a s = true ↔ ∃ n, m = .engine n ∧ engineWrites n a = true := by
  have hshared : ∀ a ∈ serverRegs, timerReg a = false ∧ gpioReg a = false := by decide
  have hdebug : ∀ a ∈ serverRegs, (a = R.WEL_OTP_CTL || (decide (R.WEL_OTP_DATA 0 ≤ a) && decide (a ≤ R.WEL_OTP_DATA 15))) = false := by
    decide
  have hhost : hostWrites a s = false := by
    have hlists : ∀ a ∈ serverRegs, decide (a = R.CFG_CTL) = false ∧ [R.HIF_CAUSE, R.INT_HOST_EN, R.INT_HOST_PEND, R.CIS_HOST_PW_0,
      R.CIS_HOST_PW_1, R.CIS_HOST_UNLOCK, R.CIS_CTL].contains a = false := by decide
    unfold hostWrites
    split
    · exact (hlists a ha).1
    · exact (hlists a ha).2
  unfold mayWrite
  rw [(hshared a ha).1, (hshared a ha).2]
  cases m with
  | engine n => simp
  | debugPort => simpa using hdebug a ha
  | spi | i2c | uart => simp [hhost]

/-- No list of writers names an engine beyond E2. -/
theorem engineWrites_beyond_E2 {n : Nat} (hn : 3 ≤ n) (a : Nat) : engineWrites n a = false := by
  unfold engineWrites
  simp only [show n ≠ 0 by omega, show n ≠ 1 by omega, show n ≠ 2 by omega, if_false]

/-- Of the engines, E2 alone may write `UPD_CTL`. -/
theorem engineWrites_UPD_CTL (n : Nat) : engineWrites n R.UPD_CTL = true ↔ n = 2 := by
  match n with
  | 0 | 1 | 2 => decide
  | n + 3 => simp [engineWrites_beyond_E2 (Nat.le_add_left 3 n)]

/-- Of the engines, E1 and E2 may write these cause and enable registers. -/
theorem engineWrites_serverCause {a : Nat} (ha : a ∈ serverCauseRegs) (n : Nat) : engineWrites n a = true ↔ n = 1 ∨ n = 2 := by
  match n with
  | 0 | 1 | 2 => revert a; decide
  | n + 3 => simp [engineWrites_beyond_E2 (Nat.le_add_left 3 n)]

/-- R244: E2 may write `UPD_CTL`, no other master. -/
theorem mayWrite_UPD_CTL (m : Master) (s : State) : mayWrite m R.UPD_CTL s = true ↔ m = .engine 2 := by
  simp [serverRegs_engines m (List.mem_cons_self : R.UPD_CTL ∈ serverRegs), engineWrites_UPD_CTL]

/-- R244: E1 and E2 may write the cause and enable registers, no other master. -/
theorem mayWrite_serverCause (m : Master) {a : Nat} (ha : a ∈ serverCauseRegs) (s : State) :
    mayWrite m a s = true ↔ m = .engine 1 ∨ m = .engine 2 := by
  rw [serverRegs_engines m (List.mem_cons_of_mem _ ha)]
  simp [engineWrites_serverCause ha, and_or_left, exists_or]

/-- Settles O11: the writer rules name E2 alone, or E1 and E2, and a write that they refuse is dropped whichever command makes it. -/
theorem updateControlOwner : Obligations.UpdateControlOwner := by
  unfold Obligations.UpdateControlOwner
  intro m s
  obtain ⟨hcmd, hreg⟩ := deniedWrite
  refine ⟨mayWrite_UPD_CTL m s, fun a ha => mayWrite_serverCause m ha s, fun a ha w wd hd hm => ?_, fun w image hd hm c hc => ?_⟩
  · have hmap : ∀ a ∈ serverRegs, inRegs a = true ∧ a % 4 = 0 ∧ blockDom (blockOf a) = 5 := by decide
    obtain ⟨hin, halign, hdom⟩ := hmap a ha
    obtain ⟨hstatus, hwrite⟩ := hreg m a w wd s hin halign (hdom ▸ hd) hm
    exact ⟨hwrite, fun _ => hstatus⟩
  · have hw : mayWrite m R.UPD_CTL s = false := by simpa using mt (mayWrite_UPD_CTL m s).mp hm
    have hof : ∀ c ∈ [Instr.updBegin m w, .updVerify m w, .updActivate m w, .updAbort m w, .copyLegal m w image],
        writeOf c = some (m, R.UPD_CTL) := by simp [writeOf]
    exact hcmd c m R.UPD_CTL s (hof c hc) hd hw

end Sys2Proof.Machine
end

section
/-! SUPPORT. The object server of chapter 10 (O38, O39): what a key that is loaded, an answered request and a closed session leave, and when
a request reaches its effect. -/
namespace Sys2Proof.Machine

/-! Lists and registers -/

/-- The element that was changed. -/
theorem nth_upd_same {α : Type} (d : α) (f : α → α) {l : List α} {i : Nat} (h : i < l.length) : nth d (upd l i f) i = f (nth d l i) := by
  simp [nth, upd, List.getD_eq_getElem?_getD, h]

/-- An element put back to the default reads as the default, in the list or beyond it. -/
theorem nth_upd_default {α : Type} (d : α) (l : List α) (i : Nat) : nth d (upd l i fun _ => d) i = d := by
  simp only [nth, upd, List.getD_eq_getElem?_getD, List.getElem?_modify_eq]
  cases l[i]? <;> rfl

theorem upd_length {α : Type} (f : α → α) (l : List α) (i : Nat) : (upd l i f).length = l.length := List.length_modify ..

section
variable {L : List Fld} {s t : State}

/-- A field of a block in which nothing has been touched reads as before. -/
theorem Touches.get_of_block (h : Touches L s.regs t.regs) {g : Fld} (hL : ∀ f ∈ L, blockOf f.addr ≠ blockOf g.addr) :
    Machine.get g t = Machine.get g s := h.get fun f hf => Fld.apart_of_addr (ne_of_blockOf (hL f hf))

/-- A whole register stored. -/
theorem Touches.wr {r : Sparse Word} {a : Nat} (v : Word) (h : Touches L r t.regs) (ha : ⟨a, 0, 32⟩ ∈ L) (hp : a ≠ R.INT_HOST_PEND) :
    Touches L r (Machine.wr a v t).regs := by
  rw [wr_eq_put]
  exact h.put ha (by simp [Fld.inWord]) (Fld.apart_of_addr hp)

end

/-! Keys that are loaded (R252, R253) -/

/-- The register fields in which the Well shows its working slots and its jobs. -/
def wellShown : List Fld := [F.WEL_STATUS_SLOTS, F.SEC_STATUS_QUEUE, F.SEC_STATUS_BUSY]

/-- The state without the Well's own. -/
def beyondWell (s : State) : State := { s with well := {} }

/-- From `s` to `t` only the Well's own state has changed, and the register fields that show it. -/
structure WellOnly (s t : State) : Prop where
  rest : t = { s with regs := t.regs, well := t.well }
  touches : Touches wellShown s.regs t.regs

/-- A load that delivers a key changes nothing but the Well. -/
def Delivers (s : State) (r : Load × State) : Prop := ∀ w, r.1 = .ok w → beyondWell r.2 = beyondWell s

section
variable {s t : State} {p c : Nat} {need : Option (Nat × Nat)}

theorem delivers_refuseLoad {r : Load} (hr : ∀ w, r ≠ .ok w) : Delivers s (refuseLoad r t) := fun w h => absurd h (hr w)

theorem delivers_useSlot (w : WSlot) (ht : beyondWell t = beyondWell s) : Delivers s (useSlot w t) := fun _ _ => ht

theorem beyondWell_parentOf (p : Nat) (s : State) : beyondWell (parentOf p s).2 = beyondWell s := by
  unfold parentOf
  split <;> rfl

theorem Delivers.ite {c : Prop} [Decidable c] {a b : Load × State} (ha : Delivers s a) (hb : Delivers s b) :
    Delivers s (if c then a else b) := by
  split <;> assumption

/-- A blob that is unwrapped goes to a working slot, and nothing else changes (R252). -/
theorem delivers_unwrap (b : Blob) : Delivers s (unwrap p c need b s) := by
  unfold unwrap
  refine .ite (delivers_refuseLoad nofun) (.ite (delivers_refuseLoad nofun) ?_)
  extract_lets k
  split
  · exact delivers_refuseLoad fun w => by split <;> exact nofun
  · exact .ite (delivers_refuseLoad nofun) (delivers_useSlot _ (beyondWell_parentOf p s))

/-- A load that delivers a key changes the Well alone (R252, R253). -/
theorem loadKey_wellOnly {w : WSlot} (hs : sparseWf (0 : Word) s.regs = true) :
    (loadKey p c need s).1 = .ok w → WellOnly s (loadKey p c need s).2 := by
  unfold loadKey
  extract_lets r
  intro h
  have hr : Delivers s r := by
    refine .ite (delivers_refuseLoad nofun) (.ite (delivers_refuseLoad nofun) (.ite (delivers_refuseLoad nofun) ?_))
    split
    · split
      · exact .ite (delivers_refuseLoad nofun) (delivers_useSlot _ rfl)
      · exact delivers_useSlot _ rfl
    · exact delivers_refuseLoad nofun
    · exact delivers_unwrap _
  have hrest : beyondWell r.2 = beyondWell s := hr w h
  have hregs : s.regs = r.2.regs := (congrArg State.regs hrest.symm :)
  refine ⟨?_, ?_⟩
  · exact congrArg (fun u : State => { u with regs := (showWell r.2).regs, well := r.2.well }) hrest
  · have hsame : Touches wellShown s.regs r.2.regs := hregs ▸ .refl hs
    exact ((hsame.put (f := F.WEL_STATUS_SLOTS) (by decide) rfl rfl).put (f := F.SEC_STATUS_QUEUE) (by decide) rfl rfl).put
      (f := F.SEC_STATUS_BUSY) (by decide) rfl rfl

theorem loadNamed_wellOnly {k : Option (Nat × Nat)} {need : Nat × Nat} {w : WSlot} (hs : sparseWf (0 : Word) s.regs = true)
    (h : (loadNamed k need s).1 = .ok w) : WellOnly s (loadNamed k need s).2 := by
  cases k with
  | none => cases h
  | some e => exact loadKey_wellOnly hs h

/-- A role's key that is delivered is a load that delivers (R230). -/
theorem roleKey_wellOnly {role : Nat} {w : WSlot} (hs : sparseWf (0 : Word) s.regs = true) (h : (roleKey role s).1 = .ok w) :
    WellOnly s (roleKey role s).2 := by
  unfold roleKey at h ⊢
  dsimp only at h ⊢
  split at h
  next x hx =>
    have hload := loadNamed_wellOnly hs hx
    split <;> exact hload
  next hno => exact absurd h (hno w)

end

/-! Answers to object requests (R232, R333) -/

/-- The register fields that an answer touches: a host's slot, or what E10 counts and tells of the frame. -/
def answerFlds : List Fld := [F.HIF_STATUS_SLOT, F.FAB_COUNT_COUNT 0, F.FAB_CAUSE_NO_ROUTE, F.INT_HOST_PEND_PEND]

/-- The state without the registers and E10's own. -/
def beyondFab (s : State) : State := { s with regs := [], fab := {} }

@[simp] theorem beyondFab_raise (f : Fld) (s : State) : beyondFab (raise f s) = beyondFab s := by rw [raise_eq]; rfl

theorem beyondFab_originate (f : FabFrame) (s : State) : beyondFab (originate f s) = beyondFab s := by
  unfold originate queueFrame
  split <;> rfl

theorem beyondFab_touchRoute (n : Node) (s : State) : beyondFab (touchRoute n s) = beyondFab s := by
  unfold touchRoute
  split
  · rfl
  · split <;> rfl

theorem beyondFab_originateAll (l : List FabFrame) (s : State) : beyondFab (l.foldl (fun s f => originate f s) s) = beyondFab s :=
  foldl_same (k := beyondFab) (fun s f _ => beyondFab_originate f s) s

theorem beyondFab_sendMessage (m : Message) (s : State) : beyondFab (sendMessage m s) = beyondFab s := by
  unfold sendMessage
  split
  · split
    · exact (beyondFab_originateAll _ _).trans (beyondFab_touchRoute _ _)
    · split
      · exact beyondFab_raise _ _
      · exact beyondFab_raise _ _
      · exact (beyondFab_originate _ _).trans rfl
  · exact beyondFab_originateAll _ _

/-- What E2 gives E10 to send changes E10's own state alone. -/
theorem beyondFab_respond (mtype msgId : Nat) (to' : Node) (body : List Byte) (s : State) :
    beyondFab (respond mtype msgId to' body s) = beyondFab s := by
  unfold respond handToE10
  split
  · rfl
  · extract_lets m
    split
    · split <;> rfl
    · exact beyondFab_sendMessage m s

/-- The state without the registers, the requests, the slots and E10's own. -/
def beyondAnswer (s : State) : State := { s with regs := [], obj := { s.obj with req := [] }, hif := {}, fab := {} }

/-- An answer leaves everything beside them as it is. -/
theorem beyondAnswer_answerObject (i code : Nat) (data : List Byte) (s : State) :
    beyondAnswer (answerObject i code data s) = beyondAnswer s := by
  unfold answerObject
  split
  · rfl
  · extract_lets b t
    split
    · unfold setResponse
      split <;> rfl
    · exact (congrArg beyondAnswer (beyondFab_respond 2 _ _ b t) :)

/-- The requests after an answer: the interface's is gone. -/
theorem answerObject_req (i code : Nat) (data : List Byte) (s : State) :
    (answerObject i code data s).obj.req = s.obj.req ∧ nth none s.obj.req i = none ∨
      (answerObject i code data s).obj.req = upd s.obj.req i fun _ => none := by
  unfold answerObject
  split
  next hno => exact .inl ⟨rfl, hno⟩
  next r hr =>
    extract_lets b t
    right
    split
    · unfold setResponse
      split <;> rfl
    · exact (congrArg (fun s => s.obj.req) (beyondFab_respond 2 r.msgId r.src b t) :)

/-- What is answered is no request any more (R232). -/
theorem request_answered (i code : Nat) (data : List Byte) (s : State) : nth none (answerObject i code data s).obj.req i = none := by
  obtain ⟨hreq, hno⟩ | hreq := answerObject_req i code data s
  · rw [hreq, hno]
  · rw [hreq, nth_upd_default]

@[simp] theorem answerObject_cis (i code : Nat) (data : List Byte) (s : State) : (answerObject i code data s).cis = s.cis :=
  (congrArg State.cis (beyondAnswer_answerObject i code data s) :)

section
variable {L : List Fld} {r : Sparse Word} {s : State} (h : Touches L r s.regs) (hL : answerFlds ⊆ L)
include h hL

theorem Touches.originate (f : FabFrame) : Touches L r (originate f s).regs := by
  have hqueue : Touches L r (queueFrame false { f with osrc := myName s, taken := 0 } s).regs := by
    unfold queueFrame
    split <;> exact h
  exact hqueue.put (f := F.FAB_COUNT_COUNT 0) (hL (by decide)) rfl rfl

theorem Touches.originateAll (l : List FabFrame) : Touches L r (l.foldl (fun s f => Machine.originate f s) s).regs := by
  induction l generalizing s with
  | nil => exact h
  | cons f l ih => exact ih (h.originate hL f)

theorem Touches.sendMessage (m : Message) : Touches L r (sendMessage m s).regs := by
  unfold Machine.sendMessage
  split
  · split
    · refine Touches.originateAll ?_ hL _
      unfold touchRoute
      split
      · exact h
      · split <;> exact h
    · split
      · exact h.raise (hL (by decide)) (hL (by decide)) rfl rfl
      · exact h.raise (hL (by decide)) (hL (by decide)) rfl rfl
      · refine Touches.originate ?_ hL _
        exact h
  · exact h.originateAll hL _

theorem Touches.respond (mtype msgId : Nat) (to' : Node) (body : List Byte) : Touches L r (respond mtype msgId to' body s).regs := by
  unfold Machine.respond handToE10
  split
  · exact h
  · extract_lets m
    split
    · split <;> exact h
    · exact h.sendMessage hL m

/-- An answer touches its own fields alone. -/
theorem Touches.answerObject (i code : Nat) (data : List Byte) : Touches L r (answerObject i code data s).regs := by
  unfold Machine.answerObject
  split
  · exact h
  · extract_lets b t
    split
    · unfold setResponse
      split
      · exact Touches.put (f := F.HIF_STATUS_SLOT) h (hL (by decide)) rfl rfl
      · exact h
    · exact Touches.respond (s := t) h hL _ _ _ _

end

theorem touches_answerObject {s : State} (hs : sparseWf (0 : Word) s.regs = true) (i code : Nat) (data : List Byte) :
    Touches answerFlds s.regs (answerObject i code data s).regs := (Touches.refl hs).answerObject (List.Subset.refl _) i code data

/-- What the device notes of a request that is answered on an interface with a slot (R358, R361). -/
def noteAnswer (i cmd n : Nat) (bytes : List Byte) (s : State) : State :=
  { s with
    obj := { s.obj with req := upd s.obj.req i fun _ => none }
    hif := { s.hif with
      slots := upd s.hif.slots i fun _ => .busy cmd n (some ⟨0, cmd, n, bytes⟩)
      since := upd s.hif.since i fun _ => s.sup.mono } }

/-- A host's request is answered in its slot (R232, R361). -/
theorem answerObject_host {i cmd n : Nat} {r : ObjReq} {s : State} (hi : i < 6) (hr : nth none s.obj.req i = some r)
    (hslot : nth .free s.hif.slots i = .busy cmd n none) (code : Nat) (data : List Byte) :
    answerObject i code data s = putBit F.HIF_STATUS_SLOT i true (noteAnswer i cmd n (objectBytes i r code data s) s) := by
  have hbusy : slotOf i (updObj (fun o => { o with req := upd o.req i fun _ => none }) s) = .busy cmd n none := hslot
  unfold answerObject
  simp only [hr, hi, if_true, setResponse, hbusy]
  rfl

/-! Sessions that close (R231) -/

theorem blockOf_OBJ_SESS {i : Nat} (hi : i < 7) : blockOf (R.OBJ_SESS i) = 18 := by
  dsimp only [blockOf, R.OBJ_SESS]
  omega

theorem OBJ_SESS_ne (i : Nat) {a : Nat} (ha : a < 0x40120020) : R.OBJ_SESS i ≠ a := by
  dsimp only [R.OBJ_SESS]
  omega

/-- The register fields in which a session stands. -/
def sessFlds (i : Nat) : List Fld := [⟨R.OBJ_SESS i, 0, 32⟩, F.OBJ_STATUS_SESSIONS, F.OBJ_STATUS_LEGAL_SESSION]

/-- Nothing of the session of interface `i` is left, neither of what it holds nor in its register. -/
def clearSession (i : Nat) (s : State) : State := wr (R.OBJ_SESS i) 0 (updObj (fun o => { o with sess := upd o.sess i fun _ => {} }) s)

/-- The session of interface `i` is gone; a METROLOGY session that is left still shows in `LEGAL_SESSION`. -/
def endSession (i : Nat) (s : State) : State :=
  let s := putBit F.OBJ_STATUS_SESSIONS i false (clearSession i s)
  put F.OBJ_STATUS_LEGAL_SESSION (b2n ((List.range 7).any fun k => sessState k s == 2 && get (F.OBJ_SESS_ROLE k) s == 5)) s

section
variable {i : Nat} {s : State}

theorem closeSession_of_challenged (h : sessState i s = 1) : closeSession i s = endSession i s := by
  simp only [closeSession, h]
  rfl

theorem closeSession_of_open (h : sessState i s = 2) : closeSession i s = raise F.OBJ_CAUSE_SESS_CLOSE (endSession i s) := by
  simp only [closeSession, h]
  rfl

theorem endSession_rest (i : Nat) (s : State) :
    endSession i s = { s with obj := { s.obj with sess := upd s.obj.sess i fun _ => {} }, regs := (endSession i s).regs } := rfl

variable (hs : sparseWf (0 : Word) s.regs = true)
include hs

theorem touches_endSession (i : Nat) : Touches (sessFlds i) s.regs (endSession i s).regs := by
  have hclear : Touches (sessFlds i) s.regs (clearSession i s).regs := by
    refine Touches.wr 0 ?_ (by simp [sessFlds]) ?_
    · exact .refl hs
    · dsimp only [R.OBJ_SESS, R.INT_HOST_PEND]
      omega
  exact (hclear.put (f := F.OBJ_STATUS_SESSIONS) (by simp [sessFlds]) rfl rfl).put (f := F.OBJ_STATUS_LEGAL_SESSION)
    (by simp [sessFlds]) rfl rfl

/-- No session and no bit for it is left. -/
theorem endSession_closed (hi : i < 7) :
    sessState i (endSession i s) = 0 ∧ fbit F.OBJ_STATUS_SESSIONS i (endSession i s) = false := by
  have hclear : sparseWf (0 : Word) (clearSession i s).regs = true := sparseSet_wf _ _ _ hs
  have hbits : sparseWf (0 : Word) (putBit F.OBJ_STATUS_SESSIONS i false (clearSession i s)).regs = true := rput_wf _ _ _ hclear
  have hword : rd (clearSession i s) (R.OBJ_SESS i) = 0 := rd_wr_same _ _ hs
  have hne : R.OBJ_STATUS ≠ R.OBJ_SESS i := (OBJ_SESS_ne i (by decide)).symm
  constructor
  · calc sessState i (endSession i s)
      _ = sessState i (putBit F.OBJ_STATUS_SESSIONS i false (clearSession i s)) :=
        get_put_apart _ hbits rfl (Fld.apart_of_addr hne)
      _ = fieldOf (F.OBJ_SESS_STATE i) (rd (clearSession i s) (R.OBJ_SESS i)) :=
        get_put_apart _ hclear rfl (Fld.apart_of_addr hne)
      _ = 0 := by rw [hword]; rfl
  · refine (fbit_put_apart hbits _ rfl rfl).trans ?_
    rw [fbit_putBit i i false hclear rfl hi, if_pos rfl]

/-- A session that is gone with a cause `c` of the object server raised. -/
theorem raise_endSession_spec {c : Fld} (hi : i < 7) (hc : c.addr = R.OBJ_CAUSE) (hw : c.inWord = true) (h1 : 0 < c.width) :
    sessState i (raise c (endSession i s)) = 0 ∧ fbit F.OBJ_STATUS_SESSIONS i (raise c (endSession i s)) = false ∧
      Raised c s (raise c (endSession i s)) ∧
      OnlyFlds (sessFlds i ++ [c, F.INT_HOST_PEND_PEND]) { s with obj := { s.obj with sess := upd s.obj.sess i fun _ => {} } }
        (raise c (endSession i s)) := by
  have hend := touches_endSession hs i
  obtain ⟨hclosed, hbit⟩ := endSession_closed hs hi
  have hpend : F.INT_HOST_PEND_PEND.apart c = true := Fld.apart_of_addr (by rw [hc]; decide)
  have hraise : Touches [c, F.INT_HOST_PEND_PEND] (endSession i s).regs (raise c (endSession i s)).regs :=
    (Touches.refl hend.wf).raise (by simp) (by simp) hw ((Fld.apart_comm _ _).trans hpend)
  have hen : ∀ f ∈ sessFlds i, f.addr ≠ enableOf c.addr := by
    rw [hc, show enableOf R.OBJ_CAUSE = R.OBJ_CAUSE_EN from rfl]
    simpa [sessFlds] using OBJ_SESS_ne i (by decide)
  have happart : ∀ g : Fld, g.addr ≠ R.OBJ_CAUSE → g.addr ≠ R.INT_HOST_PEND → ∀ f ∈ [c, F.INT_HOST_PEND_PEND], f.apart g = true := by
    intro g hg hp
    simpa using ⟨Fld.apart_of_addr (hc ▸ hg.symm), Fld.apart_of_addr hp.symm⟩
  refine ⟨(hraise.get (happart _ (OBJ_SESS_ne i (by decide)) ?_)).trans hclosed, (hraise.fbit (happart _ (by decide) (by decide))).trans hbit,
    hend.raised hw hpend h1 (by rw [hc]; decide) hen,
    ((hend.mono (List.subset_append_left _ _)).trans (hraise.mono (List.subset_append_right _ _))).onlyFlds ?_ rfl⟩
  · dsimp only [R.OBJ_SESS, R.INT_HOST_PEND]
    omega
  · rw [raise_eq, endSession_rest]

omit hs

theorem closeSession_sup (i : Nat) (s : State) : (closeSession i s).sup = s.sup := by
  unfold closeSession raiseIf
  dsimp only
  split
  · rfl
  · split
    · exact raise_sup _ _
    · rfl

theorem closeSession_sess_length (i : Nat) (s : State) : (closeSession i s).obj.sess.length = s.obj.sess.length := by
  unfold closeSession raiseIf
  dsimp only
  split
  · rfl
  · split
    · rw [raise_obj]
      exact upd_length _ _ _
    · exact upd_length _ _ _

/-- An open session that closes is told, and nothing but the session is gone (R231). -/
theorem closeSession_open_spec (hs : sparseWf (0 : Word) s.regs = true) (hi : i < 7) (h : sessState i s = 2) :
    sessState i (closeSession i s) = 0 ∧ fbit F.OBJ_STATUS_SESSIONS i (closeSession i s) = false ∧
      Raised F.OBJ_CAUSE_SESS_CLOSE s (closeSession i s) ∧
      OnlyFlds (sessFlds i ++ [F.OBJ_CAUSE_SESS_CLOSE, F.INT_HOST_PEND_PEND])
        { s with obj := { s.obj with sess := upd s.obj.sess i fun _ => {} } } (closeSession i s) := by
  rw [closeSession_of_open h]
  exact raise_endSession_spec hs hi rfl rfl (by decide)

end

/-! Requests that reach their effect (R230, R232) -/

/-- A session that a request has used: its next number, and its idle time from now on (R230, R231). -/
def countRequest (i : Nat) (s : State) : State := touchSession i (fun x => { x with nextSeq := (x.nextSeq + 1) % 2 ^ 32 }) s

section
variable {i op : Nat} {r : ObjReq} {s : State} {eff : ObjReq → State → State}

/-- With no request on the interface, or E2 down, nothing happens. -/
theorem onRequest_idle (h : nth none s.obj.req i = none ∨ e2Up s = false) : onRequest i op eff s = .next s := by
  unfold onRequest
  split
  · rfl
  next r hr =>
    obtain h | h := h
    · rw [h] at hr
      cases hr
    · exact onlyIf_of_false (by simp [h]) _ s

theorem inSession_outside (e : State → State) (h : inSess r = false) : inSession i r e s = e s := if_pos (by simp [h])

/-- A request in session whose number and tag are in order counts, and the session's idle time runs from it (R230, R231). -/
theorem inSession_ok (e : State → State) (h : inSess r = true) (hop : 3 ≤ opOf r) (hok : sessionOk i r s = true) :
    inSession i r e s = e (countRequest i s) := by
  rw [inSession, if_neg (by simp [h]), if_neg (by omega), if_pos hok]
  rfl

/-- One that is not in order is answered NO_SESSION and closes the session (R230). -/
theorem inSession_bad (e : State → State) (h : inSess r = true) (hop : 3 ≤ opOf r) (hok : sessionOk i r s = false) :
    inSession i r e s = closeSession i (answerObject i 8 [] s) := by
  rw [inSession, if_neg (by simp [h]), if_neg (by omega), if_neg (by simp [hok])]

variable (h2 : e2Up s = true) (hr : nth none s.obj.req i = some r) (ha : answering i s = false) (hop : opOf r = op)
include h2 hr ha hop

theorem onRequest_taken : onRequest i op eff s = .next (inSession i r (eff r) s) := by
  simp [onRequest, hr, onlyIf, h2, hop, ha]

theorem onRequest_outside (h : inSess r = false) : onRequest i op eff s = .next (eff r s) := by
  rw [onRequest_taken h2 hr ha hop, inSession_outside _ h]

theorem onRequest_bad (h : inSess r = true) (h3 : 3 ≤ opOf r) (hok : sessionOk i r s = false) :
    onRequest i op eff s = .next (closeSession i (answerObject i 8 [] s)) := by
  rw [onRequest_taken h2 hr ha hop, inSession_bad _ h h3 hok]

end

theorem sessState_of_sessionOk {i : Nat} {r : ObjReq} {s : State} (h : sessionOk i r s = true) : sessState i s = 2 := by
  simp only [sessionOk, Bool.and_eq_true, beq_iff_eq] at h
  exact h.1.1

section
variable {i : Nat} {s : State}

theorem touches_touchSession (hs : sparseWf (0 : Word) s.regs = true) (f : SessSt → SessSt) (i : Nat) :
    Touches [F.OBJ_SESS_IDLE_LEFT i] s.regs (touchSession i f s).regs := by
  refine Touches.put ?_ (by simp) rfl (Fld.apart_of_addr ?_)
  · exact .refl hs
  · dsimp only [R.OBJ_SESS, R.INT_HOST_PEND]
    omega

/-- IDLE_LEFT shares no bit with STATE and ROLE. -/
theorem IDLE_LEFT_apart (i lo width : Nat) (h : lo + width ≤ 16) : (F.OBJ_SESS_IDLE_LEFT i).apart ⟨R.OBJ_SESS i, lo, width⟩ = true := by
  simp [Fld.apart, h]

theorem get_touchSession (hs : sparseWf (0 : Word) s.regs = true) (f : SessSt → SessSt) {lo width : Nat} (h : lo + width ≤ 16) :
    get ⟨R.OBJ_SESS i, lo, width⟩ (touchSession i f s) = get ⟨R.OBJ_SESS i, lo, width⟩ s :=
  (touches_touchSession hs f i).get (by simpa using IDLE_LEFT_apart i lo width h)

end

end Sys2Proof.Machine
end

section
/-! SUPPORT. The sessions of chapter 10 (O38): OPEN with its challenge, PROOF, CLOSE, and the two timeouts. -/
namespace Sys2Proof.Machine

section
variable {i : Nat} {r : ObjReq} {s : State}

/-! OPEN (R230, R231) -/

/-- The 16 bytes of a challenge that is drawn in `s`. -/
def challengeBytes (s : State) : List Byte := be 16 ((drbg s).1 % 2 ^ 128)

/-- Interface `i` waits for the proof of `role`. -/
def challenged (i role : Nat) (nonce : List Byte) (s : State) : State :=
  updObj (fun o => { o with sess := upd o.sess i fun _ => { challenge := challengeBytes s, nonce := nonce, last := s.sup.mono } })
    (put (F.OBJ_SESS_ROLE i) role (put (F.OBJ_SESS_STATE i) 1 (drbg s).2))

theorem challenge_eq (i role : Nat) (nonce : List Byte) (s : State) : challenge i role nonce s =
    answerObject i 0 (challengeBytes (closeSession i s)) (challenged i role nonce (closeSession i s)) := rfl

/-- The challenge stands with its role, its nonce and its time. -/
theorem challenged_spec {role : Nat} (hs : sparseWf (0 : Word) s.regs = true) (hlen : i < s.obj.sess.length) (hrole : role ≤ 5)
    (nonce : List Byte) : sessState i (challenged i role nonce s) = 1 ∧ get (F.OBJ_SESS_ROLE i) (challenged i role nonce s) = role ∧
      nth {} (challenged i role nonce s).obj.sess i = { challenge := challengeBytes s, nonce := nonce, last := s.sup.mono } := by
  have hput : sparseWf (0 : Word) (put (F.OBJ_SESS_STATE i) 1 (drbg s).2).regs = true := rput_wf _ _ _ hs
  refine ⟨?_, ?_, nth_upd_same _ _ hlen⟩
  · exact (get_put_apart role hput rfl (by simp [Fld.apart])).trans (get_put_same (s := (drbg s).2) 1 hs rfl)
  · exact (get_put_same role hput rfl).trans (Nat.mod_eq_of_lt (show role < 2 ^ 3 by omega))

/-- After the load of the role's key any older session is closed, and the challenge is the answer (R230). -/
theorem challenge_spec {role : Nat} {k : WSlot} (hs : s.Inv) (hlen : i < s.obj.sess.length) (hrole : role ≤ 5)
    (hk : (roleKey role s).1 = .ok k) (nonce : List Byte) :
    ∃ u ch, challenge i role nonce (roleKey role s).2 = answerObject i 0 ch u ∧ ch.length = 16 ∧ sessState i u = 1 ∧
      get (F.OBJ_SESS_ROLE i) u = role ∧ nth {} u.obj.sess i = { challenge := ch, nonce := nonce, last := s.sup.mono } := by
  have hload := (roleKey_wellOnly hs.1 hk).rest
  have hkept : Kept s (closeSession i (roleKey role s).2) := closeSession_kept (roleKey_kept (.refl s))
  have hsess : (closeSession i (roleKey role s).2).obj.sess.length = s.obj.sess.length := by
    rw [closeSession_sess_length, hload]
  have hsup : (closeSession i (roleKey role s).2).sup = s.sup := by
    rw [closeSession_sup, hload]
  obtain ⟨hstate, hgot, hnew⟩ := challenged_spec (hkept.inv hs).1 (hsess ▸ hlen) hrole nonce
  refine ⟨_, _, challenge_eq i role nonce _, be_length _ _, hstate, hgot, ?_⟩
  rw [hnew, hsup]

/-- An OPEN whose role's key is loaded, in no guarded start and under no lockout, is answered a challenge (R230, R231). -/
theorem openEffect_challenge {k : WSlot} (hg : guarded s = false) (hrole : 1 ≤ selOf r ∧ selOf r ≤ 5) (hnonce : (dataOf r).length = 16)
    (hl : isLasting (38 + selOf r) s = false) (h45 : isLasting 45 s = false) (hk : (roleKey (selOf r) s).1 = .ok k) :
    openEffect i r s = challenge i (selOf r) (dataOf r) (roleKey (selOf r) s).2 := by
  simp [openEffect, hg, hnonce, hl, h45, hk, show selOf r ≠ 0 by omega, show ¬ 5 < selOf r by omega]

/-- An OPEN in guarded start, with a role that there is not or with a nonce of another length is refused (R230, R232). -/
theorem openEffect_refused (h : guarded s = true ∨ selOf r = 0 ∨ 5 < selOf r ∨ (dataOf r).length ≠ 16) :
    openEffect i r s = answerObject i (if guarded s then 4 else if selOf r = 0 ∨ 5 < selOf r then 1 else 6) [] s := by
  unfold openEffect
  extract_lets role
  by_cases hg : guarded s = true
  · simp [hg]
  · by_cases hrole : selOf r = 0 ∨ 5 < selOf r
    · simp [hg, role, hrole]
    · have hlen : (dataOf r).length ≠ 16 := by tauto
      simp [hg, role, hrole, hlen]

/-- An OPEN for a role whose counter is lasting is refused, and the lockout is told (R231). -/
theorem openEffect_lockout (hg : guarded s = false) (hrole : 1 ≤ selOf r ∧ selOf r ≤ 5) (hnonce : (dataOf r).length = 16)
    (hl : isLasting (38 + selOf r) s = true) :
    openEffect i r s = answerObject i 1 [] (raise F.OBJ_CAUSE_SESS_LOCKOUT s) := by
  simp [openEffect, hg, hnonce, hl, show selOf r ≠ 0 by omega, show ¬ 5 < selOf r by omega]

/-! PROOF (R230, R231) -/

/-- In guarded start, or with no challenge outstanding, a PROOF is refused (R230, log 42). -/
theorem proofEffect_refused (h : guarded s = true ∨ sessState i s ≠ 1) :
    proofEffect i r s = answerObject i (if guarded s then 4 else 8) [] s := by
  unfold proofEffect
  by_cases hg : guarded s = true
  · simp [hg]
  · simp [hg, h.resolve_left hg]

section
variable {k : WSlot} (hg : guarded s = false) (hst : sessState i s = 1) (hk : (roleKey (get (F.OBJ_SESS_ROLE i) s) s).1 = .ok k)
include hg hst hk

/-- A PROOF that is wrong or late fails the session (R230, R231). -/
theorem proofEffect_fails (hbad : dataOf r ≠ Config.cmac k.key (proofInput i (get (F.OBJ_SESS_ROLE i) s) (sessOf i s)) ∨
      (sessOf i s).last + 10240 ≤ s.sup.mono) :
    proofEffect i r s = failSession i (answerObject i Config.failCode [] (roleKey (get (F.OBJ_SESS_ROLE i) s) s).2) := by
  have hno : ¬ (dataOf r = Config.cmac k.key (proofInput i (get (F.OBJ_SESS_ROLE i) s) (sessOf i s)) ∧
      s.sup.mono < (sessOf i s).last + 10240) := by
    rintro ⟨hmac, htime⟩
    exact hbad.elim (fun h => h hmac) (fun h => by omega)
  simp only [proofEffect, hg, hst, hk, if_neg hno]
  rfl

/-- A PROOF in time opens the session (R230). -/
theorem proofEffect_opens (hmac : dataOf r = Config.cmac k.key (proofInput i (get (F.OBJ_SESS_ROLE i) s) (sessOf i s)))
    (htime : s.sup.mono < (sessOf i s).last + 10240) :
    proofEffect i r s = answerObject i 0 [] (openSession i (get (F.OBJ_SESS_ROLE i) s)
      (Config.cmac k.key ([0x53, 0x45, 0x53, 0x53] ++ (sessOf i s).challenge ++ (sessOf i s).nonce))
      (roleKey (get (F.OBJ_SESS_ROLE i) s) s).2) := by
  simp only [proofEffect, hg, hst, hk, if_pos (And.intro hmac htime)]
  rfl

end

/-- A challenge that fails is withdrawn and told, and then counted for its role (R231). -/
theorem failSession_of_challenged (h : sessState i s = 1) :
    failSession i s = occurrence (38 + get (F.OBJ_SESS_ROLE i) s) 0 i (raise F.OBJ_CAUSE_SESS_FAIL (endSession i s)) := by
  rw [failSession, closeSession_of_challenged h]

/-- The session that a key opens: its number starts at 1, its idle time now (R230). -/
def openedSession (key : List Byte) (s : State) : SessSt := { key := ofBe key, nextSeq := 1, last := s.sup.mono }

/-- What an open session shows before its cause is raised: its state and its bit, beside the session itself. -/
def showOpened (i : Nat) (key : List Byte) (s : State) : State :=
  putBit F.OBJ_STATUS_SESSIONS i true (put (F.OBJ_SESS_STATE i) 2
    (touchSession i (fun x => { x with key := ofBe key, nextSeq := 1, challenge := [], nonce := [] }) s))

theorem showOpened_spec (hs : sparseWf (0 : Word) s.regs = true) (hi : i < 7) (key : List Byte) :
    sessState i (showOpened i key s) = 2 ∧ get (F.OBJ_SESS_ROLE i) (showOpened i key s) = get (F.OBJ_SESS_ROLE i) s ∧
      fbit F.OBJ_STATUS_SESSIONS i (showOpened i key s) = true ∧
      Touches [F.OBJ_SESS_IDLE_LEFT i, F.OBJ_SESS_STATE i, F.OBJ_STATUS_SESSIONS] s.regs (showOpened i key s).regs := by
  have hpend : ∀ lo width, (⟨R.OBJ_SESS i, lo, width⟩ : Fld).apart F.INT_HOST_PEND_PEND = true := fun lo width =>
    Fld.apart_of_addr (by dsimp only [R.OBJ_SESS, R.INT_HOST_PEND]; omega)
  have hne : R.OBJ_STATUS ≠ R.OBJ_SESS i := (OBJ_SESS_ne i (by decide)).symm
  have htouch := touches_touchSession hs (fun x => { x with key := ofBe key, nextSeq := 1, challenge := [], nonce := [] }) i
  have hstate := (htouch.mono (M := [F.OBJ_SESS_IDLE_LEFT i, F.OBJ_SESS_STATE i, F.OBJ_STATUS_SESSIONS]) (by simp)).put
    (f := F.OBJ_SESS_STATE i) (v := 2) (by simp) rfl (hpend _ _)
  refine ⟨?_, ?_, fbit_setBit rfl hi _, hstate.put (by simp) rfl rfl⟩
  · exact (get_put_apart _ hstate.wf rfl (Fld.apart_of_addr hne)).trans (get_put_same 2 htouch.wf rfl)
  · exact (get_put_apart _ hstate.wf rfl (Fld.apart_of_addr hne)).trans
      ((get_put_apart 2 htouch.wf rfl (by simp [Fld.apart])).trans (get_touchSession hs _ (by decide)))

/-- A session that opens shows its state, its bit, METROLOGY's mark and its cause, and keeps its role (R230, R237). -/
theorem openSession_spec (hs : sparseWf (0 : Word) s.regs = true) (hi : i < 7) (hlen : i < s.obj.sess.length) (role : Nat)
    (key : List Byte) : sessState i (openSession i role key s) = 2 ∧
      get (F.OBJ_SESS_ROLE i) (openSession i role key s) = get (F.OBJ_SESS_ROLE i) s ∧
      fbit F.OBJ_STATUS_SESSIONS i (openSession i role key s) = true ∧
      (role = 5 → get F.OBJ_STATUS_LEGAL_SESSION (openSession i role key s) = 1) ∧
      Raised F.OBJ_CAUSE_SESS_OPEN s (openSession i role key s) ∧
      nth {} (openSession i role key s).obj.sess i = openedSession key s := by
  obtain ⟨hstate, hrole, hbit, hshown⟩ := showOpened_spec hs hi key
  let legal := if role = 5 then put F.OBJ_STATUS_LEGAL_SESSION 1 (showOpened i key s) else showOpened i key s
  have hopen : openSession i role key s = raise F.OBJ_CAUSE_SESS_OPEN legal := rfl
  have hlegal : Touches [F.OBJ_STATUS_LEGAL_SESSION, F.OBJ_CAUSE_SESS_OPEN, F.INT_HOST_PEND_PEND] (showOpened i key s).regs legal.regs := by
    unfold legal
    split
    · exact (Touches.refl hshown.wf).put (by decide) rfl rfl
    · exact .refl hshown.wf
  have hall := hlegal.raise (f := F.OBJ_CAUSE_SESS_OPEN) (by decide) (by decide) rfl rfl
  have happart : ∀ g : Fld, g.addr = R.OBJ_SESS i →
      ∀ f ∈ [F.OBJ_STATUS_LEGAL_SESSION, F.OBJ_CAUSE_SESS_OPEN, F.INT_HOST_PEND_PEND], f.apart g = true := fun g hg f hf => by
    refine Fld.apart_of_addr ?_
    rw [hg]
    refine (OBJ_SESS_ne i ?_).symm
    revert f
    decide
  rw [hopen]
  refine ⟨(hall.get (happart _ rfl)).trans hstate, (hall.get (happart _ rfl)).trans hrole, (hall.fbit (by decide)).trans hbit,
    fun h5 => ?_, ?_, ?_⟩
  · rw [get_raise_apart hlegal.wf rfl rfl rfl]
    unfold legal
    rw [if_pos h5, get_put_same _ hshown.wf rfl]
    rfl
  · refine (((hshown.mono ?_).trans (hlegal.mono ?_)) : Touches ([F.OBJ_SESS_IDLE_LEFT i, F.OBJ_SESS_STATE i, F.OBJ_STATUS_SESSIONS] ++
      [F.OBJ_STATUS_LEGAL_SESSION, F.OBJ_CAUSE_SESS_OPEN, F.INT_HOST_PEND_PEND]) _ _).raised rfl rfl (by decide) (by decide) ?_
    · exact List.subset_append_left _ _
    · exact List.subset_append_right _ _
    · show ∀ f ∈ (_ : List Fld), f.addr ≠ R.OBJ_CAUSE_EN
      simpa using OBJ_SESS_ne i (by decide)
  · have hobj : legal.obj.sess = upd s.obj.sess i fun x => { x with
        key := ofBe key, nextSeq := 1, challenge := [], nonce := [], last := s.sup.mono } := by
      unfold legal
      split <;> rfl
    rw [raise_obj, hobj, nth_upd_same _ _ hlen]
    rfl

/-! Requests and timeouts -/

/-- A field of the session's register is touched neither by the load of a key nor by an answer. -/
theorem get_OBJ_SESS_answered {u : State} (hi : i < 7)
    (hu : Touches (wellShown ++ [F.OBJ_SESS_IDLE_LEFT i]) s.regs u.regs) {lo width : Nat} (h : lo + width ≤ 16) (code : Nat) (data : List Byte) :
    get ⟨R.OBJ_SESS i, lo, width⟩ (answerObject i code data u) = get ⟨R.OBJ_SESS i, lo, width⟩ s := by
  have hans := touches_answerObject hu.wf i code data
  refine (hans.get_of_block (g := ⟨R.OBJ_SESS i, lo, width⟩) ?_).trans (hu.get fun f hf => ?_)
  · rw [blockOf_OBJ_SESS hi]
    decide
  · obtain hf | hf := List.mem_append.mp hf
    · have hwell : ∀ f ∈ wellShown, blockOf f.addr ≠ 18 := by decide
      refine Fld.apart_of_addr (ne_of_blockOf ?_)
      rw [blockOf_OBJ_SESS hi]
      exact hwell f hf
    · obtain rfl := List.mem_singleton.mp hf
      exact IDLE_LEFT_apart i lo width h

/-- The cause registers of the object server are not touched on the way to an answer. -/
theorem touched_ne_OBJ_CAUSE_EN (i : Nat) : ∀ f ∈ (wellShown ++ [F.OBJ_SESS_IDLE_LEFT i]) ++ answerFlds, f.addr ≠ R.OBJ_CAUSE_EN := by
  have hserver : ∀ f ∈ wellShown ++ answerFlds, f.addr ≠ R.OBJ_CAUSE_EN := by decide
  intro f hf
  simp only [List.mem_append, List.mem_singleton] at hf
  obtain (hf | rfl) | hf := hf
  · exact hserver f (List.mem_append_left _ hf)
  · exact OBJ_SESS_ne i (by decide)
  · exact hserver f (List.mem_append_right _ hf)

theorem touches_answered {u : State} (hu : Touches (wellShown ++ [F.OBJ_SESS_IDLE_LEFT i]) s.regs u.regs) (code : Nat) (data : List Byte) :
    Touches ((wellShown ++ [F.OBJ_SESS_IDLE_LEFT i]) ++ answerFlds) s.regs (answerObject i code data u).regs :=
  (hu.mono (List.subset_append_left _ _)).trans ((touches_answerObject hu.wf i code data).mono (List.subset_append_right _ _))

section
variable (h2 : e2Up s = true) (hr : nth none s.obj.req i = some r) (ha : answering i s = false)
include h2 hr ha

theorem exec_sessionOpen (hop : opOf r = 1) (hin : inSess r = false) : exec (.sessionOpen i) s = .next (openEffect i r s) :=
  (onRequest_outside h2 hr ha hop hin : execSessionOpen i s = _)

theorem exec_sessionProof (hop : opOf r = 2) (hin : inSess r = false) : exec (.sessionProof i) s = .next (proofEffect i r s) :=
  (onRequest_outside h2 hr ha hop hin : execSessionProof i s = _)

/-- A CLOSE outside a session has none to close (R231, log 28). -/
theorem exec_sessionClose_outside (hop : opOf r = 3) (hin : inSess r = false) :
    exec (.sessionClose i) s = .next (answerObject i (if guarded s then 4 else 8) [] s) := by
  refine (onRequest_outside h2 hr ha hop hin : execSessionClose i s = _).trans ?_
  rw [hin]
  split <;> rfl

/-- A CLOSE in session is answered and closes it (R231). -/
theorem exec_sessionClose_inside (hop : opOf r = 3) (hin : inSess r = true) (hg : guarded s = false) (hok : sessionOk i r s = true) :
    exec (.sessionClose i) s = .next (closeSession i (answerObject i 0 [] (countRequest i s))) := by
  have hg' : guarded (countRequest i s) = false := hg
  refine (onRequest_taken h2 hr ha hop : execSessionClose i s = _).trans ?_
  rw [inSession_ok _ hin (by omega) hok]
  simp only [hg', hin, Bool.false_eq_true, if_false, if_true]

end

section
variable (hs : sparseWf (0 : Word) s.regs = true) (hi : i < 7)
include hs hi

/-- A CLOSE leaves neither session nor request, and tells it (R231). -/
theorem sessionClose_spec (h : sessState i s = 2) {t : State} (ht : t = closeSession i (answerObject i 0 [] (countRequest i s))) :
    sessState i t = 0 ∧ nth {} t.obj.sess i = {} ∧ nth none t.obj.req i = none ∧ Raised F.OBJ_CAUSE_SESS_CLOSE s t := by
  have hcount : Touches (wellShown ++ [F.OBJ_SESS_IDLE_LEFT i]) s.regs (countRequest i s).regs :=
    (touches_touchSession hs _ i).mono (List.subset_append_right _ _)
  have hans := touches_answered hcount 0 []
  have hopen : sessState i (answerObject i 0 [] (countRequest i s)) = 2 := (get_OBJ_SESS_answered hi hcount (by decide) 0 []).trans h
  obtain ⟨hclosed, -, hraised, hrest, -⟩ := closeSession_open_spec hans.wf hi hopen
  subst ht
  refine ⟨hclosed, ?_, ?_, hraised.rebase hans (touched_ne_OBJ_CAUSE_EN i)⟩
  · rw [hrest]
    exact nth_upd_default _ _ _
  · rw [hrest]
    exact request_answered i 0 [] _

end

/-- PROOF_TIMEOUT fails a challenge 10 s old (R230). -/
theorem exec_proofTimeout_late (hi : i < 7) (hd : domOn 5 s = true) (h : sessState i s = 1) (hlate : (sessOf i s).last + 10240 ≤ s.sup.mono) :
    exec (.proofTimeout i) s = .next (failSession i s) :=
  (onlyIf_of_true (by simp [hi, hd, h, hlate]) _ s : execProofTimeout i s = _)

/-- SESSION_IDLE_TIMEOUT closes a session that has been idle (R231). -/
theorem exec_sessionIdleTimeout_late (hi : i < 7) (hd : domOn 5 s = true) (h : sessState i s = 2)
    (hlate : (sessOf i s).last + 1024 * get F.OBJ_SESS_CFG_IDLE s ≤ s.sup.mono) :
    exec (.sessionIdleTimeout i) s = .next (closeSession i s) :=
  (onlyIf_of_true (by simp [hi, hd, h, hlate]) _ s : execSessionIdleTimeout i s = _)

theorem exec_timeouts_idle (h : 7 ≤ i ∨ domOn 5 s = false ∨ sessState i s = 0) :
    exec (.proofTimeout i) s = .next s ∧ exec (.sessionIdleTimeout i) s = .next s := by
  have hidle : ∀ n, n ≠ 0 → (decide (i < 7) && domOn 5 s && sessState i s == n) = false := fun n hn => by
    obtain h | h | h := h
    · simp [Nat.not_lt.mpr h]
    · simp [h]
    · simp [h, hn.symm]
  exact ⟨(onlyIf_of_false (by simp only [hidle 1 (by decide), Bool.false_and]) _ s : execProofTimeout i s = _),
    (onlyIf_of_false (by simp only [hidle 2 (by decide), Bool.false_and]) _ s : execSessionIdleTimeout i s = _)⟩

end

/-- Settles O38: each request by whether it is in session and in order, OPEN by its refusals, PROOF by its MAC and its time; the timeouts. -/
theorem sessions : Obligations.Sessions := by
  unfold Obligations.Sessions
  refine ⟨fun s i code cmd n data r hs hi hr hslot => ?_,
    fun s i r k hs h2 hi hlen hr hop hin ha hg hrole hnonce hl h45 hk => ?_,
    fun s i r h2 hr ha hop hin h => ?_,
    fun s i r hs h2 hr ha hop hin hg hrole hnonce hl => ?_,
    fun s i r h2 hr ha hop hin h => ?_,
    fun s i r k hs hi h2 hr ha hop hin hg hst hk hbad => ?_,
    fun s i r k hs h2 hi hlen hr hop hin ha hg hst hk hmac htime => ?_,
    fun s i hs hi hd hst hlate => ?_,
    fun s i r hs h2 hi hlen hr hop hin ha hg hok => ?_,
    fun s i r h2 hr ha hop hin => exec_sessionClose_outside h2 hr ha hop hin,
    fun s i hs hi hd hst hidle => ?_,
    fun s i h => exec_timeouts_idle h,
    fun s i r h2 hr ha hop hin hok => ⟨fun h => ?_, fun h => ?_, fun h _ => ?_, fun h _ => ?_⟩,
    fun s i wd h => ⟨onRequest_idle h, onRequest_idle h, onRequest_idle h, onRequest_idle h, onRequest_idle h, onRequest_idle h⟩⟩
  · rw [answerObject_host hi hr hslot]
    exact ⟨rfl, rfl, fbit_setBit rfl hi _, onlyFlds_setBit rfl hi (noteAnswer i cmd n _ s)⟩
  · rw [exec_sessionOpen h2 hr ha hop hin, openEffect_challenge hg hrole hnonce hl h45 hk]
    obtain ⟨u, ch, heq, hspec⟩ := challenge_spec hs (hlen ▸ hi) hrole.2 hk (dataOf r)
    exact ⟨u, ch, congrArg _ heq, hspec⟩
  · rw [exec_sessionOpen h2 hr ha hop hin, openEffect_refused h]
  · refine ⟨_, ?_, raised_raise hs.1 rfl (by decide) (by decide) (by decide) rfl,
      ((Chain.start hs.1).raise (by simp) (by simp) rfl).only⟩
    rw [exec_sessionOpen h2 hr ha hop hin, openEffect_lockout hg hrole hnonce hl]
  · rw [exec_sessionProof h2 hr ha hop hin, proofEffect_refused h]
  · have hload := (roleKey_wellOnly hs.1 hk).touches.mono (List.subset_append_left wellShown [F.OBJ_SESS_IDLE_LEFT i])
    have hans := touches_answered hload Config.failCode []
    have hstate := (get_OBJ_SESS_answered hi hload (lo := 3) (width := 2) (by decide) Config.failCode []).trans hst
    obtain ⟨hclosed, -, hraised, -⟩ := raise_endSession_spec (c := F.OBJ_CAUSE_SESS_FAIL) hans.wf hi rfl rfl (by decide)
    refine ⟨_, ?_, hclosed, hraised.rebase hans (touched_ne_OBJ_CAUSE_EN i)⟩
    rw [exec_sessionProof h2 hr ha hop hin, proofEffect_fails hg hst hk hbad, failSession_of_challenged hstate,
      get_OBJ_SESS_answered hi hload (by decide)]
  · have hload := roleKey_wellOnly hs.1 hk
    have hobj : (roleKey (get (F.OBJ_SESS_ROLE i) s) s).2.obj = s.obj := by rw [hload.rest]
    have hsup : (roleKey (get (F.OBJ_SESS_ROLE i) s) s).2.sup = s.sup := by rw [hload.rest]
    obtain ⟨hstate, hrole, hbit, hlegal, hraised, hsess⟩ := openSession_spec hload.touches.wf hi (by rw [hobj, hlen]; exact hi)
      (get (F.OBJ_SESS_ROLE i) s) (Config.cmac k.key ([0x53, 0x45, 0x53, 0x53] ++ (sessOf i s).challenge ++ (sessOf i s).nonce))
    refine ⟨_, ?_, hstate, hrole.trans (hload.touches.get_of_block ?_), hbit, hlegal, hraised.rebase hload.touches (by decide), hsess.trans ?_⟩
    · rw [exec_sessionProof h2 hr ha hop hin, proofEffect_opens hg hst hk hmac htime]
    · rw [blockOf_OBJ_SESS hi]
      decide
    · rw [openedSession, hsup]
  · obtain ⟨hclosed, -, hraised, honly⟩ := raise_endSession_spec (c := F.OBJ_CAUSE_SESS_FAIL) hs.1 hi rfl rfl (by decide)
    refine ⟨_, ?_, hclosed, hraised, honly⟩
    rw [exec_proofTimeout_late hi hd hst hlate, failSession_of_challenged hst]
  · exact ⟨_, exec_sessionClose_inside h2 hr ha hop hin hg hok, sessionClose_spec hs.1 hi (sessState_of_sessionOk hok) rfl⟩
  · exact ⟨_, exec_sessionIdleTimeout_late hi hd hst hidle, closeSession_open_spec hs.1 hi hst⟩
  · exact onRequest_bad h2 hr ha h hin hop.1 hok
  · exact onRequest_bad h2 hr ha h hin hop.1 hok
  · exact onRequest_bad h2 hr ha h hin hop.1 hok
  · exact onRequest_bad h2 hr ha h hin hop.1 hok

end Sys2Proof.Machine
end

section
/-! SUPPORT. What the object server does for a request (O39): the readings and their counter, SET and ACTION by the method that the value
names, the signature's end, and `CAL_EN` with its event and the METROLOGY sessions. -/
namespace Sys2Proof.Machine

/-! The reading counter (R219, R236) -/

theorem counter_dirty (i b : Nat) (s : State) : counter i (dirty b s) = counter i s := by
  unfold dirty
  split <;> rfl

/-- A spread counter raised by `n` saturates (R219). -/
theorem counter_counterAdd {i : Nat} {s : State} (n : Nat) (hi : i < s.cis.b0.spread.length) :
    counter i (counterAdd i n s) = max (counter i s) (min spreadMax (counter i s + n)) := by
  rw [counterAdd, counter_dirty]
  exact (congrArg spreadRead (nth_upd_same _ _ hi)).trans (spreadRead_spreadRaise _ _)

theorem Touches.counterAdd {L : List Fld} {r : Sparse Word} {s : State} (h : Touches L r s.regs) (hL : F.CIS_STATUS_DIRTY ∈ L) (i n : Nat) :
    Touches L r (counterAdd i n s).regs := Touches.dirty (by exact h) hL

/-- The fields in which a reading that is counted shows. -/
def readingFlds : List Fld := [F.CIS_STATUS_DIRTY, F.OBJ_READ_RESERVE_SINCE_STORE, F.OBJ_STATUS_OBJECTS, F.OBJ_READ_CTR_COUNT,
  F.OBJ_LEGAL_LOG_USED, F.OBJ_LEGAL_LOG_CHANGES]

/-- A reading counted and shown, with no store asked for. -/
def noteReading (s : State) : State :=
  showObj (put F.OBJ_READ_RESERVE_SINCE_STORE (get F.OBJ_READ_RESERVE_SINCE_STORE s + 1) (counterAdd 6 1 s))

theorem beyondCis_noteReading (s : State) : beyondCis (noteReading s) = beyondCis s := beyondCis_counterAdd 6 1 s

section
variable {s : State} (hs : sparseWf (0 : Word) s.regs = true)
include hs

theorem touches_noteReading : Touches readingFlds s.regs (noteReading s).regs := by
  have hreserve : Touches readingFlds s.regs (put F.OBJ_READ_RESERVE_SINCE_STORE (get F.OBJ_READ_RESERVE_SINCE_STORE s + 1)
      (counterAdd 6 1 s)).regs := ((Touches.refl hs).counterAdd (by decide) 6 1).put (by decide) rfl rfl
  exact (((hreserve.put (f := F.OBJ_READ_CTR_COUNT) (by decide) rfl rfl).put (f := F.OBJ_STATUS_OBJECTS) (by decide) rfl rfl).put
    (f := F.OBJ_LEGAL_LOG_CHANGES) (by decide) rfl rfl).put (f := F.OBJ_LEGAL_LOG_USED) (by decide) rfl rfl

section
variable (hlow : get F.OBJ_READ_RESERVE_SINCE_STORE s < 32767)
include hlow

/-- While fewer than 32 767 readings stand since the last store, a further one asks for none (R236). -/
theorem raiseReading_eq : raiseReading s = noteReading s := by
  have hget : get F.OBJ_READ_RESERVE_SINCE_STORE (counterAdd 6 1 s) = get F.OBJ_READ_RESERVE_SINCE_STORE s :=
    ((Touches.refl hs).counterAdd (L := [F.CIS_STATUS_DIRTY]) (by decide) 6 1).get (by decide)
  have hsat : satNat 65535 (get F.OBJ_READ_RESERVE_SINCE_STORE s + 1) = get F.OBJ_READ_RESERVE_SINCE_STORE s + 1 := by
    rw [satNat_eq_min]
    omega
  simp only [raiseReading, hget, hsat]
  exact if_neg (by omega)

/-- The counter and the reserve each rise by 1 (R236). -/
theorem noteReading_spec (hlen : s.cis.b0.spread.length = 7) (hmax : counter 6 s < 2 ^ 62) :
    counter 6 (noteReading s) = counter 6 s + 1 ∧
      get F.OBJ_READ_RESERVE_SINCE_STORE (noteReading s) = get F.OBJ_READ_RESERVE_SINCE_STORE s + 1 := by
  have hcounted : sparseWf (0 : Word) (counterAdd 6 1 s).regs = true :=
    ((Touches.refl hs).counterAdd (L := [F.CIS_STATUS_DIRTY]) (by decide) 6 1).wf
  constructor
  · refine (counter_counterAdd (s := s) 1 (by omega)).trans ?_
    rw [spreadMax]
    omega
  · have hshow : Touches [F.OBJ_STATUS_OBJECTS, F.OBJ_READ_CTR_COUNT, F.OBJ_LEGAL_LOG_USED, F.OBJ_LEGAL_LOG_CHANGES]
        (put F.OBJ_READ_RESERVE_SINCE_STORE (get F.OBJ_READ_RESERVE_SINCE_STORE s + 1) (counterAdd 6 1 s)).regs (noteReading s).regs :=
      ((((Touches.refl (rput_wf _ _ _ hcounted)).put (f := F.OBJ_READ_CTR_COUNT) (by decide) rfl rfl).put (f := F.OBJ_STATUS_OBJECTS)
        (by decide) rfl rfl).put (f := F.OBJ_LEGAL_LOG_CHANGES) (by decide) rfl rfl).put (f := F.OBJ_LEGAL_LOG_USED) (by decide) rfl rfl
    refine (hshow.get (by decide)).trans ((get_put_same _ hcounted rfl).trans (Nat.mod_eq_of_lt ?_))
    exact (show _ < 2 ^ 16 by omega)

end
end

theorem not_readingsHeld {s : State} (hlow : get F.OBJ_READ_RESERVE_SINCE_STORE s < 32767) : ¬ readingsHeld s = true := by
  rw [readingsHeld, beq_iff_eq]
  omega

/-! GET (R229, R233 to R236) -/

section
variable {i n rd' wr' ex : Nat} {r : ObjReq} {s : State} {b : Binding}

section
variable (hin : inSess r = false) (hobj : objectFor (obisOf r) s = some (b, rd', wr', ex))
include hin hobj

/-- A role without the right is denied (R229). -/
theorem getEffect_denied (hbit : bit rd' 0 = false) : getEffect i r s = denyObject i s := by
  simp [getEffect, hobj, roleFor, hin, hbit]

/-- A billing register's value is a tagged reading (R233, R234). -/
theorem getEffect_bill (hb : b = .bill n) (hbit : bit rd' 0 = true) (hsig : wantsSig r = false) (hsel : selOf r = 1) :
    getEffect i r s = taggedReading i (obisOf r) 1 (0, le 8 (nth 0 s.bil.cur.energy n)) s := by
  subst hb
  simp [getEffect, hobj, roleFor, hin, hbit, hsig, hsel, readValue, bindingValue]

/-- A snapshot that is there is read signed where the request asks so (R235). -/
theorem getEffect_snapshot (hb : b = .device 13) (hbit : bit rd' 0 = true) (hsig : wantsSig r = true) (hsel : selOf r = 1)
    {e : Nat × Snapshot} (hfind : s.cis.b3.snaps.find?
      (fun x => x.2.num == (if (dataOf r).isEmpty then counter 0 s % 2 ^ 32 else field (dataOf r) 0 4)) = some e) :
    getEffect i r s = signedReading i (obisOf r) (5, snapBytes e.2) s := by
  subst hb
  have hvalue : snapshotValue (dataOf r) s = .ok (5, snapBytes e.2) := by simp only [snapshotValue, hfind]
  simp [getEffect, hobj, roleFor, hin, hbit, hsig, hsel, readValue, bindingValue, hvalue]

end

theorem getEffect_unknown (hobj : objectFor (obisOf r) s = none) : getEffect i r s = answerObject i 2 [] s := by
  simp [getEffect, hobj]

/-- What a load that delivers keeps: the counter of the readings, their reserve and all that is neither register nor Well. -/
theorem WellOnly.reading_kept {t : State} (h : WellOnly s t) : counter 6 t = counter 6 s ∧
    get F.OBJ_READ_RESERVE_SINCE_STORE t = get F.OBJ_READ_RESERVE_SINCE_STORE s ∧ t.cis = s.cis ∧ t.bil = s.bil ∧ t.obj = s.obj := by
  have hcis : t.cis = s.cis := (congrArg State.cis h.rest :)
  exact ⟨congrArg (fun c : CisSt => spreadRead (nth {} c.b0.spread 6)) hcis, h.touches.get (by decide), hcis,
    (congrArg State.bil h.rest :), (congrArg State.obj h.rest :)⟩

section
variable {k : WSlot} {obis : List Nat} {attr : Nat} {v : Nat × List Byte} (hs : s.Inv)
  (hlow : get F.OBJ_READ_RESERVE_SINCE_STORE s < 32767) (hlen : s.cis.b0.spread.length = 7) (hmax : counter 6 s < 2 ^ 62)
include hs hlow hlen hmax

/-- With the reading key loaded a reading counts and answers with its tag (R234, R236). -/
theorem taggedReading_tagged (hk : (loadNamed s.ld.tables.obj.readKey (2, 4) s).1 = .ok k) :
    ∃ u, taggedReading i obis attr v s = answerObject i 0 (readingHead 0x0001 obis attr v u ++
        (Config.cmac k.key (readingHead 0x0001 obis attr v u)).take 8) u ∧
      counter 6 u = counter 6 s + 1 ∧ get F.OBJ_READ_RESERVE_SINCE_STORE u = get F.OBJ_READ_RESERVE_SINCE_STORE s + 1 ∧
      get F.OBJ_STATUS_NO_READ_KEY u = 0 ∧ u.bil = s.bil := by
  have hload := loadNamed_wellOnly hs.1 hk
  obtain ⟨hcounter, hreserve, hcis, hbil, -⟩ := hload.reading_kept
  let w := put F.OBJ_STATUS_NO_READ_KEY 0 (loadNamed s.ld.tables.obj.readKey (2, 4) s).2
  have hw : sparseWf (0 : Word) w.regs = true := rput_wf _ _ _ hload.touches.wf
  have hreservew : get F.OBJ_READ_RESERVE_SINCE_STORE w = get F.OBJ_READ_RESERVE_SINCE_STORE s :=
    (get_put_apart 0 hload.touches.wf rfl rfl).trans hreserve
  have hloww : get F.OBJ_READ_RESERVE_SINCE_STORE w < 32767 := hreservew ▸ hlow
  have hcounterw : counter 6 w = counter 6 s := hcounter
  obtain ⟨hcounted, hnoted⟩ := noteReading_spec hw hloww (hcis ▸ hlen : w.cis.b0.spread.length = 7) (hcounterw ▸ hmax)
  refine ⟨noteReading w, ?_, hcounted.trans (congrArg (· + 1) hcounterw), hnoted.trans (congrArg (· + 1) hreservew), ?_, ?_⟩
  · rw [← raiseReading_eq hw hloww]
    simp only [taggedReading, hk]
    exact if_neg (not_readingsHeld hloww)
  · exact ((touches_noteReading hw).get (by decide)).trans (get_put_same 0 hload.touches.wf rfl)
  · exact (congrArg State.bil (beyondCis_noteReading w) :).trans hbil

/-- With the signing key loaded and no signature in the making a reading counts and its signature starts (R235, R236). -/
theorem signedReading_starts (hfree : s.obj.signing = none) (hk : (loadNamed s.ld.tables.obj.signKey (2, 0x10) s).1 = .ok k) :
    (signedReading i obis v s).obj.signing = some (i, readingHead 0x0002 obis 1 v (signedReading i obis v s), k.key) ∧
      counter 6 (signedReading i obis v s) = counter 6 s + 1 ∧
      get F.OBJ_READ_RESERVE_SINCE_STORE (signedReading i obis v s) = get F.OBJ_READ_RESERVE_SINCE_STORE s + 1 ∧
      (signedReading i obis v s).obj.req = s.obj.req := by
  have hload := loadNamed_wellOnly hs.1 hk
  obtain ⟨hcounter, hreserve, hcis, -, hobj⟩ := hload.reading_kept
  let w := (loadNamed s.ld.tables.obj.signKey (2, 0x10) s).2
  have hw : sparseWf (0 : Word) w.regs = true := hload.touches.wf
  have hloww : get F.OBJ_READ_RESERVE_SINCE_STORE w < 32767 := hreserve ▸ hlow
  obtain ⟨hcounted, hnoted⟩ := noteReading_spec hw hloww (hcis ▸ hlen : w.cis.b0.spread.length = 7) (hcounter ▸ hmax)
  have hstart : signedReading i obis v s =
      updObj (fun o => { o with signing := some (i, readingHead 0x0002 obis 1 v (noteReading w), k.key) }) (noteReading w) := by
    rw [← raiseReading_eq hw hloww]
    simp only [signedReading, hfree, hk]
    exact if_neg (not_readingsHeld hloww)
  rw [hstart]
  refine ⟨rfl, hcounted.trans (congrArg (· + 1) hcounter), hnoted.trans (congrArg (· + 1) hreserve), ?_⟩
  exact (congrArg (fun s => s.obj.req) (beyondCis_noteReading w) :).trans (congrArg ObjSt.req hobj)

end

/-- With no reading key the reading is untagged and counts for nothing (R234). -/
theorem taggedReading_untagged {obis : List Nat} {attr : Nat} {v : Nat × List Byte} (hk : s.ld.tables.obj.readKey = none) :
    taggedReading i obis attr v s = answerObject i 0 (readingHead 0x0081 obis attr v s ++ zeros 8) (put F.OBJ_STATUS_NO_READ_KEY 1 s) := by
  have hhead : readingHead 0x0081 obis attr v (put F.OBJ_STATUS_NO_READ_KEY 1 s) = readingHead 0x0081 obis attr v s := by
    simp only [readingHead, rtc_put (f := F.OBJ_STATUS_NO_READ_KEY) 1 s (by decide)]
    rfl
  simp only [taggedReading, hk, loadNamed, hhead]

end

/-! SET and ACTION (R228, R229) -/

/-- The answer of a method: at once with its code, or later. -/
def answerMethod (i : Nat) (x : Option Nat × State) : State :=
  match x.1 with
  | some n => answerObject i n [] x.2
  | none => x.2

section
variable {i d rd' wr' ex : Nat} {x : Bool} {r : ObjReq} {wd : World} {s : State} {b : Binding}

theorem callEffect_unknown (hobj : objectFor (obisOf r) s = none) : callEffect x wd i r s = answerObject i 2 [] s := by
  simp [callEffect, hobj]

theorem callEffect_denied (hobj : objectFor (obisOf r) s = some (b, rd', wr', ex))
    (hbit : bit (if x then ex else wr') (roleFor i r s) = false) : callEffect x wd i r s = denyObject i s := by
  simp [callEffect, hobj, hbit]

section
variable (hobj : objectFor (obisOf r) s = some (.device d, rd', wr', ex)) (hbit : bit (if x then ex else wr') (roleFor i r s) = true)
include hobj hbit

/-- A value that names no method is no value (R228). -/
theorem callEffect_noMethod (hm : Config.methodOf d (selOf r) (dataOf r) = none) : callEffect x wd i r s = answerObject i 6 [] s := by
  simp [callEffect, hobj, hbit, hm]

theorem callEffect_method {m : Method} (hm : Config.methodOf d (selOf r) (dataOf r) = some m) :
    callEffect x wd i r s = answerMethod i (runMethod i d (dataOf r) m wd s) := by
  simp only [callEffect, hobj, hbit, hm]
  rfl

end

/-- A request in session is counted before its effect, and nothing else has changed there (R230, R231). -/
theorem countRequest_spec (hs : sparseWf (0 : Word) s.regs = true) (hlen : i < s.obj.sess.length) :
    OnlyFlds [F.OBJ_SESS_IDLE_LEFT i] { s with obj := (countRequest i s).obj } (countRequest i s) ∧
      (countRequest i s).obj.req = s.obj.req ∧ nth {} (countRequest i s).obj.sess i =
        { nth {} s.obj.sess i with nextSeq := ((nth {} s.obj.sess i).nextSeq + 1) % 2 ^ 32, last := s.sup.mono } :=
  ⟨(touches_touchSession hs _ i).onlyFlds rfl rfl, rfl, nth_upd_same _ _ hlen⟩

/-- In session the role is the session's, before and after the request is counted. -/
theorem roleFor_countRequest (hs : sparseWf (0 : Word) s.regs = true) (hin : inSess r = true) :
    roleFor i r (countRequest i s) = get (F.OBJ_SESS_ROLE i) s := by
  rw [roleFor, if_pos hin]
  exact get_touchSession hs _ (by decide)

theorem objectFor_countRequest (obis : List Nat) : objectFor obis (countRequest i s) = objectFor obis s := rfl

/-- New passwords stand in the record, and the grants on the bank have lapsed (R222, R223). -/
theorem setPasswords_spec {bank rp wp : Nat} (hb : bank < 16) (hr : rp < 2 ^ 64) (hw : wp < 2 ^ 64) :
    (setPasswords bank rp wp s).2.cis.grants = s.cis.grants.filter (fun g => g.2.1 != bank) ∧
      ∃ l, (setPasswords bank rp wp s).2.cis.b1.pw = writeCopy s.cis.b1.pw l ∧ 16 ≤ l.length ∧ nth (0, 0) l bank = (rp, wp) := by
  let padded := held [] s.cis.b1.pw ++ List.replicate (16 - (held [] s.cis.b1.pw).length) (2 ^ 64 - 1, 2 ^ 64 - 1)
  have hlen : 16 ≤ padded.length := by
    simp only [padded, List.length_append, List.length_replicate]
    omega
  have hset : (setPasswords bank rp wp s).2 = dirty 1 { s with cis := { s.cis with
      b1 := { s.cis.b1 with pw := writeCopy s.cis.b1.pw (upd padded bank fun _ => (rp, wp)) }
      grants := s.cis.grants.filter fun g => g.2.1 != bank } } := by
    rw [setPasswords, if_neg (by omega)]
  rw [hset, dirty_grants, dirty_cis_b1]
  exact ⟨rfl, _, rfl, (upd_length _ _ _).symm ▸ hlen, nth_upd_same _ _ (by omega)⟩

section
variable (h2 : e2Up s = true) (hr : nth none s.obj.req i = some r) (ha : answering i s = false)
include h2 hr ha

theorem exec_objGet_outside (hop : opOf r = 4) (hin : inSess r = false) : exec (.objGet i) s = .next (getEffect i r s) :=
  (onRequest_outside h2 hr ha hop hin : execObjGet i s = _)

theorem exec_objSet_outside (hop : opOf r = 5) (hin : inSess r = false) : exec (.objSet i wd) s = .next (callEffect false wd i r s) :=
  (onRequest_outside h2 hr ha hop hin : execObjSet i wd s = _)

theorem exec_objAction_outside (hop : opOf r = 6) (hin : inSess r = false) : exec (.objAction i wd) s = .next (callEffect true wd i r s) :=
  (onRequest_outside h2 hr ha hop hin : execObjAction i wd s = _)

section
variable (hin : inSess r = true) (hok : sessionOk i r s = true)
include hin hok

/-- A request in session that is in order is counted and has its effect. -/
theorem onRequest_inside {op : Nat} {eff : ObjReq → State → State} (hop : opOf r = op) (h3 : 3 ≤ op) :
    onRequest i op eff s = .next (eff r (countRequest i s)) := by
  rw [onRequest_taken h2 hr ha hop, inSession_ok _ hin (hop ▸ h3) hok]

theorem exec_objSet_inside (hop : opOf r = 5) : exec (.objSet i wd) s = .next (callEffect false wd i r (countRequest i s)) :=
  (onRequest_inside h2 hr ha hin hok hop (by decide) : execObjSet i wd s = _)

theorem exec_objAction_inside (hop : opOf r = 6) : exec (.objAction i wd) s = .next (callEffect true wd i r (countRequest i s)) :=
  (onRequest_inside h2 hr ha hin hok hop (by decide) : execObjAction i wd s = _)

end
end
end

/-- A request that is denied is told (R229). -/
theorem denied_spec {s : State} (hs : s.Inv) :
    Raised F.OBJ_CAUSE_DENIED s (raise F.OBJ_CAUSE_DENIED s) ∧
      OnlyFlds [F.OBJ_CAUSE_DENIED, F.INT_HOST_PEND_PEND] s (raise F.OBJ_CAUSE_DENIED s) :=
  ⟨raised_raise hs.1 rfl (by decide) (by decide) (by decide) rfl, ((Chain.start hs.1).raise (by simp) (by simp) rfl).only⟩

/-! SIGN_DONE (R235, R264) -/

/-- The signature's operation has ended, and its slots are released. -/
def signEnded (s : State) : State := showWell (releaseSlots (updObj (fun o => { o with signing := none }) s))

theorem touches_signEnded {s : State} (hs : sparseWf (0 : Word) s.regs = true) : Touches wellShown s.regs (signEnded s).regs := by
  have hsame : Touches wellShown s.regs (releaseSlots (updObj (fun o => { o with signing := none }) s)).regs := .refl hs
  exact ((hsame.put (f := F.WEL_STATUS_SLOTS) (by decide) rfl rfl).put (f := F.SEC_STATUS_QUEUE) (by decide) rfl rfl).put
    (f := F.SEC_STATUS_BUSY) (by decide) rfl rfl

theorem exec_signDone {i key : Nat} {bs : List Byte} {s : State} (h2 : e2Up s = true) (hsign : s.obj.signing = some (i, bs, key)) :
    exec .signDone s = .next (answerObject i 0 (bs ++ be 64 (Config.ecdsaSign key (Config.sha256 bs)))
      (raise F.OBJ_CAUSE_SIGN_DONE (signEnded s))) := by
  show execSignDone s = _
  simp only [execSignDone, hsign]
  exact onlyIf_of_true h2 _ s

theorem exec_signDone_idle {s : State} (h : s.obj.signing = none ∨ e2Up s = false) : exec .signDone s = .next s := by
  show execSignDone s = _
  unfold execSignDone
  split
  · rfl
  next x hx =>
    obtain h | h := h
    · rw [h] at hx
      cases hx
    · exact onlyIf_of_false h _ s

/-! `CAL_EN` (R237, R399) -/

theorem beyondCis_legalEvent (kind role : Nat) (entries : List (List Byte)) (s : State) :
    beyondCis (legalEvent kind role entries s) = beyondCis s := by
  unfold legalEvent
  extract_lets num u n start m m'
  exact (beyondCis_dirty 2 _).trans (beyondCis_counterAdd 4 1 s)

section
variable {s : State} (hs : sparseWf (0 : Word) s.regs = true) (kind role : Nat) (entries : List (List Byte))
include hs

theorem touches_legalEvent : Touches [F.CIS_STATUS_DIRTY] s.regs (legalEvent kind role entries s).regs := by
  unfold legalEvent
  extract_lets num u n start m m'
  exact Touches.dirty (t := { u with cis := { u.cis with b2 := { u.cis.b2 with
    legal := m', evNext := if start + n = 512 then 256 else start + n } } }) ((Touches.refl hs).counterAdd (by decide) 4 1) (by decide)

/-- While bank 2 does not copy, an event makes it dirty (R207). -/
theorem fbit_legalEvent (hc : fbit F.CIS_STATUS_COPYING 2 s = false) : fbit F.CIS_STATUS_DIRTY 2 (legalEvent kind role entries s) = true := by
  unfold legalEvent
  extract_lets num u n start m m'
  have hcu : fbit F.CIS_STATUS_COPYING 2 u = false :=
    (((Touches.refl hs).counterAdd (L := [F.CIS_STATUS_DIRTY]) (by decide) 4 1).fbit (by decide)).trans hc
  rw [dirty, if_neg]
  · exact fbit_setBit rfl (by decide) _
  · exact fun h => absurd (hcu.symm.trans h) (by decide)

end

/-- CAL_EN rises: the pin shows, the event is logged, the cause is raised (R237). -/
theorem calEnRise_spec {s t : State} (hs : s.Inv) (ht : t = raise F.OBJ_CAUSE_SEAL_OPEN (calEvent true false (put F.OBJ_STATUS_CAL_EN 1 s))) :
    get F.OBJ_STATUS_CAL_EN t = 1 ∧ Raised F.OBJ_CAUSE_SEAL_OPEN s t ∧
      (fbit F.CIS_STATUS_COPYING 2 s = false → fbit F.CIS_STATUS_DIRTY 2 t = true) ∧
      OnlyFlds [F.OBJ_STATUS_CAL_EN, F.OBJ_CAUSE_SEAL_OPEN, F.INT_HOST_PEND_PEND, F.CIS_STATUS_DIRTY] { s with cis := t.cis } t := by
  have hpin : sparseWf (0 : Word) (put F.OBJ_STATUS_CAL_EN 1 s).regs = true := rput_wf _ _ _ hs.1
  have hevent : Touches [F.CIS_STATUS_DIRTY] (put F.OBJ_STATUS_CAL_EN 1 s).regs (calEvent true false (put F.OBJ_STATUS_CAL_EN 1 s)).regs :=
    touches_legalEvent hpin _ _ _
  have hset : Touches [F.OBJ_STATUS_CAL_EN, F.CIS_STATUS_DIRTY] s.regs (calEvent true false (put F.OBJ_STATUS_CAL_EN 1 s)).regs :=
    ((Touches.refl hs.1).put (by simp) rfl rfl).trans (hevent.mono (by simp))
  have hall := (hset.mono (M := [F.OBJ_STATUS_CAL_EN, F.OBJ_CAUSE_SEAL_OPEN, F.INT_HOST_PEND_PEND, F.CIS_STATUS_DIRTY]) (by simp)).raise
    (f := F.OBJ_CAUSE_SEAL_OPEN) (by simp) (by simp) rfl rfl
  have hrest : beyondCis t = beyondCis s := by
    rw [ht, beyondCis_raise]
    exact beyondCis_legalEvent _ _ _ _
  subst ht
  refine ⟨?_, hset.raised rfl rfl (by decide) (by decide) (by decide), fun hc => ?_,
    hall.onlyFlds (s := { s with cis := _ }) (eq_of_beyondCis hrest) rfl⟩
  · rw [get_raise_apart hevent.wf rfl rfl rfl, hevent.get (by decide)]
    exact get_put_same 1 hs.1 rfl
  · have hcopying : fbit F.CIS_STATUS_COPYING 2 (put F.OBJ_STATUS_CAL_EN 1 s) = false := (fbit_put_apart hs.1 1 rfl rfl).trans hc
    rw [fbit, get_raise_apart hevent.wf rfl rfl rfl]
    exact fbit_legalEvent hpin _ _ _ hcopying

/-- A METROLOGY session is open on interface `i`. -/
def MetrologyOpen (i : Nat) (s : State) : Prop := sessState i s = 2 ∧ get (F.OBJ_SESS_ROLE i) s = 5

theorem exec_calEnRise {s : State} (h2 : e2Up s = true) (hpin : flag F.OBJ_STATUS_CAL_EN s = false) :
    exec .calEnRise s = .next (raise F.OBJ_CAUSE_SEAL_OPEN (calEvent true false (put F.OBJ_STATUS_CAL_EN 1 s))) :=
  (onlyIf_of_true (by simp [h2, hpin]) _ s : execCalEnRise s = _)

theorem exec_calEnRise_idle {s : State} (h : e2Up s = false ∨ flag F.OBJ_STATUS_CAL_EN s = true) : exec .calEnRise s = .next s :=
  (onlyIf_of_false (by obtain h | h := h <;> simp [h]) _ s : execCalEnRise s = _)

theorem exec_calEnFall_idle {s : State} (h : e2Up s = false ∨ flag F.OBJ_STATUS_CAL_EN s = false) : exec .calEnFall s = .next s :=
  (onlyIf_of_false (by obtain h | h := h <;> simp [h]) _ s : execCalEnFall s = _)

/-! METROLOGY sessions (R237) -/

/-- The session of interface `i` closed where it is METROLOGY's. -/
def closeMetrology (s : State) (i : Nat) : State :=
  if sessState i s = 2 ∧ get (F.OBJ_SESS_ROLE i) s = 5 then closeSession i s else s

/-- The fields that a session's close touches. -/
def closeFlds (i : Nat) : List Fld := sessFlds i ++ [F.OBJ_CAUSE_SESS_CLOSE, F.INT_HOST_PEND_PEND]

section
variable {i : Nat} {s : State} (hs : sparseWf (0 : Word) s.regs = true)
include hs

theorem touches_closeMetrology (i : Nat) : Touches (closeFlds i) s.regs (closeMetrology s i).regs := by
  unfold closeMetrology
  split
  next h =>
    rw [closeSession_of_open h.1]
    exact ((touches_endSession hs i).mono (List.subset_append_left _ _)).raise (by simp) (by simp) rfl rfl
  · exact .refl hs

theorem not_metrologyOpen_closeMetrology (hi : i < 7) : ¬ MetrologyOpen i (closeMetrology s i) := by
  unfold closeMetrology
  split
  next h =>
    rintro ⟨hopen, -⟩
    rw [(closeSession_open_spec hs hi h.1).1] at hopen
    exact absurd hopen (by decide)
  next h => exact h

/-- The sessions of the other interfaces stay as they are. -/
theorem metrologyOpen_closeMetrology {j : Nat} (hj : j < 7) (hne : i ≠ j) : MetrologyOpen j (closeMetrology s i) ↔ MetrologyOpen j s := by
  have happart : ∀ lo width, ∀ f ∈ closeFlds i, f.apart ⟨R.OBJ_SESS j, lo, width⟩ = true := fun lo width f hf => by
    refine Fld.apart_of_addr ?_
    simp only [closeFlds, sessFlds, List.mem_append, List.mem_cons, List.not_mem_nil, or_false] at hf
    obtain (rfl | rfl | rfl) | rfl | rfl := hf
    all_goals
      dsimp only [R.OBJ_SESS, R.OBJ_STATUS, R.OBJ_CAUSE, R.INT_HOST_PEND]
      omega
  have htouch := touches_closeMetrology hs i
  unfold MetrologyOpen
  rw [show sessState j (closeMetrology s i) = sessState j s from htouch.get (happart _ _), htouch.get (happart 0 3)]

end

/-- Once the list has been gone through, no METROLOGY session of its interfaces is open. -/
theorem not_metrologyOpen_foldl {j : Nat} (hj : j < 7) {l : List Nat} {s : State} (hs : sparseWf (0 : Word) s.regs = true)
    (h : j ∈ l ∨ ¬ MetrologyOpen j s) : ¬ MetrologyOpen j (l.foldl closeMetrology s) := by
  induction l generalizing s with
  | nil => exact h.resolve_left (List.not_mem_nil)
  | cons i l ih =>
    refine ih (touches_closeMetrology hs i).wf ?_
    by_cases hij : i = j
    · exact .inr (hij ▸ not_metrologyOpen_closeMetrology hs (hij ▸ hj))
    · rw [metrologyOpen_closeMetrology hs hj hij]
      exact h.imp_left fun hmem => (List.mem_cons.mp hmem).resolve_left fun h => hij h.symm

theorem closeLegal_eq (s : State) : closeLegal s = (List.range 7).foldl closeMetrology s := by
  unfold closeLegal closeMetrology
  rfl

/-- The fields that the close of the METROLOGY sessions touches. -/
def closeLegalFlds : List Fld := (List.range 7).flatMap closeFlds

theorem touches_closeLegal {s : State} (hs : sparseWf (0 : Word) s.regs = true) : Touches closeLegalFlds s.regs (closeLegal s).regs :=
  closeLegal_eq s ▸ Touches.foldl (fun i hi _ ht => ht.trans
    ((touches_closeMetrology ht.wf i).mono fun _ hf => List.mem_flatMap.mpr ⟨i, hi, hf⟩)) (.refl hs)

/-! CAL_EN falls (R237) -/

/-- The fields that show the staged coefficients. -/
def stagedFlds : List Fld :=
  F.FLT_STATUS_DELAY_PENDING :: (List.range 8).flatMap fun n => [F.CNV_CHAN_GAIN_GAIN n, F.CNV_CHAN_OFS_OFS n, F.FLT_DELAY_DELAY n]

theorem stagedFlds_plain : ∀ f ∈ stagedFlds, f.inWord = true ∧ f.apart F.INT_HOST_PEND_PEND = true := by decide

/-- The staged values that are not committed reverted, where there are such. -/
def revertStaged (s : State) : State :=
  if !(commitEntries s).isEmpty then
    let s := (List.range 8).foldl (fun s n => unstage n s) s
    put F.FLT_STATUS_DELAY_PENDING (b2n (delayWaits s)) s
  else s

theorem touches_revertStaged {s : State} (hs : sparseWf (0 : Word) s.regs = true) : Touches stagedFlds s.regs (revertStaged s).regs := by
  have hput : ∀ {t : State} (f : Fld) (v : Nat), Touches stagedFlds s.regs t.regs → f ∈ stagedFlds →
      Touches stagedFlds s.regs (put f v t).regs := fun f v ht hf => ht.put hf (stagedFlds_plain f hf).1 (stagedFlds_plain f hf).2
  unfold revertStaged
  split
  · refine hput _ _ (Touches.foldl (fun n hn t ht => ?_) (.refl hs)) (by decide)
    have hmem : ∀ f ∈ [F.CNV_CHAN_GAIN_GAIN n, F.CNV_CHAN_OFS_OFS n, F.FLT_DELAY_DELAY n], f ∈ stagedFlds := fun f hf =>
      List.mem_cons_of_mem _ (List.mem_flatMap.mpr ⟨n, hn, hf⟩)
    exact hput _ _ (hput _ _ (hput _ _ ht (hmem _ (by simp))) (hmem _ (by simp))) (hmem _ (by simp))
  · exact .refl hs

/-- The fall of the pin with its event and its cause, before the METROLOGY sessions close. -/
def sealClosed (s : State) : State :=
  raise F.OBJ_CAUSE_SEAL_CLOSE (calEvent false (!(commitEntries s).isEmpty) (put F.OBJ_STATUS_CAL_EN 0 (revertStaged s)))

theorem exec_calEnFall {s : State} (h2 : e2Up s = true) (hpin : flag F.OBJ_STATUS_CAL_EN s = true) :
    exec .calEnFall s = .next (closeLegal (sealClosed s)) :=
  (onlyIf_of_true (by simp [h2, hpin]) _ s : execCalEnFall s = _)

/-- CAL_EN falls: the pin shows, the cause is raised, and no METROLOGY session is open (R237). -/
theorem calEnFall_spec {s : State} (hs : sparseWf (0 : Word) s.regs = true) :
    get F.OBJ_STATUS_CAL_EN (closeLegal (sealClosed s)) = 0 ∧ Raised F.OBJ_CAUSE_SEAL_CLOSE s (closeLegal (sealClosed s)) ∧
      ∀ i, i < 7 → ¬ MetrologyOpen i (closeLegal (sealClosed s)) := by
  have hpin : sparseWf (0 : Word) (put F.OBJ_STATUS_CAL_EN 0 (revertStaged s)).regs = true := rput_wf _ _ _ (touches_revertStaged hs).wf
  have hevent := touches_legalEvent hpin 0x0108 0xFF [le 1 (b2n false) ++ le 1 (b2n !(commitEntries s).isEmpty) ++ zeros 6]
  have hset : Touches (stagedFlds ++ [F.OBJ_STATUS_CAL_EN, F.CIS_STATUS_DIRTY]) s.regs
      (calEvent false (!(commitEntries s).isEmpty) (put F.OBJ_STATUS_CAL_EN 0 (revertStaged s))).regs :=
    (((touches_revertStaged hs).mono (List.subset_append_left _ _)).put (by simp) rfl rfl).trans (hevent.mono (by simp))
  have hseal : sparseWf (0 : Word) (sealClosed s).regs = true := by
    rw [sealClosed, raise_regs]
    exact rraise_wf _ _ _ hset.wf
  have hclose := touches_closeLegal hseal
  have hraised : Raised F.OBJ_CAUSE_SEAL_CLOSE s (sealClosed s) := hset.raised rfl rfl (by decide) (by decide) (by decide)
  refine ⟨?_, hraised.touches hclose (by decide), fun i hi => ?_⟩
  · refine (hclose.get (by decide)).trans ((get_raise_apart hset.wf rfl rfl rfl).trans ((hevent.get (by decide)).trans ?_))
    exact get_put_same 0 (touches_revertStaged hs).wf rfl
  · rw [closeLegal_eq]
    exact not_metrologyOpen_foldl hi hseal (.inl (List.mem_range.mpr hi))

section
variable {i d rd' wr' ex : Nat} {x : Bool} {r : ObjReq} {wd : World} {s : State}

/-- A set value or method in session by a role that may is answered 6 where it names no method, else as its method answers (R228). -/
theorem callEffect_counted (hs : sparseWf (0 : Word) s.regs = true) (hin : inSess r = true)
    (hobj : objectFor (obisOf r) s = some (.device d, rd', wr', ex))
    (hbit : bit (if x then ex else wr') (get (F.OBJ_SESS_ROLE i) s) = true) :
    (Config.methodOf d (selOf r) (dataOf r) = none → callEffect x wd i r (countRequest i s) = answerObject i 6 [] (countRequest i s)) ∧
      ∀ m, Config.methodOf d (selOf r) (dataOf r) = some m →
        callEffect x wd i r (countRequest i s) = answerMethod i (runMethod i d (dataOf r) m wd (countRequest i s)) := by
  rw [← roleFor_countRequest hs hin] at hbit
  rw [← objectFor_countRequest (i := i)] at hobj
  exact ⟨callEffect_noMethod hobj hbit, fun _ => callEffect_method hobj hbit⟩

/-- The clock's difference becomes the adjustment that waits; a difference of 0 makes the time valid (R179, R228). -/
theorem answerMethod_clock (data : List Byte) (z : Int) :
    (BitVec.ofInt 32 z ≠ 0#32 → answerMethod i (runMethod i 0 data (.clock z) wd s) =
        answerObject i 0 [] { s with bil := { s.bil with adj := some (signed 32 (BitVec.ofInt 32 z).toNat, 1, 0) } }) ∧
      answerMethod i (runMethod i 0 data (.clock 0) wd s) = answerObject i 0 [] (put F.SUP_RTC_STATUS_VALID 1 s) := by
  refine ⟨fun hne => ?_, rfl⟩
  have hz : z ≠ 0 := fun h => hne (by rw [h]; rfl)
  rw [← adjWrite_waits 1 0 hne]
  simp only [runMethod, hz, ne_eq, not_true_eq_false, if_false]
  rfl

/-- A password method leaves the record and the grants as `setPasswords` does, whatever the answer. -/
theorem answerMethod_passwords (data : List Byte) (b rp wp : Nat) :
    (answerMethod i (runMethod i 8 data (.passwords b rp wp) wd s)).cis = (setPasswords b rp wp s).2.cis :=
  answerObject_cis i _ _ _

end

/-- Settles O39: GET by its object and its key, SET and ACTION by their method after the request is counted, the signature's end, `CAL_EN`. -/
theorem objectRequests : Obligations.ObjectRequests := by
  unfold Obligations.ObjectRequests
  refine ⟨fun s i n rd' wr' ex r k hs h2 hr hop hin hsig hsel ha hobj hbit hk hlow hlen hmax => ?_,
    fun s i n rd' wr' ex r hs h2 hr hop hin hsig hsel ha hobj hbit hk => ?_,
    fun s i d r wd rd' wr' ex hs h2 hi hlen hr hop hin hok ha hobj hbit => ?_,
    fun s i r wd rd' wr' ex hs h2 hi hlen hr hop hin hok ha hobj hbit => ?_,
    fun s i rd' wr' ex r k e hs h2 hr hop hin hsig hsel ha hobj hbit hfind hfree hk hlow hlen hmax => ?_,
    fun s i r wd h2 hr _ hin ha hobj => ⟨fun hop => ?_, fun hop => ?_, fun hop => ?_⟩,
    fun s i r b rd' wr' ex hs h2 hr hop hin ha hobj hbit => ?_,
    fun s i r wd b rd' wr' ex hs h2 hr hop hin ha hobj hbit => ?_,
    fun s i d r wd rd' wr' ex hs h2 hi hlen hr hop hin hok ha hobj hbit => ?_,
    fun s i r wd rd' wr' ex hs h2 hi hlen hr hop hin hok ha hobj hbit => ?_,
    fun s i key bs hs h2 hsign => ?_,
    fun s h => exec_signDone_idle h,
    fun s hs h2 hpin => ⟨_, exec_calEnRise h2 hpin, calEnRise_spec hs rfl⟩,
    fun s h => exec_calEnRise_idle h,
    fun s h => exec_calEnFall_idle h,
    fun s hs h2 hpin => ⟨_, exec_calEnFall h2 hpin, calEnFall_spec hs.1⟩⟩
  · rw [exec_objGet_outside h2 hr ha hop hin, getEffect_bill hin hobj rfl hbit hsig hsel]
    obtain ⟨u, heq, hspec⟩ := taggedReading_tagged (i := i) hs hlow hlen hmax hk
    exact ⟨u, congrArg _ heq, hspec⟩
  · rw [exec_objGet_outside h2 hr ha hop hin, getEffect_bill hin hobj rfl hbit hsig hsel, taggedReading_untagged hk]
    exact ⟨_, rfl, get_put_same 1 hs.1 rfl, ((Chain.start hs.1).put (by simp) rfl).only⟩
  · obtain ⟨honly, hreq, hsess⟩ := countRequest_spec (i := i) hs.1 (hlen ▸ hi)
    obtain ⟨hnone, hmethod⟩ := callEffect_counted (x := false) (wd := wd) hs.1 hin hobj hbit
    have hcall := exec_objSet_inside (wd := wd) h2 hr ha hin hok hop
    exact ⟨_, honly, hreq, hsess, fun hm => hcall.trans (congrArg _ (hnone hm)), fun m hm => hcall.trans (congrArg _ (hmethod m hm))⟩
  · obtain ⟨honly, hreq, -⟩ := countRequest_spec (i := i) hs.1 (hlen ▸ hi)
    obtain ⟨-, hmethod⟩ := callEffect_counted (x := false) (wd := wd) hs.1 hin hobj hbit
    have hcall := exec_objSet_inside (wd := wd) h2 hr ha hin hok hop
    refine ⟨_, honly, hreq, fun z hm hz => ?_, fun hm => ?_⟩
    · rw [hcall, hmethod _ hm, (answerMethod_clock (dataOf r) z).1 hz]
    · rw [hcall, hmethod _ hm, (answerMethod_clock (dataOf r) 0).2]
  · rw [exec_objGet_outside h2 hr ha hop hin, getEffect_snapshot hin hobj rfl hbit hsig hsel hfind]
    exact ⟨_, rfl, signedReading_starts hs hlow hlen hmax hfree hk⟩
  · rw [exec_objGet_outside h2 hr ha hop hin, getEffect_unknown hobj]
  · rw [exec_objSet_outside h2 hr ha hop hin, callEffect_unknown hobj]
  · rw [exec_objAction_outside h2 hr ha hop hin, callEffect_unknown hobj]
  · rw [exec_objGet_outside h2 hr ha hop hin, getEffect_denied hin hobj hbit]
    exact ⟨_, rfl, denied_spec hs⟩
  · rw [exec_objSet_outside h2 hr ha hop hin, callEffect_denied hobj (by simpa [roleFor, hin] using hbit)]
    exact ⟨_, rfl, denied_spec hs⟩
  · obtain ⟨honly, hreq, hsess⟩ := countRequest_spec (i := i) hs.1 (hlen ▸ hi)
    obtain ⟨hnone, hmethod⟩ := callEffect_counted (x := true) (wd := wd) hs.1 hin hobj hbit
    have hcall := exec_objAction_inside (wd := wd) h2 hr ha hin hok hop
    exact ⟨_, honly, hreq, hsess, fun hm => hcall.trans (congrArg _ (hnone hm)), fun m hm => hcall.trans (congrArg _ (hmethod m hm))⟩
  · have hmethod := (callEffect_counted (x := true) (wd := wd) hs.1 hin hobj hbit).2
    refine ⟨_, exec_objAction_inside h2 hr ha hin hok hop, fun b rp wp hm hb hrp hwp => ?_⟩
    rw [hmethod _ hm, answerMethod_passwords]
    exact setPasswords_spec (s := countRequest i s) hb hrp hwp
  · have hended := touches_signEnded hs.1
    refine ⟨_, exec_signDone h2 hsign, be_length _ _, raise_obj _ _, hended.raised rfl rfl (by decide) (by decide) (by decide)⟩

end Sys2Proof.Machine
end

section
/-! SUPPORT. The abort of an update whose record names a pending slot (O40): `UPD_CTL` at its ABORT, and what it leaves of the record. -/
namespace Sys2Proof.Machine

/-- What a write of the update record leaves in its two copies (R217, R242). -/
theorem writeUpd_upd (f : UpdRec → UpdRec) (s : State) :
    (writeUpd f s).cis.b1.upd = writeCopy s.cis.b1.upd (f (updRec s)) := by
  unfold writeUpd showUpd
  simp

/-- An update that is dropped leaves its slot empty in the record, and no slot pending (R241). -/
theorem dropUpdate_upd (s : State) :
    (dropUpdate s).cis.b1.upd = writeCopy s.cis.b1.upd { setUpdSlot (updRegion s) 0 0 (updRec s) with pend := 2 } := by
  unfold dropUpdate
  rw [updObj_cis, writeUpd_upd]
  rfl

/-- ABORT of an update that no commit of bank 1 is awaited for drops it (R241). -/
theorem exec_updAbort_drops {m : Master} {w : Word} {s : State} (h : Writable m R.UPD_CTL s) (hkey : arg F.UPD_CTL_KEY w = 0x69)
    (hcmd : arg F.UPD_CTL_CMD w = 4) (hstate : 1 ≤ updState s ∧ updState s ≤ 4) (hwait : s.obj.actWait = false) :
    exec (.updAbort m w) s = .next (raise F.UPD_CAUSE_ABORTED (dropUpdate s)) := by
  refine (cmdWrite_of_writable _ h : execUpdAbort m w s = _).trans ?_
  simp [updCtlWrite, updCtl, updAbort, hkey, hcmd, hstate, hwait]

/-- An update that is being written while the record names slot A as pending. ACTIVATE alone writes a pending slot, and it waits for bank 1 then,
but no hypothesis of the statement excludes the record. -/
def pendingUpdate : State :=
  { st [(F.PMU_DOM_STATUS_ON, 2 ^ 5), (F.UPD_STATUS_STATE, 2)] with
    cis := { b1 := { upd := { a := some (0, { firstUpd with pend := 0 }) } } } }

/-- Refutes O40: an abort also takes the pending slot out of the record, so the record need not be the old one with its slot empty, where that
names a slot as pending (the clause on UPD_ABORT). -/
theorem not_updates : ¬ Obligations.Updates := by
  unfold Obligations.Updates
  rintro ⟨-, -, -, -, -, -, -, -, -, -, -, -, -, -, -, -, -, habort, -⟩
  have hmay : Writable (.engine 2) R.UPD_CTL pendingUpdate := by decide
  have hkey : arg F.UPD_CTL_KEY (wd [(F.UPD_CTL_KEY, 0x69), (F.UPD_CTL_CMD, 4)]) = 0x69 := by decide
  have hcmd : arg F.UPD_CTL_CMD (wd [(F.UPD_CTL_KEY, 0x69), (F.UPD_CTL_CMD, 4)]) = 4 := by decide
  have hstate : 1 ≤ updState pendingUpdate ∧ updState pendingUpdate ≤ 4 := by decide
  obtain ⟨t, hexec, -, -, -, -, hrec⟩ := habort pendingUpdate _ _ (by decide) hmay hkey hcmd hstate rfl
  obtain rfl := Host.Outcome.next.inj ((exec_updAbort_drops hmay hkey hcmd hstate rfl).symm.trans hexec)
  rw [raise_cis, dropUpdate_upd] at hrec
  exact absurd hrec (by decide)

end Sys2Proof.Machine
end
